-- ==== Sys2Proof/Word.lean ====
section
/-! DEFINITION. The words of the BYN4412's register space and the plain data types that every
other file uses: 32-bit registers, 64-bit table words, bytes, keyed maps in one canonical form, and
the name of a bit field of a register. -/

namespace Sys2Proof

/-- A 32-bit register of the register space (R417). -/
abbrev Word := BitVec 32

/-- A 64-bit word of an on-chip array (R22). -/
abbrev Word64 := BitVec 64

/-- A byte. -/
abbrev Byte := BitVec 8

/-- Sparse data by number: entries in strictly rising order of the key, none of them equal to what an
unlisted key reads as. The operations on it stand in `Machine/KMap.lean`. -/
abbrev KMap (α : Type) := List (Nat × α)

namespace Machine

/-- A bit field of a register: the register's byte address, the field's lowest bit and its width. -/
structure Fld where
  addr : Nat
  lo : Nat
  width : Nat
  deriving DecidableEq, Repr

/-- One row of the register summaries: where its registers stand, which of their bits software stores,
which start a command, which a read clears, and which are class D for which enable field (Table 0.3). -/
structure RegDesc where
  /-- address of the first register of the row -/
  base : Nat
  /-- distance between instances, and their number -/
  s1 : Nat := 0x1000000
  c1 : Nat := 1
  /-- distance between the registers of one instance, and their number -/
  s2 : Nat := 4
  c2 : Nat := 1
  /-- bits that a software write stores (RW, MW and CNT fields) -/
  wr : Nat := 0
  /-- bits that are command fields (CMD) -/
  cmd : Nat := 0
  /-- bits that are capture fields (CAP) -/
  cap : Nat := 0
  /-- bits that are counter fields (CNT) -/
  cnt : Nat := 0
  /-- bits that are write class D -/
  dcls : Nat := 0
  /-- the enable field that class D bits answer to, for instance 0; its address moves by `ownS` for each instance -/
  own : Option Fld := none
  ownS : Nat := 0
  /-- bits by which the enable field itself moves for each instance -/
  ownB : Nat := 0
  /-- a masked-write register (R430) -/
  mw : Bool := false
  /-- a pop-on-read register -/
  pop : Bool := false
  /-- bit 31 is a LOCK bit (R431) -/
  lock : Bool := false

end Machine

end Sys2Proof
end

