-- ==== Sys2Proof/Syntax.lean ====
section
/-! DEFINITION. The commands of the BYN4412: one constructor for each row of the opcode table, with the
operands the row's step needs. A command that writes a register carries the access port that wrote and
the 32-bit value. An event that the spec times carries what reaches the device from outside (levels,
words, frames, sensor readings); log entry 5 says how an event whose time the model does not count is
taken. -/

namespace Sys2Proof

/-- The sources of accesses (Table 17.3); each Requel sequencer is a port of its own (R418). -/
inductive Port where
  | spi | cmp | inband | loader
  | rql (n : Fin 8)
  | cue
  deriving DecidableEq, Repr

/-- The width of an access (R417). -/
inductive AccSize where
  | b8 | b16 | b32
  deriving DecidableEq, Repr

/-- The followers of media ticks (R18): the stream engine (CORE island), Anvil, a serial port. -/
inductive Consumer where
  | core | anv
  | sap (n : Fin 24)
  deriving DecidableEq, Repr

/-- A word on a crossing between islands (R12 to R15, R31): a tick word on its way to a consumer, or
an S64 sample word with its 4-bit residue between two islands of Table 18.22. -/
inductive Crossing where
  | tick (g : Fin 8) (c : Consumer)
  | sample (src dst : Nat) (handle : BitVec 16) (sidx w : BitVec 64) (res : Nat)
  deriving DecidableEq, Repr

/-- The lower retries of Table 1.17. -/
inductive RetryKind where
  | dram | csma | fabric
  deriving DecidableEq, Repr

/-- A read of HQnn_POP: its size, and whether the packet in progress stores a word in the same queue cycle (R408). -/
structure PopAt where
  size : AccSize := .b32
  store : Bool := false
  deriving DecidableEq, Repr

/-- A write of HQnn_WM: the word, and whether the packet in progress stores a word in the same queue cycle (R416). -/
structure WmWrite where
  word : Word
  store : Bool := false
  deriving DecidableEq, Repr

/-- A CMP transaction's 7-bit device address and its 24-bit register address (R424). -/
structure CmpAddr where
  dev : BitVec 7
  addr : BitVec 24
  deriving DecidableEq, Repr

/-- An SPI transaction (Table 17.2): the OP byte, the 24-bit address, COUNT, the write words, and the
first read item, if any, whose data was not ready as its first bit fell due (R422). -/
structure SpiXact where
  op : BitVec 8
  addr : BitVec 24
  count : Nat
  data : List Word
  late : Option Nat
  deriving DecidableEq, Repr


/-- What makes a network port faulted (R275, R278). -/
inductive PortFault where
  /-- the PCS has lost block lock or synchronisation -/
  | pcs
  /-- a local or a remote fault sequence is received -/
  | localFault | remoteFault
  /-- the in-band link bit is 0 -/
  | linkBit
  /-- Clause 37 has not completed, or completes; `rf` says that the partner's RF is not 0b00 -/
  | autoNeg (rf : Bool)
  /-- half duplex is reported -/
  | halfDuplex
  /-- a speed is reported that the mode does not allow -/
  | badRate
  deriving DecidableEq, Repr

/-- The start delimiter of a received packet (R315): an express frame; a preemptable frame's start, whole or its
first fragment; a continuation fragment, with frame and fragment count, last or not. -/
inductive Smd where
  | express
  | start (count : Fin 4) (whole : Bool)
  | cont (count : Fin 4) (frag : Fin 4) (last : Bool)
  deriving DecidableEq, Repr

/-- What a network port receives: the bytes from the destination address to the last byte of the FCS (of a
fragment, its own bytes without the mCRC), whether a PCS error fell in it, its start delimiter, the raw ingress
timestamp as a time-base value in 2^-16 ns, and the size of the steps of the time base since that instant. -/
structure RxFrame where
  bytes : List (BitVec 8)
  pcsErr : Bool
  smd : Smd
  ts : Int
  steps : Int
  deriving DecidableEq, Repr

/-- What the stage bus port receives: the bytes from the destination address to the last byte of the FCS, and whether a PCS error
fell in the frame (R349). -/
structure T1sRx where
  bytes : List (BitVec 8)
  pcsErr : Bool := false
  deriving DecidableEq, Repr

/-- What a shadow check that completes with a job finds (R226): none ran; both results agree; they differ, and a third
run, if the other spare made one, shows that the working lane (`true`) or the spare (`false`) disagrees. -/
inductive Shadow where
  | none
  | agree
  | differ (third : Option Bool)
  deriving DecidableEq, Repr

/-- Who made a read of external memory (R548): a DDELAY or PLAY job, or the staging of a deep receive context. -/
inductive DramReader where
  | job (bank : Fin 2) (entry : Fin 32768)
  | staging (c : Fin 512)
  deriving DecidableEq, Repr

/-- A bank that fails its retention check at a Dawn (R469): the flop bank of a block, by its code in Table 17.4 and its
port where it has one, or a sub-bank of an on-chip array (Table 18.21). -/
inductive Bank where
  | flop (block inst : Nat)
  | sram (array sub : Nat)
  deriving DecidableEq, Repr

/-- A CMP address byte that comes while CORE is not ON: the 7-bit device address, and the banks that fail at a Dawn it starts
(R426, R469). -/
structure CmpByte where
  dev : BitVec 7
  bad : List Bank := []
  deriving DecidableEq, Repr

/-- What meets a Dusk that is to start (R460, R472): nothing; a wake of the domain in the same cycle; or before the
commit a wake, or with no source a failure of the idle condition. The source is that of Table 19.4. -/
inductive Woken where
  | none
  | same (src : Fin 8)
  | before (src : Option (Fin 8))
  deriving DecidableEq, Repr

/-- What meets a write from outside the register space: a wake
in the way of a Dusk (R460, R472), the banks that fail at a Dawn (R469), a fall of SYSPLL_LOCK in the cycle of a clock switch
(R448), and the last step of a life-cycle change made before the next reset (R516). -/
structure Meets where
  woken : Woken := .none
  bad : List Bank := []
  unlock : Bool := false
  reached : Nat := 5
  deriving DecidableEq, Repr

/-- What the serial flash holds (Table 21.4): whether it answers, the two image slots from their offset 0, and the two
copies of the repair record. Bytes beyond a list read 0xFF. -/
structure Nvm where
  responds : Bool := false
  slotA : List (BitVec 8) := []
  slotB : List (BitVec 8) := []
  rec0 : List (BitVec 8) := []
  rec1 : List (BitVec 8) := []
  deriving DecidableEq, Repr

/-- What BIST finds in a sub-bank (R525): its faulty cells by row and column, which of spare rows 0 and 1 are good, and how
many spare columns are. -/
structure BistBank where
  array : Nat
  sub : Nat
  cells : List (Nat × Nat)
  good0 : Bool
  good1 : Bool
  cols : Nat
  deriving DecidableEq, Repr

/-- What a cold start finds in the silicon and on the balls (R450, R493): silicon step and grade, straps, the core voltage code, the sub-banks in
which BIST finds faults, the lanes that fail it, the flash if its content has changed, and a byte of the image that the
apply pass reads otherwise than the verification pass did (R504). -/
structure StartInfo where
  step : BitVec 8
  grade : Bool
  haloRole : Bool
  bootSel : Fin 4
  cmpAsel : Fin 4
  avs : BitVec 10
  bist : List BistBank
  lanes : List (Fin 34)
  nvm : Option Nvm
  reread : Option (Nat × BitVec 8)
  deriving DecidableEq, Repr

/-- Conditions of network port `port` that end together (R275, R279). -/
structure FaultEnd where
  port : Fin 4
  ended : List PortFault
  deriving DecidableEq, Repr

/-- The commands, one for each row of the opcode table: those with operands first, then those without. -/
inductive Instr where
  /-- TICK_ISSUE (R106). -/
  | tickIssue (g : Fin 8)
  /-- TICK_HOLD_SEND (R17). -/
  | tickHoldSend (g : Fin 8) (c : Consumer)
  /-- CROSSING_WORD_DELIVER (R13). -/
  | crossingWordDeliver (x : Crossing)
  /-- TICK_WORD (R18). -/
  | tickWord (g : Fin 8) (c : Consumer)
  /-- CAPTURE_READ (R37). -/
  | captureRead (p : Port) (addr : BitVec 24) (size : AccSize)
  /-- WIN_PAGE_WRITE (R24). -/
  | winPageWrite (p : Port) (v : Word)
  /-- WINDOW_WRITE_LOWER (R22). -/
  | windowWriteLower (p : Port) (addr : BitVec 24) (v : Word)
  /-- WINDOW_WRITE_UPPER (R22). -/
  | windowWriteUpper (p : Port) (addr : BitVec 24) (v : Word)
  /-- WINDOW_READ_LOWER (R22). -/
  | windowReadLower (p : Port) (addr : BitVec 24) (size : AccSize)
  /-- PAIR_LOW_READ (R418). -/
  | pairLowRead (p : Port) (addr : BitVec 24) (size : AccSize)
  /-- DEADLINE_CANCEL (R38). -/
  | deadlineCancel (k : RetryKind) (tag : Nat)
  /-- LATE_RESULT_DISCARD (R39). -/
  | lateResultDiscard (k : RetryKind) (tag : Nat)
  /-- TIME_ADDEND_L_WRITE (R42). -/
  | timeAddendLWrite (p : Port) (v : Word)
  /-- TIME_ADDEND_H_WRITE (R42). -/
  | timeAddendHWrite (p : Port) (v : Word)
  /-- TIME_SET (R46). -/
  | timeSet (p : Port) (v : Word)
  /-- TIME_CTL_STEP (R47). -/
  | timeCtlStep (p : Port) (v : Word)
  /-- TIME_NOW_READ (R45). -/
  | timeNowRead (p : Port) (size : AccSize)
  /-- FT64_READ (R45). -/
  | ft64Read (p : Port) (size : AccSize)
  /-- STEP_SIZE_READ (R48). -/
  | stepSizeRead (p : Port) (size : AccSize)
  /-- TCMP_ARM (R64). -/
  | tcmpArm (n : Fin 64) (p : Port) (v : Word)
  /-- TCMP_DISARM (R64). -/
  | tcmpDisarm (n : Fin 64) (p : Port) (v : Word)
  /-- TCMP_FIRE (R62). -/
  | tcmpFire (n : Fin 64)
  /-- TCAP_EDGE (R68). -/
  | tcapEdge (n : Fin 16) (rising : Bool)
  /-- TCAP_POP (R69). -/
  | tcapPop (n : Fin 16) (p : Port) (v : Word)
  /-- TCAP_READ (R69). -/
  | tcapRead (n : Fin 16) (p : Port) (size : AccSize)
  /-- TCAP_DISABLE (R69). -/
  | tcapDisable (n : Fin 16) (p : Port) (v : Word)
  /-- CLK10M_WINDOW (R71). -/
  | clk10mWindow (freq : Int)
  /-- PPS_OUT_ENABLE (R72). -/
  | ppsOutEnable (p : Port) (v : Word)
  /-- PPS_OUT_DISABLE (R72). -/
  | ppsOutDisable (p : Port) (v : Word)
  /-- PTP_DOMAIN_ENABLE (R74). -/
  | ptpDomainEnable (i : Fin 4) (p : Port) (v : Word)
  /-- PTP_DOMAIN_DISABLE (R74). -/
  | ptpDomainDisable (i : Fin 4) (p : Port) (v : Word)
  /-- PTP_MESSAGE_HELD (R485). -/
  | ptpMessageHeld (delay : Option Int)
  /-- PTP_MEASUREMENT (R83). -/
  | ptpMeasurement (i n : Fin 4) (t1 t2 cf followUp : Int)
  /-- SERVO_SOURCE_LOST (R85). -/
  | servoSourceLost (i : Fin 4)
  /-- SERVO_HOLD_EXPIRY (R85). -/
  | servoHoldExpiry (i : Fin 4)
  /-- ANNOUNCE_INTERVAL (R80). -/
  | announceInterval (i : Fin 4)
  /-- ANNOUNCE_RECEIPT_TIMEOUT (R79). -/
  | announceReceiptTimeout (i n : Fin 4)
  /-- DELAY_REQ_DUE (R82). -/
  | delayReqDue (i n : Fin 4)
  /-- GM_DISABLE (R95). -/
  | gmDisable (p : Port) (v : Word)
  /-- TOD_LOAD (R96). -/
  | todLoad (p : Port) (v : Word)
  /-- MCG_ENABLE (R104). -/
  | mcgEnable (n : Fin 8) (p : Port) (v : Word)
  /-- MCG_DISABLE (R110). -/
  | mcgDisable (n : Fin 8) (p : Port) (v : Word)
  /-- MCG_SRC_WRITE (R105). -/
  | mcgSrcWrite (n : Fin 8) (p : Port) (v : Word)
  /-- MCG_PHASE_MEASURE (R110). -/
  | mcgPhaseMeasure (n : Fin 8) (err freq : Int)
  /-- MCG_SOURCE_LOSS (R103). -/
  | mcgSourceLoss (n : Fin 8)
  /-- MCG_SOURCE_QUALIFIED (R103). -/
  | mcgSourceQualified (n : Fin 8)
  /-- MCG_FREE (R110). -/
  | mcgFree (n : Fin 8)
  /-- MCG_JUMP_TICK (R114). -/
  | mcgJumpTick (n : Fin 8)
  /-- MCLK_ENABLE (R116). -/
  | mclkEnable (n : Fin 8) (p : Port) (v : Word)
  /-- STX_ENABLE (R135). -/
  | stxEnable (p : Port) (v : Word)
  /-- STX_DISABLE (R158). -/
  | stxDisable (p : Port) (v : Word)
  /-- STX_MUTE (R159). -/
  | stxMute (p : Port) (v : Word)
  /-- STX_UNMUTE (R159). -/
  | stxUnmute (p : Port) (v : Word)
  /-- STX_QUEUED_CMD (R140). -/
  | stxQueuedCmd (tx : Bool)
  /-- PACKET_EMIT (R148). -/
  | packetEmit (c : Fin 512)
  /-- SRX_ENABLE (R135). -/
  | srxEnable (p : Port) (v : Word)
  /-- SRX_DISABLE (R189). -/
  | srxDisable (p : Port) (v : Word)
  /-- SRX_MUTE (R188). -/
  | srxMute (p : Port) (v : Word)
  /-- SRX_UNMUTE (R188). -/
  | srxUnmute (p : Port) (v : Word)
  /-- STREAM_LOSS_TIMEOUT (R182). -/
  | streamLossTimeout (c : Fin 512)
  /-- GRP_WAIT_EXPIRY (R184). -/
  | grpWaitExpiry (grp : BitVec 8) (realign : Bool)
  /-- DEEP_STAGING_COPY (R176). -/
  | deepStagingCopy (c : Fin 512)
  /-- CRF_CONCEAL_TIMEOUT (R190). -/
  | crfConcealTimeout (c : Fin 512)
  /-- ANV_ENABLE (R217). -/
  | anvEnable (p : Port) (v : Word)
  /-- ANV_DISABLE (R218). -/
  | anvDisable (p : Port) (v : Word)
  /-- SCENE_SWAP (R220). -/
  | sceneSwap (p : Port) (v : Word)
  /-- SCENE_CANCEL (R222). -/
  | sceneCancel (p : Port) (v : Word)
  /-- JOB_COMMIT (R197). -/
  | jobCommit (lane : Fin 34) (k : Shadow)
  /-- LANE_RESIDUE_FAULT (R224). -/
  | laneResidueFault (lane : Fin 34) (slack : Bool)
  /-- JOB_DEADLINE_MISS (R247). -/
  | jobDeadlineMiss (bank : Fin 2) (entry : Fin 32768)
  /-- DRAM_READ_RETURN (R209). -/
  | dramReadReturn (bank : Fin 2) (entry : Fin 32768) (ce : Option (Nat × Nat × Nat))
  /-- SENSOR_SAMPLE (R235). -/
  | sensorSample (rs : List Int)
  /-- SAP_ENABLE (R258). -/
  | sapEnable (n : Fin 24) (p : Port) (v : Word)
  /-- SAP_DISABLE (R272). -/
  | sapDisable (n : Fin 24) (p : Port) (v : Word)
  /-- SAP_FRAME (R269). -/
  | sapFrame (n : Fin 24) (ws : BitVec 65) (lanes : List (BitVec 65)) (ratio : Nat) (drift : Bool)
  /-- SLOT_MASK_WRITE (R263). -/
  | slotMaskWrite (n : Fin 24) (p : Port) (v : Word)
  /-- SLOT_MASK_APPLY (R263). -/
  | slotMaskApply (n : Fin 24)
  /-- SAP_CH_START (R266). -/
  | sapChStart (n : Fin 24) (p : Port) (v : Word)
  /-- SAP_CH_STOP (R266). -/
  | sapChStop (n : Fin 24) (p : Port) (v : Word)
  /-- SAP_CH_MUTE (R266). -/
  | sapChMute (n : Fin 24) (p : Port) (v : Word)
  /-- SAP_CH_UNMUTE (R266). -/
  | sapChUnmute (n : Fin 24) (p : Port) (v : Word)
  /-- ZERO_CROSSING (R266). -/
  | zeroCrossing (n : Fin 24) (c : Fin 16)
  /-- ZC_TIMEOUT (R267). -/
  | zcTimeout (n : Fin 24) (c : Fin 16)
  /-- ASRC_LOCK (R262). -/
  | asrcLock (n : Fin 24) (ratio : Nat)
  /-- SAP_CLK_LOSS (R270). -/
  | sapClkLoss (n : Fin 24)
  /-- NET_ENABLE (R277). -/
  | netEnable (n : Fin 4) (p : Port) (v : Word)
  /-- NET_DISABLE (R299). -/
  | netDisable (n : Fin 4) (p : Port) (v : Word)
  /-- SERDES_LOCK (R276). -/
  | serdesLock (n : Fin 4) (p : Port) (v : Word)
  /-- LINK_DOWN (R278). -/
  | linkDown (n : Fin 4) (rx : Bool)
  /-- LINK_UP (R278). -/
  | linkUp (n : Fin 4) (reported : Nat)
  /-- FRAME_RECEIVE (R283). -/
  | frameReceive (n : Fin 4) (f : RxFrame) (lpi : Nat)
  /-- FRAME_TX_START (R302). -/
  | frameTxStart (n : Fin 4) (ns : Int) (frac : BitVec 16)
  /-- FRAME_TX_COMPLETE (R293). -/
  | frameTxComplete (n : Fin 5)
  /-- NET_SNAP (R294). -/
  | netSnap (p : Port) (v : Word)
  /-- MDIO_C22_WRITE (R297). -/
  | mdioC22Write (p : Port) (v : Word)
  /-- MDIO_C22_READ (R297). -/
  | mdioC22Read (p : Port) (v : Word)
  /-- MDIO_C45_WRITE (R297). -/
  | mdioC45Write (p : Port) (v : Word)
  /-- MDIO_C45_READ (R297). -/
  | mdioC45Read (p : Port) (v : Word)
  /-- MDIO_C45_READ_INC (R297). -/
  | mdioC45ReadInc (p : Port) (v : Word)
  /-- MDIO_C45_ADDRESS (R297). -/
  | mdioC45Address (p : Port) (v : Word)
  /-- MDIO_DONE (R298). -/
  | mdioDone (resp : Bool) (v : BitVec 16)
  /-- GATE_ENABLE (R305). -/
  | gateEnable (n : Fin 4) (p : Port) (v : Word)
  /-- GATE_DISABLE (R306). -/
  | gateDisable (n : Fin 4) (p : Port) (v : Word)
  /-- GATE_ENTRY_END (R306). -/
  | gateEntryEnd (n : Fin 4)
  /-- VERIFY_FRAME (R314). -/
  | verifyFrame (n : Fin 4)
  /-- RESPOND_FRAME (R314). -/
  | respondFrame (n : Fin 4)
  /-- VERIFY_TIMEOUT (R314). -/
  | verifyTimeout (n : Fin 4)
  /-- PAUSE_EXPIRY (R317). -/
  | pauseExpiry (n : Fin 4)
  /-- PAUSE_TX_SEND (R319). -/
  | pauseTxSend (n : Fin 4) (p : Port) (v : Word)
  /-- MIO_ENABLE (R347). -/
  | mioEnable (p : Port) (v : Word)
  /-- MIO_DISABLE (R347). -/
  | mioDisable (p : Port) (v : Word)
  /-- MIO_TBL_WRITE (R330). -/
  | mioTblWrite (p : Port) (v : Word)
  /-- MIO_TBL_READ (R330). -/
  | mioTblRead (p : Port) (v : Word)
  /-- MIO_TBL_INVALIDATE (R330). -/
  | mioTblInvalidate (p : Port) (v : Word)
  /-- CHAIN_PORT_LOSS (R333). -/
  | chainPortLoss (n : Fin 4)
  /-- NO_PEER_TIMEOUT (R325). -/
  | noPeerTimeout (n : Fin 4)
  /-- NODE_TIMEOUT (R334). -/
  | nodeTimeout (net : Fin 2) (mac : BitVec 48)
  /-- RING_TIMEOUT (R339). -/
  | ringTimeout (net : Fin 2)
  /-- RESTORE_TIMEOUT (R341). -/
  | restoreTimeout (n : Fin 4)
  /-- SEG_OVER_TIMEOUT (R335). -/
  | segOverTimeout (net : Fin 2)
  /-- ADDRESS_AGE (R328). -/
  | addressAge (i : Fin 16384)
  /-- MGMT_REQUEST (R343). -/
  | mgmtRequest (m : Meets) (early : Bool)
  /-- MIO_REQ_READ (R346). -/
  | mioReqRead (p : Port) (v : Word)
  /-- MIO_REQ_WRITE (R346). -/
  | mioReqWrite (p : Port) (v : Word)
  /-- MIO_REQ_INBOX (R346). -/
  | mioReqInbox (p : Port) (v : Word)
  /-- T1S_ENABLE (R353). -/
  | t1sEnable (p : Port) (v : Word)
  /-- T1S_FRAME_RECEIVE (R349). -/
  | t1sFrameReceive (f : T1sRx)
  /-- TRANSMIT_OPPORTUNITY (R352). -/
  | transmitOpportunity (further : Bool)
  /-- COLLISION (R354). -/
  | collision (late : Bool) (r : BitVec 16)
  /-- CUE_ENABLE (R378). -/
  | cueEnable (p : Port) (v : Word)
  /-- CUE_DISABLE (R378). -/
  | cueDisable (p : Port) (v : Word)
  /-- CUE_PIN_EDGE (R359). -/
  | cuePinEdge (k : Fin 16) (level : Bool)
  /-- CUE_GO (R359). -/
  | cueGo (p : Port) (v : Word)
  /-- CUE_TBL_WRITE (R379). -/
  | cueTblWrite (p : Port) (v : Word)
  /-- CUE_TBL_READ (R379). -/
  | cueTblRead (p : Port) (v : Word)
  /-- CUE_TBL_ARM (R379). -/
  | cueTblArm (p : Port) (v : Word)
  /-- CUE_TBL_DISARM (R379). -/
  | cueTblDisarm (p : Port) (v : Word)
  /-- CUE_FRAME_DEADLINE (R363). -/
  | cueFrameDeadline (n : Nat)
  /-- CUE_PIN_DIR_WRITE (R368). -/
  | cuePinDirWrite (p : Port) (v : Word)
  /-- DMX_PORT_ENABLE (R369). -/
  | dmxPortEnable (q : Fin 4) (p : Port) (v : Word)
  /-- DMX_BREAK (R370). -/
  | dmxBreak (q : Fin 4)
  /-- LTC_IN_FRAME (R376). -/
  | ltcInFrame (rate h m sec f : Nat) (ub : Word) (broken : Bool)
  /-- HALO_ENABLE (R382). -/
  | haloEnable (p : Port) (v : Word)
  /-- HALO_DISABLE (R398). -/
  | haloDisable (p : Port) (v : Word)
  /-- WIRE_HEARTBEAT (R384). -/
  | wireHeartbeat (w : Nat)
  /-- HALO_SWITCH (R390). -/
  | haloSwitch (p : Port) (v : Word)
  /-- HALO_RECLAIM_NOW (R395). -/
  | haloReclaimNow (p : Port) (v : Word)
  /-- HALO_ROLE_LOCK (R380). -/
  | haloRoleLock (p : Port) (v : Word)
  /-- HQ_POP (R405). -/
  | hqPop (q : Fin 32) (p : Port) (x : PopAt)
  /-- HQ_FLUSH (R409). -/
  | hqFlush (q : Fin 32) (p : Port) (v : Word) (m : Meets)
  /-- HQ_FLUSH_COMPLETE (R409). -/
  | hqFlushComplete (q : Fin 32)
  /-- HQ_POINTER_MISMATCH (R410). -/
  | hqPointerMismatch (q : Fin 32)
  /-- HQ_WM_WRITE (R412). -/
  | hqWmWrite (q : Fin 32) (p : Port) (x : WmWrite)
  /-- FC_MAP_WRITE (R413). -/
  | fcMapWrite (hi : Bool) (p : Port) (v : Word)
  /-- HQ_ENABLE (R414). -/
  | hqEnable (q : Fin 32) (p : Port) (v : Word)
  /-- SPI_TRANSACTION (R421). -/
  | spiTransaction (m : Meets) (x : SpiXact)
  /-- SPI_ABORT (R423). -/
  | spiAbort (m : Meets) (x : SpiXact) (bytes itemsOut : Nat) (inStatus : Bool)
  /-- CMP_WRITE (R424). -/
  | cmpWrite (m : Meets) (addr : CmpAddr) (ws : List Word)
  /-- CMP_READ (R424). -/
  | cmpRead (m : Meets) (addr : CmpAddr) (n : Nat)
  /-- CMP_ABORT (R424). -/
  | cmpAbort (m : Meets) (addr : CmpAddr) (ws : List Word)
  /-- REGISTER_WRITE (R419). -/
  | registerWrite (m : Meets) (p : Port) (addr : BitVec 24) (size : AccSize) (v : Word)
  /-- IGN_REC_POP (R429). -/
  | ignRecPop (p : Port)
  /-- MBX_DATA_WRITE (R437). -/
  | mbxDataWrite (p : Port) (v : Word)
  /-- MBX_POST (R437). -/
  | mbxPost (p : Port) (v : Word)
  /-- MBX_CLEAR (R437). -/
  | mbxClear (p : Port) (v : Word)
  /-- WDOG_KICK (R444). -/
  | wdogKick (p : Port) (v : Word)
  /-- CLK_SWITCH (R447). -/
  | clkSwitch (m : Meets) (p : Port) (v : Word)
  /-- TPLL_LOCK (R447). -/
  | tpllLock (cycles : Nat)
  /-- PWR_REQ_WRITE (R456). -/
  | pwrReqWrite (k : Fin 15) (m : Meets) (p : Port) (v : Word)
  /-- IDLE_TIMER_EXPIRY (R457). -/
  | idleTimerExpiry (k : Fin 15) (w : Woken)
  /-- CMP_WAKE (R426). -/
  | cmpWake (x : CmpByte)
  /-- LINK_ENERGY (R463). -/
  | linkEnergy (n : Fin 4) (bad : List Bank)
  /-- T1S_LINK_ENERGY (R463). -/
  | t1sLinkEnergy (bad : List Bank)
  /-- WAKE_FRAME (R465). -/
  | wakeFrame (bad : List Bank)
  /-- RQL_ENABLE (R482). -/
  | rqlEnable (n : Fin 8) (p : Port) (v : Word)
  /-- RQL_DISABLE (R482). -/
  | rqlDisable (n : Fin 8) (p : Port) (v : Word)
  /-- RQL_EVT_INJ (R475). -/
  | rqlEvtInj (n : Fin 8) (p : Port) (v : Word)
  /-- RQL_STEP (R476). -/
  | rqlStep (m : Meets) (n : Fin 8) (time : Option Nat)
  /-- RQL_TIMER_EXPIRY (R480). -/
  | rqlTimerExpiry (n t : Fin 8)
  /-- RESET_RELEASE (R493). -/
  | resetRelease (x : StartInfo)
  /-- WAIT_SECTION_END (R506). -/
  | waitSectionEnd (timeout : Bool)
  /-- IMAGE_CLOCK_SWITCH (R507). -/
  | imageClockSwitch (timeout : Bool)
  /-- BOOT_CONFIRM (R508). -/
  | bootConfirm (p : Port) (v : Word)
  /-- BOOT_RESTART (R496). -/
  | bootRestart (p : Port) (v : Word)
  /-- BOOT_CLEAR_FAIL (R511). -/
  | bootClearFail (p : Port) (v : Word)
  /-- NVM_RELEASE (R512). -/
  | nvmRelease (p : Port) (v : Word) (content : Option Nvm)
  /-- LC_GO (R515). -/
  | lcGo (m : Meets) (p : Port) (v : Word)
  /-- LC_LOCK (R514). -/
  | lcLock (p : Port) (v : Word)
  /-- PROG_KEY (R518). -/
  | progKey (p : Port) (v : Word)
  /-- REVOKE (R518). -/
  | revoke (p : Port) (v : Word)
  /-- SCRUB_READ (R522). -/
  | scrubRead (array sub word : Nat) (err : Option (Bool × BitVec 8))
  /-- ROW_MIGRATED (R529). -/
  | rowMigrated (array sub row : Nat)
  /-- TRACKER_ENTRY_EXPIRY (R528). -/
  | trackerEntryExpiry (array sub row : Nat)
  /-- REPAIR_WRITEBACK_DONE (R533). -/
  | repairWritebackDone (ok : Bool)
  /-- FATAL_LOG_CLR (R536). -/
  | fatalLogClr (p : Port) (v : Word)
  /-- INJ_ARM (R537). -/
  | injArm (p : Port) (v : Word)
  /-- DDR_ENABLE (R541). -/
  | ddrEnable (p : Port) (v : Word)
  /-- DDR_DISABLE (R553). -/
  | ddrDisable (p : Port) (v : Word)
  /-- DDR_TRAINING_DONE (R542). -/
  | ddrTrainingDone (result : Fin 3)
  /-- DDR_READ_FAIL (R550). -/
  | ddrReadFail (who : DramReader) (rank beat syndrome : Nat)
  /-- DDR_PATROL_READ (R524). -/
  | ddrPatrolRead (rank beat : Nat) (err : Option (Bool × Nat))
  /-- HOTSWAP_LOAD_RESUME (R519). -/
  | hotswapLoadResume (reread : Option (Nat × BitVec 8))
  /-- PORT_FAULTED (R278). -/
  | portFaulted (n : Fin 4) (c : PortFault)
  /-- PORT_FAULT_CLEARED (R278). -/
  | portFaultCleared (e : FaultEnd)
  /-- HEARTBEAT_PATH_SILENT (R387). -/
  | heartbeatPathSilent (path : Option (Fin 4))
  /-- HALO_PACT_CHANGE (R393). -/
  | haloPactChange (level : Bool)
  /-- SYNC_DUE (R73). -/
  | syncDue (i n : Fin 4)
  /-- PPS_IN_EDGE (R70). -/
  | ppsInEdge
  /-- PPS_IN_LOS (R70). -/
  | ppsInLos
  /-- CLK10M_LOS (R71). -/
  | clk10mLos
  /-- PPS_OUT_PULSE_END (R72). -/
  | ppsOutPulseEnd
  /-- GOVERNING_CHANGE (R92). -/
  | governingChange
  /-- STREAM_COPY (R165). -/
  | streamCopy
  /-- BLOCK_GATHER (R229). -/
  | blockGather
  /-- PAUSE_FRAME (R317). -/
  | pauseFrame
  /-- DISC_PERIOD (R332). -/
  | discPeriod
  /-- PROBE_PERIOD (R332). -/
  | probePeriod
  /-- DISC_RECEIVE (R334). -/
  | discReceive
  /-- PROBE_RECEIVE (R333). -/
  | probeReceive
  /-- TOPO_LINK_DOWN (R340). -/
  | topoLinkDown
  /-- TOPO_BREAK_SET (R341). -/
  | topoBreakSet
  /-- FNID_LISTEN_END (R336). -/
  | fnidListenEnd
  /-- FNID_CLAIM_END (R336). -/
  | fnidClaimEnd
  /-- MGMT_RESPONSE (R346). -/
  | mgmtResponse
  /-- MIO_REQ_RETX (R346). -/
  | mioReqRetx
  /-- MIO_REQ_TIMEOUT (R346). -/
  | mioReqTimeout
  /-- BEACON (R352). -/
  | beacon
  /-- BEACON_LOSS (R353). -/
  | beaconLoss
  /-- BACKOFF_END (R354). -/
  | backoffEnd
  /-- CUE_FIRE (R357). -/
  | cueFire
  /-- CUE_TRIGGER (R358). -/
  | cueTrigger
  /-- E131_PACKET (R373). -/
  | e131Packet
  /-- LTC_FRAME (R374). -/
  | ltcFrame
  /-- LTC_LOSS (R376). -/
  | ltcLoss
  /-- HEARTBEAT_DUE (R384). -/
  | heartbeatDue
  /-- HEARTBEAT_FRAME (R386). -/
  | heartbeatFrame
  /-- HALO_PARTNER_LOST (R387). -/
  | haloPartnerLost
  /-- HALO_INIT_TIMEOUT (R388). -/
  | haloInitTimeout
  /-- HALO_REQ_TIMEOUT (R390). -/
  | haloReqTimeout
  /-- RECLAIM_EXPIRY (R395). -/
  | reclaimExpiry
  /-- DETACH_TIMEOUT (R398). -/
  | detachTimeout
  /-- WDOG_EXPIRY (R444). -/
  | wdogExpiry
  /-- SYSPLL_LOCK (R447). -/
  | syspllLock
  /-- CLK_REF_LOSS (R448). -/
  | clkRefLoss
  /-- SYSPLL_UNLOCK (R448). -/
  | syspllUnlock
  /-- POWER_ON_RESET (R491). -/
  | powerOnReset
  /-- RESET_N_ASSERT (R491). -/
  | resetNAssert
  /-- REPAIR_WRITEBACK (R533). -/
  | repairWriteback
  /-- FATAL_ERROR (R536). -/
  | fatalError
  /-- DDR_REGION_READY (R547). -/
  | ddrRegionReady
  /-- DDR_WIPE_DONE (R547). -/
  | ddrWipeDone
  /-- DDR_ALERT (R552). -/
  | ddrAlert
  /-- HOTSWAP_ASSERT (R570). -/
  | hotswapAssert
  /-- HOTSWAP_GLITCH (R569). -/
  | hotswapGlitch
  /-- HOTSWAP_RELEASE (R571). -/
  | hotswapRelease
  /-- REFCLK_RETURN (R448). -/
  | refclkReturn
  /-- DEFER_END (R354). -/
  | deferEnd
  /-- POSTED_WRITE_DONE (R546). -/
  | postedWriteDone
  deriving DecidableEq, Repr

end Sys2Proof
end

