-- ==== Sys2Proof/Decode.lean ====
section
/-! DEFINITION. The decoder of command words. The opcode table of this block gives no row any bits: a command is a write or
a read of a register, a frame, an edge or a time reached, and no word spells it. So no word decodes. -/

namespace Sys2Proof

/-- The command that a word of `nbits` bits spells by the opcode table's bits: none, since no row has bits. -/
def decodeTableWord (_nbits _w : Nat) : Option Instr := none

end Sys2Proof
end

