-- ==== Sys2Proof/Config.lean ====
section
/-! DEFINITION. What an implementation of the BYN4412 fixes, and the values its manual leaves open. A
free value is an opaque constant applied to the model's own counter `Dev.free` or to operands: nothing
can be proved of it, so a claim holds whatever it is. -/

namespace Sys2Proof.Config

/-- A value the spec leaves open, drawn from the model's own counter (log entry 4). -/
opaque freeNat : Nat → Nat

/-- A signed value the spec leaves open, drawn from the model's own counter (log entry 4). -/
opaque freeInt : Nat → Int

/-- The error of a GEN sine, by SIDX, P and AMPL: below −100 dB of AMPL, and not stated otherwise (R213, log entry 4). -/
opaque sineError : Nat → Nat → Int → Nat

/-- What a rate converter makes of the samples about an instant, newest first, that lies a number of ns before the newest: the
spec bounds its passband, stopband and distortion, and states no sample (R261; log entry 185). -/
opaque asrc : List Int → Int → Int

/-- The length of the instruction register, and what its other opcodes select: 0 BYPASS, 1 SAMPLE, 2 PRELOAD, 3 EXTEST, and from 4
on a Gwynkaith test instruction. The spec gives neither (Table 0.2, Table 21.9; log entry 150). -/
opaque tapIrLength : Nat
opaque tapOpcode : List Bool → Nat

end Sys2Proof.Config
end

