-- ==== Sys2Proof/Machine/KMap.lean ====
section
/-! DEFINITION. Operations on keyed maps and on byte memories, each written once. A memory is a list
of cells in the same canonical form; a byte that nothing has written reads 0 (log entry 2). -/

namespace Sys2Proof.Machine

open Sys2Proof

/-- The value at key `i`, `z` where the key is not listed. -/
def kget {α : Type} (z : α) : KMap α → Nat → α
  | [], _ => z
  | (k, v) :: t, i => if i = k then v else kget z t i

/-- The map with an entry for key `i`, in its place by rising key. -/
def kput {α : Type} : KMap α → Nat → α → KMap α
  | [], i, v => [(i, v)]
  | (k, w) :: t, i, v =>
    if i < k then (i, v) :: (k, w) :: t
    else if i = k then (i, v) :: t
    else (k, w) :: kput t i v

/-- The map with `v` at key `i`; the canonical form is kept: `z` is not listed. -/
def kset {α : Type} [DecidableEq α] (z : α) (m : KMap α) (i : Nat) (v : α) : KMap α :=
  if v = z then m.filter fun e => decide (e.1 ≠ i) else kput m i v

/-- Every key of `m` is above `b`, the keys rise strictly and no entry equals `z`. -/
def kwfFrom {α : Type} [DecidableEq α] (z : α) : Nat → KMap α → Bool
  | _, [] => true
  | b, (k, v) :: t => decide (b ≤ k) && decide (v ≠ z) && kwfFrom z (k + 1) t

/-- The canonical form of a keyed map. -/
def kwf {α : Type} [DecidableEq α] (z : α) (m : KMap α) : Bool := kwfFrom z 0 m

/-- A byte memory: cells in rising order of the address, none of them zero. -/
abbrev Memory := List Host.Cell

/-- The canonical form of a byte memory. -/
abbrev Memory.wf (m : Memory) : Bool := kwf (0 : Byte) m

/-- The byte at an address. -/
def readByte (m : Memory) (a : Nat) : Byte := kget 0 m a

/-- The memory with one byte written. -/
def writeByte (m : Memory) (a : Nat) (b : Byte) : Memory := kset 0 m a b

/-- The `n` bytes from address `a`, lowest address first. -/
def readBytes (m : Memory) (a : Nat) : Nat → List Byte
  | 0 => []
  | n + 1 => readByte m a :: readBytes m (a + 1) n

/-- The memory with a list of bytes written from address `a` upwards. -/
def writeBytes (m : Memory) (a : Nat) : List Byte → Memory
  | [] => m
  | b :: t => writeBytes (writeByte m a b) (a + 1) t

/-- The little-endian value of a list of bytes: the first byte is bits [7:0]. -/
def leNat : List Byte → Nat
  | [] => 0
  | b :: t => b.toNat + 256 * leNat t

/-- The `n` bytes of a value, bits [7:0] first. -/
def leBytes : Nat → Nat → List Byte
  | 0, _ => []
  | n + 1, v => BitVec.ofNat 8 v :: leBytes n (v / 256)

/-- The big-endian value of a list of bytes: the first byte is the most significant. -/
def beNat (l : List Byte) : Nat := l.foldl (fun n b => 256 * n + b.toNat) 0

/-- The `n` bytes of a value, most significant first. -/
def beBytes (n v : Nat) : List Byte := (leBytes n v).reverse

/-- The 64-bit array word at byte address `a` (R22: the lower half is at the lower address; log entry 3
says that within a word bits [7:0] are the byte at the lowest address). -/
def readWord64 (m : Memory) (a : Nat) : Nat := leNat (readBytes m a 8)

/-- The memory with one 64-bit array word written (R22). -/
def writeWord64 (m : Memory) (a v : Nat) : Memory := writeBytes m a (leBytes 8 v)

/-- The 32-bit half word at byte address `a`. -/
def readWord32 (m : Memory) (a : Nat) : Nat := leNat (readBytes m a 4)

/-- Every byte from `a`, `n` of them, set to zero. -/
def clearBytes (m : Memory) (a n : Nat) : Memory := m.filter fun c => decide (c.1 < a ∨ a + n ≤ c.1)

end Sys2Proof.Machine
end

