-- ==== Sys2Proof/Machine/RegMapA.lean ====
section
/-! DEFINITION. The registers and fields of the blocks GLB, PWR, CLK, TIME, PTP, MCG, STX, SRX: addresses (`r…`), fields (`f…`) and the
rows of the block's register summaries, as the spec's summary and field tables give them. -/

namespace Sys2Proof.Machine

open Sys2Proof

/-! ## GLB -/

def rGLB_ID : Nat := 0x0
def fGLB_ID_PART : Fld := ⟨0x0, 16, 16⟩
def fGLB_ID_STEP : Fld := ⟨0x0, 8, 8⟩
def fGLB_ID_GRADE : Fld := ⟨0x0, 0, 1⟩
def rGLB_SCRATCH : Nat := 0x4
def rGLB_RESET_CAUSE : Nat := 0x8
def fGLB_RESET_CAUSE_WARM : Fld := ⟨0x8, 8, 1⟩
def fGLB_RESET_CAUSE_WDOG : Fld := ⟨0x8, 2, 1⟩
def fGLB_RESET_CAUSE_PIN : Fld := ⟨0x8, 1, 1⟩
def fGLB_RESET_CAUSE_POR : Fld := ⟨0x8, 0, 1⟩
def rGLB_LC_CTL : Nat := 0xC
def fGLB_LC_CTL_LOCK : Fld := ⟨0xC, 31, 1⟩
def fGLB_LC_CTL_STATE : Fld := ⟨0xC, 16, 2⟩
def fGLB_LC_CTL_GO : Fld := ⟨0xC, 8, 1⟩
def fGLB_LC_CTL_TARGET : Fld := ⟨0xC, 0, 2⟩
def rGLB_STS : Nat := 0x10
def fGLB_STS_BUSERR : Fld := ⟨0x10, 1, 1⟩
def fGLB_STS_IGN_PENDING : Fld := ⟨0x10, 0, 1⟩
def rGLB_IRQ_SRC : Nat := 0x20
def rGLB_IRQ_A_EN : Nat := 0x24
def rGLB_IRQ_B_EN : Nat := 0x28
def rGLB_WIN_PAGE : Nat := 0x40
def fGLB_WIN_PAGE_APAGE : Fld := ⟨0x40, 1, 1⟩
def fGLB_WIN_PAGE_TPAGE : Fld := ⟨0x40, 0, 1⟩
def rGLB_IGN_REC_L : Nat := 0x50
def fGLB_IGN_REC_L_VALID : Fld := ⟨0x50, 31, 1⟩
def fGLB_IGN_REC_L_PORT : Fld := ⟨0x50, 28, 3⟩
def fGLB_IGN_REC_L_ADDR : Fld := ⟨0x50, 0, 24⟩
def rGLB_IGN_REC_H : Nat := 0x54
def fGLB_IGN_REC_H_BLOCK : Fld := ⟨0x54, 16, 5⟩
def fGLB_IGN_REC_H_INST : Fld := ⟨0x54, 0, 9⟩
def rGLB_IGN_CNT : Nat := 0x58
def rGLB_IGN_OVF_CNT : Nat := 0x5C
def rGLB_BUSERR_LOG : Nat := 0x60
def fGLB_BUSERR_LOG_VALID : Fld := ⟨0x60, 31, 1⟩
def fGLB_BUSERR_LOG_PORT : Fld := ⟨0x60, 28, 3⟩
def fGLB_BUSERR_LOG_CODE : Fld := ⟨0x60, 24, 3⟩
def fGLB_BUSERR_LOG_ADDR : Fld := ⟨0x60, 0, 24⟩
def rGLB_BUSERR_CNT : Nat := 0x64
def rGLB_SPI_CFG : Nat := 0x70
def fGLB_SPI_CFG_WAIT : Fld := ⟨0x70, 0, 4⟩
def rGLB_SPI_ABORT_CNT : Nat := 0x74
def rGLB_CMP_ABORT_CNT : Nat := 0x78
def rGLB_MBX_DATA : Nat := 0x80
def rGLB_MBX_CMD : Nat := 0x84
def fGLB_MBX_CMD_OP : Fld := ⟨0x84, 28, 4⟩
def fGLB_MBX_CMD_LEN : Fld := ⟨0x84, 16, 9⟩
def fGLB_MBX_CMD_TAG : Fld := ⟨0x84, 0, 16⟩
def rGLB_MBX_STS : Nat := 0x88
def fGLB_MBX_STS_BUSY : Fld := ⟨0x88, 31, 1⟩
def fGLB_MBX_STS_REPLAY : Fld := ⟨0x88, 30, 1⟩
def fGLB_MBX_STS_RESULT : Fld := ⟨0x88, 28, 2⟩
def fGLB_MBX_STS_STAGED : Fld := ⟨0x88, 16, 9⟩
def fGLB_MBX_STS_TAG : Fld := ⟨0x88, 0, 16⟩
def rGLB_MBX_OVF_CNT : Nat := 0x8C
def rGLB_TICK_COAL_CNT : Nat := 0x90
def rGLB_TICK_DUP_CNT : Nat := 0x94
def rGLB_TICK_SLIP_CNT : Nat := 0x98
def rGLB_BADHDL_CNT : Nat := 0x9C
def rGLB_STAGE_DROP_CNT : Nat := 0xA0
def rGLB_WDOG_CFG : Nat := 0xB0
def fGLB_WDOG_CFG_EN : Fld := ⟨0xB0, 31, 1⟩
def fGLB_WDOG_CFG_TIMEOUT_MS : Fld := ⟨0xB0, 0, 16⟩
def rGLB_WDOG_KICK : Nat := 0xB4
def fGLB_WDOG_KICK_KEY : Fld := ⟨0xB4, 0, 16⟩
def rGLB_WDOG_LEFT : Nat := 0xB8
def fGLB_WDOG_LEFT_MS : Fld := ⟨0xB8, 0, 16⟩
def rGLB_WDOG_BADKEY_CNT : Nat := 0xBC
def rGLB_BOOT_STS : Nat := 0xC0
def fGLB_BOOT_STS_SAFE : Fld := ⟨0xC0, 31, 1⟩
def fGLB_BOOT_STS_SAFE_CAUSE : Fld := ⟨0xC0, 28, 3⟩
def fGLB_BOOT_STS_SLOT : Fld := ⟨0xC0, 24, 2⟩
def fGLB_BOOT_STS_CONFIRMED : Fld := ⟨0xC0, 20, 1⟩
def fGLB_BOOT_STS_FAIL_CNT : Fld := ⟨0xC0, 16, 2⟩
def fGLB_BOOT_STS_CMD_RESULT : Fld := ⟨0xC0, 12, 2⟩
def fGLB_BOOT_STS_START_KIND : Fld := ⟨0xC0, 8, 2⟩
def fGLB_BOOT_STS_STEP : Fld := ⟨0xC0, 0, 4⟩
def rGLB_BOOT_CMD : Nat := 0xC4
def fGLB_BOOT_CMD_OP : Fld := ⟨0xC4, 28, 4⟩
def rGLB_BOOT_LOG : Nat := 0xC8
def fGLB_BOOT_LOG_VALID : Fld := ⟨0xC8, 31, 1⟩
def fGLB_BOOT_LOG_SLOT : Fld := ⟨0xC8, 28, 2⟩
def fGLB_BOOT_LOG_CODE : Fld := ⟨0xC8, 24, 4⟩
def fGLB_BOOT_LOG_SECTION : Fld := ⟨0xC8, 0, 10⟩
def rGLB_IMG_SEQ : Nat := 0xCC
def rGLB_IMG_DIGESTk (n : Nat) : Nat := 0xD0 + 0x4 * n
def rGLB_BOOT_LOCKSKIP_CNT : Nat := 0xF0
def rGLB_NVM_CTL : Nat := 0xF4
def fGLB_NVM_CTL_RELEASE : Fld := ⟨0xF4, 0, 1⟩
def rGLB_LC_STS : Nat := 0xF8
def fGLB_LC_STS_RESULT : Fld := ⟨0xF8, 28, 2⟩
def fGLB_LC_STS_CODE : Fld := ⟨0xF8, 24, 4⟩
def fGLB_LC_STS_DRAM_SKIP : Fld := ⟨0xF8, 1, 1⟩
def fGLB_LC_STS_WIPE_BUSY : Fld := ⟨0xF8, 0, 1⟩
def rGLB_OTP_DATAk (n : Nat) : Nat := 0x100 + 0x4 * n
def rGLB_OTP_CMD : Nat := 0x120
def fGLB_OTP_CMD_OP : Fld := ⟨0x120, 28, 4⟩
def fGLB_OTP_CMD_SLOT : Fld := ⟨0x120, 0, 2⟩
def rGLB_OTP_STS : Nat := 0x124
def fGLB_OTP_STS_RESULT : Fld := ⟨0x124, 28, 2⟩
def fGLB_OTP_STS_CODE : Fld := ⟨0x124, 24, 4⟩
def fGLB_OTP_STS_SLOTS : Fld := ⟨0x124, 0, 8⟩

/-- Rows of the GLB register summary. -/
def regsGLB0 : List RegDesc := [
  { base := 0x0 },
  { base := 0x4, wr := 0xFFFFFFFF },
  { base := 0x8 },
  { base := 0xC, wr := 0x80000003, cmd := 0x100, lock := true },
  { base := 0x10 },
  { base := 0x20 },
  { base := 0x24, wr := 0xFFFFFFFF },
  { base := 0x28, wr := 0xFFFFFFFF },
  { base := 0x40, wr := 0x3 },
  { base := 0x50, pop := true },
  { base := 0x54 },
  { base := 0x58, wr := 0xFFFFFFFF, cnt := 0xFFFFFFFF },
  { base := 0x5C, wr := 0xFFFFFFFF, cnt := 0xFFFFFFFF },
  { base := 0x60, cap := 0xF7FFFFFF },
  { base := 0x64, wr := 0xFFFFFFFF, cnt := 0xFFFFFFFF },
  { base := 0x70, wr := 0xF },
  { base := 0x74, wr := 0xFFFFFFFF, cnt := 0xFFFFFFFF },
  { base := 0x78, wr := 0xFFFFFFFF, cnt := 0xFFFFFFFF },
  { base := 0x80 },
  { base := 0x84, wr := 0x1FFFFFF, cmd := 0xF0000000 },
  { base := 0x88 },
  { base := 0x8C, wr := 0xFFFFFFFF, cnt := 0xFFFFFFFF },
  { base := 0x90, wr := 0xFFFFFFFF, cnt := 0xFFFFFFFF },
  { base := 0x94, wr := 0xFFFFFFFF, cnt := 0xFFFFFFFF },
  { base := 0x98, wr := 0xFFFFFFFF, cnt := 0xFFFFFFFF },
  { base := 0x9C, wr := 0xFFFFFFFF, cnt := 0xFFFFFFFF },
  { base := 0xA0, wr := 0xFFFFFFFF, cnt := 0xFFFFFFFF },
  { base := 0xB0, wr := 0x8000FFFF },
  { base := 0xB4 },
  { base := 0xB8 },
  { base := 0xBC, wr := 0xFFFFFFFF, cnt := 0xFFFFFFFF },
  { base := 0xC0 },
  { base := 0xC4, cmd := 0xF0000000 },
  { base := 0xC8, cap := 0xBF0003FF },
  { base := 0xCC },
  { base := 0xD0, s1 := 0x4, c1 := 8 },
  { base := 0xF0, wr := 0xFFFFFFFF, cnt := 0xFFFFFFFF },
  { base := 0xF4, wr := 0x1 },
  { base := 0xF8 },
  { base := 0x100, s1 := 0x4, c1 := 8, wr := 0xFFFFFFFF }]

/-- Rows of the GLB register summary. -/
def regsGLB1 : List RegDesc := [
  { base := 0x120, wr := 0x3, cmd := 0xF0000000 },
  { base := 0x124 }]

/-- The GLB register summary. -/
def regsGLB : List RegDesc := regsGLB0 ++ regsGLB1

/-! ## PWR -/

def rPWR_STS : Nat := 0x10000
def fPWR_STS_RET_FAIL : Fld := ⟨0x10000, 1, 1⟩
def fPWR_STS_WAKE_PEND : Fld := ⟨0x10000, 0, 1⟩
def rPWR_WAKE_EN : Nat := 0x10004
def fPWR_WAKE_EN_FRAME_MASK : Fld := ⟨0x10004, 16, 15⟩
def fPWR_WAKE_EN_FRAME : Fld := ⟨0x10004, 6, 1⟩
def fPWR_WAKE_EN_T1S : Fld := ⟨0x10004, 5, 1⟩
def fPWR_WAKE_EN_NET : Fld := ⟨0x10004, 1, 4⟩
def fPWR_WAKE_EN_CMP : Fld := ⟨0x10004, 0, 1⟩
def rPWR_WAKE_SRC : Nat := 0x10008
def fPWR_WAKE_SRC_VALID : Fld := ⟨0x10008, 31, 1⟩
def fPWR_WAKE_SRC_SRC : Fld := ⟨0x10008, 16, 3⟩
def fPWR_WAKE_SRC_DOMS : Fld := ⟨0x10008, 0, 15⟩
def rPWR_RET_STATUS : Nat := 0x1000C
def fPWR_RET_STATUS_VALID : Fld := ⟨0x1000C, 31, 1⟩
def fPWR_RET_STATUS_DOMS : Fld := ⟨0x1000C, 0, 15⟩
def rPWR_SLEEP_ABORT_CNT : Nat := 0x10010
def rPWR_WAKE_CNT : Nat := 0x10014
def rPWR_RET_FAIL_CNT : Nat := 0x10018
def rPWR_DOMk_CTL (n : Nat) : Nat := 0x10100 + 0x10 * n
def fPWR_DOMk_CTL_REQ (n : Nat) : Fld := ⟨0x10100 + 0x10 * n, 28, 2⟩
def fPWR_DOMk_CTL_IDLE_US (n : Nat) : Fld := ⟨0x10100 + 0x10 * n, 0, 26⟩
def rPWR_DOMk_STS (n : Nat) : Nat := 0x10104 + 0x10 * n
def fPWR_DOMk_STS_RET_FAIL (n : Nat) : Fld := ⟨0x10104 + 0x10 * n, 8, 1⟩
def fPWR_DOMk_STS_SEQ (n : Nat) : Fld := ⟨0x10104 + 0x10 * n, 4, 1⟩
def fPWR_DOMk_STS_STATE (n : Nat) : Fld := ⟨0x10104 + 0x10 * n, 0, 2⟩
def rPWR_DOMk_LEVEL (n : Nat) : Nat := 0x10108 + 0x10 * n
def fPWR_DOMk_LEVEL_BIAS (n : Nat) : Fld := ⟨0x10108 + 0x10 * n, 8, 4⟩
def fPWR_DOMk_LEVEL_ASSIST (n : Nat) : Fld := ⟨0x10108 + 0x10 * n, 0, 4⟩

/-- Rows of the PWR register summary. -/
def regsPWR : List RegDesc := [
  { base := 0x10000 },
  { base := 0x10004, wr := 0x7FFE007F },
  { base := 0x10008, cap := 0x80077FFF },
  { base := 0x1000C, cap := 0x80007FFF },
  { base := 0x10010, wr := 0xFFFFFFFF, cnt := 0xFFFFFFFF },
  { base := 0x10014, wr := 0xFFFFFFFF, cnt := 0xFFFFFFFF },
  { base := 0x10018, wr := 0xFFFFFFFF, cnt := 0xFFFFFFFF },
  { base := 0x10100, s1 := 0x10, c1 := 15, wr := 0x33FFFFFF },
  { base := 0x10104, s1 := 0x10, c1 := 15 },
  { base := 0x10108, s1 := 0x10, c1 := 15 }]

/-! ## CLK -/

def rCLK_SRC_CFG : Nat := 0x20000
def fCLK_SRC_CFG_LOCK : Fld := ⟨0x20000, 31, 1⟩
def fCLK_SRC_CFG_SYSPLL_EN : Fld := ⟨0x20000, 8, 1⟩
def fCLK_SRC_CFG_REFSEL : Fld := ⟨0x20000, 0, 1⟩
def rCLK_SWITCH : Nat := 0x20004
def fCLK_SWITCH_SEL : Fld := ⟨0x20004, 0, 1⟩
def rCLK_STS : Nat := 0x20008
def fCLK_STS_REF_LOSS : Fld := ⟨0x20008, 5, 1⟩
def fCLK_STS_SWITCHING : Fld := ⟨0x20008, 4, 1⟩
def fCLK_STS_SEL_ACT : Fld := ⟨0x20008, 3, 1⟩
def fCLK_STS_TPLL_LOCK : Fld := ⟨0x20008, 2, 1⟩
def fCLK_STS_SYSPLL_LOCK : Fld := ⟨0x20008, 1, 1⟩
def fCLK_STS_REF_OK : Fld := ⟨0x20008, 0, 1⟩
def rCLK_SW_REFUSE_CNT : Nat := 0x2000C
def rCLK_REF_LOSS_CNT : Nat := 0x20010
def rCLK_SYSPLL_UNLOCK_CNT : Nat := 0x20014

/-- Rows of the CLK register summary. -/
def regsCLK : List RegDesc := [
  { base := 0x20000, wr := 0x80000101, dcls := 0x1, own := some ⟨0x20000, 8, 1⟩, lock := true },
  { base := 0x20004, wr := 0x1 },
  { base := 0x20008 },
  { base := 0x2000C, wr := 0xFFFFFFFF, cnt := 0xFFFFFFFF },
  { base := 0x20010, wr := 0xFFFFFFFF, cnt := 0xFFFFFFFF },
  { base := 0x20014, wr := 0xFFFFFFFF, cnt := 0xFFFFFFFF }]

/-! ## TIME -/

def rTIME_CTL : Nat := 0x30000
def fTIME_CTL_STEP : Fld := ⟨0x30000, 7, 1⟩
def fTIME_CTL_SET : Fld := ⟨0x30000, 6, 1⟩
def fTIME_CTL_SERVO_EN : Fld := ⟨0x30000, 0, 1⟩
def rTIME_STS : Nat := 0x30004
def fTIME_STS_TCMP_CONFLICT : Fld := ⟨0x30004, 7, 1⟩
def fTIME_STS_TCMP_HOST : Fld := ⟨0x30004, 6, 1⟩
def fTIME_STS_TCAP_PEND : Fld := ⟨0x30004, 5, 1⟩
def fTIME_STS_CLK10M_BAD : Fld := ⟨0x30004, 4, 1⟩
def fTIME_STS_CLK10M_LOS : Fld := ⟨0x30004, 3, 1⟩
def fTIME_STS_PPS_IN_LOS : Fld := ⟨0x30004, 2, 1⟩
def fTIME_STS_SET_ERR : Fld := ⟨0x30004, 1, 1⟩
def fTIME_STS_STEP : Fld := ⟨0x30004, 0, 1⟩
def rTIME_NOW_FRAC : Nat := 0x30010
def rTIME_NOW_NS : Nat := 0x30014
def rTIME_NOW_SEC_L : Nat := 0x30018
def rTIME_NOW_SEC_H : Nat := 0x3001C
def fTIME_NOW_SEC_H_SEC : Fld := ⟨0x3001C, 0, 16⟩
def rTIME_FT64_L : Nat := 0x30020
def rTIME_FT64_H : Nat := 0x30024
def rTIME_ADDEND_L : Nat := 0x30030
def rTIME_ADDEND_H : Nat := 0x30034
def fTIME_ADDEND_H_VALUE : Fld := ⟨0x30034, 0, 16⟩
def rTIME_SET_FRAC : Nat := 0x30040
def rTIME_SET_NS : Nat := 0x30044
def rTIME_SET_SEC_L : Nat := 0x30048
def rTIME_SET_SEC_H : Nat := 0x3004C
def fTIME_SET_SEC_H_VALUE : Fld := ⟨0x3004C, 0, 16⟩
def rTIME_STEP_ADJ_L : Nat := 0x30050
def rTIME_STEP_ADJ_H : Nat := 0x30054
def rTIME_STEP_SIZE_L : Nat := 0x30058
def rTIME_STEP_SIZE_H : Nat := 0x3005C
def fTIME_STEP_SIZE_H_VALID : Fld := ⟨0x3005C, 31, 1⟩
def fTIME_STEP_SIZE_H_OVF : Fld := ⟨0x3005C, 30, 1⟩
def fTIME_STEP_SIZE_H_SIZE_H : Fld := ⟨0x3005C, 0, 16⟩
def rTIME_ADDEND_CLAMP_CNT : Nat := 0x30060
def rTIME_CF_SAT_CNT : Nat := 0x30064
def rTIME_PPS_IN_BAD_CNT : Nat := 0x30068
def rTIME_NETn_ING_LAT (n : Nat) : Nat := 0x30200 + 0x20 * n
def fTIME_NETn_ING_LAT_VALUE (n : Nat) : Fld := ⟨0x30200 + 0x20 * n, 0, 24⟩
def rTIME_NETn_EGR_LAT (n : Nat) : Nat := 0x30204 + 0x20 * n
def fTIME_NETn_EGR_LAT_VALUE (n : Nat) : Fld := ⟨0x30204 + 0x20 * n, 0, 24⟩
def rTIME_NETn_ASYM (n : Nat) : Nat := 0x30208 + 0x20 * n
def rTIME_NETn_TS_CFG (n : Nat) : Nat := 0x3020C + 0x20 * n
def fTIME_NETn_TS_CFG_TC_MODE (n : Nat) : Fld := ⟨0x3020C + 0x20 * n, 0, 2⟩
def rTIME_NETn_LINK_DLY (n : Nat) : Nat := 0x30210 + 0x20 * n
def rTIME_NETn_DREQ_DROP_CNT (n : Nat) : Nat := 0x30214 + 0x20 * n
def rTIME_PPS_OUT_CFG : Nat := 0x30400
def fTIME_PPS_OUT_CFG_EN : Fld := ⟨0x30400, 31, 1⟩
def fTIME_PPS_OUT_CFG_GATE : Fld := ⟨0x30400, 30, 1⟩
def fTIME_PPS_OUT_CFG_TCMP : Fld := ⟨0x30400, 20, 6⟩
def fTIME_PPS_OUT_CFG_WIDTH_US : Fld := ⟨0x30400, 0, 20⟩
def rTIME_PPS_OUT_COMP : Nat := 0x30404
def rTIME_TCMPnn_OWNER (n : Nat) : Nat := 0x30800 + 0x4 * n
def fTIME_TCMPnn_OWNER_PRIO (n : Nat) : Fld := ⟨0x30800 + 0x4 * n, 16, 8⟩
def fTIME_TCMPnn_OWNER_OWNER (n : Nat) : Fld := ⟨0x30800 + 0x4 * n, 0, 8⟩
def rTIME_TCMP_CONFLICT : Nat := 0x30F80
def fTIME_TCMP_CONFLICT_VALID : Fld := ⟨0x30F80, 31, 1⟩
def fTIME_TCMP_CONFLICT_TCMP : Fld := ⟨0x30F80, 24, 6⟩
def fTIME_TCMP_CONFLICT_HOLDER : Fld := ⟨0x30F80, 16, 8⟩
def fTIME_TCMP_CONFLICT_REFUSED : Fld := ⟨0x30F80, 8, 8⟩
def fTIME_TCMP_CONFLICT_COUNT : Fld := ⟨0x30F80, 0, 8⟩
def rTIME_TCMPnn_CTL (n : Nat) : Nat := 0x31000 + 0x20 * n
def fTIME_TCMPnn_CTL_LABEL (n : Nat) : Fld := ⟨0x31000 + 0x20 * n, 11, 5⟩
def fTIME_TCMPnn_CTL_ARM (n : Nat) : Fld := ⟨0x31000 + 0x20 * n, 7, 1⟩
def fTIME_TCMPnn_CTL_DISARM (n : Nat) : Fld := ⟨0x31000 + 0x20 * n, 6, 1⟩
def fTIME_TCMPnn_CTL_MODE (n : Nat) : Fld := ⟨0x31000 + 0x20 * n, 0, 2⟩
def rTIME_TCMPnn_STS (n : Nat) : Nat := 0x31004 + 0x20 * n
def fTIME_TCMPnn_STS_ARMED (n : Nat) : Fld := ⟨0x31004 + 0x20 * n, 4, 1⟩
def fTIME_TCMPnn_STS_ARM_ERR (n : Nat) : Fld := ⟨0x31004 + 0x20 * n, 3, 1⟩
def fTIME_TCMPnn_STS_FIRED (n : Nat) : Fld := ⟨0x31004 + 0x20 * n, 2, 1⟩
def fTIME_TCMPnn_STS_LATE (n : Nat) : Fld := ⟨0x31004 + 0x20 * n, 1, 1⟩
def fTIME_TCMPnn_STS_STEPPED (n : Nat) : Fld := ⟨0x31004 + 0x20 * n, 0, 1⟩
def rTIME_TCMPnn_TGT_L (n : Nat) : Nat := 0x31008 + 0x20 * n
def rTIME_TCMPnn_TGT_H (n : Nat) : Nat := 0x3100C + 0x20 * n
def rTIME_TCMPnn_PER_L (n : Nat) : Nat := 0x31010 + 0x20 * n
def rTIME_TCMPnn_PER_H (n : Nat) : Nat := 0x31014 + 0x20 * n
def fTIME_TCMPnn_PER_H_FRAC (n : Nat) : Fld := ⟨0x31014 + 0x20 * n, 16, 16⟩
def fTIME_TCMPnn_PER_H_HI (n : Nat) : Fld := ⟨0x31014 + 0x20 * n, 0, 8⟩
def rTIME_TCMPnn_SKIP_CNT (n : Nat) : Nat := 0x31018 + 0x20 * n
def rTIME_TCMPnn_FIRE_CNT (n : Nat) : Nat := 0x3101C + 0x20 * n
def rTIME_TCAPnn_CFG (n : Nat) : Nat := 0x31800 + 0x20 * n
def fTIME_TCAPnn_CFG_POP (n : Nat) : Fld := ⟨0x31800 + 0x20 * n, 31, 1⟩
def fTIME_TCAPnn_CFG_SRC (n : Nat) : Fld := ⟨0x31800 + 0x20 * n, 16, 5⟩
def fTIME_TCAPnn_CFG_EDGE (n : Nat) : Fld := ⟨0x31800 + 0x20 * n, 8, 2⟩
def fTIME_TCAPnn_CFG_EN (n : Nat) : Fld := ⟨0x31800 + 0x20 * n, 0, 1⟩
def rTIME_TCAPnn_STS (n : Nat) : Nat := 0x31804 + 0x20 * n
def fTIME_TCAPnn_STS_LEVEL (n : Nat) : Fld := ⟨0x31804 + 0x20 * n, 0, 3⟩
def rTIME_TCAPnn_FRAC (n : Nat) : Nat := 0x31808 + 0x20 * n
def rTIME_TCAPnn_NS (n : Nat) : Nat := 0x3180C + 0x20 * n
def rTIME_TCAPnn_SEC_L (n : Nat) : Nat := 0x31810 + 0x20 * n
def rTIME_TCAPnn_SEC_H (n : Nat) : Nat := 0x31814 + 0x20 * n
def fTIME_TCAPnn_SEC_H_SEC (n : Nat) : Fld := ⟨0x31814 + 0x20 * n, 0, 16⟩
def rTIME_TCAPnn_OVF_CNT (n : Nat) : Nat := 0x31818 + 0x20 * n

/-- Rows of the TIME register summary. -/
def regsTIME0 : List RegDesc := [
  { base := 0x30000, wr := 0x1, cmd := 0xC0, dcls := 0x40, own := some ⟨0x30000, 0, 1⟩ },
  { base := 0x30004 },
  { base := 0x30010 },
  { base := 0x30014 },
  { base := 0x30018 },
  { base := 0x3001C },
  { base := 0x30020 },
  { base := 0x30024 },
  { base := 0x30030, wr := 0xFFFFFFFF, dcls := 0xFFFFFFFF, own := some ⟨0x30000, 0, 1⟩ },
  { base := 0x30034, wr := 0xFFFF, dcls := 0xFFFF, own := some ⟨0x30000, 0, 1⟩ },
  { base := 0x30040, wr := 0xFFFFFFFF, dcls := 0xFFFFFFFF, own := some ⟨0x30000, 0, 1⟩ },
  { base := 0x30044, wr := 0xFFFFFFFF, dcls := 0xFFFFFFFF, own := some ⟨0x30000, 0, 1⟩ },
  { base := 0x30048, wr := 0xFFFFFFFF, dcls := 0xFFFFFFFF, own := some ⟨0x30000, 0, 1⟩ },
  { base := 0x3004C, wr := 0xFFFF, dcls := 0xFFFF, own := some ⟨0x30000, 0, 1⟩ },
  { base := 0x30050, wr := 0xFFFFFFFF },
  { base := 0x30054, wr := 0xFFFFFFFF },
  { base := 0x30058, cap := 0xFFFFFFFF },
  { base := 0x3005C, cap := 0xC000FFFF },
  { base := 0x30060, wr := 0xFFFFFFFF, cnt := 0xFFFFFFFF },
  { base := 0x30064, wr := 0xFFFFFFFF, cnt := 0xFFFFFFFF },
  { base := 0x30068, wr := 0xFFFFFFFF, cnt := 0xFFFFFFFF },
  { base := 0x30200, s1 := 0x20, c1 := 4, wr := 0xFFFFFF },
  { base := 0x30204, s1 := 0x20, c1 := 4, wr := 0xFFFFFF },
  { base := 0x30208, s1 := 0x20, c1 := 4, wr := 0xFFFFFFFF },
  { base := 0x3020C, s1 := 0x20, c1 := 4, wr := 0x3 },
  { base := 0x30210, s1 := 0x20, c1 := 4, wr := 0xFFFFFFFF },
  { base := 0x30214, s1 := 0x20, c1 := 4, wr := 0xFFFFFFFF, cnt := 0xFFFFFFFF },
  { base := 0x30400, wr := 0xC3FFFFFF, dcls := 0x3F00000, own := some ⟨0x30400, 31, 1⟩ },
  { base := 0x30404, wr := 0xFFFFFFFF },
  { base := 0x30800, s1 := 0x4, c1 := 64, wr := 0xFF0000 },
  { base := 0x30F80, wr := 0xFF, cap := 0xBFFFFF00, cnt := 0xFF },
  { base := 0x31000, s1 := 0x20, c1 := 64, wr := 0xF803, cmd := 0xC0, dcls := 0xF803, own := some ⟨0x31004, 4, 1⟩, ownS := 0x20 },
  { base := 0x31004, s1 := 0x20, c1 := 64, cap := 0xF },
  { base := 0x31008, s1 := 0x20, c1 := 64, wr := 0xFFFFFFFF, dcls := 0xFFFFFFFF, own := some ⟨0x31004, 4, 1⟩, ownS := 0x20 },
  { base := 0x3100C, s1 := 0x20, c1 := 64, wr := 0xFFFFFFFF, dcls := 0xFFFFFFFF, own := some ⟨0x31004, 4, 1⟩, ownS := 0x20 },
  { base := 0x31010, s1 := 0x20, c1 := 64, wr := 0xFFFFFFFF, dcls := 0xFFFFFFFF, own := some ⟨0x31004, 4, 1⟩, ownS := 0x20 },
  { base := 0x31014, s1 := 0x20, c1 := 64, wr := 0xFFFF00FF, dcls := 0xFFFF00FF, own := some ⟨0x31004, 4, 1⟩, ownS := 0x20 },
  { base := 0x31018, s1 := 0x20, c1 := 64, wr := 0xFFFFFFFF, cnt := 0xFFFFFFFF },
  { base := 0x3101C, s1 := 0x20, c1 := 64, wr := 0xFFFFFFFF, cnt := 0xFFFFFFFF },
  { base := 0x31800, s1 := 0x20, c1 := 16, wr := 0x1F0301, cmd := 0x80000000 }]

/-- Rows of the TIME register summary. -/
def regsTIME1 : List RegDesc := [
  { base := 0x31804, s1 := 0x20, c1 := 16 },
  { base := 0x31808, s1 := 0x20, c1 := 16 },
  { base := 0x3180C, s1 := 0x20, c1 := 16 },
  { base := 0x31810, s1 := 0x20, c1 := 16 },
  { base := 0x31814, s1 := 0x20, c1 := 16 },
  { base := 0x31818, s1 := 0x20, c1 := 16, wr := 0xFFFFFFFF, cnt := 0xFFFFFFFF }]

/-- The TIME register summary. -/
def regsTIME : List RegDesc := regsTIME0 ++ regsTIME1

/-! ## PTP -/

def rPTP_GOV_CTL : Nat := 0x40000
def fPTP_GOV_CTL_QUAL_S : Fld := ⟨0x40000, 16, 6⟩
def fPTP_GOV_CTL_DOM : Fld := ⟨0x40000, 4, 2⟩
def fPTP_GOV_CTL_MODE : Fld := ⟨0x40000, 0, 1⟩
def rPTP_GOV_STS : Nat := 0x40004
def fPTP_GOV_STS_NONE : Fld := ⟨0x40004, 8, 1⟩
def fPTP_GOV_STS_GOV : Fld := ⟨0x40004, 0, 2⟩
def rPTP_GOV_CHG_CNT : Nat := 0x40008
def rPTP_GM_CTL : Nat := 0x40010
def fPTP_GM_CTL_TOD_LOAD : Fld := ⟨0x40010, 8, 1⟩
def fPTP_GM_CTL_DOM : Fld := ⟨0x40010, 4, 2⟩
def fPTP_GM_CTL_GM_EN : Fld := ⟨0x40010, 0, 1⟩
def rPTP_GM_TOD_SEC_L : Nat := 0x40014
def rPTP_GM_TOD_SEC_H : Nat := 0x40018
def fPTP_GM_TOD_SEC_H_SEC : Fld := ⟨0x40018, 0, 16⟩
def rPTP_GM_UTC_CFG : Nat := 0x4001C
def fPTP_GM_UTC_CFG_LEAP61 : Fld := ⟨0x4001C, 17, 1⟩
def fPTP_GM_UTC_CFG_LEAP59 : Fld := ⟨0x4001C, 16, 1⟩
def fPTP_GM_UTC_CFG_UTC_OFFSET : Fld := ⟨0x4001C, 0, 16⟩
def rPTP_PTDd_CTL (n : Nat) : Nat := 0x40100 + 0x100 * n
def fPTP_PTDd_CTL_DOMAIN_NUM (n : Nat) : Fld := ⟨0x40100 + 0x100 * n, 16, 8⟩
def fPTP_PTDd_CTL_PROFILE (n : Nat) : Fld := ⟨0x40100 + 0x100 * n, 4, 3⟩
def fPTP_PTDd_CTL_TRANSPORT (n : Nat) : Fld := ⟨0x40100 + 0x100 * n, 2, 2⟩
def fPTP_PTDd_CTL_EN (n : Nat) : Fld := ⟨0x40100 + 0x100 * n, 0, 1⟩
def rPTP_PTDd_STS (n : Nat) : Nat := 0x40104 + 0x100 * n
def fPTP_PTDd_STS_PSTATE (n : Nat) : Fld := ⟨0x40104 + 0x100 * n, 16, 16⟩
def fPTP_PTDd_STS_CFG_ERR (n : Nat) : Fld := ⟨0x40104 + 0x100 * n, 7, 1⟩
def fPTP_PTDd_STS_GOV (n : Nat) : Fld := ⟨0x40104 + 0x100 * n, 6, 1⟩
def fPTP_PTDd_STS_GM (n : Nat) : Fld := ⟨0x40104 + 0x100 * n, 5, 1⟩
def fPTP_PTDd_STS_LOCK_STATE (n : Nat) : Fld := ⟨0x40104 + 0x100 * n, 0, 2⟩
def rPTP_PTDd_PORTS (n : Nat) : Nat := 0x40108 + 0x100 * n
def fPTP_PTDd_PORTS_ROLES (n : Nat) : Fld := ⟨0x40108 + 0x100 * n, 0, 8⟩
def rPTP_PTDd_RATES (n : Nat) : Nat := 0x4010C + 0x100 * n
def fPTP_PTDd_RATES_SYNC (n : Nat) : Fld := ⟨0x4010C + 0x100 * n, 24, 8⟩
def fPTP_PTDd_RATES_ANN (n : Nat) : Fld := ⟨0x4010C + 0x100 * n, 16, 8⟩
def fPTP_PTDd_RATES_DREQ (n : Nat) : Fld := ⟨0x4010C + 0x100 * n, 8, 8⟩
def fPTP_PTDd_RATES_ANN_TO (n : Nat) : Fld := ⟨0x4010C + 0x100 * n, 0, 8⟩
def rPTP_PTDd_CLOCK (n : Nat) : Nat := 0x40110 + 0x100 * n
def fPTP_PTDd_CLOCK_PRIORITY1 (n : Nat) : Fld := ⟨0x40110 + 0x100 * n, 24, 8⟩
def fPTP_PTDd_CLOCK_PRIORITY2 (n : Nat) : Fld := ⟨0x40110 + 0x100 * n, 16, 8⟩
def fPTP_PTDd_CLOCK_CLASS (n : Nat) : Fld := ⟨0x40110 + 0x100 * n, 8, 8⟩
def fPTP_PTDd_CLOCK_ACCURACY (n : Nat) : Fld := ⟨0x40110 + 0x100 * n, 0, 8⟩
def rPTP_PTDd_VARIANCE (n : Nat) : Nat := 0x40114 + 0x100 * n
def fPTP_PTDd_VARIANCE_VALUE (n : Nat) : Fld := ⟨0x40114 + 0x100 * n, 0, 16⟩
def rPTP_PTDd_STEP_THRESH (n : Nat) : Nat := 0x40118 + 0x100 * n
def rPTP_PTDd_SLEW_MAX (n : Nat) : Nat := 0x4011C + 0x100 * n
def rPTP_PTDd_LOCK_CFG (n : Nat) : Nat := 0x40120 + 0x100 * n
def fPTP_PTDd_LOCK_CFG_UNLOCK_THRESH (n : Nat) : Fld := ⟨0x40120 + 0x100 * n, 16, 16⟩
def fPTP_PTDd_LOCK_CFG_LOCK_THRESH (n : Nat) : Fld := ⟨0x40120 + 0x100 * n, 0, 16⟩
def rPTP_PTDd_SERVO_CFG (n : Nat) : Nat := 0x40124 + 0x100 * n
def fPTP_PTDd_SERVO_CFG_STEP_CONFIRM (n : Nat) : Fld := ⟨0x40124 + 0x100 * n, 24, 4⟩
def fPTP_PTDd_SERVO_CFG_LOCK_N (n : Nat) : Fld := ⟨0x40124 + 0x100 * n, 16, 8⟩
def fPTP_PTDd_SERVO_CFG_KI_CURVE (n : Nat) : Fld := ⟨0x40124 + 0x100 * n, 8, 6⟩
def fPTP_PTDd_SERVO_CFG_KP_CURVE (n : Nat) : Fld := ⟨0x40124 + 0x100 * n, 0, 6⟩
def rPTP_PTDd_HOLD_LIMIT (n : Nat) : Nat := 0x40128 + 0x100 * n
def rPTP_PTDd_DELAY_REJ (n : Nat) : Nat := 0x4012C + 0x100 * n
def rPTP_PTDd_OFS_L (n : Nat) : Nat := 0x40130 + 0x100 * n
def rPTP_PTDd_OFS_H (n : Nat) : Nat := 0x40134 + 0x100 * n
def rPTP_PTDd_MPD_L (n : Nat) : Nat := 0x40138 + 0x100 * n
def rPTP_PTDd_MPD_H (n : Nat) : Nat := 0x4013C + 0x100 * n
def rPTP_PTDd_DTB_L (n : Nat) : Nat := 0x40140 + 0x100 * n
def rPTP_PTDd_DTB_H (n : Nat) : Nat := 0x40144 + 0x100 * n
def rPTP_PTDd_RATIO (n : Nat) : Nat := 0x40148 + 0x100 * n
def rPTP_PTDd_GMID_L (n : Nat) : Nat := 0x4014C + 0x100 * n
def rPTP_PTDd_GMID_H (n : Nat) : Nat := 0x40150 + 0x100 * n
def rPTP_PTDd_STEP_CNT (n : Nat) : Nat := 0x40154 + 0x100 * n
def rPTP_PTDd_REJ_CNT (n : Nat) : Nat := 0x40158 + 0x100 * n
def rPTP_PTDd_ANN_TO_CNT (n : Nat) : Nat := 0x4015C + 0x100 * n
def rPTP_PTDd_GM_CHG_CNT (n : Nat) : Nat := 0x40160 + 0x100 * n

/-- Rows of the PTP register summary. -/
def regsPTP : List RegDesc := [
  { base := 0x40000, wr := 0x3F0031 },
  { base := 0x40004 },
  { base := 0x40008, wr := 0xFFFFFFFF, cnt := 0xFFFFFFFF },
  { base := 0x40010, wr := 0x31, cmd := 0x100 },
  { base := 0x40014, wr := 0xFFFFFFFF },
  { base := 0x40018, wr := 0xFFFF },
  { base := 0x4001C, wr := 0x3FFFF },
  { base := 0x40100, s1 := 0x100, c1 := 4, wr := 0xFF007D, dcls := 0xFF007C, own := some ⟨0x40100, 0, 1⟩, ownS := 0x100 },
  { base := 0x40104, s1 := 0x100, c1 := 4 },
  { base := 0x40108, s1 := 0x100, c1 := 4, wr := 0xFF, dcls := 0xFF, own := some ⟨0x40100, 0, 1⟩, ownS := 0x100 },
  { base := 0x4010C, s1 := 0x100, c1 := 4, wr := 0xFFFFFFFF, dcls := 0xFFFFFFFF, own := some ⟨0x40100, 0, 1⟩, ownS := 0x100 },
  { base := 0x40110, s1 := 0x100, c1 := 4, wr := 0xFFFFFFFF },
  { base := 0x40114, s1 := 0x100, c1 := 4, wr := 0xFFFF },
  { base := 0x40118, s1 := 0x100, c1 := 4, wr := 0xFFFFFFFF },
  { base := 0x4011C, s1 := 0x100, c1 := 4, wr := 0xFFFFFFFF },
  { base := 0x40120, s1 := 0x100, c1 := 4, wr := 0xFFFFFFFF },
  { base := 0x40124, s1 := 0x100, c1 := 4, wr := 0xFFF3F3F, dcls := 0xFFF3F3F, own := some ⟨0x40100, 0, 1⟩, ownS := 0x100 },
  { base := 0x40128, s1 := 0x100, c1 := 4, wr := 0xFFFFFFFF },
  { base := 0x4012C, s1 := 0x100, c1 := 4, wr := 0xFFFFFFFF },
  { base := 0x40130, s1 := 0x100, c1 := 4 },
  { base := 0x40134, s1 := 0x100, c1 := 4 },
  { base := 0x40138, s1 := 0x100, c1 := 4 },
  { base := 0x4013C, s1 := 0x100, c1 := 4 },
  { base := 0x40140, s1 := 0x100, c1 := 4 },
  { base := 0x40144, s1 := 0x100, c1 := 4 },
  { base := 0x40148, s1 := 0x100, c1 := 4 },
  { base := 0x4014C, s1 := 0x100, c1 := 4 },
  { base := 0x40150, s1 := 0x100, c1 := 4 },
  { base := 0x40154, s1 := 0x100, c1 := 4, wr := 0xFFFFFFFF, cnt := 0xFFFFFFFF },
  { base := 0x40158, s1 := 0x100, c1 := 4, wr := 0xFFFFFFFF, cnt := 0xFFFFFFFF },
  { base := 0x4015C, s1 := 0x100, c1 := 4, wr := 0xFFFFFFFF, cnt := 0xFFFFFFFF },
  { base := 0x40160, s1 := 0x100, c1 := 4, wr := 0xFFFFFFFF, cnt := 0xFFFFFFFF }]

/-! ## MCG -/

def rMCG_HOUSE : Nat := 0x50000
def fMCG_HOUSE_HOUSE : Fld := ⟨0x50000, 0, 3⟩
def rMCG_REFUSE_CNT : Nat := 0x50004
def rMCGn_CTL (n : Nat) : Nat := 0x50100 + 0x100 * n
def fMCGn_CTL_TICK_POLICY (n : Nat) : Fld := ⟨0x50100 + 0x100 * n, 8, 1⟩
def fMCGn_CTL_PULL (n : Nat) : Fld := ⟨0x50100 + 0x100 * n, 4, 2⟩
def fMCGn_CTL_MULT (n : Nat) : Fld := ⟨0x50100 + 0x100 * n, 2, 2⟩
def fMCGn_CTL_FAMILY (n : Nat) : Fld := ⟨0x50100 + 0x100 * n, 1, 1⟩
def fMCGn_CTL_EN (n : Nat) : Fld := ⟨0x50100 + 0x100 * n, 0, 1⟩
def rMCGn_SRC (n : Nat) : Nat := 0x50104 + 0x100 * n
def fMCGn_SRC_KIND (n : Nat) : Fld := ⟨0x50104 + 0x100 * n, 12, 3⟩
def fMCGn_SRC_INDEX (n : Nat) : Fld := ⟨0x50104 + 0x100 * n, 0, 9⟩
def rMCGn_STS (n : Nat) : Nat := 0x50108 + 0x100 * n
def fMCGn_STS_ERR_CODE (n : Nat) : Fld := ⟨0x50108 + 0x100 * n, 12, 4⟩
def fMCGn_STS_CFG_ERR (n : Nat) : Fld := ⟨0x50108 + 0x100 * n, 7, 1⟩
def fMCGn_STS_SLEWING (n : Nat) : Fld := ⟨0x50108 + 0x100 * n, 6, 1⟩
def fMCGn_STS_REF_OK (n : Nat) : Fld := ⟨0x50108 + 0x100 * n, 5, 1⟩
def fMCGn_STS_SRC_OK (n : Nat) : Fld := ⟨0x50108 + 0x100 * n, 4, 1⟩
def fMCGn_STS_STATE (n : Nat) : Fld := ⟨0x50108 + 0x100 * n, 0, 3⟩
def rMCGn_LOCK_CFG (n : Nat) : Nat := 0x5010C + 0x100 * n
def fMCGn_LOCK_CFG_UNLOCK_WIN (n : Nat) : Fld := ⟨0x5010C + 0x100 * n, 16, 16⟩
def fMCGn_LOCK_CFG_LOCK_WIN (n : Nat) : Fld := ⟨0x5010C + 0x100 * n, 0, 16⟩
def rMCGn_RELOCK_CFG (n : Nat) : Nat := 0x50110 + 0x100 * n
def fMCGn_RELOCK_CFG_SLEW_PPM (n : Nat) : Fld := ⟨0x50110 + 0x100 * n, 24, 8⟩
def fMCGn_RELOCK_CFG_RELOCK_WIN (n : Nat) : Fld := ⟨0x50110 + 0x100 * n, 0, 20⟩
def rMCGn_HOLD_LIMIT (n : Nat) : Nat := 0x50114 + 0x100 * n
def rMCGn_MCLK_CFG (n : Nat) : Nat := 0x50118 + 0x100 * n
def fMCGn_MCLK_CFG_GATE (n : Nat) : Fld := ⟨0x50118 + 0x100 * n, 2, 1⟩
def fMCGn_MCLK_CFG_RATIO (n : Nat) : Fld := ⟨0x50118 + 0x100 * n, 1, 1⟩
def fMCGn_MCLK_CFG_EN (n : Nat) : Fld := ⟨0x50118 + 0x100 * n, 0, 1⟩
def rMCGn_SIDX_L (n : Nat) : Nat := 0x50120 + 0x100 * n
def rMCGn_SIDX_H (n : Nat) : Nat := 0x50124 + 0x100 * n
def rMCGn_PHASE (n : Nat) : Nat := 0x50128 + 0x100 * n
def rMCGn_FREQ (n : Nat) : Nat := 0x5012C + 0x100 * n
def rMCGn_REBASE_CNT (n : Nat) : Nat := 0x50130 + 0x100 * n
def rMCGn_UNLOCK_CNT (n : Nat) : Nat := 0x50134 + 0x100 * n
def rMCGn_SRC_LOSS_CNT (n : Nat) : Nat := 0x50138 + 0x100 * n

/-- Rows of the MCG register summary. -/
def regsMCG : List RegDesc := [
  { base := 0x50000, wr := 0x7, dcls := 0x7, own := some ⟨0xA0000, 0, 1⟩ },
  { base := 0x50004, wr := 0xFFFFFFFF, cnt := 0xFFFFFFFF },
  { base := 0x50100, s1 := 0x100, c1 := 8, wr := 0x13F, dcls := 0x13E, own := some ⟨0x50100, 0, 1⟩, ownS := 0x100 },
  { base := 0x50104, s1 := 0x100, c1 := 8, wr := 0x71FF },
  { base := 0x50108, s1 := 0x100, c1 := 8 },
  { base := 0x5010C, s1 := 0x100, c1 := 8, wr := 0xFFFFFFFF },
  { base := 0x50110, s1 := 0x100, c1 := 8, wr := 0xFF0FFFFF },
  { base := 0x50114, s1 := 0x100, c1 := 8, wr := 0xFFFFFFFF },
  { base := 0x50118, s1 := 0x100, c1 := 8, wr := 0x7, dcls := 0x2, own := some ⟨0x50118, 0, 1⟩, ownS := 0x100 },
  { base := 0x50120, s1 := 0x100, c1 := 8 },
  { base := 0x50124, s1 := 0x100, c1 := 8 },
  { base := 0x50128, s1 := 0x100, c1 := 8 },
  { base := 0x5012C, s1 := 0x100, c1 := 8 },
  { base := 0x50130, s1 := 0x100, c1 := 8, wr := 0xFFFFFFFF, cnt := 0xFFFFFFFF },
  { base := 0x50134, s1 := 0x100, c1 := 8, wr := 0xFFFFFFFF, cnt := 0xFFFFFFFF },
  { base := 0x50138, s1 := 0x100, c1 := 8, wr := 0xFFFFFFFF, cnt := 0xFFFFFFFF }]

/-! ## STX -/

def rSTX_CMD : Nat := 0x60000
def fSTX_CMD_OP : Fld := ⟨0x60000, 28, 4⟩
def fSTX_CMD_CTX : Fld := ⟨0x60000, 0, 9⟩
def rSTX_CMD_STS : Nat := 0x60004
def fSTX_CMD_STS_BUSY : Fld := ⟨0x60004, 31, 1⟩
def fSTX_CMD_STS_QUEUED : Fld := ⟨0x60004, 30, 1⟩
def fSTX_CMD_STS_RESULT : Fld := ⟨0x60004, 28, 2⟩
def fSTX_CMD_STS_CODE : Fld := ⟨0x60004, 24, 4⟩
def fSTX_CMD_STS_CTX : Fld := ⟨0x60004, 0, 9⟩
def rSTX_REFUSE : Nat := 0x60008
def fSTX_REFUSE_VALID : Fld := ⟨0x60008, 31, 1⟩
def fSTX_REFUSE_CODE : Fld := ⟨0x60008, 26, 4⟩
def fSTX_REFUSE_PORT : Fld := ⟨0x60008, 24, 2⟩
def fSTX_REFUSE_OTHER : Fld := ⟨0x60008, 12, 9⟩
def fSTX_REFUSE_CTX : Fld := ⟨0x60008, 0, 9⟩
def rSTX_REFUSE_CNT : Nat := 0x6000C
def rSTX_PPS_LOAD : Nat := 0x60010
def rSTX_RESV_Pp (n : Nat) : Nat := 0x60020 + 0x4 * n
def rSTX_OVERBOOK : Nat := 0x60030
def fSTX_OVERBOOK_PORTS : Fld := ⟨0x60030, 0, 4⟩
def rSTX_OVERBOOK_CNT : Nat := 0x60034
def rSTX_CMD_OVF_CNT : Nat := 0x60038
def rSTX_ENMAPkk (n : Nat) : Nat := 0x60040 + 0x4 * n
def rSTX_SKIP_LATE_CNT : Nat := 0x60080
def rSTX_SKIP_REBASE_CNT : Nat := 0x60084
def rSTX_SKIP_STOP_CNT : Nat := 0x60088
def rSTX_GRP_SOLO : Nat := 0x6008C
def fSTX_GRP_SOLO_VALID : Fld := ⟨0x6008C, 31, 1⟩
def fSTX_GRP_SOLO_GRP : Fld := ⟨0x6008C, 18, 8⟩
def fSTX_GRP_SOLO_REF : Fld := ⟨0x6008C, 9, 9⟩
def fSTX_GRP_SOLO_CTX : Fld := ⟨0x6008C, 0, 9⟩
def rSTX_GRP_SOLO_CNT : Nat := 0x60090
def rSTX_DROP_Pp_CNT (n : Nat) : Nat := 0x600A0 + 0x4 * n
def rSTX_SRCIP4_e (n : Nat) : Nat := 0x60100 + 0x4 * n
def rSTX_SRCIP6_e (n : Nat) : Nat := 0x60120 + 0x4 * n

/-- Rows of the STX register summary. -/
def regsSTX : List RegDesc := [
  { base := 0x60000, wr := 0x1FF, cmd := 0xF0000000 },
  { base := 0x60004 },
  { base := 0x60008, cap := 0xBF1FF1FF },
  { base := 0x6000C, wr := 0xFFFFFFFF, cnt := 0xFFFFFFFF },
  { base := 0x60010 },
  { base := 0x60020, s1 := 0x4, c1 := 4 },
  { base := 0x60030 },
  { base := 0x60034, wr := 0xFFFFFFFF, cnt := 0xFFFFFFFF },
  { base := 0x60038, wr := 0xFFFFFFFF, cnt := 0xFFFFFFFF },
  { base := 0x60040, s1 := 0x4, c1 := 16 },
  { base := 0x60080, wr := 0xFFFFFFFF, cnt := 0xFFFFFFFF },
  { base := 0x60084, wr := 0xFFFFFFFF, cnt := 0xFFFFFFFF },
  { base := 0x60088, wr := 0xFFFFFFFF, cnt := 0xFFFFFFFF },
  { base := 0x6008C, cap := 0x83FFFFFF },
  { base := 0x60090, wr := 0xFFFFFFFF, cnt := 0xFFFFFFFF },
  { base := 0x600A0, s1 := 0x4, c1 := 4, wr := 0xFFFFFFFF, cnt := 0xFFFFFFFF },
  { base := 0x60100, s1 := 0x4, c1 := 8, wr := 0xFFFFFFFF },
  { base := 0x60120, s1 := 0x4, c1 := 32, wr := 0xFFFFFFFF }]

/-! ## SRX -/

def rSRX_CMD : Nat := 0x80000
def fSRX_CMD_OP : Fld := ⟨0x80000, 28, 4⟩
def fSRX_CMD_CTX : Fld := ⟨0x80000, 0, 9⟩
def rSRX_CMD_STS : Nat := 0x80004
def fSRX_CMD_STS_BUSY : Fld := ⟨0x80004, 31, 1⟩
def fSRX_CMD_STS_QUEUED : Fld := ⟨0x80004, 30, 1⟩
def fSRX_CMD_STS_RESULT : Fld := ⟨0x80004, 28, 2⟩
def fSRX_CMD_STS_CODE : Fld := ⟨0x80004, 24, 4⟩
def fSRX_CMD_STS_CTX : Fld := ⟨0x80004, 0, 9⟩
def rSRX_REFUSE : Nat := 0x80008
def fSRX_REFUSE_VALID : Fld := ⟨0x80008, 31, 1⟩
def fSRX_REFUSE_CODE : Fld := ⟨0x80008, 26, 4⟩
def fSRX_REFUSE_PORT : Fld := ⟨0x80008, 24, 2⟩
def fSRX_REFUSE_OTHER : Fld := ⟨0x80008, 12, 9⟩
def fSRX_REFUSE_CTX : Fld := ⟨0x80008, 0, 9⟩
def rSRX_REFUSE_CNT : Nat := 0x8000C
def rSRX_PPS_LOAD : Nat := 0x80010
def rSRX_FRAG_CNT : Nat := 0x80014
def rSRX_CMD_OVF_CNT : Nat := 0x80018
def rSRX_ENMAPkk (n : Nat) : Nat := 0x80040 + 0x4 * n
def rSRX_CFG : Nat := 0x80080
def fSRX_CFG_LOSS_TO_MS : Fld := ⟨0x80080, 22, 10⟩
def fSRX_CFG_GRP_WAIT_MS : Fld := ⟨0x80080, 16, 6⟩
def fSRX_CFG_DISC_HOLD_MS : Fld := ⟨0x80080, 6, 10⟩
def fSRX_CFG_FADE_CURVE : Fld := ⟨0x80080, 0, 6⟩
def rSRX_STS : Nat := 0x80084
def fSRX_STS_LOSS : Fld := ⟨0x80084, 2, 1⟩
def fSRX_STS_GRP_SOLO : Fld := ⟨0x80084, 1, 1⟩
def fSRX_STS_DEEP_OUT : Fld := ⟨0x80084, 0, 1⟩
def rSRX_LOSS_EVT : Nat := 0x80088
def fSRX_LOSS_EVT_VALID : Fld := ⟨0x80088, 31, 1⟩
def fSRX_LOSS_EVT_CAUSE : Fld := ⟨0x80088, 24, 2⟩
def fSRX_LOSS_EVT_CTX : Fld := ⟨0x80088, 0, 9⟩
def rSRX_LOSS_EVT_CNT : Nat := 0x8008C
def rSRX_GRP_SOLO : Nat := 0x80090
def fSRX_GRP_SOLO_VALID : Fld := ⟨0x80090, 31, 1⟩
def fSRX_GRP_SOLO_GRP : Fld := ⟨0x80090, 18, 8⟩
def fSRX_GRP_SOLO_REF : Fld := ⟨0x80090, 9, 9⟩
def fSRX_GRP_SOLO_CTX : Fld := ⟨0x80090, 0, 9⟩
def rSRX_GRP_SOLO_CNT : Nat := 0x80094
def rSRX_DISC_CNT : Nat := 0x80098
def rSRX_DEEP_FAIL_CNT : Nat := 0x8009C
def rSRX_MUTEMAPkk (n : Nat) : Nat := 0x800C0 + 0x4 * n

/-- Rows of the SRX register summary. -/
def regsSRX : List RegDesc := [
  { base := 0x80000, wr := 0x1FF, cmd := 0xF0000000 },
  { base := 0x80004 },
  { base := 0x80008, cap := 0xBF1FF1FF },
  { base := 0x8000C, wr := 0xFFFFFFFF, cnt := 0xFFFFFFFF },
  { base := 0x80010 },
  { base := 0x80014, wr := 0xFFFFFFFF, cnt := 0xFFFFFFFF },
  { base := 0x80018, wr := 0xFFFFFFFF, cnt := 0xFFFFFFFF },
  { base := 0x80040, s1 := 0x4, c1 := 16 },
  { base := 0x80080, wr := 0xFFFFFFFF },
  { base := 0x80084 },
  { base := 0x80088, cap := 0x830001FF },
  { base := 0x8008C, wr := 0xFFFFFFFF, cnt := 0xFFFFFFFF },
  { base := 0x80090, cap := 0x83FFFFFF },
  { base := 0x80094, wr := 0xFFFFFFFF, cnt := 0xFFFFFFFF },
  { base := 0x80098, wr := 0xFFFFFFFF, cnt := 0xFFFFFFFF },
  { base := 0x8009C, wr := 0xFFFFFFFF, cnt := 0xFFFFFFFF },
  { base := 0x800C0, s1 := 0x4, c1 := 16 }]

end Sys2Proof.Machine
end

