-- ==== Sys2Proof/Machine/RegMapB.lean ====
section
/-! DEFINITION. The registers and fields of the blocks ANV, SCH, SAP, NET, MIO: addresses (`r…`), fields (`f…`) and the
rows of the block's register summaries, as the spec's summary and field tables give them. -/

namespace Sys2Proof.Machine

open Sys2Proof

/-! ## ANV -/

def rANV_CTL : Nat := 0xA0000
def fANV_CTL_XFADE_CURVE : Fld := ⟨0xA0000, 10, 6⟩
def fANV_CTL_BLOCK : Fld := ⟨0xA0000, 6, 2⟩
def fANV_CTL_BANK : Fld := ⟨0xA0000, 4, 1⟩
def fANV_CTL_SHADOW_EN : Fld := ⟨0xA0000, 1, 1⟩
def fANV_CTL_EN : Fld := ⟨0xA0000, 0, 1⟩
def rANV_STS : Nat := 0xA0004
def fANV_STS_WORKING : Fld := ⟨0xA0004, 16, 6⟩
def fANV_STS_SPARES : Fld := ⟨0xA0004, 12, 2⟩
def fANV_STS_DEGRADED : Fld := ⟨0xA0004, 9, 1⟩
def fANV_STS_REFUSED : Fld := ⟨0xA0004, 8, 1⟩
def fANV_STS_SCENE : Fld := ⟨0xA0004, 4, 2⟩
def fANV_STS_LIVE : Fld := ⟨0xA0004, 1, 1⟩
def fANV_STS_RUN : Fld := ⟨0xA0004, 0, 1⟩
def rANV_SCENE_CMD : Nat := 0xA0008
def fANV_SCENE_CMD_OP : Fld := ⟨0xA0008, 28, 4⟩
def fANV_SCENE_CMD_TIMED : Fld := ⟨0xA0008, 24, 1⟩
def fANV_SCENE_CMD_TCMP : Fld := ⟨0xA0008, 16, 6⟩
def fANV_SCENE_CMD_XFADE : Fld := ⟨0xA0008, 0, 16⟩
def rANV_SCENE_TGT_L : Nat := 0xA0010
def rANV_SCENE_TGT_H : Nat := 0xA0014
def rANV_REFUSE : Nat := 0xA0018
def fANV_REFUSE_VALID : Fld := ⟨0xA0018, 31, 1⟩
def fANV_REFUSE_CODE : Fld := ⟨0xA0018, 27, 4⟩
def fANV_REFUSE_SOURCE : Fld := ⟨0xA0018, 26, 1⟩
def fANV_REFUSE_BANK : Fld := ⟨0xA0018, 25, 1⟩
def fANV_REFUSE_ENTRY : Fld := ⟨0xA0018, 0, 15⟩
def rANV_REFUSE_CNT : Nat := 0xA001C
def rANV_SWAP_CNT : Nat := 0xA0020
def rANV_SAT_CNT : Nat := 0xA0024
def rANV_RES_FAULT_CNT : Nat := 0xA0028
def rANV_REEXEC_CNT : Nat := 0xA002C
def rANV_REEXEC_FAIL_CNT : Nat := 0xA0030
def rANV_SHADOW_CNT : Nat := 0xA0034
def rANV_SHADOW_MISMATCH_CNT : Nat := 0xA0038
def rANV_SRC_MISMATCH_CNT : Nat := 0xA003C
def rANV_COST_Pc (n : Nat) : Nat := 0xA0040 + 0x4 * n
def rANV_SPARE_CFG : Nat := 0xA0050
def fANV_SPARE_CFG_RETIRE_N : Fld := ⟨0xA0050, 16, 4⟩
def fANV_SPARE_CFG_RETIRE_WIN : Fld := ⟨0xA0050, 0, 16⟩
def rANV_LANE_RET_L : Nat := 0xA0054
def rANV_LANE_RET_H : Nat := 0xA0058
def rANV_LANE_SPARE_L : Nat := 0xA005C
def rANV_LANE_SPARE_H : Nat := 0xA0060
def rANV_FAULT_LOG : Nat := 0xA0064
def fANV_FAULT_LOG_VALID : Fld := ⟨0xA0064, 31, 1⟩
def fANV_FAULT_LOG_KIND : Fld := ⟨0xA0064, 30, 1⟩
def fANV_FAULT_LOG_LANE : Fld := ⟨0xA0064, 24, 6⟩
def fANV_FAULT_LOG_OUTCOME : Fld := ⟨0xA0064, 16, 2⟩
def fANV_FAULT_LOG_ENTRY : Fld := ⟨0xA0064, 0, 15⟩
def rANV_DRAM_MISS_CNT : Nat := 0xA0068
def rANV_LANEnn_FAULT_CNT (n : Nat) : Nat := 0xA0100 + 0x4 * n

/-- Rows of the ANV register summary. -/
def regsANV : List RegDesc := [
  { base := 0xA0000, wr := 0xFCD3, dcls := 0xD0, own := some ⟨0xA0000, 0, 1⟩ },
  { base := 0xA0004 },
  { base := 0xA0008, wr := 0x13FFFFF, cmd := 0xF0000000 },
  { base := 0xA0010, wr := 0xFFFFFFFF },
  { base := 0xA0014, wr := 0xFFFFFFFF },
  { base := 0xA0018, cap := 0xFE007FFF },
  { base := 0xA001C, wr := 0xFFFFFFFF, cnt := 0xFFFFFFFF },
  { base := 0xA0020, wr := 0xFFFFFFFF, cnt := 0xFFFFFFFF },
  { base := 0xA0024, wr := 0xFFFFFFFF, cnt := 0xFFFFFFFF },
  { base := 0xA0028, wr := 0xFFFFFFFF, cnt := 0xFFFFFFFF },
  { base := 0xA002C, wr := 0xFFFFFFFF, cnt := 0xFFFFFFFF },
  { base := 0xA0030, wr := 0xFFFFFFFF, cnt := 0xFFFFFFFF },
  { base := 0xA0034, wr := 0xFFFFFFFF, cnt := 0xFFFFFFFF },
  { base := 0xA0038, wr := 0xFFFFFFFF, cnt := 0xFFFFFFFF },
  { base := 0xA003C, wr := 0xFFFFFFFF, cnt := 0xFFFFFFFF },
  { base := 0xA0040, s1 := 0x4, c1 := 4 },
  { base := 0xA0050, wr := 0xFFFFF },
  { base := 0xA0054 },
  { base := 0xA0058 },
  { base := 0xA005C },
  { base := 0xA0060 },
  { base := 0xA0064, cap := 0xFF037FFF },
  { base := 0xA0068, wr := 0xFFFFFFFF, cnt := 0xFFFFFFFF },
  { base := 0xA0100, s1 := 0x4, c1 := 34, wr := 0xFFFFFFFF, cnt := 0xFFFFFFFF }]

/-! ## SCH -/

def rSCH_CFG : Nat := 0xB0000
def fSCH_CFG_BUDGET_N : Fld := ⟨0xB0000, 24, 8⟩
def fSCH_CFG_RESTORE_N : Fld := ⟨0xB0000, 16, 8⟩
def fSCH_CFG_MISS_CURVE : Fld := ⟨0xB0000, 8, 6⟩
def fSCH_CFG_GOV_EN : Fld := ⟨0xB0000, 0, 1⟩
def rSCH_CURVES : Nat := 0xB0004
def fSCH_CURVES_CAP_CURVE : Fld := ⟨0xB0004, 8, 6⟩
def fSCH_CURVES_WEIGHT_CURVE : Fld := ⟨0xB0004, 0, 6⟩
def rSCH_STS : Nat := 0xB0008
def fSCH_STS_THERMAL_CRITICAL : Fld := ⟨0xB0008, 8, 1⟩
def fSCH_STS_OVER : Fld := ⟨0xB0008, 7, 1⟩
def fSCH_STS_SHED_P2 : Fld := ⟨0xB0008, 5, 1⟩
def fSCH_STS_SHED_P3 : Fld := ⟨0xB0008, 4, 1⟩
def fSCH_STS_SENSOR_FAIL : Fld := ⟨0xB0008, 3, 1⟩
def fSCH_STS_ALERT : Fld := ⟨0xB0008, 2, 1⟩
def fSCH_STS_MISS_PEND : Fld := ⟨0xB0008, 1, 1⟩
def rSCH_THERM_CFG : Nat := 0xB000C
def fSCH_THERM_CFG_HALO_REQ_EN : Fld := ⟨0xB000C, 31, 1⟩
def fSCH_THERM_CFG_ALERT_T : Fld := ⟨0xB000C, 16, 8⟩
def fSCH_THERM_CFG_HYST : Fld := ⟨0xB000C, 0, 8⟩
def rSCH_TJ : Nat := 0xB0010
def fSCH_TJ_SENSOR : Fld := ⟨0xB0010, 16, 3⟩
def fSCH_TJ_TJ : Fld := ⟨0xB0010, 0, 16⟩
def rSCH_CAP_MW : Nat := 0xB0014
def rSCH_BUDGET_NJ : Nat := 0xB0018
def rSCH_PLAN_NJ : Nat := 0xB001C
def rSCH_FULL_NJ : Nat := 0xB0020
def rSCH_USED_LC : Nat := 0xB0024
def rSCH_SHED_DEPTH : Nat := 0xB0028
def rSCH_SHADOW_LC : Nat := 0xB002C
def rSCH_OVER_CNT : Nat := 0xB0030
def rSCH_CRIT_CNT : Nat := 0xB0034
def rSCH_GATHER_WAIT_CNT : Nat := 0xB0038
def rSCH_SENSOR_ERR_CNT : Nat := 0xB003C
def rSCH_MISS_Pc_CNT (n : Nat) : Nat := 0xB0040 + 0x4 * n
def rSCH_SHED_P2_CNT : Nat := 0xB0050
def rSCH_SHED_P3_CNT : Nat := 0xB0054
def rSCH_MISS_LOG : Nat := 0xB0058
def fSCH_MISS_LOG_VALID : Fld := ⟨0xB0058, 31, 1⟩
def fSCH_MISS_LOG_CAUSE : Fld := ⟨0xB0058, 28, 3⟩
def fSCH_MISS_LOG_CLASS : Fld := ⟨0xB0058, 26, 2⟩
def fSCH_MISS_LOG_BANK : Fld := ⟨0xB0058, 25, 1⟩
def fSCH_MISS_LOG_ENTRY : Fld := ⟨0xB0058, 0, 15⟩
def rSCH_TELEM_CFG : Nat := 0xB005C
def fSCH_TELEM_CFG_EN : Fld := ⟨0xB005C, 31, 1⟩
def fSCH_TELEM_CFG_QUEUE : Fld := ⟨0xB005C, 16, 5⟩
def fSCH_TELEM_CFG_PERIOD : Fld := ⟨0xB005C, 0, 16⟩
def rSCH_TSn_TEMP (n : Nat) : Nat := 0xB0060 + 0x4 * n
def fSCH_TSn_TEMP_VALID (n : Nat) : Fld := ⟨0xB0060 + 0x4 * n, 31, 1⟩
def fSCH_TSn_TEMP_READING (n : Nat) : Fld := ⟨0xB0060 + 0x4 * n, 0, 16⟩

/-- Rows of the SCH register summary. -/
def regsSCH : List RegDesc := [
  { base := 0xB0000, wr := 0xFFFF3F01 },
  { base := 0xB0004, wr := 0x3F3F, dcls := 0x3F3F, own := some ⟨0xA0000, 0, 1⟩ },
  { base := 0xB0008 },
  { base := 0xB000C, wr := 0x80FF00FF },
  { base := 0xB0010 },
  { base := 0xB0014 },
  { base := 0xB0018 },
  { base := 0xB001C },
  { base := 0xB0020 },
  { base := 0xB0024 },
  { base := 0xB0028 },
  { base := 0xB002C, wr := 0xFFFFFFFF },
  { base := 0xB0030, wr := 0xFFFFFFFF, cnt := 0xFFFFFFFF },
  { base := 0xB0034, wr := 0xFFFFFFFF, cnt := 0xFFFFFFFF },
  { base := 0xB0038, wr := 0xFFFFFFFF, cnt := 0xFFFFFFFF },
  { base := 0xB003C, wr := 0xFFFFFFFF, cnt := 0xFFFFFFFF },
  { base := 0xB0040, s1 := 0x4, c1 := 4, wr := 0xFFFFFFFF, cnt := 0xFFFFFFFF },
  { base := 0xB0050, wr := 0xFFFFFFFF, cnt := 0xFFFFFFFF },
  { base := 0xB0054, wr := 0xFFFFFFFF, cnt := 0xFFFFFFFF },
  { base := 0xB0058, cap := 0xFE007FFF },
  { base := 0xB005C, wr := 0x801FFFFF },
  { base := 0xB0060, s1 := 0x4, c1 := 8 }]

/-! ## SAP -/

def rSAPnn_CTL (n : Nat) : Nat := 0xC0000 + 0x400 * n
def fSAPnn_CTL_DITHER (n : Nat) : Fld := ⟨0xC0000 + 0x400 * n, 24, 1⟩
def fSAPnn_CTL_DIV (n : Nat) : Fld := ⟨0xC0000 + 0x400 * n, 20, 2⟩
def fSAPnn_CTL_MCG (n : Nat) : Fld := ⟨0xC0000 + 0x400 * n, 16, 3⟩
def fSAPnn_CTL_WS_INV (n : Nat) : Fld := ⟨0xC0000 + 0x400 * n, 13, 1⟩
def fSAPnn_CTL_MASTER (n : Nat) : Fld := ⟨0xC0000 + 0x400 * n, 12, 1⟩
def fSAPnn_CTL_FMT (n : Nat) : Fld := ⟨0xC0000 + 0x400 * n, 8, 2⟩
def fSAPnn_CTL_SLOT (n : Nat) : Fld := ⟨0xC0000 + 0x400 * n, 6, 1⟩
def fSAPnn_CTL_WLEN (n : Nat) : Fld := ⟨0xC0000 + 0x400 * n, 4, 2⟩
def fSAPnn_CTL_EN (n : Nat) : Fld := ⟨0xC0000 + 0x400 * n, 0, 1⟩
def rSAPnn_SLOT_MASK (n : Nat) : Nat := 0xC0008 + 0x400 * n
def fSAPnn_SLOT_MASK_DIR (n : Nat) : Fld := ⟨0xC0008 + 0x400 * n, 8, 4⟩
def fSAPnn_SLOT_MASK_MASK (n : Nat) : Fld := ⟨0xC0008 + 0x400 * n, 0, 8⟩
def rSAPnn_STS (n : Nat) : Nat := 0xC000C + 0x400 * n
def fSAPnn_STS_ERR_CODE (n : Nat) : Fld := ⟨0xC000C + 0x400 * n, 28, 4⟩
def fSAPnn_STS_CFG_ERR (n : Nat) : Fld := ⟨0xC000C + 0x400 * n, 15, 1⟩
def fSAPnn_STS_MASK_PEND (n : Nat) : Fld := ⟨0xC000C + 0x400 * n, 14, 1⟩
def fSAPnn_STS_RATIO_ERR (n : Nat) : Fld := ⟨0xC000C + 0x400 * n, 13, 1⟩
def fSAPnn_STS_CLK_LOSS (n : Nat) : Fld := ⟨0xC000C + 0x400 * n, 12, 1⟩
def fSAPnn_STS_RESYNC (n : Nat) : Fld := ⟨0xC000C + 0x400 * n, 11, 1⟩
def fSAPnn_STS_ASRC_LOCK (n : Nat) : Fld := ⟨0xC000C + 0x400 * n, 10, 1⟩
def fSAPnn_STS_BYPASS (n : Nat) : Fld := ⟨0xC000C + 0x400 * n, 9, 1⟩
def fSAPnn_STS_RUN (n : Nat) : Fld := ⟨0xC000C + 0x400 * n, 8, 1⟩
def fSAPnn_STS_IN_COUNT (n : Nat) : Fld := ⟨0xC000C + 0x400 * n, 4, 4⟩
def fSAPnn_STS_OUT_COUNT (n : Nat) : Fld := ⟨0xC000C + 0x400 * n, 0, 4⟩
def rSAPnn_CH_CMD (n : Nat) : Nat := 0xC0010 + 0x400 * n
def fSAPnn_CH_CMD_OP (n : Nat) : Fld := ⟨0xC0010 + 0x400 * n, 28, 4⟩
def fSAPnn_CH_CMD_DIRSEL (n : Nat) : Fld := ⟨0xC0010 + 0x400 * n, 8, 1⟩
def fSAPnn_CH_CMD_CHMASK (n : Nat) : Fld := ⟨0xC0010 + 0x400 * n, 0, 8⟩
def rSAPnn_CH_STS (n : Nat) : Nat := 0xC0014 + 0x400 * n
def fSAPnn_CH_STS_OUT_MUTED (n : Nat) : Fld := ⟨0xC0014 + 0x400 * n, 24, 8⟩
def fSAPnn_CH_STS_OUT_RUN (n : Nat) : Fld := ⟨0xC0014 + 0x400 * n, 16, 8⟩
def fSAPnn_CH_STS_IN_MUTED (n : Nat) : Fld := ⟨0xC0014 + 0x400 * n, 8, 8⟩
def fSAPnn_CH_STS_IN_RUN (n : Nat) : Fld := ⟨0xC0014 + 0x400 * n, 0, 8⟩
def rSAPnn_CH_PEND (n : Nat) : Nat := 0xC0018 + 0x400 * n
def fSAPnn_CH_PEND_OUT_PEND (n : Nat) : Fld := ⟨0xC0018 + 0x400 * n, 16, 8⟩
def fSAPnn_CH_PEND_IN_PEND (n : Nat) : Fld := ⟨0xC0018 + 0x400 * n, 0, 8⟩
def rSAPnn_ZC_CFG (n : Nat) : Nat := 0xC001C + 0x400 * n
def fSAPnn_ZC_CFG_ZC_TO (n : Nat) : Fld := ⟨0xC001C + 0x400 * n, 16, 7⟩
def fSAPnn_ZC_CFG_ZC_CURVE (n : Nat) : Fld := ⟨0xC001C + 0x400 * n, 0, 6⟩
def rSAPnn_ASRC_RATIO (n : Nat) : Nat := 0xC0020 + 0x400 * n
def rSAPnn_WS_ERR_CNT (n : Nat) : Nat := 0xC0024 + 0x400 * n
def rSAPnn_ZC_TO_CNT (n : Nat) : Nat := 0xC0028 + 0x400 * n
def rSAPnn_ASRC_UNLOCK_CNT (n : Nat) : Nat := 0xC002C + 0x400 * n
def rSAPnn_CLK_LOSS_CNT (n : Nat) : Nat := 0xC0030 + 0x400 * n
def rSAPnn_SAT_CNT (n : Nat) : Nat := 0xC0034 + 0x400 * n
def rSAP_REFUSE_CNT : Nat := 0xC6000

/-- Rows of the SAP register summary. -/
def regsSAP : List RegDesc := [
  { base := 0xC0000, s1 := 0x400, c1 := 24, wr := 0x1373371, dcls := 0x1373370, own := some ⟨0xC0000, 0, 1⟩, ownS := 0x400 },
  { base := 0xC0008, s1 := 0x400, c1 := 24, wr := 0xFFF, mw := true },
  { base := 0xC000C, s1 := 0x400, c1 := 24 },
  { base := 0xC0010, s1 := 0x400, c1 := 24, wr := 0x1FF, cmd := 0xF0000000 },
  { base := 0xC0014, s1 := 0x400, c1 := 24 },
  { base := 0xC0018, s1 := 0x400, c1 := 24 },
  { base := 0xC001C, s1 := 0x400, c1 := 24, wr := 0x7F003F },
  { base := 0xC0020, s1 := 0x400, c1 := 24 },
  { base := 0xC0024, s1 := 0x400, c1 := 24, wr := 0xFFFFFFFF, cnt := 0xFFFFFFFF },
  { base := 0xC0028, s1 := 0x400, c1 := 24, wr := 0xFFFFFFFF, cnt := 0xFFFFFFFF },
  { base := 0xC002C, s1 := 0x400, c1 := 24, wr := 0xFFFFFFFF, cnt := 0xFFFFFFFF },
  { base := 0xC0030, s1 := 0x400, c1 := 24, wr := 0xFFFFFFFF, cnt := 0xFFFFFFFF },
  { base := 0xC0034, s1 := 0x400, c1 := 24, wr := 0xFFFFFFFF, cnt := 0xFFFFFFFF },
  { base := 0xC6000, wr := 0xFFFFFFFF, cnt := 0xFFFFFFFF }]

/-! ## NET -/

def rNETn_MAC_CFG (n : Nat) : Nat := 0xE0000 + 0x1000 * n
def fNETn_MAC_CFG_MAXLEN (n : Nat) : Fld := ⟨0xE0000 + 0x1000 * n, 24, 2⟩
def fNETn_MAC_CFG_PROMISC (n : Nat) : Fld := ⟨0xE0000 + 0x1000 * n, 16, 1⟩
def fNETn_MAC_CFG_BCAST_EN (n : Nat) : Fld := ⟨0xE0000 + 0x1000 * n, 8, 1⟩
def fNETn_MAC_CFG_EN (n : Nat) : Fld := ⟨0xE0000 + 0x1000 * n, 0, 1⟩
def rNETn_SERDES_CFG (n : Nat) : Nat := 0xE0004 + 0x1000 * n
def fNETn_SERDES_CFG_LOCK (n : Nat) : Fld := ⟨0xE0004 + 0x1000 * n, 31, 1⟩
def fNETn_SERDES_CFG_RATE (n : Nat) : Fld := ⟨0xE0004 + 0x1000 * n, 8, 2⟩
def fNETn_SERDES_CFG_AN_EN (n : Nat) : Fld := ⟨0xE0004 + 0x1000 * n, 5, 1⟩
def fNETn_SERDES_CFG_MODE (n : Nat) : Fld := ⟨0xE0004 + 0x1000 * n, 0, 4⟩
def rNETn_STS (n : Nat) : Nat := 0xE0008 + 0x1000 * n
def fNETn_STS_ERR_CODE (n : Nat) : Fld := ⟨0xE0008 + 0x1000 * n, 28, 4⟩
def fNETn_STS_CFG_ERR (n : Nat) : Fld := ⟨0xE0008 + 0x1000 * n, 15, 1⟩
def fNETn_STS_HDX (n : Nat) : Fld := ⟨0xE0008 + 0x1000 * n, 12, 1⟩
def fNETn_STS_RATE_ERR (n : Nat) : Fld := ⟨0xE0008 + 0x1000 * n, 11, 1⟩
def fNETn_STS_REMOTE_FAULT (n : Nat) : Fld := ⟨0xE0008 + 0x1000 * n, 10, 1⟩
def fNETn_STS_LOCAL_FAULT (n : Nat) : Fld := ⟨0xE0008 + 0x1000 * n, 9, 1⟩
def fNETn_STS_PCS_LOCK (n : Nat) : Fld := ⟨0xE0008 + 0x1000 * n, 8, 1⟩
def fNETn_STS_RUN_RATE (n : Nat) : Fld := ⟨0xE0008 + 0x1000 * n, 4, 2⟩
def fNETn_STS_LINK_UP (n : Nat) : Fld := ⟨0xE0008 + 0x1000 * n, 0, 1⟩
def rNETn_LINK_CFG (n : Nat) : Nat := 0xE000C + 0x1000 * n
def fNETn_LINK_CFG_DOWN_HOLD_US (n : Nat) : Fld := ⟨0xE000C + 0x1000 * n, 16, 8⟩
def fNETn_LINK_CFG_UP_HOLD_MS (n : Nat) : Fld := ⟨0xE000C + 0x1000 * n, 0, 8⟩
def rNETn_MAC_ADDR_L (n : Nat) : Nat := 0xE0010 + 0x1000 * n
def rNETn_MAC_ADDR_H (n : Nat) : Nat := 0xE0014 + 0x1000 * n
def fNETn_MAC_ADDR_H_ADDR (n : Nat) : Fld := ⟨0xE0014 + 0x1000 * n, 0, 16⟩
def rNETn_UCASTk_L (n k : Nat) : Nat := 0xE0020 + 0x1000 * n + 0x8 * k
def rNETn_UCASTk_H (n k : Nat) : Nat := 0xE0024 + 0x1000 * n + 0x8 * k
def fNETn_UCASTk_H_EN (n k : Nat) : Fld := ⟨0xE0024 + 0x1000 * n + 0x8 * k, 31, 1⟩
def fNETn_UCASTk_H_ADDR (n k : Nat) : Fld := ⟨0xE0024 + 0x1000 * n + 0x8 * k, 0, 16⟩
def rNETn_HASHkk (n k : Nat) : Nat := 0xE0080 + 0x1000 * n + 0x4 * k
def rNETn_RX_OCTETS_L (n : Nat) : Nat := 0xE0200 + 0x1000 * n
def rNETn_RX_OCTETS_H (n : Nat) : Nat := 0xE0204 + 0x1000 * n
def rNETn_RX_FRAMES_L (n : Nat) : Nat := 0xE0208 + 0x1000 * n
def rNETn_RX_FRAMES_H (n : Nat) : Nat := 0xE020C + 0x1000 * n
def rNETn_RX_UCAST_L (n : Nat) : Nat := 0xE0210 + 0x1000 * n
def rNETn_RX_UCAST_H (n : Nat) : Nat := 0xE0214 + 0x1000 * n
def rNETn_RX_MCAST_L (n : Nat) : Nat := 0xE0218 + 0x1000 * n
def rNETn_RX_MCAST_H (n : Nat) : Nat := 0xE021C + 0x1000 * n
def rNETn_RX_BCAST_L (n : Nat) : Nat := 0xE0220 + 0x1000 * n
def rNETn_RX_BCAST_H (n : Nat) : Nat := 0xE0224 + 0x1000 * n
def rNETn_RX_64_L (n : Nat) : Nat := 0xE0228 + 0x1000 * n
def rNETn_RX_64_H (n : Nat) : Nat := 0xE022C + 0x1000 * n
def rNETn_RX_65_127_L (n : Nat) : Nat := 0xE0230 + 0x1000 * n
def rNETn_RX_65_127_H (n : Nat) : Nat := 0xE0234 + 0x1000 * n
def rNETn_RX_128_255_L (n : Nat) : Nat := 0xE0238 + 0x1000 * n
def rNETn_RX_128_255_H (n : Nat) : Nat := 0xE023C + 0x1000 * n
def rNETn_RX_256_511_L (n : Nat) : Nat := 0xE0240 + 0x1000 * n
def rNETn_RX_256_511_H (n : Nat) : Nat := 0xE0244 + 0x1000 * n
def rNETn_RX_512_1023_L (n : Nat) : Nat := 0xE0248 + 0x1000 * n
def rNETn_RX_512_1023_H (n : Nat) : Nat := 0xE024C + 0x1000 * n
def rNETn_RX_1024_1518_L (n : Nat) : Nat := 0xE0250 + 0x1000 * n
def rNETn_RX_1024_1518_H (n : Nat) : Nat := 0xE0254 + 0x1000 * n
def rNETn_RX_1519_MAX_L (n : Nat) : Nat := 0xE0258 + 0x1000 * n
def rNETn_RX_1519_MAX_H (n : Nat) : Nat := 0xE025C + 0x1000 * n
def rNETn_TX_OCTETS_L (n : Nat) : Nat := 0xE0260 + 0x1000 * n
def rNETn_TX_OCTETS_H (n : Nat) : Nat := 0xE0264 + 0x1000 * n
def rNETn_TX_FRAMES_L (n : Nat) : Nat := 0xE0268 + 0x1000 * n
def rNETn_TX_FRAMES_H (n : Nat) : Nat := 0xE026C + 0x1000 * n
def rNETn_TX_UCAST_L (n : Nat) : Nat := 0xE0270 + 0x1000 * n
def rNETn_TX_UCAST_H (n : Nat) : Nat := 0xE0274 + 0x1000 * n
def rNETn_TX_MCAST_L (n : Nat) : Nat := 0xE0278 + 0x1000 * n
def rNETn_TX_MCAST_H (n : Nat) : Nat := 0xE027C + 0x1000 * n
def rNETn_TX_BCAST_L (n : Nat) : Nat := 0xE0280 + 0x1000 * n
def rNETn_TX_BCAST_H (n : Nat) : Nat := 0xE0284 + 0x1000 * n
def rNETn_RX_RUNT_CNT (n : Nat) : Nat := 0xE02A0 + 0x1000 * n
def rNETn_RX_OVERSIZE_CNT (n : Nat) : Nat := 0xE02A4 + 0x1000 * n
def rNETn_RX_FCS_ERR_CNT (n : Nat) : Nat := 0xE02A8 + 0x1000 * n
def rNETn_RX_PCS_ERR_CNT (n : Nat) : Nat := 0xE02AC + 0x1000 * n
def rNETn_RX_DROP_BUF_CNT (n : Nat) : Nat := 0xE02B0 + 0x1000 * n
def rNETn_RX_CTRL_CNT (n : Nat) : Nat := 0xE02B4 + 0x1000 * n
def rNETn_RX_CTRL_UNSUP_CNT (n : Nat) : Nat := 0xE02B8 + 0x1000 * n
def rNETn_RX_LPI_CNT (n : Nat) : Nat := 0xE02BC + 0x1000 * n
def rNETn_RX_FILTER_CNT (n : Nat) : Nat := 0xE02C0 + 0x1000 * n
def rNETn_TX_OVERSIZE_DROP_CNT (n : Nat) : Nat := 0xE02C4 + 0x1000 * n
def rNETn_TX_FLUSH_CNT (n : Nat) : Nat := 0xE02C8 + 0x1000 * n
def rNETn_TX_ABORT_CNT (n : Nat) : Nat := 0xE02CC + 0x1000 * n
def rNETn_TX_CTRL_CNT (n : Nat) : Nat := 0xE02D0 + 0x1000 * n
def rNETn_LINK_DOWN_CNT (n : Nat) : Nat := 0xE02D4 + 0x1000 * n
def rNETn_RX_LINKDOWN_CNT (n : Nat) : Nat := 0xE02D8 + 0x1000 * n
def rNETn_SNAP_RX_OCTETS_L (n : Nat) : Nat := 0xE0300 + 0x1000 * n
def rNETn_SNAP_RX_OCTETS_H (n : Nat) : Nat := 0xE0304 + 0x1000 * n
def rNETn_SNAP_RX_FRAMES_L (n : Nat) : Nat := 0xE0308 + 0x1000 * n
def rNETn_SNAP_RX_FRAMES_H (n : Nat) : Nat := 0xE030C + 0x1000 * n
def rNETn_SNAP_RX_UCAST_L (n : Nat) : Nat := 0xE0310 + 0x1000 * n
def rNETn_SNAP_RX_UCAST_H (n : Nat) : Nat := 0xE0314 + 0x1000 * n
def rNETn_SNAP_RX_MCAST_L (n : Nat) : Nat := 0xE0318 + 0x1000 * n
def rNETn_SNAP_RX_MCAST_H (n : Nat) : Nat := 0xE031C + 0x1000 * n
def rNETn_SNAP_RX_BCAST_L (n : Nat) : Nat := 0xE0320 + 0x1000 * n
def rNETn_SNAP_RX_BCAST_H (n : Nat) : Nat := 0xE0324 + 0x1000 * n
def rNETn_SNAP_RX_64_L (n : Nat) : Nat := 0xE0328 + 0x1000 * n
def rNETn_SNAP_RX_64_H (n : Nat) : Nat := 0xE032C + 0x1000 * n
def rNETn_SNAP_RX_65_127_L (n : Nat) : Nat := 0xE0330 + 0x1000 * n
def rNETn_SNAP_RX_65_127_H (n : Nat) : Nat := 0xE0334 + 0x1000 * n
def rNETn_SNAP_RX_128_255_L (n : Nat) : Nat := 0xE0338 + 0x1000 * n
def rNETn_SNAP_RX_128_255_H (n : Nat) : Nat := 0xE033C + 0x1000 * n
def rNETn_SNAP_RX_256_511_L (n : Nat) : Nat := 0xE0340 + 0x1000 * n
def rNETn_SNAP_RX_256_511_H (n : Nat) : Nat := 0xE0344 + 0x1000 * n
def rNETn_SNAP_RX_512_1023_L (n : Nat) : Nat := 0xE0348 + 0x1000 * n
def rNETn_SNAP_RX_512_1023_H (n : Nat) : Nat := 0xE034C + 0x1000 * n
def rNETn_SNAP_RX_1024_1518_L (n : Nat) : Nat := 0xE0350 + 0x1000 * n
def rNETn_SNAP_RX_1024_1518_H (n : Nat) : Nat := 0xE0354 + 0x1000 * n
def rNETn_SNAP_RX_1519_MAX_L (n : Nat) : Nat := 0xE0358 + 0x1000 * n
def rNETn_SNAP_RX_1519_MAX_H (n : Nat) : Nat := 0xE035C + 0x1000 * n
def rNETn_SNAP_TX_OCTETS_L (n : Nat) : Nat := 0xE0360 + 0x1000 * n
def rNETn_SNAP_TX_OCTETS_H (n : Nat) : Nat := 0xE0364 + 0x1000 * n
def rNETn_SNAP_TX_FRAMES_L (n : Nat) : Nat := 0xE0368 + 0x1000 * n
def rNETn_SNAP_TX_FRAMES_H (n : Nat) : Nat := 0xE036C + 0x1000 * n
def rNETn_SNAP_TX_UCAST_L (n : Nat) : Nat := 0xE0370 + 0x1000 * n
def rNETn_SNAP_TX_UCAST_H (n : Nat) : Nat := 0xE0374 + 0x1000 * n
def rNETn_SNAP_TX_MCAST_L (n : Nat) : Nat := 0xE0378 + 0x1000 * n
def rNETn_SNAP_TX_MCAST_H (n : Nat) : Nat := 0xE037C + 0x1000 * n
def rNETn_SNAP_TX_BCAST_L (n : Nat) : Nat := 0xE0380 + 0x1000 * n
def rNETn_SNAP_TX_BCAST_H (n : Nat) : Nat := 0xE0384 + 0x1000 * n
def rNETn_SNAP_RX_RUNT_CNT (n : Nat) : Nat := 0xE03A0 + 0x1000 * n
def rNETn_SNAP_RX_OVERSIZE_CNT (n : Nat) : Nat := 0xE03A4 + 0x1000 * n
def rNETn_SNAP_RX_FCS_ERR_CNT (n : Nat) : Nat := 0xE03A8 + 0x1000 * n
def rNETn_SNAP_RX_PCS_ERR_CNT (n : Nat) : Nat := 0xE03AC + 0x1000 * n
def rNETn_SNAP_RX_DROP_BUF_CNT (n : Nat) : Nat := 0xE03B0 + 0x1000 * n
def rNETn_SNAP_RX_CTRL_CNT (n : Nat) : Nat := 0xE03B4 + 0x1000 * n
def rNETn_SNAP_RX_CTRL_UNSUP_CNT (n : Nat) : Nat := 0xE03B8 + 0x1000 * n
def rNETn_SNAP_RX_LPI_CNT (n : Nat) : Nat := 0xE03BC + 0x1000 * n
def rNETn_SNAP_RX_FILTER_CNT (n : Nat) : Nat := 0xE03C0 + 0x1000 * n
def rNETn_SNAP_TX_OVERSIZE_DROP_CNT (n : Nat) : Nat := 0xE03C4 + 0x1000 * n
def rNETn_SNAP_TX_FLUSH_CNT (n : Nat) : Nat := 0xE03C8 + 0x1000 * n
def rNETn_SNAP_TX_ABORT_CNT (n : Nat) : Nat := 0xE03CC + 0x1000 * n
def rNETn_SNAP_TX_CTRL_CNT (n : Nat) : Nat := 0xE03D0 + 0x1000 * n
def rNETn_SNAP_LINK_DOWN_CNT (n : Nat) : Nat := 0xE03D4 + 0x1000 * n
def rNETn_SNAP_RX_LINKDOWN_CNT (n : Nat) : Nat := 0xE03D8 + 0x1000 * n
def rNET_SNAP_CMD : Nat := 0xE8000
def fNET_SNAP_CMD_SNAP : Fld := ⟨0xE8000, 31, 1⟩
def fNET_SNAP_CMD_CLR : Fld := ⟨0xE8000, 0, 1⟩
def rNET_SNAP_STS : Nat := 0xE8004
def fNET_SNAP_STS_BUSY : Fld := ⟨0xE8004, 31, 1⟩
def fNET_SNAP_STS_QUEUED : Fld := ⟨0xE8004, 30, 1⟩
def fNET_SNAP_STS_SEQ : Fld := ⟨0xE8004, 0, 16⟩
def rNET_SNAP_FT64_L : Nat := 0xE8008
def rNET_SNAP_FT64_H : Nat := 0xE800C
def rNET_REFUSE_CNT : Nat := 0xE8010
def rNET_SNAP_OVF_CNT : Nat := 0xE8014
def rNET_MDIO_CFG : Nat := 0xE8100
def fNET_MDIO_CFG_NO_PRE : Fld := ⟨0xE8100, 8, 1⟩
def fNET_MDIO_CFG_DIV : Fld := ⟨0xE8100, 0, 8⟩
def rNET_MDIO_CMD : Nat := 0xE8104
def fNET_MDIO_CMD_OP : Fld := ⟨0xE8104, 28, 4⟩
def fNET_MDIO_CMD_PRTAD : Fld := ⟨0xE8104, 21, 5⟩
def fNET_MDIO_CMD_DEVAD : Fld := ⟨0xE8104, 16, 5⟩
def fNET_MDIO_CMD_DATA : Fld := ⟨0xE8104, 0, 16⟩
def rNET_MDIO_ADDR : Nat := 0xE8108
def fNET_MDIO_ADDR_ADDR : Fld := ⟨0xE8108, 0, 16⟩
def rNET_MDIO_STS : Nat := 0xE810C
def fNET_MDIO_STS_BUSY : Fld := ⟨0xE810C, 31, 1⟩
def fNET_MDIO_STS_NO_RESP : Fld := ⟨0xE810C, 30, 1⟩
def fNET_MDIO_STS_RDATA : Fld := ⟨0xE810C, 0, 16⟩
def rNET_MDIO_OVF_CNT : Nat := 0xE8110
def rNETn_PCP_MAP (n : Nat) : Nat := 0xE0400 + 0x1000 * n
def fNETn_PCP_MAP_MAP (n : Nat) : Fld := ⟨0xE0400 + 0x1000 * n, 0, 24⟩
def rNETn_CLASS_CFG (n : Nat) : Nat := 0xE0404 + 0x1000 * n
def fNETn_CLASS_CFG_CBS6 (n : Nat) : Fld := ⟨0xE0404 + 0x1000 * n, 25, 1⟩
def fNETn_CLASS_CFG_CBS5 (n : Nat) : Fld := ⟨0xE0404 + 0x1000 * n, 24, 1⟩
def fNETn_CLASS_CFG_DEF_PCP (n : Nat) : Fld := ⟨0xE0404 + 0x1000 * n, 0, 3⟩
def rNETn_CBS5_SLOPE (n : Nat) : Nat := 0xE0408 + 0x1000 * n
def rNETn_CBS6_SLOPE (n : Nat) : Nat := 0xE040C + 0x1000 * n
def rNETn_CBS5_CREDIT (n : Nat) : Nat := 0xE0410 + 0x1000 * n
def rNETn_CBS6_CREDIT (n : Nat) : Nat := 0xE0414 + 0x1000 * n
def rNETn_GATE_CFG (n : Nat) : Nat := 0xE0420 + 0x1000 * n
def fNETn_GATE_CFG_EN (n : Nat) : Fld := ⟨0xE0420 + 0x1000 * n, 31, 1⟩
def fNETn_GATE_CFG_TCMP (n : Nat) : Fld := ⟨0xE0420 + 0x1000 * n, 16, 6⟩
def fNETn_GATE_CFG_LEN (n : Nat) : Fld := ⟨0xE0420 + 0x1000 * n, 0, 9⟩
def rNETn_GATE_CYCLE (n : Nat) : Nat := 0xE0424 + 0x1000 * n
def rNETn_GATE_BASE_L (n : Nat) : Nat := 0xE0428 + 0x1000 * n
def rNETn_GATE_BASE_H (n : Nat) : Nat := 0xE042C + 0x1000 * n
def rNETn_GATE_STS (n : Nat) : Nat := 0xE0430 + 0x1000 * n
def fNETn_GATE_STS_ERR_CODE (n : Nat) : Fld := ⟨0xE0430 + 0x1000 * n, 28, 4⟩
def fNETn_GATE_STS_CFG_ERR (n : Nat) : Fld := ⟨0xE0430 + 0x1000 * n, 27, 1⟩
def fNETn_GATE_STS_RUNNING (n : Nat) : Fld := ⟨0xE0430 + 0x1000 * n, 26, 1⟩
def fNETn_GATE_STS_GATES (n : Nat) : Fld := ⟨0xE0430 + 0x1000 * n, 8, 8⟩
def fNETn_GATE_STS_ENTRY (n : Nat) : Fld := ⟨0xE0430 + 0x1000 * n, 0, 8⟩
def rNETn_GATE_OVERRUN_CNT (n : Nat) : Nat := 0xE0434 + 0x1000 * n
def rNETn_GATE_OVERSIZE_CNT (n : Nat) : Nat := 0xE0438 + 0x1000 * n
def rNETn_MM_CFG (n : Nat) : Nat := 0xE0440 + 0x1000 * n
def fNETn_MM_CFG_EXPRESS (n : Nat) : Fld := ⟨0xE0440 + 0x1000 * n, 16, 8⟩
def fNETn_MM_CFG_VERIFY_MS (n : Nat) : Fld := ⟨0xE0440 + 0x1000 * n, 8, 8⟩
def fNETn_MM_CFG_ADD_FRAG_SIZE (n : Nat) : Fld := ⟨0xE0440 + 0x1000 * n, 4, 2⟩
def fNETn_MM_CFG_VERIFY_DIS (n : Nat) : Fld := ⟨0xE0440 + 0x1000 * n, 1, 1⟩
def fNETn_MM_CFG_PE_EN (n : Nat) : Fld := ⟨0xE0440 + 0x1000 * n, 0, 1⟩
def rNETn_MM_STS (n : Nat) : Nat := 0xE0444 + 0x1000 * n
def fNETn_MM_STS_HOLD (n : Nat) : Fld := ⟨0xE0444 + 0x1000 * n, 5, 1⟩
def fNETn_MM_STS_ACTIVE (n : Nat) : Fld := ⟨0xE0444 + 0x1000 * n, 4, 1⟩
def fNETn_MM_STS_VERIFY (n : Nat) : Fld := ⟨0xE0444 + 0x1000 * n, 0, 3⟩
def rNETn_MM_TX_FRAG_CNT (n : Nat) : Nat := 0xE0448 + 0x1000 * n
def rNETn_MM_RX_ASSY_OK_CNT (n : Nat) : Nat := 0xE044C + 0x1000 * n
def rNETn_MM_RX_ASSY_ERR_CNT (n : Nat) : Nat := 0xE0450 + 0x1000 * n
def rNETn_MM_RX_SMD_ERR_CNT (n : Nat) : Nat := 0xE0454 + 0x1000 * n
def rNETn_MM_VERIFY_FAIL_CNT (n : Nat) : Nat := 0xE0458 + 0x1000 * n
def rNETn_PAUSE_CFG (n : Nat) : Nat := 0xE0460 + 0x1000 * n
def fNETn_PAUSE_CFG_RX_EN (n : Nat) : Fld := ⟨0xE0460 + 0x1000 * n, 0, 1⟩
def rNETn_PAUSE_TX (n : Nat) : Nat := 0xE0464 + 0x1000 * n
def fNETn_PAUSE_TX_SEND (n : Nat) : Fld := ⟨0xE0464 + 0x1000 * n, 31, 1⟩
def fNETn_PAUSE_TX_TIME (n : Nat) : Fld := ⟨0xE0464 + 0x1000 * n, 0, 16⟩
def rNETn_PAUSE_STS (n : Nat) : Nat := 0xE0468 + 0x1000 * n
def fNETn_PAUSE_STS_PAUSED (n : Nat) : Fld := ⟨0xE0468 + 0x1000 * n, 31, 1⟩
def fNETn_PAUSE_STS_REMAIN (n : Nat) : Fld := ⟨0xE0468 + 0x1000 * n, 0, 16⟩
def rNETn_PAUSE_RX_CNT (n : Nat) : Nat := 0xE046C + 0x1000 * n
def rNETn_PAUSE_QUANTA_CNT (n : Nat) : Nat := 0xE0470 + 0x1000 * n

/-- Rows of the NET register summary. -/
def regsNET0 : List RegDesc := [
  { base := 0xE0000, s1 := 0x1000, c1 := 4, wr := 0x3010101, dcls := 0x3010100, own := some ⟨0xE0000, 0, 1⟩, ownS := 0x1000 },
  { base := 0xE0004, s1 := 0x1000, c1 := 4, wr := 0x8000032F, dcls := 0x32F, own := some ⟨0xE0000, 0, 1⟩, ownS := 0x1000, lock := true },
  { base := 0xE0008, s1 := 0x1000, c1 := 4 },
  { base := 0xE000C, s1 := 0x1000, c1 := 4, wr := 0xFF00FF },
  { base := 0xE0010, s1 := 0x1000, c1 := 4, wr := 0xFFFFFFFF, dcls := 0xFFFFFFFF, own := some ⟨0xE0000, 0, 1⟩, ownS := 0x1000 },
  { base := 0xE0014, s1 := 0x1000, c1 := 4, wr := 0xFFFF, dcls := 0xFFFF, own := some ⟨0xE0000, 0, 1⟩, ownS := 0x1000 },
  { base := 0xE0020, s1 := 0x1000, c1 := 4, s2 := 8, c2 := 8, wr := 0xFFFFFFFF },
  { base := 0xE0024, s1 := 0x1000, c1 := 4, s2 := 8, c2 := 8, wr := 0x8000FFFF },
  { base := 0xE0080, s1 := 0x1000, c1 := 4, s2 := 4, c2 := 16, wr := 0xFFFFFFFF },
  { base := 0xE0200, s1 := 0x1000, c1 := 4, wr := 0xFFFFFFFF, cnt := 0xFFFFFFFF },
  { base := 0xE0204, s1 := 0x1000, c1 := 4, wr := 0xFFFFFFFF, cnt := 0xFFFFFFFF },
  { base := 0xE0208, s1 := 0x1000, c1 := 4, wr := 0xFFFFFFFF, cnt := 0xFFFFFFFF },
  { base := 0xE020C, s1 := 0x1000, c1 := 4, wr := 0xFFFFFFFF, cnt := 0xFFFFFFFF },
  { base := 0xE0210, s1 := 0x1000, c1 := 4, wr := 0xFFFFFFFF, cnt := 0xFFFFFFFF },
  { base := 0xE0214, s1 := 0x1000, c1 := 4, wr := 0xFFFFFFFF, cnt := 0xFFFFFFFF },
  { base := 0xE0218, s1 := 0x1000, c1 := 4, wr := 0xFFFFFFFF, cnt := 0xFFFFFFFF },
  { base := 0xE021C, s1 := 0x1000, c1 := 4, wr := 0xFFFFFFFF, cnt := 0xFFFFFFFF },
  { base := 0xE0220, s1 := 0x1000, c1 := 4, wr := 0xFFFFFFFF, cnt := 0xFFFFFFFF },
  { base := 0xE0224, s1 := 0x1000, c1 := 4, wr := 0xFFFFFFFF, cnt := 0xFFFFFFFF },
  { base := 0xE0228, s1 := 0x1000, c1 := 4, wr := 0xFFFFFFFF, cnt := 0xFFFFFFFF },
  { base := 0xE022C, s1 := 0x1000, c1 := 4, wr := 0xFFFFFFFF, cnt := 0xFFFFFFFF },
  { base := 0xE0230, s1 := 0x1000, c1 := 4, wr := 0xFFFFFFFF, cnt := 0xFFFFFFFF },
  { base := 0xE0234, s1 := 0x1000, c1 := 4, wr := 0xFFFFFFFF, cnt := 0xFFFFFFFF },
  { base := 0xE0238, s1 := 0x1000, c1 := 4, wr := 0xFFFFFFFF, cnt := 0xFFFFFFFF },
  { base := 0xE023C, s1 := 0x1000, c1 := 4, wr := 0xFFFFFFFF, cnt := 0xFFFFFFFF },
  { base := 0xE0240, s1 := 0x1000, c1 := 4, wr := 0xFFFFFFFF, cnt := 0xFFFFFFFF },
  { base := 0xE0244, s1 := 0x1000, c1 := 4, wr := 0xFFFFFFFF, cnt := 0xFFFFFFFF },
  { base := 0xE0248, s1 := 0x1000, c1 := 4, wr := 0xFFFFFFFF, cnt := 0xFFFFFFFF },
  { base := 0xE024C, s1 := 0x1000, c1 := 4, wr := 0xFFFFFFFF, cnt := 0xFFFFFFFF },
  { base := 0xE0250, s1 := 0x1000, c1 := 4, wr := 0xFFFFFFFF, cnt := 0xFFFFFFFF },
  { base := 0xE0254, s1 := 0x1000, c1 := 4, wr := 0xFFFFFFFF, cnt := 0xFFFFFFFF },
  { base := 0xE0258, s1 := 0x1000, c1 := 4, wr := 0xFFFFFFFF, cnt := 0xFFFFFFFF },
  { base := 0xE025C, s1 := 0x1000, c1 := 4, wr := 0xFFFFFFFF, cnt := 0xFFFFFFFF },
  { base := 0xE0260, s1 := 0x1000, c1 := 4, wr := 0xFFFFFFFF, cnt := 0xFFFFFFFF },
  { base := 0xE0264, s1 := 0x1000, c1 := 4, wr := 0xFFFFFFFF, cnt := 0xFFFFFFFF },
  { base := 0xE0268, s1 := 0x1000, c1 := 4, wr := 0xFFFFFFFF, cnt := 0xFFFFFFFF },
  { base := 0xE026C, s1 := 0x1000, c1 := 4, wr := 0xFFFFFFFF, cnt := 0xFFFFFFFF },
  { base := 0xE0270, s1 := 0x1000, c1 := 4, wr := 0xFFFFFFFF, cnt := 0xFFFFFFFF },
  { base := 0xE0274, s1 := 0x1000, c1 := 4, wr := 0xFFFFFFFF, cnt := 0xFFFFFFFF },
  { base := 0xE0278, s1 := 0x1000, c1 := 4, wr := 0xFFFFFFFF, cnt := 0xFFFFFFFF }]

/-- Rows of the NET register summary. -/
def regsNET1 : List RegDesc := [
  { base := 0xE027C, s1 := 0x1000, c1 := 4, wr := 0xFFFFFFFF, cnt := 0xFFFFFFFF },
  { base := 0xE0280, s1 := 0x1000, c1 := 4, wr := 0xFFFFFFFF, cnt := 0xFFFFFFFF },
  { base := 0xE0284, s1 := 0x1000, c1 := 4, wr := 0xFFFFFFFF, cnt := 0xFFFFFFFF },
  { base := 0xE02A0, s1 := 0x1000, c1 := 4, wr := 0xFFFFFFFF, cnt := 0xFFFFFFFF },
  { base := 0xE02A4, s1 := 0x1000, c1 := 4, wr := 0xFFFFFFFF, cnt := 0xFFFFFFFF },
  { base := 0xE02A8, s1 := 0x1000, c1 := 4, wr := 0xFFFFFFFF, cnt := 0xFFFFFFFF },
  { base := 0xE02AC, s1 := 0x1000, c1 := 4, wr := 0xFFFFFFFF, cnt := 0xFFFFFFFF },
  { base := 0xE02B0, s1 := 0x1000, c1 := 4, wr := 0xFFFFFFFF, cnt := 0xFFFFFFFF },
  { base := 0xE02B4, s1 := 0x1000, c1 := 4, wr := 0xFFFFFFFF, cnt := 0xFFFFFFFF },
  { base := 0xE02B8, s1 := 0x1000, c1 := 4, wr := 0xFFFFFFFF, cnt := 0xFFFFFFFF },
  { base := 0xE02BC, s1 := 0x1000, c1 := 4, wr := 0xFFFFFFFF, cnt := 0xFFFFFFFF },
  { base := 0xE02C0, s1 := 0x1000, c1 := 4, wr := 0xFFFFFFFF, cnt := 0xFFFFFFFF },
  { base := 0xE02C4, s1 := 0x1000, c1 := 4, wr := 0xFFFFFFFF, cnt := 0xFFFFFFFF },
  { base := 0xE02C8, s1 := 0x1000, c1 := 4, wr := 0xFFFFFFFF, cnt := 0xFFFFFFFF },
  { base := 0xE02CC, s1 := 0x1000, c1 := 4, wr := 0xFFFFFFFF, cnt := 0xFFFFFFFF },
  { base := 0xE02D0, s1 := 0x1000, c1 := 4, wr := 0xFFFFFFFF, cnt := 0xFFFFFFFF },
  { base := 0xE02D4, s1 := 0x1000, c1 := 4, wr := 0xFFFFFFFF, cnt := 0xFFFFFFFF },
  { base := 0xE02D8, s1 := 0x1000, c1 := 4, wr := 0xFFFFFFFF, cnt := 0xFFFFFFFF },
  { base := 0xE0300, s1 := 0x1000, c1 := 4 },
  { base := 0xE0304, s1 := 0x1000, c1 := 4 },
  { base := 0xE0308, s1 := 0x1000, c1 := 4 },
  { base := 0xE030C, s1 := 0x1000, c1 := 4 },
  { base := 0xE0310, s1 := 0x1000, c1 := 4 },
  { base := 0xE0314, s1 := 0x1000, c1 := 4 },
  { base := 0xE0318, s1 := 0x1000, c1 := 4 },
  { base := 0xE031C, s1 := 0x1000, c1 := 4 },
  { base := 0xE0320, s1 := 0x1000, c1 := 4 },
  { base := 0xE0324, s1 := 0x1000, c1 := 4 },
  { base := 0xE0328, s1 := 0x1000, c1 := 4 },
  { base := 0xE032C, s1 := 0x1000, c1 := 4 },
  { base := 0xE0330, s1 := 0x1000, c1 := 4 },
  { base := 0xE0334, s1 := 0x1000, c1 := 4 },
  { base := 0xE0338, s1 := 0x1000, c1 := 4 },
  { base := 0xE033C, s1 := 0x1000, c1 := 4 },
  { base := 0xE0340, s1 := 0x1000, c1 := 4 },
  { base := 0xE0344, s1 := 0x1000, c1 := 4 },
  { base := 0xE0348, s1 := 0x1000, c1 := 4 },
  { base := 0xE034C, s1 := 0x1000, c1 := 4 },
  { base := 0xE0350, s1 := 0x1000, c1 := 4 },
  { base := 0xE0354, s1 := 0x1000, c1 := 4 }]

/-- Rows of the NET register summary. -/
def regsNET2 : List RegDesc := [
  { base := 0xE0358, s1 := 0x1000, c1 := 4 },
  { base := 0xE035C, s1 := 0x1000, c1 := 4 },
  { base := 0xE0360, s1 := 0x1000, c1 := 4 },
  { base := 0xE0364, s1 := 0x1000, c1 := 4 },
  { base := 0xE0368, s1 := 0x1000, c1 := 4 },
  { base := 0xE036C, s1 := 0x1000, c1 := 4 },
  { base := 0xE0370, s1 := 0x1000, c1 := 4 },
  { base := 0xE0374, s1 := 0x1000, c1 := 4 },
  { base := 0xE0378, s1 := 0x1000, c1 := 4 },
  { base := 0xE037C, s1 := 0x1000, c1 := 4 },
  { base := 0xE0380, s1 := 0x1000, c1 := 4 },
  { base := 0xE0384, s1 := 0x1000, c1 := 4 },
  { base := 0xE03A0, s1 := 0x1000, c1 := 4 },
  { base := 0xE03A4, s1 := 0x1000, c1 := 4 },
  { base := 0xE03A8, s1 := 0x1000, c1 := 4 },
  { base := 0xE03AC, s1 := 0x1000, c1 := 4 },
  { base := 0xE03B0, s1 := 0x1000, c1 := 4 },
  { base := 0xE03B4, s1 := 0x1000, c1 := 4 },
  { base := 0xE03B8, s1 := 0x1000, c1 := 4 },
  { base := 0xE03BC, s1 := 0x1000, c1 := 4 },
  { base := 0xE03C0, s1 := 0x1000, c1 := 4 },
  { base := 0xE03C4, s1 := 0x1000, c1 := 4 },
  { base := 0xE03C8, s1 := 0x1000, c1 := 4 },
  { base := 0xE03CC, s1 := 0x1000, c1 := 4 },
  { base := 0xE03D0, s1 := 0x1000, c1 := 4 },
  { base := 0xE03D4, s1 := 0x1000, c1 := 4 },
  { base := 0xE03D8, s1 := 0x1000, c1 := 4 },
  { base := 0xE8000, wr := 0x1, cmd := 0x80000000 },
  { base := 0xE8004 },
  { base := 0xE8008 },
  { base := 0xE800C },
  { base := 0xE8010, wr := 0xFFFFFFFF, cnt := 0xFFFFFFFF },
  { base := 0xE8014, wr := 0xFFFFFFFF, cnt := 0xFFFFFFFF },
  { base := 0xE8100, wr := 0x1FF },
  { base := 0xE8104, wr := 0x3FFFFFF, cmd := 0xF0000000 },
  { base := 0xE8108, wr := 0xFFFF },
  { base := 0xE810C },
  { base := 0xE8110, wr := 0xFFFFFFFF, cnt := 0xFFFFFFFF },
  { base := 0xE0400, s1 := 0x1000, c1 := 4, wr := 0xFFFFFF, dcls := 0xFFFFFF, own := some ⟨0xE0000, 0, 1⟩, ownS := 0x1000 },
  { base := 0xE0404, s1 := 0x1000, c1 := 4, wr := 0x3000007 }]

/-- Rows of the NET register summary. -/
def regsNET3 : List RegDesc := [
  { base := 0xE0408, s1 := 0x1000, c1 := 4, wr := 0xFFFFFFFF },
  { base := 0xE040C, s1 := 0x1000, c1 := 4, wr := 0xFFFFFFFF },
  { base := 0xE0410, s1 := 0x1000, c1 := 4 },
  { base := 0xE0414, s1 := 0x1000, c1 := 4 },
  { base := 0xE0420, s1 := 0x1000, c1 := 4, wr := 0x803F01FF, dcls := 0x3F01FF, own := some ⟨0xE0420, 31, 1⟩, ownS := 0x1000 },
  { base := 0xE0424, s1 := 0x1000, c1 := 4, wr := 0xFFFFFFFF, dcls := 0xFFFFFFFF, own := some ⟨0xE0420, 31, 1⟩, ownS := 0x1000 },
  { base := 0xE0428, s1 := 0x1000, c1 := 4, wr := 0xFFFFFFFF, dcls := 0xFFFFFFFF, own := some ⟨0xE0420, 31, 1⟩, ownS := 0x1000 },
  { base := 0xE042C, s1 := 0x1000, c1 := 4, wr := 0xFFFFFFFF, dcls := 0xFFFFFFFF, own := some ⟨0xE0420, 31, 1⟩, ownS := 0x1000 },
  { base := 0xE0430, s1 := 0x1000, c1 := 4 },
  { base := 0xE0434, s1 := 0x1000, c1 := 4, wr := 0xFFFFFFFF, cnt := 0xFFFFFFFF },
  { base := 0xE0438, s1 := 0x1000, c1 := 4, wr := 0xFFFFFFFF, cnt := 0xFFFFFFFF },
  { base := 0xE0440, s1 := 0x1000, c1 := 4, wr := 0xFFFF33 },
  { base := 0xE0444, s1 := 0x1000, c1 := 4 },
  { base := 0xE0448, s1 := 0x1000, c1 := 4, wr := 0xFFFFFFFF, cnt := 0xFFFFFFFF },
  { base := 0xE044C, s1 := 0x1000, c1 := 4, wr := 0xFFFFFFFF, cnt := 0xFFFFFFFF },
  { base := 0xE0450, s1 := 0x1000, c1 := 4, wr := 0xFFFFFFFF, cnt := 0xFFFFFFFF },
  { base := 0xE0454, s1 := 0x1000, c1 := 4, wr := 0xFFFFFFFF, cnt := 0xFFFFFFFF },
  { base := 0xE0458, s1 := 0x1000, c1 := 4, wr := 0xFFFFFFFF, cnt := 0xFFFFFFFF },
  { base := 0xE0460, s1 := 0x1000, c1 := 4, wr := 0x1 },
  { base := 0xE0464, s1 := 0x1000, c1 := 4, wr := 0xFFFF, cmd := 0x80000000 },
  { base := 0xE0468, s1 := 0x1000, c1 := 4 },
  { base := 0xE046C, s1 := 0x1000, c1 := 4, wr := 0xFFFFFFFF, cnt := 0xFFFFFFFF },
  { base := 0xE0470, s1 := 0x1000, c1 := 4, wr := 0xFFFFFFFF, cnt := 0xFFFFFFFF }]

/-- The NET register summary. -/
def regsNET : List RegDesc := regsNET0 ++ regsNET1 ++ regsNET2 ++ regsNET3

/-! ## MIO -/

def rMIO_CFG : Nat := 0x100000
def fMIO_CFG_AGE_S : Fld := ⟨0x100000, 20, 12⟩
def fMIO_CFG_EDGE_MGMT : Fld := ⟨0x100000, 8, 1⟩
def fMIO_CFG_UNKNOWN_MC : Fld := ⟨0x100000, 4, 1⟩
def fMIO_CFG_EN : Fld := ⟨0x100000, 0, 1⟩
def rMIO_STS : Nat := 0x100004
def fMIO_STS_ERR_CODE : Fld := ⟨0x100004, 28, 4⟩
def fMIO_STS_CFG_ERR : Fld := ⟨0x100004, 27, 1⟩
def fMIO_STS_FNID_STATE : Fld := ⟨0x100004, 16, 3⟩
def fMIO_STS_FNID_CONFLICT : Fld := ⟨0x100004, 7, 1⟩
def fMIO_STS_SEG_OVER_B : Fld := ⟨0x100004, 6, 1⟩
def fMIO_STS_SEG_OVER_A : Fld := ⟨0x100004, 5, 1⟩
def fMIO_STS_BREAK_B : Fld := ⟨0x100004, 4, 1⟩
def fMIO_STS_BREAK_A : Fld := ⟨0x100004, 3, 1⟩
def fMIO_STS_RING_B : Fld := ⟨0x100004, 2, 1⟩
def fMIO_STS_RING_A : Fld := ⟨0x100004, 1, 1⟩
def fMIO_STS_RUN : Fld := ⟨0x100004, 0, 1⟩
def rMIO_FNID_CFG : Nat := 0x100008
def fMIO_FNID_CFG_MODE : Fld := ⟨0x100008, 31, 1⟩
def fMIO_FNID_CFG_PAIR_FNID : Fld := ⟨0x100008, 16, 12⟩
def fMIO_FNID_CFG_CFG_FNID : Fld := ⟨0x100008, 0, 12⟩
def rMIO_FNID : Nat := 0x10000C
def fMIO_FNID_FNID : Fld := ⟨0x10000C, 0, 12⟩
def rMIO_PORT_CFG : Nat := 0x100010
def fMIO_PORT_CFG_ROLES : Fld := ⟨0x100010, 0, 8⟩
def rMIO_PORT_STS : Nat := 0x100014
def rMIO_QLIM : Nat := 0x100018
def rMIO_RING_A : Nat := 0x10001C
def fMIO_RING_A_OWNER : Fld := ⟨0x10001C, 16, 12⟩
def fMIO_RING_A_NODES : Fld := ⟨0x10001C, 0, 8⟩
def rMIO_RING_B : Nat := 0x100020
def fMIO_RING_B_OWNER : Fld := ⟨0x100020, 16, 12⟩
def fMIO_RING_B_NODES : Fld := ⟨0x100020, 0, 8⟩
def rMIO_TBL_CMD : Nat := 0x100030
def fMIO_TBL_CMD_OP : Fld := ⟨0x100030, 28, 4⟩
def fMIO_TBL_CMD_TBL : Fld := ⟨0x100030, 24, 2⟩
def fMIO_TBL_CMD_INDEX : Fld := ⟨0x100030, 0, 16⟩
def rMIO_TBL_DATAk (n : Nat) : Nat := 0x100034 + 0x4 * n
def rMIO_TBL_STS : Nat := 0x100044
def fMIO_TBL_STS_BUSY : Fld := ⟨0x100044, 31, 1⟩
def fMIO_TBL_STS_RESULT : Fld := ⟨0x100044, 28, 2⟩
def rMIO_NO_EGR_CNT : Nat := 0x100080
def rMIO_MC_MISS_CNT : Nat := 0x100084
def rMIO_SAME_PORT_CNT : Nat := 0x100088
def rMIO_LEARN_FULL_CNT : Nat := 0x10008C
def rMIO_MOVE_CNT : Nat := 0x100090
def rMIO_BAD_FRAME_CNT : Nat := 0x100094
def rMIO_EDGE_MIO_CNT : Nat := 0x100098
def rMIO_TOPO_OVF_CNT : Nat := 0x10009C
def rMIO_FNID_CONF_CNT : Nat := 0x1000A0
def rMIO_HOP_DROP_CNT : Nat := 0x1000A4
def rMIO_NOROUTE_CNT : Nat := 0x1000A8
def rMIO_REPLAY_CNT : Nat := 0x1000AC
def rMIO_REPLAY_BUSY_CNT : Nat := 0x1000B0
def rMIO_REPLAY_EVICT_CNT : Nat := 0x1000B4
def rMIO_LATE_RSP_CNT : Nat := 0x1000B8
def rMIO_REQ_TIMEOUT_CNT : Nat := 0x1000BC
def rMIO_REQ_RETX_CNT : Nat := 0x1000C0
def rMIO_REQ_OVF_CNT : Nat := 0x1000C4
def rMIO_BREAK_MOVE_CNT : Nat := 0x1000C8
def rMIO_TBL_REFUSE_CNT : Nat := 0x1000CC
def rMIO_REFUSE_CNT : Nat := 0x1000D0
def rMIO_BLK_DROP_Pp_CNT (n : Nat) : Nat := 0x1000E0 + 0x4 * n
def rMIO_QLIM_DROP_Pp_CNT (n : Nat) : Nat := 0x1000F0 + 0x4 * n
def rMIO_LINK_LOSS_Pp_CNT (n : Nat) : Nat := 0x100180 + 0x4 * n
def rMIO_REQ_CMD : Nat := 0x100100
def fMIO_REQ_CMD_OP : Fld := ⟨0x100100, 28, 4⟩
def fMIO_REQ_CMD_COUNT : Fld := ⟨0x100100, 20, 8⟩
def fMIO_REQ_CMD_TAG : Fld := ⟨0x100100, 0, 16⟩
def rMIO_REQ_CFG : Nat := 0x100104
def fMIO_REQ_CFG_TIMEOUT_MS : Fld := ⟨0x100104, 16, 8⟩
def fMIO_REQ_CFG_RETX_MS : Fld := ⟨0x100104, 0, 8⟩
def rMIO_REQ_STS : Nat := 0x100108
def fMIO_REQ_STS_BUSY : Fld := ⟨0x100108, 31, 1⟩
def fMIO_REQ_STS_RESULT : Fld := ⟨0x100108, 28, 2⟩
def fMIO_REQ_STS_STATUS : Fld := ⟨0x100108, 16, 8⟩
def fMIO_REQ_STS_INDEX : Fld := ⟨0x100108, 0, 8⟩
def rMIO_REQ_DEST : Nat := 0x10010C
def fMIO_REQ_DEST_FNID : Fld := ⟨0x10010C, 0, 12⟩
def rMIO_REQ_ADDR : Nat := 0x100110
def fMIO_REQ_ADDR_ADDR : Fld := ⟨0x100110, 0, 24⟩
def rMIO_REQkk_DATA (n : Nat) : Nat := 0x100200 + 0x4 * n
def rMIO_RSPkk_DATA (n : Nat) : Nat := 0x100300 + 0x4 * n

/-- Rows of the MIO register summary. -/
def regsMIO0 : List RegDesc := [
  { base := 0x100000, wr := 0xFFF00111, dcls := 0xFFF00110, own := some ⟨0x100000, 0, 1⟩ },
  { base := 0x100004 },
  { base := 0x100008, wr := 0x8FFF0FFF, dcls := 0x8FFF0FFF, own := some ⟨0x100000, 0, 1⟩ },
  { base := 0x10000C },
  { base := 0x100010, wr := 0xFF, dcls := 0xFF, own := some ⟨0x100000, 0, 1⟩ },
  { base := 0x100014 },
  { base := 0x100018, wr := 0xFFFFFFFF },
  { base := 0x10001C },
  { base := 0x100020 },
  { base := 0x100030, wr := 0x300FFFF, cmd := 0xF0000000 },
  { base := 0x100034, s1 := 0x4, c1 := 4, wr := 0xFFFFFFFF },
  { base := 0x100044 },
  { base := 0x100080, wr := 0xFFFFFFFF, cnt := 0xFFFFFFFF },
  { base := 0x100084, wr := 0xFFFFFFFF, cnt := 0xFFFFFFFF },
  { base := 0x100088, wr := 0xFFFFFFFF, cnt := 0xFFFFFFFF },
  { base := 0x10008C, wr := 0xFFFFFFFF, cnt := 0xFFFFFFFF },
  { base := 0x100090, wr := 0xFFFFFFFF, cnt := 0xFFFFFFFF },
  { base := 0x100094, wr := 0xFFFFFFFF, cnt := 0xFFFFFFFF },
  { base := 0x100098, wr := 0xFFFFFFFF, cnt := 0xFFFFFFFF },
  { base := 0x10009C, wr := 0xFFFFFFFF, cnt := 0xFFFFFFFF },
  { base := 0x1000A0, wr := 0xFFFFFFFF, cnt := 0xFFFFFFFF },
  { base := 0x1000A4, wr := 0xFFFFFFFF, cnt := 0xFFFFFFFF },
  { base := 0x1000A8, wr := 0xFFFFFFFF, cnt := 0xFFFFFFFF },
  { base := 0x1000AC, wr := 0xFFFFFFFF, cnt := 0xFFFFFFFF },
  { base := 0x1000B0, wr := 0xFFFFFFFF, cnt := 0xFFFFFFFF },
  { base := 0x1000B4, wr := 0xFFFFFFFF, cnt := 0xFFFFFFFF },
  { base := 0x1000B8, wr := 0xFFFFFFFF, cnt := 0xFFFFFFFF },
  { base := 0x1000BC, wr := 0xFFFFFFFF, cnt := 0xFFFFFFFF },
  { base := 0x1000C0, wr := 0xFFFFFFFF, cnt := 0xFFFFFFFF },
  { base := 0x1000C4, wr := 0xFFFFFFFF, cnt := 0xFFFFFFFF },
  { base := 0x1000C8, wr := 0xFFFFFFFF, cnt := 0xFFFFFFFF },
  { base := 0x1000CC, wr := 0xFFFFFFFF, cnt := 0xFFFFFFFF },
  { base := 0x1000D0, wr := 0xFFFFFFFF, cnt := 0xFFFFFFFF },
  { base := 0x1000E0, s1 := 0x4, c1 := 4, wr := 0xFFFFFFFF, cnt := 0xFFFFFFFF },
  { base := 0x1000F0, s1 := 0x4, c1 := 4, wr := 0xFFFFFFFF, cnt := 0xFFFFFFFF },
  { base := 0x100180, s1 := 0x4, c1 := 4, wr := 0xFFFFFFFF, cnt := 0xFFFFFFFF },
  { base := 0x100100, wr := 0xFF0FFFF, cmd := 0xF0000000 },
  { base := 0x100104, wr := 0xFF00FF },
  { base := 0x100108 },
  { base := 0x10010C, wr := 0xFFF }]

/-- Rows of the MIO register summary. -/
def regsMIO1 : List RegDesc := [
  { base := 0x100110, wr := 0xFFFFFF },
  { base := 0x100200, s1 := 0x4, c1 := 60, wr := 0xFFFFFFFF },
  { base := 0x100300, s1 := 0x4, c1 := 60 }]

/-- The MIO register summary. -/
def regsMIO : List RegDesc := regsMIO0 ++ regsMIO1

end Sys2Proof.Machine
end

