-- ==== Sys2Proof/Machine/RegMapC.lean ====
section
/-! DEFINITION. The registers and fields of the blocks T1S, CUE, HALO, HQ, RQL, DDR, INT, PIN: addresses (`r…`), fields (`f…`) and the
rows of the block's register summaries, as the spec's summary and field tables give them. -/

namespace Sys2Proof.Machine

open Sys2Proof

/-! ## T1S -/

def rT1S_CFG : Nat := 0x110000
def fT1S_CFG_RXQ : Fld := ⟨0x110000, 16, 5⟩
def fT1S_CFG_PROMISC : Fld := ⟨0x110000, 8, 1⟩
def fT1S_CFG_EN : Fld := ⟨0x110000, 0, 1⟩
def rT1S_STS : Nat := 0x110004
def fT1S_STS_ERR_CODE : Fld := ⟨0x110004, 28, 4⟩
def fT1S_STS_CFG_ERR : Fld := ⟨0x110004, 27, 1⟩
def fT1S_STS_PLCA_ACTIVE : Fld := ⟨0x110004, 2, 1⟩
def fT1S_STS_LINK : Fld := ⟨0x110004, 1, 1⟩
def fT1S_STS_RUN : Fld := ⟨0x110004, 0, 1⟩
def rT1S_PLCA_CFG : Nat := 0x110008
def fT1S_PLCA_CFG_PLCA_EN : Fld := ⟨0x110008, 31, 1⟩
def fT1S_PLCA_CFG_NODE_ID : Fld := ⟨0x110008, 16, 3⟩
def fT1S_PLCA_CFG_NODE_COUNT : Fld := ⟨0x110008, 8, 4⟩
def fT1S_PLCA_CFG_TO_TIMER : Fld := ⟨0x110008, 0, 8⟩
def rT1S_PLCA_BURST : Nat := 0x11000C
def fT1S_PLCA_BURST_MAX_BURST : Fld := ⟨0x11000C, 8, 8⟩
def fT1S_PLCA_BURST_BURST_TIMER : Fld := ⟨0x11000C, 0, 8⟩
def rT1S_MAC_ADDR_L : Nat := 0x110010
def rT1S_MAC_ADDR_H : Nat := 0x110014
def fT1S_MAC_ADDR_H_ADDR : Fld := ⟨0x110014, 0, 16⟩
def rT1S_MGMT_RANGE : Nat := 0x110018
def fT1S_MGMT_RANGE_HI : Fld := ⟨0x110018, 16, 12⟩
def fT1S_MGMT_RANGE_LO : Fld := ⟨0x110018, 0, 12⟩
def rT1S_TX_FRAME_CNT : Nat := 0x110040
def rT1S_RX_FRAME_CNT : Nat := 0x110044
def rT1S_COL_CNT : Nat := 0x110048
def rT1S_EXCESS_COL_CNT : Nat := 0x11004C
def rT1S_LATE_COL_CNT : Nat := 0x110050
def rT1S_RX_RUNT_CNT : Nat := 0x110054
def rT1S_RX_OVERSIZE_CNT : Nat := 0x110058
def rT1S_RX_FCS_ERR_CNT : Nat := 0x11005C
def rT1S_RX_FILTER_CNT : Nat := 0x110060
def rT1S_BEACON_LOSS_CNT : Nat := 0x110064
def rT1S_TX_CANCEL_CNT : Nat := 0x110068
def rT1S_TX_QFULL_CNT : Nat := 0x11006C

/-- Rows of the T1S register summary. -/
def regsT1S : List RegDesc := [
  { base := 0x110000, wr := 0x1F0101, dcls := 0x1F0100, own := some ⟨0x110000, 0, 1⟩ },
  { base := 0x110004 },
  { base := 0x110008, wr := 0x80070FFF, dcls := 0x80070FFF, own := some ⟨0x110000, 0, 1⟩ },
  { base := 0x11000C, wr := 0xFFFF, dcls := 0xFFFF, own := some ⟨0x110000, 0, 1⟩ },
  { base := 0x110010, wr := 0xFFFFFFFF, dcls := 0xFFFFFFFF, own := some ⟨0x110000, 0, 1⟩ },
  { base := 0x110014, wr := 0xFFFF, dcls := 0xFFFF, own := some ⟨0x110000, 0, 1⟩ },
  { base := 0x110018, wr := 0xFFF0FFF },
  { base := 0x110040, wr := 0xFFFFFFFF, cnt := 0xFFFFFFFF },
  { base := 0x110044, wr := 0xFFFFFFFF, cnt := 0xFFFFFFFF },
  { base := 0x110048, wr := 0xFFFFFFFF, cnt := 0xFFFFFFFF },
  { base := 0x11004C, wr := 0xFFFFFFFF, cnt := 0xFFFFFFFF },
  { base := 0x110050, wr := 0xFFFFFFFF, cnt := 0xFFFFFFFF },
  { base := 0x110054, wr := 0xFFFFFFFF, cnt := 0xFFFFFFFF },
  { base := 0x110058, wr := 0xFFFFFFFF, cnt := 0xFFFFFFFF },
  { base := 0x11005C, wr := 0xFFFFFFFF, cnt := 0xFFFFFFFF },
  { base := 0x110060, wr := 0xFFFFFFFF, cnt := 0xFFFFFFFF },
  { base := 0x110064, wr := 0xFFFFFFFF, cnt := 0xFFFFFFFF },
  { base := 0x110068, wr := 0xFFFFFFFF, cnt := 0xFFFFFFFF },
  { base := 0x11006C, wr := 0xFFFFFFFF, cnt := 0xFFFFFFFF }]

/-! ## CUE -/

def rCUE_CFG : Nat := 0x120000
def fCUE_CFG_EN : Fld := ⟨0x120000, 31, 1⟩
def fCUE_CFG_TCMP_NUM : Fld := ⟨0x120000, 8, 4⟩
def fCUE_CFG_TCMP_BASE : Fld := ⟨0x120000, 0, 6⟩
def rCUE_STS : Nat := 0x120004
def fCUE_STS_ERR_CODE : Fld := ⟨0x120004, 28, 4⟩
def fCUE_STS_CFG_ERR : Fld := ⟨0x120004, 27, 1⟩
def fCUE_STS_LTC_LOCK : Fld := ⟨0x120004, 2, 1⟩
def fCUE_STS_LTC_RUN : Fld := ⟨0x120004, 1, 1⟩
def fCUE_STS_RUN : Fld := ⟨0x120004, 0, 1⟩
def rCUE_GO : Nat := 0x120008
def fCUE_GO_OP : Fld := ⟨0x120008, 28, 4⟩
def fCUE_GO_CUE : Fld := ⟨0x120008, 0, 12⟩
def rCUE_TBL_CMD : Nat := 0x12000C
def fCUE_TBL_CMD_OP : Fld := ⟨0x12000C, 28, 4⟩
def fCUE_TBL_CMD_CUE : Fld := ⟨0x12000C, 0, 12⟩
def rCUE_TBL_STS : Nat := 0x120010
def fCUE_TBL_STS_BUSY : Fld := ⟨0x120010, 31, 1⟩
def fCUE_TBL_STS_RESULT : Fld := ⟨0x120010, 28, 2⟩
def fCUE_TBL_STS_STATE : Fld := ⟨0x120010, 0, 2⟩
def rCUE_TBL_DATAk (n : Nat) : Nat := 0x120040 + 0x4 * n
def rCUE_PIN_OUT : Nat := 0x120080
def fCUE_PIN_OUT_LEVELS : Fld := ⟨0x120080, 0, 16⟩
def rCUE_PIN_IN : Nat := 0x120084
def fCUE_PIN_IN_LEVELS : Fld := ⟨0x120084, 0, 16⟩
def rCUE_LAST : Nat := 0x120088
def fCUE_LAST_VALID : Fld := ⟨0x120088, 31, 1⟩
def fCUE_LAST_CUE : Fld := ⟨0x120088, 0, 12⟩
def rCUE_ACT_ERR : Nat := 0x12008C
def fCUE_ACT_ERR_VALID : Fld := ⟨0x12008C, 31, 1⟩
def fCUE_ACT_ERR_CODE : Fld := ⟨0x12008C, 28, 3⟩
def fCUE_ACT_ERR_ACT : Fld := ⟨0x12008C, 24, 3⟩
def fCUE_ACT_ERR_CUE : Fld := ⟨0x12008C, 0, 12⟩
def rCUE_FIRE_CNT : Nat := 0x1200A0
def rCUE_EXPIRED_CNT : Nat := 0x1200A4
def rCUE_FRAME_DROP_CNT : Nat := 0x1200A8
def rCUE_LATE_CNT : Nat := 0x1200AC
def rCUE_RETRIG_CNT : Nat := 0x1200B0
def rCUE_CHAIN_DROP_CNT : Nat := 0x1200B4
def rCUE_ACT_REFUSE_CNT : Nat := 0x1200B8
def rCUE_SUPPRESS_CNT : Nat := 0x1200BC
def rCUE_E131_PRI_DROP_CNT : Nat := 0x1200C0
def rCUE_E131_SEQ_DROP_CNT : Nat := 0x1200C4
def rCUE_TBL_REFUSE_CNT : Nat := 0x1200C8
def rCUE_REFUSE_CNT : Nat := 0x1200CC
def rCUE_DMXp_CFG (n : Nat) : Nat := 0x120100 + 0x10 * n
def fCUE_DMXp_CFG_EN (n : Nat) : Fld := ⟨0x120100 + 0x10 * n, 31, 1⟩
def fCUE_DMXp_CFG_SLOTS (n : Nat) : Fld := ⟨0x120100 + 0x10 * n, 16, 10⟩
def fCUE_DMXp_CFG_BREAK_US (n : Nat) : Fld := ⟨0x120100 + 0x10 * n, 0, 10⟩
def rCUE_DMXp_TIME (n : Nat) : Nat := 0x120104 + 0x10 * n
def fCUE_DMXp_TIME_MBB_US (n : Nat) : Fld := ⟨0x120104 + 0x10 * n, 16, 10⟩
def fCUE_DMXp_TIME_MAB_US (n : Nat) : Fld := ⟨0x120104 + 0x10 * n, 0, 10⟩
def rCUE_DMXp_PKT_CNT (n : Nat) : Nat := 0x120108 + 0x10 * n
def rCUE_BUFb_CFG (n : Nat) : Nat := 0x120200 + 0x4 * n
def fCUE_BUFb_CFG_UNIV (n : Nat) : Fld := ⟨0x120200 + 0x4 * n, 0, 16⟩
def rCUE_LTC_CFG : Nat := 0x120300
def fCUE_LTC_CFG_RATE : Fld := ⟨0x120300, 0, 2⟩
def rCUE_LTC_OFS : Nat := 0x120304
def rCUE_LTC_RX : Nat := 0x120308
def fCUE_LTC_RX_HOURS : Fld := ⟨0x120308, 24, 6⟩
def fCUE_LTC_RX_MINUTES : Fld := ⟨0x120308, 16, 6⟩
def fCUE_LTC_RX_SECONDS : Fld := ⟨0x120308, 8, 6⟩
def fCUE_LTC_RX_FRAMES : Fld := ⟨0x120308, 0, 6⟩
def rCUE_LTC_RX_UB : Nat := 0x12030C
def rCUE_BUFb_DATA (n k : Nat) : Nat := 0x124000 + 0x400 * n + 0x4 * k

/-- Rows of the CUE register summary. -/
def regsCUE : List RegDesc := [
  { base := 0x120000, wr := 0x80000F3F, dcls := 0xF3F, own := some ⟨0x120000, 31, 1⟩ },
  { base := 0x120004 },
  { base := 0x120008, wr := 0xFFF, cmd := 0xF0000000 },
  { base := 0x12000C, wr := 0xFFF, cmd := 0xF0000000 },
  { base := 0x120010 },
  { base := 0x120040, s1 := 0x4, c1 := 16, wr := 0xFFFFFFFF },
  { base := 0x120080, wr := 0xFFFF, mw := true },
  { base := 0x120084 },
  { base := 0x120088, cap := 0x80000FFF },
  { base := 0x12008C, cap := 0xF7000FFF },
  { base := 0x1200A0, wr := 0xFFFFFFFF, cnt := 0xFFFFFFFF },
  { base := 0x1200A4, wr := 0xFFFFFFFF, cnt := 0xFFFFFFFF },
  { base := 0x1200A8, wr := 0xFFFFFFFF, cnt := 0xFFFFFFFF },
  { base := 0x1200AC, wr := 0xFFFFFFFF, cnt := 0xFFFFFFFF },
  { base := 0x1200B0, wr := 0xFFFFFFFF, cnt := 0xFFFFFFFF },
  { base := 0x1200B4, wr := 0xFFFFFFFF, cnt := 0xFFFFFFFF },
  { base := 0x1200B8, wr := 0xFFFFFFFF, cnt := 0xFFFFFFFF },
  { base := 0x1200BC, wr := 0xFFFFFFFF, cnt := 0xFFFFFFFF },
  { base := 0x1200C0, wr := 0xFFFFFFFF, cnt := 0xFFFFFFFF },
  { base := 0x1200C4, wr := 0xFFFFFFFF, cnt := 0xFFFFFFFF },
  { base := 0x1200C8, wr := 0xFFFFFFFF, cnt := 0xFFFFFFFF },
  { base := 0x1200CC, wr := 0xFFFFFFFF, cnt := 0xFFFFFFFF },
  { base := 0x120100, s1 := 0x10, c1 := 4, wr := 0x83FF03FF },
  { base := 0x120104, s1 := 0x10, c1 := 4, wr := 0x3FF03FF },
  { base := 0x120108, s1 := 0x10, c1 := 4, wr := 0xFFFFFFFF, cnt := 0xFFFFFFFF },
  { base := 0x120200, s1 := 0x4, c1 := 8, wr := 0xFFFF },
  { base := 0x120300, wr := 0x3 },
  { base := 0x120304, wr := 0xFFFFFFFF },
  { base := 0x120308 },
  { base := 0x12030C },
  { base := 0x124000, s1 := 0x400, c1 := 8, s2 := 4, c2 := 129, wr := 0xFFFFFFFF }]

/-! ## HALO -/

def rHALO_CFG : Nat := 0x130000
def fHALO_CFG_RECLAIM_S : Fld := ⟨0x130000, 16, 10⟩
def fHALO_CFG_HB_PORTS : Fld := ⟨0x130000, 8, 4⟩
def fHALO_CFG_AUTO_RECLAIM : Fld := ⟨0x130000, 1, 1⟩
def fHALO_CFG_EN : Fld := ⟨0x130000, 0, 1⟩
def rHALO_STS : Nat := 0x130004
def fHALO_STS_ERR_CODE : Fld := ⟨0x130004, 28, 4⟩
def fHALO_STS_CFG_ERR : Fld := ⟨0x130004, 27, 1⟩
def fHALO_STS_CMD_RESULT : Fld := ⟨0x130004, 20, 2⟩
def fHALO_STS_CFG_MISMATCH : Fld := ⟨0x130004, 18, 1⟩
def fHALO_STS_ROLE_CLASH : Fld := ⟨0x130004, 17, 1⟩
def fHALO_STS_REQ_PEND : Fld := ⟨0x130004, 16, 1⟩
def fHALO_STS_RECLAIM_PEND : Fld := ⟨0x130004, 15, 1⟩
def fHALO_STS_PARTNER_READY : Fld := ⟨0x130004, 14, 1⟩
def fHALO_STS_PARTNER_FIT : Fld := ⟨0x130004, 13, 1⟩
def fHALO_STS_READY : Fld := ⟨0x130004, 12, 1⟩
def fHALO_STS_FIT : Fld := ⟨0x130004, 11, 1⟩
def fHALO_STS_SPLIT : Fld := ⟨0x130004, 10, 1⟩
def fHALO_STS_PACT : Fld := ⟨0x130004, 9, 1⟩
def fHALO_STS_PARTNER_ACT : Fld := ⟨0x130004, 8, 1⟩
def fHALO_STS_NET_OK : Fld := ⟨0x130004, 7, 1⟩
def fHALO_STS_WIRE_OK : Fld := ⟨0x130004, 6, 1⟩
def fHALO_STS_PARTNER_OK : Fld := ⟨0x130004, 5, 1⟩
def fHALO_STS_ROLE : Fld := ⟨0x130004, 4, 1⟩
def fHALO_STS_STATE : Fld := ⟨0x130004, 0, 3⟩
def rHALO_CMD : Nat := 0x130008
def fHALO_CMD_OP : Fld := ⟨0x130008, 28, 4⟩
def rHALO_ROLE_CFG : Nat := 0x13000C
def fHALO_ROLE_CFG_LOCK : Fld := ⟨0x13000C, 31, 1⟩
def fHALO_ROLE_CFG_STRAP : Fld := ⟨0x13000C, 16, 1⟩
def fHALO_ROLE_CFG_OVR : Fld := ⟨0x13000C, 8, 1⟩
def fHALO_ROLE_CFG_ROLE : Fld := ⟨0x13000C, 0, 1⟩
def rHALO_CFG_TAG : Nat := 0x130010
def rHALO_RECLAIM_LEFT : Nat := 0x130014
def fHALO_RECLAIM_LEFT_S : Fld := ⟨0x130014, 0, 10⟩
def rHALO_EVT_LOG : Nat := 0x130018
def fHALO_EVT_LOG_VALID : Fld := ⟨0x130018, 31, 1⟩
def fHALO_EVT_LOG_FROM : Fld := ⟨0x130018, 24, 3⟩
def fHALO_EVT_LOG_TO : Fld := ⟨0x130018, 20, 3⟩
def fHALO_EVT_LOG_CAUSE : Fld := ⟨0x130018, 16, 4⟩
def rHALO_LOSS_CNT : Nat := 0x130040
def rHALO_TAKEOVER_CNT : Nat := 0x130044
def rHALO_YIELD_CNT : Nat := 0x130048
def rHALO_RECLAIM_CNT : Nat := 0x13004C
def rHALO_REQ_CNT : Nat := 0x130050
def rHALO_REQ_REFUSE_CNT : Nat := 0x130054
def rHALO_SPLIT_CNT : Nat := 0x130058
def rHALO_WIRE_BAD_CNT : Nat := 0x13005C
def rHALO_NET_BAD_CNT : Nat := 0x130060
def rHALO_ROLE_CLASH_CNT : Nat := 0x130064
def rHALO_REFUSE_CNT : Nat := 0x130068
def rHALO_CMD_OVF_CNT : Nat := 0x13006C

/-- Rows of the HALO register summary. -/
def regsHALO : List RegDesc := [
  { base := 0x130000, wr := 0x3FF0F03, dcls := 0x3FF0F02, own := some ⟨0x130000, 0, 1⟩ },
  { base := 0x130004 },
  { base := 0x130008, cmd := 0xF0000000 },
  { base := 0x13000C, wr := 0x80000101, dcls := 0x101, own := some ⟨0x130000, 0, 1⟩, lock := true },
  { base := 0x130010, wr := 0xFFFFFFFF, dcls := 0xFFFFFFFF, own := some ⟨0x130000, 0, 1⟩ },
  { base := 0x130014 },
  { base := 0x130018, cap := 0x877F0000 },
  { base := 0x130040, wr := 0xFFFFFFFF, cnt := 0xFFFFFFFF },
  { base := 0x130044, wr := 0xFFFFFFFF, cnt := 0xFFFFFFFF },
  { base := 0x130048, wr := 0xFFFFFFFF, cnt := 0xFFFFFFFF },
  { base := 0x13004C, wr := 0xFFFFFFFF, cnt := 0xFFFFFFFF },
  { base := 0x130050, wr := 0xFFFFFFFF, cnt := 0xFFFFFFFF },
  { base := 0x130054, wr := 0xFFFFFFFF, cnt := 0xFFFFFFFF },
  { base := 0x130058, wr := 0xFFFFFFFF, cnt := 0xFFFFFFFF },
  { base := 0x13005C, wr := 0xFFFFFFFF, cnt := 0xFFFFFFFF },
  { base := 0x130060, wr := 0xFFFFFFFF, cnt := 0xFFFFFFFF },
  { base := 0x130064, wr := 0xFFFFFFFF, cnt := 0xFFFFFFFF },
  { base := 0x130068, wr := 0xFFFFFFFF, cnt := 0xFFFFFFFF },
  { base := 0x13006C, wr := 0xFFFFFFFF, cnt := 0xFFFFFFFF }]

/-! ## HQ -/

def rHQnn_CFG (n : Nat) : Nat := 0x140000 + 0x100 * n
def fHQnn_CFG_PROD (n : Nat) : Fld := ⟨0x140000 + 0x100 * n, 8, 3⟩
def fHQnn_CFG_EN (n : Nat) : Fld := ⟨0x140000 + 0x100 * n, 0, 1⟩
def rHQnn_CMD (n : Nat) : Nat := 0x140004 + 0x100 * n
def fHQnn_CMD_FLUSH (n : Nat) : Fld := ⟨0x140004 + 0x100 * n, 31, 1⟩
def rHQnn_LEVEL (n : Nat) : Nat := 0x140008 + 0x100 * n
def fHQnn_LEVEL_ABOVE (n : Nat) : Fld := ⟨0x140008 + 0x100 * n, 31, 1⟩
def fHQnn_LEVEL_FLUSH_PEND (n : Nat) : Fld := ⟨0x140008 + 0x100 * n, 30, 1⟩
def fHQnn_LEVEL_PKTS (n : Nat) : Fld := ⟨0x140008 + 0x100 * n, 16, 11⟩
def fHQnn_LEVEL_WORDS (n : Nat) : Fld := ⟨0x140008 + 0x100 * n, 0, 11⟩
def rHQnn_WM (n : Nat) : Nat := 0x14000C + 0x100 * n
def fHQnn_WM_HIGH (n : Nat) : Fld := ⟨0x14000C + 0x100 * n, 16, 11⟩
def fHQnn_WM_LOW (n : Nat) : Fld := ⟨0x14000C + 0x100 * n, 0, 11⟩
def rHQnn_POP (n : Nat) : Nat := 0x140010 + 0x100 * n
def fHQnn_POP_VALID (n : Nat) : Fld := ⟨0x140010 + 0x100 * n, 31, 1⟩
def fHQnn_POP_END (n : Nat) : Fld := ⟨0x140010 + 0x100 * n, 30, 1⟩
def fHQnn_POP_TORN (n : Nat) : Fld := ⟨0x140010 + 0x100 * n, 29, 1⟩
def fHQnn_POP_WORDS_LEFT (n : Nat) : Fld := ⟨0x140010 + 0x100 * n, 16, 11⟩
def fHQnn_POP_NBYTES (n : Nat) : Fld := ⟨0x140010 + 0x100 * n, 0, 4⟩
def rHQnn_DATA_L (n : Nat) : Nat := 0x140014 + 0x100 * n
def rHQnn_DATA_H (n : Nat) : Nat := 0x140018 + 0x100 * n
def rHQnn_LOST_CNT (n : Nat) : Nat := 0x140020 + 0x100 * n
def rHQnn_TORN_CNT (n : Nat) : Nat := 0x140024 + 0x100 * n
def rHQnn_DISC_CNT (n : Nat) : Nat := 0x140028 + 0x100 * n
def rHQnn_REJECT_CNT (n : Nat) : Nat := 0x14002C + 0x100 * n
def rHQnn_WM_CROSS_CNT (n : Nat) : Nat := 0x140030 + 0x100 * n
def rHQnn_EMPTY_POP_CNT (n : Nat) : Nat := 0x140034 + 0x100 * n
def rHQnn_QERR_CNT (n : Nat) : Nat := 0x140038 + 0x100 * n
def rHQ_ROUTE : Nat := 0x142000
def fHQ_ROUTE_EVT_Q : Fld := ⟨0x142000, 16, 5⟩
def fHQ_ROUTE_INBOX_Q : Fld := ⟨0x142000, 8, 5⟩
def fHQ_ROUTE_MBX_Q : Fld := ⟨0x142000, 0, 5⟩
def rHQ_NEMPTY : Nat := 0x142004
def rHQ_ABOVE : Nat := 0x142008
def rHQ_QERR : Nat := 0x14200C
def fHQ_QERR_VALID : Fld := ⟨0x14200C, 31, 1⟩
def fHQ_QERR_COUNT : Fld := ⟨0x14200C, 16, 8⟩
def fHQ_QERR_QUEUE : Fld := ⟨0x14200C, 0, 5⟩
def rHQ_FC_MAP_L : Nat := 0x142010
def fHQ_FC_MAP_L_EN3 : Fld := ⟨0x142010, 31, 1⟩
def fHQ_FC_MAP_L_INV3 : Fld := ⟨0x142010, 30, 1⟩
def fHQ_FC_MAP_L_QUEUE3 : Fld := ⟨0x142010, 24, 5⟩
def fHQ_FC_MAP_L_EN2 : Fld := ⟨0x142010, 23, 1⟩
def fHQ_FC_MAP_L_INV2 : Fld := ⟨0x142010, 22, 1⟩
def fHQ_FC_MAP_L_QUEUE2 : Fld := ⟨0x142010, 16, 5⟩
def fHQ_FC_MAP_L_EN1 : Fld := ⟨0x142010, 15, 1⟩
def fHQ_FC_MAP_L_INV1 : Fld := ⟨0x142010, 14, 1⟩
def fHQ_FC_MAP_L_QUEUE1 : Fld := ⟨0x142010, 8, 5⟩
def fHQ_FC_MAP_L_EN0 : Fld := ⟨0x142010, 7, 1⟩
def fHQ_FC_MAP_L_INV0 : Fld := ⟨0x142010, 6, 1⟩
def fHQ_FC_MAP_L_QUEUE0 : Fld := ⟨0x142010, 0, 5⟩
def rHQ_FC_MAP_H : Nat := 0x142014
def fHQ_FC_MAP_H_EN7 : Fld := ⟨0x142014, 31, 1⟩
def fHQ_FC_MAP_H_INV7 : Fld := ⟨0x142014, 30, 1⟩
def fHQ_FC_MAP_H_QUEUE7 : Fld := ⟨0x142014, 24, 5⟩
def fHQ_FC_MAP_H_EN6 : Fld := ⟨0x142014, 23, 1⟩
def fHQ_FC_MAP_H_INV6 : Fld := ⟨0x142014, 22, 1⟩
def fHQ_FC_MAP_H_QUEUE6 : Fld := ⟨0x142014, 16, 5⟩
def fHQ_FC_MAP_H_EN5 : Fld := ⟨0x142014, 15, 1⟩
def fHQ_FC_MAP_H_INV5 : Fld := ⟨0x142014, 14, 1⟩
def fHQ_FC_MAP_H_QUEUE5 : Fld := ⟨0x142014, 8, 5⟩
def fHQ_FC_MAP_H_EN4 : Fld := ⟨0x142014, 7, 1⟩
def fHQ_FC_MAP_H_INV4 : Fld := ⟨0x142014, 6, 1⟩
def fHQ_FC_MAP_H_QUEUE4 : Fld := ⟨0x142014, 0, 5⟩
def rHQ_STS : Nat := 0x142018
def fHQ_STS_QERR : Fld := ⟨0x142018, 0, 1⟩

/-- Rows of the HQ register summary. -/
def regsHQ : List RegDesc := [
  { base := 0x140000, s1 := 0x100, c1 := 32, wr := 0x701, dcls := 0x700, own := some ⟨0x140000, 0, 1⟩, ownS := 0x100 },
  { base := 0x140004, s1 := 0x100, c1 := 32, cmd := 0x80000000 },
  { base := 0x140008, s1 := 0x100, c1 := 32 },
  { base := 0x14000C, s1 := 0x100, c1 := 32, wr := 0x7FF07FF },
  { base := 0x140010, s1 := 0x100, c1 := 32, pop := true },
  { base := 0x140014, s1 := 0x100, c1 := 32 },
  { base := 0x140018, s1 := 0x100, c1 := 32 },
  { base := 0x140020, s1 := 0x100, c1 := 32, wr := 0xFFFFFFFF, cnt := 0xFFFFFFFF },
  { base := 0x140024, s1 := 0x100, c1 := 32, wr := 0xFFFFFFFF, cnt := 0xFFFFFFFF },
  { base := 0x140028, s1 := 0x100, c1 := 32, wr := 0xFFFFFFFF, cnt := 0xFFFFFFFF },
  { base := 0x14002C, s1 := 0x100, c1 := 32, wr := 0xFFFFFFFF, cnt := 0xFFFFFFFF },
  { base := 0x140030, s1 := 0x100, c1 := 32, wr := 0xFFFFFFFF, cnt := 0xFFFFFFFF },
  { base := 0x140034, s1 := 0x100, c1 := 32, wr := 0xFFFFFFFF, cnt := 0xFFFFFFFF },
  { base := 0x140038, s1 := 0x100, c1 := 32, wr := 0xFFFFFFFF, cnt := 0xFFFFFFFF },
  { base := 0x142000, wr := 0x1F1F1F },
  { base := 0x142004 },
  { base := 0x142008 },
  { base := 0x14200C, wr := 0xFF0000, cap := 0x8000001F, cnt := 0xFF0000 },
  { base := 0x142010, wr := 0xDFDFDFDF },
  { base := 0x142014, wr := 0xDFDFDFDF },
  { base := 0x142018 }]

/-! ## RQL -/

def rRQL_CTL : Nat := 0x150000
def fRQL_CTL_EN : Fld := ⟨0x150000, 0, 8⟩
def rRQL_STS : Nat := 0x150004
def fRQL_STS_FAULTS : Fld := ⟨0x150004, 0, 8⟩
def rRQLn_CTL (n : Nat) : Nat := 0x150100 + 0x40 * n
def fRQLn_CTL_STEP_MAX (n : Nat) : Fld := ⟨0x150100 + 0x40 * n, 0, 8⟩
def rRQLn_STS (n : Nat) : Nat := 0x150104 + 0x40 * n
def fRQLn_STS_STATE (n : Nat) : Fld := ⟨0x150104 + 0x40 * n, 16, 8⟩
def fRQLn_STS_RUN (n : Nat) : Fld := ⟨0x150104 + 0x40 * n, 1, 1⟩
def fRQLn_STS_FAULT (n : Nat) : Fld := ⟨0x150104 + 0x40 * n, 0, 1⟩
def rRQLn_EVT_INJ (n : Nat) : Nat := 0x150108 + 0x40 * n
def rRQLn_FAULT_LOG (n : Nat) : Nat := 0x15010C + 0x40 * n
def fRQLn_FAULT_LOG_VALID (n : Nat) : Fld := ⟨0x15010C + 0x40 * n, 31, 1⟩
def fRQLn_FAULT_LOG_CODE (n : Nat) : Fld := ⟨0x15010C + 0x40 * n, 27, 4⟩
def fRQLn_FAULT_LOG_STATE (n : Nat) : Fld := ⟨0x15010C + 0x40 * n, 16, 8⟩
def fRQLn_FAULT_LOG_INDEX (n : Nat) : Fld := ⟨0x15010C + 0x40 * n, 0, 11⟩
def rRQLn_STEP_CNT (n : Nat) : Nat := 0x150110 + 0x40 * n
def rRQLn_FAULT_CNT (n : Nat) : Nat := 0x150114 + 0x40 * n

/-- Rows of the RQL register summary. -/
def regsRQL : List RegDesc := [
  { base := 0x150000, wr := 0xFF },
  { base := 0x150004 },
  { base := 0x150100, s1 := 0x40, c1 := 8, wr := 0xFF, dcls := 0xFF, own := some ⟨0x150000, 0, 1⟩, ownB := 1 },
  { base := 0x150104, s1 := 0x40, c1 := 8 },
  { base := 0x150108, s1 := 0x40, c1 := 8, cmd := 0xFFFFFFFF },
  { base := 0x15010C, s1 := 0x40, c1 := 8, cap := 0xF8FF07FF },
  { base := 0x150110, s1 := 0x40, c1 := 8, wr := 0xFFFFFFFF, cnt := 0xFFFFFFFF },
  { base := 0x150114, s1 := 0x40, c1 := 8, wr := 0xFFFFFFFF, cnt := 0xFFFFFFFF }]

/-! ## DDR -/

def rDDR_CTL : Nat := 0x160000
def fDDR_CTL_SCRUB_EN : Fld := ⟨0x160000, 4, 1⟩
def fDDR_CTL_EN : Fld := ⟨0x160000, 0, 1⟩
def rDDR_GEOM : Nat := 0x160004
def fDDR_GEOM_LOCK : Fld := ⟨0x160004, 31, 1⟩
def fDDR_GEOM_RANKS : Fld := ⟨0x160004, 16, 2⟩
def fDDR_GEOM_WIDTH : Fld := ⟨0x160004, 8, 1⟩
def fDDR_GEOM_SIZE_GIB : Fld := ⟨0x160004, 0, 5⟩
def rDDR_STS : Nat := 0x160008
def fDDR_STS_OUT : Fld := ⟨0x160008, 3, 1⟩
def fDDR_STS_WIPE_BUSY : Fld := ⟨0x160008, 2, 1⟩
def fDDR_STS_TRAINED : Fld := ⟨0x160008, 1, 1⟩
def fDDR_STS_IN_SERVICE : Fld := ⟨0x160008, 0, 1⟩
def rDDR_REGION_CFG : Nat := 0x16000C
def fDDR_REGION_CFG_DLY_SLOTS : Fld := ⟨0x16000C, 16, 13⟩
def fDDR_REGION_CFG_CTR_GIB : Fld := ⟨0x16000C, 0, 4⟩
def rDDR_SCRUB_CFG : Nat := 0x160010
def fDDR_SCRUB_CFG_PERIOD_H : Fld := ⟨0x160010, 0, 8⟩
def rDDR_ECC_LOG : Nat := 0x160014
def fDDR_ECC_LOG_VALID : Fld := ⟨0x160014, 31, 1⟩
def fDDR_ECC_LOG_UE : Fld := ⟨0x160014, 30, 1⟩
def fDDR_ECC_LOG_CLASS : Fld := ⟨0x160014, 27, 3⟩
def fDDR_ECC_LOG_RANK : Fld := ⟨0x160014, 26, 1⟩
def fDDR_ECC_LOG_SYNDROME : Fld := ⟨0x160014, 0, 8⟩
def rDDR_ECC_CE_CNT : Nat := 0x160018
def rDDR_ECC_UE_CNT : Nat := 0x16001C
def rDDR_RETRY_CNT : Nat := 0x160020
def rDDR_CANCEL_CNT : Nat := 0x160024
def rDDR_LATE_DISC_CNT : Nat := 0x160028
def rDDR_WIPE_POS : Nat := 0x16002C
def fDDR_WIPE_POS_MIB : Fld := ⟨0x16002C, 0, 16⟩
def rDDR_ERR : Nat := 0x160030
def fDDR_ERR_VALID : Fld := ⟨0x160030, 31, 1⟩
def fDDR_ERR_CODE : Fld := ⟨0x160030, 0, 4⟩
def rDDR_READY : Nat := 0x160034
def fDDR_READY_RING : Fld := ⟨0x160034, 3, 1⟩
def fDDR_READY_DLY : Fld := ⟨0x160034, 2, 1⟩
def fDDR_READY_MAP : Fld := ⟨0x160034, 1, 1⟩
def fDDR_READY_DEEP : Fld := ⟨0x160034, 0, 1⟩
def rDDR_ECC_ADDR : Nat := 0x160038
def fDDR_ECC_ADDR_ADDR : Fld := ⟨0x160038, 0, 31⟩
def rDDR_ALERT_CNT : Nat := 0x16003C
def rDDR_RETRAIN_CNT : Nat := 0x160040
def rDDR_WR_DROP_CNT : Nat := 0x160044
def rDDR_UNREADY_CNT : Nat := 0x160048
def rDDR_REFUSE_CNT : Nat := 0x16004C

/-- Rows of the DDR register summary. -/
def regsDDR : List RegDesc := [
  { base := 0x160000, wr := 0x11 },
  { base := 0x160004, wr := 0x8003011F, dcls := 0x3011F, own := some ⟨0x160000, 0, 1⟩, lock := true },
  { base := 0x160008 },
  { base := 0x16000C, wr := 0x1FFF000F, dcls := 0x1FFF000F, own := some ⟨0x160000, 0, 1⟩ },
  { base := 0x160010, wr := 0xFF },
  { base := 0x160014, cap := 0xFC0000FF },
  { base := 0x160018, wr := 0xFFFFFFFF, cnt := 0xFFFFFFFF },
  { base := 0x16001C, wr := 0xFFFFFFFF, cnt := 0xFFFFFFFF },
  { base := 0x160020, wr := 0xFFFFFFFF, cnt := 0xFFFFFFFF },
  { base := 0x160024, wr := 0xFFFFFFFF, cnt := 0xFFFFFFFF },
  { base := 0x160028, wr := 0xFFFFFFFF, cnt := 0xFFFFFFFF },
  { base := 0x16002C },
  { base := 0x160030, cap := 0x8000000F },
  { base := 0x160034 },
  { base := 0x160038, cap := 0x7FFFFFFF },
  { base := 0x16003C, wr := 0xFFFFFFFF, cnt := 0xFFFFFFFF },
  { base := 0x160040, wr := 0xFFFFFFFF, cnt := 0xFFFFFFFF },
  { base := 0x160044, wr := 0xFFFFFFFF, cnt := 0xFFFFFFFF },
  { base := 0x160048, wr := 0xFFFFFFFF, cnt := 0xFFFFFFFF },
  { base := 0x16004C, wr := 0xFFFFFFFF, cnt := 0xFFFFFFFF }]

/-! ## INT -/

def rINT_STS : Nat := 0x170000
def fINT_STS_REC_FAIL : Fld := ⟨0x170000, 4, 1⟩
def fINT_STS_SPARE_OUT : Fld := ⟨0x170000, 3, 1⟩
def fINT_STS_MIGRATE : Fld := ⟨0x170000, 2, 1⟩
def fINT_STS_RES_XING : Fld := ⟨0x170000, 1, 1⟩
def fINT_STS_ECC : Fld := ⟨0x170000, 0, 1⟩
def rINT_REPAIR_CFG : Nat := 0x170004
def fINT_REPAIR_CFG_LOCK : Fld := ⟨0x170004, 31, 1⟩
def fINT_REPAIR_CFG_WB_EN : Fld := ⟨0x170004, 17, 1⟩
def fINT_REPAIR_CFG_MIGRATE_EN : Fld := ⟨0x170004, 16, 1⟩
def fINT_REPAIR_CFG_WIN_MIN : Fld := ⟨0x170004, 8, 8⟩
def fINT_REPAIR_CFG_MIGRATE_N : Fld := ⟨0x170004, 0, 8⟩
def rINT_ECC_LOG : Nat := 0x170008
def fINT_ECC_LOG_VALID : Fld := ⟨0x170008, 31, 1⟩
def fINT_ECC_LOG_UE : Fld := ⟨0x170008, 30, 1⟩
def fINT_ECC_LOG_ARRAY : Fld := ⟨0x170008, 27, 3⟩
def fINT_ECC_LOG_SUBBANK : Fld := ⟨0x170008, 22, 5⟩
def fINT_ECC_LOG_ROW : Fld := ⟨0x170008, 12, 10⟩
def fINT_ECC_LOG_SYNDROME : Fld := ⟨0x170008, 0, 8⟩
def rINT_ECC_CE_CNT : Nat := 0x17000C
def rINT_ECC_UE_CNT : Nat := 0x170010
def rINT_RES_XING_CNT : Nat := 0x170014
def rINT_RES_XING_LOG : Nat := 0x170018
def fINT_RES_XING_LOG_VALID : Fld := ⟨0x170018, 31, 1⟩
def fINT_RES_XING_LOG_SRC : Fld := ⟨0x170018, 24, 6⟩
def fINT_RES_XING_LOG_DST : Fld := ⟨0x170018, 16, 6⟩
def rINT_MIGRATE_CNT : Nat := 0x17001C
def rINT_MIGRATE_LOG : Nat := 0x170020
def fINT_MIGRATE_LOG_VALID : Fld := ⟨0x170020, 31, 1⟩
def fINT_MIGRATE_LOG_ARRAY : Fld := ⟨0x170020, 27, 3⟩
def fINT_MIGRATE_LOG_SUBBANK : Fld := ⟨0x170020, 22, 5⟩
def fINT_MIGRATE_LOG_ROW : Fld := ⟨0x170020, 12, 10⟩
def rINT_SPARE_MIN : Nat := 0x170024
def fINT_SPARE_MIN_ROWS : Fld := ⟨0x170024, 4, 2⟩
def fINT_SPARE_MIN_COLS : Fld := ⟨0x170024, 0, 2⟩
def rINT_REC_FAIL_CNT : Nat := 0x170028
def rINT_BIST_STS : Nat := 0x17002C
def fINT_BIST_STS_UNREP_CNT : Fld := ⟨0x17002C, 24, 7⟩
def fINT_BIST_STS_ARRAY : Fld := ⟨0x17002C, 19, 3⟩
def fINT_BIST_STS_SUBBANK : Fld := ⟨0x17002C, 14, 5⟩
def fINT_BIST_STS_LANE_FAIL : Fld := ⟨0x17002C, 0, 6⟩
def rINT_TRACK_EVICT_CNT : Nat := 0x170030
def rINT_MIGRATE_FAIL_CNT : Nat := 0x170034
def rINT_REC_DROP_CNT : Nat := 0x170038
def rINT_FATAL_LOG : Nat := 0x17003C
def fINT_FATAL_LOG_VALID : Fld := ⟨0x17003C, 31, 1⟩
def fINT_FATAL_LOG_CAUSE : Fld := ⟨0x17003C, 24, 4⟩
def fINT_FATAL_LOG_CLR : Fld := ⟨0x17003C, 0, 1⟩
def rINT_SCRUB_PASS_CNT : Nat := 0x170040
def rINT_INJ_CMD : Nat := 0x170044
def fINT_INJ_CMD_OP : Fld := ⟨0x170044, 28, 4⟩
def fINT_INJ_CMD_BITS : Fld := ⟨0x170044, 24, 2⟩
def fINT_INJ_CMD_ARRAY : Fld := ⟨0x170044, 16, 3⟩
def fINT_INJ_CMD_ARMED : Fld := ⟨0x170044, 0, 1⟩

/-- Rows of the INT register summary. -/
def regsINT : List RegDesc := [
  { base := 0x170000 },
  { base := 0x170004, wr := 0x8003FFFF, lock := true },
  { base := 0x170008, cap := 0xFFFFF0FF },
  { base := 0x17000C, wr := 0xFFFFFFFF, cnt := 0xFFFFFFFF },
  { base := 0x170010, wr := 0xFFFFFFFF, cnt := 0xFFFFFFFF },
  { base := 0x170014, wr := 0xFFFFFFFF, cnt := 0xFFFFFFFF },
  { base := 0x170018, cap := 0xBF3F0000 },
  { base := 0x17001C, wr := 0xFFFFFFFF, cnt := 0xFFFFFFFF },
  { base := 0x170020, cap := 0xBFFFF000 },
  { base := 0x170024 },
  { base := 0x170028, wr := 0xFFFFFFFF, cnt := 0xFFFFFFFF },
  { base := 0x17002C },
  { base := 0x170030, wr := 0xFFFFFFFF, cnt := 0xFFFFFFFF },
  { base := 0x170034, wr := 0xFFFFFFFF, cnt := 0xFFFFFFFF },
  { base := 0x170038, wr := 0xFFFFFFFF, cnt := 0xFFFFFFFF },
  { base := 0x17003C, cmd := 0x1 },
  { base := 0x170040, wr := 0xFFFFFFFF, cnt := 0xFFFFFFFF },
  { base := 0x170044, wr := 0x3070000, cmd := 0xF0000000 }]

/-! ## PIN -/

def rPIN_STS : Nat := 0x180000
def fPIN_STS_CONFLICT : Fld := ⟨0x180000, 0, 1⟩
def rPIN_STRAP : Nat := 0x180004
def fPIN_STRAP_HALO_ROLE : Fld := ⟨0x180004, 8, 1⟩
def fPIN_STRAP_BOOT_SEL : Fld := ⟨0x180004, 4, 2⟩
def fPIN_STRAP_CMP_ASEL : Fld := ⟨0x180004, 0, 2⟩
def rPIN_CONFLICT : Nat := 0x180080
def fPIN_CONFLICT_VALID : Fld := ⟨0x180080, 31, 1⟩
def fPIN_CONFLICT_COUNT : Fld := ⟨0x180080, 16, 8⟩
def fPIN_CONFLICT_GROUP : Fld := ⟨0x180080, 12, 4⟩
def fPIN_CONFLICT_HOLDER : Fld := ⟨0x180080, 2, 2⟩
def fPIN_CONFLICT_REFUSED : Fld := ⟨0x180080, 0, 2⟩
def rPIN_GRPnn_OWNER (n : Nat) : Nat := 0x180100 + 0x4 * n
def fPIN_GRPnn_OWNER_PRIO (n : Nat) : Fld := ⟨0x180100 + 0x4 * n, 16, 2⟩
def fPIN_GRPnn_OWNER_OWNER (n : Nat) : Fld := ⟨0x180100 + 0x4 * n, 0, 2⟩
def rPIN_CUE_CFG : Nat := 0x180200
def rPIN_SAPnn_PAD (n : Nat) : Nat := 0x180300 + 0x4 * n
def fPIN_SAPnn_PAD_SLEW (n : Nat) : Fld := ⟨0x180300 + 0x4 * n, 4, 1⟩
def fPIN_SAPnn_PAD_DRIVE (n : Nat) : Fld := ⟨0x180300 + 0x4 * n, 0, 2⟩
def rPIN_MISCg_PAD (n : Nat) : Nat := 0x180360 + 0x4 * n
def fPIN_MISCg_PAD_SLEW (n : Nat) : Fld := ⟨0x180360 + 0x4 * n, 4, 1⟩
def fPIN_MISCg_PAD_DRIVE (n : Nat) : Fld := ⟨0x180360 + 0x4 * n, 0, 2⟩
def rPIN_AVS : Nat := 0x180370
def fPIN_AVS_CORE_MV : Fld := ⟨0x180370, 0, 10⟩
def rPIN_HOTSWAP_STS : Nat := 0x180380
def fPIN_HOTSWAP_STS_ASSERTED : Fld := ⟨0x180380, 31, 1⟩
def fPIN_HOTSWAP_STS_STATE : Fld := ⟨0x180380, 0, 2⟩
def rPIN_HOTSWAP_GLITCH_CNT : Nat := 0x180384
def rPIN_DETACH_CNT : Nat := 0x180388

/-- Rows of the PIN register summary. -/
def regsPIN : List RegDesc := [
  { base := 0x180000 },
  { base := 0x180004 },
  { base := 0x180080, wr := 0xFF0000, cap := 0x8000F00F, cnt := 0xFF0000 },
  { base := 0x180100, s1 := 0x4, c1 := 12, wr := 0x30000 },
  { base := 0x180200, wr := 0xFFFFFFFF },
  { base := 0x180300, s1 := 0x4, c1 := 24, wr := 0x13 },
  { base := 0x180360, s1 := 0x4, c1 := 4, wr := 0x13 },
  { base := 0x180370 },
  { base := 0x180380 },
  { base := 0x180384, wr := 0xFFFFFFFF, cnt := 0xFFFFFFFF },
  { base := 0x180388, wr := 0xFFFFFFFF, cnt := 0xFFFFFFFF }]

end Sys2Proof.Machine
end

