-- ==== Sys2Proof/Machine/RegMap.lean ====
section
/-! DEFINITION. Finding a register by its address (R439, R441), and the registers whose hardware reset
value is not 0. -/

namespace Sys2Proof.Machine

open Sys2Proof

/-- The register summary of the block an address lies in (Table 18.1). -/
def blockRegs (a : Nat) : List RegDesc :=
  match a / 0x10000 with
  | 0x0 => regsGLB
  | 0x1 => regsPWR
  | 0x2 => regsCLK
  | 0x3 => regsTIME
  | 0x4 => regsPTP
  | 0x5 => regsMCG
  | 0x6 => regsSTX
  | 0x7 => regsSTX
  | 0x8 => regsSRX
  | 0x9 => regsSRX
  | 0xA => regsANV
  | 0xB => regsSCH
  | 0xC => regsSAP
  | 0xD => regsSAP
  | 0xE => regsNET
  | 0xF => regsNET
  | 0x10 => regsMIO
  | 0x11 => regsT1S
  | 0x12 => regsCUE
  | 0x13 => regsHALO
  | 0x14 => regsHQ
  | 0x15 => regsRQL
  | 0x16 => regsDDR
  | 0x17 => regsINT
  | 0x18 => regsPIN
  | _ => []

/-- The instance and register number of `a` in a summary row, if the row holds it (R441). -/
def regIndex (r : RegDesc) (a : Nat) : Option (Nat × Nat) :=
  if a < r.base then none else
  let o := a - r.base
  let i := o / r.s1
  let q := o % r.s1
  if i < r.c1 ∧ q % r.s2 = 0 ∧ q / r.s2 < r.c2 then some (i, q / r.s2) else none

/-- The row and the indices of the register at byte address `a` in a list of rows. -/
def findReg : List RegDesc → Nat → Option (RegDesc × Nat × Nat)
  | [], _ => none
  | r :: t, a =>
    match regIndex r a with
    | some (i, j) => some (r, i, j)
    | none => findReg t a

/-- The register at byte address `a`, if one is implemented there (R439). -/
def regAt (a : Nat) : Option (RegDesc × Nat × Nat) := findReg (blockRegs a) a

/-- Registers whose hardware reset value is stated and is not 0 (R9: a field marked "(image)" resets to 0; the last reset
of the machine right after reset is the power-on reset, R443). -/
def resetRegs : KMap Word := [
  (0x000000, 0x44120000),
  (0x000008, 0x00000001),
  (0x030034, 0x00000200),
  (0x040004, 0x00000100),
  (0x0E0430, 0x0000FF00),
  (0x0E1430, 0x0000FF00),
  (0x0E2430, 0x0000FF00),
  (0x0E3430, 0x0000FF00)]

end Sys2Proof.Machine
end

