-- ==== Sys2Proof/Machine/State.lean ====
section
/-! DEFINITION. The state of the BYN4412: plain data, everything the spec gives the block. Registers
that software reaches live in ONE register file, keyed by byte address; a register whose value the spec
derives from other state (a level status, a live time, a queue level) is computed where it is read and
not stored twice. Behind them stand the memories and the hidden state of each block. -/

namespace Sys2Proof.Machine

open Sys2Proof

/-- What one access port keeps of its own (R418), and the answer to its last access. -/
structure PortSt where
  /-- the staged lower half of a window write: window (0 table memory, 1 Anvil store), window address, value (R22) -/
  stage : Option (Nat × Nat × Word) := none
  /-- the staged TIME_ADDEND_L (R42) -/
  addendL : Option Word := none
  /-- the upper halves and copies latched for this port, keyed by the register that reads them -/
  latch : KMap (Option Word) := []
  /-- the two window latches: word address in the array and its upper half (R22) -/
  winTbl : Option (Nat × Word) := none
  winAnv : Option (Nat × Word) := none
  /-- the model's own: the data the last access or transaction returned -/
  resp : List Nat := []
  /-- the model's own: the bus error code of the last access, 0 for none (Table 17.1), and 8 for a NACK of the address byte on CMP
  (R426); for SPI the STATUS word -/
  code : Nat := 0
  /-- the model's own: the last write of the port was recorded under R429 -/
  ign : Bool := false
  deriving DecidableEq, Repr

/-- An entry of the ignore record (R429). -/
structure IgnEntry where
  port : Nat
  addr : Nat
  block : Nat
  inst : Nat
  deriving DecidableEq, Repr

/-- The management-port mailbox behind its registers (R437). -/
structure Mbx where
  /-- the staging buffer, up to 256 bytes -/
  stage : List Byte := []
  /-- tags of the last 16 POSTs done, newest first -/
  tags : List Nat := []
  deriving DecidableEq, Repr

/-- Clock and watchdog state behind the CLK and GLB registers (R444, R447). -/
structure ClkSt where
  /-- the watchdog count, in AON cycles, 1 024 to the millisecond -/
  wdog : Nat := 0
  /-- REFCLK is present (R448); log entry 61 -/
  refclk : Bool := true
  /-- TIME came back from RET, and the time base has still to advance by the time spent there (R468) -/
  timeDawn : Bool := false
  /-- SWITCHING: a change of SEL runs (R447) -/
  switching : Bool := false
  /-- while SEL is 0, the instant until which the switch core's bandwidth is taken (R467) -/
  fwd : Int := 0
  deriving DecidableEq, Repr

/-- A tick word (R15). -/
structure TickWord where
  sidx : BitVec 64
  rebase : Bool
  deriving DecidableEq, Repr

/-- One crossing of tick words from a generator to a consumer, and what the consumer keeps (R17, R18). -/
structure TickPath where
  /-- the holding register -/
  hold : Option TickWord := none
  /-- the word whose handshake is open -/
  flight : Option TickWord := none
  /-- the word delivered and not yet acted on -/
  arrived : Option TickWord := none
  /-- the consumer's local index L; none until it takes its first word -/
  idx : Option (BitVec 64) := none
  /-- the next word calls for rebase behaviour: the consumer's clock has been away (R467) -/
  fresh : Bool := false
  deriving DecidableEq, Repr

/-- A comparator's hidden state while it is armed (R62, R63). -/
structure TcmpSt where
  /-- 1 = one-shot, 2 = periodic, as armed -/
  mode : Nat := 0
  /-- the base B, FT64 (R65) -/
  base : BitVec 64 := 0
  /-- the period in 2^-16 ns -/
  per : Nat := 0
  /-- the next target, FT64, and the hidden fraction accumulator -/
  next : BitVec 64 := 0
  acc : BitVec 16 := 0
  /-- armed with its target already reached (R65) -/
  late : Bool := false
  deriving DecidableEq, Repr

/-- A full 94-bit time base value (R40), as captured or stamped. -/
structure Time94 where
  sec : BitVec 48 := 0
  ns : BitVec 30 := 0
  frac : BitVec 16 := 0
  deriving DecidableEq, Repr

/-- The TIME island behind its registers. -/
structure TimeSt where
  /-- the time base with all 40 fraction bits (R40) -/
  sec : BitVec 48 := 0
  ns : BitVec 30 := 0
  frac : BitVec 40 := 0
  tcmp : KMap TcmpSt := []
  /-- the capture FIFOs, oldest first, at most 4 (R69) -/
  tcap : KMap (List Time94) := []
  /-- captured time of the last PPS_IN edge, the steps since it in 2^-16 ns, valid edges in a row (R70) -/
  ppsPrev : Option Time94 := none
  ppsSteps : Int := 0
  ppsGood : Nat := 0
  /-- the PPS_OUT pulse is on, and the instant of its rising edge in ps of the time base: the whole second less
  TIME_PPS_OUT_COMP (R72) -/
  ppsOut : Bool := false
  ppsRise : Int := 0
  /-- the frequency of CLK10M_IN against TCLK measured last, as its excess over 10 MHz in units of 2^-16 × 10^-9; none
  before the first measurement and while its edges are lost (R71) -/
  clk10 : Option Int := none
  /-- the sum of the steps of the time base, in 2^-16 ns: a frame in the device may span one (R58); log entry 12 -/
  stepTotal : Int := 0
  /-- stepless time of the edge of the latest step (R83) -/
  lastStep : Option Int := none
  /-- FT64 of the time that each generator follows, before the latest edge or step (R149) -/
  was : List Word64 := []
  /-- the steps that servos have made for the next TCLK edge, in 2^-16 ns (R84, R93) -/
  pend : Int := 0
  deriving DecidableEq, Repr

/-- A foreign master a domain has heard (R80): its dataset, its own port identity, the port that heard it and the announce
intervals since it was last heard. -/
structure PtpMaster where
  port : Nat
  sender : Nat
  ident : Nat
  priority1 : Nat
  clockClass : Nat
  accuracy : Nat
  variance : Nat
  priority2 : Nat
  steps : Nat
  age : Nat := 0
  deriving DecidableEq, Repr

/-- A PTP domain behind its registers (R83 to R97). -/
structure PtpDom where
  n : Nat := 0
  past : Nat := 0
  /-- the integrator, exact, in units of 10^-9 × 2^-52 -/
  integ : Int := 0
  /-- measurements in a row under LOCK_THRESH, and at or above UNLOCK_THRESH -/
  lockRun : Nat := 0
  unlockRun : Nat := 0
  /-- the rates written while in LOCK, newest first, each with its stepless time (Table 3.2) -/
  rates : List (Int × Int) := []
  /-- the last 8 accepted path delays, newest first, and the last one measured, 2^-16 ns -/
  delays : List Int := []
  delay : Option Int := none
  /-- no measurement since the grandmaster changed -/
  gmChanged : Bool := false
  /-- DTB, exact, in units of 2^-81 ns (R91) -/
  dtb : Int := 0
  /-- the rate against the time base, exact, in units of 2^-41 (R88, R91) -/
  rate : Int := 0
  /-- stepless time, in 2^-16 ns, at which the rate was set, and the rate before it -/
  rateAt : Int := 0
  ratePrev : Int := 0
  /-- the time base is being slewed to this domain's time, and its servo has begun to (R92) -/
  slewing : Bool := false
  slewOn : Bool := false
  /-- what its own time gained on each TCLK edge at the governing change, in 2^-81 ns (R92) -/
  slewRef : Int := 0
  /-- stepless time at which LOCK was entered, while in LOCK (R90) -/
  lockedAt : Option Int := none
  /-- a HOLD has expired (R97) -/
  holdExpired : Bool := false
  masters : List PtpMaster := []
  /-- the master followed: the port that hears it, and its port identity (R79) -/
  parent : Option (Nat × Nat) := none
  /-- announce intervals that a port in PRE_MASTER has still to wait, keyed by port (R79) -/
  qual : KMap Nat := []
  /-- announce intervals since a port entered LISTENING or heard an Announce, keyed by port (R79) -/
  quiet : KMap Nat := []
  /-- the unit has been the standby one of its pair since the domain's last announce interval (R98) -/
  standby : Bool := false
  /-- sequenceId of the next message sent, keyed 16 × port + messageType -/
  seqs : KMap Nat := []
  /-- stepless time at which HOLD was entered, while in HOLD (R94) -/
  heldAt : Option Int := none
  deriving DecidableEq, Repr

/-- A media clock generator behind its registers (R103 to R121). -/
structure McgSt where
  /-- the generator has locked since it was enabled (R110) -/
  locked : Bool := false
  /-- ticks are issued -/
  ticking : Bool := false
  /-- a tick has been issued since the enable, and stepless time of the last one, 2^-16 ns -/
  issued : Bool := false
  lastAt : Option Int := none
  /-- ticks had been issued before the enable, so that the first one resumes them (R120) -/
  resumes : Bool := false
  /-- the SIDX counts from the epoch: the source has set it by R16 (R108) -/
  epoch : Bool := false
  /-- the next tick is the first after the first lock: it takes the source's SIDX (R108) -/
  first : Bool := false
  /-- the next tick carries REBASE -/
  rebase : Bool := false
  /-- a jump waits for its tick (R112, R113), and whether a step of the followed time caused it -/
  jump : Bool := false
  jumpStep : Bool := false
  /-- the relock rule has still to be applied (R112) -/
  relock : Bool := false
  /-- measurements in a row in window, and at or above UNLOCK_WIN -/
  inWin : Nat := 0
  outWin : Nat := 0
  /-- the source followed, KIND and INDEX, as the last tick applied it (R105) -/
  kind : Nat := 0
  index : Nat := 0
  /-- frequency offsets measured over the last 1 s in LOCK, newest first (R111) -/
  freqs : List Int := []
  /-- the lock grid: a SIDX and its instant in the followed time, 2^-16 ns (R113) -/
  grid : Option (Int × Int) := none
  /-- the ticks issued since the generator's count began, newest first: SIDX and the FT64 shown (R126, R127) -/
  ticks : List (Word64 × Word64) := []
  /-- the count that the last REBASE tick ended or moved, for consumers that have not taken that tick yet: whether it counted
  from the epoch, and its ticks (R164) -/
  prev : Option (Bool × List (Word64 × Word64)) := none
  /-- the timestamps of the CRF copy accepted last from the context that is the source, in ns (R190) -/
  crf : List Nat := []
  /-- MCLK_OUTn runs (R116) -/
  mclk : Bool := false
  deriving DecidableEq, Repr

/-- What a frame in the switch packet buffer is. -/
inductive FrameKind where
  /-- an ordinary frame -/
  | data
  /-- a MAC control PAUSE of the device (R319) -/
  | pause
  /-- a MAC merge verify or respond packet (R314) -/
  | verify | respond
  deriving DecidableEq, Repr

/-- A frame in the switch packet buffer, from the destination address to the last byte before the FCS. -/
structure Frame where
  bytes : List Byte
  /-- copies of one stored frame share its cells -/
  id : Nat := 0
  /-- the NET port it entered on, none for a frame the device originates -/
  ingress : Option Nat := none
  /-- corrected ingress time (R54) less all steps of the time base before it, 2^-16 ns -/
  ts : Int := 0
  kind : FrameKind := .data
  /-- the number of a cue frame, 0 for none (R363) -/
  cue : Nat := 0
  /-- the transmit context whose copy it is -/
  ctx : Option Nat := none
  deriving DecidableEq, Repr

/-- The frame on a port's wire. -/
structure OnWire where
  frame : Frame
  /-- the FCS that follows it (R291) -/
  fcs : List Byte := []
  cls : Nat
  /-- the class was preemptable as the frame started (R312) -/
  pre : Bool := false
  /-- stepless time at which this fragment started, 2^-16 ns -/
  start : Int := 0
  /-- frame bytes sent in earlier fragments -/
  sent : Nat := 0
  /-- its gate has closed after its last legal boundary (R313) -/
  past : Bool := false
  deriving DecidableEq, Repr

/-- A preempted frame's remainder (R313). -/
structure Remainder where
  frame : Frame
  fcs : List Byte := []
  cls : Nat
  sent : Nat
  /-- its gate was closed or a hold was in force during the pause, so it waits for the pause to end (R317) -/
  held : Bool := false
  deriving DecidableEq, Repr

/-- A received frame being reassembled (R315). -/
structure Assembly where
  bytes : List Byte
  count : Nat
  /-- the next fragment count expected -/
  next : Nat
  pcsErr : Bool
  ts : Int
  deriving DecidableEq, Repr

/-- What the last frame start brought into force: CLASS_CFG, the two slopes, MM_CFG and whether preemption is active (R312,
R314, text under Table 12.4). -/
structure NetCfg where
  cls : Word := 0
  slope5 : Word := 0
  slope6 : Word := 0
  mm : Word := 0
  active : Bool := false
  deriving DecidableEq, Repr

/-- A network port behind its registers (R274 to R319). -/
structure NetSt where
  /-- what makes the port faulted (R278) -/
  pcs : Bool := true
  localF : Bool := false
  remoteF : Bool := false
  linkBit : Bool := false
  an : Bool := false
  /-- the partner's RF of Clause 37 is not 0b00 (R279) -/
  rf : Bool := false
  hdx : Bool := false
  rateErr : Bool := false
  /-- the eight class queues, keyed by class -/
  q : KMap (List Frame) := []
  wire : Option OnWire := none
  rem : Option Remainder := none
  assy : Option Assembly := none
  /-- a PAUSE that waits for the next frame boundary, with its pause_time (R319) -/
  pauseTx : Option Nat := none
  /-- quanta loaded and the stepless time of the load, while paused (R317) -/
  pause : Option (Nat × Int) := none
  /-- the egress timestamp of the PTP event message sent last, in 2^-16 ns of the time base (R53, R55) -/
  stamp : Option Int := none
  /-- quanta of that load that PAUSE_QUANTA_CNT holds already -/
  counted : Nat := 0
  cfg : NetCfg := {}
  /-- verify frames sent since verification began (R314) -/
  tries : Nat := 0
  /-- shaper credits in units of 2^-16 × 10^-6 bit, and the stepless time they are of (R303) -/
  credit5 : Int := 0
  credit6 : Int := 0
  creditAt : Int := 0
  deriving DecidableEq, Repr

/-- A snapshot of the port counters in progress: the copies, and their FT64 (R294). -/
structure Snap where
  copies : List (Nat × Word)
  ft : Word64
  deriving DecidableEq, Repr

/-- The MDIO transaction in progress (R297). -/
structure Mdio where
  op : Nat
  prtad : Nat
  devad : Nat
  addr : Nat
  data : Nat
  deriving DecidableEq, Repr

/-- Where a good frame is handed to. -/
inductive Sink where
  /-- the stream engine: receive context, its binding, and the copies that match no other rule (R128) -/
  | stream (ctx binding : Nat)
  | ptp (dom : Nat)
  | disc | probe | topo | mgmt | response
  | wake | heartbeat | e131 | pause
  deriving DecidableEq, Repr

/-- A frame handed to one of the device's functions and not yet taken by it. -/
structure Handed where
  sink : Sink
  /-- the port it came on: 0 to 3, 4 for the stage bus, 5 for the node's own request -/
  port : Fin 6
  bytes : List Byte
  /-- as in `Frame` -/
  ts : Int := 0
  deriving DecidableEq, Repr

/-- A chain port's causes to be blocked, and whether it has a peer (R324, Table 13.9). -/
structure MioPort where
  peer : Bool := false
  brk : Bool := false
  lost : Bool := false
  restoring : Bool := false
  noPeer : Bool := false
  segOver : Bool := false
  /-- the peer on the link, as its DISC names it: FNID and port -/
  far : Option (Nat × Nat) := none
  deriving DecidableEq, Repr

/-- A node in a network's topology database (R334). -/
structure MioNode where
  fnid : Nat
  mac : Nat
  /-- DISC FLAGS [15:12], as bits 3 to 0 -/
  flags : Nat := 0
  pair : Nat := 0
  /-- HOPS received on the network's lower and higher port, with the address that sent the frame -/
  lo : Option (Nat × Nat) := none
  hi : Option (Nat × Nat) := none
  /-- SEQ of the last DISC -/
  seq : Nat := 0
  deriving DecidableEq, Repr

/-- One network's side of the fabric program. -/
structure MioNet where
  nodes : List MioNode := []
  /-- TOPO frames forwarded, ORIGIN and SEQ, newest first -/
  topos : List (Nat × Nat) := []
  deriving DecidableEq, Repr

/-- A requester record (R345): the last 16 distinct tags with their responses, newest first. -/
structure ReqRec where
  fnid : Nat
  session : Nat
  tags : List (Nat × List Byte) := []
  deriving DecidableEq, Repr

/-- A request from an edge port: its origin, SESSION and TAG, and the port and the station to answer (R343). -/
structure EdgeReq where
  origin : Nat
  session : Nat
  tag : Nat
  port : Nat
  mac : Nat
  deriving DecidableEq, Repr

/-- The fabric behind its registers. -/
structure MioSt where
  ports : KMap MioPort := []
  /-- network A is 0, network B is 1 -/
  nets : KMap MioNet := []
  /-- sequence numbers: DISC, PROBE, TOPO, MGMT -/
  seqDisc : Nat := 0
  seqProbe : Nat := 0
  seqTopo : Nat := 0
  seqMgmt : Nat := 0
  /-- the FNID this node claims (R336) -/
  claim : Nat := 0
  /-- requester records, most recently used first, at most 32 -/
  recs : List ReqRec := []
  /-- the host's own request in progress: destination and body (R346) -/
  req : Option (Nat × List Byte) := none
  /-- requests that came in on an edge port and went on to other nodes, newest first (R343) -/
  edges : List EdgeReq := []
  deriving DecidableEq, Repr

/-- A context's mute gain (R159, R188): `pos` samples along the fade curve f on the mute side, or along 1 − f on the
unmute side, rising to 32 or going back to 0 after a ramp was interrupted. At rest a context stands on the mute
side, at 0 unmuted and at 32 muted. -/
structure MuteRamp where
  muteSide : Bool := true
  pos : Nat := 0
  rising : Bool := false
  moving : Bool := false
  deriving DecidableEq, Repr

/-- A transmit context behind its words (R142 to R164). -/
structure StxSt where
  /-- runs as if ALIGN_GRP were 0 (R155) -/
  solo : Bool := false
  ramp : MuteRamp := {}
  /-- the samples that have reached assembly: SIDX of the first, then one list of channels a sample; a channel at gain
  exactly 0 holds none, and a sample that assembly has never had holds no channel -/
  base : Word64 := 0
  asm : List (List (Option Int)) := []
  /-- the mr bit of AAF (Table 5.2) -/
  mr : Bool := false
  /-- STATE 1 has its start sample (R157) -/
  placed : Bool := false
  /-- the first sample that has not reached assembly yet; none before any has since the context was enabled -/
  reached : Option Word64 := none
  /-- an injection has gone into the assembly of a sample: its SIDX, and whether it is uncorrectable (R537) -/
  hurt : Option (Word64 × Bool) := none
  deriving DecidableEq, Repr

/-- A run of discontinuous copies from one binding (R170): how many, and the last one's ext and timestamp. -/
structure DiscRun where
  count : Nat := 0
  ext : Nat := 0
  ts : Nat := 0
  deriving DecidableEq, Repr

/-- What a receive context plays (R179 to R186). -/
inductive Play where
  /-- silence -/
  | silent
  /-- the ring, fully in -/
  | full
  /-- fade-in: samples faded in so far, under a concealment at missing sample `c` when it is a rejoin (R181) -/
  | fadeIn (i : Nat) (c : Option Nat)
  /-- concealment at missing sample `i` (R179) -/
  | conceal (i : Nat)
  /-- the fade-out of REALIGN: samples faded out, and samples played of the unwritten span that the read is in (R186) -/
  | fadeOut (i j : Nat)
  deriving DecidableEq, Repr

/-- A receive context behind its words (R165 to R190). -/
structure SrxSt where
  solo : Bool := false
  ramp : MuteRamp := {}
  /-- the read point: SIDX of the next sample not yet begun to read; none before a tick has placed it (R172) -/
  r : Option Word64 := none
  /-- a window is in force: the flags of EXT_SEQ − i in bit i, and how many of its numbers are tracked (R168, R169) -/
  win : Option (BitVec 256) := none
  tracked : Nat := 0
  /-- written spans by p mod 2^32, and those of copies accepted since the entry to REALIGN -/
  spans : List Nat := []
  fresh : List Nat := []
  /-- deep spans not yet staged (R176) -/
  unstaged : List Nat := []
  /-- the start sample, and the recorded p that waits for the group (R184) -/
  start : Option Nat := none
  recorded : Option Nat := none
  /-- its group's start sample has been fixed since it entered the state it starts from -/
  fixed : Bool := false
  /-- last sample of the REALIGN fade-out, mod 2^32; the flush has been made -/
  fadeEnd : Option Nat := none
  flushed : Bool := false
  runs : KMap DiscRun := []
  /-- stepless time of the last entry to REALIGN, from which the hold-off of R171 counts -/
  realigned : Option Int := none
  play : Play := .silent
  /-- the last samples played, newest first, one list of channels a sample, and the sample under the present policy -/
  hist : List (List Int) := []
  concealed : List (List Int) := []
  /-- its generator has stopped issuing ticks (Table 7.2) -/
  stopped : Bool := false
  /-- the last copy accepted had no SIDX by R127, its generator having issued no tick (log entry 42) -/
  blind : Bool := false
  deriving DecidableEq, Repr

/-- A channel of a serial port behind its RUN and MUTED bits (R265 to R268). -/
structure SapCh where
  /-- the commands that wait for a zero crossing, and the samples evaluated since -/
  wait : List Nat := []
  evald : Nat := 0
  /-- the sample before the next one -/
  last : Int := 0
  /-- a timeout ramp: the commands it carries out, and its gain (R267, R268) -/
  ramp : Option (List Nat × MuteRamp) := none
  /-- samples at the handle not yet evaluated, and those evaluated and not yet taken, oldest first, with their SIDX; none for
  a sample at which the channel is not audible -/
  raw : List (Word64 × Int) := []
  done : List (Word64 × Option Int) := []
  deriving DecidableEq, Repr

/-- The gain that a re-centre, a lock or a clock loss puts on all channels of one direction of a port. -/
inductive SapFade where
  | none
  /-- falling: samples along the curve; then silent for the samples given, or until the port recovers -/
  | down (i : Nat) (silent : Option Nat)
  /-- silent for the samples given, or until the port recovers -/
  | silent (left : Option Nat)
  /-- rising: samples along the curve -/
  | up (i : Nat)
  deriving DecidableEq, Repr

/-- A serial port behind its registers (R252 to R272). -/
structure SapSt where
  /-- the mask and lane directions in force -/
  mask : BitVec 8 := 0
  dir : BitVec 4 := 0
  /-- SIDX of the frames of a master port opened and not complete, oldest first -/
  frames : List Word64 := []
  /-- EN has been written 0 while a frame is in progress, with which the port ends (R272) -/
  ending : Bool := false
  /-- F of the next frame to complete (R255) -/
  f : Nat := 0
  /-- channels: 0 to 7 SIN, 8 to 15 SOUT -/
  ch : KMap SapCh := []
  fadeIn : SapFade := .none
  fadeOut : SapFade := .none
  /-- a valid frame has been seen since enable -/
  seen : Bool := false
  /-- the last frame at the balls, cycle c in bit c: what each lane was driven with, 0 where it is an input, and WS of a master
  (R254); and the lanes' word bits that fall in cycle 0 of the next frame -/
  lanes : List Nat := []
  ws : Nat := 0
  carry : List Nat := []
  /-- the input frames in the transfer buffer of the rate converter, newest first: FT64 of each, and its samples by compacted
  channel (R261) -/
  rows : List (Word64 × List Int) := []
  deriving DecidableEq, Repr

/-- A posted write of external memory that waits in its queue (R549): region in the order of Table 23.2 (0 deep rings,
1 Contrail map, 2 delay lines, 3 Contrail ring), its items by number with their values, the Contrail channel and first
sample of the block whose map bits it sets, the deep context and position p of the span it holds, and its size in bytes. -/
structure Posted where
  region : Nat
  items : List (Nat × Int)
  mark : Option (Nat × Word64) := none
  span : Option (Nat × Nat) := none
  bytes : Nat
  deriving DecidableEq, Repr

/-- The external memory behind its registers. Deep ring items are numbered 16 384 × m_h × channel + slot and hold S32; delay
line items 131 072 × slot + index, S64; Contrail ring items L_ctr × channel + position, S32; map bits L_ctr ÷ 4 ×
channel + position ÷ 4. -/
structure DdrSt where
  /-- what runs: 0 nothing, 1 training in full, 2 a retrain, 3 the way out of self-refresh -/
  phase : Nat := 0
  /-- DDR_GEOM as it was trained (R543) -/
  geom : Word := 0
  deep : KMap Int := []
  map : KMap Bool := []
  dly : KMap Int := []
  ring : KMap Int := []
  posted : List Posted := []
  /-- H_c and S_c of the Contrail channels (R546) -/
  mark : KMap (Option (Word64 × Word64)) := []
  /-- beats that hold an uncorrectable error, by beat address ÷ 8 (R551) -/
  bad : KMap Bool := []
  /-- failed attempts of the reads in flight, by reader (R550) -/
  tries : KMap Nat := []
  /-- stepless times of the alerts of the last second, newest first -/
  alerts : List Int := []
  deriving DecidableEq, Repr

/-- What a job writes when it commits (R197). -/
structure JobOut where
  /-- handles with the block's samples -/
  sigs : List (Nat × List Int) := []
  /-- heap words -/
  heap : List (Nat × Nat) := []
  /-- samples that saturated -/
  sat : Nat := 0
  /-- writes posted to external memory -/
  posts : List Posted := []
  /-- the Contrail channel whose block it accounts -/
  ctr : Option Nat := none
  /-- foreign-rate samples for the transmit assembly: NTX index, SIDX of the first, samples -/
  ntx : Option (Nat × Word64 × List Int) := none
  deriving DecidableEq, Repr

/-- How far a job of the block is. -/
inductive JobStage where
  | waiting
  | running (lane : Nat) (again : Bool) (out : JobOut)
  | done
  deriving DecidableEq, Repr

/-- A job of the block in progress (R229 to R234). -/
structure JobRun where
  bank : Nat
  entry : Nat
  /-- effective class (R233), deadline D in cycles (R230, R231), and whether the P0 limit is what sets it -/
  cls : Fin 4
  due : Nat
  p0 : Bool := false
  /-- it runs in its reduced form (R241) -/
  reduced : Bool := false
  /-- its external read: none when it makes none, else whether it has returned and the samples read -/
  ext : Option (Bool × List Int) := none
  cost : Nat := 0
  stage : JobStage := .waiting
  deriving DecidableEq, Repr

/-- A block in its job phase. -/
structure AnvBlock where
  start : Word64
  n : Nat
  jobs : List JobRun
  /-- position of sample 0 in a crossfade, and its length -/
  fade : Option (Nat × Nat) := none
  /-- its samples have reached assembly (R145) -/
  fed : Bool := false
  /-- a job of it has read an invalid handle (R26); an SRC job of it has met a generator that does not match (R210) -/
  badHdl : Bool := false
  mismatch : Bool := false
  /-- the bank that was LIVE as it was gathered, and a disable has come since (R218) -/
  live : Nat := 0
  disabled : Bool := false
  /-- lane-cycles executed -/
  used : Nat := 0
  /-- lane-cycles of shadow checks by spare lane (R238), and the checks that run: spare lane and job, as 32 768 × bank + entry
  (R226) -/
  shadowed : KMap Nat := []
  checks : List (Nat × Nat) := []
  deriving DecidableEq, Repr

/-- A closed block that waits for its gather: first sample, length, whether a rebase closed it, and what stood on its cycle 0,
the FT64 of its boundary and CAP (R228, R236, R250). -/
structure AnvDue where
  start : Word64
  n : Nat
  short : Bool := false
  ft : Word64 := 0
  cap : Word := 0
  deriving DecidableEq, Repr

/-- A swap accepted and not yet made: the bank that it makes LIVE (R220). -/
structure AnvSwap where
  bank : Nat
  xfade : Nat
  /-- the comparator of a timed swap, and whether it has fired -/
  tcmp : Option Nat := none
  fired : Bool := false
  /-- its boundary has come: the first sample of the block that it closed, whose job phase is the first of the new bank -/
  at_ : Option Word64 := none
  deriving DecidableEq, Repr

/-- Anvil and its scheduler behind their registers (R194 to R251). -/
structure AnvSt where
  /-- working lanes, ascending -/
  work : List Nat := []
  /-- faults charged to each lane: the numbers of their blocks, newest first; and the lanes that retire at the next
  boundary -/
  faults : KMap (List Nat) := []
  retire : List Nat := []
  /-- blocks gathered -/
  count : Nat := 0
  /-- first sample not yet in a closed block; until the first gather, the first sample that is gathered for real (R217) -/
  next : Option Word64 := none
  since : Option Word64 := none
  /-- closed blocks not yet gathered, and how many of their gathers have fallen due and wait (R232) -/
  due : List AnvDue := []
  waiting : Nat := 0
  block : Option AnvBlock := none
  /-- effective classes of each bank, as its last validation gave them, by entry (R233) -/
  cls : KMap (List (Nat × Nat)) := []
  /-- an enable or a swap has come since the last block (R240) -/
  fresh : Bool := false
  swap : Option AnvSwap := none
  /-- samples of a crossfade done, the outgoing bank, and its length -/
  xfade : Option (Nat × Nat × Nat) := none
  /-- the block's samples of each handle: gathered handles under 131 072 + handle, written ones under 65 536 × bank +
  handle -/
  sig : KMap (List Int) := []
  /-- foreign-rate samples written by SRC jobs in their last block, keyed as `sig` -/
  fgn : KMap (Option (Word64 × List Int)) := []
  /-- foreign-rate input samples of this block by receive context: SIDX of the last one and the rows, newest first -/
  rows : KMap (Nat × List (List Int)) := []
  /-- smoothed positions of the last sample converted, keyed 8 × generator + generator on whose count: the sample, and its
  position in units of 2^-32 (R210) -/
  pos : KMap (Option (Word64 × Int)) := []
  /-- jobs that missed in the last block, keyed 32 768 × bank + entry -/
  missed : KMap Bool := []
  /-- the four need values: d_need of consecutive blocks below d, and runs of blocks over and within the budget -/
  ease : List Nat := []
  past : Nat := 0
  fit : Nat := 0
  /-- blocks and misses in the telemetry period -/
  period : Nat := 0
  misses : Nat := 0
  /-- the entry, as 32 768 × bank + entry, from which the next shadow check takes a job (R226) -/
  shadow : Nat := 0
  /-- the word the store scrub reads next (R523) -/
  scrub : Nat := 0
  /-- input words of the next gather that their crossing has silenced: handle and sample (R31) -/
  hushed : List (Nat × Word64) := []
  deriving DecidableEq, Repr

/-- A cue's state behind its table entry (R357): 0 IDLE, 1 PENDING, 2 DONE. -/
structure CueSt where
  state : Nat := 0
  /-- its due time, FT64, while PENDING -/
  due : Word64 := 0
  deriving DecidableEq, Repr

/-- A trigger waiting for the cue engine (R359): an event of Table 14.5, or a cue that an E1.31 commit triggers. -/
inductive CueTrig where
  | event (evt : Nat)
  | cue (c : Nat)
  deriving DecidableEq, Repr

/-- A DMX port (R369 to R371). -/
structure DmxSt where
  /-- a DMX action has started it, from buffer `buf`, and not stopped it -/
  run : Bool := false
  buf : Nat := 0
  /-- a packet is on the line, with the image taken at its break -/
  busy : Bool := false
  image : List Byte := []
  deriving DecidableEq, Repr

/-- What a universe buffer keeps of its sources (R373). -/
structure E131St where
  /-- the highest priority accepted and the stepless time of its last acceptance, 2^-16 ns -/
  prio : Nat := 0
  at_ : Int := 0
  hold : Bool := false
  seq : Option Nat := none
  deriving DecidableEq, Repr

/-- Timecode in and out (R374 to R376). -/
structure LtcSt where
  /-- a START is in force -/
  start : Bool := false
  /-- the label of the frame sent last: hours, minutes, seconds, frames -/
  label : Nat × Nat × Nat × Nat := (0, 0, 0, 0)
  /-- consecutive valid frames received at one rate, and that rate -/
  good : Nat := 0
  rate : Nat := 0
  deriving DecidableEq, Repr

/-- The cue engine behind its registers. -/
structure CueEng where
  cues : KMap CueSt := []
  trigs : List CueTrig := []
  /-- the due time each claimed comparator is armed for, keyed by comparator -/
  armed : KMap (Option Word64) := []
  /-- send counts of the templates, mod 256 (R366) -/
  sent : KMap Nat := []
  /-- the number of the next cue frame, and the deadlines of those not yet sent, keyed by number (R363) -/
  nextFrame : Nat := 1
  deadlines : KMap (Option Word64) := []
  dmx : KMap DmxSt := []
  e131 : KMap E131St := []
  ltc : LtcSt := {}
  deriving DecidableEq, Repr

/-- A frame in a stage bus queue; `cue` is the number of a cue frame, 0 for none. -/
structure T1sFrame where
  bytes : List Byte
  cue : Nat := 0
  deriving DecidableEq, Repr

/-- The stage bus port behind its registers (R351 to R355). -/
structure T1sSt where
  cueQ : List T1sFrame := []
  mgmtQ : List T1sFrame := []
  /-- the frame being attempted, the collisions it has had, and whether it is on the wire -/
  tx : Option T1sFrame := none
  cols : Nat := 0
  onWire : Bool := false
  /-- in back-off, with the slot times drawn -/
  backoff : Option Nat := none
  /-- frames sent in this transmit opportunity -/
  burst : Nat := 0
  deriving DecidableEq, Repr

/-- The Halo program behind its registers (R380 to R399). -/
structure HaloSt where
  /-- the HALO_ACT ball is driven high -/
  act : Bool := false
  /-- the wire pulse sent last on HALO_HBO, in µs; 0 for none -/
  hbo : Nat := 0
  /-- heartbeats sent -/
  seq : Nat := 0
  /-- the partner's last heartbeat: its state, and REQ and DETACH -/
  pState : Nat := 0
  pReq : Bool := false
  pDetach : Bool := false
  /-- REQ comes from a SWITCH whose RESULT waits -/
  switch : Bool := false
  /-- DETACH was entered by a write of EN = 0 -/
  byEn : Bool := false
  /-- ports on which the network path is not silent, as a mask (R387) -/
  netOk : Nat := 0
  /-- FIT and READY as the last heartbeat carried them -/
  fit : Bool := false
  ready : Bool := false
  /-- the stepless time at which the reclaim count began, 2^-16 ns (R395) -/
  reclaim : Option Int := none
  deriving DecidableEq, Repr

/-- A stored word of a host queue (R403, R406). -/
structure HqWord where
  data : Word64
  /-- the end mark -/
  last : Bool
  nbytes : Nat
  torn : Bool := false
  deriving DecidableEq, Repr

/-- A host queue (R400): the stored, unread words, oldest first, and the duplicated pointers (R410). -/
structure Hq where
  words : List HqWord := []
  wp : Nat := 0
  wpDup : Nat := 0
  rp : Nat := 0
  rpDup : Nat := 0
  /-- the watermark state ABOVE (R412) -/
  above : Bool := false
  /-- FLUSH_PEND (R409) -/
  flushPend : Bool := false
  /-- the words of the packet in progress that have still to be stored, the packing register's first (R402 to R404) -/
  rest : List HqWord := []
  deriving DecidableEq, Repr

/-- A Dusk or a Dawn that a request or a wake has started (R454, R459, R466): the domain, the state it goes to (0 ON, 1 RET,
2 OFF), the banks that fail at a Dawn, and whether its sequence runs or it waits for its relatives. -/
structure PwrJob where
  dom : Nat
  dest : Nat
  bad : List Bank := []
  started : Bool := false
  deriving DecidableEq, Repr

/-- What the Dawn policy has still to reapply after a failed check (R470): the words of a table or Anvil sub-bank, or the registers of
the function that owns the bank, by block and instance. -/
inductive Lost where
  | words (array sub : Nat)
  | regs (block inst : Nat)
  deriving DecidableEq, Repr

/-- What AON keeps beside the PWR registers. -/
structure PwrSt where
  /-- the sequences that run or wait, in the order they were called for -/
  jobs : List PwrJob := []
  /-- a wake of this cycle stands in PWR_WAKE_SRC: another of the same cycle joins it (R472) -/
  now : Bool := false
  /-- the domains that were ON at the last Dusk of CORE (R467) -/
  wasOn : List Nat := []
  /-- the Dawn policy program waits for SYSPLL_LOCK to make the clock switch (R467) -/
  policy : Bool := false
  /-- what the Dawn policy program has still to reapply from the image (R470) -/
  lost : List Lost := []
  deriving DecidableEq, Repr

/-- A sequencer timer (R480). -/
structure RqlTimer where
  running : Bool := false
  /-- microseconds it was started with, or what a freeze left of it -/
  left : Nat := 0
  deriving DecidableEq, Repr

/-- A Requel sequencer behind its registers (R473 to R483). -/
structure RqlSt where
  /-- the 32 event bits -/
  pend : Word := 0
  /-- the latest ARG of each pending input, keyed by event bit -/
  arg : KMap Nat := []
  /-- V0 to V15 -/
  vars : KMap Word := []
  /-- T0 to T7 -/
  timers : KMap RqlTimer := []
  deriving DecidableEq, Repr

/-- What the image loader does (R493 to R508). -/
inductive Loader where
  | idle
  /-- held at the end of step 5 while HOTSWAP_N is asserted (R519) -/
  | hotswap
  /-- it may go on -/
  | run
  /-- before a write of STX_CMD or SRX_CMD, until QUEUED is 0 (R501) -/
  | queued
  /-- in a WAIT section -/
  | wait (addr : Nat) (mask value : Word)
  /-- at the clock switch, for SYSPLL_LOCK (R507) -/
  | lock
  /-- in a warm start, for SEL_ACT (Table 21.3) -/
  | sel
  /-- stopped until a reset: a failed start, a fatal error, a stop under R519 or a life-cycle change -/
  | halted
  deriving DecidableEq, Repr

/-- Start, image and life cycle behind their registers (R491 to R519). -/
structure BootSt where
  /-- OTP: the life-cycle state (Table 21.9), and for each key slot its state and hash -/
  lc : Nat := 0
  keys : KMap (Nat × Nat) := []
  /-- start record: the slot last started, and that start confirmed -/
  lastSlot : Nat := 0
  lastOk : Bool := false
  /-- always-on retained store: slot and digest of the last full load, that load confirmed, and the warm list -/
  digest : Option (Nat × List Byte) := none
  digestOk : Bool := false
  warm : List (Nat × Word) := []
  /-- the loader: the image as the apply pass reads it, section and byte within its data, clock switch made, what is left
  of a warm list that it applies -/
  loader : Loader := .idle
  img : List Byte := []
  sect : Nat := 0
  pos : Nat := 0
  switched : Bool := false
  warmLeft : Option (List (Nat × Word)) := none
  /-- a warm start to run once the command that caused it is done: 0 none, 1 after a Dawn of CORE, 2 by RESTART, 3 in
  full after a Dawn of CORE from OFF -/
  start : Nat := 0
  /-- the reset has been released and its cold start begun -/
  released : Bool := false
  /-- start record: a fatal error has been met, which the next reset shows (R536) -/
  fatal : Bool := false
  /-- a life-cycle change has begun: nothing outside GLB is reached until a reset (R515) -/
  changing : Bool := false
  deriving DecidableEq, Repr

/-- An entry of the row tracker (R528). -/
structure Track where
  array : Nat
  sub : Nat
  row : Nat
  count : Nat
  deriving DecidableEq, Repr

/-- A spare row of a sub-bank (R525, R529): free, never used, or in place of a row, by BIST or by live migration. -/
inductive SpareRow where
  | free
  | bad
  | used (row : Nat) (live : Bool)
  deriving DecidableEq, Repr

/-- What the repair map holds of a sub-bank: its two spare rows and the free good spare columns (R19, R526). -/
structure SubBank where
  row0 : SpareRow := .free
  row1 : SpareRow := .free
  cols : Nat := 2
  deriving DecidableEq, Repr

/-- Error protection and repair behind the INT registers (R520 to R538). -/
structure IntSt where
  /-- the row tracker, earliest first error first, at most 64 entries -/
  track : List Track := []
  /-- the repair map, keyed 32 × array code + sub-bank -/
  map : KMap SubBank := []
  /-- rows being migrated: array, sub-bank, row -/
  moving : List (Nat × Nat × Nat) := []
  /-- words that hold a corrected error which the next read finds, keyed as `poison` -/
  weak : KMap Bool := []
  /-- words in which BIST has left one faulty cell, and those in which it has left more (R526), keyed as `poison` -/
  stuck : KMap Bool := []
  dead : KMap Bool := []
  /-- words that an injection has left with an uncorrectable error that no read has found yet (R537), keyed as `poison`; and what it
  has left at the head of a frame in the packet buffer, keyed by frame: the word, and whether it is uncorrectable -/
  inj : KMap Bool := []
  cells : KMap (Option (Nat × Bool)) := []
  /-- the copy of the NVM record read or written last, and its SEQ (R531, R533) -/
  recCopy : Nat := 0
  recSeq : Nat := 0
  /-- a write-back of the record is in progress (R533) -/
  wbBusy : Bool := false
  /-- where the scrubber of each sub-bank stands, and the sub-banks it has passed since the last count, keyed as `map`
  (R522) -/
  pos : KMap Nat := []
  passed : KMap Bool := []
  deriving DecidableEq, Repr

/-- An orderly detach under way (Table 24.11): when it was recognised, on the monotonic time scale; whether step 3 has still to come;
and the next of steps 4 to 6. -/
structure Detach where
  since : Int
  three : Bool
  next : Nat := 4
  deriving DecidableEq, Repr

/-- Hot plug behind its registers (R569 to R571). -/
structure PinSt where
  /-- HOTSWAP_N is asserted -/
  hotswap : Bool := false
  /-- a detach waits for CORE (Table 24.12) -/
  due : Bool := false
  /-- HOTSWAP_N was asserted in step 6 of a start: the load stops at the next section boundary (R519) -/
  stop : Bool := false
  /-- the detach under way (R570) -/
  detach : Option Detach := none
  deriving DecidableEq, Repr

/-- The states of the TAP controller (IEEE 1149.1). -/
inductive TapState where
  | testLogicReset | runTestIdle
  | selectDr | captureDr | shiftDr | exit1Dr | pauseDr | exit2Dr | updateDr
  | selectIr | captureIr | shiftIr | exit1Ir | pauseIr | exit2Ir | updateIr
  deriving DecidableEq, Repr

/-- The mandatory instructions of IEEE 1149.1, and the Gwynkaith test instructions by number (Table 21.9). -/
inductive TapInstr where
  | bypass | sample | preload | extest
  | test (k : Nat)
  deriving DecidableEq, Repr

/-- The test access port on the JTAG balls (Table 0.2, Table 24.1). -/
structure Tap where
  state : TapState := .testLogicReset
  instr : TapInstr := .bypass
  /-- the shift stage of the instruction register, nearest TDO first -/
  ir : List Bool := []
  bypass : Bool := false
  /-- the boundary register: its shift stage, nearest TDO first, and its update stage -/
  chain : List Bool := []
  latched : List Bool := []
  deriving DecidableEq, Repr

/-- The device: everything the spec gives the block, but the queue of waiting commands. -/
structure Dev where
  /-- the register file, keyed by byte address -/
  regs : KMap Word := resetRegs
  /-- what each access port keeps, keyed by `portKey` -/
  ports : KMap PortSt := []
  /-- the ignore record, oldest first, at most 4 entries (R429) -/
  ign : List IgnEntry := []
  mbx : Mbx := {}
  clk : ClkSt := {}
  /-- tick paths, keyed by consumer and generator -/
  ticks : KMap TickPath := []
  /-- the sample word that each crossing delivered last, keyed 64 × source + destination island (Table 18.22) -/
  xing : KMap (BitVec 64) := []
  time : TimeSt := {}
  hq : KMap Hq := []
  /-- the PTP domains, keyed 0 to 3 -/
  ptp : KMap PtpDom := []
  /-- the media clock generators, keyed 0 to 7 -/
  mcg : KMap McgSt := []
  /-- the network ports, keyed 0 to 3 -/
  net : KMap NetSt := []
  /-- the number of the next frame stored in the switch packet buffer -/
  nextFrame : Nat := 1
  /-- frames handed to the device's functions, oldest first -/
  handed : List Handed := []
  /-- a snapshot in progress, and a held SNAP with its CLR (R294, R295) -/
  snap : Option Snap := none
  snapHeld : Option Bool := none
  mdio : Option Mdio := none
  mio : MioSt := {}
  /-- the stream contexts, keyed 0 to 511 -/
  stx : KMap StxSt := []
  srx : KMap SrxSt := []
  /-- enabled contexts, longest enabled first (R155, R183) -/
  stxOrder : List Nat := []
  srxOrder : List Nat := []
  /-- the stream commands in progress, and those held one deep: OP and context (R140) -/
  stxNow : Option (Nat × Nat) := none
  srxNow : Option (Nat × Nat) := none
  stxHeld : Option (Nat × Nat) := none
  srxHeld : Option (Nat × Nat) := none
  /-- the channel rings of the stream buffers, S64, keyed by 2 048 × ring + slot (R172) -/
  rings : KMap Int := []
  /-- the serial ports, keyed 0 to 23 -/
  sap : KMap SapSt := []
  /-- the external memory -/
  ddr : DdrSt := {}
  anv : AnvSt := {}
  /-- the Anvil store, 4 MiB (R198) -/
  store : List Host.Cell := []
  cue : CueEng := {}
  /-- the levels at the balls of the input cue pins (R368) -/
  cueIn : BitVec 16 := 0
  t1s : T1sSt := {}
  halo : HaloSt := {}
  pwr : PwrSt := {}
  /-- the Requel sequencers, keyed 0 to 7 -/
  rql : KMap RqlSt := []
  /-- the WIPE_DONE bit of the current life-cycle state (R517) -/
  wipeDone : Bool := true
  boot : BootSt := {}
  nvm : Nvm := {}
  /-- words that hold an uncorrectable error, keyed 8 388 608 × array code + word (R521) -/
  poison : KMap Bool := []
  /-- lanes retired in service, as the repair map holds them (R225), and a write-back of the record is pending (R533) -/
  lanesRec : List Nat := []
  wbPend : Bool := false
  integ : IntSt := {}
  pin : PinSt := {}
  jtag : Tap := {}
  /-- table memory, 4 MiB (R20) -/
  tbl : List Host.Cell := []
  /-- the interrupt balls, true while asserted low (R433) -/
  irqA : Bool := false
  irqB : Bool := false
  /-- the model's own counter of free values drawn (log entry 4) -/
  free : Nat := 0
  deriving DecidableEq, Repr

/-- A fault stops the block. No command of this block faults: the spec describes no stop of the machine. -/
inductive Fault where
  /-- Raised by nobody: the spec gives the block no state in which it stops. Safe. -/
  | stopped
  deriving DecidableEq, Repr

/-- Why a command has no meaning. -/
inductive Refusal where
  /-- Raised by an arm of `exec` whose command has no meaning yet. Safe: nothing is claimed of it. -/
  | notModelled (mnemonic : String)
  deriving DecidableEq, Repr

/-- The machine: the device and the commands that wait for it, first in, first out. -/
structure State where
  dev : Dev
  pending : List Instr
  deriving DecidableEq, Repr

/-- The machine right after reset: every register at its hardware reset value, memories wiped, no command
waiting. -/
def State.reset : State := { dev := {}, pending := [] }

end Sys2Proof.Machine
end

