-- ==== Sys2Proof/Machine/Ops.lean ====
section
/-! DEFINITION. The shared operations on the register file: reading and writing a register and a field,
counters, captures, free values, power and clock reach. Every meaning goes through them. -/

namespace Sys2Proof.Machine

open Sys2Proof

/-! ## Registers and fields -/

/-- The word stored for the register at byte address `a`. -/
def Dev.reg (d : Dev) (a : Nat) : Word := kget 0 d.regs a

/-- The device with the register at `a` set. -/
def Dev.setReg (d : Dev) (a : Nat) (w : Word) : Dev := { d with regs := kset 0 d.regs a w }

/-- The value of a field in a word. -/
def Fld.get (f : Fld) (w : Word) : Nat := (w.toNat / 2 ^ f.lo) % 2 ^ f.width

/-- The word with a field replaced; the value is taken modulo the field's width. -/
def Fld.put (f : Fld) (w : Word) (v : Nat) : Word :=
  (w &&& ~~~(BitVec.ofNat 32 ((2 ^ f.width - 1) * 2 ^ f.lo))) ||| BitVec.ofNat 32 ((v % 2 ^ f.width) * 2 ^ f.lo)

/-- The value of a register field. -/
def Dev.get (d : Dev) (f : Fld) : Nat := f.get (d.reg f.addr)

/-- The device with a register field set. -/
def Dev.put (d : Dev) (f : Fld) (v : Nat) : Dev := d.setReg f.addr (f.put (d.reg f.addr) v)

/-- A one-bit field reads 1. -/
def Dev.on (d : Dev) (f : Fld) : Bool := d.get f != 0

/-- The device with a one-bit field set or cleared. -/
def Dev.putB (d : Dev) (f : Fld) (b : Bool) : Dev := d.put f b.toNat

/-- A whole register as a field. -/
def wordFld (a : Nat) : Fld := ⟨a, 0, 32⟩

/-- Bit `i` of a register. -/
def bitFld (a i : Nat) : Fld := ⟨a, i, 1⟩

/-- The 64-bit value of a pair of registers, upper half first. -/
def Dev.pair (d : Dev) (hi lo : Nat) : Nat := (d.reg hi).toNat * 2 ^ 32 + (d.reg lo).toNat

/-- The device with a pair of registers set to a 64-bit value. -/
def Dev.setPair (d : Dev) (hi lo v : Nat) : Dev :=
  (d.setReg lo (BitVec.ofNat 32 v)).setReg hi (BitVec.ofNat 32 (v / 2 ^ 32))

/-! ## Counters and captures -/

/-- `n` more in a counter of `w` bits that saturates at all ones. -/
def satAdd (w v n : Nat) : Nat := min (v + n) (2 ^ w - 1)

/-- A counter field advanced by `n`, saturating. -/
def Dev.count (d : Dev) (f : Fld) (n : Nat) : Dev := d.put f (satAdd f.width (d.get f) n)

/-- A 32-bit counter register advanced by `n`, saturating. -/
def Dev.add (d : Dev) (a n : Nat) : Dev := d.count (wordFld a) n

/-- A 32-bit counter register advanced by one. -/
def Dev.inc (d : Dev) (a : Nat) : Dev := d.add a 1

/-- A 64-bit counter pair advanced by `n`, modulo 2^64 (R293). -/
def Dev.add64 (d : Dev) (hi lo n : Nat) : Dev := d.setPair hi lo ((d.pair hi lo + n) % 2 ^ 64)

/-- The fields of a list set one after the other. -/
def Dev.puts (d : Dev) : List (Fld × Nat) → Dev
  | [] => d
  | (f, v) :: t => (d.put f v).puts t

/-- A capture register loaded while its VALID is 0; a later event leaves the first in place (R37). -/
def Dev.capture (d : Dev) (valid : Fld) (fs : List (Fld × Nat)) : Dev :=
  if d.on valid then d else (d.puts fs).put valid 1

/-! ## Free values (log entry 4) -/

/-- A natural number the spec leaves open, and the device with the draw counted. -/
def Dev.freeNat (d : Dev) : Nat × Dev := (Config.freeNat d.free, { d with free := d.free + 1 })

/-- A signed number the spec leaves open, and the device with the draw counted. -/
def Dev.freeInt (d : Dev) : Int × Dev := (Config.freeInt d.free, { d with free := d.free + 1 })

/-! ## Words of the on-chip arrays (R520, R521, R537) -/

/-- A word of an on-chip array holds an uncorrectable error, found (R521) or injected and still to be found (R537), or lies over cells
that no spare covers (R526); arrays as Table 18.21 numbers them. -/
def Dev.poisoned (d : Dev) (array word : Nat) : Bool :=
  let k := 8388608 * array + word
  kget false d.poison k || kget false d.integ.dead k || kget false d.integ.inj k

/-- No word of any array holds an error. -/
def Dev.sound (d : Dev) : Bool :=
  d.poison.isEmpty && d.integ.dead.isEmpty && d.integ.inj.isEmpty && d.integ.weak.isEmpty && d.integ.stuck.isEmpty

/-- The word of table memory at a byte offset is poisoned. -/
def Dev.tblHurt (d : Dev) (off : Nat) : Bool := d.poisoned 3 (off / 8)

/-- An injection is armed for an array (R537). -/
def Dev.injDue (d : Dev) (array : Nat) : Bool := d.on fINT_INJ_CMD_ARMED && d.get fINT_INJ_CMD_ARRAY == array

/-- The injection is made: the arm clears. -/
def Dev.injMade (d : Dev) : Dev := (d.put fINT_INJ_CMD_OP 0).putB fINT_INJ_CMD_ARMED false

/-- A full 64-bit write of a word of an array: it replaces a poisoned word (R521), and an armed injection into its array
goes into it (R537). -/
def Dev.arrayWrite (d : Dev) (array word : Nat) : Dev :=
  let k := 8388608 * array + word
  let d := { d with poison := kset false d.poison k false,
                    integ := { d.integ with weak := kset false d.integ.weak k false, inj := kset false d.integ.inj k false } }
  if d.injDue array then
    let two := d.get fINT_INJ_CMD_BITS = 2
    let d := d.injMade
    { d with integ := if two then { d.integ with inj := kset false d.integ.inj k true }
      else { d.integ with weak := kset false d.integ.weak k true } }
  else d

/-- A 64-bit word of table memory written. -/
def Dev.tblWord (d : Dev) (off v : Nat) : Dev :=
  ({ d with tbl := writeWord64 d.tbl off v }).arrayWrite 3 (off / 8)

/-- `n` words of table memory from `off` written as zero. -/
def Dev.tblClear (d : Dev) (off : Nat) : Nat → Dev
  | 0 => d
  | n + 1 => (({ d with tbl := clearBytes d.tbl off 8 }).arrayWrite 3 (off / 8)).tblClear (off + 8) n

/-! ## Signed arithmetic -/

/-- The signed reading of a value of `w` bits. -/
def sgn (w v : Nat) : Int := (BitVec.ofNat w v).toInt

/-- An integer as a two's complement value of `w` bits. -/
def unsgn (w : Nat) (x : Int) : Nat := (BitVec.ofInt w x).toNat

/-- An integer confined to a range. -/
def clampI (lo hi x : Int) : Int := if x < lo then lo else if hi < x then hi else x

/-- An integer saturated to `w` bits, two's complement. -/
def satI (w : Nat) (x : Int) : Int := clampI (-(2 ^ (w - 1))) (2 ^ (w - 1) - 1) x

/-- The signed difference of two FT64 values (R51). -/
def sdiff64 (a b : BitVec 64) : Int := (a - b).toInt

/-! ## Access ports -/

/-- The key of a port's own state: Table 17.3's codes, each Requel sequencer apart (R418). -/
def portKey : Port → Nat
  | .spi => 0 | .cmp => 1 | .inband => 2 | .loader => 3
  | .rql n => 4 + n.val
  | .cue => 12

/-- The code of a port in the ignore record and the bus error log (Table 17.3). -/
def portCode : Port → Nat
  | .spi => 0 | .cmp => 1 | .inband => 2 | .loader => 3
  | .rql _ => 4
  | .cue => 5

/-- What a port keeps. -/
def Dev.port (d : Dev) (p : Port) : PortSt := kget {} d.ports (portKey p)

/-- The device with what a port keeps replaced. -/
def Dev.setPort (d : Dev) (p : Port) (x : PortSt) : Dev := { d with ports := kset {} d.ports (portKey p) x }

/-- The value a port has latched under a register's address. -/
def Dev.latched (d : Dev) (p : Port) (a : Nat) : Option Word := kget none (d.port p).latch a

/-- The device with a port's latch loaded. -/
def Dev.latch (d : Dev) (p : Port) (a : Nat) (w : Word) : Dev :=
  let x := d.port p
  d.setPort p { x with latch := kset none x.latch a (some w) }

/-! ## Power and clocks (Tables 1.1, 18.12; R440, R447) -/

/-- The state of domain `k`: 0 ON, 1 RET, 2 OFF (Table 18.14). -/
def Dev.domState (d : Dev) (k : Nat) : Nat := d.get (fPWR_DOMk_STS_STATE k)

/-- A sequence of domain `k` runs (R455). -/
def Dev.domSeq (d : Dev) (k : Nat) : Bool := d.on (fPWR_DOMk_STS_SEQ k)

/-- Domain `k` is ON, and no sequence takes it out of that state (R455). -/
def Dev.domOn (d : Dev) (k : Nat) : Bool := d.domState k == 0 && !d.domSeq k

/-- The source in use for CCLK is SYSPLL: ACLK and the DDRC controller clock run. -/
def Dev.selAct (d : Dev) : Bool := d.on fCLK_STS_SEL_ACT

/-- TCLK runs and the TIME domain is ON. -/
def Dev.timeRuns (d : Dev) : Bool := d.domOn 2 && d.on fCLK_STS_TPLL_LOCK

/-- The ANV island works: its domain is ON and ACLK runs. -/
def Dev.anvRuns (d : Dev) : Bool := d.domOn 3 && d.selAct

/-- The block codes of Table 17.4 for a register address. -/
def blockOf (a : Nat) : Nat :=
  match a / 0x10000 with
  | 0x00 => 0 | 0x01 => 1 | 0x02 => 2 | 0x03 => 3 | 0x04 => 4 | 0x05 => 5
  | 0x06 => 6 | 0x07 => 6 | 0x08 => 7 | 0x09 => 7 | 0x0A => 8 | 0x0B => 9
  | 0x0C => 10 | 0x0D => 10 | 0x0E => 11 | 0x0F => 11 | 0x10 => 12 | 0x11 => 13
  | 0x12 => 14 | 0x13 => 15 | 0x14 => 16 | 0x15 => 17 | 0x16 => 18 | 0x17 => 19
  | _ => 20

/-- The register at `a` can be reached now (R440): its domain is ON and its island's clock runs. What AON holds is
always reached (Table 18.1). -/
def Dev.reaches (d : Dev) (a : Nat) : Bool :=
  if a = rGLB_RESET_CAUSE ∨ a = rGLB_WDOG_CFG ∨ a = rGLB_WDOG_KICK ∨ a = rGLB_WDOG_LEFT ∨ a = rINT_REPAIR_CFG then true else
  match blockOf a with
  | 1 => true
  | 3 | 4 => d.timeRuns
  | 5 => d.domOn 4
  | 8 | 9 => d.anvRuns
  | 10 => if a = rSAP_REFUSE_CNT then d.domOn 1 else d.domOn (5 + (a - 0x0C0000) / 0x400 / 6)
  | 11 => if 0x0E8000 ≤ a then d.domOn 1 else d.domOn (9 + (a - 0x0E0000) / 0x1000)
  | 13 => d.domOn 13
  | 18 => d.domOn 14 && d.selAct
  | _ => d.domOn 1

end Sys2Proof.Machine
end

