-- ==== Sys2Proof/Machine/HostQueue.lean ====
section
/-! DEFINITION. Host queues (R400 to R416): packing, storing, popping, flushing, watermarks, and the
event log that every event of Table 18.6c writes. -/

namespace Sys2Proof.Machine

open Sys2Proof

/-! ## Time of the record -/

/-- Folded time (R50). -/
def Dev.ft64 (d : Dev) : BitVec 64 := BitVec.ofNat 64 (d.time.sec.toNat * 1000000000 + d.time.ns.toNat)

/-! ## Levels -/

/-- Queue `q`. -/
def Dev.hqOf (d : Dev) (q : Nat) : Hq := kget {} d.hq q

/-- The device with queue `q` replaced. -/
def Dev.setHq (d : Dev) (q : Nat) (x : Hq) : Dev := { d with hq := kset {} d.hq q x }

/-- PKTS: end marks stored and unread (R404). -/
def Hq.pkts (x : Hq) : Nat := (x.words.filter (·.last)).length

/-- HIGH and LOW as they act (R412). -/
def Dev.hqMarks (d : Dev) (q : Nat) : Nat × Nat :=
  let hi := min (d.get (fHQnn_WM_HIGH q)) 1024
  let lo := d.get (fHQnn_WM_LOW q)
  (hi, if hi ≤ lo then hi - 1 else lo)

/-- The watermark state evaluated on WORDS (R412). -/
def Dev.hqMark (d : Dev) (q : Nat) : Dev :=
  let x := d.hqOf q
  let n := x.words.length
  let (hi, lo) := d.hqMarks q
  if hi = 0 then d.setHq q { x with above := false }
  else if x.above then (if n ≤ lo then d.setHq q { x with above := false } else d)
  else if hi ≤ n then (d.setHq q { x with above := true }).inc (rHQnn_WM_CROSS_CNT q)
  else d

/-! ## Storing -/

/-- The words of the packet that owned an overwritten word become torn, up to its end mark (R406). -/
def tearHead : List HqWord → List HqWord
  | [] => []
  | w :: t => { w with torn := true } :: (if w.last then t else tearHead t)

/-- A word stored at the write pointer; in a full queue the oldest unread word gives way (R406). While a flush waits, what gives way
counts as discarded and tears nothing (R409). -/
def Dev.hqStore (d : Dev) (q : Nat) (w : HqWord) : Dev :=
  let x := d.hqOf q
  let wp := (x.wp + 1) % 1024
  let d := d.arrayWrite 4 (1024 * q + x.wp)
  match x.words with
  | h :: t =>
    if x.words.length < 1024 then
      (d.setHq q { x with words := x.words ++ [w], wp := wp, wpDup := wp }).hqMark q
    else
      let rp := (x.rp + 1) % 1024
      if x.flushPend then
        ((d.setHq q { x with words := t ++ [w], wp := wp, wpDup := wp, rp := rp, rpDup := rp }).inc (rHQnn_DISC_CNT q)).hqMark q
      else
      let t' := if h.last then t else tearHead t
      let d := d.setHq q { x with words := t' ++ [w], wp := wp, wpDup := wp, rp := rp, rpDup := rp }
      let d := d.inc (rHQnn_LOST_CNT q)
      (if h.torn then d else d.inc (rHQnn_TORN_CNT q)).hqMark q
  | [] => (d.setHq q { x with words := [w], wp := wp, wpDup := wp }).hqMark q

/-- The words of a list stored one after the other. -/
def Dev.hqStores (d : Dev) (q : Nat) : List HqWord → Dev
  | [] => d
  | w :: t => (d.hqStore q w).hqStores q t

/-- Bytes packed into queue words, the first byte to bits [63:56], the last word filled with zeros and
carrying the end mark (R403). `fuel` bounds the words. -/
def packWords : Nat → List Byte → List HqWord
  | 0, _ => []
  | fuel + 1, bs =>
    let now := bs.take 8
    let rest := bs.drop 8
    let data := BitVec.ofNat 64 (beNat (now ++ List.replicate (8 - now.length) 0))
    { data := data, last := rest.isEmpty, nbytes := now.length } :: (if rest.isEmpty then [] else packWords fuel rest)

/-- A flush takes effect: everything stored is discarded and counted (R409). -/
def Dev.hqDoFlush (d : Dev) (q : Nat) : Dev :=
  let x := d.hqOf q
  let d := d.setHq q { x with words := [], rp := x.wp, rpDup := x.wp, flushPend := false }
  (d.add (rHQnn_DISC_CNT q) x.words.length).hqMark q

/-- The producer of queue `q` packs the next word of its packet, which is stored; with the end mark a flush that waits takes effect
(R403, R409). -/
def Dev.hqStoreNext (d : Dev) (q : Nat) : Dev :=
  match (d.hqOf q).rest with
  | [] => d
  | w :: t =>
    let d := (d.setHq q { d.hqOf q with rest := t }).hqStore q w
    if t.isEmpty ∧ (d.hqOf q).flushPend then d.hqDoFlush q else d

/-- The packet in progress is stored to its end mark. -/
def Dev.hqFinish (d : Dev) (q : Nat) : Dev :=
  let x := d.hqOf q
  let d := (d.setHq q { x with rest := [] }).hqStores q x.rest
  if x.flushPend then d.hqDoFlush q else d

/-- Queue `q` accepts packets of producer `prod` (R401, R414). -/
def Dev.hqAccepts (d : Dev) (q prod : Nat) : Bool :=
  d.on (fHQnn_CFG_EN q) && d.get (fHQnn_CFG_PROD q) == prod

/-- A producer sends a packet to queue `q` (R401 to R406): it is in progress from now on, and the one before has come to its end
mark, since a producer writes its packets one after the other (R402, R409; log entry 211). -/
def Dev.hqPush (d : Dev) (q prod : Nat) (bs : List Byte) : Dev :=
  if d.hqAccepts q prod then
    let d := d.hqFinish q
    d.setHq q { d.hqOf q with rest := packWords bs.length bs }
  else d.inc (rHQnn_REJECT_CNT q)

/-! ## The event log and the sequencers' inputs -/

/-- Table 16.2: the bytes of an event log record. -/
def eventRecord (code arg : Nat) (ft : BitVec 64) : List Byte :=
  beBytes 2 code ++ beBytes 2 arg ++ beBytes 4 0 ++ beBytes 8 ft.toNat

/-- Sequencer `n`. -/
def Dev.rqlOf (d : Dev) (n : Nat) : RqlSt := kget {} d.rql n

/-- The device with sequencer `n` replaced. -/
def Dev.setRql (d : Dev) (n : Nat) (x : RqlSt) : Dev := { d with rql := kset {} d.rql n x }

/-- The table memory offset of word `i` of sequencer `n`'s program (Table 1.6). -/
def rqlWordAt (n i : Nat) : Nat := 0x2C8000 + 0x4000 * n + 8 * i

/-- Word `i` of sequencer `n`'s program. -/
def Dev.rqlWord (d : Dev) (n i : Nat) : Nat := readWord64 d.tbl (rqlWordAt n i)

/-- The code in input `i` of the input map of sequencer `n`: four to a word, the first in bits [63:48]. -/
def Dev.rqlInput (d : Dev) (n i : Nat) : Nat := (d.rqlWord n (1 + i / 4) / 2 ^ (48 - 16 * (i % 4))) % 65536

/-- An event bit made pending, with its ARG (R475). -/
def RqlSt.pended (x : RqlSt) (bit arg : Nat) : RqlSt :=
  { x with pend := x.pend ||| BitVec.ofNat 32 (2 ^ bit), arg := kset 0 x.arg bit arg }

/-- The inputs of sequencer `n` whose map names `code` made pending (R475); a sequencer that does not run
takes none. -/
def Dev.rqlTake (d : Dev) (code arg n : Nat) : Dev :=
  if d.on (fRQLn_STS_RUN n) then
    let hits := (List.range 16).filter fun i => d.rqlInput n i == code
    d.setRql n (hits.foldl (fun x i => x.pended (16 + i) arg) (d.rqlOf n))
  else d

/-- The reference program in sequencer `n` has stopped by a fault (Table 20.6a; log entry 66). -/
def Dev.refDown (d : Dev) (n : Nat) : Bool := !(d.domOn 1 && d.on (fRQLn_STS_RUN n))

/-- An event or sequencer input offered to the eight sequencers. -/
def Dev.rqlOffer (d : Dev) (code arg : Nat) : Dev :=
  (List.range 8).foldl (fun d n => d.rqlTake code arg n) d

/-- The domain that governs, if one does (R90). -/
def Dev.governing (d : Dev) : Option Nat :=
  if d.on fPTP_GOV_STS_NONE then none else some (d.get fPTP_GOV_STS_GOV)

/-- The cue event code of a device event (Table 14.5), 0 for none. -/
def Dev.cueEvt (d : Dev) (code arg : Nat) : Nat :=
  match code with
  | 0x0301 => 1
  | 0x0401 => if d.governing = some arg then 2 else 0
  | 0x0402 => 3 | 0x0701 => 4 | 0x0B01 => 5 | 0x0901 => 6 | 0x0801 => 7 | 0x0F02 => 8 | 0x0E01 => 9 | 0x0E02 => 10
  | _ => 0

/-- An event made to wait for the cue engine while it runs (R359). -/
def Dev.cueNote (d : Dev) (evt : Nat) : Dev :=
  if evt = 0 ∨ !d.on fCUE_STS_RUN then d else { d with cue := { d.cue with trigs := d.cue.trigs ++ [.event evt] } }

/-- A device event of Table 18.6c: one event log record (R401), the sequencers' inputs (R475) and the cue engine's
events (R359). All three are held in CORE: in its RET and OFF nothing takes the event (log entry 216). -/
def Dev.raise (d : Dev) (code arg : Nat) : Dev :=
  if d.domState 1 ≠ 0 then d else
  ((d.hqPush (d.get fHQ_ROUTE_EVT_Q) 5 (eventRecord code arg d.ft64)).rqlOffer code arg).cueNote (d.cueEvt code arg)

/-! ## Reading and the commands of a queue -/

/-- The tag that a pop returns (Table 16.8). -/
def hqTag (valid last torn : Bool) (left nbytes : Nat) : Nat :=
  valid.toNat * 2 ^ 31 + last.toNat * 2 ^ 30 + torn.toNat * 2 ^ 29 + left * 2 ^ 16 + nbytes

/-- A 32-bit read of HQnn_POP by a port: the tag, and the device after it (R405, R409). -/
def Dev.hqPop (d : Dev) (q : Nat) (p : Port) : Nat × Dev :=
  let x := d.hqOf q
  if x.flushPend then (0, d) else
  match x.words with
  | [] => (0, d.inc (rHQnn_EMPTY_POP_CNT q))
  | w :: t =>
    let rp := (x.rp + 1) % 1024
    let d := (d.setHq q { x with words := t, rp := rp, rpDup := rp }).hqMark q
    let d := d.latch p (rHQnn_DATA_L q) (w.data.setWidth 32)
    let d := d.latch p (rHQnn_DATA_H q) ((w.data >>> 32).setWidth 32)
    (hqTag true w.last w.torn t.length w.nbytes, d)

/-- FLUSH: at once when the producer is idle; with a packet in progress it waits for the end mark (R409, R414). A FLUSH while one
waits is a no-op. -/
def Dev.hqFlush (d : Dev) (q : Nat) : Dev :=
  let x := d.hqOf q
  if x.flushPend then d
  else if x.rest.isEmpty then d.hqDoFlush q
  else d.setHq q { x with flushPend := true }

/-- The end mark of the packet in progress: a flush that waits takes effect (R409). -/
def Dev.hqFlushDone (d : Dev) (q : Nat) : Dev :=
  if (d.hqOf q).flushPend then d.hqFinish q else d

/-- What happens to a queue in one queue cycle, in parts: the watermark state is evaluated once, on the values after it (R408, R412,
R416). `d` is the device before the cycle. -/
def Dev.hqCycle (d : Dev) (q : Nat) (after : Dev) : Dev :=
  let after := after.setReg (rHQnn_WM_CROSS_CNT q) (d.reg (rHQnn_WM_CROSS_CNT q))
  (after.setHq q { after.hqOf q with above := (d.hqOf q).above }).hqMark q

/-- The two copies of the pointers of a queue are compared; where they disagree, the queue resets, and the packet in progress is
discarded with what it held (R410). -/
def Dev.hqCompare (d : Dev) (q : Nat) : Dev :=
  let x := d.hqOf q
  if x.wp = x.wpDup ∧ x.rp = x.rpDup then d else
  let d := d.setHq q { x with words := [], rest := [], wp := 0, wpDup := 0, rp := 0, rpDup := 0, flushPend := false }
  let d := (d.add (rHQnn_DISC_CNT q) (x.words.length + x.rest.length)).inc (rHQnn_QERR_CNT q)
  let d := (d.capture fHQ_QERR_VALID [(fHQ_QERR_QUEUE, q)]).count fHQ_QERR_COUNT 1
  (d.hqMark q).raise 0x1001 q

/-- HQ_POINTER_MISMATCH: a bit of the second write pointer is disturbed (R410, R438). -/
def Dev.hqMismatch (d : Dev) (q : Nat) : Dev :=
  let x := d.hqOf q
  (d.setHq q { x with wpDup := if x.wp % 2 = 0 then x.wp + 1 else x.wp - 1 }).hqCompare q

/-- Time passes: each queue compares its pointers and stores the next word of its packet in progress (R400, R410; log entry
211). -/
def Dev.hqTick (d : Dev) : Dev :=
  (d.hq.map (·.1)).foldl (fun d q => (d.hqCompare q).hqStoreNext q) d

end Sys2Proof.Machine
end

