-- ==== Sys2Proof/Machine/TimeBase.lean ====
section
/-! DEFINITION. The time base (R40 to R52): the addend, one TCLK edge, steps and their size, the
comparators across a step, the claims on comparators and ball groups (R32 to R37). -/

namespace Sys2Proof.Machine

open Sys2Proof

/-! ## The value of the time base -/

/-- The time base modulus in units of 2^-40 ns. -/
def timeMod : Nat := 2 ^ 48 * 1000000000 * 2 ^ 40

/-- The time base over all its bits, in units of 2^-40 ns. -/
def TimeSt.value (t : TimeSt) : Nat := (t.sec.toNat * 1000000000 + t.ns.toNat) * 2 ^ 40 + t.frac.toNat

/-- The time base showing a value in units of 2^-40 ns, normalised into the ranges of R40. -/
def TimeSt.withValue (t : TimeSt) (v : Nat) : TimeSt :=
  { t with
    sec := BitVec.ofNat 48 (v / (2 ^ 40 * 1000000000))
    ns := BitVec.ofNat 30 (v / 2 ^ 40 % 1000000000)
    frac := BitVec.ofNat 40 (v % 2 ^ 40) }

/-- The 94-bit time that a capture or a timestamp records (R40). -/
def TimeSt.now94 (t : TimeSt) : Time94 := { sec := t.sec, ns := t.ns, frac := (t.frac >>> 24).setWidth 16 }

/-- A 94-bit time in units of 2^-16 ns. -/
def Time94.units (t : Time94) : Int := ((t.sec.toNat * 1000000000 + t.ns.toNat) * 65536 + t.frac.toNat : Nat)

/-! ## The addend (R41, R42) -/

/-- The addend in force. -/
def Dev.addend (d : Dev) : Nat := (d.reg rTIME_ADDEND_H).toNat % 65536 * 2 ^ 32 + (d.reg rTIME_ADDEND_L).toNat

/-- The addend applied, confined to nominal ±1 000 ppm; a replacement is counted. -/
def Dev.setAddend (d : Dev) (v : Nat) : Dev :=
  let lo := 0x01FF7CED9168
  let hi := 0x020083126E98
  let w := if v < lo then lo else if hi < v then hi else v
  let d := (d.setReg rTIME_ADDEND_L (BitVec.ofNat 32 w)).setReg rTIME_ADDEND_H (BitVec.ofNat 32 (w / 2 ^ 32))
  if w = v then d else d.inc rTIME_ADDEND_CLAMP_CNT

/-- One TCLK edge of the time base, as R41 writes it. -/
def TimeSt.edge (t : TimeSt) (addend : Nat) : TimeSt :=
  let sum := t.frac.toNat + addend % 2 ^ 40
  let ns := t.ns.toNat + addend / 2 ^ 40 + sum / 2 ^ 40
  let frac := BitVec.ofNat 40 sum
  if 1000000000 ≤ ns then { t with sec := t.sec + 1, ns := BitVec.ofNat 30 (ns - 1000000000), frac := frac }
  else { t with ns := BitVec.ofNat 30 ns, frac := frac }

/-! ## Domains against the time base (R91, R92) -/

/-- PTP domain `i`. -/
def Dev.dom (d : Dev) (i : Nat) : PtpDom := kget {} d.ptp i

/-- The device with PTP domain `i` replaced. -/
def Dev.setDom (d : Dev) (i : Nat) (x : PtpDom) : Dev := { d with ptp := kset {} d.ptp i x }

/-- The domain that drives the time base: the governing one while SERVO_EN = 1 (R91). -/
def Dev.driving (d : Dev) : Option Nat := if d.on fTIME_CTL_SERVO_EN then d.governing else none

/-- DTB as its register pair shows it, in 2^-16 ns (log entry 20). -/
def Dev.showDtb (d : Dev) (i : Nat) : Dev :=
  d.setPair (rPTP_PTDd_DTB_H i) (rPTP_PTDd_DTB_L i) (unsgn 64 ((d.dom i).dtb / 2 ^ 65))

/-- A domain's DTB set, in units of 2^-81 ns. -/
def Dev.setDtb (d : Dev) (i : Nat) (v : Int) : Dev := (d.setDom i { d.dom i with dtb := v }).showDtb i

/-- The time base less all its steps, in 2^-16 ns: a clock that no step moves. -/
def Dev.mono (d : Dev) : Int := d.time.now94.units - d.time.stepTotal

/-- A domain's rate against the time base (R91). -/
def Dev.ratio (d : Dev) (i : Nat) : Int := (d.dom i).rate

/-- A domain's rate set, exactly; RATIO shows it, saturating to its 32 bits (R88; log entry 172). -/
def Dev.setRatio (d : Dev) (i : Nat) (r : Int) : Dev :=
  (d.setDom i { d.dom i with rate := r, rateAt := d.mono, ratePrev := (d.dom i).rate }).setReg (rPTP_PTDd_RATIO i)
    (BitVec.ofInt 32 (satI 32 r))

/-- DTB as it was at the stepless time `t`, in 2^-16 ns, at which the present rate or the one before it was in force. -/
def Dev.dtbAt (d : Dev) (i : Nat) (t : Int) : Int :=
  let x := d.dom i
  let a := max t x.rateAt
  x.dtb - (x.rate * (d.mono - a) + x.ratePrev * (a - t)) * 2 ^ 24

/-- What one edge slews toward the time of a domain whose DTB is `dtb` (R92), never past it, in 2^-81 ns: `delta` is what
the time base gains beyond the domain's own time as it ran at the change. -/
def slewPart (dtb delta : Int) : Int := if 0 ≤ dtb then min dtb delta else max dtb delta

/-- Every DTB advanced over one TCLK edge (R91, R92). -/
def Dev.dtbEdge (d : Dev) : Dev :=
  let add : Int := d.addend
  let moved : Int :=
    match d.driving with
    | some g => if (d.dom g).slewing && (d.dom g).slewOn then slewPart (d.dom g).dtb (add * 2 ^ 41 - (d.dom g).slewRef) else 0
    | none => 0
  (List.range 4).foldl (fun d i =>
    let x := d.dom i
    if d.driving = some i then
      if x.slewing && x.slewOn then
        let v := x.dtb - moved
        let d := (d.setDom i { x with dtb := v, slewing := v != 0, slewOn := v != 0 }).showDtb i
        if v = 0 then d.setRatio i 0 else d
      else d
    else
      let v := x.dtb + d.ratio i * add - moved
      if v = x.dtb then d else d.setDtb i v) d

/-- One TCLK edge: the time base advances by the addend, the domains with it (R41, R91). Nothing moves
while TCLK does not run (R44, R447). -/
def Dev.tick (d : Dev) : Dev :=
  if d.timeRuns then { d.dtbEdge with time := d.time.edge d.addend } else d

/-! ## Claims (R32 to R37) -/

/-- The PRIO of a comparator as it acts: a reserved kind acts as 0 (Table 1.14), and so does kind 0 with an instance
(DESIGN CHOICE: the spec names only the code 0x00; log entry 164). -/
def Dev.tcmpPrio (d : Dev) (n : Nat) : Nat :=
  let v := d.get (fTIME_TCMPnn_OWNER_PRIO n)
  if v / 32 = 0 ∨ 5 < v / 32 then 0 else v

/-- A claim on comparator `n` by a claimant code: granted, with the device after it (R33, R35, R64: every
host code is one claimant). -/
def Dev.claimTcmp (d : Dev) (n code : Nat) : Bool × Dev :=
  let h := d.get (fTIME_TCMPnn_OWNER_OWNER n)
  let pr := d.tcmpPrio n
  let host := fun c : Nat => c / 32 == 5
  let same := fun a b : Nat => a == b || (host a && host b)
  if (h != 0 && same h code) || (h == 0 && (pr == 0 || same pr code)) then
    (true, d.put (fTIME_TCMPnn_OWNER_OWNER n) code)
  else
    (false, (d.capture fTIME_TCMP_CONFLICT_VALID
      [(fTIME_TCMP_CONFLICT_TCMP, n), (fTIME_TCMP_CONFLICT_HOLDER, h), (fTIME_TCMP_CONFLICT_REFUSED, code)]).count
      fTIME_TCMP_CONFLICT_COUNT 1)

/-- Comparator `n`. -/
def Dev.tcmpOf (d : Dev) (n : Nat) : TcmpSt := kget {} d.time.tcmp n

/-- The device with comparator `n`'s hidden state replaced. -/
def Dev.setTcmp (d : Dev) (n : Nat) (x : TcmpSt) : Dev := { d with time := { d.time with tcmp := kset {} d.time.tcmp n x } }

/-- Comparator `n` disarmed and released (R63, R64). -/
def Dev.releaseTcmp (d : Dev) (n : Nat) : Dev :=
  ((d.putB (fTIME_TCMPnn_STS_ARMED n) false).put (fTIME_TCMPnn_OWNER_OWNER n) 0).setTcmp n {}

/-- The index of the first boundary of base `b` and period `per` (2^-16 ns) strictly after `now` (R65, R66). -/
def firstBoundary (b now : Word64) (per : Nat) : Nat :=
  let e := sdiff64 now b
  if e < 0 then 0 else ((e.toNat + 1) * 65536 + per - 1) / per

/-- The comparator with boundary `k` of its base and period as its next target. -/
def TcmpSt.atBoundary (x : TcmpSt) (k : Nat) : TcmpSt :=
  let u := k * x.per
  { x with next := x.base + BitVec.ofNat 64 (u / 65536), acc := BitVec.ofNat 16 u }

/-- Comparator `n` armed by a claimant that holds it (R62, R63, R65). -/
def Dev.armTcmp (d : Dev) (n mode : Nat) (tgt : Word64) (per : Nat) : Dev :=
  let x : TcmpSt := { mode := mode, base := tgt, per := per, next := tgt, acc := 0 }
  let x := if mode = 2 ∧ 0 ≤ sdiff64 d.ft64 tgt then x.atBoundary (firstBoundary tgt d.ft64 per) else x
  let x := { x with late := decide (mode = 1 ∧ 0 ≤ sdiff64 d.ft64 tgt) }
  ((d.setTcmp n x).putB (fTIME_TCMPnn_STS_ARMED n) true).putB (fTIME_TCMPnn_STS_ARM_ERR n) false

/-- The period in PER_H:PER_L, in units of 2^-16 ns. -/
def Dev.tcmpPer (d : Dev) (n : Nat) : Nat :=
  let l := (d.reg (rTIME_TCMPnn_PER_L n)).toNat
  let h := (d.reg (rTIME_TCMPnn_PER_H n)).toNat
  (h % 256 * 2 ^ 32 + l) * 65536 + h / 65536

/-- A fire is flagged and counted; a one-shot disarms, a periodic target moves on (R62, R63). -/
def Dev.tcmpFired (d : Dev) (n : Nat) (stepped : Bool) : Dev :=
  let d := (d.inc (rTIME_TCMPnn_FIRE_CNT n)).putB (fTIME_TCMPnn_STS_FIRED n) true
  let d := if stepped then d.putB (fTIME_TCMPnn_STS_STEPPED n) true else d
  let x := d.tcmpOf n
  let d := if x.late then d.putB (fTIME_TCMPnn_STS_LATE n) true else d
  if x.mode = 2 then
    let u := x.acc.toNat + x.per
    d.setTcmp n { x with next := x.next + BitVec.ofNat 64 (u / 65536), acc := BitVec.ofNat 16 u }
  else d.putB (fTIME_TCMPnn_STS_ARMED n) false

/-- Boundaries of a periodic comparator from its next target up to `now`. -/
def TcmpSt.passed (x : TcmpSt) (now : Word64) : Nat :=
  let e := sdiff64 now x.next
  if e < 0 then 0 else (e.toNat * 65536 + 65535 - x.acc.toNat) / x.per + 1

/-- What a step of the time base does to comparator `n` (Table 2.4): the device after it, and whether the
comparator fires on the step edge. `late` is set in place of STEPPED on a Dawn (R67). -/
def Dev.tcmpStep (d : Dev) (n : Nat) (forward late : Bool) : Dev × Bool :=
  if d.on (fTIME_TCMPnn_STS_ARMED n) then
    let x := d.tcmpOf n
    let now := d.ft64
    let flag := fun (d : Dev) => if late then d.putB (fTIME_TCMPnn_STS_LATE n) true else d
    if x.mode = 2 then
      if forward then
        let m := x.passed now
        if m = 0 then (d, false) else
        let d := flag ((d.tcmpFired n (!late)).add (rTIME_TCMPnn_SKIP_CNT n) (m - 1))
        (d.setTcmp n (x.atBoundary (firstBoundary x.base now x.per)), true)
      else (d.setTcmp n (x.atBoundary (firstBoundary x.base now x.per)), false)
    else if forward ∧ 0 ≤ sdiff64 now x.next then (flag (d.tcmpFired n (!late)), true)
    else (d, false)
  else (d, false)

/-- Every comparator across a step, and the list of those that fire on the edge, in index order. -/
def Dev.tcmpSteps (d : Dev) (forward late : Bool) : Dev × List Nat :=
  (List.range 64).foldl (fun (d, l) n =>
    match d.tcmpStep n forward late with
    | (d, true) => (d, l ++ [n])
    | (d, false) => (d, l)) (d, [])

/-- The group of the ball-group owner table acts: PRIO 0b11 acts as 0b00 (Table 1.13). -/
def Dev.grpPrio (d : Dev) (g : Nat) : Nat :=
  let v := d.get (fPIN_GRPnn_OWNER_PRIO g)
  if v = 3 then 0 else v

/-- A claim on ball group `g` by function A (1) or B (2) (R33, R35). -/
def Dev.claimGrp (d : Dev) (g f : Nat) : Bool × Dev :=
  let h := d.get (fPIN_GRPnn_OWNER_OWNER g)
  let pr := d.grpPrio g
  if h == f || (h == 0 && (pr == 0 || pr == f)) then (true, d.put (fPIN_GRPnn_OWNER_OWNER g) f)
  else
    (false, (d.capture fPIN_CONFLICT_VALID
      [(fPIN_CONFLICT_GROUP, g), (fPIN_CONFLICT_HOLDER, h), (fPIN_CONFLICT_REFUSED, f)]).count fPIN_CONFLICT_COUNT 1)

/-- Function `f` releases ball group `g`, if it holds it (R36). -/
def Dev.releaseGrp (d : Dev) (g f : Nat) : Dev :=
  if d.get (fPIN_GRPnn_OWNER_OWNER g) = f then d.put (fPIN_GRPnn_OWNER_OWNER g) 0 else d

/-! ## Steps (R46 to R49) -/

/-- The signed difference modulo the time base's range between two of its values in 2^-40 ns (log entry 11). -/
def stepExact (without withStep : Nat) : Int :=
  let e : Int := (withStep : Int) - without
  let m : Int := timeMod
  if m / 2 ≤ e then e - m else if e < -(m / 2) then e + m else e

/-- The size of a step between two values of the time base in 2^-40 ns, truncated toward zero to 2^-16 ns (R48). -/
def stepSize (without withStep : Nat) : Int := Int.tdiv (stepExact without withStep) (2 ^ 24)

/-- The captured step size, signed 48 bits (Table 2.9). -/
def Dev.stepSize (d : Dev) : Int :=
  sgn 48 (d.get fTIME_STEP_SIZE_H_SIZE_H * 2 ^ 32 + (d.reg rTIME_STEP_SIZE_L).toNat)

/-- A size added to the captured one; it saturates and sets OVF (R48). -/
def Dev.captureStep (d : Dev) (size : Int) : Dev :=
  let sum := (if d.on fTIME_STEP_SIZE_H_VALID then d.stepSize else 0) + size
  let s := satI 48 sum
  let u := unsgn 48 s
  let d := d.setReg rTIME_STEP_SIZE_L (BitVec.ofNat 32 u)
  let d := d.put fTIME_STEP_SIZE_H_SIZE_H (u / 2 ^ 32)
  let d := if s = sum then d else d.putB fTIME_STEP_SIZE_H_OVF true
  d.putB fTIME_STEP_SIZE_H_VALID true

end Sys2Proof.Machine
end

