-- ==== Sys2Proof/Machine/MediaClock.lean ====
section
/-! DEFINITION. Media clock generators (R101 to R121): enabling, sources, lock states, ticks, jumps, and
the tick crossings of R15 to R18 on the generator's side. -/

namespace Sys2Proof.Machine

open Sys2Proof

/-- Generator `n`. -/
def Dev.mcgOf (d : Dev) (n : Nat) : McgSt := kget {} d.mcg n

/-- The device with generator `n` replaced. -/
def Dev.setMcg (d : Dev) (n : Nat) (x : McgSt) : Dev := { d with mcg := kset {} d.mcg n x }

/-- MCGn_STS.STATE. -/
def Dev.mcgState (d : Dev) (n : Nat) : Nat := d.get (fMCGn_STS_STATE n)

/-! ## Rates (R101) -/

/-- The multiplier of a generator. -/
def Dev.mcgMult (d : Dev) (n : Nat) : Nat := 2 ^ d.get (fMCGn_CTL_MULT n)

/-- base × multiplier, the rate before any pull, in Hz. -/
def Dev.mcgRate (d : Dev) (n : Nat) : Nat := (if d.on (fMCGn_CTL_FAMILY n) then 44100 else 48000) * d.mcgMult n

/-- The pull as a fraction. -/
def Dev.mcgPull (d : Dev) (n : Nat) : Nat × Nat :=
  match d.get (fMCGn_CTL_PULL n) with
  | 1 => (1001, 1000)
  | 2 => (1000, 1001)
  | _ => (1, 1)

/-- fs as a fraction (R101). -/
def Dev.mcgFs (d : Dev) (n : Nat) : Nat × Nat := (d.mcgRate n * (d.mcgPull n).1, (d.mcgPull n).2)

/-- The source counts from the PTP epoch (Table 4.2). -/
def Dev.mcgEpoch (d : Dev) (n : Nat) : Bool := (d.mcgOf n).kind == 1 && d.get (fMCGn_CTL_PULL n) == 0

/-- The time of PTP domain `i` in 2^-16 ns: the time base plus DTB (R91, R107). -/
def Dev.domTime (d : Dev) (i : Nat) : Int := d.time.now94.units + (d.dom i).dtb / 2 ^ 65

/-- SIDX by R16 at a followed time in 2^-16 ns. -/
def sidxAt (fs : Nat) (t : Int) : Int := t / 65536 * fs / 1000000000

/-- The SIDX that the generator's source implies `ahead` (in 2^-16 ns) from now: by R16 from the epoch, from the lock grid for a pulled
PTP source, and the running count for every other source (R106, R108, R113). -/
def Dev.mcgImpliedIn (d : Dev) (n : Nat) (ahead running : Int) : Int :=
  let x := d.mcgOf n
  let t := d.domTime x.index + ahead
  if d.mcgEpoch n then sidxAt (d.mcgRate n) t
  else if x.kind = 1 then
    match x.grid with
    | some (s, t0) => s + (t - t0) * (d.mcgFs n).1 / (65536 * 1000000000 * (d.mcgFs n).2)
    | none => running
  else running

/-- The SIDX that the source implies at the present instant. -/
def Dev.mcgImplied (d : Dev) (n : Nat) (running : Int) : Int := d.mcgImpliedIn n 0 running

/-- The SIDX of the aligned boundary at which a tick is issued: a boundary lies within ±40 ns of its sample's instant, so
the count is that of 40 ns later (R106, log entry 75). -/
def Dev.mcgBoundary (d : Dev) (n : Nat) (running : Int) : Int := d.mcgImpliedIn n (40 * 65536) running

/-- The instant of aligned boundary `s` in the followed time, 2^-16 ns, where the state gives one: by R16 from the epoch, or by
the lock grid (R106, R113). -/
def Dev.mcgInstant (d : Dev) (n : Nat) (s : Int) : Option Int :=
  let x := d.mcgOf n
  let (a, b) := d.mcgFs n
  if d.mcgEpoch n then some (s * (65536 * 1000000000 * b) / a)
  else if x.kind = 1 then x.grid.map fun (s0, t0) => t0 + (s - s0) * (65536 * 1000000000 * b) / a
  else none

/-- The followed time stands at boundary `s`, within the ±40 ns of R106. -/
def Dev.mcgAt (d : Dev) (n : Nat) (s : Int) : Bool :=
  match d.mcgInstant n s with
  | some t => decide ((d.domTime (d.mcgOf n).index - t).natAbs ≤ 40 * 65536)
  | none => true

/-- One nominal sample period has passed since the last tick, and no more than two: the sample period that contains a jump is no
shorter, and the first aligned boundary after that comes within the second (R114; log entry 178). -/
def Dev.mcgSpaced (d : Dev) (n : Nat) : Bool :=
  let (a, b) := d.mcgFs n
  let p : Int := (65536 * 1000000000 * b : Nat)
  match (d.mcgOf n).lastAt with
  | some t => decide (p ≤ (d.mono - t) * a) && decide ((d.mono - t) * a ≤ 2 * p)
  | none => true

/-- The last SIDX issued (R109). -/
def Dev.mcgSidx (d : Dev) (n : Nat) : Word64 := BitVec.ofNat 64 (d.pair (rMCGn_SIDX_H n) (rMCGn_SIDX_L n))

/-- The instant of sample `s` of generator `g`, in ns of the time base: that of its tick, else by the nominal rate from the
latest tick. -/
def Dev.tickInstant (d : Dev) (g : Nat) (s : Word64) : Option Int :=
  let ts := (d.mcgOf g).ticks
  ((ts.find? fun x => x.1 == s).orElse fun _ => ts.head?).map fun x =>
    x.2.toNat + sdiff64 s x.1 * (1000000000 * (d.mcgFs g).2) / (d.mcgFs g).1

/-! ## Sources (R103, R104) -/

/-- Word 0 of a stream context: transmit contexts 0 to 511, receive contexts 512 to 1 023 (Table 1.6). -/
def Dev.ctxWord (d : Dev) (ctx w : Nat) : Nat := readWord64 d.tbl (256 * ctx + 8 * w)

/-- FMT of receive context `c` (Table 5.4). -/
def Dev.srxFmt (d : Dev) (c : Nat) : Nat := d.ctxWord (512 + c) 0 / 2 ^ 60

/-- Receive context `c` is enabled (SRX_ENMAP). -/
def Dev.srxOn (d : Dev) (c : Nat) : Bool := d.on (bitFld (rSRX_ENMAPkk (c / 32)) (c % 32))

/-- Transmit context `c` is enabled (STX_ENMAP). -/
def Dev.stxOn (d : Dev) (c : Nat) : Bool := d.on (bitFld (rSTX_ENMAPkk (c / 32)) (c % 32))

/-- How many indexes a kind of source has (Table 4.2). -/
def srcCount (kind : Nat) : Nat :=
  match kind with
  | 0 => 1 | 1 => 4 | 2 => 512 | 3 => 2 | 4 => 24 | _ => 0

/-- What the state shows of a source's qualification (Table 4.2): kinds 0 to 2 are wholly in it; for word
clocks and word selects the edge rate is outside, and `rate` says whether it is in range. -/
def Dev.srcQualified (d : Dev) (kind index : Nat) (rate : Bool) : Bool :=
  decide (index < srcCount kind) && match kind with
  | 0 => d.clk.refclk
  | 1 => d.on (fPTP_PTDd_CTL_EN index) && 2 ≤ d.get (fPTP_PTDd_STS_LOCK_STATE index)
  | 2 => d.srxOn index && d.srxFmt index == 8 && d.ctxWord (512 + index) 20 % 8 == 2
  | 3 => rate
  | _ => rate && d.on (fSAPnn_CTL_EN index) && !d.on (fSAPnn_CTL_MASTER index)

/-- The loss condition of a source, as far as the state shows it (Table 4.2): a domain is lost disabled or in FREE; that a CRF
timestamp, an edge or a word select stays out is what the command says. -/
def Dev.srcLost (d : Dev) (kind index : Nat) : Bool :=
  match kind with
  | 0 => !d.clk.refclk
  | 1 => !d.on (fPTP_PTDd_CTL_EN index) || d.get (fPTP_PTDd_STS_LOCK_STATE index) == 0
  | _ => true

/-- The source of generator `n` is qualified: not lost since it was, and in the condition of its row now (R103). -/
def Dev.mcgSrcOk (d : Dev) (n : Nat) : Bool :=
  d.on (fMCGn_STS_SRC_OK n) && d.srcQualified (d.mcgOf n).kind (d.mcgOf n).index true

/-- The refusal code of an enable, 0 when it is accepted (R104). -/
def Dev.mcgCheck (d : Dev) (n : Nat) : Nat :=
  let kind := d.get (fMCGn_SRC_KIND n)
  let index := d.get (fMCGn_SRC_INDEX n)
  if d.get (fMCGn_CTL_MULT n) = 3 ∨ d.get (fMCGn_CTL_PULL n) = 3 ∨ 5 ≤ kind then 1
  else if srcCount kind ≤ index then 2
  else if kind = 4 ∧ d.on (fSAPnn_CTL_MASTER index) ∧ d.get (fSAPnn_CTL_MCG index) = n then 3
  else if (kind = 2 ∧ d.srxFmt index ≠ 8) ∨ (kind = 4 ∧ d.on (fSAPnn_CTL_MASTER index)) then 4
  else 0

/-- EN written 1 (R104): the generator enters ACQ, or is refused with a code. -/
def Dev.mcgEnable (d : Dev) (n : Nat) : Dev :=
  let code := d.mcgCheck n
  if code = 0 then
    let kind := d.get (fMCGn_SRC_KIND n)
    let index := d.get (fMCGn_SRC_INDEX n)
    let back := (d.mcgOf n).resumes
    let d := d.setMcg n { kind := kind, index := index, rebase := back, resumes := back }
    let d := (d.putB (fMCGn_STS_CFG_ERR n) false).put (fMCGn_STS_ERR_CODE n) 0
    (d.put (fMCGn_STS_STATE n) 1).putB (fMCGn_STS_SRC_OK n) (d.srcQualified kind index false)
  else
    let d := d.putB (fMCGn_CTL_EN n) false
    ((d.putB (fMCGn_STS_CFG_ERR n) true).put (fMCGn_STS_ERR_CODE n) code).inc rMCG_REFUSE_CNT

/-- EN written 0: OFF, no further tick, MCLK_OUTn ends (R110, R116). The first tick after the next enable resumes ticks that
have been issued, with REBASE (R120). -/
def Dev.mcgDisable (d : Dev) (n : Nat) : Dev :=
  let x := d.mcgOf n
  let d := (d.setMcg n { resumes := x.issued || x.resumes }).put (fMCGn_STS_STATE n) 0
  (d.putB (fMCGn_STS_SLEWING n) false).putB (fMCGn_STS_SRC_OK n) false

/-- The generator stops issuing ticks without being disabled; its first tick on resuming carries REBASE (R120). -/
def Dev.mcgStop (d : Dev) (n : Nat) : Dev :=
  d.setMcg n { d.mcgOf n with ticking := false, rebase := true, mclk := false, jump := false, jumpStep := false }

/-- LOCK_WIN and UNLOCK_WIN as they act, in 2^-16 ns. A LOCK_WIN above 10 000 acts as 10 000 (DESIGN CHOICE: the spec gives the
range and says what a value below it acts as; log entry 175). -/
def Dev.mcgWins (d : Dev) (n : Nat) : Int × Int :=
  let l := max 10 (min 10000 (d.get (fMCGn_LOCK_CFG_LOCK_WIN n)))
  ((l * 65536 : Nat), (max l (d.get (fMCGn_LOCK_CFG_UNLOCK_WIN n)) * 65536 : Nat))

/-- RELOCK_WIN as it acts, in 2^-16 ns. -/
def Dev.mcgRelockWin (d : Dev) (n : Nat) : Int := (min 1000000 (d.get (fMCGn_RELOCK_CFG_RELOCK_WIN n)) * 65536 : Nat)

/-- The running SIDX agrees with the one the source implies, given a phase error of `err`: it is the SIDX of an instant no
further from now than that error; or the source counts from lock (R112). -/
def Dev.mcgAgrees (d : Dev) (n : Nat) (err : Int) : Bool :=
  let s : Int := (d.mcgSidx n).toNat
  let e : Int := err.natAbs
  !d.mcgEpoch n || (decide (d.mcgImpliedIn n (-e) s ≤ s) && decide (s ≤ d.mcgImpliedIn n e s))

/-- The instant of the current SIDX in the followed time: that of the last tick (R113). -/
def Dev.mcgTickTime (d : Dev) (n : Nat) : Int :=
  let x := d.mcgOf n
  match x.lastAt with
  | some t => d.domTime x.index - (d.mono - t)
  | none => d.domTime x.index

/-- A generator enters LOCK: the grid of a pulled PTP source is fixed at its current SIDX, and the first lock makes the next
tick carry REBASE and the source's SIDX, with which the grid then begins (R108, R112, R113). -/
def Dev.mcgLock (d : Dev) (n : Nat) : Dev :=
  let x := d.mcgOf n
  let grid := if x.locked ∧ x.kind = 1 ∧ !d.mcgEpoch n then some (((d.mcgSidx n).toNat : Int), d.mcgTickTime n) else none
  let x := if x.locked then { x with epoch := x.epoch || d.mcgEpoch n }
    else { x with locked := true, ticking := true, first := true, rebase := true }
  let d := d.setMcg n { x with inWin := 0, outWin := 0, grid := grid, relock := false }
  (d.put (fMCGn_STS_STATE n) 2).putB (fMCGn_STS_SLEWING n) false

/-- The relock rule, applied once when a generator that locked before has its source back (R112). -/
def Dev.mcgRelock (d : Dev) (n : Nat) (err : Int) : Dev :=
  let x := d.mcgOf n
  if x.relock && x.locked then
    let win := d.mcgRelockWin n
    if d.mcgAgrees n err ∧ (err.natAbs : Int) < win then
      (d.setMcg n { x with relock := false }).putB (fMCGn_STS_SLEWING n) true
    else d.setMcg n { x with relock := false, jump := true, jumpStep := x.jump && x.jumpStep }
  else d

/-- The 1 ms phase measurement (R110): PHASE and FREQ, and the lock-state transitions of Table 4.3. -/
def Dev.mcgMeasure (d : Dev) (n : Nat) (err freq : Int) : Dev :=
  let st := d.mcgState n
  if st = 0 ∨ !d.domOn 4 then d else
  let d := d.setReg (rMCGn_PHASE n) (BitVec.ofInt 32 (satI 32 err))
  let d := if st = 3 ∨ st = 4 then d else d.setReg (rMCGn_FREQ n) (BitVec.ofInt 32 (satI 32 freq))
  let (lw, uw) := d.mcgWins n
  let inside := (err.natAbs : Int) < lw
  let outside := uw ≤ (err.natAbs : Int)
  if st = 1 ∧ d.mcgSrcOk n then
    let d := d.mcgRelock n err
    let x := d.mcgOf n
    let run := if inside then x.inWin + 1 else 0
    if 64 ≤ run then d.mcgLock n else d.setMcg n { x with inWin := run }
  else if st = 1 then (if inside then d else d.setMcg n { d.mcgOf n with inWin := 0 })
  else if st = 2 then
    let x := d.mcgOf n
    let run := if outside then x.outWin + 1 else 0
    if 8 ≤ run ∧ d.mcgSrcOk n then
      let d := d.setMcg n { x with outWin := 0, inWin := 0, relock := true }
      (d.put (fMCGn_STS_STATE n) 1).inc (rMCGn_UNLOCK_CNT n)
    else d.setMcg n { x with outWin := run, freqs := (satI 32 freq :: x.freqs).take 1000 }
  else d

/-- The mean of a list of integers, rounded to nearest with ties toward +∞; 0 for none (log entry 14). -/
def meanI (l : List Int) : Int :=
  if l.isEmpty then 0 else (2 * l.sum + l.length) / (2 * l.length)

/-- FREQ at the mean frequency of the last 1 s in LOCK, which HOLD keeps (R111). -/
def Dev.mcgHoldFreq (d : Dev) (n : Nat) : Dev :=
  let fs := (d.mcgOf n).freqs
  if fs.isEmpty then d else d.setReg (rMCGn_FREQ n) (BitVec.ofInt 32 (meanI fs))

/-- A source meets its loss condition (R103, Table 4.3): HOLD at the mean frequency of the last 1 s in LOCK,
or waiting in ACQ before the first lock. -/
def Dev.mcgLoss (d : Dev) (n : Nat) : Dev :=
  let st := d.mcgState n
  let x := d.mcgOf n
  if !d.on (fMCGn_STS_SRC_OK n) || !d.srcLost x.kind x.index then d else
  let d := (d.putB (fMCGn_STS_SRC_OK n) false).inc (rMCGn_SRC_LOSS_CNT n)
  let clear := { x with inWin := 0, outWin := 0, jump := false, relock := true }
  if st = 2 then
    (((d.setMcg n clear).mcgHoldFreq n).put (fMCGn_STS_STATE n) 3).inc (rMCGn_UNLOCK_CNT n)
  else if st = 1 ∧ x.locked then
    (((d.setMcg n clear).mcgHoldFreq n).put (fMCGn_STS_STATE n) 3).putB (fMCGn_STS_SLEWING n) false
  else d.setMcg n { x with inWin := 0 }

/-- A source meets its qualification condition (R103): SRC_OK, and HOLD or FREE goes to ACQ under the relock
rule (Table 4.3). -/
def Dev.mcgQualified (d : Dev) (n : Nat) : Dev :=
  let st := d.mcgState n
  let x := d.mcgOf n
  if st = 0 ∨ d.on (fMCGn_STS_SRC_OK n) ∨ !d.srcQualified x.kind x.index true then d else
  let d := d.putB (fMCGn_STS_SRC_OK n) true
  if st = 3 ∨ st = 4 then
    (d.setMcg n { x with inWin := 0, relock := true }).put (fMCGn_STS_STATE n) 1
  else d

/-- HOLD_LIMIT elapses in HOLD (Table 4.3); 0 means no limit. -/
def Dev.mcgFree (d : Dev) (n : Nat) : Dev :=
  if d.mcgState n = 3 ∧ (d.reg (rMCGn_HOLD_LIMIT n)).toNat ≠ 0 then
    (d.put (fMCGn_STS_STATE n) 4).raise 0x0501 n
  else d

/-! ## Crossings of tick words (R15 to R18) -/

/-- The key of a consumer. -/
def consumerKey : Consumer → Nat
  | .core => 0 | .anv => 1
  | .sap n => 2 + n.val

/-- The key of the path from a generator to a consumer. -/
def pathKey (g : Nat) (c : Consumer) : Nat := 8 * consumerKey c + g

/-- The path from a generator to a consumer. -/
def Dev.path (d : Dev) (g : Nat) (c : Consumer) : TickPath := kget {} d.ticks (pathKey g c)

/-- The device with a path replaced. -/
def Dev.setPath (d : Dev) (g : Nat) (c : Consumer) (x : TickPath) : Dev :=
  { d with ticks := kset {} d.ticks (pathKey g c) x }

/-- Bits set in 16 map registers from address `base`, in order. -/
def Dev.mapBits (d : Dev) (base : Nat) : List Nat :=
  (List.range 16).flatMap fun k =>
    let w := (d.reg (base + 4 * k)).toNat
    if w = 0 then [] else (List.range 32).filterMap fun i => if w / 2 ^ i % 2 = 1 then some (32 * k + i) else none

/-- The generator named by a stream context's word 0 (Table 5.4); transmit contexts 0 to 511, receive 512 up. -/
def Dev.ctxMcg (d : Dev) (ctx : Nat) : Nat := d.ctxWord ctx 0 / 2 ^ 52 % 8

/-- The consumers that follow generator `g` (R18, R118). -/
def Dev.followers (d : Dev) (g : Nat) : List Consumer :=
  let core := (d.mapBits (rSTX_ENMAPkk 0)).any (fun c => d.ctxMcg c == g)
    || (d.mapBits (rSRX_ENMAPkk 0)).any (fun c => d.ctxMcg (512 + c) == g)
  let anv := d.on fANV_CTL_EN && d.get fMCG_HOUSE_HOUSE == g
  (if core then [Consumer.core] else []) ++ (if anv then [Consumer.anv] else [])
    ++ (List.finRange 24).filterMap fun n =>
      if d.on (fSAPnn_CTL_EN n.val) && d.on (fSAPnn_CTL_MASTER n.val) && d.get (fSAPnn_CTL_MCG n.val) == g then some (Consumer.sap n) else none

/-- A tick word written to the holding register of a crossing: sent at once when the handshake is idle, else it
waits and overwrites an older word, REBASE staying set (R17). -/
def TickPath.offer (x : TickPath) (w : TickWord) : TickPath :=
  let old := match x.hold with
    | some o => o.rebase
    | none => false
  let w := { w with rebase := w.rebase || old }
  match x.flight with
  | none => { x with flight := some w, hold := none }
  | some _ => { x with hold := some w }

/-- The word that waits is sent when the handshake before it has closed (R17). -/
def TickPath.sendHeld (x : TickPath) : TickPath :=
  match x.flight, x.hold with
  | none, some w => { x with flight := some w, hold := none }
  | _, _ => x

/-- The word in flight becomes usable at the destination and the handshake closes (R13). -/
def TickPath.deliver (x : TickPath) : TickPath :=
  match x.arrived with
  | none => { x with arrived := x.flight, flight := none }
  | some _ => x

/-- A word issued to every follower of the generator (R118). -/
def Dev.issueTick (d : Dev) (g : Nat) (w : TickWord) : Dev :=
  (d.followers g).foldl (fun d c => d.setPath g c ((d.path g c).offer w)) d

/-! ## Ticks (R105, R106, R114, R116) -/

/-- A source has been written that no tick has applied yet. -/
def Dev.mcgPending (d : Dev) (n : Nat) : Bool :=
  (d.mcgOf n).kind != d.get (fMCGn_SRC_KIND n) || (d.mcgOf n).index != d.get (fMCGn_SRC_INDEX n)

/-- A source written since takes effect on this tick: ACQ on the new source, without REBASE (R105). KIND 5 to 7 or an INDEX out
of range, which an enable refuses, is followed into ACQ as it stands and is never qualified (DESIGN CHOICE: the spec refuses
it at enable alone; log entry 174). -/
def Dev.mcgApplySource (d : Dev) (n : Nat) : Dev :=
  let kind := d.get (fMCGn_SRC_KIND n)
  let index := d.get (fMCGn_SRC_INDEX n)
  let x := d.mcgOf n
  if x.kind = kind ∧ x.index = index then d else
  let d := d.setMcg n { x with kind := kind, index := index, inWin := 0, outWin := 0, relock := true, jump := false, grid := none }
  let d := if d.mcgEpoch n then d else d.setMcg n { d.mcgOf n with epoch := false }
  let d := (d.put (fMCGn_STS_STATE n) 1).putB (fMCGn_STS_SLEWING n) false
  d.putB (fMCGn_STS_SRC_OK n) (d.srcQualified kind index false)

/-- MCLK_OUTn at a sample boundary (R116). -/
def Dev.mcgMclk (d : Dev) (n : Nat) : Dev :=
  let st := d.mcgState n
  let runs := d.on (fMCGn_MCLK_CFG_EN n) && (!d.on (fMCGn_MCLK_CFG_GATE n) || st == 2 || st == 3)
  d.setMcg n { d.mcgOf n with mclk := runs }

/-- The positions that SRC jobs have smoothed on or from generator `n`'s count are found anew from the new count (R215). -/
def Dev.dropPos (d : Dev) (n : Nat) : Dev :=
  { d with anv := { d.anv with pos := d.anv.pos.filter fun e => e.1 / 8 != n && e.1 % 8 != n } }

/-- A tick with a given SIDX leaves the generator: SIDX and REBASE_CNT, MCLK_OUTn, the crossings. `ep`: the count is from the
epoch; `fresh`: a count begins with this tick. -/
def Dev.mcgEmit (d : Dev) (n : Nat) (s : Word64) (rebase ep fresh : Bool) : Dev :=
  let d := d.setPair (rMCGn_SIDX_H n) (rMCGn_SIDX_L n) s.toNat
  let d := if rebase then (d.inc (rMCGn_REBASE_CNT n)).dropPos n else d
  let x := d.mcgOf n
  let d := d.setMcg n { x with ticks := (s, d.ft64) :: (if fresh then [] else x.ticks), epoch := ep, lastAt := some d.mono,
                               prev := if rebase then some (x.epoch, x.ticks) else x.prev }
  (d.mcgMclk n).issueTick n { sidx := s, rebase := rebase }

/-- The SIDX of the next tick that is no jump tick: the source's at the first tick after the first lock, else the next in the
count (R108). A count before the first lock that a loss of REFCLK interrupts goes on from where it stood (DESIGN CHOICE: the
spec does not say whether it starts from 0 again; log entry 195). -/
def Dev.mcgNext (d : Dev) (n : Nat) : Word64 :=
  let x := d.mcgOf n
  if x.first then BitVec.ofInt 64 (if d.mcgEpoch n then d.mcgBoundary n 0 else 0)
  else if x.issued then d.mcgSidx n + 1
  else 0

/-- Ticks are issued: after the first lock, or with TICK_POLICY = 1 before it while REFCLK is present (R110, R120). -/
def Dev.mcgRuns (d : Dev) (n : Nat) : Bool :=
  let x := d.mcgOf n
  d.mcgState n != 0 && d.domOn 4 && (x.locked || d.clk.refclk) && (x.ticking || (d.on (fMCGn_CTL_TICK_POLICY n) && !x.locked))

/-- The generator reaches a sample boundary (R106, R108). No tick leaves while the generator issues none; while a jump waits the
next tick is the jump tick, unless a source has been written, whose change comes first (Table 4.6); and a generator in LOCK
that counts from the epoch ticks only where the followed time stands at the boundary. MCLK_OUTn, which starts at a sample
boundary, stays low while no tick is issued (DESIGN CHOICE: the spec does not say whether it runs then; log entry 176). -/
def Dev.mcgTick (d : Dev) (n : Nat) : Dev :=
  let x := d.mcgOf n
  let pending := d.mcgPending n
  let s := d.mcgNext n
  let here := pending || !(d.mcgState n == 2 && d.mcgEpoch n && (x.first || x.epoch)) || d.mcgAt n s.toNat
  if !(d.mcgRuns n && (!x.jump || pending) && here) then d else
  let d := d.mcgApplySource n
  let x := d.mcgOf n
  let grid := if x.first ∧ x.kind = 1 ∧ !d.mcgEpoch n then some ((s.toNat : Int), d.domTime x.index) else x.grid
  let d := d.setMcg n { x with first := false, rebase := false, issued := true, ticking := true, grid := grid }
  d.mcgEmit n s x.rebase (if x.first then d.mcgEpoch n else x.epoch) x.first

/-- The jump tick (R112 to R114): on an aligned boundary at least one nominal period after the last tick, with REBASE; SIDX by
R16 or the lock grid, and continued for a source that counts from lock, and before the first lock (R108; log entry 217). A source
written before it comes first (Table 4.6). The first tick after the first lock has its REBASE and its SIDX already, and the jump is merged into it (R108). -/
def Dev.mcgJump (d : Dev) (n : Nat) : Dev :=
  let x := d.mcgOf n
  if !x.jump || d.mcgState n == 0 || !d.domOn 4 then d
  else if d.mcgPending n then d.mcgTick n
  else if x.first then
    let t := (d.setMcg n { x with jump := false, jumpStep := false }).mcgTick n
    if (t.mcgOf n).first then d else t
  else
  let cont : Int := (d.mcgSidx n + 1).toNat
  let ep := x.locked && d.mcgEpoch n
  let moved := ep || (x.locked && x.kind = 1 && x.jumpStep)
  let s : Int := if moved then d.mcgBoundary n cont else cont
  if !(d.mcgSpaced n && (!moved || d.mcgAt n s)) then d else
  let d := d.setMcg n { x with jump := false, jumpStep := false, rebase := false, issued := true, ticking := true, inWin := 0 }
  (d.putB (fMCGn_STS_SLEWING n) false).mcgEmit n (BitVec.ofInt 64 s) true (ep || x.epoch) (ep && !x.epoch)

/-- A step of the time that generators follow (R107, R113): `dom` is the domain whose DTB stepped, or none for a
step of the time base, which moves the time of every domain (log entry 15). -/
def Dev.mcgStepped (d : Dev) (dom : Option Nat) : Dev :=
  (List.range 8).foldl (fun d n =>
    let x := d.mcgOf n
    let st := d.mcgState n
    let follows := x.kind == 1 && (match dom with
      | none => true
      | some i => x.index == i)
    if follows && d.domOn 4 && (st == 1 || st == 2) && x.issued then d.setMcg n { x with jump := true, jumpStep := true } else d) d

end Sys2Proof.Machine
end

