-- ==== Sys2Proof/Machine/Ecc.lean ====
section
/-! DEFINITION. What an error found in an on-chip array leaves behind (R451, R520, R528 to R530): the capture, the row tracker and
the start of a migration. -/

namespace Sys2Proof.Machine

open Sys2Proof

/-! ## The capture and the row tracker (R451, R520, R528 to R530) -/

/-- INT_ECC_LOG: the first error, and an uncorrectable one in place of a corrected one (R451). -/
def Dev.eccLog (d : Dev) (ue : Bool) (array word syn : Nat) : Dev :=
  if d.on fINT_ECC_LOG_VALID && (!ue || d.on fINT_ECC_LOG_UE) then d
  else d.puts [(fINT_ECC_LOG_UE, ue.toNat), (fINT_ECC_LOG_ARRAY, array), (fINT_ECC_LOG_SUBBANK, word / 32768),
    (fINT_ECC_LOG_ROW, word / 32 % 1024), (fINT_ECC_LOG_SYNDROME, syn), (fINT_ECC_LOG_VALID, 1)]

/-- A sub-bank of the repair map. -/
def Dev.subBank (d : Dev) (array sub : Nat) : SubBank := kget {} d.integ.map (32 * array + sub)

/-- The repair map with a sub-bank replaced. -/
def Dev.setSubBank (d : Dev) (array sub : Nat) (x : SubBank) : Dev :=
  { d with integ := { d.integ with map := kset {} d.integ.map (32 * array + sub) x } }

/-- MIGRATE_N as it acts. -/
def Dev.migrateN (d : Dev) : Nat := max 1 (d.get fINT_REPAIR_CFG_MIGRATE_N)

/-- The entry is the one of a row. -/
def Track.isRow (t : Track) (array sub row : Nat) : Bool := t.array == array && t.sub == sub && t.row == row

/-- The tracker with the entry of a row freed. -/
def Dev.untrack (d : Dev) (array sub row : Nat) : Dev :=
  { d with integ := { d.integ with track := d.integ.track.filter fun t => !t.isRow array sub row } }

/-- Free spare rows of a sub-bank (R530). -/
def SubBank.freeRows (x : SubBank) : Nat := (decide (x.row0 = .free)).toNat + (decide (x.row1 = .free)).toNat

/-- A row reaches MIGRATE_N: its entry is freed and its migration begins, or fails for want of a spare row (R529,
R530). Spares that migrations in progress will take are spoken for. -/
def Dev.migrateStart (d : Dev) (array sub row : Nat) : Dev :=
  let d := d.untrack array sub row
  if !d.on fINT_REPAIR_CFG_MIGRATE_EN then d
  else if (d.subBank array sub).freeRows ≤ (d.integ.moving.filter fun m => m.1 == array && m.2.1 == sub).length then
    d.inc rINT_MIGRATE_FAIL_CNT
  else { d with integ := { d.integ with moving := d.integ.moving ++ [(array, sub, row)] } }

/-- The entry that gives way: the lowest count, the earliest first error among equals. -/
def trackVictim : List Track → Option Track
  | [] => none
  | t :: l =>
    match trackVictim l with
    | some u => if u.count < t.count then some u else some t
    | none => some t

/-- A corrected error counts in the entry of its row (R528). -/
def Dev.rowCount (d : Dev) (array sub row : Nat) : Dev :=
  let l := d.integ.track
  let d :=
    if l.any (·.isRow array sub row) then
      { d with integ := { d.integ with track := l.map fun t => if t.isRow array sub row then { t with count := t.count + 1 } else t } }
    else
      let e : Track := { array := array, sub := sub, row := row, count := 1 }
      if l.length < 64 then { d with integ := { d.integ with track := l ++ [e] } }
      else ({ d with integ := { d.integ with track := (match trackVictim l with | some v => l.erase v | none => l) ++ [e] } }).inc
        rINT_TRACK_EVICT_CNT
  if d.integ.track.any fun t => t.isRow array sub row && decide (d.migrateN ≤ t.count) then d.migrateStart array sub row else d

/-- A read finds a single-bit error: the word is corrected and written back (R520). -/
def Dev.corrected (d : Dev) (array word syn : Nat) : Dev :=
  let d := { d with integ := { d.integ with weak := kset false d.integ.weak (8388608 * array + word) false } }
  ((d.inc rINT_ECC_CE_CNT).eccLog false array word syn).rowCount array (word / 32768) (word / 32 % 1024)

/-! ## What a reader finds (R520, R521) -/

/-- A read finds an uncorrectable error: it is counted, captured and told. -/
def Dev.ueCount (d : Dev) (array word syn : Nat) : Dev :=
  ((d.inc rINT_ECC_UE_CNT).eccLog true array word syn).raise 0x1302 array

/-- The word is poisoned. The cells of the packet buffer are freed and rewritten, so no poison is kept for them (log entry
121). -/
def Dev.ueMark (d : Dev) (array word : Nat) : Dev :=
  let k := 8388608 * array + word
  if array = 0 then d
  else { d with poison := kset false d.poison k true, integ := { d.integ with inj := kset false d.integ.inj k false } }

/-- Of `n` words of an array from `lo` on, those that hold an error. -/
def Dev.eccHits (d : Dev) (array lo n : Nat) : List Nat :=
  let k := 8388608 * array + lo
  (((d.poison ++ d.integ.dead ++ d.integ.inj ++ d.integ.weak ++ d.integ.stuck).filter fun e =>
    e.2 && decide (k ≤ e.1) && decide (e.1 < k + n)).map fun e => e.1 - 8388608 * array).eraseDups

/-- A function of the device reads a word that holds an error; its syndrome is a free value. -/
def Dev.eccSee (d : Dev) (array word : Nat) : Dev :=
  let r := d.freeNat
  if d.poisoned array word then (r.2.ueCount array word (r.1 % 256)).ueMark array word else r.2.corrected array word (r.1 % 256)

/-- A function of the device reads `n` words of an array from `lo` on: every error in them is found, and one that is known counts
again. The reader takes the response of Table 22.1. -/
def Dev.eccReads (d : Dev) (array lo n : Nat) : Dev := (d.eccHits array lo n).foldl (fun d w => d.eccSee array w) d

/-- `n` words of table memory from the byte offset `off` on are read. -/
def Dev.tblReads (d : Dev) (off n : Nat) : Dev := d.eccReads 3 (off / 8) n

/-- One of `n` words of table memory from the byte offset `off` on is poisoned. -/
def Dev.tblBad (d : Dev) (off n : Nat) : Bool := !d.sound && (List.range n).any fun i => d.tblHurt (off + 8 * i)

/-- The head of a host queue is read: a word with an uncorrectable error is delivered torn, and its packet counts as torn (Table
22.1). -/
def Dev.hqHead (d : Dev) (q : Nat) : Dev :=
  let x := d.hqOf q
  let k := 1024 * q + x.rp
  match x.words with
  | w :: t =>
    if d.sound || x.flushPend then d else
    let bad := d.poisoned 4 k && !w.torn
    let d := d.eccReads 4 k 1
    if bad then (d.setHq q { d.hqOf q with words := { w with torn := true } :: t }).inc (rHQnn_TORN_CNT q) else d
  | [] => d

end Sys2Proof.Machine
end

