-- ==== Sys2Proof/Machine/Frame.lean ====
section
/-! DEFINITION. Frames as bytes: CRC-32, tags, Ethertype, IP and UDP, PTP event messages and their
correction field (R53, R58 to R60, R128, R162, R282). -/

namespace Sys2Proof.Machine

open Sys2Proof

/-! ## CRC-32 (R162) -/

/-- One bit of the reflected CRC-32. -/
def crcBit (c : Nat) : Nat := if c % 2 = 1 then (c / 2) ^^^ 0xEDB88320 else c / 2

/-- One byte of the reflected CRC-32. -/
def crcByte (c : Nat) (b : Byte) : Nat :=
  (crcBit ∘ crcBit ∘ crcBit ∘ crcBit ∘ crcBit ∘ crcBit ∘ crcBit ∘ crcBit) (c ^^^ b.toNat)

/-- The IEEE 802.3 CRC-32 of a list of bytes, first byte first. -/
def crc32 (bs : List Byte) : Nat := (bs.foldl crcByte 0xFFFFFFFF) ^^^ 0xFFFFFFFF

/-- The four FCS bytes of a frame, as they follow it on the wire. -/
def fcsOf (bs : List Byte) : List Byte := leBytes 4 (crc32 bs)

/-! ## Bytes -/

/-- The big-endian value of `n` bytes of a frame from offset `off`. -/
def beAt (bs : List Byte) (off n : Nat) : Nat := beNat ((bs.drop off).take n)

/-- A frame with bytes replaced from offset `off`. -/
def patch (bs : List Byte) (off : Nat) (new : List Byte) : List Byte :=
  bs.take off ++ new ++ bs.drop (off + new.length)

/-- Destination and source address. -/
def dstOf (bs : List Byte) : Nat := beAt bs 0 6
def srcOf (bs : List Byte) : Nat := beAt bs 6 6

/-- The group bit of an address: bit 0 of its first byte. -/
def isGroup (a : Nat) : Bool := a / 2 ^ 40 % 2 == 1

/-- The broadcast address. -/
def broadcast : Nat := 0xFFFFFFFFFFFF

/-! ## Tags (R282) -/

/-- A VLAN TPID. -/
def isTpid (t : Nat) : Bool := t == 0x8100 || t == 0x88A8

/-- Tags that directly follow the source address, counted to 3. -/
def tagCount (bs : List Byte) : Nat :=
  if isTpid (beAt bs 12 2) then
    if isTpid (beAt bs 16 2) then (if isTpid (beAt bs 20 2) then 3 else 2) else 1
  else 0

/-- Where the Ethertype stands after up to two tags. -/
def etherOff (bs : List Byte) : Nat := 12 + 4 * min 2 (tagCount bs)

/-- The Ethertype after up to two tags. -/
def etherType (bs : List Byte) : Nat := beAt bs (etherOff bs) 2

/-- The tag allowance in bytes. -/
def tagAllowance (bs : List Byte) : Nat := 4 * min 2 (tagCount bs)

/-- The PCP of the outermost tag, where there is one. -/
def pcpOf (bs : List Byte) : Option Nat :=
  if isTpid (beAt bs 12 2) then some (beAt bs 14 1 / 32) else none

/-! ## IP and UDP -/

/-- What the engine reads of an IP header (R128). -/
structure IpView where
  v6 : Bool
  /-- the destination address as a number -/
  dst : Nat
  proto : Nat
  /-- an IPv4 fragment, and its offset -/
  frag : Bool
  fragOff : Nat
  /-- where the header begins and where the payload does -/
  off : Nat
  pay : Nat
  deriving DecidableEq, Repr

/-- The IP header of a frame with fewer than three tags. Its protocol over IPv6 is the next header of the fixed header, so a
datagram behind extension headers is no UDP to any rule (DESIGN CHOICE: the spec does not say; log entry 194). -/
def ipView (bs : List Byte) : Option IpView :=
  if 3 ≤ tagCount bs then none else
  let o := etherOff bs + 2
  if etherType bs = 0x0800 then
    let fl := beAt bs (o + 6) 2
    some { v6 := false, dst := beAt bs (o + 16) 4, proto := beAt bs (o + 9) 1, frag := fl / 0x2000 % 2 == 1 || fl % 0x2000 != 0,
           fragOff := fl % 0x2000, off := o, pay := o + 4 * (beAt bs o 1 % 16) }
  else if etherType bs = 0x86DD then
    some { v6 := true, dst := beAt bs (o + 24) 16, proto := beAt bs (o + 6) 1, frag := false, fragOff := 0, off := o, pay := o + 40 }
  else none

/-- The UDP view: the IP header and the destination port, for an unfragmented datagram. A fragment is no UDP datagram to any
rule, so none to port 319 is a PTP event message (DESIGN CHOICE: the spec does not say; log entry 173). -/
def udpView (bs : List Byte) : Option (IpView × Nat) :=
  match ipView bs with
  | some v => if v.proto = 17 ∧ !v.frag then some (v, beAt bs (v.pay + 2) 2) else none
  | none => none

/-- The one's complement sum of a list of bytes as 16-bit words. -/
def onesSum : List Byte → Nat
  | a :: b :: t => a.toNat * 256 + b.toNat + onesSum t
  | [a] => a.toNat * 256
  | [] => 0

/-- A sum folded to 16 bits with end-around carry; 2^32 is far above any sum taken. -/
def fold16 (s : Nat) : Nat :=
  let a := s % 65536 + s / 65536
  let b := a % 65536 + a / 65536
  b % 65536 + b / 65536

/-- The IPv4 header checksum is right (R129). -/
def ipv4HeaderOk (bs : List Byte) (v : IpView) : Bool :=
  v.v6 || fold16 (onesSum ((bs.drop v.off).take (v.pay - v.off))) == 0xFFFF

/-! ## PTP messages (R53) -/

/-- Where a PTP message begins: Ethertype 0x88F7, or UDP to port 319 or 320. `event` asks for port 319 alone. -/
def ptpOff (bs : List Byte) (event : Bool) : Option Nat :=
  if tagCount bs < 3 ∧ etherType bs = 0x88F7 then some (etherOff bs + 2)
  else match udpView bs with
    | some (v, p) => if p = 319 ∨ (!event ∧ p = 320) then some (v.pay + 8) else none
    | none => none

/-- The messageType of a PTP message at offset `o`: 0 Sync, 1 Delay_Req, 2 Pdelay_Req, 3 Pdelay_Resp, 8 Follow_Up,
9 Delay_Resp, 10 Pdelay_Resp_Follow_Up, 11 Announce (IEEE 1588-2019, log entry 16). -/
def ptpType (bs : List Byte) (o : Nat) : Nat := beAt bs o 1 % 16

/-- The domainNumber of a PTP message. -/
def ptpDomainNo (bs : List Byte) (o : Nat) : Nat := beAt bs (o + 4) 1

/-- A PTP event message: where it begins, and its type (R53). -/
def ptpEvent (bs : List Byte) : Option (Nat × Nat) :=
  match ptpOff bs true with
  | some o => if ptpType bs o < 4 then some (o, ptpType bs o) else none
  | none => none

/-- A PTP message of any kind: where it begins, and its type. -/
def ptpAny (bs : List Byte) : Option (Nat × Nat) :=
  match ptpOff bs false with
  | some o => some (o, ptpType bs o)
  | none => none

/-- Picoseconds to units of 2^-16 ns (R54). -/
def cfUnits (ps : Int) : Int := (ps * 65536 + 500) / 1000

/-- A correction field after an addition, and whether it saturated (R59). -/
def cfAdd (old : Nat) (add : Int) : Nat × Bool :=
  let s := sgn 64 old + add
  if old = 0x7FFFFFFFFFFFFFFF ∨ s < -(2 ^ 63) ∨ 2 ^ 63 ≤ s then (0x7FFFFFFFFFFFFFFF, true) else (unsgn 64 s, false)

/-- A UDP checksum after the words of a field change (R60, RFC 1624). -/
def udpFix (v6 : Bool) (old : Nat) (before after : List Byte) : Nat :=
  if old = 0 ∧ !v6 then 0 else
  let inv := fun l : List Byte => l.map fun b => ~~~b
  let s := fold16 ((65535 - old) + onesSum (inv before) + onesSum after)
  if 65535 - s = 0 then 0xFFFF else 65535 - s

/-- Bytes of a PTP message changed at offset `off`, with the UDP checksum kept in step (R60). -/
def ptpPatch (bs : List Byte) (off : Nat) (new : List Byte) : List Byte :=
  let before := (bs.drop off).take new.length
  match udpView bs with
  | some (v, _) =>
    let c := udpFix v.v6 (beAt bs (v.pay + 6) 2) before new
    patch (patch bs off new) (v.pay + 6) (beBytes 2 c)
  | none => patch bs off new

/-- A PTP message with an addition made to its correction field, and whether that saturated (R58 to R60). -/
def ptpCorrect (bs : List Byte) (o : Nat) (add : Int) : List Byte × Bool :=
  let (v, sat) := cfAdd (beAt bs (o + 8) 8) add
  (ptpPatch bs (o + 8) (beBytes 8 v), sat)

end Sys2Proof.Machine
end

