-- ==== Sys2Proof/Machine/Net.lean ====
section
/-! DEFINITION. Network ports and their egress side (R274 to R320): faults and the link, the switch packet
buffer and its class queues, shapers, gate lists, preemption, PAUSE, starting and completing a frame,
snapshots and the MDIO master. -/

namespace Sys2Proof.Machine

open Sys2Proof

/-! ## State of a port -/

/-- Port `n`. -/
def Dev.netOf (d : Dev) (n : Nat) : NetSt := kget {} d.net n

/-- The device with port `n` replaced. -/
def Dev.setNet (d : Dev) (n : Nat) (x : NetSt) : Dev := { d with net := kset {} d.net n x }

/-- The port is faulted (R278). -/
def NetSt.faulted (x : NetSt) : Bool := x.pcs || x.localF || x.remoteF || x.linkBit || x.an || x.hdx || x.rateErr

/-- The port is enabled and its domain is ON. -/
def Dev.netOn (d : Dev) (n : Nat) : Bool := d.on (fNETn_MAC_CFG_EN n) && d.domOn (9 + n)

/-- LINK_UP of port `n`. -/
def Dev.linkUp (d : Dev) (n : Nat) : Bool := d.on (fNETn_STS_LINK_UP n)

/-- A rate code in kbit/s (Table 11.10). -/
def rateKbps (r : Nat) : Nat :=
  match r with
  | 0 => 10000000 | 1 => 1000000 | 2 => 100000 | _ => 10000

/-- The running rate of port `n` in kbit/s. -/
def Dev.runKbps (d : Dev) (n : Nat) : Nat := rateKbps (d.get (fNETn_STS_RUN_RATE n))

/-- The rates a mode allows (Table 11.1). -/
def modeRates (m : Nat) : List Nat :=
  match m with
  | 1 => [0] | 2 => [0, 1, 2] | 3 => [1] | 4 => [1, 2, 3] | _ => []

/-- The bytes MAXLEN stands for (Table 11.9). -/
def Dev.maxLen (d : Dev) (n : Nat) : Nat :=
  match d.get (fNETn_MAC_CFG_MAXLEN n) with
  | 0 => 1518 | 1 => 1522 | 2 => 2000 | _ => 9018

/-- A port's own address: bytes 0 and 1 in _H, 2 to 5 in _L. -/
def Dev.macAddr (d : Dev) (n : Nat) : Nat :=
  d.get (fNETn_MAC_ADDR_H_ADDR n) * 2 ^ 32 + (d.reg (rNETn_MAC_ADDR_L n)).toNat

/-! ## Port roles (R321 to R324) -/

/-- The role of port `n`: 0 disabled, 1 edge, 2 chain (Table 13.1). -/
def Dev.role (d : Dev) (n : Nat) : Nat := d.get fMIO_PORT_CFG_ROLES / 4 ^ n % 4

/-- A chain port's causes. -/
def Dev.mioPort (d : Dev) (n : Nat) : MioPort := kget {} d.mio.ports n

/-- The device with a chain port's causes replaced. -/
def Dev.setMioPort (d : Dev) (n : Nat) (x : MioPort) : Dev :=
  { d with mio := { d.mio with ports := kset {} d.mio.ports n x } }

/-- The cause MIO_PORT_STS shows for port `n`: the lowest code that holds (R324; log entry 35). -/
def Dev.blockCause (d : Dev) (n : Nat) : Nat :=
  if d.role n ≠ 2 then 0 else
  if !d.on fMIO_CFG_EN then 6 else
  let x := d.mioPort n
  if x.brk then 1 else if x.lost then 2 else if x.restoring then 3 else if x.noPeer then 4 else if x.segOver then 5 else 0

/-- The chain port `n` is blocked. -/
def Dev.blocked (d : Dev) (n : Nat) : Bool := d.blockCause n != 0

/-- What a frame is to the roles of R323 and R324. -/
inductive Carry where
  | control | miodal | pdelay | other
  deriving DecidableEq, Repr

/-- The kind of a frame for R323 and R324: Pdelay_Req, Pdelay_Resp and Pdelay_Resp_Follow_Up cross a blocked port. -/
def carryOf (bs : List Byte) : Carry :=
  if beAt bs 12 2 = 0x8808 then .control
  else if beAt bs 12 2 = 0x88B5 then .miodal
  else match ptpAny bs with
    | some (_, t) => if t = 2 ∨ t = 3 ∨ t = 10 then .pdelay else .other
    | none => .other

/-- Port `n` carries a frame of kind `k` that the device originates or forwards (R323, R324, R326). EN = 0 stops every Miodal
frame (R347). -/
def Dev.carries (d : Dev) (n : Nat) (k : Carry) : Bool :=
  if k == .miodal && !d.on fMIO_CFG_EN then false else
  match d.role n with
  | 1 => true
  | 2 => !d.blocked n || k != .other
  | _ => k == .control

/-! ## The switch packet buffer -/

/-- Cells of 256 bytes that a frame takes. -/
def cellsFor (len : Nat) : Nat := (len + 255) / 256

/-- Every frame a port holds, waiting, on the wire or as a remainder. -/
def NetSt.frames (x : NetSt) : List Frame :=
  x.q.flatMap (·.2) ++ x.wire.toList.map (·.frame) ++ x.rem.toList.map (·.frame)

/-- Cells in use: a frame that several ports hold is stored once. -/
def Dev.cellsUsed (d : Dev) : Nat :=
  let all := (List.range 4).flatMap fun n => (d.netOf n).frames.map fun f => (f.id, cellsFor f.bytes.length)
  (all.foldl (fun (seen : List Nat × Nat) p => if p.1 ∈ seen.1 then seen else (p.1 :: seen.1, seen.2 + p.2)) ([], 0)).2

/-- Free cells of the switch packet buffer (Table 1.6). -/
def Dev.cellsFree (d : Dev) : Nat := 24576 - d.cellsUsed

/-- A number for a frame about to be stored; an armed injection goes into its first word, in a cell that is a free value (R537). -/
def Dev.newFrameId (d : Dev) : Nat × Dev :=
  let d := if d.injDue 0 then
      let w := d.freeNat
      let ue := d.get fINT_INJ_CMD_BITS == 2
      let d := w.2.injMade
      { d with integ := { d.integ with cells := kset none d.integ.cells d.nextFrame (some (w.1 % 786432, ue)) } }
    else d
  (d.nextFrame, { d with nextFrame := d.nextFrame + 1 })

/-- The frames that wait in class `c` of a port. -/
def NetSt.queue (x : NetSt) (c : Nat) : List Frame := kget [] x.q c

/-- The port with class `c`'s queue replaced. -/
def NetSt.setQueue (x : NetSt) (c : Nat) (l : List Frame) : NetSt := { x with q := kset [] x.q c l }

/-- Cells that classes 0 to 4 of a port hold together (R327). -/
def NetSt.lowCells (x : NetSt) : Nat :=
  ((List.range 5).map fun c => ((x.queue c).map fun f => cellsFor f.bytes.length).sum).sum

/-! ## Gates in force, and the shapers (R303) -/

/-- The gate of class `c` on port `n` is open. -/
def Dev.gateOpen (d : Dev) (n c : Nat) : Bool := d.get (fNETn_GATE_STS_GATES n) / 2 ^ c % 2 == 1

/-- The port is paused (R317). -/
def Dev.paused (d : Dev) (n : Nat) : Bool := (d.netOf n).pause.isSome

/-- One bit of shaper credit, in the units the credit is kept in. -/
def creditBit : Int := 65536 * 1000000

/-- What the registers hold for the next frame start. -/
def Dev.netCfg (d : Dev) (n : Nat) : NetCfg :=
  { cls := d.reg (rNETn_CLASS_CFG n), slope5 := d.reg (rNETn_CBS5_SLOPE n), slope6 := d.reg (rNETn_CBS6_SLOPE n),
    mm := d.reg (rNETn_MM_CFG n), active := d.on (fNETn_MM_STS_ACTIVE n) }

/-- A frame start brings into force what the registers hold (text under Table 12.4, R314). -/
def Dev.netLatch (d : Dev) (n : Nat) : Dev := d.setNet n { d.netOf n with cfg := d.netCfg n }

/-- idleSlope of a class in kbit/s: its SLOPE in force, at most 75 % of the running rate. -/
def Dev.idleSlope (d : Dev) (n c : Nat) : Nat :=
  let x := (d.netOf n).cfg
  let s := (if c = 5 then x.slope5 else x.slope6).toNat
  min (min s 7500000) (d.runKbps n * 3 / 4)

/-- Class `c` of port `n` has a shaper in force. -/
def Dev.shaped (d : Dev) (n c : Nat) : Bool :=
  let w := (d.netOf n).cfg.cls
  (c == 5 && (fNETn_CLASS_CFG_CBS5 n).get w == 1) || (c == 6 && (fNETn_CLASS_CFG_CBS6 n).get w == 1)

/-- A class's credit after a time `dt` in which nothing about it changed. -/
def Dev.creditAfter (d : Dev) (n c : Nat) (credit dt : Int) : Int :=
  let x := d.netOf n
  if !d.shaped n c then credit else
  let sending := match x.wire with
    | some w => w.cls == c
    | none => false
  let idle : Int := d.idleSlope n c
  let lim := (2 ^ 31 - 1) * creditBit
  if !d.gateOpen n c || x.pause.isSome then credit
  else if sending then clampI (-lim) lim (credit + dt * (idle - d.runKbps n))
  else if !(x.queue c).isEmpty then clampI (-lim) lim (credit + dt * idle)
  else if 0 < credit then 0 else credit

/-- Both credits of a port brought up to now; every change of what they depend on comes after it. -/
def Dev.cbs (d : Dev) (n : Nat) : Dev :=
  let x := d.netOf n
  let dt := max 0 (d.mono - x.creditAt)
  d.setNet n { x with credit5 := d.creditAfter n 5 x.credit5 dt, credit6 := d.creditAfter n 6 x.credit6 dt, creditAt := d.mono }

/-- The credit register of a class, in bits (Table 12.4). -/
def Dev.creditBits (d : Dev) (n c : Nat) : Int :=
  let x := (d.cbs n).netOf n
  (if c = 5 then x.credit5 else x.credit6) / creditBit

/-! ## Entering the queues -/

/-- A frame enqueued on class `c` of port `n`; classes 0 to 4 obey MIO_QLIM (R327). -/
def Dev.enqueue (d : Dev) (n c : Nat) (f : Frame) : Dev :=
  let d := d.cbs n
  let x := d.netOf n
  if c < 5 ∧ (d.reg rMIO_QLIM).toNat < x.lowCells + cellsFor f.bytes.length then d.inc (rMIO_QLIM_DROP_Pp_CNT n)
  else d.setNet n (x.setQueue c (x.queue c ++ [f]))

/-- The free cells hold a frame that no port holds yet: what limits every class, 5 to 7 alone (R327). -/
def Dev.roomFor (d : Dev) (f : Frame) : Bool := decide (cellsFor f.bytes.length ≤ d.cellsFree)

/-- The class of a frame that is neither a stream copy nor a device control frame, as it leaves port `n`: by its
outermost tag, else by the default priority in force on port `dflt` (R301). -/
def Dev.mapClass (d : Dev) (n dflt : Nat) (bs : List Byte) : Nat :=
  let p := (pcpOf bs).getD ((fNETn_CLASS_CFG_DEF_PCP dflt).get (d.netOf dflt).cfg.cls)
  d.get (fNETn_PCP_MAP_MAP n) / 8 ^ p % 8

/-- A frame the device originates on port `n` in class `c`: sent when the link is up, the port carries it and the free cells
hold it (R280, R323, R324, R327; one they do not hold is not sent, log entry 186). Says whether it was enqueued. -/
def Dev.originate (d : Dev) (n c : Nat) (f : Frame) : Bool × Dev :=
  if d.netOn n && d.linkUp n && d.carries n (carryOf f.bytes) && d.roomFor f then
    let (i, d) := d.newFrameId
    (true, d.enqueue n c { f with id := i })
  else (false, d)

/-- A frame handed to one of the device's functions. -/
def Dev.hand (d : Dev) (h : Handed) : Dev := { d with handed := d.handed ++ [h] }

/-- The oldest frame handed to a sink that `p` accepts, and the device without it. -/
def Dev.take (d : Dev) (p : Handed → Bool) : Option Handed × Dev :=
  match d.handed.find? p with
  | some h => (some h, { d with handed := d.handed.erase h })
  | none => (none, d)

/-! ## Gate lists (R304 to R308) -/

/-- A gate list entry (Table 12.1). -/
structure GateEntry where
  gates : Nat
  op : Nat
  interval : Nat
  deriving DecidableEq, Repr

/-- Entry `i` of port `n`'s list. -/
def Dev.gateEntry (d : Dev) (n i : Nat) : GateEntry :=
  let w := readWord64 d.tbl (0x2E8000 + 0x800 * n + 8 * i)
  { gates := w / 2 ^ 56, op := w / 2 ^ 48 % 4, interval := w % 2 ^ 32 }

/-- LEN of port `n`. -/
def Dev.gateLen (d : Dev) (n : Nat) : Nat := d.get (fNETn_GATE_CFG_LEN n)

/-- The entries in use. -/
def Dev.gateList (d : Dev) (n : Nat) : List GateEntry := (List.range (d.gateLen n)).map (d.gateEntry n)

/-- NETn_GATE_BASE. -/
def Dev.gateBase (d : Dev) (n : Nat) : Word64 := BitVec.ofNat 64 (d.pair (rNETn_GATE_BASE_H n) (rNETn_GATE_BASE_L n))

/-- NETn_GATE_CYCLE in ns. -/
def Dev.gateCycle (d : Dev) (n : Nat) : Nat := (d.reg (rNETn_GATE_CYCLE n)).toNat

/-- A list as segments of one cycle: gates and length; the last entry lasts to the end, and what lies beyond the
cycle is cut off (R306). -/
def gateSegs : List GateEntry → Nat → List (Nat × Nat)
  | [], _ => []
  | [e], left => [(e.gates, left)]
  | e :: t, left => if e.interval < left then (e.gates, e.interval) :: gateSegs t (left - e.interval) else [(e.gates, left)]

/-- The index of the entry that covers a position in the cycle. -/
def gateCover : List GateEntry → Nat → Nat → Nat
  | [], _, i => i
  | [_], _, i => i
  | e :: t, pos, i => if pos < e.interval then i else gateCover t (pos - e.interval) (i + 1)

/-- Time for which class `c`'s gate stays open along a list of segments, and whether it closed in it. -/
def openRun (c : Nat) : List (Nat × Nat) → Nat × Bool
  | [] => (0, false)
  | (g, l) :: t =>
    if g / 2 ^ c % 2 = 1 then
      let (n, b) := openRun c t
      (l + n, b)
    else (0, true)

/-- Segments with the first `pos` nanoseconds cut off. -/
def segsFrom : List (Nat × Nat) → Nat → List (Nat × Nat)
  | [], _ => []
  | (g, l) :: t, pos => if pos < l then (g, l - pos) :: t else segsFrom t (pos - l)

/-- The open span of class `c` from a position in the cycle; none when its gate never closes (R309). -/
def spanFrom (segs : List (Nat × Nat)) (c pos : Nat) : Option Nat :=
  let (a, closed) := openRun c (segsFrom segs pos ++ segs)
  if closed then some a else none

/-- The longest open span of class `c` in the list, W_c; none when its gate never closes (R310). -/
def spanMax (segs : List (Nat × Nat)) (c : Nat) : Option Nat :=
  let starts := (List.range segs.length).map fun k => (openRun c (segs.drop k ++ segs)).1
  if segs.all (fun s => s.1 / 2 ^ c % 2 == 1) then none else some (starts.foldl max 0)

/-- The open span of class `c` on port `n` from now, in ns (R309). -/
def Dev.openSpan (d : Dev) (n c : Nat) : Option Nat :=
  if !d.on (fNETn_GATE_CFG_EN n) then none else
  let segs := gateSegs (d.gateList n) (d.gateCycle n)
  let e := sdiff64 d.ft64 (d.gateBase n)
  if e < 0 then
    match spanFrom segs c 0 with
    | some s => some ((-e).toNat + s)
    | none => none
  else spanFrom segs c (e.toNat % d.gateCycle n)

/-- W_c of port `n`. -/
def Dev.spanMaxOf (d : Dev) (n c : Nat) : Option Nat :=
  if !d.on (fNETn_GATE_CFG_EN n) then none else spanMax (gateSegs (d.gateList n) (d.gateCycle n)) c

/-- The time of a number of bytes at a rate, in ns, rounded up (R309). -/
def wireNs (kbps bytes : Nat) : Nat := (bytes * 8 * 1000000 + kbps - 1) / kbps

/-- A time in ns fits in a span. -/
def fits (t : Nat) : Option Nat → Bool
  | none => true
  | some s => t ≤ s

/-! ## Preemption (R312 to R315) -/

/-- Preemption is active. -/
def Dev.mmActive (d : Dev) (n : Nat) : Bool := d.on (fNETn_MM_STS_ACTIVE n)

/-- Class `c` is preemptable now. -/
def Dev.preemptable (d : Dev) (n c : Nat) : Bool :=
  let x := (d.netOf n).cfg
  x.active && (fNETn_MM_CFG_EXPRESS n).get x.mm / 2 ^ c % 2 == 0

/-- Bytes of a minimum first fragment. -/
def Dev.minFrag (d : Dev) (n : Nat) : Nat := 64 * (1 + (fNETn_MM_CFG_ADD_FRAG_SIZE n).get (d.netOf n).cfg.mm)

/-- The length of a frame as it leaves: padded to 60 bytes, and with its FCS (R291, R309). -/
def Frame.len (f : Frame) : Nat := max 60 f.bytes.length + 4

/-- Frame bytes that have left since a fragment started, the one being sent among them: 8 preamble bytes come first. -/
def Dev.bytesSent (d : Dev) (n : Nat) (w : OnWire) : Nat :=
  let dt := (max 0 (d.mono - w.start)).toNat
  let byte := 65536 * 8 * 1000000
  w.sent + ((dt * d.runKbps n + byte - 1) / byte - 8)

/-- `cut` frame bytes sent is a legal boundary of the frame on the wire (R312). -/
def Dev.legalCut (d : Dev) (n : Nat) (w : OnWire) (cut : Nat) : Bool :=
  decide (d.minFrag n - 4 ≤ cut) && decide (w.sent < cut) && decide (cut + 64 ≤ w.frame.len)
    && (d.get (fNETn_STS_RUN_RATE n) != 0 || cut % 8 == 0)

/-- The next legal boundary: none lies within the byte being sent. -/
def Dev.nextCut (d : Dev) (n : Nat) (w : OnWire) : Option Nat :=
  let p := max (max (d.bytesSent n w) (w.sent + 1)) (d.minFrag n - 4)
  let p := if d.get (fNETn_STS_RUN_RATE n) = 0 then (p + 7) / 8 * 8 else p
  if d.legalCut n w p then some p else none

/-- The frame on the wire split at a boundary: the fragment ends and the remainder waits. -/
def Dev.split (d : Dev) (n : Nat) (w : OnWire) (cut : Nat) : Dev :=
  let d := d.cbs n
  let d := if w.sent = 0 then d else d.inc (rNETn_MM_TX_FRAG_CNT n)
  d.setNet n { d.netOf n with wire := none, rem := some { frame := w.frame, fcs := w.fcs, cls := w.cls, sent := cut } }

/-- A remainder that a pause finds with its gate closed or a hold in force waits until the pause ends (R317). -/
def Dev.remHold (d : Dev) (n : Nat) : Dev :=
  match (d.netOf n).rem with
  | some r =>
    if d.paused n && (!d.gateOpen n r.cls || d.on (fNETn_MM_STS_HOLD n)) then
      d.setNet n { d.netOf n with rem := some { r with held := true } }
    else d
  | none => d

/-- A hold is requested, or a gate closes that was open under the states `was`: a preemptable frame in progress is split at
its next legal boundary. One that has passed its last completes; a remainder that so passes its own gate's close is marked
(R312, R313). -/
def Dev.preemptNow (d : Dev) (n was : Nat) (asked : Bool) : Dev :=
  match (d.netOf n).wire with
  | some w =>
    let closed := was / 2 ^ w.cls % 2 == 1 && !d.gateOpen n w.cls
    if w.pre && (closed || asked) then
      match d.nextCut n w with
      | some cut => d.split n w cut
      | none =>
        if closed && w.sent != 0 then d.setNet n { d.netOf n with wire := some { w with past := true } } else d
    else d
  | none => d

/-- An untagged control packet of the MAC merge sublayer waits in class 7 (R301, R314). -/
def Dev.mmPacket (d : Dev) (n : Nat) (k : FrameKind) : Dev :=
  let (i, d) := d.newFrameId
  d.enqueue n 7 { bytes := List.replicate 60 0, id := i, kind := k }

/-- Verification begins again for port `n` (R314): at link-up and when PE_EN or VERIFY_DIS changes. -/
def Dev.mmRestart (d : Dev) (n : Nat) : Dev :=
  let d := d.setNet n { d.netOf n with tries := 0 }
  let set := fun (d : Dev) (v : Nat) (a : Bool) => (d.put (fNETn_MM_STS_VERIFY n) v).putB (fNETn_MM_STS_ACTIVE n) a
  let d :=
    if !d.on (fNETn_MM_CFG_PE_EN n) then set d 0 false
    else if d.on (fNETn_MM_CFG_VERIFY_DIS n) then set d 0 true
    else if d.linkUp n then
      (set (d.setNet n { d.netOf n with tries := 1 }) 2 false).mmPacket n .verify
    else set d 1 false
  if d.mmActive n then d else d.putB (fNETn_MM_STS_HOLD n) false

/-! ## Gate states -/

/-- No list runs: every gate open. -/
def Dev.gateIdle (d : Dev) (n : Nat) : Dev :=
  let d := d.cbs n
  let d := (d.put (fNETn_GATE_STS_GATES n) 0xFF).put (fNETn_GATE_STS_ENTRY n) 0
  (d.putB (fNETn_GATE_STS_RUNNING n) false).putB (fNETn_MM_STS_HOLD n) false

/-- NETn_GATE_CFG.EN goes from 1 to 0: the list stops, every gate opens and the comparator is released. -/
def Dev.gateDisable (d : Dev) (n : Nat) : Dev :=
  (d.gateIdle n).releaseTcmp (d.get (fNETn_GATE_CFG_TCMP n))

/-- `k` entries from `i` on are read: one that holds an uncorrectable error stops the list, and EN reads back 0 (Table 22.1). True when
the list goes on. -/
def Dev.gateReads (d : Dev) (n i k : Nat) : Bool × Dev :=
  let off := 0x2E8000 + 0x800 * n + 8 * i
  let bad := d.tblBad off k
  let d := d.tblReads off k
  if bad then (false, (d.putB (fNETn_GATE_CFG_EN n) false).gateDisable n) else (true, d)

/-- Entry `i` comes into force: its gates and its OP (R306, R308). -/
def Dev.gateShow1 (d : Dev) (n i : Nat) : Dev :=
  let e := d.gateEntry n i
  let d := d.cbs n
  let d := (d.put (fNETn_GATE_STS_GATES n) e.gates).put (fNETn_GATE_STS_ENTRY n) i
  let d := d.putB (fNETn_GATE_STS_RUNNING n) true
  let d :=
    if d.mmActive n && e.op == 1 then d.putB (fNETn_MM_STS_HOLD n) true
    else if d.mmActive n && e.op == 2 then d.putB (fNETn_MM_STS_HOLD n) false
    else d
  d.remHold n

/-- Entry `i` comes into force, once it is read. -/
def Dev.gateShow (d : Dev) (n i : Nat) : Dev :=
  let r := d.gateReads n i 1
  if r.1 then r.2.gateShow1 n i else r.2

/-- Entry `i` comes into force at its time, and may split the frame on the wire (R312). -/
def Dev.gateApply (d : Dev) (n i : Nat) : Dev :=
  let r := d.gateReads n i 1
  if r.1 then
    ((r.2.gateShow1 n i).preemptNow n (d.get (fNETn_GATE_STS_GATES n)) (d.mmActive n && (d.gateEntry n i).op == 1)).remHold n
  else r.2

/-- The list as it stands at the time now shown: the entry that covers (now − base) mod cycle comes into force by `enter`, or
every gate opens while the base is in the future (R306). -/
def Dev.gatePlace (d : Dev) (n : Nat) (enter : Dev → Nat → Nat → Dev) : Dev :=
  let e := sdiff64 d.ft64 (d.gateBase n)
  if e < 0 then d.gateIdle n
  else
    let k := gateCover (d.gateList n) (e.toNat % d.gateCycle n) 0
    let r := d.gateReads n 0 k
    if r.1 then enter r.2 n k else r.2

/-- The refusal code of a gate enable before its claim (Table 12.2). The content of an entry that holds an uncorrectable error is not
used: it stops the list once it is enabled. -/
def Dev.gateCheck (d : Dev) (n : Nat) : Nat :=
  if d.gateLen n = 0 ∨ 256 < d.gateLen n then 1
  else if d.gateCycle n < 1000 ∨ 1000000000 < d.gateCycle n then 2
  else if (List.range (d.gateLen n)).any fun i =>
      !d.tblHurt (0x2E8000 + 0x800 * n + 8 * i) && (decide ((d.gateEntry n i).interval < 64) || (d.gateEntry n i).op == 3) then 3
  else 0

/-- A gate enable refused with a code (R305). -/
def Dev.gateRefuse (d : Dev) (n code : Nat) : Dev :=
  let d := d.putB (fNETn_GATE_CFG_EN n) false
  ((d.putB (fNETn_GATE_STS_CFG_ERR n) true).put (fNETn_GATE_STS_ERR_CODE n) code).inc rNET_REFUSE_CNT

/-- NETn_GATE_CFG.EN goes from 0 to 1 (R305). -/
def Dev.gateEnable (d : Dev) (n : Nat) : Dev :=
  let code := d.gateCheck n
  if code ≠ 0 then d.gateRefuse n code else
  let t := d.get (fNETn_GATE_CFG_TCMP n)
  match d.claimTcmp t (0x40 + n) with
  | (false, d) => d.gateRefuse n 4
  | (true, d) =>
    let d := d.armTcmp t 2 (d.gateBase n) (d.gateCycle n * 65536)
    let d := (d.putB (fNETn_GATE_STS_CFG_ERR n) false).put (fNETn_GATE_STS_ERR_CODE n) 0
    let r := d.gateReads n 0 (d.gateLen n)
    if r.1 then r.2.gatePlace n Dev.gateApply else r.2

/-- The gate comparator of port `n` fires: a cycle starts at entry 0 (R306). -/
def Dev.gateCycleStart (d : Dev) (n : Nat) : Dev := if d.on (fNETn_GATE_CFG_EN n) then d.gateApply n 0 else d

/-- The INTERVALs of entries 0 to `i` have passed in the cycle that FT64 stands in (R306). -/
def Dev.entryOver (d : Dev) (n i : Nat) : Bool :=
  let e := sdiff64 d.ft64 (d.gateBase n)
  decide (0 ≤ e) && decide ((((d.gateList n).take (i + 1)).map (·.interval)).sum ≤ e.toNat % d.gateCycle n)

/-- The entry in force ends, once its INTERVAL is over; after the last one its states hold until the cycle ends (R306). -/
def Dev.gateEntryEnd (d : Dev) (n : Nat) : Dev :=
  let i := d.get (fNETn_GATE_STS_ENTRY n)
  if d.on (fNETn_GATE_STS_RUNNING n) && decide (i + 1 < d.gateLen n) && d.entryOver n i then d.gateApply n (i + 1) else d

/-- A step of the time base places every running list anew; the frame on the wire continues (Table 3.3, R320). -/
def Dev.gatesStepped (d : Dev) : Dev :=
  (List.range 4).foldl (fun d n => if d.on (fNETn_GATE_CFG_EN n) then d.gatePlace n Dev.gateShow else d) d

/-! ## PAUSE (R316 to R319) -/

/-- Quanta of 512 bit times that have passed since the timer was loaded. -/
def Dev.pauseGone (d : Dev) (n : Nat) (at_ : Int) : Nat :=
  (max 0 (d.mono - at_)).toNat * d.runKbps n / (65536 * 512 * 1000000)

/-- PAUSE_STS.REMAIN. -/
def Dev.pauseRemain (d : Dev) (n : Nat) : Nat :=
  match (d.netOf n).pause with
  | some (q, t) => q - d.pauseGone n t
  | none => 0

/-- Quanta spent paused that PAUSE_QUANTA_CNT does not hold yet. -/
def Dev.pauseSpent (d : Dev) (n : Nat) : Nat :=
  match (d.netOf n).pause with
  | some (l, t) => min l (d.pauseGone n t) - (d.netOf n).counted
  | none => 0

/-- The quanta spent so far taken into PAUSE_QUANTA_CNT (R317). -/
def Dev.pauseCount (d : Dev) (n : Nat) : Dev :=
  let k := d.pauseSpent n
  (d.setNet n { d.netOf n with counted := (d.netOf n).counted + k }).add (rNETn_PAUSE_QUANTA_CNT n) k

/-- The port is paused no more: a remainder that waited for it is free to go. -/
def Dev.pauseOver (d : Dev) (n : Nat) : Dev :=
  let x := d.netOf n
  let d := d.setNet n { x with pause := none, counted := 0, rem := x.rem.map fun r => { r with held := false } }
  d.putB (fNETn_PAUSE_STS_PAUSED n) false

/-- The pause timer loaded, or cleared by 0; the quanta already spent are counted (R317, R318). -/
def Dev.pauseLoad (d : Dev) (n q : Nat) : Dev :=
  let d := (d.cbs n).pauseCount n
  if q = 0 then d.pauseOver n
  else ((d.setNet n { d.netOf n with pause := some (q, d.mono), counted := 0 }).putB (fNETn_PAUSE_STS_PAUSED n) true).remHold n

/-- The pause timer reaches 0: every quantum loaded has been spent (R317). -/
def Dev.pauseExpiry (d : Dev) (n : Nat) : Dev :=
  match (d.netOf n).pause with
  | some (l, _) => ((d.cbs n).add (rNETn_PAUSE_QUANTA_CNT n) (l - (d.netOf n).counted)).pauseOver n
  | none => d

/-- The address PAUSE frames go to. -/
def pauseDst : Nat := 0x0180C2000001

/-- A PAUSE frame of port `n` (R319). -/
def Dev.pauseFrame (d : Dev) (n time : Nat) : List Byte :=
  beBytes 6 pauseDst ++ beBytes 6 (d.macAddr n) ++ beBytes 2 0x8808 ++ beBytes 2 1 ++ beBytes 2 time ++ List.replicate 42 0

/-- PAUSE_TX.SEND: the frame waits for the next frame boundary (R319). -/
def Dev.pauseSend (d : Dev) (n : Nat) : Dev :=
  if d.netOn n && d.linkUp n then
    d.setNet n { d.netOf n with pauseTx := some (d.get (fNETn_PAUSE_TX_TIME n)) }
  else d

/-! ## Starting a frame (R290 to R292, R302, R309 to R313) -/

/-- Class `c`'s shaper lets it send; a shaper with a SLOPE of 0 never does (R303). -/
def Dev.shaperOk (d : Dev) (n c : Nat) : Bool :=
  let x := d.netOf n
  if d.shaped n c then
    d.idleSlope n c != 0 && decide (0 ≤ (if c = 5 then x.credit5 else x.credit6))
  else true

/-- The open time a frame of class `c` needs to start: its wire time, or for a preemptable class that of a minimum first
fragment where it is less (R309 to R311). -/
def Dev.startNs (d : Dev) (n c : Nat) (f : Frame) : Nat :=
  let full := wireNs (d.runKbps n) (8 + f.len + 12)
  if d.preemptable n c then min full (wireNs (d.runKbps n) (8 + d.minFrag n + 12)) else full

/-- The start rules for a head frame of class `c` (R308, R310, R311, R313). -/
def Dev.startOk (d : Dev) (n c : Nat) (f : Frame) : Bool :=
  (!d.preemptable n c || (d.netOf n).rem.isNone && !d.on (fNETn_MM_STS_HOLD n)) && fits (d.startNs n c f) (d.openSpan n c)

/-- Class `c` of port `n` is eligible (R302). -/
def Dev.eligible (d : Dev) (n c : Nat) : Bool :=
  match (d.netOf n).queue c with
  | [] => false
  | f :: _ => d.gateOpen n c && d.shaperOk n c && !d.paused n && d.startOk n c f

/-- The highest eligible class that satisfies `p`. -/
def Dev.bestClass (d : Dev) (n : Nat) (p : Nat → Bool) : Option Nat :=
  [7, 6, 5, 4, 3, 2, 1, 0].find? fun c => p c && d.eligible n c

/-- Head frames that can never be sent are discarded: those `barred` by their port, those over the length limit, and those
that need a longer open span than any of their class. Answers the queue, and how many of the last two kinds went (R292,
R310, R324). -/
def dropHeads (barred : Frame → Bool) (limit need : Frame → Nat) (wc : Option Nat) : List Frame → List Frame × Nat × Nat
  | [] => ([], 0, 0)
  | f :: t =>
    let (l, a, b) := dropHeads barred limit need wc t
    if barred f then (l, a, b)
    else if limit f < f.len then (l, a + 1, b)
    else if !fits (need f) wc then (l, a, b + 1)
    else (f :: t, 0, 0)

/-- The heads of every class checked (R292, R310). A frame queued before its port was blocked or took the disabled role is not
sent, and is counted nowhere (R323, R324; log entry 187); blocking does not apply to a cue frame (R366). -/
def Dev.checkHeads (d : Dev) (n : Nat) : Dev :=
  (List.range 8).foldl (fun d c =>
    let x := d.netOf n
    match x.queue c with
    | [] => d
    | q =>
      let barred := fun f : Frame => f.kind == .data && !(if f.cue = 0 then d.carries n (carryOf f.bytes) else d.role n != 0)
      let (l, a, b) := dropHeads barred (fun f => d.maxLen n + tagAllowance f.bytes) (d.startNs n c) (d.spanMaxOf n c) q
      ((d.setNet n (x.setQueue c l)).add (rNETn_TX_OVERSIZE_DROP_CNT n) a).add (rNETn_GATE_OVERSIZE_CNT n) b) d

/-- A frame padded to 60 bytes before its FCS (R291). -/
def padFrame (bs : List Byte) : List Byte := bs ++ List.replicate (60 - bs.length) 0

/-- The transparent-clock treatment and the device's own PTP frames, as the frame leaves port `n` with the egress
timestamp `ts`, given less all steps before it (R55, R57 to R61). The TC_MODE, LINK_DLY and ASYM of the ingress port are those that stand as
the frame leaves (DESIGN CHOICE: the spec does not say which count when they are rewritten while it waits; log entry 193). -/
def Dev.egressPtp (d : Dev) (n : Nat) (f : Frame) (ts : Int) : Frame × Dev :=
  match ptpEvent f.bytes with
  | none => (f, d)
  | some (o, t) =>
    let eg := ts + cfUnits (d.reg (rTIME_NETn_EGR_LAT n)).toNat
    let d := d.setNet n { d.netOf n with stamp := some (eg + d.time.stepTotal) }
    let sat := fun (r : List Byte × Bool) (d : Dev) =>
      (({ f with bytes := r.1 } : Frame), if r.2 then d.inc rTIME_CF_SAT_CNT else d)
    match f.ingress with
    | some p =>
      let mode := d.get (fTIME_NETn_TS_CFG_TC_MODE p)
      if mode = 1 then sat (ptpCorrect f.bytes o (eg - f.ts)) d
      else if mode = 2 ∧ t = 0 then
        sat (ptpCorrect f.bytes o (eg - f.ts + (d.reg (rTIME_NETn_LINK_DLY p)).toNat
          + cfUnits (sgn 32 (d.reg (rTIME_NETn_ASYM p)).toNat))) d
      else (f, d)
    | none =>
      if t = 0 then
        let abs := eg + d.time.stepTotal
        let ns := abs / 65536
        let org := beBytes 6 (ns / 1000000000).toNat ++ beBytes 4 (ns % 1000000000).toNat
        sat (ptpCorrect (ptpPatch f.bytes (o + 34) org) o (abs % 65536)) d
      else if t = 3 then sat (ptpCorrect f.bytes o (eg - f.ts)) d
      else sat (ptpCorrect f.bytes o (-(cfUnits (sgn 32 (d.reg (rTIME_NETn_ASYM n)).toNat)))) d

/-- A frame of class `c` put on the wire: edited, padded, and with its FCS appended (R291). A forwarded frame that leaves
unchanged so keeps the FCS it arrived with, which check 4 of Table 11.4 found to be that of its bytes. -/
def Dev.putOnWire (d : Dev) (n c : Nat) (f : Frame) (ts : Int) : Dev :=
  let (f, d) := d.egressPtp n f (ts - d.time.stepTotal)
  let bs := padFrame f.bytes
  d.setNet n { d.netOf n with wire := some { frame := { f with bytes := bs }, fcs := fcsOf bs, cls := c, pre := d.preemptable n c, start := d.mono } }

/-- The first word of a frame is read before it starts: what an injection has left there is found (R520, R537). False when the frame
cannot be sent. -/
def Dev.frameRead (d : Dev) (f : Frame) : Bool × Dev :=
  match kget none d.integ.cells f.id with
  | none => (true, d)
  | some (w, ue) =>
    let r := d.freeNat
    if ue then (false, r.2.ueCount 0 w (r.1 % 256))
    else
      let d := { r.2 with integ := { r.2.integ with cells := kset none r.2.integ.cells f.id none } }
      (true, d.corrected 0 w (r.1 % 256))

/-- The head frame of class `c` starts; one whose first cell holds an uncorrectable error is discarded (Table 22.1). -/
def Dev.startClass (d : Dev) (n c : Nat) (ts : Int) : Dev :=
  let x := d.netOf n
  match x.queue c with
  | f :: t =>
    let r := d.frameRead f
    let d := r.2.setNet n ((r.2.netOf n).setQueue c t)
    if r.1 then d.putOnWire n c f ts else d.inc (rNETn_TX_FLUSH_CNT n)
  | [] => d

/-- The highest eligible class that is express. -/
def Dev.bestExpress (d : Dev) (n : Nat) : Option Nat := d.bestClass n fun c => !d.preemptable n c

/-- The remainder of a preempted frame may resume: its gate is open, no hold is in force and no express frame is eligible. In a
pause it goes as part of its frame, unless the pause found it waiting for its gate or a hold (R313, R317; log entry 36). -/
def Dev.resumes (d : Dev) (n : Nat) (r : Remainder) : Bool :=
  d.gateOpen n r.cls && !d.on (fNETn_MM_STS_HOLD n) && (d.bestExpress n).isNone && !(d.paused n && r.held)

/-- What port `n`, with nothing on its wire, starts next (R302): a PAUSE of its own, the remainder of a preempted frame, or the
head frame of the highest eligible class. -/
def Dev.startNext (d : Dev) (n : Nat) (ts : Int) : Option Dev :=
  let x := d.netOf n
  match x.pauseTx with
  | some t =>
    let d := d.setNet n { x with pauseTx := none }
    some (d.putOnWire n 7 { bytes := d.pauseFrame n t, kind := .pause } ts)
  | none =>
    match x.rem with
    | some r =>
      if d.resumes n r then
        some (d.setNet n { x with rem := none, wire := some { frame := r.frame, fcs := r.fcs, cls := r.cls, pre := true,
                                                              start := d.mono, sent := r.sent } })
      else (d.bestExpress n).map fun c => d.startClass n c ts
    | none => (d.bestClass n fun _ => true).map fun c => d.startClass n c ts

/-- FRAME_TX_START: the port starts the next thing it may, under the values that this start brings into force; with nothing to
start the old ones stay. A preemptable frame in progress is first split, at its next legal boundary, when an express frame is
eligible (R312). Nothing starts while the port is faulted or its link is down (R279). -/
def Dev.txStart (d : Dev) (n : Nat) (ts : Int) : Dev :=
  if !(d.domOn (9 + n) && d.linkUp n) || (d.netOf n).faulted then d else
  let d := d.cbs n
  match (d.netOf n).wire with
  | some w =>
    let d := d.checkHeads n
    match d.bestExpress n, d.nextCut n w with
    | some _, some cut =>
      if w.pre then
        let s := (d.split n w cut).netLatch n
        (s.startNext n ts).getD s
      else d
    | _, _ => d
  | none =>
    let l := (d.netLatch n).checkHeads n
    (l.startNext n ts).getD (l.setNet n { l.netOf n with cfg := (d.netOf n).cfg })

/-! ## Completing a frame (R293) -/

/-- A good or sent frame in the counters by destination kind: the three registers' lower halves. -/
def Dev.countDst (d : Dev) (dst ucast mcast bcast : Nat) : Dev :=
  let a := if dst = broadcast then bcast else if isGroup dst then mcast else ucast
  d.add64 (a + 4) a 1

/-- The frame on the wire has left: the transmit counters count it once (R293). The verify and respond packets of
the MAC merge sublayer are no MAC frames. -/
def Dev.txDone (d : Dev) (n : Nat) : Dev :=
  match (d.netOf n).wire with
  | none => d
  | some w =>
    let d := d.cbs n
    let d := if w.sent = 0 then d else d.inc (rNETn_MM_TX_FRAG_CNT n)
    let d := if w.past then d.inc (rNETn_GATE_OVERRUN_CNT n) else d
    let d := d.setNet n { d.netOf n with wire := none }
    match w.frame.kind with
    | .verify => d
    | .respond => d
    | k =>
      let d := d.add64 (rNETn_TX_OCTETS_H n) (rNETn_TX_OCTETS_L n) w.frame.len
      let d := d.add64 (rNETn_TX_FRAMES_H n) (rNETn_TX_FRAMES_L n) 1
      let d := d.countDst (dstOf w.frame.bytes) (rNETn_TX_UCAST_L n) (rNETn_TX_MCAST_L n) (rNETn_TX_BCAST_L n)
      if k = .pause then d.inc (rNETn_TX_CTRL_CNT n) else d

/-! ## The link (R275 to R281, R299) -/

/-- Frames that wait on a port discarded and counted (R280). -/
def Dev.flushPort (d : Dev) (n : Nat) : Dev :=
  let x := d.netOf n
  let k := ((x.q.map fun p => p.2.length).sum) + x.rem.toList.length
  (d.setNet n { x with q := [], rem := none, pauseTx := none }).add (rNETn_TX_FLUSH_CNT n) k

/-- The PSTATE of port `n` in PTP domain `i` (R79). -/
def Dev.pstate (d : Dev) (i n : Nat) : Nat := d.get (fPTP_PTDd_STS_PSTATE i) / 16 ^ n % 16

/-- The PSTATE of port `n` in domain `i` set. One that enters LISTENING begins to wait for an Announce. -/
def Dev.setPstate (d : Dev) (i n v : Nat) : Dev :=
  let w := d.get (fPTP_PTDd_STS_PSTATE i)
  let d := if v = 4 ∧ w / 16 ^ n % 16 ≠ 4 then d.setDom i { d.dom i with quiet := kset 0 (d.dom i).quiet n 0 } else d
  d.put (fPTP_PTDd_STS_PSTATE i) (w - w / 16 ^ n % 16 * 16 ^ n + v * 16 ^ n)

/-- The participation of port `n` in domain `i` (R76). -/
def Dev.ptpRole (d : Dev) (i n : Nat) : Nat := (d.reg (rPTP_PTDd_PORTS i)).toNat / 4 ^ n % 4

/-- Every enabled domain in which port `n` participates takes it to a state; IEEE 802.1AS has DISABLED in place of FAULTY
(R79). -/
def Dev.ptpPortAll (d : Dev) (n v : Nat) : Dev :=
  (List.range 4).foldl (fun d i =>
    let v := if v = 2 ∧ d.get (fPTP_PTDd_CTL_PROFILE i) = 4 then 3 else v
    if d.on (fPTP_PTDd_CTL_EN i) && d.ptpRole i n != 0 then d.setPstate i n v else d) d

end Sys2Proof.Machine
end

