-- ==== Sys2Proof/Machine/Operands.lean ====
section
/-! DEFINITION. The operand forms of the audio path: signal handles (R25, R26), S64 and its conversions (R27,
R28, R124), residues (R29, R30), gains, fades and curves (R486 to R488). -/

namespace Sys2Proof.Machine

open Sys2Proof

/-! ## Rounding and saturation -/

/-- `x / 2^k` rounded to nearest, ties toward +∞ (R28). -/
def roundShift (x : Int) (k : Nat) : Int := if k = 0 then x else (x + 2 ^ (k - 1)) / 2 ^ k

/-- `a / b` rounded to nearest, ties toward +∞, for a positive `b`. -/
def roundDiv (a : Int) (b : Nat) : Int := (2 * a + b) / (2 * b)

/-- The S64 range (R27). -/
def sat64 (x : Int) : Int := satI 64 x

/-- A product with a Q8.56 gain rounded to S64, ties toward +∞. -/
def mulGain (x g : Int) : Int := sat64 (roundShift (x * g) 56)

/-- 1.0 in Q8.56. -/
def unity : Int := 2 ^ 56

/-! ## Stored and wire formats (Table 1.10) -/

/-- Bits of shift from S64 for an integer wire format of 2, 3 or 4 bytes: L16, L24, S32. -/
def wireShift (bytes : Nat) : Nat := 57 - 8 * bytes

/-- An S64 sample in an integer format of `bytes` bytes, and whether it saturated (R28). -/
def toWire (bytes : Nat) (x : Int) : Int × Bool :=
  let y := roundShift x (wireShift bytes)
  let z := satI (8 * bytes) y
  (z, z != y)

/-- An integer sample of `bytes` bytes in S64, exactly. -/
def fromWire (bytes : Nat) (v : Nat) : Int := sgn (8 * bytes) v * 2 ^ wireShift bytes

/-! ## Binary32 (R124) -/

/-- A binary32 word in S64, and whether it counts as a conversion event. -/
def fromFloat (w : Nat) : Int × Bool :=
  let neg := w / 2 ^ 31 % 2 == 1
  let e := w / 2 ^ 23 % 256
  let f := w % 2 ^ 23
  if e = 255 ∧ f ≠ 0 then (0, true)
  else if 134 ≤ e then (if neg then -(2 ^ 63) else 2 ^ 63 - 1, true)
  else if e = 0 then (0, false)
  else
    let m : Int := (2 ^ 23 + f : Nat)
    let s := if neg then -m else m
    (if 94 ≤ e then s * 2 ^ (e - 94) else roundShift s (94 - e), false)

/-- The place of the highest bit set of a positive number: the number of bits it takes. -/
def bitLen (n : Nat) : Nat := if n = 0 then 0 else n.log2 + 1

/-- An S64 value as the nearest binary32, ties to even; never saturated (R124). -/
def toFloat (x : Int) : Nat :=
  if x = 0 then 0 else
  let neg := decide (x < 0)
  let a := x.natAbs
  let n := bitLen a
  let sh := n - 24
  let q := a / 2 ^ sh
  let r := a % 2 ^ sh
  let half := 2 ^ sh / 2
  let m := if sh = 0 then a * 2 ^ (24 - n) else if half < r ∨ (r = half ∧ q % 2 = 1) then q + 1 else q
  let (m, n) := if m = 2 ^ 24 then (2 ^ 23, n + 1) else (m, n)
  neg.toNat * 2 ^ 31 + (n + 70) * 2 ^ 23 + m % 2 ^ 23

/-! ## Residues (R29, R30) -/

/-- The residue of a word. -/
def res (x : Int) : Nat := (x % 15).toNat

/-- The predicted residue of the high part of a right shift by `k`. -/
def resHigh (p l : Int) (k : Nat) : Nat :=
  ((res p + 15 - res l) % 15 * (match k % 4 with | 0 => 1 | 1 => 8 | 2 => 4 | _ => 2)) % 15

/-! ## Curves (R486 to R488) -/

/-- Breakpoint `k` of curve `c`. -/
def Dev.curvePoint (d : Dev) (c k : Nat) : Int × Int :=
  let w := readWord64 d.tbl (0x2EA000 + 0x800 * c + 8 * k)
  (sgn 24 (w / 2 ^ 40), sgn 40 (w % 2 ^ 40))

/-- The breakpoints that follow one at `x`: as long as the argument rises (R487) and none is poisoned (Table 22.1). -/
def Dev.curveMore (d : Dev) (c : Nat) : Nat → Nat → Int → List (Int × Int)
  | 0, _, _ => []
  | fuel + 1, k, x =>
    let p := d.curvePoint c k
    if x < p.1 ∧ !d.tblHurt (0x2EA000 + 0x800 * c + 8 * k) then p :: d.curveMore c fuel (k + 1) p.1 else []

/-- The breakpoints of curve `c`; poisoned at breakpoint 0 it is the constant 0 (Table 22.1). -/
def Dev.curvePoints (d : Dev) (c : Nat) : List (Int × Int) :=
  let p := d.curvePoint c 0
  if d.tblHurt (0x2EA000 + 0x800 * c) then [(0, 0)] else p :: d.curveMore c 255 1 p.1

/-- A curve's value V at the argument `num / den`, in units of 2^-24 of Y (R488). -/
def evalPoints : List (Int × Int) → Int → Nat → Int
  | [], _, _ => 0
  | [p], _, _ => p.2 * 2 ^ 24
  | p :: q :: t, num, den =>
    if num ≤ p.1 * den then p.2 * 2 ^ 24
    else if num < q.1 * den then
      p.2 * 2 ^ 24 + roundDiv ((q.2 - p.2) * 2 ^ 24 * (num - p.1 * den)) ((q.1 - p.1).toNat * den)
    else evalPoints (q :: t) num den

/-- Curve `c` at an argument. -/
def Dev.curveAt (d : Dev) (c : Nat) (num : Int) (den : Nat) : Int := evalPoints (d.curvePoints c) num den

/-- Curve `c` read across its domain at the fraction `a / b`. -/
def Dev.curveAcross (d : Dev) (c a b : Nat) : Int :=
  let ps := d.curvePoints c
  let x0 := (ps.headD (0, 0)).1
  let x1 := (ps.getLastD (0, 0)).1
  evalPoints ps (x0 * b + (x1 - x0) * a) b

/-- A curve value read whole. -/
def curveWhole (v : Int) : Int := roundShift v 24

/-- A curve value read as a fraction, in units of 2^-32. -/
def curveFraction (v : Int) : Nat := (clampI 0 (2 ^ 32 - 1) (curveWhole v)).toNat

/-! ## The stream fade (R159, R179) -/

/-- f(i), the fade curve of the stream engine across its domain at i ÷ 32, as a Q8.56 gain. -/
def Dev.fade (d : Dev) (i : Nat) : Int := d.curveAcross (d.get fSRX_CFG_FADE_CURVE) (min i 32) 32

/-! ## Handles (R25, R26, Table 1.9, Table 8.2) -/

/-- The multiplier of the house clock. -/
def Dev.houseMult (d : Dev) : Nat := 2 ^ d.get (fMCGn_CTL_MULT (d.get fMCG_HOUSE_HOUSE))

/-- How many handles of a class are valid at the current rate; of class 0 only the null handle, which reads as silence
(R26). -/
def Dev.classCount (d : Dev) (c : Nat) : Nat :=
  match c with
  | 0 => 1
  | 1 | 8 => 2048 / d.houseMult
  | 2 | 9 => 192
  | 3 => 512
  | 4 => 64
  | 5 => 256
  | _ => 0

/-- A handle that names a signal: a class with a signal at that index. -/
def Dev.handleValid (d : Dev) (h : Nat) : Bool := decide (h % 4096 < d.classCount (h / 4096))

/-- The byte offset of a handle's buffer in the Anvil store. -/
def sigBase (h : Nat) : Nat :=
  (match h / 4096 with
    | 1 => 0 | 2 => 0x80000 | 3 => 0x8C000 | 4 => 0xAC000 | 5 => 0xB0000 | 8 => 0xC0000 | _ => 0x140000) + 256 * (h % 4096)

end Sys2Proof.Machine
end

