-- ==== Sys2Proof/Machine/ExtMem.lean ====
section
/-! DEFINITION. External memory (R539 to R553): regions, posted writes and reads, enable, training, wipe, alerts,
the patrol scrub, and leaving and entering service. -/

namespace Sys2Proof.Machine

open Sys2Proof

/-! ## Service -/

/-- The external memory is in service. -/
def Dev.ddrIn (d : Dev) : Bool := d.on fDDR_STS_IN_SERVICE

/-- The memory is out of service: EN = 1 and IN_SERVICE = 0 (R553). -/
def Dev.ddrOut (d : Dev) : Bool := d.on fDDR_CTL_EN && !d.ddrIn

/-- The span of a write discarded in the queue stays unwritten (R549). -/
def Dev.dropSpan (d : Dev) (w : Posted) : Dev :=
  match w.span with
  | some (c, p) =>
    let x := kget {} d.srx c
    { d with srx := kset {} d.srx c { x with unstaged := x.unstaged.filter (· != p) } }
  | none => d

/-- IN_SERVICE set or cleared. A rise of OUT discards the queued writes, which count, and raises DDR_OUT (R553). -/
def Dev.ddrService (d : Dev) (inService : Bool) : Dev :=
  let d := d.putB fDDR_STS_IN_SERVICE inService
  let was := d.on fDDR_STS_OUT
  let d := d.putB fDDR_STS_OUT d.ddrOut
  if d.ddrOut && !was then
    let d := d.ddr.posted.foldl Dev.dropSpan (d.add rDDR_WR_DROP_CNT d.ddr.posted.length)
    ({ d with ddr := { d.ddr with posted := [], tries := [] } }).raise 0x1201 0
  else d

/-! ## Regions (R544) -/

/-- CTR_GIB and DLY_SLOTS as the regions use them. -/
def Dev.ctrGib (d : Dev) : Nat := min 8 (d.get fDDR_REGION_CFG_CTR_GIB)
def Dev.dlySlots (d : Dev) : Nat := min 4096 (d.get fDDR_REGION_CFG_DLY_SLOTS)

/-- Ranks: 1 or 2. -/
def Dev.ddrRanks (d : Dev) : Nat := d.get fDDR_GEOM_RANKS + 1

/-- The sizes of the four regions in MiB (Table 23.2). -/
def Dev.regionMib (d : Dev) (r : Nat) : Nat :=
  match r with
  | 0 => 128 | 1 => 8 * d.ctrGib | 2 => d.dlySlots | 3 => 1024 * d.ctrGib | _ => 0

/-- Where region `r` begins, in MiB. -/
def Dev.regionStart (d : Dev) (r : Nat) : Nat := ((List.range r).map d.regionMib).sum

/-- L_ctr (R546). -/
def Dev.ctrLen (d : Dev) : Nat := d.ctrGib * 2 ^ 20

/-- The beat address ÷ 8 of an item of a region. -/
def Dev.itemBeat (d : Dev) (r i : Nat) : Nat :=
  d.regionStart r * 2 ^ 17 + (match r with
    | 1 => i / 64
    | 2 => i
    | _ => i / 2)

/-- Region `r` is ready: DDR_READY's bit (R547). -/
def Dev.regionReady (d : Dev) (r : Nat) : Bool := d.on (bitFld rDDR_READY r)

/-! ## Writes (R546, R549, R551) -/

/-- One item stored. A write shorter than a beat that holds an uncorrectable error leaves zero beside it (R551). -/
def Dev.ddrStore (d : Dev) (r : Nat) (i : Nat) (v : Int) : Dev :=
  let x := d.ddr
  let beat := d.itemBeat r i
  let hurt := kget false x.bad beat
  let x := { x with bad := kset false x.bad beat false }
  { d with ddr := match r with
    | 2 => { x with dly := kset 0 x.dly i v }
    | 0 => { x with deep := kset 0 (if hurt then kset 0 x.deep (i ^^^ 1) 0 else x.deep) i v }
    | _ => { x with ring := kset 0 (if hurt then kset 0 x.ring (i ^^^ 1) 0 else x.ring) i v } }

/-- The items of a posted write stored. -/
def Dev.ddrStores (d : Dev) (r : Nat) : List (Nat × Int) → Dev
  | [] => d
  | (i, v) :: t => (d.ddrStore r i v).ddrStores r t

/-- The map bits of `n` samples of Contrail channel `c` from sample `s`. -/
def Dev.ctrBits (d : Dev) (c : Nat) (s : Word64) (n : Nat) : List Nat :=
  let l := d.ctrLen
  ((List.range ((n + 3) / 4)).map fun k => c * (l / 4) + (s.toNat + 4 * k) % l / 4)

/-- One map bit written. The rest of a beat that holds an uncorrectable error is taken as zero (R551). -/
def Dev.mapBit (d : Dev) (b : Nat) (v : Bool) : Dev :=
  let x := d.ddr
  let beat := d.itemBeat 1 b
  let m := if kget false x.bad beat then x.map.filter fun e => e.1 / 64 != b / 64 else x.map
  { d with ddr := { x with map := kset false m b v, bad := kset false x.bad beat false } }

/-- Map bits set or cleared, where the map is ready. -/
def Dev.ctrMark (d : Dev) (c : Nat) (s : Word64) (n : Nat) (v : Bool) : Dev :=
  if d.ctrLen = 0 then d
  else if d.regionReady 1 then (d.ctrBits c s n).foldl (fun d b => d.mapBit b v) d
  else d.inc rDDR_UNREADY_CNT

/-- The 64 KiB of the queue of posted writes in use. -/
def Dev.postedBytes (d : Dev) : Nat := (d.ddr.posted.map (·.bytes)).sum

/-- A write is posted: discarded and counted out of service, before its region is ready, or when the queue is full.
True when it waits. -/
def Dev.post (d : Dev) (w : Posted) : Bool × Dev :=
  if !d.ddrIn then (false, d)
  else if !d.regionReady w.region then (false, d.inc rDDR_UNREADY_CNT)
  else if 65536 < d.postedBytes + w.bytes then (false, d.inc rDDR_WR_DROP_CNT)
  else (true, { d with ddr := { d.ddr with posted := d.ddr.posted ++ [w] } })

/-- A posted write completes. -/
def Dev.postedApply (d : Dev) (w : Posted) : Dev :=
  let d := d.ddrStores w.region w.items
  match w.mark with
  | some (c, s) => d.ctrMark c s w.items.length true
  | none => d

/-- POSTED_WRITE_DONE: the oldest posted write completes (R546, R549). -/
def Dev.postedDone (d : Dev) : Dev :=
  match d.ddr.posted with
  | [] => d
  | w :: t => if d.ddrIn then ({ d with ddr := { d.ddr with posted := t } }).postedApply w else d

/-- Every posted write completes, oldest first. -/
def Dev.postedAll (d : Dev) : Dev :=
  let ws := d.ddr.posted
  ws.foldl Dev.postedApply { d with ddr := { d.ddr with posted := [] } }

/-! ## Reads (R547, R549) -/

/-- What waits in the queue for an item, the latest write first. -/
def Dev.queued (d : Dev) (r i : Nat) : Option Int :=
  d.ddr.posted.reverse.findSome? fun w => if w.region = r then (w.items.find? fun x => x.1 == i).map (·.2) else none

/-- An item of external memory: what waits for it in the queue, else what is stored. -/
def Dev.extItem (d : Dev) (r i : Nat) : Int :=
  match d.queued r i with
  | some v => v
  | none => match r with
    | 0 => kget 0 d.ddr.deep i
    | 2 => kget 0 d.ddr.dly i
    | _ => kget 0 d.ddr.ring i

/-- Items read: zero, counted once, before the region is ready. -/
def Dev.extRead (d : Dev) (r : Nat) (is : List Nat) : List Int × Dev :=
  if d.regionReady r then (is.map (d.extItem r), d) else (is.map fun _ => 0, d.inc rDDR_UNREADY_CNT)

/-- The first beat with an uncorrectable error among those of some items, of which no queued write covers it. -/
def Dev.hurtBeat (d : Dev) (r : Nat) (is : List Nat) : Option Nat :=
  if d.regionReady r then
    (is.find? fun i => (d.queued r i).isNone && kget false d.ddr.bad (d.itemBeat r i)).map (d.itemBeat r)
  else none

/-! ## Retries (R38, R550) -/

/-- The number of a reader: 32 768 × bank + entry for a job, 65 536 + context for a deep staging read. -/
def readerTag : DramReader → Nat
  | .job b e => 32768 * b.val + e.val
  | .staging c => 65536 + c.val

/-- The failed attempts of a read set. -/
def Dev.setTries (d : Dev) (tag k : Nat) : Dev := { d with ddr := { d.ddr with tries := kset 0 d.ddr.tries tag k } }

/-- The deadline of a read is reached: a retry of it that waits is cancelled and counted (R38, R550). -/
def Dev.cancelRetry (d : Dev) (tag : Nat) : Dev :=
  if kget 0 d.ddr.tries tag = 0 then d else (d.setTries tag 0).inc rDDR_CANCEL_CNT

/-! ## Contrail accounts (R546) -/

/-- H_c and S_c advance over a block of `n` samples from `s`; its map bits are cleared until its write completes. -/
def Dev.ctrAccount (d : Dev) (c : Nat) (s : Word64) (n : Nat) : Dev :=
  let last := s + BitVec.ofNat 64 n - 1
  let m := match kget none d.ddr.mark c with
    | some (h, s0) => if s = h + 1 then (last, s0) else (last, s)
    | none => (last, s)
  ({ d with ddr := { d.ddr with mark := kset none d.ddr.mark c (some m) } }).ctrMark c s n false

/-- Position `q` of channel `c` is captured. -/
def Dev.captured (d : Dev) (c : Nat) (q : Word64) : Bool :=
  match kget none d.ddr.mark c with
  | some (h, s0) =>
    decide (0 ≤ sdiff64 q s0) && decide (0 ≤ sdiff64 h q) && decide (sdiff64 h q < d.ctrLen) && d.regionReady 1
      && kget false d.ddr.map (c * (d.ctrLen / 4) + q.toNat % d.ctrLen / 4)
  | none => false

/-! ## Enable, training, wipe (R541 to R543, R547) -/

/-- Codes 1 to 3 of Table 23.6. -/
def Dev.ddrCheck (d : Dev) : Nat :=
  let size := d.get fDDR_GEOM_SIZE_GIB
  let r := d.get fDDR_GEOM_RANKS
  let known := if d.on fDDR_GEOM_WIDTH then [(0, 4), (1, 8), (0, 8), (1, 16)] else [(0, 8), (1, 16), (0, 16)]
  if !known.contains (r, size) then 1
  else if 1024 * size - (r + 1) < d.regionStart 4 then 2
  else if !(d.domOn 14 && d.selAct) then 3
  else 0

/-- DDR_ERR captures a code. -/
def Dev.ddrErr (d : Dev) (code : Nat) : Dev := d.capture fDDR_ERR_VALID [(fDDR_ERR_CODE, code)]

/-- The way into service begins: out of self-refresh when the training results still hold, else training in full
(R541, R543). -/
def Dev.ddrStart (d : Dev) : Dev :=
  let keep := d.on fDDR_STS_TRAINED && d.ddr.geom == d.reg rDDR_GEOM
  let d := { d with ddr := { d.ddr with phase := if keep then 3 else 1 } }
  (if keep then d else (d.putB fDDR_STS_TRAINED false).setReg rDDR_READY 0).ddrService false

/-- A write of 1 to DDR_CTL.EN, EN set already (R541). -/
def Dev.ddrEnable (d : Dev) : Dev :=
  match d.ddrCheck with
  | 0 => d.ddrStart
  | code => ((d.putB fDDR_CTL_EN false).ddrErr code).inc rDDR_REFUSE_CNT

/-- A write of 0 to DDR_CTL.EN, EN cleared already: accesses complete and the DRAM enters self-refresh; a training is
abandoned (R553). -/
def Dev.ddrDisable (d : Dev) : Dev :=
  let d := if d.ddr.phase = 1 ∨ d.ddr.phase = 2 then d.putB fDDR_STS_TRAINED false else d.postedAll
  ({ d with ddr := { d.ddr with phase := 0, tries := [] } }).ddrService false

/-- DDRC leaves ON, or ACLK and the controller clock stop (R447, R553). -/
def Dev.ddrLeave (d : Dev) : Dev :=
  let training := d.ddr.phase == 1 || d.ddr.phase == 2
  let d := if training then d.putB fDDR_STS_TRAINED false else d
  ({ d with ddr := { d.ddr with phase := 0 } }).ddrService false

/-- DDRC and the controller clock are back: the memory enters service anew (R543). -/
def Dev.ddrReturn (d : Dev) : Dev :=
  if d.on fDDR_CTL_EN && d.domOn 14 && d.selAct && d.ddr.phase == 0 && !d.ddrIn then d.ddrStart else d

/-- The size that the wipe passes, in MiB: all but the training areas. -/
def Dev.wipeMib (d : Dev) : Nat := 1024 * d.get fDDR_GEOM_SIZE_GIB - d.ddrRanks

/-- DDR_TRAINING_DONE: 0 success, 1 training failed, 2 the address test failed (R542, R543, R552). -/
def Dev.ddrTrained (d : Dev) (result : Nat) : Dev :=
  let ph := d.ddr.phase
  if !(d.on fDDR_CTL_EN && d.domOn 14 && d.selAct) ∨ ph = 0 then d else
  let d := { d with ddr := { d.ddr with phase := 0 } }
  if result ≠ 0 then (d.putB fDDR_STS_TRAINED false).ddrErr (if ph = 2 then 6 else 3 + result)
  else
    let d := { d.putB fDDR_STS_TRAINED true with ddr := { d.ddr with geom := d.reg rDDR_GEOM } }
    if ph = 1 then
      (((d.putB fDDR_STS_WIPE_BUSY true).put fDDR_WIPE_POS_MIB 0).setReg rDDR_READY 0).ddrService d.wipeDone
    else d.ddrService (d.wipeDone || !d.on fDDR_STS_WIPE_BUSY)

/-- The content of region `r` is zero with good ECC. -/
def Dev.wipeRegion (d : Dev) (r : Nat) : Dev :=
  let x := d.ddr
  let lo := d.regionStart r * 2 ^ 17
  let hi := d.regionStart (r + 1) * 2 ^ 17
  let x := { x with bad := x.bad.filter fun b => decide (b.1 < lo ∨ hi ≤ b.1) }
  { d with ddr := match r with
    | 0 => { x with deep := [] }
    | 1 => { x with map := [] }
    | 2 => { x with dly := [] }
    | _ => { x with ring := [] } }

/-- The wipe runs now: in service, or on the way there with WIPE_DONE clear (R547, R517). -/
def Dev.wiping (d : Dev) : Bool :=
  d.on fDDR_STS_WIPE_BUSY && d.on fDDR_CTL_EN && d.ddr.phase == 0 && d.on fDDR_STS_TRAINED && d.domOn 14 && d.selAct

/-- DDR_REGION_READY: the wipe passes the end of the first region that is not ready. -/
def Dev.regionDone (d : Dev) : Dev :=
  if !d.wiping then d else
  match (List.range 4).find? fun r => !d.regionReady r with
  | some r => ((d.wipeRegion r).putB (bitFld rDDR_READY r) true).put fDDR_WIPE_POS_MIB (d.regionStart (r + 1))
  | none => d

/-- DDR_WIPE_DONE: the wipe has passed every address; WIPE_DONE of the life-cycle state is programmed (R517, R547). -/
def Dev.wipeAll (d : Dev) : Dev :=
  if !d.wiping then d else
  let d := d.regionDone.regionDone.regionDone.regionDone
  let d := (d.putB fDDR_STS_WIPE_BUSY false).put fDDR_WIPE_POS_MIB d.wipeMib
  let d := { d with ddr := { d.ddr with bad := [] } }
  if d.wipeDone then d else ({ d with wipeDone := true }).ddrService true

/-! ## Errors (R524, R550, R552) -/

/-- A DRAM error captured: an uncorrectable one replaces a captured correctable one (Table 23.9). -/
def Dev.ddrLog (d : Dev) (ue : Bool) (cls rank beat syndrome : Nat) : Dev :=
  if d.on fDDR_ECC_LOG_VALID && (d.on fDDR_ECC_LOG_UE || !ue) then d
  else d.puts [(fDDR_ECC_LOG_VALID, 1), (fDDR_ECC_LOG_UE, ue.toNat), (fDDR_ECC_LOG_CLASS, cls), (fDDR_ECC_LOG_RANK, rank),
    (fDDR_ECC_LOG_SYNDROME, syndrome), (fDDR_ECC_ADDR_ADDR, beat)]

/-- A read attempt finds an error in a beat: it is counted and logged by its outcome; an uncorrectable one raises
DDR_UE and stays in the beat (R524, R550, R551). -/
def Dev.ddrError (d : Dev) (ue : Bool) (cls rank beat syndrome : Nat) : Dev :=
  let d := d.ddrLog ue cls rank beat syndrome
  if ue then (({ d with ddr := { d.ddr with bad := kset false d.ddr.bad beat true } }).inc rDDR_ECC_UE_CNT).raise 0x1202 0
  else d.inc rDDR_ECC_CE_CNT

/-- DDR_PATROL_READ: the patrol reads beat `beat`; `err` is what it finds, whether uncorrectable and the syndrome
(R524). A beat that holds an uncorrectable error shows it again, with a syndrome that is a free value. -/
def Dev.patrolRead (d : Dev) (rank beat : Nat) (err : Option (Bool × Nat)) : Dev :=
  if !(d.ddrIn && d.on fDDR_CTL_SCRUB_EN) then d else
  match kget false d.ddr.bad beat, err with
  | true, some (_, s) => d.ddrError true 5 rank beat s
  | true, none => d.freeNat.2.ddrError true 5 rank beat (d.freeNat.1 % 256)
  | false, some (ue, s) => d.ddrError ue 5 rank beat s
  | false, none => d

/-- DDR_ALERT: a parity alert; the sixteenth within 1 s sends the memory into a retrain (R552). -/
def Dev.ddrAlert (d : Dev) : Dev :=
  if !(d.on fDDR_CTL_EN && d.domOn 14 && d.selAct) then d else
  let now := d.mono
  let d := d.inc rDDR_ALERT_CNT
  let l := now :: d.ddr.alerts.filter fun t => decide (now - t < 1000000000 * 65536)
  if 16 ≤ l.length ∧ d.ddrIn then
    (({ d with ddr := { d.ddr with alerts := [], phase := 2 } }).inc rDDR_RETRAIN_CNT).ddrService false
  else { d with ddr := { d.ddr with alerts := l.take 15 } }

end Sys2Proof.Machine
end

