-- ==== Sys2Proof/Machine/NetLink.lean ====
section
/-! DEFINITION. The link of a network port, its enable and disable, verification, snapshots and the MDIO
master (R275 to R281, R294 to R299, R314), and the learned unicast table (R328). -/

namespace Sys2Proof.Machine

open Sys2Proof

/-! ## Learned unicast table (R328, Table 13.3) -/

/-- The learned unicast table begins here (Table 1.6); its entries are 16 bytes. -/
def learnBase : Nat := 0x240000

/-- A learned entry. -/
structure Learned where
  valid : Bool
  net : Nat
  static : Bool
  port : Nat
  mac : Nat
  stamp : Nat
  deriving DecidableEq, Repr

/-- A learned entry read from its two words (Table 13.3). -/
def learnedOf (w0 w1 : Nat) : Learned :=
  { valid := w0 / 2 ^ 63 % 2 == 1, net := w0 / 2 ^ 62 % 2, static := w0 / 2 ^ 61 % 2 == 1,
    port := w0 / 2 ^ 56 % 4, mac := w0 % 2 ^ 48, stamp := w1 % 2 ^ 32 }

/-- Learned entry `i`. -/
def Dev.learned (d : Dev) (i : Nat) : Learned :=
  let e := learnedOf (readWord64 d.tbl (learnBase + 16 * i)) (readWord64 d.tbl (learnBase + 16 * i + 8))
  { e with valid := e.valid && !d.tblHurt (learnBase + 16 * i) && !d.tblHurt (learnBase + 16 * i + 8) }

/-- A learned entry written. -/
def Dev.setLearned (d : Dev) (i : Nat) (e : Learned) : Dev :=
  let w0 := e.valid.toNat * 2 ^ 63 + e.net * 2 ^ 62 + e.static.toNat * 2 ^ 61 + e.port * 2 ^ 56 + e.mac
  (d.tblWord (learnBase + 16 * i) w0).tblWord (learnBase + 16 * i + 8) e.stamp

/-- Learned entry `i` removed. -/
def Dev.clearLearned (d : Dev) (i : Nat) : Dev := d.tblClear (learnBase + 16 * i) 2

/-- The indices of the valid entries: their byte 7 holds VALID and is not zero. -/
def Dev.learnedIndices (d : Dev) : List Nat :=
  d.tbl.filterMap fun c =>
    if learnBase ≤ c.1 ∧ c.1 < learnBase + 0x40000 ∧ c.1 % 16 = 7 ∧ 128 ≤ c.2.toNat then some ((c.1 - learnBase) / 16) else none

/-- The dynamic entries that satisfy `p` removed (R328). -/
def Dev.flushLearned (d : Dev) (p : Learned → Bool) : Dev :=
  d.learnedIndices.foldl (fun d i =>
    let e := d.learned i
    if !e.static && p e then d.clearLearned i else d) d

/-! ## Overbooking (R134) -/

/-- The reservation of port `n` fits a rate in kbit/s: at most 75 % of it, as admission has it (R133; DEDUCED, log entry 188). -/
def Dev.resvFits (d : Dev) (n kbps : Nat) : Bool := decide ((d.reg (rSTX_RESV_Pp n)).toNat ≤ kbps * 3 / 4)

/-- The port's STX_OVERBOOK bit. -/
def overbookFld (n : Nat) : Fld := bitFld rSTX_OVERBOOK n

/-- The bit at a link-up: set, and counted, at a running rate below the configured one, and clear at any other, which admission
fits. -/
def Dev.overbookUp (d : Dev) (n : Nat) : Dev :=
  if d.runKbps n < rateKbps (d.get (fNETn_SERDES_CFG_RATE n)) then (d.putB (overbookFld n) true).inc rSTX_OVERBOOK_CNT
  else d.putB (overbookFld n) false

/-- The bit clears when the reservation fits, at a disable. -/
def Dev.overbookCheck (d : Dev) (n : Nat) : Dev :=
  if d.linkUp n && !d.resvFits n (d.runKbps n) then d else d.putB (overbookFld n) false

/-! ## The link falls and rises (R278 to R281) -/

/-- LINK_UP falls: the frame on the wire is aborted unless it may complete, queued frames are discarded, the pause
timer and the hold are cleared (R280, R299, R318). -/
def Dev.linkFall (d : Dev) (n : Nat) (abort : Bool) : Dev :=
  let d := d.cbs n
  let d := match (d.netOf n).wire with
    | some _ => if abort then (d.setNet n { d.netOf n with wire := none }).inc (rNETn_TX_ABORT_CNT n) else d
    | none => d
  let d := ((d.flushPort n).pauseCount n).pauseOver n
  let d := d.setNet n { d.netOf n with assy := none }
  let up := d.linkUp n
  let d := (d.putB (fNETn_STS_LINK_UP n) false).put (fNETn_STS_RUN_RATE n) 0
  let d := d.mmRestart n
  let d := d.putB (overbookFld n) false
  let d := d.ptpPortAll n 2
  let d := d.flushLearned fun e => e.port == n
  if up then (d.inc (rNETn_LINK_DOWN_CNT n)).raise 0x0B01 n else d

/-- A port faulted for DOWN_HOLD_US lowers LINK_UP (R278, R280). `rx` says that a frame was being received. -/
def Dev.linkDown (d : Dev) (n : Nat) (rx : Bool) : Dev :=
  let x := d.netOf n
  if d.linkUp n && x.faulted then
    let d := if rx then d.inc (rNETn_RX_PCS_ERR_CNT n) else d
    let d := if x.assy.isSome then d.inc (rNETn_MM_RX_ASSY_ERR_CNT n) else d
    d.linkFall n true
  else d

/-- The running rate with which a link comes up: the configured one, or for USXGMII and SGMII the speed that the
PHY reports (R274). -/
def Dev.upRate (d : Dev) (n reported : Nat) : Nat :=
  let m := d.get (fNETn_SERDES_CFG_MODE n)
  if m = 2 ∨ m = 4 then reported else d.get (fNETn_SERDES_CFG_RATE n)

/-- The timestamp constants of the running rate loaded (R54, R281). -/
def Dev.loadTsCal (d : Dev) (n rate : Nat) : Dev :=
  let a := 0x38A000 + 0x40 * n + 0x10 * rate
  let w0 := readWord64 d.tbl a
  let w1 := readWord64 d.tbl (a + 8)
  let d := d.setReg (rTIME_NETn_ING_LAT n) (BitVec.ofNat 32 (w0 / 2 ^ 32 % 2 ^ 24))
  let d := d.setReg (rTIME_NETn_EGR_LAT n) (BitVec.ofNat 32 (w0 % 2 ^ 24))
  d.setReg (rTIME_NETn_ASYM n) (BitVec.ofNat 32 w1)

/-- A port free of faults for UP_HOLD_MS raises LINK_UP (R278, R281). A chain port's link that comes up stays
blocked as restoring (R341). -/
def Dev.linkUpNow (d : Dev) (n reported : Nat) : Dev :=
  let rate := d.upRate n reported
  if d.netOn n && !d.linkUp n && !(d.netOf n).faulted && (modeRates (d.get (fNETn_SERDES_CFG_MODE n))).contains rate then
    let d := (d.putB (fNETn_STS_LINK_UP n) true).put (fNETn_STS_RUN_RATE n) rate
    let d := d.loadTsCal n rate
    let d := d.overbookUp n
    let d := d.ptpPortAll n 4
    let d := d.mmRestart n
    let d := if d.role n = 2 then d.setMioPort n { d.mioPort n with lost := false, restoring := true } else d
    d.raise 0x0B01 n
  else d

/-- The status bits of port `n` as its fault conditions stand (R275, R279). -/
def Dev.showFaults (d : Dev) (n : Nat) : Dev :=
  let x := d.netOf n
  let remote := match d.get (fNETn_SERDES_CFG_MODE n) with
    | 3 => d.on (fNETn_SERDES_CFG_AN_EN n) && x.rf
    | 4 => x.linkBit
    | _ => x.remoteF
  ((((d.putB (fNETn_STS_PCS_LOCK n) !x.pcs).putB (fNETn_STS_LOCAL_FAULT n) (x.pcs || x.localF)).putB
    (fNETn_STS_REMOTE_FAULT n) remote).putB (fNETn_STS_HDX n) x.hdx).putB (fNETn_STS_RATE_ERR n) x.rateErr

/-- A fault condition begins or ends on a port of mode `m` with auto-negotiation `an`: loss of block lock or synchronisation,
a local or a remote fault sequence, in-band link bit 0, Clause 37 not complete, half duplex, an unsupported speed (R275,
R278). The fault sequences are Clause 46's, the in-band bit a control word's, and Clause 37 is MODE 3's (Table 11.1). -/
def NetSt.fault (x : NetSt) (m : Nat) (an on : Bool) : PortFault → NetSt
  | .pcs => { x with pcs := on }
  | .localFault => if m ≤ 2 then { x with localF := on } else x
  | .remoteFault => if m ≤ 2 then { x with remoteF := on } else x
  | .linkBit => if m = 2 ∨ m = 4 then { x with linkBit := on } else x
  | .autoNeg r => if m = 3 ∧ an then { x with an := on, rf := r } else x
  | .halfDuplex => { x with hdx := on }
  | .badRate => { x with rateErr := on }

/-- A fault condition of port `n` begins, or ends. -/
def Dev.portFault (d : Dev) (n : Nat) (on : Bool) (c : PortFault) : Dev :=
  d.setNet n ((d.netOf n).fault (d.get (fNETn_SERDES_CFG_MODE n)) (d.on (fNETn_SERDES_CFG_AN_EN n)) on c)

/-- PORT_FAULTED: a fault condition begins (R278). -/
def Dev.portFaulted (d : Dev) (n : Nat) (c : PortFault) : Dev :=
  if d.netOn n then (d.portFault n true c).showFaults n else d

/-- PORT_FAULT_CLEARED: fault conditions end; each status bit clears with its own (R275, R279), and with the last one the port
is free of faults (R278). -/
def Dev.portFaultCleared (d : Dev) (n : Nat) (ended : List PortFault) : Dev :=
  if d.netOn n then (ended.foldl (fun d c => d.portFault n false c) d).showFaults n else d

/-- What a faulted port sends its partner (Table 11.3). -/
inductive FaultSignal where
  | none | remoteFault | idle | rfOffline | acknowledged
  /-- the transmitter is at electrical idle (R299) -/
  | electricalIdle
  deriving DecidableEq, Repr

/-- The signal port `n` sends now; a port that is disabled is at electrical idle once its last frame has left (R299). -/
def Dev.faultSignal (d : Dev) (n : Nat) : FaultSignal :=
  let x := d.netOf n
  if !d.netOn n then (if x.wire.isSome then .none else .electricalIdle) else
  match d.get (fNETn_SERDES_CFG_MODE n) with
  | 1 | 2 => if x.localF || x.pcs then .remoteFault else if x.remoteF then .idle else .none
  | 3 => if d.on (fNETn_SERDES_CFG_AN_EN n) then (if x.hdx then .rfOffline else .none) else (if x.faulted then .idle else .none)
  | 4 => if x.linkBit then .acknowledged else .none
  | _ => .none

/-! ## Enable and disable (R277, R299) -/

/-- The refusal code of a port enable, 0 when it is accepted (Table 11.2). -/
def Dev.netCheck (d : Dev) (n : Nat) : Nat :=
  let m := d.get (fNETn_SERDES_CFG_MODE n)
  if m = 0 ∨ 5 ≤ m then 1
  else if !(modeRates m).contains (d.get (fNETn_SERDES_CFG_RATE n)) then 2
  else if d.macAddr n = 0 ∨ isGroup (d.macAddr n) then 3
  else if !d.domOn (9 + n) then 4
  else 0

/-- NETn_MAC_CFG.EN goes from 0 to 1 (R277): the port starts with its PCS not yet locked, and with Clause 37 not complete where it
is to run (R278). -/
def Dev.netEnable (d : Dev) (n : Nat) : Dev :=
  let code := d.netCheck n
  if code = 0 then
    let d := (d.putB (fNETn_STS_CFG_ERR n) false).put (fNETn_STS_ERR_CODE n) 0
    let an := d.get (fNETn_SERDES_CFG_MODE n) == 3 && d.on (fNETn_SERDES_CFG_AN_EN n)
    let d := d.setNet n { wire := (d.netOf n).wire, creditAt := d.mono, cfg := d.netCfg n, an := an }
    let d := (d.putB (fNETn_STS_PCS_LOCK n) false).putB (fNETn_STS_LOCAL_FAULT n) true
    d.mmRestart n
  else
    let d := d.putB (fNETn_MAC_CFG_EN n) false
    ((d.putB (fNETn_STS_CFG_ERR n) true).put (fNETn_STS_ERR_CODE n) code).inc rNET_REFUSE_CNT

/-- NETn_MAC_CFG.EN goes from 1 to 0 (R299): the frame on the wire completes, what waits is discarded and counted,
LINK_UP falls. -/
def Dev.netDisable (d : Dev) (n : Nat) : Dev :=
  let d := d.linkFall n false
  d.puts [(fNETn_STS_PCS_LOCK n, 0), (fNETn_STS_LOCAL_FAULT n, 0), (fNETn_STS_REMOTE_FAULT n, 0), (fNETn_STS_HDX n, 0),
    (fNETn_STS_RATE_ERR n, 0)]

/-! ## Verification (R314) -/

/-- A packet of the MAC merge sublayer received: `act` while PE_EN = 1; while it is 0, its start delimiter is not that of an
express frame, so it is discarded and counted (R315). -/
def Dev.mmReceive (d : Dev) (n : Nat) (act : Dev → Dev) : Dev :=
  if !(d.netOn n && d.linkUp n) then d
  else if d.on (fNETn_MM_CFG_PE_EN n) then act d
  else d.inc (rNETn_MM_RX_SMD_ERR_CNT n)

/-- A verify packet received is answered. -/
def Dev.verifyFrame (d : Dev) (n : Nat) : Dev := d.mmReceive n fun d => d.mmPacket n .respond

/-- A respond packet received: verification in progress succeeds. -/
def Dev.respondFrame (d : Dev) (n : Nat) : Dev :=
  d.mmReceive n fun d =>
    if d.get (fNETn_MM_STS_VERIFY n) = 2 then (d.put (fNETn_MM_STS_VERIFY n) 3).putB (fNETn_MM_STS_ACTIVE n) true else d

/-- VERIFY_MS passes without a respond packet: another attempt, or after the third FAILED. -/
def Dev.verifyTimeout (d : Dev) (n : Nat) : Dev :=
  let x := d.netOf n
  if d.linkUp n && d.get (fNETn_MM_STS_VERIFY n) == 2 then
    if x.tries < 3 then (d.setNet n { x with tries := x.tries + 1 }).mmPacket n .verify
    else (d.put (fNETn_MM_STS_VERIFY n) 4).inc (rNETn_MM_VERIFY_FAIL_CNT n)
  else d

/-! ## Snapshots (R294, R295) -/

/-- The live counter offsets of Table 11.5. -/
def liveOffsets : List Nat :=
  ((List.range 34).map fun k => 0x200 + 4 * k) ++ (List.range 15).map fun k => 0x2A0 + 4 * k

/-- The addresses of every live counter of every port. -/
def liveCounters : List Nat := (List.range 4).flatMap fun n => liveOffsets.map fun o => 0x0E0000 + 0x1000 * n + o

/-- A snapshot starts: every counter is copied, and cleared with CLR. -/
def Dev.snapStart (d : Dev) (clr : Bool) : Dev :=
  let copies := liveCounters.map fun a => (a + 0x100, d.reg a)
  let d := { d with snap := some { copies := copies, ft := d.ft64 } }
  let d := if clr then liveCounters.foldl (fun d a => d.setReg a 0) d else d
  d.putB fNET_SNAP_STS_BUSY true

/-- SNAP written 1 (R294, R295): taken, held one deep, or counted. -/
def Dev.netSnap (d : Dev) : Dev :=
  let clr := d.on fNET_SNAP_CMD_CLR
  match d.snap, d.snapHeld with
  | none, _ => d.snapStart clr
  | some _, none => ({ d with snapHeld := some clr }).putB fNET_SNAP_STS_QUEUED true
  | some _, some _ => d.inc rNET_SNAP_OVF_CNT

/-- The snapshot in progress completes; one that is held runs next. -/
def Dev.snapDone (d : Dev) : Dev :=
  match d.snap with
  | none => d
  | some s =>
    let d := s.copies.foldl (fun d p => d.setReg p.1 p.2) d
    let d := d.setPair rNET_SNAP_FT64_H rNET_SNAP_FT64_L s.ft.toNat
    let d := (d.put fNET_SNAP_STS_SEQ (d.get fNET_SNAP_STS_SEQ + 1)).putB fNET_SNAP_STS_BUSY false
    match d.snapHeld with
    | some clr => ({ d with snapHeld := none }).putB fNET_SNAP_STS_QUEUED false |>.snapStart clr
    | none => { d with snap := none }

/-! ## MDIO (R296 to R298) -/

/-- A command written with a non-zero OP while no transaction runs (R297). The fields of the command have been
stored; OP reads 0 once it is accepted. -/
def Dev.mdioStart (d : Dev) (op : Nat) : Dev :=
  if op = 0 ∨ 7 ≤ op then d else
  let m : Mdio := { op := op, prtad := d.get fNET_MDIO_CMD_PRTAD, devad := d.get fNET_MDIO_CMD_DEVAD,
                    addr := d.get fNET_MDIO_ADDR_ADDR, data := d.get fNET_MDIO_CMD_DATA }
  (({ d with mdio := some m }).putB fNET_MDIO_STS_BUSY true).putB fNET_MDIO_STS_NO_RESP false

/-- MDC cycles a transaction lasts: 64 a frame with preamble, 32 without; two frames where an address frame leads
(R297, Table 11.6). -/
def Dev.mdioCycles (d : Dev) (op : Nat) : Nat :=
  (if op = 3 ∨ op = 4 then 2 else 1) * (if d.on fNET_MDIO_CFG_NO_PRE then 32 else 64)

/-- CCLK cycles of 800 MHz to one MDC cycle (R296). -/
def Dev.mdcDivide (d : Dev) : Nat := 2 * (max 31 (d.get fNET_MDIO_CFG_DIV) + 1)

/-- The last frame of the transaction ends (R298): a read gives what was sampled, or NO_RESP when the second
turnaround bit was not driven low. -/
def Dev.mdioDone (d : Dev) (resp : Bool) (v : BitVec 16) : Dev :=
  match d.mdio with
  | none => d
  | some m =>
    let d := ({ d with mdio := none }).putB fNET_MDIO_STS_BUSY false
    if m.op = 2 ∨ m.op = 4 ∨ m.op = 5 then
      if resp then d.put fNET_MDIO_STS_RDATA v.toNat
      else (d.putB fNET_MDIO_STS_NO_RESP true).put fNET_MDIO_STS_RDATA 0xFFFF
    else d

end Sys2Proof.Machine
end

