-- ==== Sys2Proof/Machine/Mio.lean ====
section
/-! DEFINITION. The Miodal fabric program (R324, R325, R331 to R341, R347): frames, topology, routes, FNIDs, rings
and break points, and the table commands (R330). -/

namespace Sys2Proof.Machine

open Sys2Proof

/-! ## Networks and names -/

/-- The fabric runs. -/
def Dev.mioOn (d : Dev) : Bool := d.on fMIO_CFG_EN && d.domOn 1

/-- Network `k`: A is 0, with P0 and P1; B is 1, with P2 and P3. -/
def Dev.mioNet (d : Dev) (k : Nat) : MioNet := kget {} d.mio.nets k

/-- The device with a network's program data replaced. -/
def Dev.setMioNet (d : Dev) (k : Nat) (x : MioNet) : Dev := { d with mio := { d.mio with nets := kset {} d.mio.nets k x } }

/-- The other port of a port's network. -/
def otherPort (p : Nat) : Nat := if p % 2 = 0 then p + 1 else p - 1

/-- The FNID in use; 0 while there is none. -/
def Dev.fnid (d : Dev) : Nat := d.get fMIO_FNID_FNID

/-- PAIR_FNID. -/
def Dev.pairFnid (d : Dev) : Nat := d.get fMIO_FNID_CFG_PAIR_FNID

/-- The unit applies the active column of Table 15.1 (R382): it is active, or it is not paired. -/
def Dev.haloFront (d : Dev) : Bool := d.halo.act || d.pairFnid == 0

/-- The FNID that the node holds or claims, and whether it is a claim. -/
def Dev.heldFnid (d : Dev) : Nat :=
  if d.get fMIO_STS_FNID_STATE = 2 then d.mio.claim else d.fnid

/-- SEG_OVER, RING and BREAK of network `k` (Table 13.12). -/
def fSegOver (k : Nat) : Fld := bitFld rMIO_STS (5 + k)
def fRing (k : Nat) : Fld := bitFld rMIO_STS (1 + k)
def fBreak (k : Nat) : Fld := bitFld rMIO_STS (3 + k)

/-! ## Frames (R331, Table 13.4) -/

/-- The Miodal group address. -/
def mioGroup : Nat := 0x0B594D000001

/-- A Miodal frame as port `p` sends it. -/
def Dev.mioFrame (d : Dev) (p dst sub hops flags origin originMac dest seq : Nat) (body : List Byte) : List Byte :=
  beBytes 6 dst ++ beBytes 6 (d.macAddr p) ++ beBytes 2 0x88B5 ++ [BitVec.ofNat 8 (0x10 + sub), BitVec.ofNat 8 hops]
    ++ beBytes 2 (flags % 16 * 4096 + origin % 4096) ++ beBytes 6 originMac ++ beBytes 2 dest ++ beBytes 2 seq ++ body

/-- The header of a Miodal frame read from its bytes. -/
structure MioHead where
  version : Nat
  sub : Nat
  hops : Nat
  flags : Nat
  origin : Nat
  mac : Nat
  dest : Nat
  seq : Nat
  deriving DecidableEq, Repr

/-- The header of a Miodal frame. -/
def mioHead (bs : List Byte) : MioHead :=
  { version := beAt bs 14 1 / 16, sub := beAt bs 14 1 % 16, hops := beAt bs 15 1, flags := beAt bs 16 2 / 4096,
    origin := beAt bs 16 2 % 4096, mac := beAt bs 18 6, dest := beAt bs 24 2, seq := beAt bs 26 2 }

/-- The body of a Miodal frame. -/
def mioBody (bs : List Byte) : List Byte := bs.drop 28

/-- A version or subtype that R331 refuses. -/
def mioBad (bs : List Byte) : Bool :=
  let h := mioHead bs
  h.version != 1 || h.sub == 0 || 4 < h.sub

/-- A Miodal frame of the device in class 7 of port `p`, where the port is a chain port. -/
def Dev.mioSend (d : Dev) (p : Nat) (bs : List Byte) : Dev :=
  if d.role p = 2 then (d.originate p 7 { bytes := bs }).2 else d

/-- The DISC flags of this node: CLAIM, CONFIGURED, ACTIVE, BREAK in bits 3 to 0. -/
def Dev.discFlags (d : Dev) (k : Nat) : Nat :=
  (if d.get fMIO_STS_FNID_STATE = 2 then 8 else 0) + (if d.on fMIO_FNID_CFG_MODE then 0 else 4)
    + (if d.haloFront then 2 else 0) + (if d.on (fBreak k) then 1 else 0)

/-- The DISC body: network, sending port, PAIR_FNID, break port (log entry 37). -/
def Dev.discBody (d : Dev) (p : Nat) : List Byte :=
  beBytes 1 (p / 2) ++ beBytes 1 p ++ beBytes 2 d.pairFnid
    ++ beBytes 1 (if d.on (fBreak (p / 2)) then 2 * (p / 2) + 1 else 0xFF)

/-- A DISC of this node on port `p` (R332). -/
def Dev.sendDisc (d : Dev) (p : Nat) : Dev :=
  if d.refDown 1 then d else
  d.mioSend p (d.mioFrame p mioGroup 1 127 (d.discFlags (p / 2)) d.heldFnid (d.macAddr 0) 0 d.mio.seqDisc (d.discBody p))

/-- A DISC on each chain port, with the next sequence number. -/
def Dev.sendDiscs (d : Dev) : Dev :=
  let d := (List.range 4).foldl (fun d p => d.sendDisc p) d
  { d with mio := { d.mio with seqDisc := (d.mio.seqDisc + 1) % 65536 } }

/-- The DISC period elapses (R332). -/
def Dev.discPeriod (d : Dev) : Dev := if d.mioOn then (d.rqlOffer 0x0C81 0).sendDiscs else d

/-- The PROBE period elapses: a PROBE on each chain port (R332). -/
def Dev.probePeriod (d : Dev) : Dev :=
  if d.mioOn then
    let d := (List.range 4).foldl (fun d p =>
      d.mioSend p (d.mioFrame p mioGroup 2 0 0 d.heldFnid (d.macAddr 0) 0 d.mio.seqProbe [])) d
    { d with mio := { d.mio with seqProbe := (d.mio.seqProbe + 1) % 65536 } }
  else d

/-- A TOPO of this node on both ports of network `k`, chain or edge: kind 1 LINK_DOWN, 2 BREAK_SET, and the link's two ends. The
dynamic entries of the network are flushed (R328, R332). -/
def Dev.sendTopo (d : Dev) (k kind : Nat) (a b : Nat × Nat) : Dev :=
  if d.refDown 1 then d else
  let body := beBytes 1 kind ++ beBytes 2 a.1 ++ beBytes 1 a.2 ++ beBytes 2 b.1 ++ beBytes 1 b.2
  let send := fun (d : Dev) (p : Nat) =>
    (d.originate p 7 { bytes := d.mioFrame p mioGroup 3 127 0 d.heldFnid (d.macAddr 0) 0 d.mio.seqTopo body }).2
  let d := send (send d (2 * k)) (2 * k + 1)
  let d := { d with mio := { d.mio with seqTopo := (d.mio.seqTopo + 1) % 65536 } }
  d.flushLearned fun e => e.net == k

/-! ## Blocking (R324) -/

/-- A chain port's causes changed; a port that becomes blocked flushes its dynamic entries (R328). -/
def Dev.putMioPort (d : Dev) (p : Nat) (x : MioPort) : Dev :=
  let was := d.blocked p
  let d := d.setMioPort p x
  if !was && d.blocked p then d.flushLearned fun e => e.port == p else d

/-! ## Node routes (R334) -/

/-- The node route table begins here (Table 1.6). -/
def routeBase : Nat := 0x280000

/-- A node route entry (Table 13.3). -/
structure Route where
  valid : Bool
  static : Bool
  net : Nat
  port : Nat
  hops : Nat
  mac : Nat
  deriving DecidableEq, Repr

/-- The route entry of an FNID. -/
def Dev.route (d : Dev) (f : Nat) : Route :=
  let w := readWord64 d.tbl (routeBase + 8 * f)
  { valid := w / 2 ^ 63 % 2 == 1 && !d.tblHurt (routeBase + 8 * f), static := w / 2 ^ 62 % 2 == 1, net := w / 2 ^ 61 % 2, port := w / 2 ^ 56 % 4,
    hops := w / 2 ^ 48 % 256, mac := w % 2 ^ 48 }

/-- A route entry that is not static written, or made invalid. -/
def Dev.setRoute (d : Dev) (f : Nat) (r : Option Route) : Dev :=
  if (d.route f).static ∧ (d.route f).valid then d else
  match r with
  | some r =>
    let w := 2 ^ 63 + r.static.toNat * 2 ^ 62 + r.net * 2 ^ 61 + r.port * 2 ^ 56 + r.hops * 2 ^ 48 + r.mac
    d.tblWord (routeBase + 8 * f) w
  | none => d.tblClear (routeBase + 8 * f) 1

/-- The ways to an FNID that the databases show: a node that holds it, or for a pair FNID the unit whose DISC carries
ACTIVE. HOPS received 127 is distance 1. -/
def Dev.waysTo (d : Dev) (f : Nat) : List Route :=
  (List.range 2).flatMap fun k =>
    (d.mioNet k).nodes.flatMap fun x =>
      let hit := (x.fnid == f && x.flags / 8 % 2 == 0) || (x.pair == f && x.flags / 2 % 2 == 1)
      if hit then
        let way : Nat → Option (Nat × Nat) → List Route := fun p o => o.toList.map fun hm =>
          { valid := true, static := false, net := k, port := p, hops := 128 - hm.1, mac := hm.2 }
        way (2 * k) x.lo ++ way (2 * k + 1) x.hi
      else []

/-- The nearest of a list of ways; equal distances go to the lower port. -/
def nearest : List Route → Option Route
  | [] => none
  | r :: t =>
    match nearest t with
    | none => some r
    | some s => if s.hops < r.hops ∨ (s.hops = r.hops ∧ s.port < r.port) then some s else some r

/-- The route to an FNID derived again from the databases (R334). -/
def Dev.deriveRoute (d : Dev) (f : Nat) : Dev :=
  if f = 0 ∨ 4095 ≤ f then d else d.setRoute f (nearest (d.waysTo f))

/-! ## FNIDs (R336, R337) -/

/-- FNIDs that nodes of either database hold or claim, and the pair FNIDs known. -/
def Dev.fnidsTaken (d : Dev) : List Nat :=
  d.pairFnid :: (List.range 2).flatMap fun k => (d.mioNet k).nodes.flatMap fun x => [x.fnid, x.pair]

/-- The first FNID from `f` on that is free, within the 12-bit space below 4095. -/
def firstFree (taken : List Nat) : Nat → Nat → Option Nat
  | _, 0 => none
  | f, fuel + 1 => if 4095 ≤ f then none else if f ∈ taken then firstFree taken (f + 1) fuel else some f

/-- The node chooses an FNID and enters CLAIM (R336); with none free it stays without one. -/
def Dev.claimFnid (d : Dev) : Dev :=
  let d := d.put fMIO_FNID_FNID 0
  match firstFree d.fnidsTaken (max 1 (d.get fMIO_FNID_CFG_CFG_FNID)) 4096 with
  | some f => ({ d with mio := { d.mio with claim := f } }).put fMIO_STS_FNID_STATE 2
  | none => d.put fMIO_STS_FNID_STATE 1

/-- LISTEN ends (R336). -/
def Dev.fnidListenEnd (d : Dev) : Dev :=
  if d.mioOn && !d.refDown 1 && d.get fMIO_STS_FNID_STATE == 1 then d.claimFnid else d

/-- CLAIM ends without conflict (R336). -/
def Dev.fnidClaimEnd (d : Dev) : Dev :=
  if d.mioOn && !d.refDown 1 && d.get fMIO_STS_FNID_STATE == 2 then (d.put fMIO_FNID_FNID d.mio.claim).put fMIO_STS_FNID_STATE 3 else d

/-- A DISC of another node carries the FNID this node holds or claims (R337, Table 13.6). -/
def Dev.fnidConflict (d : Dev) (h : MioHead) : Dev :=
  let mine := d.heldFnid
  if mine = 0 ∨ h.origin ≠ mine then d else
  let conf := !d.on fMIO_FNID_CFG_MODE
  let otherConf := h.flags / 4 % 2 == 1
  let keep := if conf = otherConf then decide (d.macAddr 0 < h.mac) else conf
  if keep then d
  else if conf then
    let d := (d.put fMIO_FNID_FNID 0).put fMIO_STS_FNID_STATE 4
    ((d.putB fMIO_STS_FNID_CONFLICT true).inc rMIO_FNID_CONF_CNT).raise 0x0C01 0
  else (d.inc rMIO_FNID_CONF_CNT).claimFnid

/-! ## Rings and the break point (R339 to R341) -/

/-- This node's own FNID is the lowest on the ring of network `k`. -/
def Dev.lowestOf (d : Dev) (k : Nat) : Nat :=
  ((d.mioNet k).nodes.filterMap fun x => if x.fnid = 0 ∨ x.flags / 8 % 2 = 1 then none else some x.fnid).foldl min
    (if d.fnid = 0 then 4096 else d.fnid)

/-- The link at port `p`: this node's end and the far end as its DISC names it. -/
def Dev.linkAt (d : Dev) (p : Nat) : (Nat × Nat) × (Nat × Nat) :=
  ((d.heldFnid, p), ((d.mioPort p).far).getD (0, 0))

/-- The node's own DISC came back on network `k`: the ring is detected, and its break owner found. The owner blocks
its higher port first and then sends BREAK_SET (R339, R341). -/
def Dev.ringSeen (d : Dev) (k : Nat) : Dev :=
  let d := d.putB (fRing k) true
  let low := d.lowestOf k
  let reg := if k = 0 then rMIO_RING_A else rMIO_RING_B
  let d := d.setReg reg (BitVec.ofNat 32 (low % 4096 * 65536 + ((d.mioNet k).nodes.length + 1) % 256))
  let p := 2 * k + 1
  if d.fnid ≠ 0 ∧ low = d.fnid then
    if d.on (fBreak k) then d else
    let d := (d.putB (fBreak k) true).putMioPort p { d.mioPort p with brk := true, restoring := false }
    d.sendTopo k 2 (d.linkAt p).1 (d.linkAt p).2
  else if d.on (fBreak k) then (d.putB (fBreak k) false).putMioPort p { d.mioPort p with brk := false }
  else d

/-- The break block of network `k` released, as owner or neighbour, and counted (R340). A port that is lost needs no release: it
gives the block up and stays blocked (Table 13.8). -/
def Dev.releaseBreak (d : Dev) (k : Nat) : Dev :=
  let d := d.putB (fBreak k) false
  let free := fun (d : Dev) (p : Nat) =>
    let x := d.mioPort p
    if !x.brk then d
    else
      let d := d.putMioPort p { x with brk := false }
      if x.lost then d else d.inc rMIO_BREAK_MOVE_CNT
  free (free d (2 * k)) (2 * k + 1)

/-! ## Receiving DISC (R325, R334, R335, R337, R339) -/

/-- A node's database entry after a DISC on the lower or higher port. -/
def MioNode.heard (x : MioNode) (h : MioHead) (pair : Nat) (p src : Nat) : MioNode :=
  let x := { x with fnid := h.origin, flags := h.flags, pair := pair, seq := h.seq }
  if p % 2 = 0 then { x with lo := some (h.hops, src) } else { x with hi := some (h.hops, src) }

/-- A received DISC or TOPO forwarded on the other chain port of the network with one hop fewer (Table 13.5, log entry 189); only
a DISC stops where HOPS arrives as 0. -/
def Dev.forwardMio (d : Dev) (p : Nat) (bs : List Byte) : Dev :=
  let q := otherPort p
  let h := mioHead bs
  if h.sub = 1 ∧ h.hops = 0 then d else
  d.mioSend q (d.mioFrame q mioGroup h.sub (h.hops - 1) h.flags h.origin h.mac h.dest h.seq (mioBody bs))

/-- A port on which a DISC has arrived: it has a peer, and one that was lost hears again, so it is restoring, or stays the break
(R325, R341). -/
def MioPort.heard (x : MioPort) : MioPort :=
  { x with peer := true, noPeer := false, restoring := x.restoring || (x.lost && !x.brk), lost := false }

/-- A DISC from another node taken into the database of network `k`, with its routes, conflict and break rules. The database holds
128 nodes with this one; the DISC of one more is discarded and does nothing else (R335). -/
def Dev.discNode (d : Dev) (p : Nat) (bs : List Byte) : Dev :=
  let h := mioHead bs
  let b := mioBody bs
  let k := p / 2
  let sport := beAt b 1 1
  let pair := beAt b 2 2 % 4096
  let brk := beAt b 4 1
  let net := d.mioNet k
  let x := d.mioPort p
  let was := x
  let x := x.heard
  let direct := h.hops == 127
  let x := if direct then { x with far := some (h.origin, sport) } else x
  let named := direct && h.flags % 2 == 1 && brk == sport
  let x := if named then { x with brk := true, restoring := false }
           else if direct && x.brk && !d.on (fBreak k) then { x with brk := false } else x
  match net.nodes.find? fun n => n.mac == h.mac with
  | none =>
    if 127 ≤ net.nodes.length then
      ((d.inc rMIO_TOPO_OVF_CNT).putB (fSegOver k) true).putMioPort p { was with segOver := true }
    else
      let n : MioNode := { fnid := h.origin, mac := h.mac }
      let d := (d.putMioPort p x).setMioNet k { net with nodes := net.nodes ++ [n.heard h pair p (srcOf bs)] }
      ((d.fnidConflict h).deriveRoute h.origin |>.deriveRoute pair).forwardMio p bs
  | some o =>
    let nodes := net.nodes.map fun n => if n.mac = h.mac then n.heard h pair p (srcOf bs) else n
    let d := (d.putMioPort p x).setMioNet k { net with nodes := nodes }
    let d := ((d.fnidConflict h).deriveRoute h.origin).deriveRoute pair
    let d := if o.fnid = h.origin then d else d.deriveRoute o.fnid
    let d := if o.pair = pair then d else d.deriveRoute o.pair
    d.forwardMio p bs

/-- DISC_RECEIVE: the oldest DISC handed over is taken. The node's own is discarded, and tells of a ring when it
returns on the port opposite the one it left by (R332, R339). -/
def Dev.discReceive (d : Dev) : Dev :=
  match d.take fun h => h.sink == .disc with
  | (none, d) => d
  | (some f, d) =>
    if !d.mioOn then d else
    let d := d.rqlOffer 0x0C80 f.port.val
    if d.refDown 1 then d else
    let h := mioHead f.bytes
    if h.mac = d.macAddr 0 then
      let x := d.mioPort f.port.val
      let d := d.putMioPort f.port.val x.heard
      if beAt (mioBody f.bytes) 1 1 = otherPort f.port.val then d.ringSeen (f.port.val / 2) else d
    else d.discNode f.port.val f.bytes

/-- PROBE_RECEIVE: the oldest PROBE handed over is taken. It keeps its port from declaring loss, which is the
absence of CHAIN_PORT_LOSS (R333), and is never forwarded. -/
def Dev.probeReceive (d : Dev) : Dev :=
  match d.take fun h => h.sink == .probe with
  | (some h, d) => if d.mioOn then d.rqlOffer 0x0C80 h.port.val else d
  | (none, d) => d

/-! ## Loss, TOPO and the timers -/

/-- A chain port declares loss (R333), a restoring one too: blocked as lost, counted, TOPO LINK_DOWN sent; the node's own break block on
the network goes with it, since the failed link is now the break (log entry 38). -/
def Dev.chainPortLoss (d : Dev) (p : Nat) : Dev :=
  let x := d.mioPort p
  if d.mioOn && d.role p == 2 && !x.lost then
    let link := d.linkAt p
    let d := (d.putMioPort p { x with lost := true, restoring := false, peer := false }).inc (rMIO_LINK_LOSS_Pp_CNT p)
    let d := d.sendTopo (p / 2) 1 link.1 link.2
    d.releaseBreak (p / 2)
  else d

/-- The link a TOPO body names. -/
def topoLink (b : List Byte) : (Nat × Nat) × (Nat × Nat) :=
  ((beAt b 1 2 % 4096, beAt b 3 1), (beAt b 4 2 % 4096, beAt b 6 1))

/-- The link named by a TOPO ends at port `p` of this node. -/
def Dev.endsAt (d : Dev) (l : (Nat × Nat) × (Nat × Nat)) (p : Nat) : Bool :=
  let me := (d.heldFnid, p)
  d.heldFnid != 0 && (l.1 == me || l.2 == me)

/-- A TOPO that arrived on port `p`: the network's dynamic entries flushed, and, once for its ORIGIN and SEQ, `act` on the network
and the link, and the frame forwarded (R328, R332). -/
def Dev.topoSeen (d : Dev) (p : Nat) (bs : List Byte) (act : Dev → Nat → (Nat × Nat) × (Nat × Nat) → Dev) : Dev :=
  let h := mioHead bs
  let k := p / 2
  let net := d.mioNet k
  let d := if d.mioOn then d.rqlOffer 0x0C80 p else d
  if !d.mioOn || d.refDown 1 then d else
  let d := d.flushLearned fun e => e.net == k
  if h.mac == d.macAddr 0 || net.topos.contains (h.origin, h.seq) then d else
  let d := d.setMioNet k { net with topos := ((h.origin, h.seq) :: net.topos).take 256 }
  (act d k (topoLink (mioBody bs))).forwardMio p bs

/-- The kind of a TOPO: 1 LINK_DOWN, 2 BREAK_SET. -/
def topoKind (bs : List Byte) : Nat := beAt (mioBody bs) 0 1

/-- The oldest TOPO of a kind taken from those handed over. -/
def Dev.topoTake (d : Dev) (kind : Nat) (act : Dev → Nat → (Nat × Nat) × (Nat × Nat) → Dev) : Dev :=
  match d.take fun h => h.sink == .topo && topoKind h.bytes == kind with
  | (none, d) => d
  | (some f, d) => d.topoSeen f.port.val f.bytes act

/-- TOPO LINK_DOWN (R333, R340): a node that ends the link blocks its port as lost; the break owner and its neighbour
release the break block, but for a port of the link itself (Table 13.8). -/
def Dev.topoLinkDown (d : Dev) : Dev :=
  d.topoTake 1 fun d k l =>
    match [2 * k, 2 * k + 1].find? fun p => d.role p == 2 && d.endsAt l p with
    | some p => (d.putMioPort p { d.mioPort p with lost := true, restoring := false, peer := false }).releaseBreak k
    | none => d.releaseBreak k

/-- TOPO BREAK_SET (R341): restoring links that it does not name are released; the link it names stays blocked as the
break. -/
def Dev.topoBreakSet (d : Dev) : Dev :=
  d.topoTake 2 fun d k l =>
    [2 * k, 2 * k + 1].foldl (fun d p =>
      let x := d.mioPort p
      if d.role p ≠ 2 then d
      else if d.endsAt l p then d.putMioPort p { x with brk := true, restoring := false }
      else if x.restoring then d.putMioPort p { x with restoring := false }
      else d) d

/-- A restoring link is released as part of a chain after 30 ms (R341). -/
def Dev.restoreTimeout (d : Dev) (p : Nat) : Dev :=
  let x := d.mioPort p
  if d.mioOn && !d.refDown 1 && d.role p == 2 && x.restoring then d.putMioPort p { x with restoring := false } else d

/-- A chain port whose link is up hears no DISC for 30 ms (R325). -/
def Dev.noPeerTimeout (d : Dev) (p : Nat) : Dev :=
  if d.mioOn && d.role p == 2 && d.linkUp p then d.putMioPort p { d.mioPort p with peer := false, noPeer := true } else d

/-- A node not seen for 30 ms leaves the database of network `k` (R334). -/
def Dev.nodeTimeout (d : Dev) (k mac : Nat) : Dev :=
  if d.refDown 1 then d else
  let net := d.mioNet k
  match net.nodes.find? fun n => n.mac == mac with
  | some o =>
    let d := d.setMioNet k { net with nodes := net.nodes.filter fun n => n.mac != mac }
    (d.deriveRoute o.fnid).deriveRoute o.pair
  | none => d

/-- No own DISC returns for 30 ms (R339): the ring flag clears, and with it this node's break, if it owns it. -/
def Dev.ringTimeout (d : Dev) (k : Nat) : Dev :=
  if d.mioOn && !d.refDown 1 && d.on (fRing k) then
    let d := d.putB (fRing k) false
    let d := d.setReg (if k = 0 then rMIO_RING_A else rMIO_RING_B) 0
    let p := 2 * k + 1
    if d.on (fBreak k) then (d.putB (fBreak k) false).putMioPort p { d.mioPort p with brk := false } else d
  else d

/-- No DISC from a 129th node arrives for 30 ms (R335). -/
def Dev.segOverTimeout (d : Dev) (k : Nat) : Dev :=
  if d.mioOn && !d.refDown 1 && d.on (fSegOver k) then
    let d := d.putB (fSegOver k) false
    let free := fun (d : Dev) (p : Nat) => d.putMioPort p { d.mioPort p with segOver := false }
    free (free d (2 * k)) (2 * k + 1)
  else d

/-- A dynamic learned entry not refreshed in time is removed (R328); with AGE_S = 0 entries never age. -/
def Dev.addressAge (d : Dev) (i : Nat) : Dev :=
  let e := d.learned i
  if d.mioOn && d.get fMIO_CFG_AGE_S != 0 && e.valid && !e.static then d.clearLearned i else d

/-! ## Enable and disable (R347) -/

/-- The refusal code of a fabric enable, 0 when it is accepted. -/
def Dev.mioCheck (d : Dev) : Nat :=
  let cfg := d.get fMIO_FNID_CFG_CFG_FNID
  let auto := d.on fMIO_FNID_CFG_MODE
  if (List.range 4).any fun p => d.role p == 3 then 1
  else if !auto ∧ (cfg = 0 ∨ cfg = 4095) then 2
  else if d.pairFnid = 4095 ∨ (!auto ∧ d.pairFnid = cfg) then 3
  else 0

/-- The fabric's status as it stands with no program running. -/
def Dev.mioIdle (d : Dev) : Dev :=
  let d := { d with mio := { recs := d.mio.recs, req := d.mio.req, seqDisc := d.mio.seqDisc, seqProbe := d.mio.seqProbe,
                             seqTopo := d.mio.seqTopo, seqMgmt := d.mio.seqMgmt } }
  ((d.setReg rMIO_STS 0).put fMIO_FNID_FNID 0 |>.setReg rMIO_RING_A 0).setReg rMIO_RING_B 0

/-- MIO_CFG.EN goes from 0 to 1 (R336, R347). A chain port starts restoring, so no loop is formed before the break
is known (R341; log entry 39). -/
def Dev.mioEnable (d : Dev) : Dev :=
  let code := d.mioCheck
  if code = 0 then
    let d := d.mioIdle.putB fMIO_STS_RUN true
    let d := (List.range 4).foldl (fun d p => if d.role p = 2 then d.setMioPort p { restoring := true } else d) d
    if d.on fMIO_FNID_CFG_MODE then d.put fMIO_STS_FNID_STATE 1
    else (d.put fMIO_STS_FNID_STATE 3).put fMIO_FNID_FNID (d.get fMIO_FNID_CFG_CFG_FNID)
  else
    let d := d.putB fMIO_CFG_EN false
    ((d.putB fMIO_STS_CFG_ERR true).put fMIO_STS_ERR_CODE code).inc rMIO_REFUSE_CNT

/-- MIO_CFG.EN goes from 1 to 0: learned entries are flushed and the FNID released; no Miodal frame is sent from then on, and one
that waits leaves its queue unsent (R347, `Dev.carries`). -/
def Dev.mioDisable (d : Dev) : Dev := (d.flushLearned fun _ => true).mioIdle

/-! ## Table commands (R330) -/

/-- Base and size of an entry, and the count, of a table (Table 13.13, Table 1.6). -/
def mioTable (t : Nat) : Nat × Nat × Nat :=
  match t with
  | 0 => (0x140000, 16, 65536)
  | 1 => (learnBase, 16, 16384)
  | _ => (routeBase, 8, 4096)

/-- MIO_TBL_CMD with the fields now stored and an OP: done, or refused and counted. -/
def Dev.mioTblCmd (d : Dev) (op : Nat) : Dev :=
  let t := d.get fMIO_TBL_CMD_TBL
  let i := d.get fMIO_TBL_CMD_INDEX
  let (base, size, count) := mioTable t
  let a := base + size * i
  let lo := (d.reg (rMIO_TBL_DATAk 1)).toNat * 2 ^ 32 + (d.reg (rMIO_TBL_DATAk 0)).toNat
  let hi := (d.reg (rMIO_TBL_DATAk 3)).toNat * 2 ^ 32 + (d.reg (rMIO_TBL_DATAk 2)).toNat
  if op = 0 ∨ 4 ≤ op then d
  else if t = 3 ∨ count ≤ i ∨ (op = 1 ∧ t = 2 ∧ lo / 2 ^ 62 % 2 = 0) then
    (d.put fMIO_TBL_STS_RESULT 2).inc rMIO_TBL_REFUSE_CNT
  else
    let d := match op with
      | 1 =>
        let d := d.tblWord a lo
        if size = 16 then d.tblWord (a + 8) hi else d
      | 2 =>
        let w0 := readWord64 d.tbl a
        let w1 := if size = 16 then readWord64 d.tbl (a + 8) else 0
        (d.setPair (rMIO_TBL_DATAk 1) (rMIO_TBL_DATAk 0) w0).setPair (rMIO_TBL_DATAk 3) (rMIO_TBL_DATAk 2) w1
      | _ => d.tblWord a (readWord64 d.tbl a % 2 ^ 63)
    d.put fMIO_TBL_STS_RESULT 1

end Sys2Proof.Machine
end

