-- ==== Sys2Proof/Machine/Ctx.lean ====
section
/-! DEFINITION. Stream contexts (R122 to R141): fields of the context words, sizes, admission, the state that
both directions share, and the mute ramp. -/

namespace Sys2Proof.Machine

open Sys2Proof

/-! ## Words of a context: transmit contexts are 0 to 511, receive contexts 512 to 1 023 -/

/-- Bits [hi:lo] of word `w` of a context. -/
def Dev.cf (d : Dev) (ctx w hi lo : Nat) : Nat := d.ctxWord ctx w / 2 ^ lo % 2 ^ (hi + 1 - lo)

/-- A one-bit field of a context. -/
def Dev.cb (d : Dev) (ctx w b : Nat) : Bool := d.cf ctx w b b == 1

/-- Bits [hi:lo] of word `w` of a context written. -/
def Dev.cput (d : Dev) (ctx w hi lo v : Nat) : Dev :=
  let old := d.ctxWord ctx w
  let n := old - old / 2 ^ lo % 2 ^ (hi + 1 - lo) * 2 ^ lo + v % 2 ^ (hi + 1 - lo) * 2 ^ lo
  if d.tblHurt (256 * ctx + 8 * w) then d else d.tblWord (256 * ctx + 8 * w) n

/-- A counter field of a context advanced, saturating (R138, R193). -/
def Dev.ccount (d : Dev) (ctx w hi lo n : Nat) : Dev := d.cput ctx w hi lo (satAdd (hi + 1 - lo) (d.cf ctx w hi lo) n)

/-- Word 0 (Table 5.4). -/
def Dev.cFmt (d : Dev) (ctx : Nat) : Nat := d.cf ctx 0 63 60
def Dev.cPkt (d : Dev) (ctx : Nat) : Nat := d.cf ctx 0 47 40
def Dev.cCh (d : Dev) (ctx : Nat) : Nat := d.cf ctx 0 38 32
def Dev.cGrp (d : Dev) (ctx : Nat) : Nat := d.cf ctx 0 31 24
def Dev.cBase (d : Dev) (ctx : Nat) : Nat := d.cf ctx 0 10 0

/-- CRF_TS, in word 10 of a transmit and word 3 of a receive context. -/
def Dev.cCrfTs (d : Dev) (ctx : Nat) : Nat := if ctx < 512 then d.cf ctx 10 3 0 else d.cf ctx 3 3 0

/-- PT, in word 10 of a transmit and word 3 of a receive context. -/
def Dev.cPt (d : Dev) (ctx : Nat) : Nat := if ctx < 512 then d.cf ctx 10 22 16 else d.cf ctx 3 22 16

/-- PRES_NS. -/
def Dev.cPres (d : Dev) (ctx : Nat) : Nat := d.cf ctx 1 63 32

/-- STATE: word 24 of a transmit, word 20 of a receive context. -/
def Dev.cState (d : Dev) (ctx : Nat) : Nat := if ctx < 512 then d.cf ctx 24 2 0 else d.cf ctx 20 2 0

/-- STATE written. -/
def Dev.cSetState (d : Dev) (ctx v : Nat) : Dev := if ctx < 512 then d.cput ctx 24 2 0 v else d.cput ctx 20 2 0 v

/-- Kinds of format (Table 5.1). -/
def fmtRtp (f : Nat) : Bool := f < 2
def fmtAaf (f : Nat) : Bool := 4 ≤ f && f ≤ 7
def fmtCrf (f : Nat) : Bool := f == 8

/-- Bytes per sample. -/
def fmtBytes (f : Nat) : Nat :=
  match f with
  | 0 => 2 | 1 => 3 | 4 => 2 | 5 => 3 | 6 => 4 | 7 => 4 | _ => 0

/-! ## Sizes and rates (R130 to R132, R142) -/

/-- The packet span N in samples (R142). -/
def Dev.cSpan (d : Dev) (ctx : Nat) : Nat :=
  d.cPkt ctx * d.mcgMult (d.ctxMcg ctx) * (if fmtCrf (d.cFmt ctx) then d.cCrfTs ctx else 1)

/-- Samples per packet of a CRF timestamp, and of an audio packet. -/
def Dev.cSpp (d : Dev) (ctx : Nat) : Nat := d.cPkt ctx * d.mcgMult (d.ctxMcg ctx)

/-- The payload size P (R130). -/
def Dev.cPayload (d : Dev) (ctx : Nat) : Nat :=
  let f := d.cFmt ctx
  if fmtCrf f then 8 * d.cCrfTs ctx else d.cCh ctx * d.cSpp ctx * fmtBytes f

/-- Tags of a transmitted frame. -/
def Dev.cTags (d : Dev) (ctx : Nat) : Nat := min 2 (d.cf ctx 2 47 46)

/-- The transmitted frame length F (R131). -/
def Dev.cFrame (d : Dev) (ctx : Nat) : Nat :=
  let f := d.cFmt ctx
  let h := if fmtRtp f then (if d.cf ctx 0 59 58 = 1 then 78 else 58) else if fmtCrf f then 38 else 42
  max 64 (d.cPayload ctx + h + 4 * d.cTags ctx)

/-- The packet rate R in packets/s (R132). -/
def Dev.cRate (d : Dev) (ctx : Nat) : Nat :=
  let g := d.ctxMcg ctx
  let base := if d.on (fMCGn_CTL_FAMILY g) then 44100 else 48000
  let (a, b) := d.mcgPull g
  let den := b * d.cPkt ctx * (if fmtCrf (d.cFmt ctx) then d.cCrfTs ctx else 1)
  (base * a + den - 1) / den

/-- Egress ports that belong to a path in PATH (R149). -/
def Dev.cPorts (d : Dev) (ctx : Nat) : List Nat :=
  (List.range 4).filter fun p => d.cf ctx 2 19 16 / 2 ^ p % 2 == 1 && d.cf ctx 2 1 0 / 2 ^ (p / 2) % 2 == 1

/-- Ports with their EGR bit set. -/
def Dev.cEgr (d : Dev) (ctx : Nat) : List Nat := (List.range 4).filter fun p => d.cf ctx 2 19 16 / 2 ^ p % 2 == 1

/-- Paths in PATH. -/
def Dev.cPaths (d : Dev) (ctx : Nat) : Nat := d.cf ctx 2 0 0 + d.cf ctx 2 1 1

/-- Bindings enabled in a receive context. -/
def Dev.cBindings (d : Dev) (ctx : Nat) : List Nat := (List.range 4).filter fun b => d.cb ctx (6 + 3 * b) 63

/-- The contexts of a direction that are enabled: transmit below 512, receive from 512. -/
def Dev.cEnabled (d : Dev) (tx : Bool) : List Nat :=
  if tx then d.mapBits (rSTX_ENMAPkk 0) else (d.mapBits (rSRX_ENMAPkk 0)).map (512 + ·)

/-- Packets per second that a context adds to its direction's sum (R133). -/
def Dev.cLoad (d : Dev) (ctx : Nat) : Nat :=
  d.cRate ctx * (if ctx < 512 then d.cPaths ctx else (d.cBindings ctx).length)

/-- Bits per second that contexts reserve on port `p` (R131, R133). -/
def Dev.resvBits (d : Dev) (ctxs : List Nat) (p : Nat) : Nat :=
  (ctxs.map fun c => if d.cf c 2 19 16 / 2 ^ p % 2 = 1 then d.cRate c * (8 * (d.cFrame c + 20)) else 0).sum

/-- The admission sums as their registers show them. -/
def Dev.showSums (d : Dev) : Dev :=
  let tx := d.cEnabled true
  let rx := d.cEnabled false
  let d := d.setReg rSTX_PPS_LOAD (BitVec.ofNat 32 (tx.map d.cLoad).sum)
  let d := d.setReg rSRX_PPS_LOAD (BitVec.ofNat 32 (rx.map d.cLoad).sum)
  (List.range 4).foldl (fun d p => d.setReg (rSTX_RESV_Pp p) (BitVec.ofNat 32 ((d.resvBits tx p + 999) / 1000))) d

/-! ## Keys (R128, R136) -/

/-- A binding's key: format family (0 RTP over IPv4, 1 RTP over IPv6, 2 AAF, 3 CRF), address, port, and SSRC where it
is part of the key. -/
structure BindKey where
  family : Nat
  addr : Nat
  port : Nat
  ssrc : Option Nat
  deriving DecidableEq, Repr

/-- The key of binding `b` of a receive context. -/
def Dev.bindKey (d : Dev) (ctx b : Nat) : BindKey :=
  let f := d.cFmt ctx
  let h := d.ctxWord ctx (4 + 3 * b)
  let l := d.ctxWord ctx (5 + 3 * b)
  let w := 6 + 3 * b
  if fmtAaf f then { family := 2, addr := h, port := 0, ssrc := none }
  else if fmtCrf f then { family := 3, addr := h, port := 0, ssrc := none }
  else if d.cf ctx 0 59 58 = 1 then
    { family := 1, addr := h * 2 ^ 64 + l, port := d.cf ctx w 47 32, ssrc := if d.cb ctx w 62 then some (d.cf ctx w 31 0) else none }
  else
    { family := 0, addr := l % 2 ^ 32, port := d.cf ctx w 47 32, ssrc := if d.cb ctx w 62 then some (d.cf ctx w 31 0) else none }

/-- Two keys match (R136). -/
def BindKey.meets (a b : BindKey) : Bool :=
  a.family == b.family && a.addr == b.addr && a.port == b.port &&
    (match a.ssrc, b.ssrc with
      | some x, some y => x == y
      | _, _ => true)

/-- The keys of a context's enabled bindings, each with its context. -/
def Dev.ctxKeys (d : Dev) (ctx : Nat) : List (Nat × BindKey) := (d.cBindings ctx).map fun b => (ctx, d.bindKey ctx b)

/-- The first two keys of a list that match: the context that holds the other one. -/
def clash : List (Nat × BindKey) → List (Nat × BindKey) → Option Nat
  | [], _ => none
  | k :: t, others =>
    match (t ++ others).find? fun o => k.2.meets o.2 with
    | some o => some o.1
    | none => clash t others

/-! ## Admission (R133, R135, Table 5.3) -/

/-- A refusal: code, PORT and OTHER. -/
structure Refused where
  code : Nat
  port : Nat := 0
  other : Nat := 0
  deriving DecidableEq, Repr

/-- The channels of a context overlap those of another. -/
def Dev.overlaps (d : Dev) (a b : Nat) : Bool :=
  !fmtCrf (d.cFmt b) && decide (d.cBase a < d.cBase b + d.cCh b) && decide (d.cBase b < d.cBase a + d.cCh a)

/-- A receive context needs deep mode (R175). -/
def Dev.needsDeep (d : Dev) (ctx : Nat) : Bool :=
  !fmtCrf (d.cFmt ctx) && decide (512 * d.houseMult < d.cf ctx 1 19 0 + 2 * d.cSpan ctx)

/-- The checks of Table 5.3 on a context, in code order. Within code 6 the range of indices is looked at before an overlap, and
OTHER names the first peer in ascending order (DESIGN CHOICE; log entry 199). -/
def Dev.admission (d : Dev) (ctx : Nat) : Option Refused :=
  let tx := decide (ctx < 512)
  let f := d.cFmt ctx
  let rtp := fmtRtp f
  let audio := rtp || fmtAaf f
  let ipv := d.cf ctx 0 59 58
  let pt := d.cPt ctx
  let ch := d.cCh ctx
  let g := d.ctxMcg ctx
  let (fa, fb) := d.mcgFs g
  let ofs := d.cf ctx 1 19 0
  let peers := (d.cEnabled tx).filter (· != ctx)
  let lim := if d.cb ctx 0 57 then 8960 else 1440
  let fail := fun (b : Bool) (r : Refused) => if b then some r else none
  let c1 := !(audio || fmtCrf f) || (rtp && (2 ≤ ipv || pt < 96 || 127 < pt)) || (tx && d.cf ctx 2 47 46 == 3)
  let c2 := (audio && (ch == 0 || 64 < ch)) || (fmtCrf f && (d.cCrfTs ctx == 0 || 8 < d.cCrfTs ctx)) || d.cPkt ctx == 0 || 192 < d.cPkt ctx
  let c3 := (tx && decide (1000000 < d.cf ctx 1 31 0)) || ((fmtAaf f || fmtCrf f) && decide (100000000 < d.cPres ctx))
    || (!tx && audio && (ofs == 0 || decide (fa / (4 * fb) < ofs))) || (!tx && d.cf ctx 2 1 0 == 3)
  let c4 := decide (lim < d.cPayload ctx)
  let c5 := if tx then (d.cEgr ctx).find? fun p => decide (d.maxLen p + 4 * d.cTags ctx < d.cFrame ctx) else none
  let beyond := audio && decide (d.classCount (if tx then 8 else 1) < d.cBase ctx + ch)
  let past := if audio then peers.find? fun p => d.overlaps ctx p else none
  let c7 := decide (d.houseMult < d.mcgMult g)
  let path := d.cf ctx 2 1 0
  let egr := d.cf ctx 2 19 16
  let paths := tx && (path == 0 || (egr % 4 != 0 && path % 2 == 0) || (egr / 4 != 0 && path / 2 == 0)
    || (path % 2 == 1 && egr % 4 == 0) || (path / 2 == 1 && egr / 4 == 0))
  let none_ := !tx && (d.cBindings ctx).isEmpty
  let key := if tx then none else clash (d.ctxKeys ctx) (peers.flatMap d.ctxKeys)
  let sum := ((ctx :: peers).map d.cLoad).sum
  let c9 := decide ((if tx then 16000000 else 24000000) < sum)
  let c10 := if tx then (d.cEgr ctx).find? fun p =>
      decide (rateKbps (d.get (fNETn_SERDES_CFG_RATE p)) * 1000 * 3 / 4 < d.resvBits (ctx :: peers) p) else none
  let c11 := !tx && d.needsDeep ctx && !d.ddrIn
  (fail c1 { code := 1 }).orElse fun _ => (fail c2 { code := 2 }).orElse fun _ => (fail c3 { code := 3 }).orElse fun _ =>
  (fail c4 { code := 4 }).orElse fun _ => (c5.map fun p => { code := 5, port := p }).orElse fun _ =>
  (fail beyond { code := 6 }).orElse fun _ => (past.map fun o => { code := 6, other := o % 512 }).orElse fun _ =>
  (fail c7 { code := 7 }).orElse fun _ => (fail (paths || none_) { code := 8 }).orElse fun _ =>
  (key.map fun o => { code := 8, other := o % 512 }).orElse fun _ => (fail c9 { code := 9 }).orElse fun _ =>
  (c10.map fun p => { code := 10, port := p }).orElse fun _ => fail c11 { code := 11 }

/-! ## The mute ramp (R159, R188) -/

/-- MUTE or UNMUTE reaches the ramp: from rest a ramp starts on its own side; a ramp in progress is reversed, and one that is
reversed a second time goes on to its full end (DESIGN CHOICE; log entry 197). -/
def MuteRamp.command (m : MuteRamp) (mute : Bool) : MuteRamp :=
  if m.moving then
    let towardMute := m.muteSide == m.rising
    if towardMute = mute then m else { m with rising := !m.rising }
  else if mute = (m.pos == 32) then m
  else if mute then { muteSide := true, pos := 0, rising := true, moving := true }
  else { muteSide := false, pos := 0, rising := true, moving := true }

/-- The gain of the next sample, and the ramp after it; `f` is the fade curve. -/
def MuteRamp.next (f : Nat → Int) (m : MuteRamp) : Int × MuteRamp :=
  if m.moving then
    let p := if m.rising then m.pos + 1 else m.pos - 1
    let done := if m.rising then p == 32 else p == 0
    let muted := m.muteSide == m.rising
    let g := if p = 0 then (if m.muteSide then unity else 0) else if m.muteSide then f p else unity - f p
    (g, if done then { muteSide := true, pos := if muted then 32 else 0, rising := false, moving := false } else { m with pos := p })
  else (if m.pos = 32 then 0 else unity, m)

/-- The ramp falls. -/
def MuteRamp.falls (m : MuteRamp) : Bool := m.moving && m.muteSide == m.rising

/-- A context that starts with MUTED in the given state stands at rest (R161). -/
def MuteRamp.rest (muted : Bool) : MuteRamp := { pos := if muted then 32 else 0 }

/-! ## Time of samples (R126, R127) -/

/-- The FT64 of the time that generator `g` follows (R127). -/
def Dev.followed (d : Dev) (g : Nat) : Word64 :=
  let x := d.mcgOf g
  if x.kind = 1 then BitVec.ofInt 64 (d.domTime x.index / 65536) else d.ft64

/-- The times that the generators follow, noted before an edge or a step moves them (R149). -/
def Dev.noteTimes (d : Dev) : Dev := { d with time := { d.time with was := (List.range 8).map d.followed } }

/-- t(s) in a count: the first ns at which R16 yields `s`, or the time of tick `s`; none when that tick is not known
(R126). -/
def Dev.countTime (d : Dev) (g : Nat) (epoch : Bool) (ticks : List (Word64 × Word64)) (s : Word64) : Option Word64 :=
  if epoch then
    let fs := d.mcgRate g
    some (BitVec.ofNat 64 ((s.toNat * 1000000000 + fs - 1) / fs))
  else (ticks.find? fun t => t.1 == s).map (·.2)

/-- A REBASE tick of generator `g` has left it and CORE has not taken it yet. -/
def Dev.coreBehind (d : Dev) (g : Nat) : Bool :=
  let x := d.path g .core
  [x.hold, x.flight, x.arrived].any fun w => match w with
    | some t => t.rebase
    | none => false

/-- t(s) of generator `g` as CORE knows it: packets in assembly keep their instants until CORE takes the jump tick (R126,
R164). -/
def Dev.sampleTime (d : Dev) (g : Nat) (s : Word64) : Option Word64 :=
  let x := d.mcgOf g
  match (if d.coreBehind g then x.prev else none) with
  | some (e, ts) => d.countTime g e ts s
  | none => d.countTime g x.epoch x.ticks s

/-- The SIDX of the time `t`: R16 for a generator that counts from the epoch, else from the latest tick at or before
`t`, or the earliest after it (R127). -/
def Dev.sampleAt (d : Dev) (g : Nat) (t : Word64) : Option Word64 :=
  if (d.mcgOf g).epoch then some (BitVec.ofNat 64 (t.toNat * d.mcgRate g / 1000000000))
  else
    let ts := (d.mcgOf g).ticks
    let pick := (ts.find? fun x => decide (0 ≤ sdiff64 t x.2)).orElse fun _ => ts.getLast?
    pick.map fun x => x.1 + BitVec.ofInt 64 (sdiff64 t x.2 * (d.mcgFs g).1 / (1000000000 * (d.mcgFs g).2))

/-! ## Following a generator (R18) -/

/-- A consumer that follows generator `g` no longer loses its local index. -/
def Dev.unfollow (d : Dev) (g : Nat) (c : Consumer) : Dev :=
  if (d.followers g).contains c then d else d.setPath g c { d.path g c with idx := none, fresh := false }

/-- The local index of CORE for generator `g`. -/
def Dev.coreIdx (d : Dev) (g : Nat) : Option Word64 := (d.path g .core).idx

end Sys2Proof.Machine
end

