-- ==== Sys2Proof/Machine/Stx.lean ====
section
/-! DEFINITION. Transmit streams (R125, R140 to R164): assembly, packets, emission, start, stop, mute and
rebase of a transmit context. -/

namespace Sys2Proof.Machine

open Sys2Proof

/-- Transmit context `c`. -/
def Dev.stxOf (d : Dev) (c : Nat) : StxSt := kget {} d.stx c

/-- The device with transmit context `c` replaced. -/
def Dev.setStx (d : Dev) (c : Nat) (x : StxSt) : Dev := { d with stx := kset {} d.stx c x }

/-- NEXT_SIDX. -/
def Dev.stxNext (d : Dev) (c : Nat) : Word64 := BitVec.ofNat 64 (d.ctxWord c 25)

/-- NEXT_SIDX written. -/
def Dev.stxSetNext (d : Dev) (c : Nat) (s : Word64) : Dev := d.cput c 25 63 0 s.toNat

/-- The first multiple of `n` at or after `s`. -/
def multipleFrom (n : Nat) (s : Word64) : Word64 := if n = 0 then s else BitVec.ofNat 64 ((s.toNat + n - 1) / n * n)

/-! ## Assembly (R143 to R145, R159) -/

/-- A sample period reaches assembly: its channels pass the mute gain, which it moves on whether or not a packet carries the
sample, and those of the packets not yet sent are kept (R159). A sample that assembly has had already, or of an index that a
rebase has left behind or ahead, does not reach it (R163). -/
def Dev.stxFeed (d : Dev) (c : Nat) (s : Word64) (xs : List Int) : Dev :=
  let x := d.stxOf c
  if d.cState c = 0 ∨ (x.reached.any fun r => decide (sdiff64 s r < 0 ∨ 4096 ≤ sdiff64 s r)) = true then d else
  let (g, m) := x.ramp.next d.fade
  let gap := sdiff64 s x.base - x.asm.length
  let row := xs.map fun v => if g = 0 then none else some (mulGain v g)
  let kept := x.placed && decide (0 ≤ gap) && decide (gap < 4096)
  let hit := kept && d.injDue 1
  let ue := d.get fINT_INJ_CMD_BITS == 2
  let d := if hit then d.injMade else d
  d.setStx c { x with ramp := m, reached := some (s + 1), hurt := if hit then some (s, ue) else x.hurt
                      asm := if kept then x.asm ++ List.replicate gap.toNat [] ++ [row] else x.asm }

/-- `n` sample periods from `s` reach assembly as zero (R145). -/
def Dev.stxFeedZeros (d : Dev) (c : Nat) (s : Word64) : Nat → Dev
  | 0 => d
  | n + 1 => (d.stxFeed c s (List.replicate (d.cCh c) 0)).stxFeedZeros c (s + 1) n

/-- The sample of the house clock from which samples come from Anvil, where that is known: the first of the blocks that it has
still to gather (R145, R217). -/
def Dev.anvFrom (d : Dev) : Option Word64 :=
  if d.on fANV_CTL_EN && d.anvRuns then (d.anv.due.head?.map (·.start)).orElse fun _ => d.anv.next else none

/-- While Anvil runs no blocks, what has not reached assembly before sample `upto` reaches it as zero; of a context on the house
clock, what Anvil's first block will hold does not. The first to reach it after an enable are those of a block, or of one
sample (R145). -/
def Dev.stxZerosTo (d : Dev) (c : Nat) (upto : Word64) : Dev :=
  if d.on fANV_STS_RUN ∨ fmtCrf (d.cFmt c) ∨ !(d.stxOf c).placed then d else
  let x := d.stxOf c
  let house := d.ctxMcg c == d.get fMCG_HOUSE_HOUSE
  let upto := match (if house then d.anvFrom else none) with
    | some n => if sdiff64 n upto < 0 then n else upto
    | none => upto
  let first := upto - BitVec.ofNat 64 (if house then 4 * 2 ^ d.get fANV_CTL_BLOCK else 1)
  let from_ := x.reached.getD (if sdiff64 first x.base < 0 then first else x.base)
  d.stxFeedZeros c from_ (min 4096 (max 0 (sdiff64 upto from_)).toNat)

/-! ## Discarding (R158, R163) -/

/-- Packets begun and not yet enqueued: those whose first sample the tick with index `last` has reached. -/
def Dev.stxBegun (d : Dev) (c : Nat) (last : Option Word64) : Nat :=
  match last with
  | some l =>
    let e := sdiff64 l (d.stxNext c)
    if d.cState c = 2 ∧ 0 ≤ e then e.toNat / max 1 (d.cSpan c) + 1 else 0
  | none => 0

/-- Those packets discarded: SKIP_CNT and one block counter count each. -/
def Dev.stxDiscard (d : Dev) (c cnt : Nat) (last : Option Word64) : Dev :=
  let k := d.stxBegun c last
  (d.ccount c 27 31 0 k).add cnt k

/-- The context placed to begin at the first multiple of N at or after `s`. -/
def Dev.stxPlace (d : Dev) (c : Nat) (s : Word64) : Dev :=
  let s0 := multipleFrom (d.cSpan c) s
  (d.stxSetNext c s0).setStx c { d.stxOf c with base := s0, asm := [], placed := true }

/-! ## Headers (R125, Table 5.2) -/

/-- The bytes of a frame's Ethernet header with its tags and Ethertype, for path `pa` (0 A, 1 B) on port `p`. -/
def Dev.stxEth (d : Dev) (c pa p etype : Nat) : List Byte :=
  let w := 3 + pa
  let tci := d.cf c 2 63 61 * 8192 + d.cf c w 59 48
  let outer := d.cf c 2 63 61 * 8192 + d.cf c 2 43 32
  let tags := match d.cTags c with
    | 0 => []
    | 1 => beBytes 2 0x8100 ++ beBytes 2 tci
    | _ => beBytes 2 0x88A8 ++ beBytes 2 outer ++ beBytes 2 0x8100 ++ beBytes 2 tci
  beBytes 6 (d.cf c w 47 0) ++ beBytes 6 (d.macAddr p) ++ tags ++ beBytes 2 etype

/-- The one's complement checksum field for bytes whose checksum bytes are 0. -/
def checksum (bs : List Byte) : Nat := 65535 - fold16 (onesSum bs)

/-- A UDP datagram over IPv4 or IPv6 from path `pa`'s addresses and ports. -/
def Dev.stxUdp (d : Dev) (c pa : Nat) (pay : List Byte) : List Byte :=
  let sport := if pa = 0 then d.cf c 9 63 48 else d.cf c 9 31 16
  let dport := if pa = 0 then d.cf c 9 47 32 else d.cf c 9 15 0
  let sel := if pa = 0 then d.cf c 2 9 8 else d.cf c 2 11 10
  let dscp := d.cf c 2 59 54
  let ttl := d.cf c 2 31 24
  let dipH := d.ctxWord c (5 + 2 * pa)
  let dipL := d.ctxWord c (6 + 2 * pa)
  let len := 8 + pay.length
  let udp := fun (ck : Nat) => beBytes 2 sport ++ beBytes 2 dport ++ beBytes 2 len ++ beBytes 2 ck ++ pay
  if d.cf c 0 59 58 = 1 then
    let src := (List.range 4).flatMap fun i => beBytes 4 (d.reg (rSTX_SRCIP6_e (16 * pa + 4 * sel + i))).toNat
    let dst := beBytes 8 dipH ++ beBytes 8 dipL
    let ck := checksum (src ++ dst ++ beBytes 4 len ++ beBytes 4 17 ++ udp 0)
    beBytes 4 (0x60000000 + dscp * 4 * 2 ^ 20) ++ beBytes 2 len ++ [17, BitVec.ofNat 8 ttl] ++ src ++ dst
      ++ udp (if ck = 0 then 0xFFFF else ck)
  else
    let src := beBytes 4 (d.reg (rSTX_SRCIP4_e (4 * pa + sel))).toNat
    let head := fun (ck : Nat) => [0x45, BitVec.ofNat 8 (dscp * 4)] ++ beBytes 2 (20 + len) ++ beBytes 2 0 ++ beBytes 2 0x4000
      ++ [BitVec.ofNat 8 ttl, 17] ++ beBytes 2 ck ++ src ++ beBytes 4 (dipL % 2 ^ 32)
    head (checksum (head 0)) ++ udp 0

/-- The nsr code of IEEE 1722-2016 for a generator, 0 when its rate is pulled (log entry 41). -/
def Dev.nsr (d : Dev) (g : Nat) : Nat :=
  if d.get (fMCGn_CTL_PULL g) ≠ 0 then 0 else
  match d.mcgRate g with
  | 44100 => 4 | 48000 => 5 | 88200 => 6 | 96000 => 7 | 176400 => 8 | 192000 => 9 | _ => 0

/-- The AAF format code of IEEE 1722-2016 and the bit depth for an FMT (log entry 41). -/
def aafFormat (f : Nat) : Nat × Nat :=
  match f with
  | 4 => (4, 16) | 5 => (3, 24) | 6 => (2, 32) | _ => (1, 32)

/-- The CRF pull code of IEEE 1722-2016 for a generator (log entry 41). -/
def Dev.crfPull (d : Dev) (g : Nat) : Nat :=
  match d.get (fMCGn_CTL_PULL g) with
  | 1 => 2 | 2 => 1 | _ => 0

/-! ## Samples on the wire (R123, R124, R162) -/

/-- One sample in the context's format: its bytes, and whether it saturated. -/
def Dev.wireSample (d : Dev) (c : Nat) (s : Word64) (k : Nat) (v : Option Int) : List Byte × Bool :=
  let f := d.cFmt c
  let n := fmtBytes f
  match v with
  | none => (List.replicate n 0, false)
  | some x =>
    if f = 7 then (beBytes 4 (toFloat x), false) else
    let x := if d.cb c 2 4 then
        let h := crc32 (beBytes 8 s.toNat ++ beBytes 2 c ++ beBytes 2 k)
        x + ((h % 65536 + h / 65536 : Nat) - 65535 : Int) * 2 ^ (wireShift n - 16)
      else x
    let (y, sat) := toWire n x
    (beBytes n (unsgn (8 * n) y), sat)

/-- One sample period in the context's format. -/
def Dev.wireFrame (d : Dev) (c : Nat) (s : Word64) : Nat → List (Option Int) → List Byte × Nat
  | _, [] => ([], 0)
  | k, v :: t =>
    let (b, sat) := d.wireSample c s k v
    let (bs, n) := d.wireFrame c s (k + 1) t
    (b ++ bs, n + sat.toNat)

/-- The samples of a packet, channel-interleaved, and how many saturated. -/
def Dev.wireFrames (d : Dev) (c : Nat) : Word64 → List (List (Option Int)) → List Byte × Nat
  | _, [] => ([], 0)
  | s, f :: t =>
    let (b, n) := d.wireFrame c s 0 f
    let (bs, m) := d.wireFrames c (s + 1) t
    (b ++ bs, n + m)

/-- The timestamps of a CRF PDU whose first sample is `s` (R126). -/
def Dev.crfStamps (d : Dev) (c : Nat) (s : Word64) : List Byte :=
  (List.range (d.cCrfTs c)).flatMap fun k =>
    match d.sampleTime (d.ctxMcg c) (s + BitVec.ofNat 64 (k * d.cSpp c)) with
    | some t => beBytes 8 (t + BitVec.ofNat 64 (d.cPres c)).toNat
    | none => beBytes 8 0

/-! ## Emission (R146 to R152) -/

/-- t_emit of the packet that begins at `s` (R148). -/
def Dev.emitTime (d : Dev) (c : Nat) (s : Word64) : Option Word64 :=
  (d.sampleTime (d.ctxMcg c) (s + BitVec.ofNat 64 (d.cSpan c))).map (· + BitVec.ofNat 64 (d.cf c 1 31 0))

/-- t_emit of the packet that begins at `s` is reached (R148). For a generator that counts from lock in a domain with a DTB, t(s)
is a time base value and is compared with the domain's time as it stands (DESIGN CHOICE; log entry 201). -/
def Dev.emitDue (d : Dev) (c : Nat) (s : Word64) : Bool :=
  match d.emitTime c s with
  | some t => decide (0 ≤ sdiff64 (d.followed (d.ctxMcg c)) t)
  | none => false

/-- seq16 of the packet that begins at `s` (R146). -/
def Dev.seq16 (d : Dev) (c : Nat) (s : Word64) : Nat := s.toNat / max 1 (d.cSpan c) % 65536

/-- The frame of a packet for path `pa` on port `p`, from its payload (R125, R126, R146). -/
def Dev.stxFrame (d : Dev) (c pa p : Nat) (s : Word64) (pay : List Byte) : List Byte :=
  let f := d.cFmt c
  let g := d.ctxMcg c
  let q := d.seq16 c s
  let sid := d.ctxWord c 11
  let mr := (d.stxOf c).mr.toNat
  if fmtRtp f then
    let rtp := [0x80, BitVec.ofNat 8 (d.cPt c)] ++ beBytes 2 q ++ beBytes 4 s.toNat ++ beBytes 4 (d.cf c 10 63 32)
    d.stxEth c pa p (if d.cf c 0 59 58 = 1 then 0x86DD else 0x0800) ++ d.stxUdp c pa (rtp ++ pay)
  else if fmtAaf f then
    let t := match d.sampleTime g s with
      | some t => (t.toNat + d.cPres c) % 2 ^ 32
      | none => 0
    let (code, depth) := aafFormat f
    d.stxEth c pa p 0x22F0 ++ [0x02, BitVec.ofNat 8 (0x81 + 8 * mr), BitVec.ofNat 8 q, 0] ++ beBytes 8 sid ++ beBytes 4 t
      ++ [BitVec.ofNat 8 code] ++ beBytes 2 (d.nsr g * 4096 + d.cCh c) ++ [BitVec.ofNat 8 depth] ++ beBytes 2 pay.length ++ [0, 0] ++ pay
  else
    d.stxEth c pa p 0x22F0 ++ [0x04, 0x80, BitVec.ofNat 8 q, 1] ++ beBytes 8 sid
      ++ beBytes 4 (d.crfPull g * 2 ^ 29 + d.mcgRate g) ++ beBytes 2 pay.length ++ beBytes 2 (d.cSpp c) ++ pay

/-- A copy of a packet enqueued on port `p`, or counted as dropped (R149, R150). -/
def Dev.stxCopy (d : Dev) (c : Nat) (s : Word64) (pay : List Byte) (p : Nat) : Dev :=
  let cls := if d.cb c 2 51 then 5 else 6
  match d.originate p cls { bytes := d.stxFrame c (p / 2) p s pay, ctx := some c } with
  | (true, d) => d
  | (false, d) => d.inc (rSTX_DROP_Pp_CNT p)

/-- The packet in front leaves assembly. -/
def Dev.stxAdvance (d : Dev) (c : Nat) : Dev :=
  let n := d.cSpan c
  let x := d.stxOf c
  let s := d.stxNext c + BitVec.ofNat 64 n
  (d.setStx c { x with base := s, asm := x.asm.drop n }).stxSetNext c s

/-- Context `c`'s next packet is in assembly and its t_emit is reached. A packet whose first sample CORE's index has not
reached is not in assembly, so a step of the time base past its instant does nothing to it (R164). -/
def Dev.emitReady (d : Dev) (c : Nat) : Bool :=
  d.domOn 1 && d.stxOn c && d.cState c == 2 && d.emitDue c (d.stxNext c) && d.stxBegun c (d.coreIdx (d.ctxMcg c)) != 0

/-- The samples of a packet of `n` samples from `s` are read from assembly: what an injection has left there is found, in a word of
assembly that is a free value. False when the packet cannot be sent (Table 22.1, R537). -/
def Dev.asmRead (d : Dev) (c : Nat) (s : Word64) (n : Nat) : Bool × Dev :=
  let x := d.stxOf c
  match x.hurt with
  | none => (true, d)
  | some (h, ue) =>
    if !(decide (0 ≤ sdiff64 h s) && decide (sdiff64 h s < n)) then (true, d) else
    let w := d.freeNat
    let r := w.2.freeNat
    let d := r.2.setStx c { x with hurt := none }
    let word := 524288 + w.1 % 262144
    if ue then (false, d.ueCount 1 word (r.1 % 256)) else (true, d.corrected 1 word (r.1 % 256))

/-- t_emit of context `c`'s next packet is reached; its copies are enqueued, or the late packet is discarded (R148 to R152).
A CRF packet is never late, and a packet whose block Anvil does not run is sent with zeros (R145). -/
def Dev.emitOne (d : Dev) (c : Nat) : Dev :=
  if !d.emitReady c then d else
  let s := d.stxNext c
  let n := d.cSpan c
  let crf := fmtCrf (d.cFmt c)
  let d := d.stxZerosTo c (s + BitVec.ofNat 64 n)
  let fs := (d.stxOf c).asm.take n
  if !crf ∧ (fs.length < n ∨ fs.contains [] = true) then
    ((d.ccount c 27 31 0 1).inc rSTX_SKIP_LATE_CNT).stxAdvance c
  else
    let r := d.asmRead c s n
    let d := r.2
    if !r.1 then (d.ccount c 27 31 0 1).stxAdvance c else
    let (pay, sats) := if crf then (d.crfStamps c s, 0) else d.wireFrames c s fs
    let d := d.ccount c 27 63 32 sats
    let d := (d.cPorts c).foldl (fun d p => d.stxCopy c s pay p) d
    let d := if d.cb c 2 0 then d.ccount c 26 63 32 1 else d
    let d := if d.cb c 2 1 then d.ccount c 26 31 0 1 else d
    (d.cput c 24 31 16 (d.seq16 c s)).stxAdvance c

/-- t_emit of context `c`'s next packet was reached already before the latest edge or step. -/
def Dev.emitWas (d : Dev) (c : Nat) : Bool :=
  match d.emitTime c (d.stxNext c), d.time.was[d.ctxMcg c]? with
  | some t, some w => decide (0 ≤ sdiff64 w t)
  | _, _ => true

/-- Context `o`'s next packet is reached in no later a cycle than context `c`'s: the latest edge or step reaches all that it
reaches in one cycle. -/
def Dev.emitBefore (d : Dev) (c o : Nat) : Bool :=
  !d.emitWas c || (d.emitWas o && match d.emitTime c (d.stxNext c), d.emitTime o (d.stxNext o) with
    | some t, some u => decide (0 ≤ sdiff64 t u)
    | _, _ => false)

/-- PACKET_EMIT: t_emit of context `c`'s next packet is reached. Contexts below it that are reached in no later a cycle go
first: copies are enqueued in ascending context order (R149). -/
def Dev.packetEmit (d : Dev) (c : Nat) : Dev :=
  if !d.emitReady c then d else
  let first := (d.mapBits (rSTX_ENMAPkk 0)).filter fun o => decide (o < c) && d.emitReady o && d.emitBefore c o
  (first.foldl Dev.emitOne d).emitOne c

/-- Every packet begun whose t_emit is reached leaves or is late: a rebase or a stop discards only packets not reached
(Table 6.1). -/
def Dev.emitReached (d : Dev) (c : Nat) : Nat → Dev
  | 0 => d
  | n + 1 => (d.emitOne c).emitReached c n

/-- The packets of every context of generator `g` that are reached leave, in ascending context order. -/
def Dev.emitAll (d : Dev) (g : Nat) : Dev :=
  (d.mapBits (rSTX_ENMAPkk 0)).foldl (fun d c =>
    if d.ctxMcg c = g then d.emitReached c (d.stxBegun c (d.coreIdx g)) else d) d

/-! ## Start, stop and mute (R155 to R161) -/

/-- A context stays outside its group until it is disabled and enabled again (R155, R183). -/
def Dev.ctxSolo (d : Dev) (ctx : Nat) : Bool :=
  if ctx < 512 then (d.stxOf ctx).solo else (kget ({} : SrxSt) d.srx (ctx - 512)).solo

/-- The group reference of an alignment group: the member enabled longest; a context outside the group is no member. -/
def Dev.groupRef (d : Dev) (tx : Bool) (grp : Nat) : Option Nat :=
  if grp = 0 then none else
  ((if tx then d.stxOrder else d.srxOrder.map (512 + ·)).find? fun c => d.cGrp c == grp && !d.ctxSolo c)

/-- A context that cannot join its group is captured and counted (R155, R183). -/
def Dev.stxSolo (d : Dev) (c : Nat) : Dev :=
  match d.groupRef true (d.cGrp c) with
  | some r =>
    if r = c ∨ (d.ctxMcg r = d.ctxMcg c ∧ d.cSpan r = d.cSpan c) then d
    else
      let d := d.setStx c { d.stxOf c with solo := true }
      (d.capture fSTX_GRP_SOLO_VALID [(fSTX_GRP_SOLO_GRP, d.cGrp c), (fSTX_GRP_SOLO_REF, r), (fSTX_GRP_SOLO_CTX, c)]).inc
        rSTX_GRP_SOLO_CNT
  | none => d

/-- A member of the group in STATE 1 that has its start sample (R156). -/
def Dev.stxPartner (d : Dev) (c : Nat) : Option Nat :=
  let x := d.stxOf c
  if d.cGrp c = 0 ∨ x.solo then none else
  d.stxOrder.find? fun o => o != c && d.cGrp o == d.cGrp c && !(d.stxOf o).solo && d.cState o == 1 && (d.stxOf o).placed

/-- An accepted ENABLE (R139, R157). The mr bit starts at 0 (DESIGN CHOICE; log entry 198), and word 24 keeps LAST_SEQ
(log entry 45). -/
def Dev.stxStart (d : Dev) (c : Nat) : Dev :=
  let muted := d.cb c 24 3
  let d := d.putB (bitFld (rSTX_ENMAPkk (c / 32)) (c % 32)) true
  let d := { d with stxOrder := d.stxOrder ++ [c] }
  let d := d.setStx c { ramp := MuteRamp.rest muted }
  let d := (d.cSetState c 1).stxSolo c
  let d := match d.stxPartner c, d.coreIdx (d.ctxMcg c) with
    | some o, _ => d.stxPlace c (d.stxNext o)
    | none, some l => if (d.mcgOf (d.ctxMcg c)).ticking then d.stxPlace c (l + 1) else d
    | none, none => d
  d.showSums

/-- DISABLE takes effect: a packet whose t_emit is reached is enqueued first (R133, R134, R158, Table 6.1). -/
def Dev.stxStop (d : Dev) (c : Nat) : Dev :=
  let g := d.ctxMcg c
  let d := d.emitReached c (d.stxBegun c (d.coreIdx g))
  let d := (d.stxDiscard c rSTX_SKIP_STOP_CNT (d.coreIdx (d.ctxMcg c))).cSetState c 0
  let d := d.putB (bitFld (rSTX_ENMAPkk (c / 32)) (c % 32)) false
  let d := { d with stxOrder := d.stxOrder.filter (· != c) }
  let d := (d.setStx c { ramp := MuteRamp.rest (d.cb c 24 3) }).unfollow g .core
  let d := d.showSums
  (List.range 4).foldl (fun d p => d.overbookCheck p) d

/-- MUTED set or cleared, and the ramp told (R159, R161). -/
def Dev.stxSetMute (d : Dev) (c : Nat) (mute : Bool) : Dev :=
  let x := d.stxOf c
  let d := d.cput c 24 3 3 mute.toNat
  d.setStx c { x with ramp := if d.stxOn c then x.ramp.command mute else MuteRamp.rest mute }

/-- The result of a stream command in a block's CMD_STS: RESULT, CODE and CTX. -/
def Dev.cmdResult (d : Dev) (sts result code ctx : Nat) : Dev :=
  d.puts [(⟨sts, 28, 2⟩, result), (⟨sts, 24, 4⟩, code), (⟨sts, 0, 9⟩, ctx)]

/-- The words of an enabled context are read: one that holds an uncorrectable error disables the context, as a DISABLE does (Table
22.1). -/
def Dev.stxRead (d : Dev) (c : Nat) : Dev :=
  if d.tblBad (256 * c) 32 then (d.tblReads (256 * c) 32).stxStop c else d

/-- A transmit command runs: OP 1 ENABLE, 2 DISABLE, 3 MUTE, 4 UNMUTE (R135, R140). -/
def Dev.stxRun (d : Dev) (op c : Nat) : Dev :=
  match op with
  | 1 =>
    if d.stxOn c then d.cmdResult rSTX_CMD_STS 3 0 c else
    match d.admission c with
    | some r =>
      let d := d.capture fSTX_REFUSE_VALID
        [(fSTX_REFUSE_CODE, r.code), (fSTX_REFUSE_PORT, r.port), (fSTX_REFUSE_OTHER, r.other), (fSTX_REFUSE_CTX, c)]
      (d.inc rSTX_REFUSE_CNT).cmdResult rSTX_CMD_STS 2 r.code c
    | none => ((d.stxStart c).stxRead c).cmdResult rSTX_CMD_STS 1 0 c
  | 2 => if d.stxOn c then (d.stxStop c).cmdResult rSTX_CMD_STS 1 0 c else d.cmdResult rSTX_CMD_STS 3 0 c
  | k =>
    let mute := k == 3
    if d.cb c 24 3 = mute then d.cmdResult rSTX_CMD_STS 3 0 c
    else (d.stxSetMute c mute).cmdResult rSTX_CMD_STS 1 0 c

/-- A command written to STX_CMD: begun, held one deep, or ignored and counted; an OP that is no command is none, and so is not
counted either (DESIGN CHOICE; log entry 200). A command has its effect when it completes (R140, R158, R159). -/
def Dev.stxCmd (d : Dev) (op c : Nat) : Dev :=
  if op = 0 ∨ 5 ≤ op then d
  else if !d.on fSTX_CMD_STS_BUSY then ({ d with stxNow := some (op, c) }).putB fSTX_CMD_STS_BUSY true
  else if d.stxHeld.isNone then ({ d with stxHeld := some (op, c) }).putB fSTX_CMD_STS_QUEUED true
  else d.inc rSTX_CMD_OVF_CNT

/-- The command in progress completes, and one that is held starts (R140). -/
def Dev.stxQueued (d : Dev) : Dev :=
  let d := match d.stxNow with
    | some (op, c) => ({ d with stxNow := none }).stxRun op c
    | none => d
  ({ d with stxNow := d.stxHeld, stxHeld := none }).puts
    [(fSTX_CMD_STS_BUSY, d.stxHeld.isSome.toNat), (fSTX_CMD_STS_QUEUED, 0)]

/-! ## Ticks (R145, R157, R163) -/

/-- A tick word of its generator reaches a transmit context: it is placed, starts running, or takes the rebase
behaviour (R157, R163). `old` is CORE's index before the word. -/
def Dev.stxTick (d : Dev) (c : Nat) (old : Option Word64) (s : Word64) (rebase : Bool) : Dev :=
  let x := d.stxOf c
  let d :=
    if rebase then
      let d := d.stxDiscard c rSTX_SKIP_REBASE_CNT old
      (d.setStx c { d.stxOf c with mr := !x.mr, reached := some s }).stxPlace c s
    else if !x.placed then
      let d := d.setStx c { x with reached := some s }
      match d.stxPartner c with
      | some o => d.stxPlace c (d.stxNext o)
      | none => d.stxPlace c s
    else d
  if d.cState c = 1 ∧ 0 ≤ sdiff64 s (d.stxNext c) then d.cSetState c 2 else d

/-- While Anvil runs no blocks, samples reach assembly as zero: for a house-clock context at the boundary that closes
their block, for another at their own ticks (R145). -/
def Dev.stxIdleFeed (d : Dev) (c : Nat) (s : Word64) : Dev :=
  let b := 4 * 2 ^ d.get fANV_CTL_BLOCK
  d.stxZerosTo c (if d.ctxMcg c = d.get fMCG_HOUSE_HOUSE then BitVec.ofNat 64 (s.toNat / b * b) else s + 1)

/-- A generator stops issuing ticks: packets not reached are discarded and counted, and the context waits (R158). -/
def Dev.stxGenStopped (d : Dev) (c : Nat) : Dev :=
  let d := d.emitReached c (d.stxBegun c (d.coreIdx (d.ctxMcg c)))
  let d := (d.stxDiscard c rSTX_SKIP_STOP_CNT (d.coreIdx (d.ctxMcg c))).cSetState c 1
  d.setStx c { d.stxOf c with asm := [], placed := false, reached := none }

end Sys2Proof.Machine
end

