-- ==== Sys2Proof/Machine/Srx.lean ====
section
/-! DEFINITION. Receive streams (R127, R129, R165 to R193): the tests on a copy, the window, the rings and the read
point, concealment, realignment, start, stop and mute of a receive context. -/

namespace Sys2Proof.Machine

open Sys2Proof

/-- Receive context `c`. -/
def Dev.srxOf (d : Dev) (c : Nat) : SrxSt := kget {} d.srx c

/-- The device with receive context `c` replaced. -/
def Dev.setSrx (d : Dev) (c : Nat) (x : SrxSt) : Dev := { d with srx := kset {} d.srx c x }

/-- The number of receive context `c` among all contexts. -/
abbrev rxCtx (c : Nat) : Nat := 512 + c

/-- A difference modulo 2^32 as a signed number. -/
def sdiff32 (a b : Nat) : Int := sgn 32 ((a + 2 ^ 32 - b % 2 ^ 32) % 2 ^ 32)

/-- SRX_CFG.LOSS_TO_MS, GRP_WAIT_MS and DISC_HOLD_MS in ms (Table 7.7). -/
def Dev.srxLossMs (d : Dev) : Nat := max 1 (min 1000 (d.get fSRX_CFG_LOSS_TO_MS))

/-! ## Rings (R172, R175) -/

/-- DEEP. -/
def Dev.srxDeep (d : Dev) (c : Nat) : Bool := d.cb (rxCtx c) 20 3

/-- C_on. -/
def Dev.ringOn (d : Dev) : Nat := 512 * d.houseMult

/-- C_deep of a context. -/
def Dev.ringDeep (d : Dev) (c : Nat) : Nat := 16384 * d.mcgMult (d.ctxMcg (rxCtx c))

/-- C of a context: the size its position test uses. -/
def Dev.ringSize (d : Dev) (c : Nat) : Nat := if d.srxDeep c then d.ringDeep c else d.ringOn

/-- A sample of an on-chip ring. -/
def Dev.ringAt (d : Dev) (ring s : Nat) : Int := kget 0 d.rings (2048 * ring + s % d.ringOn)

/-- The word of the stream buffers that holds slot `at_` of a ring of size `c` (log entry 63). -/
def ringWord (c ring at_ : Nat) : Nat := 256 * ring + at_ * 256 / c

/-- Sample period `s` of a context's channels written to the on-chip rings. -/
def Dev.ringWrite (d : Dev) (c s : Nat) (xs : List Int) : Dev :=
  let base := d.cBase (rxCtx c)
  let at_ := s % d.ringOn
  let d := { d with rings := (xs.zipIdx.foldl (fun m x => kset 0 m (2048 * (base + x.2) + at_) x.1) d.rings) }
  if d.sound && !d.injDue 1 then d
  else (List.range xs.length).foldl (fun d j => d.arrayWrite 1 (ringWord d.ringOn (base + j) at_)) d

/-- The item of external memory that holds sample `s` of channel `j` of a deep context (Table 23.2). -/
def Dev.deepItem (d : Dev) (c j s : Nat) : Nat := 16384 * d.houseMult * (d.cBase (rxCtx c) + j) + s % d.ringDeep c

/-- A span of a deep context posted to external memory as S32 (R175, R545). True when it waits there. -/
def Dev.deepWrite (d : Dev) (c s : Nat) (rows : List (List Int)) : Bool × Dev :=
  let items := rows.zipIdx.flatMap fun r => r.1.zipIdx.map fun x => (d.deepItem c x.2 (s + r.2), (toWire 4 x.1).1)
  d.post { region := 0, items := items, span := some (c, s), bytes := 4 * items.length }

/-- The items of a span of a deep context. -/
def Dev.deepItems (d : Dev) (c s : Nat) : List Nat :=
  (List.range (d.cSpan (rxCtx c))).flatMap fun k => (List.range (d.cCh (rxCtx c))).map fun j => d.deepItem c j (s + k)

/-- A span of a deep context copied from external memory to its staging rings (R176). -/
def Dev.spanStage (d : Dev) (c s : Nat) : Dev :=
  let ch := d.cCh (rxCtx c)
  let (vs, d) := d.extRead 0 (d.deepItems c s)
  (List.range (d.cSpan (rxCtx c))).foldl (fun d k =>
    d.ringWrite c (s + k) (((vs.drop (k * ch)).take ch).map fun v => v * 2 ^ wireShift 4)) d

/-! ## Reading a copy (R127, R129) -/

/-- What the engine takes from a copy: its sequence number, its timestamp, which is none where R127 finds no tick, and
its payload. -/
structure Copy where
  q : Nat
  ts : Option Nat
  pay : List Byte
  deriving DecidableEq, Repr

/-- s mod 2^32 of R127 for a timestamp `a` in a generator's time. -/
def Dev.copyTs (d : Dev) (ctx a : Nat) : Option Nat :=
  let g := d.ctxMcg ctx
  let now := d.followed g
  let t := now + BitVec.ofInt 64 (sdiff32 a (now.toNat % 2 ^ 32)) - BitVec.ofNat 64 (d.cPres ctx)
  (d.sampleAt g t).map fun s => s.toNat % 2 ^ 32

/-- An RTP copy that passes R129. -/
def Dev.rtpCopy (d : Dev) (ctx : Nat) (bs : List Byte) : Option Copy :=
  match ipView bs with
  | none => none
  | some v =>
    let o := v.pay + 8
    let b0 := beAt bs o 1
    let len := beAt bs (v.pay + 4) 2 - 8
    let csrc := 12 + 4 * (b0 % 16)
    let hdr := csrc + (if b0 / 16 % 2 = 1 then 4 + 4 * beAt bs (o + csrc + 2) 2 else 0)
    let pad := if b0 / 32 % 2 = 1 then beAt bs (o + len - 1) 1 else 0
    let pay := (bs.drop (o + hdr)).take (len - hdr - pad)
    if ipv4HeaderOk bs v && b0 / 64 == 2 && beAt bs (o + 1) 1 % 128 == d.cPt ctx && pay.length == d.cPayload ctx
        && len - hdr - pad == d.cPayload ctx then
      some { q := beAt bs (o + 2) 2, ts := some (beAt bs (o + 4) 4), pay := pay }
    else none

/-- An AAF copy that passes R129. -/
def Dev.aafCopy (d : Dev) (ctx : Nat) (bs : List Byte) : Option Copy :=
  let o := etherOff bs + 2
  let (code, depth) := aafFormat (d.cFmt ctx)
  let pay := (bs.drop (o + 24)).take (beAt bs (o + 20) 2)
  if beAt bs (o + 1) 1 % 2 == 1 && beAt bs (o + 16) 1 == code && beAt bs (o + 17) 2 / 4096 == d.nsr (d.ctxMcg ctx)
      && beAt bs (o + 17) 2 % 1024 == d.cCh ctx && beAt bs (o + 19) 1 == depth && beAt bs (o + 20) 2 == d.cPayload ctx
      && pay.length == d.cPayload ctx then
    some { q := beAt bs (o + 2) 1, ts := d.copyTs ctx (beAt bs (o + 12) 4), pay := pay }
  else none

/-- A CRF copy that passes R129; its timestamp is the first one (R127). -/
def Dev.crfCopy (d : Dev) (ctx : Nat) (bs : List Byte) : Option Copy :=
  let o := etherOff bs + 2
  let pay := (bs.drop (o + 20)).take (beAt bs (o + 16) 2)
  if beAt bs (o + 3) 1 == 1 && beAt bs (o + 16) 2 == d.cPayload ctx && beAt bs (o + 18) 2 == d.cSpp ctx
      && pay.length == d.cPayload ctx then
    some { q := beAt bs (o + 2) 1, ts := d.copyTs ctx (beAt bs (o + 24) 4), pay := pay }
  else none

/-- A copy that passes test 1. -/
def Dev.readCopy (d : Dev) (ctx : Nat) (bs : List Byte) : Option Copy :=
  let f := d.cFmt ctx
  if fmtRtp f then d.rtpCopy ctx bs else if fmtAaf f then d.aafCopy ctx bs else d.crfCopy ctx bs

/-- One wire sample in S64, and whether it is a conversion event (R123, R124). -/
def rxSample (f : Nat) (bs : List Byte) : Int × Bool :=
  if f = 7 then fromFloat (beNat bs) else (fromWire (fmtBytes f) (beNat bs), false)

/-- A payload as sample periods of channels, and its conversion events (R123). -/
def rxSamples (f ch : Nat) : Nat → List Byte → List (List Int) × Nat
  | 0, _ => ([], 0)
  | n + 1, bs =>
    let w := fmtBytes f
    let row := (List.range ch).map fun j => rxSample f ((bs.drop (j * w)).take w)
    let (t, k) := rxSamples f ch n (bs.drop (ch * w))
    (row.map (·.1) :: t, k + (row.filter (·.2)).length)

/-! ## The window (R167 to R169) -/

/-- EXT_SEQ and RTP_TS. -/
def Dev.extSeq (d : Dev) (c : Nat) : Nat := d.cf (rxCtx c) 21 63 32
def Dev.rtpTs (d : Dev) (c : Nat) : Nat := d.cf (rxCtx c) 21 31 0

/-- ext and d of a sequence number (R167). -/
def Dev.extend (d : Dev) (c q : Nat) : Nat × Int :=
  if (d.srxOf c).win.isNone then (q, 1) else
  let e := d.extSeq c
  let k := if fmtRtp (d.cFmt (rxCtx c)) then 16 else 8
  let n := sgn k ((q + 2 ^ k - e % 2 ^ k) % 2 ^ k)
  (((e + n) % 2 ^ 32).toNat, n)

/-- Test 5: the extended number is shown or taken as accepted already (R168). -/
def SrxSt.seen (x : SrxSt) (e : Int) : Bool :=
  match x.win with
  | none => false
  | some w => decide (e < -255) || (decide (e ≤ 0) && w.getLsbD (-e).toNat)

/-- How many tracked numbers leave a window with their flag clear when it moves forward by `n` (R169). -/
def winLosses (w : BitVec 256) (tracked n : Nat) : Nat :=
  ((List.range (min tracked 256)).filter fun i => decide (256 ≤ i + n) && !w.getLsbD i).length + (n - 256)

/-- An accepted number enters the window: its flags, and what is lost (R168, R169). -/
def Dev.winAccept (d : Dev) (c ext : Nat) (e : Int) (ts : Option Nat) : Dev :=
  let x := d.srxOf c
  match x.win with
  | none =>
    let d := d.setSrx c { x with win := some 1, tracked := 1, blind := ts.isNone }
    (d.cput (rxCtx c) 21 63 32 ext).cput (rxCtx c) 21 31 0 (ts.getD 0)
  | some w =>
    if 1 ≤ e then
      let n := e.toNat
      let d := d.ccount (rxCtx c) 24 31 0 (winLosses w x.tracked n)
      let d := d.setSrx c { x with win := some ((w <<< n) ||| 1), tracked := min 256 (x.tracked + n), blind := ts.isNone }
      (d.cput (rxCtx c) 21 63 32 ext).cput (rxCtx c) 21 31 0 (ts.getD 0)
    else d.setSrx c { x with win := some (w ||| ((1 : BitVec 256) <<< (-e).toNat)) }

/-- The window reset: it counts nothing (R167, R169). -/
def SrxSt.winReset (x : SrxSt) : SrxSt := { x with win := none, tracked := 0, blind := false, runs := [] }

/-! ## Positions -/

/-- The span at `p` holds sample `s`. -/
def spanHas (n s p : Nat) : Bool := decide ((s + 2 ^ 32 - p) % 2 ^ 32 < n)

/-- Where a context's next read begins: the block in progress on the house clock, the next sample on another (R172). -/
def Dev.readFrom (d : Dev) (c : Nat) (l : Word64) (next : Bool) : Word64 :=
  let b := 4 * 2 ^ d.get fANV_CTL_BLOCK
  if d.ctxMcg (rxCtx c) = d.get fMCG_HOUSE_HOUSE then BitVec.ofNat 64 (l.toNat / b * b) else if next then l + 1 else l

/-- p in the full count, near the read point. -/
def SrxSt.full (x : SrxSt) (p : Nat) : Int :=
  let r := (x.r.getD 0).toNat
  r + sdiff32 p (r % 2 ^ 32)

/-- The read point stands at or after the index `p`. -/
def SrxSt.reached (x : SrxSt) (p : Nat) : Bool :=
  match x.r with
  | some r => decide (0 ≤ sdiff32 (r.toNat % 2 ^ 32) p)
  | none => false

/-! ## States (Table 7.2) -/

/-- The context goes to ACQUIRE: window reset, written flags cleared, any start sample discarded. -/
def SrxSt.acquire (x : SrxSt) : SrxSt :=
  { x.winReset with spans := [], fresh := [], unstaged := [], start := none, recorded := none, fixed := false, fadeEnd := none,
                    flushed := false, play := .silent }

/-- The REALIGN flush: only spans written since the entry keep their flags (R186). -/
def SrxSt.flush (x : SrxSt) : SrxSt :=
  { x with spans := x.spans.filter x.fresh.contains, unstaged := x.unstaged.filter x.fresh.contains, flushed := true, play := .silent }

/-- The samples already played of the unwritten span in which a context of span `n` conceals: its span began at missing
sample 0, and one span follows another (R186). -/
def SrxSt.intoSpan (x : SrxSt) (n : Nat) : Nat :=
  match x.play with
  | .conceal i => i % max 1 n
  | _ => 0

/-- An entry to REALIGN (R171, R185, R186). `rebase`: members of a group that enter together start together, and the read
point has moved, so that an unwritten span begins anew (log entry 180). -/
def Dev.srxRealign (d : Dev) (c : Nat) (rebase : Bool) : Dev :=
  let again := d.cState (rxCtx c) == 4
  let d := (d.ccount (rxCtx c) 27 63 32 1).cSetState (rxCtx c) 4
  let x := (d.srxOf c).winReset
  let r := ((x.r.getD 0).toNat) % 2 ^ 32
  let x := { x with realigned := some d.mono, start := none, recorded := none, fixed := !rebase, stopped := false }
  let x :=
    if again then
      let x := { x with spans := x.spans.filter (!x.fresh.contains ·), unstaged := x.unstaged.filter (!x.fresh.contains ·), fresh := [] }
      match x.play with
      | .fadeOut i j => { x with fadeEnd := some ((r + 31 - i) % 2 ^ 32), play := .fadeOut i (if rebase then 0 else j) }
      | _ => x.flush
    else { x with fresh := [], play := .fadeOut 0 (if rebase then 0 else x.intoSpan (d.cSpan (rxCtx c))), fadeEnd := some ((r + 31) % 2 ^ 32), flushed := false }
  d.setSrx c x

/-! ## Groups (R183, R184) -/

/-- The members of a receive group that wait in a state for their common start. -/
def Dev.grpWaiting (d : Dev) (grp state : Nat) : List Nat :=
  d.srxOrder.filter fun o => d.cGrp (rxCtx o) == grp && !(d.srxOf o).solo && d.cState (rxCtx o) == state && !(d.srxOf o).fixed
    && (d.srxOf o).start.isNone

/-- The group's start sample is fixed (R184). -/
def Dev.grpFix (d : Dev) (grp state : Nat) : Dev :=
  let ws := d.grpWaiting grp state
  let ps := ws.filterMap fun o => (d.srxOf o).recorded.map (d.srxOf o).full
  match d.groupRef false grp, ps with
  | some ref, p :: t =>
    let top := t.foldl max p
    let n := max 1 (d.cSpan ref)
    let g := ((top + n - 1) / n * n).toNat % 2 ^ 32
    ws.foldl (fun d o =>
      let x := d.srxOf o
      d.setSrx o { x with fixed := true, start := if x.recorded.isSome then some g else none }) d
  | _, _ => d

/-- The start sample is fixed once every member that waits has recorded a p (R184). -/
def Dev.grpCheck (d : Dev) (grp state : Nat) : Dev :=
  let ws := d.grpWaiting grp state
  if grp ≠ 0 && !ws.isEmpty && ws.all fun o => (d.srxOf o).recorded.isSome then d.grpFix grp state else d

/-- The start sample of the members in ACQUIRE has been fixed, so that a member that enters now starts alone (R184). -/
def Dev.grpFixed (d : Dev) (c : Nat) : Bool :=
  let grp := d.cGrp (rxCtx c)
  grp != 0 && d.srxOrder.any fun o => o != c && d.cGrp (rxCtx o) == grp && !(d.srxOf o).solo && d.cState (rxCtx o) == 1 && (d.srxOf o).fixed

/-- GRP_WAIT_EXPIRY: the wait of group `grp` in ACQUIRE, or in REALIGN, is over (R184). -/
def Dev.grpWaitExpiry (d : Dev) (grp : Nat) (realign : Bool) : Dev :=
  if grp = 0 ∨ !d.domOn 1 then d else d.grpFix grp (if realign then 4 else 1)

/-- The first copy accepted in ACQUIRE, or since an entry to REALIGN, places the start (Table 7.2, R184, R186). -/
def Dev.srxFirst (d : Dev) (c p : Nat) : Dev :=
  let x := d.srxOf c
  let grp := d.cGrp (rxCtx c)
  if x.start.isSome ∨ x.recorded.isSome then d
  else if grp = 0 ∨ x.solo ∨ x.fixed then d.setSrx c { x with start := some p }
  else
    (d.setSrx c { x with recorded := some p }).grpCheck grp (d.cState (rxCtx c))

/-! ## The tests (Table 7.1) -/

/-- The timestamps of a CRF payload passed to the generators whose source the context is (R103, R190). -/
def Dev.crfPass (d : Dev) (c : Nat) (pay : List Byte) : Dev :=
  let ts := (List.range (pay.length / 8)).map fun k => beAt pay (8 * k) 8
  (List.range 8).foldl (fun d g =>
    let x := d.mcgOf g
    if d.mcgState g != 0 && x.kind == 2 && x.index == c then d.setMcg g { x with crf := ts } else d) d

/-- An accepted copy: counters, samples, written flag, window, start (R166, R168, R173). -/
def Dev.srxAccept (d : Dev) (c b ext : Nat) (e : Int) (p : Nat) (k : Copy) : Dev :=
  let ctx := rxCtx c
  let d := (d.ccount ctx 22 63 32 1).ccount ctx 26 (16 * b + 15) (16 * b) 1
  let d := d.winAccept c ext e k.ts
  if fmtCrf (d.cFmt ctx) then (if (d.srxOf c).stopped then d else (d.cSetState ctx 2).grpCheck (d.cGrp ctx) (d.cState ctx)).crfPass c k.pay else
  let n := d.cSpan ctx
  let (rows, conv) := rxSamples (d.cFmt ctx) (d.cCh ctx) n k.pay
  let d := d.ccount ctx 25 31 0 conv
  let deep := d.srxDeep c
  let (kept, d) := if deep then d.deepWrite c p rows else (true, rows.zipIdx.foldl (fun d r => d.ringWrite c (p + r.2) r.1) d)
  let x := d.srxOf c
  let x := { x with spans := if deep then x.spans else p :: x.spans,
                    unstaged := if deep && kept then p :: x.unstaged else x.unstaged,
                    fresh := if d.cState ctx = 4 then p :: x.fresh else x.fresh }
  (d.setSrx c x).srxFirst c p

/-- Tests 3 to 5 on a copy; CRF contexts take only test 5 of them (R173, R177, R186, R190). -/
def Dev.srxPlace (d : Dev) (c b : Nat) (k : Copy) : Dev :=
  let ctx := rxCtx c
  let (ext, e) := d.extend c k.q
  let x := d.srxOf c
  let window := fun (p : Nat) => if x.seen e then d.ccount ctx 22 31 0 1 else d.srxAccept c b ext e p k
  if fmtCrf (d.cFmt ctx) then window 0 else
  if d.srxDeep c && d.ddrOut then d.inc rSRX_DEEP_FAIL_CNT else
  match k.ts, x.r with
  | some ts, some r =>
    let p := (ts + d.cf ctx 1 19 0) % 2 ^ 32
    let pos := sdiff32 p (r.toNat % 2 ^ 32)
    let fading := d.cState ctx == 4 && !x.flushed && (match x.fadeEnd with
      | some z => decide (sdiff32 p z ≤ 0)
      | none => false)
    if pos < 0 ∨ fading then d.ccount ctx 23 63 32 1
    else if (d.ringSize c : Int) < pos + d.cSpan ctx then d.ccount ctx 23 31 0 1
    else window p
  | _, _ => d.ccount ctx 23 31 0 1

/-- The confirming copy of a discontinuity (R170, Table 7.2). A context in ACQUIRE stays there with its window reset; while its
generator issues no ticks a context stays in CONCEAL with its window reset, and the REBASE of the resumption takes it to
REALIGN (log entry 179). -/
def Dev.srxConfirm (d : Dev) (c b : Nat) (k : Copy) : Dev :=
  let x := d.srxOf c
  let d := if d.cState (rxCtx c) = 1 then d.setSrx c { x.acquire with fixed := x.fixed }
    else if x.stopped then d.setSrx c x.winReset
    else (d.srxRealign c false).grpCheck (d.cGrp (rxCtx c)) 4
  d.srxPlace c b k

/-- A discontinuous copy is one within the hold-off that follows an entry to REALIGN (R171). -/
def Dev.srxHeldOff (d : Dev) (c : Nat) : Bool :=
  match (d.srxOf c).realigned with
  | some t => decide (d.mono < t + d.get fSRX_CFG_DISC_HOLD_MS * 1000000 * 65536)
  | none => false

/-- Test 2 (R170, R171). -/
def Dev.srxTimeline (d : Dev) (c b : Nat) (k : Copy) : Dev :=
  let x := d.srxOf c
  let (ext, e) := d.extend c k.q
  let n : Int := d.cSpan (rxCtx c)
  match x.win, k.ts with
  | some _, some ts =>
    if x.blind ∨ sdiff32 ts ((d.rtpTs c + n * e) % 2 ^ 32).toNat = 0 then (d.setSrx c { x with runs := kset {} x.runs b {} }).srxPlace c b k
    else if d.srxHeldOff c then d.inc rSRX_DISC_CNT
    else
      let run := kget {} x.runs b
      let follows := run.count ≠ 0 ∧ sdiff32 ts ((run.ts + n * sdiff32 ext run.ext) % 2 ^ 32).toNat = 0
      let cnt := if follows then run.count + 1 else 1
      if 4 ≤ cnt then d.srxConfirm c b k
      else (d.setSrx c { x with runs := kset {} x.runs b { count := cnt, ext := ext, ts := ts } }).inc rSRX_DISC_CNT
  | _, _ => d.srxPlace c b k

/-- STREAM_COPY: the oldest classified copy is tested (R165). A context that has left its binding in the meantime takes
none (R189). -/
def Dev.streamCopy (d : Dev) : Dev :=
  match d.take fun h => match h.sink with
    | .stream _ _ => true
    | _ => false with
  | (some h, d) =>
    match h.sink with
    | .stream c b =>
      if !(d.domOn 1 && d.srxOn c) then d else
      match d.readCopy (rxCtx c) h.bytes with
      | none => d.ccount (rxCtx c) 24 63 32 1
      | some k => d.srxTimeline c b k
    | _ => d
  | (none, d) => d

/-! ## Concealment (R179) -/

/-- Sample `i` of the fade curve on a value. -/
def Dev.faded (d : Dev) (x : Int) (i : Nat) : Int := if 32 ≤ i then 0 else mulGain x (d.fade i)

/-- The concealment output of one channel at missing sample `i`; `hist` holds the samples played before it, newest
first (Table 7.3). -/
def Dev.concealOne (d : Dev) (policy n i : Nat) (hist : List Int) : Int :=
  let x := hist.headD 0
  if x = 0 then 0 else
  match policy with
  | 1 => if i < n then x else d.faded x (i - n + 1)
  | 2 => if i < n then hist.getD (n - 1 - i) 0 else d.faded x (i - n + 1)
  | _ => d.faded x (i + 1)

/-- The concealment output of a context at missing sample `i`. -/
def Dev.concealAll (d : Dev) (c i : Nat) : List Int :=
  let ctx := rxCtx c
  let past := (d.srxOf c).concealed
  (List.range (d.cCh ctx)).map fun j => d.concealOne (d.cf ctx 2 1 0) (d.cSpan ctx) i (past.map fun r => r.getD j 0)

/-! ## Reading a sample (R172, R174, R178 to R181, R186, R188) -/

/-- The samples of the ring at `s`. -/
def Dev.ringRow (d : Dev) (c s : Nat) : List Int := (List.range (d.cCh (rxCtx c))).map fun j => d.ringAt (d.cBase (rxCtx c) + j) s

/-- Silence on every channel. -/
def Dev.silence (d : Dev) (c : Nat) : List Int := List.replicate (d.cCh (rxCtx c)) 0

/-- A context begins to conceal: the past it conceals from is fixed. -/
def SrxSt.concealing (x : SrxSt) : SrxSt := { x with concealed := x.hist, play := .conceal 0 }

/-- A row added to another, saturated. -/
def addRows : List Int → List Int → List Int
  | a :: t, b :: u => sat64 (a + b) :: addRows t u
  | t, [] => t
  | [], u => u

/-- The context's output at a read while it plays, before mute, for a written or unwritten sample (R179 to R181). -/
def Dev.srxOut (d : Dev) (c s : Nat) (written : Bool) : List Int × Dev :=
  let x := d.srxOf c
  let ctx := rxCtx c
  let row := d.ringRow c s
  let fadeIn := fun (d : Dev) (i : Nat) (m : Option Nat) =>
    let up := row.map fun v => mulGain v (unity - d.fade i)
    let out := match m with
      | some k => addRows up (d.concealAll c k)
      | none => up
    (out, d.setSrx c { d.srxOf c with play := if i = 31 then .full else .fadeIn (i + 1) (m.map (· + 1)) })
  match x.play with
  | .silent => (d.silence c, d)
  | .full =>
    if written then (row, d)
    else
      let d := ((d.setSrx c { x.concealing with play := .conceal 1 }).cSetState ctx 3).ccount ctx 25 63 32 1
      (d.concealAll c 0, d)
  | .fadeIn i m =>
    if written then fadeIn d i m
    else
      let d := ((d.setSrx c { x.concealing with play := .conceal 1 }).cSetState ctx 3).ccount ctx 25 63 32 1
      (d.concealAll c 0, d)
  | .conceal i =>
    if written && !x.stopped then fadeIn (d.cSetState ctx 2) 0 (some i)
    else (d.concealAll c i, d.setSrx c { x with play := .conceal (i + 1) })
  | .fadeOut i j =>
    let last := x.hist.getD j []
    let (out, j) :=
      if written then (row.map fun v => d.faded v (i + 1), 0)
      else ((List.range (d.cCh ctx)).map fun k => d.faded (last.getD k 0) (j + 1), (j + 1) % max 1 (d.cSpan ctx))
    let x := { x with play := .fadeOut (i + 1) j }
    (out, d.setSrx c (if i = 31 then x.flush else x))

/-- The read point reaches the start sample of a context that waits for it (Table 7.2). -/
def Dev.srxStartNow (d : Dev) (c : Nat) : Dev :=
  let x := d.srxOf c
  let st := d.cState (rxCtx c)
  match x.start with
  | some g =>
    if (st = 1 ∨ (st = 4 ∧ x.flushed)) ∧ x.reached g then
      (d.setSrx c { x with start := none, recorded := none, fadeEnd := none, fresh := [], play := .fadeIn 0 none }).cSetState (rxCtx c) 2
    else d
  | none => d

/-- The span of a deep context that its staging reads next: the oldest unstaged one near the read point (R176). -/
def Dev.stagingSpan (d : Dev) (c : Nat) : Option Nat :=
  let x := d.srxOf c
  match x.r with
  | none => none
  | some r =>
    let e := fun (p : Nat) => sdiff32 p (r.toNat % 2 ^ 32)
    x.unstaged.reverse.find? fun p => decide (0 ≤ e p) && decide (e p ≤ 256 * d.houseMult)

/-- A deep span that is read before it is staged counts once, as unwritten, and a retry of its staging read is cancelled
(R38, R176). -/
def Dev.srxUnstaged (d : Dev) (c s : Nat) : Dev :=
  let x := d.srxOf c
  let n := d.cSpan (rxCtx c)
  match x.unstaged.find? (spanHas n s) with
  | some p =>
    let d := if d.stagingSpan c = some p then d.cancelRetry (65536 + c) else d
    (d.setSrx c { x with unstaged := x.unstaged.filter (· != p) }).inc rSRX_DEEP_FAIL_CNT
  | none => d

/-- The words of the rings that hold sample `s` of a context are read: a written span with an uncorrectable error counts as unwritten
(Table 22.1). -/
def Dev.ringRead (d : Dev) (c s : Nat) : Dev :=
  if d.sound || !((d.srxOf c).spans.any (spanHas (d.cSpan (rxCtx c)) s)) then d else
  let ws := (List.range (d.cCh (rxCtx c))).map fun j => ringWord d.ringOn (d.cBase (rxCtx c) + j) (s % d.ringOn)
  let bad := ws.any (d.poisoned 1)
  let d := ws.eraseDups.foldl (fun d w => d.eccReads 1 w 1) d
  let x := d.srxOf c
  let keep := fun (p : Nat) => !spanHas (d.cSpan (rxCtx c)) s p
  if bad then d.setSrx c { x with spans := x.spans.filter keep, fresh := x.fresh.filter keep } else d

/-- The next sample of a context is read: what its channels put out, after mute. -/
def Dev.srxRead (d : Dev) (c : Nat) : List Int × Dev :=
  let ctx := rxCtx c
  match (d.srxOf c).r with
  | none => (d.silence c, d)
  | some r =>
    let s := r.toNat % 2 ^ 32
    let n := d.cSpan ctx
    let d := ((d.srxUnstaged c s).srxStartNow c).ringRead c s
    let span := (d.srxOf c).spans.find? (spanHas n s)
    let (out, d) := d.srxOut c s span.isSome
    let x := d.srxOf c
    let spans := match span with
      | some p => if (s + 2 ^ 32 - p) % 2 ^ 32 + 1 = n then x.spans.filter (· != p) else x.spans
      | none => x.spans
    let (g, m) := x.ramp.next d.fade
    let x := { x with r := some (r + 1), spans := spans, ramp := m, hist := (out :: x.hist).take n }
    (out.map fun v => mulGain v g, d.setSrx c x)

/-- The read of sample `k` that a gather asks for: a context whose read point lies ahead of it, after a rebase, gives
silence; one that lies behind it is brought up. For the `short` block that a rebase closed, a context that the rebase has
moved gives silence. -/
def Dev.srxReadAt (d : Dev) (c : Nat) (k : Word64) (short : Bool) : List Int × Dev :=
  let x := d.srxOf c
  match x.r with
  | none => (d.silence c, d)
  | some r =>
    if 0 < sdiff64 r k ∨ (short ∧ r ≠ k) then (d.silence c, d)
    else (if r = k then d else d.setSrx c { x with r := some k }).srxRead c

/-! ## Ticks and their loss (R18, R185, Table 7.2) -/

/-- A tick word of its generator reaches a receive context. The first word that CORE takes from a generator is no rebase, even where
it resumes the ticks (R18): a context that was stopped conceals on until its read reaches a written span. -/
def Dev.srxTick (d : Dev) (c : Nat) (s : Word64) (rebase : Bool) : Dev :=
  let ctx := rxCtx c
  let x := d.srxOf c
  if rebase then
    let x := { x with r := some s, stopped := false }
    if d.cState ctx = 1 then d.setSrx c { x.acquire with r := some s }
    else (d.setSrx c x).srxRealign c true
  else
    let back := x.stopped && (d.mcgOf (d.ctxMcg ctx)).ticking
    if x.r.isNone || back then d.setSrx c { x with r := some (d.readFrom c s false), stopped := x.stopped && !back } else d

/-- Its generator stops issuing ticks: the context conceals and stays there until they resume (Table 7.2). -/
def Dev.srxGenStopped (d : Dev) (c : Nat) : Dev :=
  let x := d.srxOf c
  let d := d.cSetState (rxCtx c) 3
  d.setSrx c { (match x.play with
    | .conceal _ => x
    | _ => x.concealing) with stopped := true }

/-! ## Loss and timeouts (R182, R190) -/

/-- STREAM_LOSS_TIMEOUT: LOSS_TO_MS has passed for context `c` (R182). -/
def Dev.streamLossTimeout (d : Dev) (c : Nat) : Dev :=
  let ctx := rxCtx c
  let st := d.cState ctx
  let x := d.srxOf c
  let runs := d.domOn 1 && d.srxOn c && !x.stopped && (d.mcgOf (d.ctxMcg ctx)).ticking && (st == 3 || (st == 4 && (x.flushed || fmtCrf (d.cFmt ctx))))
  if !runs then d else
  let d := (((d.setSrx c { x.acquire with fixed := d.grpFixed c }).cSetState ctx 1).grpCheck (d.cGrp ctx) 4)
  let d := d.capture fSRX_LOSS_EVT_VALID [(fSRX_LOSS_EVT_CAUSE, if st = 3 then 1 else 2), (fSRX_LOSS_EVT_CTX, c)]
  (d.inc rSRX_LOSS_EVT_CNT).raise 0x0701 c

/-- CRF_CONCEAL_TIMEOUT: a CRF context has accepted no copy for 10 ms (R190). -/
def Dev.crfConcealTimeout (d : Dev) (c : Nat) : Dev :=
  let ctx := rxCtx c
  if d.domOn 1 && d.srxOn c && fmtCrf (d.cFmt ctx) && d.cState ctx == 2 then (d.cSetState ctx 3).ccount ctx 25 63 32 1 else d

/-! ## Commands (R135, R139, R140, R183, R188, R189) -/

/-- A context whose generator differs from its group's is captured and counted (R183). -/
def Dev.srxSolo (d : Dev) (c : Nat) : Dev :=
  match d.groupRef false (d.cGrp (rxCtx c)) with
  | some r =>
    if r = rxCtx c ∨ d.ctxMcg r = d.ctxMcg (rxCtx c) then d
    else
      let d := d.setSrx c { d.srxOf c with solo := true }
      (d.capture fSRX_GRP_SOLO_VALID [(fSRX_GRP_SOLO_GRP, d.cGrp (rxCtx c)), (fSRX_GRP_SOLO_REF, r % 512), (fSRX_GRP_SOLO_CTX, c)]).inc
        rSRX_GRP_SOLO_CNT
  | none => d

/-- MUTED of a receive context. -/
def srxMuteFld (c : Nat) : Fld := bitFld (rSRX_MUTEMAPkk (c / 32)) (c % 32)

/-- An accepted ENABLE: the state words are loaded (R139, Table 7.2). -/
def Dev.srxStart (d : Dev) (c : Nat) : Dev :=
  let ctx := rxCtx c
  let deep := d.needsDeep ctx
  let d := d.putB (bitFld (rSRX_ENMAPkk (c / 32)) (c % 32)) true
  let d := { d with srxOrder := d.srxOrder ++ [c] }
  let d := ((d.cput ctx 20 3 3 deep.toNat).cput ctx 21 63 0 0).cSetState ctx 1
  let r := (d.coreIdx (d.ctxMcg ctx)).map fun l => d.readFrom c l true
  let d := (d.setSrx c { ramp := MuteRamp.rest (d.on (srxMuteFld c)), r := r }).srxSolo c
  let x := d.srxOf c
  (d.setSrx c { x with fixed := !x.solo && d.grpFixed c }).showSums

/-- DISABLE takes effect: silence from the next read, with no fade (Table 7.2). The group no longer waits for the context
(R184). -/
def Dev.srxStop (d : Dev) (c : Nat) : Dev :=
  let ctx := rxCtx c
  let g := d.ctxMcg ctx
  let d := (d.cSetState ctx 0).putB (bitFld (rSRX_ENMAPkk (c / 32)) (c % 32)) false
  let d := { d with srxOrder := d.srxOrder.filter (· != c) }
  let d := d.setSrx c { ramp := MuteRamp.rest (d.on (srxMuteFld c)) }
  let grp := d.cGrp ctx
  (((d.grpCheck grp 1).grpCheck grp 4).unfollow g .core).showSums

/-- MUTED set or cleared, and the ramp told (R188). -/
def Dev.srxSetMute (d : Dev) (c : Nat) (mute : Bool) : Dev :=
  let x := d.srxOf c
  let d := d.putB (srxMuteFld c) mute
  d.setSrx c { x with ramp := if d.srxOn c then x.ramp.command mute else MuteRamp.rest mute }

/-- The words of an enabled context are read: one that holds an uncorrectable error disables the context, as a DISABLE does (Table
22.1). -/
def Dev.srxWords (d : Dev) (c : Nat) : Dev :=
  if d.tblBad (256 * rxCtx c) 32 then (d.tblReads (256 * rxCtx c) 32).srxStop c else d

/-- A receive command runs: OP 1 ENABLE, 2 DISABLE, 3 MUTE, 4 UNMUTE (R135, R140). -/
def Dev.srxRun (d : Dev) (op c : Nat) : Dev :=
  match op with
  | 1 =>
    if d.srxOn c then d.cmdResult rSRX_CMD_STS 3 0 c else
    match d.admission (rxCtx c) with
    | some r =>
      let d := d.capture fSRX_REFUSE_VALID
        [(fSRX_REFUSE_CODE, r.code), (fSRX_REFUSE_PORT, r.port), (fSRX_REFUSE_OTHER, r.other), (fSRX_REFUSE_CTX, c)]
      (d.inc rSRX_REFUSE_CNT).cmdResult rSRX_CMD_STS 2 r.code c
    | none => ((d.srxStart c).srxWords c).cmdResult rSRX_CMD_STS 1 0 c
  | 2 => if d.srxOn c then (d.srxStop c).cmdResult rSRX_CMD_STS 1 0 c else d.cmdResult rSRX_CMD_STS 3 0 c
  | k =>
    let mute := k == 3
    if d.on (srxMuteFld c) = mute then d.cmdResult rSRX_CMD_STS 3 0 c
    else (d.srxSetMute c mute).cmdResult rSRX_CMD_STS 1 0 c

/-- A command written to SRX_CMD: begun, held one deep, or ignored and counted. It has its effect when it completes (R140). -/
def Dev.srxCmd (d : Dev) (op c : Nat) : Dev :=
  if op = 0 ∨ 5 ≤ op then d
  else if !d.on fSRX_CMD_STS_BUSY then ({ d with srxNow := some (op, c) }).putB fSRX_CMD_STS_BUSY true
  else if d.srxHeld.isNone then ({ d with srxHeld := some (op, c) }).putB fSRX_CMD_STS_QUEUED true
  else d.inc rSRX_CMD_OVF_CNT

/-- The receive command in progress completes, and one that is held starts (R140). -/
def Dev.srxQueued (d : Dev) : Dev :=
  let d := match d.srxNow with
    | some (op, c) => ({ d with srxNow := none }).srxRun op c
    | none => d
  ({ d with srxNow := d.srxHeld, srxHeld := none }).puts
    [(fSRX_CMD_STS_BUSY, d.srxHeld.isSome.toNat), (fSRX_CMD_STS_QUEUED, 0)]

end Sys2Proof.Machine
end

