-- ==== Sys2Proof/Machine/NetRx.lean ====
section
/-! DEFINITION. Receiving a frame on a network port (R53, R54, R76, R77, R128, R282 to R289, R293, R315 to R329):
fragments, the receive checks, MAC control, blocked ports, learning, classification, local delivery and
forwarding. -/

namespace Sys2Proof.Machine

open Sys2Proof

/-! ## Classification (R128, R136) -/

/-- The key a frame presents, where it can be classified. -/
def frameKey (bs : List Byte) : Option BindKey :=
  if 3 ≤ tagCount bs then none
  else if etherType bs = 0x22F0 then
    let o := etherOff bs + 2
    let sub := beAt bs o 1
    if beAt bs (o + 1) 1 < 128 then none
    else if sub = 2 then some { family := 2, addr := beAt bs (o + 4) 8, port := 0, ssrc := none }
    else if sub = 4 then some { family := 3, addr := beAt bs (o + 4) 8, port := 0, ssrc := none }
    else none
  else match udpView bs with
    | some (v, p) => some { family := v.v6.toNat, addr := v.dst, port := p, ssrc := some (beAt bs (v.pay + 16) 4) }
    | none => none

/-- Every enabled binding of every enabled receive context: context, binding and key. -/
def Dev.allBindings (d : Dev) : List (Nat × Nat × BindKey) :=
  (d.mapBits (rSRX_ENMAPkk 0)).flatMap fun c => (d.cBindings (rxCtx c)).map fun b => (c, b, d.bindKey (rxCtx c) b)

/-- The context and binding that a frame matches. -/
def Dev.classify (d : Dev) (bs : List Byte) : Option (Nat × Nat) :=
  match frameKey bs with
  | none => none
  | some k => (d.allBindings.find? fun x => x.2.2.meets k).map fun x => (x.1, x.2.1)

/-- An IPv4 fragment that would match a binding (R128). -/
def Dev.fragMatches (d : Dev) (bs : List Byte) : Bool :=
  match ipView bs with
  | some v =>
    v.frag && v.proto == 17 && d.allBindings.any fun x =>
      x.2.2.family == 0 && x.2.2.addr == v.dst && (v.fragOff != 0 || x.2.2.port == beAt bs (v.pay + 2) 2)
  | none => false

/-! ## Filters (R286 to R289) -/

/-- Bit `i` of the hash filter of port `n`. -/
def Dev.hashBit (d : Dev) (n i : Nat) : Bool := d.on (bitFld (rNETn_HASHkk n (i / 32)) (i % 32))

/-- The hash bin of a group address. -/
def hashBin (a : Nat) : Nat := crc32 (beBytes 6 a) / 2 ^ 23

/-- A unicast address of port `n` (R287). -/
def Dev.ownUcast (d : Dev) (n a : Nat) : Bool :=
  a == d.macAddr n || (List.range 8).any fun k =>
    d.on (fNETn_UCASTk_H_EN n k) && d.get (fNETn_UCASTk_H_ADDR n k) * 2 ^ 32 + (d.reg (rNETn_UCASTk_L n k)).toNat == a

/-- The address filters pass a destination (R287 to R289). -/
def Dev.filterPass (d : Dev) (n a : Nat) : Bool :=
  d.on (fNETn_MAC_CFG_PROMISC n) ||
    (if a = broadcast then d.on (fNETn_MAC_CFG_BCAST_EN n) else if isGroup a then d.hashBit n (hashBin a) else d.ownUcast n a)

/-- The transport of a PTP message: 0 L2, 1 UDP over IPv4, 2 UDP over IPv6. -/
def ptpTransport (bs : List Byte) : Nat :=
  match udpView bs with
  | some (v, _) => 1 + v.v6.toNat
  | none => 0

/-- The enabled domain a PTP message belongs to (R286). -/
def Dev.ptpDomain (d : Dev) (bs : List Byte) : Option Nat :=
  match ptpOff bs false with
  | some o => (List.range 4).find? fun i =>
      d.on (fPTP_PTDd_CTL_EN i) && d.get (fPTP_PTDd_CTL_DOMAIN_NUM i) == ptpDomainNo bs o && d.get (fPTP_PTDd_CTL_TRANSPORT i) == ptpTransport bs
  | none => none

/-- A message of the peer delay mechanism. -/
def isPdelay (bs : List Byte) : Bool :=
  match ptpAny bs with
  | some (_, t) => t == 2 || t == 3 || t == 10
  | none => false

/-- The domain whose program takes a PTP message on port `n`: its own; for a peer delay message of none, on a port in P2P,
domain 0, since such a port measures its link all the same (R82, log entry 171). -/
def Dev.ptpTaker (d : Dev) (n : Nat) (bs : List Byte) : Option Nat :=
  (d.ptpDomain bs).orElse fun _ => if isPdelay bs && d.get (fTIME_NETn_TS_CFG_TC_MODE n) == 2 then some 0 else none

/-- An E1.31 frame: UDP to port 5568 (R372). -/
def isE131 (bs : List Byte) : Bool :=
  match udpView bs with
  | some (_, p) => p == 5568
  | none => false

/-- The group that heartbeat frames go to (R385). -/
def haloGroup : Nat := 0x0B594D000002

/-- A good frame handed to the device's functions; says whether it was delivered locally (R286 to R289, R76, R465). -/
def Dev.deliver (d : Dev) (n : Nat) (bs : List Byte) (ts : Int) : Bool × Dev :=
  let dst := dstOf bs
  let give := fun (d : Dev) (s : Sink) => d.hand { sink := s, port := Fin.ofNat 6 n, bytes := bs, ts := ts }
  let pass := d.filterPass n dst
  let special := 0x0180C2000000 ≤ dst ∧ dst ≤ 0x0180C200000F
  match d.classify bs with
  | some (c, b) => (true, give d (.stream c b))
  | none =>
    match d.ptpTaker n bs with
    | some i =>
      (true, if d.ptpRole i n ≠ 0 ∨ (isPdelay bs ∧ d.get (fTIME_NETn_TS_CFG_TC_MODE n) = 2) then give d (.ptp i) else d)
    | none =>
      if etherType bs = 0x88B6 ∧ tagCount bs < 3 then
        (true, give d (if dst = haloGroup then .heartbeat else .wake))
      else if special then (true, d)
      else if pass then (true, if isE131 bs then give d .e131 else d)
      else (false, if isGroup dst then d.inc (rNETn_RX_FILTER_CNT n) else d)

/-! ## Learning (R328) -/

/-- The bucket of an address in a network, of `2^w` buckets (R328, R329). -/
def bucketOf (a net w : Nat) : Nat := crc32 (beBytes 6 a ++ beBytes 1 net) / 2 ^ (32 - w)

/-- The valid learned entry of an address in its bucket. -/
def Dev.findLearned (d : Dev) (a net : Nat) : Option (Nat × Learned) :=
  let b := 8 * bucketOf a net 11
  ((List.range 8).map fun i => (b + i, d.learned (b + i))).find? fun e => e.2.valid && e.2.mac == a && e.2.net == net

/-- A source address learned, moved or refreshed on port `n`. -/
def Dev.learn (d : Dev) (n a : Nat) : Dev :=
  if isGroup a then d else
  let net := n / 2
  let now := d.time.sec.toNat % 2 ^ 32
  match d.findLearned a net with
  | some (i, e) =>
    if e.static then d
    else if e.port = n then d.setLearned i { e with stamp := now }
    else (d.setLearned i { e with port := n, stamp := now }).inc rMIO_MOVE_CNT
  | none =>
    let b := 8 * bucketOf a net 11
    match (List.range 8).find? fun i => !(d.learned (b + i)).valid with
    | some i => d.setLearned (b + i) { valid := true, net := net, static := false, port := n, mac := a, stamp := now }
    | none => d.inc rMIO_LEARN_FULL_CNT

/-! ## Forwarding (R322, R326, R329, Table 13.2) -/

/-- The multicast entry of a group address: its index and port mask within the network. -/
def Dev.findMulticast (d : Dev) (a net : Nat) : Option (Nat × Nat) :=
  let b := 8 * bucketOf a net 13
  ((List.range 8).map fun i => (b + i, readWord64 d.tbl (0x140000 + 16 * (b + i)))).findSome? fun e =>
    if e.2 / 2 ^ 63 % 2 = 1 ∧ !d.tblHurt (0x140000 + 16 * e.1) ∧ !d.tblHurt (0x140000 + 16 * e.1 + 8) ∧ e.2 / 2 ^ 62 % 2 = net ∧ e.2 % 2 ^ 48 = a then some (e.1, e.2 / 2 ^ 56 % 4) else none

/-- One more frame matched by multicast entry `i`. -/
def Dev.hitMulticast (d : Dev) (i : Nat) : Dev :=
  let at_ := 0x140000 + 16 * i + 8
  let w := readWord64 d.tbl at_
  d.tblWord at_ (w - w % 2 ^ 32 + satAdd 32 (w % 2 ^ 32) 1)

/-- The ports a row of Table 13.2 names for a good frame from port `n`, always of `n`'s network (R322), and whether the row or
delivery to this device settles a frame that reaches none. -/
def Dev.targets (d : Dev) (n : Nat) (bs : List Byte) : List Nat × Bool × Dev :=
  let a := dstOf bs
  let net := n / 2
  let o := otherPort n
  if a = broadcast then ([o], false, d)
  else if isGroup a then
    let d := d.tblReads (0x140000 + 128 * bucketOf a net 13) 16
    match d.findMulticast a net with
    | some (i, m) => (((List.range 2).filterMap fun k => if m / 2 ^ k % 2 = 1 ∧ 2 * net + k ≠ n then some (2 * net + k) else none), false, d.hitMulticast i)
    | none => if d.on fMIO_CFG_UNKNOWN_MC then ([o], false, d) else ([], true, d.inc rMIO_MC_MISS_CNT)
  else if (List.range 4).any fun p => d.ownUcast p a then ([], true, d)
  else
  let d := d.tblReads (learnBase + 128 * bucketOf a net 11) 16
  match d.findLearned a net with
    | some (_, e) =>
      if e.port = n then ([], true, d.inc rMIO_SAME_PORT_CNT) else if e.port = o then ([o], false, d) else ([], false, d)
    | none => ([o], false, d)

/-- The port terminates a PTP message (R57, R77): 0 no, 1 yes, 2 a Delay_Req that is dropped and counted. -/
def Dev.ptpTerminates (d : Dev) (n : Nat) (bs : List Byte) : Nat :=
  match ptpAny bs with
  | none => 0
  | some (_, t) =>
    let mode := d.get (fTIME_NETn_TS_CFG_TC_MODE n)
    let mine : Bool := match d.ptpDomain bs with
      | some i => d.ptpRole i n != 0
      | none => false
    if mode = 2 ∧ (ptpEvent bs).isSome ∧ t = 1 then 2
    else if mode = 2 ∧ (ptpEvent bs).isSome ∧ (t = 2 ∨ t = 3) then 1
    else if mine ∧ mode = 0 ∨ mine ∧ mode = 3 then 1
    else 0

/-- The class of a forwarded frame on port `q` (R301). -/
def Dev.forwardClass (d : Dev) (q n : Nat) (bs : List Byte) : Nat :=
  if (ptpAny bs).isSome ∨ (etherType bs = 0x88B6 ∧ beAt bs (etherOff bs + 2) 1 = 2) then 7 else d.mapClass q n bs

/-- A good frame forwarded (R322, R326). -/
def Dev.forward (d : Dev) (n : Nat) (bs : List Byte) (ts : Int) (delivered : Bool) : Dev :=
  if !d.mioOn || d.role n == 0 then d else
  match d.ptpTerminates n bs with
  | 1 => d
  | 2 => d.inc (rTIME_NETn_DREQ_DROP_CNT n)
  | _ =>
    let (ps, settled, d) := d.targets n bs
    let out := ps.filter fun q => d.role q != 0 && d.carries q (carryOf bs) && d.linkUp q && d.netOn q
    if out.isEmpty then (if delivered || settled then d else d.inc rMIO_NO_EGR_CNT)
    else
      let (i, d) := d.newFrameId
      out.foldl (fun d q => d.enqueue q (d.forwardClass q n bs) { bytes := bs, id := i, ingress := some n, ts := ts }) d

/-! ## A good frame (R283, R284, R321, R324) -/

/-- The length bin of a frame: the lower half of its counter. -/
def lengthBin (n len : Nat) : Nat :=
  if len ≤ 64 then rNETn_RX_64_L n else if len ≤ 127 then rNETn_RX_65_127_L n else if len ≤ 255 then rNETn_RX_128_255_L n
  else if len ≤ 511 then rNETn_RX_256_511_L n else if len ≤ 1023 then rNETn_RX_512_1023_L n
  else if len ≤ 1518 then rNETn_RX_1024_1518_L n else rNETn_RX_1519_MAX_L n

/-- The counters of a good frame. -/
def Dev.countGood (d : Dev) (n : Nat) (bs : List Byte) : Dev :=
  let len := bs.length + 4
  let d := d.add64 (rNETn_RX_OCTETS_H n) (rNETn_RX_OCTETS_L n) len
  let d := d.add64 (rNETn_RX_FRAMES_H n) (rNETn_RX_FRAMES_L n) 1
  let d := d.countDst (dstOf bs) (rNETn_RX_UCAST_L n) (rNETn_RX_MCAST_L n) (rNETn_RX_BCAST_L n)
  d.add64 (lengthBin n len + 4) (lengthBin n len) 1

/-- A MAC control frame is consumed (R284, R316). -/
def Dev.macControl (d : Dev) (n : Nat) (bs : List Byte) : Dev :=
  let d := d.inc (rNETn_RX_CTRL_CNT n)
  if beAt bs 14 2 = 1 ∧ (dstOf bs = pauseDst ∨ dstOf bs = d.macAddr n) then d.hand { sink := .pause, port := Fin.ofNat 6 n, bytes := bs }
  else d.inc (rNETn_RX_CTRL_UNSUP_CNT n)

/-- A Miodal frame is discarded and counted, or handed to the fabric program (R321, R323, R331, R345). A request that an edge
port does not accept is counted, and the program answers it with STATUS 4 (Table 13.7, log entry 131). A TOPO whose kind is
neither of Table 13.4's flushes and is forwarded all the same (R328, R332). -/
def Dev.miodalFrame (d : Dev) (n : Nat) (bs : List Byte) : Dev :=
  let sub := (mioHead bs).sub
  let resp := beAt (mioBody bs) 3 1 / 128 == 1
  let edge := d.role n == 1 && sub == 4
  if !d.mioOn || !(d.role n == 2 || edge && d.on fMIO_CFG_EDGE_MGMT) then
    let d := d.inc rMIO_EDGE_MIO_CNT
    if d.mioOn && edge && !mioBad bs && !resp then d.hand { sink := .mgmt, port := Fin.ofNat 6 n, bytes := bs } else d
  else if mioBad bs then d.inc rMIO_BAD_FRAME_CNT
  else if sub = 3 ∧ topoKind bs ≠ 1 ∧ topoKind bs ≠ 2 then d.topoSeen n bs fun d _ _ => d
  else
    let s := match sub with
      | 1 => Sink.disc
      | 2 => Sink.probe
      | 3 => Sink.topo
      | _ => if resp then Sink.response else Sink.mgmt
    d.hand { sink := s, port := Fin.ofNat 6 n, bytes := bs }

/-- A frame that passed every check; `ts` is its corrected ingress time less all steps before it. -/
def Dev.goodFrame (d : Dev) (n : Nat) (bs : List Byte) (ts : Int) : Dev :=
  let d := d.countGood n bs
  let d := if d.mioOn && !d.blocked n then d.learn n (srcOf bs) else d
  match carryOf bs with
  | .control => d.macControl n bs
  | .miodal => d.miodalFrame n bs
  | k =>
    if d.blocked n && k == .other then d.inc (rMIO_BLK_DROP_Pp_CNT n)
    else
      let d := if d.fragMatches bs then d.inc rSRX_FRAG_CNT else d
      let (delivered, d) := d.deliver n bs ts
      d.forward n bs ts delivered

/-- The time that the switch core takes for a frame of `len` bytes while CCLK runs from FIO, in 2^-16 ns: in and out at 25 % of its
rated 204.8 Gbit/s (R467; log entry 210). -/
def fwdTime (len : Nat) : Int := (20480 * len : Nat)

/-- While SEL is 0 the switch core is behind by more than a frame of the greatest length from each port. -/
def Dev.fwdBehind (d : Dev) : Bool := !d.selAct && d.timeRuns && decide (fwdTime (4 * 9018) < d.clk.fwd - d.mono)

/-- A frame goes through the switch core, whose bandwidth is limited while SEL is 0. -/
def Dev.fwdTake (d : Dev) (len : Nat) : Dev :=
  if d.selAct || !d.timeRuns then d
  else { d with clk := { d.clk with fwd := max d.mono d.clk.fwd + fwdTime len } }

/-- The receive checks of Table 11.4 on a whole frame. -/
def Dev.rxCheck (d : Dev) (n : Nat) (bs : List Byte) (pcsErr : Bool) (ts : Int) : Dev :=
  let len := bs.length
  let body := bs.take (len - 4)
  if pcsErr then d.inc (rNETn_RX_PCS_ERR_CNT n)
  else if len < 64 then d.inc (rNETn_RX_RUNT_CNT n)
  else if d.maxLen n + tagAllowance bs < len then d.inc (rNETn_RX_OVERSIZE_CNT n)
  else if bs.drop (len - 4) ≠ fcsOf body then d.inc (rNETn_RX_FCS_ERR_CNT n)
  else if d.cellsFree < cellsFor len ∨ d.fwdBehind then d.inc (rNETn_RX_DROP_BUF_CNT n)
  else (d.fwdTake len).goodFrame n body ts

/-- Fragments are reassembled while PE_EN is 1 (R315). -/
def Dev.fragment (d : Dev) (n : Nat) (f : RxFrame) (ts : Int) : Dev :=
  let x := d.netOf n
  let lost := fun (d : Dev) => (d.setNet n { x with assy := none }).inc (rNETn_MM_RX_ASSY_ERR_CNT n)
  match f.smd, x.assy with
  | .express, _ => d.rxCheck n f.bytes f.pcsErr ts
  | .start c whole, a =>
    let d := if a.isSome then lost d else d
    if whole then d.rxCheck n f.bytes f.pcsErr ts
    else d.setNet n { d.netOf n with assy := some { bytes := f.bytes, count := c.val, next := 0, pcsErr := f.pcsErr, ts := ts } }
  | .cont _ _ _, none => lost d
  | .cont c k last, some a =>
    if a.count ≠ c.val ∨ a.next ≠ k.val then lost d
    else
      let a := { a with bytes := a.bytes ++ f.bytes, next := (a.next + 1) % 4, pcsErr := a.pcsErr || f.pcsErr }
      if last then ((d.setNet n { x with assy := none }).inc (rNETn_MM_RX_ASSY_OK_CNT n)).rxCheck n a.bytes a.pcsErr a.ts
      else d.setNet n { x with assy := some a }

/-- Whether the frame's last byte arrives with this packet: of an express frame, a whole preemptable frame and a last
fragment. -/
def smdEnds : Smd → Bool
  | .express => true
  | .start _ whole => whole
  | .cont _ _ last => last

/-- FRAME_RECEIVE: the last byte of a frame arrives on port `n`, after `lpi` runs of low-power idle codes (R53, R54,
R283, R285, R315). -/
def Dev.frameReceive (d : Dev) (n : Nat) (f : RxFrame) (lpi : Nat) : Dev :=
  if !d.netOn n then d else
  let d := d.add (rNETn_RX_LPI_CNT n) lpi
  let ts := f.ts - (d.time.stepTotal - f.steps) - cfUnits (d.reg (rTIME_NETn_ING_LAT n)).toNat
  if !d.linkUp n then (if smdEnds f.smd then d.inc (rNETn_RX_LINKDOWN_CNT n) else d)
  else if d.on (fNETn_MM_CFG_PE_EN n) then d.fragment n f ts
  else if f.smd = .express then d.rxCheck n f.bytes f.pcsErr ts
  else d.inc (rNETn_MM_RX_SMD_ERR_CNT n)

/-- PAUSE_FRAME: the oldest valid PAUSE is counted, and acted on when RX_EN is 1 (R316 to R318). -/
def Dev.pauseTaken (d : Dev) : Dev :=
  match d.take fun h => h.sink == .pause with
  | (none, d) => d
  | (some h, d) =>
    if !d.domOn (9 + h.port.val) then d else
    let d := d.inc (rNETn_PAUSE_RX_CNT h.port.val)
    if d.on (fNETn_PAUSE_CFG_RX_EN h.port.val) then d.pauseLoad h.port.val (beAt h.bytes 16 2) else d

end Sys2Proof.Machine
end

