-- ==== Sys2Proof/Machine/Halo.lean ====
section
/-! DEFINITION. Halo unit redundancy (R380 to R399): roles, heartbeats on two paths, the states of Table 15.4,
requests, yield, reclaim and detach. -/

namespace Sys2Proof.Machine

open Sys2Proof

/-- HALO_STS.STATE: OFF 0, INIT 1, STANDBY 2, ACTIVE 3, DETACH 4. -/
def Dev.haloState (d : Dev) : Nat := d.get fHALO_STS_STATE

/-- The configured role is secondary (R380). -/
def Dev.haloSecondary (d : Dev) : Bool := if d.on fHALO_ROLE_CFG_OVR then d.on fHALO_ROLE_CFG_ROLE else d.on fHALO_ROLE_CFG_STRAP

/-- The partner's port P0 address, from its DISC, else all ones. -/
def Dev.partnerMac (d : Dev) : Nat :=
  match ((d.mioNet 0).nodes ++ (d.mioNet 1).nodes).find? fun n => n.pair == d.pairFnid && n.mac != d.macAddr 0 with
  | some n => n.mac
  | none => 2 ^ 48 - 1

/-- The unit acts as primary for R391: by its role, or by its address while ROLE_CLASH is set (R386). -/
def Dev.haloPrimary (d : Dev) : Bool :=
  if d.on fHALO_STS_ROLE_CLASH then decide (d.macAddr 0 < d.partnerMac) else !d.haloSecondary

/-- FIT (R388). -/
def Dev.haloFit (d : Dev) : Bool := !d.on fSCH_STS_THERMAL_CRITICAL && d.haloState != 4 && d.haloState != 1

/-- READY (R388). -/
def Dev.haloReady (d : Dev) : Bool :=
  d.mcgState (d.get fMCG_HOUSE_HOUSE) == 2 && d.on fANV_STS_RUN && (d.mapBits (rSTX_ENMAPkk 0)).all fun c => d.cState c == 2

/-- Heartbeats run: in INIT, STANDBY and ACTIVE, and in DETACH while HALO_ACT is high (R398); HALO_HBO is low while CORE is not
ON (Table 19.3). -/
def Dev.haloBeats (d : Dev) : Bool :=
  d.domOn 1 && (d.haloState == 1 || d.haloState == 2 || d.haloState == 3 || (d.haloState == 4 && d.halo.act))

/-! ## Sending a heartbeat (R384, R385) -/

/-- The pulse width in µs (Table 15.2). -/
def Dev.haloWidth (d : Dev) : Nat :=
  match d.haloState with
  | 1 => 2
  | 2 => if d.haloFit && d.haloReady then 4 else 6
  | 3 => if d.on fHALO_STS_REQ_PEND then 10 else 8
  | _ => 12

/-- The network heartbeat's body (Table 15.3). -/
def Dev.haloBody (d : Dev) : List Byte :=
  let detach := d.haloState == 4
  let flags := d.haloFit.toNat * 128 + d.haloReady.toNat * 64 + (d.on fHALO_STS_REQ_PEND).toNat * 32 + detach.toNat * 16
  [2, 1] ++ beBytes 2 (d.haloSecondary.toNat * 32768 + d.pairFnid) ++ [BitVec.ofNat 8 d.haloState, BitVec.ofNat 8 flags]
    ++ beBytes 2 d.halo.seq ++ beBytes 8 d.ft64.toNat ++ beBytes 4 (d.reg rHALO_CFG_TAG).toNat

/-- One heartbeat on both paths. -/
def Dev.haloBeat (d : Dev) : Dev :=
  if d.refDown 2 then d else
  let body := d.haloBody
  let d := { d with halo := { d.halo with hbo := d.haloWidth, seq := (d.halo.seq + 1) % 65536, fit := d.haloFit, ready := d.haloReady } }
  (List.range 4).foldl (fun d p =>
    if d.get fHALO_CFG_HB_PORTS / 2 ^ p % 2 = 1 then
      (d.originate p 7 { bytes := beBytes 6 haloGroup ++ beBytes 6 (d.macAddr p) ++ beBytes 2 0x88B6 ++ body }).2
    else d) d

/-- HEARTBEAT_DUE: the 250 µs period elapses. -/
def Dev.heartbeatDue (d : Dev) : Dev := if d.haloBeats then (d.rqlOffer 0x0F81 0).haloBeat else d

/-! ## Changes of state (Table 15.4, R394) -/

/-- HALO_ACT driven; a change of it is a changeover instant (R394). Grandmaster candidacy ends with the active state, and comes
back at each domain's next announce interval (R98). -/
def Dev.haloAct (d : Dev) (v : Bool) : Dev :=
  if d.halo.act = v then d else
  let d := { d with halo := { d.halo with act := v } }
  let d := if v then (d.inc rHALO_TAKEOVER_CNT).raise 0x0F02 0
           else if d.haloFront then d
           else (List.range 4).foldl (fun d i => if d.on (fPTP_PTDd_CTL_EN i) then d.setDom i { d.dom i with standby := true } else d) d
  d.sendDiscs

/-- The HALO_ACT ball: low while CORE is not ON (Table 19.3). -/
def Dev.haloActBall (d : Dev) : Bool := d.halo.act && d.domOn 1

/-- The Halo block is off: no path, no partner. -/
def Dev.haloOff (d : Dev) : Dev :=
  (((d.putB fHALO_STS_WIRE_OK false).putB fHALO_STS_NET_OK false).putB fHALO_STS_PARTNER_OK false).putB fHALO_STS_SPLIT false

/-- A change of state: captured with its cause, and told by a heartbeat at once where they run (R384, R388). -/
def Dev.haloGo (d : Dev) (dest cause : Nat) : Dev :=
  let d := d.capture fHALO_EVT_LOG_VALID [(fHALO_EVT_LOG_FROM, d.haloState), (fHALO_EVT_LOG_TO, dest), (fHALO_EVT_LOG_CAUSE, cause)]
  let d := d.put fHALO_STS_STATE dest
  let d := if dest = 2 ∨ dest = 0 then d.putB fHALO_STS_REQ_PEND false else d
  let d := if dest = 3 then d.haloAct true else if dest = 4 then d else d.haloAct false
  if d.haloBeats then d.haloBeat else d

/-- REQ set, with its heartbeat (R390). -/
def Dev.haloRequest (d : Dev) : Dev := (d.putB fHALO_STS_REQ_PEND true).haloBeat

/-- An entry to THERMAL_CRITICAL asks for a changeover (R244, R390). -/
def Dev.haloThermal (d : Dev) : Dev :=
  if !d.refDown 2 ∧ d.haloState = 3 ∧ d.on fSCH_THERM_CFG_HALO_REQ_EN ∧ !d.on fHALO_STS_REQ_PEND then d.haloRequest else d

/-- The detach of an active unit ends its part: HALO_ACT drops, heartbeats stop; one begun by EN = 0 goes to OFF (R398). -/
def Dev.haloDropAct (d : Dev) : Dev :=
  let d := (d.haloAct false).putB fHALO_STS_REQ_PEND false
  if d.halo.byEn then (d.haloGo 0 6).haloOff else d

/-- The unit yields (R391). -/
def Dev.haloYield (d : Dev) : Dev :=
  let d := d.inc rHALO_YIELD_CNT
  let d := if d.halo.switch then ({ d with halo := { d.halo with switch := false } }).put fHALO_STS_CMD_RESULT 1 else d
  d.haloGo 2 4

/-- The partner is lost: the flag, and a standby unit takes over (R387, R389). -/
def Dev.haloLose (d : Dev) (counted : Bool) : Dev :=
  if !d.on fHALO_STS_PARTNER_OK then d else
  let d := d.putB fHALO_STS_PARTNER_OK false
  let d := if counted then d.inc rHALO_LOSS_CNT else d
  let d := d.raise 0x0F01 0
  if d.haloState = 2 then d.haloGo 3 2 else d

/-! ## Hearing the partner (R386 to R391) -/

/-- What a valid heartbeat shows: state, REQ and DETACH, and FIT and READY where it tells. -/
structure Beat where
  state : Nat
  req : Bool
  detach : Bool
  flags : Option (Bool × Bool)
  deriving DecidableEq, Repr

/-- A valid heartbeat acts (R387 to R391, R398): one with DETACH makes a partner that was known lost at once. -/
def Dev.haloHear (d : Dev) (b : Beat) : Dev :=
  let active := b.state == 3
  let d := { d with halo := { d.halo with pState := b.state, pReq := b.req, pDetach := b.detach } }
  let d := (if b.detach then d else d.putB fHALO_STS_PARTNER_OK true).putB fHALO_STS_PARTNER_ACT active
  let d := match b.flags with
    | some (f, r) => (d.putB fHALO_STS_PARTNER_FIT f).putB fHALO_STS_PARTNER_READY r
    | none => d
  let d := match d.haloState with
    | 1 =>
      if active then d.haloGo 2 1
      else if d.haloSecondary && (b.state == 1 || b.state == 2) then d.haloGo 2 1 else d
    | 2 =>
      if b.req && (b.detach || (d.haloFit && d.haloReady)) then (d.inc rHALO_REQ_CNT).haloGo 3 3 else d
    | 3 =>
      if active then
        let own := d.on fHALO_STS_REQ_PEND
        let yields := if own != b.req then own else !d.haloPrimary
        if yields then d.haloYield else d
      else d
    | 4 => if active && d.halo.act then d.haloDropAct else d
    | _ => d
  if b.detach then d.haloLose false else d

/-- The heartbeat that a pulse of `w` tenths of a microsecond stands for (Table 15.2). -/
def wireBeat (w : Nat) : Option Beat :=
  let near := fun (c : Nat) => decide (10 * c ≤ w + 5) && decide (w ≤ 10 * c + 5)
  if near 2 then some { state := 1, req := false, detach := false, flags := none }
  else if near 4 then some { state := 2, req := false, detach := false, flags := some (true, true) }
  else if near 6 then some { state := 2, req := false, detach := false, flags := some (false, false) }
  else if near 8 then some { state := 3, req := false, detach := false, flags := none }
  else if near 10 then some { state := 3, req := true, detach := false, flags := none }
  else if near 12 then some { state := 4, req := true, detach := true, flags := none }
  else none

/-- The unit takes heartbeats: it is enabled, or it detaches after a write of EN = 0 and waits to hear its partner ACTIVE
(R398). -/
def Dev.haloListens (d : Dev) : Bool := d.domOn 1 && (d.on fHALO_CFG_EN || (d.haloState == 4 && d.halo.act))

/-- WIRE_HEARTBEAT: a pulse ends on HALO_HBI (R384). -/
def Dev.wireHeartbeat (d : Dev) (w : Nat) : Dev :=
  if !d.haloListens then d else
  match wireBeat w with
  | none => d.inc rHALO_WIRE_BAD_CNT
  | some b =>
    let d := d.rqlOffer 0x0F80 0
    if d.refDown 2 then d else (d.putB fHALO_STS_WIRE_OK true).haloHear b

/-- HEARTBEAT_FRAME: the oldest heartbeat frame is validated (R386). -/
def Dev.heartbeatFrame (d : Dev) : Dev :=
  match d.take fun h => h.sink == .heartbeat with
  | (none, d) => d
  | (some h, d) =>
    if !d.haloListens || d.get fHALO_CFG_HB_PORTS / 2 ^ h.port.val % 2 == 0 then d
    else if (List.range 4).any fun p => d.macAddr p == srcOf h.bytes then d
    else
      let b := h.bytes.drop (etherOff h.bytes + 2)
      let role := beAt b 2 2 / 32768
      let good := beAt b 0 1 == 2 && beAt b 1 1 == 1 && beAt b 2 2 % 4096 == d.pairFnid
      let clash := role == d.haloSecondary.toNat
      if !good then d.inc rHALO_NET_BAD_CNT
      else
        let d := d.rqlOffer 0x0F80 1
        if d.refDown 2 then d else
        let d := if clash then (d.putB fHALO_STS_ROLE_CLASH true).inc rHALO_ROLE_CLASH_CNT else d
        let fl := beAt b 5 1
        let d := d.putB fHALO_STS_CFG_MISMATCH (beAt b 16 4 != (d.reg rHALO_CFG_TAG).toNat)
        let bit := 2 ^ h.port.val
        let d := { d with halo := { d.halo with netOk := d.halo.netOk ||| bit } }
        (d.putB fHALO_STS_NET_OK true).haloHear
          { state := beAt b 4 1, req := fl / 32 % 2 == 1, detach := fl / 16 % 2 == 1, flags := some (fl / 128 == 1, fl / 64 % 2 == 1) }

/-- HEARTBEAT_PATH_SILENT: no valid heartbeat for 1 020 µs on the wire, or on network port `p`; both paths silent is
the partner's loss (R387). -/
def Dev.heartbeatPathSilent (d : Dev) (path : Option Nat) : Dev :=
  if !d.haloListens || d.refDown 2 then d else
  let d := match path with
    | none => d.putB fHALO_STS_WIRE_OK false
    | some p =>
      let m := d.halo.netOk - d.halo.netOk / 2 ^ p % 2 * 2 ^ p
      ({ d with halo := { d.halo with netOk := m } }).putB fHALO_STS_NET_OK (m != 0)
  if d.on fHALO_STS_WIRE_OK || d.on fHALO_STS_NET_OK then d else d.haloLose true

/-- HALO_PARTNER_LOST: both paths have fallen silent (R387). -/
def Dev.haloPartnerLost (d : Dev) : Dev :=
  if !d.haloListens || d.refDown 2 then d else
  let d := { d with halo := { d.halo with netOk := 0 } }
  ((d.putB fHALO_STS_WIRE_OK false).putB fHALO_STS_NET_OK false).haloLose true

/-- HALO_INIT_TIMEOUT: 2.0 ms in INIT (Table 15.4). -/
def Dev.haloInitTimeout (d : Dev) : Dev := if d.haloState = 1 ∧ !d.refDown 2 then d.haloGo 3 1 else d

/-- HALO_REQ_TIMEOUT: 2.0 ms with REQ set and no partner heard ACTIVE (R390). -/
def Dev.haloReqTimeout (d : Dev) : Dev :=
  if !(d.haloState == 3 && d.on fHALO_STS_REQ_PEND) || d.refDown 2 then d else
  let d := (d.putB fHALO_STS_REQ_PEND false).inc rHALO_REQ_REFUSE_CNT
  let d := if d.halo.switch then ({ d with halo := { d.halo with switch := false } }).put fHALO_STS_CMD_RESULT 2 else d
  d.haloBeat

/-- HALO_PACT_CHANGE: the HALO_PACT ball takes a level (R393). -/
def Dev.haloPactChange (d : Dev) (level : Bool) : Dev := d.putB fHALO_STS_PACT level

/-! ## Commands (R390, R395, Table 15.9) -/

/-- A command written to HALO_CMD: accepted, or ignored and counted while one is being accepted. With no Halo program running it
does nothing, and reports so (R484; DESIGN CHOICE: the spec gives no RESULT for it; log entry 206). -/
def Dev.haloCmd (d : Dev) (op : Nat) : Dev :=
  if op = 0 ∨ 3 ≤ op then d
  else if d.get fHALO_CMD_OP ≠ 0 then d.inc rHALO_CMD_OVF_CNT
  else
    let d := d.put fHALO_CMD_OP op
    if d.refDown 2 then d.put fHALO_STS_CMD_RESULT 3
    else if op = 1 then
      if d.haloState = 3 ∧ !d.on fHALO_STS_REQ_PEND then
        let d := { d with halo := { d.halo with switch := true } }
        (d.put fHALO_STS_CMD_RESULT 0).haloRequest
      else d.put fHALO_STS_CMD_RESULT 3
    else if d.haloState = 2 ∧ !d.haloSecondary then
      if d.on fHALO_STS_PARTNER_ACT ∧ d.haloFit ∧ d.haloReady then
        ((d.inc rHALO_RECLAIM_CNT).put fHALO_STS_CMD_RESULT 1).haloGo 3 5
      else d.put fHALO_STS_CMD_RESULT 2
    else d.put fHALO_STS_CMD_RESULT 3

/-- RECLAIM_S as it acts. -/
def Dev.reclaimS (d : Dev) : Nat := max 1 (min 600 (d.get fHALO_CFG_RECLAIM_S))

/-- The reclaim count runs (R395). -/
def Dev.reclaimRuns (d : Dev) : Bool :=
  d.haloState == 2 && !d.haloSecondary && d.on fHALO_STS_PARTNER_ACT && d.on fHALO_STS_PARTNER_OK && d.on fHALO_CFG_AUTO_RECLAIM
    && d.haloFit && d.haloReady

/-- RECLAIM_EXPIRY: the count expires (R395). -/
def Dev.reclaimExpiry (d : Dev) : Dev :=
  if d.reclaimRuns && d.halo.reclaim.isSome && !d.refDown 2 then (d.inc rHALO_RECLAIM_CNT).haloGo 3 5 else d

/-- The seconds that HALO_RECLAIM_LEFT shows. -/
def Dev.reclaimLeft (d : Dev) : Nat :=
  match d.halo.reclaim with
  | some t => d.reclaimS - (max 0 (d.mono - t)).toNat / (65536 * 1000000000)
  | none => 0

/-! ## Enable, disable and detach (R382, R398) -/

/-- The refusal code of an enable. -/
def Dev.haloCheck (d : Dev) : Nat :=
  if d.pairFnid = 0 then 1 else if d.get fHALO_CFG_HB_PORTS = 0 then 2 else if !d.on fMIO_CFG_EN then 3 else 0

/-- EN written 1 (R382). In a detach that a write of EN = 0 began, HALO_ACT falls as INIT is entered (R394). -/
def Dev.haloEnable (d : Dev) : Dev :=
  let code := d.haloCheck
  if code = 0 then
    let d := d.putB fHALO_CFG_EN true
    let pact := d.get fHALO_STS_PACT
    let d := (d.setReg rHALO_STS 0).put fHALO_STS_PACT pact
    let d := { d with halo := { seq := d.halo.seq, act := d.halo.act } }
    d.haloGo 1 0
  else
    let d := ((d.putB fHALO_CFG_EN false).putB fHALO_STS_CFG_ERR true).put fHALO_STS_ERR_CODE code
    d.inc rHALO_REFUSE_CNT

/-- EN written 0: OFF, or a detach of an active unit (R398). One whose HALO_ACT is low already, since its program stopped (R484),
has nothing to hand over. -/
def Dev.haloDisable (d : Dev) : Dev :=
  let d := d.putB fHALO_CFG_EN false
  match d.haloState with
  | 0 => d
  | 3 =>
    if !d.halo.act then (d.haloGo 0 6).haloOff else
    let d := { d with halo := { d.halo with byEn := true } }
    (d.putB fHALO_STS_REQ_PEND true).haloGo 4 6
  | 4 => if d.halo.byEn then d else (d.haloGo 0 7).haloOff
  | _ => (d.haloGo 0 6).haloOff

/-- HOTSWAP_N is recognised: an enabled unit detaches (R398). -/
def Dev.haloDetach (d : Dev) : Dev :=
  match d.haloState with
  | 3 => (d.putB fHALO_STS_REQ_PEND true).haloGo 4 7
  | 1 | 2 => (d.haloGo 4 7).haloBeat
  | _ => d

/-- DETACH_TIMEOUT: 1.5 ms since the entry to DETACH (R398). -/
def Dev.detachTimeout (d : Dev) : Dev := if d.haloState = 4 ∧ d.halo.act then d.haloDropAct else d

/-! ## What follows from the rest of the device at every step (R384, R393, R395) -/

/-- SPLIT, the reclaim count, and the heartbeat that a change of FIT or READY sends at once. -/
def Dev.haloSettle (d : Dev) : Dev :=
  if d.haloState = 0 ∨ !d.domOn 1 ∨ d.refDown 2 then d else
  let split := d.haloState == 3 && !d.on fHALO_STS_WIRE_OK && !d.on fHALO_STS_NET_OK && d.on fHALO_STS_PACT
  let d := if split && !d.on fHALO_STS_SPLIT then (d.inc rHALO_SPLIT_CNT).raise 0x0F03 0 else d
  let d := d.putB fHALO_STS_SPLIT split
  let d := if d.reclaimRuns then
      (if d.halo.reclaim.isSome then d else { d with halo := { d.halo with reclaim := some d.mono } })
    else { d with halo := { d.halo with reclaim := none } }
  if d.haloBeats && (d.halo.fit != d.haloFit || d.halo.ready != d.haloReady) then d.haloBeat else d

end Sys2Proof.Machine
end

