-- ==== Sys2Proof/Machine/Sap.lean ====
section
/-! DEFINITION. Serial audio ports (R252 to R272): enable, frames, the rate converter as far as the spec fixes it,
slot masks, channel start, stop and mute. -/

namespace Sys2Proof.Machine

open Sys2Proof

/-- Serial port `n`. -/
def Dev.sapOf (d : Dev) (n : Nat) : SapSt := kget {} d.sap n

/-- The device with serial port `n` replaced. -/
def Dev.setSap (d : Dev) (n : Nat) (x : SapSt) : Dev := { d with sap := kset {} d.sap n x }

/-- The port works: enabled, its domain ON (R272). -/
def Dev.sapOn (d : Dev) (n : Nat) : Bool := d.on (fSAPnn_CTL_EN n) && d.domOn (5 + n / 6)

/-- Frames of the port are processed: it works, or its last frame is in progress (R272). -/
def Dev.sapRuns (d : Dev) (n : Nat) : Bool := (d.on (fSAPnn_CTL_EN n) || (d.sapOf n).ending) && d.domOn (5 + n / 6)

/-- The word length L (R255). -/
def Dev.sapLen (d : Dev) (n : Nat) : Nat :=
  match d.get (fSAPnn_CTL_WLEN n) with
  | 0 => 16 | 1 => 24 | _ => 32

/-- The shift between S64 and a word of the port. -/
def Dev.sapShift (d : Dev) (n : Nat) : Nat := 57 - d.sapLen n

/-- A master port's divider. -/
def Dev.sapDiv (d : Dev) (n : Nat) : Nat := 2 ^ d.get (fSAPnn_CTL_DIV n)

/-- The port is bypassed (R259). -/
def Dev.sapBypass (d : Dev) (n : Nat) : Bool :=
  d.on (fSAPnn_CTL_MASTER n) && d.get (fSAPnn_CTL_MCG n) == d.get fMCG_HOUSE_HOUSE && d.get (fSAPnn_CTL_DIV n) == 0

/-- The block size B of the house clock's blocks. -/
def Dev.blockLen (d : Dev) : Nat := 4 * 2 ^ d.get fANV_CTL_BLOCK

/-! ## Framing (R254) -/

/-- The slot width W. -/
def Dev.sapSlot (d : Dev) (n : Nat) : Nat := if d.on (fSAPnn_CTL_SLOT n) then 24 else 32

/-- The cycle that holds bit `k` of a word, the MSB being bit 0 (Table 10.1). -/
def sapCycle (fmt w l slot k : Nat) : Nat :=
  slot * w + k + (match fmt with
    | 0 => 1 | 1 => 0 | _ => w - l)

/-- The word of a slot in a lane's bits, cycle c in bit c. -/
def sapGet (fmt w l slot bits : Nat) : Nat := (List.range l).foldl (fun a k => 2 * a + bits / 2 ^ sapCycle fmt w l slot k % 2) 0

/-- A lane's bits that hold a word in a slot. -/
def sapSet (fmt w l slot word : Nat) : Nat :=
  ((List.range l).map fun k => word / 2 ^ (l - 1 - k) % 2 * 2 ^ sapCycle fmt w l slot k).sum

/-- WS is high in cycle `c`, counted from the opening edge of a frame (Table 10.1). -/
def sapWsHigh (fmt : Nat) (inv : Bool) (w c : Nat) : Bool :=
  let left := decide (c % (2 * w) < w)
  left == ((fmt != 0) != inv)

/-- The levels of WS over a frame and cycle 0 of the next, cycle c in bit c. -/
def Dev.sapWs (d : Dev) (n : Nat) : Nat :=
  let w := d.sapSlot n
  ((List.range (2 * w + 1)).map fun c => (sapWsHigh (d.get (fSAPnn_CTL_FMT n)) (d.on (fSAPnn_CTL_WS_INV n)) w c).toNat * 2 ^ c).sum

/-- A frame is valid: WS changes at the start of cycle W, and the next opening edge falls at the start of cycle 2W (R269). -/
def Dev.sapValid (d : Dev) (n ws : Nat) : Bool := ws % 2 ^ (2 * d.sapSlot n + 1) == d.sapWs n

/-- The words of a frame on its eight positions. -/
def Dev.sapFrameWords (d : Dev) (n : Nat) (lanes : List Nat) : List Nat :=
  (List.range 8).map fun p => sapGet (d.get (fSAPnn_CTL_FMT n)) (d.sapSlot n) (d.sapLen n) (p % 2) (lanes.getD (p / 2) 0)

/-- The bits of lane `q` over a frame and cycle 0 of the next, from the words on its positions. -/
def Dev.sapLane (d : Dev) (n q : Nat) (words : List (Nat × Nat)) : Nat :=
  ((words.filter fun w => w.1 / 2 == q).map fun w =>
    sapSet (d.get (fSAPnn_CTL_FMT n)) (d.sapSlot n) (d.sapLen n) (w.1 % 2) w.2).sum

/-! ## Positions (R253) -/

/-- Positions of a mask in one direction, ascending. -/
def sapPositions (mask : BitVec 8) (dir : BitVec 4) (out : Bool) : List Nat :=
  (List.range 8).filter fun p => mask.getLsbD p && dir.getLsbD (p / 2) == out

/-- The enabled positions of a port in one direction. -/
def SapSt.positions (x : SapSt) (out : Bool) : List Nat := sapPositions x.mask x.dir out

/-! ## Channels (R265 to R268): 0 to 7 SIN, 8 to 15 SOUT -/

/-- Channel `c` of port `n`. -/
def SapSt.chan (x : SapSt) (c : Nat) : SapCh := kget {} x.ch c

/-- Channel `c` of port `n` replaced. -/
def Dev.setSapCh (d : Dev) (n c : Nat) (y : SapCh) : Dev :=
  let x := d.sapOf n
  d.setSap n { x with ch := kset {} x.ch c y }

/-- RUN and MUTED of a channel. -/
def fSapRun (n c : Nat) : Fld := bitFld (rSAPnn_CH_STS n) (c % 8 + 16 * (c / 8))
def fSapMuted (n c : Nat) : Fld := bitFld (rSAPnn_CH_STS n) (8 + c % 8 + 16 * (c / 8))

/-- The bit of CH_PEND of a channel. -/
def fSapPend (n c : Nat) : Fld := bitFld (rSAPnn_CH_PEND n) (c % 8 + 16 * (c / 8))

/-- A channel is audible (R265). -/
def Dev.sapAudible (d : Dev) (n c : Nat) : Bool := d.on (fSapRun n c) && !d.on (fSapMuted n c)

/-- A command takes effect on its bit: 1 START, 2 STOP, 3 MUTE, 4 UNMUTE. -/
def Dev.sapBit (d : Dev) (n c op : Nat) : Dev :=
  match op with
  | 1 => d.putB (fSapRun n c) true
  | 2 => d.putB (fSapRun n c) false
  | 3 => d.putB (fSapMuted n c) true
  | _ => d.putB (fSapMuted n c) false

/-- The command that undoes another. -/
def sapUndo (op : Nat) : Nat := match op with
  | 1 => 2 | 2 => 1 | 3 => 4 | _ => 3

/-- ZC_CURVE at `i` of 32 samples, a Q8.56 gain. -/
def Dev.zcFade (d : Dev) (n i : Nat) : Int := d.curveAcross (d.get (fSAPnn_ZC_CFG_ZC_CURVE n)) (min i 32) 32

/-- The samples that a timeout lasts (R267). -/
def Dev.zcSamples (d : Dev) (n : Nat) : Nat :=
  let (a, b) := d.mcgFs (d.get fMCG_HOUSE_HOUSE)
  let t := max 1 (d.get (fSAPnn_ZC_CFG_ZC_TO n))
  (t * a + 2000 * b - 1) / (2000 * b)

/-- Commands take effect on their bits. -/
def Dev.sapBits (d : Dev) (n c : Nat) (ops : List Nat) : Dev := ops.foldl (fun d op => d.sapBit n c op) d

/-- Every command that waits on a channel takes effect. -/
def Dev.sapTake (d : Dev) (n c : Nat) : Dev :=
  let y := (d.sapOf n).chan c
  ((d.sapBits n c y.wait).setSapCh n c { y with wait := [], evald := 0 }).putB (fSapPend n c) false

/-- Commands that wait and would no longer change whether the channel is audible complete at once (R265). -/
def Dev.sapMoot (d : Dev) (n c : Nat) : Dev :=
  let y := (d.sapOf n).chan c
  if !y.wait.isEmpty && (d.sapBits n c y.wait).sapAudible n c == d.sapAudible n c then d.sapTake n c else d

/-- A sample is a zero crossing (R266; log entry 163 for a sample after a 0). -/
def zeroCross (last v : Int) : Bool := v == 0 || (decide (v < 0) && decide (0 < last)) || (decide (0 < v) && decide (last < 0))

/-- A ramp at its next sample: what the channel carries, and the channel after it (R267). -/
def Dev.sapRamp (d : Dev) (n c : Nat) (ops : List Nat) (m : MuteRamp) (v : Int) : Option Int × Dev :=
  let (g, m) := m.next (d.zcFade n)
  let out := some (mulGain v g)
  let y := (d.sapOf n).chan c
  if m.moving then (out, d.setSapCh n c { y with ramp := some (ops, m) })
  else
    let d := d.setSapCh n c { y with ramp := none }
    (out, if m.pos = 32 then (d.sapBits n c ops).sapMoot n c else d)

/-- The timeout: a ramp that carries out every command that waits begins at this sample, from the gain at which `m` stands, with
what a ramp that falls already carries out (R267). A rise has its commands in force from its start. -/
def Dev.sapTimeout (d : Dev) (n c : Nat) (ops : List Nat) (m : MuteRamp) (v : Int) : Option Int × Dev :=
  let falls := d.sapAudible n c
  let y := (d.sapOf n).chan c
  let d := (d.inc (rSAPnn_ZC_TO_CNT n)).putB (fSapPend n c) false
  let d := d.setSapCh n c { y with wait := [], evald := 0 }
  let d := if falls then d else d.sapBits n c y.wait
  d.sapRamp n c (ops ++ y.wait) (m.command falls) v

/-- The commands that a ramp still has to carry out: those of one that falls. -/
def SapCh.owed (y : SapCh) : List Nat :=
  match y.ramp with
  | some (ops, m) => if m.falls then ops else []
  | none => []

/-- One sample of a channel evaluated: its crossing or timeout, and the sample after the gain; none where the channel is not
audible (R265 to R267). -/
def Dev.sapSample (d : Dev) (n c : Nat) (v : Int) : Option Int × Dev :=
  let y := (d.sapOf n).chan c
  let waits := !y.wait.isEmpty
  let d := d.setSapCh n c { y with last := v, evald := if waits then y.evald + 1 else 0 }
  let carried := fun (d : Dev) => if d.sapAudible n c then some v else none
  if waits && zeroCross y.last v then
    let d := ((d.setSapCh n c { (d.sapOf n).chan c with ramp := none }).sapBits n c y.owed).sapTake n c
    (carried d, d)
  else
    let late := waits && decide (d.zcSamples n ≤ y.evald)
    match y.ramp with
    | some (ops, m) => if late then d.sapTimeout n c y.owed m v else d.sapRamp n c ops m v
    | none => if late then d.sapTimeout n c [] (MuteRamp.rest (!d.sapAudible n c)) v else (carried d, d)

/-- Samples of a channel evaluated in order. -/
def Dev.sapSamples (d : Dev) (n c : Nat) : List (Word64 × Int) → Dev
  | [] => d
  | (s, v) :: t =>
    let (w, d) := d.sapSample n c v
    let y := (d.sapOf n).chan c
    (d.setSapCh n c { y with done := y.done ++ [(s, w)] }).sapSamples n c t

/-- Every sample at a channel's handle evaluated. -/
def Dev.sapEval (d : Dev) (n c : Nat) : Dev :=
  let y := (d.sapOf n).chan c
  (d.setSapCh n c { y with raw := [] }).sapSamples n c y.raw

/-- ZERO_CROSSING and ZC_TIMEOUT: the samples that wait at the handle of a channel are evaluated; a crossing, or the
timeout, takes its effect from its own sample on (R266, R267). -/
def Dev.sapCross (d : Dev) (n c : Nat) : Dev := if d.sapOn n then d.sapEval n c else d

/-- A channel command on one channel (R265 to R268). The opposite of what a timeout ramp carries out starts the opposite ramp;
any other command that changes audibility waits. -/
def Dev.sapCommand (d : Dev) (n op c : Nat) : Dev :=
  let y := (d.sapOf n).chan c
  let waitFor := fun (d : Dev) =>
    if y.wait.contains op then d
    else if y.wait.contains (sapUndo op) then
      let w := y.wait.filter (· != sapUndo op)
      (d.setSapCh n c { y with wait := w }).putB (fSapPend n c) (!w.isEmpty)
    else
      let after := d.sapBit n c op
      if after.sapAudible n c = d.sapAudible n c ∨ !d.sapOn n then after.sapMoot n c
      else (d.setSapCh n c { y with wait := y.wait ++ [op], evald := if y.wait.isEmpty then 0 else y.evald }).putB (fSapPend n c) true
  match y.ramp with
  | some (ops, m) =>
    if ops.contains op then d
    else if ops.contains (sapUndo op) then
      let rest := ops.filter (· != sapUndo op)
      d.setSapCh n c { y with ramp := some (if rest.isEmpty then ([op], m.command (!m.falls)) else (rest, m)) }
    else waitFor d
  | none => waitFor d

/-- A write to SAPnn_CH_CMD starts command `op` on the channels it names; OP clears on acceptance. -/
def Dev.sapChCmd (d : Dev) (n op : Nat) : Dev :=
  let out := d.on (fSAPnn_CH_CMD_DIRSEL n)
  let mask := d.get (fSAPnn_CH_CMD_CHMASK n)
  let d := d.put (fSAPnn_CH_CMD_OP n) 0
  if op = 0 ∨ 5 ≤ op then d else
  ((List.range 8).filter fun i => mask / 2 ^ i % 2 == 1).foldl (fun d i => d.sapCommand n op (if out then 8 + i else i)) d

/-! ## Fades of a whole direction (Table 4.4, R262, R270) -/

/-- The gain of a fade at its next sample, and the fade after it; a rise runs ZC_CURVE reversed, as R159 reads a reversed curve. -/
def Dev.fadeStep (d : Dev) (n : Nat) (x : SapFade) : Int × SapFade :=
  match x with
  | .none => (unity, .none)
  | .down i left => (d.zcFade n (i + 1), if 31 ≤ i then .silent left else .down (i + 1) left)
  | .silent none => (0, .silent none)
  | .silent (some k) => (0, if k ≤ 1 then .up 0 else .silent (some (k - 1)))
  | .up i => (unity - d.zcFade n (i + 1), if 31 ≤ i then .none else .up (i + 1))

/-- The port re-centres: its outputs fade out, are silent and fade in; its inputs are silent and fade in (Table 4.4).
The spec does not say how long the silence lasts: a free value. -/
def Dev.sapRecentre (d : Dev) (n : Nat) : Dev :=
  let (k, d) := d.freeNat
  let x := d.sapOf n
  let out := match x.fadeOut with
    | .silent _ => SapFade.silent (some k)
    | .down i _ => .down i (some k)
    | _ => .down 0 (some k)
  d.setSap n { x with fadeIn := .silent (some k), fadeOut := out }

/-- Both directions of a port are silent until it recovers (R269). -/
def Dev.sapSilent (d : Dev) (n : Nat) : Dev :=
  let x := d.sapOf n
  d.setSap n { x with fadeIn := .silent none, fadeOut := .silent none }

/-! ## Slot masks (R263, R264, R271) -/

/-- The ball group of lane pair `q` of a port, if DMX shares it. -/
def sapGroup (n q : Nat) : Option Nat := if 22 ≤ n then some (8 + 2 * (n - 22) + q) else none

/-- The lane pairs of a mask that have a position set claim their ball groups; the mask with refused pairs cleared. -/
def Dev.sapClaims (d : Dev) (n mask : Nat) : Nat × Dev :=
  (List.range 2).foldl (fun (m, d) q =>
    match sapGroup n q with
    | some g =>
      if m / 16 ^ q % 16 = 0 then (m, d)
      else match d.claimGrp g 1 with
        | (true, d) => (m, d)
        | (false, d) => (m - m / 16 ^ q % 16 * 16 ^ q, d)
    | none => (m, d)) (mask, d)

/-- SLOT_MASK_WRITE: the masked write `v` is held until its frame (R263, R271). One that selects no bit changes nothing (R430). -/
def Dev.sapMaskWrite (d : Dev) (n v : Nat) : Dev :=
  let wm := v / 65536 % 4096
  if wm = 0 then d else
  let old := (d.reg (rSAPnn_SLOT_MASK n)).toNat
  let new := (BitVec.ofNat 12 old &&& ~~~(BitVec.ofNat 12 wm)) ||| (BitVec.ofNat 12 v &&& BitVec.ofNat 12 wm)
  let (m, d) := d.sapClaims n (new.toNat % 256)
  (d.setReg (rSAPnn_SLOT_MASK n) (BitVec.ofNat 32 (new.toNat / 256 * 256 + m))).putB (fSAPnn_STS_MASK_PEND n) true

/-- A mask takes force: the counts follow. -/
def Dev.sapSetMask (d : Dev) (n : Nat) (mask : BitVec 8) (dir : BitVec 4) : Dev :=
  let x := { d.sapOf n with mask := mask, dir := dir }
  (d.setSap n x).puts [(fSAPnn_STS_IN_COUNT n, (x.positions false).length), (fSAPnn_STS_OUT_COUNT n, (x.positions true).length)]

/-- The held mask applies: directions, counts, and groups of pairs it leaves empty (R263, R264, R271). -/
def Dev.sapMaskTake (d : Dev) (n : Nat) : Dev :=
  let m := d.get (fSAPnn_SLOT_MASK_MASK n)
  let d := (d.putB (fSAPnn_STS_MASK_PEND n) false).sapSetMask n (BitVec.ofNat 8 m) (BitVec.ofNat 4 (d.get (fSAPnn_SLOT_MASK_DIR n)))
  (List.range 2).foldl (fun d q =>
    match sapGroup n q with
    | some g => if m / 16 ^ q % 16 = 0 then d.releaseGrp g 1 else d
    | none => d) d

/-- SLOT_MASK_APPLY: the opening edge of a frame; under a word-select fault the mask waits for the first valid frame. -/
def Dev.sapMaskApply (d : Dev) (n : Nat) : Dev :=
  if d.sapOn n && d.on (fSAPnn_STS_MASK_PEND n) && !d.on (fSAPnn_STS_RESYNC n) then d.sapMaskTake n else d

/-! ## Enable and disable (R258, R272) -/

/-- The codes of Table 10.2, 0 when none applies. -/
def Dev.sapCheck (d : Dev) (n : Nat) : Nat :=
  let master := d.on (fSAPnn_CTL_MASTER n)
  let w24 := d.on (fSAPnn_CTL_SLOT n)
  let (a, b) := d.mcgFs (d.get (fSAPnn_CTL_MCG n))
  let (ha, hb) := d.mcgFs (d.get fMCG_HOUSE_HOUSE)
  let den := b * d.sapDiv n
  if d.get (fSAPnn_CTL_FMT n) = 3 ∨ d.get (fSAPnn_CTL_WLEN n) = 3 ∨ d.get (fSAPnn_CTL_DIV n) = 3 then 1
  else if (if w24 then 24 else 32) < d.sapLen n then 2
  else if master ∧ w24 then 3
  else if master ∧ (a < 31968 * den ∨ 192192 * den < a) then 4
  else if master ∧ !d.sapBypass n ∧ (4 * a * hb < ha * den ∨ 4 * ha * den < a * hb) then 5
  else 0

/-- SAP_ENABLE: a write of 1 to EN, EN set already (R258). A lane pair whose ball group is held elsewhere leaves the mask and the
mask in force (R271; log entry 35). -/
def Dev.sapEnable (d : Dev) (n : Nat) : Dev :=
  match d.sapCheck n with
  | 0 =>
    let d := d.puts [(fSAPnn_STS_CFG_ERR n, 0), (fSAPnn_STS_ERR_CODE n, 0)]
    let x := d.sapOf n
    let d := d.setSap n { mask := x.mask, dir := x.dir, ch := x.ch.map fun e => (e.1, { e.2 with raw := [], done := [] }) }
    let was := d.get (fSAPnn_SLOT_MASK_MASK n)
    let (m, d) := d.sapClaims n was
    let d := (d.put (fSAPnn_SLOT_MASK_MASK n) m).sapSetMask n (x.mask &&& ~~~(BitVec.ofNat 8 (was - m))) x.dir
    if d.sapBypass n then d else d.sapSilent n
  | code =>
    (d.puts [(fSAPnn_CTL_EN n, 0), (fSAPnn_STS_CFG_ERR n, 1), (fSAPnn_STS_ERR_CODE n, code)]).inc rSAP_REFUSE_CNT

/-- The port has ended: its converter is cleared and its ball groups are released (R272). -/
def Dev.sapOff (d : Dev) (n : Nat) : Dev :=
  let x := d.sapOf n
  let d := d.setSap n { mask := x.mask, dir := x.dir, f := x.f, ch := x.ch }
  let d := d.puts [(fSAPnn_STS_RUN n, 0), (fSAPnn_STS_ASRC_LOCK n, 0), (fSAPnn_STS_RESYNC n, 0),
    (fSAPnn_STS_CLK_LOSS n, 0), (fSAPnn_STS_RATIO_ERR n, 0)]
  (List.range 2).foldl (fun d q =>
    match sapGroup n q with
    | some g => d.releaseGrp g 1
    | none => d) d

/-- SAP_DISABLE: a write of 0 to EN, EN cleared already: waiting commands and ramps take their target, and the port ends with the
frame in progress (R272). -/
def Dev.sapDisable (d : Dev) (n : Nat) : Dev :=
  let d := (List.range 16).foldl (fun d c =>
    let y := (d.sapOf n).chan c
    let d := (d.sapBits n c y.owed).sapTake n c
    d.setSapCh n c { (d.sapOf n).chan c with ramp := none }) d
  let d := d.unfollow (d.get (fSAPnn_CTL_MCG n)) (.sap (Fin.ofNat 24 n))
  let x := d.sapOf n
  let open_ := d.on (fSAPnn_STS_RUN n) && d.domOn (5 + n / 6)
    && (if d.on (fSAPnn_CTL_MASTER n) then !x.frames.isEmpty else !d.on (fSAPnn_STS_CLK_LOSS n))
  if open_ then d.setSap n { x with frames := x.frames.take 1, ending := true } else d.sapOff n

/-! ## Frames (R254 to R256, R260, R262, R269) -/

/-- The port's converter is in use and locked, or the port is bypassed: samples pass. -/
def Dev.sapPasses (d : Dev) (n : Nat) : Bool := d.sapBypass n || d.on (fSAPnn_STS_ASRC_LOCK n)

/-- An output sample as its word: dither, rounding, saturation; and whether it saturated (R255). -/
def Dev.sapWord (d : Dev) (n f i : Nat) (v : Int) : Nat × Bool :=
  let l := d.sapLen n
  let v := if d.on (fSAPnn_CTL_DITHER n) then
      let h := crc32 (beBytes 8 f ++ beBytes 2 (0x9000 + 8 * n + i) ++ beBytes 2 0)
      v + ((h % 65536 + h / 65536 : Nat) - 65535 : Int) * 2 ^ (d.sapShift n - 16)
    else v
  let y := roundShift v (d.sapShift n)
  let z := satI l y
  (unsgn l z, z != y)

/-- The sample that output channel `i` sends in the frame of SIDX `t`, if the port is bypassed (R260); none where the channel
is not audible. -/
def Dev.sapOut (d : Dev) (n i : Nat) (t : Word64) : Option Int × Dev :=
  let d := d.sapEval n (8 + i)
  let s := t - BitVec.ofNat 64 (2 * d.blockLen + 1)
  let y := (d.sapOf n).chan (8 + i)
  let v := match y.done.find? fun x => x.1 == s with
    | some x => x.2
    | none => if d.sapAudible n (8 + i) then some 0 else none
  (v, d.setSapCh n (8 + i) { y with done := y.done.filter fun x => decide (0 < sdiff64 x.1 s) })

/-- The delay of the rate converter in ns: 64 port samples and 16 house samples (R261). -/
def Dev.asrcDelay (d : Dev) (n : Nat) : Int :=
  let (a, b) := d.mcgFs (d.get fMCG_HOUSE_HOUSE)
  let house := 1000000000 * b
  ((64 * house * 2 ^ 28 / max 1 (a * (d.reg (rSAPnn_ASRC_RATIO n)).toNat) + 16 * house / max 1 a : Nat) : Int)

/-- The samples that the rate converter weighs at an instant: those no further than its delay from one delay before (R261). -/
def Dev.asrcNear {α : Type} (d : Dev) (n : Nat) (at_ : Int) (rows : List (Int × α)) : List (Int × α) :=
  let delay := d.asrcDelay n
  rows.filter fun r => decide ((r.1 - (at_ - delay)).natAbs ≤ delay.toNat)

/-- What the rate converter gives at an instant, from samples with their instants, newest first: the signal as it stood one
delay before; silence from silence (R261; log entry 185). -/
def Dev.asrcAt (d : Dev) (n : Nat) (at_ : Int) (rows : List (Int × Int)) : Int :=
  let delay := d.asrcDelay n
  let near := d.asrcNear n at_ rows
  if near.all (·.2 == 0) then 0 else sat64 (Config.asrc (near.map (·.2)) (at_ - delay - (near.head?.map (·.1)).getD 0))

/-- The converter passes samples: it is locked, and the house clock, its other side, ticks (R262, Table 4.5). -/
def Dev.asrcRuns (d : Dev) (n : Nat) : Bool :=
  d.on (fSAPnn_STS_ASRC_LOCK n) && !d.on (fSAPnn_STS_RESYNC n) && (d.mcgOf (d.get fMCG_HOUSE_HOUSE)).ticking

/-- The sample that output channel `i` of a port behind its converter sends; none while it does not pass samples, or where the
channel was not audible at any of them. SOUT sample S enters the converter at the instant of S + 2 × B + 1 (R260, R261). -/
def Dev.sapOutConv (d : Dev) (n i : Nat) : Option Int × Dev :=
  let d := d.sapEval n (8 + i)
  let y := (d.sapOf n).chan (8 + i)
  let d := d.setSapCh n (8 + i) { y with done := y.done.drop (y.done.length - 1024) }
  if !d.asrcRuns n then (none, d)
  else
    let rows := y.done.reverse.filterMap fun x =>
      (d.tickInstant (d.get fMCG_HOUSE_HOUSE) (x.1 + BitVec.ofNat 64 (2 * d.blockLen + 1))).map fun t => (t, x.2)
    let near := d.asrcNear n d.ft64.toNat rows
    if near.all (·.2.isNone) ∧ (!near.isEmpty ∨ !d.sapAudible n (8 + i)) then (none, d)
    else (some (d.asrcAt n d.ft64.toNat (rows.map fun r => (r.1, r.2.getD 0))), d)

/-- The words of one frame's output channels, from channel `i` on; a channel that carries zero sends 0 (R262, R265). -/
def Dev.sapWords (d : Dev) (n f : Nat) (gain : Option Int) (t : Option Word64) : List Nat → Nat → List (Nat × Nat) × Dev
  | [], _ => ([], d)
  | p :: ps, i =>
    let (v, d) := match t with
      | some t => d.sapOut n i t
      | none => d.sapOutConv n i
    let (w, sat) := match v, gain with
      | some v, some g => d.sapWord n f i (mulGain (sat64 v) g)
      | _, _ => (0, false)
    let d := if sat then d.inc (rSAPnn_SAT_CNT n) else d
    let (rest, d) := d.sapWords n f gain t ps (i + 1)
    ((p, w) :: rest, d)

/-- The frame at the balls: what the output lanes drive, word bits of the frame before in cycle 0 (R254). An input lane is never
driven. -/
def Dev.sapDrive (d : Dev) (n : Nat) (ws : List (Nat × Nat)) : Dev :=
  let x := d.sapOf n
  let len := 2 ^ (2 * d.sapSlot n)
  let bits := (List.range 4).map fun q =>
    if x.dir.getLsbD q then d.sapLane n q (ws.filter fun w => w.1 / 2 == q) + x.carry.getD q 0 else 0
  d.setSap n { x with lanes := bits.map (· % len), carry := bits.map (· / len),
                      ws := if d.on (fSAPnn_CTL_MASTER n) then d.sapWs n % len else 0 }

/-- The frame's outputs. -/
def Dev.sapSend (d : Dev) (n : Nat) (t : Option Word64) : Dev :=
  let x := d.sapOf n
  let (g, fade) := d.fadeStep n x.fadeOut
  let g := match x.fadeOut with
    | .silent _ => none
    | _ => some g
  let d := d.setSap n { x with fadeOut := fade, f := x.f + 1 }
  let outs := x.positions true
  let (ws, d) := d.sapWords n x.f g t outs 0
  let d := ((List.range 8).filter (outs.length ≤ ·)).foldl (fun d i =>
    let d := d.sapEval n (8 + i)
    d.setSapCh n (8 + i) { (d.sapOf n).chan (8 + i) with done := [] }) d
  d.sapDrive n ws

/-- The input channels of a frame in S64, by compacted channel (R255). -/
def Dev.sapInputs (d : Dev) (n : Nat) (words : List Nat) : List Int :=
  ((d.sapOf n).positions false).map fun p => sgn (d.sapLen n) (words.getD p 0) * 2 ^ d.sapShift n

/-- The words of a bypassed frame become sample `s` of the SIN handles (R255, R260). -/
def Dev.sapTakeIn (d : Dev) (n : Nat) (s : Word64) (words : List Nat) : Dev :=
  (d.sapInputs n words).zipIdx.foldl (fun d v =>
    let y := (d.sapOf n).chan v.2
    d.setSapCh n v.2 { y with raw := y.raw ++ [(s, v.1)] }) d

/-- The words of a frame enter the transfer buffer of the converter (R261). -/
def Dev.sapBuffer (d : Dev) (n : Nat) (words : List Nat) : Dev :=
  let x := d.sapOf n
  d.setSap n { x with rows := ((d.ft64, d.sapInputs n words) :: x.rows).take 512 }

/-- The measured ratio, Q4.28, and the port rate it implies lie in range (R257, R262). -/
def Dev.sapRatioOk (d : Dev) (n ratio : Nat) : Bool :=
  let (a, b) := d.mcgFs (d.get fMCG_HOUSE_HOUSE)
  decide (2 ^ 26 ≤ ratio) && decide (ratio ≤ 2 ^ 30)
    && (d.on (fSAPnn_CTL_MASTER n) || (decide (31968 * b * 2 ^ 28 ≤ ratio * a) && decide (ratio * a ≤ 192192 * b * 2 ^ 28)))

/-- What a frame does to the converter of a port that is not bypassed: the ratio is tracked; out of range the port runs
as before lock; a drift of the transfer buffer re-centres it (R262). -/
def Dev.sapTrack (d : Dev) (n ratio : Nat) (drift : Bool) : Dev :=
  if d.sapBypass n then d else
  let d := d.setReg (rSAPnn_ASRC_RATIO n) (BitVec.ofNat 32 ratio)
  if !d.sapRatioOk n ratio then
    ((d.putB (fSAPnn_STS_RATIO_ERR n) true).putB (fSAPnn_STS_ASRC_LOCK n) false).sapSilent n
  else if drift && d.on (fSAPnn_STS_ASRC_LOCK n) then (d.sapRecentre n).inc (rSAPnn_ASRC_UNLOCK_CNT n)
  else d

/-- A master port's frame of SIDX `s` completes. -/
def Dev.masterFrame (d : Dev) (n : Nat) (s : Word64) (words : List Nat) (ratio : Nat) (drift : Bool) : Dev :=
  let d := (d.setSap n { d.sapOf n with seen := true }).sapTrack n ratio drift
  if d.sapBypass n then (d.sapTakeIn n s words).sapSend n (some s) else (d.sapBuffer n words).sapSend n none

/-- A slave port's frame fails a check: a word-select fault (R269). Until the port's first valid frame it has opened none, and F
does not count (R255, R258). -/
def Dev.slaveFault (d : Dev) (n : Nat) : Dev :=
  let d := if d.on (fSAPnn_STS_RESYNC n) then d
    else ((d.inc (rSAPnn_WS_ERR_CNT n)).putB (fSAPnn_STS_RESYNC n) true).sapSilent n
  let x := d.sapOf n
  (d.setSap n { x with f := if x.seen then x.f + 1 else x.f }).sapDrive n []

/-- A slave port's valid frame completes; the first one after a fault or a clock loss realigns the port, whose outputs have carried
nothing while the clock was away (R263, R269, R270). -/
def Dev.slaveFrame (d : Dev) (n : Nat) (words : List Nat) (ratio : Nat) (drift : Bool) : Dev :=
  let hurt := d.on (fSAPnn_STS_RESYNC n) || d.on (fSAPnn_STS_CLK_LOSS n)
  let dead := d.on (fSAPnn_STS_CLK_LOSS n)
  let d := d.puts [(fSAPnn_STS_RESYNC n, 0), (fSAPnn_STS_CLK_LOSS n, 0), (fSAPnn_STS_RUN n, 1)]
  let d := d.setSap n { d.sapOf n with seen := true, fadeOut := if dead then .silent none else (d.sapOf n).fadeOut }
  let d := if hurt && d.on (fSAPnn_STS_MASK_PEND n) then d.sapMaskTake n else d
  let d := if hurt && d.on (fSAPnn_STS_ASRC_LOCK n) then d.sapRecentre n else d
  ((d.sapTrack n ratio drift).sapBuffer n words).sapSend n none

/-- SAP_FRAME: a frame of port `n` completes. `ws` and `lanes`: the levels of WS and the bits sampled on the four lanes, cycle c
in bit c, from the opening edge to cycle 0 of the next frame; `ratio` and `drift`: what the converter measures. A frame in
progress at a disable is the port's last (R272). -/
def Dev.sapFrame (d : Dev) (n : Nat) (ws : Nat) (lanes : List Nat) (ratio : Nat) (drift : Bool) : Dev :=
  if !d.sapRuns n then d else
  let x := d.sapOf n
  let words := d.sapFrameWords n lanes
  let finish := fun (d : Dev) => if x.ending then d.sapOff n else d
  if d.on (fSAPnn_CTL_MASTER n) then
    match x.frames with
    | [] => d
    | s :: t => finish ((d.setSap n { x with frames := t }).masterFrame n s words ratio drift)
  else if d.sapValid n ws then finish (d.slaveFrame n words ratio drift)
  else finish (d.slaveFault n)

/-- ASRC_LOCK: the converter locks at a measured ratio, and every channel fades in (R262). -/
def Dev.asrcLock (d : Dev) (n ratio : Nat) : Dev :=
  if !(d.sapOn n && (d.sapOf n).seen && !d.sapBypass n) ∨ d.on (fSAPnn_STS_ASRC_LOCK n) then d else
  let d := d.setReg (rSAPnn_ASRC_RATIO n) (BitVec.ofNat 32 ratio)
  if d.sapRatioOk n ratio then
    let d := d.puts [(fSAPnn_STS_RATIO_ERR n, 0), (fSAPnn_STS_ASRC_LOCK n, 1)]
    d.setSap n { d.sapOf n with fadeIn := .up 0, fadeOut := .up 0 }
  else d.putB (fSAPnn_STS_RATIO_ERR n) true

/-- SAP_CLK_LOSS: a slave port has seen no BCLK edge for 4 frame periods (R270). -/
def Dev.sapClkLoss (d : Dev) (n : Nat) : Dev :=
  if !d.sapOn n ∨ d.on (fSAPnn_CTL_MASTER n) ∨ d.on (fSAPnn_STS_CLK_LOSS n) ∨ !(d.sapOf n).seen then d else
  let x := d.sapOf n
  let fall := fun (y : SapFade) => match y with
    | .silent _ => SapFade.silent none
    | _ => .down 0 none
  ((d.setSap n { x with fadeIn := fall x.fadeIn, fadeOut := fall x.fadeOut }).putB (fSAPnn_STS_CLK_LOSS n) true).inc (rSAPnn_CLK_LOSS_CNT n)

/-! ## Ticks and blocks -/

/-- A tick word reaches a master port: a frame opens on every SIDX that DIV divides; a rebase re-centres (R256,
Table 4.4). -/
def Dev.sapTick (d : Dev) (n : Nat) (s : Word64) (rebase : Bool) : Dev :=
  if !d.sapOn n then d else
  let d := if rebase && (d.sapOf n).seen then d.sapRecentre n else d
  if s.toNat % d.sapDiv n = 0 then
    let x := d.sapOf n
    (d.setSap n { x with frames := x.frames ++ [s] }).putB (fSAPnn_STS_RUN n) true
  else d

/-- A rebase of the house clock, the other side of every converter: ports behind a locked one re-centre (Table 4.4). -/
def Dev.sapHouseRebase (d : Dev) : Dev :=
  (List.range 24).foldl (fun d n => if d.sapOn n && !d.sapBypass n && d.asrcRuns n then d.sapRecentre n else d) d

/-- A generator stops: a master port of it completes its frame and waits with its clocks low (Table 4.5). -/
def Dev.sapGenStopped (d : Dev) (n g : Nat) : Dev :=
  if d.sapOn n && d.on (fSAPnn_CTL_MASTER n) && d.get (fSAPnn_CTL_MCG n) == g then d.putB (fSAPnn_STS_RUN n) false else d

/-- One house sample of a SIN channel as the gather takes it. -/
def Dev.sinTake (d : Dev) (n i : Nat) (s : Word64) : Int × Dev :=
  let d := d.sapEval n i
  let y := (d.sapOf n).chan i
  (((y.done.find? fun x => x.1 == s).bind (·.2)).getD 0,
    d.setSapCh n i { y with done := y.done.filter fun x => decide (0 < sdiff64 x.1 s) })

/-- What stands at a SIN handle at house sample `s` before the channel's gain: the converter's sample while it passes samples,
else zero (R261, R262). -/
def Dev.sinConvert (d : Dev) (n i : Nat) (s : Word64) : Dev :=
  let x := d.sapOf n
  let v := match d.asrcRuns n, d.tickInstant (d.get fMCG_HOUSE_HOUSE) s with
    | true, some t => d.asrcAt n t (x.rows.map fun r => ((r.1.toNat : Int), r.2.getD i 0))
    | _, _ => 0
  let y := x.chan i
  d.setSapCh n i { y with raw := y.raw ++ [(s, v)] }

/-- The eight SIN samples of port `n` at house sample `s` (R199, R253, R260, R262). A channel beyond the input count has zeros at
its handle, on which a command waits no longer than for the first (R253, R266). -/
def Dev.sinRow (d : Dev) (n : Nat) (s : Word64) : List Int × Dev :=
  let cnt := ((d.sapOf n).positions false).length
  let (g, fade) := d.fadeStep n (d.sapOf n).fadeIn
  let d := d.setSap n { d.sapOf n with fadeIn := fade }
  (List.range 8).foldl (fun (row, d) i =>
    let d := if cnt ≤ i then d.setSapCh n i { (d.sapOf n).chan i with raw := [(s, 0)], done := [] }
      else if d.sapOn n && !d.sapBypass n then d.sinConvert n i s else d
    let (v, d) := d.sinTake n i s
    (row ++ [if cnt ≤ i then 0 else mulGain v g], d)) ([], d)

/-- The port has input samples for a gather: it works, or it has ended with frames that no gather has taken yet. -/
def Dev.sapFeeds (d : Dev) (n : Nat) : Bool :=
  d.sapOn n || (d.sapOf n).ch.any fun e => decide (e.1 < 8) && !(e.2.raw.isEmpty && e.2.done.isEmpty)

/-- The words of every frame of a bypassed port that carries samples `s` to `s + n − 1` have come: the gather waits for them
(R260). -/
def Dev.sapReady (d : Dev) (s : Word64) (n : Nat) : Bool :=
  (List.range 24).all fun p => !(d.sapRuns p && d.sapBypass p && !((d.sapOf p).positions false).isEmpty) ||
    (d.sapOf p).frames.all fun k => !(decide (0 ≤ sdiff64 k s) && decide (sdiff64 k s < n))

/-- A sample that a job writes to SOUT channel `i` of port `n` (R253, R266). -/
def Dev.soutFeed (d : Dev) (n i : Nat) (s : Word64) (v : Int) : Dev :=
  if d.sapOn n then
    let y := (d.sapOf n).chan (8 + i)
    d.setSapCh n (8 + i) { y with raw := y.raw ++ [(s, v)] }
  else d

end Sys2Proof.Machine
end

