-- ==== Sys2Proof/Machine/Jobs.lean ====
section
/-! DEFINITION. The job table of Anvil (R200 to R204, R216, R233): entries, what a job reads and writes, costs,
validation and effective classes. -/

namespace Sys2Proof.Machine

open Sys2Proof

/-! ## Heap (R198, R200) -/

/-- A heap word, by word address. -/
def Dev.heap (d : Dev) (a : Nat) : Nat := readWord64 d.store (8 * a)

/-- A heap word as a signed number. -/
def Dev.heapI (d : Dev) (a : Nat) : Int := sgn 64 (d.heap a)

/-- First heap word. -/
def heapBase : Nat := 0x29800

/-! ## Entries (Table 8.3) -/

/-- Table memory offset of entry `j` of bank `b`. -/
def jobAt (b j : Nat) : Nat := 0x040000 + 0x80000 * b + 16 * j

/-- A job entry. -/
structure Job where
  bank : Nat
  entry : Nat
  w0 : Nat
  w1 : Nat
  deriving DecidableEq, Repr

/-- A field of word 0, and of word 1. -/
def Job.f0 (j : Job) (hi lo : Nat) : Nat := j.w0 / 2 ^ lo % 2 ^ (hi + 1 - lo)
def Job.f1 (j : Job) (hi lo : Nat) : Nat := j.w1 / 2 ^ lo % 2 ^ (hi + 1 - lo)

def Job.typ (j : Job) : Nat := j.f0 63 60
def Job.cls (j : Job) : Nat := j.f0 59 58
def Job.en (j : Job) : Bool := j.f0 57 57 == 1
def Job.deadline (j : Job) : Nat := j.f0 55 48
def Job.dst (j : Job) : Nat := j.f0 47 32
def Job.src (j : Job) : Nat := j.f0 31 16

/-- SPAN of COPY and GAIN. -/
def Job.span (j : Job) : Nat := j.f0 6 0

/-- TAPS, DIR and MCG of SRC. -/
def Job.taps (j : Job) : Nat := j.f0 10 4
def Job.dir (j : Job) : Nat := j.f0 3 3
def Job.mcg (j : Job) : Nat := j.f0 2 0

/-- Entry `j` of bank `b`. -/
def Dev.job (d : Dev) (b j : Nat) : Job :=
  { bank := b, entry := j, w0 := readWord64 d.tbl (jobAt b j), w1 := readWord64 d.tbl (jobAt b j + 8) }

/-- A list without repeats that follow one another. -/
def noRepeats : Option Nat → List Nat → List Nat
  | _, [] => []
  | p, x :: t => if p = some x then noRepeats p t else x :: noRepeats (some x) t

/-- Entries of bank `b` that are not all zero, ascending. -/
def Dev.jobIndices (d : Dev) (b : Nat) : List Nat :=
  noRepeats none
    ((d.tbl.filter fun c => decide (jobAt b 0 ≤ c.1) && decide (c.1 < jobAt b 32768)).map fun c => (c.1 - jobAt b 0) / 16)

/-- The entries of a list up to its END. -/
def upToEnd : List Job → List Job
  | [] => []
  | j :: t => if j.typ = 15 then [] else j :: upToEnd t

/-- The list of bank `b` (R201). Entries that are all zero are NOPs that do not run. -/
def Dev.bankList (d : Dev) (b : Nat) : List Job := upToEnd ((d.jobIndices b).map (d.job b))

/-- The entry's words hold no uncorrectable error (Table 22.1). -/
def Dev.jobSound (d : Dev) (j : Job) : Bool :=
  !(d.poisoned 3 (jobAt j.bank j.entry / 8) || d.poisoned 3 (jobAt j.bank j.entry / 8 + 1))

/-- The enabled jobs of bank `b`. -/
def Dev.bankJobs (d : Dev) (b : Nat) : List Job := (d.bankList b).filter fun j => j.en && j.typ != 0 && d.jobSound j

/-! ## What a job reads and writes (Table 8.5) -/

/-- `n` handles from `h` on. -/
def handles (h n : Nat) : List Nat := (List.range n).map (h + ·)

/-- The handle of a Contrail channel's playback (R214). -/
def ctlHandle (cch : Nat) : Nat := 0x5000 + cch

/-- The sources of a MIX with their gains, in list order. -/
def Dev.mixList (d : Dev) (j : Job) : List (Nat × Int) :=
  (List.range (j.f0 9 0)).map fun k => (d.heap (j.f1 18 0 + 2 * k) % 65536, d.heapI (j.f1 18 0 + 2 * k + 1))

/-- Handles a job reads. -/
def Dev.jobReads (d : Dev) (j : Job) : List Nat :=
  match j.typ with
  | 1 | 2 => handles j.src j.span
  | 3 => ((d.mixList j).map (·.1)).filter (· != 0)
  | 4 | 5 | 6 | 7 | 8 | 10 => [j.src]
  | _ => []

/-- Handles a job writes. -/
def Job.writes (j : Job) : List Nat :=
  match j.typ with
  | 1 | 2 => handles j.dst j.span
  | 3 | 4 | 5 | 6 | 7 | 9 => [j.dst]
  | 11 => [ctlHandle (j.f0 7 0)]
  | _ => []

/-- Heap regions a job names: first word, words, and whether the job writes there. -/
def Job.regions (j : Job) : List (Nat × Nat × Bool) :=
  match j.typ with
  | 2 => [(j.f1 18 0, 5, true)]
  | 3 => [(j.f1 18 0, 2 * j.f0 9 0, false)]
  | 4 => [(j.f1 50 32, 11, false), (j.f1 18 0, 4, true)]
  | 5 => [(j.f1 18 0, j.f0 12 0 + 1, true)]
  | 6 => [(j.f1 50 32, 1, true)]
  | 7 => [(j.f1 56 38, j.taps + 2, true), (j.f1 37 19, 257 * j.taps, false)]
      ++ (if j.f1 18 0 = 0 then [] else [(j.f1 18 0, 257 * 16, false)])
  | 8 => [(j.f1 18 0, 4, true)]
  | 9 => [(j.f1 18 0, 2, false)]
  | 11 => [(j.f1 18 0, 1, false)]
  | _ => []

/-- Two regions share a word. -/
def meet (a b : Nat × Nat × Bool) : Bool := decide (a.1 < b.1 + b.2.1) && decide (b.1 < a.1 + a.2.1)

/-- Job `a` writes a heap word that `b` names. -/
def heapInto (a b : Job) : Bool := a.regions.any fun x => x.2.2 && b.regions.any fun y => meet x y

/-- Job `a` writes a handle or a heap word that `b` reads. -/
def Dev.feeds (d : Dev) (a b : Job) : Bool := a.writes.any (d.jobReads b).contains || heapInto a b

/-- Job `a` reads a handle that `b` writes, or names a heap word that `b` writes: `b` does not start before `a`. -/
def Dev.ahead (d : Dev) (a b : Job) : Bool := (d.jobReads a).any b.writes.contains || heapInto b a

/-! ## Costs (R204, R237) -/

/-- n_max of an SRC job for a block of `n` samples. -/
def Dev.srcMax (d : Dev) (j : Job) (n : Nat) : Nat :=
  if j.dir = 0 then n else
  let (fa, fb) := d.mcgFs j.mcg
  let (ha, hb) := d.mcgFs (d.get fMCG_HOUSE_HOUSE)
  (n * fa * hb + ha * fb - 1) / (ha * fb)

/-- The lane-cycles of a job in a block of `n` samples, in full or reduced. -/
def Dev.jobCost (d : Dev) (j : Job) (n : Nat) (reduced : Bool) : Nat :=
  match j.typ with
  | 1 | 2 => j.span * n
  | 3 => j.f0 9 0 * n
  | 4 => if reduced then n else 5 * n
  | 5 | 6 | 8 | 9 => 2 * n
  | 7 => (if reduced then 16 else j.taps) * d.srcMax j n
  | 10 | 11 => n
  | _ => 0

/-- An energy weight in pJ per lane-cycle at a point of Table 9.2. -/
def Dev.weight (d : Dev) (p : Nat) : Int := curveWhole (d.curveAt (d.get fSCH_CURVES_WEIGHT_CURVE) p 1)

/-- The energy of a job in a block, in pJ. -/
def Dev.jobEnergy (d : Dev) (j : Job) (n : Nat) (reduced : Bool) : Int :=
  d.jobCost j n reduced * d.weight (if j.typ = 4 ∧ reduced then 12 else j.typ)

/-! ## Effective classes (R233) -/

/-- Effective classes of a list of jobs, in the order of the list: each job's own class and those of the later jobs that
read what it writes. -/
def Dev.classes (d : Dev) : List Job → List (Job × Nat)
  | [] => []
  | j :: t =>
    let rest := d.classes t
    (j, rest.foldl (fun c x => if d.feeds j x.1 then min c x.2 else c) j.cls) :: rest

/-- The jobs of bank `b` with the effective classes that its last validation gave them. -/
def Dev.classed (d : Dev) (b : Nat) : List (Job × Nat) :=
  ((kget [] d.anv.cls b).map fun x => (d.job b x.1, x.2)).filter fun x => d.jobSound x.1

/-- A validation of bank `b` fixes its effective classes (R233). -/
def Dev.fixClasses (d : Dev) (b : Nat) : Dev :=
  { d with anv := { d.anv with cls := kset [] d.anv.cls b ((d.classes (d.bankJobs b)).map fun x => (x.1.entry, x.2)) } }

/-- ANV_COST_P0 to P3 for a list of jobs with their classes. -/
def Dev.classCost (d : Dev) (js : List (Job × Nat)) (c : Nat) : Nat :=
  ((js.filter fun x => x.2 == c).map fun x => d.jobCost x.1 d.blockLen false).sum

/-! ## Validation (Table 8.6) -/

/-- A handle class of Table 1.9 that may be written by most jobs. -/
def busLike (h : Nat) : Bool := h / 4096 == 3 || h / 4096 == 8 || h / 4096 == 9

/-- SRC is allowed for the type. -/
def Dev.srcOk (d : Dev) (j : Job) : Bool :=
  match j.typ with
  | 1 | 2 | 4 | 5 | 6 | 8 | 10 => d.handleValid j.src
  | 3 | 9 | 11 => j.src == 0
  | 7 => d.handleValid j.src && (j.dir == 1 || j.src / 4096 == 1)
  | _ => true

/-- DST is allowed for the type. -/
def Dev.dstOk (d : Dev) (j : Job) : Bool :=
  match j.typ with
  | 1 | 2 | 3 | 4 | 5 | 6 => d.handleValid j.dst && busLike j.dst
  | 7 => d.handleValid j.dst && (if j.dir = 0 then busLike j.dst else j.dst / 4096 == 8)
  | 8 | 10 => j.dst == 0
  | 9 => d.handleValid j.dst && j.dst / 4096 == 4
  | 11 => d.handleValid j.dst && j.dst / 4096 == 5
  | _ => true

/-- The numbers of code 6 are in range. -/
def Dev.rangeOk (d : Dev) (j : Job) : Bool :=
  let fits := fun (h n : Nat) => decide (h % 4096 + n ≤ d.classCount (h / 4096))
  match j.typ with
  | 1 | 2 => decide (1 ≤ j.span) && decide (j.span ≤ 64) && fits j.src j.span && fits j.dst j.span
  | 3 => decide (1 ≤ j.f0 9 0) && decide (j.f0 9 0 ≤ 512)
  | 5 => decide (1 ≤ j.f0 12 0) && decide (j.f0 12 0 ≤ 4096)
  | 6 => decide (j.f0 11 0 < d.dlySlots) && decide (64 ≤ j.f1 17 0) && decide (j.f1 17 0 ≤ 131072)
  | 7 => decide (16 ≤ j.taps) && decide (j.taps ≤ 64) && j.taps % 4 == 0
  | 9 => j.f0 1 0 != 3
  | _ => true

/-- A heap region lies in the heap. -/
def heapOk (r : Nat × Nat × Bool) : Bool := decide (heapBase ≤ r.1) && decide (r.1 + r.2.1 ≤ 0x80000)

/-- The first entry whose job fails a condition. -/
def firstBad (js : List Job) (p : Job → Bool) : Option Nat := (js.find? fun j => !p j).map (·.entry)

/-- The first entry that writes a handle an earlier one writes. -/
def doubleWriter : List Job → List Nat → Option Nat
  | [], _ => none
  | j :: t, seen => if j.writes.any seen.contains then some j.entry else doubleWriter t (seen ++ j.writes)

/-- The lanes' capacity of a block in lane-cycles (code 8). -/
def Dev.capacity (d : Dev) : Nat :=
  let (a, b) := d.mcgFs (d.get fMCG_HOUSE_HOUSE)
  if a = 0 then 0 else d.anv.work.length * d.blockLen * 1000000000 * b / a

/-- Codes 1 to 9 of Table 8.6 on bank `b`, in code order: code and entry. -/
def Dev.validate (d : Dev) (b : Nat) : Option (Nat × Nat) :=
  let all := d.bankList b
  let js := d.bankJobs b
  let code := fun (c : Nat) (e : Option Nat) => e.map fun e => (c, e)
  let cs := d.classes js
  (code 1 (firstBad all fun j => !(decide (12 ≤ j.typ) && decide (j.typ ≤ 14)))).orElse fun _ =>
  (code 2 (firstBad js d.srcOk)).orElse fun _ => (code 3 (firstBad js d.dstOk)).orElse fun _ =>
  (code 4 (doubleWriter js [])).orElse fun _ => (code 5 (firstBad js fun j => j.regions.all heapOk)).orElse fun _ =>
  (code 6 (firstBad js d.rangeOk)).orElse fun _ =>
  (code 7 (((cs.find? fun x => x.1.typ == 7 && (x.1.mcg == d.get fMCG_HOUSE_HOUSE || (x.2 == 2 && x.1.f1 18 0 == 0))).map
    (·.1.entry)))).orElse fun _ =>
  (if d.capacity < d.classCost cs 0 + d.classCost cs 1 then some (8, 0) else none).orElse fun _ =>
  code 9 (if d.ddrIn then none else (js.find? fun j => j.typ == 6 || j.typ == 10 || j.typ == 11).map (·.entry))

/-- Code 11: an enabled entry of each bank names a common heap word; the first such entry of bank `b`. -/
def Dev.sharesHeap (d : Dev) (b other : Nat) : Option Nat :=
  let js := d.bankJobs other
  ((d.bankJobs b).find? fun j => j.regions.any fun x => js.any fun k => k.regions.any fun y => meet x y).map (·.entry)

end Sys2Proof.Machine
end

