-- ==== Sys2Proof/Machine/JobRun.lean ====
section
/-! DEFINITION. What each job type computes in a block (R195 to R215): from the block's signals and the heap to what it
writes when it commits. -/

namespace Sys2Proof.Machine

open Sys2Proof

/-! ## Lanes (R195, R196) -/

/-- Products accumulated with saturation to 128 bits: the accumulator, and whether it saturated. -/
def mac : List (Int × Int) → Int × Bool → Int × Bool
  | [], a => a
  | (x, y) :: t, (acc, s) =>
    let v := acc + x * y
    let w := satI 128 v
    mac t (w, s || w != v)

/-- The output stage: round, shift by `k`, saturate. -/
def outStage (k : Nat) (a : Int × Bool) : Int × Bool :=
  let h := roundShift a.1 k
  let y := sat64 h
  (y, a.2 || y != h)

/-- As `mac`, for products whose second factor has `k` more fraction bits than a lane's operand: the accumulator saturates at
the same values. -/
def macFine (k : Nat) : List (Int × Int) → Int × Bool → Int × Bool
  | [], a => a
  | (x, y) :: t, (acc, s) =>
    let v := acc + x * y
    let w := max (-(2 ^ (127 + k) : Int)) (min ((2 ^ 127 - 1) * 2 ^ k) v)
    macFine k t (w, s || w != v)

/-- One sample from products of Q8.56 operands. -/
def sumUp (ps : List (Int × Int)) : Int × Bool := outStage 56 (mac ps (0, false))

/-! ## Signals (R199, R202, R203) -/

/-- The key of a handle's samples: gathered handles are common to both banks. -/
def sigKey (b h : Nat) : Nat := if h / 4096 = 1 ∨ h / 4096 = 2 then 131072 + h else 65536 * b + h

/-- The samples of a handle as a job of bank `b` sees them; an invalid handle reads as silence (R26). -/
def Dev.sig (d : Dev) (b h : Nat) : List Int := if d.handleValid h then kget [] d.anv.sig (sigKey b h) else []

/-- Sample `i` of a handle. -/
def Dev.sigAt (d : Dev) (b h i : Nat) : Int := (d.sig b h).getD i 0

/-- The block's samples of a handle, `n` of them. -/
def Dev.sigBlock (d : Dev) (b h n : Nat) : List Int := (List.range n).map (d.sigAt b h)

/-- The heap words that a list of signed values takes. -/
def heapWords (a : Nat) (vs : List Int) : List (Nat × Nat) := vs.zipIdx.map fun v => (a + v.2, unsgn 64 v.1)

/-- The values and how many saturated. -/
def tally (l : List (Int × Bool)) : List Int × Nat := (l.map (·.1), (l.filter (·.2)).length)

/-! ## COPY, GAIN, MIX (R205 to R207) -/

/-- COPY. -/
def Dev.runCopy (d : Dev) (j : Job) (n : Nat) : JobOut :=
  { sigs := (List.range j.span).map fun i => (j.dst + i, d.sigBlock j.bank (j.src + i) n) }

/-- The gain states of GAIN over a block: FROM, TO and POS as they stand, sample by sample. -/
def Dev.gainSteps (d : Dev) (j : Job) (from_ dest : Int) : Nat → Nat → Int → List Int × Nat × Int
  | 0, pos, g => ([], pos, g)
  | n + 1, pos, _ =>
    let len := j.f1 63 48
    if pos < len then
      let c := d.curveAcross (j.f0 13 8) (pos + 1) len
      let g := sat64 (from_ + roundShift ((dest - from_) * c) 56)
      let (gs, p, l) := d.gainSteps j from_ dest n (pos + 1) g
      (g :: gs, p, l)
    else
      let (gs, p, l) := d.gainSteps j from_ dest n pos dest
      (dest :: gs, p, l)

/-- GAIN. -/
def Dev.runGain (d : Dev) (j : Job) (n : Nat) : JobOut :=
  let st := j.f1 18 0
  let target := if j.f0 14 14 = 1 then d.curveAt (j.f1 45 40) (sgn 16 (d.heap st)) 1 else d.heapI st
  let fresh := decide (target ≠ d.heapI (st + 3))
  let from_ := if fresh then d.heapI (st + 1) else d.heapI (st + 2)
  let pos := if fresh then 0 else d.heap (st + 4)
  let (gs, pos, last) := d.gainSteps j from_ target n pos (d.heapI (st + 1))
  let outs := (List.range j.span).map fun i =>
    (j.dst + i, tally (gs.zipIdx.map fun g => sumUp [(d.sigAt j.bank (j.src + i) g.2, g.1)]))
  { sigs := outs.map fun o => (o.1, o.2.1), sat := (outs.map fun o => o.2.2).sum,
    heap := heapWords (st + 1) [last, from_, target, pos] }

/-- MIX. -/
def Dev.runMix (d : Dev) (j : Job) (n : Nat) : JobOut :=
  let l := (d.mixList j).filter fun c => c.1 != 0
  let (ys, s) := tally ((List.range n).map fun i => sumUp (l.map fun c => (d.sigAt j.bank c.1 i, c.2)))
  { sigs := [(j.dst, ys)], sat := s }

/-! ## BIQUAD (R208) -/

/-- The samples of a BIQUAD and its state after them; `c` holds b0, b1, b2, a1, a2. -/
def biquad (c : List Int) (bypass : Bool) : List Int → Int × Int × Int × Int → List (Int × Bool) × (Int × Int × Int × Int)
  | [], st => ([], st)
  | x :: t, (x1, x2, y1, y2) =>
    let y := if bypass then (x, false) else
      outStage 60 (mac [(c.getD 0 0, x), (c.getD 1 0, x1), (c.getD 2 0, x2), (-(c.getD 3 0), y1), (-(c.getD 4 0), y2)] (0, false))
    let (ys, st) := biquad c bypass t (x, x1, y.1, y1)
    (y :: ys, st)

/-- BIQUAD. -/
def Dev.runBiquad (d : Dev) (j : Job) (n : Nat) (bypass : Bool) : JobOut :=
  let co := j.f1 50 32
  let set := co + 1 + 5 * (d.heap co % 2)
  let c := (List.range 5).map fun k => d.heapI (set + k)
  let st := j.f1 18 0
  let (ys, x1, x2, y1, y2) := biquad c bypass (d.sigBlock j.bank j.src n)
    (d.heapI st, d.heapI (st + 1), d.heapI (st + 2), d.heapI (st + 3))
  let (ys, s) := tally ys
  { sigs := [(j.dst, ys)], sat := s, heap := heapWords st [x1, x2, y1, y2] }

/-! ## DELAY and DDELAY (R209) -/

/-- A delay line of `len` samples from write index `w`: what leaves it as `xs` enter, the line, the index. -/
def delayLine (len : Nat) : List Int → KMap Int → Nat → (Nat → Int) → List Int × KMap Int × Nat
  | [], m, w, _ => ([], m, w)
  | x :: t, m, w, old =>
    let y := match m.find? fun e => e.1 == w with
      | some e => e.2
      | none => old w
    let (ys, m, w') := delayLine len t ((w, x) :: m.filter fun e => e.1 != w) ((w + 1) % max 1 len) old
    (y :: ys, m, w')

/-- DELAY. -/
def Dev.runDelay (d : Dev) (j : Job) (n : Nat) : JobOut :=
  let line := j.f1 18 0
  let len := j.f0 12 0
  let (ys, m, w) := delayLine len (d.sigBlock j.bank j.src n) [] (d.heap line % max 1 len) fun k => d.heapI (line + 1 + k)
  { sigs := [(j.dst, ys)], heap := (line, w) :: m.map fun e => (line + 1 + e.1, unsgn 64 e.2) }

/-- The items of external memory that a DDELAY job reads for a block, and then writes. -/
def Dev.ddelayItems (d : Dev) (j : Job) (n : Nat) : List Nat :=
  let w := d.heap (j.f1 50 32)
  let len := max 1 (j.f1 17 0)
  (List.range n).map fun i => 131072 * j.f0 11 0 + (w + i) % len

/-- DDELAY, with the samples its read returned. -/
def Dev.runDdelay (d : Dev) (j : Job) (n : Nat) (ext : List Int) : JobOut :=
  let st := j.f1 50 32
  let w := d.heap st
  let xs := d.sigBlock j.bank j.src n
  { sigs := [(j.dst, (List.range n).map fun i => ext.getD i 0)], heap := [(st, (w + n) % max 1 (j.f1 17 0))],
    posts := [{ region := 2, items := (d.ddelayItems j n).zip xs, bytes := 8 * n }] }

/-! ## SRC (R210, R211) -/

/-- A position on a foreign or house time scale: its integer part, and its fraction in units of 2^-32. -/
structure SrcPos where
  whole : Int
  frac : Nat

/-- The position at rate `to` of sample `s` at rate `from_`, both rationals: exact from the SIDX counts. -/
def ratioPos (s : Nat) (from_ dest : Nat × Nat) : SrcPos :=
  let num := s * (dest.1 * from_.2)
  let den := max 1 (dest.2 * from_.1)
  { whole := num / den, frac := num % den * 2 ^ 32 / den }

/-- Both generators count from the epoch in one domain (R210). -/
def Dev.sameEpoch (d : Dev) (g h : Nat) : Bool := (d.mcgOf g).epoch && (d.mcgOf h).epoch && (d.mcgOf g).index == (d.mcgOf h).index

/-- The position on generator `h`'s count of the instant `t`, in units of 2^-32, from the latest tick at or before it, or the
earliest after it. -/
def Dev.tickPos (d : Dev) (h : Nat) (t : Int) : Option Int :=
  let ts := (d.mcgOf h).ticks
  ((ts.find? fun x => decide ((x.2.toNat : Int) ≤ t)).orElse fun _ => ts.getLast?).map fun x =>
    x.1.toNat * 2 ^ 32 + (t - x.2.toNat) * (d.mcgFs h).1 * 2 ^ 32 / (1000000000 * (d.mcgFs h).2)

/-- e^−x in units of 2^-64 for an `x` of at most 0.01 in the same units. -/
def expShort (x : Nat) : Nat := 2 ^ 64 - x + x ^ 2 / 2 ^ 65 - x ^ 3 / (6 * 2 ^ 128) + x ^ 4 / (24 * 2 ^ 192)

/-- A factor in units of 2^-64 to the power `k`. -/
def powFine (f : Nat) : Nat → Nat
  | 0 => 2 ^ 64
  | k + 1 => powFine f k * f / 2 ^ 64

/-- What a first-order lag of 100 ms leaves of a difference after `ns`, in units of 2^-64. -/
def lag100 (ns : Nat) : Nat :=
  if 5000000000 ≤ ns then 0 else powFine (expShort (2 ^ 64 / 100)) (ns / 1000000) * expShort (ns % 1000000 * 2 ^ 64 / 100000000) / 2 ^ 64

/-- The position on generator `h`'s count of sample `s` of generator `g` from the instants of their ticks, measured to 1 ns
and smoothed with a time constant of 100 ms from the position noted last (R210; log entry 184); none where no tick is
known. -/
def Dev.smoothPos (d : Dev) (g h : Nat) (s : Word64) : Option Int :=
  ((d.tickInstant g s).bind (d.tickPos h)).map fun x =>
    match kget none d.anv.pos (8 * g + h) with
    | none => x
    | some (s0, x0) =>
      let ds := sdiff64 s s0
      let guess := x0 + ds * ((d.mcgFs h).1 * (d.mcgFs g).2 * 2 ^ 32 : Nat) / ((d.mcgFs h).2 * (d.mcgFs g).1 : Nat)
      x + (guess - x) * lag100 (ds.natAbs * (1000000000 * (d.mcgFs g).2) / max 1 (d.mcgFs g).1) / 2 ^ 64

/-- The position on generator `h`'s count of sample `s` of generator `g`: exact when both count from the epoch in one
domain, else from the instants of their ticks; none where no tick is known (R210). -/
def Dev.srcPos (d : Dev) (g h : Nat) (s : Word64) : Option SrcPos :=
  if d.sameEpoch g h then some (ratioPos s.toNat (d.mcgFs g) (d.mcgFs h))
  else (d.smoothPos g h s).map fun x => { whole := x / 2 ^ 32, frac := (x % 2 ^ 32).toNat }

/-- The positions of the last samples of a block up to house sample `s` noted, from which the next ones are smoothed. -/
def Dev.notePos (d : Dev) (s : Word64) : Dev :=
  let h := d.get fMCG_HOUSE_HOUSE
  (List.range 8).foldl (fun d g =>
    if g = h ∨ d.sameEpoch g h then d else
    match d.smoothPos h g s with
    | none => d
    | some x =>
      let m : Word64 := BitVec.ofInt 64 (x / 2 ^ 32)
      let y := (d.smoothPos g h m).map fun y => (m, y)
      { d with anv := { d.anv with pos := kset none (kset none d.anv.pos (8 * h + g) (some (s, x))) (8 * g + h) y } }) d

/-- One output sample: the bank at heap word `bank` of `taps` taps a phase, at the fraction, over inputs newest first.
The coefficients between two phases are exact rationals, and the sum is rounded once. -/
def Dev.polyphase (d : Dev) (bank taps frac : Nat) (xs : List Int) : Int × Bool :=
  let p := frac / 2 ^ 24
  let r := frac % 2 ^ 24
  let ps := (List.range taps).map fun k =>
    (d.heapI (bank + p * taps + k) * (2 ^ 24 - r : Nat) + d.heapI (bank + (p + 1) * taps + k) * (r : Nat), xs.getD k 0)
  outStage 84 (macFine 24 ps (0, false))

/-- The outputs of an SRC job at a list of positions, over inputs newest first whose newest has SIDX `top`. The newest input of
a sum is the one before the position: a bank centred on its taps then delays by TAPS ÷ 2 + 1 inputs, and so does the shed one
(R211; log entry 182). -/
def Dev.convert (d : Dev) (j : Job) (reduced : Bool) (top : Int) (ins : List Int) (ps : List (Option SrcPos)) : List (Int × Bool) :=
  ps.map fun p => match p with
    | some p =>
      let back := (top - (p.whole - 1)).toNat
      if reduced then d.polyphase (j.f1 18 0) 16 p.frac (ins.drop (back + (j.taps / 2 - 8)))
      else d.polyphase (j.f1 37 19) j.taps p.frac (ins.drop back)
    | none => (0, false)

/-- The state of an SRC job after inputs newest first: the last TAPS + 1 of them, then the SIDX of the newest. -/
def srcState (j : Job) (ins : List Int) (top : Int) : List (Nat × Nat) :=
  heapWords (j.f1 56 38) ((List.range (j.taps + 1)).map (fun k => ins.getD k 0) ++ [top])

/-- The inputs an SRC job keeps, newest first. -/
def Dev.srcHist (d : Dev) (j : Job) : List Int := (List.range (j.taps + 1)).map fun k => d.heapI (j.f1 56 38 + k)

/-- The enabled context that owns channel `ch` of its direction, numbered as `ctxWord` does. -/
def Dev.chanOwner (d : Dev) (tx : Bool) (ch : Nat) : Option Nat :=
  (d.cEnabled tx).find? fun c => !fmtCrf (d.cFmt c) && decide (d.cBase c ≤ ch) && decide (ch < d.cBase c + d.cCh c)

/-- The job's generator is the house clock, or not that of the channel's context (R210). -/
def Dev.srcMismatch (d : Dev) (j : Job) : Bool :=
  j.mcg == d.get fMCG_HOUSE_HOUSE ||
    (match d.chanOwner (j.dir == 1) ((if j.dir = 0 then j.src else j.dst) % 4096) with
      | some c => d.ctxMcg c != j.mcg
      | none => false)

/-- The foreign samples that fall within house samples `s` to `s + n − 1`, with their positions on the house count. -/
def Dev.fgnSamples (d : Dev) (g : Nat) (s : Word64) (n : Nat) : List (Word64 × Option SrcPos) :=
  let h := d.get fMCG_HOUSE_HOUSE
  match d.srcPos h g (s - 1), d.srcPos h g (s + BitVec.ofNat 64 n - 1) with
  | some a, some b =>
    (List.range (min 4096 (b.whole - a.whole).toNat)).map fun (k : Nat) =>
      let m : Word64 := BitVec.ofInt 64 (a.whole + 1 + (k : Int))
      (m, d.srcPos g h m)
  | _, _ => []

/-- SRC, DIR = 0: foreign rows read at the gather, house samples out. An invalid NRX handle reads as silence (R26), and so does a
channel that no enabled context owns (Table 7.2). -/
def Dev.runSrcIn (d : Dev) (j : Job) (s : Word64) (n : Nat) (reduced : Bool) : JobOut :=
  let h := d.get fMCG_HOUSE_HOUSE
  let ch := j.src % 4096
  let (top, news) : Nat × List Int := match d.chanOwner false ch with
    | some c =>
      let x : Nat × List (List Int) := kget (0, []) d.anv.rows (c % 512)
      (x.1, x.2.map fun (r : List Int) => if d.handleValid j.src then r.getD (ch - d.cBase c) 0 else 0)
    | none =>
      let fs := d.fgnSamples j.mcg s n
      ((fs.getLast?.map fun f => f.1.toNat).getD 0, fs.map fun _ => 0)
  let top : Int := if news.isEmpty then d.heapI (j.f1 56 38 + j.taps + 1) else top
  let ins := news ++ d.srcHist j
  let ps := (List.range n).map fun i => d.srcPos h j.mcg (s + BitVec.ofNat 64 i)
  let (ys, sat) := tally (d.convert j reduced top ins ps)
  { sigs := [(j.dst, ys)], sat := sat, heap := srcState j ins top }

/-- SRC, DIR = 1: house samples in, foreign samples to the transmit assembly; its signal buffer stays zero. -/
def Dev.runSrcOut (d : Dev) (j : Job) (s : Word64) (n : Nat) (reduced : Bool) : JobOut :=
  let ins := (d.sigBlock j.bank j.src n).reverse ++ d.srcHist j
  let top : Int := (s + BitVec.ofNat 64 n - 1).toNat
  let fs := d.fgnSamples j.mcg s n
  let (ys, sat) := tally (d.convert j reduced top ins (fs.map (·.2)))
  { sigs := [(j.dst, List.replicate n 0)], sat := sat, heap := srcState j ins top,
    ntx := (fs.head?).map fun f => (j.dst % 4096, f.1, ys) }

/-- SRC; zero where its generator does not match. -/
def Dev.runSrc (d : Dev) (j : Job) (s : Word64) (n : Nat) (reduced : Bool) : JobOut :=
  if d.srcMismatch j then
    let fs := if j.dir = 0 then [] else d.fgnSamples j.mcg s n
    { sigs := [(j.dst, List.replicate n 0)], ntx := (fs.head?).map fun f => (j.dst % 4096, f.1, fs.map fun _ => 0) }
  else if j.dir = 0 then d.runSrcIn j s n reduced else d.runSrcOut j s n reduced

/-! ## METER (R212) -/

/-- A value brought into the S64 range, and whether it saturated. -/
def satCheck (v : Int) : Int × Bool := (sat64 v, sat64 v != v)

/-- METER's four words after one sample, and whether a result saturated; `dp` and `da` in units of 2^-32. -/
def meterStep (dp da : Nat) (st : Int × Int × Nat × Int) (x : Int) : (Int × Int × Nat × Int) × Bool :=
  let (peak, ms, clip, hold) := st
  let a := satCheck x.natAbs
  let sq := satCheck (roundShift (x * x) 56)
  let fall := satCheck (roundShift (peak * dp) 32)
  let mean := satCheck (ms + roundShift ((sq.1 - ms) * da) 32)
  ((max a.1 fall.1, mean.1, if unity ≤ a.1 then satAdd 64 clip 1 else clip, max hold a.1), a.2 || sq.2 || fall.2 || mean.2)

/-- METER over samples: its words after them, and how many saturated (R196). -/
def meterRun (dp da : Nat) : List Int → (Int × Int × Nat × Int) × Nat → (Int × Int × Nat × Int) × Nat
  | [], a => a
  | x :: t, (st, k) => meterRun dp da t ((meterStep dp da st x).1, k + (meterStep dp da st x).2.toNat)

/-- METER. -/
def Dev.runMeter (d : Dev) (j : Job) (n : Nat) : JobOut :=
  let st := j.f1 18 0
  let bal := j.f0 7 0
  let dp := curveFraction (d.curveAt (j.f0 13 8) (2 * bal) 1)
  let da := curveFraction (d.curveAt (j.f0 13 8) (2 * bal + 1) 1)
  let ((p, m, c, h), k) := meterRun dp da (d.sigBlock j.bank j.src n) ((d.heapI st, d.heapI (st + 1), d.heap (st + 2), d.heapI (st + 3)), 0)
  { heap := [(st, unsgn 64 p), (st + 1, unsgn 64 m), (st + 2, c), (st + 3, unsgn 64 h)], sat := k }

/-! ## GEN (R213) -/

/-- A Taylor sum of the sine: terms of `t`, where `z` is the square of the angle, all in units of 2^-62. -/
def sineTerms (z : Int) : Nat → Nat → Int → Int
  | 0, _, _ => 0
  | fuel + 1, k, t => t + sineTerms z fuel (k + 1) (-(t * z / 2 ^ 62 / ((2 * k) * (2 * k + 1) : Nat)))

/-- sin(2π × a ÷ 2^64) in units of 2^-62, to far better than −100 dB. -/
def sine (a : Nat) : Int :=
  let q := a / 2 ^ 62
  let r := a % 2 ^ 62
  let r := if q % 2 = 0 then r else 2 ^ 62 - r
  let x : Int := (r * 7244019458077122842 / 2 ^ 62 : Nat)
  let y := sineTerms (x * x / 2 ^ 62) 16 1 x
  if q < 2 then y else -y

/-- One sample of a GEN, and whether it saturated: the sine is exact but for an error below −100 dB of AMPL that depends on
SIDX, P and AMPL alone (R213). -/
def genSample (mode index : Nat) (p : Nat) (ampl : Int) (s : Word64) : Int × Bool :=
  match mode with
  | 0 =>
    let b := ampl.natAbs / 100001
    let e : Int := Config.sineError s.toNat p ampl % (2 * b + 1)
    satCheck (roundShift (ampl * sine (s.toNat * p % 2 ^ 64)) 62 + e - b)
  | 1 => satCheck (roundShift (ampl * sgn 32 (crc32 (beBytes 8 s.toNat ++ beBytes 2 index))) 31)
  | _ => (if s.toNat % max 1 p = 0 then ampl else 0, false)

/-- GEN. -/
def Dev.runGen (d : Dev) (j : Job) (s : Word64) (n : Nat) : JobOut :=
  let pa := j.f1 18 0
  let (ys, k) := tally ((List.range n).map fun i =>
    genSample (j.f0 1 0) (j.dst % 4096) (d.heap pa) (d.heapI (pa + 1)) (s + BitVec.ofNat 64 i))
  { sigs := [(j.dst, ys)], sat := k }

/-! ## CAPTURE and PLAY (R214) -/

/-- CAPTURE. -/
def Dev.runCapture (d : Dev) (j : Job) (s : Word64) (n : Nat) : JobOut :=
  let c := j.f0 7 0
  let l := d.ctrLen
  let items := (d.sigBlock j.bank j.src n).zipIdx.map fun x => (l * c + (s.toNat + x.2) % max 1 l, (toWire 4 x.1).1)
  { ctr := some c, posts := if l = 0 then [] else [{ region := 3, items := items, mark := some (c, s), bytes := 4 * n }] }

/-- The positions that a PLAY job plays in a block. -/
def Dev.playAt (d : Dev) (j : Job) (s : Word64) (n : Nat) : List Word64 :=
  (List.range n).map fun i => s + BitVec.ofNat 64 i - BitVec.ofNat 64 (d.heap (j.f1 18 0))

/-- The bits of the Contrail map that a PLAY job reads for a block. -/
def Dev.playBits (d : Dev) (j : Job) (s : Word64) (n : Nat) : List Nat :=
  (d.playAt j s n).map fun q => j.f0 7 0 * (d.ctrLen / 4) + q.toNat % max 1 d.ctrLen / 4

/-- The item of external memory of each position that is captured. -/
def Dev.playItems (d : Dev) (j : Job) (s : Word64) (n : Nat) : List (Option Nat) :=
  (d.playAt j s n).map fun q => if d.captured (j.f0 7 0) q then some (d.ctrLen * j.f0 7 0 + q.toNat % max 1 d.ctrLen) else none

/-- PLAY, with the samples its read returned. -/
def runPlay (j : Job) (n : Nat) (ext : List Int) : JobOut :=
  { sigs := [(ctlHandle (j.f0 7 0), (List.range n).map fun i => ext.getD i 0)] }

/-- The external read of a job at the gather: the samples, and whether it makes none now because its region is not ready
or it needs no beat (R209, R214, R547). -/
def Dev.extStart (d : Dev) (j : Job) (s : Word64) (n : Nat) : Option (Bool × List Int) × Dev :=
  match j.typ with
  | 6 =>
    let ready := d.regionReady 2
    let (vs, d) := d.extRead 2 (d.ddelayItems j n)
    (some (!ready, vs), d)
  | 11 =>
    let is := d.playItems j s n
    let vs := is.map fun i => match i with
      | some i => d.extItem 3 i * 2 ^ wireShift 4
      | none => 0
    (some (is.all Option.isNone, vs), if d.regionReady 3 then d else d.inc rDDR_UNREADY_CNT)
  | _ => (none, d)

/-- The items that a job's external read covers. -/
def Dev.extItems (d : Dev) (j : Job) (s : Word64) (n : Nat) : Nat × List Nat :=
  if j.typ = 6 then (2, d.ddelayItems j n) else (3, (d.playItems j s n).filterMap id)

/-! ## All types -/

/-- What a job of a block of `n` samples from `s` writes when it commits. -/
def Dev.runJob (d : Dev) (j : Job) (s : Word64) (n : Nat) (reduced : Bool) (ext : List Int) : JobOut :=
  match j.typ with
  | 1 => d.runCopy j n
  | 2 => d.runGain j n
  | 3 => d.runMix j n
  | 4 => d.runBiquad j n reduced
  | 5 => d.runDelay j n
  | 6 => d.runDdelay j n ext
  | 7 => d.runSrc j s n reduced
  | 8 => d.runMeter j n
  | 9 => d.runGen j s n
  | 10 => d.runCapture j s n
  | _ => runPlay j n ext

end Sys2Proof.Machine
end

