-- ==== Sys2Proof/Machine/Anvil.lean ====
section
/-! DEFINITION. Anvil's blocks (R194 to R251): lanes, the job phase, commits, faults, misses, the gather, the budget
governor, scene swaps, enable and disable. -/

namespace Sys2Proof.Machine

open Sys2Proof

/-- The device with Anvil's own state replaced. -/
def Dev.setAnv (d : Dev) (x : AnvSt) : Dev := { d with anv := x }

/-- The device with the block in its job phase replaced. -/
def Dev.setBlock (d : Dev) (b : AnvBlock) : Dev := d.setAnv { d.anv with block := some b }

/-! ## Lanes (R194, R223, R225) -/

/-- RETIRED and SPARE of a lane. -/
def fLaneRet (n : Nat) : Fld := bitFld (if n < 32 then rANV_LANE_RET_L else rANV_LANE_RET_H) (n % 32)
def fLaneSpare (n : Nat) : Fld := bitFld (if n < 32 then rANV_LANE_SPARE_L else rANV_LANE_SPARE_H) (n % 32)

/-- The spare lanes, ascending. -/
def Dev.spares (d : Dev) : List Nat := (List.range 34).filter fun n => d.on (fLaneSpare n)

/-- WORKING, SPARES and DEGRADED as the lanes stand. -/
def Dev.showLanes (d : Dev) : Dev :=
  d.puts [(fANV_STS_WORKING, d.anv.work.length), (fANV_STS_SPARES, d.spares.length),
    (fANV_STS_DEGRADED, (decide (d.anv.work.length < 32)).toNat)]

/-- A lane is retired: a working lane's place goes to the lowest spare, a spare only leaves the spares; the repair map and,
with WB_EN = 1, the repair record take the lane (R225, R534). -/
def Dev.retireLane (d : Dev) (n : Nat) : Dev :=
  let d := d.putB (fLaneSpare n) false
  let spare := if d.anv.work.contains n then d.spares.head? else none
  let work := d.anv.work.filter (· != n)
  let work := match spare with
    | some s => (work ++ [s]).mergeSort (· ≤ ·)
    | none => work
  let d := match spare with
    | some s => d.putB (fLaneSpare s) false
    | none => d
  let d := (d.setAnv { d.anv with work := work }).putB (fLaneRet n) true
  let d := { d with lanesRec := d.lanesRec ++ [n], wbPend := d.wbPend || d.on fINT_REPAIR_CFG_WB_EN }
  d.showLanes.raise 0x0801 n

/-- A lane is charged with a fault; true when it reaches RETIRE_N within RETIRE_WIN blocks (R225). -/
def Dev.chargeLane (d : Dev) (n : Nat) : Bool × Dev :=
  let now := d.anv.count
  let win := max 1 (d.get fANV_SPARE_CFG_RETIRE_WIN)
  let l := now :: (kget [] d.anv.faults n).filter fun k => decide (now - k < win)
  let out := decide (max 1 (d.get fANV_SPARE_CFG_RETIRE_N) ≤ l.length)
  let d := d.setAnv { d.anv with faults := kset [] d.anv.faults n l,
                                 retire := if out && !d.anv.retire.contains n then d.anv.retire ++ [n] else d.anv.retire }
  (out, d.inc (rANV_LANEnn_FAULT_CNT n))

/-! ## Jobs of the block -/

/-- The entry of a job of the block. -/
def Dev.jobOf (d : Dev) (r : JobRun) : Job := d.job r.bank r.entry

/-- The key of a job in `missed`. -/
def JobRun.key (r : JobRun) : Nat := 32768 * r.bank + r.entry

/-- A job of the block replaced. -/
def AnvBlock.put (b : AnvBlock) (r : JobRun) : AnvBlock :=
  { b with jobs := b.jobs.map fun x => if x.bank = r.bank ∧ x.entry = r.entry then r else x }

/-- The shadow check of a job, if one runs, ends or is abandoned. -/
def AnvBlock.uncheck (b : AnvBlock) (key : Nat) : AnvBlock := { b with checks := b.checks.filter fun x => x.2 != key }

/-- A lane runs a shadow check. -/
def AnvBlock.checking (b : AnvBlock) (lane : Nat) : Bool := b.checks.any fun x => x.1 == lane

/-- The job that a lane runs. -/
def AnvBlock.onLane (b : AnvBlock) (lane : Nat) : Option JobRun :=
  b.jobs.find? fun r => match r.stage with
    | .running l _ _ => l == lane
    | _ => false

/-- A job has not committed and has not delivered its fallback. -/
def JobRun.open_ (r : JobRun) : Bool := r.stage != .done

/-- A job may start: its external read has returned, every lower entry that feeds it is done, and every lower entry that
must see what it overwrites has started (R202, R234). -/
def Dev.freeJob (d : Dev) (b : AnvBlock) (r : JobRun) : Bool :=
  let j := d.jobOf r
  r.stage == .waiting && (match r.ext with
    | some (back, _) => back
    | none => true) &&
  b.jobs.all fun x => !(x.bank == r.bank && decide (x.entry < r.entry)) ||
    ((x.stage == .done || !d.feeds (d.jobOf x) j) && (x.stage != .waiting || !d.ahead (d.jobOf x) j))

/-- Rank among free jobs: class, deadline, table index (R234). -/
def JobRun.before (a b : JobRun) : Bool :=
  if a.cls ≠ b.cls then decide (a.cls < b.cls)
  else if a.due ≠ b.due then decide (a.due < b.due)
  else decide (a.entry < b.entry)

/-- The first of a list by a ranking. -/
def bestOf : List JobRun → Option JobRun
  | [] => none
  | r :: t => match bestOf t with
    | some x => if x.before r then some x else some r
    | none => some r

/-! ## Commit (R197, R248) -/

/-- The fade f of MISS_CURVE at a fraction. -/
def Dev.missFade (d : Dev) (a b : Nat) : Int := d.curveAcross (d.get fSCH_CFG_MISS_CURVE) a b

/-- A job's block set down as its samples, for one handle. -/
def Dev.putSig (d : Dev) (b h : Nat) (xs : List Int) : Dev :=
  if d.handleValid h then d.setAnv { d.anv with sig := kset [] d.anv.sig (sigKey b h) xs } else d

/-- The host has written heap word `a`: what a running job computed before does not overwrite it, and the job takes it at its
next start (R200). -/
def Dev.heapByHost (d : Dev) (a : Nat) : Dev :=
  match d.anv.block with
  | some b =>
    d.setBlock { b with jobs := b.jobs.map fun r => match r.stage with
      | .running l again o => { r with stage := .running l again { o with heap := o.heap.filter fun w => w.1 != a } }
      | _ => r }
  | none => d

/-- Heap words written. -/
def Dev.putHeap (d : Dev) : List (Nat × Nat) → Dev
  | [] => d
  | (a, v) :: t => (({ d with store := writeWord64 d.store (8 * a) v }).arrayWrite 2 a).putHeap t

/-- Samples of a block faded in: multiplied by 1 − f(i ÷ n). -/
def Dev.fadeIn (d : Dev) (n : Nat) (xs : List Int) : List Int :=
  xs.zipIdx.map fun x => mulGain x.1 (unity - d.missFade x.2 n)

/-- A job's outputs are committed; the first commit after a miss is faded in (R197, R248). -/
def Dev.commitJob (d : Dev) (b : AnvBlock) (r : JobRun) (o : JobOut) : Dev :=
  let after := kget false d.anv.missed r.key
  let soft := fun (d : Dev) (xs : List Int) => if after then d.fadeIn b.n xs else xs
  let d := o.sigs.foldl (fun d s => d.putSig r.bank s.1 (soft d s.2)) d
  let d := (d.putHeap o.heap).add rANV_SAT_CNT o.sat
  let d := match o.ctr with
    | some c => d.ctrAccount c b.start b.n
    | none => d
  let d := o.posts.foldl (fun d w => (d.post w).2) d
  let d := match o.ntx with
    | some (h, s, xs) =>
      if d.handleValid (0x8000 + h) then d.setAnv { d.anv with fgn := kset none d.anv.fgn (65536 * r.bank + h) (some (s, soft d xs)) } else d
    | none => d
  d.setAnv { d.anv with missed := kset false d.anv.missed r.key false }

/-! ## Misses (R247, R249) -/

/-- The fallback of samples that were committed in the previous block. -/
def Dev.fallback (d : Dev) (missed : Bool) (n : Nat) (xs : List Int) : List Int :=
  (List.range n).map fun i => if missed then 0 else mulGain (xs.getD i 0) (d.missFade (i + 1) n)

/-- A job misses: 0 overran, 1 never started, 2 P0 limit, 3 re-execution failed, 4 external read. -/
def Dev.missJob (d : Dev) (b : AnvBlock) (r : JobRun) (cause : Nat) : Dev :=
  let j := d.jobOf r
  let was := kget false d.anv.missed r.key
  let d := j.writes.foldl (fun d h => d.putSig r.bank h (if j.typ = 7 ∧ j.dir = 1 then List.replicate b.n 0 else d.fallback was b.n (d.sig r.bank h))) d
  let d := if j.typ = 7 ∧ j.dir = 1 ∧ d.handleValid (0x8000 + j.dst % 4096) then
      let old := match kget none d.anv.fgn (65536 * r.bank + j.dst % 4096) with
        | some (_, xs) => xs
        | none => []
      let fs := d.fgnSamples j.mcg b.start b.n
      match fs.head? with
      | some f => d.setAnv { d.anv with fgn := kset none d.anv.fgn (65536 * r.bank + j.dst % 4096) (some (f.1, d.fallback was fs.length old)) }
      | none => d
    else d
  let d := if j.typ = 10 then d.ctrAccount (j.f0 7 0) b.start b.n else d
  let d := d.setAnv { d.anv with missed := kset false d.anv.missed r.key true, misses := d.anv.misses + 1 }
  let d := d.capture fSCH_MISS_LOG_VALID
    [(fSCH_MISS_LOG_CAUSE, cause), (fSCH_MISS_LOG_CLASS, r.cls.val), (fSCH_MISS_LOG_BANK, r.bank), (fSCH_MISS_LOG_ENTRY, r.entry)]
  let d := if cause = 4 then d.inc rANV_DRAM_MISS_CNT else d
  let d := d.inc (rSCH_MISS_Pc_CNT r.cls.val)
  match d.anv.block with
  | some b => d.setBlock ((b.put { r with stage := .done }).uncheck r.key)
  | none => d

/-! ## Dispatch (R234) -/

/-- A heap word that a job reads holds an uncorrectable error (Table 22.1). -/
def Dev.heapHurt (d : Dev) (j : Job) : Bool :=
  !d.sound && j.regions.any fun r => (List.range r.2.1).any fun k => d.poisoned 2 (r.1 + k)

/-- The heap words that a job names are read. -/
def Dev.heapReads (d : Dev) (j : Job) : Dev := j.regions.foldl (fun d r => d.eccReads 2 r.1 r.2.1) d

/-- A job of the block starts: one that reads an invalid handle (R26), and an SRC whose generator does not match (R210), are
each counted once in a block. -/
def Dev.noteJob (d : Dev) (b : AnvBlock) (j : Job) : AnvBlock × Dev :=
  let bad := !b.badHdl && (d.jobReads j).any fun h => !d.handleValid h
  let off := !b.mismatch && j.typ == 7 && d.srcMismatch j
  let d' := if bad then d.inc rGLB_BADHDL_CNT else d
  ({ b with badHdl := b.badHdl || bad, mismatch := b.mismatch || off }, if off then d'.inc rANV_SRC_MISMATCH_CNT else d')

/-- One job started on an idle lane, or given its fallback; none when no lane is idle or no job is free. -/
def Dev.dispatch1 (d : Dev) : Option Dev :=
  match d.anv.block with
  | none => none
  | some b =>
    match bestOf (b.jobs.filter (d.freeJob b)), d.anv.work.find? fun l => (b.onLane l).isNone with
    | some r, some lane =>
      let j := d.jobOf r
      if (j.typ = 6 ∨ j.typ = 10 ∨ j.typ = 11) ∧ !d.ddrIn then some (d.missJob b r 4)
      else if d.heapHurt j then some ((d.heapReads j).missJob b r 1)
      else
        let d := d.heapReads j
        let ext := match r.ext with
          | some (_, vs) => vs
          | none => []
        let (b, d) := d.noteJob b j
        let o := d.runJob j b.start b.n r.reduced ext
        some (d.setBlock { b.put { r with stage := .running lane false o } with used := b.used + r.cost })
    | _, _ => none

/-- Jobs started until no lane is idle or no job is free; external reads that can no longer return give their fallback
(R553). -/
def Dev.dispatch (d : Dev) : Nat → Dev
  | 0 => d
  | fuel + 1 => match d.dispatch1 with
    | some d => d.dispatch fuel
    | none => d

/-- Spare lane `l`, if it is idle, begins to check a job: of those that run for the first time and are not checked, the first in
the table from where the last choice left off, round to its start. The block's shadow work must leave room for it (R226, R238). -/
def Dev.checkOn (d : Dev) (l : Nat) : Dev :=
  match d.anv.block with
  | none => d
  | some b =>
    if (b.onLane l).isSome || b.checking l then d else
    let runs := b.jobs.filter fun r => (match r.stage with
      | .running _ again _ => !again
      | _ => false) && !(b.checks.any fun x => x.2 == r.key)
    let sorted := runs.mergeSort fun x y => decide (x.key ≤ y.key)
    match (sorted.find? fun r => decide (d.anv.shadow ≤ r.key)).orElse fun _ => sorted.head? with
    | none => d
    | some r =>
      let w := kget 0 b.shadowed l + r.cost
      if min 166666 (d.reg rSCH_SHADOW_LC).toNat < w then d else
      d.setAnv
        { d.anv with block := some { b with checks := b.checks ++ [(l, r.key)], shadowed := kset 0 b.shadowed l w, used := b.used + r.cost },
                     shadow := (r.key + 1) % 65536 }

/-- Every idle spare lane begins a shadow check, while they are switched on and none is shed (R226, R241). -/
def Dev.beginChecks (d : Dev) : Dev :=
  if d.on fANV_CTL_SHADOW_EN && (d.reg rSCH_SHED_DEPTH).toNat == 0 then d.spares.foldl Dev.checkOn d else d

/-- Jobs whose external read is in flight while the memory is out of service fail at once. -/
def Dev.failReads (d : Dev) : Dev :=
  match d.anv.block with
  | some b =>
    if d.ddrIn then d else
    (b.jobs.filter fun r => r.stage == .waiting && (match r.ext with
      | some (back, _) => !back
      | none => false)).foldl (fun d r => d.missJob b r 4) d
  | none => d

/-! ## Assembly and the end of a block (R145, R199, R221) -/

/-- A sample of two banks as a crossfade mixes it at its position `p` of `len`, and whether it saturates (R196, R221). -/
def Dev.xmix (d : Dev) (p len : Nat) (old new : Int) : Int × Bool :=
  if len ≤ p then (new, false) else
  let f := d.curveAcross (d.get fANV_CTL_XFADE_CURVE) p len
  satCheck (roundShift (old * f + new * (unity - f)) 56)

/-- Two banks' samples of a handle as a crossfade mixes them, sample `p` of `len` first. -/
def Dev.crossfade (d : Dev) (p len n : Nat) (old new : List Int) : List (Int × Bool) :=
  (List.range n).map fun i => d.xmix (p + i) len (old.getD i 0) (new.getD i 0)

/-- A handle's samples as they leave Anvil: from the bank that is LIVE in the block, or crossfaded (R221). -/
def Dev.outSig (d : Dev) (b : AnvBlock) (h : Nat) : List Int :=
  match b.fade with
  | some (p, len) => (d.crossfade p len b.n (d.sig (1 - b.live) h) (d.sig b.live h)).map (·.1)
  | none => d.sigBlock b.live h b.n

/-- The handles that jobs have written, gathered ones not among them. -/
def Dev.writtenHandles (d : Dev) : List Nat :=
  (d.anv.sig.filterMap fun e => if e.1 < 131072 then some (e.1 % 65536) else none).eraseDups

/-- The samples that saturate in the block's crossfade, counted once each (R196). -/
def Dev.fadeSats (d : Dev) (b : AnvBlock) : Nat :=
  match b.fade with
  | some (p, len) =>
    (d.writtenHandles.map fun h => ((d.crossfade p len b.n (d.sig (1 - b.live) h) (d.sig b.live h)).filter (·.2)).length).sum
  | none => 0

/-- A foreign sample of an NTX channel, which lies at house sample `i` of the block, and whether its mix saturates (R221). -/
def Dev.fgnAt (d : Dev) (b : AnvBlock) (h : Nat) (s : Word64) (i : Nat) : Int × Bool :=
  let one := fun (bank : Nat) => match kget none d.anv.fgn (65536 * bank + h) with
    | some (s0, xs) => if decide (0 ≤ sdiff64 s s0) then xs.getD (sdiff64 s s0).toNat 0 else 0
    | none => 0
  match b.fade with
  | some (p, len) => d.xmix (p + i) len (one (1 - b.live)) (one b.live)
  | none => (one b.live, false)

/-- The block's samples reach assembly for transmit context `c` (R144, R145). -/
def Dev.feedCtx (d : Dev) (b : AnvBlock) (c : Nat) : Dev :=
  if fmtCrf (d.cFmt c) then d else
  let g := d.ctxMcg c
  if g = d.get fMCG_HOUSE_HOUSE then
    let rows := (List.range (d.cCh c)).map fun k => d.outSig b (0x8000 + d.cBase c + k)
    (List.range b.n).foldl (fun d i => d.stxFeed c (b.start + BitVec.ofNat 64 i) (rows.map fun (r : List Int) => r.getD i 0)) d
  else
    (d.fgnSamples g b.start b.n).foldl (fun d s =>
      let i := match s.2 with
        | some p => (p.whole - b.start.toNat).toNat
        | none => 0
      let (xs, k) := tally ((List.range (d.cCh c)).map fun k => d.fgnAt b (d.cBase c + k) s.1 i)
      (d.stxFeed c s.1 xs).add rANV_SAT_CNT k) d

/-- The block reaches assembly once every job that writes an NTX handle is done (R145). -/
def Dev.feedBlock (d : Dev) : Dev :=
  match d.anv.block with
  | some b =>
    if b.fed || b.jobs.any (fun r => r.open_ && (d.jobOf r).writes.any fun h => h / 4096 == 8) then d
    else (d.stxOrder.foldl (fun d c => d.feedCtx b c) d).setBlock { b with fed := true }
  | none => d

/-- The signal area as the window shows it after the block (R199). -/
def Dev.showSignals (d : Dev) (b : AnvBlock) : Dev :=
  let hs := (d.anv.sig.map fun e => if 131072 ≤ e.1 then e.1 - 131072 else e.1 % 65536).eraseDups
  let m := d.store.filter fun c => decide (8 * heapBase ≤ c.1)
  let m := hs.foldl (fun m h =>
    let xs := if h / 4096 = 1 ∨ h / 4096 = 2 then d.sigBlock b.live h b.n else d.outSig b h
    writeBytes m (sigBase h) (xs.flatMap fun x => leBytes 8 (unsgn 64 x))) m
  { d with store := m,
           poison := d.poison.filter fun e => decide (e.1 < 8388608 * 2) || decide (8388608 * 2 + heapBase ≤ e.1)
           integ := { d.integ with
             inj := d.integ.inj.filter fun e => decide (e.1 < 8388608 * 2) || decide (8388608 * 2 + heapBase ≤ e.1)
             weak := d.integ.weak.filter fun e => decide (e.1 < 8388608 * 2) || decide (8388608 * 2 + heapBase ≤ e.1) } }

/-- The block's SOUT samples go to their ports (R253, R260). -/
def Dev.feedSouts (d : Dev) (b : AnvBlock) : Dev :=
  let hs := d.writtenHandles
  (List.range 192).foldl (fun d k =>
    let n := k / 8
    if !d.on (fSAPnn_CTL_EN n) then d else
    let xs := if hs.contains (0x9000 + k) then d.outSig b (0x9000 + k) else []
    (List.range b.n).foldl (fun d i => d.soutFeed n (k % 8) (b.start + BitVec.ofNat 64 i) (xs.getD i 0)) d) d

/-- The samples of a bank are forgotten. -/
def AnvSt.forget (x : AnvSt) (b : Nat) : AnvSt :=
  { x with sig := x.sig.filter fun e => !(decide (65536 * b ≤ e.1) && decide (e.1 < 65536 * b + 65536)),
           fgn := x.fgn.filter fun e => !(decide (65536 * b ≤ e.1) && decide (e.1 < 65536 * b + 65536)) }

/-- Every handle written by jobs reads zero (R218). -/
def Dev.anvSilent (d : Dev) : Dev :=
  let x := (d.anv.forget 0).forget 1
  ({ d with store := d.store.filter fun c => decide (8 * heapBase ≤ c.1) || decide (c.1 < 0x8C000) }).setAnv { x with missed := [] }

/-- Blocks run on: the array is enabled and its house generator issues ticks (R217, R218, Table 4.5). -/
def Dev.anvGoesOn (d : Dev) : Bool := d.on fANV_CTL_EN && (d.mcgOf (d.get fMCG_HOUSE_HOUSE)).ticking

/-- A block whose jobs are all done ends: its outputs leave, a crossfade goes on or ends, and a disable that came during it
takes effect (R218, R220). -/
def Dev.endBlock (d : Dev) : Dev :=
  let d := d.feedBlock
  match d.anv.block with
  | some b =>
    if b.jobs.any JobRun.open_ then d else
    let d := ((d.feedSouts b).showSignals b).add rANV_SAT_CNT (d.fadeSats b)
    let d := (d.setReg rSCH_USED_LC (BitVec.ofNat 32 b.used)).notePos (b.start + BitVec.ofNat 64 b.n - 1)
    let x := { d.anv with block := none }
    let d := match (if b.disabled then none else b.fade) with
      | some (p, len) =>
        let old := 1 - b.live
        if len ≤ p + b.n then (d.setAnv ({ x with xfade := none }.forget old)).put fANV_STS_SCENE 0
        else d.setAnv { x with xfade := some (p + b.n, old, len) }
      | none => d.setAnv x
    let d := if b.disabled then d.anvSilent else d
    if d.anvGoesOn && !b.disabled then d else d.putB fANV_STS_RUN false
  | none => d

/-! ## The budget (R235 to R246) -/

/-- An item of the shed order: what shedding it saves, in pJ, and which job it is; none for shadow checks and scrub. -/
structure ShedItem where
  saves : Int
  job : Option (Nat × Nat)
  p3 : Bool
  deriving DecidableEq, Repr

/-- The jobs of the running banks with their effective classes, outgoing bank first. -/
def Dev.runningJobs (d : Dev) (banks : List Nat) : List (Job × Nat) := banks.flatMap d.classed

/-- The planned energy of shadow checks (R238). -/
def Dev.shadowEnergy (d : Dev) : Int :=
  if d.on fANV_CTL_SHADOW_EN then (min 166666 (d.reg rSCH_SHADOW_LC).toNat * d.spares.length : Nat) * d.weight 13 else 0

/-- The shed order (Table 9.3), in the classes that validation fixed. -/
def Dev.shedOrder (d : Dev) (banks : List Nat) : List ShedItem :=
  let b := d.blockLen
  let drop := banks.flatMap fun k => ((d.classed k).filter fun x => x.2 == 3).reverse.map fun x =>
    { saves := d.jobEnergy x.1 b false, job := some (k, x.1.entry), p3 := true : ShedItem }
  let ease := banks.flatMap fun k => ((d.classed k).filter fun x => x.2 == 2 && (x.1.typ == 4 || x.1.typ == 7)).reverse.map
    fun x => { saves := d.jobEnergy x.1 b false - d.jobEnergy x.1 b true, job := some (k, x.1.entry), p3 := false : ShedItem }
  { saves := d.shadowEnergy, job := none, p3 := true } :: { saves := 2048 * d.weight 14, job := none, p3 := true } :: (drop ++ ease)

/-- need(0) (R240). -/
def Dev.needFull (d : Dev) (banks : List Nat) : Int :=
  d.shadowEnergy + 2048 * d.weight 14 + ((d.runningJobs banks).map fun x => d.jobEnergy x.1 d.blockLen false).sum

/-- The energies that remain as one item after another is shed, need(0) first. -/
def needs (full : Int) : List ShedItem → List Int
  | [] => [full]
  | i :: t => full :: needs (full - i.saves) t

/-- E_blk in pJ, for the CAP that stood on the block's cycle 0 (R236). -/
def Dev.blockBudget (d : Dev) (cap : Word) : Nat :=
  let (a, b) := d.mcgFs (d.get fMCG_HOUSE_HOUSE)
  if a = 0 then 0 else cap.toNat * d.blockLen * 1000000000 * b / a

/-- THERM_ALERT_N (R245). -/
def Dev.alertCheck (d : Dev) : Dev :=
  let tj := sgn 16 (d.get fSCH_TJ_TJ)
  let t : Int := min 125 (d.get fSCH_THERM_CFG_ALERT_T)
  let h : Int := min 20 (d.get fSCH_THERM_CFG_HYST)
  let crit := d.on fSCH_STS_THERMAL_CRITICAL
  if 16 * t ≤ tj ∨ crit then d.putB fSCH_STS_ALERT true
  else if tj < 16 * (t - h) then d.putB fSCH_STS_ALERT false
  else d

/-- THERM_ALERT_N is asserted: it is released while ANV is not ON (Table 19.3). -/
def Dev.thermAlert (d : Dev) : Bool := d.on fSCH_STS_ALERT && d.domOn 3

/-- THERMAL_CRITICAL as blocks go over and within the budget (R243, R244). -/
def Dev.criticalCheck (d : Dev) (past : Bool) : Dev :=
  let x := d.anv
  let x := if past then { x with past := x.past + 1, fit := 0 } else { x with past := 0, fit := x.fit + 1 }
  let d := d.setAnv x
  let crit := d.on fSCH_STS_THERMAL_CRITICAL
  if past ∧ !crit ∧ max 1 (d.get fSCH_CFG_BUDGET_N) ≤ x.past then
    let d := ((d.putB fSCH_STS_THERMAL_CRITICAL true).inc rSCH_CRIT_CNT).raise 0x0901 0
    (if d.on fSCH_THERM_CFG_HALO_REQ_EN then d.haloThermal else d).alertCheck
  else if !past ∧ crit ∧ max 1 (d.get fSCH_CFG_RESTORE_N) ≤ x.fit then (d.putB fSCH_STS_THERMAL_CRITICAL false).alertCheck
  else d

/-- The governor at cycle 0 of a block (R236, R240, R242, R246): the depth and its registers. `fresh`: an enable or a
swap boundary. -/
def Dev.govern (d : Dev) (banks : List Nat) (fresh : Bool) (cap : Word) : Dev :=
  let order := d.shedOrder banks
  let ns := needs (d.needFull banks) order
  let e : Int := d.blockBudget cap
  let on := d.on fSCH_CFG_GOV_EN
  let dmax := order.length
  let dneed := if on then (ns.findIdx? (decide <| · ≤ e)).getD dmax else 0
  let past := on && decide (e < ns.getLastD 0)
  let old := (d.reg rSCH_SHED_DEPTH).toNat
  let rn := max 1 (d.get fSCH_CFG_RESTORE_N)
  let ease := if dneed < old then dneed :: d.anv.ease else []
  let (depth, ease) :=
    if fresh ∨ old ≤ dneed ∨ !on then (dneed, [])
    else if rn ≤ ease.length then (ease.foldl max 0, [])
    else (old, ease)
  let nj := fun (x : Int) => BitVec.ofInt 32 (x / 1000)
  let shed := order.take depth
  let d := (d.setAnv { d.anv with ease := ease }).setReg rSCH_SHED_DEPTH (BitVec.ofNat 32 depth)
  let d := ((d.setReg rSCH_BUDGET_NJ (nj e)).setReg rSCH_FULL_NJ (nj (ns.headD 0))).setReg rSCH_PLAN_NJ (nj (ns.getD depth (ns.getLastD 0)))
  let s3 := shed.any (·.p3)
  let s2 := shed.any fun i => !i.p3
  let d := d.puts [(fSCH_STS_OVER, past.toNat), (fSCH_STS_SHED_P3, s3.toNat), (fSCH_STS_SHED_P2, s2.toNat)]
  let d := if s3 then d.inc rSCH_SHED_P3_CNT else d
  let d := if s2 then d.inc rSCH_SHED_P2_CNT else d
  let d := if past then d.inc rSCH_OVER_CNT else d
  if on then d.criticalCheck past
  else ((d.setAnv { d.anv with past := 0, fit := 0 }).putB fSCH_STS_THERMAL_CRITICAL false).alertCheck

/-- The junction temperature of a sample: the highest valid reading and its sensor; +125 °C when fewer than two are
valid (R235). -/
def junction : List (Option Int) → Nat → Option (Int × Nat) → Option (Int × Nat)
  | [], _, m => m
  | none :: t, i, m => junction t (i + 1) m
  | some v :: t, i, m =>
    junction t (i + 1) (match m with
      | some (w, k) => if w < v then some (v, i) else some (w, k)
      | none => some (v, i))

/-- SENSOR_SAMPLE: the eight readings of a 1 ms sample, signed, in 1/16 °C (R235, R236, R245). -/
def Dev.sensorSample (d : Dev) (rs : List Int) : Dev :=
  if !d.anvRuns then d else
  let ok := (List.range 8).map fun i =>
    let v := rs.getD i 0
    if v < -55 * 16 ∨ 150 * 16 < v then none else some v
  let d := ok.zipIdx.foldl (fun d r =>
    match r.1 with
    | some v => d.puts [(fSCH_TSn_TEMP_VALID r.2, 1), (fSCH_TSn_TEMP_READING r.2, unsgn 16 v)]
    | none => (d.puts [(fSCH_TSn_TEMP_VALID r.2, 0), (fSCH_TSn_TEMP_READING r.2, unsgn 16 (rs.getD r.2 0))]).inc rSCH_SENSOR_ERR_CNT) d
  let few := decide ((ok.filter Option.isSome).length < 2)
  let (tj, k) := match few, junction ok 0 none with
    | false, some x => x
    | _, _ => (125 * 16, 0)
  let d := d.puts [(fSCH_STS_SENSOR_FAIL, few.toNat), (fSCH_TJ_SENSOR, k), (fSCH_TJ_TJ, unsgn 16 tj)]
  (d.setReg rSCH_CAP_MW (BitVec.ofInt 32 (curveWhole (d.curveAt (d.get fSCH_CURVES_CAP_CURVE) tj 1)))).alertCheck

/-! ## Telemetry (R250) -/

/-- A telemetry record pushed when its period is full; `ft` is the FT64 of the boundary. A period begins with EN = 1. -/
def Dev.telemetry (d : Dev) (ft : Word64) : Dev :=
  if !d.on fSCH_TELEM_CFG_EN then d.setAnv { d.anv with period := 0, misses := 0 } else
  let n := d.anv.period + 1
  if n < max 1 (d.get fSCH_TELEM_CFG_PERIOD) then d.setAnv { d.anv with period := n }
  else
    let rec_ := beBytes 8 ft.toNat
      ++ beBytes 2 (d.get fSCH_TJ_TJ) ++ beBytes 2 (d.reg rSCH_CAP_MW).toNat ++ beBytes 4 (d.reg rSCH_BUDGET_NJ).toNat
      ++ beBytes 4 (d.reg rSCH_PLAN_NJ).toNat ++ beBytes 4 (d.reg rSCH_FULL_NJ).toNat
      ++ beBytes 2 (min 65535 (d.reg rSCH_SHED_DEPTH).toNat) ++ beBytes 2 (min 65535 d.anv.misses)
      ++ beBytes 4 (d.reg rSCH_USED_LC).toNat
    (d.hqPush (d.get fSCH_TELEM_CFG_QUEUE) 3 rec_).setAnv { d.anv with period := 0, misses := 0 }

/-! ## Scene swaps (R219 to R222) -/

/-- A timed claim released. -/
def Dev.dropClaim (d : Dev) (t : Option Nat) : Dev :=
  match t with
  | some n => if d.get (fTIME_TCMPnn_OWNER_OWNER n) = 0x80 then d.releaseTcmp n else d
  | none => d

/-- A refusal of Table 8.6 captured. -/
def Dev.anvRefuse (d : Dev) (code source bank entry : Nat) : Dev :=
  (d.capture fANV_REFUSE_VALID
    [(fANV_REFUSE_CODE, code), (fANV_REFUSE_SOURCE, source), (fANV_REFUSE_BANK, bank), (fANV_REFUSE_ENTRY, entry)]).inc rANV_REFUSE_CNT

/-- The NEXT bank. -/
def Dev.nextBank (d : Dev) : Nat := 1 - d.get fANV_STS_LIVE

/-- SWAP: true when it is accepted (R216, R220). The conditions of Table 8.6 are checked in code order. While EN is 0 no block
boundary comes, and the swap waits for the first one (log entry 162). -/
def Dev.sceneSwap (d : Dev) (timed : Bool) (tcmp xfade : Nat) : Bool × Dev :=
  let nb := d.nextBank
  let busy := d.get fANV_STS_SCENE ≠ 0
  let had := match d.anv.swap with
    | some s => s.tcmp == some tcmp
    | none => false
  let (held, d1) := if timed then d.claimTcmp tcmp 0x80 else (true, d)
  let share := if xfade = 0 then none else d.sharesHeap nb (d.get fANV_STS_LIVE)
  let bad := (d.validate nb).orElse fun _ => (if held then none else some (10, 0)).orElse fun _ =>
    (share.map fun e => (11, e)).orElse fun _ => if busy then some (12, 0) else none
  let claim := if timed && held && !had then some tcmp else none
  match bad with
  | some (code, e) => (false, (d1.dropClaim claim).anvRefuse code 1 nb e)
  | none =>
    let d := if timed then d1.armTcmp tcmp 1 (BitVec.ofNat 64 (d.pair rANV_SCENE_TGT_H rANV_SCENE_TGT_L)) 0 else d1
    let d := (d.put fANV_STS_SCENE 1).fixClasses nb
    (true, d.setAnv { d.anv with swap := some { bank := nb, xfade := xfade, tcmp := claim } })

/-- A pending swap ends, and its claim is released. -/
def Dev.swapEnd (d : Dev) : Dev :=
  match d.anv.swap with
  | some s => ((d.dropClaim s.tcmp).put fANV_STS_SCENE 0).setAnv { d.anv with swap := none }
  | none => d

/-- CANCEL: a pending swap ends, if its boundary has not come (R222). -/
def Dev.sceneCancel (d : Dev) : Dev := if d.anv.swap.any fun s => s.at_.isSome then d else d.swapEnd

/-- The comparator of a timed swap fires. -/
def Dev.sceneFired (d : Dev) (n : Nat) : Dev :=
  match d.anv.swap with
  | some s => if s.tcmp = some n then d.setAnv { d.anv with swap := some { s with fired := true } } else d
  | none => d

/-- A write to ANV_SCENE_CMD: 1 SWAP, 2 CANCEL; OP clears on acceptance. -/
def Dev.sceneCmd (d : Dev) (op : Nat) : Dev :=
  let d := d.put fANV_SCENE_CMD_OP 0
  match op with
  | 1 => (d.sceneSwap (d.on fANV_SCENE_CMD_TIMED) (d.get fANV_SCENE_CMD_TCMP) (d.get fANV_SCENE_CMD_XFADE)).2
  | 2 => d.sceneCancel
  | _ => d

/-- ANV_COST_P0 to P3 of the LIVE bank. -/
def Dev.showCosts (d : Dev) : Dev :=
  let cs := d.classed (d.get fANV_STS_LIVE)
  (List.range 4).foldl (fun d c => d.setReg (rANV_COST_Pc c) (BitVec.ofNat 32 (d.classCost cs c))) d

/-- The swap boundary: the new bank is LIVE from the block that follows; its handles start from what the outgoing
bank's writers left, and handles it does not write hold zero (R202, R203, R220). -/
def Dev.swapNow (d : Dev) (s : AnvSwap) : Dev :=
  let old := d.get fANV_STS_LIVE
  let new := 1 - old
  let ws := (d.bankJobs new).flatMap Job.writes
  let x := d.anv.forget new
  let sig := ws.foldl (fun m h => kset [] m (sigKey new h) (kget [] m (sigKey old h))) x.sig
  let x := { x with sig := sig, swap := none, fresh := true, missed := x.missed.filter fun e => decide (e.1 / 32768 = old) }
  let x := if s.xfade = 0 then { x.forget old with xfade := none } else { x with xfade := some (0, old, s.xfade) }
  let d := ((d.setAnv x).puts [(fANV_STS_LIVE, new), (fANV_STS_SCENE, if s.xfade = 0 then 0 else 2)]).inc rANV_SWAP_CNT
  let d := d.dropClaim s.tcmp
  d.showCosts

/-- Block `w` is the one whose boundary is that of a pending swap: the swap is made, if the lanes that work now still carry its
P0 and P1 costs (Tables 8.7, 8.8). -/
def Dev.swapCheck (d : Dev) (w : AnvDue) : Dev :=
  match d.anv.swap with
  | some s =>
    if w.short || s.at_ != some w.start then d
    else
      let cs := d.classed s.bank
      if d.capacity < d.classCost cs 0 + d.classCost cs 1 then
        d.swapEnd.anvRefuse 8 1 s.bank 0
      else d.swapNow s
  | none => d

/-! ## The gather (R228 to R232) -/

/-- Samples of a gathered handle set down, where an enabled entry of a running bank reads it (R229). -/
def Dev.putIn (d : Dev) (reads : List Nat) (h : Nat) (xs : List Int) : Dev := if reads.contains h then d.putSig 0 h xs else d

/-- A sample lies before the enable, which the first block gathers as zero (R217). -/
def Dev.beforeEnable (d : Dev) (k : Word64) : Bool :=
  match d.anv.since with
  | some z => decide (sdiff64 k z < 0)
  | none => false

/-- A sample of an input handle as the gather takes it: silence where its crossing has silenced it (R31). -/
def Dev.heard (d : Dev) (h : Nat) (s : Word64) (v : Int) : Int := if d.anv.hushed.contains (h, s) then 0 else v

/-- The rows of a context on the house clock for a block; samples before the enable are zero (R217, R229). -/
def Dev.gatherCtx (d : Dev) (reads : List Nat) (c : Nat) (s : Word64) (n : Nat) (short : Bool) : Dev :=
  let (rows, d) := (List.range n).foldl (fun (a : List (List Int) × Dev) i =>
    let k := s + BitVec.ofNat 64 i
    let (row, d) := a.2.srxReadAt c k short
    (a.1 ++ [if d.beforeEnable k then row.map fun _ => 0 else row], d)) ([], d)
  (List.range (d.cCh (rxCtx c))).foldl (fun d k =>
    let h := 0x1000 + d.cBase (rxCtx c) + k
    d.putIn reads h (rows.zipIdx.map fun (r : List Int × Nat) => d.heard h (s + BitVec.ofNat 64 r.2) (r.1.getD k 0))) d

/-- The foreign rows of a context that an SRC job converts in a block. -/
def Dev.gatherForeign (d : Dev) (c : Nat) (s : Word64) (n : Nat) : Dev :=
  let fs := d.fgnSamples (d.ctxMcg (rxCtx c)) s n
  let (rows, d) := fs.foldl (fun (a : List (List Int) × Dev) f =>
    let (row, d) := a.2.srxReadAt c f.1 false
    ((row.zipIdx.map fun x => d.heard (0x1000 + d.cBase (rxCtx c) + x.2) f.1 x.1) :: a.1, d)) ([], d)
  match fs.getLast? with
  | some f => d.setAnv { d.anv with rows := kset (0, []) d.anv.rows c (f.1.toNat, rows) }
  | none => d.setAnv { d.anv with rows := kset (0, []) d.anv.rows c (0, []) }

/-- The SIN samples of a port for a block. -/
def Dev.gatherSap (d : Dev) (reads : List Nat) (p : Nat) (s : Word64) (n : Nat) : Dev :=
  let (rows, d) := (List.range n).foldl (fun (a : List (List Int) × Dev) i =>
    let (row, d) := a.2.sinRow p (s + BitVec.ofNat 64 i)
    (a.1 ++ [if d.beforeEnable (s + BitVec.ofNat 64 i) then row.map fun _ => 0 else row], d)) ([], d)
  (List.range 8).foldl (fun d k => d.putIn reads (0x2000 + 8 * p + k) (rows.map fun (r : List Int) => r.getD k 0)) d

/-- The store scrub's words of a block: what they hold is found (R523). -/
def Dev.storeScrub (d : Dev) (depth : Nat) : Dev :=
  if 2 ≤ depth then d else
  let d := d.eccReads 2 d.anv.scrub 2048
  d.setAnv { d.anv with scrub := (d.anv.scrub + 2048) % 524288 }

/-- The entries of the lists of the banks that run are read. -/
def Dev.jobReadsTbl (d : Dev) (banks : List Nat) : Dev :=
  if d.sound then d else (banks.flatMap d.bankList).foldl (fun d j => d.tblReads (jobAt j.bank j.entry) 2) d

/-- The gather writes the signal area: an armed injection goes into the first word that it writes, and a job that reads it takes zero
(R537, Table 22.1). -/
def Dev.gatherInject (d : Dev) : Dev :=
  if !d.injDue 2 then d else
  match d.anv.sig.find? fun e => decide (131072 ≤ e.1) with
  | none => d
  | some (k, xs) =>
    let w := sigBase (k - 131072) / 8
    let ue := d.get fINT_INJ_CMD_BITS == 2
    let d := (d.arrayWrite 2 w).eccReads 2 w 1
    if ue then d.setAnv { d.anv with sig := kset [] d.anv.sig k (xs.set 0 0) } else d

/-- The NRX and SIN handles that jobs of the running banks read are gathered, and read points advance (R172, R229); a handle
that no context or port fills is zero. -/
def Dev.gatherAll (d : Dev) (banks : List Nat) (s : Word64) (n : Nat) (short : Bool) : Dev :=
  let d := d.setAnv { d.anv with sig := d.anv.sig.filter fun e => decide (e.1 < 131072), rows := [] }
  let house := d.get fMCG_HOUSE_HOUSE
  let reads := (banks.flatMap d.bankJobs).flatMap d.jobReads
  let rx := d.srxOrder.filter fun c => !fmtCrf (d.cFmt (rxCtx c))
  let d := (rx.filter fun c => d.ctxMcg (rxCtx c) == house).foldl (fun d c => d.gatherCtx reads c s n short) d
  let srcs := (banks.flatMap d.bankJobs).filter fun j => j.typ == 7 && j.dir == 0 && !d.srcMismatch j
  let fs := (rx.filter fun c => d.ctxMcg (rxCtx c) != house && srcs.any fun j => d.chanOwner false (j.src % 4096) == some (rxCtx c))
  let d := fs.foldl (fun d c => d.gatherForeign c s n) d
  let d := (List.range 24).foldl (fun d p => if d.sapFeeds p then d.gatherSap reads p s n else d) d
  (d.setAnv { d.anv with since := none, hushed := [] }).gatherInject

/-- The deadline D of a job in a block of `n` samples (R230 to R232), and whether the P0 limit sets it. -/
def Dev.jobDue (d : Dev) (j : Job) (cls n : Nat) : Nat × Bool :=
  let (a, b) := d.mcgFs (d.get fMCG_HOUSE_HOUSE)
  let t := (if a = 0 then 0 else (j.deadline + 1) * n * 1000000000 * b / (256 * a)) - 64
  if cls = 0 ∧ 4699 < t then (4699, true) else (t, false)

/-- A P3 job that is shed (R241): a GEN or PLAY outputs zero, a CAPTURE marks its block not captured, an NTX handle
carries zero (R144). -/
def Dev.shedJob (d : Dev) (j : Job) (s : Word64) (n : Nat) : Dev :=
  let d := (j.writes.filter fun h => j.typ == 9 || j.typ == 11 || h / 4096 == 8).foldl
    (fun d h => d.putSig j.bank h (List.replicate n 0)) d
  let d := if j.typ = 7 ∧ j.dir = 1 then d.setAnv { d.anv with fgn := kset none d.anv.fgn (65536 * j.bank + j.dst % 4096) none } else d
  if j.typ = 10 then d.ctrAccount (j.f0 7 0) s n else d

/-- The jobs of a bank for a block: shed ones have taken their effect and do not appear. -/
def Dev.planJobs (d : Dev) (shed : List ShedItem) (s : Word64) (n : Nat) : List (Job × Nat) → List JobRun × Dev
  | [] => ([], d)
  | (j, c) :: t =>
    let hit := shed.find? fun i => i.job == some (j.bank, j.entry)
    match hit with
    | some i =>
      if i.p3 then (d.shedJob j s n).planJobs shed s n t
      else
        let (due, p0) := d.jobDue j c n
        let (rs, d) := d.planJobs shed s n t
        ({ bank := j.bank, entry := j.entry, cls := Fin.ofNat 4 c, due := due, p0 := p0, reduced := true, cost := d.jobCost j n true } :: rs, d)
    | none =>
      let (due, p0) := d.jobDue j c n
      let (ext, d) := d.extStart j s n
      let (rs, d) := d.planJobs shed s n t
      ({ bank := j.bank, entry := j.entry, cls := Fin.ofNat 4 c, due := due, p0 := p0, ext := ext, cost := d.jobCost j n false } :: rs, d)

/-- The head of the closed blocks is gathered and its job phase begins (R229): lanes retire, a swap takes effect, the
governor sets the depth, samples move, jobs start. -/
def Dev.gatherNow (d : Dev) : Dev :=
  match d.anv.due with
  | [] => d
  | w :: rest =>
    let d := (d.anv.retire.mergeSort (· ≤ ·)).foldl Dev.retireLane d
    let d := (d.setAnv { d.anv with due := rest, retire := [], count := d.anv.count + 1 }).putB fANV_STS_RUN true
    let d := d.swapCheck w
    let live := d.get fANV_STS_LIVE
    let banks := match d.anv.xfade with
      | some (_, old, _) => [old, live]
      | none => [live]
    let d := ((d.setAnv { d.anv with fresh := false }).govern banks d.anv.fresh w.cap).telemetry w.ft
    let depth := (d.reg rSCH_SHED_DEPTH).toNat
    let d := ((d.storeScrub depth).jobReadsTbl banks).gatherAll banks w.start w.n w.short
    let shed := (d.shedOrder banks).take depth
    let (jobs, d) := d.planJobs shed w.start w.n (d.runningJobs banks)
    let d := d.setBlock { start := w.start, n := w.n, jobs := jobs, live := live, fade := d.anv.xfade.map fun x => (x.1, x.2.2),
                          used := if 2 ≤ depth then 0 else 2048 }
    (d.failReads.dispatch (2 * jobs.length)).beginChecks

/-- The input words of the next block's samples have come (R260). -/
def Dev.gatherReady (d : Dev) : Bool := d.anv.due.head?.all fun w => d.sapReady w.start w.n

/-- Gathers that wait begin, one after another, as each block ends (R232) and its input words have come (R260). -/
def Dev.runWaiting (d : Dev) : Nat → Dev
  | 0 => d
  | k + 1 =>
    if d.anv.block.isNone && d.anv.waiting != 0 && d.anvRuns && d.on fANV_CTL_EN && d.gatherReady then
      ((d.setAnv { d.anv with waiting := d.anv.waiting - 1 }).gatherNow.endBlock).runWaiting k
    else d

/-- The gathers that wait begin, as far as they may. -/
def Dev.anvWait (d : Dev) : Dev := d.runWaiting d.anv.waiting

/-- What follows a change of the block: free jobs start, a block that is done ends, and a gather that waited for it
begins (R232, R234). -/
def Dev.anvGo (d : Dev) : Dev :=
  match d.anv.block with
  | none => d
  | some b =>
    (d.failReads.dispatch (2 * b.jobs.length)).beginChecks.endBlock.anvWait

/-- BLOCK_GATHER: the tick word that closes a block has reached ANV; while a job phase runs the gather waits, which is
counted, and it waits for the input words of its samples (R229, R232, R260). -/
def Dev.blockGather (d : Dev) : Dev :=
  if !(d.anvRuns && d.on fANV_CTL_EN) ∨ d.anv.due.length ≤ d.anv.waiting then d
  else
    let w := d.setAnv { d.anv with waiting := d.anv.waiting + 1 }
    if d.anv.block.isSome then w.inc rSCH_GATHER_WAIT_CNT else w.anvWait

/-! ## Ticks of the house clock (R119, R217, R228) -/

/-- The boundary of the block that begins at `start` is that of a pending swap, if its comparator, where it has one, has fired
(Table 8.7). -/
def AnvSwap.meets (s : AnvSwap) (start : Word64) : AnvSwap :=
  if s.at_.isNone && (s.tcmp.isNone || s.fired) then { s with at_ := some start } else s

/-- A block closed by the tick of sample `at_`, with what stands on its cycle 0 (R228). -/
def Dev.closeBlock (d : Dev) (start : Word64) (n : Nat) (short : Bool) (at_ : Word64) : Dev :=
  let ft := (((d.mcgOf (d.get fMCG_HOUSE_HOUSE)).ticks.find? fun x => x.1 == at_).map (·.2)).getD d.ft64
  d.setAnv { d.anv with due := d.anv.due ++ [{ start := start, n := n, short := short, ft := ft, cap := d.reg rSCH_CAP_MW }],
                        swap := if short then d.anv.swap else d.anv.swap.map fun w => w.meets start }

/-- Blocks that end at or before sample `s` are closed. -/
def Dev.closeBlocks (d : Dev) (s : Word64) : Nat → Dev
  | 0 => d
  | fuel + 1 =>
    match d.anv.next with
    | some f =>
      let b := d.blockLen
      let e : Word64 := BitVec.ofNat 64 ((f.toNat / b + 1) * b)
      if decide (0 ≤ sdiff64 s e) then
        let d := d.closeBlock f (e - f).toNat false e
        (d.setAnv { d.anv with next := some e }).closeBlocks s fuel
      else d
    | none => d

/-- A tick word of the house clock reaches ANV; `old` is its local index before it, the last sample of the block that a rebase
closes short (R119). The first tick after an enable closes a block that lies all before it, where its sample is a multiple of B
(R217). -/
def Dev.anvTick (d : Dev) (old : Option Word64) (s : Word64) (rebase : Bool) : Dev :=
  if !(d.anvRuns && d.on fANV_CTL_EN) then d else
  let b := d.blockLen
  let d := if rebase then d.sapHouseRebase else d
  match d.anv.next with
  | none =>
    if rebase then d.setAnv { d.anv with next := some s, since := none }
    else (d.setAnv { d.anv with next := some (BitVec.ofNat 64 ((s - 1).toNat / b * b)), since := some s }).closeBlocks s 1
  | some f =>
    if rebase then
      let n := match old with
        | some l => (sdiff64 l f + 1).toNat
        | none => 0
      let d := if n = 0 then d.setAnv { d.anv with since := none } else d.closeBlock f n true s
      d.setAnv { d.anv with next := some s }
    else d.closeBlocks s 64

/-! ## Enable and disable (R217, R218) -/

/-- A pending swap whose bank an enable makes LIVE has nothing left to do (log entry 162). -/
def Dev.swapAtEnable (d : Dev) : Dev :=
  match d.anv.swap with
  | some s => if s.bank = d.get fANV_STS_LIVE then d.swapEnd else d.fixClasses s.bank
  | none => d

/-- ANV_ENABLE: a write of 1 to EN, EN set already. -/
def Dev.anvEnable (d : Dev) : Dev :=
  let b := d.get fANV_CTL_BANK
  match d.validate b with
  | some (code, e) => (d.putB fANV_CTL_EN false).anvRefuse code 0 b e
  | none =>
    let l := (d.path (Fin.ofNat 8 (d.get fMCG_HOUSE_HOUSE)).val .anv).idx
    let d := d.setAnv { d.anv with next := l.map fun s => BitVec.ofNat 64 (s.toNat / d.blockLen * d.blockLen),
                                   since := l, fresh := true, ease := [], period := 0, misses := 0 }
    (((d.fixClasses b).putB fANV_STS_LIVE (b == 1)).swapAtEnable).showCosts

/-- No further block runs: a swap whose boundary has come without its gather waits for another. -/
def AnvSt.stop (x : AnvSt) : AnvSt :=
  { x with due := [], waiting := 0, next := none, since := none, swap := x.swap.map fun s => { s with at_ := none } }

/-- ANV_DISABLE: a write of 0 to EN, EN cleared already: the block in progress completes and no further block runs; a
pending swap ends and its claim is released. -/
def Dev.anvDisable (d : Dev) : Dev :=
  let d := d.swapEnd
  let d := d.setAnv { d.anv.stop with xfade := none }
  let d := (d.put fANV_STS_SCENE 0).unfollow (d.get fMCG_HOUSE_HOUSE) .anv
  match d.anv.block with
  | some b => d.setBlock { b with disabled := true }
  | none => (d.putB fANV_STS_RUN false).anvSilent

/-- The house generator stops: the block in progress completes and no further block runs (Table 4.5). -/
def Dev.anvGenStopped (d : Dev) : Dev :=
  let d := d.setAnv d.anv.stop
  if d.anv.block.isNone then d.putB fANV_STS_RUN false else d

/-! ## Commits, faults, misses, reads -/

/-- A job ends without a fault: the check that a spare lane runs of it, if one does, completes with it; `k` says how their results
compare. A third run needs another spare lane that is free (R226). -/
def Dev.shadowCheck (d : Dev) (b : AnvBlock) (r : JobRun) (lane : Nat) (k : Shadow) : Dev :=
  match b.checks.find? fun x => x.2 == r.key with
  | none => d
  | some (spare, _) =>
    let free := d.spares.any fun l => l != spare && (b.onLane l).isNone && !b.checking l
    let d := (d.inc rANV_SHADOW_CNT).setBlock (b.uncheck r.key)
    match k with
    | .differ third =>
      let d := d.inc rANV_SHADOW_MISMATCH_CNT
      match third, free with
      | some working, true =>
        let bad := if working then lane else spare
        let (out, d) := d.chargeLane bad
        d.capture fANV_FAULT_LOG_VALID [(fANV_FAULT_LOG_KIND, 1), (fANV_FAULT_LOG_LANE, bad),
          (fANV_FAULT_LOG_OUTCOME, if out then 2 else 0), (fANV_FAULT_LOG_ENTRY, r.entry)]
      | _, _ => d
    | _ => d

/-- JOB_COMMIT: the job on a lane ends without a fault and commits; the lane takes the next free job (R197, R224, R226). -/
def Dev.jobCommit (d : Dev) (lane : Nat) (k : Shadow) : Dev :=
  if !d.anvRuns then d else
  match d.anv.block with
  | none => d
  | some b =>
    match b.onLane lane with
    | none => d
    | some r =>
      match r.stage with
      | .running _ again o =>
        let d := if again then d.inc rANV_REEXEC_CNT else d.shadowCheck b r lane k
        let b := d.anv.block.getD b
        let d := d.commitJob b r o
        (d.setBlock ((b.put { r with stage := .done }).uncheck r.key)).anvGo
      | _ => d

/-- LANE_RESIDUE_FAULT: a residue fault stops the job on a lane; with a spare free and slack before the deadline it runs
again there, else it takes the fallback (R224). A P0 job that its limit leaves no time to run again misses by that limit
(Table 9.5; log entry 183). -/
def Dev.laneFault (d : Dev) (lane : Nat) (slack : Bool) : Dev :=
  if !d.anvRuns then d else
  match d.anv.block with
  | none => d
  | some b =>
    match b.onLane lane with
    | none => d
    | some r =>
      let (out, d) := (d.inc rANV_RES_FAULT_CNT).chargeLane lane
      let b := b.uncheck r.key
      let idle := d.spares.filter fun l => (b.onLane l).isNone && l != lane
      let spare := (idle.find? fun l => !b.checking l).orElse fun _ => idle.head?
      let log := fun (d : Dev) (o : Nat) => d.capture fANV_FAULT_LOG_VALID [(fANV_FAULT_LOG_KIND, 0), (fANV_FAULT_LOG_LANE, lane),
        (fANV_FAULT_LOG_OUTCOME, if out then 2 else o), (fANV_FAULT_LOG_ENTRY, r.entry)]
      let fail := fun (d : Dev) => (((log d 1).inc rANV_REEXEC_FAIL_CNT).missJob b r (if r.p0 && !slack then 2 else 3)).anvGo
      match r.stage, spare with
      | .running _ false o, some s =>
        if slack then
          ((log d 0).setBlock { b.put { r with stage := .running s true o } with
            used := b.used + r.cost, checks := b.checks.filter fun x => x.1 != s }).anvGo
        else fail d
      | _, _ => fail d

/-- The cause of a miss of a job that has not committed by cycle D (Table 9.10). -/
def JobRun.cause (r : JobRun) : Nat :=
  match r.stage, r.ext with
  | .waiting, some (false, _) => 4
  | .waiting, _ => if r.p0 then 2 else 1
  | _, _ => if r.p0 then 2 else 0

/-- JOB_DEADLINE_MISS: cycle D + 1 of an entry's job is reached and it has not committed (R247). -/
def Dev.deadlineMiss (d : Dev) (bank entry : Nat) : Dev :=
  if !d.anvRuns then d else
  match d.anv.block with
  | none => d
  | some b =>
    match b.jobs.find? fun r => r.bank == bank && r.entry == entry && r.open_ with
    | some r => ((d.cancelRetry r.key).missJob b r r.cause).anvGo
    | none => d

/-- The job whose external read is in flight. -/
def Dev.reader (d : Dev) (bank entry : Nat) : Option (AnvBlock × JobRun) :=
  match d.anv.block with
  | none => none
  | some b =>
    (b.jobs.find? fun r => r.bank == bank && r.entry == entry && r.stage == .waiting && (match r.ext with
      | some (back, _) => !back
      | none => false)).map fun r => (b, r)

/-- A read of a job returns with good or corrected data: the job becomes free (R209). -/
def Dev.readBack (d : Dev) (b : AnvBlock) (r : JobRun) : Dev :=
  let vs := match r.ext with
    | some (_, vs) => vs
    | none => []
  let d := d.setTries r.key 0
  (d.setBlock (b.put { r with ext := some (true, vs) })).anvGo

end Sys2Proof.Machine
end

