-- ==== Sys2Proof/Machine/StageBus.lean ====
section
/-! DEFINITION. The 10BASE-T1S stage bus (R348 to R355): enabling, transmit queues, PLCA and CSMA/CD, and receiving. -/

namespace Sys2Proof.Machine

open Sys2Proof

/-- The port runs: enabled, with its domain ON. -/
def Dev.t1sOn (d : Dev) : Bool := d.on fT1S_CFG_EN && d.domOn 13

/-- NODE_COUNT as it acts (Table 14.12). -/
def Dev.t1sNodes (d : Dev) : Nat := max 1 (min 8 (d.get fT1S_PLCA_CFG_NODE_COUNT))

/-- The port's address: bytes 0 and 1 in _H, 2 to 5 in _L. -/
def Dev.t1sMac (d : Dev) : Nat := d.get fT1S_MAC_ADDR_H_ADDR * 2 ^ 32 + (d.reg rT1S_MAC_ADDR_L).toNat

/-- PLCA governs sending; otherwise CSMA/CD does (R354). -/
def Dev.plca (d : Dev) : Bool := d.on fT1S_PLCA_CFG_PLCA_EN && d.on fT1S_STS_PLCA_ACTIVE

/-! ## Enable (R353, Table 14.10) -/

/-- The refusal code of an enable. -/
def Dev.t1sCheck (d : Dev) : Nat :=
  if d.on fT1S_PLCA_CFG_PLCA_EN ∧ d.t1sNodes ≤ d.get fT1S_PLCA_CFG_NODE_ID then 1 else if !d.domOn 13 then 2 else 0

/-- EN written 1. -/
def Dev.t1sEnable (d : Dev) : Dev :=
  let code := d.t1sCheck
  if code = 0 then
    let d := (d.putB fT1S_CFG_EN true).setReg rT1S_STS 0
    (d.putB fT1S_STS_RUN true).putB fT1S_STS_LINK true
  else
    let d := ((d.putB fT1S_CFG_EN false).putB fT1S_STS_CFG_ERR true).put fT1S_STS_ERR_CODE code
    d.inc rNET_REFUSE_CNT

/-- EN written 0, or the domain leaves ON: the port stops; frames in its queues wait (log entry 50). -/
def Dev.t1sStop (d : Dev) : Dev :=
  let d := { d with t1s := { d.t1s with onWire := false, backoff := none, burst := 0 } }
  ((d.putB fT1S_STS_RUN false).putB fT1S_STS_LINK false).putB fT1S_STS_PLCA_ACTIVE false

/-! ## Queues (R351, R363) -/

/-- A cue frame's deadline is forgotten. -/
def Dev.cueFrameGone (d : Dev) (n : Nat) : Dev :=
  if n = 0 then d else { d with cue := { d.cue with deadlines := kset none d.cue.deadlines n none } }

/-- A cue frame dropped at its deadline or for want of room (R351, R363); on the stage bus it counts there too. -/
def Dev.cueFrameDrop (d : Dev) (n : Nat) (bus : Bool) : Dev :=
  let d := (d.inc rCUE_FRAME_DROP_CNT).cueFrameGone n
  if bus && d.domOn 13 then d.inc rT1S_TX_CANCEL_CNT else d

/-- A frame offered to the cue queue or the management queue, padded as any frame is (R291, R366). -/
def Dev.t1sOffer (d : Dev) (isCue : Bool) (f : T1sFrame) : Dev :=
  let q := if isCue then d.t1s.cueQ else d.t1s.mgmtQ
  if 8 ≤ q.length then
    let d := d.inc rT1S_TX_QFULL_CNT
    if isCue then d.cueFrameDrop f.cue true else d
  else
  let f : T1sFrame := { f with bytes := padFrame f.bytes }
  if isCue then { d with t1s := { d.t1s with cueQ := q ++ [f] } }
  else { d with t1s := { d.t1s with mgmtQ := q ++ [f] } }

/-- An attempt begins: of the frame being retried, else of the head of the cue queue, else of the management queue. -/
def Dev.t1sAttempt (d : Dev) : Dev :=
  let x := d.t1s
  match x.tx, x.cueQ, x.mgmtQ with
  | some _, _, _ => { d with t1s := { x with onWire := true } }
  | none, f :: t, _ => { d with t1s := { x with tx := some f, cols := 0, onWire := true, cueQ := t } }
  | none, [], f :: t => { d with t1s := { x with tx := some f, cols := 0, onWire := true, mgmtQ := t } }
  | none, [], [] => d

/-- The frame being attempted leaves the port. -/
def Dev.t1sGone (d : Dev) : Dev :=
  match d.t1s.tx with
  | some f => ({ d with t1s := { d.t1s with tx := none, cols := 0, onWire := false, backoff := none } }).cueFrameGone f.cue
  | none => d

/-- A frame's last byte leaves the stage bus port. -/
def Dev.t1sSent (d : Dev) : Dev :=
  if d.t1s.onWire then
    let d := d.t1sGone.inc rT1S_TX_FRAME_CNT
    { d with t1s := { d.t1s with burst := d.t1s.burst + 1 } }
  else d

/-! ## PLCA and CSMA/CD (R352 to R355) -/

/-- BEACON: the coordinator sends one, or another node hears it. -/
def Dev.beacon (d : Dev) : Dev :=
  if d.t1sOn && d.on fT1S_PLCA_CFG_PLCA_EN then
    ({ d with t1s := { d.t1s with backoff := none, burst := 0 } }).putB fT1S_STS_PLCA_ACTIVE true
  else d

/-- TRANSMIT_OPPORTUNITY: the node's opportunity begins, or `further`: one more frame may start within it (R352). -/
def Dev.transmitOpportunity (d : Dev) (further : Bool) : Dev :=
  if !(d.t1sOn && d.plca) || d.t1s.onWire then d
  else if further then
    (if 1 ≤ d.t1s.burst ∧ d.t1s.burst ≤ d.get fT1S_PLCA_BURST_MAX_BURST then d.t1sAttempt else d)
  else ({ d with t1s := { d.t1s with burst := 0 } }).t1sAttempt

/-- BEACON_LOSS: no BEACON for 4 000 bit times (R353). -/
def Dev.beaconLoss (d : Dev) : Dev :=
  if d.t1sOn && d.plca && d.get fT1S_PLCA_CFG_NODE_ID != 0 then
    (d.putB fT1S_STS_PLCA_ACTIVE false).inc rT1S_BEACON_LOSS_CNT
  else d

/-- A cue frame's deadline has been reached (R38, R363). -/
def Dev.cueFramePast (d : Dev) (n : Nat) : Bool :=
  match kget none d.cue.deadlines n with
  | some t => decide (0 ≤ sdiff64 d.ft64 t)
  | none => false

/-- COLLISION: the attempt on the wire collides, `late` when after 512 bits; `r` is the random draw of the back-off
(R354, R363). While PLCA is active every collision is retried, in the port's next opportunity (R355). A cue frame whose
deadline has been reached is dropped without a retry. -/
def Dev.collision (d : Dev) (late : Bool) (r : Nat) : Dev :=
  match d.t1s.tx with
  | none => d
  | some f =>
    if !d.t1s.onWire then d else
    let d := d.inc rT1S_COL_CNT
    let n := d.t1s.cols + 1
    let late := late && !d.plca
    let past := d.cueFramePast f.cue
    let d := if d.plca then { d with t1s := { d.t1s with burst := 0 } } else d
    if late || decide (16 ≤ n) || past then
      let d := if late then d.inc rT1S_LATE_COL_CNT else if 16 ≤ n then d.inc rT1S_EXCESS_COL_CNT else d
      if past then d.t1sGone.cueFrameDrop f.cue true else d.t1sGone
    else
      let b := if d.plca then none else some (r % 2 ^ min n 10)
      { d with t1s := { d.t1s with cols := n, onWire := false, backoff := b } }

/-- BACKOFF_END: the slot times drawn have passed. -/
def Dev.backoffEnd (d : Dev) : Dev := { d with t1s := { d.t1s with backoff := none } }

/-- DEFER_END: under CSMA/CD the bus has been idle for 96 bit times (R354). -/
def Dev.deferEnd (d : Dev) : Dev :=
  if d.t1sOn && !d.plca && !d.t1s.onWire && d.t1s.backoff.isNone then d.t1sAttempt else d

/-! ## Receiving (R349, Table 14.1) -/

/-- The universe of an E1.31 packet: bytes 113 and 114 of the UDP payload (ANSI E1.31, log entry 51). -/
def e131Universe (bs : List Byte) : Nat :=
  match udpView bs with
  | some (v, _) => beAt bs (v.pay + 8 + 113) 2
  | none => 0

/-- The buffers bound to a universe (R372). -/
def Dev.e131Bufs (d : Dev) (u : Nat) : List Nat :=
  if u = 0 ∨ 63999 < u then [] else (List.range 8).filter fun b => d.get (fCUE_BUFb_CFG_UNIV b) == u

/-- T1S_FRAME_RECEIVE: a frame's last byte arrives; the consumers of Table 14.1 take it. A frame with a PCS error is discarded
first, and the block has no counter for it (log entry 205). A Miodal frame that R331 calls bad is counted as one, and the host
queue takes it all the same where its condition is met. -/
def Dev.t1sReceive (d : Dev) (f : T1sRx) : Dev :=
  if !d.t1sOn || f.pcsErr then d else
  let len := f.bytes.length
  let bs := f.bytes.take (len - 4)
  if len < 64 then d.inc rT1S_RX_RUNT_CNT
  else if 1522 < len then d.inc rT1S_RX_OVERSIZE_CNT
  else if f.bytes.drop (len - 4) ≠ fcsOf bs then d.inc rT1S_RX_FCS_ERR_CNT
  else
    let d := d.inc rT1S_RX_FRAME_CNT
    let miodal := beAt bs 12 2 == 0x88B5 && d.mioOn
    let bad := miodal && mioBad bs
    let wake := etherType bs == 0x88B6
    let mgmt := miodal && !bad && (mioHead bs).sub == 4
    let e131 := isE131 bs && !(d.e131Bufs (e131Universe bs)).isEmpty
    let host := dstOf bs == d.t1sMac || dstOf bs == broadcast || d.on fT1S_CFG_PROMISC
    let give := fun (d : Dev) (s : Sink) => d.hand { sink := s, port := 4, bytes := bs }
    let d := if bad then d.inc rMIO_BAD_FRAME_CNT else d
    let d := if wake then give d .wake else d
    let d := if mgmt then give d (if beAt (mioBody bs) 3 1 / 128 = 1 then .response else .mgmt) else d
    let d := if e131 then give d .e131 else d
    let d := if host then d.hqPush (d.get fT1S_CFG_RXQ) 1 bs else d
    if bad || wake || mgmt || e131 || host then d else d.inc rT1S_RX_FILTER_CNT

end Sys2Proof.Machine
end

