-- ==== Sys2Proof/Machine/Cue.lean ====
section
/-! DEFINITION. The cue engine (R356 to R379): triggers and due times, comparators, firing and its actions, frame
templates, DMX ports, universe buffers, cue pins, timecode, enabling and live editing. -/

namespace Sys2Proof.Machine

open Sys2Proof

/-! ## The cue table (R356, Tables 14.2 and 14.3) -/

/-- The table offset of cue `c`. -/
def cueBase (c : Nat) : Nat := 0x288000 + 64 * c

/-- Word `i` of cue `c`. -/
def Dev.cueWord (d : Dev) (c i : Nat) : Nat := readWord64 d.tbl (cueBase c + 8 * i)

def Dev.cueEn (d : Dev) (c : Nat) : Bool := d.cueWord c 0 / 2 ^ 63 == 1

/-- The engine reads cue `c`: what it finds in the cue's eight words is counted. -/
def Dev.cueReads (d : Dev) (c : Nat) : Dev := d.tblReads (cueBase c) 8

/-- A word of cue `c` holds an uncorrectable error: the cue is disabled (Table 22.1). -/
def Dev.cueBad (d : Dev) (c : Nat) : Bool := d.tblBad (cueBase c) 8

def Dev.cueOneshot (d : Dev) (c : Nat) : Bool := d.cueWord c 0 / 2 ^ 62 % 2 == 1
def Dev.cueTrig (d : Dev) (c : Nat) : Nat := d.cueWord c 0 / 2 ^ 56 % 16
def Dev.cueParam (d : Dev) (c : Nat) : Nat := d.cueWord c 0 % 2 ^ 48
def Dev.cueTarget (d : Dev) (c : Nat) : Word64 := BitVec.ofNat 64 (d.cueWord c 1)
def Dev.cueDelay (d : Dev) (c : Nat) : Nat := d.cueWord c 1 % 2 ^ 40
def Dev.cueWindow (d : Dev) (c : Nat) : Nat := min 1000000 (d.cueWord c 2 / 2 ^ 44)

/-- The repeat period in µs, 0 for none; only a time cue has one. -/
def Dev.cuePeriod (d : Dev) (c : Nat) : Nat := if d.cueTrig c = 1 then min 1000000 (d.cueWord c 2 / 2 ^ 24 % 2 ^ 20) else 0

/-- A cue in use with trigger kind `t`. -/
def Dev.cueHas (d : Dev) (c t : Nat) : Bool := d.cueEn c && d.cueTrig c == t

/-- The state of cue `c`. -/
def Dev.cueSt (d : Dev) (c : Nat) : CueSt := kget {} d.cue.cues c

/-- The device with a cue's state replaced. -/
def Dev.setCue (d : Dev) (c : Nat) (x : CueSt) : Dev := { d with cue := { d.cue with cues := kset {} d.cue.cues c x } }

/-- The engine runs. -/
def Dev.cueOn (d : Dev) : Bool := d.on fCUE_STS_RUN && d.domOn 1

/-- A cue's state as at enable (R378). -/
def Dev.cueStart (d : Dev) (c : Nat) : CueSt := if d.cueHas c 1 && !d.cueBad c then { state := 1, due := d.cueTarget c } else {}

/-- The cues PENDING, in ascending number. -/
def Dev.cuesPending (d : Dev) : List (Nat × CueSt) := d.cue.cues.filter fun e => e.2.state == 1

/-! ## Comparators (R361) -/

/-- A value put once into a list of times that rises as seen from `now` (R51). -/
def insertTime (now t : Word64) : List Word64 → List Word64
  | [] => [t]
  | x :: l => if t = x then x :: l else if sdiff64 t now < sdiff64 x now then t :: x :: l else x :: insertTime now t l

/-- The comparators the engine claims. -/
def Dev.cueTcmps (d : Dev) : List Nat := (List.range (d.get fCUE_CFG_TCMP_NUM)).map (d.get fCUE_CFG_TCMP_BASE + ·)

/-- The due times to keep armed: the earliest distinct ones of PENDING cues that are at least 2 µs ahead or armed already. -/
def Dev.cueWanted (d : Dev) : List Word64 :=
  let armed := d.cueTcmps.filterMap (kget none d.cue.armed)
  let dues := (d.cuesPending.map (·.2.due)).filter fun t => decide (2000 ≤ sdiff64 t d.ft64) || armed.contains t
  (dues.foldl (fun l t => insertTime d.ft64 t l) []).take (d.get fCUE_CFG_TCMP_NUM)

/-- An armed comparator of the engine fires for a target already reached, before it is re-armed, disarmed or given up
(Table 2.3). The cues of that target need no comparator any more. -/
def Dev.cueLastFire (d : Dev) (n : Nat) : Dev :=
  if d.on (fTIME_TCMPnn_STS_ARMED n) && decide (0 ≤ sdiff64 d.ft64 (d.tcmpOf n).next) then d.tcmpFired n false else d

/-- One comparator kept, re-armed for the next wanted time, or disarmed; `w` is what no comparator holds yet. -/
def Dev.cueArm1 (d : Dev) (n : Nat) (keep w : List Word64) : List Word64 × Dev :=
  match kget none d.cue.armed n with
  | some t =>
    if keep.contains t then (w, d)
    else
      let d := d.cueLastFire n
      match w with
      | t' :: w' => (w', ({ d with cue := { d.cue with armed := kset none d.cue.armed n (some t') } }).armTcmp n 1 t' 0)
      | [] => ([], ({ d with cue := { d.cue with armed := kset none d.cue.armed n none } }).putB (fTIME_TCMPnn_STS_ARMED n) false)
  | none =>
    match w with
    | t' :: w' => (w', ({ d with cue := { d.cue with armed := kset none d.cue.armed n (some t') } }).armTcmp n 1 t' 0)
    | [] => ([], d)

/-- The comparators brought to the due times to keep armed. -/
def Dev.cueArm (d : Dev) : Dev :=
  if d.cueOn then
    let keep := d.cueWanted
    let armed := d.cueTcmps.filterMap (kget none d.cue.armed)
    (d.cueTcmps.foldl (fun (wd : List Word64 × Dev) n => wd.2.cueArm1 n keep wd.1) (keep.filter fun t => !armed.contains t, d)).2
  else d

/-! ## Triggers (R358, R359) -/

/-- The due time a trigger at `t` gives cue `c`. -/
def Dev.cueDue (d : Dev) (c : Nat) (t : Word64) : Word64 :=
  let n := d.cueDelay c
  if n = 0 then t else t + BitVec.ofNat 64 (max n 2000)

/-- Cue `c` receives its trigger now. One that the engine cannot read takes none (Table 22.1). -/
def Dev.cueTrigger (d : Dev) (c : Nat) : Dev :=
  if d.cueBad c then d.cueReads c else
  let d := d.cueReads c
  if (d.cueSt c).state = 0 then d.setCue c { state := 1, due := d.cueDue c d.ft64 } else d.inc rCUE_RETRIG_CNT

/-- Every cue with trigger kind `t` whose TPARAM passes `p` receives its trigger. -/
def Dev.cueTriggerAll (d : Dev) (t : Nat) (p : Nat → Bool) : Dev :=
  if d.cueOn then
    (((List.range 4096).filter fun c => d.cueHas c t && p (d.cueParam c)).foldl (fun d c => d.cueTrigger c) d).cueArm
  else d

/-- CUE_TRIGGER: the oldest event or crossing that waits is accepted. -/
def Dev.cueAccept (d : Dev) : Dev :=
  match d.cue.trigs with
  | [] => d
  | t :: l =>
    let d := { d with cue := { d.cue with trigs := l } }
    match t with
    | .event e => d.cueTriggerAll 2 fun p => p % 256 == e
    | .cue c => if d.cueOn && d.cueHas c 4 then (d.cueTrigger c).cueArm else d

/-- The direction of cue pin `k`: 0 unused, 1 output, 2 input. -/
def Dev.pinDir (d : Dev) (k : Nat) : Nat := (d.reg rPIN_CUE_CFG).toNat / 4 ^ k % 4

/-- CUE_PIN_EDGE: the level at the ball of pin `k` changes and holds for 40 ns (R359). -/
def Dev.cuePinEdge (d : Dev) (k : Nat) (level : Bool) : Dev :=
  let old := d.cueIn.toNat / 2 ^ k % 2 == 1
  let d := { d with cueIn := BitVec.ofNat 16 (d.cueIn.toNat - old.toNat * 2 ^ k + level.toNat * 2 ^ k) }
  if old = level ∨ d.pinDir k ≠ 2 then d
  else d.cueTriggerAll 3 fun p => p % 16 == k && p / 256 / (if level then 1 else 2) % 2 == 1

/-- CUE_GO with OP = 1. -/
def Dev.cueGo (d : Dev) (c : Nat) : Dev := if d.cueOn && d.cueHas c 5 then (d.cueTrigger c).cueArm else d

/-! ## Universe buffers (R372, R373) -/

/-- Buffer `b`: start code and 512 slots. -/
def Dev.cueBuf (d : Dev) (b : Nat) : List Byte :=
  ((List.range 129).flatMap fun k => beBytes 4 (d.reg (rCUE_BUFb_DATA b k)).toNat).take 513

/-- The words of a buffer written from bytes. -/
def Dev.putBufWords (d : Dev) (b : Nat) : Nat → Nat → List Byte → Dev
  | 0, _, _ => d
  | fuel + 1, k, bs =>
    let w := bs.take 4
    (d.setReg (rCUE_BUFb_DATA b k) (BitVec.ofNat 32 (beNat (w ++ List.replicate (4 - w.length) 0)))).putBufWords b fuel (k + 1)
      (bs.drop 4)

/-- One commit of buffer `b`; slots beyond the bytes given become 0. -/
def Dev.setCueBuf (d : Dev) (b : Nat) (bs : List Byte) : Dev := d.putBufWords b 129 0 (bs.take 513)

/-! ## Frame templates (R366, Table 14.6) -/

/-- Bytes of template `t`. -/
def Dev.tmpl (d : Dev) (t off n : Nat) : List Byte := readBytes d.tbl (0x30A000 + 0x400 * t + off) n

def Dev.tmplLen (d : Dev) (t : Nat) : Nat := beNat (d.tmpl t 0 2)
def Dev.tmplFillOfs (d : Dev) (t : Nat) : Nat := beNat (d.tmpl t 2 2)
def Dev.tmplSeqOfs (d : Dev) (t : Nat) : Nat := beNat (d.tmpl t 6 2)
def Dev.tmplFill (d : Dev) (t : Nat) : Bool := 128 ≤ beNat (d.tmpl t 4 1)

/-- A template that R366 calls invalid, or one with a poisoned word (Table 22.1). -/
def Dev.tmplBad (d : Dev) (t : Nat) : Bool :=
  let len := d.tmplLen t
  decide (len < 14 ∨ 1008 < len) || (d.tmplFill t && decide (len < d.tmplFillOfs t + 513)) || decide (len ≤ d.tmplSeqOfs t)
    || d.tblBad (0x30A000 + 0x400 * t) (2 + (min len 1008 + 7) / 8)

/-- The words of template `t` that its length takes in are read. -/
def Dev.tmplReads (d : Dev) (t : Nat) : Dev := d.tblReads (0x30A000 + 0x400 * t) (2 + (min (d.tmplLen t) 1008 + 7) / 8)

/-- The IPv4 header checksum of a frame computed. -/
def sumIpv4 (bs : List Byte) : List Byte :=
  match ipView bs with
  | some v =>
    if v.v6 then bs else
    let z := patch bs (v.off + 10) [0, 0]
    patch z (v.off + 10) (beBytes 2 (checksum ((z.drop v.off).take (v.pay - v.off))))
  | none => bs

/-- The UDP checksum of a frame computed; 0x0000 is sent as 0xFFFF. -/
def sumUdp (bs : List Byte) : List Byte :=
  match udpView bs with
  | some (v, _) =>
    let z := patch bs (v.pay + 6) [0, 0]
    let len := beAt z (v.pay + 4) 2
    let ips := if v.v6 then (z.drop (v.off + 8)).take 32 else (z.drop (v.off + 12)).take 8
    let ck := checksum (ips ++ beBytes 2 17 ++ beBytes 2 len ++ (z.drop v.pay).take len)
    patch z (v.pay + 6) (beBytes 2 (if ck = 0 then 0xFFFF else ck))
  | none => bs

/-- The frame of template `t`, as it is offered now. -/
def Dev.tmplFrame (d : Dev) (t : Nat) : List Byte :=
  let bs := d.tmpl t 16 (d.tmplLen t)
  let bs := if d.tmplFill t then patch bs (d.tmplFillOfs t) (d.cueBuf (beNat (d.tmpl t 4 1) % 8)) else bs
  let s := d.tmplSeqOfs t
  let bs := if s = 0 then bs else patch bs s [BitVec.ofNat 8 (kget 0 d.cue.sent t)]
  let ck := beNat (d.tmpl t 5 1)
  let bs := if ck / 2 % 2 = 1 then sumIpv4 bs else bs
  if ck % 2 = 1 then sumUdp bs else bs

/-! ## Actions (R364 to R371, Table 14.4) -/

/-- An action skipped. -/
def Dev.actRefuse (d : Dev) (c a code : Nat) : Dev :=
  (d.capture fCUE_ACT_ERR_VALID [(fCUE_ACT_ERR_CODE, code), (fCUE_ACT_ERR_ACT, a), (fCUE_ACT_ERR_CUE, c)]).inc rCUE_ACT_REFUSE_CNT

/-- A cue frame with its number offered to a port: 0 to 3 a NET port, 4 the stage bus. -/
def Dev.cueOffer (d : Dev) (port t : Nat) (dl : Option Word64) : Dev :=
  let bs := d.tmplFrame t
  let n := d.cue.nextFrame
  let d := { d with cue := { d.cue with
    nextFrame := n + 1, sent := kset 0 d.cue.sent t ((kget 0 d.cue.sent t + 1) % 256), deadlines := kset none d.cue.deadlines n dl } }
  if port = 4 then d.t1sOffer true { bytes := bs, cue := n }
  else
    let f : Frame := { bytes := bs, cue := n }
    if d.netOn port && d.linkUp port && d.role port != 0 && d.roomFor f then
      let (i, d) := d.newFrameId
      d.enqueue port (d.mapClass port port bs) { f with id := i }
    else d.cueFrameDrop n false

/-- FRAME. -/
def Dev.actFrame (d : Dev) (c a w : Nat) (dl : Option Word64) : Dev :=
  let port := w / 2 ^ 48 % 8
  let t := w % 512
  if 5 ≤ port then d.actRefuse c a 1
  else if d.tmplBad t then (d.tmplReads t).actRefuse c a 2
  else if !(if port = 4 then d.t1sOn else d.netOn port) then d.actRefuse c a 3
  else if d.haloFront then (d.tmplReads t).cueOffer port t dl
  else d.inc rCUE_SUPPRESS_CNT

/-- DMX port `p`. -/
def Dev.dmx (d : Dev) (p : Nat) : DmxSt := kget {} d.cue.dmx p

/-- The device with a DMX port replaced. -/
def Dev.setDmx (d : Dev) (p : Nat) (x : DmxSt) : Dev := { d with cue := { d.cue with dmx := kset {} d.cue.dmx p x } }

/-- DMX. -/
def Dev.actDmx (d : Dev) (c a w : Nat) : Dev :=
  let mode := w / 2 ^ 48 % 4
  let p := w / 2 ^ 40 % 4
  let b := w / 2 ^ 32 % 8
  let t := w % 512
  if mode = 3 then d.actRefuse c a 1
  else if mode = 2 ∧ d.tmplBad t then (d.tmplReads t).actRefuse c a 2
  else if !d.on (fCUE_DMXp_CFG_EN p) then d.actRefuse c a 3
  else match mode with
    | 0 => d.setDmx p { d.dmx p with run := true, buf := b }
    | 1 => d.setDmx p { d.dmx p with run := false }
    | _ => (d.tmplReads t).setCueBuf b (d.tmpl t 16 513)

/-- One pin of a PIN action: set where it is masked and configured as output. -/
def Dev.actPin1 (d : Dev) (w k : Nat) : Dev :=
  if w / 2 ^ (16 + k) % 2 = 1 ∧ d.pinDir k = 1 then d.put (bitFld rCUE_PIN_OUT k) (w / 2 ^ k % 2) else d

/-- PIN: a masked pin that is no output is skipped; the action counts once however many are (R364). -/
def Dev.actPin (d : Dev) (c a w : Nat) : Dev :=
  let bad := (List.range 16).any fun k => w / 2 ^ (16 + k) % 2 == 1 && d.pinDir k != 1
  let d := (List.range 16).foldl (fun d k => d.actPin1 w k) d
  if bad then d.actRefuse c a 4 else d

/-- LTC: every value of the RATE field is a rate, so no LTC action is skipped. -/
def Dev.actLtc (d : Dev) (w : Nat) : Dev := { d with cue := { d.cue with ltc := { d.cue.ltc with start := w % 2 == 1 } } }

/-- ANV_SCENE_CMD as a SCENE action writes it: TIMED = 0 and the given XFADE (R367). -/
def Dev.sceneFields (d : Dev) (w : Nat) : Dev :=
  d.puts [(fANV_SCENE_CMD_TIMED, 0), (fANV_SCENE_CMD_TCMP, 0), (fANV_SCENE_CMD_XFADE, w % 65536)]

/-- SCENE: through ANV_SCENE_CMD. -/
def Dev.actScene (d : Dev) (c a w : Nat) : Dev :=
  match w / 2 ^ 48 % 4 with
  | 1 =>
    if d.anvRuns then
      let r := (d.sceneFields w).sceneSwap false 0 (w % 65536)
      if r.1 then r.2 else r.2.actRefuse c a 5
    else d.actRefuse c a 5
  | 2 => if d.anvRuns then (d.sceneFields w).sceneCancel else d.actRefuse c a 5
  | _ => d.actRefuse c a 1

/-- MUTE: through STX_CMD or SRX_CMD, which shows the context of a command that is taken (R140, R367). -/
def Dev.actMute (d : Dev) (c a w : Nat) : Dev :=
  let op := if w / 2 ^ 48 % 2 = 1 then 4 else 3
  let ctx := w % 512
  if w / 2 ^ 49 % 2 = 0 then
    if d.on fSTX_CMD_STS_BUSY && d.stxHeld.isSome then (d.stxCmd op ctx).actRefuse c a 6
    else (d.put fSTX_CMD_CTX ctx).stxCmd op ctx
  else
    if d.on fSRX_CMD_STS_BUSY && d.srxHeld.isSome then (d.srxCmd op ctx).actRefuse c a 6
    else (d.put fSRX_CMD_CTX ctx).srxCmd op ctx

/-- Action `a` of cue `c`, but FIRE. -/
def Dev.cueAct (d : Dev) (c a : Nat) (dl : Option Word64) : Dev :=
  let w := d.cueWord c (3 + a)
  match w / 2 ^ 60 with
  | 0 | 7 => d
  | 1 => d.actFrame c a w dl
  | 2 => d.actDmx c a w
  | 3 => d.actPin c a w
  | 4 => d.actLtc w
  | 5 => d.actScene c a w
  | 6 => d.actMute c a w
  | _ => d.actRefuse c a 1

/-- The cues that the FIRE actions of cue `c` name, in order; only another cue takes its trigger from one (R359). -/
def Dev.cueFires (d : Dev) (c : Nat) : List Nat :=
  (List.range 5).filterMap fun a => let w := d.cueWord c (3 + a); if w / 2 ^ 60 = 7 ∧ w % 4096 ≠ c then some (w % 4096) else none

/-! ## Firing (R357 to R363) -/

/-- The state after firing. `skip`: a step of the time base fired it, and a periodic cue re-bases past the new now. -/
def Dev.cueNext (d : Dev) (c : Nat) (skip : Bool) : CueSt :=
  let per := d.cuePeriod c
  if per = 0 then (if d.cueOneshot c || d.cueTrig c == 1 then { state := 2 } else {})
  else if skip then
    let k := firstBoundary (d.cueTarget c) d.ft64 (per * 1000 * 65536)
    { state := 1, due := d.cueTarget c + BitVec.ofNat 64 (k * per * 1000) }
  else { state := 1, due := (d.cueSt c).due + BitVec.ofNat 64 (per * 1000) }

/-- Cue `c` fires, or expires; the cues its FIRE actions name. One that the engine cannot read when it is due is idle again and does
nothing (Table 22.1). -/
def Dev.cueFire1 (d : Dev) (c : Nat) (skip : Bool) : List Nat × Dev :=
  if d.cueBad c then ([], (d.cueReads c).setCue c {}) else
  let d := d.cueReads c
  let due := (d.cueSt c).due
  let win := d.cueWindow c
  let late := sdiff64 d.ft64 due
  let d := d.setCue c (d.cueNext c skip)
  if win ≠ 0 ∧ (win * 1000 : Nat) < late then ([], d.inc rCUE_EXPIRED_CNT)
  else
    let d := (d.inc rCUE_FIRE_CNT).capture fCUE_LAST_VALID [(fCUE_LAST_CUE, c)]
    let d := if 100 < late then d.inc rCUE_LATE_CNT else d
    let dl := if win = 0 then none else some (due + BitVec.ofNat 64 (win * 1000))
    (d.cueFires c, (List.range 5).foldl (fun d a => d.cueAct c a dl) d)

/-- A FIRE action of a chain of `n` firings so far names cue `t` (R360): the firings of the chain, whether `t` fires in
this cycle, and the device. -/
def Dev.cueChain (d : Dev) (t n : Nat) : Nat × Bool × Dev :=
  if !d.cueHas t 6 then (n, false, d)
  else if d.cueBad t then (n, false, d.cueReads t)
  else if (d.cueSt t).state ≠ 0 then (n, false, d.inc rCUE_RETRIG_CNT)
  else if d.cueDelay t = 0 ∧ 16 ≤ n then (n, false, d.inc rCUE_CHAIN_DROP_CNT)
  else (if d.cueDelay t = 0 then n + 1 else n, d.cueDelay t == 0, d.cueTrigger t)

/-- The targets of a firing offered to its chain `root`; `counts` holds the firings of each chain. -/
def Dev.cueChains (d : Dev) (root : Nat) : List Nat → List (Nat × Nat) → KMap Nat → List (Nat × Nat) × KMap Nat × Dev
  | [], work, counts => (work, counts, d)
  | t :: l, work, counts =>
    let r := d.cueChain t (kget 0 counts root)
    r.2.2.cueChains root l (if r.2.1 then (t, root) :: work else work) (kset 0 counts root r.1)

/-- The lowest-numbered cue of the work of a cycle. -/
def lowestCue : List (Nat × Nat) → Option (Nat × Nat)
  | [] => none
  | x :: l =>
    match lowestCue l with
    | some y => some (if x.1 ≤ y.1 then x else y)
    | none => some x

/-- Cues firing in one cycle, in ascending number, each after the one that fired it; the fuel bounds the firings. -/
def Dev.cueCycle (d : Dev) (skip : Bool) : Nat → List (Nat × Nat) → KMap Nat → Dev
  | 0, _, _ => d
  | fuel + 1, work, counts =>
    match lowestCue work with
    | none => d
    | some x =>
      let r := d.cueFire1 x.1 (skip && x.1 == x.2)
      let s := r.2.cueChains x.2 r.1 (work.erase x) counts
      s.2.2.cueCycle skip fuel s.1 s.2.1

/-- Every PENDING cue whose due time is reached fires (R51, R357). -/
def Dev.cueEval (d : Dev) (skip : Bool) : Dev :=
  if d.cueOn then
    let due := (d.cuesPending.filter fun e => decide (0 ≤ sdiff64 d.ft64 e.2.due)).map (·.1)
    (d.cueCycle skip (17 * due.length) (due.map fun c => (c, c)) (due.map fun c => (c, 1))).cueArm
  else d

/-- CUE_FIRE: a due time is reached. -/
def Dev.cueFire (d : Dev) : Dev := d.cueEval false

/-- Comparator `n`, held by the engine, has fired. -/
def Dev.cueTcmpFired (d : Dev) (n : Nat) : Dev :=
  ({ d with cue := { d.cue with armed := kset none d.cue.armed n none } }).cueEval false

/-- A step of the time base reaches the engine (R362): cues reached by a forward step fire on its edge; the other periodic
ones re-base. -/
def Dev.cueStepped (d : Dev) (forward : Bool) : Dev :=
  if d.cueOn then
    let armed := d.cue.armed.filter fun e => d.on (fTIME_TCMPnn_STS_ARMED e.1)
    let d := { d with cue := { d.cue with armed := armed } }
    let d := if forward then d.cueEval true else d
    (d.cuesPending.foldl (fun d e => if d.cuePeriod e.1 = 0 then d else d.setCue e.1 (d.cueNext e.1 true)) d).cueArm
  else d

/-! ## Frames that wait (R363) -/

/-- CUE_FRAME_DEADLINE: the window end of cue frame `n` is reached. -/
def Dev.cueFrameDeadline (d : Dev) (n : Nat) : Dev :=
  if !d.cueFramePast n then d
  else if d.t1s.cueQ.any (·.cue == n) then
    ({ d with t1s := { d.t1s with cueQ := d.t1s.cueQ.filter (·.cue != n) } }).cueFrameDrop n true
  else if (d.t1s.tx.map (·.cue)) = some n then (if d.t1s.onWire then d else d.t1sGone.cueFrameDrop n true)
  else
    match (List.range 4).find? fun p => (d.netOf p).q.any fun e => e.2.any (·.cue == n) with
    | some p =>
      let x := d.netOf p
      let q := (List.range 8).foldl (fun q c => kset [] q c ((kget [] q c).filter (·.cue != n))) x.q
      (d.setNet p { x with q := q }).cueFrameDrop n false
    | none => d.cueFrameGone n

/-- The cue frames queued on port `p` dropped (R378). -/
def Dev.cueFlushPort (d : Dev) (p : Nat) : Dev :=
  let x := d.netOf p
  let k := (x.q.map fun e => (e.2.filter (·.cue != 0)).length).sum
  if k = 0 then d else
  let q := (List.range 8).foldl (fun q c => kset [] q c ((kget [] q c).filter (·.cue == 0))) x.q
  (d.setNet p { x with q := q }).add rCUE_FRAME_DROP_CNT k

/-- The number of the cue frame that the stage bus attempts, 0 for none. -/
def Dev.cueLive (d : Dev) : Nat :=
  match d.t1s.tx with
  | some f => f.cue
  | none => 0

/-- The deadlines of all cue frames but `n` forgotten. -/
def Dev.cueForget (d : Dev) (n : Nat) : Dev :=
  { d with cue := { d.cue with deadlines := kset none [] n (kget none d.cue.deadlines n) } }

/-- The cue queue of the stage bus emptied. -/
def Dev.cueFlushBus (d : Dev) : Dev :=
  let d' := d.add rCUE_FRAME_DROP_CNT d.t1s.cueQ.length
  { d' with t1s := { d'.t1s with cueQ := [] } }

/-- Every queued cue frame dropped and counted; one on the wire of the stage bus goes on. -/
def Dev.cueFlush (d : Dev) : Dev :=
  let d := ((List.range 4).foldl Dev.cueFlushPort d).cueFlushBus
  if d.t1s.onWire then d.cueForget d.cueLive
  else if d.cueLive = 0 then d.cueForget 0
  else (d.t1sGone.inc rCUE_FRAME_DROP_CNT).cueForget 0

/-! ## Enabling (R378) -/

/-- Claims on a list of comparators, in order; stops at the first refusal. -/
def Dev.claimTcmps (d : Dev) : List Nat → Bool × Dev
  | [] => (true, d)
  | n :: l =>
    let (ok, d) := d.claimTcmp n 0x20
    if ok then d.claimTcmps l else (false, d)

/-- The comparators of the engine released. -/
def Dev.cueRelease (d : Dev) (l : List Nat) : Dev :=
  l.foldl (fun d n => if d.get (fTIME_TCMPnn_OWNER_OWNER n) = 0x20 then (d.cueLastFire n).releaseTcmp n else d) d

/-- EN written 1. -/
def Dev.cueEnable (d : Dev) : Dev :=
  let num := d.get fCUE_CFG_TCMP_NUM
  let refuse := fun (d : Dev) (code : Nat) =>
    (((d.putB fCUE_CFG_EN false).putB fCUE_STS_CFG_ERR true).put fCUE_STS_ERR_CODE code).inc rCUE_REFUSE_CNT
  if num = 0 ∨ 8 < num ∨ 64 < d.get fCUE_CFG_TCMP_BASE + num then refuse d 1
  else
    let r := d.claimTcmps d.cueTcmps
    if r.1 then
      let d := (r.2.putB fCUE_CFG_EN true).puts [(fCUE_STS_RUN, 1), (fCUE_STS_CFG_ERR, 0), (fCUE_STS_ERR_CODE, 0)]
      let time := (List.range 4096).filter fun c => d.cueHas c 1
      let cues := (time.filter fun c => !d.cueBad c).map fun c => (c, d.cueStart c)
      let d := time.foldl (fun d c => d.cueReads c) d
      ({ d with cue := { d.cue with cues := cues, trigs := [], armed := [] } }).cueArm
    else refuse (r.2.cueRelease d.cueTcmps) 2

/-- EN written 0. -/
def Dev.cueDisable (d : Dev) : Dev :=
  let d := d.cueFlush
  let dmx := d.cue.dmx.map fun e => (e.1, { e.2 with run := false })
  let d := { d with cue := { d.cue with
    trigs := [], armed := [], dmx := dmx.filter fun e => decide (e.2 ≠ ({} : DmxSt)), ltc := { d.cue.ltc with start := false } } }
  ((d.cueRelease d.cueTcmps).putB fCUE_CFG_EN false).putB fCUE_STS_RUN false

/-! ## Live editing (R379, Table 14.13) -/

/-- CUE_TBL_CMD with its OP: 1 write, 2 read, 3 arm, 4 disarm. -/
def Dev.cueTblCmd (d : Dev) (op : Nat) : Dev :=
  let c := d.get fCUE_TBL_CMD_CUE
  let done := fun (d : Dev) => (d.put fCUE_TBL_STS_RESULT 1).cueArm
  match op with
  | 1 =>
    let bs := (List.range 16).flatMap fun k => leBytes 4 (d.reg (rCUE_TBL_DATAk k)).toNat
    let d := (List.range 8).foldl (fun d i => d.tblWord (cueBase c + 8 * i) (leNat ((bs.drop (8 * i)).take 8))) d
    let d := if 7 ≤ d.cueTrig c then d.inc rCUE_TBL_REFUSE_CNT else d
    done ((d.cueReads c).setCue c (d.cueStart c))
  | 2 =>
    let d := (List.range 16).foldl (fun d k => d.setReg (rCUE_TBL_DATAk k) (BitVec.ofNat 32 (readWord32 d.tbl (cueBase c + 4 * k)))) d
    done (d.put fCUE_TBL_STS_STATE (d.cueSt c).state)
  | 3 => done ((d.cueReads c).setCue c (d.cueStart c))
  | 4 => done (d.setCue c { state := 2 })
  | _ => d

/-! ## Cue pins (R368, Table 14.8) -/

/-- The direction of one pin written. -/
def Dev.pinDirPut (d : Dev) (k v : Nat) : Dev :=
  let v := if v = 3 then 0 else v
  let fld : Fld := ⟨rPIN_CUE_CFG, 2 * k, 2⟩
  if k < 8 then d.put fld v
  else if v = 0 then (d.releaseGrp (k - 8) 2).put fld 0
  else
    let r := d.claimGrp (k - 8) 2
    if r.1 then r.2.put fld v else r.2.put fld 0

/-- PIN_CUE_CFG written. -/
def Dev.pinCueCfg (d : Dev) (v : Nat) : Dev := (List.range 16).foldl (fun d k => d.pinDirPut k (v / 4 ^ k % 4)) d

/-- The levels at the cue balls: what an output drives, what stands at the others. -/
def Dev.pinLevels (d : Dev) : Nat :=
  ((List.range 16).map fun k =>
    2 ^ k * (if d.pinDir k = 1 then (d.reg rCUE_PIN_OUT).toNat / 2 ^ k % 2 else if d.pinDir k = 2 then d.cueIn.toNat / 2 ^ k % 2 else 0)).sum

/-! ## DMX ports (R369 to R371) -/

/-- EN of port `p` written. EN = 0 stops the port as MODE 1 does: the packet in progress is completed, and the balls are
released when it ends (R36, R371). -/
def Dev.dmxEnable (d : Dev) (p : Nat) (en : Bool) : Dev :=
  if en then
    let r := d.claimGrp (8 + p) 2
    r.2.putB (fCUE_DMXp_CFG_EN p) r.1
  else
    let d := (d.setDmx p { d.dmx p with run := false }).putB (fCUE_DMXp_CFG_EN p) false
    if (d.dmx p).busy then d else d.releaseGrp (8 + p) 2

/-- SLOTS as it acts. -/
def Dev.dmxSlots (d : Dev) (p : Nat) : Nat := max 24 (min 512 (d.get (fCUE_DMXp_CFG_SLOTS p)))

/-- The length of a packet of port `p`, break to break, in µs (R370). -/
def Dev.dmxUs (d : Dev) (p : Nat) : Nat :=
  let brk := max 92 (min 1000 (d.get (fCUE_DMXp_CFG_BREAK_US p)))
  let mab := max 12 (min 1000 (d.get (fCUE_DMXp_TIME_MAB_US p)))
  max 1204 (brk + mab + 44 * (d.dmxSlots p + 1) + min 1000 (d.get (fCUE_DMXp_TIME_MBB_US p)))

/-- The driver-enable ball of port `p` is high (R370, R377, R462). -/
def Dev.dmxDriven (d : Dev) (p : Nat) : Bool := ((d.dmx p).run || (d.dmx p).busy) && d.haloFront && d.domOn 8

/-- DMX_BREAK: the packet on the line ends and, while the port runs, the next one begins with its buffer's image; a port
that is not enabled any more gives its balls up. -/
def Dev.dmxBreak (d : Dev) (p : Nat) : Dev :=
  let x := d.dmx p
  if x.run ∧ d.on (fCUE_DMXp_CFG_EN p) ∧ d.haloFront then
    (d.setDmx p { x with busy := true, image := (d.cueBuf x.buf).take (d.dmxSlots p + 1) }).inc (rCUE_DMXp_PKT_CNT p)
  else
    let d := d.setDmx p { x with busy := false, image := [] }
    if d.on (fCUE_DMXp_CFG_EN p) then d else d.releaseGrp (8 + p) 2

/-! ## E1.31 input (R373) -/

/-- What the engine reads of an E1.31 data packet: the ANSI E1.31 layout (log entry 51). -/
structure E131Pkt where
  valid : Bool
  prio : Nat
  seq : Nat
  terminated : Bool
  universe_ : Nat
  values : List Byte
  deriving DecidableEq, Repr

/-- The packet in a frame. -/
def e131Packet (bs : List Byte) : Option E131Pkt :=
  match udpView bs with
  | some (v, _) =>
    let o := v.pay + 8
    let opt := beAt bs (o + 112) 1
    some
      { valid := beAt bs (o + 18) 4 == 4 && beAt bs (o + 40) 4 == 2 && beAt bs (o + 117) 1 == 2 && opt / 128 == 0
        prio := beAt bs (o + 108) 1, seq := beAt bs (o + 111) 1, terminated := opt / 64 % 2 == 1
        universe_ := beAt bs (o + 113) 2
        values := ((bs.drop (o + 125)).take (beAt bs (o + 123) 2)).take 513 }
  | none => none

/-- What buffer `b` keeps of its sources. -/
def Dev.e131Of (d : Dev) (b : Nat) : E131St := kget {} d.cue.e131 b

/-- The cues that a commit of buffer `b` from `old` to `new` triggers. -/
def Dev.e131Crossings (d : Dev) (b : Nat) (old new : List Byte) : List Nat :=
  (List.range 4096).filter fun c =>
    let q := d.cueParam c
    let slot := q % 1024
    let val := q / 2 ^ 32 % 256
    d.cueHas c 4 && q / 2 ^ 40 % 8 == b && decide (slot ≤ 512) && decide (beAt old slot 1 < val) && decide (val ≤ beAt new slot 1)

/-- The packet offered to buffer `b`. -/
def Dev.e131Commit (d : Dev) (b : Nat) (k : E131Pkt) : Dev :=
  let x := d.e131Of b
  let held := x.hold && decide (d.mono - x.at_ ≤ 2500000000 * 65536)
  let late := match x.seq with
    | some s => let e := sgn 8 ((k.seq + 256 - s) % 256); decide (-20 < e ∧ e ≤ 0)
    | none => false
  if held ∧ k.prio < x.prio then d.inc rCUE_E131_PRI_DROP_CNT
  else if late then d.inc rCUE_E131_SEQ_DROP_CNT
  else
    let old := d.cueBuf b
    let d := d.setCueBuf b k.values
    let y : E131St := { prio := k.prio, at_ := d.mono, hold := !k.terminated, seq := some k.seq }
    let hits := if d.cueOn then d.e131Crossings b old (d.cueBuf b) else []
    { d with cue := { d.cue with e131 := kset {} d.cue.e131 b y, trigs := d.cue.trigs ++ hits.map .cue } }

/-- E131_PACKET: the oldest E1.31 frame handed to the engine. -/
def Dev.e131Taken (d : Dev) : Dev :=
  match d.take fun h => h.sink == .e131 with
  | (some h, d) =>
    match e131Packet h.bytes with
    | some k => if k.valid then (d.e131Bufs k.universe_).foldl (fun d b => d.e131Commit b k) d else d
    | none => d
  | (none, d) => d

/-! ## Timecode (R374 to R376) -/

/-- Frames per second of the integer rates; 30 labels a second at 29.97 drop-frame. -/
def ltcLabels (rate : Nat) : Nat := match rate with
  | 0 => 24 | 1 => 25 | _ => 30

/-- The label of frame `n`: hours, minutes, seconds, frames. At 29.97 two labels a minute are dropped, but in every tenth
minute; the frames past the last label of the day count on from 00:00:00;00 (R375). -/
def ltcLabel (rate n : Nat) : Nat × Nat × Nat × Nat :=
  let n := if rate = 2 then n % 2589408 else n
  let m := if rate = 2 then
      let q := n / 17982
      let r := n % 17982
      n + 18 * q + 2 * ((r - 2) / 1798)
    else n
  let fps := ltcLabels rate
  (m / (3600 * fps), m / (60 * fps) % 60, m / fps % 60, m % fps)

/-- Time of day T in ns (R374). -/
def Dev.ltcTime (d : Dev) : Nat :=
  (((d.time.sec.toNat : Int) + sgn 32 (d.reg rCUE_LTC_OFS).toNat) % 86400).toNat * 1000000000 + d.time.ns.toNat

/-- The number of the frame that is current at T. -/
def Dev.ltcFrameNo (d : Dev) : Nat :=
  let rate := d.get fCUE_LTC_CFG_RATE
  if rate = 2 then d.ltcTime * 30000 / 1001 / 1000000000 else d.ltcTime * ltcLabels rate / 1000000000

/-- LTC_OUT carries timecode: it is running, on the unit that is active or not paired; else it is held low (R374, R377). -/
def Dev.ltcDriven (d : Dev) : Bool := d.on fCUE_STS_LTC_RUN && d.haloFront

/-- LTC_FRAME: a frame boundary. While a START is in force LTC_OUT sends the frame that begins; after a STOP, and on a standby
unit, it rests (R377). -/
def Dev.ltcFrame (d : Dev) : Dev :=
  let x := d.cue.ltc
  if x.start && d.haloFront then
    ({ d with cue := { d.cue with ltc := { x with label := ltcLabel (d.get fCUE_LTC_CFG_RATE) d.ltcFrameNo } } }).putB fCUE_STS_LTC_RUN true
  else d.putB fCUE_STS_LTC_RUN false

/-- LTC_IN_FRAME: a valid frame is decoded at `rate`; `broken` says that an invalid one came since the last. -/
def Dev.ltcInFrame (d : Dev) (rate h m s f : Nat) (ub : Word) (broken : Bool) : Dev :=
  if !d.domOn 1 then d else
  let x := d.cue.ltc
  let good := if x.rate = rate ∧ !broken then min 4 (x.good + 1) else 1
  let d := { d with cue := { d.cue with ltc := { x with good := good, rate := rate } } }
  let d := (d.puts [(fCUE_LTC_RX_HOURS, h), (fCUE_LTC_RX_MINUTES, m), (fCUE_LTC_RX_SECONDS, s), (fCUE_LTC_RX_FRAMES, f)]).setReg
    rCUE_LTC_RX_UB ub
  if good = 4 ∧ !d.on fCUE_STS_LTC_LOCK then (d.putB fCUE_STS_LTC_LOCK true).raise 0x0E01 0 else d

/-- LTC_LOSS: two frame periods without a valid frame. -/
def Dev.ltcLoss (d : Dev) : Dev :=
  if !d.domOn 1 then d else
  let d := { d with cue := { d.cue with ltc := { d.cue.ltc with good := 0 } } }
  if d.on fCUE_STS_LTC_LOCK then (d.putB fCUE_STS_LTC_LOCK false).raise 0x0E02 0 else d

end Sys2Proof.Machine
end

