-- ==== Sys2Proof/Machine/Fire.lean ====
section
/-! DEFINITION. The events of the TIME island that reach the rest of the device: comparator fires and their owners (R62),
steps of the time base and their consequences (R46 to R49, R66, R99), captures, PPS_OUT and CLK10M_IN (R68 to R72). -/

namespace Sys2Proof.Machine

open Sys2Proof

/-! ## Fires -/

/-- PPS_OUT may rise: GATE is 0, or the governing domain is in LOCK or HOLD (R72). -/
def Dev.ppsGateOk (d : Dev) : Bool :=
  !d.on fTIME_PPS_OUT_CFG_GATE || (match d.governing with
    | some i => decide (2 ≤ d.get (fPTP_PTDd_STS_LOCK_STATE i))
    | none => false)

/-- TIME_PPS_OUT_COMP as it acts, in ps. -/
def Dev.ppsComp (d : Dev) : Int := clampI (-100000) 100000 (sgn 32 (d.reg rTIME_PPS_OUT_COMP).toNat)

/-- PPS_OUT's comparator fires: the pulse of this whole second, whose rising edge TIME_PPS_OUT_COMP advances (log entry
28). -/
def Dev.ppsFire (d : Dev) : Dev :=
  let go := d.ppsGateOk
  { d with time := { d.time with ppsOut := go,
                                 ppsRise := if go then (d.time.sec.toNat * 1000000000000 : Nat) - d.ppsComp else d.time.ppsRise } }

/-- PPS_OUT goes low when the governing domain leaves LOCK and HOLD while GATE is 1 (R72). -/
def Dev.ppsSettle (d : Dev) : Dev :=
  if d.time.ppsOut && !d.ppsGateOk then { d with time := { d.time with ppsOut := false } } else d

/-- A fire of comparator `n` delivered to its owner (Table 1.12). A host's fire is its FIRED flag. -/
def Dev.deliverFire (d : Dev) (n : Nat) : Dev :=
  let o := d.get (fTIME_TCMPnn_OWNER_OWNER n)
  match o / 32 with
  | 1 => d.cueTcmpFired n
  | 2 => d.gateCycleStart (o % 32)
  | 3 => d.ppsFire
  | 4 => d.sceneFired n
  | _ => d

/-- TCMP_FIRE: comparator `n` is armed and its target is reached (R62, R63). -/
def Dev.tcmpFire (d : Dev) (n : Nat) : Dev :=
  if d.timeRuns && d.on (fTIME_TCMPnn_STS_ARMED n) && decide (0 ≤ sdiff64 d.ft64 (d.tcmpOf n).next) then
    (d.tcmpFired n false).deliverFire n
  else d

/-- A fire on the edge of a step delivered: the cue engine and the gates act on the step as a whole, after it. -/
def Dev.deliverStepFire (d : Dev) (n : Nat) : Dev :=
  match d.get (fTIME_TCMPnn_OWNER_OWNER n) / 32 with
  | 3 => d.ppsFire
  | 4 => d.sceneFired n
  | _ => d

/-! ## Steps (R48, R66, R99, Table 3.3) -/

/-- What a step of the time base by `exact` (2^-40 ns) does to the times of the PTP domains and their generators: the time of
every domain but the governing one stands, so its DTB takes the step up; the generators of the governing one jump (R91,
R99; log entry 15). -/
def Dev.stepDomains (d : Dev) (exact : Int) : Dev :=
  let d := (List.range 4).foldl (fun d i =>
    if d.governing = some i then d else d.setDtb i ((d.dom i).dtb - exact * 2 ^ 41)) d
  match d.governing with
  | some g => d.mcgStepped (some g)
  | none => d

/-- The consequences of a step of `size` that the time base has made, `exact` in 2^-40 ns. `gov`: at a governing change,
which moves the time of no domain (R92). `late`: at a Dawn of TIME (R67), when the time of every domain has gone on. -/
def Dev.stepped (d : Dev) (size exact : Int) (gov late : Bool) : Dev :=
  let d := { d with time := { d.time with stepTotal := d.time.stepTotal + size, ppsSteps := d.time.ppsSteps + size } }
  let d := { d with time := { d.time with lastStep := some d.mono } }
  let d := d.captureStep size
  let r := d.tcmpSteps (decide (0 < size)) late
  let d := (r.2.foldl Dev.deliverStepFire r.1).gatesStepped
  let d := if gov then d else if late then d.mcgStepped none else d.stepDomains exact
  (d.cueStepped (decide (0 < size))).raise 0x0301 0

/-- The time base takes the value `v` on the edge that otherwise shows what it shows now; a size of 0 is no step (R48). -/
def Dev.stepTo (d : Dev) (v : Nat) (gov : Bool) : Dev :=
  let exact := stepExact d.time.value v
  let size := Machine.stepSize d.time.value v
  let d := { d with time := d.time.withValue v }
  if size = 0 then d else d.stepped size exact gov false

/-- The time base moved by `units` of 2^-16 ns (R47). -/
def Dev.stepBy (d : Dev) (units : Int) (gov : Bool) : Dev :=
  d.stepTo (((d.time.value : Int) + units * 2 ^ 24) % timeMod).toNat gov

/-- One TCLK edge, with the step that servos have made for it (R84). -/
def Dev.edge (d : Dev) : Dev :=
  let d := d.noteTimes
  if d.time.pend = 0 || !d.timeRuns then d.tick
  else ({ d with time := { d.time with pend := 0 } } : Dev).tick.stepBy d.time.pend false

/-- The time base moved by the `units` of 2^-16 ns that TIME has spent in RET (R67, R468). -/
def Dev.stepDawn (d : Dev) (units : Int) : Dev :=
  let v := (((d.time.value : Int) + units * 2 ^ 24) % timeMod).toNat
  let size := Machine.stepSize d.time.value v
  let d := { d with time := d.time.withValue v }
  if size = 0 then d else d.stepped size 0 false true

/-- TIME_STEP_ADJ, signed 64 bits. -/
def Dev.stepAdj (d : Dev) : Int := sgn 64 (d.pair rTIME_STEP_ADJ_H rTIME_STEP_ADJ_L)

/-- The value that SET loads (R46). -/
def Dev.setValue (d : Dev) : Nat :=
  (((d.reg rTIME_SET_SEC_H).toNat % 65536 * 2 ^ 32 + (d.reg rTIME_SET_SEC_L).toNat) * 1000000000 + (d.reg rTIME_SET_NS).toNat) * 2 ^ 40
    + (d.reg rTIME_SET_FRAC).toNat % 65536 * 2 ^ 24

/-- TIME_CTL written with SET and STEP as given: one TCLK edge, the addend first, then the load, then the step, and with it
what servos have stepped for the same edge, as one step (R46 to R49, R93). -/
def Dev.timeCtl (d : Dev) (set step : Bool) : Dev :=
  if !set && !step then d else
  let d := d.noteTimes
  let servo := d.time.pend
  let d := ({ d with time := { d.time with pend := 0 } } : Dev).tick
  let bad := decide (1000000000 ≤ (d.reg rTIME_SET_NS).toNat)
  let d := if set then d.putB fTIME_STS_SET_ERR bad else d
  let v := if set && !bad then d.setValue else d.time.value
  let by_ := servo + (if step then d.stepAdj else 0)
  d.stepTo (((v : Int) + by_ * 2 ^ 24) % timeMod).toNat false

/-- SERVO_EN changes (R91; log entry 60): the governing domain begins to drive the time base, its DTB and RATIO read 0 from then on,
or ceases to. -/
def Dev.servoEn (d : Dev) (en : Bool) : Dev :=
  let was := d.on fTIME_CTL_SERVO_EN
  let d := d.putB fTIME_CTL_SERVO_EN en
  match d.governing with
  | none => d
  | some g =>
    if was = en then d
    else if en then
      let moved := (d.dom g).dtb / 2 ^ 65 != 0
      let d := (d.setDtb g 0).setRatio g 0
      if moved then d.mcgStepped (some g) else d
    else d.setDom g { d.dom g with slewing := false, slewOn := false }

/-! ## Comparators of the host (R63, R64) -/

/-- Comparator `n` is held by a claimant that is not the host. -/
def Dev.tcmpForeign (d : Dev) (n : Nat) : Bool :=
  let o := d.get (fTIME_TCMPnn_OWNER_OWNER n)
  o != 0 && o / 32 != 5

/-- ARM with the fields now stored. -/
def Dev.tcmpArm (d : Dev) (n : Nat) : Dev :=
  if d.on (fTIME_TCMPnn_STS_ARMED n) then d else
  let mode := d.get (fTIME_TCMPnn_CTL_MODE n)
  let per := d.tcmpPer n
  if mode = 0 ∨ mode = 3 ∨ (mode = 2 ∧ per < 100 * 65536) then
    d.putB (fTIME_TCMPnn_STS_ARM_ERR n) true
  else
    let r := d.claimTcmp n (0xA0 + d.get (fTIME_TCMPnn_CTL_LABEL n))
    if r.1 then r.2.armTcmp n mode (BitVec.ofNat 64 (d.pair (rTIME_TCMPnn_TGT_H n) (rTIME_TCMPnn_TGT_L n))) per else r.2

/-- A write to TIME_TCMPnn_CTL with ARM and DISARM as given; DISARM alone acts when both are set. A target reached before
the DISARM fires first (Table 2.3). -/
def Dev.tcmpCtl (d : Dev) (n : Nat) (arm disarm : Bool) : Dev :=
  if disarm then (if d.tcmpForeign n then d else (d.tcmpFire n).releaseTcmp n)
  else if arm then d.tcmpArm n
  else d

/-! ## Captures (R68, R69) -/

/-- The captures in FIFO `n`, oldest first. -/
def Dev.tcapOf (d : Dev) (n : Nat) : List Time94 := kget [] d.time.tcap n

/-- The device with a capture FIFO replaced, and its level. -/
def Dev.setTcap (d : Dev) (n : Nat) (l : List Time94) : Dev :=
  let d := { d with time := { d.time with tcap := kset [] d.time.tcap n l } }
  d.setReg (rTIME_TCAPnn_STS n) (BitVec.ofNat 32 l.length)

/-- The source of capture `n` shows its edges: a source of Table 2.5 whose ball no output function holds. -/
def Dev.tcapSees (d : Dev) (n : Nat) : Bool :=
  let s := d.get (fTIME_TCAPnn_CFG_SRC n)
  s < 5 || (16 ≤ s && d.pinDir (s - 16) == 2)

/-- TCAP_EDGE: an edge of the source of capture `n`, held at least 6 ns. -/
def Dev.tcapEdge (d : Dev) (n : Nat) (rising : Bool) : Dev :=
  let e := d.get (fTIME_TCAPnn_CFG_EDGE n)
  if !(d.timeRuns && d.on (fTIME_TCAPnn_CFG_EN n) && d.tcapSees n && e / (if rising then 1 else 2) % 2 == 1) then d
  else if 4 ≤ (d.tcapOf n).length then d.inc (rTIME_TCAPnn_OVF_CNT n)
  else d.setTcap n (d.tcapOf n ++ [d.time.now94])

/-- CFG.POP: the visible capture is discarded. -/
def Dev.tcapPop (d : Dev) (n : Nat) : Dev := d.setTcap n (d.tcapOf n).tail

/-- CFG.EN written 0: the FIFO is emptied. -/
def Dev.tcapEmpty (d : Dev) (n : Nat) : Dev := d.setTcap n []

/-! ## CLK10M_IN (R71) -/

/-- CLK10M_WINDOW: a window of 1 ms ends. `freq` is the measured excess over 10 MHz in units of 2^-16 × 10^-9. -/
def Dev.clk10mWindow (d : Dev) (freq : Int) : Dev :=
  let bad := decide (100000 * 65536 < freq ∨ freq < -(100000 * 65536))
  let d := { d with time := { d.time with clk10 := some freq } }
  let d := d.putB fTIME_STS_CLK10M_BAD bad
  if bad then d else d.putB fTIME_STS_CLK10M_LOS false

/-- CLK10M_LOS: no edge for 1 µs. -/
def Dev.clk10mLos (d : Dev) : Dev :=
  ({ d with time := { d.time with clk10 := none } }).putB fTIME_STS_CLK10M_LOS true

/-! ## PPS_OUT (R72) -/

/-- EN written 1 while it is 0: the comparator is claimed, periodic with 1 s from the next whole second. -/
def Dev.ppsEnable (d : Dev) : Dev :=
  let n := d.get fTIME_PPS_OUT_CFG_TCMP
  let r := d.claimTcmp n 0x60
  if r.1 then
    (r.2.armTcmp n 2 (BitVec.ofNat 64 ((d.time.sec.toNat + 1) * 1000000000)) (1000000000 * 65536)).putB fTIME_PPS_OUT_CFG_EN true
  else r.2.putB fTIME_PPS_OUT_CFG_EN false

/-- EN written 0 while it is 1. -/
def Dev.ppsDisable (d : Dev) : Dev :=
  let d := { d with time := { d.time with ppsOut := false } }
  (d.releaseTcmp (d.get fTIME_PPS_OUT_CFG_TCMP)).putB fTIME_PPS_OUT_CFG_EN false

/-- PPS_OUT_PULSE_END: WIDTH_US has passed. -/
def Dev.ppsPulseEnd (d : Dev) : Dev := { d with time := { d.time with ppsOut := false } }

end Sys2Proof.Machine
end

