-- ==== Sys2Proof/Machine/Dram.lean ====
section
/-! DEFINITION. Reads of external memory as they return, fail, are cancelled or come late (R38, R39, R209, R548, R550). -/

namespace Sys2Proof.Machine

open Sys2Proof

/-- The read fails for good: a job takes its fallback, a deep span counts as unwritten (R176, R209, R214). -/
def Dev.readLost (d : Dev) (who : DramReader) : Dev :=
  let d := d.setTries (readerTag who) 0
  match who with
  | .job b e => match d.reader b.val e.val with
    | some (blk, r) => (d.missJob blk r 4).anvGo
    | none => d
  | .staging c => match d.stagingSpan c.val with
    | some p => (d.setSrx c.val { d.srxOf c.val with unstaged := (d.srxOf c.val).unstaged.filter (· != p) }).inc rSRX_DEEP_FAIL_CNT
    | none => d

/-- A read is in flight for this reader. -/
def Dev.reading (d : Dev) : DramReader → Bool
  | .job b e => d.anvRuns && (d.reader b.val e.val).isSome
  | .staging c => d.domOn 1 && d.srxOn c.val && d.srxDeep c.val && (d.stagingSpan c.val).isSome

/-- DDR_READ_FAIL: an attempt of a read finds an uncorrectable beat: it is counted and logged, and retried up to twice
(R550). -/
def Dev.ddrReadFail (d : Dev) (who : DramReader) (rank beat syndrome : Nat) : Dev :=
  if !(d.ddrIn && d.reading who) then d else
  let cls := match who with
    | .job _ _ => 1
    | .staging _ => 2
  let k := kget 0 d.ddr.tries (readerTag who)
  let d := d.ddrError true cls rank beat syndrome
  if k < 2 then (d.setTries (readerTag who) (k + 1)).inc rDDR_RETRY_CNT else d.readLost who

/-- An attempt of a read meets a beat that is known to hold an uncorrectable error: its rank, where there are two, and the syndrome are
free values. -/
def Dev.readHurt (d : Dev) (who : DramReader) (beat : Nat) : Dev :=
  let r := d.freeNat
  let s := r.2.freeNat
  s.2.ddrReadFail who (r.1 % d.ddrRanks) beat (s.1 % 256)

/-- The beat with an uncorrectable error that the external read of a job meets, in the Contrail map (for a PLAY) or in the items. -/
def Dev.jobHurt (d : Dev) (b : AnvBlock) (r : JobRun) : Option Nat :=
  let j := d.jobOf r
  let (region, is) := d.extItems j b.start b.n
  (if j.typ = 6 then none else d.hurtBeat 1 (d.playBits j b.start b.n)).orElse fun _ => d.hurtBeat region is

/-- DRAM_READ_RETURN: the read of a DDELAY or PLAY job returns; `ce` is a corrected error in it: rank, beat and syndrome
(R209, R550). A beat that holds an uncorrectable error fails the attempt instead (R551). -/
def Dev.dramReadReturn (d : Dev) (bank entry : Nat) (ce : Option (Nat × Nat × Nat)) : Dev :=
  if !d.anvRuns then d else
  match d.reader bank entry with
  | none => d
  | some (b, r) =>
    if !d.ddrIn then (d.missJob b r 4).anvGo else
    match d.jobHurt b r with
    | some beat => d.readHurt (.job (Fin.ofNat 2 bank) (Fin.ofNat 32768 entry)) beat
    | none =>
      let d := match ce with
        | some (rank, beat, s) => d.ddrError false 1 rank beat s
        | none => d
      d.readBack b r

/-- DEEP_STAGING_COPY: the oldest written span near the read point is copied to the staging ring (R176). A beat that holds
an uncorrectable error fails the attempt instead (R550, R551). -/
def Dev.deepStagingCopy (d : Dev) (c : Nat) : Dev :=
  if !(d.domOn 1 && d.srxOn c && d.srxDeep c && d.ddrIn) then d else
  match d.stagingSpan c with
  | none => d
  | some p =>
    match d.hurtBeat 0 (d.deepItems c p) with
    | some beat => d.readHurt (.staging (Fin.ofNat 512 c)) beat
    | none =>
      let d := (d.setTries (readerTag (.staging (Fin.ofNat 512 c))) 0).spanStage c p
      let x := d.srxOf c
      d.setSrx c { x with unstaged := x.unstaged.filter (· != p), spans := p :: x.spans }

/-- The tag that the present read of a reader carries: its number, and above it what tells one read from the next, the count of
the block for a job and the position of the span for a deep staging read (R39, log entry 181). -/
def Dev.readTag (d : Dev) (who : DramReader) : Nat :=
  readerTag who + 131072 * (match who with
    | .job _ _ => d.anv.count
    | .staging c => (d.stagingSpan c.val).getD 0)

/-- The reader of a tag. -/
def tagReader (tag : Nat) : DramReader :=
  let t := tag % 131072
  if t < 65536 then .job (Fin.ofNat 2 (t / 32768)) (Fin.ofNat 32768 t) else .staging (Fin.ofNat 512 (t - 65536))

/-- The read of a tag is outstanding. -/
def Dev.outstanding (d : Dev) (tag : Nat) : Bool := d.reading (tagReader tag) && d.readTag (tagReader tag) == tag

/-- The deadline of a read is reached while a retry of it waits: the retry is cancelled and counted, and the read's
fallback is taken (R38, R550). -/
def Dev.dramCancel (d : Dev) (tag : Nat) : Dev :=
  let who := tagReader tag
  if kget 0 d.ddr.tries (readerTag who) = 0 ∨ !d.outstanding tag then d else (d.cancelRetry (readerTag who)).readLost who

/-- A result of a read that is no longer outstanding is discarded and counted (R39, R550). -/
def Dev.dramLate (d : Dev) (tag : Nat) : Dev := if d.outstanding tag then d else d.inc rDDR_LATE_DISC_CNT

/-- A write of 0 to DDR_CTL.EN: the reads of jobs in progress complete, retries among them, before the memory leaves service
(R553). -/
def Dev.ddrClose (d : Dev) : Dev :=
  let done := fun (d : Dev) (r : JobRun) => d.dramReadReturn r.bank r.entry none
  let d := match d.anv.block with
    | some b => (b.jobs.filter fun (r : JobRun) => (d.reader r.bank r.entry).isSome).foldl (fun (d : Dev) (r : JobRun) => done (done (done d r) r) r) d
    | none => d
  d.ddrDisable

end Sys2Proof.Machine
end

