-- ==== Sys2Proof/Machine/Ptp.lean ====
section
/-! DEFINITION. Precision time (R73 to R100): enabling domains, the reference port program and its messages, measurements,
the servo, the governing domain and grandmaster operation. Message layouts are those of IEEE 1588-2019 (log entry 16). -/

namespace Sys2Proof.Machine

open Sys2Proof

/-! ## Domains (R74, Table 3.1) -/

/-- What a profile allows: transports, and the ranges of the three intervals; the highest domainNumber. -/
def ptpProfile (p : Nat) : Option (List Nat × (Int × Int) × (Int × Int) × (Int × Int) × Nat) :=
  match p with
  | 0 | 1 => some ([0, 1, 2], (-4, 1), (0, 4), (0, 5), 127)
  | 2 => some ([1, 2], (-7, -1), (-3, 1), (-7, 5), 127)
  | 3 => some ([1, 2], (-4, 1), (0, 4), (-3, 5), 127)
  | 4 => some ([0], (-7, 1), (-3, 4), (-7, 5), 0)
  | _ => none

/-- A profile with the peer-to-peer delay mechanism. -/
def ptpPeer (p : Nat) : Bool := p == 1 || p == 4

def Dev.ptpOn (d : Dev) (i : Nat) : Bool := d.on (fPTP_PTDd_CTL_EN i)
def Dev.ptpLock (d : Dev) (i : Nat) : Nat := d.get (fPTP_PTDd_STS_LOCK_STATE i)
def Dev.logSync (d : Dev) (i : Nat) : Int := sgn 8 (d.get (fPTP_PTDd_RATES_SYNC i))

/-- The checks of R74 pass. -/
def Dev.ptpCheck (d : Dev) (i : Nat) : Bool :=
  let tr := d.get (fPTP_PTDd_CTL_TRANSPORT i)
  let num := d.get (fPTP_PTDd_CTL_DOMAIN_NUM i)
  let annTo := d.get (fPTP_PTDd_RATES_ANN_TO i)
  let within := fun (r : Int × Int) (v : Nat) => decide (r.1 ≤ sgn 8 v ∧ sgn 8 v ≤ r.2)
  match ptpProfile (d.get (fPTP_PTDd_CTL_PROFILE i)) with
  | none => false
  | some (trs, sync, ann, dreq, top) =>
    trs.contains tr && within sync (d.get (fPTP_PTDd_RATES_SYNC i)) && within ann (d.get (fPTP_PTDd_RATES_ANN i))
      && within dreq (d.get (fPTP_PTDd_RATES_DREQ i)) && decide (2 ≤ annTo ∧ annTo ≤ 10) && decide (num ≤ top)
      && !((List.range 4).any fun e => e != i && d.ptpOn e && d.get (fPTP_PTDd_CTL_DOMAIN_NUM e) == num
        && d.get (fPTP_PTDd_CTL_TRANSPORT e) == tr)

/-! ## The governing domain (R90 to R92) -/

/-- STEP_THRESH as it acts, in 2^-16 ns; 0 for never (R87). -/
def Dev.stepThresh (d : Dev) (i : Nat) : Int :=
  let v := (d.reg (rPTP_PTDd_STEP_THRESH i)).toNat
  if v = 0 then 0 else (max 1000 (min 1000000000 v) * 65536 : Nat)

/-- The domain that PTP_GOV_CTL and the servo states make govern (R90). -/
def Dev.govWanted (d : Dev) : Option Nat :=
  if d.on fPTP_GOV_CTL_MODE then
    let q : Int := (min 60 (d.get fPTP_GOV_CTL_QUAL_S) * 1000000000 * 65536 : Nat)
    let fit := fun i => d.ptpOn i && (match (d.dom i).lockedAt with
      | some t => decide (q ≤ d.mono - t)
      | none => false)
    match (List.range 4).find? fit with
    | some i => some i
    | none => match d.governing with
      | some g => if d.ptpOn g then some g else none
      | none => none
  else if d.ptpOn (d.get fPTP_GOV_CTL_DOM) then some (d.get fPTP_GOV_CTL_DOM) else none

/-- GOV, NONE, the domains' GOV bits and the count of changes. -/
def Dev.showGov (d : Dev) (b : Option Nat) : Dev :=
  let d := (List.range 4).foldl (fun d i => d.putB (fPTP_PTDd_STS_GOV i) (b == some i)) d
  (d.puts [(fPTP_GOV_STS_NONE, b.isNone.toNat), (fPTP_GOV_STS_GOV, b.getD 0)]).inc rPTP_GOV_CHG_CNT

/-- The governing role passes to `b` on this edge (R92). When `a` is itself still being slewed to, its DTB and its rate stay
as they are, and it keeps its own time with them (DESIGN CHOICE: the spec has a's DTB start from 0 and names no such case;
log entry 165). -/
def Dev.govChange (d : Dev) (b : Option Nat) : Dev :=
  if !d.on fTIME_CTL_SERVO_EN then d.showGov b else
  let d : Dev := match d.governing with
    | some a =>
      let x := d.dom a
      if x.slewing then d.setDom a { x with slewing := false, slewOn := false } else (d.setDtb a 0).setRatio a 0
    | none => d
  match b with
  | none => d.showGov none
  | some g =>
    let v : Int := (d.dom g).dtb
    let units : Int := v / 2 ^ 65
    let thr := d.stepThresh g
    if thr ≠ 0 ∧ thr ≤ (units.natAbs : Int) then
      let d := (List.range 4).foldl (fun d i =>
        if i = g then (d.setDtb i 0).setRatio i 0 else d.setDtb i ((d.dom i).dtb - units * 2 ^ 65)) d
      (d.showGov b).stepBy units true
    else
      let d := d.setDom g { d.dom g with slewing := v != 0, slewOn := false, slewRef := d.addend * (2 ^ 41 + d.ratio g) }
      (if v = 0 then d.setRatio g 0 else d).showGov b

/-- GOVERNING_CHANGE: the choice is made anew. A servo step that the next edge has to apply comes first, and the change on the
edge after it (R92). -/
def Dev.govEval (d : Dev) : Dev :=
  if d.govWanted = d.governing then d
  else if d.time.pend = 0 then d.govChange d.govWanted
  else d.edge.tick.govChange d.govWanted

/-! ## The servo (R85 to R89, Table 3.2) -/

/-- LOCK_STATE written, with PTP_LOCK_CHG when `ev`. -/
def Dev.setLock (d : Dev) (i st : Nat) (ev : Bool) : Dev :=
  let x := d.dom i
  let was := d.ptpLock i
  let x := { x with lockRun := 0, unlockRun := 0, lockedAt := if st = 2 then (if was = 2 then x.lockedAt else some d.mono) else none,
                    heldAt := if st = 3 then (if was = 3 then x.heldAt else some d.mono) else none,
                    rates := if st = 2 ∧ was = 2 then x.rates else [] }
  let d := (d.setDom i x).put (fPTP_PTDd_STS_LOCK_STATE i) st
  if ev then d.raise 0x0401 i else d

/-- The rate of domain `i` written: the addend where it drives the time base, else RATIO. -/
def Dev.setRate (d : Dev) (i : Nat) (r : Int) : Dev :=
  if d.driving = some i then d.setAddend (0x020000000000 + r).toNat
  else d.setRatio i r

/-- A step by `units` made by the servo of domain `i` (R86, R91): of the time base on the next TCLK edge (R84). -/
def Dev.servoStep (d : Dev) (i : Nat) (units : Int) : Dev :=
  if d.driving = some i then
    let d := if (d.dom i).slewing then ((d.setDom i { d.dom i with slewing := false, slewOn := false }).setDtb i 0).setRatio i 0 else d
    { d with time := { d.time with pend := d.time.pend + units } }
  else (d.noteTimes.setDtb i ((d.dom i).dtb + units * 2 ^ 65)).mcgStepped (some i)

/-- The source of domain `i` counts as lost. -/
def Dev.servoLost (d : Dev) (i : Nat) : Dev :=
  match d.ptpLock i with
  | 1 => d.setLock i 0 false
  | 2 =>
    let rs := ((d.dom i).rates.filter fun e => decide (d.mono - e.1 ≤ 16000000000 * 65536)).map (·.2)
    let d := if rs.isEmpty then d else d.setRate i (roundDiv rs.sum rs.length)
    d.setLock i 3 true
  | _ => d

/-- SERVO_HOLD_EXPIRY: HOLD_LIMIT has elapsed in HOLD. -/
def Dev.holdExpiry (d : Dev) (i : Nat) : Dev :=
  if d.ptpLock i = 3 then (d.setDom i { d.dom i with holdExpired := true }).setLock i 0 true else d

/-- The client port of domain `i`. -/
def Dev.clientPort (d : Dev) (i : Nat) : Option Nat := (List.range 4).find? fun n => d.pstate i n == 8 || d.pstate i n == 9

/-- LOCK entered: a port in UNCALIBRATED enters SLAVE (R79). -/
def Dev.enterLock (d : Dev) (i : Nat) : Dev :=
  let d := d.setDom i { d.dom i with n := 0, holdExpired := false }
  let d := d.setLock i 2 true
  match d.clientPort i with
  | some p => d.setPstate i p 9
  | none => d

/-- SLEW_MAX as it acts, ppb (R88). -/
def Dev.slewMax (d : Dev) (i : Nat) : Nat := max 1000 (min 1000000 (d.reg (rPTP_PTDd_SLEW_MAX i)).toNat)

/-- The rate update of R86 for an offset `o`, with T = 10^9 × 2^`t` ns. `freq` is the frequency term that replaces the
integrator (R95), in units of 10^-9 × 2^-16. -/
def Dev.servoRate (d : Dev) (i : Nat) (o t : Int) (freq : Option Int) : Dev :=
  let x := d.dom i
  let arg := 64 * d.ptpLock i + min x.n 63
  let gain := fun c => (curveFraction (d.curveAt c arg 1) : Int)
  let unit := o * 2 ^ (4 - t).toNat
  let m : Int := d.slewMax i * 2 ^ 52
  let integ := clampI (-m) m (x.integ - gain (d.get (fPTP_PTDd_SERVO_CFG_KI_CURVE i)) * unit)
  let term := match freq with
    | some f => f * 2 ^ 36
    | none => integ
  let r := clampI (-m) m (term - gain (d.get (fPTP_PTDd_SERVO_CFG_KP_CURVE i)) * unit)
  let rate := roundDiv r (1000000000 * 2 ^ 11)
  let x := { x with integ := if freq.isSome then x.integ else integ, n := x.n + 1, past := 0, slewOn := x.slewing,
                    rates := if d.ptpLock i = 2 then (d.mono, rate) :: x.rates else x.rates }
  (d.setDom i x).setRate i rate

/-- The runs of measurements that Table 3.2 counts. -/
def Dev.servoRuns (d : Dev) (i : Nat) (o : Int) : Dev :=
  let x := d.dom i
  let a := (o.natAbs : Nat)
  let lockT := d.get (fPTP_PTDd_LOCK_CFG_LOCK_THRESH i) * 65536
  let unlockT := d.get (fPTP_PTDd_LOCK_CFG_UNLOCK_THRESH i) * 65536
  match d.ptpLock i with
  | 1 =>
    let k := if a < lockT then x.lockRun + 1 else 0
    let d := d.setDom i { x with lockRun := k }
    if max 1 (d.get (fPTP_PTDd_SERVO_CFG_LOCK_N i)) ≤ k then d.enterLock i else d
  | 2 =>
    let k := if unlockT ≤ a then x.unlockRun + 1 else 0
    let d := d.setDom i { x with unlockRun := k }
    if 4 ≤ k then (d.setDom i { d.dom i with n := 0 }).setLock i 1 true else d
  | _ => d

/-- An accepted measurement with offset `o` (R86, Table 3.2). One that does not yet complete the confirmation of a step is
accepted in the sense of R83: it counts in the runs of Table 3.2 (R85, R89). -/
def Dev.servoMeasure (d : Dev) (i : Nat) (o t : Int) (freq : Option Int) : Dev :=
  let d := d.setPair (rPTP_PTDd_OFS_H i) (rPTP_PTDd_OFS_L i) (unsgn 64 o)
  let small := decide (o.natAbs < d.get (fPTP_PTDd_LOCK_CFG_LOCK_THRESH i) * 65536)
  let d := match d.ptpLock i with
    | 0 => (d.setDom i { d.dom i with integ := 0, n := 0 }).setLock i 1 false
    | 3 => if small then d.enterLock i else d.setLock i 1 true
    | _ => d
  let thr := d.stepThresh i
  if thr ≠ 0 ∧ thr ≤ (o.natAbs : Int) then
    let past := (d.dom i).past + 1
    if max 1 (min 8 (d.get (fPTP_PTDd_SERVO_CFG_STEP_CONFIRM i))) ≤ past then
      let d := d.setDom i { d.dom i with past := 0, n := 0 }
      ((d.setLock i 1 false).servoStep i (-o)).inc (rPTP_PTDd_STEP_CNT i)
    else ((d.setDom i { d.dom i with past := past }).inc (rPTP_PTDd_REJ_CNT i)).servoRuns i o
  else (d.servoRate i o t freq).servoRuns i o

/-! ## Measurements (R83) -/

/-- The mean path delay of domain `i`, 2^-16 ns. -/
def Dev.mpd (d : Dev) (i : Nat) : Int := sgn 64 (d.pair (rPTP_PTDd_MPD_H i) (rPTP_PTDd_MPD_L i))

/-- Where a value goes in a rising list. -/
def insertI (v : Int) : List Int → List Int
  | [] => [v]
  | x :: l => if v ≤ x then v :: x :: l else x :: insertI v l

/-- Twice the median: of an even number, or of fewer than 8, the sum of the middle two of those there are (DESIGN CHOICE: the
spec names the median of the last 8; log entry 166). -/
def median2 (l : List Int) : Int :=
  let s := l.foldl (fun a v => insertI v a) []
  s.getD ((s.length - 1) / 2) 0 + s.getD (s.length / 2) 0

/-- The domain takes its time from PPS_IN (R95). -/
def Dev.gmSource (d : Dev) (i : Nat) : Bool := d.on fPTP_GM_CTL_GM_EN && d.get fPTP_GM_CTL_DOM == i && d.ptpOn i

/-- A local instant in the time that the servo of domain `i` compares: the time base, or the domain's own time with the DTB of
that instant (R91). -/
def Dev.servoTime (d : Dev) (i : Nat) (t : Int) : Int :=
  if d.driving = some i then t else t + d.dtbAt i (t - d.time.stepTotal) / 2 ^ 65

/-- PTP_MEASUREMENT: a Sync or its Follow_Up on port `n` completes a measurement: `t1` the origin, `t2` the raw ingress
timestamp less all steps of the time base before it, `cf` the correction fields, all in 2^-16 ns. There is no check against
a median before the first accepted delay (log entry 166). -/
def Dev.ptpMeasure (d : Dev) (i n : Nat) (t1 t2 cf : Int) : Dev :=
  if !d.ptpOn i || d.gmSource i || d.refDown 0 || d.clientPort i != some n then d else
  let x := d.dom i
  let peer := ptpPeer (d.get (fPTP_PTDd_CTL_PROFILE i))
  let delay := if peer then ((d.reg (rTIME_NETn_LINK_DLY n)).toNat : Int) else d.mpd i
  let rej : Int := ((d.reg (rPTP_PTDd_DELAY_REJ i)).toNat * 65536 : Nat)
  let far := !x.delays.isEmpty && decide (median2 x.delays + 2 * rej < 2 * delay)
  let t2 := t2 - cfUnits (d.reg (rTIME_NETn_ING_LAT n)).toNat
  let stale := d.time.pend != 0 || (match d.time.lastStep with
    | some e => decide (t2 < e)
    | none => false)
  if far || stale || (x.gmChanged && x.delay.isNone && !peer) then
    (d.setDom i { x with gmChanged := false }).inc (rPTP_PTDd_REJ_CNT i)
  else
    let t2 := d.servoTime i (t2 + d.time.stepTotal)
    let o := t2 - t1 - delay - (cf + cfUnits (sgn 32 (d.reg (rTIME_NETn_ASYM n)).toNat))
    let d := d.setDom i { x with delays := (delay :: x.delays).take 8, gmChanged := false }
    let d := if peer then d.setPair (rPTP_PTDd_MPD_H i) (rPTP_PTDd_MPD_L i) (unsgn 64 delay) else d
    d.servoMeasure i (satI 64 o) (d.logSync i) none

/-! ## Grandmaster operation (R70, R95, R96) -/

/-- TOD_LOAD at a valid PPS_IN edge captured at `cap` in domain `i`'s time. -/
def Dev.todLoad (d : Dev) (i : Nat) (cap : Int) : Dev :=
  let sec := d.get fPTP_GM_TOD_SEC_H_SEC * 2 ^ 32 + (d.reg rPTP_GM_TOD_SEC_L).toNat
  let delta := (sec * 1000000000 * 65536 : Nat) - cap
  let d := d.putB fPTP_GM_CTL_TOD_LOAD false
  if delta = 0 then d else
  let d := d.setDom i { d.dom i with n := 0, past := 0 }
  ((d.setLock i 1 false).servoStep i delta).inc (rPTP_PTDd_STEP_CNT i)

/-- A valid PPS_IN edge reaches the servo of the grandmaster domain. -/
def Dev.ppsServo (d : Dev) (i : Nat) (cap : Time94) : Dev :=
  let t := d.servoTime i cap.units
  if d.on fPTP_GM_CTL_TOD_LOAD then d.todLoad i t else
  let sec : Int := 1000000000 * 65536
  let ph := t % sec
  let o := if ph < sec / 2 then ph else ph - sec
  let freq := if d.on fTIME_STS_CLK10M_LOS || d.on fTIME_STS_CLK10M_BAD then none else d.time.clk10
  d.servoMeasure i o 0 freq

/-- PPS_IN_EDGE: a rising edge, captured now (R70). Its interval is checked and it reaches the servo whatever TIME_TCAP00_CFG
holds; the capture FIFO takes it only as that register says (DESIGN CHOICE: the spec does not tie the one to the other; log
entry 167). -/
def Dev.ppsInEdge (d : Dev) : Dev :=
  if !d.timeRuns then d else
  let cap := d.time.now94
  let d := if d.get (fTIME_TCAPnn_CFG_SRC 0) = 0 then d.tcapEdge 0 true else d
  let valid := match d.time.ppsPrev with
    | none => true
    | some p => decide ((cap.units - p.units - d.time.ppsSteps - 1000000000 * 65536).natAbs ≤ 100000 * 65536)
  let good := if valid then min 2 (d.time.ppsGood + 1) else 0
  let d := { d with time := { d.time with ppsPrev := some cap, ppsSteps := 0, ppsGood := good } }
  if !valid then d.inc rTIME_PPS_IN_BAD_CNT else
  let d := if 2 ≤ good then d.putB fTIME_STS_PPS_IN_LOS false else d
  match (List.range 4).find? d.gmSource with
  | some i => if d.refDown 0 then d else d.ppsServo i cap
  | none => d

/-- PPS_IN_LOS: no edge for 1.1 s. -/
def Dev.ppsInLos (d : Dev) : Dev :=
  let d := { d with time := { d.time with ppsPrev := none, ppsSteps := 0, ppsGood := 0 } }
  let d := d.putB fTIME_STS_PPS_IN_LOS true
  match (List.range 4).find? d.gmSource with
  | some i => d.servoLost i
  | none => d

/-- PTP_GM_CTL written: a domain that stops being the grandmaster domain loses its PPS_IN source (R95). -/
def Dev.gmWritten (d : Dev) (old : Option Nat) : Dev :=
  match old with
  | some i => if d.gmSource i then d else d.servoLost i
  | none => d

/-! ## Messages of the reference program (R61, R79 to R82, R97, R98; IEEE 1588-2019) -/

/-- clockIdentity: the EUI-64 of P0's address (R80). -/
def Dev.clockIdentity (d : Dev) : Nat :=
  let m := d.macAddr 0
  m / 2 ^ 24 * 2 ^ 40 + 0xFFFE * 2 ^ 24 + m % 2 ^ 24

/-- The sequenceId of the next message of a type on a port, and the device with it taken. -/
def Dev.ptpSeq (d : Dev) (i n t : Nat) : Nat × Dev :=
  let x := d.dom i
  let k := 16 * n + t
  let s := kget 0 x.seqs k
  (s, d.setDom i { x with seqs := kset 0 x.seqs k ((s + 1) % 65536) })

/-- A PTP message: the common header and a body. -/
def Dev.ptpMessage (d : Dev) (i n t flags : Nat) (cf : Int) (seq : Nat) (log : Nat) (body : List Byte) : List Byte :=
  let sdo := if d.get (fPTP_PTDd_CTL_PROFILE i) = 4 then 16 else 0
  let ctl := match t with
    | 0 => 0 | 1 => 1 | 9 => 3 | _ => 5
  beBytes 1 (sdo + t) ++ beBytes 1 0x12 ++ beBytes 2 (34 + body.length) ++ beBytes 1 (d.get (fPTP_PTDd_CTL_DOMAIN_NUM i)) ++ [0]
    ++ beBytes 2 flags ++ beBytes 8 (unsgn 64 cf) ++ beBytes 4 0 ++ beBytes 8 d.clockIdentity ++ beBytes 2 (n + 1) ++ beBytes 2 seq
    ++ beBytes 1 ctl ++ beBytes 1 log ++ body

/-- A message of type `t` sent on port `n` in the transport of domain `i`, in class 7 (R301). The source IP address, which
the spec does not give, is a free value. -/
def Dev.ptpSend (d : Dev) (i n t : Nat) (msg : List Byte) (ts : Int) : Dev :=
  if d.refDown 0 then d else
  let peer := t == 2 || t == 3
  let port := if t < 4 then 319 else 320
  let r := d.freeNat
  let bs := match d.get (fPTP_PTDd_CTL_TRANSPORT i) with
    | 0 =>
      let dst := if peer || d.get (fPTP_PTDd_CTL_PROFILE i) == 4 then 0x0180C200000E else 0x011B19000000
      beBytes 6 dst ++ beBytes 6 (d.macAddr n) ++ beBytes 2 0x88F7 ++ msg
    | 1 =>
      let dip := if peer then 0xE000006B else 0xE0000181
      let udp := beBytes 2 port ++ beBytes 2 port ++ beBytes 2 (8 + msg.length) ++ beBytes 2 0 ++ msg
      let head := beBytes 2 0x4500 ++ beBytes 2 (28 + msg.length) ++ beBytes 4 0 ++ beBytes 1 (if peer then 1 else 64) ++ beBytes 1 17
        ++ beBytes 2 0 ++ beBytes 4 r.1 ++ beBytes 4 dip
      beBytes 6 (0x01005E000000 + dip % 2 ^ 23) ++ beBytes 6 (d.macAddr n) ++ beBytes 2 0x0800
        ++ patch head 10 (beBytes 2 (checksum head)) ++ udp
    | _ =>
      let dip := if peer then 0xFF02 * 2 ^ 112 + 0x6B else 0xFF0E * 2 ^ 112 + 0x181
      let udp := beBytes 2 port ++ beBytes 2 port ++ beBytes 2 (8 + msg.length) ++ beBytes 2 0 ++ msg
      sumUdp (beBytes 6 (0x333300000000 + dip % 2 ^ 32) ++ beBytes 6 (d.macAddr n) ++ beBytes 2 0x86DD
        ++ beBytes 4 0x60000000 ++ beBytes 2 (8 + msg.length) ++ beBytes 1 17 ++ beBytes 1 (if peer then 1 else 64)
        ++ beBytes 16 r.1 ++ beBytes 16 dip ++ udp)
  (r.2.originate n 7 { bytes := bs, ts := ts }).2

/-- A timestamp of ten bytes from a time in 2^-16 ns. -/
def ptpStamp (t : Int) : List Byte :=
  let ns := (t / 65536).toNat
  beBytes 6 (ns / 1000000000) ++ beBytes 4 (ns % 1000000000)

/-- SYNC_DUE: a port in MASTER sends its own one-step Sync; the port writes originTimestamp as it leaves (R61). -/
def Dev.syncDue (d : Dev) (i n : Nat) : Dev :=
  if d.ptpOn i && d.pstate i n == 6 then
    let r := d.ptpSeq i n 0
    r.2.ptpSend i n 0 (r.2.ptpMessage i n 0 0 0 r.1 (r.2.get (fPTP_PTDd_RATES_SYNC i)) (beBytes 10 0)) 0
  else d

/-- DELAY_REQ_DUE: a Pdelay_Req of a port that measures its link, and a Delay_Req of the client port of a request-response
profile (R82). -/
def Dev.delayReqDue (d : Dev) (i n : Nat) : Dev :=
  let d := d.rqlOffer 0x0482 (4 * i + n)
  let tc := d.get (fTIME_NETn_TS_CFG_TC_MODE n) == 2
  let peer := ptpPeer (d.get (fPTP_PTDd_CTL_PROFILE i))
  let d :=
    if tc || (d.ptpOn i && peer && d.ptpRole i n != 0) then
      let r := d.ptpSeq i n 2
      r.2.ptpSend i n 2 (r.2.ptpMessage i n 2 0 0 r.1 0x7F (beBytes 20 0)) 0
    else d
  if d.ptpOn i && !peer && d.clientPort i == some n then
    let r := d.ptpSeq i n 1
    r.2.ptpSend i n 1 (r.2.ptpMessage i n 1 0 0 r.1 0x7F (beBytes 10 0)) 0
  else d

/-- Domain `i` may be grandmaster: the unit is the active one of its pair, or has no pair, and has been since the domain's last
announce interval (R98, R382). -/
def Dev.gmCandidate (d : Dev) (i : Nat) : Bool := d.haloFront && !(d.dom i).standby

/-- clockClass as the domain announces it (R80, R97, R98). In ACQ it is what it would be in FREE (DESIGN CHOICE: the spec gives
LOCK, HOLD and FREE; log entry 168), and in FREE with no HOLD expired it is CLASS, whether or not the domain has been in LOCK
(DESIGN CHOICE: the spec gives FREE before any lock; log entry 192). -/
def Dev.clockClass (d : Dev) (i : Nat) : Nat :=
  if !d.gmSource i || !d.gmCandidate i then 255
  else match d.ptpLock i with
    | 2 => 6
    | 3 => 7
    | _ => if (d.dom i).holdExpired then 52 else d.get (fPTP_PTDd_CLOCK_CLASS i)

/-- The local dataset, as the one of a master. -/
def Dev.localMaster (d : Dev) (i : Nat) : PtpMaster :=
  { port := 0, sender := d.clockIdentity * 65536, ident := d.clockIdentity
    priority1 := if d.gmCandidate i then d.get (fPTP_PTDd_CLOCK_PRIORITY1 i) else 255
    clockClass := d.clockClass i, accuracy := d.get (fPTP_PTDd_CLOCK_ACCURACY i), variance := d.get (fPTP_PTDd_VARIANCE_VALUE i)
    priority2 := d.get (fPTP_PTDd_CLOCK_PRIORITY2 i), steps := 0 }

/-- The order of two datasets of different grandmasters, and of any two under IEEE 802.1AS. -/
def PtpMaster.key (m : PtpMaster) : List Nat :=
  [m.priority1, m.clockClass, m.accuracy, m.variance, m.priority2, m.ident, m.steps, m.sender, m.port]

/-- The first list of numbers is below the second. -/
def lexLt : List Nat → List Nat → Bool
  | a :: s, b :: t => decide (a < b) || (a == b && lexLt s t)
  | _, _ => false

/-- The dataset comparison: `a` is better than `b`, by topology or not. Datasets of one grandmaster are compared by their
steps, sender and receiving port alone (IEEE 1588-2019 9.3.4); `as` for the priority vectors of IEEE 802.1AS-2020 (R80). -/
def PtpMaster.better (as : Bool) (a b : PtpMaster) : Bool :=
  if !as && a.ident == b.ident then lexLt [a.steps, a.sender, a.port] [b.steps, b.sender, b.port] else lexLt a.key b.key

/-- The best of a list of masters. -/
def bestMaster (as : Bool) : List PtpMaster → Option PtpMaster
  | [] => none
  | m :: l => match bestMaster as l with
    | some b => some (if b.better as m then b else m)
    | none => some m

/-- Dataset `b` is better than `a` by topology alone, `a` received by the clock of identity `self` on the port it names: they
describe one grandmaster, and `a` is at the same number of steps, or one more and not from a sender above this clock. -/
def PtpMaster.topology (self : Nat) (a b : PtpMaster) : Bool :=
  a.ident == b.ident && (a.steps == b.steps || (a.steps == b.steps + 1 && decide (a.sender ≤ self * 65536 + a.port + 1)))

/-- The state that MASTER is reached through: PRE_MASTER for as long as qualification lasts, and MASTER kept (IEEE 1588-2019
9.2.6.11). -/
def Dev.toMaster (d : Dev) (i n : Nat) (wait : Nat) : Nat :=
  if d.pstate i n = 6 ∨ wait = 0 then 6
  else if d.pstate i n = 5 ∧ kget 0 (d.dom i).qual n = 0 then 6 else 5

/-- The state of port `n` that hears no master and is to be MASTER: a port in LISTENING stays until no Announce has come for
announceReceiptTimeout intervals, and enters MASTER then at once, as a port whose master has fallen silent does (IEEE
1588-2019 9.2.6, 9.3.3). -/
def Dev.silentState (d : Dev) (i n wait : Nat) : Nat :=
  match d.pstate i n with
  | 4 => if d.get (fPTP_PTDd_RATES_ANN_TO i) ≤ kget 0 (d.dom i).quiet n then 6 else 4
  | 5 | 6 => d.toMaster i n wait
  | 7 | 8 | 9 => 6
  | _ => 4

/-- The state that the choice recommends for port `n` (IEEE 1588-2019 9.3.3, or IEEE 802.1AS-2020 10.3.13 with `as`): `best` is
the foreign master chosen, none where there is none; `own`: the device's own dataset is the best; `high`: its clockClass is
1 to 127, so that it never follows another clock. -/
def Dev.recommended (d : Dev) (i n : Nat) (best : Option PtpMaster) (own high as : Bool) : Nat :=
  let here := bestMaster as ((d.dom i).masters.filter fun m => m.port == n)
  if own || high then
    match here with
    | some m => if high && m.better as (d.localMaster i) then 7 else 6
    | none => if as then 6 else d.silentState i n 0
  else match best with
    | none => 4
    | some b =>
      if b.port = n ∧ d.ptpRole i n ≠ 3 then
        (if as ∨ (d.pstate i n = 9 ∧ (d.dom i).parent = some (n, b.sender)) then 9 else 8)
      else match here with
        | some m =>
          if as then
            (if ({ b with steps := b.steps + 1, sender := d.clockIdentity * 65536 + n + 1, port := n } : PtpMaster).better true m
              then 6 else 7)
          else if m.topology d.clockIdentity b then 7 else d.toMaster i n (b.steps + 2)
        | none => if as then 6 else d.silentState i n (b.steps + 2)

/-- The state the choice gives port `n` (R76 to R79, R98): the one recommended, or LISTENING where the port may not take it. -/
def Dev.bmcaState (d : Dev) (i n : Nat) (best : Option PtpMaster) (own high : Bool) : Nat :=
  let role := d.ptpRole i n
  let tc := d.get (fTIME_NETn_TS_CFG_TC_MODE n)
  let as := d.get (fPTP_PTDd_CTL_PROFILE i) == 4
  if role = 0 then 0
  else if !(d.netOn n && d.linkUp n) then (if as then 3 else 2)
  else
    let st := d.recommended i n best own high as
    let bridge := tc == 1 || tc == 2
    if (st = 5 ∨ st = 6) ∧ (role = 2 ∨ bridge ∨ !d.gmCandidate i) then 4
    else if st = 7 ∧ bridge then 4 else st

/-- A new grandmaster identity (R81). -/
def Dev.gmChange (d : Dev) (i ident : Nat) : Dev :=
  if d.pair (rPTP_PTDd_GMID_H i) (rPTP_PTDd_GMID_L i) = ident then d else
  let d := (d.setPair (rPTP_PTDd_GMID_H i) (rPTP_PTDd_GMID_L i) ident).inc (rPTP_PTDd_GM_CHG_CNT i)
  (d.setDom i { d.dom i with gmChanged := true, delay := none }).raise 0x0402 i

/-- A port state set; a port that enters PRE_MASTER begins to wait `wait` announce intervals (R79). -/
def Dev.enterPstate (d : Dev) (i n st wait : Nat) : Dev :=
  let d := if st = 5 ∧ d.pstate i n ≠ 5 then d.setDom i { d.dom i with qual := kset 0 (d.dom i).qual n wait } else d
  d.setPstate i n st

/-- The best-master choice of domain `i` (R78, R80). -/
def Dev.bmca (d : Dev) (i : Nat) : Dev :=
  let as := d.get (fPTP_PTDd_CTL_PROFILE i) == 4
  let heard := (d.dom i).masters.filter fun m =>
    (d.ptpRole i m.port == 1 || d.ptpRole i m.port == 2) && d.netOn m.port && d.linkUp m.port
  let best := bestMaster as heard
  let cand := d.gmSource i && d.gmCandidate i
  let high := cand && !as && decide (d.clockClass i < 128)
  let own := cand && (match best with
    | some b => (d.localMaster i).better as b
    | none => true)
  let best := if own || high then none else best
  let wait := (best.map (·.steps + 2)).getD 0
  let d := (List.range 4).foldl (fun d n => d.enterPstate i n (d.bmcaState i n best own high) wait) d
  let d := d.setDom i { d.dom i with parent := best.map fun b => (b.port, b.sender) }
  let d := d.putB (fPTP_PTDd_STS_GM i) (own || high)
  match best with
  | some b => d.gmChange i b.ident
  | none => if own || high then d.gmChange i d.clockIdentity else d

/-- The dataset that the domain's ports announce: its own, or the grandmaster's one step further. -/
def Dev.announced (d : Dev) (i : Nat) : PtpMaster :=
  if d.on (fPTP_PTDd_STS_GM i) then d.localMaster i
  else match bestMaster (d.get (fPTP_PTDd_CTL_PROFILE i) == 4) ((d.dom i).masters.filter fun m => d.clientPort i == some m.port) with
    | some b => { b with steps := b.steps + 1 }
    | none => d.localMaster i

/-- An Announce of port `n`. The timeSource, which the spec does not give, is a free value. -/
def Dev.announceSend (d : Dev) (i n : Nat) : Dev :=
  let m := d.announced i
  let utc := d.reg rPTP_GM_UTC_CFG
  let flags := 0x0C + utc.toNat / 2 ^ 17 % 2 + 2 * (utc.toNat / 2 ^ 16 % 2)
  let r := d.ptpSeq i n 11
  let s := r.2.freeNat
  let body := beBytes 10 0 ++ beBytes 2 (utc.toNat % 65536) ++ [0] ++ beBytes 1 m.priority1 ++ beBytes 1 m.clockClass ++ beBytes 1 m.accuracy
    ++ beBytes 2 m.variance ++ beBytes 1 m.priority2 ++ beBytes 8 m.ident ++ beBytes 2 m.steps ++ beBytes 1 s.1
  s.2.ptpSend i n 11 (s.2.ptpMessage i n 11 flags 0 r.1 (s.2.get (fPTP_PTDd_RATES_ANN i)) body) 0

/-- ANNOUNCE_INTERVAL: masters not heard for announceReceiptTimeout intervals are forgotten, the choice is made, and ports in
MASTER announce. -/
def Dev.announceInterval (d : Dev) (i : Nat) : Dev :=
  if !d.ptpOn i then d else
  let d := d.rqlOffer 0x0481 i
  if d.refDown 0 then d else
  let x := d.dom i
  let ms := (x.masters.map fun m => { m with age := m.age + 1 }).filter fun m => decide (m.age ≤ d.get (fPTP_PTDd_RATES_ANN_TO i))
  let qual := (List.range 4).foldl (fun q n => kset 0 q n (kget 0 x.qual n - 1)) x.qual
  let quiet := (List.range 4).foldl (fun q n => kset 0 q n (min 255 (kget 0 x.quiet n + 1))) x.quiet
  let d := (d.setDom i { x with masters := ms, qual := qual, quiet := quiet, standby := !d.haloFront }).bmca i
  (List.range 4).foldl (fun d n => if d.pstate i n = 6 then d.announceSend i n else d) d

/-- ANNOUNCE_RECEIPT_TIMEOUT: no Sync is accepted in UNCALIBRATED (R79). -/
def Dev.announceTimeout (d : Dev) (i n : Nat) : Dev :=
  if d.ptpOn i && !d.refDown 0 && d.pstate i n == 8 then
    let d := (d.setPstate i n 4).inc (rPTP_PTDd_ANN_TO_CNT i)
    if d.gmSource i then d else d.servoLost i
  else d

/-- The foreign master that an Announce describes; `o` is where the message begins. -/
def announceMaster (bs : List Byte) (o n : Nat) : PtpMaster :=
  { port := n, sender := beAt bs (o + 20) 10, priority1 := beAt bs (o + 47) 1, clockClass := beAt bs (o + 48) 1
    accuracy := beAt bs (o + 49) 1, variance := beAt bs (o + 50) 2, priority2 := beAt bs (o + 52) 1, ident := beAt bs (o + 53) 8
    steps := beAt bs (o + 61) 2 }

/-- An Announce taken: the choice is made at once when it changes a foreign master's dataset (R80). -/
def Dev.announceTake (d : Dev) (i n : Nat) (bs : List Byte) (o : Nat) : Dev :=
  let m := announceMaster bs o n
  let x := d.dom i
  let same := fun y : PtpMaster => y.sender == m.sender && y.port == n
  let known := (x.masters.find? same).map fun y => { y with age := 0 }
  let d := d.setDom i { x with masters := m :: x.masters.filter fun y => !same y, quiet := kset 0 x.quiet n 0 }
  if known = some m then d else d.bmca i

/-- The answer to a Delay_Req on a port in MASTER, or to a Pdelay_Req; `ts` is its corrected ingress time less all steps. -/
def Dev.delayAnswer (d : Dev) (i n t : Nat) (bs : List Byte) (o : Nat) (ts : Int) : Dev :=
  let asker := (bs.drop (o + 20)).take 10
  let seq := beAt bs (o + 30) 2
  let cf := sgn 64 (beAt bs (o + 8) 8)
  if t = 1 then
    let at_ := ts + d.time.stepTotal
    d.ptpSend i n 9 (d.ptpMessage i n 9 0 (satI 64 (cf - at_ % 65536)) seq (d.get (fPTP_PTDd_RATES_DREQ i)) (ptpStamp at_ ++ asker)) 0
  else d.ptpSend i n 3 (d.ptpMessage i n 3 0 cf seq 0x7F (beBytes 10 0 ++ asker)) ts

/-- A delay that the program has measured: of the link, or of the path to the grandmaster (R82, R83). -/
def Dev.delayTake (d : Dev) (i n t : Nat) (delay : Int) : Dev :=
  if t = 9 then
    if d.clientPort i = some n then
      (d.setDom i { d.dom i with delay := some delay }).setPair (rPTP_PTDd_MPD_H i) (rPTP_PTDd_MPD_L i) (unsgn 64 delay)
    else d
  else d.setReg (rTIME_NETn_LINK_DLY n) (BitVec.ofNat 32 (clampI 0 (2 ^ 32 - 1) delay).toNat)

/-- A message handed over from port `n` in domain `i`. -/
def Dev.ptpTake (d : Dev) (i n : Nat) (bs : List Byte) (ts : Int) (delay : Option Int) : Dev :=
  let d := d.rqlOffer 0x0480 (4 * i + n)
  if d.refDown 0 then d else
  match ptpAny bs with
  | none => d
  | some (o, t) =>
    match t with
    | 1 => if d.pstate i n = 6 then d.delayAnswer i n 1 bs o ts else d
    | 2 =>
      if (ptpPeer (d.get (fPTP_PTDd_CTL_PROFILE i)) && d.ptpRole i n != 0) || d.get (fTIME_NETn_TS_CFG_TC_MODE n) == 2 then
        d.delayAnswer i n 2 bs o ts
      else d
    | 11 => if d.ptpRole i n = 1 ∨ d.ptpRole i n = 2 then d.announceTake i n bs o else d
    | 3 | 9 | 10 => match delay with
      | some x => d.delayTake i n t x
      | none => d
    | _ => d

/-- PTP_MESSAGE_HELD: the oldest message handed to the program. `delay` is the link or path delay that the program completes
with it, if it completes one. -/
def Dev.ptpHeld (d : Dev) (delay : Option Int) : Dev :=
  match d.take fun h => (match h.sink with
    | .ptp _ => true
    | _ => false) with
  | (some h, d) => match h.sink with
    | .ptp i => d.ptpTake i h.port.val h.bytes h.ts delay
    | _ => d
  | (none, d) => d

/-! ## Enabling (R74) -/

/-- The state in which the program starts port `n` of domain `i`: FAULTY while its link is down (DISABLED under IEEE 802.1AS),
else LISTENING (R79). -/
def Dev.portStart (d : Dev) (i n : Nat) : Nat :=
  if d.netOn n && d.linkUp n then 4 else if d.get (fPTP_PTDd_CTL_PROFILE i) = 4 then 3 else 2

/-- EN written 1 while it is 0. A port is INITIALIZING until the reference program runs (R79, log entry 169). -/
def Dev.ptpEnable (d : Dev) (i : Nat) : Dev :=
  if d.ptpCheck i then
    let d := (d.putB (fPTP_PTDd_CTL_EN i) true).putB (fPTP_PTDd_STS_CFG_ERR i) false
    let d := d.setDom i { d.dom i with masters := [], delays := [], delay := none, past := 0, parent := none, qual := [], quiet := [],
                                          standby := !d.haloFront }
    let d := (List.range 4).foldl (fun d n => d.setPstate i n
      (if d.ptpRole i n = 0 then 0 else if d.refDown 0 then 1 else d.portStart i n)) d
    d.govEval
  else (d.putB (fPTP_PTDd_CTL_EN i) false).putB (fPTP_PTDd_STS_CFG_ERR i) true

/-- EN written 0. -/
def Dev.ptpDisable (d : Dev) (i : Nat) : Dev :=
  let was := d.ptpOn i
  let d := (d.putB (fPTP_PTDd_CTL_EN i) false).putB (fPTP_PTDd_STS_CFG_ERR i) false
  if !was then d else
  let d := (List.range 4).foldl (fun d n => d.setPstate i n 0) d
  let d := (d.setLock i 0 false).setDom i { (d.setLock i 0 false).dom i with masters := [], holdExpired := false, slewing := false, slewOn := false, parent := none }
  (d.putB (fPTP_PTDd_STS_GM i) false).govEval

/-- Domain `i` in ACQ or LOCK loses its source when it follows messages and has no client port any more (R85), and, whatever its
source, when the program does not run (Table 20.6a). The program, once it runs, takes its ports out of INITIALIZING (log entry 169). -/
def Dev.ptpSettles (d : Dev) (i : Nat) : Dev :=
  if !d.ptpOn i then d else
  let lost := d.refDown 0 || (!d.gmSource i && (d.clientPort i).isNone)
  let d := if lost && (d.ptpLock i == 1 || d.ptpLock i == 2) then d.servoLost i else d
  if d.refDown 0 then d
  else (List.range 4).foldl (fun d n => if d.pstate i n = 1 then d.setPstate i n (d.portStart i n) else d) d

/-- What the four domains see of a state that a command has left. -/
def Dev.ptpSettle (d : Dev) : Dev := (List.range 4).foldl Dev.ptpSettles d

/-! ## Dawn of TIME (R67, R94) -/

/-- The domains resume after `ret` of 2^-16 ns in RET. A HOLD whose limit passed in RET leaves `holdExpired` as it was
(DESIGN CHOICE: the spec does not say whether it counts as expired for R97; log entry 170). -/
def Dev.ptpDawn (d : Dev) (ret : Int) : Dev :=
  (List.range 4).foldl (fun d i =>
    let lim : Int := (max 1 (min 86400 (d.reg (rPTP_PTDd_HOLD_LIMIT i)).toNat) * 1000000000 * 65536 : Nat)
    let held := match (d.dom i).heldAt with
      | some t => d.mono - t
      | none => 0
    let st := d.ptpLock i
    if d.ptpOn i && decide (2 ≤ st) && decide (held + ret < lim) then
      let d := d.setLock i 3 false
      d.setDom i { d.dom i with heldAt := some (d.mono - held - ret) }
    else d.setLock i 0 false) d

end Sys2Proof.Machine
end

