-- ==== Sys2Proof/Machine/Pwr.lean ====
section
/-! DEFINITION. Clocks and power domains (R447, R448, R453 to R472): the clock switch, Dusk and Dawn, retention checks,
requests and wake sources. A Dusk or a Dawn begins with the command that calls for it and ends with the next step on an
empty queue (log entry 62). -/

namespace Sys2Proof.Machine

open Sys2Proof

/-! ## The core clock switch (R447, R467) -/

/-- Every enabled stream context sees its generator stop (R120, R467). -/
def Dev.streamsStop (d : Dev) : Dev :=
  let d := (d.mapBits (rSTX_ENMAPkk 0)).foldl Dev.stxGenStopped d
  (d.mapBits (rSRX_ENMAPkk 0)).foldl Dev.srxGenStopped d

/-- The consumers of generator `g`, which stops issuing ticks (Table 4.5). -/
def Dev.genStopped (d : Dev) (g : Nat) : Dev :=
  let d := (d.mapBits (rSTX_ENMAPkk 0)).foldl (fun d c => if d.ctxMcg c = g then d.stxGenStopped c else d) d
  let d := (d.mapBits (rSRX_ENMAPkk 0)).foldl (fun d c => if d.ctxMcg (rxCtx c) = g then d.srxGenStopped c else d) d
  let d := (List.range 24).foldl (fun d n => d.sapGenStopped n g) d
  if d.get fMCG_HOUSE_HOUSE = g ∧ d.on fANV_CTL_EN then d.anvGenStopped else d

/-- Generator `g` stops issuing ticks (R120). -/
def Dev.genStop (d : Dev) (g : Nat) : Dev :=
  if (d.mcgOf g).ticking then (d.mcgStop g).genStopped g else d.mcgStop g

/-- MCG_DISABLE: EN of generator `g` written 0. A packet whose instant has been reached goes out first, while the generator's
count is still known (R158, Table 6.1). -/
def Dev.genDisable (d : Dev) (g : Nat) : Dev :=
  let ticking := (d.mcgOf g).ticking
  let d := (d.emitAll g).mcgDisable g
  if ticking then d.genStopped g else d

/-- The clock of consumer `c` goes away: its next tick word calls for rebase behaviour (R467). -/
def Dev.pathsFresh (d : Dev) (c : Consumer) : Dev :=
  (List.range 8).foldl (fun d g =>
    let x := d.path g c
    if x.idx.isNone then d else d.setPath g c { x with fresh := true }) d

/-- The block in progress completes: the jobs that run commit, and what still waits is missed (R218). -/
def Dev.anvFinish (d : Dev) : Nat → Dev
  | 0 => d
  | fuel + 1 =>
    match d.anv.block with
    | none => d
    | some b =>
      match (List.range 34).find? fun l => (b.onLane l).isSome with
      | some l => (d.jobCommit l .none).anvFinish fuel
      | none =>
        match b.jobs.find? JobRun.open_ with
        | some r => (d.deadlineMiss r.bank r.entry).anvFinish fuel
        | none => d.endBlock

/-- Anvil's clock stops or its domain leaves ON: the block in progress completes and no further one runs. -/
def Dev.anvLeave (d : Dev) : Dev :=
  let d := d.anvFinish (2 * ((d.anv.block.map fun b => b.jobs.length).getD 0) + 2)
  let d := d.setAnv d.anv.stop
  (if d.anv.block.isNone then d.putB fANV_STS_RUN false else d).pathsFresh .anv

/-- CCLK runs from FIO again: ACLK and the DDRC controller clock stop, the external memory goes out of service as when its
domain leaves ON, and the stream engine takes no ticks (R447, R467). -/
def Dev.toFio (d : Dev) : Dev :=
  let d := ((if d.domOn 3 then d.anvLeave else d).postedAll.ddrLeave.streamsStop).pathsFresh .core
  (d.putB fCLK_SWITCH_SEL false).putB fCLK_STS_SEL_ACT false

/-- A change of SEL runs: SWITCHING is 1 until it is complete (R447). -/
def Dev.switching (d : Dev) : Dev := { d with clk := { d.clk with switching := true } }

/-- SEL goes from 1 to 0. -/
def Dev.selOff (d : Dev) : Dev := if d.selAct then d.toFio.switching else d

/-- SEL goes from 0 to 1. -/
def Dev.selOn (d : Dev) : Dev :=
  if d.selAct then d else
  (((d.putB fCLK_SWITCH_SEL true).putB fCLK_STS_SEL_ACT true).ddrReturn).switching

/-- SYSPLL_UNLOCK: SYSPLL leaves lock for a cause other than a loss of REFCLK (R448). -/
def Dev.syspllUnlock (d : Dev) : Dev :=
  if d.on fCLK_STS_SYSPLL_LOCK then (d.putB fCLK_STS_SYSPLL_LOCK false).inc rCLK_SYSPLL_UNLOCK_CNT else d

/-- A write of SEL (R447): 1 is refused while SYSPLL is not locked, and SEL reads back 0 whatever the source in use. `unlock`
says that SYSPLL_LOCK falls in the same cycle (R448). -/
def Dev.clkSwitch (d : Dev) (sel unlock : Bool) : Dev :=
  let d := if unlock then d.syspllUnlock else d
  if !sel then d.selOff
  else if d.on fCLK_STS_SYSPLL_LOCK then d.selOn
  else (d.putB fCLK_SWITCH_SEL false).inc rCLK_SW_REFUSE_CNT

/-- SYSPLL_LOCK: SYSPLL locks while it is enabled and REFCLK is present (R447). The Dawn policy, while its program runs, makes
the clock switch then (R467, Table 20.6a). -/
def Dev.syspllLock (d : Dev) : Dev :=
  if d.domOn 1 && d.on fCLK_SRC_CFG_SYSPLL_EN && d.clk.refclk then
    let d := d.putB fCLK_STS_SYSPLL_LOCK true
    if d.pwr.policy && !d.refDown 3 then ({ d with pwr := { d.pwr with policy := false } }).clkSwitch true false else d
  else d

/-- A generator loses its reference (R120): in ACQ before its first lock it stops; in LOCK it runs free in HOLD, at the mean
frequency of its last 1 s in LOCK. For one that runs from REFCLK it is the loss of its source (R103). For another source the way
from LOCK to HOLD does not count in UNLOCK_CNT, and a generator in ACQ that has locked before stays there and goes on
(DESIGN CHOICE: R120 names ACQ before the first lock and a locked generator, Table 4.3 the loss of the source; log entry 196). -/
def Dev.mcgRefLoss (d : Dev) (n : Nat) : Dev :=
  if d.mcgState n = 0 ∨ !d.domOn 4 then d else
  let d := if (d.mcgOf n).kind = 0 then d.mcgLoss n else d
  let st := d.mcgState n
  if (d.mcgOf n).locked then (if st = 2 then (d.mcgHoldFreq n).put (fMCGn_STS_STATE n) 3 else d)
  else if st = 1 then d.genStop n
  else d

/-- CLK_REF_LOSS: REFCLK shows no edge for 1 µs (R448). -/
def Dev.clkRefLoss (d : Dev) : Dev :=
  if !d.clk.refclk then d else
  let d := { d with clk := { d.clk with refclk := false } }
  let d := (List.range 8).foldl Dev.mcgRefLoss d
  (if d.domOn 1 then d.inc rCLK_REF_LOSS_CNT else d).raise 0x0201 0

/-- REFCLK_RETURN: REFCLK shows edges again. A generator that went to HOLD for its loss alone, its source never lost, stays in
HOLD (DESIGN CHOICE: the spec does not say how it leaves; log entry 177). -/
def Dev.refclkReturn (d : Dev) : Dev := { d with clk := { d.clk with refclk := true } }

/-- An AON clock cycle in 2^-16 ns: 976.5625 ns exactly. -/
def aonCycle : Int := 64000000

/-- TPLL_LOCK: the time PLL locks and TCLK runs. After a Dawn of TIME from RET the time base advances by `cycles` AON
cycles, a step under R47 and R48 with the comparators' targets late (R67), and the domains resume (R94, R468). -/
def Dev.tpllLock (d : Dev) (cycles : Nat) : Dev :=
  if !(d.domOn 2 && d.clk.refclk) ∨ d.on fCLK_STS_TPLL_LOCK then d else
  let d := d.putB fCLK_STS_TPLL_LOCK true
  if !d.clk.timeDawn then d else
  let dd : Int := cycles * aonCycle
  let d := { d with clk := { d.clk with timeDawn := false } }
  (d.ptpDawn dd).stepDawn dd

/-! ## Domains (Tables 18.12, 19.1) -/

/-- The parent of domain `k`. -/
def domParent (k : Nat) : Nat := if k = 4 then 2 else if 3 ≤ k then 1 else 0

/-- The children of domain `k`. -/
def domChildren (k : Nat) : List Nat := (List.range 15).filter fun j => 0 < k && domParent j == k

/-- The sources that can bring CORE back are not all disabled (R458). -/
def Dev.coreWakable (d : Dev) : Bool := d.on fPWR_WAKE_EN_CMP || d.get fPWR_WAKE_EN_NET != 0 || d.on fPWR_WAKE_EN_T1S

/-- The idle condition of Table 19.1, as far as state shows it: that no access or signal has come is what the expiry of
the timer says. -/
def Dev.domIdle (d : Dev) (k : Nat) : Bool :=
  let off := (domChildren k).all fun j => !d.domOn j
  if k = 1 then off && !d.on fCUE_CFG_EN && !d.on fHALO_CFG_EN && !d.on fMIO_CFG_EN && (d.cEnabled true).isEmpty && (d.cEnabled false).isEmpty
    && d.hq.all (·.2.rest.isEmpty)
  else if k = 2 then
    off && (List.range 4).all (fun i => !d.ptpOn i) && d.time.tcmp.all (fun e => e.2.mode == 0)
      && (List.range 16).all (fun n => !d.on (fTIME_TCAPnn_CFG_EN n)) && !d.on fTIME_PPS_OUT_CFG_EN
  else if k = 3 then !d.on fANV_STS_RUN
  else if k = 4 then (List.range 8).all fun n => d.mcgState n == 0
  else if k ≤ 8 then (List.range 6).all fun i => !d.on (fSAPnn_CTL_EN (6 * (k - 5) + i))
  else if k ≤ 12 then !d.linkUp (k - 9) && (d.netOf (k - 9)).frames.isEmpty
  else if k = 13 then d.t1s.cueQ.isEmpty && d.t1s.mgmtQ.isEmpty && d.t1s.tx.isNone
  else k == 14 && d.ddr.posted.isEmpty

/-- A bias or assist code of a level byte as it acts (R471). -/
def Dev.levelByte (d : Dev) (k q : Nat) : Nat := (readByte d.tbl (0x38A100 + 4 * k + q)).toNat

/-- The levels of state `q` applied; domains without SRAM take no assist code. -/
def Dev.applyLevel (d : Dev) (k q : Nat) : Dev :=
  let b := if q = 2 then 0 else d.levelByte k q
  (d.put (fPWR_DOMk_LEVEL_BIAS k) (min 12 (b / 16))).put (fPWR_DOMk_LEVEL_ASSIST k) (if k = 1 ∨ k = 3 then min 10 (b % 16) else 0)

/-! ## Banks and cold restarts (R469, R470) -/

/-- Registers held in the AON island, in the start record, or as the always-on repair map's lane states (R223): no retention bank
holds them. -/
def aonReg (a : Nat) : Bool :=
  a / 0x10000 == 1 || a == rGLB_RESET_CAUSE || a == rGLB_WDOG_CFG || a == rGLB_WDOG_KICK || a == rGLB_WDOG_LEFT
    || a == rGLB_ID || a == rGLB_BOOT_LOG || a == rGLB_BOOT_STS || a == rINT_REPAIR_CFG || a == rINT_FATAL_LOG
    || a == rPIN_STRAP || a == rPIN_AVS
    || a == rANV_LANE_RET_L || a == rANV_LANE_RET_H || a == rANV_LANE_SPARE_L || a == rANV_LANE_SPARE_H

/-- Whether flop bank (`b`, `i`) holds the register at `a`: one bank for TIME with PTP, one for ANV with SCH, one for each
SAP and NET port; instance 24 of SAP and 4 of NET are the registers held in CORE. Bank (4, 0) is PTP alone, which restarts with its
part of the device tables. CLK_STS shows the PLLs and the source in use, and no bank holds it. -/
def inBank (b i a : Nat) : Bool :=
  if aonReg a then false else
  let c := blockOf a
  if a = rCLK_STS then false
  else if b = 3 then c == 3 || c == 4
  else if b = 8 then c == 8 || c == 9
  else if b = 10 then c == 10 && min 24 ((a - 0xC0000) / 0x400) == i
  else if b = 11 then c == 11 && (if a < 0xE8000 then (a - 0xE0000) / 0x1000 else 4) == i
  else c == b

/-- The registers that satisfy `p` at their reset values. -/
def Dev.resetRegsOf (d : Dev) (p : Nat → Bool) : Dev :=
  { d with regs := (resetRegs.filter fun e => p e.1).foldl (fun m e => kset 0 m e.1 e.2) (d.regs.filter fun e => !p e.1) }

/-- Every enabled stream context of a direction stopped without ceremony. -/
def Dev.ctxCold (d : Dev) (tx : Bool) : Dev := (d.cEnabled tx).foldl (fun d c => d.cSetState c 0) d

/-- What stands behind the registers of bank (`b`, `i`) at its reset value; claims it held are released. -/
def Dev.coldHidden (d : Dev) (b i : Nat) : Dev :=
  match b with
  | 0 => { d with mbx := {}, ign := [], ports := [] }
  | 3 => { d with time := {}, ptp := [] }
  | 4 => { (List.range 4).foldl (fun d i => if d.on (fPTP_PTDd_CTL_EN i) then d.ptpDisable i else d) d with ptp := [] }
  | 5 => { d with mcg := [] }
  | 6 => { d.ctxCold true with stx := [], stxOrder := [], stxNow := none, stxHeld := none }
  | 7 => { d.ctxCold false with srx := [], srxOrder := [], srxNow := none, srxHeld := none }
  | 8 => let d := (d.putB fANV_CTL_EN false).anvDisable
    { d with anv := { work := d.anv.work } }
  | 10 => if 24 ≤ i then d else ((((d.putB (fSAPnn_CTL_EN i) false).sapDisable i).sapOff i).setSap i {})
  | 11 => if 4 ≤ i then { d with mdio := none, snap := none, snapHeld := none } else
    let d := (d.putB (fNETn_MAC_CFG_EN i) false).netDisable i
    (if d.on (fNETn_GATE_CFG_EN i) then d.gateDisable i else d).setNet i {}
  | 12 => { d with mio := {} }
  | 13 => { d with t1s := {} }
  | 14 => let d := d.cueDisable
    { d with cue := {} }
  | 15 => { d with halo := {} }
  | 16 => { d with hq := [] }
  | 17 => { d with rql := [] }
  | 18 => { d.ddrLeave with ddr := { (d.ddrLeave).ddr with posted := [], tries := [], alerts := [] } }
  | 19 => { d with integ := { d.integ with track := [], moving := [] } }
  | _ => d

/-- A counter of the host queues, which a failed check leaves alone (R415). -/
def hqCounter (a : Nat) : Bool :=
  match regAt a with
  | some (r, _, _) => r.cnt != 0
  | none => false

/-- A block restarts cold and stays disabled: registers and hidden state at their reset values (R469, R470). Anvil keeps its
lane states (R223, Table 19.1), and the role strap goes on showing what PIN_STRAP holds (R450). -/
def Dev.coldBank (d : Dev) (b i : Nat) : Dev :=
  let d := (d.coldHidden b i).resetRegsOf fun a => inBank b i a && !(b == 16 && hqCounter a)
  if b = 8 then d.showLanes
  else if b = 15 then d.put fHALO_ROLE_CFG_STRAP (d.get fPIN_STRAP_HALO_ROLE)
  else d

/-- The flop banks of domain `k` (Table 19.1). -/
def domBanks (k : Nat) : List (Nat × Nat) :=
  if k = 1 then [(0, 0), (2, 0), (6, 0), (7, 0), (10, 24), (11, 4), (12, 0), (14, 0), (15, 0), (16, 0), (17, 0), (19, 0), (20, 0)]
  else if k = 2 then [(3, 0)]
  else if k = 3 then [(8, 0)]
  else if k = 4 then [(5, 0)]
  else if 5 ≤ k ∧ k ≤ 8 then (List.range 6).map fun i => (10, 6 * (k - 5) + i)
  else if 9 ≤ k ∧ k ≤ 12 then [(11, k - 9)]
  else if k = 13 then [(13, 0)]
  else if k = 14 then [(18, 0)]
  else []

/-- The blocks whose region of table memory lies in sub-bank `s` (Tables 1.6, 22.1); the curves belong to the blocks that read
them (Table 20.8; log entry 207). -/
def tblOwners (s : Nat) : List (Nat × Nat) :=
  let lo := 0x40000 * s
  let hi := lo + 0x40000
  let saps := (List.range 24).map fun i => (10, i)
  let nets := (List.range 4).map fun i => (11, i)
  let regions := [(0x0, 0x40000, [(6, 0), (7, 0)]), (0x40000, 0x140000, [(8, 0)]), (0x140000, 0x240000, [(12, 0)]),
    (0x240000, 0x288000, [(12, 0)]), (0x288000, 0x2C8000, [(14, 0)]), (0x2C8000, 0x2E8000, [(17, 0)]),
    (0x2E8000, 0x2EA000, nets), (0x2EA000, 0x30A000, (6, 0) :: (7, 0) :: (8, 0) :: (4, 0) :: saps), (0x30A000, 0x38A000, [(14, 0)]),
    (0x38A000, 0x400000, (4, 0) :: (5, 0) :: saps)]
  regions.flatMap fun (r : Nat × Nat × List (Nat × Nat)) => if decide (r.1 < hi) && decide (lo < r.2.1) then r.2.2 else []

/-- The SRAM sub-banks of domain `k`: array and number (Table 1.5). -/
def domSrams (k : Nat) : List (Nat × Nat) :=
  let bank := fun (a n : Nat) => (List.range n).map fun s => (a, s)
  if k = 1 then bank 0 24 ++ bank 1 24 ++ bank 3 16 ++ bank 4 1 else if k = 3 then bank 2 16 else []

/-- No word of sub-bank `s` of array `a` is poisoned any more: it has been rewritten. -/
def Dev.unpoison (d : Dev) (a s : Nat) : Dev :=
  let lo := 8388608 * a + 32768 * s
  let keep := fun (e : Nat × Bool) => decide (e.1 < lo) || decide (lo + 32768 ≤ e.1)
  { d with poison := d.poison.filter keep, integ := { d.integ with weak := d.integ.weak.filter keep, inj := d.integ.inj.filter keep } }

/-- Sub-bank `s` of array `a` wiped to zero with fresh ECC. The rings lie in sub-banks 0 to 15 of the stream buffers, 128
of the smallest to each (Table 1.5; log entry 63). -/
def Dev.wipeSram (d : Dev) (a s : Nat) : Dev :=
  let d := d.unpoison a s
  match a with
  | 0 => d
  | 1 => { d with rings := d.rings.filter fun e => decide (e.1 < 262144 * s) || decide (262144 * (s + 1) ≤ e.1) }
  | 2 => { d with store := clearBytes d.store (0x40000 * s) 0x40000 }
  | 3 => { d with tbl := clearBytes d.tbl (0x40000 * s) 0x40000 }
  | 4 => { d with hq := [] }
  | _ => d

/-- The functions that own a bank, by block and instance. The packet buffer is the ports' (log entry 207); the host queues go on
(R415). -/
def bankOwners : Bank → List (Nat × Nat)
  | .flop b i => [(b, i)]
  | .sram a s =>
    match a with
    | 0 => (List.range 4).map fun i => (11, i)
    | 1 => [(6, 0), (7, 0)]
    | 2 => [(8, 0)]
    | 3 => tblOwners s
    | _ => []

/-- A failed bank handled (R469, R470): its owner restarts cold, and the sub-bank is wiped. -/
def Dev.bankFails (d : Dev) (x : Bank) : Dev :=
  let d := (bankOwners x).foldl (fun d (o : Nat × Nat) => d.coldBank o.1 o.2) d
  match x with
  | .flop _ _ => d
  | .sram a s => d.wipeSram a s

/-- What the Dawn policy has to reapply after bank `x` has failed (R470): the words of a wiped sub-bank that the image writes, then
the registers of its owners. -/
def bankLost (x : Bank) : List Lost :=
  (match x with
    | .sram a s => if a = 2 ∨ a = 3 then [Lost.words a s] else []
    | .flop _ _ => []) ++ (bankOwners x).map fun o => .regs o.1 o.2

/-- The domain whose Dawn checks a bank. -/
def Bank.dom (k : Nat) : Bank → Bool
  | .flop b i => (domBanks k).contains (b, i)
  | .sram a s => (domSrams k).contains (a, s)

/-- Domain `k` loses its state: its blocks are cold and its arrays wiped (R453, R462). -/
def Dev.domLost (d : Dev) (k : Nat) : Dev :=
  let d := (domBanks k).foldl (fun d (o : Nat × Nat) => d.coldBank o.1 o.2) d
  let d := (domSrams k).foldl (fun d (o : Nat × Nat) => d.wipeSram o.1 o.2) d
  if k = 1 then { d with handed := [], pwr := { d.pwr with lost := [] } } else if k = 14 then { d with ddr := {} } else d

/-! ## Dusk (R454, R459, R460) -/

/-- The packets that producers write are stored whole (R402, R414). -/
def Dev.hqDone (d : Dev) : Dev := (d.hq.map (·.1)).foldl Dev.hqFinish d

/-- A host's request or a management transaction that CORE's Dusk does not wait for is abandoned (Table 19.2; log entry 208). -/
def Dev.coreAbandon (d : Dev) : Dev :=
  let d := { d with mdio := none, mio := { d.mio with req := none } }
  d.puts [(fNET_MDIO_STS_BUSY, 0), (fMIO_REQ_STS_BUSY, 0), (fMIO_REQ_CMD_OP, 0)]

/-- The stream blocks' commands in progress complete (R140). -/
def Dev.cmdsDone (d : Dev) : Dev := d.stxQueued.srxQueued

/-- What runs in CORE for a bounded time of its own completes: a snapshot, a stream command, a Halo command (log entry 6). -/
def Dev.coreDone (d : Dev) : Dev := d.snapDone.cmdsDone.put fHALO_CMD_OP 0

/-- The drain of Table 19.1: steps 1 and 2 of a Dusk, the domain's clocks still running. -/
def Dev.drain (d : Dev) (k : Nat) : Dev :=
  if k = 1 then d.coreDone.coreDone.coreAbandon.hqDone
  else if k = 3 then d.anvLeave
  else if k = 4 then (List.range 8).foldl Dev.genStop d
  else if 5 ≤ k ∧ k ≤ 8 then
    (List.range 6).foldl (fun d i =>
      let n := 6 * (k - 5) + i
      if !d.on (fSAPnn_CTL_EN n) then d else
      let d := d.setSap n { d.sapOf n with frames := [], seen := false, ending := false, ws := 0, carry := [] }
      let d := (d.putB (fSAPnn_STS_RUN n) false).pathsFresh (.sap (Fin.ofNat 24 n))
      if d.sapBypass n then d else (d.putB (fSAPnn_STS_ASRC_LOCK n) false).sapSilent n) d
  else if 9 ≤ k ∧ k ≤ 12 then
    let n := k - 9
    if d.on (fNETn_MAC_CFG_EN n) then (d.linkFall n true).putB (fNETn_STS_PCS_LOCK n) false else d
  else if k = 13 then
    let d := if d.t1s.onWire then (d.inc rT1S_TX_CANCEL_CNT).t1sGone else d
    d.t1sStop
  else if k = 14 then d.postedAll.ddrLeave
  else d

/-- The domain's clocks stop for good: the commit of its Dusk (R461, R467, R468). -/
def Dev.clocksFall (d : Dev) (k : Nat) : Dev :=
  if k = 1 then (if d.selAct then d.toFio else d).putB fCLK_STS_SYSPLL_LOCK false
  else if k = 2 then
    ({ d with time := { d.time with ppsOut := false }, clk := { d.clk with timeDawn := false } }).putB fCLK_STS_TPLL_LOCK false
  else d

/-- Domain `k`'s clocks run: it works on from its retained state (Table 19.1, R121, R467). -/
def Dev.resume (d : Dev) (k : Nat) : Dev :=
  if k = 4 then
    (List.range 8).foldl (fun d n =>
      if !d.on (fMCGn_CTL_EN n) then d else
      let x := d.mcgOf n
      let d := d.setMcg n { x with locked := true, ticking := true, rebase := true, relock := true, inWin := 0, outWin := 0, jump := false, jumpStep := false }
      ((d.put (fMCGn_STS_STATE n) 1).putB (fMCGn_STS_SLEWING n) false).putB (fMCGn_STS_SRC_OK n) (d.srcQualified x.kind x.index false)) d
  else if 9 ≤ k ∧ k ≤ 12 then
    let n := k - 9
    if d.on (fNETn_MAC_CFG_EN n) then
      let d := d.setNet n { creditAt := d.mono }
      (d.putB (fNETn_STS_LOCAL_FAULT n) true).mmRestart n
    else d
  else if k = 13 then
    if d.on fT1S_CFG_EN then (d.putB fT1S_STS_RUN true).putB fT1S_STS_LINK true else d
  else if k = 14 then d.ddrReturn
  else d

/-- The end of a Dusk of domain `k` to state `q` (Table 19.2, steps 3 to 7). -/
def Dev.duskEnd (d : Dev) (k q : Nat) : Dev :=
  let d := if d.domState k = 0 then d.clocksFall k else d
  let d := if q = 2 then d.domLost k else d
  (d.applyLevel k q).put (fPWR_DOMk_STS_STATE k) q

/-! ## Requests and wakes listed (R454, R472) -/

/-- The list of sequences replaced. -/
def Dev.setJobs (d : Dev) (l : List PwrJob) : Dev := { d with pwr := { d.pwr with jobs := l } }

/-- A Dusk of domain `k` is listed, and a Dawn of it. -/
def Dev.goingDown (d : Dev) (k : Nat) : Bool := d.pwr.jobs.any fun j => j.dom == k && j.dest != 0
def Dev.goingUp (d : Dev) (k : Nat) : Bool := d.pwr.jobs.any fun j => j.dom == k && j.dest == 0

/-- Nothing is left for a sequence to do: the domain is where it would take it, or lower for a Dusk. -/
def Dev.jobIdle (d : Dev) (j : PwrJob) : Bool :=
  if j.dest = 0 then d.domState j.dom == 0 else decide (j.dest ≤ d.domState j.dom)

/-- The relatives of a sequence's domain have moved first (R454): the parent is ON, or every child is as low as the domain is to
go. -/
def Dev.jobReady (d : Dev) (j : PwrJob) : Bool :=
  if j.dest = 0 then domParent j.dom == 0 || d.domOn (domParent j.dom)
  else (domChildren j.dom).all fun c => decide (j.dest ≤ d.domState c) && !d.domSeq c && !d.pwr.jobs.any fun i => i.dom == c

/-- Step 1 of a sequence: SEQ is 1, and a domain that leaves ON drains (Tables 19.2, 19.6). -/
def Dev.seqStart (d : Dev) (j : PwrJob) : Dev :=
  (if j.dest ≠ 0 ∧ d.domState j.dom = 0 then d.drain j.dom else d).putB (fPWR_DOMk_STS_SEQ j.dom) true

/-- The sequences that can start, in their order: one of a domain at a time, none whose relatives have still to move, and none that
has nothing left to do. -/
def Dev.seqBegin (d : Dev) : Dev :=
  d.pwr.jobs.foldl (fun d j =>
    let keep := fun (d : Dev) (j : PwrJob) => d.setJobs (d.pwr.jobs ++ [j])
    if j.started ∨ d.pwr.jobs.any (·.dom == j.dom) then keep d j
    else if d.jobIdle j then d
    else if d.jobReady j then keep (d.seqStart j) { j with started := true }
    else keep d j) (d.setJobs [])

/-- A Dusk of domain `k` to state `q` called for: its children's first (R454). The domains ON at a Dusk of CORE are recorded
(R467). -/
def Dev.dusk (d : Dev) (k q : Nat) : Dev :=
  let d := if k = 1 ∧ !d.goingDown 1 ∧ (d.domState 1 = 0 ∨ d.goingUp 1) then
      { d with pwr := { d.pwr with wasOn := (List.range 15).filter fun j => 1 < j && d.domState j == 0 } }
    else d
  (d.setJobs (d.pwr.jobs ++ (domChildren k ++ [k]).map fun c => { dom := c, dest := q })).seqBegin

/-- A Dusk abandoned (R460, R472). -/
def Dev.sleepAbort (d : Dev) (arg : Nat) : Dev := (d.inc rPWR_SLEEP_ABORT_CNT).raise 0x0103 arg

/-- A Dusk of domain `k` that has not come to its commit is abandoned: the domain goes on from where its drain has left it
(R460). Its children's Dusks go on (log entry 112). -/
def Dev.seqAbort (d : Dev) (k : Nat) : Dev :=
  if !d.goingDown k then d else
  let down := fun (j : PwrJob) => j.dom == k && j.dest != 0
  let ran := d.pwr.jobs.any fun j => down j && j.started
  let d := d.setJobs (d.pwr.jobs.filter fun j => !down j)
  let d := if ran then
      let d := d.putB (fPWR_DOMk_STS_SEQ k) false
      if d.domState k = 0 then d.resume k else d
    else d
  d.sleepAbort k

/-- PWR_WAKE_SRC takes the first wake after its last read (R463); a further wake of the same cycle joins it, and the lower source
code is shown (R472; log entry 209). -/
def Dev.wakeSrc (d : Dev) (src : Nat) (doms : List Nat) : Dev :=
  let bits := (doms.map fun k => 2 ^ k).sum
  if d.pwr.now && d.on fPWR_WAKE_SRC_VALID then
    d.puts [(fPWR_WAKE_SRC_SRC, min src (d.get fPWR_WAKE_SRC_SRC)), (fPWR_WAKE_SRC_DOMS, bits ||| d.get fPWR_WAKE_SRC_DOMS)]
  else
    let d := { d with pwr := { d.pwr with now := !d.on fPWR_WAKE_SRC_VALID } }
    d.capture fPWR_WAKE_SRC_VALID [(fPWR_WAKE_SRC_SRC, src), (fPWR_WAKE_SRC_DOMS, bits)]

/-- The domains of a list with their ancestors, ancestors first (R463). -/
def withParents (ks : List Nat) : List Nat :=
  let all := ks.filter fun k => decide (0 < k) && decide (k < 15)
  [1, 2].filter (fun p => all.contains p || all.any fun k => domParent k == p) ++ all.filter (2 < ·)

/-- A Dawn of each of these domains called for: `bad` are the banks whose checks fail. -/
def Dev.dawn (d : Dev) (ks : List Nat) (bad : List Bank) : Dev :=
  (d.setJobs (d.pwr.jobs ++ ks.map fun k => { dom := k, dest := 0, bad := bad })).seqBegin

/-- A wake of source `src` for the domains `ks` (R463, R454, R472): the Dusks of theirs and of their ancestors that have not come to
their commit are abandoned, and those that are not ON then dawn. A domain whose Dawn is listed already absorbs it. -/
def Dev.wake (d : Dev) (src : Nat) (ks : List Nat) (bad : List Bank) : Dev :=
  let l := withParents ks
  let down := l.filter d.goingDown
  let d := down.foldl Dev.seqAbort d
  let up := l.filter fun k => !d.domOn k && !d.goingUp k
  match l.filter fun k => down.contains k || up.contains k with
  | [] => d
  | all => (d.wakeSrc src all).dawn up bad

/-- Source `src` may wake domain `k` out of a Dusk, or a child of it (Tables 19.4, 19.8). -/
def Dev.wakes (d : Dev) (src k : Nat) : Bool :=
  let mine := fun (j : Nat) => k == j || domParent j == k
  if src = 0 then k == 1 && d.on fPWR_WAKE_EN_CMP
  else if src ≤ 4 then mine (8 + src) && d.on (bitFld rPWR_WAKE_EN src)
  else if src = 5 then mine 13 && d.on fPWR_WAKE_EN_T1S
  else if src = 6 then d.on fPWR_WAKE_EN_FRAME && (List.range 15).any fun j => mine j && d.get fPWR_WAKE_EN_FRAME_MASK / 2 ^ j % 2 == 1
  else true

/-- What source `src` wakes as it meets a Dusk of domain `k`: the domain, and the port whose signal it is. -/
def srcDoms (src k : Nat) : List Nat :=
  if 1 ≤ src ∧ src ≤ 4 then [k, 8 + src].eraseDups else if src = 5 then [k, 13].eraseDups else [k]

/-- Source 7 is a write of REQ = 0, which stands in PWR_DOMk_CTL then (Table 19.8). -/
def Dev.wakeReq (d : Dev) (src k : Nat) : Dev := if src = 7 then d.put (fPWR_DOMk_CTL_REQ k) 0 else d

/-- A transition of domain `k` to state `q` is to start, and meets a wake in the same cycle or before its commit (R458 to R460,
R472). -/
def Dev.startDusk (d : Dev) (k q : Nat) (w : Woken) : Dev :=
  if k = 1 ∧ d.domState 1 = 0 ∧ !d.coreWakable then d.sleepAbort 1 else
  match w with
  | .none => d.dusk k q
  | .same src =>
    if d.wakes src k then
      let ks := srcDoms src k
      (((d.wakeReq src k).wakeSrc src ks).sleepAbort k).dawn (ks.filter fun j => !d.domOn j && !d.goingUp j) []
    else d.dusk k q
  | .before none => (d.dusk k q).seqAbort k
  | .before (some src) => if d.wakes src k then ((d.dusk k q).wakeReq src k).wake src (srcDoms src k) [] else d.dusk k q

/-! ## Dawn (R463, R466 to R470) -/

/-- A failed bank reported. -/
def Dev.retFail (d : Dev) (k : Nat) : Dev :=
  let d := d.put fPWR_RET_STATUS_DOMS (d.get fPWR_RET_STATUS_DOMS ||| 2 ^ k)
  ((d.put fPWR_RET_STATUS_VALID 1).inc rPWR_RET_FAIL_CNT).raise 0x0102 k

/-- A word, keyed as `Dev.poison`, lies in an SRAM sub-bank of domain `k`. -/
def wordIn (k key : Nat) : Bool := (domSrams k).contains (key / 8388608, key % 8388608 / 32768)

/-- The sub-banks of domain `k` in which the scrub finds an uncorrectable error. -/
def Dev.scrubBad (d : Dev) (k : Nat) : List Bank :=
  ((domSrams k).filter fun b => ((d.poison ++ d.integ.dead ++ d.integ.inj).any fun e => e.2 && e.1 / 8388608 == b.1 && e.1 % 8388608 / 32768 == b.2)).map
    fun b => .sram b.1 b.2

/-- The corrected errors that the scrub finds in domain `k`: each word is corrected in place and counted (R469, R520). -/
def Dev.scrubWeak (d : Dev) (k : Nat) : Dev :=
  let words := ((d.integ.weak ++ d.integ.stuck).filter fun e => e.2 && wordIn k e.1).map (·.1)
  words.eraseDups.foldl (fun d e => let r := d.freeNat; r.2.corrected (e / 8388608) (e % 8388608) (r.1 % 256)) d

/-- The end of a Dawn of domain `k` (Table 19.6, steps 3 to 7): `bad` are the banks whose checks fail beside those the scrub
finds. A domain from OFF has no bank to check. -/
def Dev.dawnEnd (d : Dev) (k : Nat) (bad : List Bank) : Dev :=
  let st := d.domState k
  let d := (d.applyLevel k 0).put (fPWR_DOMk_STS_STATE k) 0
  let mine := if st = 1 then (bad.filter (Bank.dom k) ++ d.scrubBad k).eraseDups else []
  let d := mine.foldl (fun d b => (d.bankFails b).retFail k) d
  let d := if st = 1 then d.scrubWeak k else d
  let d := d.putB (fPWR_DOMk_STS_RET_FAIL k) !mine.isEmpty
  let d := if d.refDown 3 then d else { d with pwr := { d.pwr with lost := (d.pwr.lost ++ mine.flatMap bankLost).eraseDups } }
  let d := if k = 2 then { d with clk := { d.clk with timeDawn := st == 1 } } else d
  let d := if k = 1 then { d with boot := { d.boot with start := if st = 1 then 1 else 3 } } else d
  let d := (d.resume k).inc rPWR_WAKE_CNT
  let d := d.raise 0x0101 k
  if k = 1 then (List.range 8).foldl (fun d n => if d.on (fRQLn_STS_RUN n) then d.setRql n ((d.rqlOf n).pended 9 0) else d) d else d

/-- The Dawn policy program in RQL3 requests ON for the domains that were ON at the last Dusk of CORE, and waits for
SYSPLL_LOCK (R467; log entry 64). -/
def Dev.dawnPolicy (d : Dev) (bad : List Bank) : Dev :=
  if d.refDown 3 then d else
  let d := d.pwr.wasOn.foldl (fun d k => d.put (fPWR_DOMk_CTL_REQ k) 0) d
  ({ d with pwr := { d.pwr with policy := true } }).wake 7 d.pwr.wasOn bad

/-! ## The sequences in time (log entry 62) -/

/-- A sequence that runs ends. -/
def Dev.seqEnd (d : Dev) (j : PwrJob) : Dev :=
  let d := d.putB (fPWR_DOMk_STS_SEQ j.dom) false
  if j.dest ≠ 0 then d.duskEnd j.dom j.dest
  else
    let d := d.dawnEnd j.dom j.bad
    if j.dom = 1 then d.dawnPolicy j.bad else d

/-- Time passes: the sequences that run end, and those that waited for them start. -/
def Dev.seqStep (d : Dev) : Dev :=
  let run := d.pwr.jobs.filter (·.started)
  let d := d.setJobs (d.pwr.jobs.filter (!·.started))
  let d := (run.foldl Dev.seqEnd d).seqBegin
  { d with pwr := { d.pwr with now := false }, clk := { d.clk with switching := false } }

/-! ## Requests and wake sources (R426, R456, R457, R463, R465) -/

/-- What a write of PWR_DOMk_CTL starts, the register written already (R456, R472). REQ = 0 in a Dusk is a wake, and a request to
leave ON in a Dawn waits for its end. From OFF a request for RET is a Dawn and then a Dusk (log entry 65). -/
def Dev.pwrReq (d : Dev) (k : Nat) (w : Woken) (bad : List Bank) : Dev :=
  let q := match d.get (fPWR_DOMk_CTL_REQ k) with
    | 3 => 0
    | r => r
  let st := d.domState k
  let w := if w = .before none then .none else w
  if k = 0 ∨ 15 ≤ k then d
  else if q = 0 then (if d.domOn k && !d.goingDown k then d else d.wake 7 [k] bad)
  else if d.goingUp k then d.startDusk k q w
  else if q = st then d
  else if st = 2 then (d.wake 7 [k] bad).startDusk k 1 w
  else d.startDusk k q w

/-- The AON oscillator runs (R464). -/
def Dev.aonRuns (d : Dev) : Bool := d.domOn 1 || d.domState 2 != 2

/-- IDLE_TIMER_EXPIRY: the idle timer of domain `k` expires (R457). -/
def Dev.idleExpiry (d : Dev) (k : Nat) (w : Woken) : Dev :=
  if 0 < k && k < 15 && d.domOn k && !d.goingDown k && d.get (fPWR_DOMk_CTL_IDLE_US k) != 0 && d.domIdle k && d.aonRuns then
    d.startDusk k 1 w
  else d

/-- The 7-bit address on CMP is the device's: 0x58 + CMP_ASEL (R424). -/
def Dev.cmpMine (d : Dev) (x : BitVec 7) : Bool := x.toNat == 0x58 + d.get fPIN_STRAP_CMP_ASEL

/-- CMP_WAKE: an address byte on CMP while CORE is not ON. The device's own is answered NACK, and wakes CORE (R426, Table 19.4). -/
def Dev.cmpWake (d : Dev) (x : BitVec 7) (bad : List Bank) : Dev :=
  if d.domOn 1 || !d.cmpMine x then d else
  let d := d.setPort .cmp { d.port .cmp with resp := [], code := 8, ign := false }
  if d.on fPWR_WAKE_EN_CMP then d.wake 0 [1] bad else d

/-- A signal that source `src` sees at a port of domain `k`: in RET it wakes the domain; one that is present at the commit of its
Dusk to RET wakes it at once after (Tables 19.4, 19.8). -/
def Dev.energy (d : Dev) (src k : Nat) (bad : List Bank) : Dev :=
  if d.domState k = 1 ∧ !d.goingDown k then d.wake src [k] bad
  else if d.pwr.jobs.any (fun j => j.dom == k && j.dest == 1) && !d.goingUp k then (d.wakeSrc src [k]).dawn [k] bad
  else d

/-- LINK_ENERGY: energy on a NET port. -/
def Dev.linkEnergy (d : Dev) (n : Nat) (bad : List Bank) : Dev :=
  if d.on (bitFld rPWR_WAKE_EN (1 + n)) then d.energy (1 + n) (9 + n) bad else d

/-- T1S_LINK_ENERGY: a signal on the stage bus. -/
def Dev.t1sEnergy (d : Dev) (bad : List Bank) : Dev :=
  if d.on fPWR_WAKE_EN_T1S then d.energy 5 13 bad else d

/-- The group that wake frames are sent to (R465). -/
def wakeGroup : Nat := 0x0B594D000003

/-- WAKE_FRAME: a wake frame handed over is acted on (R465, Table 19.5). -/
def Dev.wakeFrame (d : Dev) (bad : List Bank) : Dev :=
  match d.take fun h => h.sink == .wake with
  | (none, d) => d
  | (some h, d) =>
    let o := etherOff h.bytes + 2
    let own := if h.port = 4 then d.t1sMac else d.macAddr h.port
    let f := beAt h.bytes (o + 4) 2 % 4096
    let ok := (dstOf h.bytes == wakeGroup || dstOf h.bytes == own) && d.on fPWR_WAKE_EN_FRAME
      && beAt h.bytes o 1 == 1 && beAt h.bytes (o + 1) 1 == 1 && (f == 0 || f == d.fnid)
    if !ok then d else
    let mask := beAt h.bytes (o + 2) 2 &&& d.get fPWR_WAKE_EN_FRAME_MASK
    d.wake 6 ((List.range 15).filter fun k => mask / 2 ^ k % 2 == 1) bad

end Sys2Proof.Machine
end

