-- ==== Sys2Proof/Machine/Rql.lean ====
section
/-! DEFINITION. Requel sequencers (R473 to R482): the program area, the enable with its checks, disable, injections,
timers and faults. A step, which reads and writes registers, is in `RqlStep.lean`. -/

namespace Sys2Proof.Machine

open Sys2Proof

/-! ## The program area (Tables 20.1, 20.2) -/

/-- Word `i` of sequencer `n`'s program is poisoned (Table 22.1). -/
def Dev.rqlHurt (d : Dev) (n i : Nat) : Bool := d.poisoned 3 (rqlWordAt n i / 8)

/-- NSTATES and INIT of the header. -/
def Dev.rqlStates (d : Dev) (n : Nat) : Nat := d.rqlWord n 0 / 2 ^ 40 % 512
def Dev.rqlInit (d : Dev) (n : Nat) : Nat := d.rqlWord n 0 / 2 ^ 32 % 256

/-- FIRST and COUNT of a state. -/
def Dev.rqlDir (d : Dev) (n s : Nat) : Nat × Nat :=
  let w := d.rqlWord n (16 + s)
  (w / 2 ^ 32 % 2048, w % 256)

/-- `k` words from word `p` lie in the pool (R474). -/
def inPool (p k : Nat) : Bool := k == 0 || (decide (272 ≤ p) && decide (p + k ≤ 2048))

/-- The event codes of Table 18.6c and the sequencer inputs of Table 20.6. -/
def inputCodes : List Nat :=
  [0x0001, 0x0101, 0x0102, 0x0103, 0x0201, 0x0301, 0x0401, 0x0402, 0x0501, 0x0701, 0x0801, 0x0901, 0x0B01, 0x0C01, 0x0E01,
   0x0E02, 0x0F01, 0x0F02, 0x0F03, 0x1001, 0x1101, 0x1201, 0x1202, 0x1301, 0x1302, 0x1303, 0x0480, 0x0481, 0x0482, 0x0C80,
   0x0C81, 0x0F80, 0x0F81]

/-! ## Faults (R481, Tables 20.5, 20.6a) -/

/-- The Halo program runs no more: HALO_ACT is driven low (Table 20.6a). -/
def Dev.haloProgramGone (d : Dev) (n : Nat) : Dev := if n = 2 ∧ d.on fHALO_CFG_EN then d.haloAct false else d

/-- Sequencer `n` stops by a fault. -/
def Dev.rqlFault (d : Dev) (n code index : Nat) : Dev :=
  let d := (d.putB (fRQLn_STS_RUN n) false).putB (fRQLn_STS_FAULT n) true
  let d := d.putB (bitFld rRQL_STS n) true
  let d := d.capture (fRQLn_FAULT_LOG_VALID n) [(fRQLn_FAULT_LOG_CODE n, code),
    (fRQLn_FAULT_LOG_STATE n, d.get (fRQLn_STS_STATE n)), (fRQLn_FAULT_LOG_INDEX n, index)]
  let d := (d.inc (rRQLn_FAULT_CNT n)).setRql n { d.rqlOf n with pend := 0, arg := [], timers := [] }
  (d.raise 0x1101 n).haloProgramGone n

/-! ## Enable, disable, injection (R482) -/

/-- What an enable finds wrong: code and index (codes 1 to 3 of Table 20.5), or 7 for a poisoned word (Table 22.1). -/
def Dev.rqlCheck (d : Dev) (n : Nat) : Option (Nat × Nat) :=
  let ns := d.rqlStates n
  if d.rqlHurt n 0 then some (7, 0)
  else if d.rqlWord n 0 / 2 ^ 56 ≠ 1 ∨ ns = 0 ∨ 256 < ns ∨ ns ≤ d.rqlInit n then some (1, 0) else
  match (List.range ns).find? fun s => d.rqlHurt n (16 + s) || !inPool (d.rqlDir n s).1 (2 * (d.rqlDir n s).2) with
  | some s => some (if d.rqlHurt n (16 + s) then 7 else 2, 16 + s)
  | none =>
    match (List.range 16).find? fun i =>
        d.rqlHurt n (1 + i / 4) || (d.rqlInput n i != 0 && !inputCodes.contains (d.rqlInput n i)) with
    | some i => some (if d.rqlHurt n (1 + i / 4) then 7 else 3, 1 + i / 4)
    | none => ((List.range 8).find? fun i => d.rqlHurt n (5 + i)).map fun i => (7, 5 + i)

/-- `k` words of sequencer `n`'s program from word `i` on are read. -/
def Dev.rqlReads (d : Dev) (n i k : Nat) : Dev := d.tblReads (rqlWordAt n i) k

/-- RQL_ENABLE: bit `n` of RQL_CTL goes to 1, set already. -/
def Dev.rqlEnable (d : Dev) (n : Nat) : Dev :=
  let found := d.rqlCheck n
  let d := d.rqlReads n 0 (16 + d.rqlStates n)
  match found with
  | some (code, i) => (d.putB (bitFld rRQL_CTL n) false).rqlFault n code i
  | none =>
    let vars := (List.range 16).foldl (fun m v =>
      kset 0 m v (BitVec.ofNat 32 (d.rqlWord n (5 + v / 2) / (if v % 2 = 0 then 2 ^ 32 else 1)))) []
    let d := (d.putB (bitFld rRQL_STS n) false).setReg (rRQLn_STS n) 0
    let d := (d.put (fRQLn_STS_STATE n) (d.rqlInit n)).putB (fRQLn_STS_RUN n) true
    d.setRql n (RqlSt.pended { vars := vars } 8 0)

/-- RQL_DISABLE: bit `n` of RQL_CTL goes to 0, cleared already: timers stop, nothing is pending; state and variables
stay. A reference program that is stopped gives its behaviour up (R484). -/
def Dev.rqlDisable (d : Dev) (n : Nat) : Dev :=
  ((d.putB (fRQLn_STS_RUN n) false).setRql n { d.rqlOf n with pend := 0, arg := [], timers := [] }).haloProgramGone n

/-- RQL_EVT_INJ: the bits written are raised once, while the sequencer is enabled (R475, R482). -/
def Dev.rqlInject (d : Dev) (n : Nat) (bits : Word) : Dev :=
  if d.on (bitFld rRQL_CTL n) && d.on (fRQLn_STS_RUN n) then
    let x := d.rqlOf n
    d.setRql n { x with pend := x.pend ||| bits }
  else d

/-- RQL_TIMER_EXPIRY: timer `t` of sequencer `n` has run its time (R480); timers freeze while CORE is not ON (R483). -/
def Dev.rqlTimer (d : Dev) (n t : Nat) : Dev :=
  let x := d.rqlOf n
  if d.domOn 1 && (kget {} x.timers t).running then
    d.setRql n ({ x with timers := kset {} x.timers t {} }.pended t 0)
  else d

end Sys2Proof.Machine
end

