-- ==== Sys2Proof/Machine/Flags.lean ====
section
/-! DEFINITION. The status registers that mirror other state: what a register reads as (R419, R432), the interrupt sources
of Table 18.6b, and the two interrupt balls (R433). -/

namespace Sys2Proof.Machine

open Sys2Proof

/-- A list of conditions as the bits of a word, the first in bit 0. -/
def bitsOf : List Bool → Nat
  | [] => 0
  | b :: t => b.toNat + 2 * bitsOf t

/-- A value of up to 32 bits as a register. -/
def w32 (v : Nat) : Word := BitVec.ofNat 32 v

/-! ## Statuses computed from other state -/

/-- GLB_STS (Table 17.7). -/
def Dev.glbSts (d : Dev) : Nat := bitsOf [!d.ign.isEmpty, d.on fGLB_BUSERR_LOG_VALID]

/-- PWR_STS (Table 18.11). -/
def Dev.pwrSts (d : Dev) : Nat := bitsOf [d.on fPWR_WAKE_SRC_VALID, d.on fPWR_RET_STATUS_VALID]

/-- CLK_STS.REF_LOSS (Table 18.10). -/
def Dev.refLoss (d : Dev) : Bool := !d.clk.refclk && d.on fCLK_SRC_CFG_SYSPLL_EN

/-- CLK_STS. -/
def Dev.clkSts (d : Dev) : Nat :=
  bitsOf [d.clk.refclk, d.on fCLK_STS_SYSPLL_LOCK, d.on fCLK_STS_TPLL_LOCK, d.selAct, d.clk.switching, d.refLoss]

/-- A comparator held by a host label has FIRED (Table 2.8). -/
def Dev.tcmpHost (d : Dev) : Bool :=
  (List.range 64).any fun n => d.on (fTIME_TCMPnn_STS_FIRED n) && decide (0xA0 ≤ d.get (fTIME_TCMPnn_OWNER_OWNER n))

/-- TIME_STS (Table 2.8). -/
def Dev.timeSts (d : Dev) : Nat :=
  bitsOf [d.on fTIME_STEP_SIZE_H_VALID, d.on fTIME_STS_SET_ERR, d.on fTIME_STS_PPS_IN_LOS, d.on fTIME_STS_CLK10M_LOS,
    d.on fTIME_STS_CLK10M_BAD, (List.range 16).any fun n => d.on (fTIME_TCAPnn_CFG_EN n) && !(d.tcapOf n).isEmpty,
    d.tcmpHost, d.on fTIME_TCMP_CONFLICT_VALID]

/-- SRX_STS (Table 7.8). -/
def Dev.srxSts (d : Dev) : Nat :=
  bitsOf [d.ddrOut && (d.mapBits (rSRX_ENMAPkk 0)).any d.srxDeep, d.on fSRX_GRP_SOLO_VALID, d.on fSRX_LOSS_EVT_VALID]

/-- MIO_PORT_STS (Table 13.9). -/
def Dev.mioPortSts (d : Dev) : Nat :=
  ((List.range 4).map fun n =>
    256 ^ n * ((d.mioPort n).peer.toNat + 2 * (d.blocked n).toNat + 4 * d.blockCause n)).sum

/-- HQ_NEMPTY and HQ_ABOVE (R411). -/
def Dev.hqNempty (d : Dev) : Nat := bitsOf ((List.range 32).map fun q => (d.hqOf q).pkts != 0)

/-- HQ_ABOVE. -/
def Dev.hqAbove (d : Dev) : Nat := bitsOf ((List.range 32).map fun q => (d.hqOf q).above)

/-- EN of flow-control pin `k` in HQ_FC_MAP_L or HQ_FC_MAP_H. -/
def fcEn (k : Nat) : Fld := ⟨(if k < 4 then rHQ_FC_MAP_L else rHQ_FC_MAP_H), 8 * (k % 4) + 7, 1⟩

/-- The level of FCk: with EN = 1 high while its queue is ABOVE, or low under INV; none where the device does not drive it (R413). In
RET it holds (Table 19.3). -/
def Dev.fcLevel (d : Dev) (k : Nat) : Option Bool :=
  let f := fcEn k
  if !d.on f || d.domState 1 == 2 || d.get fPIN_HOTSWAP_STS_STATE == 2 then none
  else some ((d.hqOf (d.get ⟨f.addr, f.lo - 7, 5⟩)).above != d.on ⟨f.addr, f.lo - 1, 1⟩)

/-- HQnn_LEVEL (Table 16.7). -/
def Dev.hqLevel (d : Dev) (q : Nat) : Nat :=
  let x := d.hqOf q
  x.above.toNat * 2 ^ 31 + x.flushPend.toNat * 2 ^ 30 + x.pkts * 2 ^ 16 + x.words.length

/-- The fewest free spare rows, and columns, of any sub-bank (R530). -/
def Dev.spareRows (d : Dev) : Nat := d.integ.map.foldl (fun n e => min n e.2.freeRows) 2

/-- The fewest free spare columns. -/
def Dev.spareCols (d : Dev) : Nat := d.integ.map.foldl (fun n e => min n e.2.cols) 2

/-- INT_STS (Table 18.19). -/
def Dev.intSts (d : Dev) : Nat :=
  bitsOf [d.on fINT_ECC_LOG_VALID, d.on fINT_RES_XING_LOG_VALID, d.on fINT_MIGRATE_LOG_VALID, d.spareRows == 0,
    d.on fINT_STS_REC_FAIL]

/-- The states of the key slots, slot `k` in bits [2k+1:2k] (Table 21.11). -/
def Dev.keySlots (d : Dev) : Nat := ((List.range 3).map fun k => 4 ^ k * (kget (0, 0) d.boot.keys k).1).sum

/-! ## Interrupts (R433, R445, Table 18.6b) -/

/-- Bits `m` of a register, any of them. -/
def Dev.anyOf (d : Dev) (a : Nat) (m : Word) : Bool := d.reg a &&& m != 0

/-- The sources of block `b` of Table 17.4. -/
def Dev.irqOf (d : Dev) (b : Nat) : Bool :=
  match b with
  | 0 => d.glbSts != 0
  | 1 => d.pwrSts != 0
  | 2 => d.refLoss
  | 3 => d.timeSts != 0
  | 4 => (List.range 4).any (fun i => d.on (fPTP_PTDd_STS_CFG_ERR i)) || d.on fPTP_GOV_STS_NONE
  | 5 => (List.range 8).any fun n => d.on (fMCGn_STS_CFG_ERR n)
  | 6 => d.get fSTX_OVERBOOK_PORTS != 0
  | 7 => d.srxSts != 0
  | 8 => d.on fANV_STS_DEGRADED || d.on fANV_REFUSE_VALID
  | 9 => d.on fSCH_MISS_LOG_VALID || d.on fSCH_STS_ALERT || d.on fSCH_STS_SENSOR_FAIL || d.on fSCH_STS_SHED_P3
      || d.on fSCH_STS_SHED_P2 || d.on fSCH_STS_OVER || d.on fSCH_STS_THERMAL_CRITICAL
  | 10 => (List.range 24).any fun n =>
      d.on (fSAPnn_STS_CFG_ERR n) || d.on (fSAPnn_STS_RATIO_ERR n) || d.on (fSAPnn_STS_CLK_LOSS n) || d.on (fSAPnn_STS_RESYNC n)
  | 11 => (List.range 4).any fun n =>
      d.on (fNETn_STS_CFG_ERR n) || d.on (fNETn_STS_HDX n) || d.on (fNETn_STS_RATE_ERR n) || d.on (fNETn_STS_LOCAL_FAULT n)
        || d.on (fNETn_STS_REMOTE_FAULT n) || d.on (fNETn_GATE_STS_CFG_ERR n)
  | 12 => d.on fMIO_STS_CFG_ERR || d.on fMIO_STS_FNID_CONFLICT || d.on fMIO_STS_SEG_OVER_A || d.on fMIO_STS_SEG_OVER_B
  | 13 => d.on fT1S_STS_CFG_ERR
  | 14 => d.on fCUE_STS_CFG_ERR
  | 15 => d.on fHALO_STS_CFG_ERR || d.on fHALO_STS_SPLIT || d.on fHALO_STS_ROLE_CLASH || d.on fHALO_STS_CFG_MISMATCH
  | 16 => d.on fHQ_QERR_VALID || d.hqNempty != 0 || d.hqAbove != 0
  | 17 => d.get fRQL_STS_FAULTS != 0
  | 18 => d.on fDDR_STS_OUT
  | 19 => d.intSts != 0
  | 20 => d.on fPIN_CONFLICT_VALID
  | _ => false

/-- GLB_IRQ_SRC: block code `b` in bit `b`. -/
def Dev.irqSrc (d : Dev) : Word := w32 (bitsOf ((List.range 21).map d.irqOf))

/-- The device drives its balls: not while CORE is not ON (Table 24.4), and not after a detach (R571). -/
def Dev.drives (d : Dev) : Bool := d.domOn 1 && d.get fPIN_HOTSWAP_STS_STATE != 2

/-- A source that `en` enables is active. -/
def Dev.irqAny (d : Dev) (en : Word) : Bool := (List.range 21).any fun b => en.getLsbD b && d.irqOf b

/-- IRQ_A_N is asserted (R433). -/
def Dev.irqPinA (d : Dev) : Bool := d.drives && d.irqAny (d.reg rGLB_IRQ_A_EN)

/-- IRQ_B_N is asserted. -/
def Dev.irqPinB (d : Dev) : Bool := d.drives && d.irqAny (d.reg rGLB_IRQ_B_EN)

/-! ## What a register reads as -/

/-- The parts of FT64 and of a 94-bit time, by register of TIME_NOW and TIME_TCAP: fraction, nanoseconds, seconds. -/
def Time94.part (t : Time94) (k : Nat) : Word :=
  match k with
  | 0 => w32 t.frac.toNat
  | 1 => w32 t.ns.toNat
  | 2 => w32 t.sec.toNat
  | _ => w32 (t.sec.toNat / 2 ^ 32)

/-- TIME registers that show live state. -/
def Dev.timeValue (d : Dev) (a : Nat) : Word :=
  if a = rTIME_STS then w32 d.timeSts
  else if rTIME_NOW_FRAC ≤ a ∧ a ≤ rTIME_NOW_SEC_H then d.time.now94.part ((a - rTIME_NOW_FRAC) / 4)
  else if a = rTIME_FT64_L then d.ft64.setWidth 32
  else if a = rTIME_FT64_H then (d.ft64 >>> 32).setWidth 32
  else if rTIME_TCAPnn_CFG 0 ≤ a ∧ 2 ≤ (a - rTIME_TCAPnn_CFG 0) % 32 / 4 ∧ (a - rTIME_TCAPnn_CFG 0) % 32 / 4 ≤ 5 then
    ((d.tcapOf ((a - rTIME_TCAPnn_CFG 0) / 32)).headD {}).part ((a - rTIME_TCAPnn_CFG 0) % 32 / 4 - 2)
  else d.reg a

/-- NET registers that show live state. -/
def Dev.netValue (d : Dev) (a : Nat) : Word :=
  let n := (a - 0x0E0000) / 0x1000
  if a = rNET_SNAP_CMD then fNET_SNAP_CMD_SNAP.put (d.reg a) d.snap.isSome.toNat
  else if a = rNETn_PAUSE_TX n then (fNETn_PAUSE_TX_SEND n).put (d.reg a) (d.netOf n).pauseTx.isSome.toNat
  else if a = rNETn_CBS5_CREDIT n then BitVec.ofInt 32 ((d.cbs n).creditBits n 5)
  else if a = rNETn_CBS6_CREDIT n then BitVec.ofInt 32 ((d.cbs n).creditBits n 6)
  else if a = rNETn_PAUSE_STS n then (fNETn_PAUSE_STS_REMAIN n).put (d.reg a) (d.pauseRemain n)
  else if a = rNETn_PAUSE_QUANTA_CNT n then BitVec.ofNat 32 (satAdd 32 (d.reg a).toNat (d.pauseSpent n))
  else d.reg a

/-- Step 8 of Table 21.2: the load in step 6 waits while the DRAM that its image has enabled trains. -/
def Dev.loadTrains (d : Dev) : Bool :=
  d.get fGLB_BOOT_STS_STEP == 6 && (d.ddr.phase == 1 || d.ddr.phase == 2)

/-- HALO_STS with what it derives from the unit's state (Table 15.8). -/
def Dev.haloSts (d : Dev) : Word :=
  let w := fHALO_STS_ROLE.put (d.reg rHALO_STS) d.haloSecondary.toNat
  let w := fHALO_STS_RECLAIM_PEND.put w d.halo.reclaim.isSome.toNat
  fHALO_STS_READY.put (fHALO_STS_FIT.put w d.haloFit.toNat) d.haloReady.toNat

/-- HQ registers that show live state. -/
def Dev.hqValue (d : Dev) (a : Nat) : Word :=
  if a = rHQ_NEMPTY then w32 d.hqNempty
  else if a = rHQ_ABOVE then w32 d.hqAbove
  else if a = rHQ_STS then w32 (d.get fHQ_QERR_VALID)
  else if a < 0x142000 ∧ a % 0x100 = 4 then
    (fHQnn_CMD_FLUSH ((a - 0x140000) / 0x100)).put (d.reg a) (d.hqOf ((a - 0x140000) / 0x100)).flushPend.toNat
  else if a < 0x142000 ∧ a % 0x100 = 8 then w32 (d.hqLevel ((a - 0x140000) / 0x100))
  else d.reg a

/-- OP of a stream command register: the command written last that has not completed (Table 5.9). -/
def cmdOp (now held : Option (Nat × Nat)) : Nat := (match held with
  | some h => h.1
  | none => match now with
    | some n => n.1
    | none => 0)

/-- What the register at `a` shows: the word stored, or what it mirrors (R432). -/
def Dev.regValue (d : Dev) (a : Nat) : Word :=
  match blockOf a with
  | 0 =>
    if a = rGLB_STS then w32 d.glbSts
    else if a = rGLB_IRQ_SRC then d.irqSrc
    else if a = rGLB_LC_CTL then
      fGLB_LC_CTL_GO.put (fGLB_LC_CTL_STATE.put (d.reg a) d.boot.lc) (d.get fGLB_LC_STS_WIPE_BUSY)
    else if a = rGLB_BOOT_STS then (if d.loadTrains then fGLB_BOOT_STS_STEP.put (d.reg a) 8 else d.reg a)
    else if a = rGLB_OTP_STS then fGLB_OTP_STS_SLOTS.put (d.reg a) d.keySlots
    else if a = rGLB_MBX_STS then fGLB_MBX_STS_STAGED.put (d.reg a) d.mbx.stage.length
    else d.reg a
  | 1 => if a = rPWR_STS then w32 d.pwrSts else d.reg a
  | 2 => if a = rCLK_STS then w32 d.clkSts else d.reg a
  | 3 => d.timeValue a
  | 5 =>
    let n := (a - 0x050100) / 0x100
    if a = rMCGn_STS n then
      (fMCGn_STS_SRC_OK n).put ((fMCGn_STS_REF_OK n).put (d.reg a) d.clk.refclk.toNat) (d.mcgSrcOk n).toNat
    else d.reg a
  | 6 => if a = rSTX_CMD then fSTX_CMD_OP.put (d.reg a) (cmdOp d.stxNow d.stxHeld) else d.reg a
  | 7 =>
    if a = rSRX_STS then w32 d.srxSts
    else if a = rSRX_CMD then fSRX_CMD_OP.put (d.reg a) (cmdOp d.srxNow d.srxHeld)
    else d.reg a
  | 8 => if a = rANV_STS then fANV_STS_REFUSED.put (d.reg a) (d.get fANV_REFUSE_VALID) else d.reg a
  | 9 => if a = rSCH_STS then fSCH_STS_MISS_PEND.put (d.reg a) (d.get fSCH_MISS_LOG_VALID) else d.reg a
  | 10 =>
    let n := (a - 0x0C0000) / 0x400
    if n < 24 ∧ a = rSAPnn_STS n then (fSAPnn_STS_BYPASS n).put (d.reg a) (d.sapBypass n).toNat else d.reg a
  | 11 => d.netValue a
  | 12 => if a = rMIO_PORT_STS then w32 d.mioPortSts else d.reg a
  | 14 => if a = rCUE_PIN_IN then w32 d.pinLevels else d.reg a
  | 15 =>
    if a = rHALO_STS then d.haloSts
    else if a = rHALO_RECLAIM_LEFT then w32 d.reclaimLeft
    else d.reg a
  | 16 => d.hqValue a
  | 19 =>
    if a = rINT_STS then w32 d.intSts
    else if a = rINT_SPARE_MIN then w32 (16 * d.spareRows + d.spareCols)
    else d.reg a
  | 20 =>
    if a = rPIN_STS then w32 (d.get fPIN_CONFLICT_VALID)
    else if a = rPIN_HOTSWAP_STS then fPIN_HOTSWAP_STS_ASSERTED.put (d.reg a) d.pin.hotswap.toNat
    else d.reg a
  | _ => d.reg a

/-! ## Designated pairs (R418) -/

/-- The registers that a read of the register at `a` latches for the port that reads (R45, R69, R109, R293; Tables 2.9,
3.4, 8.9, 12.4). -/
def latchedBy (a : Nat) : List Nat :=
  if a = rTIME_NOW_FRAC then [rTIME_NOW_NS, rTIME_NOW_SEC_L, rTIME_NOW_SEC_H]
  else if a = rTIME_FT64_L then [rTIME_FT64_H]
  else if a = rTIME_STEP_SIZE_L then [rTIME_STEP_SIZE_H]
  else if rTIME_TCAPnn_FRAC 0 ≤ a ∧ a ≤ rTIME_TCAPnn_FRAC 15 ∧ (a - rTIME_TCAPnn_FRAC 0) % 32 = 0 then [a + 4, a + 8, a + 12]
  else if 0x040100 ≤ a ∧ a < 0x040500 then
    (if a % 0x100 = 0x30 ∨ a % 0x100 = 0x38 ∨ a % 0x100 = 0x40 then [a + 4] else [])
  else if 0x050100 ≤ a ∧ a < 0x050900 then (if a % 0x100 = 0x20 then [a + 4] else [])
  else if a = rANV_SCENE_TGT_L then [rANV_SCENE_TGT_H]
  else if a = rNET_SNAP_FT64_L then [rNET_SNAP_FT64_H]
  else if 0x0E0000 ≤ a ∧ a < 0x0E4000 then
    (let o := a % 0x1000
     if o % 8 = 0 ∧ ((0x200 ≤ o ∧ o < 0x288) ∨ (0x300 ≤ o ∧ o < 0x388)) then [a + 4]
     else if o = 0x428 then [a + 4] else [])
  else []

/-- The register at `a` is one that a read of another register latches. -/
def isUpper (a : Nat) : Bool := (latchedBy (a - 4)).contains a || (latchedBy (a - 8)).contains a || (latchedBy (a - 12)).contains a

/-- The register at `a` is a part of the visible capture of a FIFO that is empty (R69). -/
def Dev.noCapture (d : Dev) (a : Nat) : Bool :=
  decide (rTIME_TCAPnn_CFG 0 ≤ a) && decide (a < rTIME_TCAPnn_CFG 16) && (d.tcapOf ((a - rTIME_TCAPnn_CFG 0) / 32)).isEmpty

/-- What a port reads at `a`: for an upper register the value latched for the port, 0 until it has latched one (R45, R418,
log entry 67) and while a capture FIFO is empty (R69). -/
def Dev.portValue (d : Dev) (p : Port) (a : Nat) : Word :=
  if isUpper a then (if d.noCapture a then 0 else (d.latched p a).getD 0) else (d.latched p a).getD (d.regValue a)

end Sys2Proof.Machine
end

