-- ==== Sys2Proof/Machine/Integ.lean ====
section
/-! DEFINITION. Error protection and repair (R520 to R538): what a read that finds an error does, the response to a poisoned
word (Table 22.1), the patrol scrub, the row tracker, live migration, the NVM repair record, fatal errors and error
injection. -/

namespace Sys2Proof.Machine

open Sys2Proof

/-! ## The response to a poisoned word (Table 22.1) -/

/-- A frame in the switch packet buffer meets the poison: which one stands in the cell is a free value. A frame on the
wire is aborted, one that waits is discarded. -/
def Dev.poisonCell (d : Dev) : Dev :=
  let r := d.freeNat
  let d := r.2
  let all := (List.range 4).flatMap fun n =>
    ((d.netOf n).wire.toList.map fun w => (n, 8, w.frame.id)) ++
      (d.netOf n).q.flatMap fun e => e.2.map fun f => (n, e.1, f.id)
  match all[r.1 % (all.length + 1)]? with
  | some (n, c, id) =>
    let x := d.netOf n
    if c = 8 then (d.setNet n { x with wire := none }).inc (rNETn_TX_ABORT_CNT n)
    else (d.setNet n (x.setQueue c ((x.queue c).filter fun f => f.id != id))).inc (rNETn_TX_FLUSH_CNT n)
  | none => d

/-- A word of a receive ring: the written span that holds it counts as unwritten. -/
def Dev.poisonRing (d : Dev) (word : Nat) : Dev :=
  let ring := word / 256
  let slot := word % 256 * d.ringOn / 256
  (d.mapBits (rSRX_ENMAPkk 0)).foldl (fun d c =>
    let ctx := rxCtx c
    if d.cBase ctx ≤ ring ∧ ring < d.cBase ctx + d.cCh ctx then
      let x := d.srxOf c
      let hit := fun p => (List.range (d.cSpan ctx)).any fun k => (p + k) % d.ringOn == slot
      d.setSrx c { x with spans := x.spans.filter fun p => !hit p, fresh := x.fresh.filter fun p => !hit p }
    else d) d

/-- A word of transmit assembly or de-duplication state: which context it serves is a free value. -/
def Dev.poisonAssembly (d : Dev) : Dev :=
  let r := d.freeNat
  let d := r.2
  let tx := (d.mapBits (rSTX_ENMAPkk 0)).map fun c => (true, c)
  let rx := (d.mapBits (rSRX_ENMAPkk 0)).map fun c => (false, c)
  match (tx ++ rx)[r.1 % (tx.length + rx.length + 1)]? with
  | some (true, c) => if d.stxBegun c (d.coreIdx (d.ctxMcg c)) = 0 then d else (d.ccount c 27 31 0 1).stxAdvance c
  | some (false, c) => d.setSrx c (d.srxOf c).winReset
  | none => d

/-- A word of the working tables: which owner it belongs to is a free value (R573). -/
def Dev.poisonWorking (d : Dev) : Dev :=
  let r := d.freeNat
  let d := r.2
  let k := r.1 % 38
  if k < 24 then (if d.on (fSAPnn_CTL_EN k) then (d.putB (fSAPnn_CTL_EN k) false).sapDisable k else d)
  else if k < 32 then (if d.on (fMCGn_CTL_EN (k - 24)) then (d.putB (fMCGn_CTL_EN (k - 24)) false).genDisable (k - 24) else d)
  else if k < 36 then (if d.on (fPTP_PTDd_CTL_EN (k - 32)) then d.ptpDisable (k - 32) else d)
  else if k = 36 then { d with mio := { d.mio with recs := d.mio.recs.tail } }
  else d

/-- A word of table memory. Forwarding, route, cue, template, curve, job and program entries are looked at where they are
used. -/
def Dev.poisonTable (d : Dev) (word : Nat) : Dev :=
  let off := 8 * word
  if off < 0x20000 then (if d.stxOn (off / 256) then d.stxStop (off / 256) else d)
  else if off < 0x40000 then (if d.srxOn (off / 256 - 512) then d.srxStop (off / 256 - 512) else d)
  else if 0x2E8000 ≤ off ∧ off < 0x2EA000 then
    let n := (off - 0x2E8000) / 0x800
    if d.on (fNETn_GATE_CFG_EN n) && decide ((off - 0x2E8000) % 0x800 / 8 < d.gateLen n) then
      (d.putB (fNETn_GATE_CFG_EN n) false).gateDisable n
    else d
  else if 0x38A140 ≤ off then d.poisonWorking
  else d

/-- A word of a host queue: it is delivered torn, and its packet counts as torn. -/
def Dev.poisonQueue (d : Dev) (word : Nat) : Dev :=
  let q := word / 1024
  let x := d.hqOf q
  let i := (word % 1024 + 1024 - x.rp) % 1024
  match x.words[i]? with
  | some w =>
    let d := d.setHq q { x with words := x.words.set i { w with torn := true } }
    if w.torn then d else d.inc (rHQnn_TORN_CNT q)
  | none => d

/-- A word of the always-on retained store outside the repair map: its use is a free value. -/
def Dev.poisonAon (d : Dev) : Dev :=
  let r := d.freeNat
  let d := r.2
  match r.1 % 4 with
  | 0 => d.put fGLB_BOOT_STS_FAIL_CNT 0
  | 1 => { d with boot := { d.boot with digest := none, warm := [] } }
  | 2 => d.coldBank 17 0
  | _ => d

/-- The response to a word that becomes poisoned. -/
def Dev.poisonHits (d : Dev) (array word : Nat) : Dev :=
  match array with
  | 0 => d.poisonCell
  | 1 => if word < 16 * 32768 then d.poisonRing word else d.poisonAssembly
  | 3 => d.poisonTable word
  | 4 => d.poisonQueue word
  | 5 => d.poisonAon
  | _ => d

/-- A read finds an uncorrectable error (R520, R521): one that no read has found before takes its response at once. -/
def Dev.uncorrectable (d : Dev) (array word syn : Nat) : Dev :=
  let was := kget false d.poison (8388608 * array + word)
  let d := d.ueCount array word syn
  (if was then d else d.poisonHits array word).ueMark array word

/-- A read of a word of an array: `err` is a new error that it meets, uncorrectable or not, with its syndrome. A word known
to be poisoned, or to hold a corrected error, shows it, with a syndrome that is a free value. -/
def Dev.eccRead (d : Dev) (array word : Nat) (err : Option (Bool × BitVec 8)) : Dev :=
  let r := d.freeNat
  let syn := match err with | some e => e.2.toNat | none => r.1 % 256
  if d.poisoned array word ∨ err.any (·.1) then r.2.uncorrectable array word syn
  else if kget false d.integ.weak (8388608 * array + word) ∨ kget false d.integ.stuck (8388608 * array + word) ∨ err.isSome then r.2.corrected array word syn
  else d

/-! ## Patrol scrub (R522, R523) -/

/-- Sub-banks of an array, and words of each of its sub-banks (Table 1.5). -/
def arrayBanks (array : Nat) : Nat × Nat :=
  match array with
  | 0 => (24, 32768) | 1 => (24, 32768) | 2 => (16, 32768) | 3 => (16, 32768) | 4 => (1, 32768) | 5 => (1, 16384)
  | _ => (0, 1)

/-- The sub-banks that a pass must complete: those of CORE and of the always-on store. -/
def scrubBanks : List Nat :=
  [0, 1, 3, 4, 5].flatMap fun a => (List.range (arrayBanks a).1).map fun s => 32 * a + s

/-- SCRUB_READ: the scrubber of a sub-bank reads its next word; in the Anvil store the scrub of R523 reads `word`. -/
def Dev.scrubRead (d : Dev) (array sub word : Nat) (err : Option (Bool × BitVec 8)) : Dev :=
  let b := arrayBanks array
  if b.1 ≤ sub then d
  else if array = 2 then (if d.anvRuns then d.eccRead 2 (32768 * sub + word % 32768) err else d)
  else if !(if array = 5 then d.aonRuns else d.domOn 1) then d
  else
    let k := 32 * array + sub
    let at_ := kget 0 d.integ.pos k
    let d := { d with integ := { d.integ with pos := kset 0 d.integ.pos k ((at_ + 1) % b.2) } }
    let d := if at_ + 1 = b.2 then
        let p := kset false d.integ.passed k true
        if scrubBanks.all fun i => kget false p i then ({ d with integ := { d.integ with passed := [] } }).inc rINT_SCRUB_PASS_CNT
        else { d with integ := { d.integ with passed := p } }
      else d
    d.eccRead array (32768 * sub + at_) err

/-- TRACKER_ENTRY_EXPIRY: WIN_MIN minutes have passed since the first error of a row's entry (R528). -/
def Dev.trackExpiry (d : Dev) (array sub row : Nat) : Dev := d.untrack array sub row

/-! ## Live migration (R529) -/

/-- A spare row taken for `row`, the lowest that is free; a spare row that is itself migrated is not used again. -/
def SubBank.take (x : SubBank) (row : Nat) : SubBank :=
  let holds := fun (s : SpareRow) => match s with | .used r _ => r == row | _ => false
  let x : SubBank := { x with row0 := if holds x.row0 then .bad else x.row0, row1 := if holds x.row1 then .bad else x.row1 }
  if x.row0 = .free then { x with row0 := .used row true }
  else if x.row1 = .free then { x with row1 := .used row true }
  else x

/-- The words of a row, copied to good cells: what was wrong with the old cells is left behind, and a word that could not be read is
copied as poisoned. -/
def Dev.rowCopied (d : Dev) (array sub row : Nat) : Dev :=
  let lo := 8388608 * array + 32768 * sub + 32 * row
  let here := fun (k : Nat) => decide (lo ≤ k) && decide (k < lo + 32)
  let lost := (d.integ.dead.filter fun e => e.2 && here e.1).map (·.1)
  { d with
    poison := lost.foldl (fun m k => kset false m k true) d.poison
    integ := { d.integ with stuck := d.integ.stuck.filter (!here ·.1), dead := d.integ.dead.filter (!here ·.1) } }

/-- ROW_MIGRATED: a migration in progress completes; each of its 32 words has been read with correction. -/
def Dev.rowMigrated (d : Dev) (array sub row : Nat) : Dev :=
  if !d.integ.moving.contains (array, sub, row) then d else
  let d := (d.eccReads array (32768 * sub + 32 * row) 32).rowCopied array sub row
  let d := { d with integ := { d.integ with moving := d.integ.moving.erase (array, sub, row) } }
  let d := d.setSubBank array sub ((d.subBank array sub).take row)
  let d := (d.inc rINT_MIGRATE_CNT).capture fINT_MIGRATE_LOG_VALID
    [(fINT_MIGRATE_LOG_ARRAY, array), (fINT_MIGRATE_LOG_SUBBANK, sub), (fINT_MIGRATE_LOG_ROW, row)]
  let d := d.raise 0x1303 (32 * array + sub)
  if d.on fINT_REPAIR_CFG_WB_EN then { d with wbPend := true } else d

/-! ## The NVM repair record (R531 to R533, Table 22.2) -/

/-- Bytes of a flash region, 0xFF beyond what it holds. -/
def flashBytes (l : List Byte) (off n : Nat) : List Byte :=
  let b := (l.drop off).take n
  b ++ List.replicate (n - b.length) 0xFF

/-- The entries of the record that the repair state gives: rows migrated live, then lanes retired (log entry 68). -/
def Dev.recEntries (d : Dev) : List (List Byte) :=
  let row := fun (k : Nat) (s : SpareRow) => match s with
    | .used r true => [[1, BitVec.ofNat 8 (k / 32), BitVec.ofNat 8 (k % 32), 0] ++ beBytes 2 r ++ [0, 0]]
    | _ => []
  (d.integ.map.flatMap (fun e => row e.1 e.2.row0 ++ row e.1 e.2.row1) ++
    d.lanesRec.map fun l => [2, 0, 0, 0, 0, BitVec.ofNat 8 l, 0, 0]).take 512

/-- A copy of the record. -/
def recordCopy (seq : Nat) (es : List (List Byte)) : List Byte :=
  let head := beBytes 4 0x4B524550 ++ [1, 0, 0, 0] ++ beBytes 4 seq ++ beBytes 2 es.length ++ List.replicate 14 0
  head ++ beBytes 4 (crc32 (head ++ es.flatten)) ++ es.flatten

/-- A copy is valid (R531). -/
def recordOk (l : List Byte) : Bool :=
  let b := fun o n => flashBytes l o n
  let count := beNat (b 12 2)
  beNat (b 0 4) == 0x4B524550 && b 4 1 == [1] && decide (count ≤ 512)
    && beNat (b 28 4) == crc32 (b 0 28 ++ b 32 (8 * count))

/-- A start or a life-cycle change runs (R496, R512, R518, R533). -/
def Dev.starting (d : Dev) : Bool :=
  d.boot.changing || d.boot.start != 0 || (match d.boot.loader with | .idle => false | .halted => false | _ => true)

/-- REPAIR_WRITEBACK: a write-back that is pending starts, 10 s after its first change, unless it is held (R533). -/
def Dev.repairWriteback (d : Dev) : Dev :=
  if d.wbPend && !d.integ.wbBusy && !d.starting && !d.on fGLB_NVM_CTL_RELEASE && d.domOn 1 then
    { d with wbPend := false, integ := { d.integ with wbBusy := true } }
  else d

/-- REPAIR_WRITEBACK_DONE: the write-back in progress ends; `ok` says that the NVM finished each operation in 2 s and the
read-back agrees. -/
def Dev.repairWritebackDone (d : Dev) (ok : Bool) : Dev :=
  if !d.integ.wbBusy then d else
  let d := { d with integ := { d.integ with wbBusy := false } }
  if d.on fGLB_NVM_CTL_RELEASE then { d with wbPend := true }
  else if ok && d.nvm.responds then
    let seq := (d.integ.recSeq + 1) % 2 ^ 32
    let copy := 1 - d.integ.recCopy
    let c := recordCopy seq d.recEntries
    let d := { d with nvm := if copy = 0 then { d.nvm with rec0 := c } else { d.nvm with rec1 := c },
                      integ := { d.integ with recCopy := copy, recSeq := seq } }
    d.putB fINT_STS_REC_FAIL false
  else (({ d with wbPend := true }).inc rINT_REC_FAIL_CNT).putB fINT_STS_REC_FAIL true

/-! ## Fatal errors and injection (R536, R537) -/

/-- The watchdog's count loaded with a timeout. -/
def Dev.wdogCount (d : Dev) (ms : Nat) : Dev := { d with clk := { d.clk with wdog := 1024 * max 1 (ms % 65536) } }

/-- The loader writes GLB_WDOG_CFG: EN = 1 with a timeout, which a watchdog that runs already takes from the next kick (R444, R508,
R509, R571). -/
def Dev.wdogArm (d : Dev) (ms : Nat) : Dev :=
  let ran := d.on fGLB_WDOG_CFG_EN
  let d := (d.putB fGLB_WDOG_CFG_EN true).put fGLB_WDOG_CFG_TIMEOUT_MS ms
  if ran then d else d.wdogCount ms

/-- FATAL_ERROR: the repair map holds an uncorrectable error. The reset follows within 1.1 ms, so the count is loaded whether or not
the watchdog ran before (R536; log entry 141). -/
def Dev.fatalError (d : Dev) : Dev :=
  (({ d with boot := { d.boot with fatal := true, loader := .halted } }).wdogArm 1).wdogCount 1

/-- FATAL_LOG_CLR: a write of 1 to CLR. -/
def Dev.fatalClr (d : Dev) : Dev := d.setReg rINT_FATAL_LOG 0

/-- INJ_ARM: INT_INJ_CMD written with its OP; its fields are stored already. Another OP starts nothing. -/
def Dev.injArm (d : Dev) (op : Nat) : Dev :=
  if op = 1 ∧ d.boot.lc ≤ 1 ∧ d.get fINT_INJ_CMD_ARRAY ≤ 4 then (d.put fINT_INJ_CMD_OP 1).putB fINT_INJ_CMD_ARMED true
  else d

end Sys2Proof.Machine
end

