-- ==== Sys2Proof/Machine/Boot.lean ====
section
/-! DEFINITION. The commands of the start and the life cycle (R496, R508, R511 to R518): the disables of a RESTART, CONFIRM,
RESTART, CLEAR_FAIL, the release of the NVM, the life-cycle change and the key slots. What a start then does stands in
`Machine/Loader.lean`. -/

namespace Sys2Proof.Machine

open Sys2Proof

/-! ## The disables of a RESTART (R496) -/

/-- A block disabled as a write of 0 to its enable would, where the enable is 1 and can be reached. -/
def Dev.offWhere (d : Dev) (en : Fld) (act : Dev → Dev) : Dev :=
  if d.on en && d.reaches en.addr then act d else d

/-- Every enabled stream context of both directions disabled. -/
def Dev.streamsOff (d : Dev) : Dev :=
  let d := d.stxOrder.foldl (fun d c => d.stxStop c) d
  d.srxOrder.foldl (fun d c => d.srxStop c) d

/-- The blocks disabled in the order of R496. -/
def Dev.quiesce (d : Dev) : Dev :=
  let d := d.offWhere fHALO_CFG_EN Dev.haloDisable
  let d := d.offWhere fCUE_CFG_EN Dev.cueDisable
  let d := d.streamsOff
  let d := d.offWhere fANV_CTL_EN fun d => (d.putB fANV_CTL_EN false).anvDisable
  let d := d.offWhere fMIO_CFG_EN fun d => (d.putB fMIO_CFG_EN false).mioDisable
  let d := (List.range 24).foldl (fun d n => d.offWhere (fSAPnn_CTL_EN n) fun d => (d.putB (fSAPnn_CTL_EN n) false).sapDisable n) d
  let d := (List.range 4).foldl (fun d n =>
    d.offWhere (fNETn_MAC_CFG_EN n) fun d => (d.putB (fNETn_MAC_CFG_EN n) false).netDisable n) d
  let d := d.offWhere fT1S_CFG_EN fun d => (d.putB fT1S_CFG_EN false).t1sStop
  let d := (List.range 8).foldl (fun d n => d.offWhere (fMCGn_CTL_EN n) fun d => (d.putB (fMCGn_CTL_EN n) false).genDisable n) d
  let d := (List.range 4).foldl (fun d i => d.offWhere (fPTP_PTDd_CTL_EN i) fun d => d.ptpDisable i) d
  [4, 5, 6, 7].foldl (fun d n => d.offWhere (bitFld rRQL_CTL n) fun d => (d.putB (bitFld rRQL_CTL n) false).rqlDisable n) d

/-! ## GLB_BOOT_CMD -/

/-- CMD_RESULT of GLB_BOOT_STS: 1 done, 2 refused, 3 no-op. -/
def Dev.bootResult (d : Dev) (r : Nat) : Dev := d.put fGLB_BOOT_STS_CMD_RESULT r

/-- A start is confirmed (R508): FAIL_CNT clears, and the start record and the retained digest show it. -/
def Dev.confirmed (d : Dev) : Dev :=
  let d := (d.putB fGLB_BOOT_STS_CONFIRMED true).put fGLB_BOOT_STS_FAIL_CNT 0
  { d with boot := { d.boot with lastOk := true, digestOk := true } }

/-- BOOT_CONFIRM: a CONFIRM when CONFIRMED is already 1 is a no-op. -/
def Dev.bootConfirm (d : Dev) : Dev :=
  if d.on fGLB_BOOT_STS_CONFIRMED then d.bootResult 3 else d.confirmed.bootResult 1

/-- BOOT_RESTART: the blocks are disabled in order, and a warm start follows (R496). -/
def Dev.bootRestart (d : Dev) : Dev :=
  let stopped := match d.boot.loader with | .halted => true | _ => false
  if d.on fGLB_BOOT_STS_SAFE || d.on fGLB_NVM_CTL_RELEASE || d.starting || stopped then d.bootResult 2 else
  let d := ((d.bootResult 1).quiesce.put fGLB_BOOT_STS_START_KIND 2).putB fGLB_RESET_CAUSE_WARM true
  { d with boot := { d.boot with start := 2 } }

/-- BOOT_CLEAR_FAIL: FAIL_CNT clears, in safe mode only (R511). -/
def Dev.bootClearFail (d : Dev) : Dev :=
  if d.on fGLB_BOOT_STS_SAFE then (d.put fGLB_BOOT_STS_FAIL_CNT 0).bootResult 1 else d.bootResult 2

/-- A write of GLB_BOOT_CMD with its OP; other values start nothing. -/
def Dev.bootCmd (d : Dev) (op : Nat) : Dev :=
  match op with
  | 1 => d.bootConfirm
  | 2 => d.bootRestart
  | 3 => d.bootClearFail
  | _ => d

/-! ## Life cycle (R513 to R517) -/

/-- Slot `k` holds a valid key. -/
def Dev.keyValid (d : Dev) (k : Nat) : Bool := (kget (0, 0) d.boot.keys k).1 == 1

/-- Every on-chip SRAM sub-bank wiped to zero with fresh ECC; what the wipe leaves of the always-on store is said by the
caller. -/
def Dev.wipeChip (d : Dev) : Dev :=
  { d with
    tbl := [], store := [], rings := [], poison := []
    hq := d.hq.map fun e => (e.1, { e.2 with words := e.2.words.map fun w => { w with data := 0 } })
    integ := { d.integ with weak := [], inj := [], cells := [], track := [], moving := [] } }

/-- Steps of a life-cycle change up to `reached`, 1 to 5 (Table 21.10). -/
def Dev.lcChange (d : Dev) (target reached : Nat) : Dev :=
  let d := (d.putB fGLB_LC_STS_WIPE_BUSY true).quiesce
  let d := { d with boot := { d.boot with changing := true, loader := .halted, start := 0 } }
  if reached < 2 then d else
  let d := { d with boot := { d.boot with lc := target }, wipeDone := false }
  if reached < 3 then d else
  let d := ((d.wipeChip.put fGLB_BOOT_STS_FAIL_CNT 0).setReg rGLB_BOOT_LOG 0).setReg rINT_FATAL_LOG 0
  let d := { d with
    boot := { d.boot with digest := none, digestOk := false, warm := [], lastSlot := 0, lastOk := false, fatal := false }
    integ := { d.integ with map := [] }, lanesRec := [], rql := [] }
  if reached < 4 then d else
  let skip := !d.ddrIn
  let d := if skip then d.putB fGLB_LC_STS_DRAM_SKIP true else (List.range 4).foldl (fun d r => d.wipeRegion r) d
  if reached < 5 then d else
  let d := if skip then d else { d with wipeDone := true }
  (d.put fGLB_LC_STS_RESULT 1).putB fGLB_LC_STS_WIPE_BUSY false

/-- LC_GO: a change to TARGET is requested (R514); `reached` is the last step of Table 21.10 that is made before the next
reset (R516). -/
def Dev.lcGo (d : Dev) (reached : Nat) : Dev :=
  let target := d.get fGLB_LC_CTL_TARGET
  let refuse := fun code => (d.put fGLB_LC_STS_RESULT 2).put fGLB_LC_STS_CODE code
  if d.boot.changing then d
  else if target ≤ d.boot.lc then refuse 1
  else if target == 2 && !((List.range 3).any d.keyValid) then refuse 2
  else (d.put fGLB_LC_STS_CODE 0).lcChange target reached

/-! ## Key slots (R518) -/

/-- GLB_OTP_STS after a command: 1 done, 2 refused with a code. -/
def Dev.otpResult (d : Dev) (r code : Nat) : Dev := (d.put fGLB_OTP_STS_RESULT r).put fGLB_OTP_STS_CODE code

/-- The hash staged in GLB_OTP_DATA0 to 7, byte 0 most significant. -/
def Dev.otpHash (d : Dev) : Nat :=
  (List.range 8).foldl (fun n k => n * 2 ^ 32 + (d.reg (rGLB_OTP_DATAk k)).toNat) 0

/-- PROG_KEY (1) or REVOKE (2) of the slot stored in SLOT; other values of OP start nothing. -/
def Dev.otpCmd (d : Dev) (op : Nat) : Dev :=
  let k := d.get fGLB_OTP_CMD_SLOT
  let st := (kget (0, 0) d.boot.keys k).1
  let set := fun v => { d with boot := { d.boot with keys := kset (0, 0) d.boot.keys k v } }
  if op ≠ 1 ∧ op ≠ 2 then d
  else if d.starting then d.otpResult 2 5
  else if k = 3 then d.otpResult 2 3
  else if op = 1 then
    if st ≠ 0 then d.otpResult 2 1
    else if 2 ≤ d.boot.lc then d.otpResult 2 2
    else (set (1, d.otpHash)).otpResult 1 0
  else
    if st ≠ 1 then d.otpResult 2 1
    else if d.boot.lc = 2 ∧ ((List.range 3).filter d.keyValid).length = 1 then d.otpResult 2 4
    else (set (2, (kget (0, 0) d.boot.keys k).2)).otpResult 1 0

/-- NVM_CTL.RELEASE as stored says whether the device drives the NVM balls (R512); a flash that a board programmer wrote in
between answers with its new content. -/
def Dev.nvmTaken (d : Dev) (content : Option Nvm) : Dev :=
  match content with
  | some n => if d.on fGLB_NVM_CTL_RELEASE then { d with nvm := n } else d
  | none => d

end Sys2Proof.Machine
end

