-- ==== Sys2Proof/Machine/MioReq.lean ====
section
/-! DEFINITION. Fabric management frames and the host's own requests (R343, R346, R350, Table 13.7): building a frame, routing
it one hop on, and the requester's command, retransmission and timeout. -/

namespace Sys2Proof.Machine

open Sys2Proof

/-! ## MGMT frames -/

/-- A port number that stands for the device itself in what is handed to the fabric program. -/
def selfPort : Fin 6 := 5

/-- An MGMT body (Table 13.7). -/
def mgmtBody (session tag op status count index addr : Nat) (data : List Byte) : List Byte :=
  beBytes 1 session ++ beBytes 2 tag ++ beBytes 1 op ++ beBytes 1 status ++ beBytes 1 count ++ beBytes 1 index
    ++ beBytes 3 addr ++ data

/-- A body with bit 7 of OP set is a response. -/
def isResponse (body : List Byte) : Bool := beAt body 3 1 / 128 == 1

/-- The header of an MGMT frame but for its addresses. -/
structure MgmtHead where
  hops : Nat
  flags : Nat
  origin : Nat
  mac : Nat
  dest : Nat
  seq : Nat
  deriving DecidableEq, Repr

/-- The bytes of an MGMT frame. -/
def mgmtFrame (src dst : Nat) (h : MgmtHead) (body : List Byte) : List Byte :=
  beBytes 6 dst ++ beBytes 6 src ++ beBytes 2 0x88B5 ++ [0x14, BitVec.ofNat 8 h.hops]
    ++ beBytes 2 (h.flags % 16 * 4096 + h.origin % 4096) ++ beBytes 6 h.mac ++ beBytes 2 h.dest ++ beBytes 2 h.seq ++ body

/-- DEST is this node: its own FNID, or its pair's while it is the active unit (R343). -/
def Dev.mgmtMine (d : Dev) (dest : Nat) : Bool :=
  dest != 0 && (dest == d.fnid || (dest == d.pairFnid && d.halo.act))

/-- DEST lies in T1S_MGMT_RANGE (R350). -/
def Dev.mgmtBus (d : Dev) (dest : Nat) : Bool :=
  let lo := d.get fT1S_MGMT_RANGE_LO
  lo != 0 && decide (lo ≤ dest) && decide (dest ≤ d.get fT1S_MGMT_RANGE_HI)

/-- A frame handed straight to this node's own fabric program. -/
def Dev.mgmtSelf (d : Dev) (h : MgmtHead) (body : List Byte) : Dev :=
  d.hand { sink := if isResponse body then .response else .mgmt, port := selfPort,
           bytes := mgmtFrame (d.macAddr 0) (d.macAddr 0) h body }

/-- A frame on the stage bus. -/
def Dev.mgmtOnBus (d : Dev) (h : MgmtHead) (body : List Byte) : Dev :=
  d.t1sOffer false { bytes := mgmtFrame d.t1sMac mioGroup h body }

/-- A frame on NET port `p` to a station. -/
def Dev.mgmtOnPort (d : Dev) (p dst : Nat) (h : MgmtHead) (body : List Byte) : Dev :=
  (d.originate p 7 { bytes := mgmtFrame (d.macAddr p) dst h body }).2

/-- A frame sent toward DEST: to this node, on the stage bus, or by the route entry; false when there is no valid route. -/
def Dev.mgmtToward (d : Dev) (h : MgmtHead) (body : List Byte) : Bool × Dev :=
  if d.mgmtMine h.dest then (true, d.mgmtSelf h body)
  else if d.mgmtBus h.dest then (true, d.mgmtOnBus h body)
  else
    let r := d.route h.dest
    let d := d.tblReads (routeBase + 8 * h.dest) 1
    if r.valid then (true, d.mgmtOnPort r.port r.mac h body) else (false, d)

/-- A new MGMT frame of this node, with the next sequence number. -/
def Dev.mgmtHead (d : Dev) (dest : Nat) : MgmtHead × Dev :=
  ({ hops := 255, flags := 0, origin := d.fnid, mac := d.macAddr 0, dest := dest, seq := d.mio.seqMgmt },
   { d with mio := { d.mio with seqMgmt := (d.mio.seqMgmt + 1) % 65536 } })

/-- A READ to every node goes out on each chain port that carries it (R343), and, where the range of T1S_MGMT_RANGE takes 4095
in, on the stage bus too (R350). -/
def Dev.mgmtFlood (d : Dev) (ports : List Nat) (bus : Bool) (h : MgmtHead) (body : List Byte) : Dev :=
  let d := if bus then d.mgmtOnBus h body else d
  ports.foldl (fun d p => if d.role p == 2 && !d.blocked p then d.mgmtOnPort p mioGroup h body else d) d

/-! ## The host's requests (R346) -/

/-- The tag that is outstanding: the one the request in progress was sent with. -/
def Dev.reqTag (d : Dev) : Option Nat := d.mio.req.map fun r => beAt r.2 1 2

/-- A request answered: RESULT 1 response, 2 timeout; OP clears. -/
def Dev.reqDone (d : Dev) (result status index : Nat) : Dev :=
  let d := d.puts [(fMIO_REQ_STS_BUSY, 0), (fMIO_REQ_STS_RESULT, result), (fMIO_REQ_STS_STATUS, status),
    (fMIO_REQ_STS_INDEX, index), (fMIO_REQ_CMD_OP, 0)]
  { d with mio := { d.mio with req := none } }

/-- The request in progress sent, or sent again. With no way to DEST it is answered with STATUS 5 (R343). -/
def Dev.reqSend (d : Dev) : Dev :=
  match d.mio.req with
  | none => d
  | some (dest, body) =>
    if !d.mioOn then d else
    let (h, d) := d.mgmtHead dest
    if dest = 4095 then d.mgmtFlood [0, 1, 2, 3] (d.mgmtBus 4095) h body
    else
      let (sent, d') := d.mgmtToward h body
      if sent then d' else (d'.inc rMIO_NOROUTE_CNT).reqDone 1 5 0

/-- The words of MIO_REQkk_DATA as bytes, most significant first. -/
def Dev.reqData (d : Dev) (n : Nat) : List Byte :=
  ((List.range 60).flatMap fun k => beBytes 4 (d.reg (rMIO_REQkk_DATA k)).toNat).take n

/-- MIO_REQ_CMD written with OP 1 READ, 2 WRITE, 3 INBOX; its fields are stored already. -/
def Dev.reqStart (d : Dev) (op : Nat) : Dev :=
  let count := d.get fMIO_REQ_CMD_COUNT
  let data := if op = 2 then d.reqData (4 * count) else if op = 3 then d.reqData count else []
  let body := mgmtBody 0 (d.get fMIO_REQ_CMD_TAG) op 0 count 0 (d.get fMIO_REQ_ADDR_ADDR) data
  let d := { d with mio := { d.mio with req := some (d.get fMIO_REQ_DEST_FNID, body) } }
  (d.puts [(fMIO_REQ_CMD_OP, op), (fMIO_REQ_STS_BUSY, 1), (fMIO_REQ_STS_RESULT, 0)]).reqSend

/-- MIO_REQ_RETX: RETX_MS passes without a response. -/
def Dev.reqRetx (d : Dev) : Dev :=
  if d.on fMIO_REQ_STS_BUSY then (d.inc rMIO_REQ_RETX_CNT).reqSend else d

/-- MIO_REQ_TIMEOUT: TIMEOUT_MS is reached: the retransmission is cancelled (R38). -/
def Dev.reqTimeout (d : Dev) : Dev :=
  if d.on fMIO_REQ_STS_BUSY then (d.reqDone 2 0 0).inc rMIO_REQ_TIMEOUT_CNT else d

/-- A response with the tag that the request in progress was sent with completes it; any other is discarded as late (R39). -/
def Dev.reqResponse (d : Dev) (body : List Byte) : Dev :=
  let tag := beAt body 1 2
  let count := beAt body 5 1
  if d.on fMIO_REQ_STS_BUSY && beAt body 0 1 == 0 && d.reqTag == some tag then
    let data := (body.drop 10).take (if beAt body 3 1 = 0x81 then 4 * count else 0)
    let d := (List.range (min 60 (data.length / 4))).foldl (fun d k =>
      d.setReg (rMIO_RSPkk_DATA k) (BitVec.ofNat 32 (beAt data (4 * k) 4))) d
    d.reqDone 1 (beAt body 4 1) (beAt body 6 1)
  else d.inc rMIO_LATE_RSP_CNT

end Sys2Proof.Machine
end

