-- ==== Sys2Proof/Machine/Effect.lean ====
section
/-! DEFINITION. What a register write or read does beside storing or returning a value: the ignore record (R429), the
effect of each register that has one, and what a read clears, pops or latches. The access itself stands in
`Machine/Access.lean`. -/

namespace Sys2Proof.Machine

open Sys2Proof

/-! ## The ignore record (R429) -/

/-- A write of port `p` recorded: block and instance of its owner. -/
def Dev.record (d : Dev) (p : Port) (a block inst : Nat) : Dev :=
  let d := (d.setPort p { d.port p with ign := true }).inc rGLB_IGN_CNT
  if d.ign.length < 4 then { d with ign := d.ign ++ [{ port := portCode p, addr := a, block := block, inst := inst }] }
  else d.inc rGLB_IGN_OVF_CNT

/-- A read of GLB_IGN_REC_L: the oldest entry is popped, and its second half latched for the port. -/
def Dev.ignPop (d : Dev) (p : Port) : Nat × Dev :=
  match d.ign with
  | [] => (0, d.latch p rGLB_IGN_REC_H 0)
  | e :: t => (2 ^ 31 + e.port * 2 ^ 28 + e.addr, ({ d with ign := t }).latch p rGLB_IGN_REC_H (w32 (e.block * 2 ^ 16 + e.inst)))

/-! ## GLB -/

/-- Staged halves discarded at a page change, with their count (R24); the sequencers address table memory directly. -/
def Dev.pageChange (d : Dev) : Dev :=
  [Port.spi, .cmp, .inband, .loader, .cue].foldl (fun d p =>
    if (d.port p).stage.isSome then (d.setPort p { d.port p with stage := none }).inc rGLB_STAGE_DROP_CNT else d) d

/-- A write of GLB_MBX_DATA (R437). -/
def Dev.mbxData (d : Dev) (v : Word) : Dev :=
  if 256 ≤ d.mbx.stage.length then d.inc rGLB_MBX_OVF_CNT
  else { d with mbx := { d.mbx with stage := d.mbx.stage ++ beBytes 4 v.toNat } }

/-- The outcome of a mailbox command: RESULT 1 done, 2 refused, 3 full. -/
def Dev.mbxResult (d : Dev) (result : Nat) : Dev :=
  d.puts [(fGLB_MBX_STS_RESULT, result), (fGLB_MBX_STS_TAG, d.get fGLB_MBX_CMD_TAG)]

/-- The outcome of a POST: REPLAY says whether it was answered from a kept tag. -/
def Dev.mbxPosted (d : Dev) (result : Nat) (replay : Bool) : Dev := (d.mbxResult result).putB fGLB_MBX_STS_REPLAY replay

/-- POST: LEN and TAG are stored (R437). -/
def Dev.mbxPost (d : Dev) : Dev :=
  let len := d.get fGLB_MBX_CMD_LEN
  let tag := d.get fGLB_MBX_CMD_TAG
  let q := d.get fHQ_ROUTE_MBX_Q
  if d.mbx.tags.contains tag then d.mbxPosted 1 true
  else if len = 0 ∨ d.mbx.stage.length < len then d.mbxPosted 2 false
  else if !d.hqAccepts q 2 || decide (1024 < (d.hqOf q).words.length + (d.hqOf q).rest.length + (len + 7) / 8) then
    (d.inc (rHQnn_REJECT_CNT q)).mbxPosted 3 false
  else
    let d := d.hqPush q 2 (d.mbx.stage.take len)
    ({ d with mbx := { stage := [], tags := (tag :: d.mbx.tags).take 16 } }).mbxPosted 1 false

/-- A write of GLB_MBX_CMD with its OP. -/
def Dev.mbxCmd (d : Dev) (op : Nat) : Dev :=
  match op with
  | 1 => d.mbxPost
  | 2 => ({ d with mbx := { d.mbx with stage := [] } }).mbxResult 1
  | _ => d

/-- The watchdog's count loaded from TIMEOUT_MS (R444). -/
def Dev.wdogLoad (d : Dev) : Dev :=
  { d with clk := { d.clk with wdog := 1024 * max 1 (d.get fGLB_WDOG_CFG_TIMEOUT_MS) } }

/-- A write of GLB_WDOG_KICK. -/
def Dev.wdogKick (d : Dev) (v : Word) : Dev :=
  if v.toNat % 65536 = 0xA5C3 then (if d.on fGLB_WDOG_CFG_EN then d.wdogLoad else d) else d.inc rGLB_WDOG_BADKEY_CNT

/-- GLB_WDOG_LEFT: how much of the count has run is a free value while the watchdog runs (log entry 5). -/
def Dev.wdogLeft (d : Dev) : Nat × Dev :=
  if d.on fGLB_WDOG_CFG_EN then (let r := d.freeNat; (r.1 % (d.clk.wdog / 1024 + 1), r.2)) else (0, d)

/-! ## Fields whose change is an edge -/

/-- The change that a write made to a field: none, to 1, or to 0. -/
def Dev.turns (d : Dev) (f : Fld) (old : Word) : Option Bool :=
  if f.get old == d.get f then none else some (d.on f)

/-- `on` at a rise of a field, `off` at a fall. -/
def Dev.atEdge (d : Dev) (f : Fld) (old : Word) (on off : Dev → Dev) : Dev :=
  match d.turns f old with
  | none => d
  | some true => on d
  | some false => off d

/-- The same for an enable that its block sets itself: the field keeps its old value until then. -/
def Dev.atEdgeOld (d : Dev) (f : Fld) (old : Word) (on off : Dev → Dev) : Dev :=
  match d.turns f old with
  | none => d
  | some true => on (d.put f (f.get old))
  | some false => off (d.put f (f.get old))

/-- The value of a command field in the command bits of a write. -/
def cmdOf (f : Fld) (cmd : Word) : Nat := f.get cmd

/-! ## Effects by block -/

/-- GLB, PWR and CLK. `v` is the word written, `cmd` its command bits that are taken. -/
def Dev.fxGlb (d : Dev) (m : Meets) (a : Nat) (old v cmd : Word) : Dev :=
  if a = rGLB_WIN_PAGE then (if d.reg a == old then d else d.pageChange)
  else if a = rGLB_LC_CTL then (if cmdOf fGLB_LC_CTL_GO cmd = 1 then d.lcGo m.reached else d)
  else if a = rGLB_MBX_DATA then (d.setReg a 0).mbxData v
  else if a = rGLB_MBX_CMD then d.mbxCmd (cmdOf fGLB_MBX_CMD_OP cmd)
  else if a = rGLB_WDOG_CFG then
    (if fGLB_WDOG_CFG_EN.get old = 1 then d.putB fGLB_WDOG_CFG_EN true
     else if d.on fGLB_WDOG_CFG_EN then d.wdogLoad else d)
  else if a = rGLB_WDOG_KICK then (d.setReg a 0).wdogKick v
  else if a = rGLB_BOOT_CMD then d.bootCmd (cmdOf fGLB_BOOT_CMD_OP cmd)
  else if a = rGLB_OTP_CMD then d.otpCmd (cmdOf fGLB_OTP_CMD_OP cmd)
  else d

/-- The domain of a PWR_DOMk_CTL. -/
def Dev.fxPwr (d : Dev) (m : Meets) (a i : Nat) : Dev :=
  if a = rPWR_DOMk_CTL i then d.pwrReq i m.woken m.bad else d

/-- CLK. -/
def Dev.fxClk (d : Dev) (m : Meets) (a : Nat) (old : Word) : Dev :=
  if a = rCLK_SRC_CFG then
    d.atEdge fCLK_SRC_CFG_SYSPLL_EN old id fun d => if d.on fCLK_STS_SYSPLL_LOCK then d.syspllUnlock else d
  else if a = rCLK_SWITCH then d.clkSwitch (d.on fCLK_SWITCH_SEL) m.unlock
  else d

/-- TIME. -/
def Dev.fxTime (d : Dev) (a i : Nat) (old cmd : Word) : Dev :=
  if a = rTIME_CTL then
    let en := d.turns fTIME_CTL_SERVO_EN old
    let d := (d.put fTIME_CTL_SERVO_EN (fTIME_CTL_SERVO_EN.get old)).timeCtl (cmdOf fTIME_CTL_SET cmd == 1) (cmdOf fTIME_CTL_STEP cmd == 1)
    (match en with
     | some b => d.servoEn b
     | none => d)
  else if a = rTIME_PPS_OUT_CFG then d.atEdgeOld fTIME_PPS_OUT_CFG_EN old Dev.ppsEnable Dev.ppsDisable
  else if a = rTIME_TCMPnn_CTL i then
    d.tcmpCtl i (cmdOf (fTIME_TCMPnn_CTL_ARM i) cmd == 1) (cmdOf (fTIME_TCMPnn_CTL_DISARM i) cmd == 1)
  else if a = rTIME_TCAPnn_CFG i then
    let d := if cmdOf (fTIME_TCAPnn_CFG_POP i) cmd = 1 then d.tcapPop i else d
    if d.on (fTIME_TCAPnn_CFG_EN i) then d else d.tcapEmpty i
  else d

/-- PTP. -/
def Dev.fxPtp (d : Dev) (a i : Nat) (old cmd : Word) : Dev :=
  if a = rPTP_GOV_CTL then d.govEval
  else if a = rPTP_GM_CTL then
    let was := if fPTP_GM_CTL_GM_EN.get old = 1 then some (fPTP_GM_CTL_DOM.get old) else none
    let d := if cmdOf fPTP_GM_CTL_TOD_LOAD cmd = 1 then d.putB fPTP_GM_CTL_TOD_LOAD true else d
    d.gmWritten was
  else if a = rPTP_PTDd_CTL i then
    if d.on (fPTP_PTDd_CTL_EN i) then
      (if (fPTP_PTDd_CTL_EN i).get old = 1 then d else (d.putB (fPTP_PTDd_CTL_EN i) false).ptpEnable i)
    else (d.put (fPTP_PTDd_CTL_EN i) ((fPTP_PTDd_CTL_EN i).get old)).ptpDisable i
  else d

/-- MCG, STX and SRX. A new source takes effect on the next tick; a generator that issues none takes it at once (R105, log
entry 69). -/
def Dev.fxMedia (d : Dev) (a i : Nat) (old cmd : Word) : Dev :=
  if a = rMCGn_CTL i then d.atEdge (fMCGn_CTL_EN i) old (·.mcgEnable i) (·.genDisable i)
  else if a = rMCGn_SRC i then (if d.on (fMCGn_CTL_EN i) && !(d.mcgOf i).ticking then d.mcgApplySource i else d)
  else if a = rSTX_CMD then d.stxCmd (cmdOf fSTX_CMD_OP cmd) (d.get fSTX_CMD_CTX)
  else if a = rSRX_CMD then d.srxCmd (cmdOf fSRX_CMD_OP cmd) (d.get fSRX_CMD_CTX)
  else d

/-- ANV and SAP. -/
def Dev.fxAudio (d : Dev) (a i : Nat) (old cmd : Word) : Dev :=
  if a = rANV_CTL then d.atEdge fANV_CTL_EN old Dev.anvEnable Dev.anvDisable
  else if a = rANV_SCENE_CMD then d.sceneCmd (cmdOf fANV_SCENE_CMD_OP cmd)
  else if blockOf a ≠ 10 then d
  else if a = rSAPnn_CTL i then d.atEdge (fSAPnn_CTL_EN i) old (·.sapEnable i) (·.sapDisable i)
  else if a = rSAPnn_CH_CMD i then d.sapChCmd i (cmdOf (fSAPnn_CH_CMD_OP i) cmd)
  else d

/-- NET, instance `i`. -/
def Dev.fxNet (d : Dev) (a i : Nat) (old cmd : Word) : Dev :=
  if a = rNET_SNAP_CMD then (if cmdOf fNET_SNAP_CMD_SNAP cmd = 1 then d.netSnap else d)
  else if a = rNET_MDIO_CMD then d.mdioStart (cmdOf fNET_MDIO_CMD_OP cmd)
  else if a = rNETn_MAC_CFG i then d.atEdge (fNETn_MAC_CFG_EN i) old (·.netEnable i) (·.netDisable i)
  else if a = rNETn_GATE_CFG i then d.atEdge (fNETn_GATE_CFG_EN i) old (·.gateEnable i) (·.gateDisable i)
  else if a = rNETn_MM_CFG i then
    (if (fNETn_MM_CFG_PE_EN i).get old = d.get (fNETn_MM_CFG_PE_EN i) ∧
        (fNETn_MM_CFG_VERIFY_DIS i).get old = d.get (fNETn_MM_CFG_VERIFY_DIS i) then d else d.mmRestart i)
  else if a = rNETn_PAUSE_TX i then (if cmdOf (fNETn_PAUSE_TX_SEND i) cmd = 1 then d.pauseSend i else d)
  else d

/-- MIO, T1S and HALO. -/
def Dev.fxFabric (d : Dev) (a : Nat) (old cmd : Word) : Dev :=
  if a = rMIO_CFG then d.atEdge fMIO_CFG_EN old Dev.mioEnable Dev.mioDisable
  else if a = rMIO_TBL_CMD then d.mioTblCmd (cmdOf fMIO_TBL_CMD_OP cmd)
  else if a = rMIO_REQ_CMD then
    (let op := cmdOf fMIO_REQ_CMD_OP cmd
     if 1 ≤ op ∧ op ≤ 3 then d.reqStart op else d)
  else if a = rT1S_CFG then
    (match d.turns fT1S_CFG_EN old with
     | none => d
     | some true => (d.putB fT1S_CFG_EN false).t1sEnable
     | some false => d.t1sStop)
  else if a = rHALO_CFG then d.atEdgeOld fHALO_CFG_EN old Dev.haloEnable Dev.haloDisable
  else if a = rHALO_CMD then d.haloCmd (cmdOf fHALO_CMD_OP cmd)
  else d

/-- CUE. -/
def Dev.fxCue (d : Dev) (a i : Nat) (old cmd : Word) : Dev :=
  if a = rCUE_CFG then d.atEdgeOld fCUE_CFG_EN old Dev.cueEnable Dev.cueDisable
  else if a = rCUE_GO then (if cmdOf fCUE_GO_OP cmd = 1 then d.cueGo (d.get fCUE_GO_CUE) else d)
  else if a = rCUE_TBL_CMD then d.cueTblCmd (cmdOf fCUE_TBL_CMD_OP cmd)
  else if a = rCUE_DMXp_CFG i then d.atEdgeOld (fCUE_DMXp_CFG_EN i) old (·.dmxEnable i true) (·.dmxEnable i false)
  else d

/-- One EN of the flow-control map as written: 1 claims ball group `k` as function A, 0 releases it (R413). -/
def Dev.fcPin (d : Dev) (old : Word) (k : Nat) : Dev :=
  d.atEdge (fcEn k) old (fun d => let r := d.claimGrp k 1; if r.1 then r.2 else r.2.putB (fcEn k) false) (·.releaseGrp k 1)

/-- HQ. -/
def Dev.fxHq (d : Dev) (a i : Nat) (old cmd : Word) : Dev :=
  if a = rHQ_FC_MAP_L then [0, 1, 2, 3].foldl (fun d k => d.fcPin old k) d
  else if a = rHQ_FC_MAP_H then [4, 5, 6, 7].foldl (fun d k => d.fcPin old k) d
  else if a = rHQnn_CMD i then (if cmdOf (fHQnn_CMD_FLUSH i) cmd = 1 then d.hqFlush i else d)
  else if a = rHQnn_WM i then d.hqMark i
  else d

/-- RQL. -/
def Dev.fxRql (d : Dev) (a i : Nat) (old cmd : Word) : Dev :=
  if a = rRQL_CTL then
    (List.range 8).foldl (fun d n => d.atEdge (bitFld rRQL_CTL n) old (·.rqlEnable n) (·.rqlDisable n)) d
  else if a = rRQLn_EVT_INJ i then d.rqlInject i cmd
  else d

/-- DDR and INT. -/
def Dev.fxMem (d : Dev) (a : Nat) (old cmd : Word) : Dev :=
  if a = rDDR_CTL then d.atEdge fDDR_CTL_EN old Dev.ddrEnable Dev.ddrClose
  else if a = rINT_INJ_CMD then d.injArm (cmdOf fINT_INJ_CMD_OP cmd)
  else if a = rINT_FATAL_LOG then (if cmdOf fINT_FATAL_LOG_CLR cmd = 1 then d.fatalClr else d)
  else d

/-- What a write to the register at `a` does once its fields are stored: `i` is its instance, `old` the word
before, `v` the word written and `cmd` its command bits. -/
def Dev.writeEffect (d : Dev) (m : Meets) (a i : Nat) (old v cmd : Word) : Dev :=
  match blockOf a with
  | 0 => d.fxGlb m a old v cmd
  | 1 => d.fxPwr m a i
  | 2 => d.fxClk m a old
  | 3 => d.fxTime a i old cmd
  | 4 => d.fxPtp a i old cmd
  | 5 | 6 | 7 => d.fxMedia a i old cmd
  | 8 | 10 => d.fxAudio a i old cmd
  | 11 => d.fxNet a i old cmd
  | 12 | 13 | 15 => d.fxFabric a old cmd
  | 14 => d.fxCue a i old cmd
  | 16 => d.fxHq a i old cmd
  | 17 => d.fxRql a i old cmd
  | 18 | 19 => d.fxMem a old cmd
  | _ => d

end Sys2Proof.Machine
end

