-- ==== Sys2Proof/Machine/Access.lean ====
section
/-! DEFINITION. One access of a port (R417 to R432): the checks of Table 17.1, the store with its write classes, the two
table windows (R20 to R24, R573), and what a read returns. -/

namespace Sys2Proof.Machine

open Sys2Proof

/-! ## Where an address lies (R21, R439, R440, R442, R479) -/

/-- What stands at an address. -/
inductive Place where
  | nothing
  | reg
  | table (off : Nat)
  | anvil (off : Nat)
  deriving DecidableEq, Repr

/-- The place of an address as a port sees it; a sequencer reaches table memory directly. -/
def Dev.place (d : Dev) (p : Port) (a : Nat) : Place :=
  if a < 0x400000 then (if (regAt (a / 4 * 4)).isSome then .reg else .nothing)
  else if 0x800000 ≤ a then .nothing
  else match p with
    | .rql _ => .table (a - 0x400000)
    | _ =>
      if a < 0x600000 then .table (0x200000 * d.get fGLB_WIN_PAGE_TPAGE + (a - 0x400000))
      else .anvil (0x200000 * d.get fGLB_WIN_PAGE_APAGE + (a - 0x600000))

/-- The location can be reached now: every port is held in CORE, and in RETIRED and during a life-cycle change only the GLB block is
reached (R511, R515). -/
def Dev.placeReached (d : Dev) (p : Port) (a : Nat) : Bool :=
  if d.domState 1 != 0 || ((d.boot.lc == 3 || d.boot.changing) && a / 0x10000 != 0) then false else
  match d.place p a with
  | .nothing => false
  | .reg => d.reaches (a / 4 * 4)
  | .table _ => d.domOn 1
  | .anvil _ => d.anvRuns

/-! ## The checks (Table 17.1) -/

/-- Bytes of an access. -/
def accBytes : AccSize → Nat
  | .b8 => 1 | .b16 => 2 | .b32 => 4

/-- The register at an address is popped by a read or holds a capture field (check 3). -/
def popOrCap (a : Nat) : Bool :=
  match regAt (a / 4 * 4) with
  | some (r, _) => r.pop || r.cap != 0
  | none => false

/-- The LOCK bit of the register at an address is set (check 5). -/
def Dev.locked (d : Dev) (a : Nat) : Bool :=
  match regAt a with
  | some (r, _) => r.lock && (d.reg a).getMsbD 0
  | none => false

/-- The bus error code of an access, none when checks 2 to 6 pass. -/
def Dev.accCheck (d : Dev) (p : Port) (a : Nat) (size : AccSize) (write : Bool) : Option Nat :=
  if a % accBytes size ≠ 0 then some 1
  else if size ≠ .b32 ∧ (write ∨ popOrCap a) then some 2
  else if !d.placeReached p a then some 3
  else if write && d.locked a then some 4
  else if write && decide (rGLB_MBX_DATA ≤ a) && decide (a ≤ rGLB_MBX_OVF_CNT) && p != .cmp then some 6
  else none

/-- A failed access: counted and captured (R420), and told to its port. With CORE not ON the GLB block takes nothing. -/
def Dev.busError (d : Dev) (p : Port) (a code : Nat) : Dev :=
  let d := d.setPort p { d.port p with resp := [], code := code, ign := false }
  if !d.domOn 1 then d else
  (d.inc rGLB_BUSERR_CNT).capture fGLB_BUSERR_LOG_VALID
    [(fGLB_BUSERR_LOG_PORT, portCode p), (fGLB_BUSERR_LOG_CODE, code), (fGLB_BUSERR_LOG_ADDR, a)]

/-- The answer of an access that passed, before anything recorded. -/
def Dev.answer (d : Dev) (p : Port) (resp : List Nat) : Dev :=
  d.setPort p { d.port p with resp := resp, code := 0, ign := false }

/-! ## Register writes (R419, R428 to R430) -/

/-- The enable field that owns the class D bits of a row, for instance `i`, is 1. -/
def Dev.owned (d : Dev) (r : RegDesc) (i : Nat) : Bool :=
  match r.own with
  | some f => d.on ⟨f.addr + r.ownS * i, f.lo + r.ownB * i, f.width⟩
  | none => false

/-- The block that owns the class D bits of a row, whose code the ignore record names (R429). -/
def ownBlock (r : RegDesc) (a : Nat) : Nat :=
  match r.own with
  | some f => blockOf f.addr
  | none => blockOf a

/-- Bits of a write that a register stores: those that software writes, for a masked-write register those its mask names
(R430). -/
def writeMask (r : RegDesc) (v : Word) : Word := if r.mw then (v >>> 16) &&& w32 r.wr else w32 r.wr

/-- A write to a register as its access kinds and write classes require: class D bits are kept while their owner is
enabled, and the write is recorded if it would have changed one; then its effect. -/
def Dev.regStore (d : Dev) (m : Meets) (p : Port) (a : Nat) (v : Word) (r : RegDesc) (i : Nat) : Dev :=
  let old := d.reg a
  let mask := writeMask r v
  let kept := if d.owned r i then w32 r.dcls else 0
  let cmd := v &&& w32 r.cmd
  let d := if (old ^^^ v) &&& mask &&& kept != 0 || cmd &&& kept != 0 then d.record p a (ownBlock r a) i else d
  let take := mask &&& ~~~kept
  (d.setReg a ((old &&& ~~~take) ||| (v &&& take))).writeEffect m a i old v (cmd &&& ~~~kept)

/-- TIME_ADDEND_L: held in the port's staging register, or recorded while the servo owns the addend (R42, R43). -/
def Dev.addendL (d : Dev) (p : Port) (a : Nat) (v : Word) : Dev :=
  if d.on fTIME_CTL_SERVO_EN then (if v == d.reg a then d else d.record p a 3 0)
  else d.setPort p { d.port p with addendL := some v }

/-- TIME_ADDEND_H: forms the addend with the held low half, or with the one in force, and applies it. -/
def Dev.addendH (d : Dev) (p : Port) (a : Nat) (v : Word) : Dev :=
  if d.on fTIME_CTL_SERVO_EN then (if v.toNat % 65536 == (d.reg a).toNat then d else d.record p a 3 0)
  else
    let lo := (d.port p).addendL.getD (d.reg rTIME_ADDEND_L)
    (d.setPort p { d.port p with addendL := none }).setAddend (v.toNat % 65536 * 2 ^ 32 + lo.toNat)

/-- A write to a register that passed the checks. -/
def Dev.regWrite (d : Dev) (m : Meets) (p : Port) (a : Nat) (v : Word) : Dev :=
  match regAt a with
  | none => d
  | some (r, i, _) =>
    if a = rTIME_ADDEND_L then d.addendL p a v
    else if a = rTIME_ADDEND_H then d.addendH p a v
    else if a = rPWR_DOMk_CTL 0 then d
    else if a = rGLB_NVM_CTL ∧ d.starting ∧ v.toNat % 2 = 1 then d.record p a 0 0
    else if rTIME_TCMPnn_CTL 0 ≤ a ∧ a ≤ rTIME_TCMPnn_FIRE_CNT 63 ∧ a ≠ rTIME_TCMPnn_STS i ∧ d.tcmpForeign i then
      (if a = rTIME_TCMPnn_CTL i ∧ (fTIME_TCMPnn_CTL_ARM i).get v = 1 ∧ (fTIME_TCMPnn_CTL_DISARM i).get v = 0
       then (d.claimTcmp i (0xA0 + (fTIME_TCMPnn_CTL_LABEL i).get v)).2
       else d.record p a 3 i)
    else if a = rSTX_CMD ∧ d.on fSTX_CMD_STS_BUSY ∧ d.stxHeld.isSome ∧ 1 ≤ fSTX_CMD_OP.get v ∧ fSTX_CMD_OP.get v ≤ 4 then
      d.inc rSTX_CMD_OVF_CNT
    else if a = rSRX_CMD ∧ d.on fSRX_CMD_STS_BUSY ∧ d.srxHeld.isSome ∧ 1 ≤ fSRX_CMD_OP.get v ∧ fSRX_CMD_OP.get v ≤ 4 then
      d.inc rSRX_CMD_OVF_CNT
    else if a = rNET_MDIO_CMD ∧ d.on fNET_MDIO_STS_BUSY ∧ fNET_MDIO_CMD_OP.get v ≠ 0 then d.inc rNET_MDIO_OVF_CNT
    else if a = rMIO_REQ_CMD ∧ d.on fMIO_REQ_STS_BUSY ∧ fMIO_REQ_CMD_OP.get v ≠ 0 then d.inc rMIO_REQ_OVF_CNT
    else if a = rPIN_CUE_CFG then d.pinCueCfg v.toNat
    else if blockOf a = 10 ∧ a = rSAPnn_SLOT_MASK i then d.sapMaskWrite i v.toNat
    else if blockOf a = 11 ∧ a = rNETn_PAUSE_QUANTA_CNT i then (d.pauseCount i).regStore m p a v r i
    else d.regStore m p a v r i

/-! ## Window writes (R22, R23, R418, R429, R489, R573) -/

/-- What a window write meets: it is taken, ignored without error, or kept out by an owner. -/
inductive Keeping where
  | taken
  | silent
  | kept (block inst : Nat)
  deriving DecidableEq, Repr

/-- The owner that is enabled keeps the word. -/
def keptIf (on : Bool) (block inst : Nat) : Keeping := if on then .kept block inst else .taken

/-- A job of a list names curve `c`. -/
def jobNames (c : Nat) (j : Job) : Bool :=
  (j.typ == 2 && (j.f0 13 8 == c || j.f1 45 40 == c)) || (j.typ == 8 && j.f0 13 8 == c)

/-- The NEXT bank takes no writes: a swap has been accepted and its crossfade has not ended (R219). -/
def Dev.swapBusy (d : Dev) : Bool := d.anv.swap.isSome || d.anv.xfade.isSome

/-- The lowest block code among the enabled blocks that name curve `c` (Table 20.8). -/
def Dev.curveOwner (d : Dev) (c : Nat) : Option Nat :=
  let anv := d.on fANV_CTL_EN
  let live := d.get fANV_STS_LIVE
  if (List.range 4).any fun i => d.ptpOn i && (d.get (fPTP_PTDd_SERVO_CFG_KP_CURVE i) == c || d.get (fPTP_PTDd_SERVO_CFG_KI_CURVE i) == c)
  then some 4
  else if d.get fSRX_CFG_FADE_CURVE == c && !(d.stxOrder.isEmpty && d.srxOrder.isEmpty) then some 7
  else if anv && (d.get fANV_CTL_XFADE_CURVE == c || (d.bankJobs live).any (jobNames c) ||
      (d.swapBusy && (d.bankJobs (1 - live)).any (jobNames c))) then some 8
  else if anv && (d.get fSCH_CFG_MISS_CURVE == c || d.get fSCH_CURVES_CAP_CURVE == c || d.get fSCH_CURVES_WEIGHT_CURVE == c) then some 9
  else if (List.range 24).any fun n => d.on (fSAPnn_CTL_EN n) && d.get (fSAPnn_ZC_CFG_ZC_CURVE n) == c then some 10
  else none

/-- The ports that may write the working tables (R573). -/
def writesWorking : Port → Bool
  | .loader => true
  | .rql n => decide (n.val ≤ 3)
  | _ => false

/-- The write class of a word of table memory (R23, R138, R219, R573). -/
def Dev.tblKeeps (d : Dev) (p : Port) (off : Nat) : Keeping :=
  let w := off % 0x100 / 8
  if off < 0x020000 then
    (if w = 24 ∨ w = 25 ∨ 28 ≤ w then .silent else keptIf (d.stxOn (off / 0x100)) 6 (off / 0x100))
  else if off < 0x040000 then
    (if w = 20 ∨ w = 21 ∨ 28 ≤ w then .silent else keptIf (d.srxOn (off / 0x100 - 512)) 7 (off / 0x100 - 512))
  else if off < 0x140000 then
    let b := (off - 0x040000) / 0x80000
    keptIf (d.on fANV_CTL_EN && (b == d.get fANV_STS_LIVE || d.swapBusy)) 8 b
  else if off < 0x288000 then keptIf (d.on fMIO_CFG_EN) 12 0
  else if off < 0x2C8000 then keptIf (d.on fCUE_CFG_EN) 14 0
  else if off < 0x2E8000 then
    let n := (off - 0x2C8000) / 0x4000
    keptIf (d.on (bitFld rRQL_CTL n)) 17 n
  else if off < 0x2EA000 then
    let n := (off - 0x2E8000) / 0x800
    keptIf (d.on (fNETn_GATE_CFG_EN n)) 11 n
  else if off < 0x30A000 then
    let c := (off - 0x2EA000) / 0x800
    (match d.curveOwner c with
     | some b => .kept b c
     | none => .taken)
  else if off < 0x38A000 then keptIf (d.on fCUE_CFG_EN) 14 0
  else if off < 0x38A100 then
    let n := (off - 0x38A000) / 0x40
    keptIf (d.on (fNETn_MAC_CFG_EN n)) 11 n
  else if off < 0x38A140 then .taken
  else if writesWorking p then .taken
  else .kept 0 0

/-- The word at `off` of table memory is word 0 of a cue, and `v` gives it a reserved trigger (Table 14.3). -/
def reservedTrig (off v : Nat) : Bool :=
  decide (cueBase 0 ≤ off ∧ off < cueBase 4096 ∧ off % 64 = 0) && decide (7 ≤ v / 2 ^ 56 % 16)

/-- A word of table memory committed through the window: a write that is kept is recorded if it would change the word; to
the working tables it is recorded always. A reserved trigger written to a cue is stored, and counted (Table 14.3). -/
def Dev.tblCommit (d : Dev) (p : Port) (a off v : Nat) : Dev :=
  match d.tblKeeps p off with
  | .taken =>
    let d := if reservedTrig off v then d.inc rCUE_TBL_REFUSE_CNT else d
    d.tblWord off v
  | .silent => d
  | .kept b i => if off < 0x38A140 ∧ readWord64 d.tbl off = v then d else d.record p a b i

/-- A word of the Anvil store committed through the window: the signal area ignores it (R198). -/
def Dev.anvCommit (d : Dev) (off v : Nat) : Dev :=
  if off < 0x14C000 then d else ((({ d with store := writeWord64 d.store off v }).arrayWrite 2 (off / 8)).heapByHost (off / 8))

/-- The half staged by a port discarded, and counted. -/
def Dev.dropStage (d : Dev) (p : Port) : Dev :=
  if (d.port p).stage.isSome then (d.setPort p { d.port p with stage := none }).inc rGLB_STAGE_DROP_CNT else d

/-- A window write at `off` of array window `win` (0 table memory, 1 Anvil store): a lower half is staged; an upper half
commits the word with the half staged for it, or with the stored one. -/
def Dev.winWrite (d : Dev) (p : Port) (a win off : Nat) (v : Word) : Dev :=
  let w := off / 8 * 8
  if off % 8 = 0 then
    let d := d.dropStage p
    d.setPort p { d.port p with stage := some (win, w, v) }
  else
    let mem := if win = 0 then d.tbl else d.store
    let held := match (d.port p).stage with
      | some (win', w', lo) => if win' = win ∧ w' = w then some lo.toNat else none
      | none => none
    let d := if held.isSome then d.setPort p { d.port p with stage := none } else d.dropStage p
    let val := v.toNat * 2 ^ 32 + held.getD (readWord32 mem w)
    if win = 0 then d.tblCommit p a w val else d.anvCommit w val

/-- A write access. -/
def Dev.busWrite (d : Dev) (m : Meets) (p : Port) (a : Nat) (size : AccSize) (v : Word) : Dev :=
  match d.accCheck p a size true with
  | some code => d.busError p a code
  | none =>
    let d := d.answer p []
    match d.place p a with
    | .nothing => d
    | .reg => d.regWrite m p a v
    | .table off => d.winWrite p a 0 off v
    | .anvil off => d.winWrite p a 1 off v

/-! ## Reads (R22, R37, R418, R419) -/

/-- Capture fields cleared by a 32-bit read of the register at `a`. TIME_STEP_SIZE clears with its lower half (Table 2.9), and
a read of DDR_ECC_LOG clears DDR_ECC_ADDR too. -/
def Dev.clearCap (d : Dev) (a : Nat) : Dev :=
  let clr := fun (d : Dev) (a : Nat) => match regAt a with
    | some (r, _) => d.setReg a (d.reg a &&& ~~~(w32 r.cap))
    | none => d
  if a = rTIME_STEP_SIZE_L then clr (clr d a) rTIME_STEP_SIZE_H
  else if a = rDDR_ECC_LOG then clr (clr d a) rDDR_ECC_ADDR
  else if a = rTIME_STEP_SIZE_H then d
  else if popOrCap a then clr d a
  else d

/-- A read of the register at `a`; `whole` for 32 bits. -/
def Dev.regRead (d : Dev) (p : Port) (a : Nat) (whole : Bool) : Nat × Dev :=
  if a = rGLB_IGN_REC_L then d.ignPop p
  else if a = rGLB_WDOG_LEFT then d.wdogLeft
  else if blockOf a = 16 ∧ a < 0x142000 ∧ a % 0x100 = 0x10 then (d.hqHead ((a - 0x140000) / 0x100)).hqPop ((a - 0x140000) / 0x100) p
  else
    let v := d.portValue p a
    let d := (latchedBy a).foldl (fun d b => d.latch p b (d.regValue b)) d
    (v.toNat, if whole then d.clearCap a else d)

/-- A read of the 32-bit half at `off` of a window; an uncorrectable word reads as a free value (Table 22.1). -/
def Dev.winRead (d : Dev) (p : Port) (win off : Nat) : Nat × Dev :=
  let w := off / 8 * 8
  let array := if win = 0 then 3 else 2
  let x := d.port p
  let held := if win = 0 then x.winTbl else x.winAnv
  match (if off % 8 = 0 then none else held.bind fun l => if l.1 = w then some l.2 else none) with
  | some up => (up.toNat, d)
  | none =>
    let d := d.eccRead array (w / 8) none
    let word := readWord64 (if win = 0 then d.tbl else d.store) w
    let r := if d.poisoned array (w / 8) then d.freeNat else (word, d)
    let word := r.1 % 2 ^ 64
    let d := r.2
    if off % 8 = 0 then
      let x := d.port p
      let l := some (w, w32 (word / 2 ^ 32))
      (word % 2 ^ 32, d.setPort p (if win = 0 then { x with winTbl := l } else { x with winAnv := l }))
    else (word / 2 ^ 32, d)

/-- The bytes of an access taken from the 32 bits in which it lies, bits [7:0] at the lowest address (log entry 3). -/
def lanes (a : Nat) (size : AccSize) (v : Nat) : Nat := v / 256 ^ (a % 4) % 256 ^ accBytes size

/-- A read access: what it returns, and the device after it. -/
def Dev.busRead (d : Dev) (p : Port) (a : Nat) (size : AccSize) : Nat × Dev :=
  match d.accCheck p a size false with
  | some code => (0, d.busError p a code)
  | none =>
    let r := match d.place p a with
      | .nothing => (0, d)
      | .reg => d.regRead p (a / 4 * 4) (size == AccSize.b32)
      | .table off => d.winRead p 0 (off / 4 * 4)
      | .anvil off => d.winRead p 1 (off / 4 * 4)
    let v := lanes a size r.1
    (v, r.2.answer p [v])

end Sys2Proof.Machine
end

