-- ==== Sys2Proof/Machine/Bist.lean ====
section
/-! DEFINITION. What a reset keeps (R492), and the built-in self-test of a cold start: spare rows and columns, the NVM repair
record, the lanes (R223, R525 to R527, R531, R532). -/

namespace Sys2Proof.Machine

open Sys2Proof

/-! ## Resets (R443, R491, R492) -/

/-- Every register at its reset value and every array clear. The flash, OTP and what stands at the balls are not reset. -/
def Dev.cleared (d : Dev) : Dev := {
  nvm := d.nvm, wipeDone := d.wipeDone, cueIn := d.cueIn, free := d.free
  clk := { refclk := d.clk.refclk }, pin := { hotswap := d.pin.hotswap }
  boot := { lc := d.boot.lc, keys := d.boot.keys } }

/-- The cause that a reset shows: of causes that coincide, while a reset is still held, the highest ranked (R443). -/
def Dev.rankedCause (d : Dev) (cause : Nat) : Nat :=
  if d.boot.released then cause
  else if d.on fGLB_RESET_CAUSE_POR then 0
  else if d.on fGLB_RESET_CAUSE_PIN then min 1 cause
  else cause

/-- The device in reset: the cause asserted is 0 power-on, 1 RESET_N, 2 watchdog. A reset other than power-on keeps the start
record, the test access port, and the repair map, which a fatal error leaves to be rebuilt. -/
def Dev.intoReset (d : Dev) (asserted : Nat) : Dev :=
  let cause := d.rankedCause asserted
  let n := d.cleared.setReg rGLB_RESET_CAUSE (w32 (2 ^ cause))
  if cause = 0 then n else
  let unconfirmed := cause == 2 && !d.on fGLB_BOOT_STS_SAFE && d.boot.lastSlot != 0 && !d.boot.lastOk
  let n := n.put fGLB_BOOT_STS_FAIL_CNT (min 3 (d.get fGLB_BOOT_STS_FAIL_CNT + unconfirmed.toNat))
  let n := n.setReg rGLB_BOOT_LOG (d.reg rGLB_BOOT_LOG)
  let n := if unconfirmed then
      n.capture fGLB_BOOT_LOG_VALID [(fGLB_BOOT_LOG_SLOT, d.boot.lastSlot), (fGLB_BOOT_LOG_CODE, 11), (fGLB_BOOT_LOG_SECTION, 0)]
    else n
  let n := n.setReg rINT_FATAL_LOG (if d.boot.fatal then w32 0x81000000 else d.reg rINT_FATAL_LOG)
  { n with
    jtag := d.jtag
    boot := { n.boot with lastSlot := d.boot.lastSlot, lastOk := d.boot.lastOk }
    integ := { map := if d.boot.fatal then [] else d.integ.map }
    lanesRec := if d.boot.fatal then [] else d.lanesRec }

/-- The device as its reset is released: nothing that was accessed while the reset was held stands (R492; step 4 of Table
21.2). -/
def Dev.wokenCold (d : Dev) : Dev :=
  let n := d.cleared.setReg rGLB_RESET_CAUSE (d.reg rGLB_RESET_CAUSE)
  let n := n.put fGLB_BOOT_STS_FAIL_CNT (d.get fGLB_BOOT_STS_FAIL_CNT)
  let n := (n.setReg rGLB_BOOT_LOG (d.reg rGLB_BOOT_LOG)).setReg rINT_FATAL_LOG (d.reg rINT_FATAL_LOG)
  { n with
    jtag := d.jtag
    boot := { n.boot with released := true, lastSlot := d.boot.lastSlot, lastOk := d.boot.lastOk }
    integ := { map := d.integ.map }
    lanesRec := d.lanesRec }

/-! ## The repair record (R531, R532, Table 22.2) -/

/-- The copy of the record that is read: its number and bytes; none when no copy is valid or the flash does not answer. -/
def recordRead (n : Nvm) : Option (Nat × List Byte) :=
  if !n.responds then none else
  let seq := fun (l : List Byte) => beNat (flashBytes l 8 4)
  match recordOk n.rec0, recordOk n.rec1 with
  | true, true => if 0 < (BitVec.ofNat 32 (seq n.rec1) - BitVec.ofNat 32 (seq n.rec0)).toInt then some (1, n.rec1) else some (0, n.rec0)
  | true, false => some (0, n.rec0)
  | false, true => some (1, n.rec1)
  | false, false => none

/-- An entry that names a row: array, sub-bank, row; or a lane; none when it names nothing that exists. -/
inductive RecEntry where
  | row (array sub row : Nat)
  | lane (n : Nat)
  | skip
  deriving DecidableEq, Repr

/-- Entry `e` of a copy. -/
def recEntry (l : List Byte) (e : Nat) : RecEntry :=
  let b := fun k => beNat (flashBytes l (32 + 8 * e + k) 1)
  let row := beNat (flashBytes l (32 + 8 * e + 4) 2)
  let rows := if b 1 = 5 then 512 else 1024
  match b 0 with
  | 1 => if b 2 < (arrayBanks (b 1)).1 ∧ row < rows then .row (b 1) (b 2) row else .skip
  | 2 => if b 5 < 34 then .lane (b 5) else .skip
  | _ => .skip

/-! ## Allocation (R525) -/

/-- A sub-bank's spares while they are allocated: lines that have one, and the faulty cells not yet covered. -/
structure Alloc where
  bank : SubBank
  rows : List Nat := []
  cols : List Nat := []
  cells : List (Nat × Nat)

/-- A spare row given to a row, the lowest that is free. -/
def Alloc.giveRow (a : Alloc) (r : Nat) (live : Bool) : Alloc :=
  let b := a.bank
  let b := if b.row0 = .free then { b with row0 := .used r live } else { b with row1 := .used r live }
  { a with bank := b, rows := r :: a.rows, cells := a.cells.filter fun c => c.1 != r }

/-- A spare column given to a column. -/
def Alloc.giveCol (a : Alloc) (c : Nat) : Alloc :=
  { a with bank := { a.bank with cols := a.bank.cols - 1 }, cols := c :: a.cols, cells := a.cells.filter fun x => x.2 != c }

/-- Faulty cells of a row, and of a column. -/
def Alloc.inRow (a : Alloc) (r : Nat) : Nat := ((a.cells.filter fun c => c.1 == r).map (·.2)).eraseDups.length
def Alloc.inCol (a : Alloc) (c : Nat) : Nat := ((a.cells.filter fun x => x.2 == c).map (·.1)).eraseDups.length

/-- Rows, and columns, that hold a faulty cell, ascending. -/
def Alloc.rowsHit (a : Alloc) : List Nat := ((a.cells.map (·.1)).eraseDups).mergeSort (· ≤ ·)
def Alloc.colsHit (a : Alloc) : List Nat := ((a.cells.map (·.2)).eraseDups).mergeSort (· ≤ ·)

/-- One round of must-repair. -/
def Alloc.mustOnce (a : Alloc) : Alloc :=
  let a := a.rowsHit.foldl (fun a r => if a.bank.cols < a.inRow r ∧ 0 < a.bank.freeRows then a.giveRow r false else a) a
  a.colsHit.foldl (fun a c => if a.bank.freeRows < a.inCol c ∧ 0 < a.bank.cols then a.giveCol c else a) a

/-- Must-repair until nothing changes: at most four spares are given. -/
def Alloc.must : Nat → Alloc → Alloc
  | 0, a => a
  | n + 1, a => Alloc.must n a.mustOnce

/-- The rows of the record, in record order; with them the number of entries not honoured. -/
def Alloc.record (a : Alloc) : List Nat → Alloc × Nat
  | [] => (a, 0)
  | r :: t =>
    if 0 < a.bank.freeRows ∧ !a.rows.contains r then (a.giveRow r true).record t
    else let x := a.record t; (x.1, x.2 + 1)

/-- The line of a list that covers most uncovered cells, the first among equals. -/
def bestLine (f : Nat → Nat) : List Nat → Option (Nat × Nat)
  | [] => none
  | r :: t =>
    match bestLine f t with
    | some (s, n) => if f r < n then some (s, n) else some (r, f r)
    | none => some (r, f r)

/-- A spare to the line covering most uncovered cells, while there is one; a row before a column. -/
def Alloc.greedy : Nat → Alloc → Alloc
  | 0, a => a
  | n + 1, a =>
    let row := if a.bank.freeRows = 0 then none else bestLine a.inRow a.rowsHit
    let col := if a.bank.cols = 0 then none else bestLine a.inCol a.colsHit
    match row, col with
    | some (r, k), some (c, l) => Alloc.greedy n (if k < l then a.giveCol c else a.giveRow r false)
    | some (r, _), none => Alloc.greedy n (a.giveRow r false)
    | none, some (c, _) => Alloc.greedy n (a.giveCol c)
    | none, none => a

/-- A sub-bank allocated: what BIST found in it and the rows of the record. -/
def allocate (b : BistBank) (rows : List Nat) : Alloc × Nat :=
  let bank : SubBank := { row0 := if b.good0 then .free else .bad, row1 := if b.good1 then .free else .bad, cols := min b.cols 2 }
  let x := (Alloc.must 5 { bank := bank, cells := b.cells.eraseDups }).record rows
  (x.1.greedy 4, x.2)

/-! ## BIST in the cold start (R223, R526, R527) -/

/-- The words of a sub-bank that hold uncovered cells, keyed in the array; a word takes 72 columns (log entry 71). -/
def Alloc.words (a : Alloc) (array sub : Nat) : List Nat :=
  a.cells.map fun c => 8388608 * array + 32768 * sub + 32 * c.1 + c.2 / 72

/-- A sub-bank's repair taken into the map. -/
def Dev.bistBank (d : Dev) (b : BistBank) (rows : List Nat) : Dev :=
  let (a, drops) := allocate b rows
  let ws := a.words b.array b.sub
  let two := fun w => 2 ≤ (ws.filter (· == w)).length
  let d := (d.setSubBank b.array b.sub a.bank).add rINT_REC_DROP_CNT drops
  let d := { d with integ := { d.integ with
    stuck := (ws.filter fun w => !two w).foldl (fun m w => kset false m w true) d.integ.stuck
    dead := (ws.filter two).foldl (fun m w => kset false m w true) d.integ.dead } }
  if ws.any two then
    let d := if d.get fINT_BIST_STS_UNREP_CNT = 0 then (d.put fINT_BIST_STS_ARRAY b.array).put fINT_BIST_STS_SUBBANK b.sub else d
    d.put fINT_BIST_STS_UNREP_CNT (d.get fINT_BIST_STS_UNREP_CNT + 1)
  else d

/-- The working, spare and retired lanes. -/
def Dev.bistLanes (d : Dev) (failed recorded : List Nat) : Dev :=
  let out := (List.range 34).filter fun n => failed.contains n || recorded.contains n
  let good := (List.range 34).filter fun n => !out.contains n
  let d := out.foldl (fun d n => d.putB (fLaneRet n) true) d
  let d := (good.drop 32).foldl (fun d n => d.putB (fLaneSpare n) true) d
  let d := (d.setAnv { d.anv with work := good.take 32 }).put fINT_BIST_STS_LANE_FAIL failed.length
  { d with lanesRec := recorded }.showLanes

/-- Step 3 of a cold start. -/
def Dev.bist (d : Dev) (banks : List BistBank) (failed : List Nat) : Dev :=
  let rec_ := recordRead d.nvm
  let es : List RecEntry := match rec_ with
    | some (_, l) => (List.range (beNat (flashBytes l 12 2))).map (recEntry l)
    | none => []
  let skips := (es.filter fun (e : RecEntry) => match e with | .skip => true | _ => false).length
  let lanes := es.filterMap fun (e : RecEntry) => match e with | .lane n => some n | _ => none
  let kept : List (Nat × Nat) := d.integ.map.flatMap fun e =>
    [e.2.row0, e.2.row1].filterMap fun s => match s with | .used r true => some (e.1, r) | _ => none
  let rows : List (Nat × Nat) := match rec_ with
    | some _ => es.filterMap fun (e : RecEntry) => match e with | .row a s r => some (32 * a + s, r) | _ => none
    | none => kept
  let d := { d with integ := { d.integ with map := [] } }
  let d := match rec_ with
    | some (c, l) => { d with integ := { d.integ with recCopy := c, recSeq := beNat (flashBytes l 8 4) } }
    | none => d
  let d := d.add rINT_REC_DROP_CNT skips
  let keys : List Nat := ((banks.map fun (b : BistBank) => 32 * b.array + b.sub) ++ rows.map (·.1)).eraseDups.mergeSort (· ≤ ·)
  let d := keys.foldl (fun (d : Dev) (k : Nat) =>
    let b : BistBank := (banks.find? fun (b : BistBank) => 32 * b.array + b.sub == k).getD
      { array := k / 32, sub := k % 32, cells := [], good0 := true, good1 := true, cols := 2 }
    d.bistBank b ((rows.filter fun (r : Nat × Nat) => r.1 == k).map (·.2))) d
  d.bistLanes failed lanes.eraseDups

end Sys2Proof.Machine
end

