-- ==== Sys2Proof/Machine/RqlStep.lean ====
section
/-! DEFINITION. A step of a Requel sequencer (R476 to R481): the entries of its state tried in table order, guards, actions
and run-time faults. -/

namespace Sys2Proof.Machine

open Sys2Proof

/-- Variable `v` of sequencer `n`. -/
def Dev.rqlVar (d : Dev) (n v : Nat) : Word := kget 0 (d.rqlOf n).vars v

/-- A variable set. -/
def Dev.setRqlVar (d : Dev) (n v : Nat) (w : Word) : Dev :=
  d.setRql n { d.rqlOf n with vars := kset 0 (d.rqlOf n).vars v w }

/-- The comparison of a guard (Table 20.3). -/
def rqlCompare (cmp : Nat) (x imm : Word) : Bool :=
  match cmp with
  | 0 => x == imm
  | 1 => x != imm
  | 2 => x.ult imm
  | 3 => !x.ult imm
  | 4 => x.slt imm
  | _ => !x.slt imm

/-- A transition entry (Table 20.2): its word, mask, next state, actions and guard. -/
structure RqlEntry where
  word : Nat
  mask : Nat
  next : Nat
  len : Nat
  guard : Nat
  act : Nat
  deriving DecidableEq, Repr

/-- The entry at pool word `w`. -/
def Dev.rqlEntry (d : Dev) (n w : Nat) : RqlEntry :=
  let a := d.rqlWord n w
  { word := w, mask := a / 2 ^ 32, next := a / 2 ^ 24 % 256, len := a / 2 ^ 16 % 32, guard := a % 2048, act := d.rqlWord n (w + 1) % 2048 }

/-- What a part of a step comes to: it goes on with a result, or it faults with a code and a word (Table 20.5). -/
inductive RqlPart (α : Type) where
  | ok (x : α)
  | fault (code index : Nat)

/-- A guard evaluated as its entry is tested (R477). -/
def Dev.rqlGuard (d : Dev) (n : Nat) (e : RqlEntry) : RqlPart Bool × Dev :=
  if e.guard = 0 then (.ok true, d)
  else if !inPool e.guard 2 then (.fault 5 e.word, d)
  else if d.rqlHurt n e.guard || d.rqlHurt n (e.guard + 1) then (.fault 7 e.guard, d.rqlReads n e.guard 2)
  else
    let d := d.rqlReads n e.guard 2
    let g := d.rqlWord n e.guard
    let g1 := d.rqlWord n (e.guard + 1)
    let cmp := g / 2 ^ 60 % 8
    if 6 ≤ cmp then (.fault 6 e.guard, d)
    else if g / 2 ^ 63 = 0 then (.ok (rqlCompare cmp (d.rqlVar n (g / 2 ^ 56 % 16) &&& w32 (g1 / 2 ^ 32)) (w32 g1)), d)
    else
      let p := Port.rql (Fin.ofNat 8 n)
      let r := d.busRead p (g / 2 ^ 32 % 2 ^ 24) .b32
      if (r.2.port p).code ≠ 0 then (.fault 7 e.guard, r.2)
      else (.ok (rqlCompare cmp (w32 r.1 &&& w32 (g1 / 2 ^ 32)) (w32 g1)), r.2)

/-- The pending bit `b` of sequencer `n` cleared. -/
def RqlSt.unpended (x : RqlSt) (b : Nat) : RqlSt := { x with pend := x.pend &&& ~~~(w32 (2 ^ b)) }

/-- TSTART (R480). -/
def RqlSt.startTimer (x : RqlSt) (t us : Nat) : RqlSt :=
  if us = 0 then { x with timers := kset {} x.timers t {}, pend := x.pend ||| w32 (2 ^ t) }
  else { x.unpended t with timers := kset {} x.timers t { running := true, left := us } }

/-- The action in pool word `w` (Table 20.4). -/
def Dev.rqlAction (d : Dev) (m : Meets) (n w : Nat) : RqlPart Unit × Dev :=
  if d.rqlHurt n w then (.fault 7 w, d.rqlReads n w 1) else
  let d := d.rqlReads n w 1
  let a := d.rqlWord n w
  let p := Port.rql (Fin.ofNat 8 n)
  let addr := a / 2 ^ 32 % 2 ^ 24
  let var := a / 2 ^ 56 % 16
  let t := a / 2 ^ 32 % 8
  let x := d.rqlOf n
  match a / 2 ^ 60 with
  | 0 => (.ok (), d)
  | 1 =>
    if 2 ≤ var then (.fault 6 w, d) else
    let d := d.busWrite m p addr .b32 (if var = 0 then w32 a else d.rqlVar n (a % 16))
    (if (d.port p).code ≠ 0 then .fault 7 w else .ok (), d)
  | 2 =>
    let r := d.busRead p addr .b32
    if (r.2.port p).code ≠ 0 then (.fault 7 w, r.2) else (.ok (), r.2.setRqlVar n (a % 16) (w32 r.1))
  | 3 => (.ok (), d.setRqlVar n var (w32 a))
  | 4 => (.ok (), d.setRqlVar n var (d.rqlVar n var + w32 a))
  | 5 => (.ok (), d.setRql n (x.startTimer t (a % 2 ^ 32)))
  | 6 => (.ok (), d.setRql n ({ x with timers := kset {} x.timers t {} }.unpended t))
  | 7 => (.ok (), d.rqlInject t (w32 a &&& 0xFF00))
  | _ => (.fault 6 w, d)

/-- The actions of an entry, `k` of them from word `w`; `time` is how many more guards and actions the step's time allows,
none for enough (R480). -/
def Dev.rqlActions (d : Dev) (m : Meets) (n entry w : Nat) (time : Option Nat) : Nat → RqlPart Unit × Dev
  | 0 => (.ok (), d)
  | k + 1 =>
    if time = some 0 then (.fault 8 entry, d) else
    match d.rqlAction m n w with
    | (.ok (), d) => d.rqlActions m n entry (w + 1) (time.map (· - 1)) k
    | r => r

/-- An entry taken: its actions, then its next state (R476). -/
def Dev.rqlTakeEntry (d : Dev) (m : Meets) (n : Nat) (e : RqlEntry) (time : Option Nat) : Dev :=
  if d.rqlStates n ≤ e.next then d.rqlFault n 4 e.word
  else if 16 < e.len ∨ !inPool e.act e.len then d.rqlFault n 5 e.word
  else
    match d.rqlActions m n e.word e.act time e.len with
    | (.fault code i, d) => d.rqlFault n code i
    | (.ok (), d) => (d.put (fRQLn_STS_STATE n) e.next).inc (rRQLn_STEP_CNT n)

/-- The entries of a state tried in order for event bit `b`, `k` of them from word `w`. -/
def Dev.rqlTry (d : Dev) (m : Meets) (n b w : Nat) (time : Option Nat) : Nat → Dev
  | 0 => d
  | k + 1 =>
    if d.rqlHurt n w || d.rqlHurt n (w + 1) then (d.rqlReads n w 2).rqlFault n 7 w else
    let d := d.rqlReads n w 2
    let e := d.rqlEntry n w
    if e.mask / 2 ^ b % 2 = 0 then d.rqlTry m n b (w + 2) time k
    else if time = some 0 then d.rqlFault n 8 w
    else match d.rqlGuard n e with
      | (.fault code i, d) => d.rqlFault n code i
      | (.ok false, d) => d.rqlTry m n b (w + 2) (time.map (· - 1)) k
      | (.ok true, d) => d.rqlTakeEntry m n e (time.map (· - 1))

/-- The lowest bit set of a word. -/
def lowestBit (w : Word) : Option Nat := (List.range 32).find? fun i => w.getLsbD i

/-- RQL_STEP: a running sequencer takes its lowest pending event. A disable by one of its own actions lets the step complete
(R482). -/
def Dev.rqlStep (d : Dev) (m : Meets) (n : Nat) (time : Option Nat) : Dev :=
  let x := d.rqlOf n
  match lowestBit x.pend with
  | none => d
  | some b =>
    if !(d.domOn 1 && d.on (fRQLn_STS_RUN n)) then d else
    let d := d.setRql n (x.unpended b)
    let d := if 16 ≤ b then d.setRqlVar n 15 (w32 (kget 0 x.arg b)) else d
    let s := d.rqlDir n (d.get (fRQLn_STS_STATE n))
    let at_ := 16 + d.get (fRQLn_STS_STATE n)
    let bad := d.rqlHurt n at_
    let d := d.rqlReads n at_ 1
    let d := if bad then d.rqlFault n 7 at_ else d.rqlTry m n b s.1 time s.2
    if d.on (bitFld rRQL_CTL n) then d else d.rqlDisable n

end Sys2Proof.Machine
end

