-- ==== Sys2Proof/Machine/Ports.lean ====
section
/-! DEFINITION. The transactions of the host ports (R421 to R426): SPI and CMP, and a register write that sets the fields a
command is named for. -/

namespace Sys2Proof.Machine

open Sys2Proof

/-- The bus error code of a port's last access. -/
def Dev.code (d : Dev) (p : Port) : Nat := (d.port p).code

/-- A write of `v` to the register at `a` in which field `f` holds `x`: the access that a command of the opcode table
makes. -/
def Dev.writeWith (d : Dev) (m : Meets) (p : Port) (f : Fld) (x : Nat) (v : Word) : Dev :=
  d.busWrite m p f.addr .b32 (f.put v x)

/-! ## SPI (R421 to R423) -/

/-- The width that SIZE names; none for the malformed code. -/
def spiSize (op : BitVec 8) : Option AccSize :=
  match op.toNat / 8 % 4 with
  | 0 => some .b32 | 1 => some .b16 | 2 => some .b8 | _ => none

/-- The OP byte is well formed (check 1). -/
def spiGood (op : BitVec 8) : Bool := op.toNat % 8 == 0 && (spiSize op).isSome

/-- A read transaction. -/
def spiRead (op : BitVec 8) : Bool := 128 ≤ op.toNat

/-- The address of access `k`. -/
def spiAddr (op : BitVec 8) (a k : Nat) : Nat :=
  if op.toNat / 32 % 2 = 1 then a else (a + k * accBytes ((spiSize op).getD .b32)) % 2 ^ 24

/-- How a transaction stands: items sent (newest first), the code and index of its first failure, and whether a write of
it was recorded. -/
structure SpiRun where
  items : List Nat := []
  fail : Option (Nat × Nat) := none
  ign : Bool := false

/-- The write words from access `k` on; after a failure the rest are discarded. -/
def Dev.spiWrites (d : Dev) (m : Meets) (op : BitVec 8) (a : Nat) : Nat → List Word → SpiRun → SpiRun × Dev
  | _, [], r => (r, d)
  | k, v :: t, r =>
    let d := d.busWrite m .spi (spiAddr op a k) ((spiSize op).getD .b32) v
    if d.code .spi ≠ 0 then ({ r with fail := some (d.code .spi, k) }, d)
    else d.spiWrites m op a (k + 1) t { r with ign := r.ign || (d.port .spi).ign }

/-- An item of all ones. -/
def spiOnes (op : BitVec 8) : Nat := 256 ^ accBytes ((spiSize op).getD .b32) - 1

/-- `n` reads from access `k` on; `late` is the first item whose data was not ready. The data of the item whose access
fails is a free value; later items are 0. -/
def Dev.spiReads (d : Dev) (op : BitVec 8) (a : Nat) (late : Option Nat) : Nat → Nat → SpiRun → SpiRun × Dev
  | _, 0, r => (r, d)
  | k, n + 1, r =>
    let (v, d) := d.busRead .spi (spiAddr op a k) ((spiSize op).getD .b32)
    if d.code .spi ≠ 0 then
      let f := d.freeNat
      ({ r with items := List.replicate n 0 ++ f.1 % (spiOnes op + 1) :: r.items, fail := some (d.code .spi, k) }, f.2)
    else if late = some k then
      ({ r with items := List.replicate (n + 1) (spiOnes op) ++ r.items, fail := some (5, k) }, d.inc rGLB_BUSERR_CNT)
    else d.spiReads op a late (k + 1) n { r with items := v :: r.items }

/-- STATUS: S0 and S1. -/
def SpiRun.status (r : SpiRun) : Nat :=
  match r.fail with
  | none => r.ign.toNat * 64 * 256
  | some (code, k) => (128 + r.ign.toNat * 64 + code) * 256 + k % 256

/-- SPI_TRANSACTION: while CORE is not ON nothing answers. -/
def Dev.spiTransaction (d : Dev) (m : Meets) (x : SpiXact) : Dev :=
  if !d.domOn 1 then d else
  let a := x.addr.toNat
  let (r, d) :=
    if !spiGood x.op then ({ fail := some (7, 0) }, d.busError .spi a 7)
    else if spiRead x.op then d.spiReads x.op a x.late 0 (x.count + 1) {}
    else d.spiWrites m x.op a 0 (x.data.take (x.count + 1)) {}
  d.setPort .spi { d.port .spi with resp := r.items.reverse, code := r.status, ign := r.ign }

/-- SPI_ABORT: SPI_CS_N rises before the transaction is complete, `bytes` whole bytes of it received, with `items` read items begun,
or in STATUS. Accesses already made stand, and of a read transaction one more has been made than items begun (R422, R423). -/
def Dev.spiAbort (d : Dev) (m : Meets) (x : SpiXact) (bytes items : Nat) (inStatus : Bool) : Dev :=
  if !d.domOn 1 then d else
  let a := x.addr.toNat
  let late := x.late.filter (· < items)
  let (r, d) :=
    if bytes < 5 ∧ items = 0 then (({} : SpiRun), d)
    else if !spiGood x.op then ({}, d.busError .spi a 7)
    else if spiRead x.op then d.spiReads x.op a late 0 (min (items + 1) (x.count + 1)) {}
    else d.spiWrites m x.op a 0 (x.data.take (min ((bytes - 5) / 4) (x.count + 1))) {}
  let d := d.setPort .spi { d.port .spi with resp := r.items.reverse.take items, code := 0, ign := r.ign }
  if inStatus then d else d.inc rGLB_SPI_ABORT_CNT

/-! ## CMP (R424 to R426) -/

/-- The words of a CMP write from an address on; a NACK stops it. -/
def Dev.cmpWords (d : Dev) (m : Meets) (a : Nat) : List Word → Dev
  | [] => d
  | v :: t =>
    let d := d.busWrite m .cmp (a % 2 ^ 24) .b32 v
    if d.code .cmp ≠ 0 then d else d.cmpWords m (a + 4) t

/-- CMP_WRITE: with CORE not ON the address byte alone is compared (R426), and another device's address is not answered. -/
def Dev.cmpWrite (d : Dev) (m : Meets) (x : CmpAddr) (ws : List Word) : Dev :=
  if !d.domOn 1 then d.cmpWake x.dev m.bad
  else if d.cmpMine x.dev then d.cmpWords m x.addr.toNat ws
  else d

/-- The words of a CMP read: none where the first fails, which is answered NACK; from a later one that fails on, all ones. -/
def Dev.cmpReads (d : Dev) (a : Nat) : Nat → List Nat → List Nat × Dev
  | 0, ws => (ws, d)
  | n + 1, ws =>
    let (v, d) := d.busRead .cmp (a % 2 ^ 24) .b32
    if d.code .cmp ≠ 0 then (if ws.isEmpty then [] else List.replicate (n + 1) 0xFFFFFFFF ++ ws, d)
    else d.cmpReads (a + 4) n (v :: ws)

/-- CMP_READ of `n` words. -/
def Dev.cmpRead (d : Dev) (m : Meets) (x : CmpAddr) (n : Nat) : Dev :=
  if !d.domOn 1 then d.cmpWake x.dev m.bad
  else if d.cmpMine x.dev then
    let (ws, d) := d.cmpReads x.addr.toNat n []
    d.setPort .cmp { d.port .cmp with resp := ws.reverse }
  else d

/-- CMP_ABORT: STOP arrives with a word incomplete. -/
def Dev.cmpAbort (d : Dev) (m : Meets) (x : CmpAddr) (ws : List Word) : Dev :=
  if !d.domOn 1 then d.cmpWake x.dev m.bad
  else if d.cmpMine x.dev then (d.cmpWords m x.addr.toNat ws).inc rGLB_CMP_ABORT_CNT
  else d

end Sys2Proof.Machine
end

