-- ==== Sys2Proof/Machine/Loader.lean ====
section
/-! DEFINITION. The image loader (R493 to R511, R517, R519): the cold and the warm start, the verification of a Kazide image,
the apply pass, failed starts and safe mode. -/

namespace Sys2Proof.Machine

open Sys2Proof

/-! ## The Kazide image (R500, Tables 21.5 and 21.6) -/

/-- A big-endian field of an image. -/
def imgBe (l : List Byte) (off n : Nat) : Nat := beNat (flashBytes l off n)

/-- LENGTH, NSECT, SIGNED and AUTOCONF of the header. -/
def imgLen (l : List Byte) : Nat := imgBe l 12 4
/-- Descriptors of an image. -/
def imgSects (l : List Byte) : Nat := imgBe l 16 2
/-- The image carries a key and a signature. -/
def imgSigned (l : List Byte) : Bool := imgBe l 5 1 % 2 == 1
/-- The image confirms itself. -/
def imgAutoconf (l : List Byte) : Bool := imgBe l 5 1 / 2 % 2 == 1

/-- A section descriptor (Table 21.6). -/
structure Sect where
  typ : Nat
  phase : Nat
  warm : Bool
  off : Nat
  size : Nat
  crc : Nat
  deriving DecidableEq, Repr

/-- Descriptor `k` of an image. -/
def imgSect (l : List Byte) (k : Nat) : Sect :=
  let o := 64 + 16 * k
  { typ := imgBe l o 1, phase := imgBe l (o + 1) 1 % 2, warm := imgBe l (o + 1) 1 / 2 % 2 == 1
    off := imgBe l (o + 4) 4, size := imgBe l (o + 8) 4, crc := imgBe l (o + 12) 4 }

/-- The magic number, the format and the header's CRC are right. -/
def imgHeaderOk (l : List Byte) : Bool :=
  imgBe l 0 4 == 0x4B5A4944 && imgBe l 4 1 == 1 && imgBe l 60 4 == crc32 (flashBytes l 0 60)

/-- LENGTH and NSECT are within their limits. -/
def imgSizesOk (l : List Byte) : Bool :=
  imgLen l % 8 == 0 && decide (1 ≤ imgSects l) && decide (imgSects l ≤ 1024) &&
    decide (64 + 16 * imgSects l ≤ imgLen l) &&
    decide (imgLen l + 32 + (if imgSigned l then 128 else 0) ≤ 0x800000)

/-- Descriptor `k` is within the limits of R502; a WAIT holds its four words, a TABLE or ANVIL its target (log entry 72). -/
def imgSectOk (l : List Byte) (k : Nat) : Bool :=
  let s := imgSect l k
  decide (1 ≤ s.typ) && decide (s.typ ≤ 4) && s.off % 8 == 0 && s.size % 8 == 0 &&
    decide (64 + 16 * imgSects l ≤ s.off) && decide (s.off + s.size ≤ imgLen l) &&
    (k == 0 || !((imgSect l (k - 1)).phase == 1 && s.phase == 0)) &&
    (s.typ == 1 || decide ((if s.typ = 4 then 16 else 8) ≤ s.size))

/-- The target of a TABLE or ANVIL section lies within its region. -/
def imgTargetOk (l : List Byte) (k : Nat) : Bool :=
  let s := imgSect l k
  let t := imgBe l s.off 4
  if s.typ = 2 then t % 8 == 0 && decide (t + (s.size - 8) ≤ 0x400000)
  else if s.typ = 3 then t % 8 == 0 && decide (0x14C000 ≤ t) && decide (t + (s.size - 8) ≤ 0x400000)
  else true

/-- The REGS entries of a section. -/
def imgRegs (l : List Byte) (s : Sect) : List (Nat × Word) :=
  (List.range (s.size / 8)).map fun k => (imgBe l (s.off + 8 * k + 1) 3, w32 (imgBe l (s.off + 8 * k + 4) 4))

/-- The warm list of an image: the entries of its WARM REGS sections, in order. -/
def imgWarm (l : List Byte) : List (Nat × Word) :=
  (List.range (imgSects l)).flatMap fun k =>
    let s := imgSect l k
    if s.warm && s.typ == 1 then imgRegs l s else []

/-- The CRC of section `k` is right. -/
def imgCrcOk (l : List Byte) (k : Nat) : Bool :=
  let s := imgSect l k
  crc32 (flashBytes l s.off s.size) == s.crc

/-- The digest computed and the digest stored. -/
def imgDigest (l : List Byte) : List Byte := sha256 (flashBytes l 0 (imgLen l))
/-- The digest stored in the trailer. -/
def imgStored (l : List Byte) : List Byte := flashBytes l (imgLen l) 32

/-! ## Verification (R502, R503, Table 21.8) -/

/-- What the check of the key and the signature finds wrong: codes 4, 5 and 7, 0 for nothing. -/
def Dev.imgKey (d : Dev) (l : List Byte) : Nat :=
  if !imgSigned l then (if d.boot.lc = 2 then 4 else 0) else
  let t := imgLen l + 32
  let slot := imgBe l 6 1
  let key := kget (0, 0) d.boot.keys slot
  if 3 ≤ slot ∨ key.1 ≠ 1 ∨ key.2 ≠ beNat (sha256 (flashBytes l t 64)) then 5
  else if ecdsaVerify (beNat (imgDigest l)) (imgBe l (t + 64) 32) (imgBe l (t + 96) 32) (imgBe l t 32) (imgBe l (t + 32) 32) then 0
  else 7

/-- The flash answers the loader: it is there, and its balls are not released (R512). -/
def Dev.flashReads (d : Dev) : Bool := d.nvm.responds && !d.on fGLB_NVM_CTL_RELEASE

/-- The content of a slot: 1 is A, 2 is B. -/
def Dev.slotImg (d : Dev) (s : Nat) : List Byte := if s = 1 then d.nvm.slotA else d.nvm.slotB

/-- The first check of R502 that an image fails: its code, and the section it names. -/
def Dev.verify (d : Dev) (l : List Byte) : Option (Nat × Nat) :=
  let ks := List.range (imgSects l)
  let key := d.imgKey l
  if !d.flashReads || !imgHeaderOk l then some (1, 0)
  else if !imgSizesOk l then some (2, 0)
  else match ks.find? (!imgSectOk l ·) with
  | some k => some (2, k)
  | none =>
    match ks.find? (!imgTargetOk l ·) with
    | some k => some (2, k)
    | none =>
      if 1024 < (imgWarm l).length then some (2, 0) else
      match ks.find? (!imgCrcOk l ·) with
      | some k => some (3, k)
      | none =>
        if imgDigest l != imgStored l then some (6, 0)
        else if key ≠ 0 then some (key, 0)
        else none

/-- The slot order of a start (R510). -/
def Dev.slotOrder (d : Dev) : Nat × Nat :=
  let a := d.slotImg 1
  let b := d.slotImg 2
  let newer := d.flashReads && imgHeaderOk a && imgHeaderOk b &&
    decide (0 < (BitVec.ofNat 32 (imgBe b 8 4) - BitVec.ofNat 32 (imgBe a 8 4)).toInt)
  let first := match d.get fPIN_STRAP_BOOT_SEL with
    | 1 => 1
    | 2 => 2
    | _ => if newer then 2 else 1
  if d.get fGLB_BOOT_STS_FAIL_CNT = 1 then (3 - first, first) else (first, 3 - first)

/-! ## The ends of a load (R508, R509, R511) -/

/-- The loader's state and step. -/
def Dev.loaderAt (d : Dev) (x : Loader) (step : Nat) : Dev :=
  ({ d with boot := { d.boot with loader := x } }).put fGLB_BOOT_STS_STEP step

/-- GLB_BOOT_LOG captures a code. -/
def Dev.bootLog (d : Dev) (slot code sect : Nat) : Dev :=
  d.capture fGLB_BOOT_LOG_VALID [(fGLB_BOOT_LOG_SLOT, slot), (fGLB_BOOT_LOG_CODE, code), (fGLB_BOOT_LOG_SECTION, sect)]

/-- A failed start: nothing further is applied, and the watchdog ends it. -/
def Dev.failStart (d : Dev) : Dev := (d.wdogArm 1).loaderAt .halted 0

/-- The apply pass fails. -/
def Dev.loadFail (d : Dev) (code sect : Nat) : Dev := (d.bootLog (d.get fGLB_BOOT_STS_SLOT) code sect).failStart

/-- Safe mode with its cause. -/
def Dev.safeMode (d : Dev) (cause : Nat) : Dev :=
  let d := (d.putB fGLB_BOOT_STS_SAFE true).put fGLB_BOOT_STS_SAFE_CAUSE cause
  ({ d with boot := { d.boot with lastSlot := 0, lastOk := false } }).loaderAt .idle 0

/-- The end of a full load: what it leaves in the retained store, and its confirmation (R504, R508). -/
def Dev.loadEnd (d : Dev) : Dev :=
  let l := d.boot.img
  let g := imgDigest l
  if g != imgStored l then d.loadFail 6 0 else
  let d := { d with boot := { d.boot with digest := some (d.get fGLB_BOOT_STS_SLOT, g), digestOk := d.on fGLB_BOOT_STS_CONFIRMED, warm := imgWarm l, img := [] } }
  let d := (List.range 8).foldl (fun d k => d.setReg (rGLB_IMG_DIGESTk k) (w32 (beNat ((g.drop (4 * k)).take 4)))) d
  let d := (d.setReg rGLB_IMG_SEQ (w32 (imgBe l 8 4))).loaderAt .idle 0
  if imgAutoconf l then d.confirmed
  else if d.on fGLB_WDOG_CFG_EN then d
  else d.wdogArm (max 100 (imgBe l 18 2))

/-! ## The apply pass (R501, R504 to R507) -/

/-- The loader moves on by some bytes of its section, or to the next one. -/
def Dev.loadOn (d : Dev) (bytes : Nat) : Dev := { d with boot := { d.boot with pos := d.boot.pos + bytes } }
/-- The next section. -/
def Dev.loadNext (d : Dev) : Dev := { d with boot := { d.boot with sect := d.boot.sect + 1, pos := 0 } }

/-- A stream command that the loader is about to write has to wait: the block's QUEUED is 1 (R501). -/
def Dev.loadWaits (d : Dev) (a : Nat) : Bool :=
  (a == rSTX_CMD && d.on fSTX_CMD_STS_QUEUED) || (a == rSRX_CMD && d.on fSRX_CMD_STS_QUEUED)

/-- One register write of the loader: its bus error code. In a warm start a lock keeps the write out without error
(R497). -/
def Dev.loadReg (d : Dev) (a : Nat) (v : Word) : Nat × Dev :=
  if d.get fGLB_BOOT_STS_START_KIND ≠ 0 ∧ d.accCheck .loader a .b32 true = some 4 then (0, d.inc rGLB_BOOT_LOCKSKIP_CNT)
  else
    let d := d.busWrite {} .loader a .b32 v
    (d.code .loader, d)

/-- The address that a word of an array is recorded with: that of its window (R21). -/
def loadAddr (win off : Nat) : Nat := (if win = 0 then 0x400000 else 0x600000) + off % 0x200000

/-- One 64-bit word of a TABLE or ANVIL section written. -/
def Dev.loadWord (d : Dev) (win off v : Nat) : Nat × Dev :=
  let a := loadAddr win off
  if !d.placeReached .loader a then (3, d.busError .loader a 3)
  else if win = 0 then (0, d.tblCommit .loader a off v)
  else (0, d.anvCommit off v)

/-- The register of a WAIT read: its code, and whether the condition holds (R506). -/
def Dev.waitHolds (d : Dev) (a : Nat) (mask value : Word) : (Nat × Bool) × Dev :=
  let (v, d) := d.busRead .loader a .b32
  ((d.code .loader, w32 v &&& mask == value), d)

/-- One unit of a section: a REGS entry, a word, or a WAIT. -/
def Dev.loadUnit (d : Dev) (s : Sect) : Dev :=
  let l := d.boot.img
  let k := d.boot.sect
  let p := d.boot.pos
  let o := s.off + p
  if s.size ≤ p then d.loadNext
  else if s.typ = 1 then
    let a := imgBe l (o + 1) 3
    if d.loadWaits a then { d with boot := { d.boot with loader := .queued } } else
    let (c, d) := d.loadReg a (w32 (imgBe l (o + 4) 4))
    if c ≠ 0 then d.loadFail 8 k else d.loadOn 8
  else if s.typ = 4 then
    let a := imgBe l o 4
    let mask := w32 (imgBe l (o + 4) 4)
    let value := w32 (imgBe l (o + 8) 4)
    let ((c, holds), d) := d.waitHolds a mask value
    if c ≠ 0 then d.loadFail 8 k
    else if holds then d.loadNext
    else { d with boot := { d.boot with loader := .wait a mask value } }
  else if p = 0 then d.loadOn 8
  else
    let (c, d) := d.loadWord (s.typ - 2) (imgBe l s.off 4 + (p - 8)) (imgBe l o 8)
    if c ≠ 0 then d.loadFail 8 k else d.loadOn 8

/-- One entry of a warm list (R495); at its end the start is confirmed. -/
def Dev.loadWarm (d : Dev) (l : List (Nat × Word)) : Dev :=
  match l with
  | [] => (({ d with boot := { d.boot with warmLeft := none, lastOk := true } }).loaderAt .idle 0).confirmed
  | (a, v) :: t =>
    if d.loadWaits a then { d with boot := { d.boot with loader := .queued } } else
    let (c, d) := d.loadReg a v
    if c ≠ 0 then d.loadFail 8 0 else { d with boot := { d.boot with warmLeft := some t } }

/-- One step of a load that runs. A section begins with its CRC; an assertion of HOTSWAP_N stops the load between sections
(R504, R519); the first phase-1 section, or the end, waits for the clock switch (R507). -/
def Dev.loadStep (d : Dev) : Dev :=
  match d.boot.warmLeft with
  | some l => d.loadWarm l
  | none =>
    let l := d.boot.img
    let k := d.boot.sect
    if d.boot.pos = 0 ∧ d.pin.stop then
      ({ d with boot := { d.boot with lastSlot := 0 } }).loaderAt .halted 0
    else if imgSects l ≤ k then (if d.boot.switched then d.loadEnd else d.loaderAt .lock 7)
    else
      let s := imgSect l k
      if d.boot.pos = 0 ∧ s.phase = 1 ∧ !d.boot.switched then d.loaderAt .lock 7
      else if d.boot.pos = 0 ∧ !imgCrcOk l k then d.loadFail 3 k
      else d.loadUnit s

/-- The load runs on until it ends or has to wait. -/
def Dev.loadGo : Nat → Dev → Dev
  | 0, d => d
  | n + 1, d => if d.boot.loader = .run then Dev.loadGo n d.loadStep else d

/-- Steps that no load exceeds. -/
def Dev.loadFuel (d : Dev) : Nat := d.boot.img.length + (d.boot.warmLeft.getD []).length + 4096

/-- A load that may go on goes on. -/
def Dev.load (d : Dev) : Dev := Dev.loadGo d.loadFuel d

/-! ## Step 6 (R502, R509 to R511) -/

/-- A slot is tried: the start record names it, not confirmed. -/
def Dev.tried (d : Dev) (s : Nat) : Dev := { d with boot := { d.boot with lastSlot := s, lastOk := false } }

/-- The apply pass of a slot that has passed verification; `reread` is a byte it reads otherwise. -/
def Dev.startLoad (d : Dev) (s : Nat) (reread : Option (Nat × Byte)) : Dev :=
  let l := d.slotImg s
  let img := match reread with
    | some (o, b) => if o < l.length then l.set o b else l
    | none => l
  let d := (d.put fGLB_BOOT_STS_SLOT s).putB fGLB_BOOT_STS_CONFIRMED false
  { d with boot := { d.boot with img := img, sect := 0, pos := 0, switched := false, warmLeft := none, loader := .run } }

/-- Step 6: safe mode, or the image load. Each verification that fails is captured (log entry 73). -/
def Dev.loadStart (d : Dev) (reread : Option (Nat × Byte)) : Dev :=
  let d := d.put fGLB_BOOT_STS_STEP 6
  if d.get fGLB_BOOT_STS_FAIL_CNT = 3 then d.safeMode 1
  else if d.get fPIN_STRAP_BOOT_SEL = 3 then d.safeMode 2
  else if d.boot.lc = 3 then d.safeMode 4
  else
    let (a, b) := d.slotOrder
    let d := d.tried a
    match d.verify (d.slotImg a) with
    | none => (d.startLoad a reread).load
    | some (code, k) =>
      let d := (d.bootLog a code k).tried b
      match d.verify (d.slotImg b) with
      | none => (d.startLoad b reread).load
      | some (code, k) =>
        if d.boot.lc = 0 then (d.bootLog b code k).safeMode 3 else (d.bootLog b code k).failStart

/-! ## The cold start (R493, Table 21.2) -/

/-- RESET_RELEASE: the reset is released, and the cold start runs as far as it can. -/
def Dev.coldStart (d : Dev) (x : StartInfo) : Dev :=
  if d.boot.released then d else
  let d := d.wokenCold
  let d := { d with nvm := x.nvm.getD d.nvm }
  let d := d.puts [(fGLB_ID_STEP, x.step.toNat), (fGLB_ID_GRADE, x.grade.toNat), (fHALO_ROLE_CFG_STRAP, x.haloRole.toNat),
    (fPIN_STRAP_HALO_ROLE, x.haloRole.toNat), (fPIN_STRAP_BOOT_SEL, x.bootSel.val), (fPIN_STRAP_CMP_ASEL, x.cmpAsel.val),
    (fPIN_AVS_CORE_MV, x.avs.toNat)]
  let d := d.bist x.bist (x.lanes.map Fin.val)
  if d.pin.hotswap then d.loaderAt .hotswap 5 else d.loadStart x.reread

/-- HOTSWAP_LOAD_RESUME: HOTSWAP_N has been released for 50 ms, and the loader that holds at the end of step 5 goes on
(R519). -/
def Dev.hotswapResume (d : Dev) (reread : Option (Nat × Byte)) : Dev :=
  let d := { d with pin := { d.pin with hotswap := false, due := false } }
  if d.boot.loader ≠ .hotswap then d
  else if d.get fGLB_BOOT_STS_START_KIND = 0 then d.loadStart reread
  else d.loaderAt .sel 6

/-! ## Waits of the loader -/

/-- WAIT_SECTION_END: the condition of a WAIT is read again; `timeout` says that TIMEOUT_US has passed (R506). -/
def Dev.waitEnd (d : Dev) (timeout : Bool) : Dev :=
  match d.boot.loader with
  | .wait a mask value =>
    let ((c, holds), d) := d.waitHolds a mask value
    if c ≠ 0 then d.loadFail 8 d.boot.sect
    else if holds || timeout then
      let d := if holds then d else d.bootLog (d.get fGLB_BOOT_STS_SLOT) 9 d.boot.sect
      (({ d with boot := { d.boot with loader := .run } }).loadNext).load
    else d
  | _ => d

/-- IMAGE_CLOCK_SWITCH: the loader writes SEL = 1 once SYSPLL is locked, or 2 ms have passed without it (`timeout`,
R507). -/
def Dev.imageSwitch (d : Dev) (timeout : Bool) : Dev :=
  if d.boot.loader ≠ .lock then d
  else if d.on fCLK_STS_SYSPLL_LOCK then
    let d := d.busWrite {} .loader rCLK_SWITCH .b32 1
    (({ d with boot := { d.boot with loader := .run, switched := true } }).put fGLB_BOOT_STS_STEP 6).load
  else if timeout then d.loadFail 10 (if imgSects d.boot.img ≤ d.boot.sect then 0 else d.boot.sect)
  else d

/-! ## The warm start (R494, R495, R517, Table 21.3) -/

/-- The digest check: the slot that comes first is the one retained, its header is good and its stored digest agrees. -/
def Dev.digestMatch (d : Dev) : Bool :=
  let s := d.slotOrder.1
  let l := d.slotImg s
  d.wipeDone && d.boot.digestOk && d.flashReads && imgHeaderOk l && d.boot.digest == some (s, imgStored l)

/-- A warm start that a command has left to run begins; after a detach that CORE's Dawn owes, none does. -/
def Dev.warmBegin (d : Dev) : Dev :=
  let k := d.boot.start
  if k = 0 then d else
  let d := { d with boot := { d.boot with start := 0 } }
  if d.boot.loader = .halted ∨ !d.domOn 1 ∨ (d.pin.hotswap ∧ k ≠ 2) then d else
  let d := (d.put fGLB_BOOT_STS_START_KIND (if k = 2 then 2 else 1)).putB fGLB_RESET_CAUSE_WARM true
  if k = 3 then d.loadStart none
  else ({ d with boot := { d.boot with warmLeft := if d.digestMatch then some d.boot.warm else none } }).loaderAt .sel 6

/-- The loader of a warm start goes on once SEL_ACT is 1. -/
def Dev.warmGo (d : Dev) : Dev :=
  if d.boot.loader = .sel ∧ d.selAct then
    if d.pin.hotswap then d.loaderAt .hotswap 5 else
    match d.boot.warmLeft with
    | some _ =>
      let s := d.slotOrder.1
      let d := (d.put fGLB_BOOT_STS_SLOT s).tried s
      ({ d with boot := { d.boot with loader := .run } }).load
    | none => d.loadStart none
  else d

/-- A load that waits for QUEUED goes on once it can (R501). -/
def Dev.queuedGo (d : Dev) : Dev :=
  if d.boot.loader ≠ .queued then d else
  let a := match d.boot.warmLeft with
    | some ((a, _) :: _) => a
    | _ => imgBe d.boot.img ((imgSect d.boot.img d.boot.sect).off + d.boot.pos + 1) 3
  if d.loadWaits a then d else ({ d with boot := { d.boot with loader := .run } }).load

/-! ## The Dawn policy and the image (R470) -/

/-- The domain of a block's instance. -/
def blockDom (b i : Nat) : Nat :=
  if b = 3 ∨ b = 4 then 2 else if b = 5 then 4 else if b = 8 then 3 else if b = 10 ∧ i < 24 then 5 + i / 6
  else if b = 11 ∧ i < 4 then 9 + i else if b = 13 then 13 else if b = 18 then 14 else 1

/-- What was lost can be written again: its domain is ON, and CORE runs from SYSPLL again (log entry 64). -/
def Dev.lostReady (d : Dev) : Lost → Bool
  | .words a _ => d.selAct && (a == 3 || d.anvRuns)
  | .regs b i => d.selAct && d.domOn (blockDom b i)

/-- The image of the last confirmed load, as its slot still holds it. -/
def Dev.keptImage (d : Dev) : List Byte :=
  match d.boot.digest with
  | some (s, g) =>
    let l := d.slotImg s
    if d.flashReads && imgHeaderOk l && imgStored l == g then l else []
  | none => []

/-- The words of a TABLE or ANVIL section, with their offsets. -/
def imgWords (l : List Byte) (s : Sect) : List (Nat × Nat) :=
  (List.range ((s.size - 8) / 8)).map fun k => (imgBe l s.off 4 + 8 * k, imgBe l (s.off + 8 + 8 * k) 8)

/-- A REGS entry reapplied by the Dawn policy in RQL3. A lock keeps it out, and a stream command waits for the one before it. -/
def Dev.reapplyReg (d : Dev) (a : Nat) (v : Word) : Dev :=
  let d := if a = rSTX_CMD ∨ a = rSRX_CMD then d.cmdsDone.cmdsDone else d
  if d.accCheck (.rql 3) a .b32 true = none then d.busWrite {} (.rql 3) a .b32 v else d

/-- A word of table memory or of the Anvil store reapplied. -/
def Dev.reapplyWord (d : Dev) (a off v : Nat) : Dev :=
  if a = 3 then d.tblCommit (.rql 3) (loadAddr 0 off) off v else d.anvCommit off v

/-- What one section of the image holds of what was lost, written again. -/
def Dev.reapplySect (d : Dev) (l : List Byte) (s : Sect) : Lost → Dev
  | .words a sub =>
    if s.typ + a ≠ 5 then d
    else ((imgWords l s).filter fun e => e.1 / 0x40000 == sub).foldl (fun d e => d.reapplyWord a e.1 e.2) d
  | .regs b i =>
    if s.typ ≠ 1 then d
    else ((imgRegs l s).filter fun e => inBank b i e.1).foldl (fun d e => d.reapplyReg e.1 e.2) d

/-- What was lost, written again from the image, section by section. -/
def Dev.reapply (d : Dev) (x : Lost) : Dev :=
  let l := d.keptImage
  (List.range (imgSects l)).foldl (fun d k => d.reapplySect l (imgSect l k) x) d

/-- Time passes: the Dawn policy program reapplies what can be written; without that program the host must (R470). -/
def Dev.reapplyStep (d : Dev) : Dev :=
  let l := d.pwr.lost
  if l.isEmpty then d
  else if d.refDown 3 then { d with pwr := { d.pwr with lost := [] } }
  else
    let now := l.filter d.lostReady
    now.foldl Dev.reapply { d with pwr := { d.pwr with lost := l.filter fun x => !d.lostReady x } }

/-- What the loader does of itself once a command is done. -/
def Dev.loaderSettle (d : Dev) : Dev := d.warmBegin.warmGo.queuedGo

end Sys2Proof.Machine
end

