-- ==== Sys2Proof/Machine/HotPlug.lean ====
section
/-! DEFINITION. Resets (R491, R492) and hot plug (R519, R569 to R571, Tables 24.11 and 24.12): the orderly detach and its
coincidences. Its steps come as the time base reaches their times (log entry 74). -/

namespace Sys2Proof.Machine

open Sys2Proof

/-! ## Resets -/

/-- WDOG_EXPIRY: the count of an enabled watchdog reaches 0 (R444); it stands still while CORE is not ON. -/
def Dev.wdogExpiry (d : Dev) : Dev := if d.on fGLB_WDOG_CFG_EN && d.domOn 1 then d.intoReset 2 else d

/-! ## The orderly detach -/

/-- PIN_HOTSWAP_STS.STATE. -/
def Dev.hotswapState (d : Dev) (st : Nat) : Dev := d.put fPIN_HOTSWAP_STS_STATE st

/-- The ramps of the running SOUT channels: every output falls along ZC_CURVE and stays silent. -/
def Dev.soutRamps (d : Dev) : Dev :=
  (List.range 24).foldl (fun d n => if d.sapOn n then d.setSap n { d.sapOf n with fadeOut := .down 0 none } else d) d

/-- TOPO LINK_DOWN for each chain link of network `k` that is up, then its ports blocked as lost (steps 4 and 5). -/
def Dev.leaveRing (d : Dev) (k : Nat) : Dev :=
  if !d.mioOn then d else
  let ps := [2 * k, 2 * k + 1].filter fun p => d.role p == 2 && d.linkUp p
  let d := ps.foldl (fun d p => let l := d.linkAt p; d.sendTopo k 1 l.1 l.2) d
  ps.foldl (fun d p => d.putMioPort p { d.mioPort p with lost := true, peer := false }) d

/-- The balls return to their reset state. -/
def Dev.ballsReset (d : Dev) : Dev :=
  let d := { d with time := { d.time with ppsOut := false } }
  ({ d with halo := { d.halo with hbo := 0 } }).haloAct false

/-- A detached device whose HOTSWAP_N is released resets itself, which is not a failed start (R571). -/
def Dev.detachRelease (d : Dev) : Dev := ({ d with boot := { d.boot with lastSlot := 0 } }).wdogArm 1

/-- The SOUT ramps and the end of the cue engine, of step 2 or step 3. -/
def Dev.detachOutputs (d : Dev) : Dev := d.soutRamps.offWhere fCUE_CFG_EN Dev.cueDisable

/-- A millisecond in 2^-16 ns. -/
def msUnits : Int := 65536000000

/-- How long the detach has run; a detach whose time base does not run takes its steps at once (log entry 74). -/
def Dev.detachTime (d : Dev) (x : Detach) : Int := if d.timeRuns then d.mono - x.since else 2 * msUnits

/-- The orderly detach begins: steps 1 and 2 of Table 24.11. -/
def Dev.detachStart (d : Dev) : Dev :=
  let live := d.on fHALO_STS_PARTNER_OK && d.haloState != 0
  let d := (d.hotswapState 1).inc rPIN_DETACH_CNT
  let d := { d with pin := { d.pin with due := false, detach := some { since := d.mono, three := live } } }
  let d := d.haloDetach
  if live then d else (d.stxOrder.foldl (fun d c => d.stxSetMute c true) d).detachOutputs

/-- Step 3, with a live partner: at once for a unit that is not active, else as HALO_ACT falls and at 1.25 ms at the latest. -/
def Dev.detachThree (d : Dev) : Dev :=
  match d.pin.detach with
  | none => d
  | some x =>
    if x.three ∧ (!d.halo.act ∨ 5 * msUnits ≤ 4 * d.detachTime x) then
      ({ d with pin := { d.pin with detach := some { x with three := false } } }).detachOutputs
    else d

/-- The end of a detach: every block disabled, the balls in their reset state, STATE 2. HOTSWAP_N may have been released already
(Table 24.12). -/
def Dev.detachEnd (d : Dev) : Dev :=
  let d := { d with pin := { d.pin with detach := none } }
  let d := d.quiesce.ballsReset.hotswapState 2
  if d.pin.hotswap then d else d.detachRelease

/-- One of steps 4 to 6, when its time has come: a network's neighbours told, at 1.0 ms for A and 1.5 ms for B; the end at 2.0 ms. An
active unit drops HALO_ACT at 1.5 ms (R398). -/
def Dev.detachNext (d : Dev) : Dev :=
  match d.pin.detach with
  | none => d
  | some x =>
    let t := d.detachTime x
    let go := fun (d : Dev) => { d with pin := { d.pin with detach := some { x with next := x.next + 1 } } }
    if x.next = 4 ∧ msUnits ≤ t then (go d).leaveRing 0
    else if x.next = 5 ∧ 3 * msUnits ≤ 2 * t then ((go d).detachTimeout).leaveRing 1
    else if 6 ≤ x.next ∧ 2 * msUnits ≤ t then d.detachEnd
    else d

/-- Nothing is enabled that a detach would have to stop: STATE 2 at once (Table 24.12). -/
def Dev.detachBare (d : Dev) : Dev :=
  let d := { d with pin := { d.pin with due := false } }
  (d.inc rPIN_DETACH_CNT).hotswapState 2

/-- The recognised assertion acts (Table 24.12). -/
def Dev.hotswapAct (d : Dev) : Dev :=
  if d.get fPIN_HOTSWAP_STS_STATE ≠ 0 then d
  else if !d.domOn 1 then { d with pin := { d.pin with due := true } }
  else if d.on fGLB_BOOT_STS_SAFE || d.boot.changing then d.detachBare
  else match d.boot.loader with
    | .idle => if d.boot.released then d.detachStart else d
    | .halted => d.detachStart
    | .hotswap | .sel => d
    | _ => { d with pin := { d.pin with stop := true } }

/-- HOTSWAP_ASSERT: HOTSWAP_N has been low for 20 µs. -/
def Dev.hotswapAssert (d : Dev) : Dev :=
  if d.pin.hotswap then d else ({ d with pin := { d.pin with hotswap := true } }).hotswapAct

/-- HOTSWAP_GLITCH: a low pulse shorter than 20 µs. -/
def Dev.hotswapGlitch (d : Dev) : Dev := if d.pin.hotswap then d else d.inc rPIN_HOTSWAP_GLITCH_CNT

/-- HOTSWAP_RELEASE: the ball has been high for 50 ms (R571). -/
def Dev.hotswapRelease (d : Dev) : Dev :=
  let d := { d with pin := { d.pin with hotswap := false, due := false } }
  if d.get fPIN_HOTSWAP_STS_STATE = 2 then d.detachRelease else d

/-- A detach that waited for CORE runs once CORE is ON, and one under way goes on as its times come. -/
def Dev.hotswapSettle (d : Dev) : Dev :=
  let d := if d.pin.due && d.domOn 1 then d.hotswapAct else d
  if d.domOn 1 then d.detachNext.detachThree.detachNext.detachNext.detachThree else d

end Sys2Proof.Machine
end

