-- ==== Sys2Proof/Machine/Mgmt.lean ====
section
/-! DEFINITION. Fabric management requests and responses as a node takes or forwards them (R343 to R346, Table 13.7). -/

namespace Sys2Proof.Machine

open Sys2Proof

/-! ## Routing (R343) -/

/-- A new MGMT frame of this node sent toward a node, or lost for want of a route. -/
def Dev.mgmtSend (d : Dev) (h : MgmtHead) (body : List Byte) : Dev :=
  let (sent, d') := d.mgmtToward h body
  if sent then d' else d'.inc rMIO_NOROUTE_CNT

/-- The response to a frame handed over: on the edge port or the stage bus it came from, else by the route to its origin. -/
def Dev.mgmtReply (d : Dev) (f : Handed) (body : List Byte) : Dev :=
  let (h, d) := d.mgmtHead (mioHead f.bytes).origin
  if f.port.val = 4 then d.mgmtOnBus h body
  else if f.port.val < 4 ∧ d.role f.port.val = 1 then d.mgmtOnPort f.port.val (srcOf f.bytes) h body
  else d.mgmtSend h body

/-- The response that answers a request's body with a status, an index and data. -/
def mgmtAnswer (body : List Byte) (status index : Nat) (data : List Byte) : List Byte :=
  mgmtBody (beAt body 0 1) (beAt body 1 2) (128 + beAt body 3 1 % 128) status (beAt body 5 1) index (beAt body 7 3) data

/-- The key under which a request from an edge port waits for its answers. -/
def edgeKey (origin : Nat) (body : List Byte) (e : EdgeReq) : Bool :=
  e.origin == origin && e.session == beAt body 0 1 && e.tag == beAt body 1 2

/-- A request that came in on an edge port and goes on is remembered, with the port that its answers go back to (R343); at most
512 are (log entry 204). -/
def Dev.mgmtFromEdge (d : Dev) (f : Handed) : Dev :=
  if decide (f.port.val < 4) && d.role f.port.val == 1 then
    let h := mioHead f.bytes
    let body := mioBody f.bytes
    let e : EdgeReq := { origin := h.origin, session := beAt body 0 1, tag := beAt body 1 2, port := f.port.val, mac := srcOf f.bytes }
    { d with mio := { d.mio with edges := (e :: d.mio.edges.filter fun x => !edgeKey h.origin body x).take 512 } }
  else d

/-- A frame for another node forwarded one hop; a request with no route is answered with STATUS 5. -/
def Dev.mgmtForward (d : Dev) (f : Handed) : Dev :=
  let h := mioHead f.bytes
  let body := mioBody f.bytes
  if h.hops ≤ 1 then d.inc rMIO_HOP_DROP_CNT else
  let g : MgmtHead := { hops := h.hops - 1, flags := h.flags, origin := h.origin, mac := h.mac, dest := h.dest, seq := h.seq }
  let (sent, d') := d.mgmtToward g body
  if sent then d'
  else
    let d' := d'.inc rMIO_NOROUTE_CNT
    if isResponse body then d' else d'.mgmtReply f (mgmtAnswer body 5 0 [])

/-! ## Execution (R344) -/

/-- Words read from `a` on, `n` of them, until the first bus error: its status and index, and the words. -/
def Dev.mgmtReads (d : Dev) (a k : Nat) : Nat → List Byte → (Nat × Nat × List Byte) × Dev
  | 0, acc => ((0, 0, acc), d)
  | n + 1, acc =>
    let (v, d) := d.busRead .inband (a + 4 * k) .b32
    if d.code .inband ≠ 0 then ((1, k, acc), d) else d.mgmtReads a (k + 1) n (acc ++ beBytes 4 v)

/-- Words written from `a` on until the first bus error. -/
def Dev.mgmtWrites (d : Dev) (m : Meets) (a k : Nat) (data : List Byte) : Nat → (Nat × Nat × List Byte) × Dev
  | 0 => ((0, 0, []), d)
  | n + 1 =>
    let d := d.busWrite m .inband (a + 4 * k) .b32 (w32 (beAt data (4 * k) 4))
    if d.code .inband ≠ 0 then ((1, k, []), d) else d.mgmtWrites m a (k + 1) data n

/-- An INBOX request: the packet is pushed, or the inbox is full (R407). -/
def Dev.mgmtInbox (d : Dev) (bs : List Byte) : (Nat × Nat × List Byte) × Dev :=
  let q := d.get fHQ_ROUTE_INBOX_Q
  if !d.hqAccepts q 4 || (d.hqOf q).flushPend || decide (1024 < (d.hqOf q).words.length + (d.hqOf q).rest.length + (bs.length + 7) / 8) then
    ((3, 0, []), d.inc (rHQnn_REJECT_CNT q))
  else ((0, 0, []), d.hqPush q 4 bs)

/-- A request's body executed: status, index and data of its response. A body too short for its COUNT has a bad COUNT. -/
def Dev.mgmtRun (d : Dev) (m : Meets) (body : List Byte) : (Nat × Nat × List Byte) × Dev :=
  let op := beAt body 3 1
  let count := beAt body 5 1
  let addr := beAt body 7 3
  let data := body.drop 10
  if op = 1 ∧ 1 ≤ count ∧ count ≤ 60 then d.mgmtReads addr 0 count []
  else if op = 2 ∧ 1 ≤ count ∧ count ≤ 60 ∧ 4 * count ≤ data.length then d.mgmtWrites m addr 0 data count
  else if op = 3 ∧ 1 ≤ count ∧ count ≤ 240 ∧ count ≤ data.length then d.mgmtInbox (data.take count)
  else ((2, 0, []), d)

/-! ## Requester records (R345) -/

/-- The record of a requester, and the other ones. -/
def splitRec (fnid session : Nat) (l : List ReqRec) : Option ReqRec × List ReqRec :=
  (l.find? fun r => r.fnid == fnid && r.session == session, l.filter fun r => !(r.fnid == fnid && r.session == session))

/-- A response recorded under its requester and tag; a new requester may displace the least recently used. -/
def Dev.recordReply (d : Dev) (fnid session tag : Nat) (resp : List Byte) : Dev :=
  let (r, rest) := splitRec fnid session d.mio.recs
  let tags := (match r with
    | some r => r.tags
    | none => [])
  let new : ReqRec := { fnid := fnid, session := session, tags := ((tag, resp) :: tags).take 16 }
  let d := if r.isNone ∧ 32 ≤ rest.length then d.inc rMIO_REPLAY_EVICT_CNT else d
  { d with mio := { d.mio with recs := (new :: rest).take 32 } }

/-- A request addressed to this node: a repeated tag is answered from its record, a new one is executed once. `early` says
that a repeat comes while the first is still executing. -/
def Dev.mgmtExecute (d : Dev) (m : Meets) (f : Handed) (early : Bool) : Dev :=
  let body := mioBody f.bytes
  let fnid := (mioHead f.bytes).origin
  let session := beAt body 0 1
  let tag := beAt body 1 2
  let (r, rest) := splitRec fnid session d.mio.recs
  let old := r.bind fun r => r.tags.lookup tag
  match r, old with
  | some r, some resp =>
    if early then d.inc rMIO_REPLAY_BUSY_CNT
    else (({ d with mio := { d.mio with recs := r :: rest } }).inc rMIO_REPLAY_CNT).mgmtReply f resp
  | _, _ =>
    let ((status, index, data), d) := d.mgmtRun m body
    let resp := mgmtAnswer body status index data
    (d.recordReply fnid session tag resp).mgmtReply f resp

/-- MGMT_REQUEST: the oldest request handed over is consumed, flooded or forwarded; one that came in on an edge port without
EDGE_MGMT is answered as not allowed (R343, Table 13.7). -/
def Dev.mgmtRequest (d : Dev) (m : Meets) (early : Bool) : Dev :=
  match d.take fun h => h.sink == .mgmt with
  | (none, d) => d
  | (some f, d) =>
    if !d.mioOn then d else
    let h := mioHead f.bytes
    let body := mioBody f.bytes
    if decide (f.port.val < 4) && d.role f.port.val == 1 && !d.on fMIO_CFG_EDGE_MGMT then d.mgmtReply f (mgmtAnswer body 4 0 [])
    else if h.dest = 0 ∨ (h.dest = 4095 ∧ beAt body 3 1 ≠ 1) then d.inc rMIO_BAD_FRAME_CNT
    else if h.dest = 4095 then
      let on_ := if f.port.val < 4 then [otherPort f.port.val] else []
      let bus := d.mgmtBus 4095 && f.port.val != 4
      let d :=
        if on_.isEmpty && !bus then d
        else if h.hops ≤ 1 then d.inc rMIO_HOP_DROP_CNT
        else (d.mgmtFromEdge f).mgmtFlood on_ bus
          { hops := h.hops - 1, flags := h.flags, origin := h.origin, mac := h.mac, dest := h.dest, seq := h.seq } body
      d.mgmtExecute m f early
    else if d.mgmtMine h.dest then d.mgmtExecute m f early
    else (d.mgmtFromEdge f).mgmtForward f

/-- MGMT_RESPONSE: the oldest response handed over completes a request of this node's host, answers a request on the edge port it
came in on, or goes on (R343, R346). -/
def Dev.mgmtResponse (d : Dev) : Dev :=
  match d.take fun h => h.sink == .response with
  | (none, d) => d
  | (some f, d) =>
    if !d.mioOn then d else
    let h := mioHead f.bytes
    if h.dest = 0 ∨ h.dest = 4095 then d.inc rMIO_BAD_FRAME_CNT
    else if d.mgmtMine h.dest then d.reqResponse (mioBody f.bytes)
    else
      let body := mioBody f.bytes
      match d.mio.edges.find? (edgeKey h.dest body) with
      | some e =>
        if h.hops ≤ 1 then d.inc rMIO_HOP_DROP_CNT
        else d.mgmtOnPort e.port e.mac
          { hops := h.hops - 1, flags := h.flags, origin := h.origin, mac := h.mac, dest := h.dest, seq := h.seq } body
      | none => d.mgmtForward f

end Sys2Proof.Machine
end

