-- ==== Sys2Proof/Machine/Tick.lean ====
section
/-! DEFINITION. What crosses between islands and what a consumer does with it (R12 to R18, R31, R119, R467, Table 1.4), and
the retries of Table 1.17 at their deadlines (R38, R39). -/

namespace Sys2Proof.Machine

open Sys2Proof

/-! ## Tick words -/

/-- The clock of a consumer runs. -/
def Dev.consumerRuns (d : Dev) : Consumer → Bool
  | .core => d.domOn 1
  | .anv => d.anvRuns
  | .sap n => d.domOn (5 + n.val / 6)

/-- One sample's work of a consumer, or its rebase behaviour on the tick that carries `s`; `old` is its local index before. -/
def Dev.tickWork (d : Dev) (g : Nat) (c : Consumer) (old : Option Word64) (s : Word64) (rebase : Bool) : Dev :=
  match c with
  | .core =>
    let d := (d.mapBits (rSTX_ENMAPkk 0)).foldl (fun d ctx => if d.ctxMcg ctx = g then (d.stxTick ctx old s rebase).stxIdleFeed ctx s else d) d
    d.srxOrder.foldl (fun d ctx => if d.ctxMcg (rxCtx ctx) = g then d.srxTick ctx s rebase else d) d
  | .anv => d.anvTick old s rebase
  | .sap n => d.sapTick n.val s rebase

/-- `n` samples' work in index order, after index `l`. -/
def Dev.tickRun (d : Dev) (g : Nat) (c : Consumer) (l : Word64) : Nat → Dev
  | 0 => d
  | n + 1 => (d.tickWork g c (some l) (l + 1) false).tickRun g c (l + 1) n

/-- A consumer that follows the generator takes a word (Table 1.4); its first word is taken as d = 1 without REBASE. Before a
rebase, packets that are reached leave at their old instants (Table 6.1). -/
def Dev.tickTake (d : Dev) (g : Nat) (c : Consumer) (x : TickPath) (w : TickWord) : Dev :=
  let jump : Bool := match x.idx with
    | none => false
    | some l => w.rebase || decide (64 < sdiff64 w.sidx l) || x.fresh
  let d := if c = .core ∧ jump then d.emitAll g else d
  let moved := d.setPath g c { x with idx := some w.sidx, fresh := false }
  match x.idx with
  | none => moved.tickWork g c none w.sidx false
  | some l =>
    let diff := sdiff64 w.sidx l
    if w.rebase then moved.tickWork g c (some l) w.sidx true
    else if 64 < diff then ((moved.inc rGLB_TICK_SLIP_CNT).tickWork g c (some l) w.sidx true).raise 0x0001 g
    else if x.fresh then moved.tickWork g c (some l) w.sidx true
    else if diff ≤ 0 then (d.setPath g c x).inc rGLB_TICK_DUP_CNT
    else (moved.add rGLB_TICK_COAL_CNT (diff.toNat - 1)).tickRun g c l diff.toNat

/-- TICK_WORD: the consumer acts on the word delivered to it. Its clock must run (R14); the stream engine takes no ticks
while SEL is 0 (R467); a consumer that does not follow the generator drops it. -/
def Dev.tickWord (d : Dev) (g : Nat) (c : Consumer) : Dev :=
  let x := d.path g c
  match x.arrived with
  | none => d
  | some w =>
    let x := { x with arrived := none }
    if !d.consumerRuns c then d
    else if !(d.followers g).contains c then d.setPath g c { x with idx := none, fresh := false }
    else if c = .core ∧ !d.selAct then d.setPath g c x
    else d.tickTake g c x w

/-- TICK_HOLD_SEND: the word that waits is sent once the handshake before it has closed (R17). -/
def Dev.tickHoldSend (d : Dev) (g : Nat) (c : Consumer) : Dev := d.setPath g c (d.path g c).sendHeld

/-! ## Crossings (R12 to R14, R31) -/

/-- The clock of an island of Table 18.22 runs. -/
def Dev.islandRuns (d : Dev) (k : Nat) : Bool :=
  if k = 0 then d.domOn 1
  else if k = 1 then d.anvRuns
  else if k = 2 then d.timeRuns
  else if k ≤ 6 then d.domOn (6 + k)
  else if k ≤ 14 then d.domOn 4
  else if k ≤ 38 then d.domOn (5 + (k - 15) / 6)
  else if k = 39 then d.domOn 14 && d.selAct
  else if k = 40 then d.domOn 13
  else true

/-- The samples of a list with the one of index `s` silent. -/
def hush {α : Type} (z : α) (s : Word64) (l : List (Word64 × α)) : List (Word64 × α) := l.map fun e => if e.1 = s then (e.1, z) else e

/-- Channel `k` of sample `s` of a transmit context silent in assembly. -/
def StxSt.hush (x : StxSt) (s : Word64) (k : Nat) : StxSt :=
  let i := sdiff64 s x.base
  if i < 0 then x else { x with asm := x.asm.modify i.toNat fun f => f.set k (some 0) }

/-- The input samples that the block in progress has gathered, with the word of handle `h` at sample `s` silent; none where it has
not gathered that word. -/
def Dev.hushGathered (d : Dev) (b : AnvBlock) (h : Nat) (s : Word64) : Option AnvSt :=
  let xs := kget [] d.anv.sig (131072 + h)
  let i := sdiff64 s b.start
  if 0 ≤ i ∧ i < xs.length then
    some { d.anv with sig := kset [] d.anv.sig (131072 + h) (xs.set i.toNat 0) }
  else if h / 4096 ≠ 1 then none
  else
    (d.anv.rows.find? fun e => decide (d.cBase (rxCtx e.1) ≤ h % 4096 ∧ h % 4096 < d.cBase (rxCtx e.1) + d.cCh (rxCtx e.1)
      ∧ s.toNat ≤ e.2.1 ∧ e.2.1 < s.toNat + e.2.2.length)).map fun e =>
        { d.anv with rows := kset (0, []) d.anv.rows e.1 (e.2.1, e.2.2.modify (e.2.1 - s.toNat) fun r => r.set (h % 4096 - d.cBase (rxCtx e.1)) 0) }

/-- The word of an input handle at sample `s` is silent in Anvil: in the block in progress if that has gathered it, else in a gather
that is still to come. No job starts before the words of a gather are in (R229), so the jobs that have started take the silence
too; once a job has committed no such word comes (log entry 144). -/
def Dev.anvHush (d : Dev) (h : Nat) (s : Word64) : Dev :=
  match d.anv.block.bind fun b => (d.hushGathered b h s).map fun x => (b, x) with
  | some (b, x) =>
    if b.jobs.any (·.stage == .done) then d else
    let d := d.setAnv x
    d.setBlock { b with jobs := b.jobs.map fun r => match r.stage with
      | .running l again _ =>
        if (d.jobReads (d.jobOf r)).contains h then
          { r with stage := .running l again (d.runJob (d.jobOf r) b.start b.n r.reduced ((r.ext.map (·.2)).getD [])) }
        else r
      | _ => r }
  | none => d.setAnv { d.anv with hushed := d.anv.hushed ++ [(h, s)] }

/-- The word of handle `h` at sample `s` is silence to whatever takes it: Anvil's block, the serial port that owns the handle,
the transmit contexts that carry it (R31). -/
def Dev.hushWord (d : Dev) (h : Nat) (s : Word64) : Dev :=
  let idx := h % 4096
  match h / 4096 with
  | 1 => d.anvHush h s
  | 2 | 9 =>
    let k := idx % 8 + (if h / 4096 = 9 then 8 else 0)
    let x := d.sapOf (idx / 8)
    let c := kget {} x.ch k
    let d := if h / 4096 = 2 then d.anvHush h s else d
    d.setSap (idx / 8) { x with ch := kset {} x.ch k { c with raw := Machine.hush 0 s c.raw, done := Machine.hush (some 0) s c.done } }
  | 8 => d.stxOrder.foldl (fun d c =>
      if d.cBase c ≤ idx ∧ idx < d.cBase c + d.cCh c ∧ !fmtCrf (d.cFmt c) then d.setStx c ((d.stxOf c).hush s (idx - d.cBase c)) else d) d
  | _ => d

/-- CROSSING_WORD_DELIVER: a word becomes usable at its destination, once that island's clock runs. A sample word, of a handle
and a sample index, whose residue does not fit it is replaced with silence, counted, logged and reported (R31). -/
def Dev.crossing (d : Dev) (x : Crossing) : Dev :=
  match x with
  | .tick g c => if d.consumerRuns c then d.setPath g.val c (d.path g.val c).deliver else d
  | .sample src dst h s w r =>
    if 43 ≤ src ∨ 43 ≤ dst ∨ !d.islandRuns dst then d else
    let good := res w.toInt == r
    let d := { d with xing := kset 0 d.xing (64 * src + dst) (if good then w else 0) }
    if good then d else
    (((d.hushWord h.toNat s).inc rINT_RES_XING_CNT).capture fINT_RES_XING_LOG_VALID
      [(fINT_RES_XING_LOG_SRC, src), (fINT_RES_XING_LOG_DST, dst)]).raise 0x1301 src

/-! ## Deadlines (R38, R39, Table 1.17) -/

/-- DEADLINE_CANCEL: the deadline of a waiting result is reached: the fallback is taken and the retry cancelled. -/
def Dev.deadlineCancel (d : Dev) (k : RetryKind) (tag : Nat) : Dev :=
  match k with
  | .dram => if d.domOn 14 then d.dramCancel tag else d
  | .csma => d.cueFrameDeadline tag
  | .fabric => if d.reqTag = some tag then d.reqTimeout else d

/-- LATE_RESULT_DISCARD: a result whose tag is no longer outstanding is discarded and counted. A cue frame has no result that
could come late: its retry ends with the frame. -/
def Dev.lateDiscard (d : Dev) (k : RetryKind) (tag : Nat) : Dev :=
  match k with
  | .dram => if d.domOn 14 then d.dramLate tag else d
  | .csma => d
  | .fabric => if d.on fMIO_REQ_STS_BUSY && d.reqTag == some tag then d else d.inc rMIO_LATE_RSP_CNT

end Sys2Proof.Machine
end

