-- ==== Sys2Proof/Machine/Settle.lean ====
section
/-! DEFINITION. What follows a command at once: a detach that was due, the loader, the servos and the Halo unit see the new
state, and the interrupt balls follow their causes (R433). And what passes while no command waits. -/

namespace Sys2Proof.Machine

open Sys2Proof

/-- The interrupt balls as their causes drive them. -/
def Dev.showIrq (d : Dev) : Dev := { d with irqA := d.irqPinA, irqB := d.irqPinB }

/-- What follows a command at once. -/
def Dev.settle (d : Dev) : Dev := d.hotswapSettle.loaderSettle.ptpSettle.ppsSettle.haloSettle.showIrq

/-- No command waits: the Dawn policy reapplies what a failed check lost (R470), the power sequences that run end (log entry 62), one
TCLK edge passes, and what runs in CORE for a bounded time of its own completes (log entry 6). -/
def Dev.idle (d : Dev) : Dev :=
  let d := (if d.domOn 1 then d.reapplyStep else d).seqStep.edge
  (if d.domOn 1 then d.coreDone.hqTick else d).settle

/-- A command has had its effect: what follows it follows, and the commands that wait still wait. -/
def State.done (s : State) (d : Dev) : Host.Outcome State Fault Refusal := .next { s with dev := d.settle }

/-- The same for what a domain does of itself: `on` says that it is ON and its clock runs. What it holds stands still in any other
state, and what it would do then does not happen (R453, R455; log entry 216). -/
def State.doneIn (s : State) (on : Bool) (d : Dev) : Host.Outcome State Fault Refusal := s.done (if on then d else s.dev)

end Sys2Proof.Machine
end

