-- ==== Sys2Proof/Machine/ExecAudio.lean ====
section
/-! DEFINITION. The meanings of the commands of Anvil, the governor and the serial ports: one definition a command, over the operations of the files
before. -/

namespace Sys2Proof.Machine

open Sys2Proof

/-- ANV_ENABLE (R217): ANV_CTL.EN validates the chosen bank and makes it LIVE, or is refused. -/
def execAnvEnable (p : Port) (v : Word) (s : State) : Host.Outcome State Fault Refusal :=
  s.done (s.dev.writeWith {} p fANV_CTL_EN 1 v)

/-- ANV_DISABLE (R218): Writing EN = 0 completes the block in progress and runs no further block. -/
def execAnvDisable (p : Port) (v : Word) (s : State) : Host.Outcome State Fault Refusal :=
  s.done (s.dev.writeWith {} p fANV_CTL_EN 0 v)

/-- SCENE_SWAP (R220): SWAP validates the NEXT bank and sets a swap pending, timed or at the next block boundary. -/
def execSceneSwap (p : Port) (v : Word) (s : State) : Host.Outcome State Fault Refusal :=
  s.done (s.dev.writeWith {} p fANV_SCENE_CMD_OP 1 v)

/-- SCENE_CANCEL (R222): CANCEL ends a pending swap before its boundary and releases a timed claim. -/
def execSceneCancel (p : Port) (v : Word) (s : State) : Host.Outcome State Fault Refusal :=
  s.done (s.dev.writeWith {} p fANV_SCENE_CMD_OP 2 v)

/-- BLOCK_GATHER (R229): The tick closing a block reaches ANV; the gather phase moves NRX and SIN samples and the
block's job phase follows. -/
def execBlockGather (s : State) : Host.Outcome State Fault Refusal :=
  s.done s.dev.blockGather

/-- JOB_COMMIT (R197): A job ends without fault and its outputs are committed; the idle lane takes the next free
job. -/
def execJobCommit (lane : Fin 34) (k : Shadow) (s : State) : Host.Outcome State Fault Refusal :=
  s.done (s.dev.jobCommit lane.val k)

/-- LANE_RESIDUE_FAULT (R224): A residue fault stops a job; it is re-executed on a spare lane or takes the fallback.
-/
def execLaneResidueFault (lane : Fin 34) (slack : Bool) (s : State) : Host.Outcome State Fault Refusal :=
  s.done (s.dev.laneFault lane.val slack)

/-- JOB_DEADLINE_MISS (R247): A job has not committed by cycle D and writes its faded fallback. -/
def execJobDeadlineMiss (bank : Fin 2) (entry : Fin 32768) (s : State) : Host.Outcome State Fault Refusal :=
  s.done (s.dev.deadlineMiss bank.val entry.val)

/-- DRAM_READ_RETURN (R209): A DDELAY or PLAY external read returns and the job becomes free. -/
def execDramReadReturn (bank : Fin 2) (entry : Fin 32768) (ce : Option (Nat × Nat × Nat)) (s : State) :
    Host.Outcome State Fault Refusal :=
  s.done (s.dev.dramReadReturn bank.val entry.val ce)

/-- SENSOR_SAMPLE (R235): The 1 ms sensor sample gives Tj, from which the power cap and budget are computed. -/
def execSensorSample (rs : List Int) (s : State) : Host.Outcome State Fault Refusal :=
  s.done (s.dev.sensorSample rs)

/-- SAP_ENABLE (R258): Enabling a serial port checks its control and starts it, or refuses it with a code. -/
def execSapEnable (n : Fin 24) (p : Port) (v : Word) (s : State) : Host.Outcome State Fault Refusal :=
  s.done (s.dev.writeWith {} p (fSAPnn_CTL_EN n.val) 1 v)

/-- SAP_DISABLE (R272): Writing EN = 0 completes the frame, clears the ASRC and releases the port's balls. -/
def execSapDisable (n : Fin 24) (p : Port) (v : Word) (s : State) : Host.Outcome State Fault Refusal :=
  s.done (s.dev.writeWith {} p (fSAPnn_CTL_EN n.val) 0 v)

/-- SAP_FRAME (R269): A frame of a serial port completes and is checked; a word-select fault discards it and sets
RESYNC. A gather that waits for the frame's words goes on (R260). -/
def execSapFrame (n : Fin 24) (ws : BitVec 65) (lanes : List (BitVec 65)) (ratio : Nat) (drift : Bool) (s : State) :
    Host.Outcome State Fault Refusal :=
  s.done (s.dev.sapFrame n.val ws.toNat (lanes.map BitVec.toNat) ratio drift).anvWait

/-- SLOT_MASK_WRITE (R263): A write to SAPnn_SLOT_MASK is held with MASK_PEND until its frame, claiming DMX-shared
pairs. -/
def execSlotMaskWrite (n : Fin 24) (p : Port) (v : Word) (s : State) : Host.Outcome State Fault Refusal :=
  s.done (s.dev.busWrite {} p (rSAPnn_SLOT_MASK n.val) .b32 v)

/-- SLOT_MASK_APPLY (R263): A held slot mask applies at the next frame-opening WS edge. -/
def execSlotMaskApply (n : Fin 24) (s : State) : Host.Outcome State Fault Refusal :=
  s.done (s.dev.sapMaskApply n.val)

/-- SAP_CH_START (R266): START makes the selected channels wait for a zero crossing to become audible. -/
def execSapChStart (n : Fin 24) (p : Port) (v : Word) (s : State) : Host.Outcome State Fault Refusal :=
  s.done (s.dev.writeWith {} p (fSAPnn_CH_CMD_OP n.val) 1 v)

/-- SAP_CH_STOP (R266): STOP makes the selected channels wait for a zero crossing to fall silent. -/
def execSapChStop (n : Fin 24) (p : Port) (v : Word) (s : State) : Host.Outcome State Fault Refusal :=
  s.done (s.dev.writeWith {} p (fSAPnn_CH_CMD_OP n.val) 2 v)

/-- SAP_CH_MUTE (R266): MUTE sets the selected channels muted at their next zero crossing. -/
def execSapChMute (n : Fin 24) (p : Port) (v : Word) (s : State) : Host.Outcome State Fault Refusal :=
  s.done (s.dev.writeWith {} p (fSAPnn_CH_CMD_OP n.val) 3 v)

/-- SAP_CH_UNMUTE (R266): UNMUTE clears mute on the selected channels at their next zero crossing. -/
def execSapChUnmute (n : Fin 24) (p : Port) (v : Word) (s : State) : Host.Outcome State Fault Refusal :=
  s.done (s.dev.writeWith {} p (fSAPnn_CH_CMD_OP n.val) 4 v)

/-- ZERO_CROSSING (R266): A waiting channel's samples cross zero and the change applies from that sample. -/
def execZeroCrossing (n : Fin 24) (c : Fin 16) (s : State) : Host.Outcome State Fault Refusal :=
  s.done (s.dev.sapCross n.val c.val)

/-- ZC_TIMEOUT (R267): ZC_TO passes without a crossing; the channel ramps along ZC_CURVE and ZC_TO_CNT increments.
-/
def execZcTimeout (n : Fin 24) (c : Fin 16) (s : State) : Host.Outcome State Fault Refusal :=
  s.done (s.dev.sapCross n.val c.val)

/-- ASRC_LOCK (R262): The ASRC locks after the first valid frame and its channels fade in. -/
def execAsrcLock (n : Fin 24) (ratio : Nat) (s : State) : Host.Outcome State Fault Refusal :=
  s.done (s.dev.asrcLock n.val ratio)

/-- SAP_CLK_LOSS (R270): A slave port sees no BCLK edge for 4 frame periods and sets CLK_LOSS. -/
def execSapClkLoss (n : Fin 24) (s : State) : Host.Outcome State Fault Refusal :=
  s.done (s.dev.sapClkLoss n.val)

end Sys2Proof.Machine
end

