-- ==== Sys2Proof/Machine/ExecFabric.lean ====
section
/-! DEFINITION. The meanings of the commands of the Miodal fabric: one definition a command, over the operations of the files
before. -/

namespace Sys2Proof.Machine

open Sys2Proof

/-- MIO_ENABLE (R347): Enabling the fabric checks roles and FNIDs and starts Miodal, or refuses it. -/
def execMioEnable (p : Port) (v : Word) (s : State) : Host.Outcome State Fault Refusal :=
  s.done (s.dev.writeWith {} p fMIO_CFG_EN 1 v)

/-- MIO_DISABLE (R347): Writing EN = 0 stops Miodal frames, flushes learned entries and releases the FNID. -/
def execMioDisable (p : Port) (v : Word) (s : State) : Host.Outcome State Fault Refusal :=
  s.done (s.dev.writeWith {} p fMIO_CFG_EN 0 v)

/-- MIO_TBL_WRITE (R330): A table command writes one forwarding or route entry from MIO_TBL_DATA. -/
def execMioTblWrite (p : Port) (v : Word) (s : State) : Host.Outcome State Fault Refusal :=
  s.done (s.dev.writeWith {} p fMIO_TBL_CMD_OP 1 v)

/-- MIO_TBL_READ (R330): A table command reads one entry into MIO_TBL_DATA. -/
def execMioTblRead (p : Port) (v : Word) (s : State) : Host.Outcome State Fault Refusal :=
  s.done (s.dev.writeWith {} p fMIO_TBL_CMD_OP 2 v)

/-- MIO_TBL_INVALIDATE (R330): A table command invalidates one entry. -/
def execMioTblInvalidate (p : Port) (v : Word) (s : State) : Host.Outcome State Fault Refusal :=
  s.done (s.dev.writeWith {} p fMIO_TBL_CMD_OP 3 v)

/-- DISC_PERIOD (R332): The 10 ms DISC period elapses and a DISC is sent on each chain port. -/
def execDiscPeriod (s : State) : Host.Outcome State Fault Refusal :=
  s.doneIn (s.dev.domOn 1) s.dev.discPeriod

/-- PROBE_PERIOD (R332): The 1 ms PROBE period elapses and a PROBE is sent on each chain port. -/
def execProbePeriod (s : State) : Host.Outcome State Fault Refusal :=
  s.doneIn (s.dev.domOn 1) s.dev.probePeriod

/-- DISC_RECEIVE (R334): A received DISC refreshes the topology database, routes, rings and FNID state and is
forwarded once. -/
def execDiscReceive (s : State) : Host.Outcome State Fault Refusal :=
  s.doneIn (s.dev.domOn 1) s.dev.discReceive

/-- PROBE_RECEIVE (R333): A received PROBE keeps its chain port from declaring loss. -/
def execProbeReceive (s : State) : Host.Outcome State Fault Refusal :=
  s.doneIn (s.dev.domOn 1) s.dev.probeReceive

/-- TOPO_LINK_DOWN (R340): A received TOPO LINK_DOWN flushes the network's entries, blocks a local end and moves the
break. -/
def execTopoLinkDown (s : State) : Host.Outcome State Fault Refusal :=
  s.doneIn (s.dev.domOn 1) s.dev.topoLinkDown

/-- TOPO_BREAK_SET (R341): A received TOPO BREAK_SET releases restoring links that it does not name. -/
def execTopoBreakSet (s : State) : Host.Outcome State Fault Refusal :=
  s.doneIn (s.dev.domOn 1) s.dev.topoBreakSet

/-- CHAIN_PORT_LOSS (R333): A chain port's link falls or it hears no Miodal frame for 3 ms; it is blocked as lost
and TOPO is sent. -/
def execChainPortLoss (n : Fin 4) (s : State) : Host.Outcome State Fault Refusal :=
  s.doneIn (s.dev.domOn 1) (s.dev.chainPortLoss n.val)

/-- NO_PEER_TIMEOUT (R325): A chain port with link up hears no DISC for 30 ms and is blocked with no peer. -/
def execNoPeerTimeout (n : Fin 4) (s : State) : Host.Outcome State Fault Refusal :=
  s.doneIn (s.dev.domOn 1) (s.dev.noPeerTimeout n.val)

/-- NODE_TIMEOUT (R334): A node not seen for 30 ms is removed from the topology database. -/
def execNodeTimeout (net : Fin 2) (mac : BitVec 48) (s : State) : Host.Outcome State Fault Refusal :=
  s.doneIn (s.dev.domOn 1) (s.dev.nodeTimeout net.val mac.toNat)

/-- RING_TIMEOUT (R339): No own DISC returns for 30 ms and the ring flag clears. -/
def execRingTimeout (net : Fin 2) (s : State) : Host.Outcome State Fault Refusal :=
  s.doneIn (s.dev.domOn 1) (s.dev.ringTimeout net.val)

/-- RESTORE_TIMEOUT (R341): A restoring link not named by a BREAK_SET for 30 ms is released as part of a chain. -/
def execRestoreTimeout (n : Fin 4) (s : State) : Host.Outcome State Fault Refusal :=
  s.doneIn (s.dev.domOn 1) (s.dev.restoreTimeout n.val)

/-- SEG_OVER_TIMEOUT (R335): No DISC from a 129th node arrives for 30 ms and SEG_OVER clears. -/
def execSegOverTimeout (net : Fin 2) (s : State) : Host.Outcome State Fault Refusal :=
  s.doneIn (s.dev.domOn 1) (s.dev.segOverTimeout net.val)

/-- FNID_LISTEN_END (R336): 30 ms of LISTEN end and the node chooses an FNID and enters CLAIM. -/
def execFnidListenEnd (s : State) : Host.Outcome State Fault Refusal :=
  s.doneIn (s.dev.domOn 1) s.dev.fnidListenEnd

/-- FNID_CLAIM_END (R336): 30 ms of CLAIM end without conflict and the node enters ASSIGNED. -/
def execFnidClaimEnd (s : State) : Host.Outcome State Fault Refusal :=
  s.doneIn (s.dev.domOn 1) s.dev.fnidClaimEnd

/-- ADDRESS_AGE (R328): A dynamic learned entry not refreshed within AGE_S is removed. -/
def execAddressAge (i : Fin 16384) (s : State) : Host.Outcome State Fault Refusal :=
  s.doneIn (s.dev.domOn 1) (s.dev.addressAge i.val)

/-- MGMT_REQUEST (R343): An MGMT request is consumed and executed, answered from the store, or routed onward. -/
def execMgmtRequest (m : Meets) (early : Bool) (s : State) : Host.Outcome State Fault Refusal :=
  s.doneIn (s.dev.domOn 1) (s.dev.mgmtRequest m early)

/-- MGMT_RESPONSE (R346): A response with an outstanding tag completes the host's fabric request. -/
def execMgmtResponse (s : State) : Host.Outcome State Fault Refusal :=
  s.doneIn (s.dev.domOn 1) s.dev.mgmtResponse

/-- MIO_REQ_READ (R346): MIO_REQ_CMD READ sends a fabric read request. -/
def execMioReqRead (p : Port) (v : Word) (s : State) : Host.Outcome State Fault Refusal :=
  s.done (s.dev.writeWith {} p fMIO_REQ_CMD_OP 1 v)

/-- MIO_REQ_WRITE (R346): MIO_REQ_CMD WRITE sends a fabric write request. -/
def execMioReqWrite (p : Port) (v : Word) (s : State) : Host.Outcome State Fault Refusal :=
  s.done (s.dev.writeWith {} p fMIO_REQ_CMD_OP 2 v)

/-- MIO_REQ_INBOX (R346): MIO_REQ_CMD INBOX sends a fabric inbox request. -/
def execMioReqInbox (p : Port) (v : Word) (s : State) : Host.Outcome State Fault Refusal :=
  s.done (s.dev.writeWith {} p fMIO_REQ_CMD_OP 3 v)

/-- MIO_REQ_RETX (R346): RETX_MS passes without a response and the request is retransmitted. -/
def execMioReqRetx (s : State) : Host.Outcome State Fault Refusal :=
  s.doneIn (s.dev.domOn 1) s.dev.reqRetx

/-- MIO_REQ_TIMEOUT (R346): TIMEOUT_MS is reached; retransmission is cancelled and RESULT becomes timeout. -/
def execMioReqTimeout (s : State) : Host.Outcome State Fault Refusal :=
  s.doneIn (s.dev.domOn 1) s.dev.reqTimeout

end Sys2Proof.Machine
end

