-- ==== Sys2Proof/Machine/ExecHalo.lean ====
section
/-! DEFINITION. The meanings of the commands of Halo unit redundancy: one definition a command, over the operations of the files
before. -/

namespace Sys2Proof.Machine

open Sys2Proof

/-- HALO_ENABLE (R382): Enabling Halo starts heartbeats and enters INIT, or is refused with a code. -/
def execHaloEnable (p : Port) (v : Word) (s : State) : Host.Outcome State Fault Refusal :=
  s.done (s.dev.writeWith {} p fHALO_CFG_EN 1 v)

/-- HALO_DISABLE (R398): Writing EN = 0 detaches an active unit or returns another unit to OFF. -/
def execHaloDisable (p : Port) (v : Word) (s : State) : Host.Outcome State Fault Refusal :=
  s.done (s.dev.writeWith {} p fHALO_CFG_EN 0 v)

/-- HEARTBEAT_DUE (R384): The 250 µs heartbeat period elapses and a heartbeat is sent on both paths. -/
def execHeartbeatDue (s : State) : Host.Outcome State Fault Refusal :=
  s.doneIn (s.dev.domOn 1) s.dev.heartbeatDue

/-- WIRE_HEARTBEAT (R384): A pulse on HALO_HBI is decoded as the partner's state, or counted as invalid. -/
def execWireHeartbeat (w : Nat) (s : State) : Host.Outcome State Fault Refusal :=
  s.doneIn (s.dev.domOn 1) (s.dev.wireHeartbeat w)

/-- HEARTBEAT_FRAME (R386): A network heartbeat frame is validated and updates the partner state. -/
def execHeartbeatFrame (s : State) : Host.Outcome State Fault Refusal :=
  s.doneIn (s.dev.domOn 1) s.dev.heartbeatFrame

/-- HALO_PARTNER_LOST (R387): Both heartbeat paths are silent and the partner is lost. -/
def execHaloPartnerLost (s : State) : Host.Outcome State Fault Refusal :=
  s.doneIn (s.dev.domOn 1) s.dev.haloPartnerLost

/-- HALO_INIT_TIMEOUT (R388): 2.0 ms pass in INIT without hearing the partner and the unit becomes ACTIVE. -/
def execHaloInitTimeout (s : State) : Host.Outcome State Fault Refusal :=
  s.doneIn (s.dev.domOn 1) s.dev.haloInitTimeout

/-- HALO_REQ_TIMEOUT (R390): The partner is not heard ACTIVE within 2.0 ms of REQ and the request is refused. -/
def execHaloReqTimeout (s : State) : Host.Outcome State Fault Refusal :=
  s.doneIn (s.dev.domOn 1) s.dev.haloReqTimeout

/-- HALO_SWITCH (R390): HALO_CMD SWITCH sets REQ on an active unit. -/
def execHaloSwitch (p : Port) (v : Word) (s : State) : Host.Outcome State Fault Refusal :=
  s.done (s.dev.writeWith {} p fHALO_CMD_OP 1 v)

/-- HALO_RECLAIM_NOW (R395): HALO_CMD RECLAIM_NOW makes a standby primary reclaim at once when fit and ready. -/
def execHaloReclaimNow (p : Port) (v : Word) (s : State) : Host.Outcome State Fault Refusal :=
  s.done (s.dev.writeWith {} p fHALO_CMD_OP 2 v)

/-- RECLAIM_EXPIRY (R395): The reclaim count of a standby primary expires and it becomes ACTIVE. -/
def execReclaimExpiry (s : State) : Host.Outcome State Fault Refusal :=
  s.doneIn (s.dev.domOn 1) s.dev.reclaimExpiry

/-- DETACH_TIMEOUT (R398): 1.5 ms pass in DETACH without hearing the partner ACTIVE and the unit drops HALO_ACT. -/
def execDetachTimeout (s : State) : Host.Outcome State Fault Refusal :=
  s.doneIn (s.dev.domOn 1) s.dev.detachTimeout

/-- HALO_ROLE_LOCK (R380): A write of LOCK to HALO_ROLE_CFG locks the role until reset. -/
def execHaloRoleLock (p : Port) (v : Word) (s : State) : Host.Outcome State Fault Refusal :=
  s.done (s.dev.writeWith {} p fHALO_ROLE_CFG_LOCK 1 v)

/-- HEARTBEAT_PATH_SILENT (R387): One Halo heartbeat path receives no valid heartbeat for 1 020 µs and its WIRE_OK
or NET_OK clears while the other path still works. -/
def execHeartbeatPathSilent (path : Option (Fin 4)) (s : State) : Host.Outcome State Fault Refusal :=
  s.doneIn (s.dev.domOn 1) (s.dev.heartbeatPathSilent (path.map Fin.val))

/-- HALO_PACT_CHANGE (R393): The HALO_PACT ball changes level, updating HALO_STS.PACT and setting or clearing SPLIT
on a unit that is ACTIVE with both paths silent. -/
def execHaloPactChange (level : Bool) (s : State) : Host.Outcome State Fault Refusal :=
  s.done (s.dev.haloPactChange level)

end Sys2Proof.Machine
end

