-- ==== Sys2Proof/Machine/ExecHost.lean ====
section
/-! DEFINITION. The meanings of the commands of host queues and the host ports: one definition a command, over the operations of the files
before. -/

namespace Sys2Proof.Machine

open Sys2Proof

/-- HQ_POP (R405): A 32-bit read of HQnn_POP pops a word, returns its tag and loads the port's DATA copy. -/
def execHqPop (q : Fin 32) (p : Port) (x : PopAt) (s : State) : Host.Outcome State Fault Refusal :=
  let d := (s.dev.busRead p (rHQnn_POP q.val) x.size).2
  s.done (if x.store then s.dev.hqCycle q.val (d.hqStoreNext q.val) else d)

/-- HQ_FLUSH (R409): FLUSH sets FLUSH_PEND and discards the queue, at once or at the producer's end mark. -/
def execHqFlush (q : Fin 32) (p : Port) (v : Word) (m : Meets) (s : State) : Host.Outcome State Fault Refusal :=
  s.done (s.dev.writeWith m p (fHQnn_CMD_FLUSH q.val) 1 v)

/-- HQ_FLUSH_COMPLETE (R409): The flush takes effect at the end mark of the packet in progress. -/
def execHqFlushComplete (q : Fin 32) (s : State) : Host.Outcome State Fault Refusal :=
  s.doneIn (s.dev.domOn 1) (s.dev.hqFlushDone q.val)

/-- HQ_POINTER_MISMATCH (R410): The duplicate queue pointers disagree and the queue resets, raising QERR. -/
def execHqPointerMismatch (q : Fin 32) (s : State) : Host.Outcome State Fault Refusal :=
  s.doneIn (s.dev.domOn 1) (s.dev.hqMismatch q.val)

/-- HQ_WM_WRITE (R412): A write to HQnn_WM re-evaluates the queue's watermark state. -/
def execHqWmWrite (q : Fin 32) (p : Port) (x : WmWrite) (s : State) : Host.Outcome State Fault Refusal :=
  let d := s.dev.busWrite {} p (rHQnn_WM q.val) .b32 x.word
  s.done (if x.store then s.dev.hqCycle q.val (d.hqStoreNext q.val) else d)

/-- FC_MAP_WRITE (R413): A write to HQ_FC_MAP claims or releases an FC ball group. -/
def execFcMapWrite (hi : Bool) (p : Port) (v : Word) (s : State) : Host.Outcome State Fault Refusal :=
  s.done (s.dev.busWrite {} p (if hi then rHQ_FC_MAP_H else rHQ_FC_MAP_L) .b32 v)

/-- HQ_ENABLE (R414): Writing HQnn_CFG.EN accepts or refuses packets from the next packet boundary. -/
def execHqEnable (q : Fin 32) (p : Port) (v : Word) (s : State) : Host.Outcome State Fault Refusal :=
  s.done (s.dev.busWrite {} p (rHQnn_CFG q.val) .b32 v)

/-- SPI_TRANSACTION (R421): An SPI transaction from SPI_CS_N fall to rise performs its accesses and returns status.
-/
def execSpiTransaction (m : Meets) (x : SpiXact) (s : State) : Host.Outcome State Fault Refusal :=
  s.done (s.dev.spiTransaction m x)

/-- SPI_ABORT (R423): SPI_CS_N rises before the transaction is complete and it is counted as aborted. -/
def execSpiAbort (m : Meets) (x : SpiXact) (bytes itemsOut : Nat) (inStatus : Bool) (s : State) :
    Host.Outcome State Fault Refusal :=
  s.done (s.dev.spiAbort m x bytes itemsOut inStatus)

/-- CMP_WRITE (R424): A CMP write transaction writes 32-bit words at advancing addresses. -/
def execCmpWrite (m : Meets) (addr : CmpAddr) (ws : List Word) (s : State) : Host.Outcome State Fault Refusal :=
  s.done (s.dev.cmpWrite m addr ws)

/-- CMP_READ (R424): A CMP read transaction reads 32-bit words at advancing addresses. -/
def execCmpRead (m : Meets) (addr : CmpAddr) (n : Nat) (s : State) : Host.Outcome State Fault Refusal :=
  s.done (s.dev.cmpRead m addr n)

/-- CMP_ABORT (R424): STOP arrives with a CMP write word incomplete; it is discarded and counted. -/
def execCmpAbort (m : Meets) (addr : CmpAddr) (ws : List Word) (s : State) : Host.Outcome State Fault Refusal :=
  s.done (s.dev.cmpAbort m addr ws)

/-- REGISTER_WRITE (R419): A write to a register with no row of its own passes the access checks and is performed.
-/
def execRegisterWrite (m : Meets) (p : Port) (addr : BitVec 24) (size : AccSize) (v : Word) (s : State) :
    Host.Outcome State Fault Refusal :=
  s.done (s.dev.busWrite m p addr.toNat size v)

/-- IGN_REC_POP (R429): A 32-bit read of GLB_IGN_REC_L pops the oldest ignore entry and latches its second half. -/
def execIgnRecPop (p : Port) (s : State) : Host.Outcome State Fault Refusal :=
  s.done ((s.dev.busRead p rGLB_IGN_REC_L .b32).2)

/-- MBX_DATA_WRITE (R437): A CMP write to GLB_MBX_DATA appends four bytes to the mailbox staging buffer. -/
def execMbxDataWrite (p : Port) (v : Word) (s : State) : Host.Outcome State Fault Refusal :=
  s.done (s.dev.busWrite {} p rGLB_MBX_DATA .b32 v)

/-- MBX_POST (R437): POST pushes the staged mailbox bytes to a host queue, or answers from a stored tag or refuses.
-/
def execMbxPost (p : Port) (v : Word) (s : State) : Host.Outcome State Fault Refusal :=
  s.done (s.dev.writeWith {} p fGLB_MBX_CMD_OP 1 v)

/-- MBX_CLEAR (R437): CLEAR empties the mailbox staging buffer. -/
def execMbxClear (p : Port) (v : Word) (s : State) : Host.Outcome State Fault Refusal :=
  s.done (s.dev.writeWith {} p fGLB_MBX_CMD_OP 2 v)

/-- WDOG_KICK (R444): A write to GLB_WDOG_KICK reloads the watchdog with the right key or counts a bad key. -/
def execWdogKick (p : Port) (v : Word) (s : State) : Host.Outcome State Fault Refusal :=
  s.done (s.dev.busWrite {} p rGLB_WDOG_KICK .b32 v)

end Sys2Proof.Machine
end

