-- ==== Sys2Proof/Machine/ExecMedia.lean ====
section
/-! DEFINITION. The meanings of the commands of media clock generators and stream contexts: one definition a command, over the operations of the files
before. -/

namespace Sys2Proof.Machine

open Sys2Proof

/-- MCG_ENABLE (R104): Enabling a generator checks its control and source and enters ACQ, or is refused with a code.
-/
def execMcgEnable (n : Fin 8) (p : Port) (v : Word) (s : State) : Host.Outcome State Fault Refusal :=
  s.done (s.dev.writeWith {} p (fMCGn_CTL_EN n.val) 1 v)

/-- MCG_DISABLE (R110): Writing EN = 0 stops the generator's ticks after the tick in progress and enters OFF. -/
def execMcgDisable (n : Fin 8) (p : Port) (v : Word) (s : State) : Host.Outcome State Fault Refusal :=
  s.done (s.dev.writeWith {} p (fMCGn_CTL_EN n.val) 0 v)

/-- MCG_SRC_WRITE (R105): A change of source takes effect on the next tick and the generator enters ACQ on the new
source. -/
def execMcgSrcWrite (n : Fin 8) (p : Port) (v : Word) (s : State) : Host.Outcome State Fault Refusal :=
  s.done (s.dev.busWrite {} p (rMCGn_SRC n.val) .b32 v)

/-- MCG_PHASE_MEASURE (R110): The generator's 1 ms phase measurement is taken and drives its lock-state transitions.
-/
def execMcgPhaseMeasure (n : Fin 8) (err freq : Int) (s : State) : Host.Outcome State Fault Refusal :=
  s.done (s.dev.mcgMeasure n.val err freq)

/-- MCG_SOURCE_LOSS (R103): A generator's source meets its loss condition; SRC_OK clears and the generator goes to
HOLD or waits. -/
def execMcgSourceLoss (n : Fin 8) (s : State) : Host.Outcome State Fault Refusal :=
  s.doneIn (s.dev.domOn 4) (s.dev.mcgLoss n.val)

/-- MCG_SOURCE_QUALIFIED (R103): A generator's source meets its qualification condition and the generator moves
toward LOCK. -/
def execMcgSourceQualified (n : Fin 8) (s : State) : Host.Outcome State Fault Refusal :=
  s.doneIn (s.dev.domOn 4) (s.dev.mcgQualified n.val)

/-- MCG_FREE (R110): HOLD_LIMIT elapses in HOLD; the generator goes to FREE and raises MCG_FREE. -/
def execMcgFree (n : Fin 8) (s : State) : Host.Outcome State Fault Refusal :=
  s.doneIn (s.dev.domOn 4) (s.dev.mcgFree n.val)

/-- MCG_JUMP_TICK (R114): After a step or a failed slew test the generator issues its jump tick with REBASE on the
aligned boundary. -/
def execMcgJumpTick (n : Fin 8) (s : State) : Host.Outcome State Fault Refusal :=
  s.done (s.dev.mcgJump n.val)

/-- MCLK_ENABLE (R116): MCGn_MCLK_CFG.EN starts or ends MCLK_OUTn at a sample boundary. -/
def execMclkEnable (n : Fin 8) (p : Port) (v : Word) (s : State) : Host.Outcome State Fault Refusal :=
  s.done (s.dev.busWrite {} p (rMCGn_MCLK_CFG n.val) .b32 v)

/-- STX_ENABLE (R135): ENABLE runs the admission checks on a transmit context and starts it in STATE 1, or refuses
it. -/
def execStxEnable (p : Port) (v : Word) (s : State) : Host.Outcome State Fault Refusal :=
  s.done (s.dev.writeWith {} p fSTX_CMD_OP 1 v)

/-- STX_DISABLE (R158): DISABLE discards the context's unqueued packets, counts them and sets STATE 0. -/
def execStxDisable (p : Port) (v : Word) (s : State) : Host.Outcome State Fault Refusal :=
  s.done (s.dev.writeWith {} p fSTX_CMD_OP 2 v)

/-- STX_MUTE (R159): MUTE sets MUTED and ramps the transmit context's gain to 0 over 32 samples. -/
def execStxMute (p : Port) (v : Word) (s : State) : Host.Outcome State Fault Refusal :=
  s.done (s.dev.writeWith {} p fSTX_CMD_OP 3 v)

/-- STX_UNMUTE (R159): UNMUTE clears MUTED and ramps the transmit context's gain back to 1. -/
def execStxUnmute (p : Port) (v : Word) (s : State) : Host.Outcome State Fault Refusal :=
  s.done (s.dev.writeWith {} p fSTX_CMD_OP 4 v)

/-- STX_QUEUED_CMD (R140): A stream command held one deep starts when the command before it completes. -/
def execStxQueuedCmd (tx : Bool) (s : State) : Host.Outcome State Fault Refusal :=
  s.doneIn (s.dev.domOn 1) (if tx then s.dev.stxQueued else s.dev.srxQueued)

/-- PACKET_EMIT (R148): A transmit packet's t_emit is reached; its copies are enqueued on each egress port, or the
late packet is discarded. -/
def execPacketEmit (c : Fin 512) (s : State) : Host.Outcome State Fault Refusal :=
  s.doneIn (s.dev.domOn 1) (s.dev.packetEmit c.val)

/-- SRX_ENABLE (R135): ENABLE runs the admission checks on a receive context and enters ACQUIRE, or refuses it. -/
def execSrxEnable (p : Port) (v : Word) (s : State) : Host.Outcome State Fault Refusal :=
  s.done (s.dev.writeWith {} p fSRX_CMD_OP 1 v)

/-- SRX_DISABLE (R189): DISABLE returns a receive context to IDLE with its channels silent from the next read. -/
def execSrxDisable (p : Port) (v : Word) (s : State) : Host.Outcome State Fault Refusal :=
  s.done (s.dev.writeWith {} p fSRX_CMD_OP 2 v)

/-- SRX_MUTE (R188): MUTE ramps a receive context's gain to 0 from the first read after completion. -/
def execSrxMute (p : Port) (v : Word) (s : State) : Host.Outcome State Fault Refusal :=
  s.done (s.dev.writeWith {} p fSRX_CMD_OP 3 v)

/-- SRX_UNMUTE (R188): UNMUTE ramps a receive context's gain back to 1. -/
def execSrxUnmute (p : Port) (v : Word) (s : State) : Host.Outcome State Fault Refusal :=
  s.done (s.dev.writeWith {} p fSRX_CMD_OP 4 v)

/-- STREAM_COPY (R165): A classified copy of a stream packet passes the tests of Table 7.1 and is accepted and
written, or discarded and counted. -/
def execStreamCopy (s : State) : Host.Outcome State Fault Refusal :=
  s.doneIn (s.dev.domOn 1) s.dev.streamCopy

/-- STREAM_LOSS_TIMEOUT (R182): LOSS_TO_MS expires in CONCEAL or REALIGN; the stream is lost and the context returns
to ACQUIRE. -/
def execStreamLossTimeout (c : Fin 512) (s : State) : Host.Outcome State Fault Refusal :=
  s.doneIn (s.dev.domOn 1) (s.dev.streamLossTimeout c.val)

/-- GRP_WAIT_EXPIRY (R184): GRP_WAIT_MS passes after a group member records its p and the group start sample is
fixed. -/
def execGrpWaitExpiry (grp : BitVec 8) (realign : Bool) (s : State) : Host.Outcome State Fault Refusal :=
  s.doneIn (s.dev.domOn 1) (s.dev.grpWaitExpiry grp.toNat realign)

/-- DEEP_STAGING_COPY (R176): A deep span's copy from external memory into the staging ring completes. -/
def execDeepStagingCopy (c : Fin 512) (s : State) : Host.Outcome State Fault Refusal :=
  s.doneIn (s.dev.domOn 1 && s.dev.domOn 14) (s.dev.deepStagingCopy c.val)

/-- CRF_CONCEAL_TIMEOUT (R190): A CRF context accepts no copy for 10 ms and enters CONCEAL. -/
def execCrfConcealTimeout (c : Fin 512) (s : State) : Host.Outcome State Fault Refusal :=
  s.doneIn (s.dev.domOn 1) (s.dev.crfConcealTimeout c.val)

end Sys2Proof.Machine
end

