-- ==== Sys2Proof/Machine/ExecMemory.lean ====
section
/-! DEFINITION. The meanings of the commands of error protection, repair and external memory: one definition a command, over the operations of the files
before. -/

namespace Sys2Proof.Machine

open Sys2Proof

/-- SCRUB_READ (R522): A sub-bank's patrol scrubber reads its next word. -/
def execScrubRead (array sub word : Nat) (err : Option (Bool × BitVec 8)) (s : State) :
    Host.Outcome State Fault Refusal :=
  s.doneIn (s.dev.domOn 1) (s.dev.scrubRead array sub word err)

/-- ROW_MIGRATED (R529): A live row migration completes and the row is mapped to a spare. -/
def execRowMigrated (array sub row : Nat) (s : State) : Host.Outcome State Fault Refusal :=
  s.doneIn (s.dev.domOn 1) (s.dev.rowMigrated array sub row)

/-- TRACKER_ENTRY_EXPIRY (R528): WIN_MIN passes since a tracker entry's first error and the entry is freed. -/
def execTrackerEntryExpiry (array sub row : Nat) (s : State) : Host.Outcome State Fault Refusal :=
  s.doneIn (s.dev.domOn 1) (s.dev.trackExpiry array sub row)

/-- REPAIR_WRITEBACK (R533): A pending repair record write-back starts 10 s after its first change. -/
def execRepairWriteback (s : State) : Host.Outcome State Fault Refusal :=
  s.doneIn (s.dev.domOn 1) s.dev.repairWriteback

/-- REPAIR_WRITEBACK_DONE (R533): The record write-back completes or fails, to be retried 60 s later. -/
def execRepairWritebackDone (ok : Bool) (s : State) : Host.Outcome State Fault Refusal :=
  s.doneIn (s.dev.domOn 1) (s.dev.repairWritebackDone ok)

/-- FATAL_ERROR (R536): A fatal error writes its cause to the start record and forces a watchdog reset. -/
def execFatalError (s : State) : Host.Outcome State Fault Refusal :=
  s.done s.dev.fatalError

/-- FATAL_LOG_CLR (R536): Writing INT_FATAL_LOG.CLR clears VALID and CAUSE. -/
def execFatalLogClr (p : Port) (v : Word) (s : State) : Host.Outcome State Fault Refusal :=
  s.done (s.dev.writeWith {} p fINT_FATAL_LOG_CLR 1 v)

/-- INJ_ARM (R537): INT_INJ_CMD arms an error injection into the next write to an array, or starts nothing. -/
def execInjArm (p : Port) (v : Word) (s : State) : Host.Outcome State Fault Refusal :=
  s.done (s.dev.writeWith {} p fINT_INJ_CMD_OP 1 v)

/-- DDR_ENABLE (R541): Enabling the DDR controller checks geometry and regions and starts training, or refuses it.
-/
def execDdrEnable (p : Port) (v : Word) (s : State) : Host.Outcome State Fault Refusal :=
  s.done (s.dev.writeWith {} p fDDR_CTL_EN 1 v)

/-- DDR_DISABLE (R553): Writing DDR_CTL.EN = 0 completes accesses and places the DRAM in self-refresh. -/
def execDdrDisable (p : Port) (v : Word) (s : State) : Host.Outcome State Fault Refusal :=
  s.done (s.dev.writeWith {} p fDDR_CTL_EN 0 v)

/-- DDR_TRAINING_DONE (R542): Training completes; TRAINED is set and the wipe starts, or a failure is captured. -/
def execDdrTrainingDone (result : Fin 3) (s : State) : Host.Outcome State Fault Refusal :=
  s.doneIn (s.dev.domOn 14) (s.dev.ddrTrained result.val)

/-- DDR_REGION_READY (R547): The wipe passes a region's end and the region becomes ready. -/
def execDdrRegionReady (s : State) : Host.Outcome State Fault Refusal :=
  s.doneIn (s.dev.domOn 14) s.dev.regionDone

/-- DDR_WIPE_DONE (R547): The background wipe completes and WIPE_BUSY clears. -/
def execDdrWipeDone (s : State) : Host.Outcome State Fault Refusal :=
  s.doneIn (s.dev.domOn 14) s.dev.wipeAll

/-- DDR_READ_FAIL (R550): A DRAM read with an uncorrectable beat is retried up to twice or fails. -/
def execDdrReadFail (who : DramReader) (rank beat syndrome : Nat) (s : State) : Host.Outcome State Fault Refusal :=
  s.doneIn (s.dev.domOn 14) (s.dev.ddrReadFail who rank beat syndrome)

/-- DDR_ALERT (R552): A DRAM command parity alert retries the command and may force a retrain. -/
def execDdrAlert (s : State) : Host.Outcome State Fault Refusal :=
  s.doneIn (s.dev.domOn 14) s.dev.ddrAlert

/-- DDR_PATROL_READ (R524): The DRAM patrol scrub reads its next location. -/
def execDdrPatrolRead (rank beat : Nat) (err : Option (Bool × Nat)) (s : State) : Host.Outcome State Fault Refusal :=
  s.doneIn (s.dev.domOn 14) (s.dev.patrolRead rank beat err)

/-- POSTED_WRITE_DONE (R546): A posted external-memory write completes, so a Contrail block's map bit is set or a
deep-ring or delay-line write takes effect. -/
def execPostedWriteDone (s : State) : Host.Outcome State Fault Refusal :=
  s.doneIn (s.dev.domOn 14) s.dev.postedDone

end Sys2Proof.Machine
end

