-- ==== Sys2Proof/Machine/ExecNet.lean ====
section
/-! DEFINITION. The meanings of the commands of network ports, gates, preemption and PAUSE: one definition a command, over the operations of the files
before. -/

namespace Sys2Proof.Machine

open Sys2Proof

/-- NET_ENABLE (R277): Enabling a network port runs its checks and starts it, or refuses it with a code. -/
def execNetEnable (n : Fin 4) (p : Port) (v : Word) (s : State) : Host.Outcome State Fault Refusal :=
  s.done (s.dev.writeWith {} p (fNETn_MAC_CFG_EN n.val) 1 v)

/-- NET_DISABLE (R299): Writing EN = 0 completes the frame on the wire, flushes queues and drops the link. -/
def execNetDisable (n : Fin 4) (p : Port) (v : Word) (s : State) : Host.Outcome State Fault Refusal :=
  s.done (s.dev.writeWith {} p (fNETn_MAC_CFG_EN n.val) 0 v)

/-- SERDES_LOCK (R276): A write of LOCK to NETn_SERDES_CFG locks the register until reset. -/
def execSerdesLock (n : Fin 4) (p : Port) (v : Word) (s : State) : Host.Outcome State Fault Refusal :=
  s.done (s.dev.writeWith {} p (fNETn_SERDES_CFG_LOCK n.val) 1 v)

/-- LINK_DOWN (R278): A port faulted for DOWN_HOLD_US lowers LINK_UP, aborts and flushes its transmit side. -/
def execLinkDown (n : Fin 4) (rx : Bool) (s : State) : Host.Outcome State Fault Refusal :=
  s.doneIn (s.dev.domOn (9 + n.val)) (s.dev.linkDown n.val rx)

/-- LINK_UP (R278): A port free of faults for UP_HOLD_MS raises LINK_UP and loads its timestamp constants. -/
def execLinkUp (n : Fin 4) (reported : Nat) (s : State) : Host.Outcome State Fault Refusal :=
  s.doneIn (s.dev.domOn (9 + n.val)) (s.dev.linkUpNow n.val reported)

/-- FRAME_RECEIVE (R283): A received frame's last byte arrives; it is checked, delivered, classified and forwarded
or discarded. -/
def execFrameReceive (n : Fin 4) (f : RxFrame) (lpi : Nat) (s : State) : Host.Outcome State Fault Refusal :=
  s.doneIn (s.dev.domOn (9 + n.val)) (s.dev.frameReceive n.val f lpi)

/-- FRAME_TX_START (R302): An egress port starts the head frame of its highest eligible class; its first bit leaves at
`ns` ns and `frac` 2^-16 ns of the time base. -/
def execFrameTxStart (n : Fin 4) (ns : Int) (frac : BitVec 16) (s : State) : Host.Outcome State Fault Refusal :=
  s.doneIn (s.dev.domOn (9 + n.val)) (s.dev.txStart n.val (ns * 65536 + frac.toNat))

/-- FRAME_TX_COMPLETE (R293): A frame's last byte leaves and the transmit counters count it. -/
def execFrameTxComplete (n : Fin 5) (s : State) : Host.Outcome State Fault Refusal :=
  s.doneIn (s.dev.domOn (if n.val = 4 then 13 else 9 + n.val)) (if n.val = 4 then s.dev.t1sSent else s.dev.txDone n.val)

/-- NET_SNAP (R294): SNAP copies every port counter into the snapshot bank, clearing live counters with CLR. -/
def execNetSnap (p : Port) (v : Word) (s : State) : Host.Outcome State Fault Refusal :=
  s.done (s.dev.writeWith {} p fNET_SNAP_CMD_SNAP 1 v)

/-- MDIO_C22_WRITE (R297): An MDIO Clause 22 write transaction starts. -/
def execMdioC22Write (p : Port) (v : Word) (s : State) : Host.Outcome State Fault Refusal :=
  s.done (s.dev.writeWith {} p fNET_MDIO_CMD_OP 1 v)

/-- MDIO_C22_READ (R297): An MDIO Clause 22 read transaction starts. -/
def execMdioC22Read (p : Port) (v : Word) (s : State) : Host.Outcome State Fault Refusal :=
  s.done (s.dev.writeWith {} p fNET_MDIO_CMD_OP 2 v)

/-- MDIO_C45_WRITE (R297): An MDIO Clause 45 address and write transaction starts. -/
def execMdioC45Write (p : Port) (v : Word) (s : State) : Host.Outcome State Fault Refusal :=
  s.done (s.dev.writeWith {} p fNET_MDIO_CMD_OP 3 v)

/-- MDIO_C45_READ (R297): An MDIO Clause 45 address and read transaction starts. -/
def execMdioC45Read (p : Port) (v : Word) (s : State) : Host.Outcome State Fault Refusal :=
  s.done (s.dev.writeWith {} p fNET_MDIO_CMD_OP 4 v)

/-- MDIO_C45_READ_INC (R297): An MDIO Clause 45 read with post-increment starts. -/
def execMdioC45ReadInc (p : Port) (v : Word) (s : State) : Host.Outcome State Fault Refusal :=
  s.done (s.dev.writeWith {} p fNET_MDIO_CMD_OP 5 v)

/-- MDIO_C45_ADDRESS (R297): An MDIO Clause 45 address-only frame starts. -/
def execMdioC45Address (p : Port) (v : Word) (s : State) : Host.Outcome State Fault Refusal :=
  s.done (s.dev.writeWith {} p fNET_MDIO_CMD_OP 6 v)

/-- MDIO_DONE (R298): The last MDIO frame ends; BUSY clears and RDATA or NO_RESP is set. -/
def execMdioDone (resp : Bool) (v : BitVec 16) (s : State) : Host.Outcome State Fault Refusal :=
  s.doneIn (s.dev.domOn 1) (s.dev.mdioDone resp v)

/-- GATE_ENABLE (R305): Enabling a gate list checks it and claims its periodic comparator, or refuses it. -/
def execGateEnable (n : Fin 4) (p : Port) (v : Word) (s : State) : Host.Outcome State Fault Refusal :=
  s.done (s.dev.writeWith {} p (fNETn_GATE_CFG_EN n.val) 1 v)

/-- GATE_DISABLE (R306): Writing EN = 0 stops the gate list, opens every gate and releases the comparator. -/
def execGateDisable (n : Fin 4) (p : Port) (v : Word) (s : State) : Host.Outcome State Fault Refusal :=
  s.done (s.dev.writeWith {} p (fNETn_GATE_CFG_EN n.val) 0 v)

/-- GATE_ENTRY_END (R306): An entry's INTERVAL ends and the next entry's gate states and OP apply. -/
def execGateEntryEnd (n : Fin 4) (s : State) : Host.Outcome State Fault Refusal :=
  s.doneIn (s.dev.domOn (9 + n.val)) (s.dev.gateEntryEnd n.val)

/-- VERIFY_FRAME (R314): A received MAC merge verify frame is answered with a respond frame. -/
def execVerifyFrame (n : Fin 4) (s : State) : Host.Outcome State Fault Refusal :=
  s.doneIn (s.dev.domOn (9 + n.val)) (s.dev.verifyFrame n.val)

/-- RESPOND_FRAME (R314): A received respond frame ends verification in SUCCEEDED. -/
def execRespondFrame (n : Fin 4) (s : State) : Host.Outcome State Fault Refusal :=
  s.doneIn (s.dev.domOn (9 + n.val)) (s.dev.respondFrame n.val)

/-- VERIFY_TIMEOUT (R314): VERIFY_MS passes without a respond frame; the port retries or ends in FAILED. -/
def execVerifyTimeout (n : Fin 4) (s : State) : Host.Outcome State Fault Refusal :=
  s.doneIn (s.dev.domOn (9 + n.val)) (s.dev.verifyTimeout n.val)

/-- PAUSE_FRAME (R317): A valid PAUSE loads the pause timer when RX_EN = 1 and is counted. -/
def execPauseFrame (s : State) : Host.Outcome State Fault Refusal :=
  s.doneIn (s.dev.domOn 1) s.dev.pauseTaken

/-- PAUSE_EXPIRY (R317): The pause timer reaches 0 and frames may start again. -/
def execPauseExpiry (n : Fin 4) (s : State) : Host.Outcome State Fault Refusal :=
  s.doneIn (s.dev.domOn (9 + n.val)) (s.dev.pauseExpiry n.val)

/-- PAUSE_TX_SEND (R319): PAUSE_TX.SEND sends one PAUSE frame at the next frame boundary. -/
def execPauseTxSend (n : Fin 4) (p : Port) (v : Word) (s : State) : Host.Outcome State Fault Refusal :=
  s.done (s.dev.writeWith {} p (fNETn_PAUSE_TX_SEND n.val) 1 v)

/-- PORT_FAULTED (R278): A NET port's PCS loses lock, receives a fault sequence, or sees link bit 0, HDX or a bad
speed, so the port becomes faulted, sets its status bits and restarts any UP_HOLD_MS count. -/
def execPortFaulted (n : Fin 4) (c : PortFault) (s : State) : Host.Outcome State Fault Refusal :=
  s.doneIn (s.dev.domOn (9 + n.val)) (s.dev.portFaulted n.val c)

/-- PORT_FAULT_CLEARED (R278): fault conditions of a NET port end, each with its status bit; with the last one gone the port
starts its UP_HOLD_MS count. -/
def execPortFaultCleared (e : FaultEnd) (s : State) : Host.Outcome State Fault Refusal :=
  s.doneIn (s.dev.domOn (9 + e.port.val)) (s.dev.portFaultCleared e.port.val e.ended)

end Sys2Proof.Machine
end

