-- ==== Sys2Proof/Machine/ExecPower.lean ====
section
/-! DEFINITION. The meanings of the commands of clocks, power domains and the Requel sequencers: one definition a command, over the operations of the files
before. -/

namespace Sys2Proof.Machine

open Sys2Proof

/-- CLK_SWITCH (R447): A write to CLK_SWITCH.SEL changes the core clock source, or is refused without SYSPLL lock.
-/
def execClkSwitch (m : Meets) (p : Port) (v : Word) (s : State) : Host.Outcome State Fault Refusal :=
  s.done (s.dev.busWrite m p rCLK_SWITCH .b32 v)

/-- SYSPLL_LOCK (R447): SYSPLL locks after REFCLK is present with its enable set. -/
def execSyspllLock (s : State) : Host.Outcome State Fault Refusal :=
  s.done s.dev.syspllLock

/-- TPLL_LOCK (R447): The time PLL locks and TCLK starts. -/
def execTpllLock (cycles : Nat) (s : State) : Host.Outcome State Fault Refusal :=
  s.done (s.dev.tpllLock cycles)

/-- CLK_REF_LOSS (R448): REFCLK shows no edge for 1 µs; the PLLs hold and CLK_REF_LOSS is raised. -/
def execClkRefLoss (s : State) : Host.Outcome State Fault Refusal :=
  s.done s.dev.clkRefLoss

/-- SYSPLL_UNLOCK (R448): SYSPLL leaves lock for another cause and it is counted. -/
def execSyspllUnlock (s : State) : Host.Outcome State Fault Refusal :=
  s.done s.dev.syspllUnlock

/-- REFCLK_RETURN (R448): REFCLK shows edges again after a loss; REF_OK rises, REF_LOSS clears and the PLLs begin to
relock. -/
def execRefclkReturn (s : State) : Host.Outcome State Fault Refusal :=
  s.done s.dev.refclkReturn

/-- PWR_REQ_WRITE (R456): A write to PWR_DOMk_CTL whose REQ differs from STATE starts a transition of the domain. -/
def execPwrReqWrite (k : Fin 15) (m : Meets) (p : Port) (v : Word) (s : State) : Host.Outcome State Fault Refusal :=
  s.done (s.dev.busWrite m p (rPWR_DOMk_CTL k.val) .b32 v)

/-- IDLE_TIMER_EXPIRY (R457): A domain's idle timer expires and starts a Dusk to RET. -/
def execIdleTimerExpiry (k : Fin 15) (w : Woken) (s : State) : Host.Outcome State Fault Refusal :=
  s.done (s.dev.idleExpiry k.val w)

/-- CMP_WAKE (R426): A CMP address match while CORE is not ON is answered NACK and starts a Dawn of CORE. -/
def execCmpWake (x : CmpByte) (s : State) : Host.Outcome State Fault Refusal :=
  s.done (s.dev.cmpWake x.dev x.bad)

/-- LINK_ENERGY (R463): Link energy on a NET port in RET wakes that port's domain. -/
def execLinkEnergy (n : Fin 4) (bad : List Bank) (s : State) : Host.Outcome State Fault Refusal :=
  s.done (s.dev.linkEnergy n.val bad)

/-- T1S_LINK_ENERGY (R463): Bus signal on the stage bus in RET wakes the T1S domain. -/
def execT1sLinkEnergy (bad : List Bank) (s : State) : Host.Outcome State Fault Refusal :=
  s.done (s.dev.t1sEnergy bad)

/-- WAKE_FRAME (R465): A valid wake frame wakes the domains in its mask allowed by FRAME_MASK. -/
def execWakeFrame (bad : List Bank) (s : State) : Host.Outcome State Fault Refusal :=
  s.done (s.dev.wakeFrame bad)

/-- RQL_ENABLE (R482): Setting a bit of RQL_CTL checks the program and starts the sequencer, or refuses it. -/
def execRqlEnable (n : Fin 8) (p : Port) (v : Word) (s : State) : Host.Outcome State Fault Refusal :=
  s.done (s.dev.writeWith {} p (bitFld rRQL_CTL n.val) 1 v)

/-- RQL_DISABLE (R482): Clearing a bit of RQL_CTL completes the step, stops timers and clears pending events. -/
def execRqlDisable (n : Fin 8) (p : Port) (v : Word) (s : State) : Host.Outcome State Fault Refusal :=
  s.done (s.dev.writeWith {} p (bitFld rRQL_CTL n.val) 0 v)

/-- RQL_EVT_INJ (R475): A write to RQLn_EVT_INJ raises the written event bits to the sequencer. -/
def execRqlEvtInj (n : Fin 8) (p : Port) (v : Word) (s : State) : Host.Outcome State Fault Refusal :=
  s.done (s.dev.busWrite {} p (rRQLn_EVT_INJ n.val) .b32 v)

/-- RQL_STEP (R476): A sequencer with a pending event takes the lowest and runs the first matching transition. -/
def execRqlStep (m : Meets) (n : Fin 8) (time : Option Nat) (s : State) : Host.Outcome State Fault Refusal :=
  s.doneIn (s.dev.domOn 1) (s.dev.rqlStep m n.val time)

/-- RQL_TIMER_EXPIRY (R480): A sequencer timer expires and sets its event bit. -/
def execRqlTimerExpiry (n t : Fin 8) (s : State) : Host.Outcome State Fault Refusal :=
  s.doneIn (s.dev.domOn 1) (s.dev.rqlTimer n.val t.val)

end Sys2Proof.Machine
end

