-- ==== Sys2Proof/Machine/ExecPtp.lean ====
section
/-! DEFINITION. The meanings of the commands of precision time: one definition a command, over the operations of the files
before. -/

namespace Sys2Proof.Machine

open Sys2Proof

/-- PTP_DOMAIN_ENABLE (R74): Enabling a PTP domain checks its profile, intervals, transport and number, and refuses
with CFG_ERR on failure. -/
def execPtpDomainEnable (i : Fin 4) (p : Port) (v : Word) (s : State) : Host.Outcome State Fault Refusal :=
  s.done (s.dev.writeWith {} p (fPTP_PTDd_CTL_EN i.val) 1 v)

/-- PTP_DOMAIN_DISABLE (R74): Writing EN = 0 to a PTP domain stops it and clears CFG_ERR. -/
def execPtpDomainDisable (i : Fin 4) (p : Port) (v : Word) (s : State) : Host.Outcome State Fault Refusal :=
  s.done (s.dev.writeWith {} p (fPTP_PTDd_CTL_EN i.val) 0 v)

/-- PTP_MESSAGE_HELD (R485): A received PTP message is held for the precision-time program and raised as its input.
-/
def execPtpMessageHeld (delay : Option Int) (s : State) : Host.Outcome State Fault Refusal :=
  s.doneIn (s.dev.domOn 1 && s.dev.timeRuns) (s.dev.ptpHeld delay)

/-- PTP_MEASUREMENT (R83): A one-step Sync or a Follow_Up completes an offset measurement, which is accepted or
rejected; `followUp` is the Follow_Up's own correction field, 0 for a one-step Sync. -/
def execPtpMeasurement (i n : Fin 4) (t1 t2 cf followUp : Int) (s : State) : Host.Outcome State Fault Refusal :=
  s.doneIn (s.dev.timeRuns) (s.dev.ptpMeasure i.val n.val t1 t2 (cf + followUp))

/-- SERVO_SOURCE_LOST (R85): No measurement is accepted for 3 Sync intervals; the servo goes from ACQ to FREE or
from LOCK to HOLD. The source of a grandmaster domain is lost on PPS_IN_LOS alone. -/
def execServoSourceLost (i : Fin 4) (s : State) : Host.Outcome State Fault Refusal :=
  s.doneIn (s.dev.timeRuns) (if s.dev.gmSource i.val then s.dev else s.dev.servoLost i.val)

/-- SERVO_HOLD_EXPIRY (R85): HOLD_LIMIT elapses in HOLD and the servo goes to FREE. -/
def execServoHoldExpiry (i : Fin 4) (s : State) : Host.Outcome State Fault Refusal :=
  s.doneIn (s.dev.timeRuns) (s.dev.holdExpiry i.val)

/-- ANNOUNCE_INTERVAL (R80): An announce interval elapses and the program evaluates the best-master choice. -/
def execAnnounceInterval (i : Fin 4) (s : State) : Host.Outcome State Fault Refusal :=
  s.doneIn (s.dev.timeRuns) (s.dev.announceInterval i.val)

/-- ANNOUNCE_RECEIPT_TIMEOUT (R79): A port in UNCALIBRATED accepts no Sync for announceReceiptTimeout intervals and
returns to LISTENING. -/
def execAnnounceReceiptTimeout (i n : Fin 4) (s : State) : Host.Outcome State Fault Refusal :=
  s.doneIn (s.dev.timeRuns) (s.dev.announceTimeout i.val n.val)

/-- DELAY_REQ_DUE (R82): A Delay_Req or Pdelay_Req falls due and is sent by the program. -/
def execDelayReqDue (i n : Fin 4) (s : State) : Host.Outcome State Fault Refusal :=
  s.doneIn (s.dev.timeRuns) (s.dev.delayReqDue i.val n.val)

/-- GOVERNING_CHANGE (R92): The governing role passes between domains on one TCLK edge, stepping or slewing the time
base. -/
def execGoverningChange (s : State) : Host.Outcome State Fault Refusal :=
  s.doneIn (s.dev.timeRuns) s.dev.govEval

/-- GM_DISABLE (R95): Clearing GM_EN or changing DOM makes the old grandmaster domain lose its PPS_IN source. -/
def execGmDisable (p : Port) (v : Word) (s : State) : Host.Outcome State Fault Refusal :=
  s.done (s.dev.writeWith {} p fPTP_GM_CTL_GM_EN 0 v)

/-- TOD_LOAD (R96): TOD_LOAD arms a time-of-day load for the next valid PPS_IN edge. -/
def execTodLoad (p : Port) (v : Word) (s : State) : Host.Outcome State Fault Refusal :=
  s.done (s.dev.writeWith {} p fPTP_GM_CTL_TOD_LOAD 1 v)

/-- SYNC_DUE (R73): A port in MASTER reaches its logSyncInterval and the device sends its own one-step Sync. -/
def execSyncDue (i n : Fin 4) (s : State) : Host.Outcome State Fault Refusal :=
  s.doneIn (s.dev.timeRuns) (s.dev.syncDue i.val n.val)

end Sys2Proof.Machine
end

