-- ==== Sys2Proof/Machine/ExecStage.lean ====
section
/-! DEFINITION. The meanings of the commands of the stage bus, the cue engine, DMX and timecode: one definition a command, over the operations of the files
before. -/

namespace Sys2Proof.Machine

open Sys2Proof

/-- T1S_ENABLE (R353): Enabling the stage bus checks PLCA settings and the T1S domain, or refuses it. -/
def execT1sEnable (p : Port) (v : Word) (s : State) : Host.Outcome State Fault Refusal :=
  s.done (s.dev.writeWith {} p fT1S_CFG_EN 1 v)

/-- T1S_FRAME_RECEIVE (R349): A stage-bus frame is checked and passed to every consumer whose condition it meets. -/
def execT1sFrameReceive (f : T1sRx) (s : State) : Host.Outcome State Fault Refusal :=
  s.doneIn (s.dev.domOn 13) (s.dev.t1sReceive f)

/-- BEACON (R352): A PLCA BEACON starts a cycle of transmit opportunities. -/
def execBeacon (s : State) : Host.Outcome State Fault Refusal :=
  s.doneIn (s.dev.domOn 13) s.dev.beacon

/-- TRANSMIT_OPPORTUNITY (R352): The node's PLCA opportunity arrives and it sends its head frame, cue queue first.
-/
def execTransmitOpportunity (further : Bool) (s : State) : Host.Outcome State Fault Refusal :=
  s.doneIn (s.dev.domOn 13) (s.dev.transmitOpportunity further)

/-- BEACON_LOSS (R353): No BEACON for 4 000 bit times clears PLCA_ACTIVE and the port falls back to CSMA/CD. -/
def execBeaconLoss (s : State) : Host.Outcome State Fault Refusal :=
  s.doneIn (s.dev.domOn 13) s.dev.beaconLoss

/-- COLLISION (R354): A transmit attempt collides; the port jams and backs off, or discards the frame. -/
def execCollision (late : Bool) (r : BitVec 16) (s : State) : Host.Outcome State Fault Refusal :=
  s.doneIn (s.dev.domOn 13) (s.dev.collision late r.toNat)

/-- BACKOFF_END (R354): The back-off ends and the port defers for its next attempt. -/
def execBackoffEnd (s : State) : Host.Outcome State Fault Refusal :=
  s.doneIn (s.dev.domOn 13) s.dev.backoffEnd

/-- DEFER_END (R354): Under CSMA/CD the stage bus falls idle and the 96-bit inter-frame gap passes, so the port
starts a transmit attempt of its head frame. -/
def execDeferEnd (s : State) : Host.Outcome State Fault Refusal :=
  s.doneIn (s.dev.domOn 13) s.dev.deferEnd

/-- CUE_ENABLE (R378): Enabling the cue engine claims its comparators and sets cues PENDING or IDLE, or is refused.
-/
def execCueEnable (p : Port) (v : Word) (s : State) : Host.Outcome State Fault Refusal :=
  s.done (s.dev.writeWith {} p fCUE_CFG_EN 1 v)

/-- CUE_DISABLE (R378): Writing EN = 0 completes actions, drops queued frames, stops DMX and LTC and releases
comparators. -/
def execCueDisable (p : Port) (v : Word) (s : State) : Host.Outcome State Fault Refusal :=
  s.done (s.dev.writeWith {} p fCUE_CFG_EN 0 v)

/-- CUE_FIRE (R357): A cue's due time is reached; it runs its actions in order, or expires outside its window. -/
def execCueFire (s : State) : Host.Outcome State Fault Refusal :=
  s.doneIn (s.dev.domOn 1) s.dev.cueFire

/-- CUE_TRIGGER (R358): An event, E1.31 crossing or FIRE action triggers an IDLE cue into PENDING. -/
def execCueTrigger (s : State) : Host.Outcome State Fault Refusal :=
  s.doneIn (s.dev.domOn 1) s.dev.cueAccept

/-- CUE_PIN_EDGE (R359): An edge on an input cue pin triggers the cues that watch it. -/
def execCuePinEdge (k : Fin 16) (level : Bool) (s : State) : Host.Outcome State Fault Refusal :=
  s.done (s.dev.cuePinEdge k.val level)

/-- CUE_GO (R359): A write of CUE_GO with OP = 1 triggers the named cue. -/
def execCueGo (p : Port) (v : Word) (s : State) : Host.Outcome State Fault Refusal :=
  s.done (s.dev.writeWith {} p fCUE_GO_OP 1 v)

/-- CUE_TBL_WRITE (R379): CUE_TBL_CMD write replaces one cue and sets its state as an enable would. -/
def execCueTblWrite (p : Port) (v : Word) (s : State) : Host.Outcome State Fault Refusal :=
  s.done (s.dev.writeWith {} p fCUE_TBL_CMD_OP 1 v)

/-- CUE_TBL_READ (R379): CUE_TBL_CMD read copies one cue and its state into CUE_TBL_DATA. -/
def execCueTblRead (p : Port) (v : Word) (s : State) : Host.Outcome State Fault Refusal :=
  s.done (s.dev.writeWith {} p fCUE_TBL_CMD_OP 2 v)

/-- CUE_TBL_ARM (R379): CUE_TBL_CMD arm sets one cue's state as at enable. -/
def execCueTblArm (p : Port) (v : Word) (s : State) : Host.Outcome State Fault Refusal :=
  s.done (s.dev.writeWith {} p fCUE_TBL_CMD_OP 3 v)

/-- CUE_TBL_DISARM (R379): CUE_TBL_CMD disarm sets one cue to DONE. -/
def execCueTblDisarm (p : Port) (v : Word) (s : State) : Host.Outcome State Fault Refusal :=
  s.done (s.dev.writeWith {} p fCUE_TBL_CMD_OP 4 v)

/-- CUE_FRAME_DEADLINE (R363): A cue frame's window end is reached before it is sent and the frame is dropped. -/
def execCueFrameDeadline (n : Nat) (s : State) : Host.Outcome State Fault Refusal :=
  s.doneIn (s.dev.domOn 1) (s.dev.cueFrameDeadline n)

/-- CUE_PIN_DIR_WRITE (R368): A write to PIN_CUE_CFG sets cue pin directions and claims or releases shared groups.
-/
def execCuePinDirWrite (p : Port) (v : Word) (s : State) : Host.Outcome State Fault Refusal :=
  s.done (s.dev.busWrite {} p rPIN_CUE_CFG .b32 v)

/-- DMX_PORT_ENABLE (R369): Writing CUE_DMXp_CFG.EN claims the port's ball group or stops the port. -/
def execDmxPortEnable (q : Fin 4) (p : Port) (v : Word) (s : State) : Host.Outcome State Fault Refusal :=
  s.done (s.dev.busWrite {} p (rCUE_DMXp_CFG q.val) .b32 v)

/-- DMX_BREAK (R370): A running DMX port starts a packet break and takes its buffer image. -/
def execDmxBreak (q : Fin 4) (s : State) : Host.Outcome State Fault Refusal :=
  s.doneIn (s.dev.domOn 1) (s.dev.dmxBreak q.val)

/-- E131_PACKET (R373): A received E1.31 data packet passes its tests and is committed to every bound buffer. -/
def execE131Packet (s : State) : Host.Outcome State Fault Refusal :=
  s.doneIn (s.dev.domOn 1) s.dev.e131Taken

/-- LTC_FRAME (R374): A timecode frame boundary is reached and LTC_OUT sends the next frame. -/
def execLtcFrame (s : State) : Host.Outcome State Fault Refusal :=
  s.doneIn (s.dev.domOn 1) s.dev.ltcFrame

/-- LTC_IN_FRAME (R376): A valid LTC_IN frame is decoded; four in a row raise LTC_LOCK. -/
def execLtcInFrame (rate h m sec f : Nat) (ub : Word) (broken : Bool) (s : State) : Host.Outcome State Fault Refusal :=
  s.doneIn (s.dev.domOn 1) (s.dev.ltcInFrame rate h m sec f ub broken)

/-- LTC_LOSS (R376): Two frame periods pass without a valid LTC_IN frame and LTC_LOSS is raised. -/
def execLtcLoss (s : State) : Host.Outcome State Fault Refusal :=
  s.doneIn (s.dev.domOn 1) s.dev.ltcLoss

end Sys2Proof.Machine
end

