-- ==== Sys2Proof/Machine/ExecStart.lean ====
section
/-! DEFINITION. The meanings of the commands of resets, start, life cycle and hot plug: one definition a command, over the operations of the files
before. -/

namespace Sys2Proof.Machine

open Sys2Proof

/-- POWER_ON_RESET (R491): A monitored rail or PGOOD falls and the device enters power-on reset. -/
def execPowerOnReset (s : State) : Host.Outcome State Fault Refusal :=
  s.done (s.dev.intoReset 0)

/-- RESET_N_ASSERT (R491): RESET_N is held low for at least 1 µs and the device resets. -/
def execResetNAssert (s : State) : Host.Outcome State Fault Refusal :=
  s.done (s.dev.intoReset 1)

/-- WDOG_EXPIRY (R444): The watchdog count reaches 0 and the device resets with cause WDOG. -/
def execWdogExpiry (s : State) : Host.Outcome State Fault Refusal :=
  s.done s.dev.wdogExpiry

/-- RESET_RELEASE (R493): A reset is released and the cold start sequence runs. -/
def execResetRelease (x : StartInfo) (s : State) : Host.Outcome State Fault Refusal :=
  s.done (s.dev.coldStart x)

/-- WAIT_SECTION_END (R506): A WAIT section's condition holds or its timeout passes and the load continues. -/
def execWaitSectionEnd (timeout : Bool) (s : State) : Host.Outcome State Fault Refusal :=
  s.doneIn (s.dev.domOn 1) (s.dev.waitEnd timeout)

/-- IMAGE_CLOCK_SWITCH (R507): SYSPLL locks at the first phase-1 section and the loader makes the clock switch. -/
def execImageClockSwitch (timeout : Bool) (s : State) : Host.Outcome State Fault Refusal :=
  s.doneIn (s.dev.domOn 1) (s.dev.imageSwitch timeout)

/-- BOOT_CONFIRM (R508): CONFIRM sets CONFIRMED and clears FAIL_CNT. -/
def execBootConfirm (p : Port) (v : Word) (s : State) : Host.Outcome State Fault Refusal :=
  s.done (s.dev.writeWith {} p fGLB_BOOT_CMD_OP 1 v)

/-- BOOT_RESTART (R496): RESTART disables blocks in order and runs a warm start, or is refused. -/
def execBootRestart (p : Port) (v : Word) (s : State) : Host.Outcome State Fault Refusal :=
  s.done (s.dev.writeWith {} p fGLB_BOOT_CMD_OP 2 v)

/-- BOOT_CLEAR_FAIL (R511): CLEAR_FAIL clears the failed-start count in safe mode, or is refused outside it. -/
def execBootClearFail (p : Port) (v : Word) (s : State) : Host.Outcome State Fault Refusal :=
  s.done (s.dev.writeWith {} p fGLB_BOOT_CMD_OP 3 v)

/-- NVM_RELEASE (R512): Writing GLB_NVM_CTL.RELEASE releases or reclaims the NVM balls. -/
def execNvmRelease (p : Port) (v : Word) (content : Option Nvm) (s : State) : Host.Outcome State Fault Refusal :=
  s.done ((s.dev.busWrite {} p rGLB_NVM_CTL .b32 v).nvmTaken content)

/-- LC_GO (R515): GO requests a life-cycle change, which is refused or programs OTP and wipes memory. -/
def execLcGo (m : Meets) (p : Port) (v : Word) (s : State) : Host.Outcome State Fault Refusal :=
  s.done (s.dev.writeWith m p fGLB_LC_CTL_GO 1 v)

/-- LC_LOCK (R514): A write of GLB_LC_CTL.LOCK locks GO and TARGET until reset. -/
def execLcLock (p : Port) (v : Word) (s : State) : Host.Outcome State Fault Refusal :=
  s.done (s.dev.writeWith {} p fGLB_LC_CTL_LOCK 1 v)

/-- PROG_KEY (R518): PROG_KEY programs the staged hash into a key slot, or is refused. -/
def execProgKey (p : Port) (v : Word) (s : State) : Host.Outcome State Fault Refusal :=
  s.done (s.dev.writeWith {} p fGLB_OTP_CMD_OP 1 v)

/-- REVOKE (R518): REVOKE revokes a key slot, or is refused. -/
def execRevoke (p : Port) (v : Word) (s : State) : Host.Outcome State Fault Refusal :=
  s.done (s.dev.writeWith {} p fGLB_OTP_CMD_OP 2 v)

/-- HOTSWAP_ASSERT (R570): HOTSWAP_N is low for 20 µs and the orderly detach runs. -/
def execHotswapAssert (s : State) : Host.Outcome State Fault Refusal :=
  s.done s.dev.hotswapAssert

/-- HOTSWAP_GLITCH (R569): A low pulse on HOTSWAP_N shorter than 20 µs is ignored and counted. -/
def execHotswapGlitch (s : State) : Host.Outcome State Fault Refusal :=
  s.done s.dev.hotswapGlitch

/-- HOTSWAP_RELEASE (R571): HOTSWAP_N stays released for 50 ms after a detach and the device resets itself. -/
def execHotswapRelease (s : State) : Host.Outcome State Fault Refusal :=
  s.done s.dev.hotswapRelease

/-- HOTSWAP_LOAD_RESUME (R519): HOTSWAP_N stays released for 50 ms and a start held at step 5 proceeds. -/
def execHotswapLoadResume (reread : Option (Nat × BitVec 8)) (s : State) : Host.Outcome State Fault Refusal :=
  s.done (s.dev.hotswapResume reread)

end Sys2Proof.Machine
end

