-- ==== Sys2Proof/Machine/ExecTime.lean ====
section
/-! DEFINITION. The meanings of the commands of tick words, windows, captures and the TIME island: one definition a command, over the operations of the files
before. -/

namespace Sys2Proof.Machine

open Sys2Proof

/-- TICK_ISSUE (R106): A media clock generator reaches a sample boundary and issues the tick word carrying that
sample's SIDX. -/
def execTickIssue (g : Fin 8) (s : State) : Host.Outcome State Fault Refusal :=
  s.done (s.dev.mcgTick g.val)

/-- TICK_HOLD_SEND (R17): A tick word waiting in a source's holding register is sent when the previous handshake has
closed. -/
def execTickHoldSend (g : Fin 8) (c : Consumer) (s : State) : Host.Outcome State Fault Refusal :=
  s.done (s.dev.tickHoldSend g.val c)

/-- CROSSING_WORD_DELIVER (R13): A word crossing between clock islands becomes usable at the destination by
four-phase handshake. -/
def execCrossingWordDeliver (x : Crossing) (s : State) : Host.Outcome State Fault Refusal :=
  s.done (s.dev.crossing x)

/-- TICK_WORD (R18): A consumer receives a tick word and acts on it by its SIDX difference: work, coalesce, ignore
or rebase. -/
def execTickWord (g : Fin 8) (c : Consumer) (s : State) : Host.Outcome State Fault Refusal :=
  s.done (s.dev.tickWord g.val c)

/-- CAPTURE_READ (R37): A read of a capture register returns its content and clears it, unless a same-cycle capture
follows. -/
def execCaptureRead (p : Port) (addr : BitVec 24) (size : AccSize) (s : State) : Host.Outcome State Fault Refusal :=
  s.done ((s.dev.busRead p addr.toNat size).2)

/-- WIN_PAGE_WRITE (R24): A write to GLB_WIN_PAGE that changes a page discards every staged lower half and counts
each discard. -/
def execWinPageWrite (p : Port) (v : Word) (s : State) : Host.Outcome State Fault Refusal :=
  s.done (s.dev.busWrite {} p rGLB_WIN_PAGE .b32 v)

/-- WINDOW_WRITE_LOWER (R22): A window write to the lower half of a 64-bit word is held in the writing port's
staging register. -/
def execWindowWriteLower (p : Port) (addr : BitVec 24) (v : Word) (s : State) : Host.Outcome State Fault Refusal :=
  s.done (s.dev.busWrite {} p addr.toNat .b32 v)

/-- WINDOW_WRITE_UPPER (R22): A window write to the upper half commits the whole 64-bit word in one array cycle with
fresh ECC. -/
def execWindowWriteUpper (p : Port) (addr : BitVec 24) (v : Word) (s : State) : Host.Outcome State Fault Refusal :=
  s.done (s.dev.busWrite {} p addr.toNat .b32 v)

/-- WINDOW_READ_LOWER (R22): A window read of a lower half latches the word's upper half into the reading port's
latch. -/
def execWindowReadLower (p : Port) (addr : BitVec 24) (size : AccSize) (s : State) : Host.Outcome State Fault Refusal :=
  s.done ((s.dev.busRead p addr.toNat size).2)

/-- PAIR_LOW_READ (R418): A read of the lower half of a designated 64-bit pair latches its upper half for the
reading port. -/
def execPairLowRead (p : Port) (addr : BitVec 24) (size : AccSize) (s : State) : Host.Outcome State Fault Refusal :=
  s.done ((s.dev.busRead p addr.toNat size).2)

/-- DEADLINE_CANCEL (R38): An upper deadline is reached: the waiting function takes its fallback and the lower retry
is cancelled and counted. -/
def execDeadlineCancel (k : RetryKind) (tag : Nat) (s : State) : Host.Outcome State Fault Refusal :=
  s.doneIn (s.dev.domOn 1) (s.dev.deadlineCancel k tag)

/-- LATE_RESULT_DISCARD (R39): A result returns with a tag no longer outstanding and is discarded and counted. -/
def execLateResultDiscard (k : RetryKind) (tag : Nat) (s : State) : Host.Outcome State Fault Refusal :=
  s.doneIn (s.dev.domOn 1) (s.dev.lateDiscard k tag)

/-- TIME_ADDEND_L_WRITE (R42): A write of TIME_ADDEND_L is held in the writing port's staging register. -/
def execTimeAddendLWrite (p : Port) (v : Word) (s : State) : Host.Outcome State Fault Refusal :=
  s.done (s.dev.busWrite {} p rTIME_ADDEND_L .b32 v)

/-- TIME_ADDEND_H_WRITE (R42): A write of TIME_ADDEND_H forms, clamps and applies the 48-bit addend on one TCLK
edge. -/
def execTimeAddendHWrite (p : Port) (v : Word) (s : State) : Host.Outcome State Fault Refusal :=
  s.done (s.dev.busWrite {} p rTIME_ADDEND_H .b32 v)

/-- TIME_SET (R46): TIME_CTL.SET loads the time base from TIME_SET_*, or fails with SET_ERR for an invalid
nanosecond value. -/
def execTimeSet (p : Port) (v : Word) (s : State) : Host.Outcome State Fault Refusal :=
  s.done (s.dev.writeWith {} p fTIME_CTL_SET 1 v)

/-- TIME_CTL_STEP (R47): TIME_CTL.STEP adds the signed TIME_STEP_ADJ to the time base on one TCLK edge. -/
def execTimeCtlStep (p : Port) (v : Word) (s : State) : Host.Outcome State Fault Refusal :=
  s.done (s.dev.writeWith {} p fTIME_CTL_STEP 1 v)

/-- TIME_NOW_READ (R45): A read of TIME_NOW_FRAC latches the nanoseconds and seconds of the same TCLK edge. -/
def execTimeNowRead (p : Port) (size : AccSize) (s : State) : Host.Outcome State Fault Refusal :=
  s.done ((s.dev.busRead p rTIME_NOW_FRAC size).2)

/-- FT64_READ (R45): A read of TIME_FT64_L latches TIME_FT64_H. -/
def execFt64Read (p : Port) (size : AccSize) (s : State) : Host.Outcome State Fault Refusal :=
  s.done ((s.dev.busRead p rTIME_FT64_L size).2)

/-- STEP_SIZE_READ (R48): A read of TIME_STEP_SIZE_L latches the upper half and clears VALID, OVF and the
accumulated size. -/
def execStepSizeRead (p : Port) (size : AccSize) (s : State) : Host.Outcome State Fault Refusal :=
  s.done ((s.dev.busRead p rTIME_STEP_SIZE_L size).2)

/-- TCMP_ARM (R64): ARM claims and arms a comparator, or is refused with ARM_ERR or a conflict. -/
def execTcmpArm (n : Fin 64) (p : Port) (v : Word) (s : State) : Host.Outcome State Fault Refusal :=
  s.done (s.dev.writeWith {} p (fTIME_TCMPnn_CTL_ARM n.val) 1 v)

/-- TCMP_DISARM (R64): DISARM disarms and releases a comparator at once. -/
def execTcmpDisarm (n : Fin 64) (p : Port) (v : Word) (s : State) : Host.Outcome State Fault Refusal :=
  s.done (s.dev.writeWith {} p (fTIME_TCMPnn_CTL_DISARM n.val) 1 v)

/-- TCMP_FIRE (R62): A comparator's target is reached; it fires to its owner and disarms or advances its periodic
target. -/
def execTcmpFire (n : Fin 64) (s : State) : Host.Outcome State Fault Refusal :=
  s.done (s.dev.tcmpFire n.val)

/-- TCAP_EDGE (R68): An edge on a capture source is timestamped into the input's FIFO, or dropped and counted when
full. -/
def execTcapEdge (n : Fin 16) (rising : Bool) (s : State) : Host.Outcome State Fault Refusal :=
  s.done (s.dev.tcapEdge n.val rising)

/-- TCAP_POP (R69): CFG.POP discards the visible capture of a capture FIFO. -/
def execTcapPop (n : Fin 16) (p : Port) (v : Word) (s : State) : Host.Outcome State Fault Refusal :=
  s.done (s.dev.writeWith {} p (fTIME_TCAPnn_CFG_POP n.val) 1 v)

/-- TCAP_READ (R69): A read of TIME_TCAPnn_FRAC latches the other parts of the visible capture. -/
def execTcapRead (n : Fin 16) (p : Port) (size : AccSize) (s : State) : Host.Outcome State Fault Refusal :=
  s.done ((s.dev.busRead p (rTIME_TCAPnn_FRAC n.val) size).2)

/-- TCAP_DISABLE (R69): Writing EN = 0 to a capture input empties its FIFO. -/
def execTcapDisable (n : Fin 16) (p : Port) (v : Word) (s : State) : Host.Outcome State Fault Refusal :=
  s.done (s.dev.writeWith {} p (fTIME_TCAPnn_CFG_EN n.val) 0 v)

/-- PPS_IN_EDGE (R70): A rising PPS_IN edge is captured, its interval checked and, when valid, passed to the servo.
-/
def execPpsInEdge (s : State) : Host.Outcome State Fault Refusal :=
  s.done s.dev.ppsInEdge

/-- PPS_IN_LOS (R70): No PPS_IN edge arrives for 1.1 s and PPS_IN_LOS is set. -/
def execPpsInLos (s : State) : Host.Outcome State Fault Refusal :=
  s.doneIn (s.dev.timeRuns) s.dev.ppsInLos

/-- CLK10M_WINDOW (R71): A 1 ms measurement window of CLK10M_IN ends and sets or clears CLK10M_BAD. -/
def execClk10mWindow (freq : Int) (s : State) : Host.Outcome State Fault Refusal :=
  s.doneIn (s.dev.timeRuns) (s.dev.clk10mWindow freq)

/-- CLK10M_LOS (R71): No CLK10M_IN edge arrives for 1 µs and CLK10M_LOS is set. -/
def execClk10mLos (s : State) : Host.Outcome State Fault Refusal :=
  s.doneIn (s.dev.timeRuns) s.dev.clk10mLos

/-- PPS_OUT_ENABLE (R72): Enabling PPS_OUT claims its comparator as periodic at whole seconds, or is refused. -/
def execPpsOutEnable (p : Port) (v : Word) (s : State) : Host.Outcome State Fault Refusal :=
  s.done (s.dev.writeWith {} p fTIME_PPS_OUT_CFG_EN 1 v)

/-- PPS_OUT_DISABLE (R72): Clearing PPS_OUT EN stops the output and releases its comparator. -/
def execPpsOutDisable (p : Port) (v : Word) (s : State) : Host.Outcome State Fault Refusal :=
  s.done (s.dev.writeWith {} p fTIME_PPS_OUT_CFG_EN 0 v)

/-- PPS_OUT_PULSE_END (R72): WIDTH_US has elapsed and the PPS_OUT pulse ends. -/
def execPpsOutPulseEnd (s : State) : Host.Outcome State Fault Refusal :=
  s.done s.dev.ppsPulseEnd

end Sys2Proof.Machine
end

