-- ==== Sys2Proof/Machine/Dispatch.lean ====
section
/-! DEFINITION. One arm for each command: its meaning. -/

namespace Sys2Proof.Machine

open Sys2Proof

def exec (i : Instr) (s : State) : Host.Outcome State Fault Refusal :=
  match i with
  | .tickIssue g => Sys2Proof.Machine.execTickIssue g s
  | .tickHoldSend g c => Sys2Proof.Machine.execTickHoldSend g c s
  | .crossingWordDeliver x => Sys2Proof.Machine.execCrossingWordDeliver x s
  | .tickWord g c => Sys2Proof.Machine.execTickWord g c s
  | .captureRead p addr size => Sys2Proof.Machine.execCaptureRead p addr size s
  | .winPageWrite p v => Sys2Proof.Machine.execWinPageWrite p v s
  | .windowWriteLower p addr v => Sys2Proof.Machine.execWindowWriteLower p addr v s
  | .windowWriteUpper p addr v => Sys2Proof.Machine.execWindowWriteUpper p addr v s
  | .windowReadLower p addr size => Sys2Proof.Machine.execWindowReadLower p addr size s
  | .pairLowRead p addr size => Sys2Proof.Machine.execPairLowRead p addr size s
  | .deadlineCancel k tag => Sys2Proof.Machine.execDeadlineCancel k tag s
  | .lateResultDiscard k tag => Sys2Proof.Machine.execLateResultDiscard k tag s
  | .timeAddendLWrite p v => Sys2Proof.Machine.execTimeAddendLWrite p v s
  | .timeAddendHWrite p v => Sys2Proof.Machine.execTimeAddendHWrite p v s
  | .timeSet p v => Sys2Proof.Machine.execTimeSet p v s
  | .timeCtlStep p v => Sys2Proof.Machine.execTimeCtlStep p v s
  | .timeNowRead p size => Sys2Proof.Machine.execTimeNowRead p size s
  | .ft64Read p size => Sys2Proof.Machine.execFt64Read p size s
  | .stepSizeRead p size => Sys2Proof.Machine.execStepSizeRead p size s
  | .tcmpArm n p v => Sys2Proof.Machine.execTcmpArm n p v s
  | .tcmpDisarm n p v => Sys2Proof.Machine.execTcmpDisarm n p v s
  | .tcmpFire n => Sys2Proof.Machine.execTcmpFire n s
  | .tcapEdge n rising => Sys2Proof.Machine.execTcapEdge n rising s
  | .tcapPop n p v => Sys2Proof.Machine.execTcapPop n p v s
  | .tcapRead n p size => Sys2Proof.Machine.execTcapRead n p size s
  | .tcapDisable n p v => Sys2Proof.Machine.execTcapDisable n p v s
  | .ppsInEdge => Sys2Proof.Machine.execPpsInEdge s
  | .ppsInLos => Sys2Proof.Machine.execPpsInLos s
  | .clk10mWindow freq => Sys2Proof.Machine.execClk10mWindow freq s
  | .clk10mLos => Sys2Proof.Machine.execClk10mLos s
  | .ppsOutEnable p v => Sys2Proof.Machine.execPpsOutEnable p v s
  | .ppsOutDisable p v => Sys2Proof.Machine.execPpsOutDisable p v s
  | .ppsOutPulseEnd => Sys2Proof.Machine.execPpsOutPulseEnd s
  | .ptpDomainEnable k p v => Sys2Proof.Machine.execPtpDomainEnable k p v s
  | .ptpDomainDisable k p v => Sys2Proof.Machine.execPtpDomainDisable k p v s
  | .ptpMessageHeld delay => Sys2Proof.Machine.execPtpMessageHeld delay s
  | .ptpMeasurement k n t1 t2 cf followUp => Sys2Proof.Machine.execPtpMeasurement k n t1 t2 cf followUp s
  | .servoSourceLost k => Sys2Proof.Machine.execServoSourceLost k s
  | .servoHoldExpiry k => Sys2Proof.Machine.execServoHoldExpiry k s
  | .announceInterval k => Sys2Proof.Machine.execAnnounceInterval k s
  | .announceReceiptTimeout k n => Sys2Proof.Machine.execAnnounceReceiptTimeout k n s
  | .delayReqDue k n => Sys2Proof.Machine.execDelayReqDue k n s
  | .governingChange => Sys2Proof.Machine.execGoverningChange s
  | .gmDisable p v => Sys2Proof.Machine.execGmDisable p v s
  | .todLoad p v => Sys2Proof.Machine.execTodLoad p v s
  | .mcgEnable n p v => Sys2Proof.Machine.execMcgEnable n p v s
  | .mcgDisable n p v => Sys2Proof.Machine.execMcgDisable n p v s
  | .mcgSrcWrite n p v => Sys2Proof.Machine.execMcgSrcWrite n p v s
  | .mcgPhaseMeasure n err freq => Sys2Proof.Machine.execMcgPhaseMeasure n err freq s
  | .mcgSourceLoss n => Sys2Proof.Machine.execMcgSourceLoss n s
  | .mcgSourceQualified n => Sys2Proof.Machine.execMcgSourceQualified n s
  | .mcgFree n => Sys2Proof.Machine.execMcgFree n s
  | .mcgJumpTick n => Sys2Proof.Machine.execMcgJumpTick n s
  | .mclkEnable n p v => Sys2Proof.Machine.execMclkEnable n p v s
  | .stxEnable p v => Sys2Proof.Machine.execStxEnable p v s
  | .stxDisable p v => Sys2Proof.Machine.execStxDisable p v s
  | .stxMute p v => Sys2Proof.Machine.execStxMute p v s
  | .stxUnmute p v => Sys2Proof.Machine.execStxUnmute p v s
  | .stxQueuedCmd tx => Sys2Proof.Machine.execStxQueuedCmd tx s
  | .packetEmit c => Sys2Proof.Machine.execPacketEmit c s
  | .srxEnable p v => Sys2Proof.Machine.execSrxEnable p v s
  | .srxDisable p v => Sys2Proof.Machine.execSrxDisable p v s
  | .srxMute p v => Sys2Proof.Machine.execSrxMute p v s
  | .srxUnmute p v => Sys2Proof.Machine.execSrxUnmute p v s
  | .streamCopy => Sys2Proof.Machine.execStreamCopy s
  | .streamLossTimeout c => Sys2Proof.Machine.execStreamLossTimeout c s
  | .grpWaitExpiry grp realign => Sys2Proof.Machine.execGrpWaitExpiry grp realign s
  | .deepStagingCopy c => Sys2Proof.Machine.execDeepStagingCopy c s
  | .crfConcealTimeout c => Sys2Proof.Machine.execCrfConcealTimeout c s
  | .anvEnable p v => Sys2Proof.Machine.execAnvEnable p v s
  | .anvDisable p v => Sys2Proof.Machine.execAnvDisable p v s
  | .sceneSwap p v => Sys2Proof.Machine.execSceneSwap p v s
  | .sceneCancel p v => Sys2Proof.Machine.execSceneCancel p v s
  | .blockGather => Sys2Proof.Machine.execBlockGather s
  | .jobCommit lane k => Sys2Proof.Machine.execJobCommit lane k s
  | .laneResidueFault lane slack => Sys2Proof.Machine.execLaneResidueFault lane slack s
  | .jobDeadlineMiss bank entry => Sys2Proof.Machine.execJobDeadlineMiss bank entry s
  | .dramReadReturn bank entry ce => Sys2Proof.Machine.execDramReadReturn bank entry ce s
  | .sensorSample rs => Sys2Proof.Machine.execSensorSample rs s
  | .sapEnable n p v => Sys2Proof.Machine.execSapEnable n p v s
  | .sapDisable n p v => Sys2Proof.Machine.execSapDisable n p v s
  | .sapFrame n ws lanes ratio drift => Sys2Proof.Machine.execSapFrame n ws lanes ratio drift s
  | .slotMaskWrite n p v => Sys2Proof.Machine.execSlotMaskWrite n p v s
  | .slotMaskApply n => Sys2Proof.Machine.execSlotMaskApply n s
  | .sapChStart n p v => Sys2Proof.Machine.execSapChStart n p v s
  | .sapChStop n p v => Sys2Proof.Machine.execSapChStop n p v s
  | .sapChMute n p v => Sys2Proof.Machine.execSapChMute n p v s
  | .sapChUnmute n p v => Sys2Proof.Machine.execSapChUnmute n p v s
  | .zeroCrossing n c => Sys2Proof.Machine.execZeroCrossing n c s
  | .zcTimeout n c => Sys2Proof.Machine.execZcTimeout n c s
  | .asrcLock n ratio => Sys2Proof.Machine.execAsrcLock n ratio s
  | .sapClkLoss n => Sys2Proof.Machine.execSapClkLoss n s
  | .netEnable n p v => Sys2Proof.Machine.execNetEnable n p v s
  | .netDisable n p v => Sys2Proof.Machine.execNetDisable n p v s
  | .serdesLock n p v => Sys2Proof.Machine.execSerdesLock n p v s
  | .linkDown n rx => Sys2Proof.Machine.execLinkDown n rx s
  | .linkUp n reported => Sys2Proof.Machine.execLinkUp n reported s
  | .frameReceive n f lpi => Sys2Proof.Machine.execFrameReceive n f lpi s
  | .frameTxStart n ns frac => Sys2Proof.Machine.execFrameTxStart n ns frac s
  | .frameTxComplete n => Sys2Proof.Machine.execFrameTxComplete n s
  | .netSnap p v => Sys2Proof.Machine.execNetSnap p v s
  | .mdioC22Write p v => Sys2Proof.Machine.execMdioC22Write p v s
  | .mdioC22Read p v => Sys2Proof.Machine.execMdioC22Read p v s
  | .mdioC45Write p v => Sys2Proof.Machine.execMdioC45Write p v s
  | .mdioC45Read p v => Sys2Proof.Machine.execMdioC45Read p v s
  | .mdioC45ReadInc p v => Sys2Proof.Machine.execMdioC45ReadInc p v s
  | .mdioC45Address p v => Sys2Proof.Machine.execMdioC45Address p v s
  | .mdioDone resp v => Sys2Proof.Machine.execMdioDone resp v s
  | .gateEnable n p v => Sys2Proof.Machine.execGateEnable n p v s
  | .gateDisable n p v => Sys2Proof.Machine.execGateDisable n p v s
  | .gateEntryEnd n => Sys2Proof.Machine.execGateEntryEnd n s
  | .verifyFrame n => Sys2Proof.Machine.execVerifyFrame n s
  | .respondFrame n => Sys2Proof.Machine.execRespondFrame n s
  | .verifyTimeout n => Sys2Proof.Machine.execVerifyTimeout n s
  | .pauseFrame => Sys2Proof.Machine.execPauseFrame s
  | .pauseExpiry n => Sys2Proof.Machine.execPauseExpiry n s
  | .pauseTxSend n p v => Sys2Proof.Machine.execPauseTxSend n p v s
  | .mioEnable p v => Sys2Proof.Machine.execMioEnable p v s
  | .mioDisable p v => Sys2Proof.Machine.execMioDisable p v s
  | .mioTblWrite p v => Sys2Proof.Machine.execMioTblWrite p v s
  | .mioTblRead p v => Sys2Proof.Machine.execMioTblRead p v s
  | .mioTblInvalidate p v => Sys2Proof.Machine.execMioTblInvalidate p v s
  | .discPeriod => Sys2Proof.Machine.execDiscPeriod s
  | .probePeriod => Sys2Proof.Machine.execProbePeriod s
  | .discReceive => Sys2Proof.Machine.execDiscReceive s
  | .probeReceive => Sys2Proof.Machine.execProbeReceive s
  | .topoLinkDown => Sys2Proof.Machine.execTopoLinkDown s
  | .topoBreakSet => Sys2Proof.Machine.execTopoBreakSet s
  | .chainPortLoss n => Sys2Proof.Machine.execChainPortLoss n s
  | .noPeerTimeout n => Sys2Proof.Machine.execNoPeerTimeout n s
  | .nodeTimeout net mac => Sys2Proof.Machine.execNodeTimeout net mac s
  | .ringTimeout net => Sys2Proof.Machine.execRingTimeout net s
  | .restoreTimeout n => Sys2Proof.Machine.execRestoreTimeout n s
  | .segOverTimeout net => Sys2Proof.Machine.execSegOverTimeout net s
  | .fnidListenEnd => Sys2Proof.Machine.execFnidListenEnd s
  | .fnidClaimEnd => Sys2Proof.Machine.execFnidClaimEnd s
  | .addressAge k => Sys2Proof.Machine.execAddressAge k s
  | .mgmtRequest m early => Sys2Proof.Machine.execMgmtRequest m early s
  | .mgmtResponse => Sys2Proof.Machine.execMgmtResponse s
  | .mioReqRead p v => Sys2Proof.Machine.execMioReqRead p v s
  | .mioReqWrite p v => Sys2Proof.Machine.execMioReqWrite p v s
  | .mioReqInbox p v => Sys2Proof.Machine.execMioReqInbox p v s
  | .mioReqRetx => Sys2Proof.Machine.execMioReqRetx s
  | .mioReqTimeout => Sys2Proof.Machine.execMioReqTimeout s
  | .t1sEnable p v => Sys2Proof.Machine.execT1sEnable p v s
  | .t1sFrameReceive f => Sys2Proof.Machine.execT1sFrameReceive f s
  | .beacon => Sys2Proof.Machine.execBeacon s
  | .transmitOpportunity further => Sys2Proof.Machine.execTransmitOpportunity further s
  | .beaconLoss => Sys2Proof.Machine.execBeaconLoss s
  | .collision late r => Sys2Proof.Machine.execCollision late r s
  | .backoffEnd => Sys2Proof.Machine.execBackoffEnd s
  | .cueEnable p v => Sys2Proof.Machine.execCueEnable p v s
  | .cueDisable p v => Sys2Proof.Machine.execCueDisable p v s
  | .cueFire => Sys2Proof.Machine.execCueFire s
  | .cueTrigger => Sys2Proof.Machine.execCueTrigger s
  | .cuePinEdge k level => Sys2Proof.Machine.execCuePinEdge k level s
  | .cueGo p v => Sys2Proof.Machine.execCueGo p v s
  | .cueTblWrite p v => Sys2Proof.Machine.execCueTblWrite p v s
  | .cueTblRead p v => Sys2Proof.Machine.execCueTblRead p v s
  | .cueTblArm p v => Sys2Proof.Machine.execCueTblArm p v s
  | .cueTblDisarm p v => Sys2Proof.Machine.execCueTblDisarm p v s
  | .cueFrameDeadline n => Sys2Proof.Machine.execCueFrameDeadline n s
  | .cuePinDirWrite p v => Sys2Proof.Machine.execCuePinDirWrite p v s
  | .dmxPortEnable q p v => Sys2Proof.Machine.execDmxPortEnable q p v s
  | .dmxBreak q => Sys2Proof.Machine.execDmxBreak q s
  | .e131Packet => Sys2Proof.Machine.execE131Packet s
  | .ltcFrame => Sys2Proof.Machine.execLtcFrame s
  | .ltcInFrame rate h m sec f ub broken => Sys2Proof.Machine.execLtcInFrame rate h m sec f ub broken s
  | .ltcLoss => Sys2Proof.Machine.execLtcLoss s
  | .haloEnable p v => Sys2Proof.Machine.execHaloEnable p v s
  | .haloDisable p v => Sys2Proof.Machine.execHaloDisable p v s
  | .heartbeatDue => Sys2Proof.Machine.execHeartbeatDue s
  | .wireHeartbeat w => Sys2Proof.Machine.execWireHeartbeat w s
  | .heartbeatFrame => Sys2Proof.Machine.execHeartbeatFrame s
  | .haloPartnerLost => Sys2Proof.Machine.execHaloPartnerLost s
  | .haloInitTimeout => Sys2Proof.Machine.execHaloInitTimeout s
  | .haloReqTimeout => Sys2Proof.Machine.execHaloReqTimeout s
  | .haloSwitch p v => Sys2Proof.Machine.execHaloSwitch p v s
  | .haloReclaimNow p v => Sys2Proof.Machine.execHaloReclaimNow p v s
  | .reclaimExpiry => Sys2Proof.Machine.execReclaimExpiry s
  | .detachTimeout => Sys2Proof.Machine.execDetachTimeout s
  | .haloRoleLock p v => Sys2Proof.Machine.execHaloRoleLock p v s
  | .hqPop q p x => Sys2Proof.Machine.execHqPop q p x s
  | .hqFlush q p v m => Sys2Proof.Machine.execHqFlush q p v m s
  | .hqFlushComplete q => Sys2Proof.Machine.execHqFlushComplete q s
  | .hqPointerMismatch q => Sys2Proof.Machine.execHqPointerMismatch q s
  | .hqWmWrite q p x => Sys2Proof.Machine.execHqWmWrite q p x s
  | .fcMapWrite hi p v => Sys2Proof.Machine.execFcMapWrite hi p v s
  | .hqEnable q p v => Sys2Proof.Machine.execHqEnable q p v s
  | .spiTransaction m x => Sys2Proof.Machine.execSpiTransaction m x s
  | .spiAbort m x bytes itemsOut inStatus => Sys2Proof.Machine.execSpiAbort m x bytes itemsOut inStatus s
  | .cmpWrite m addr ws => Sys2Proof.Machine.execCmpWrite m addr ws s
  | .cmpRead m addr n => Sys2Proof.Machine.execCmpRead m addr n s
  | .cmpAbort m addr ws => Sys2Proof.Machine.execCmpAbort m addr ws s
  | .registerWrite m p addr size v => Sys2Proof.Machine.execRegisterWrite m p addr size v s
  | .ignRecPop p => Sys2Proof.Machine.execIgnRecPop p s
  | .mbxDataWrite p v => Sys2Proof.Machine.execMbxDataWrite p v s
  | .mbxPost p v => Sys2Proof.Machine.execMbxPost p v s
  | .mbxClear p v => Sys2Proof.Machine.execMbxClear p v s
  | .wdogKick p v => Sys2Proof.Machine.execWdogKick p v s
  | .wdogExpiry => Sys2Proof.Machine.execWdogExpiry s
  | .clkSwitch m p v => Sys2Proof.Machine.execClkSwitch m p v s
  | .syspllLock => Sys2Proof.Machine.execSyspllLock s
  | .tpllLock cycles => Sys2Proof.Machine.execTpllLock cycles s
  | .clkRefLoss => Sys2Proof.Machine.execClkRefLoss s
  | .syspllUnlock => Sys2Proof.Machine.execSyspllUnlock s
  | .pwrReqWrite k m p v => Sys2Proof.Machine.execPwrReqWrite k m p v s
  | .idleTimerExpiry k w => Sys2Proof.Machine.execIdleTimerExpiry k w s
  | .cmpWake x => Sys2Proof.Machine.execCmpWake x s
  | .linkEnergy n bad => Sys2Proof.Machine.execLinkEnergy n bad s
  | .t1sLinkEnergy bad => Sys2Proof.Machine.execT1sLinkEnergy bad s
  | .wakeFrame bad => Sys2Proof.Machine.execWakeFrame bad s
  | .rqlEnable n p v => Sys2Proof.Machine.execRqlEnable n p v s
  | .rqlDisable n p v => Sys2Proof.Machine.execRqlDisable n p v s
  | .rqlEvtInj n p v => Sys2Proof.Machine.execRqlEvtInj n p v s
  | .rqlStep m n time => Sys2Proof.Machine.execRqlStep m n time s
  | .rqlTimerExpiry n t => Sys2Proof.Machine.execRqlTimerExpiry n t s
  | .powerOnReset => Sys2Proof.Machine.execPowerOnReset s
  | .resetNAssert => Sys2Proof.Machine.execResetNAssert s
  | .resetRelease x => Sys2Proof.Machine.execResetRelease x s
  | .waitSectionEnd timeout => Sys2Proof.Machine.execWaitSectionEnd timeout s
  | .imageClockSwitch timeout => Sys2Proof.Machine.execImageClockSwitch timeout s
  | .bootConfirm p v => Sys2Proof.Machine.execBootConfirm p v s
  | .bootRestart p v => Sys2Proof.Machine.execBootRestart p v s
  | .bootClearFail p v => Sys2Proof.Machine.execBootClearFail p v s
  | .nvmRelease p v content => Sys2Proof.Machine.execNvmRelease p v content s
  | .lcGo m p v => Sys2Proof.Machine.execLcGo m p v s
  | .lcLock p v => Sys2Proof.Machine.execLcLock p v s
  | .progKey p v => Sys2Proof.Machine.execProgKey p v s
  | .revoke p v => Sys2Proof.Machine.execRevoke p v s
  | .scrubRead array sub word err => Sys2Proof.Machine.execScrubRead array sub word err s
  | .rowMigrated array sub row => Sys2Proof.Machine.execRowMigrated array sub row s
  | .trackerEntryExpiry array sub row => Sys2Proof.Machine.execTrackerEntryExpiry array sub row s
  | .repairWriteback => Sys2Proof.Machine.execRepairWriteback s
  | .repairWritebackDone ok => Sys2Proof.Machine.execRepairWritebackDone ok s
  | .fatalError => Sys2Proof.Machine.execFatalError s
  | .fatalLogClr p v => Sys2Proof.Machine.execFatalLogClr p v s
  | .injArm p v => Sys2Proof.Machine.execInjArm p v s
  | .ddrEnable p v => Sys2Proof.Machine.execDdrEnable p v s
  | .ddrDisable p v => Sys2Proof.Machine.execDdrDisable p v s
  | .ddrTrainingDone result => Sys2Proof.Machine.execDdrTrainingDone result s
  | .ddrRegionReady => Sys2Proof.Machine.execDdrRegionReady s
  | .ddrWipeDone => Sys2Proof.Machine.execDdrWipeDone s
  | .ddrReadFail who rank beat syndrome => Sys2Proof.Machine.execDdrReadFail who rank beat syndrome s
  | .ddrAlert => Sys2Proof.Machine.execDdrAlert s
  | .ddrPatrolRead rank beat err => Sys2Proof.Machine.execDdrPatrolRead rank beat err s
  | .hotswapAssert => Sys2Proof.Machine.execHotswapAssert s
  | .hotswapGlitch => Sys2Proof.Machine.execHotswapGlitch s
  | .hotswapRelease => Sys2Proof.Machine.execHotswapRelease s
  | .hotswapLoadResume reread => Sys2Proof.Machine.execHotswapLoadResume reread s
  | .refclkReturn => Sys2Proof.Machine.execRefclkReturn s
  | .portFaulted n c => Sys2Proof.Machine.execPortFaulted n c s
  | .portFaultCleared e => Sys2Proof.Machine.execPortFaultCleared e s
  | .heartbeatPathSilent path => Sys2Proof.Machine.execHeartbeatPathSilent path s
  | .haloPactChange level => Sys2Proof.Machine.execHaloPactChange level s
  | .deferEnd => Sys2Proof.Machine.execDeferEnd s
  | .postedWriteDone => Sys2Proof.Machine.execPostedWriteDone s
  | .syncDue k n => Sys2Proof.Machine.execSyncDue k n s

end Sys2Proof.Machine
end

