-- ==== Sys2Proof/Safety.lean ====
section
/-! DEFINITION. What a safe run is, in the terms statements use: no step faults or is refused, the memories and maps of the
state stand in their one canonical form, and the interrupt balls agree with their causes. -/

namespace Sys2Proof.Machine

open Sys2Proof

/-- A step that goes on. -/
def Goes (o : Host.Outcome State Fault Refusal) (t : State) : Prop := o = .next t

/-- The interrupt balls show what their causes drive (R433). -/
def Dev.IrqShown (d : Dev) : Prop := d.irqA = d.irqPinA ∧ d.irqB = d.irqPinB

/-- No PTP port waits for its program to start it (R79). -/
def Dev.portsBegun (d : Dev) (i : Nat) : Bool := d.pstate i 0 != 1 && d.pstate i 1 != 1 && d.pstate i 2 != 1 && d.pstate i 3 != 1

/-- No work of the device's own follows the next command: no detach is due or under way, no warm start is asked for and the loader
does not wait for its clock or for QUEUED, no PTP domain is in ACQ or LOCK and no port of one is INITIALIZING, Halo is off, and
PPS_OUT is low or its gate holds. -/
def Dev.calm (d : Dev) : Bool :=
  !d.pin.due && d.pin.detach.isNone && d.boot.start == 0 && d.boot.loader != .sel && d.boot.loader != .queued &&
  (d.ptpLock 0 != 1 && d.ptpLock 0 != 2) && (d.ptpLock 1 != 1 && d.ptpLock 1 != 2) &&
  (d.ptpLock 2 != 1 && d.ptpLock 2 != 2) && (d.ptpLock 3 != 1 && d.ptpLock 3 != 2) &&
  d.portsBegun 0 && d.portsBegun 1 && d.portsBegun 2 && d.portsBegun 3 && d.haloState == 0 &&
  (!d.time.ppsOut || d.ppsGateOk)

/-- Command `i` completes at `s`: `exec` goes on, the commands that wait still wait, and the device after it satisfies `P`. -/
def Completes (i : Instr) (s : State) (P : Dev → Prop) : Prop :=
  ∃ t, exec i s = .next t ∧ t.pending = s.pending ∧ P t.dev

/-- Time passes at `s`, whose queue is empty: the step goes on, no command waits after it, and the device satisfies `P`. -/
def Passes (s : State) (P : Dev → Prop) : Prop :=
  ∃ t, step s = .next t ∧ t.pending = s.pending ∧ P t.dev

/-- Every register outside `L` holds in `d'` the word it holds in `d`. -/
def Dev.sameRegs (d d' : Dev) (L : List Nat) : Prop := ∀ a, a ∉ L → d'.reg a = d.reg a

/-- Every byte of table memory and of the Anvil store reads in `d'` as it reads in `d`. -/
def Dev.sameMem (d d' : Dev) : Prop := (∀ a, readByte d'.tbl a = readByte d.tbl a) ∧ ∀ a, readByte d'.store a = readByte d.store a

/-- Every byte reads in `d'` as in `d`, but for the `n` bytes of table memory from `a`. -/
def Dev.sameMemBut (d d' : Dev) (a n : Nat) : Prop :=
  (∀ c, c < a ∨ a + n ≤ c → readByte d'.tbl c = readByte d.tbl c) ∧ ∀ c, readByte d'.store c = readByte d.store c

/-- Table memory reads in `d'` as in `d`, and so does the Anvil store outside `lo` to `hi − 1`. -/
def Dev.sameStoreBut (d d' : Dev) (lo hi : Nat) : Prop :=
  (∀ a, readByte d'.tbl a = readByte d.tbl a) ∧ ∀ a, a < lo ∨ hi ≤ a → readByte d'.store a = readByte d.store a

/-- The checks of a 32-bit write by port `p` at address `a` all pass (Table 17.1). -/
abbrev Dev.takes (d : Dev) (p : Port) (a : Nat) : Prop := d.accCheck p a .b32 true = none

/-- The device with the register at `a` as a write of `v` stores it: the bits that software writes, but for class D bits whose
owner is enabled (R419, R428, R430). -/
def Dev.stored (d : Dev) (a : Nat) (v : Word) : Dev :=
  match regAt a with
  | none => d
  | some (r, i, _) =>
    let take := writeMask r v &&& ~~~(if d.owned r i then w32 r.dcls else 0)
    d.setReg a ((d.reg a &&& ~~~take) ||| (v &&& take))

/-- The registers that a record in the event log may change (R401 to R412, R537): the counters of its queue, and an armed
injection. -/
def Dev.evtRegs (d : Dev) : List Nat :=
  let q := d.get fHQ_ROUTE_EVT_Q
  [rHQnn_WM_CROSS_CNT q, rHQnn_DISC_CNT q, rHQnn_LOST_CNT q, rHQnn_TORN_CNT q, rHQnn_REJECT_CNT q, rINT_INJ_CMD]

/-- What a command says a domain does of itself, it does only while that domain is ON and its clock runs (R453, R455; log entry
216). -/
def Dev.atWork (d : Dev) : Instr → Bool
  | .ppsInLos | .clk10mWindow _ | .clk10mLos | .servoSourceLost _ | .servoHoldExpiry _ | .ptpMeasurement _ _ _ _ _ _
  | .announceInterval _ | .announceReceiptTimeout _ _ | .delayReqDue _ _ | .syncDue _ _ | .governingChange => d.timeRuns
  | .ptpMessageHeld _ => d.domOn 1 && d.timeRuns
  | .mcgSourceLoss _ | .mcgSourceQualified _ | .mcgFree _ => d.domOn 4
  | .deepStagingCopy _ => d.domOn 1 && d.domOn 14
  | .stxQueuedCmd _ | .packetEmit _ | .streamCopy | .streamLossTimeout _ | .grpWaitExpiry _ _ | .crfConcealTimeout _
  | .deadlineCancel _ _ | .lateResultDiscard _ _ | .mdioDone _ _ | .pauseFrame | .discPeriod | .probePeriod
  | .discReceive | .probeReceive | .topoLinkDown | .topoBreakSet | .chainPortLoss _ | .noPeerTimeout _
  | .nodeTimeout _ _ | .ringTimeout _ | .restoreTimeout _ | .segOverTimeout _ | .fnidListenEnd | .fnidClaimEnd
  | .addressAge _ | .mgmtRequest _ _ | .mgmtResponse | .mioReqRetx | .mioReqTimeout | .cueFire | .cueTrigger
  | .cueFrameDeadline _ | .dmxBreak _ | .e131Packet | .ltcFrame | .ltcInFrame _ _ _ _ _ _ _ | .ltcLoss | .heartbeatDue
  | .wireHeartbeat _ | .heartbeatFrame | .haloPartnerLost | .haloInitTimeout | .haloReqTimeout | .reclaimExpiry
  | .detachTimeout | .heartbeatPathSilent _ | .hqFlushComplete _ | .hqPointerMismatch _ | .scrubRead _ _ _ _
  | .rowMigrated _ _ _ | .trackerEntryExpiry _ _ _ | .repairWriteback | .repairWritebackDone _ | .waitSectionEnd _
  | .imageClockSwitch _ | .rqlStep _ _ _ | .rqlTimerExpiry _ _ => d.domOn 1
  | .linkDown n _ | .linkUp n _ | .frameReceive n _ _ | .frameTxStart n _ _ | .gateEntryEnd n | .verifyFrame n
  | .respondFrame n | .verifyTimeout n | .pauseExpiry n | .portFaulted n _ => d.domOn (9 + n.val)
  | .t1sFrameReceive _ | .beacon | .transmitOpportunity _ | .beaconLoss | .collision _ _ | .backoffEnd | .deferEnd => d.domOn 13
  | .ddrTrainingDone _ | .ddrRegionReady | .ddrWipeDone | .ddrReadFail _ _ _ _ | .ddrAlert | .ddrPatrolRead _ _ _
  | .postedWriteDone => d.domOn 14
  | .frameTxComplete n => d.domOn (if n.val = 4 then 13 else 9 + n.val)
  | .portFaultCleared e => d.domOn (9 + e.port.val)
  | _ => true

/-- `n` steps of the machine, as far as they go on. -/
def run : Nat → State → Host.Outcome State Fault Refusal
  | 0, s => .next s
  | n + 1, s =>
    match step s with
    | .next t => run n t
    | .fault f => .fault f
    | .refused r => .refused r

/-- A run of `n` steps is safe: it neither faults nor is refused. -/
def SafeRun (n : Nat) (s : State) : Prop := ∃ t, run n s = .next t

end Sys2Proof.Machine
end

