-- ==== Sys2Proof/Certificates/Slice0/Obligations.lean ====
section
/-! DEFINITION. The statements for the provers. In each clause `d` is the device after the command; a clause names what it
changes, and `Dev.sameRegs` and the last equation say that nothing else does. -/

open Sys2Proof Sys2Proof.Machine

/-- For every command and state, a step with that command at the front of the queue is exec of it on the state with the
rest of the queue; with an empty queue the step is the passing of time of log entry 6 (the model's choice), and the
queue stays empty. (00_scope, 01_architecture) -/
def Obligations.AStepRunsTheFrontCommand : Prop :=
  (∀ (c : Instr) (s : State), step { s with pending := c :: s.pending } = exec c s) ∧
  (∀ s : State, s.pending = [] → step s = .next { s with dev := s.dev.idle })

/-- Every command completes at every state, keeps the commands that wait, and leaves the interrupt balls as their causes
drive them; so every run of any length goes on. A command that says what a domain does of itself changes nothing while
that domain is not ON or its clock stands (log entry 216). (R433, R419, R453) -/
def Obligations.EveryRunGoesOn : Prop :=
  (∀ (i : Instr) (s : State), Completes i s fun d => d.IrqShown) ∧ (∀ (n : Nat) (s : State), SafeRun n s) ∧
  (∀ (i : Instr) (s : State), s.dev.atWork i = false → exec i s = s.done s.dev)

/-- After every step from every state, IRQ_A_N and IRQ_B_N are asserted exactly when their enabled causes say so and the
balls are driven; every run from such a state keeps it. (R433) -/
def Obligations.InterruptBallsFollowTheirCauses : Prop :=
  (∀ s t : State, s.dev.IrqShown → step s = .next t → t.dev.IrqShown) ∧
  (∀ (n : Nat) (s t : State), s.dev.IrqShown → run n s = .next t → t.dev.IrqShown ∧ t.pending = s.pending.drop n)

/-- Right after reset no command waits, table memory and the Anvil store are empty, the balls are released, and the
registers hold the values the spec gives: RESET_CAUSE of a power-on reset, the nominal addend, every comparator
unowned, every generator, port and context disabled, no capture held, and the time base at 0. (R36, R41, R44, R443,
R492) -/
def Obligations.ResetLeavesTheSpecsValues : Prop :=
  State.reset.pending = [] ∧ State.reset.dev.tbl = [] ∧ State.reset.dev.store = [] ∧ State.reset.dev.IrqShown ∧
  State.reset.dev.reg rGLB_RESET_CAUSE = 1 ∧ State.reset.dev.addend = 0x020000000000 ∧ State.reset.dev.time.value = 0 ∧
  (∀ n ∈ List.range 64, State.reset.dev.get (fTIME_TCMPnn_OWNER_OWNER n) = 0) ∧
  (∀ g ∈ List.range 8, State.reset.dev.on (fMCGn_CTL_EN g) = false) ∧
  (∀ n ∈ List.range 4, State.reset.dev.on (fNETn_MAC_CFG_EN n) = false) ∧
  (∀ k ∈ List.range 16, State.reset.dev.reg (rSTX_ENMAPkk k) = 0 ∧ State.reset.dev.reg (rSRX_ENMAPkk k) = 0) ∧
  State.reset.dev.on fANV_CTL_EN = false ∧ State.reset.dev.on fGLB_BUSERR_LOG_VALID = false ∧
  State.reset.dev.on fINT_ECC_LOG_VALID = false

/-- From a state whose table memory and Anvil store are in canonical form, the committing window writes, power-on reset
and RESET_N leave them so; the state after reset has it. The form is the model's choice (log entry 2).
(01_architecture, 21_start_image_lifecycle) -/
def Obligations.MemoriesKeepTheirForm : Prop :=
  Memory.wf State.reset.dev.tbl = true ∧ Memory.wf State.reset.dev.store = true ∧
  ∀ s : State, Memory.wf s.dev.tbl = true → Memory.wf s.dev.store = true → s.dev.calm = true →
    (∀ (p : Port) (a : BitVec 24) (off : Nat) (v : Word), s.dev.takes p a.toNat → s.dev.place p a.toNat = .table off →
      Completes (.windowWriteUpper p a v) s fun d => Memory.wf d.tbl = true ∧ Memory.wf d.store = true) ∧
    (∀ (p : Port) (a : BitVec 24) (off : Nat) (v : Word), s.dev.takes p a.toNat → s.dev.place p a.toNat = .anvil off →
      Completes (.windowWriteUpper p a v) s fun d => Memory.wf d.tbl = true ∧ Memory.wf d.store = true) ∧
    Completes .powerOnReset s (fun d => Memory.wf d.tbl = true ∧ Memory.wf d.store = true) ∧
    Completes .resetNAssert s (fun d => Memory.wf d.tbl = true ∧ Memory.wf d.store = true)

/-- A generator that issues ticks gives the next one SIDX + 1 and offers the word to each of its followers, SIDX and
nothing else of the register file changing. The word that waits in a holding register is sent once the handshake is
idle; a word in flight is delivered to a consumer whose clock runs; a sample word is stored as it is if its residue
fits, else as zero, and counted. A consumer that gets a word no newer than its index drops and counts it; the stream
engine, with no context at work, takes a word up to 64 ahead and counts the words coalesced into it. (R13, R17, R18,
R31, R106, R118) -/
def Obligations.TicksCrossToConsumers : Prop :=
  (∀ (s : State) (g : Fin 8), s.dev.calm = true → s.dev.mcgRuns g.val = true → (s.dev.mcgOf g.val).jump = false →
    ((s.dev.mcgState g.val = 2 ∧ s.dev.mcgEpoch g.val = true ∧ (s.dev.mcgOf g.val).epoch = true → s.dev.mcgAt g.val (s.dev.mcgSidx g.val + 1).toNat = true)) →
    (s.dev.mcgOf g.val).first = false → (s.dev.mcgOf g.val).issued = true →
    (s.dev.mcgOf g.val).kind = s.dev.get (fMCGn_SRC_KIND g.val) →
    (s.dev.mcgOf g.val).index = s.dev.get (fMCGn_SRC_INDEX g.val) → (s.dev.mcgOf g.val).rebase = false →
      Completes (.tickIssue g) s fun d =>
        d.mcgSidx g.val = s.dev.mcgSidx g.val + 1 ∧
        (∀ c ∈ s.dev.followers g.val, d.path g.val c = (s.dev.path g.val c).offer { sidx := s.dev.mcgSidx g.val + 1, rebase := false }) ∧
        s.dev.sameRegs d [rMCGn_SIDX_H g.val, rMCGn_SIDX_L g.val] ∧
        d = { s.dev with regs := d.regs, mcg := d.mcg, ticks := d.ticks, irqA := d.irqA, irqB := d.irqB }) ∧
  (∀ (s : State) (g : Fin 8) (c : Consumer) (w : BitVec 64) (r : Bool), s.dev.calm = true →
    (s.dev.path g.val c).flight = none → (s.dev.path g.val c).hold = some { sidx := w, rebase := r } →
      Completes (.tickHoldSend g c) s fun d =>
        d.path g.val c = { s.dev.path g.val c with flight := some { sidx := w, rebase := r }, hold := none } ∧
        s.dev.sameRegs d [] ∧
        d = { s.dev with regs := d.regs, ticks := d.ticks, irqA := d.irqA, irqB := d.irqB }) ∧
  (∀ (s : State) (g : Fin 8) (c : Consumer) (w : TickWord), s.dev.calm = true → s.dev.consumerRuns c = true →
    (s.dev.path g.val c).arrived = none → (s.dev.path g.val c).flight = some w →
      Completes (.crossingWordDeliver (.tick g c)) s fun d =>
        d.path g.val c = { s.dev.path g.val c with arrived := some w, flight := none } ∧
        s.dev.sameRegs d [] ∧
        d = { s.dev with regs := d.regs, ticks := d.ticks, irqA := d.irqA, irqB := d.irqB }) ∧
  (∀ (s : State) (src : Nat) (dst : Nat) (h : BitVec 16) (x : BitVec 64) (w : BitVec 64) (r : Nat), s.dev.calm = true →
    src < 43 → dst < 43 → s.dev.islandRuns dst = true → res w.toInt = r →
      Completes (.crossingWordDeliver (.sample src dst h x w r)) s fun d =>
        kget 0 d.xing (64 * src + dst) = w ∧
        s.dev.sameRegs d [] ∧
        d = { s.dev with regs := d.regs, xing := d.xing, irqA := d.irqA, irqB := d.irqB }) ∧
  (∀ (s : State) (src : Nat) (dst : Nat) (h : BitVec 16) (x : BitVec 64) (w : BitVec 64) (r : Nat), s.dev.calm = true →
    src < 43 → dst < 43 → s.dev.islandRuns dst = true → res w.toInt ≠ r →
      Completes (.crossingWordDeliver (.sample src dst h x w r)) s fun d =>
        kget 0 d.xing (64 * src + dst) = 0 ∧
        (d.reg rINT_RES_XING_CNT).toNat = min ((s.dev.reg rINT_RES_XING_CNT).toNat + 1) (2 ^ 32 - 1)) ∧
  (∀ (s : State) (g : Fin 8) (c : Consumer) (w : TickWord) (l : BitVec 64), s.dev.calm = true → s.dev.consumerRuns c = true →
    c ∈ s.dev.followers g.val → (c ≠ .core ∨ s.dev.selAct = true) → (s.dev.path g.val c).arrived = some w →
    (s.dev.path g.val c).idx = some l → w.rebase = false → (s.dev.path g.val c).fresh = false → sdiff64 w.sidx l ≤ 0 →
      Completes (.tickWord g c) s fun d =>
        d.path g.val c = { s.dev.path g.val c with arrived := none } ∧
        (d.reg rGLB_TICK_DUP_CNT).toNat = min ((s.dev.reg rGLB_TICK_DUP_CNT).toNat + 1) (2 ^ 32 - 1) ∧
        s.dev.sameRegs d [rGLB_TICK_DUP_CNT] ∧
        d = { s.dev with regs := d.regs, ticks := d.ticks, irqA := d.irqA, irqB := d.irqB }) ∧
  (∀ (s : State) (g : Fin 8) (w : TickWord) (l : BitVec 64), s.dev.calm = true → s.dev.domOn 1 = true →
    Consumer.core ∈ s.dev.followers g.val → s.dev.selAct = true → s.dev.mapBits (rSTX_ENMAPkk 0) = [] →
    s.dev.srxOrder = [] → (s.dev.path g.val .core).arrived = some w → (s.dev.path g.val .core).idx = some l →
    w.rebase = false → (s.dev.path g.val .core).fresh = false → 0 < sdiff64 w.sidx l → sdiff64 w.sidx l ≤ 64 →
      Completes (.tickWord g .core) s fun d =>
        d.path g.val .core = { s.dev.path g.val .core with arrived := none, idx := some w.sidx } ∧
        (d.reg rGLB_TICK_COAL_CNT).toNat = min ((s.dev.reg rGLB_TICK_COAL_CNT).toNat + ((sdiff64 w.sidx l).toNat - 1)) (2 ^ 32 - 1) ∧
        s.dev.sameRegs d [rGLB_TICK_COAL_CNT] ∧
        d = { s.dev with regs := d.regs, ticks := d.ticks, irqA := d.irqA, irqB := d.irqB })

/-- A write of GLB_WIN_PAGE sets the pages. A write to the lower half of a word of table memory through its window is
staged by the port and changes no memory; a write to the upper half, with a half staged for that word and no owner
keeping the word, commits upper and staged lower half together and changes no other byte; a read of the lower half
returns it and latches the upper half for the port. (R20, R22, R23, R24, R37, R418) -/
def Obligations.WindowsStageAndCommit : Prop :=
  (∀ (s : State) (p : Port) (v : Word), s.dev.calm = true → s.dev.takes p rGLB_WIN_PAGE →
      Completes (.winPageWrite p v) s fun d =>
        d.get fGLB_WIN_PAGE_TPAGE = fGLB_WIN_PAGE_TPAGE.get v ∧
        d.get fGLB_WIN_PAGE_APAGE = fGLB_WIN_PAGE_APAGE.get v ∧
        (d.port p).code = 0 ∧
        s.dev.sameRegs d [rGLB_WIN_PAGE, rGLB_STAGE_DROP_CNT] ∧
        d = { s.dev with regs := d.regs, ports := d.ports, irqA := d.irqA, irqB := d.irqB }) ∧
  (∀ (s : State) (p : Port) (a : BitVec 24) (off : Nat) (v : Word), s.dev.calm = true → s.dev.takes p a.toNat →
    s.dev.place p a.toNat = .table off → off % 8 = 0 → (s.dev.port p).stage = none →
      Completes (.windowWriteLower p a v) s fun d =>
        (d.port p).stage = some (0, off, v) ∧
        (d.port p).code = 0 ∧
        s.dev.sameRegs d [] ∧
        d = { s.dev with regs := d.regs, ports := d.ports, irqA := d.irqA, irqB := d.irqB }) ∧
  (∀ (s : State) (p : Port) (a : BitVec 24) (off : Nat) (lo : Word) (v : Word), s.dev.calm = true → s.dev.takes p a.toNat →
    s.dev.place p a.toNat = .table (off + 4) → off % 8 = 0 → (s.dev.port p).stage = some (0, off, lo) →
    s.dev.tblKeeps p off = .taken → s.dev.on fINT_INJ_CMD_ARMED = false →
      Completes (.windowWriteUpper p a v) s fun d =>
        readWord64 d.tbl off = v.toNat * 2 ^ 32 + lo.toNat ∧
        (d.port p).stage = none ∧
        s.dev.sameMemBut d off 8 ∧
        (d.port p).code = 0 ∧
        s.dev.sameRegs d [] ∧
        d = { s.dev with regs := d.regs, ports := d.ports, tbl := d.tbl, poison := d.poison, integ := d.integ, irqA := d.irqA, irqB := d.irqB }) ∧
  (∀ (s : State) (p : Port) (a : BitVec 24) (off : Nat), s.dev.calm = true → s.dev.accCheck p a.toNat .b32 false = none →
    s.dev.place p a.toNat = .table off → off % 8 = 0 → s.dev.poisoned 3 (off / 8) = false →
    kget false s.dev.integ.weak (8388608 * 3 + off / 8) = false →
    kget false s.dev.integ.stuck (8388608 * 3 + off / 8) = false →
      Completes (.windowReadLower p a .b32) s fun d =>
        (d.port p).resp = [readWord64 s.dev.tbl off % 2 ^ 32] ∧
        (d.port p).winTbl = some (off, BitVec.ofNat 32 (readWord64 s.dev.tbl off / 2 ^ 32)) ∧
        (d.port p).code = 0 ∧
        s.dev.sameRegs d [] ∧
        d = { s.dev with regs := d.regs, ports := d.ports, irqA := d.irqA, irqB := d.irqB }) ∧
  (∀ (s : State) (p : Port) (a : BitVec 24), s.dev.calm = true → s.dev.accCheck p a.toNat .b32 false = none →
    (a = 0x030018 ∨ a = 0x050120 ∨ a = 0x040130) →
      Completes (.pairLowRead p a .b32) s fun d =>
        (d.port p).resp = [(s.dev.portValue p a.toNat).toNat] ∧
        (∀ b ∈ latchedBy a.toNat, d.latched p b = some (s.dev.regValue b)) ∧
        (d.port p).code = 0) ∧
  (∀ (s : State) (p : Port), s.dev.calm = true → s.dev.accCheck p rGLB_BUSERR_LOG .b32 false = none →
    s.dev.latched p rGLB_BUSERR_LOG = none →
      Completes (.captureRead p (BitVec.ofNat 24 rGLB_BUSERR_LOG) .b32) s fun d =>
        (d.port p).resp = [(s.dev.reg rGLB_BUSERR_LOG).toNat] ∧
        d.on fGLB_BUSERR_LOG_VALID = false ∧
        s.dev.sameRegs d [rGLB_BUSERR_LOG] ∧
        d = { s.dev with regs := d.regs, ports := d.ports, irqA := d.irqA, irqB := d.irqB })

/-- With the servo off, SET with a valid TIME_SET_NS loads the four TIME_SET registers, so that the time base shows
exactly their value. STEP alone adds TIME_STEP_ADJ, signed, in units of 2^-16 ns, to the value that the edge would
otherwise show, modulo the range of the time base. With SERVO_EN = 0 a write of TIME_ADDEND_L is held by the port that
wrote it and changes no register; the write of TIME_ADDEND_H forms the addend from its 16 bits and the half held by
that port, or the half in force, confines it to nominal ±1 000 ppm, and counts a value that the confinement replaced.
A 32-bit read of TIME_NOW_FRAC returns the fraction and latches nanoseconds and seconds of the same instant for the
port. A read of TIME_FT64_L returns the low half of folded time and latches the high half. A read of TIME_STEP_SIZE_L
returns it, latches the high half, and clears the captured step. (R46, R47, R49, R42, R45, R48, R418) -/
def Obligations.TimeBaseIsWrittenAndRead : Prop :=
  (∀ (s : State) (p : Port) (v : Word), s.dev.calm = true → s.dev.takes p rTIME_CTL → s.dev.on fTIME_CTL_SERVO_EN = false →
    fTIME_CTL_SERVO_EN.get v = 0 → fTIME_CTL_STEP.get v = 0 → (s.dev.reg rTIME_SET_NS).toNat < 1000000000 →
    s.dev.on fCUE_STS_RUN = false →
      Completes (.timeSet p v) s fun d =>
        d.time.value = (((s.dev.reg rTIME_SET_SEC_H).toNat % 65536 * 2 ^ 32 + (s.dev.reg rTIME_SET_SEC_L).toNat) * 1000000000 + (s.dev.reg rTIME_SET_NS).toNat) * 2 ^ 40 + (s.dev.reg rTIME_SET_FRAC).toNat % 65536 * 2 ^ 24 ∧
        d.on fTIME_STS_SET_ERR = false) ∧
  (∀ (s : State) (p : Port) (v : Word), s.dev.calm = true → s.dev.takes p rTIME_CTL → s.dev.on fTIME_CTL_SERVO_EN = false →
    fTIME_CTL_SERVO_EN.get v = 0 → fTIME_CTL_SET.get v = 0 → s.dev.on fCUE_STS_RUN = false →
      Completes (.timeCtlStep p v) s fun d =>
        d.time.value = (((((s.dev.time.edge s.dev.addend).value : Nat) : Int) + s.dev.stepAdj * 2 ^ 24) % timeMod).toNat) ∧
  (∀ (s : State) (p : Port) (v : Word), s.dev.calm = true → s.dev.takes p rTIME_ADDEND_L →
    s.dev.on fTIME_CTL_SERVO_EN = false →
      Completes (.timeAddendLWrite p v) s fun d =>
        (d.port p).addendL = some v ∧
        d.addend = s.dev.addend ∧
        (d.port p).code = 0 ∧
        s.dev.sameRegs d [] ∧
        d = { s.dev with regs := d.regs, ports := d.ports, irqA := d.irqA, irqB := d.irqB }) ∧
  (∀ (s : State) (p : Port) (v : Word) (x : Nat), s.dev.calm = true → s.dev.takes p rTIME_ADDEND_H →
    s.dev.on fTIME_CTL_SERVO_EN = false →
    x = v.toNat % 65536 * 2 ^ 32 + ((s.dev.port p).addendL.getD (s.dev.reg rTIME_ADDEND_L)).toNat →
      Completes (.timeAddendHWrite p v) s fun d =>
        d.addend = min 0x020083126E98 (max 0x01FF7CED9168 x) ∧
        (d.reg rTIME_ADDEND_CLAMP_CNT = if 0x01FF7CED9168 ≤ x ∧ x ≤ 0x020083126E98 then s.dev.reg rTIME_ADDEND_CLAMP_CNT else BitVec.ofNat 32 (min ((s.dev.reg rTIME_ADDEND_CLAMP_CNT).toNat + 1) (2 ^ 32 - 1))) ∧
        (d.port p).addendL = none ∧
        (d.port p).code = 0 ∧
        s.dev.sameRegs d [rTIME_ADDEND_L, rTIME_ADDEND_H, rTIME_ADDEND_CLAMP_CNT] ∧
        d = { s.dev with regs := d.regs, ports := d.ports, irqA := d.irqA, irqB := d.irqB }) ∧
  (∀ (s : State) (p : Port), s.dev.calm = true → s.dev.accCheck p rTIME_NOW_FRAC .b32 false = none →
    s.dev.latched p rTIME_NOW_FRAC = none →
      Completes (.timeNowRead p .b32) s fun d =>
        (d.port p).resp = [(s.dev.time.frac >>> 24).toNat % 65536] ∧
        d.latched p rTIME_NOW_NS = some (BitVec.ofNat 32 s.dev.time.ns.toNat) ∧
        d.latched p rTIME_NOW_SEC_L = some (BitVec.ofNat 32 s.dev.time.sec.toNat) ∧
        d.latched p rTIME_NOW_SEC_H = some (BitVec.ofNat 32 (s.dev.time.sec.toNat / 2 ^ 32)) ∧
        s.dev.sameRegs d [] ∧
        d = { s.dev with regs := d.regs, ports := d.ports, irqA := d.irqA, irqB := d.irqB }) ∧
  (∀ (s : State) (p : Port), s.dev.calm = true → s.dev.accCheck p rTIME_FT64_L .b32 false = none →
    s.dev.latched p rTIME_FT64_L = none →
      Completes (.ft64Read p .b32) s fun d =>
        (d.port p).resp = [(s.dev.time.sec.toNat * 1000000000 + s.dev.time.ns.toNat) % 2 ^ 32] ∧
        d.latched p rTIME_FT64_H = some (BitVec.ofNat 32 ((s.dev.time.sec.toNat * 1000000000 + s.dev.time.ns.toNat) / 2 ^ 32)) ∧
        s.dev.sameRegs d [] ∧
        d = { s.dev with regs := d.regs, ports := d.ports, irqA := d.irqA, irqB := d.irqB }) ∧
  (∀ (s : State) (p : Port), s.dev.calm = true → s.dev.accCheck p rTIME_STEP_SIZE_L .b32 false = none →
    s.dev.latched p rTIME_STEP_SIZE_L = none →
      Completes (.stepSizeRead p .b32) s fun d =>
        (d.port p).resp = [(s.dev.reg rTIME_STEP_SIZE_L).toNat] ∧
        d.latched p rTIME_STEP_SIZE_H = some (s.dev.reg rTIME_STEP_SIZE_H) ∧
        d.on fTIME_STEP_SIZE_H_VALID = false ∧
        d.on fTIME_STEP_SIZE_H_OVF = false ∧
        s.dev.sameRegs d [rTIME_STEP_SIZE_L, rTIME_STEP_SIZE_H] ∧
        d = { s.dev with regs := d.regs, ports := d.ports, irqA := d.irqA, irqB := d.irqB })

/-- A host that arms a free, unreserved comparator in one-shot mode holds it under its label and finds it armed at TGT. At
its target a one-shot comparator of the host sets FIRED, counts the fire and disarms, and no other register changes.
DISARM clears ARMED and releases the comparator. (R33, R62, R63, R64) -/
def Obligations.ComparatorsArmFireAndRelease : Prop :=
  (∀ (s : State) (n : Fin 64) (p : Port) (v : Word), s.dev.calm = true → s.dev.takes p (rTIME_TCMPnn_CTL n.val) →
    s.dev.on (fTIME_TCMPnn_STS_ARMED n.val) = false → s.dev.get (fTIME_TCMPnn_OWNER_OWNER n.val) = 0 →
    s.dev.tcmpPrio n.val = 0 → (fTIME_TCMPnn_CTL_MODE n.val).get v = 1 → (fTIME_TCMPnn_CTL_DISARM n.val).get v = 0 →
      Completes (.tcmpArm n p v) s fun d =>
        d.on (fTIME_TCMPnn_STS_ARMED n.val) = true ∧
        d.get (fTIME_TCMPnn_OWNER_OWNER n.val) = 0xA0 + (fTIME_TCMPnn_CTL_LABEL n.val).get v ∧
        (d.tcmpOf n.val).mode = 1 ∧
        (d.tcmpOf n.val).next = BitVec.ofNat 64 (s.dev.pair (rTIME_TCMPnn_TGT_H n.val) (rTIME_TCMPnn_TGT_L n.val)) ∧
        d.on (fTIME_TCMPnn_STS_ARM_ERR n.val) = false ∧
        s.dev.sameRegs d [rTIME_TCMPnn_CTL n.val, rTIME_TCMPnn_STS n.val, rTIME_TCMPnn_OWNER n.val] ∧
        d = { s.dev with regs := d.regs, ports := d.ports, time := d.time, irqA := d.irqA, irqB := d.irqB }) ∧
  (∀ (s : State) (n : Fin 64) (p : Port) (v : Word), s.dev.calm = true → s.dev.takes p (rTIME_TCMPnn_CTL n.val) →
    s.dev.tcmpForeign n.val = false →
      Completes (.tcmpDisarm n p v) s fun d =>
        d.on (fTIME_TCMPnn_STS_ARMED n.val) = false ∧
        d.get (fTIME_TCMPnn_OWNER_OWNER n.val) = 0 ∧
        d.tcmpOf n.val = {}) ∧
  (∀ (s : State) (n : Fin 64), s.dev.calm = true → s.dev.timeRuns = true → s.dev.on (fTIME_TCMPnn_STS_ARMED n.val) = true →
    s.dev.get (fTIME_TCMPnn_OWNER_OWNER n.val) / 32 = 5 → (s.dev.tcmpOf n.val).mode = 1 →
    (s.dev.tcmpOf n.val).late = false → 0 ≤ sdiff64 s.dev.ft64 (s.dev.tcmpOf n.val).next →
      Completes (.tcmpFire n) s fun d =>
        d.on (fTIME_TCMPnn_STS_ARMED n.val) = false ∧
        d.on (fTIME_TCMPnn_STS_FIRED n.val) = true ∧
        (d.reg (rTIME_TCMPnn_FIRE_CNT n.val)).toNat = min ((s.dev.reg (rTIME_TCMPnn_FIRE_CNT n.val)).toNat + 1) (2 ^ 32 - 1) ∧
        s.dev.sameRegs d [rTIME_TCMPnn_STS n.val, rTIME_TCMPnn_FIRE_CNT n.val] ∧
        d = { s.dev with regs := d.regs, irqA := d.irqA, irqB := d.irqB })

/-- A selected edge of an enabled capture appends the 94-bit time to its FIFO while it holds fewer than four, and else
counts an overflow and keeps the FIFO. A 32-bit read of FRAC returns the fraction of the oldest capture and latches
the rest of it; POP discards the oldest; EN = 0 empties the FIFO. (R68, R69) -/
def Obligations.CapturesAreQueuedAndRead : Prop :=
  (∀ (s : State) (n : Fin 16) (up : Bool), s.dev.calm = true → s.dev.timeRuns = true →
    s.dev.on (fTIME_TCAPnn_CFG_EN n.val) = true → s.dev.tcapSees n.val = true →
    (s.dev.get (fTIME_TCAPnn_CFG_EDGE n.val) / (if up then 1 else 2) % 2 = 1) → (s.dev.tcapOf n.val).length < 4 →
      Completes (.tcapEdge n up) s fun d =>
        d.tcapOf n.val = s.dev.tcapOf n.val ++ [s.dev.time.now94] ∧
        d.reg (rTIME_TCAPnn_STS n.val) = BitVec.ofNat 32 ((s.dev.tcapOf n.val).length + 1) ∧
        s.dev.sameRegs d [rTIME_TCAPnn_STS n.val] ∧
        d = { s.dev with regs := d.regs, time := d.time, irqA := d.irqA, irqB := d.irqB }) ∧
  (∀ (s : State) (n : Fin 16) (up : Bool), s.dev.calm = true → s.dev.timeRuns = true →
    s.dev.on (fTIME_TCAPnn_CFG_EN n.val) = true → s.dev.tcapSees n.val = true →
    (s.dev.get (fTIME_TCAPnn_CFG_EDGE n.val) / (if up then 1 else 2) % 2 = 1) → 4 ≤ (s.dev.tcapOf n.val).length →
      Completes (.tcapEdge n up) s fun d =>
        (d.reg (rTIME_TCAPnn_OVF_CNT n.val)).toNat = min ((s.dev.reg (rTIME_TCAPnn_OVF_CNT n.val)).toNat + 1) (2 ^ 32 - 1) ∧
        s.dev.sameRegs d [rTIME_TCAPnn_OVF_CNT n.val] ∧
        d = { s.dev with regs := d.regs, irqA := d.irqA, irqB := d.irqB }) ∧
  (∀ (s : State) (n : Fin 16) (p : Port) (v : Word), s.dev.calm = true → s.dev.takes p (rTIME_TCAPnn_CFG n.val) →
    (fTIME_TCAPnn_CFG_EN n.val).get v = 1 →
      Completes (.tcapPop n p v) s fun d =>
        d.tcapOf n.val = (s.dev.tcapOf n.val).tail ∧
        d.reg (rTIME_TCAPnn_STS n.val) = BitVec.ofNat 32 ((s.dev.tcapOf n.val).length - 1) ∧
        s.dev.sameRegs d [rTIME_TCAPnn_CFG n.val, rTIME_TCAPnn_STS n.val] ∧
        d = { s.dev with regs := d.regs, ports := d.ports, time := d.time, irqA := d.irqA, irqB := d.irqB }) ∧
  (∀ (s : State) (n : Fin 16) (p : Port), s.dev.calm = true → s.dev.accCheck p (rTIME_TCAPnn_FRAC n.val) .b32 false = none →
    s.dev.latched p (rTIME_TCAPnn_FRAC n.val) = none →
      Completes (.tcapRead n p .b32) s fun d =>
        (d.port p).resp = [((s.dev.tcapOf n.val).headD {}).frac.toNat] ∧
        d.latched p (rTIME_TCAPnn_NS n.val) = some (BitVec.ofNat 32 ((s.dev.tcapOf n.val).headD {}).ns.toNat) ∧
        s.dev.sameRegs d [] ∧
        d = { s.dev with regs := d.regs, ports := d.ports, irqA := d.irqA, irqB := d.irqB }) ∧
  (∀ (s : State) (n : Fin 16) (p : Port) (v : Word), s.dev.calm = true → s.dev.takes p (rTIME_TCAPnn_CFG n.val) →
      Completes (.tcapDisable n p v) s fun d =>
        d.tcapOf n.val = [] ∧
        d.reg (rTIME_TCAPnn_STS n.val) = 0 ∧
        d.on (fTIME_TCAPnn_CFG_EN n.val) = false ∧
        s.dev.sameRegs d [rTIME_TCAPnn_CFG n.val, rTIME_TCAPnn_STS n.val] ∧
        d = { s.dev with regs := d.regs, ports := d.ports, time := d.time, irqA := d.irqA, irqB := d.irqB })

/-- With no grandmaster domain, the first PPS_IN edge after an absence is captured and is no bad one, and the absence of
edges sets PPS_IN_LOS. A CLK10M_IN window within 100 ppm of nominal clears CLK10M_LOS and CLK10M_BAD; loss of the
clock sets CLK10M_LOS. Enabling PPS_OUT claims its comparator for PPS_OUT and arms it periodic at the next whole
second; disabling releases it and ends the pulse, and a pulse ends at its width. (R70, R71, R72) -/
def Obligations.PulsesInAndOut : Prop :=
  (∀ (s : State), s.dev.calm = true → s.dev.timeRuns = true → s.dev.time.ppsPrev = none →
    s.dev.get (fTIME_TCAPnn_CFG_SRC 0) ≠ 0 → (∀ i ∈ List.range 4, s.dev.gmSource i = false) →
      Completes (.ppsInEdge) s fun d =>
        d.time.ppsPrev = some s.dev.time.now94 ∧
        d.reg rTIME_PPS_IN_BAD_CNT = s.dev.reg rTIME_PPS_IN_BAD_CNT ∧
        s.dev.sameRegs d [rTIME_STS] ∧
        d = { s.dev with regs := d.regs, time := d.time, irqA := d.irqA, irqB := d.irqB }) ∧
  (∀ (s : State), s.dev.calm = true → (∀ i ∈ List.range 4, s.dev.gmSource i = false) → s.dev.timeRuns = true →
      Completes (.ppsInLos) s fun d =>
        d.on fTIME_STS_PPS_IN_LOS = true ∧
        d.time.ppsPrev = none ∧
        s.dev.sameRegs d [rTIME_STS] ∧
        d = { s.dev with regs := d.regs, time := d.time, irqA := d.irqA, irqB := d.irqB }) ∧
  (∀ (s : State) (f : Int), s.dev.calm = true → -(100000 * 65536) ≤ f → f ≤ 100000 * 65536 → s.dev.timeRuns = true →
      Completes (.clk10mWindow f) s fun d =>
        d.on fTIME_STS_CLK10M_LOS = false ∧
        d.on fTIME_STS_CLK10M_BAD = false ∧
        d.time.clk10 = some f ∧
        s.dev.sameRegs d [rTIME_STS] ∧
        d = { s.dev with regs := d.regs, time := d.time, irqA := d.irqA, irqB := d.irqB }) ∧
  (∀ (s : State) (f : Int), s.dev.calm = true → (f < -(100000 * 65536) ∨ 100000 * 65536 < f) → s.dev.timeRuns = true →
      Completes (.clk10mWindow f) s fun d =>
        d.on fTIME_STS_CLK10M_LOS = s.dev.on fTIME_STS_CLK10M_LOS ∧
        d.on fTIME_STS_CLK10M_BAD = true ∧
        s.dev.sameRegs d [rTIME_STS] ∧
        d = { s.dev with regs := d.regs, time := d.time, irqA := d.irqA, irqB := d.irqB }) ∧
  (∀ (s : State), s.dev.calm = true → s.dev.timeRuns = true →
      Completes (.clk10mLos) s fun d =>
        d.on fTIME_STS_CLK10M_LOS = true ∧
        d.time.clk10 = none ∧
        s.dev.sameRegs d [rTIME_STS] ∧
        d = { s.dev with regs := d.regs, time := d.time, irqA := d.irqA, irqB := d.irqB }) ∧
  (∀ (s : State) (p : Port) (v : Word) (n : Nat), s.dev.calm = true → s.dev.takes p rTIME_PPS_OUT_CFG →
    s.dev.on fTIME_PPS_OUT_CFG_EN = false → n = fTIME_PPS_OUT_CFG_TCMP.get v → s.dev.get (fTIME_TCMPnn_OWNER_OWNER n) = 0 →
    s.dev.tcmpPrio n = 0 →
      Completes (.ppsOutEnable p v) s fun d =>
        d.on fTIME_PPS_OUT_CFG_EN = true ∧
        d.get (fTIME_TCMPnn_OWNER_OWNER n) = 0x60 ∧
        d.on (fTIME_TCMPnn_STS_ARMED n) = true ∧
        (d.tcmpOf n).mode = 2 ∧
        (d.tcmpOf n).base = BitVec.ofNat 64 ((s.dev.time.sec.toNat + 1) * 1000000000)) ∧
  (∀ (s : State) (p : Port) (v : Word) (n : Nat), s.dev.calm = true → s.dev.takes p rTIME_PPS_OUT_CFG →
    s.dev.on fTIME_PPS_OUT_CFG_EN = true → n = s.dev.get fTIME_PPS_OUT_CFG_TCMP →
      Completes (.ppsOutDisable p v) s fun d =>
        d.on fTIME_PPS_OUT_CFG_EN = false ∧
        d.get (fTIME_TCMPnn_OWNER_OWNER n) = 0 ∧
        d.on (fTIME_TCMPnn_STS_ARMED n) = false ∧
        d.time.ppsOut = false) ∧
  (∀ (s : State), s.dev.calm = true →
      Completes (.ppsOutPulseEnd) s fun d =>
        d.time.ppsOut = false ∧
        s.dev.sameRegs d [] ∧
        d = { s.dev with regs := d.regs, time := d.time, irqA := d.irqA, irqB := d.irqB })

/-- With SERVO_EN = 0: enabling a domain whose configuration passes the checks of R74 sets EN and gives each port its
first state, DISABLED without a role, INITIALIZING while the reference program is down (a choice of the model, log
entry 169), else LISTENING with the link up, FAULTY without, which IEEE 802.1AS calls DISABLED; one that fails them
leaves EN = 0 and sets CFG_ERR. Disabling a domain makes it FREE with every port DISABLED. A new manual choice makes
an enabled domain govern and counts the change. TOD_LOAD stays set until it acts. A grandmaster domain in LOCK that
loses its GM_EN enters HOLD. (R74, R85, R90, R92, R95, R96) -/
def Obligations.PtpDomainsAndGovernor : Prop :=
  (∀ (s : State) (i : Fin 4) (p : Port) (v : Word), s.dev.calm = true → s.dev.takes p (rPTP_PTDd_CTL i.val) →
    s.dev.ptpOn i.val = false → s.dev.on fTIME_CTL_SERVO_EN = false →
    ((s.dev.stored (rPTP_PTDd_CTL i.val) ((fPTP_PTDd_CTL_EN i.val).put v 1)).putB (fPTP_PTDd_CTL_EN i.val) false).ptpCheck i.val = true →
      Completes (.ptpDomainEnable i p v) s fun d =>
        d.ptpOn i.val = true ∧
        d.on (fPTP_PTDd_STS_CFG_ERR i.val) = false ∧
        (∀ n ∈ List.range 4, d.pstate i.val n = if s.dev.ptpRole i.val n = 0 then 0 else if s.dev.refDown 0 then 1 else if s.dev.netOn n && s.dev.linkUp n then 4 else if d.get (fPTP_PTDd_CTL_PROFILE i.val) = 4 then 3 else 2)) ∧
  (∀ (s : State) (i : Fin 4) (p : Port) (v : Word), s.dev.calm = true → s.dev.takes p (rPTP_PTDd_CTL i.val) →
    s.dev.ptpOn i.val = false →
    ((s.dev.stored (rPTP_PTDd_CTL i.val) ((fPTP_PTDd_CTL_EN i.val).put v 1)).putB (fPTP_PTDd_CTL_EN i.val) false).ptpCheck i.val = false →
      Completes (.ptpDomainEnable i p v) s fun d =>
        d.ptpOn i.val = false ∧
        d.on (fPTP_PTDd_STS_CFG_ERR i.val) = true ∧
        (d.port p).code = 0 ∧
        s.dev.sameRegs d [rPTP_PTDd_CTL i.val, rPTP_PTDd_STS i.val] ∧
        d = { s.dev with regs := d.regs, ports := d.ports, irqA := d.irqA, irqB := d.irqB }) ∧
  (∀ (s : State) (i : Fin 4) (p : Port) (v : Word), s.dev.takes p (rPTP_PTDd_CTL i.val) → s.dev.ptpOn i.val = true →
    s.dev.on fTIME_CTL_SERVO_EN = false → (s.dev.put (fPTP_PTDd_STS_LOCK_STATE i.val) 0).calm = true →
      Completes (.ptpDomainDisable i p v) s fun d =>
        d.ptpOn i.val = false ∧
        d.ptpLock i.val = 0 ∧
        (∀ n ∈ List.range 4, d.pstate i.val n = 0) ∧
        d.on (fPTP_PTDd_STS_GM i.val) = false) ∧
  (∀ (s : State) (i : Fin 4), s.dev.calm = true → s.dev.on fPTP_GOV_CTL_MODE = false → s.dev.on fTIME_CTL_SERVO_EN = false →
    s.dev.get fPTP_GOV_CTL_DOM = i.val → s.dev.ptpOn i.val = true → s.dev.governing ≠ some i.val → s.dev.timeRuns = true →
      Completes (.governingChange) s fun d =>
        d.governing = some i.val ∧
        (d.reg rPTP_GOV_CHG_CNT).toNat = min ((s.dev.reg rPTP_GOV_CHG_CNT).toNat + 1) (2 ^ 32 - 1) ∧
        d.on (fPTP_PTDd_STS_GOV i.val) = true ∧
        s.dev.sameRegs d [rPTP_GOV_STS, rPTP_GOV_CHG_CNT, rPTP_PTDd_STS 0, rPTP_PTDd_STS 1, rPTP_PTDd_STS 2, rPTP_PTDd_STS 3] ∧
        d = { s.dev with regs := d.regs, irqA := d.irqA, irqB := d.irqB }) ∧
  (∀ (s : State) (p : Port) (v : Word), s.dev.calm = true → s.dev.takes p rPTP_GM_CTL → s.dev.on fPTP_GM_CTL_GM_EN = false →
      Completes (.todLoad p v) s fun d =>
        d.on fPTP_GM_CTL_TOD_LOAD = true ∧
        (d.port p).code = 0 ∧
        s.dev.sameRegs d [rPTP_GM_CTL] ∧
        d = { s.dev with regs := d.regs, ports := d.ports, irqA := d.irqA, irqB := d.irqB }) ∧
  (∀ (s : State) (i : Fin 4) (p : Port) (v : Word), s.dev.takes p rPTP_GM_CTL → s.dev.gmSource i.val = true →
    s.dev.ptpLock i.val = 2 → fPTP_GM_CTL_TOD_LOAD.get v = 0 → (s.dev.put (fPTP_PTDd_STS_LOCK_STATE i.val) 0).calm = true →
      Completes (.gmDisable p v) s fun d =>
        d.on fPTP_GM_CTL_GM_EN = false ∧
        d.ptpLock i.val = 3 ∧
        (d.port p).code = 0)

/-- The first measurement of a FREE domain by end-to-end delay writes the offset of R83 and enters ACQ. A domain that
loses its source goes from LOCK to HOLD and from ACQ to FREE; at HOLD_LIMIT it goes from HOLD to FREE. A Delay_Resp
handed over with the delay it completes writes that delay. With no foreign master known and no grandmaster of its own,
an announcement interval leaves every port DISABLED, FAULTY (DISABLED under IEEE 802.1AS) or LISTENING. A client port
that waits for its first Sync returns to LISTENING at its timeout, counted. A Sync and a Delay_Req are originated,
each with the next sequenceId of its kind, only in the states that send them. (R61, R76, R78, R79, R80, R82, R83, R85,
R86) -/
def Obligations.PtpServoAndMessages : Prop :=
  (∀ (s : State) (i : Fin 4) (n : Fin 4) (t1 : Int) (t2 : Int) (cf : Int) (fu : Int), s.dev.calm = true →
    s.dev.ptpOn i.val = true → s.dev.gmSource i.val = false → s.dev.refDown 0 = false →
    s.dev.clientPort i.val = some n.val → ptpPeer (s.dev.get (fPTP_PTDd_CTL_PROFILE i.val)) = false →
    (s.dev.dom i.val).delays = [] → (s.dev.dom i.val).gmChanged = false →
    (s.dev.time.lastStep.all (fun e => decide (e ≤ t2)) = true) → s.dev.driving ≠ some i.val → s.dev.ptpLock i.val = 0 →
    s.dev.reg (rPTP_PTDd_STEP_THRESH i.val) = 0 → s.dev.get (fPTP_PTDd_LOCK_CFG_LOCK_THRESH i.val) = 0 →
    s.dev.timeRuns = true →
      Completes (.ptpMeasurement i n t1 t2 cf fu) s fun d =>
        d.pair (rPTP_PTDd_OFS_H i.val) (rPTP_PTDd_OFS_L i.val) = unsgn 64 (satI 64 (s.dev.servoTime i.val (t2 + s.dev.time.stepTotal - cfUnits (s.dev.reg (rTIME_NETn_ING_LAT n.val)).toNat) - t1 - s.dev.mpd i.val - (cf + fu + cfUnits (sgn 32 (s.dev.reg (rTIME_NETn_ASYM n.val)).toNat)))) ∧
        d.ptpLock i.val = 1 ∧
        (d.dom i.val).delays = [s.dev.mpd i.val]) ∧
  (∀ (s : State) (i : Fin 4), s.dev.ptpLock i.val = 2 → s.dev.gmSource i.val = false →
    (s.dev.put (fPTP_PTDd_STS_LOCK_STATE i.val) 0).calm = true → s.dev.timeRuns = true →
      Completes (.servoSourceLost i) s fun d =>
        d.ptpLock i.val = 3 ∧
        d.time.value = s.dev.time.value ∧
        (d.dom i.val).heldAt = some s.dev.mono) ∧
  (∀ (s : State) (i : Fin 4), s.dev.ptpLock i.val = 1 → s.dev.gmSource i.val = false →
    (s.dev.put (fPTP_PTDd_STS_LOCK_STATE i.val) 0).calm = true → s.dev.timeRuns = true →
      Completes (.servoSourceLost i) s fun d =>
        d.ptpLock i.val = 0 ∧
        s.dev.sameRegs d [rPTP_PTDd_STS i.val] ∧
        d = { s.dev with regs := d.regs, ptp := d.ptp, irqA := d.irqA, irqB := d.irqB }) ∧
  (∀ (s : State) (i : Fin 4), s.dev.calm = true → s.dev.ptpLock i.val = 3 → s.dev.timeRuns = true →
      Completes (.servoHoldExpiry i) s fun d =>
        d.ptpLock i.val = 0 ∧
        (d.dom i.val).holdExpired = true) ∧
  (∀ (s : State) (i : Fin 4) (h : Handed) (t : List Handed) (o : Nat) (x : Int), s.dev.calm = true → s.dev.handed = h :: t →
    h.sink = .ptp i.val → ptpAny h.bytes = some (o, 9) → s.dev.refDown 0 = false → s.dev.clientPort i.val = some h.port →
    s.dev.domOn 1 = true → s.dev.timeRuns = true →
      Completes (.ptpMessageHeld (some x)) s fun d =>
        d.mpd i.val = sgn 64 (unsgn 64 x) ∧
        d.handed = t ∧
        (d.dom i.val).delay = some x) ∧
  (∀ (s : State) (i : Fin 4), s.dev.calm = true → s.dev.ptpOn i.val = true → s.dev.refDown 0 = false →
    (s.dev.dom i.val).masters = [] → s.dev.gmSource i.val = false → s.dev.timeRuns = true →
      Completes (.announceInterval i) s fun d =>
        (∀ n ∈ List.range 4, d.pstate i.val n = if s.dev.ptpRole i.val n = 0 then 0 else if s.dev.netOn n && s.dev.linkUp n then 4 else if s.dev.get (fPTP_PTDd_CTL_PROFILE i.val) = 4 then 3 else 2) ∧
        d.on (fPTP_PTDd_STS_GM i.val) = false ∧
        d.nextFrame = s.dev.nextFrame) ∧
  (∀ (s : State) (i : Fin 4) (n : Fin 4), s.dev.calm = true → s.dev.ptpOn i.val = true → s.dev.refDown 0 = false →
    s.dev.pstate i.val n.val = 8 → s.dev.ptpLock i.val = 0 → s.dev.timeRuns = true →
      Completes (.announceReceiptTimeout i n) s fun d =>
        d.pstate i.val n.val = 4 ∧
        (d.reg (rPTP_PTDd_ANN_TO_CNT i.val)).toNat = min ((s.dev.reg (rPTP_PTDd_ANN_TO_CNT i.val)).toNat + 1) (2 ^ 32 - 1) ∧
        d.ptpLock i.val = 0 ∧
        s.dev.sameRegs d [rPTP_PTDd_STS i.val, rPTP_PTDd_ANN_TO_CNT i.val] ∧
        d = { s.dev with regs := d.regs, irqA := d.irqA, irqB := d.irqB }) ∧
  (∀ (s : State) (i : Fin 4) (n : Fin 4), s.dev.calm = true → s.dev.ptpOn i.val = true → s.dev.refDown 0 = false →
    ptpPeer (s.dev.get (fPTP_PTDd_CTL_PROFILE i.val)) = false → s.dev.get (fTIME_NETn_TS_CFG_TC_MODE n.val) ≠ 2 →
    s.dev.clientPort i.val = some n.val → s.dev.netOn n.val = true → s.dev.linkUp n.val = true →
    s.dev.carries n.val .other = true → 1 ≤ s.dev.cellsFree → s.dev.timeRuns = true →
      Completes (.delayReqDue i n) s fun d =>
        kget 0 (d.dom i.val).seqs (16 * n.val + 1) = (kget 0 (s.dev.dom i.val).seqs (16 * n.val + 1) + 1) % 65536 ∧
        d.nextFrame = s.dev.nextFrame + 1) ∧
  (∀ (s : State) (i : Fin 4) (n : Fin 4), s.dev.calm = true → s.dev.ptpOn i.val = true → s.dev.refDown 0 = false →
    s.dev.pstate i.val n.val = 6 → s.dev.netOn n.val = true → s.dev.linkUp n.val = true →
    s.dev.carries n.val .other = true → 1 ≤ s.dev.cellsFree → s.dev.timeRuns = true →
      Completes (.syncDue i n) s fun d =>
        kget 0 (d.dom i.val).seqs (16 * n.val + 0) = (kget 0 (s.dev.dom i.val).seqs (16 * n.val + 0) + 1) % 65536 ∧
        d.nextFrame = s.dev.nextFrame + 1) ∧
  (∀ (s : State) (i : Fin 4) (n : Fin 4), s.dev.calm = true → s.dev.pstate i.val n.val ≠ 6 → s.dev.timeRuns = true →
      Completes (.syncDue i n) s fun d =>
        s.dev.sameRegs d [] ∧
        d = { s.dev with regs := d.regs, irqA := d.irqA, irqB := d.irqB })

/-- Writing EN = 1 to a generator that passes the checks of R104 enters ACQ on its source; one that fails them keeps EN =
0 and reports its code. EN = 0 enters OFF. A source written while ticks are issued changes no state until the next
tick, which enters ACQ on it without REBASE. The 64th measurement in window enters LOCK, the 8th outside leaves it;
loss of the source in LOCK enters HOLD with the mean frequency, its return enters ACQ, and HOLD_LIMIT enters FREE. The
jump tick carries REBASE and the SIDX of its boundary. MCLK_OUTn runs from the next tick after its EN. (R103, R104,
R105, R106, R110, R111, R114, R116) -/
def Obligations.GeneratorsEnableAndFollowTheirSource : Prop :=
  (∀ (s : State) (n : Fin 8) (p : Port) (v : Word), s.dev.calm = true → s.dev.takes p (rMCGn_CTL n.val) →
    s.dev.on (fMCGn_CTL_EN n.val) = false →
    (s.dev.stored (rMCGn_CTL n.val) ((fMCGn_CTL_EN n.val).put v 1)).mcgCheck n.val = 0 →
      Completes (.mcgEnable n p v) s fun d =>
        d.on (fMCGn_CTL_EN n.val) = true ∧
        d.mcgState n.val = 1 ∧
        d.mcgOf n.val = { kind := s.dev.get (fMCGn_SRC_KIND n.val), index := s.dev.get (fMCGn_SRC_INDEX n.val), rebase := (s.dev.mcgOf n.val).resumes, resumes := (s.dev.mcgOf n.val).resumes } ∧
        d.on (fMCGn_STS_CFG_ERR n.val) = false ∧
        d.get (fMCGn_STS_ERR_CODE n.val) = 0 ∧
        (d.port p).code = 0 ∧
        s.dev.sameRegs d [rMCGn_CTL n.val, rMCGn_STS n.val] ∧
        d = { s.dev with regs := d.regs, ports := d.ports, mcg := d.mcg, irqA := d.irqA, irqB := d.irqB }) ∧
  (∀ (s : State) (n : Fin 8) (p : Port) (v : Word), s.dev.calm = true → s.dev.takes p (rMCGn_CTL n.val) →
    s.dev.on (fMCGn_CTL_EN n.val) = false →
    (s.dev.stored (rMCGn_CTL n.val) ((fMCGn_CTL_EN n.val).put v 1)).mcgCheck n.val ≠ 0 →
      Completes (.mcgEnable n p v) s fun d =>
        d.on (fMCGn_CTL_EN n.val) = false ∧
        d.on (fMCGn_STS_CFG_ERR n.val) = true ∧
        d.get (fMCGn_STS_ERR_CODE n.val) = (s.dev.stored (rMCGn_CTL n.val) ((fMCGn_CTL_EN n.val).put v 1)).mcgCheck n.val ∧
        (d.reg rMCG_REFUSE_CNT).toNat = min ((s.dev.reg rMCG_REFUSE_CNT).toNat + 1) (2 ^ 32 - 1) ∧
        (d.port p).code = 0 ∧
        s.dev.sameRegs d [rMCGn_CTL n.val, rMCGn_STS n.val, rMCG_REFUSE_CNT] ∧
        d = { s.dev with regs := d.regs, ports := d.ports, irqA := d.irqA, irqB := d.irqB }) ∧
  (∀ (s : State) (n : Fin 8) (p : Port) (v : Word), s.dev.calm = true → s.dev.takes p (rMCGn_CTL n.val) →
    s.dev.on (fMCGn_CTL_EN n.val) = true →
      Completes (.mcgDisable n p v) s fun d =>
        d.on (fMCGn_CTL_EN n.val) = false ∧
        d.mcgState n.val = 0 ∧
        d.on (fMCGn_STS_SRC_OK n.val) = false ∧
        d.mcgOf n.val = { resumes := (s.dev.mcgOf n.val).issued || (s.dev.mcgOf n.val).resumes }) ∧
  (∀ (s : State) (n : Fin 8) (p : Port) (v : Word), s.dev.calm = true → s.dev.takes p (rMCGn_CTL n.val) →
    s.dev.on (fMCGn_CTL_EN n.val) = true → (s.dev.mcgOf n.val).ticking = false →
      Completes (.mcgDisable n p v) s fun d =>
        d.mcgState n.val = 0 ∧
        s.dev.sameRegs d [rMCGn_CTL n.val, rMCGn_STS n.val, rGLB_IGN_CNT, rGLB_IGN_OVF_CNT] ∧
        d = { s.dev with regs := d.regs, ports := d.ports, mcg := d.mcg, ign := d.ign, irqA := d.irqA, irqB := d.irqB }) ∧
  (∀ (s : State) (n : Fin 8) (p : Port) (v : Word), s.dev.calm = true → s.dev.takes p (rMCGn_SRC n.val) →
    s.dev.on (fMCGn_CTL_EN n.val) = true → (s.dev.mcgOf n.val).ticking = true →
      Completes (.mcgSrcWrite n p v) s fun d =>
        d.get (fMCGn_SRC_KIND n.val) = (fMCGn_SRC_KIND n.val).get v ∧
        d.get (fMCGn_SRC_INDEX n.val) = (fMCGn_SRC_INDEX n.val).get v ∧
        (d.port p).code = 0 ∧
        s.dev.sameRegs d [rMCGn_SRC n.val] ∧
        d = { s.dev with regs := d.regs, ports := d.ports, irqA := d.irqA, irqB := d.irqB }) ∧
  (∀ (s : State) (n : Fin 8) (x : McgSt), s.dev.calm = true → x = s.dev.mcgOf n.val → s.dev.mcgRuns n.val = true →
    x.first = false → x.issued = true → x.rebase = false →
    (x.kind ≠ s.dev.get (fMCGn_SRC_KIND n.val) ∨ x.index ≠ s.dev.get (fMCGn_SRC_INDEX n.val)) →
      Completes (.tickIssue n) s fun d =>
        d.mcgState n.val = 1 ∧
        (d.mcgOf n.val).kind = s.dev.get (fMCGn_SRC_KIND n.val) ∧
        (d.mcgOf n.val).index = s.dev.get (fMCGn_SRC_INDEX n.val) ∧
        d.mcgSidx n.val = s.dev.mcgSidx n.val + 1 ∧
        s.dev.sameRegs d [rMCGn_STS n.val, rMCGn_SIDX_H n.val, rMCGn_SIDX_L n.val] ∧
        d = { s.dev with regs := d.regs, mcg := d.mcg, ticks := d.ticks, irqA := d.irqA, irqB := d.irqB }) ∧
  (∀ (s : State) (n : Fin 8) (p : Port) (v : Word), s.dev.calm = true → s.dev.takes p (rMCGn_MCLK_CFG n.val) →
      Completes (.mclkEnable n p v) s fun d =>
        d.get (fMCGn_MCLK_CFG_EN n.val) = (fMCGn_MCLK_CFG_EN n.val).get v ∧
        d.get (fMCGn_MCLK_CFG_GATE n.val) = (fMCGn_MCLK_CFG_GATE n.val).get v ∧
        (d.port p).code = 0 ∧
        s.dev.sameRegs d [rMCGn_MCLK_CFG n.val, rGLB_IGN_CNT, rGLB_IGN_OVF_CNT] ∧
        d = { s.dev with regs := d.regs, ports := d.ports, ign := d.ign, irqA := d.irqA, irqB := d.irqB }) ∧
  (∀ (s : State) (n : Fin 8) (x : McgSt), s.dev.calm = true → x = s.dev.mcgOf n.val → s.dev.mcgRuns n.val = true →
    x.jump = false → x.first = false → x.issued = true →
    ((s.dev.mcgState n.val = 2 ∧ s.dev.mcgEpoch n.val = true ∧ x.epoch = true → s.dev.mcgAt n.val (s.dev.mcgSidx n.val + 1).toNat = true)) →
    x.kind = s.dev.get (fMCGn_SRC_KIND n.val) → x.index = s.dev.get (fMCGn_SRC_INDEX n.val) →
      Completes (.tickIssue n) s fun d =>
        (d.mcgOf n.val).mclk = (s.dev.on (fMCGn_MCLK_CFG_EN n.val) && (!s.dev.on (fMCGn_MCLK_CFG_GATE n.val) || s.dev.mcgState n.val == 2 || s.dev.mcgState n.val == 3)) ∧
        d.mcgState n.val = s.dev.mcgState n.val ∧
        d.mcgSidx n.val = s.dev.mcgSidx n.val + 1 ∧
        (d.anv = if x.rebase then (s.dev.dropPos n.val).anv else s.dev.anv) ∧
        s.dev.sameRegs d [rMCGn_REBASE_CNT n.val, rMCGn_SIDX_H n.val, rMCGn_SIDX_L n.val] ∧
        d = { s.dev with regs := d.regs, mcg := d.mcg, ticks := d.ticks, anv := d.anv, irqA := d.irqA, irqB := d.irqB }) ∧
  (∀ (s : State) (n : Fin 8) (e : Int) (f : Int), s.dev.calm = true → s.dev.mcgState n.val = 2 → s.dev.domOn 4 = true →
    (e.natAbs : Int) < (s.dev.mcgWins n.val).2 →
      Completes (.mcgPhaseMeasure n e f) s fun d =>
        d.reg (rMCGn_PHASE n.val) = BitVec.ofInt 32 (satI 32 e) ∧
        d.reg (rMCGn_FREQ n.val) = BitVec.ofInt 32 (satI 32 f) ∧
        (d.mcgOf n.val).outWin = 0 ∧
        s.dev.sameRegs d [rMCGn_PHASE n.val, rMCGn_FREQ n.val] ∧
        d = { s.dev with regs := d.regs, mcg := d.mcg, irqA := d.irqA, irqB := d.irqB }) ∧
  (∀ (s : State) (n : Fin 8) (e : Int) (f : Int), s.dev.calm = true → s.dev.mcgState n.val = 2 → s.dev.domOn 4 = true →
    (s.dev.mcgWins n.val).2 ≤ (e.natAbs : Int) → (s.dev.mcgOf n.val).outWin = 7 → s.dev.mcgSrcOk n.val = true →
      Completes (.mcgPhaseMeasure n e f) s fun d =>
        d.mcgState n.val = 1 ∧
        (d.reg (rMCGn_UNLOCK_CNT n.val)).toNat = min ((s.dev.reg (rMCGn_UNLOCK_CNT n.val)).toNat + 1) (2 ^ 32 - 1) ∧
        s.dev.sameRegs d [rMCGn_STS n.val, rMCGn_UNLOCK_CNT n.val, rMCGn_PHASE n.val, rMCGn_FREQ n.val] ∧
        d = { s.dev with regs := d.regs, mcg := d.mcg, irqA := d.irqA, irqB := d.irqB }) ∧
  (∀ (s : State) (n : Fin 8) (e : Int) (f : Int), s.dev.calm = true → s.dev.mcgState n.val = 1 → s.dev.domOn 4 = true →
    (e.natAbs : Int) < (s.dev.mcgWins n.val).1 → (s.dev.mcgOf n.val).inWin = 63 → (s.dev.mcgOf n.val).relock = false →
    s.dev.mcgSrcOk n.val = true →
      Completes (.mcgPhaseMeasure n e f) s fun d =>
        d.mcgState n.val = 2 ∧
        (d.mcgOf n.val).locked = true ∧
        d.on (fMCGn_STS_SLEWING n.val) = false ∧
        s.dev.sameRegs d [rMCGn_STS n.val, rMCGn_PHASE n.val, rMCGn_FREQ n.val] ∧
        d = { s.dev with regs := d.regs, mcg := d.mcg, irqA := d.irqA, irqB := d.irqB }) ∧
  (∀ (s : State) (n : Fin 8), s.dev.calm = true → s.dev.mcgState n.val = 2 → s.dev.on (fMCGn_STS_SRC_OK n.val) = true →
    s.dev.srcLost (s.dev.mcgOf n.val).kind (s.dev.mcgOf n.val).index = true → s.dev.domOn 4 = true →
      Completes (.mcgSourceLoss n) s fun d =>
        d.mcgState n.val = 3 ∧
        d.on (fMCGn_STS_SRC_OK n.val) = false ∧
        (d.reg (rMCGn_SRC_LOSS_CNT n.val)).toNat = min ((s.dev.reg (rMCGn_SRC_LOSS_CNT n.val)).toNat + 1) (2 ^ 32 - 1) ∧
        (d.reg (rMCGn_UNLOCK_CNT n.val)).toNat = min ((s.dev.reg (rMCGn_UNLOCK_CNT n.val)).toNat + 1) (2 ^ 32 - 1) ∧
        ((s.dev.mcgOf n.val).freqs = [] ∨ d.reg (rMCGn_FREQ n.val) = BitVec.ofInt 32 (meanI (s.dev.mcgOf n.val).freqs)) ∧
        s.dev.sameRegs d [rMCGn_STS n.val, rMCGn_SRC_LOSS_CNT n.val, rMCGn_UNLOCK_CNT n.val, rMCGn_FREQ n.val] ∧
        d = { s.dev with regs := d.regs, mcg := d.mcg, irqA := d.irqA, irqB := d.irqB }) ∧
  (∀ (s : State) (n : Fin 8), s.dev.calm = true → (s.dev.mcgState n.val = 3 ∨ s.dev.mcgState n.val = 4) →
    s.dev.on (fMCGn_STS_SRC_OK n.val) = false →
    s.dev.srcQualified (s.dev.mcgOf n.val).kind (s.dev.mcgOf n.val).index true = true → s.dev.domOn 4 = true →
      Completes (.mcgSourceQualified n) s fun d =>
        d.mcgState n.val = 1 ∧
        d.on (fMCGn_STS_SRC_OK n.val) = true ∧
        (d.mcgOf n.val).inWin = 0 ∧
        (d.mcgOf n.val).relock = true ∧
        s.dev.sameRegs d [rMCGn_STS n.val] ∧
        d = { s.dev with regs := d.regs, mcg := d.mcg, irqA := d.irqA, irqB := d.irqB }) ∧
  (∀ (s : State) (n : Fin 8), s.dev.calm = true → s.dev.domState 1 = 0 → s.dev.mcgState n.val = 3 →
    s.dev.reg (rMCGn_HOLD_LIMIT n.val) ≠ 0 → s.dev.domOn 4 = true →
      Completes (.mcgFree n) s fun d =>
        d.mcgState n.val = 4 ∧
        d.hq = (s.dev.hqPush (s.dev.get fHQ_ROUTE_EVT_Q) 5 (eventRecord 0x0501 n.val s.dev.ft64)).hq ∧
        d = { s.dev with regs := d.regs, hq := d.hq, rql := d.rql, cue := d.cue, irqA := d.irqA, irqB := d.irqB }) ∧
  (∀ (s : State) (n : Fin 8), s.dev.calm = true → s.dev.mcgState n.val ≠ 0 → s.dev.domOn 4 = true →
    (s.dev.mcgOf n.val).jump = true → (s.dev.mcgOf n.val).locked = true → (s.dev.mcgOf n.val).first = false →
    s.dev.mcgEpoch n.val = true → s.dev.mcgPending n.val = false → s.dev.mcgSpaced n.val = true →
    s.dev.mcgAt n.val (s.dev.mcgBoundary n.val 0) = true →
      Completes (.mcgJumpTick n) s fun d =>
        d.mcgSidx n.val = BitVec.ofInt 64 (s.dev.mcgBoundary n.val 0) ∧
        (d.reg (rMCGn_REBASE_CNT n.val)).toNat = min ((s.dev.reg (rMCGn_REBASE_CNT n.val)).toNat + 1) (2 ^ 32 - 1) ∧
        (d.mcgOf n.val).jump = false ∧
        d.on (fMCGn_STS_SLEWING n.val) = false ∧
        d.anv = (s.dev.dropPos n.val).anv ∧
        s.dev.sameRegs d [rMCGn_STS n.val, rMCGn_REBASE_CNT n.val, rMCGn_SIDX_H n.val, rMCGn_SIDX_L n.val] ∧
        d = { s.dev with regs := d.regs, mcg := d.mcg, ticks := d.ticks, anv := d.anv, irqA := d.irqA, irqB := d.irqB })

/-- With no command in progress and none held, a command written sets BUSY, reads back in OP and changes nothing else
until it completes. ENABLE of a disabled context that passes Table 5.3 then enables it last in order in STATE 1; one
that fails it is refused with the code, changing nothing but the refusal registers; DISABLE of an enabled context
returns it to STATE 0; MUTE and UNMUTE set and clear MUTED. A command held one deep starts when the one before it
completes. With no earlier packet of a lower context due, a late packet counts as skipped and the context goes on by
one span; a CRF packet leaves. (R135, R139, R140, R148, R151, R158, R159) -/
def Obligations.TransmitContextsRunTheirCommands : Prop :=
  (∀ (s : State) (p : Port) (v : Word) (c : Nat), s.dev.calm = true → s.dev.takes p rSTX_CMD → c = fSTX_CMD_CTX.get v →
    s.dev.on fSTX_CMD_STS_BUSY = false → s.dev.stxOn c = false → s.dev.admission c = none →
    (∀ w ∈ List.range 32, s.dev.tblHurt (256 * (c) + 8 * w) = false) → s.dev.on fINT_INJ_CMD_ARMED = false →
    s.dev.stxHeld = none →
      Completes (.stxEnable p v) s fun d =>
        d.on fSTX_CMD_STS_BUSY = true ∧
        d.stxNow = some (1, c) ∧
        fSTX_CMD_OP.get (d.regValue rSTX_CMD) = 1 ∧
        (d.port p).code = 0 ∧
        d.stxQueued.stxOn c = true ∧
        d.stxQueued.cState c = 1 ∧
        d.stxQueued.stxOrder = s.dev.stxOrder ++ [c] ∧
        d.stxQueued.get fSTX_CMD_STS_RESULT = 1 ∧
        d.stxQueued.get fSTX_CMD_STS_CODE = 0 ∧
        d.stxQueued.get fSTX_CMD_STS_CTX = c ∧
        s.dev.sameMemBut d.stxQueued (256 * c) 256 ∧
        d.stxQueued.on fSTX_CMD_STS_BUSY = false ∧
        d.stxQueued.stxNow = none ∧
        s.dev.sameRegs d [rSTX_CMD, rSTX_CMD_STS] ∧
        d = { s.dev with regs := d.regs, ports := d.ports, stxNow := d.stxNow, irqA := d.irqA, irqB := d.irqB } ∧
        s.dev.sameRegs d.stxQueued [rSTX_CMD, rSTX_CMD_STS, rSTX_ENMAPkk (c / 32), rSTX_GRP_SOLO, rSTX_GRP_SOLO_CNT, rSTX_PPS_LOAD, rSRX_PPS_LOAD, rSTX_RESV_Pp 0, rSTX_RESV_Pp 1, rSTX_RESV_Pp 2, rSTX_RESV_Pp 3, rINT_INJ_CMD] ∧
        d.stxQueued = { s.dev with regs := d.stxQueued.regs, ports := d.stxQueued.ports, tbl := d.stxQueued.tbl, stx := d.stxQueued.stx, stxOrder := d.stxQueued.stxOrder, poison := d.stxQueued.poison, integ := d.stxQueued.integ, stxNow := d.stxQueued.stxNow, irqA := d.stxQueued.irqA, irqB := d.stxQueued.irqB }) ∧
  (∀ (s : State) (p : Port) (v : Word) (c : Nat) (r : Refused), s.dev.calm = true → s.dev.takes p rSTX_CMD →
    c = fSTX_CMD_CTX.get v → s.dev.on fSTX_CMD_STS_BUSY = false → s.dev.stxOn c = false → s.dev.admission c = some r →
    s.dev.stxHeld = none →
      Completes (.stxEnable p v) s fun d =>
        d.on fSTX_CMD_STS_BUSY = true ∧
        d.stxNow = some (1, c) ∧
        fSTX_CMD_OP.get (d.regValue rSTX_CMD) = 1 ∧
        (d.port p).code = 0 ∧
        d.stxQueued.stxOn c = false ∧
        d.stxQueued.get fSTX_CMD_STS_RESULT = 2 ∧
        d.stxQueued.get fSTX_CMD_STS_CODE = r.code % 16 ∧
        (d.stxQueued.reg rSTX_REFUSE_CNT).toNat = min ((s.dev.reg rSTX_REFUSE_CNT).toNat + 1) (2 ^ 32 - 1) ∧
        d.stxQueued.on fSTX_CMD_STS_BUSY = false ∧
        d.stxQueued.stxNow = none ∧
        s.dev.sameRegs d [rSTX_CMD, rSTX_CMD_STS] ∧
        d = { s.dev with regs := d.regs, ports := d.ports, stxNow := d.stxNow, irqA := d.irqA, irqB := d.irqB } ∧
        s.dev.sameRegs d.stxQueued [rSTX_CMD, rSTX_CMD_STS, rSTX_REFUSE, rSTX_REFUSE_CNT] ∧
        d.stxQueued = { s.dev with regs := d.stxQueued.regs, ports := d.stxQueued.ports, stxNow := d.stxQueued.stxNow, irqA := d.stxQueued.irqA, irqB := d.stxQueued.irqB }) ∧
  (∀ (s : State) (p : Port) (v : Word) (c : Nat), s.dev.calm = true → s.dev.takes p rSTX_CMD → c = fSTX_CMD_CTX.get v →
    s.dev.on fSTX_CMD_STS_BUSY = false → s.dev.stxOn c = true →
    (∀ w ∈ List.range 32, s.dev.tblHurt (256 * (c) + 8 * w) = false) → s.dev.on fINT_INJ_CMD_ARMED = false →
    s.dev.stxHeld = none →
      Completes (.stxDisable p v) s fun d =>
        d.on fSTX_CMD_STS_BUSY = true ∧
        d.stxNow = some (2, c) ∧
        fSTX_CMD_OP.get (d.regValue rSTX_CMD) = 2 ∧
        (d.port p).code = 0 ∧
        d.stxQueued.stxOn c = false ∧
        d.stxQueued.cState c = 0 ∧
        d.stxQueued.stxOrder = s.dev.stxOrder.filter (· != c) ∧
        d.stxQueued.get fSTX_CMD_STS_RESULT = 1 ∧
        s.dev.sameMemBut d.stxQueued (256 * c) 256 ∧
        d.stxQueued.on fSTX_CMD_STS_BUSY = false ∧
        d.stxQueued.stxNow = none ∧
        s.dev.sameRegs d [rSTX_CMD, rSTX_CMD_STS] ∧
        d = { s.dev with regs := d.regs, ports := d.ports, stxNow := d.stxNow, irqA := d.irqA, irqB := d.irqB }) ∧
  (∀ (s : State) (p : Port) (v : Word) (c : Nat), s.dev.calm = true → s.dev.takes p rSTX_CMD → c = fSTX_CMD_CTX.get v →
    s.dev.on fSTX_CMD_STS_BUSY = false → s.dev.cb c 24 3 = false → s.dev.tblHurt (256 * c + 192) = false →
    s.dev.stxHeld = none →
      Completes (.stxMute p v) s fun d =>
        d.on fSTX_CMD_STS_BUSY = true ∧
        d.stxNow = some (3, c) ∧
        fSTX_CMD_OP.get (d.regValue rSTX_CMD) = 3 ∧
        (d.port p).code = 0 ∧
        d.stxQueued.cb c 24 3 = true ∧
        d.stxQueued.get fSTX_CMD_STS_RESULT = 1 ∧
        ((d.stxQueued.stxOf c).ramp = if s.dev.stxOn c then (s.dev.stxOf c).ramp.command true else MuteRamp.rest true) ∧
        s.dev.sameMemBut d.stxQueued (256 * c + 192) 8 ∧
        d.stxQueued.on fSTX_CMD_STS_BUSY = false ∧
        d.stxQueued.stxNow = none ∧
        s.dev.sameRegs d [rSTX_CMD, rSTX_CMD_STS] ∧
        d = { s.dev with regs := d.regs, ports := d.ports, stxNow := d.stxNow, irqA := d.irqA, irqB := d.irqB } ∧
        s.dev.sameRegs d.stxQueued [rSTX_CMD, rSTX_CMD_STS, rINT_INJ_CMD] ∧
        d.stxQueued = { s.dev with regs := d.stxQueued.regs, ports := d.stxQueued.ports, tbl := d.stxQueued.tbl, stx := d.stxQueued.stx, poison := d.stxQueued.poison, integ := d.stxQueued.integ, stxNow := d.stxQueued.stxNow, irqA := d.stxQueued.irqA, irqB := d.stxQueued.irqB }) ∧
  (∀ (s : State) (p : Port) (v : Word) (c : Nat), s.dev.calm = true → s.dev.takes p rSTX_CMD → c = fSTX_CMD_CTX.get v →
    s.dev.on fSTX_CMD_STS_BUSY = false → s.dev.cb c 24 3 = true → s.dev.tblHurt (256 * c + 192) = false →
    s.dev.stxHeld = none →
      Completes (.stxUnmute p v) s fun d =>
        d.on fSTX_CMD_STS_BUSY = true ∧
        d.stxNow = some (4, c) ∧
        fSTX_CMD_OP.get (d.regValue rSTX_CMD) = 4 ∧
        (d.port p).code = 0 ∧
        d.stxQueued.cb c 24 3 = false ∧
        d.stxQueued.get fSTX_CMD_STS_RESULT = 1 ∧
        ((d.stxQueued.stxOf c).ramp = if s.dev.stxOn c then (s.dev.stxOf c).ramp.command false else MuteRamp.rest false) ∧
        s.dev.sameMemBut d.stxQueued (256 * c + 192) 8 ∧
        d.stxQueued.on fSTX_CMD_STS_BUSY = false ∧
        d.stxQueued.stxNow = none ∧
        s.dev.sameRegs d [rSTX_CMD, rSTX_CMD_STS] ∧
        d = { s.dev with regs := d.regs, ports := d.ports, stxNow := d.stxNow, irqA := d.irqA, irqB := d.irqB } ∧
        s.dev.sameRegs d.stxQueued [rSTX_CMD, rSTX_CMD_STS, rINT_INJ_CMD] ∧
        d.stxQueued = { s.dev with regs := d.stxQueued.regs, ports := d.stxQueued.ports, tbl := d.stxQueued.tbl, stx := d.stxQueued.stx, poison := d.stxQueued.poison, integ := d.stxQueued.integ, stxNow := d.stxQueued.stxNow, irqA := d.stxQueued.irqA, irqB := d.stxQueued.irqB }) ∧
  (∀ (s : State) (c : Fin 512), s.dev.calm = true → s.dev.stxNow = some (3, c.val) → s.dev.cb c.val 24 3 = false →
    s.dev.tblHurt (256 * c.val + 192) = false → s.dev.domOn 1 = true →
      Completes (.stxQueuedCmd true) s fun d =>
        d.stxNow = s.dev.stxHeld ∧
        d.stxHeld = none ∧
        d.on fSTX_CMD_STS_BUSY = s.dev.stxHeld.isSome ∧
        d.on fSTX_CMD_STS_QUEUED = false ∧
        d.cb c.val 24 3 = true ∧
        d.get fSTX_CMD_STS_RESULT = 1 ∧
        s.dev.sameRegs d [rSTX_CMD_STS, rINT_INJ_CMD] ∧
        d = { s.dev with regs := d.regs, tbl := d.tbl, stx := d.stx, stxNow := d.stxNow, stxHeld := d.stxHeld, poison := d.poison, integ := d.integ, irqA := d.irqA, irqB := d.irqB }) ∧
  (∀ (s : State) (c : Fin 512), s.dev.calm = true → s.dev.srxNow = some (3, c.val) → s.dev.on (srxMuteFld c.val) = false →
    s.dev.domOn 1 = true →
      Completes (.stxQueuedCmd false) s fun d =>
        d.srxNow = s.dev.srxHeld ∧
        d.srxHeld = none ∧
        d.on fSRX_CMD_STS_BUSY = s.dev.srxHeld.isSome ∧
        d.on fSRX_CMD_STS_QUEUED = false ∧
        d.on (srxMuteFld c.val) = true ∧
        d.get fSRX_CMD_STS_RESULT = 1 ∧
        s.dev.sameRegs d [rSRX_CMD_STS, rSRX_MUTEMAPkk (c.val / 32)] ∧
        d = { s.dev with regs := d.regs, srx := d.srx, srxNow := d.srxNow, srxHeld := d.srxHeld, irqA := d.irqA, irqB := d.irqB }) ∧
  (∀ (s : State) (c : Fin 512), s.dev.calm = true → s.dev.emitReady c.val = true →
    (((s.dev.mapBits (rSTX_ENMAPkk 0)).filter fun o => decide (o < c.val) && s.dev.emitReady o && s.dev.emitBefore c.val o) = []) →
    fmtCrf (s.dev.cFmt c.val) = false → (s.dev.stxOf c.val).asm.length < s.dev.cSpan c.val → s.dev.on fANV_STS_RUN = true →
    (∀ w ∈ List.range 32, s.dev.tblHurt (256 * (c.val) + 8 * w) = false) → s.dev.on fINT_INJ_CMD_ARMED = false →
    s.dev.domOn 1 = true →
      Completes (.packetEmit c) s fun d =>
        d.stxNext c.val = s.dev.stxNext c.val + BitVec.ofNat 64 (s.dev.cSpan c.val) ∧
        d.cf c.val 27 31 0 = min (s.dev.cf c.val 27 31 0 + 1) (2 ^ 32 - 1) ∧
        (d.reg rSTX_SKIP_LATE_CNT).toNat = min ((s.dev.reg rSTX_SKIP_LATE_CNT).toNat + 1) (2 ^ 32 - 1) ∧
        s.dev.sameMemBut d (256 * c.val + 200) 24 ∧
        s.dev.sameRegs d [rSTX_SKIP_LATE_CNT] ∧
        d = { s.dev with regs := d.regs, tbl := d.tbl, stx := d.stx, poison := d.poison, integ := d.integ, irqA := d.irqA, irqB := d.irqB }) ∧
  (∀ (s : State) (c : Fin 512), s.dev.calm = true → s.dev.emitReady c.val = true →
    (((s.dev.mapBits (rSTX_ENMAPkk 0)).filter fun o => decide (o < c.val) && s.dev.emitReady o && s.dev.emitBefore c.val o) = []) →
    fmtCrf (s.dev.cFmt c.val) = true → (∀ w ∈ List.range 32, s.dev.tblHurt (256 * (c.val) + 8 * w) = false) →
    s.dev.on fINT_INJ_CMD_ARMED = false → s.dev.domOn 1 = true →
      Completes (.packetEmit c) s fun d =>
        d.stxNext c.val = s.dev.stxNext c.val + BitVec.ofNat 64 (s.dev.cSpan c.val) ∧
        d.cf c.val 24 31 16 = s.dev.seq16 c.val (s.dev.stxNext c.val) ∧
        d.cf c.val 27 31 0 = s.dev.cf c.val 27 31 0 ∧
        s.dev.sameMemBut d (256 * c.val + 192) 32)

/-- With no command in progress and none held, a command written sets BUSY, reads back in OP and changes nothing else
until it completes. ENABLE of a disabled receive context that passes Table 5.3 then enables it last in order in
ACQUIRE with no window; one that fails it is refused with the code, changing nothing but the refusal registers;
DISABLE of an enabled context returns it to IDLE; MUTE and UNMUTE set and clear MUTED. (R135, R139, R140, R188, R189) -/
def Obligations.ReceiveContextsRunTheirCommands : Prop :=
  (∀ (s : State) (p : Port) (v : Word) (c : Nat), s.dev.calm = true → s.dev.takes p rSRX_CMD → c = fSRX_CMD_CTX.get v →
    s.dev.on fSRX_CMD_STS_BUSY = false → s.dev.srxOn c = false → s.dev.admission (512 + c) = none →
    (∀ w ∈ List.range 32, s.dev.tblHurt (256 * (512 + c) + 8 * w) = false) → s.dev.on fINT_INJ_CMD_ARMED = false →
    s.dev.srxHeld = none →
      Completes (.srxEnable p v) s fun d =>
        d.on fSRX_CMD_STS_BUSY = true ∧
        d.srxNow = some (1, c) ∧
        fSRX_CMD_OP.get (d.regValue rSRX_CMD) = 1 ∧
        (d.port p).code = 0 ∧
        d.srxQueued.srxOn c = true ∧
        d.srxQueued.cState (512 + c) = 1 ∧
        d.srxQueued.extSeq c = 0 ∧
        (d.srxQueued.srxOf c).win = none ∧
        d.srxQueued.srxOrder = s.dev.srxOrder ++ [c] ∧
        d.srxQueued.get fSRX_CMD_STS_RESULT = 1 ∧
        s.dev.sameMemBut d.srxQueued (256 * (512 + c)) 256 ∧
        d.srxQueued.on fSRX_CMD_STS_BUSY = false ∧
        d.srxQueued.srxNow = none ∧
        s.dev.sameRegs d [rSRX_CMD, rSRX_CMD_STS] ∧
        d = { s.dev with regs := d.regs, ports := d.ports, srxNow := d.srxNow, irqA := d.irqA, irqB := d.irqB } ∧
        s.dev.sameRegs d.srxQueued [rSRX_CMD, rSRX_CMD_STS, rSRX_ENMAPkk (c / 32), rSRX_GRP_SOLO, rSRX_GRP_SOLO_CNT, rSTX_PPS_LOAD, rSRX_PPS_LOAD, rSTX_RESV_Pp 0, rSTX_RESV_Pp 1, rSTX_RESV_Pp 2, rSTX_RESV_Pp 3] ∧
        d.srxQueued = { s.dev with regs := d.srxQueued.regs, ports := d.srxQueued.ports, tbl := d.srxQueued.tbl, srx := d.srxQueued.srx, srxOrder := d.srxQueued.srxOrder, poison := d.srxQueued.poison, integ := d.srxQueued.integ, srxNow := d.srxQueued.srxNow, irqA := d.srxQueued.irqA, irqB := d.srxQueued.irqB }) ∧
  (∀ (s : State) (p : Port) (v : Word) (c : Nat) (r : Refused), s.dev.calm = true → s.dev.takes p rSRX_CMD →
    c = fSRX_CMD_CTX.get v → s.dev.on fSRX_CMD_STS_BUSY = false → s.dev.srxOn c = false →
    s.dev.admission (512 + c) = some r → s.dev.srxHeld = none →
      Completes (.srxEnable p v) s fun d =>
        d.on fSRX_CMD_STS_BUSY = true ∧
        d.srxNow = some (1, c) ∧
        fSRX_CMD_OP.get (d.regValue rSRX_CMD) = 1 ∧
        (d.port p).code = 0 ∧
        d.srxQueued.srxOn c = false ∧
        d.srxQueued.get fSRX_CMD_STS_RESULT = 2 ∧
        d.srxQueued.get fSRX_CMD_STS_CODE = r.code % 16 ∧
        (d.srxQueued.reg rSRX_REFUSE_CNT).toNat = min ((s.dev.reg rSRX_REFUSE_CNT).toNat + 1) (2 ^ 32 - 1) ∧
        d.srxQueued.on fSRX_CMD_STS_BUSY = false ∧
        d.srxQueued.srxNow = none ∧
        s.dev.sameRegs d [rSRX_CMD, rSRX_CMD_STS] ∧
        d = { s.dev with regs := d.regs, ports := d.ports, srxNow := d.srxNow, irqA := d.irqA, irqB := d.irqB } ∧
        s.dev.sameRegs d.srxQueued [rSRX_CMD, rSRX_CMD_STS, rSRX_REFUSE, rSRX_REFUSE_CNT] ∧
        d.srxQueued = { s.dev with regs := d.srxQueued.regs, ports := d.srxQueued.ports, srxNow := d.srxQueued.srxNow, irqA := d.srxQueued.irqA, irqB := d.srxQueued.irqB }) ∧
  (∀ (s : State) (p : Port) (v : Word) (c : Nat), s.dev.calm = true → s.dev.takes p rSRX_CMD → c = fSRX_CMD_CTX.get v →
    s.dev.on fSRX_CMD_STS_BUSY = false → s.dev.srxOn c = true → s.dev.tblHurt (256 * (512 + c) + 160) = false →
    s.dev.srxHeld = none →
      Completes (.srxDisable p v) s fun d =>
        d.on fSRX_CMD_STS_BUSY = true ∧
        d.srxNow = some (2, c) ∧
        fSRX_CMD_OP.get (d.regValue rSRX_CMD) = 2 ∧
        (d.port p).code = 0 ∧
        d.srxQueued.srxOn c = false ∧
        d.srxQueued.cState (512 + c) = 0 ∧
        d.srxQueued.srxOrder = s.dev.srxOrder.filter (· != c) ∧
        (d.srxQueued.srxOf c).play = .silent ∧
        d.srxQueued.get fSRX_CMD_STS_RESULT = 1 ∧
        s.dev.sameMemBut d.srxQueued (256 * (512 + c) + 160) 8 ∧
        d.srxQueued.on fSRX_CMD_STS_BUSY = false ∧
        d.srxQueued.srxNow = none ∧
        s.dev.sameRegs d [rSRX_CMD, rSRX_CMD_STS] ∧
        d = { s.dev with regs := d.regs, ports := d.ports, srxNow := d.srxNow, irqA := d.irqA, irqB := d.irqB } ∧
        s.dev.sameRegs d.srxQueued [rSRX_CMD, rSRX_CMD_STS, rSRX_ENMAPkk (c / 32), rSTX_PPS_LOAD, rSRX_PPS_LOAD, rSTX_RESV_Pp 0, rSTX_RESV_Pp 1, rSTX_RESV_Pp 2, rSTX_RESV_Pp 3, rINT_INJ_CMD] ∧
        d.srxQueued = { s.dev with regs := d.srxQueued.regs, ports := d.srxQueued.ports, tbl := d.srxQueued.tbl, srx := d.srxQueued.srx, srxOrder := d.srxQueued.srxOrder, poison := d.srxQueued.poison, integ := d.srxQueued.integ, ticks := d.srxQueued.ticks, srxNow := d.srxQueued.srxNow, irqA := d.srxQueued.irqA, irqB := d.srxQueued.irqB }) ∧
  (∀ (s : State) (p : Port) (v : Word) (c : Nat), s.dev.calm = true → s.dev.takes p rSRX_CMD → c = fSRX_CMD_CTX.get v →
    s.dev.on fSRX_CMD_STS_BUSY = false → s.dev.on (srxMuteFld c) = false → s.dev.srxHeld = none →
      Completes (.srxMute p v) s fun d =>
        d.on fSRX_CMD_STS_BUSY = true ∧
        d.srxNow = some (3, c) ∧
        fSRX_CMD_OP.get (d.regValue rSRX_CMD) = 3 ∧
        (d.port p).code = 0 ∧
        d.srxQueued.on (srxMuteFld c) = true ∧
        d.srxQueued.get fSRX_CMD_STS_RESULT = 1 ∧
        ((d.srxQueued.srxOf c).ramp = if s.dev.srxOn c then (s.dev.srxOf c).ramp.command true else MuteRamp.rest true) ∧
        d.srxQueued.on fSRX_CMD_STS_BUSY = false ∧
        d.srxQueued.srxNow = none ∧
        s.dev.sameRegs d [rSRX_CMD, rSRX_CMD_STS] ∧
        d = { s.dev with regs := d.regs, ports := d.ports, srxNow := d.srxNow, irqA := d.irqA, irqB := d.irqB } ∧
        s.dev.sameRegs d.srxQueued [rSRX_CMD, rSRX_CMD_STS, rSRX_MUTEMAPkk (c / 32)] ∧
        d.srxQueued = { s.dev with regs := d.srxQueued.regs, ports := d.srxQueued.ports, srx := d.srxQueued.srx, srxNow := d.srxQueued.srxNow, irqA := d.srxQueued.irqA, irqB := d.srxQueued.irqB }) ∧
  (∀ (s : State) (p : Port) (v : Word) (c : Nat), s.dev.calm = true → s.dev.takes p rSRX_CMD → c = fSRX_CMD_CTX.get v →
    s.dev.on fSRX_CMD_STS_BUSY = false → s.dev.on (srxMuteFld c) = true → s.dev.srxHeld = none →
      Completes (.srxUnmute p v) s fun d =>
        d.on fSRX_CMD_STS_BUSY = true ∧
        d.srxNow = some (4, c) ∧
        fSRX_CMD_OP.get (d.regValue rSRX_CMD) = 4 ∧
        (d.port p).code = 0 ∧
        d.srxQueued.on (srxMuteFld c) = false ∧
        d.srxQueued.get fSRX_CMD_STS_RESULT = 1 ∧
        ((d.srxQueued.srxOf c).ramp = if s.dev.srxOn c then (s.dev.srxOf c).ramp.command false else MuteRamp.rest false) ∧
        d.srxQueued.on fSRX_CMD_STS_BUSY = false ∧
        d.srxQueued.srxNow = none ∧
        s.dev.sameRegs d [rSRX_CMD, rSRX_CMD_STS] ∧
        d = { s.dev with regs := d.regs, ports := d.ports, srxNow := d.srxNow, irqA := d.irqA, irqB := d.irqB } ∧
        s.dev.sameRegs d.srxQueued [rSRX_CMD, rSRX_CMD_STS, rSRX_MUTEMAPkk (c / 32)] ∧
        d.srxQueued = { s.dev with regs := d.srxQueued.regs, ports := d.srxQueued.ports, srx := d.srxQueued.srx, srxNow := d.srxQueued.srxNow, irqA := d.srxQueued.irqA, irqB := d.srxQueued.irqB })

/-- A copy that does not parse for its context counts a format error and changes nothing else of the context. The first
copy of a CRF context enters PLAY with its sequence number, counted for the context and for its binding. An audio copy
with no window in force whose samples lie before the read point counts as late; one within the ring and with a read
point is accepted: its span is marked written, and its samples stand in the rings of its channels. LOSS_TO_MS in
CONCEAL returns to ACQUIRE, captured and reported; 10 ms without a CRF copy enters CONCEAL; the wait of a group fixes
the start of every member that waits; a staged span becomes readable. (R165, R166, R168, R172, R173, R176, R177, R182,
R184, R190) -/
def Obligations.ReceivedCopiesAreTestedAndPlaced : Prop :=
  (∀ (s : State) (c : Fin 512) (b : Fin 4) (h : Handed) (t : List Handed), s.dev.calm = true → s.dev.handed = h :: t →
    h.sink = .stream c.val b.val → s.dev.domOn 1 = true → s.dev.srxOn c.val = true →
    s.dev.readCopy (512 + c.val) h.bytes = none → s.dev.tblHurt (256 * (512 + c.val) + 192) = false →
      Completes (.streamCopy) s fun d =>
        d.cf (512 + c.val) 24 63 32 = min (s.dev.cf (512 + c.val) 24 63 32 + 1) (2 ^ (63 + 1 - 32) - 1) ∧
        d.handed = t ∧
        s.dev.sameMemBut d (256 * (512 + c.val) + 192) 8 ∧
        s.dev.sameRegs d [rINT_INJ_CMD] ∧
        d = { s.dev with regs := d.regs, tbl := d.tbl, handed := d.handed, poison := d.poison, integ := d.integ, irqA := d.irqA, irqB := d.irqB }) ∧
  (∀ (s : State) (c : Fin 512) (b : Fin 4) (h : Handed) (t : List Handed) (k : Copy), s.dev.calm = true →
    s.dev.handed = h :: t → h.sink = .stream c.val b.val → s.dev.domOn 1 = true → s.dev.srxOn c.val = true →
    fmtCrf (s.dev.cFmt (512 + c.val)) = true → s.dev.readCopy (512 + c.val) h.bytes = some k →
    (s.dev.srxOf c.val).win = none → (∀ w ∈ List.range 32, s.dev.tblHurt (256 * (512 + c.val) + 8 * w) = false) →
    s.dev.on fINT_INJ_CMD_ARMED = false →
      Completes (.streamCopy) s fun d =>
        d.cf (512 + c.val) 22 63 32 = min (s.dev.cf (512 + c.val) 22 63 32 + 1) (2 ^ (63 + 1 - 32) - 1) ∧
        d.cf (512 + c.val) 26 (16 * b.val + 15) (16 * b.val) = min (s.dev.cf (512 + c.val) 26 (16 * b.val + 15) (16 * b.val) + 1) (2 ^ ((16 * b.val + 15) + 1 - (16 * b.val)) - 1) ∧
        d.cState (512 + c.val) = 2 ∧
        (d.srxOf c.val).win = some 1 ∧
        d.extSeq c.val = k.q ∧
        d.handed = t ∧
        s.dev.sameMemBut d (256 * (512 + c.val) + 160) 56 ∧
        s.dev.sameRegs d [] ∧
        d = { s.dev with regs := d.regs, tbl := d.tbl, handed := d.handed, srx := d.srx, poison := d.poison, integ := d.integ, irqA := d.irqA, irqB := d.irqB }) ∧
  (∀ (s : State) (c : Fin 512) (b : Fin 4) (h : Handed) (t : List Handed) (k : Copy) (ts : Nat) (r : Word64),
    s.dev.calm = true → s.dev.handed = h :: t → h.sink = .stream c.val b.val → s.dev.domOn 1 = true →
    s.dev.srxOn c.val = true → fmtCrf (s.dev.cFmt (512 + c.val)) = false → s.dev.srxDeep c.val = false →
    s.dev.readCopy (512 + c.val) h.bytes = some k → k.ts = some ts → (s.dev.srxOf c.val).win = none →
    (s.dev.srxOf c.val).r = some r → s.dev.cState (512 + c.val) = 1 →
    sdiff32 ((ts + s.dev.cf (512 + c.val) 1 19 0) % 2 ^ 32) (r.toNat % 2 ^ 32) < 0 →
    s.dev.tblHurt (256 * (512 + c.val) + 184) = false →
      Completes (.streamCopy) s fun d =>
        d.cf (512 + c.val) 23 63 32 = min (s.dev.cf (512 + c.val) 23 63 32 + 1) (2 ^ (63 + 1 - 32) - 1) ∧
        d.handed = t ∧
        s.dev.sameMemBut d (256 * (512 + c.val) + 184) 8 ∧
        s.dev.sameRegs d [rINT_INJ_CMD] ∧
        d = { s.dev with regs := d.regs, tbl := d.tbl, handed := d.handed, poison := d.poison, integ := d.integ, irqA := d.irqA, irqB := d.irqB }) ∧
  (∀ (s : State) (c : Fin 512) (b : Fin 4) (h : Handed) (t : List Handed) (k : Copy) (ts : Nat) (q : Nat) (r : Word64),
    s.dev.calm = true → s.dev.handed = h :: t → h.sink = .stream c.val b.val → s.dev.domOn 1 = true →
    s.dev.srxOn c.val = true → fmtCrf (s.dev.cFmt (512 + c.val)) = false → s.dev.srxDeep c.val = false →
    s.dev.readCopy (512 + c.val) h.bytes = some k → k.ts = some ts → (s.dev.srxOf c.val).win = none →
    (s.dev.srxOf c.val).r = some r → s.dev.cState (512 + c.val) = 1 → q = (ts + s.dev.cf (512 + c.val) 1 19 0) % 2 ^ 32 →
    0 ≤ sdiff32 q (r.toNat % 2 ^ 32) → sdiff32 q (r.toNat % 2 ^ 32) + s.dev.cSpan (512 + c.val) ≤ s.dev.ringOn →
    s.dev.houseMult ≤ 4 → (∀ w ∈ List.range 32, s.dev.tblHurt (256 * (512 + c.val) + 8 * w) = false) →
    s.dev.on fINT_INJ_CMD_ARMED = false →
      Completes (.streamCopy) s fun d =>
        d.cf (512 + c.val) 22 63 32 = min (s.dev.cf (512 + c.val) 22 63 32 + 1) (2 ^ (63 + 1 - 32) - 1) ∧
        (d.srxOf c.val).spans = q :: (s.dev.srxOf c.val).spans ∧
        d.extSeq c.val = k.q ∧
        (∀ i < s.dev.cSpan (512 + c.val), ∀ j < s.dev.cCh (512 + c.val), d.ringAt (s.dev.cBase (512 + c.val) + j) (q + i) = (((rxSamples (s.dev.cFmt (512 + c.val)) (s.dev.cCh (512 + c.val)) (s.dev.cSpan (512 + c.val)) k.pay).1.getD i []).getD j 0)) ∧
        d.handed = t ∧
        s.dev.sameMemBut d (256 * (512 + c.val) + 160) 56 ∧
        s.dev.sameRegs d [] ∧
        d = { s.dev with regs := d.regs, tbl := d.tbl, handed := d.handed, srx := d.srx, rings := d.rings, poison := d.poison, integ := d.integ, irqA := d.irqA, irqB := d.irqB }) ∧
  (∀ (s : State) (c : Fin 512), s.dev.calm = true → s.dev.domOn 1 = true → s.dev.srxOn c.val = true →
    (s.dev.srxOf c.val).stopped = false → (s.dev.mcgOf (s.dev.ctxMcg (512 + c.val))).ticking = true →
    s.dev.cState (512 + c.val) = 3 → s.dev.tblHurt (256 * (512 + c.val) + 160) = false →
      Completes (.streamLossTimeout c) s fun d =>
        d.cState (512 + c.val) = 1 ∧
        d.srxOf c.val = (s.dev.srxOf c.val).acquire ∧
        d.on fSRX_LOSS_EVT_VALID = true ∧
        (d.reg rSRX_LOSS_EVT_CNT).toNat = min ((s.dev.reg rSRX_LOSS_EVT_CNT).toNat + 1) (2 ^ 32 - 1) ∧
        (s.dev.on fSRX_LOSS_EVT_VALID = true ∨ d.get fSRX_LOSS_EVT_CTX = c.val) ∧
        s.dev.sameMemBut d (256 * (512 + c.val) + 160) 8 ∧
        d = { s.dev with regs := d.regs, tbl := d.tbl, srx := d.srx, poison := d.poison, integ := d.integ, hq := d.hq, rql := d.rql, cue := d.cue, irqA := d.irqA, irqB := d.irqB }) ∧
  (∀ (s : State) (g : BitVec 8) (f : Nat), s.dev.calm = true → s.dev.domOn 1 = true → g ≠ 0 →
    s.dev.groupRef false g.toNat = some f → (∃ o ∈ s.dev.grpWaiting g.toNat 1, (s.dev.srxOf o).recorded.isSome) →
      Completes (.grpWaitExpiry g false) s fun d =>
        (∀ o ∈ s.dev.grpWaiting g.toNat 1, (d.srxOf o).fixed = true ∧ (d.srxOf o).start.isSome = (s.dev.srxOf o).recorded.isSome) ∧
        s.dev.sameRegs d [] ∧
        d = { s.dev with regs := d.regs, srx := d.srx, irqA := d.irqA, irqB := d.irqB }) ∧
  (∀ (s : State) (c : Fin 512) (q : Nat) (r : Word64), s.dev.calm = true → s.dev.domOn 1 = true → s.dev.srxOn c.val = true →
    s.dev.srxDeep c.val = true → s.dev.ddrIn = true → (s.dev.srxOf c.val).r = some r →
    ((s.dev.srxOf c.val).unstaged.reverse.find? (fun p => decide (0 ≤ sdiff32 p (r.toNat % 2 ^ 32)) && decide (sdiff32 p (r.toNat % 2 ^ 32) ≤ 256 * s.dev.houseMult)) = some q) →
    s.dev.domOn 14 = true →
      Completes (.deepStagingCopy c) s fun d =>
        (d.srxOf c.val).spans = q :: (s.dev.srxOf c.val).spans ∧
        q ∉ (d.srxOf c.val).unstaged) ∧
  (∀ (s : State) (c : Fin 512), s.dev.calm = true → s.dev.domOn 1 = true → s.dev.srxOn c.val = true →
    fmtCrf (s.dev.cFmt (512 + c.val)) = true → s.dev.cState (512 + c.val) = 2 →
    (∀ w ∈ List.range 32, s.dev.tblHurt (256 * (512 + c.val) + 8 * w) = false) →
      Completes (.crfConcealTimeout c) s fun d =>
        d.cState (512 + c.val) = 3 ∧
        d.cf (512 + c.val) 25 63 32 = min (s.dev.cf (512 + c.val) 25 63 32 + 1) (2 ^ (63 + 1 - 32) - 1) ∧
        s.dev.sameMemBut d (256 * (512 + c.val) + 160) 48 ∧
        s.dev.sameRegs d [rINT_INJ_CMD] ∧
        d = { s.dev with regs := d.regs, tbl := d.tbl, poison := d.poison, integ := d.integ, irqA := d.irqA, irqB := d.irqB })

/-- Enabling Anvil validates BANK; a valid bank becomes LIVE and EN stays 1, an invalid one leaves EN = 0 and counts and
captures the refusal. Disabling with no block in progress ends RUN, a pending swap and the crossfade, and every handle
that jobs write reads zero. With SCENE = 0, an untimed SWAP of a valid NEXT bank is accepted and waits with its
crossfade length; with SCENE = 1 or 2 it is refused with code 12; a NEXT bank that breaks a condition of codes 1 to 9
is refused with the lowest such code, whatever SCENE and EN. CANCEL withdraws a swap that waits. (R217, R218, R219,
R220, R222) -/
def Obligations.AnvilEnablesAndSwapsScenes : Prop :=
  (∀ (s : State) (p : Port) (v : Word), s.dev.calm = true → s.dev.takes p rANV_CTL → s.dev.on fANV_CTL_EN = false →
    s.dev.anv.swap = none →
    (s.dev.stored rANV_CTL (fANV_CTL_EN.put v 1)).validate ((s.dev.stored rANV_CTL (fANV_CTL_EN.put v 1)).get fANV_CTL_BANK) = none →
      Completes (.anvEnable p v) s fun d =>
        d.on fANV_CTL_EN = true ∧
        d.get fANV_STS_LIVE = fANV_CTL_BANK.get v ∧
        d.on fANV_STS_RUN = s.dev.on fANV_STS_RUN ∧
        d.anv.fresh = true ∧
        d.anv.faults = s.dev.anv.faults ∧
        (d.port p).code = 0 ∧
        s.dev.sameRegs d [rANV_CTL, rANV_STS, rANV_COST_Pc 0, rANV_COST_Pc 1, rANV_COST_Pc 2, rANV_COST_Pc 3] ∧
        d = { s.dev with regs := d.regs, ports := d.ports, anv := d.anv, irqA := d.irqA, irqB := d.irqB }) ∧
  (∀ (s : State) (p : Port) (v : Word) (c : Nat) (e : Nat), s.dev.calm = true → s.dev.takes p rANV_CTL →
    s.dev.on fANV_CTL_EN = false →
    (s.dev.stored rANV_CTL (fANV_CTL_EN.put v 1)).validate ((s.dev.stored rANV_CTL (fANV_CTL_EN.put v 1)).get fANV_CTL_BANK) = some (c, e) →
    s.dev.on fANV_REFUSE_VALID = false →
      Completes (.anvEnable p v) s fun d =>
        d.on fANV_CTL_EN = false ∧
        d.on fANV_REFUSE_VALID = true ∧
        d.get fANV_REFUSE_CODE = c % 16 ∧
        d.get fANV_REFUSE_ENTRY = e % 32768 ∧
        (d.reg rANV_REFUSE_CNT).toNat = min ((s.dev.reg rANV_REFUSE_CNT).toNat + 1) (2 ^ 32 - 1) ∧
        (d.port p).code = 0 ∧
        s.dev.sameRegs d [rANV_CTL, rANV_REFUSE, rANV_REFUSE_CNT] ∧
        d = { s.dev with regs := d.regs, ports := d.ports, irqA := d.irqA, irqB := d.irqB }) ∧
  (∀ (s : State) (p : Port) (v : Word), s.dev.calm = true → s.dev.takes p rANV_CTL → s.dev.on fANV_CTL_EN = true →
    s.dev.anv.block = none → s.dev.anv.swap = none →
      Completes (.anvDisable p v) s fun d =>
        d.on fANV_CTL_EN = false ∧
        d.on fANV_STS_RUN = false ∧
        d.get fANV_STS_SCENE = 0 ∧
        (d.anv.sig.all (fun e => decide (131072 ≤ e.1)) = true) ∧
        d.anv.due = [] ∧
        d.anv.xfade = none ∧
        s.dev.sameStoreBut d 0x8C000 0x14C000 ∧
        (d.port p).code = 0 ∧
        s.dev.sameRegs d [rANV_CTL, rANV_STS, rGLB_IGN_CNT, rGLB_IGN_OVF_CNT] ∧
        d = { s.dev with regs := d.regs, ports := d.ports, ign := d.ign, anv := d.anv, ticks := d.ticks, store := d.store, irqA := d.irqA, irqB := d.irqB }) ∧
  (∀ (s : State) (p : Port) (v : Word), s.dev.calm = true → s.dev.takes p rANV_SCENE_CMD → s.dev.get fANV_STS_SCENE = 0 →
    fANV_SCENE_CMD_TIMED.get v = 0 →
    (s.dev.stored rANV_SCENE_CMD (fANV_SCENE_CMD_OP.put v 1)).validate s.dev.nextBank = none →
    (fANV_SCENE_CMD_XFADE.get v = 0 ∨ (s.dev.stored rANV_SCENE_CMD (fANV_SCENE_CMD_OP.put v 1)).sharesHeap s.dev.nextBank (1 - s.dev.nextBank) = none) →
      Completes (.sceneSwap p v) s fun d =>
        d.get fANV_STS_SCENE = 1 ∧
        d.anv = { s.dev.anv with swap := some { bank := s.dev.nextBank, xfade := fANV_SCENE_CMD_XFADE.get v }, cls := d.anv.cls } ∧
        (d.port p).code = 0 ∧
        s.dev.sameRegs d [rANV_SCENE_CMD, rANV_STS] ∧
        d = { s.dev with regs := d.regs, ports := d.ports, anv := d.anv, irqA := d.irqA, irqB := d.irqB }) ∧
  (∀ (s : State) (p : Port) (v : Word), s.dev.calm = true → s.dev.takes p rANV_SCENE_CMD → s.dev.get fANV_STS_SCENE ≠ 0 →
    fANV_SCENE_CMD_TIMED.get v = 0 →
    (s.dev.stored rANV_SCENE_CMD (fANV_SCENE_CMD_OP.put v 1)).validate s.dev.nextBank = none →
    (fANV_SCENE_CMD_XFADE.get v = 0 ∨ (s.dev.stored rANV_SCENE_CMD (fANV_SCENE_CMD_OP.put v 1)).sharesHeap s.dev.nextBank (1 - s.dev.nextBank) = none) →
      Completes (.sceneSwap p v) s fun d =>
        d.get fANV_STS_SCENE = s.dev.get fANV_STS_SCENE ∧
        (s.dev.on fANV_REFUSE_VALID = true ∨ d.get fANV_REFUSE_CODE = 12) ∧
        (d.reg rANV_REFUSE_CNT).toNat = min ((s.dev.reg rANV_REFUSE_CNT).toNat + 1) (2 ^ 32 - 1) ∧
        (d.port p).code = 0 ∧
        s.dev.sameRegs d [rANV_SCENE_CMD, rANV_REFUSE, rANV_REFUSE_CNT] ∧
        d = { s.dev with regs := d.regs, ports := d.ports, irqA := d.irqA, irqB := d.irqB }) ∧
  (∀ (s : State) (p : Port) (v : Word) (c : Nat) (e : Nat), s.dev.calm = true → s.dev.takes p rANV_SCENE_CMD →
    fANV_SCENE_CMD_TIMED.get v = 0 →
    (s.dev.stored rANV_SCENE_CMD (fANV_SCENE_CMD_OP.put v 1)).validate s.dev.nextBank = some (c, e) →
      Completes (.sceneSwap p v) s fun d =>
        d.get fANV_STS_SCENE = s.dev.get fANV_STS_SCENE ∧
        (s.dev.on fANV_REFUSE_VALID = true ∨ d.get fANV_REFUSE_CODE = c % 16) ∧
        (d.reg rANV_REFUSE_CNT).toNat = min ((s.dev.reg rANV_REFUSE_CNT).toNat + 1) (2 ^ 32 - 1) ∧
        (d.port p).code = 0 ∧
        s.dev.sameRegs d [rANV_SCENE_CMD, rANV_REFUSE, rANV_REFUSE_CNT] ∧
        d = { s.dev with regs := d.regs, ports := d.ports, irqA := d.irqA, irqB := d.irqB }) ∧
  (∀ (s : State) (p : Port) (v : Word) (w : AnvSwap), s.dev.calm = true → s.dev.takes p rANV_SCENE_CMD →
    s.dev.anv.swap = some w → w.tcmp = none → w.at_ = none →
      Completes (.sceneCancel p v) s fun d =>
        d.get fANV_STS_SCENE = 0 ∧
        d.anv = { s.dev.anv with swap := none } ∧
        (d.port p).code = 0 ∧
        s.dev.sameRegs d [rANV_SCENE_CMD, rANV_STS] ∧
        d = { s.dev with regs := d.regs, ports := d.ports, anv := d.anv, irqA := d.irqA, irqB := d.irqB })

/-- With no block in progress and the input words of its samples in, the oldest closed block is gathered and RUN is 1
while the house generator issues ticks; with one in progress the gather waits and is counted once. A job that commits
is done, and as the only job of its block it leaves its samples in its handle and ends the block. A residue fault
counts against the lane; with a spare lane and slack the job runs again there; without either it misses. A job open at
its deadline misses in its class and the first miss is captured. A read that returns frees its job. A temperature
sample with two or more valid readings sets TJ to the highest, and the power cap from its curve; with fewer TJ is 125
°C and SENSOR_FAIL is set. (R197, R209, R224, R225, R228, R229, R232, R235, R236, R247) -/
def Obligations.BlocksGatherAndJobsCommit : Prop :=
  (∀ (s : State) (w : AnvDue) (t : List AnvDue), s.dev.calm = true → s.dev.anvRuns = true → s.dev.on fANV_CTL_EN = true →
    (s.dev.mcgOf (s.dev.get fMCG_HOUSE_HOUSE)).ticking = true → s.dev.anv.block = none → s.dev.anv.waiting = 0 →
    s.dev.gatherReady = true → s.dev.anv.due = w :: t →
      Completes (.blockGather) s fun d =>
        d.anv.due = t ∧
        d.anv.waiting = 0 ∧
        d.anv.count = s.dev.anv.count + 1 ∧
        d.on fANV_STS_RUN = true ∧
        d.anv.retire = []) ∧
  (∀ (s : State) (b : AnvBlock), s.dev.calm = true → s.dev.anvRuns = true → s.dev.on fANV_CTL_EN = true →
    s.dev.anv.block = some b → s.dev.anv.waiting < s.dev.anv.due.length →
      Completes (.blockGather) s fun d =>
        d.anv = { s.dev.anv with waiting := s.dev.anv.waiting + 1 } ∧
        (d.reg rSCH_GATHER_WAIT_CNT).toNat = min ((s.dev.reg rSCH_GATHER_WAIT_CNT).toNat + 1) (2 ^ 32 - 1) ∧
        s.dev.sameRegs d [rSCH_GATHER_WAIT_CNT] ∧
        d = { s.dev with regs := d.regs, anv := d.anv, irqA := d.irqA, irqB := d.irqB }) ∧
  (∀ (s : State) (l : Fin 34) (b : AnvBlock) (r : JobRun) (o : JobOut), s.dev.calm = true → s.dev.anvRuns = true →
    s.dev.anv.block = some b → b.onLane l.val = some r → r.stage = .running l.val false o → s.dev.anv.waiting = 0 →
      Completes (.jobCommit l .none) s fun d =>
        (d.anv.block.all (fun b => b.jobs.all fun x => x.bank != r.bank || x.entry != r.entry || x.stage == .done) = true)) ∧
  (∀ (s : State) (l : Fin 34) (b : AnvBlock) (r : JobRun) (o : JobOut) (h : Nat) (xs : List Int), s.dev.calm = true →
    s.dev.anvRuns = true → s.dev.anv.block = some b → b.onLane l.val = some r → r.stage = .running l.val false o →
    s.dev.anv.waiting = 0 → b.jobs = [r] → b.fade = none → b.disabled = false → b.checks = [] → o = { sigs := [(h, xs)] } →
    s.dev.handleValid h = true → kget false s.dev.anv.missed r.key = false →
      Completes (.jobCommit l .none) s fun d =>
        d.anv.block = none ∧
        kget [] d.anv.sig (sigKey r.bank h) = xs ∧
        d.reg rSCH_USED_LC = BitVec.ofNat 32 b.used) ∧
  (∀ (s : State) (l : Fin 34) (sl : Bool) (b : AnvBlock) (r : JobRun) (o : JobOut), s.dev.calm = true → s.dev.anvRuns = true →
    s.dev.anv.block = some b → b.onLane l.val = some r → r.stage = .running l.val false o → s.dev.anv.waiting = 0 →
    (sl = false ∨ s.dev.spares.find? (fun x => (b.onLane x).isNone && x != l.val) = none) →
      Completes (.laneResidueFault l sl) s fun d =>
        (d.anv.block.all (fun b => b.jobs.all fun x => x.bank != r.bank || x.entry != r.entry || x.stage == .done) = true) ∧
        (d.reg rANV_RES_FAULT_CNT).toNat = min ((s.dev.reg rANV_RES_FAULT_CNT).toNat + 1) (2 ^ 32 - 1) ∧
        (d.reg (rANV_LANEnn_FAULT_CNT l.val)).toNat = min ((s.dev.reg (rANV_LANEnn_FAULT_CNT l.val)).toNat + 1) (2 ^ 32 - 1) ∧
        (d.reg rANV_REEXEC_FAIL_CNT).toNat = min ((s.dev.reg rANV_REEXEC_FAIL_CNT).toNat + 1) (2 ^ 32 - 1) ∧
        d.on fSCH_MISS_LOG_VALID = true) ∧
  (∀ (s : State) (l : Fin 34) (s0 : Fin 34) (b : AnvBlock) (r : JobRun) (o : JobOut), s.dev.calm = true →
    s.dev.anvRuns = true → s.dev.anv.block = some b → b.onLane l.val = some r → r.stage = .running l.val false o →
    s.dev.anv.waiting = 0 → (s.dev.spares.find? (fun x => (b.onLane x).isNone && x != l.val) = some s0.val) → b.jobs = [r] →
    b.checks = [] →
      Completes (.laneResidueFault l true) s fun d =>
        (d.anv.block.any (fun b => b.jobs == [{ r with stage := .running s0.val true o }]) = true) ∧
        (d.reg rANV_RES_FAULT_CNT).toNat = min ((s.dev.reg rANV_RES_FAULT_CNT).toNat + 1) (2 ^ 32 - 1) ∧
        (d.reg (rANV_LANEnn_FAULT_CNT l.val)).toNat = min ((s.dev.reg (rANV_LANEnn_FAULT_CNT l.val)).toNat + 1) (2 ^ 32 - 1) ∧
        d.reg rANV_REEXEC_FAIL_CNT = s.dev.reg rANV_REEXEC_FAIL_CNT) ∧
  (∀ (s : State) (k : Fin 2) (e : Fin 32768) (b : AnvBlock) (r : JobRun), s.dev.calm = true → s.dev.anvRuns = true →
    s.dev.anv.block = some b → (b.jobs.find? (fun x => x.bank == k.val && x.entry == e.val && x.open_) = some r) →
    s.dev.anv.waiting = 0 →
      Completes (.jobDeadlineMiss k e) s fun d =>
        (d.anv.block.all (fun b => b.jobs.all fun x => x.bank != r.bank || x.entry != r.entry || x.stage == .done) = true) ∧
        d.on fSCH_MISS_LOG_VALID = true ∧
        (s.dev.on fSCH_MISS_LOG_VALID = true ∨ (d.get fSCH_MISS_LOG_BANK = r.bank % 2 ∧ d.get fSCH_MISS_LOG_ENTRY = r.entry % 32768 ∧ d.get fSCH_MISS_LOG_CAUSE = r.cause))) ∧
  (∀ (s : State) (k : Fin 2) (e : Fin 32768) (b : AnvBlock) (r : JobRun), s.dev.calm = true → s.dev.anvRuns = true →
    s.dev.anv.block = some b → b.jobs = [r] → r.bank = k.val → r.entry = e.val → r.open_ = true → s.dev.anv.waiting = 0 →
      Completes (.jobDeadlineMiss k e) s fun d =>
        (d.reg (rSCH_MISS_Pc_CNT r.cls.val)).toNat = min ((s.dev.reg (rSCH_MISS_Pc_CNT r.cls.val)).toNat + 1) (2 ^ 32 - 1)) ∧
  (∀ (s : State) (k : Fin 2) (e : Fin 32768) (b : AnvBlock) (r : JobRun) (vs : List Int), s.dev.calm = true →
    s.dev.anvRuns = true → s.dev.ddrIn = true → s.dev.reader k.val e.val = some (b, r) → b.jobs = [r] →
    s.dev.anv.waiting = 0 → s.dev.anv.work = [] → r.ext = some (false, vs) → b.fed = true →
    (((s.dev.extItems (s.dev.jobOf r) b.start b.n).2.map (s.dev.itemBeat (s.dev.extItems (s.dev.jobOf r) b.start b.n).1)).find? (fun x => kget false s.dev.ddr.bad x) = none) →
      Completes (.dramReadReturn k e none) s fun d =>
        (d.anv.block.any (fun x => x.jobs == [{ r with ext := some (true, vs) }]) = true) ∧
        s.dev.sameRegs d [] ∧
        d = { s.dev with regs := d.regs, ddr := d.ddr, anv := d.anv, irqA := d.irqA, irqB := d.irqB }) ∧
  (∀ (s : State) (rs : List Int), s.dev.calm = true → s.dev.anvRuns = true →
    (2 ≤ ((List.range 8).filter fun i => (decide (-880 ≤ rs.getD i 0) && decide (rs.getD i 0 ≤ 2400))).length) →
      Completes (.sensorSample rs) s fun d =>
        d.on fSCH_STS_SENSOR_FAIL = false ∧
        (∀ i ∈ List.range 8, d.on (fSCH_TSn_TEMP_VALID i) = (decide (-880 ≤ rs.getD i 0) && decide (rs.getD i 0 ≤ 2400))) ∧
        (∀ i ∈ List.range 8, (decide (-880 ≤ rs.getD i 0) && decide (rs.getD i 0 ≤ 2400)) = true → rs.getD i 0 ≤ sgn 16 (d.get fSCH_TJ_TJ)) ∧
        sgn 16 (d.get fSCH_TJ_TJ) = rs.getD (d.get fSCH_TJ_SENSOR) 0 ∧
        d.reg rSCH_CAP_MW = BitVec.ofInt 32 (curveWhole (s.dev.curveAt (s.dev.get fSCH_CURVES_CAP_CURVE) (sgn 16 (d.get fSCH_TJ_TJ)) 1)) ∧
        s.dev.sameRegs d [rSCH_STS, rSCH_TJ, rSCH_CAP_MW, rSCH_SENSOR_ERR_CNT, rSCH_TSn_TEMP 0, rSCH_TSn_TEMP 1, rSCH_TSn_TEMP 2, rSCH_TSn_TEMP 3, rSCH_TSn_TEMP 4, rSCH_TSn_TEMP 5, rSCH_TSn_TEMP 6, rSCH_TSn_TEMP 7] ∧
        d = { s.dev with regs := d.regs, irqA := d.irqA, irqB := d.irqB }) ∧
  (∀ (s : State) (rs : List Int), s.dev.calm = true → s.dev.anvRuns = true →
    (((List.range 8).filter fun i => (decide (-880 ≤ rs.getD i 0) && decide (rs.getD i 0 ≤ 2400))).length < 2) →
      Completes (.sensorSample rs) s fun d =>
        d.on fSCH_STS_SENSOR_FAIL = true ∧
        d.get fSCH_TJ_TJ = 2000 ∧
        s.dev.sameRegs d [rSCH_STS, rSCH_TJ, rSCH_CAP_MW, rSCH_SENSOR_ERR_CNT, rSCH_TSn_TEMP 0, rSCH_TSn_TEMP 1, rSCH_TSn_TEMP 2, rSCH_TSn_TEMP 3, rSCH_TSn_TEMP 4, rSCH_TSn_TEMP 5, rSCH_TSn_TEMP 6, rSCH_TSn_TEMP 7] ∧
        d = { s.dev with regs := d.regs, irqA := d.irqA, irqB := d.irqB })

/-- A port that passes the checks of R258 keeps EN = 1 with CFG_ERR clear and shows BYPASS; one that fails returns EN to 0
with its code. Disabling with no frame in progress clears RUN, ASRC_LOCK, RESYNC, CLK_LOSS and RATIO_ERR and ends
every command that waits; with a frame in progress it ends the commands and leaves that frame to complete. A word
select out of place on a slave enters RESYNC, counted once; the first good frame leaves it and sets RUN. A bypassed
master frame puts its input words in their handles as the sample of its SIDX. Loss of the clock sets CLK_LOSS,
counted; a converter within range locks, one out of range sets RATIO_ERR. (R256, R258, R260, R262, R269, R270, R272) -/
def Obligations.SerialPortsEnableAndFrame : Prop :=
  (∀ (s : State) (n : Fin 24) (p : Port) (v : Word), s.dev.calm = true → s.dev.takes p (rSAPnn_CTL n.val) →
    s.dev.on (fSAPnn_CTL_EN n.val) = false →
    (s.dev.stored (rSAPnn_CTL n.val) ((fSAPnn_CTL_EN n.val).put v 1)).sapCheck n.val = 0 →
      Completes (.sapEnable n p v) s fun d =>
        d.on (fSAPnn_CTL_EN n.val) = true ∧
        d.on (fSAPnn_STS_CFG_ERR n.val) = false ∧
        (fSAPnn_STS_BYPASS n.val).get (d.regValue (rSAPnn_STS n.val)) = ((s.dev.stored (rSAPnn_CTL n.val) ((fSAPnn_CTL_EN n.val).put v 1)).sapBypass n.val).toNat ∧
        (d.sapOf n.val).ending = false ∧
        (d.sapOf n.val).frames = [] ∧
        (d.sapOf n.val).f = 0 ∧
        (d.sapOf n.val).seen = false ∧
        (d.port p).code = 0 ∧
        s.dev.sameRegs d [rSAPnn_CTL n.val, rSAPnn_STS n.val, rSAPnn_SLOT_MASK n.val, rPIN_CONFLICT, rPIN_GRPnn_OWNER 8, rPIN_GRPnn_OWNER 9, rPIN_GRPnn_OWNER 10, rPIN_GRPnn_OWNER 11] ∧
        d = { s.dev with regs := d.regs, ports := d.ports, sap := d.sap, irqA := d.irqA, irqB := d.irqB }) ∧
  (∀ (s : State) (n : Fin 24) (p : Port) (v : Word), s.dev.calm = true → s.dev.takes p (rSAPnn_CTL n.val) →
    s.dev.on (fSAPnn_CTL_EN n.val) = false →
    (s.dev.stored (rSAPnn_CTL n.val) ((fSAPnn_CTL_EN n.val).put v 1)).sapCheck n.val ≠ 0 →
      Completes (.sapEnable n p v) s fun d =>
        d.on (fSAPnn_CTL_EN n.val) = false ∧
        d.on (fSAPnn_STS_CFG_ERR n.val) = true ∧
        d.get (fSAPnn_STS_ERR_CODE n.val) = (s.dev.stored (rSAPnn_CTL n.val) ((fSAPnn_CTL_EN n.val).put v 1)).sapCheck n.val ∧
        (d.reg rSAP_REFUSE_CNT).toNat = min ((s.dev.reg rSAP_REFUSE_CNT).toNat + 1) (2 ^ 32 - 1) ∧
        (d.port p).code = 0 ∧
        s.dev.sameRegs d [rSAPnn_CTL n.val, rSAPnn_STS n.val, rSAP_REFUSE_CNT] ∧
        d = { s.dev with regs := d.regs, ports := d.ports, irqA := d.irqA, irqB := d.irqB }) ∧
  (∀ (s : State) (n : Fin 24) (p : Port) (v : Word), s.dev.calm = true → s.dev.takes p (rSAPnn_CTL n.val) →
    s.dev.on (fSAPnn_CTL_EN n.val) = true →
    ((s.dev.on (fSAPnn_STS_RUN n.val) && s.dev.domOn (5 + n.val / 6) && (if s.dev.on (fSAPnn_CTL_MASTER n.val) then !(s.dev.sapOf n.val).frames.isEmpty else !s.dev.on (fSAPnn_STS_CLK_LOSS n.val))) = false) →
      Completes (.sapDisable n p v) s fun d =>
        d.on (fSAPnn_CTL_EN n.val) = false ∧
        d.on (fSAPnn_STS_RUN n.val) = false ∧
        d.on (fSAPnn_STS_ASRC_LOCK n.val) = false ∧
        d.on (fSAPnn_STS_RESYNC n.val) = false ∧
        d.on (fSAPnn_STS_CLK_LOSS n.val) = false ∧
        d.on (fSAPnn_STS_RATIO_ERR n.val) = false ∧
        d.reg (rSAPnn_CH_PEND n.val) &&& 0x00FF00FF = 0 ∧
        (d.sapOf n.val).frames = [] ∧
        (d.sapOf n.val).rows = [] ∧
        (d.sapOf n.val).lanes = [] ∧
        (d.port p).code = 0 ∧
        s.dev.sameRegs d [rSAPnn_CTL n.val, rSAPnn_STS n.val, rSAPnn_CH_STS n.val, rSAPnn_CH_PEND n.val, rGLB_IGN_CNT, rGLB_IGN_OVF_CNT, rPIN_CONFLICT, rPIN_GRPnn_OWNER 8, rPIN_GRPnn_OWNER 9, rPIN_GRPnn_OWNER 10, rPIN_GRPnn_OWNER 11] ∧
        d = { s.dev with regs := d.regs, ports := d.ports, sap := d.sap, ign := d.ign, ticks := d.ticks, irqA := d.irqA, irqB := d.irqB }) ∧
  (∀ (s : State) (n : Fin 24) (p : Port) (v : Word), s.dev.calm = true → s.dev.takes p (rSAPnn_CTL n.val) →
    s.dev.on (fSAPnn_CTL_EN n.val) = true →
    ((s.dev.on (fSAPnn_STS_RUN n.val) && s.dev.domOn (5 + n.val / 6) && (if s.dev.on (fSAPnn_CTL_MASTER n.val) then !(s.dev.sapOf n.val).frames.isEmpty else !s.dev.on (fSAPnn_STS_CLK_LOSS n.val))) = true) →
      Completes (.sapDisable n p v) s fun d =>
        d.on (fSAPnn_CTL_EN n.val) = false ∧
        d.on (fSAPnn_STS_RUN n.val) = true ∧
        d.reg (rSAPnn_CH_PEND n.val) &&& 0x00FF00FF = 0 ∧
        (d.sapOf n.val).ending = true ∧
        (d.sapOf n.val).frames = (s.dev.sapOf n.val).frames.take 1 ∧
        (d.port p).code = 0 ∧
        s.dev.sameRegs d [rSAPnn_CTL n.val, rSAPnn_CH_STS n.val, rSAPnn_CH_PEND n.val, rGLB_IGN_CNT, rGLB_IGN_OVF_CNT] ∧
        d = { s.dev with regs := d.regs, ports := d.ports, sap := d.sap, ign := d.ign, ticks := d.ticks, irqA := d.irqA, irqB := d.irqB }) ∧
  (∀ (s : State) (n : Fin 24) (ws : BitVec 65) (l : List (BitVec 65)) (r : Nat) (b : Bool), s.dev.calm = true →
    s.dev.sapOn n.val = true → s.dev.on (fSAPnn_CTL_MASTER n.val) = false → (s.dev.sapOf n.val).ending = false →
    s.dev.anv.waiting = 0 → s.dev.on (fSAPnn_STS_RESYNC n.val) = false → s.dev.sapValid n.val ws.toNat = false →
      Completes (.sapFrame n ws l r b) s fun d =>
        d.on (fSAPnn_STS_RESYNC n.val) = true ∧
        (d.reg (rSAPnn_WS_ERR_CNT n.val)).toNat = min ((s.dev.reg (rSAPnn_WS_ERR_CNT n.val)).toNat + 1) (2 ^ 32 - 1) ∧
        ((d.sapOf n.val).f = if (s.dev.sapOf n.val).seen then (s.dev.sapOf n.val).f + 1 else (s.dev.sapOf n.val).f) ∧
        (d.sapOf n.val).fadeIn = .silent none ∧
        (d.sapOf n.val).fadeOut = .silent none ∧
        s.dev.sameRegs d [rSAPnn_STS n.val, rSAPnn_WS_ERR_CNT n.val] ∧
        d = { s.dev with regs := d.regs, sap := d.sap, irqA := d.irqA, irqB := d.irqB }) ∧
  (∀ (s : State) (n : Fin 24) (ws : BitVec 65) (l : List (BitVec 65)) (r : Nat) (b : Bool), s.dev.calm = true →
    s.dev.sapOn n.val = true → s.dev.on (fSAPnn_CTL_MASTER n.val) = false → (s.dev.sapOf n.val).ending = false →
    s.dev.anv.waiting = 0 → s.dev.sapValid n.val ws.toNat = true →
      Completes (.sapFrame n ws l r b) s fun d =>
        d.on (fSAPnn_STS_RESYNC n.val) = false ∧
        d.on (fSAPnn_STS_CLK_LOSS n.val) = false ∧
        d.on (fSAPnn_STS_RUN n.val) = true ∧
        (d.sapOf n.val).f = (s.dev.sapOf n.val).f + 1 ∧
        (d.sapOf n.val).seen = true ∧
        s.dev.sameRegs d [rSAPnn_STS n.val, rSAPnn_ASRC_RATIO n.val, rSAPnn_ASRC_UNLOCK_CNT n.val, rSAPnn_SAT_CNT n.val, rSAPnn_CH_STS n.val, rSAPnn_CH_PEND n.val, rSAPnn_ZC_TO_CNT n.val, rPIN_CONFLICT, rPIN_GRPnn_OWNER 8, rPIN_GRPnn_OWNER 9, rPIN_GRPnn_OWNER 10, rPIN_GRPnn_OWNER 11] ∧
        d = { s.dev with regs := d.regs, sap := d.sap, free := d.free, irqA := d.irqA, irqB := d.irqB }) ∧
  (∀ (s : State) (n : Fin 24) (ws : BitVec 65) (l : List (BitVec 65)) (r : Nat) (b : Bool) (t : Word64) (u : List Word64),
    s.dev.calm = true → s.dev.sapOn n.val = true → s.dev.on (fSAPnn_CTL_MASTER n.val) = true →
    s.dev.sapBypass n.val = true → (s.dev.sapOf n.val).ending = false → s.dev.anv.waiting = 0 →
    (s.dev.sapOf n.val).frames = t :: u →
      Completes (.sapFrame n ws l r b) s fun d =>
        (d.sapOf n.val).frames = u ∧
        (d.sapOf n.val).f = (s.dev.sapOf n.val).f + 1 ∧
        (∀ k ∈ ((s.dev.sapOf n.val).positions false).zipIdx, ((d.sapOf n.val).chan k.2).raw = ((s.dev.sapOf n.val).chan k.2).raw ++ [(t, sgn (s.dev.sapLen n.val) ((s.dev.sapFrameWords n.val (l.map BitVec.toNat)).getD k.1 0) * 2 ^ s.dev.sapShift n.val)])) ∧
  (∀ (s : State) (n : Fin 24), s.dev.calm = true → s.dev.sapOn n.val = true → s.dev.on (fSAPnn_CTL_MASTER n.val) = false →
    s.dev.on (fSAPnn_STS_CLK_LOSS n.val) = false → (s.dev.sapOf n.val).seen = true →
      Completes (.sapClkLoss n) s fun d =>
        d.on (fSAPnn_STS_CLK_LOSS n.val) = true ∧
        (d.reg (rSAPnn_CLK_LOSS_CNT n.val)).toNat = min ((s.dev.reg (rSAPnn_CLK_LOSS_CNT n.val)).toNat + 1) (2 ^ 32 - 1) ∧
        s.dev.sameRegs d [rSAPnn_STS n.val, rSAPnn_CLK_LOSS_CNT n.val] ∧
        d = { s.dev with regs := d.regs, sap := d.sap, irqA := d.irqA, irqB := d.irqB }) ∧
  (∀ (s : State) (n : Fin 24) (r : Nat), s.dev.calm = true → s.dev.sapOn n.val = true → (s.dev.sapOf n.val).seen = true →
    s.dev.sapBypass n.val = false → s.dev.on (fSAPnn_STS_ASRC_LOCK n.val) = false →
      Completes (.asrcLock n r) s fun d =>
        d.on (fSAPnn_STS_ASRC_LOCK n.val) = s.dev.sapRatioOk n.val r ∧
        d.on (fSAPnn_STS_RATIO_ERR n.val) = !s.dev.sapRatioOk n.val r ∧
        d.reg (rSAPnn_ASRC_RATIO n.val) = BitVec.ofNat 32 r ∧
        s.dev.sameRegs d [rSAPnn_STS n.val, rSAPnn_ASRC_RATIO n.val] ∧
        d = { s.dev with regs := d.regs, sap := d.sap, irqA := d.irqA, irqB := d.irqB })

/-- A channel command on a channel with nothing waiting takes effect at once where it does not change whether the channel
is audible or the port is off, and else waits for a zero crossing with its CH_PEND bit set; channels not named keep
RUN and MUTED. The waiting command takes effect at a sample of 0; at a sample that does not cross once the timeout is
reached it is counted and ramps. A slot mask written changes the bits its write mask names and waits, MASK_PEND = 1,
and one that names no bit changes nothing; applied at a frame it sets the positions and counts. (R253, R263, R264,
R265, R266, R267, R268, R271) -/
def Obligations.SerialChannelsWaitForTheirZero : Prop :=
  (∀ (s : State) (n : Fin 24) (p : Port) (v : Word), s.dev.calm = true → s.dev.takes p (rSAPnn_CH_CMD n.val) →
    (∀ i ∈ List.range 8, ((s.dev.sapOf n.val).chan (if (fSAPnn_CH_CMD_DIRSEL n.val).get v = 1 then 8 + i else i)).ramp = none ∧ ((s.dev.sapOf n.val).chan (if (fSAPnn_CH_CMD_DIRSEL n.val).get v = 1 then 8 + i else i)).wait = []) →
      Completes (.sapChStart n p v) s fun d =>
        (∀ i ∈ List.range 8, (fSAPnn_CH_CMD_CHMASK n.val).get v / 2 ^ i % 2 = 1 → (if (s.dev.sapOn n.val = true ∧ s.dev.on (fSapRun n.val (if (fSAPnn_CH_CMD_DIRSEL n.val).get v = 1 then 8 + i else i)) = false ∧ s.dev.on (fSapMuted n.val (if (fSAPnn_CH_CMD_DIRSEL n.val).get v = 1 then 8 + i else i)) = false) then d.on (fSapPend n.val (if (fSAPnn_CH_CMD_DIRSEL n.val).get v = 1 then 8 + i else i)) = true ∧ ((d.sapOf n.val).chan (if (fSAPnn_CH_CMD_DIRSEL n.val).get v = 1 then 8 + i else i)).wait = [1] ∧ d.on (fSapRun n.val (if (fSAPnn_CH_CMD_DIRSEL n.val).get v = 1 then 8 + i else i)) = false else d.on (fSapRun n.val (if (fSAPnn_CH_CMD_DIRSEL n.val).get v = 1 then 8 + i else i)) = true)) ∧
        (∀ i ∈ List.range 8, (fSAPnn_CH_CMD_CHMASK n.val).get v / 2 ^ i % 2 = 0 → d.on (fSapRun n.val (if (fSAPnn_CH_CMD_DIRSEL n.val).get v = 1 then 8 + i else i)) = s.dev.on (fSapRun n.val (if (fSAPnn_CH_CMD_DIRSEL n.val).get v = 1 then 8 + i else i)) ∧ d.on (fSapMuted n.val (if (fSAPnn_CH_CMD_DIRSEL n.val).get v = 1 then 8 + i else i)) = s.dev.on (fSapMuted n.val (if (fSAPnn_CH_CMD_DIRSEL n.val).get v = 1 then 8 + i else i))) ∧
        d.get (fSAPnn_CH_CMD_OP n.val) = 0 ∧
        (d.port p).code = 0 ∧
        s.dev.sameRegs d [rSAPnn_CH_CMD n.val, rSAPnn_CH_STS n.val, rSAPnn_CH_PEND n.val] ∧
        d = { s.dev with regs := d.regs, ports := d.ports, sap := d.sap, irqA := d.irqA, irqB := d.irqB }) ∧
  (∀ (s : State) (n : Fin 24) (p : Port) (v : Word), s.dev.calm = true → s.dev.takes p (rSAPnn_CH_CMD n.val) →
    (∀ i ∈ List.range 8, ((s.dev.sapOf n.val).chan (if (fSAPnn_CH_CMD_DIRSEL n.val).get v = 1 then 8 + i else i)).ramp = none ∧ ((s.dev.sapOf n.val).chan (if (fSAPnn_CH_CMD_DIRSEL n.val).get v = 1 then 8 + i else i)).wait = []) →
      Completes (.sapChStop n p v) s fun d =>
        (∀ i ∈ List.range 8, (fSAPnn_CH_CMD_CHMASK n.val).get v / 2 ^ i % 2 = 1 → (if (s.dev.sapOn n.val = true ∧ s.dev.on (fSapRun n.val (if (fSAPnn_CH_CMD_DIRSEL n.val).get v = 1 then 8 + i else i)) = true ∧ s.dev.on (fSapMuted n.val (if (fSAPnn_CH_CMD_DIRSEL n.val).get v = 1 then 8 + i else i)) = false) then d.on (fSapPend n.val (if (fSAPnn_CH_CMD_DIRSEL n.val).get v = 1 then 8 + i else i)) = true ∧ ((d.sapOf n.val).chan (if (fSAPnn_CH_CMD_DIRSEL n.val).get v = 1 then 8 + i else i)).wait = [2] ∧ d.on (fSapRun n.val (if (fSAPnn_CH_CMD_DIRSEL n.val).get v = 1 then 8 + i else i)) = true else d.on (fSapRun n.val (if (fSAPnn_CH_CMD_DIRSEL n.val).get v = 1 then 8 + i else i)) = false)) ∧
        (∀ i ∈ List.range 8, (fSAPnn_CH_CMD_CHMASK n.val).get v / 2 ^ i % 2 = 0 → d.on (fSapRun n.val (if (fSAPnn_CH_CMD_DIRSEL n.val).get v = 1 then 8 + i else i)) = s.dev.on (fSapRun n.val (if (fSAPnn_CH_CMD_DIRSEL n.val).get v = 1 then 8 + i else i)) ∧ d.on (fSapMuted n.val (if (fSAPnn_CH_CMD_DIRSEL n.val).get v = 1 then 8 + i else i)) = s.dev.on (fSapMuted n.val (if (fSAPnn_CH_CMD_DIRSEL n.val).get v = 1 then 8 + i else i))) ∧
        d.get (fSAPnn_CH_CMD_OP n.val) = 0 ∧
        (d.port p).code = 0 ∧
        s.dev.sameRegs d [rSAPnn_CH_CMD n.val, rSAPnn_CH_STS n.val, rSAPnn_CH_PEND n.val] ∧
        d = { s.dev with regs := d.regs, ports := d.ports, sap := d.sap, irqA := d.irqA, irqB := d.irqB }) ∧
  (∀ (s : State) (n : Fin 24) (p : Port) (v : Word), s.dev.calm = true → s.dev.takes p (rSAPnn_CH_CMD n.val) →
    (∀ i ∈ List.range 8, ((s.dev.sapOf n.val).chan (if (fSAPnn_CH_CMD_DIRSEL n.val).get v = 1 then 8 + i else i)).ramp = none ∧ ((s.dev.sapOf n.val).chan (if (fSAPnn_CH_CMD_DIRSEL n.val).get v = 1 then 8 + i else i)).wait = []) →
      Completes (.sapChMute n p v) s fun d =>
        (∀ i ∈ List.range 8, (fSAPnn_CH_CMD_CHMASK n.val).get v / 2 ^ i % 2 = 1 → (if (s.dev.sapOn n.val = true ∧ s.dev.on (fSapRun n.val (if (fSAPnn_CH_CMD_DIRSEL n.val).get v = 1 then 8 + i else i)) = true ∧ s.dev.on (fSapMuted n.val (if (fSAPnn_CH_CMD_DIRSEL n.val).get v = 1 then 8 + i else i)) = false) then d.on (fSapPend n.val (if (fSAPnn_CH_CMD_DIRSEL n.val).get v = 1 then 8 + i else i)) = true ∧ ((d.sapOf n.val).chan (if (fSAPnn_CH_CMD_DIRSEL n.val).get v = 1 then 8 + i else i)).wait = [3] ∧ d.on (fSapMuted n.val (if (fSAPnn_CH_CMD_DIRSEL n.val).get v = 1 then 8 + i else i)) = false else d.on (fSapMuted n.val (if (fSAPnn_CH_CMD_DIRSEL n.val).get v = 1 then 8 + i else i)) = true)) ∧
        (∀ i ∈ List.range 8, (fSAPnn_CH_CMD_CHMASK n.val).get v / 2 ^ i % 2 = 0 → d.on (fSapRun n.val (if (fSAPnn_CH_CMD_DIRSEL n.val).get v = 1 then 8 + i else i)) = s.dev.on (fSapRun n.val (if (fSAPnn_CH_CMD_DIRSEL n.val).get v = 1 then 8 + i else i)) ∧ d.on (fSapMuted n.val (if (fSAPnn_CH_CMD_DIRSEL n.val).get v = 1 then 8 + i else i)) = s.dev.on (fSapMuted n.val (if (fSAPnn_CH_CMD_DIRSEL n.val).get v = 1 then 8 + i else i))) ∧
        d.get (fSAPnn_CH_CMD_OP n.val) = 0 ∧
        (d.port p).code = 0 ∧
        s.dev.sameRegs d [rSAPnn_CH_CMD n.val, rSAPnn_CH_STS n.val, rSAPnn_CH_PEND n.val] ∧
        d = { s.dev with regs := d.regs, ports := d.ports, sap := d.sap, irqA := d.irqA, irqB := d.irqB }) ∧
  (∀ (s : State) (n : Fin 24) (p : Port) (v : Word), s.dev.calm = true → s.dev.takes p (rSAPnn_CH_CMD n.val) →
    (∀ i ∈ List.range 8, ((s.dev.sapOf n.val).chan (if (fSAPnn_CH_CMD_DIRSEL n.val).get v = 1 then 8 + i else i)).ramp = none ∧ ((s.dev.sapOf n.val).chan (if (fSAPnn_CH_CMD_DIRSEL n.val).get v = 1 then 8 + i else i)).wait = []) →
      Completes (.sapChUnmute n p v) s fun d =>
        (∀ i ∈ List.range 8, (fSAPnn_CH_CMD_CHMASK n.val).get v / 2 ^ i % 2 = 1 → (if (s.dev.sapOn n.val = true ∧ s.dev.on (fSapRun n.val (if (fSAPnn_CH_CMD_DIRSEL n.val).get v = 1 then 8 + i else i)) = true ∧ s.dev.on (fSapMuted n.val (if (fSAPnn_CH_CMD_DIRSEL n.val).get v = 1 then 8 + i else i)) = true) then d.on (fSapPend n.val (if (fSAPnn_CH_CMD_DIRSEL n.val).get v = 1 then 8 + i else i)) = true ∧ ((d.sapOf n.val).chan (if (fSAPnn_CH_CMD_DIRSEL n.val).get v = 1 then 8 + i else i)).wait = [4] ∧ d.on (fSapMuted n.val (if (fSAPnn_CH_CMD_DIRSEL n.val).get v = 1 then 8 + i else i)) = true else d.on (fSapMuted n.val (if (fSAPnn_CH_CMD_DIRSEL n.val).get v = 1 then 8 + i else i)) = false)) ∧
        (∀ i ∈ List.range 8, (fSAPnn_CH_CMD_CHMASK n.val).get v / 2 ^ i % 2 = 0 → d.on (fSapRun n.val (if (fSAPnn_CH_CMD_DIRSEL n.val).get v = 1 then 8 + i else i)) = s.dev.on (fSapRun n.val (if (fSAPnn_CH_CMD_DIRSEL n.val).get v = 1 then 8 + i else i)) ∧ d.on (fSapMuted n.val (if (fSAPnn_CH_CMD_DIRSEL n.val).get v = 1 then 8 + i else i)) = s.dev.on (fSapMuted n.val (if (fSAPnn_CH_CMD_DIRSEL n.val).get v = 1 then 8 + i else i))) ∧
        d.get (fSAPnn_CH_CMD_OP n.val) = 0 ∧
        (d.port p).code = 0 ∧
        s.dev.sameRegs d [rSAPnn_CH_CMD n.val, rSAPnn_CH_STS n.val, rSAPnn_CH_PEND n.val] ∧
        d = { s.dev with regs := d.regs, ports := d.ports, sap := d.sap, irqA := d.irqA, irqB := d.irqB }) ∧
  (∀ (s : State) (n : Fin 24) (c : Fin 16) (t : Word64), s.dev.calm = true → s.dev.sapOn n.val = true →
    ((s.dev.sapOf n.val).chan c.val).ramp = none → ((s.dev.sapOf n.val).chan c.val).wait = [2] →
    ((s.dev.sapOf n.val).chan c.val).raw = [(t, 0)] →
      Completes (.zeroCrossing n c) s fun d =>
        d.on (fSapRun n.val c.val) = false ∧
        d.on (fSapPend n.val c.val) = false ∧
        ((d.sapOf n.val).chan c.val).wait = [] ∧
        ((d.sapOf n.val).chan c.val).done = ((s.dev.sapOf n.val).chan c.val).done ++ [(t, none)] ∧
        s.dev.sameRegs d [rSAPnn_CH_STS n.val, rSAPnn_CH_PEND n.val] ∧
        d = { s.dev with regs := d.regs, sap := d.sap, irqA := d.irqA, irqB := d.irqB }) ∧
  (∀ (s : State) (n : Fin 24) (c : Fin 16) (t : Word64) (x : Int) (o : Nat), s.dev.calm = true → s.dev.sapOn n.val = true →
    ((s.dev.sapOf n.val).chan c.val).ramp = none → ((s.dev.sapOf n.val).chan c.val).wait = [o] → 1 ≤ o → o ≤ 4 →
    ((s.dev.sapOf n.val).chan c.val).raw = [(t, x)] → x ≠ 0 →
    decide (x < 0) = decide (((s.dev.sapOf n.val).chan c.val).last < 0) →
    s.dev.zcSamples n.val ≤ ((s.dev.sapOf n.val).chan c.val).evald → s.dev.sapAudible n.val c.val = true →
      Completes (.zcTimeout n c) s fun d =>
        (d.reg (rSAPnn_ZC_TO_CNT n.val)).toNat = min ((s.dev.reg (rSAPnn_ZC_TO_CNT n.val)).toNat + 1) (2 ^ 32 - 1) ∧
        d.on (fSapPend n.val c.val) = false ∧
        ((d.sapOf n.val).chan c.val).wait = [] ∧
        ((d.sapOf n.val).chan c.val).ramp = some ([o], { muteSide := true, pos := 1, rising := true, moving := true }) ∧
        ((d.sapOf n.val).chan c.val).done = ((s.dev.sapOf n.val).chan c.val).done ++ [(t, some (mulGain x (s.dev.zcFade n.val 1)))] ∧
        s.dev.sameRegs d [rSAPnn_ZC_TO_CNT n.val, rSAPnn_CH_PEND n.val] ∧
        d = { s.dev with regs := d.regs, sap := d.sap, irqA := d.irqA, irqB := d.irqB }) ∧
  (∀ (s : State) (n : Fin 24) (p : Port) (v : Word) (w : BitVec 12), s.dev.calm = true →
    s.dev.takes p (rSAPnn_SLOT_MASK n.val) → n.val < 22 → w = (v >>> 16).setWidth 12 → w ≠ 0 →
      Completes (.slotMaskWrite n p v) s fun d =>
        d.reg (rSAPnn_SLOT_MASK n.val) = ((s.dev.reg (rSAPnn_SLOT_MASK n.val) &&& ~~~(w.setWidth 32)) ||| (v &&& w.setWidth 32)) &&& 0xFFF ∧
        d.on (fSAPnn_STS_MASK_PEND n.val) = true ∧
        (d.port p).code = 0 ∧
        s.dev.sameRegs d [rSAPnn_SLOT_MASK n.val, rSAPnn_STS n.val] ∧
        d = { s.dev with regs := d.regs, ports := d.ports, irqA := d.irqA, irqB := d.irqB }) ∧
  (∀ (s : State) (n : Fin 24) (p : Port) (v : Word), s.dev.calm = true → s.dev.takes p (rSAPnn_SLOT_MASK n.val) →
    v.toNat / 65536 % 4096 = 0 →
      Completes (.slotMaskWrite n p v) s fun d =>
        (d.port p).code = 0 ∧
        s.dev.sameRegs d [] ∧
        d = { s.dev with regs := d.regs, ports := d.ports, irqA := d.irqA, irqB := d.irqB }) ∧
  (∀ (s : State) (n : Fin 24) (p : Port) (v : Word), s.dev.calm = true → s.dev.takes p (rSAPnn_SLOT_MASK n.val) →
    v.toNat / 65536 % 4096 ≠ 0 →
      Completes (.slotMaskWrite n p v) s fun d =>
        d.on (fSAPnn_STS_MASK_PEND n.val) = true ∧
        d.sap = s.dev.sap ∧
        (d.port p).code = 0 ∧
        s.dev.sameRegs d [rSAPnn_SLOT_MASK n.val, rSAPnn_STS n.val, rPIN_CONFLICT, rPIN_GRPnn_OWNER 8, rPIN_GRPnn_OWNER 9, rPIN_GRPnn_OWNER 10, rPIN_GRPnn_OWNER 11] ∧
        d = { s.dev with regs := d.regs, ports := d.ports, irqA := d.irqA, irqB := d.irqB }) ∧
  (∀ (s : State) (n : Fin 24), s.dev.calm = true → s.dev.sapOn n.val = true → s.dev.on (fSAPnn_STS_MASK_PEND n.val) = true →
    s.dev.on (fSAPnn_STS_RESYNC n.val) = false →
      Completes (.slotMaskApply n) s fun d =>
        (d.sapOf n.val).mask.toNat = s.dev.get (fSAPnn_SLOT_MASK_MASK n.val) ∧
        (d.sapOf n.val).dir.toNat = s.dev.get (fSAPnn_SLOT_MASK_DIR n.val) ∧
        d.on (fSAPnn_STS_MASK_PEND n.val) = false ∧
        d.get (fSAPnn_STS_IN_COUNT n.val) = ((d.sapOf n.val).positions false).length ∧
        d.get (fSAPnn_STS_OUT_COUNT n.val) = ((d.sapOf n.val).positions true).length ∧
        s.dev.sameRegs d [rSAPnn_STS n.val, rPIN_CONFLICT, rPIN_GRPnn_OWNER 8, rPIN_GRPnn_OWNER 9, rPIN_GRPnn_OWNER 10, rPIN_GRPnn_OWNER 11] ∧
        d = { s.dev with regs := d.regs, sap := d.sap, irqA := d.irqA, irqB := d.irqB })

/-- A port whose configuration passes R277 starts with its PCS unlocked and faulted; one that fails keeps EN = 0 and
reports its code. Disabling, and a link that falls, empty the queues and clear LINK_UP and the running rate, the fall
counted and reported. A link without faults comes up at a rate of its mode. A fault sets its status bit, and each bit
clears with its own; when the last ends the port is not faulted. LOCK, once written, holds. (R274, R275, R276, R277,
R278, R280, R281, R299) -/
def Obligations.PortsEnableFaultAndLink : Prop :=
  (∀ (s : State) (n : Fin 4) (p : Port) (v : Word), s.dev.calm = true → s.dev.takes p (rNETn_MAC_CFG n.val) →
    s.dev.on (fNETn_MAC_CFG_EN n.val) = false → s.dev.linkUp n.val = false →
    (s.dev.stored (rNETn_MAC_CFG n.val) ((fNETn_MAC_CFG_EN n.val).put v 1)).netCheck n.val = 0 →
      Completes (.netEnable n p v) s fun d =>
        d.on (fNETn_MAC_CFG_EN n.val) = true ∧
        d.on (fNETn_STS_CFG_ERR n.val) = false ∧
        d.get (fNETn_STS_ERR_CODE n.val) = 0 ∧
        d.on (fNETn_STS_PCS_LOCK n.val) = false ∧
        d.on (fNETn_STS_LOCAL_FAULT n.val) = true ∧
        (d.netOf n.val).faulted = true ∧
        (d.netOf n.val).q = [] ∧
        (d.port p).code = 0 ∧
        s.dev.sameRegs d [rNETn_MAC_CFG n.val, rNETn_STS n.val, rNETn_MM_STS n.val] ∧
        d = { s.dev with regs := d.regs, ports := d.ports, net := d.net, irqA := d.irqA, irqB := d.irqB }) ∧
  (∀ (s : State) (n : Fin 4) (p : Port) (v : Word), s.dev.calm = true → s.dev.takes p (rNETn_MAC_CFG n.val) →
    s.dev.on (fNETn_MAC_CFG_EN n.val) = false →
    (s.dev.stored (rNETn_MAC_CFG n.val) ((fNETn_MAC_CFG_EN n.val).put v 1)).netCheck n.val ≠ 0 →
      Completes (.netEnable n p v) s fun d =>
        d.on (fNETn_MAC_CFG_EN n.val) = false ∧
        d.on (fNETn_STS_CFG_ERR n.val) = true ∧
        d.get (fNETn_STS_ERR_CODE n.val) = (s.dev.stored (rNETn_MAC_CFG n.val) ((fNETn_MAC_CFG_EN n.val).put v 1)).netCheck n.val ∧
        (d.reg rNET_REFUSE_CNT).toNat = min ((s.dev.reg rNET_REFUSE_CNT).toNat + 1) (2 ^ 32 - 1) ∧
        (d.port p).code = 0 ∧
        s.dev.sameRegs d [rNETn_MAC_CFG n.val, rNETn_STS n.val, rNET_REFUSE_CNT] ∧
        d = { s.dev with regs := d.regs, ports := d.ports, irqA := d.irqA, irqB := d.irqB }) ∧
  (∀ (s : State) (n : Fin 4) (p : Port) (v : Word), s.dev.calm = true → s.dev.takes p (rNETn_MAC_CFG n.val) →
    s.dev.on (fNETn_MAC_CFG_EN n.val) = true →
      Completes (.netDisable n p v) s fun d =>
        d.on (fNETn_MAC_CFG_EN n.val) = false ∧
        d.linkUp n.val = false ∧
        d.get (fNETn_STS_RUN_RATE n.val) = 0 ∧
        (d.netOf n.val).q = [] ∧
        (d.netOf n.val).rem = none ∧
        (d.netOf n.val).pause = none ∧
        (d.port p).code = 0 ∧
        d = { s.dev with regs := d.regs, ports := d.ports, net := d.net, ign := d.ign, tbl := d.tbl, poison := d.poison, integ := d.integ, hq := d.hq, rql := d.rql, cue := d.cue, free := d.free, nextFrame := d.nextFrame, irqA := d.irqA, irqB := d.irqB }) ∧
  (∀ (s : State) (n : Fin 4) (p : Port) (v : Word), s.dev.calm = true → s.dev.takes p (rNETn_SERDES_CFG n.val) →
      Completes (.serdesLock n p v) s fun d =>
        d.on (fNETn_SERDES_CFG_LOCK n.val) = true ∧
        d.reg (rNETn_SERDES_CFG n.val) = (s.dev.stored (rNETn_SERDES_CFG n.val) ((fNETn_SERDES_CFG_LOCK n.val).put v 1)).reg (rNETn_SERDES_CFG n.val) ∧
        (d.port p).code = 0 ∧
        s.dev.sameRegs d [rNETn_SERDES_CFG n.val, rGLB_IGN_CNT, rGLB_IGN_OVF_CNT] ∧
        d = { s.dev with regs := d.regs, ports := d.ports, ign := d.ign, irqA := d.irqA, irqB := d.irqB }) ∧
  (∀ (s : State) (n : Fin 4), s.dev.calm = true → s.dev.linkUp n.val = true → (s.dev.netOf n.val).faulted = true →
    s.dev.domOn (9 + n.val) = true →
      Completes (.linkDown n false) s fun d =>
        d.linkUp n.val = false ∧
        d.get (fNETn_STS_RUN_RATE n.val) = 0 ∧
        (d.netOf n.val).q = [] ∧
        (d.netOf n.val).wire = none ∧
        (d.reg (rNETn_LINK_DOWN_CNT n.val)).toNat = min ((s.dev.reg (rNETn_LINK_DOWN_CNT n.val)).toNat + 1) (2 ^ 32 - 1) ∧
        d = { s.dev with regs := d.regs, net := d.net, tbl := d.tbl, poison := d.poison, integ := d.integ, hq := d.hq, rql := d.rql, cue := d.cue, free := d.free, nextFrame := d.nextFrame, irqA := d.irqA, irqB := d.irqB }) ∧
  (∀ (s : State) (n : Fin 4) (r : Nat) (x : Nat), s.dev.calm = true → s.dev.netOn n.val = true → s.dev.linkUp n.val = false →
    (s.dev.netOf n.val).faulted = false → x = s.dev.upRate n.val r →
    x ∈ modeRates (s.dev.get (fNETn_SERDES_CFG_MODE n.val)) → s.dev.domOn (9 + n.val) = true →
      Completes (.linkUp n r) s fun d =>
        d.linkUp n.val = true ∧
        d.get (fNETn_STS_RUN_RATE n.val) = x ∧
        d = { s.dev with regs := d.regs, net := d.net, mio := d.mio, hq := d.hq, rql := d.rql, cue := d.cue, free := d.free, nextFrame := d.nextFrame, poison := d.poison, integ := d.integ, irqA := d.irqA, irqB := d.irqB }) ∧
  (∀ (s : State) (n : Fin 4), s.dev.calm = true → s.dev.netOn n.val = true → s.dev.domOn (9 + n.val) = true →
      Completes (.portFaulted n .pcs) s fun d =>
        d.on (fNETn_STS_PCS_LOCK n.val) = false ∧
        d.on (fNETn_STS_LOCAL_FAULT n.val) = true ∧
        (d.netOf n.val) = { (s.dev.netOf n.val) with pcs := true } ∧
        s.dev.sameRegs d [rNETn_STS n.val] ∧
        d = { s.dev with regs := d.regs, net := d.net, irqA := d.irqA, irqB := d.irqB }) ∧
  (∀ (s : State) (n : Fin 4), s.dev.calm = true → s.dev.netOn n.val = true → s.dev.domOn (9 + n.val) = true →
      Completes (.portFaulted n .halfDuplex) s fun d =>
        d.on (fNETn_STS_HDX n.val) = true ∧
        (d.netOf n.val) = { (s.dev.netOf n.val) with hdx := true } ∧
        s.dev.sameRegs d [rNETn_STS n.val] ∧
        d = { s.dev with regs := d.regs, net := d.net, irqA := d.irqA, irqB := d.irqB }) ∧
  (∀ (s : State) (n : Fin 4), s.dev.calm = true → s.dev.netOn n.val = true → (s.dev.netOf n.val).localF = false →
    (s.dev.netOf n.val).remoteF = false → (s.dev.netOf n.val).linkBit = false → (s.dev.netOf n.val).an = false →
    s.dev.domOn (9 + n.val) = true →
      Completes (.portFaultCleared { port := n, ended := [.pcs, .halfDuplex, .badRate] }) s fun d =>
        (d.netOf n.val).faulted = false ∧
        d.on (fNETn_STS_PCS_LOCK n.val) = true ∧
        d.on (fNETn_STS_LOCAL_FAULT n.val) = false ∧
        d.on (fNETn_STS_HDX n.val) = false ∧
        d.on (fNETn_STS_RATE_ERR n.val) = false ∧
        s.dev.sameRegs d [rNETn_STS n.val] ∧
        d = { s.dev with regs := d.regs, net := d.net, irqA := d.irqA, irqB := d.irqB }) ∧
  (∀ (s : State) (n : Fin 4), s.dev.calm = true → s.dev.netOn n.val = true → (s.dev.netOf n.val).pcs = true →
    s.dev.domOn (9 + n.val) = true →
      Completes (.portFaultCleared { port := n, ended := [.halfDuplex] }) s fun d =>
        (d.netOf n.val).faulted = true ∧
        (d.netOf n.val) = { (s.dev.netOf n.val) with hdx := false } ∧
        d.on (fNETn_STS_PCS_LOCK n.val) = false ∧
        d.on (fNETn_STS_LOCAL_FAULT n.val) = true ∧
        d.on (fNETn_STS_HDX n.val) = false ∧
        s.dev.sameRegs d [rNETn_STS n.val] ∧
        d = { s.dev with regs := d.regs, net := d.net, irqA := d.irqA, irqB := d.irqB }) ∧
  (∀ (s : State) (n : Fin 4), s.dev.calm = true → s.dev.netOn n.val = true →
    (s.dev.get (fNETn_SERDES_CFG_MODE n.val) = 1 ∨ s.dev.get (fNETn_SERDES_CFG_MODE n.val) = 2) →
    s.dev.domOn (9 + n.val) = true →
      Completes (.portFaultCleared { port := n, ended := [.remoteFault] }) s fun d =>
        (d.netOf n.val) = { (s.dev.netOf n.val) with remoteF := false } ∧
        d.on (fNETn_STS_LOCAL_FAULT n.val) = ((s.dev.netOf n.val).pcs || (s.dev.netOf n.val).localF) ∧
        d.on (fNETn_STS_REMOTE_FAULT n.val) = false ∧
        s.dev.sameRegs d [rNETn_STS n.val] ∧
        d = { s.dev with regs := d.regs, net := d.net, irqA := d.irqA, irqB := d.irqB })

/-- On an enabled port with its link up and preemption off, a whole frame of 64 bytes or more within the length limit
whose FCS is right counts once in RX_FRAMES and by its length in RX_OCTETS; one shorter than 64 bytes counts as a runt
and one whose FCS is wrong as an FCS error, and they change nothing else. A port that may send starts its waiting
PAUSE first, else the head of the highest eligible class. A frame that has left counts once in TX_FRAMES and by its
length in TX_OCTETS. (R283, R284, R290, R291, R293, R302, R319) -/
def Obligations.FramesAreCheckedSentAndCounted : Prop :=
  (∀ (s : State) (n : Fin 4) (f : RxFrame) (b : List (BitVec 8)), s.dev.calm = true → s.dev.netOn n.val = true →
    s.dev.linkUp n.val = true → s.dev.on (fNETn_MM_CFG_PE_EN n.val) = false → f.smd = .express → f.pcsErr = false →
    f.bytes = b ++ fcsOf b → 60 ≤ b.length → b.length + 4 ≤ s.dev.maxLen n.val + tagAllowance f.bytes →
    cellsFor (b.length + 4) ≤ s.dev.cellsFree → s.dev.domOn (9 + n.val) = true →
      Completes (.frameReceive n f 0) s fun d =>
        d.pair (rNETn_RX_FRAMES_H n.val) (rNETn_RX_FRAMES_L n.val) = (s.dev.pair (rNETn_RX_FRAMES_H n.val) (rNETn_RX_FRAMES_L n.val) + 1) % 2 ^ 64 ∧
        d.pair (rNETn_RX_OCTETS_H n.val) (rNETn_RX_OCTETS_L n.val) = (s.dev.pair (rNETn_RX_OCTETS_H n.val) (rNETn_RX_OCTETS_L n.val) + (b.length + 4)) % 2 ^ 64) ∧
  (∀ (s : State) (n : Fin 4) (f : RxFrame) (k : Nat), s.dev.calm = true → s.dev.netOn n.val = true →
    s.dev.linkUp n.val = true → s.dev.on (fNETn_MM_CFG_PE_EN n.val) = false → f.smd = .express → f.pcsErr = false →
    f.bytes.length < 64 → k < 2 ^ 32 → s.dev.domOn (9 + n.val) = true →
      Completes (.frameReceive n f k) s fun d =>
        (d.reg (rNETn_RX_RUNT_CNT n.val)).toNat = min ((s.dev.reg (rNETn_RX_RUNT_CNT n.val)).toNat + 1) (2 ^ 32 - 1) ∧
        (d.reg (rNETn_RX_LPI_CNT n.val)).toNat = min ((s.dev.reg (rNETn_RX_LPI_CNT n.val)).toNat + k) (2 ^ 32 - 1) ∧
        s.dev.sameRegs d [rNETn_RX_RUNT_CNT n.val, rNETn_RX_LPI_CNT n.val] ∧
        d = { s.dev with regs := d.regs, irqA := d.irqA, irqB := d.irqB }) ∧
  (∀ (s : State) (n : Fin 4) (f : RxFrame), s.dev.calm = true → s.dev.netOn n.val = true → s.dev.linkUp n.val = true →
    s.dev.on (fNETn_MM_CFG_PE_EN n.val) = false → f.smd = .express → f.pcsErr = false → 64 ≤ f.bytes.length →
    f.bytes.length ≤ s.dev.maxLen n.val → f.bytes.drop (f.bytes.length - 4) ≠ fcsOf (f.bytes.take (f.bytes.length - 4)) →
    s.dev.domOn (9 + n.val) = true →
      Completes (.frameReceive n f 0) s fun d =>
        (d.reg (rNETn_RX_FCS_ERR_CNT n.val)).toNat = min ((s.dev.reg (rNETn_RX_FCS_ERR_CNT n.val)).toNat + 1) (2 ^ 32 - 1) ∧
        s.dev.sameRegs d [rNETn_RX_FCS_ERR_CNT n.val] ∧
        d = { s.dev with regs := d.regs, irqA := d.irqA, irqB := d.irqB }) ∧
  (∀ (s : State) (n : Fin 4) (t : Nat) (z : Int) (fr : BitVec 16), s.dev.calm = true → s.dev.domOn (9 + n.val) = true →
    s.dev.linkUp n.val = true → (s.dev.netOf n.val).faulted = false → (s.dev.netOf n.val).wire = none →
    (s.dev.netOf n.val).pauseTx = some t →
      Completes (.frameTxStart n z fr) s fun d =>
        ((d.netOf n.val).wire.any (fun w => w.cls == 7 && w.frame.kind == .pause && w.frame.bytes == s.dev.pauseFrame n.val t) = true) ∧
        (d.netOf n.val).pauseTx = none ∧
        s.dev.sameRegs d [rNETn_TX_OVERSIZE_DROP_CNT n.val, rNETn_GATE_OVERSIZE_CNT n.val] ∧
        d = { s.dev with regs := d.regs, net := d.net, irqA := d.irqA, irqB := d.irqB }) ∧
  (∀ (s : State) (n : Fin 4) (c : Nat) (z : Int) (fr : BitVec 16) (f : Frame) (q : List Frame), s.dev.calm = true →
    s.dev.domOn (9 + n.val) = true → s.dev.linkUp n.val = true → (s.dev.netOf n.val).faulted = false →
    (s.dev.netOf n.val).wire = none → (s.dev.netOf n.val).pauseTx = none → (s.dev.netOf n.val).rem = none →
    ((((s.dev.cbs n.val).netLatch n.val).checkHeads n.val).bestClass n.val (fun _ => true) = some c) →
    ((((s.dev.cbs n.val).netLatch n.val).checkHeads n.val).netOf n.val).queue c = f :: q →
    kget none (((s.dev.cbs n.val).netLatch n.val).checkHeads n.val).integ.cells f.id = none →
      Completes (.frameTxStart n z fr) s fun d =>
        ((d.netOf n.val).wire.any (fun w => w.cls == c && w.frame.id == f.id && w.frame.kind == f.kind) = true) ∧
        (d.netOf n.val).queue c = q ∧
        s.dev.sameRegs d [rNETn_TX_OVERSIZE_DROP_CNT n.val, rNETn_GATE_OVERSIZE_CNT n.val, rTIME_CF_SAT_CNT] ∧
        d = { s.dev with regs := d.regs, net := d.net, irqA := d.irqA, irqB := d.irqB }) ∧
  (∀ (s : State) (n : Fin 5) (w : OnWire), s.dev.calm = true → n.val < 4 → (s.dev.netOf n.val).wire = some w →
    w.frame.kind = .data → (s.dev.domOn (if n.val = 4 then 13 else 9 + n.val) = true) →
      Completes (.frameTxComplete n) s fun d =>
        (d.netOf n.val).wire = none ∧
        d.pair (rNETn_TX_FRAMES_H n.val) (rNETn_TX_FRAMES_L n.val) = (s.dev.pair (rNETn_TX_FRAMES_H n.val) (rNETn_TX_FRAMES_L n.val) + 1) % 2 ^ 64 ∧
        d.pair (rNETn_TX_OCTETS_H n.val) (rNETn_TX_OCTETS_L n.val) = (s.dev.pair (rNETn_TX_OCTETS_H n.val) (rNETn_TX_OCTETS_L n.val) + w.frame.len) % 2 ^ 64 ∧
        s.dev.sameRegs d [rNETn_MM_TX_FRAG_CNT n.val, rNETn_GATE_OVERRUN_CNT n.val, rNETn_TX_FRAMES_H n.val, rNETn_TX_FRAMES_L n.val, rNETn_TX_OCTETS_H n.val, rNETn_TX_OCTETS_L n.val, rNETn_TX_UCAST_L n.val, rNETn_TX_UCAST_H n.val, rNETn_TX_MCAST_L n.val, rNETn_TX_MCAST_H n.val, rNETn_TX_BCAST_L n.val, rNETn_TX_BCAST_H n.val] ∧
        d = { s.dev with regs := d.regs, net := d.net, irqA := d.irqA, irqB := d.irqB })

/-- With no transaction in progress a command of each OP 1 to 6 starts it with the fields written, BUSY = 1 and NO_RESP =
0. At its end BUSY is 0; a read gives the word returned, or NO_RESP with 0xFFFF. With no snapshot in progress SNAP
copies every live counter of the four ports at one FT64, and with CLR = 1 clears them; a second SNAP is held, a third
counted. (R294, R295, R297, R298) -/
def Obligations.MdioAndSnapshots : Prop :=
  (∀ (s : State) (p : Port) (v : Word), s.dev.calm = true → s.dev.takes p rNET_MDIO_CMD →
    s.dev.on fNET_MDIO_STS_BUSY = false →
      Completes (.mdioC22Write p v) s fun d =>
        d.mdio = some { op := 1, prtad := fNET_MDIO_CMD_PRTAD.get v, devad := fNET_MDIO_CMD_DEVAD.get v, addr := s.dev.get fNET_MDIO_ADDR_ADDR, data := fNET_MDIO_CMD_DATA.get v } ∧
        d.on fNET_MDIO_STS_BUSY = true ∧
        d.on fNET_MDIO_STS_NO_RESP = false ∧
        d.get fNET_MDIO_CMD_OP = s.dev.get fNET_MDIO_CMD_OP ∧
        (d.port p).code = 0 ∧
        s.dev.sameRegs d [rNET_MDIO_CMD, rNET_MDIO_STS] ∧
        d = { s.dev with regs := d.regs, ports := d.ports, mdio := d.mdio, irqA := d.irqA, irqB := d.irqB }) ∧
  (∀ (s : State) (p : Port) (v : Word), s.dev.calm = true → s.dev.takes p rNET_MDIO_CMD →
    s.dev.on fNET_MDIO_STS_BUSY = false →
      Completes (.mdioC22Read p v) s fun d =>
        d.mdio = some { op := 2, prtad := fNET_MDIO_CMD_PRTAD.get v, devad := fNET_MDIO_CMD_DEVAD.get v, addr := s.dev.get fNET_MDIO_ADDR_ADDR, data := fNET_MDIO_CMD_DATA.get v } ∧
        d.on fNET_MDIO_STS_BUSY = true ∧
        d.on fNET_MDIO_STS_NO_RESP = false ∧
        d.get fNET_MDIO_CMD_OP = s.dev.get fNET_MDIO_CMD_OP ∧
        (d.port p).code = 0 ∧
        s.dev.sameRegs d [rNET_MDIO_CMD, rNET_MDIO_STS] ∧
        d = { s.dev with regs := d.regs, ports := d.ports, mdio := d.mdio, irqA := d.irqA, irqB := d.irqB }) ∧
  (∀ (s : State) (p : Port) (v : Word), s.dev.calm = true → s.dev.takes p rNET_MDIO_CMD →
    s.dev.on fNET_MDIO_STS_BUSY = false →
      Completes (.mdioC45Write p v) s fun d =>
        d.mdio = some { op := 3, prtad := fNET_MDIO_CMD_PRTAD.get v, devad := fNET_MDIO_CMD_DEVAD.get v, addr := s.dev.get fNET_MDIO_ADDR_ADDR, data := fNET_MDIO_CMD_DATA.get v } ∧
        d.on fNET_MDIO_STS_BUSY = true ∧
        d.on fNET_MDIO_STS_NO_RESP = false ∧
        d.get fNET_MDIO_CMD_OP = s.dev.get fNET_MDIO_CMD_OP ∧
        (d.port p).code = 0 ∧
        s.dev.sameRegs d [rNET_MDIO_CMD, rNET_MDIO_STS] ∧
        d = { s.dev with regs := d.regs, ports := d.ports, mdio := d.mdio, irqA := d.irqA, irqB := d.irqB }) ∧
  (∀ (s : State) (p : Port) (v : Word), s.dev.calm = true → s.dev.takes p rNET_MDIO_CMD →
    s.dev.on fNET_MDIO_STS_BUSY = false →
      Completes (.mdioC45Read p v) s fun d =>
        d.mdio = some { op := 4, prtad := fNET_MDIO_CMD_PRTAD.get v, devad := fNET_MDIO_CMD_DEVAD.get v, addr := s.dev.get fNET_MDIO_ADDR_ADDR, data := fNET_MDIO_CMD_DATA.get v } ∧
        d.on fNET_MDIO_STS_BUSY = true ∧
        d.on fNET_MDIO_STS_NO_RESP = false ∧
        d.get fNET_MDIO_CMD_OP = s.dev.get fNET_MDIO_CMD_OP ∧
        (d.port p).code = 0 ∧
        s.dev.sameRegs d [rNET_MDIO_CMD, rNET_MDIO_STS] ∧
        d = { s.dev with regs := d.regs, ports := d.ports, mdio := d.mdio, irqA := d.irqA, irqB := d.irqB }) ∧
  (∀ (s : State) (p : Port) (v : Word), s.dev.calm = true → s.dev.takes p rNET_MDIO_CMD →
    s.dev.on fNET_MDIO_STS_BUSY = false →
      Completes (.mdioC45ReadInc p v) s fun d =>
        d.mdio = some { op := 5, prtad := fNET_MDIO_CMD_PRTAD.get v, devad := fNET_MDIO_CMD_DEVAD.get v, addr := s.dev.get fNET_MDIO_ADDR_ADDR, data := fNET_MDIO_CMD_DATA.get v } ∧
        d.on fNET_MDIO_STS_BUSY = true ∧
        d.on fNET_MDIO_STS_NO_RESP = false ∧
        d.get fNET_MDIO_CMD_OP = s.dev.get fNET_MDIO_CMD_OP ∧
        (d.port p).code = 0 ∧
        s.dev.sameRegs d [rNET_MDIO_CMD, rNET_MDIO_STS] ∧
        d = { s.dev with regs := d.regs, ports := d.ports, mdio := d.mdio, irqA := d.irqA, irqB := d.irqB }) ∧
  (∀ (s : State) (p : Port) (v : Word), s.dev.calm = true → s.dev.takes p rNET_MDIO_CMD →
    s.dev.on fNET_MDIO_STS_BUSY = false →
      Completes (.mdioC45Address p v) s fun d =>
        d.mdio = some { op := 6, prtad := fNET_MDIO_CMD_PRTAD.get v, devad := fNET_MDIO_CMD_DEVAD.get v, addr := s.dev.get fNET_MDIO_ADDR_ADDR, data := fNET_MDIO_CMD_DATA.get v } ∧
        d.on fNET_MDIO_STS_BUSY = true ∧
        d.on fNET_MDIO_STS_NO_RESP = false ∧
        d.get fNET_MDIO_CMD_OP = s.dev.get fNET_MDIO_CMD_OP ∧
        (d.port p).code = 0 ∧
        s.dev.sameRegs d [rNET_MDIO_CMD, rNET_MDIO_STS] ∧
        d = { s.dev with regs := d.regs, ports := d.ports, mdio := d.mdio, irqA := d.irqA, irqB := d.irqB }) ∧
  (∀ (s : State) (m : Mdio) (v : BitVec 16), s.dev.calm = true → s.dev.mdio = some m → (m.op = 2 ∨ m.op = 4 ∨ m.op = 5) →
    s.dev.domOn 1 = true →
      Completes (.mdioDone true v) s fun d =>
        d.mdio = none ∧
        d.on fNET_MDIO_STS_BUSY = false ∧
        d.get fNET_MDIO_STS_RDATA = v.toNat ∧
        s.dev.sameRegs d [rNET_MDIO_STS] ∧
        d = { s.dev with regs := d.regs, mdio := d.mdio, irqA := d.irqA, irqB := d.irqB }) ∧
  (∀ (s : State) (m : Mdio) (v : BitVec 16), s.dev.calm = true → s.dev.mdio = some m → (m.op = 2 ∨ m.op = 4 ∨ m.op = 5) →
    s.dev.domOn 1 = true →
      Completes (.mdioDone false v) s fun d =>
        d.mdio = none ∧
        d.on fNET_MDIO_STS_BUSY = false ∧
        d.on fNET_MDIO_STS_NO_RESP = true ∧
        d.get fNET_MDIO_STS_RDATA = 0xFFFF ∧
        s.dev.sameRegs d [rNET_MDIO_STS] ∧
        d = { s.dev with regs := d.regs, mdio := d.mdio, irqA := d.irqA, irqB := d.irqB }) ∧
  (∀ (s : State) (m : Mdio) (b : Bool) (v : BitVec 16), s.dev.calm = true → s.dev.mdio = some m →
    (m.op = 1 ∨ m.op = 3 ∨ m.op = 6) → s.dev.domOn 1 = true →
      Completes (.mdioDone b v) s fun d =>
        d.mdio = none ∧
        d.on fNET_MDIO_STS_BUSY = false ∧
        d.get fNET_MDIO_STS_RDATA = s.dev.get fNET_MDIO_STS_RDATA ∧
        s.dev.sameRegs d [rNET_MDIO_STS] ∧
        d = { s.dev with regs := d.regs, mdio := d.mdio, irqA := d.irqA, irqB := d.irqB }) ∧
  (∀ (s : State) (p : Port) (v : Word), s.dev.calm = true → s.dev.takes p rNET_SNAP_CMD → s.dev.snap = none →
    fNET_SNAP_CMD_CLR.get v = 0 →
      Completes (.netSnap p v) s fun d =>
        (d.snap = some { copies := liveCounters.map fun a => (a + 0x100, s.dev.reg a), ft := s.dev.ft64 }) ∧
        d.on fNET_SNAP_STS_BUSY = true ∧
        (d.port p).code = 0 ∧
        s.dev.sameRegs d [rNET_SNAP_CMD, rNET_SNAP_STS] ∧
        d = { s.dev with regs := d.regs, ports := d.ports, snap := d.snap, irqA := d.irqA, irqB := d.irqB }) ∧
  (∀ (s : State) (p : Port) (v : Word), s.dev.calm = true → s.dev.takes p rNET_SNAP_CMD → s.dev.snap = none →
    fNET_SNAP_CMD_CLR.get v = 1 →
      Completes (.netSnap p v) s fun d =>
        (d.snap = some { copies := liveCounters.map fun a => (a + 0x100, s.dev.reg a), ft := s.dev.ft64 }) ∧
        (∀ a ∈ liveCounters, d.reg a = 0) ∧
        (d.port p).code = 0 ∧
        s.dev.sameRegs d (rNET_SNAP_CMD :: rNET_SNAP_STS :: liveCounters) ∧
        d = { s.dev with regs := d.regs, ports := d.ports, snap := d.snap, irqA := d.irqA, irqB := d.irqB }) ∧
  (∀ (s : State) (p : Port) (v : Word) (w : Snap), s.dev.calm = true → s.dev.takes p rNET_SNAP_CMD → s.dev.snap = some w →
    s.dev.snapHeld = none →
      Completes (.netSnap p v) s fun d =>
        d.snap = some w ∧
        d.snapHeld = some (fNET_SNAP_CMD_CLR.get v == 1) ∧
        d.on fNET_SNAP_STS_QUEUED = true ∧
        (d.port p).code = 0 ∧
        s.dev.sameRegs d [rNET_SNAP_CMD, rNET_SNAP_STS] ∧
        d = { s.dev with regs := d.regs, ports := d.ports, snapHeld := d.snapHeld, irqA := d.irqA, irqB := d.irqB }) ∧
  (∀ (s : State) (p : Port) (v : Word) (w : Snap) (b : Bool), s.dev.calm = true → s.dev.takes p rNET_SNAP_CMD →
    s.dev.snap = some w → s.dev.snapHeld = some b →
      Completes (.netSnap p v) s fun d =>
        (d.reg rNET_SNAP_OVF_CNT).toNat = min ((s.dev.reg rNET_SNAP_OVF_CNT).toNat + 1) (2 ^ 32 - 1) ∧
        (d.port p).code = 0 ∧
        s.dev.sameRegs d [rNET_SNAP_CMD, rNET_SNAP_OVF_CNT] ∧
        d = { s.dev with regs := d.regs, ports := d.ports, irqA := d.irqA, irqB := d.irqB })

/-- A gate list that passes R305 and whose comparator is free is enabled and its comparator held for the port; one that
fails keeps EN = 0 with its code. Disabled, every gate opens and the comparator is released. Once the INTERVAL of an
entry is over the next comes into force. A verify packet is answered by a respond packet, and with PE_EN = 0 each of
the two counts as an SMD error; a respond packet in verification makes preemption active; the third attempt without
one fails. A PAUSE taken with RX_EN = 1 loads the timer, its expiry counts the quanta, and SEND queues one with the
TIME written. (R305, R306, R308, R314, R316, R317, R318, R319) -/
def Obligations.GatesPreemptionAndPause : Prop :=
  (∀ (s : State) (n : Fin 4) (p : Port) (v : Word) (t : Nat), s.dev.calm = true → s.dev.takes p (rNETn_GATE_CFG n.val) →
    s.dev.on (fNETn_GATE_CFG_EN n.val) = false → t = (fNETn_GATE_CFG_TCMP n.val).get v →
    (s.dev.stored (rNETn_GATE_CFG n.val) ((fNETn_GATE_CFG_EN n.val).put v 1)).gateCheck n.val = 0 →
    s.dev.get (fTIME_TCMPnn_OWNER_OWNER t) = 0 → s.dev.tcmpPrio t = 0 → s.dev.sound = true →
      Completes (.gateEnable n p v) s fun d =>
        d.on (fNETn_GATE_CFG_EN n.val) = true ∧
        d.on (fNETn_GATE_STS_CFG_ERR n.val) = false ∧
        d.get (fTIME_TCMPnn_OWNER_OWNER t) = 0x40 + n.val ∧
        d.on (fTIME_TCMPnn_STS_ARMED t) = true ∧
        d.on (fNETn_GATE_STS_RUNNING n.val) = decide (0 ≤ sdiff64 s.dev.ft64 (s.dev.gateBase n.val)) ∧
        (d.port p).code = 0 ∧
        s.dev.sameRegs d [rNETn_GATE_CFG n.val, rNETn_GATE_STS n.val, rNETn_MM_STS n.val, rNETn_MM_TX_FRAG_CNT n.val, rTIME_TCMPnn_OWNER t, rTIME_TCMPnn_STS t] ∧
        d = { s.dev with regs := d.regs, ports := d.ports, net := d.net, time := d.time, irqA := d.irqA, irqB := d.irqB }) ∧
  (∀ (s : State) (n : Fin 4) (p : Port) (v : Word), s.dev.calm = true → s.dev.takes p (rNETn_GATE_CFG n.val) →
    s.dev.on (fNETn_GATE_CFG_EN n.val) = false →
    (s.dev.stored (rNETn_GATE_CFG n.val) ((fNETn_GATE_CFG_EN n.val).put v 1)).gateCheck n.val ≠ 0 →
      Completes (.gateEnable n p v) s fun d =>
        d.on (fNETn_GATE_CFG_EN n.val) = false ∧
        d.on (fNETn_GATE_STS_CFG_ERR n.val) = true ∧
        d.get (fNETn_GATE_STS_ERR_CODE n.val) = (s.dev.stored (rNETn_GATE_CFG n.val) ((fNETn_GATE_CFG_EN n.val).put v 1)).gateCheck n.val ∧
        (d.reg rNET_REFUSE_CNT).toNat = min ((s.dev.reg rNET_REFUSE_CNT).toNat + 1) (2 ^ 32 - 1) ∧
        (d.port p).code = 0 ∧
        s.dev.sameRegs d [rNETn_GATE_CFG n.val, rNETn_GATE_STS n.val, rNET_REFUSE_CNT] ∧
        d = { s.dev with regs := d.regs, ports := d.ports, irqA := d.irqA, irqB := d.irqB }) ∧
  (∀ (s : State) (n : Fin 4) (p : Port) (v : Word) (t : Nat), s.dev.calm = true → s.dev.takes p (rNETn_GATE_CFG n.val) →
    s.dev.on (fNETn_GATE_CFG_EN n.val) = true → t = s.dev.get (fNETn_GATE_CFG_TCMP n.val) →
      Completes (.gateDisable n p v) s fun d =>
        d.on (fNETn_GATE_CFG_EN n.val) = false ∧
        d.get (fNETn_GATE_STS_GATES n.val) = 0xFF ∧
        d.on (fNETn_GATE_STS_RUNNING n.val) = false ∧
        d.get (fTIME_TCMPnn_OWNER_OWNER t) = 0 ∧
        (d.port p).code = 0 ∧
        s.dev.sameRegs d [rNETn_GATE_CFG n.val, rNETn_GATE_STS n.val, rNETn_MM_STS n.val, rTIME_TCMPnn_OWNER t, rTIME_TCMPnn_STS t, rGLB_IGN_CNT, rGLB_IGN_OVF_CNT] ∧
        d = { s.dev with regs := d.regs, ports := d.ports, net := d.net, time := d.time, ign := d.ign, irqA := d.irqA, irqB := d.irqB }) ∧
  (∀ (s : State) (n : Fin 4) (k : Nat), s.dev.calm = true → k = s.dev.get (fNETn_GATE_STS_ENTRY n.val) →
    s.dev.on (fNETn_GATE_STS_RUNNING n.val) = true → k + 1 < s.dev.gateLen n.val → k + 1 < 256 →
    s.dev.entryOver n.val k = true → s.dev.sound = true → s.dev.domOn (9 + n.val) = true →
      Completes (.gateEntryEnd n) s fun d =>
        d.get (fNETn_GATE_STS_ENTRY n.val) = k + 1 ∧
        d.get (fNETn_GATE_STS_GATES n.val) = (s.dev.gateEntry n.val (k + 1)).gates ∧
        s.dev.sameRegs d [rNETn_GATE_STS n.val, rNETn_MM_STS n.val, rNETn_MM_TX_FRAG_CNT n.val] ∧
        d = { s.dev with regs := d.regs, net := d.net, irqA := d.irqA, irqB := d.irqB }) ∧
  (∀ (s : State) (n : Fin 4) (k : Nat), s.dev.calm = true → k = s.dev.get (fNETn_GATE_STS_ENTRY n.val) →
    s.dev.on (fNETn_GATE_STS_RUNNING n.val) = true → k + 1 < s.dev.gateLen n.val → s.dev.entryOver n.val k = true →
    s.dev.tblHurt (0x2E8000 + 0x800 * n.val + 8 * (k + 1)) = true → s.dev.domOn 1 = true →
    s.dev.get (fTIME_TCMPnn_OWNER_OWNER (s.dev.get (fNETn_GATE_CFG_TCMP n.val))) = 0x40 + n.val →
    s.dev.domOn (9 + n.val) = true →
      Completes (.gateEntryEnd n) s fun d =>
        d.on (fNETn_GATE_CFG_EN n.val) = false ∧
        d.get (fNETn_GATE_STS_GATES n.val) = 0xFF ∧
        d.on (fNETn_GATE_STS_RUNNING n.val) = false ∧
        d.get (fTIME_TCMPnn_OWNER_OWNER (s.dev.get (fNETn_GATE_CFG_TCMP n.val))) = 0 ∧
        (d.reg rINT_ECC_UE_CNT).toNat = min ((s.dev.reg rINT_ECC_UE_CNT).toNat + 1) (2 ^ 32 - 1)) ∧
  (∀ (s : State) (n : Fin 4), s.dev.calm = true → s.dev.netOn n.val = true → s.dev.linkUp n.val = true →
    s.dev.on (fNETn_MM_CFG_PE_EN n.val) = true → s.dev.domOn (9 + n.val) = true →
      Completes (.verifyFrame n) s fun d =>
        (d.netOf n.val).queue 7 = (s.dev.netOf n.val).queue 7 ++ [{ bytes := List.replicate 60 0, id := s.dev.nextFrame, kind := .respond }] ∧
        s.dev.sameRegs d [rINT_INJ_CMD] ∧
        d = { s.dev with regs := d.regs, net := d.net, nextFrame := d.nextFrame, free := d.free, poison := d.poison, integ := d.integ, irqA := d.irqA, irqB := d.irqB }) ∧
  (∀ (s : State) (n : Fin 4), s.dev.calm = true → s.dev.netOn n.val = true → s.dev.linkUp n.val = true →
    s.dev.on (fNETn_MM_CFG_PE_EN n.val) = true → s.dev.get (fNETn_MM_STS_VERIFY n.val) = 2 →
    s.dev.domOn (9 + n.val) = true →
      Completes (.respondFrame n) s fun d =>
        d.get (fNETn_MM_STS_VERIFY n.val) = 3 ∧
        d.on (fNETn_MM_STS_ACTIVE n.val) = true ∧
        s.dev.sameRegs d [rNETn_MM_STS n.val] ∧
        d = { s.dev with regs := d.regs, irqA := d.irqA, irqB := d.irqB }) ∧
  (∀ (s : State) (n : Fin 4), s.dev.calm = true → s.dev.netOn n.val = true → s.dev.linkUp n.val = true →
    s.dev.on (fNETn_MM_CFG_PE_EN n.val) = false → s.dev.domOn (9 + n.val) = true →
      Completes (.respondFrame n) s fun d =>
        (d.reg (rNETn_MM_RX_SMD_ERR_CNT n.val)).toNat = min ((s.dev.reg (rNETn_MM_RX_SMD_ERR_CNT n.val)).toNat + 1) (2 ^ 32 - 1) ∧
        s.dev.sameRegs d [rNETn_MM_RX_SMD_ERR_CNT n.val] ∧
        d = { s.dev with regs := d.regs, irqA := d.irqA, irqB := d.irqB }) ∧
  (∀ (s : State) (n : Fin 4), s.dev.calm = true → s.dev.netOn n.val = true → s.dev.linkUp n.val = true →
    s.dev.on (fNETn_MM_CFG_PE_EN n.val) = false → s.dev.domOn (9 + n.val) = true →
      Completes (.verifyFrame n) s fun d =>
        (d.reg (rNETn_MM_RX_SMD_ERR_CNT n.val)).toNat = min ((s.dev.reg (rNETn_MM_RX_SMD_ERR_CNT n.val)).toNat + 1) (2 ^ 32 - 1) ∧
        s.dev.sameRegs d [rNETn_MM_RX_SMD_ERR_CNT n.val] ∧
        d = { s.dev with regs := d.regs, irqA := d.irqA, irqB := d.irqB }) ∧
  (∀ (s : State) (n : Fin 4), s.dev.calm = true → s.dev.linkUp n.val = true → s.dev.get (fNETn_MM_STS_VERIFY n.val) = 2 →
    3 ≤ (s.dev.netOf n.val).tries → s.dev.domOn (9 + n.val) = true →
      Completes (.verifyTimeout n) s fun d =>
        d.get (fNETn_MM_STS_VERIFY n.val) = 4 ∧
        (d.reg (rNETn_MM_VERIFY_FAIL_CNT n.val)).toNat = min ((s.dev.reg (rNETn_MM_VERIFY_FAIL_CNT n.val)).toNat + 1) (2 ^ 32 - 1) ∧
        s.dev.sameRegs d [rNETn_MM_STS n.val, rNETn_MM_VERIFY_FAIL_CNT n.val] ∧
        d = { s.dev with regs := d.regs, irqA := d.irqA, irqB := d.irqB }) ∧
  (∀ (s : State) (n : Fin 4), s.dev.calm = true → s.dev.linkUp n.val = true → s.dev.get (fNETn_MM_STS_VERIFY n.val) = 2 →
    (s.dev.netOf n.val).tries < 3 → s.dev.domOn (9 + n.val) = true →
      Completes (.verifyTimeout n) s fun d =>
        (d.netOf n.val).tries = (s.dev.netOf n.val).tries + 1 ∧
        (d.netOf n.val).queue 7 = (s.dev.netOf n.val).queue 7 ++ [{ bytes := List.replicate 60 0, id := s.dev.nextFrame, kind := .verify }] ∧
        s.dev.sameRegs d [rINT_INJ_CMD] ∧
        d = { s.dev with regs := d.regs, net := d.net, nextFrame := d.nextFrame, free := d.free, poison := d.poison, integ := d.integ, irqA := d.irqA, irqB := d.irqB }) ∧
  (∀ (s : State) (h : Handed) (t : List Handed), s.dev.calm = true → s.dev.handed = h :: t → h.sink = .pause → h.port < 4 →
    s.dev.domOn (9 + h.port.val) = true → s.dev.on (fNETn_PAUSE_CFG_RX_EN h.port) = true → s.dev.domOn 1 = true →
      Completes (.pauseFrame) s fun d =>
        d.handed = t ∧
        (d.reg (rNETn_PAUSE_RX_CNT h.port)).toNat = min ((s.dev.reg (rNETn_PAUSE_RX_CNT h.port)).toNat + 1) (2 ^ 32 - 1) ∧
        ((d.netOf h.port).pause = if beAt h.bytes 16 2 = 0 then none else some (beAt h.bytes 16 2, s.dev.mono)) ∧
        d.on (fNETn_PAUSE_STS_PAUSED h.port) = (beAt h.bytes 16 2 != 0) ∧
        s.dev.sameRegs d [rNETn_PAUSE_RX_CNT h.port, rNETn_PAUSE_STS h.port, rNETn_PAUSE_QUANTA_CNT h.port] ∧
        d = { s.dev with regs := d.regs, handed := d.handed, net := d.net, irqA := d.irqA, irqB := d.irqB }) ∧
  (∀ (s : State) (n : Fin 4) (q : Nat) (z : Int), s.dev.calm = true → (s.dev.netOf n.val).pause = some (q, z) → q < 65536 →
    s.dev.domOn (9 + n.val) = true →
      Completes (.pauseExpiry n) s fun d =>
        (d.netOf n.val).pause = none ∧
        d.on (fNETn_PAUSE_STS_PAUSED n.val) = false ∧
        (d.reg (rNETn_PAUSE_QUANTA_CNT n.val)).toNat = min ((s.dev.reg (rNETn_PAUSE_QUANTA_CNT n.val)).toNat + (q - (s.dev.netOf n.val).counted)) (2 ^ 32 - 1) ∧
        s.dev.sameRegs d [rNETn_PAUSE_STS n.val, rNETn_PAUSE_QUANTA_CNT n.val] ∧
        d = { s.dev with regs := d.regs, net := d.net, irqA := d.irqA, irqB := d.irqB }) ∧
  (∀ (s : State) (n : Fin 4) (p : Port) (v : Word), s.dev.calm = true → s.dev.takes p (rNETn_PAUSE_TX n.val) →
    s.dev.netOn n.val = true → s.dev.linkUp n.val = true →
      Completes (.pauseTxSend n p v) s fun d =>
        (d.netOf n.val).pauseTx = some ((fNETn_PAUSE_TX_TIME n.val).get v) ∧
        (d.port p).code = 0 ∧
        s.dev.sameRegs d [rNETn_PAUSE_TX n.val] ∧
        d = { s.dev with regs := d.regs, ports := d.ports, net := d.net, irqA := d.irqA, irqB := d.irqB })

/-- A fabric whose roles and FNIDs pass R347 runs: with MODE = 0 it holds CFG_FNID in state ASSIGNED, with MODE = 1 it
listens; every chain port starts restoring (model: log entry 39). One that fails keeps EN = 0 and reports its code.
Disabling clears MIO_STS and the FNID and leaves no dynamic learned entry. LISTEN ends in a claim of the first free
FNID, CLAIM without conflict in ASSIGNED. (R336, R337, R341, R347) -/
def Obligations.FabricEnablesAndRefuses : Prop :=
  (∀ (s : State) (p : Port) (v : Word), s.dev.calm = true → s.dev.takes p rMIO_CFG → s.dev.on fMIO_CFG_EN = false →
    (s.dev.stored rMIO_CFG (fMIO_CFG_EN.put v 1)).mioCheck = 0 →
      Completes (.mioEnable p v) s fun d =>
        d.on fMIO_CFG_EN = true ∧
        d.on fMIO_STS_RUN = true ∧
        d.on fMIO_STS_CFG_ERR = false ∧
        (d.get fMIO_STS_FNID_STATE = (if s.dev.on fMIO_FNID_CFG_MODE then 1 else 3)) ∧
        (d.fnid = (if s.dev.on fMIO_FNID_CFG_MODE then 0 else s.dev.get fMIO_FNID_CFG_CFG_FNID)) ∧
        (d.mioPort 0).restoring = (s.dev.role 0 == 2) ∧
        (d.mioPort 1).restoring = (s.dev.role 1 == 2) ∧
        (d.mioPort 2).restoring = (s.dev.role 2 == 2) ∧
        (d.mioPort 3).restoring = (s.dev.role 3 == 2) ∧
        (d.port p).code = 0 ∧
        s.dev.sameRegs d [rMIO_CFG, rMIO_STS, rMIO_FNID, rMIO_RING_A, rMIO_RING_B] ∧
        d = { s.dev with regs := d.regs, ports := d.ports, mio := d.mio, irqA := d.irqA, irqB := d.irqB }) ∧
  (∀ (s : State) (p : Port) (v : Word), s.dev.calm = true → s.dev.takes p rMIO_CFG → s.dev.on fMIO_CFG_EN = false →
    (s.dev.stored rMIO_CFG (fMIO_CFG_EN.put v 1)).mioCheck ≠ 0 →
      Completes (.mioEnable p v) s fun d =>
        d.on fMIO_CFG_EN = false ∧
        d.on fMIO_STS_CFG_ERR = true ∧
        d.get fMIO_STS_ERR_CODE = (s.dev.stored rMIO_CFG (fMIO_CFG_EN.put v 1)).mioCheck ∧
        (d.reg rMIO_REFUSE_CNT).toNat = min ((s.dev.reg rMIO_REFUSE_CNT).toNat + 1) (2 ^ 32 - 1) ∧
        (d.port p).code = 0 ∧
        s.dev.sameRegs d [rMIO_CFG, rMIO_STS, rMIO_REFUSE_CNT] ∧
        d = { s.dev with regs := d.regs, ports := d.ports, irqA := d.irqA, irqB := d.irqB }) ∧
  (∀ (s : State) (p : Port) (v : Word), s.dev.calm = true → s.dev.takes p rMIO_CFG → s.dev.on fMIO_CFG_EN = true →
      Completes (.mioDisable p v) s fun d =>
        d.on fMIO_CFG_EN = false ∧
        d.reg rMIO_STS = 0 ∧
        d.fnid = 0 ∧
        (∀ i ∈ d.learnedIndices, (d.learned i).static = true) ∧
        (d.port p).code = 0 ∧
        s.dev.sameRegs d [rMIO_CFG, rMIO_STS, rMIO_FNID, rMIO_RING_A, rMIO_RING_B, rINT_INJ_CMD, rGLB_IGN_CNT, rGLB_IGN_OVF_CNT] ∧
        d = { s.dev with regs := d.regs, ports := d.ports, mio := d.mio, ign := d.ign, tbl := d.tbl, poison := d.poison, integ := d.integ, irqA := d.irqA, irqB := d.irqB }) ∧
  (∀ (s : State) (f : Nat), s.dev.calm = true → s.dev.mioOn = true → s.dev.refDown 1 = false →
    s.dev.get fMIO_STS_FNID_STATE = 1 →
    firstFree (s.dev.put fMIO_FNID_FNID 0).fnidsTaken (max 1 (s.dev.get fMIO_FNID_CFG_CFG_FNID)) 4096 = some f →
    s.dev.domOn 1 = true →
      Completes (.fnidListenEnd) s fun d =>
        d.get fMIO_STS_FNID_STATE = 2 ∧
        d.mio.claim = f ∧
        d.fnid = 0 ∧
        f < 4095 ∧
        f ∉ s.dev.fnidsTaken ∧
        s.dev.sameRegs d [rMIO_STS, rMIO_FNID] ∧
        d = { s.dev with regs := d.regs, mio := d.mio, irqA := d.irqA, irqB := d.irqB }) ∧
  (∀ (s : State), s.dev.calm = true → s.dev.mioOn = true → s.dev.refDown 1 = false → s.dev.get fMIO_STS_FNID_STATE = 2 →
    s.dev.mio.claim < 4095 → s.dev.domOn 1 = true →
      Completes (.fnidClaimEnd) s fun d =>
        d.get fMIO_STS_FNID_STATE = 3 ∧
        d.fnid = s.dev.mio.claim ∧
        s.dev.sameRegs d [rMIO_STS, rMIO_FNID] ∧
        d = { s.dev with regs := d.regs, irqA := d.irqA, irqB := d.irqB })

/-- A table command on an entry that exists is done with RESULT = 1: WRITE stores the data registers in that entry and in
no other byte, READ loads them from it, INVALIDATE clears bit 63 of its first word. An entry that does not exist, or a
route written without STATIC = 1, is refused with RESULT = 2 and counted, and nothing is written. (R330, R328, R334) -/
def Obligations.FabricTablesAreReadAndWritten : Prop :=
  (∀ (s : State) (p : Port) (v : Word) (a : Nat), s.dev.calm = true → s.dev.takes p rMIO_TBL_CMD →
    fMIO_TBL_CMD_TBL.get v ≠ 3 → fMIO_TBL_CMD_INDEX.get v < (mioTable (fMIO_TBL_CMD_TBL.get v)).2.2 →
    a = (mioTable (fMIO_TBL_CMD_TBL.get v)).1 + (mioTable (fMIO_TBL_CMD_TBL.get v)).2.1 * fMIO_TBL_CMD_INDEX.get v →
    (fMIO_TBL_CMD_TBL.get v = 2 → ((s.dev.reg (rMIO_TBL_DATAk 1)).toNat * 2 ^ 32 + (s.dev.reg (rMIO_TBL_DATAk 0)).toNat) / 2 ^ 62 % 2 = 1) →
      Completes (.mioTblWrite p v) s fun d =>
        readWord64 d.tbl a = ((s.dev.reg (rMIO_TBL_DATAk 1)).toNat * 2 ^ 32 + (s.dev.reg (rMIO_TBL_DATAk 0)).toNat) ∧
        ((mioTable (fMIO_TBL_CMD_TBL.get v)).2.1 = 16 → readWord64 d.tbl (a + 8) = ((s.dev.reg (rMIO_TBL_DATAk 3)).toNat * 2 ^ 32 + (s.dev.reg (rMIO_TBL_DATAk 2)).toNat)) ∧
        Dev.sameMemBut s.dev d a (mioTable (fMIO_TBL_CMD_TBL.get v)).2.1 ∧
        d.get fMIO_TBL_STS_RESULT = 1 ∧
        (d.port p).code = 0 ∧
        s.dev.sameRegs d [rMIO_TBL_CMD, rMIO_TBL_STS, rINT_INJ_CMD] ∧
        d = { s.dev with regs := d.regs, ports := d.ports, tbl := d.tbl, poison := d.poison, integ := d.integ, irqA := d.irqA, irqB := d.irqB }) ∧
  (∀ (s : State) (p : Port) (v : Word) (a : Nat), s.dev.calm = true → s.dev.takes p rMIO_TBL_CMD →
    fMIO_TBL_CMD_TBL.get v ≠ 3 → fMIO_TBL_CMD_INDEX.get v < (mioTable (fMIO_TBL_CMD_TBL.get v)).2.2 →
    a = (mioTable (fMIO_TBL_CMD_TBL.get v)).1 + (mioTable (fMIO_TBL_CMD_TBL.get v)).2.1 * fMIO_TBL_CMD_INDEX.get v →
      Completes (.mioTblRead p v) s fun d =>
        (d.reg (rMIO_TBL_DATAk 1)).toNat * 2 ^ 32 + (d.reg (rMIO_TBL_DATAk 0)).toNat = readWord64 s.dev.tbl a ∧
        ((d.reg (rMIO_TBL_DATAk 3)).toNat * 2 ^ 32 + (d.reg (rMIO_TBL_DATAk 2)).toNat = (if (mioTable (fMIO_TBL_CMD_TBL.get v)).2.1 = 16 then readWord64 s.dev.tbl (a + 8) else 0)) ∧
        d.get fMIO_TBL_STS_RESULT = 1 ∧
        (d.port p).code = 0 ∧
        s.dev.sameRegs d [rMIO_TBL_CMD, rMIO_TBL_STS, rMIO_TBL_DATAk 0, rMIO_TBL_DATAk 1, rMIO_TBL_DATAk 2, rMIO_TBL_DATAk 3] ∧
        d = { s.dev with regs := d.regs, ports := d.ports, irqA := d.irqA, irqB := d.irqB }) ∧
  (∀ (s : State) (p : Port) (v : Word) (a : Nat), s.dev.calm = true → s.dev.takes p rMIO_TBL_CMD →
    fMIO_TBL_CMD_TBL.get v ≠ 3 → fMIO_TBL_CMD_INDEX.get v < (mioTable (fMIO_TBL_CMD_TBL.get v)).2.2 →
    a = (mioTable (fMIO_TBL_CMD_TBL.get v)).1 + (mioTable (fMIO_TBL_CMD_TBL.get v)).2.1 * fMIO_TBL_CMD_INDEX.get v →
      Completes (.mioTblInvalidate p v) s fun d =>
        readWord64 d.tbl a = readWord64 s.dev.tbl a % 2 ^ 63 ∧
        Dev.sameMemBut s.dev d a 8 ∧
        d.get fMIO_TBL_STS_RESULT = 1 ∧
        (d.port p).code = 0 ∧
        s.dev.sameRegs d [rMIO_TBL_CMD, rMIO_TBL_STS, rINT_INJ_CMD] ∧
        d = { s.dev with regs := d.regs, ports := d.ports, tbl := d.tbl, poison := d.poison, integ := d.integ, irqA := d.irqA, irqB := d.irqB }) ∧
  (∀ (s : State) (p : Port) (v : Word), s.dev.calm = true → s.dev.takes p rMIO_TBL_CMD →
    (fMIO_TBL_CMD_TBL.get v = 3 ∨ (mioTable (fMIO_TBL_CMD_TBL.get v)).2.2 ≤ fMIO_TBL_CMD_INDEX.get v ∨ (fMIO_TBL_CMD_TBL.get v = 2 ∧ ((s.dev.reg (rMIO_TBL_DATAk 1)).toNat * 2 ^ 32 + (s.dev.reg (rMIO_TBL_DATAk 0)).toNat) / 2 ^ 62 % 2 = 0)) →
      Completes (.mioTblWrite p v) s fun d =>
        d.get fMIO_TBL_STS_RESULT = 2 ∧
        (d.reg rMIO_TBL_REFUSE_CNT).toNat = min ((s.dev.reg rMIO_TBL_REFUSE_CNT).toNat + 1) (2 ^ 32 - 1) ∧
        (d.port p).code = 0 ∧
        s.dev.sameRegs d [rMIO_TBL_CMD, rMIO_TBL_STS, rMIO_TBL_REFUSE_CNT] ∧
        d = { s.dev with regs := d.regs, ports := d.ports, irqA := d.irqA, irqB := d.irqB }) ∧
  (∀ (s : State) (p : Port) (v : Word), s.dev.calm = true → s.dev.takes p rMIO_TBL_CMD →
    (fMIO_TBL_CMD_TBL.get v = 3 ∨ (mioTable (fMIO_TBL_CMD_TBL.get v)).2.2 ≤ fMIO_TBL_CMD_INDEX.get v) →
      Completes (.mioTblRead p v) s fun d =>
        d.get fMIO_TBL_STS_RESULT = 2 ∧
        (d.reg rMIO_TBL_REFUSE_CNT).toNat = min ((s.dev.reg rMIO_TBL_REFUSE_CNT).toNat + 1) (2 ^ 32 - 1) ∧
        (d.port p).code = 0 ∧
        s.dev.sameRegs d [rMIO_TBL_CMD, rMIO_TBL_STS, rMIO_TBL_REFUSE_CNT] ∧
        d = { s.dev with regs := d.regs, ports := d.ports, irqA := d.irqA, irqB := d.irqB }) ∧
  (∀ (s : State) (p : Port) (v : Word), s.dev.calm = true → s.dev.takes p rMIO_TBL_CMD →
    (fMIO_TBL_CMD_TBL.get v = 3 ∨ (mioTable (fMIO_TBL_CMD_TBL.get v)).2.2 ≤ fMIO_TBL_CMD_INDEX.get v) →
      Completes (.mioTblInvalidate p v) s fun d =>
        d.get fMIO_TBL_STS_RESULT = 2 ∧
        (d.reg rMIO_TBL_REFUSE_CNT).toNat = min ((s.dev.reg rMIO_TBL_REFUSE_CNT).toNat + 1) (2 ^ 32 - 1) ∧
        (d.port p).code = 0 ∧
        s.dev.sameRegs d [rMIO_TBL_CMD, rMIO_TBL_STS, rMIO_TBL_REFUSE_CNT] ∧
        d = { s.dev with regs := d.regs, ports := d.ports, irqA := d.irqA, irqB := d.irqB })

/-- Each DISC period the node sends one DISC on every chain port with its link up and advances its sequence number; each
PROBE period one PROBE. A DISC of another node that the database does not hold is taken into the database of its
network, marks its port as having a peer and no longer without one, and is the newest entry of that node; where the
segment holds 128 devices already, this one among them, it is discarded and counted, and its port is cut off as
SEG_OVER. A DISC of its own is discarded, and the port that it comes in on has a peer. A PROBE handed over is
consumed. A chain port that declares loss is blocked as lost and counted. A TOPO is acted on once for its origin and
sequence number: LINK_DOWN that names a local end blocks it as lost, BREAK_SET releases the restoring ports that it
does not name. (R324, R325, R328, R332, R333, R334, R335, R340, R341) -/
def Obligations.FabricFramesGoOutAndComeIn : Prop :=
  (∀ (s : State) (n : Fin 4), s.dev.calm = true → s.dev.mioOn = true → s.dev.refDown 1 = false → 4 ≤ s.dev.cellsFree →
    s.dev.role n.val = 2 → s.dev.netOn n.val = true → s.dev.linkUp n.val = true → s.dev.domOn 1 = true →
      Completes (.discPeriod) s fun d =>
        d.mio = { s.dev.mio with seqDisc := (s.dev.mio.seqDisc + 1) % 65536 } ∧
        ((d.netOf n.val).queue 7).map (·.bytes) = ((s.dev.netOf n.val).queue 7).map (·.bytes) ++ [s.dev.mioFrame n.val mioGroup 1 127 (s.dev.discFlags (n.val / 2)) s.dev.heldFnid (s.dev.macAddr 0) 0 s.dev.mio.seqDisc (s.dev.discBody n.val)] ∧
        s.dev.sameRegs d [rINT_INJ_CMD] ∧
        d = { s.dev with regs := d.regs, mio := d.mio, net := d.net, nextFrame := d.nextFrame, free := d.free, rql := d.rql, poison := d.poison, integ := d.integ, irqA := d.irqA, irqB := d.irqB }) ∧
  (∀ (s : State) (n : Fin 4), s.dev.calm = true → s.dev.mioOn = true → 4 ≤ s.dev.cellsFree → s.dev.role n.val = 2 →
    s.dev.netOn n.val = true → s.dev.linkUp n.val = true → s.dev.domOn 1 = true →
      Completes (.probePeriod) s fun d =>
        d.mio = { s.dev.mio with seqProbe := (s.dev.mio.seqProbe + 1) % 65536 } ∧
        ((d.netOf n.val).queue 7).map (·.bytes) = ((s.dev.netOf n.val).queue 7).map (·.bytes) ++ [s.dev.mioFrame n.val mioGroup 2 0 0 s.dev.heldFnid (s.dev.macAddr 0) 0 s.dev.mio.seqProbe []] ∧
        s.dev.sameRegs d [rINT_INJ_CMD] ∧
        d = { s.dev with regs := d.regs, mio := d.mio, net := d.net, nextFrame := d.nextFrame, free := d.free, poison := d.poison, integ := d.integ, irqA := d.irqA, irqB := d.irqB }) ∧
  (∀ (s : State) (h : Handed) (k : Nat), s.dev.calm = true → s.dev.mioOn = true → s.dev.refDown 1 = false →
    (s.dev.handed.find? (fun x => x.sink == .disc) = some h) → h.port.val < 4 → k = h.port.val / 2 →
    (mioHead h.bytes).mac ≠ s.dev.macAddr 0 →
    ((s.dev.mioNet k).nodes.all (fun x => x.mac != (mioHead h.bytes).mac) = true) → (s.dev.mioNet k).nodes.length < 127 →
    s.dev.domOn 1 = true →
      Completes (.discReceive) s fun d =>
        d.handed = s.dev.handed.erase h ∧
        (d.mioPort h.port.val).peer = true ∧
        (d.mioPort h.port.val).noPeer = false ∧
        (d.mioNet k).nodes.map (·.mac) = (s.dev.mioNet k).nodes.map (·.mac) ++ [(mioHead h.bytes).mac] ∧
        (((d.mioNet k).nodes.getLast?.map fun x => (x.fnid, x.flags, x.seq)) = some ((mioHead h.bytes).origin, (mioHead h.bytes).flags, (mioHead h.bytes).seq)) ∧
        s.dev.sameRegs d (rMIO_FNID :: rMIO_STS :: rMIO_FNID_CONF_CNT :: s.dev.evtRegs) ∧
        d = { s.dev with regs := d.regs, handed := d.handed, mio := d.mio, net := d.net, tbl := d.tbl, free := d.free, nextFrame := d.nextFrame, hq := d.hq, rql := d.rql, cue := d.cue, poison := d.poison, integ := d.integ, irqA := d.irqA, irqB := d.irqB }) ∧
  (∀ (s : State) (h : Handed) (k : Nat), s.dev.calm = true → s.dev.mioOn = true → s.dev.refDown 1 = false →
    (s.dev.handed.find? (fun x => x.sink == .disc) = some h) → h.port.val < 4 → k = h.port.val / 2 →
    (mioHead h.bytes).mac ≠ s.dev.macAddr 0 →
    ((s.dev.mioNet k).nodes.all (fun x => x.mac != (mioHead h.bytes).mac) = true) → 127 ≤ (s.dev.mioNet k).nodes.length →
    s.dev.domOn 1 = true →
      Completes (.discReceive) s fun d =>
        d.handed = s.dev.handed.erase h ∧
        d.on (fSegOver k) = true ∧
        d.mioPort h.port.val = { s.dev.mioPort h.port.val with segOver := true } ∧
        (d.reg rMIO_TOPO_OVF_CNT).toNat = min ((s.dev.reg rMIO_TOPO_OVF_CNT).toNat + 1) (2 ^ 32 - 1) ∧
        d.mio.nets = s.dev.mio.nets ∧
        s.dev.sameRegs d [rMIO_TOPO_OVF_CNT, rMIO_STS, rINT_INJ_CMD] ∧
        d = { s.dev with regs := d.regs, handed := d.handed, mio := d.mio, tbl := d.tbl, rql := d.rql, poison := d.poison, integ := d.integ, irqA := d.irqA, irqB := d.irqB }) ∧
  (∀ (s : State) (h : Handed), s.dev.calm = true → s.dev.mioOn = true → s.dev.refDown 1 = false →
    (s.dev.handed.find? (fun x => x.sink == .disc) = some h) → h.port.val < 4 → (mioHead h.bytes).mac = s.dev.macAddr 0 →
    beAt (mioBody h.bytes) 1 1 ≠ otherPort h.port.val → s.dev.domOn 1 = true →
      Completes (.discReceive) s fun d =>
        d.handed = s.dev.handed.erase h ∧
        (d.mioPort h.port.val).peer = true ∧
        (d.mioPort h.port.val).noPeer = false ∧
        d.mio.nets = s.dev.mio.nets ∧
        s.dev.sameRegs d [rINT_INJ_CMD] ∧
        d = { s.dev with regs := d.regs, handed := d.handed, mio := d.mio, tbl := d.tbl, rql := d.rql, poison := d.poison, integ := d.integ, irqA := d.irqA, irqB := d.irqB }) ∧
  (∀ (s : State) (h : Handed), s.dev.calm = true → (s.dev.handed.find? (fun x => x.sink == .probe) = some h) →
    s.dev.domOn 1 = true →
      Completes (.probeReceive) s fun d =>
        d.handed = s.dev.handed.erase h ∧
        s.dev.sameRegs d [] ∧
        d = { s.dev with regs := d.regs, handed := d.handed, rql := d.rql, irqA := d.irqA, irqB := d.irqB }) ∧
  (∀ (s : State) (n : Fin 4), s.dev.calm = true → s.dev.mioOn = true → s.dev.role n.val = 2 →
    (s.dev.mioPort n.val).lost = false → s.dev.domOn 1 = true →
      Completes (.chainPortLoss n) s fun d =>
        (d.mioPort n.val).lost = true ∧
        (d.mioPort n.val).peer = false ∧
        (d.mioPort n.val).restoring = false ∧
        (d.reg (rMIO_LINK_LOSS_Pp_CNT n.val)).toNat = min ((s.dev.reg (rMIO_LINK_LOSS_Pp_CNT n.val)).toNat + 1) (2 ^ 32 - 1) ∧
        d.blocked n.val = true ∧
        s.dev.sameRegs d [rMIO_LINK_LOSS_Pp_CNT n.val, rMIO_STS, rMIO_BREAK_MOVE_CNT, rINT_INJ_CMD] ∧
        d = { s.dev with regs := d.regs, mio := d.mio, net := d.net, tbl := d.tbl, nextFrame := d.nextFrame, free := d.free, poison := d.poison, integ := d.integ, irqA := d.irqA, irqB := d.irqB }) ∧
  (∀ (s : State) (h : Handed) (p : Nat) (k : Nat), s.dev.calm = true → s.dev.mioOn = true → s.dev.refDown 1 = false →
    (s.dev.handed.find? (fun x => x.sink == .topo && beAt (mioBody x.bytes) 0 1 == 1) = some h) → h.port.val < 4 →
    k = h.port.val / 2 → (p = 2 * k ∨ p = 2 * k + 1) → s.dev.role p = 2 →
    s.dev.endsAt (topoLink (mioBody h.bytes)) p = true →
    (p = 2 * k + 1 → s.dev.endsAt (topoLink (mioBody h.bytes)) (2 * k) = false) → (mioHead h.bytes).mac ≠ s.dev.macAddr 0 →
    (s.dev.mioNet k).topos.contains ((mioHead h.bytes).origin, (mioHead h.bytes).seq) = false → s.dev.domOn 1 = true →
      Completes (.topoLinkDown) s fun d =>
        d.handed = s.dev.handed.erase h ∧
        (d.mioPort p).lost = true ∧
        (d.mioPort p).restoring = false ∧
        (d.mioNet k).topos.head? = some ((mioHead h.bytes).origin, (mioHead h.bytes).seq) ∧
        (∀ i ∈ d.learnedIndices, (d.learned i).net = k → (d.learned i).static = true) ∧
        s.dev.sameRegs d [rMIO_STS, rMIO_BREAK_MOVE_CNT, rINT_INJ_CMD] ∧
        d = { s.dev with regs := d.regs, handed := d.handed, mio := d.mio, net := d.net, tbl := d.tbl, nextFrame := d.nextFrame, free := d.free, rql := d.rql, poison := d.poison, integ := d.integ, irqA := d.irqA, irqB := d.irqB }) ∧
  (∀ (s : State) (h : Handed) (p : Nat) (k : Nat), s.dev.calm = true → s.dev.mioOn = true → s.dev.refDown 1 = false →
    (s.dev.handed.find? (fun x => x.sink == .topo && beAt (mioBody x.bytes) 0 1 == 2) = some h) → h.port.val < 4 →
    k = h.port.val / 2 → (p = 2 * k ∨ p = 2 * k + 1) → s.dev.role p = 2 →
    s.dev.endsAt (topoLink (mioBody h.bytes)) p = false → (s.dev.mioPort p).restoring = true →
    (mioHead h.bytes).mac ≠ s.dev.macAddr 0 →
    (s.dev.mioNet k).topos.contains ((mioHead h.bytes).origin, (mioHead h.bytes).seq) = false → s.dev.domOn 1 = true →
      Completes (.topoBreakSet) s fun d =>
        d.handed = s.dev.handed.erase h ∧
        d.mioPort p = { s.dev.mioPort p with restoring := false } ∧
        (d.mioNet k).topos.head? = some ((mioHead h.bytes).origin, (mioHead h.bytes).seq) ∧
        s.dev.sameRegs d [rINT_INJ_CMD] ∧
        d = { s.dev with regs := d.regs, handed := d.handed, mio := d.mio, net := d.net, tbl := d.tbl, nextFrame := d.nextFrame, free := d.free, rql := d.rql, poison := d.poison, integ := d.integ, irqA := d.irqA, irqB := d.irqB })

/-- A chain port with its link up that hears no DISC for 30 ms is without a peer. A node not seen for 30 ms leaves its
network's database and no other does. A ring whose own DISC no longer returns is no ring and its register reads 0;
this node's break on it ends. A restoring port that no BREAK_SET names is released. SEG_OVER clears, with its block on
both ports. A dynamic learned entry that was not refreshed is removed; no byte outside its sixteen changes. (R325,
R328, R334, R335, R339, R341) -/
def Obligations.FabricTimersExpire : Prop :=
  (∀ (s : State) (n : Fin 4), s.dev.calm = true → s.dev.mioOn = true → s.dev.role n.val = 2 → s.dev.linkUp n.val = true →
    s.dev.domOn 1 = true →
      Completes (.noPeerTimeout n) s fun d =>
        (d.mioPort n.val) = { (s.dev.mioPort n.val) with peer := false, noPeer := true } ∧
        d.mio.nets = s.dev.mio.nets ∧
        s.dev.sameRegs d [rINT_INJ_CMD] ∧
        d = { s.dev with regs := d.regs, mio := d.mio, tbl := d.tbl, poison := d.poison, integ := d.integ, irqA := d.irqA, irqB := d.irqB }) ∧
  (∀ (s : State) (net : Fin 2) (mac : BitVec 48), s.dev.calm = true → s.dev.refDown 1 = false → s.dev.domOn 1 = true →
      Completes (.nodeTimeout net mac) s fun d =>
        ((d.mioNet net.val).nodes = (s.dev.mioNet net.val).nodes.filter (fun x => x.mac != mac.toNat)) ∧
        d.mio.ports = s.dev.mio.ports ∧
        s.dev.sameRegs d [rINT_INJ_CMD] ∧
        d = { s.dev with regs := d.regs, mio := d.mio, tbl := d.tbl, poison := d.poison, integ := d.integ, irqA := d.irqA, irqB := d.irqB }) ∧
  (∀ (s : State) (net : Fin 2), s.dev.calm = true → s.dev.mioOn = true → s.dev.refDown 1 = false →
    s.dev.on (fRing net.val) = true → s.dev.domOn 1 = true →
      Completes (.ringTimeout net) s fun d =>
        d.on (fRing net.val) = false ∧
        d.on (fBreak net.val) = false ∧
        (d.reg (if net.val = 0 then rMIO_RING_A else rMIO_RING_B) = 0) ∧
        (d.mioPort (2 * net.val + 1) = (if s.dev.on (fBreak net.val) then { s.dev.mioPort (2 * net.val + 1) with brk := false } else s.dev.mioPort (2 * net.val + 1))) ∧
        (s.dev.sameRegs d [rMIO_STS, if net.val = 0 then rMIO_RING_A else rMIO_RING_B, rINT_INJ_CMD]) ∧
        d = { s.dev with regs := d.regs, mio := d.mio, tbl := d.tbl, poison := d.poison, integ := d.integ, irqA := d.irqA, irqB := d.irqB }) ∧
  (∀ (s : State) (n : Fin 4), s.dev.calm = true → s.dev.mioOn = true → s.dev.refDown 1 = false → s.dev.role n.val = 2 →
    (s.dev.mioPort n.val).restoring = true → s.dev.domOn 1 = true →
      Completes (.restoreTimeout n) s fun d =>
        (d.mioPort n.val) = { (s.dev.mioPort n.val) with restoring := false } ∧
        s.dev.sameRegs d [rINT_INJ_CMD] ∧
        d = { s.dev with regs := d.regs, mio := d.mio, tbl := d.tbl, poison := d.poison, integ := d.integ, irqA := d.irqA, irqB := d.irqB }) ∧
  (∀ (s : State) (net : Fin 2), s.dev.calm = true → s.dev.mioOn = true → s.dev.refDown 1 = false →
    s.dev.on (fSegOver net.val) = true → s.dev.domOn 1 = true →
      Completes (.segOverTimeout net) s fun d =>
        d.on (fSegOver net.val) = false ∧
        (d.mioPort (2 * net.val)).segOver = false ∧
        (d.mioPort (2 * net.val + 1)).segOver = false ∧
        s.dev.sameRegs d [rMIO_STS, rINT_INJ_CMD] ∧
        d = { s.dev with regs := d.regs, mio := d.mio, tbl := d.tbl, poison := d.poison, integ := d.integ, irqA := d.irqA, irqB := d.irqB }) ∧
  (∀ (s : State) (i : Fin 16384), s.dev.calm = true → s.dev.mioOn = true → s.dev.get fMIO_CFG_AGE_S ≠ 0 →
    (s.dev.learned i.val).valid = true → (s.dev.learned i.val).static = false → s.dev.domOn 1 = true →
      Completes (.addressAge i) s fun d =>
        (d.learned i.val).valid = false ∧
        Dev.sameMemBut s.dev d (learnBase + 16 * i.val) 16 ∧
        s.dev.sameRegs d [rINT_INJ_CMD] ∧
        d = { s.dev with regs := d.regs, tbl := d.tbl, poison := d.poison, integ := d.integ, irqA := d.irqA, irqB := d.irqB }) ∧
  (∀ (s : State) (i : Fin 16384), s.dev.calm = true → (s.dev.get fMIO_CFG_AGE_S = 0 ∨ (s.dev.learned i.val).static = true) →
    s.dev.domOn 1 = true →
      Completes (.addressAge i) s fun d =>
        s.dev.sameRegs d [] ∧
        d = { s.dev with regs := d.regs, irqA := d.irqA, irqB := d.irqB })

/-- A request command with none in progress makes BUSY = 1 and sends its body, with the tag and count written; a request
for this node itself is handed to its own fabric program. A response with the outstanding tag ends it with RESULT = 1,
its status and index; any other is late and only counted. A retransmission is counted; the timeout ends it with RESULT
= 2. A request with a recorded tag is answered from its record without being executed again; a request with a bad OP
is answered with STATUS 2. At the deadline of a fabric request in progress whose tag is named, the request ends by its
timeout, as MIO_REQ_TIMEOUT ends it. A fabric response whose tag is not the outstanding one is discarded and counted,
and changes nothing else. (R343, R344, R345, R346, R39, R38) -/
def Obligations.FabricRequestsAndResponses : Prop :=
  (∀ (s : State) (p : Port) (v : Word), s.dev.calm = true → s.dev.takes p rMIO_REQ_CMD → s.dev.on fMIO_REQ_STS_BUSY = false →
    s.dev.mioOn = false →
      Completes (.mioReqRead p v) s fun d =>
        d.mio.req = some (s.dev.get fMIO_REQ_DEST_FNID, mgmtBody 0 (fMIO_REQ_CMD_TAG.get v) 1 0 (fMIO_REQ_CMD_COUNT.get v) 0 (s.dev.get fMIO_REQ_ADDR_ADDR) []) ∧
        d.on fMIO_REQ_STS_BUSY = true ∧
        d.get fMIO_REQ_STS_RESULT = 0 ∧
        d.get fMIO_REQ_CMD_OP = 1 ∧
        d.get fMIO_REQ_CMD_TAG = fMIO_REQ_CMD_TAG.get v ∧
        (d.port p).code = 0 ∧
        s.dev.sameRegs d [rMIO_REQ_CMD, rMIO_REQ_STS] ∧
        d = { s.dev with regs := d.regs, ports := d.ports, mio := d.mio, irqA := d.irqA, irqB := d.irqB }) ∧
  (∀ (s : State) (p : Port) (v : Word), s.dev.calm = true → s.dev.takes p rMIO_REQ_CMD → s.dev.on fMIO_REQ_STS_BUSY = false →
    s.dev.mioOn = false →
      Completes (.mioReqWrite p v) s fun d =>
        d.mio.req = some (s.dev.get fMIO_REQ_DEST_FNID, mgmtBody 0 (fMIO_REQ_CMD_TAG.get v) 2 0 (fMIO_REQ_CMD_COUNT.get v) 0 (s.dev.get fMIO_REQ_ADDR_ADDR) (s.dev.reqData (4 * fMIO_REQ_CMD_COUNT.get v))) ∧
        d.on fMIO_REQ_STS_BUSY = true ∧
        d.get fMIO_REQ_STS_RESULT = 0 ∧
        d.get fMIO_REQ_CMD_OP = 2 ∧
        d.get fMIO_REQ_CMD_TAG = fMIO_REQ_CMD_TAG.get v ∧
        (d.port p).code = 0 ∧
        s.dev.sameRegs d [rMIO_REQ_CMD, rMIO_REQ_STS] ∧
        d = { s.dev with regs := d.regs, ports := d.ports, mio := d.mio, irqA := d.irqA, irqB := d.irqB }) ∧
  (∀ (s : State) (p : Port) (v : Word), s.dev.calm = true → s.dev.takes p rMIO_REQ_CMD → s.dev.on fMIO_REQ_STS_BUSY = false →
    s.dev.mioOn = false →
      Completes (.mioReqInbox p v) s fun d =>
        d.mio.req = some (s.dev.get fMIO_REQ_DEST_FNID, mgmtBody 0 (fMIO_REQ_CMD_TAG.get v) 3 0 (fMIO_REQ_CMD_COUNT.get v) 0 (s.dev.get fMIO_REQ_ADDR_ADDR) (s.dev.reqData (fMIO_REQ_CMD_COUNT.get v))) ∧
        d.on fMIO_REQ_STS_BUSY = true ∧
        d.get fMIO_REQ_STS_RESULT = 0 ∧
        d.get fMIO_REQ_CMD_OP = 3 ∧
        d.get fMIO_REQ_CMD_TAG = fMIO_REQ_CMD_TAG.get v ∧
        (d.port p).code = 0 ∧
        s.dev.sameRegs d [rMIO_REQ_CMD, rMIO_REQ_STS] ∧
        d = { s.dev with regs := d.regs, ports := d.ports, mio := d.mio, irqA := d.irqA, irqB := d.irqB }) ∧
  (∀ (s : State) (p : Port) (v : Word) (f : Nat), s.dev.calm = true → s.dev.takes p rMIO_REQ_CMD →
    s.dev.on fMIO_REQ_STS_BUSY = false → s.dev.mioOn = true → f = s.dev.get fMIO_REQ_DEST_FNID → f ≠ 4095 →
    s.dev.mgmtMine f = true →
      Completes (.mioReqRead p v) s fun d =>
        d.handed = s.dev.handed ++ [{ sink := .mgmt, port := selfPort, bytes := mgmtFrame (s.dev.macAddr 0) (s.dev.macAddr 0) { hops := 255, flags := 0, origin := s.dev.fnid, mac := s.dev.macAddr 0, dest := f, seq := s.dev.mio.seqMgmt } (mgmtBody 0 (fMIO_REQ_CMD_TAG.get v) 1 0 (fMIO_REQ_CMD_COUNT.get v) 0 (s.dev.get fMIO_REQ_ADDR_ADDR) []) }] ∧
        d.on fMIO_REQ_STS_BUSY = true ∧
        d.mio.seqMgmt = (s.dev.mio.seqMgmt + 1) % 65536 ∧
        (d.port p).code = 0 ∧
        s.dev.sameRegs d [rMIO_REQ_CMD, rMIO_REQ_STS] ∧
        d = { s.dev with regs := d.regs, ports := d.ports, mio := d.mio, handed := d.handed, irqA := d.irqA, irqB := d.irqB }) ∧
  (∀ (s : State) (p : Port) (v : Word) (f : Nat), s.dev.calm = true → s.dev.takes p rMIO_REQ_CMD →
    s.dev.on fMIO_REQ_STS_BUSY = false → s.dev.mioOn = true → f = s.dev.get fMIO_REQ_DEST_FNID → f ≠ 4095 →
    s.dev.mgmtMine f = true →
      Completes (.mioReqWrite p v) s fun d =>
        d.handed = s.dev.handed ++ [{ sink := .mgmt, port := selfPort, bytes := mgmtFrame (s.dev.macAddr 0) (s.dev.macAddr 0) { hops := 255, flags := 0, origin := s.dev.fnid, mac := s.dev.macAddr 0, dest := f, seq := s.dev.mio.seqMgmt } (mgmtBody 0 (fMIO_REQ_CMD_TAG.get v) 2 0 (fMIO_REQ_CMD_COUNT.get v) 0 (s.dev.get fMIO_REQ_ADDR_ADDR) (s.dev.reqData (4 * fMIO_REQ_CMD_COUNT.get v))) }] ∧
        d.on fMIO_REQ_STS_BUSY = true ∧
        d.mio.seqMgmt = (s.dev.mio.seqMgmt + 1) % 65536 ∧
        (d.port p).code = 0 ∧
        s.dev.sameRegs d [rMIO_REQ_CMD, rMIO_REQ_STS] ∧
        d = { s.dev with regs := d.regs, ports := d.ports, mio := d.mio, handed := d.handed, irqA := d.irqA, irqB := d.irqB }) ∧
  (∀ (s : State) (p : Port) (v : Word) (f : Nat), s.dev.calm = true → s.dev.takes p rMIO_REQ_CMD →
    s.dev.on fMIO_REQ_STS_BUSY = false → s.dev.mioOn = true → f = s.dev.get fMIO_REQ_DEST_FNID → f ≠ 4095 →
    s.dev.mgmtMine f = true →
      Completes (.mioReqInbox p v) s fun d =>
        d.handed = s.dev.handed ++ [{ sink := .mgmt, port := selfPort, bytes := mgmtFrame (s.dev.macAddr 0) (s.dev.macAddr 0) { hops := 255, flags := 0, origin := s.dev.fnid, mac := s.dev.macAddr 0, dest := f, seq := s.dev.mio.seqMgmt } (mgmtBody 0 (fMIO_REQ_CMD_TAG.get v) 3 0 (fMIO_REQ_CMD_COUNT.get v) 0 (s.dev.get fMIO_REQ_ADDR_ADDR) (s.dev.reqData (fMIO_REQ_CMD_COUNT.get v))) }] ∧
        d.on fMIO_REQ_STS_BUSY = true ∧
        d.mio.seqMgmt = (s.dev.mio.seqMgmt + 1) % 65536 ∧
        (d.port p).code = 0 ∧
        s.dev.sameRegs d [rMIO_REQ_CMD, rMIO_REQ_STS] ∧
        d = { s.dev with regs := d.regs, ports := d.ports, mio := d.mio, handed := d.handed, irqA := d.irqA, irqB := d.irqB }) ∧
  (∀ (s : State) (h : Handed), s.dev.calm = true → s.dev.mioOn = true →
    (s.dev.handed.find? (fun x => x.sink == .response) = some h) → (mioHead h.bytes).dest ≠ 0 →
    (mioHead h.bytes).dest ≠ 4095 → s.dev.mgmtMine (mioHead h.bytes).dest = true → s.dev.on fMIO_REQ_STS_BUSY = true →
    beAt (mioBody h.bytes) 0 1 = 0 → s.dev.reqTag = some (beAt (mioBody h.bytes) 1 2) → s.dev.domOn 1 = true →
      Completes (.mgmtResponse) s fun d =>
        d.on fMIO_REQ_STS_BUSY = false ∧
        d.get fMIO_REQ_STS_RESULT = 1 ∧
        d.get fMIO_REQ_STS_STATUS = beAt (mioBody h.bytes) 4 1 ∧
        d.get fMIO_REQ_STS_INDEX = beAt (mioBody h.bytes) 6 1 ∧
        d.get fMIO_REQ_CMD_OP = 0 ∧
        d.mio.req = none ∧
        d.handed = s.dev.handed.erase h ∧
        s.dev.sameRegs d (rMIO_REQ_STS :: rMIO_REQ_CMD :: (List.range 60).map rMIO_RSPkk_DATA) ∧
        d = { s.dev with regs := d.regs, handed := d.handed, mio := d.mio, irqA := d.irqA, irqB := d.irqB }) ∧
  (∀ (s : State) (h : Handed), s.dev.calm = true → s.dev.mioOn = true →
    (s.dev.handed.find? (fun x => x.sink == .response) = some h) → (mioHead h.bytes).dest ≠ 0 →
    (mioHead h.bytes).dest ≠ 4095 → s.dev.mgmtMine (mioHead h.bytes).dest = true →
    (s.dev.on fMIO_REQ_STS_BUSY = false ∨ beAt (mioBody h.bytes) 0 1 ≠ 0 ∨ s.dev.reqTag ≠ some (beAt (mioBody h.bytes) 1 2)) →
    s.dev.domOn 1 = true →
      Completes (.mgmtResponse) s fun d =>
        (d.reg rMIO_LATE_RSP_CNT).toNat = min ((s.dev.reg rMIO_LATE_RSP_CNT).toNat + 1) (2 ^ 32 - 1) ∧
        d.handed = s.dev.handed.erase h ∧
        s.dev.sameRegs d [rMIO_LATE_RSP_CNT] ∧
        d = { s.dev with regs := d.regs, handed := d.handed, irqA := d.irqA, irqB := d.irqB }) ∧
  (∀ (s : State) (f : Nat) (b : List (BitVec 8)), s.dev.calm = true → s.dev.mioOn = true → s.dev.on fMIO_REQ_STS_BUSY = true →
    s.dev.mio.req = some (f, b) → f ≠ 4095 → s.dev.mgmtMine f = true → s.dev.domOn 1 = true →
      Completes (.mioReqRetx) s fun d =>
        (d.reg rMIO_REQ_RETX_CNT).toNat = min ((s.dev.reg rMIO_REQ_RETX_CNT).toNat + 1) (2 ^ 32 - 1) ∧
        (d.handed = s.dev.handed ++ [{ sink := (if isResponse b then .response else .mgmt), port := selfPort, bytes := mgmtFrame (s.dev.macAddr 0) (s.dev.macAddr 0) { hops := 255, flags := 0, origin := s.dev.fnid, mac := s.dev.macAddr 0, dest := f, seq := s.dev.mio.seqMgmt } b }]) ∧
        d.mio.req = s.dev.mio.req ∧
        s.dev.sameRegs d [rMIO_REQ_RETX_CNT] ∧
        d = { s.dev with regs := d.regs, handed := d.handed, mio := d.mio, irqA := d.irqA, irqB := d.irqB }) ∧
  (∀ (s : State), s.dev.calm = true → s.dev.on fMIO_REQ_STS_BUSY = true → s.dev.domOn 1 = true →
      Completes (.mioReqTimeout) s fun d =>
        d.on fMIO_REQ_STS_BUSY = false ∧
        d.get fMIO_REQ_STS_RESULT = 2 ∧
        d.get fMIO_REQ_CMD_OP = 0 ∧
        d.mio.req = none ∧
        (d.reg rMIO_REQ_TIMEOUT_CNT).toNat = min ((s.dev.reg rMIO_REQ_TIMEOUT_CNT).toNat + 1) (2 ^ 32 - 1) ∧
        s.dev.sameRegs d [rMIO_REQ_STS, rMIO_REQ_CMD, rMIO_REQ_TIMEOUT_CNT] ∧
        d = { s.dev with regs := d.regs, mio := d.mio, irqA := d.irqA, irqB := d.irqB }) ∧
  (∀ (s : State) (m : Meets) (h : Handed) (o : Nat) (t : List (BitVec 8)) (b : List (BitVec 8)), s.dev.calm = true →
    s.dev.mioOn = true → (s.dev.handed.find? (fun x => x.sink == .mgmt) = some h) → (mioHead h.bytes).dest ≠ 4095 →
    s.dev.mgmtMine (mioHead h.bytes).dest = true → b = mioBody h.bytes → o = (mioHead h.bytes).origin →
    ((splitRec o (beAt b 0 1) s.dev.mio.recs).1.bind (fun r => r.tags.lookup (beAt b 1 2)) = some t) → h.port = selfPort →
    s.dev.mgmtMine o = true → s.dev.domOn 1 = true →
      Completes (.mgmtRequest m false) s fun d =>
        (d.reg rMIO_REPLAY_CNT).toNat = min ((s.dev.reg rMIO_REPLAY_CNT).toNat + 1) (2 ^ 32 - 1) ∧
        (d.handed = s.dev.handed.erase h ++ [{ sink := (if isResponse t then .response else .mgmt), port := selfPort, bytes := mgmtFrame (s.dev.macAddr 0) (s.dev.macAddr 0) { hops := 255, flags := 0, origin := s.dev.fnid, mac := s.dev.macAddr 0, dest := o, seq := s.dev.mio.seqMgmt } t }]) ∧
        s.dev.sameRegs d [rMIO_REPLAY_CNT] ∧
        d = { s.dev with regs := d.regs, handed := d.handed, mio := d.mio, irqA := d.irqA, irqB := d.irqB }) ∧
  (∀ (s : State) (m : Meets) (h : Handed) (o : Nat) (b : List (BitVec 8)), s.dev.calm = true → s.dev.mioOn = true →
    (s.dev.handed.find? (fun x => x.sink == .mgmt) = some h) → (mioHead h.bytes).dest ≠ 4095 →
    s.dev.mgmtMine (mioHead h.bytes).dest = true → b = mioBody h.bytes → o = (mioHead h.bytes).origin →
    ((splitRec o (beAt b 0 1) s.dev.mio.recs).1.bind (fun r => r.tags.lookup (beAt b 1 2)) = none) → h.port = selfPort →
    s.dev.mgmtMine o = true → (beAt b 3 1 = 0 ∨ 4 ≤ beAt b 3 1) → s.dev.domOn 1 = true →
      Completes (.mgmtRequest m false) s fun d =>
        d.handed = s.dev.handed.erase h ++ [{ sink := .response, port := selfPort, bytes := mgmtFrame (s.dev.macAddr 0) (s.dev.macAddr 0) { hops := 255, flags := 0, origin := s.dev.fnid, mac := s.dev.macAddr 0, dest := o, seq := s.dev.mio.seqMgmt } (mgmtAnswer b 2 0 []) }] ∧
        (d.mio.recs.head?.map (fun r => (r.fnid, r.session, r.tags.head?)) = some (o, beAt b 0 1, some (beAt b 1 2, mgmtAnswer b 2 0 []))) ∧
        s.dev.sameRegs d [rMIO_REPLAY_EVICT_CNT] ∧
        d = { s.dev with regs := d.regs, handed := d.handed, mio := d.mio, irqA := d.irqA, irqB := d.irqB }) ∧
  (∀ (s : State) (tag : Nat), s.dev.calm = true → s.dev.reqTag ≠ some tag → s.dev.domOn 1 = true →
      Completes (.deadlineCancel .fabric tag) s fun d =>
        s.dev.sameRegs d [] ∧
        d = { s.dev with regs := d.regs, irqA := d.irqA, irqB := d.irqB }) ∧
  (∀ (s : State) (tag : Nat), s.dev.calm = true → s.dev.reqTag = some tag → s.dev.on fMIO_REQ_STS_BUSY = true →
    s.dev.domOn 1 = true →
      Completes (.deadlineCancel .fabric tag) s fun d =>
        d.on fMIO_REQ_STS_BUSY = false) ∧
  (∀ (s : State) (tag : Nat), s.dev.calm = true → (s.dev.on fMIO_REQ_STS_BUSY = false ∨ s.dev.reqTag ≠ some tag) →
    s.dev.domOn 1 = true →
      Completes (.lateResultDiscard .fabric tag) s fun d =>
        (d.reg rMIO_LATE_RSP_CNT).toNat = min ((s.dev.reg rMIO_LATE_RSP_CNT).toNat + 1) (2 ^ 32 - 1) ∧
        s.dev.sameRegs d [rMIO_LATE_RSP_CNT] ∧
        d = { s.dev with regs := d.regs, irqA := d.irqA, irqB := d.irqB })

/-- A stage bus port whose PLCA node number is below its node count starts with RUN = 1, LINK = 1 and PLCA inactive; else
EN stays 0 with code 1. A received frame is counted by the first check it fails: shorter than 64 bytes a runt, longer
than 1522 oversize, then the FCS. A good frame addressed to the port is counted and goes to its host queue without its
FCS; one that no consumer takes is counted as filtered. (R349, R353) -/
def Obligations.StageBusEnablesAndReceives : Prop :=
  (∀ (s : State) (p : Port) (v : Word), s.dev.calm = true → s.dev.takes p rT1S_CFG → s.dev.on fT1S_CFG_EN = false →
    (s.dev.on fT1S_PLCA_CFG_PLCA_EN = true → s.dev.get fT1S_PLCA_CFG_NODE_ID < s.dev.t1sNodes) →
      Completes (.t1sEnable p v) s fun d =>
        d.on fT1S_CFG_EN = true ∧
        d.on fT1S_STS_RUN = true ∧
        d.on fT1S_STS_LINK = true ∧
        d.on fT1S_STS_PLCA_ACTIVE = false ∧
        d.on fT1S_STS_CFG_ERR = false ∧
        (d.port p).code = 0 ∧
        s.dev.sameRegs d [rT1S_CFG, rT1S_STS] ∧
        d = { s.dev with regs := d.regs, ports := d.ports, irqA := d.irqA, irqB := d.irqB }) ∧
  (∀ (s : State) (p : Port) (v : Word), s.dev.calm = true → s.dev.takes p rT1S_CFG → s.dev.on fT1S_CFG_EN = false →
    s.dev.on fT1S_PLCA_CFG_PLCA_EN = true → s.dev.t1sNodes ≤ s.dev.get fT1S_PLCA_CFG_NODE_ID →
      Completes (.t1sEnable p v) s fun d =>
        d.on fT1S_CFG_EN = false ∧
        d.on fT1S_STS_CFG_ERR = true ∧
        d.get fT1S_STS_ERR_CODE = 1 ∧
        (d.reg rNET_REFUSE_CNT).toNat = min ((s.dev.reg rNET_REFUSE_CNT).toNat + 1) (2 ^ 32 - 1) ∧
        (d.port p).code = 0 ∧
        s.dev.sameRegs d [rT1S_CFG, rT1S_STS, rNET_REFUSE_CNT] ∧
        d = { s.dev with regs := d.regs, ports := d.ports, irqA := d.irqA, irqB := d.irqB }) ∧
  (∀ (s : State) (b : List (BitVec 8)) (q : Nat), s.dev.calm = true → s.dev.t1sOn = true → 60 ≤ b.length → b.length ≤ 1518 →
    dstOf b = s.dev.t1sMac → beAt b 12 2 ≠ 0x88B5 → etherType b ≠ 0x88B6 → isE131 b = false → q = s.dev.get fT1S_CFG_RXQ →
    s.dev.domOn 13 = true →
      Completes (.t1sFrameReceive { bytes := b ++ fcsOf b }) s fun d =>
        (d.reg rT1S_RX_FRAME_CNT).toNat = min ((s.dev.reg rT1S_RX_FRAME_CNT).toNat + 1) (2 ^ 32 - 1) ∧
        d.hq = (s.dev.hqPush q 1 b).hq ∧
        s.dev.sameRegs d (rT1S_RX_FRAME_CNT :: [rHQnn_WM_CROSS_CNT q, rHQnn_DISC_CNT q, rHQnn_LOST_CNT q, rHQnn_TORN_CNT q, rHQnn_REJECT_CNT q, rINT_INJ_CMD]) ∧
        d = { s.dev with regs := d.regs, hq := d.hq, poison := d.poison, integ := d.integ, irqA := d.irqA, irqB := d.irqB }) ∧
  (∀ (s : State) (b : List (BitVec 8)), s.dev.calm = true → s.dev.t1sOn = true → 60 ≤ b.length → b.length ≤ 1518 →
    dstOf b ≠ s.dev.t1sMac → dstOf b ≠ broadcast → s.dev.on fT1S_CFG_PROMISC = false → beAt b 12 2 ≠ 0x88B5 →
    etherType b ≠ 0x88B6 → isE131 b = false → s.dev.domOn 13 = true →
      Completes (.t1sFrameReceive { bytes := b ++ fcsOf b }) s fun d =>
        (d.reg rT1S_RX_FRAME_CNT).toNat = min ((s.dev.reg rT1S_RX_FRAME_CNT).toNat + 1) (2 ^ 32 - 1) ∧
        (d.reg rT1S_RX_FILTER_CNT).toNat = min ((s.dev.reg rT1S_RX_FILTER_CNT).toNat + 1) (2 ^ 32 - 1) ∧
        s.dev.sameRegs d [rT1S_RX_FRAME_CNT, rT1S_RX_FILTER_CNT] ∧
        d = { s.dev with regs := d.regs, irqA := d.irqA, irqB := d.irqB }) ∧
  (∀ (s : State) (b : List (BitVec 8)), s.dev.calm = true → s.dev.t1sOn = true → b.length < 64 → s.dev.domOn 13 = true →
      Completes (.t1sFrameReceive { bytes := b }) s fun d =>
        (d.reg rT1S_RX_RUNT_CNT).toNat = min ((s.dev.reg rT1S_RX_RUNT_CNT).toNat + 1) (2 ^ 32 - 1) ∧
        s.dev.sameRegs d [rT1S_RX_RUNT_CNT] ∧
        d = { s.dev with regs := d.regs, irqA := d.irqA, irqB := d.irqB }) ∧
  (∀ (s : State) (b : List (BitVec 8)), s.dev.calm = true → s.dev.t1sOn = true → 1522 < b.length → s.dev.domOn 13 = true →
      Completes (.t1sFrameReceive { bytes := b }) s fun d =>
        (d.reg rT1S_RX_OVERSIZE_CNT).toNat = min ((s.dev.reg rT1S_RX_OVERSIZE_CNT).toNat + 1) (2 ^ 32 - 1) ∧
        s.dev.sameRegs d [rT1S_RX_OVERSIZE_CNT] ∧
        d = { s.dev with regs := d.regs, irqA := d.irqA, irqB := d.irqB }) ∧
  (∀ (s : State) (b : List (BitVec 8)), s.dev.calm = true → s.dev.t1sOn = true → 64 ≤ b.length → b.length ≤ 1522 →
    b.drop (b.length - 4) ≠ fcsOf (b.take (b.length - 4)) → s.dev.domOn 13 = true →
      Completes (.t1sFrameReceive { bytes := b }) s fun d =>
        (d.reg rT1S_RX_FCS_ERR_CNT).toNat = min ((s.dev.reg rT1S_RX_FCS_ERR_CNT).toNat + 1) (2 ^ 32 - 1) ∧
        s.dev.sameRegs d [rT1S_RX_FCS_ERR_CNT] ∧
        d = { s.dev with regs := d.regs, irqA := d.irqA, irqB := d.irqB })

/-- A BEACON makes PLCA active and starts a new cycle. A transmit opportunity, and under CSMA/CD the end of the deferral,
puts the head of the cue queue on the wire, else the head of the management queue. Without BEACONs a node other than
the coordinator falls back to CSMA/CD and counts it. A collision before the 16th attempt backs off by the drawn value
modulo 2 to the lower of the attempt and 10, with PLCA active it waits for the next opportunity; a late one without
PLCA, the 16th, and one of a cue frame past its deadline discard the frame, the last counted as dropped too. A frame
that has left is counted. (R351, R352, R353, R354, R355) -/
def Obligations.StageBusSendsAndBacksOff : Prop :=
  (∀ (s : State), s.dev.calm = true → s.dev.t1sOn = true → s.dev.on fT1S_PLCA_CFG_PLCA_EN = true → s.dev.domOn 13 = true →
      Completes (.beacon) s fun d =>
        d.on fT1S_STS_PLCA_ACTIVE = true ∧
        d.t1s = { s.dev.t1s with backoff := none, burst := 0 } ∧
        s.dev.sameRegs d [rT1S_STS] ∧
        d = { s.dev with regs := d.regs, t1s := d.t1s, irqA := d.irqA, irqB := d.irqB }) ∧
  (∀ (s : State) (f : T1sFrame) (q : List T1sFrame), s.dev.calm = true → s.dev.t1sOn = true → s.dev.plca = true →
    s.dev.t1s.onWire = false → s.dev.t1s.tx = none → s.dev.t1s.cueQ = f :: q → s.dev.domOn 13 = true →
      Completes (.transmitOpportunity false) s fun d =>
        d.t1s = { s.dev.t1s with tx := some f, cols := 0, onWire := true, cueQ := q, burst := 0 } ∧
        s.dev.sameRegs d [] ∧
        d = { s.dev with regs := d.regs, t1s := d.t1s, irqA := d.irqA, irqB := d.irqB }) ∧
  (∀ (s : State) (f : T1sFrame) (q : List T1sFrame), s.dev.calm = true → s.dev.t1sOn = true → s.dev.plca = true →
    s.dev.t1s.onWire = false → s.dev.t1s.tx = none → s.dev.t1s.cueQ = [] → s.dev.t1s.mgmtQ = f :: q →
    s.dev.domOn 13 = true →
      Completes (.transmitOpportunity false) s fun d =>
        d.t1s = { s.dev.t1s with tx := some f, cols := 0, onWire := true, mgmtQ := q, burst := 0 } ∧
        s.dev.sameRegs d [] ∧
        d = { s.dev with regs := d.regs, t1s := d.t1s, irqA := d.irqA, irqB := d.irqB }) ∧
  (∀ (s : State) (f : T1sFrame) (q : List T1sFrame), s.dev.calm = true → s.dev.t1sOn = true → s.dev.plca = true →
    s.dev.t1s.onWire = false → s.dev.t1s.tx = none → s.dev.t1s.cueQ = f :: q → 1 ≤ s.dev.t1s.burst →
    s.dev.t1s.burst ≤ s.dev.get fT1S_PLCA_BURST_MAX_BURST → s.dev.domOn 13 = true →
      Completes (.transmitOpportunity true) s fun d =>
        d.t1s = { s.dev.t1s with tx := some f, cols := 0, onWire := true, cueQ := q } ∧
        s.dev.sameRegs d [] ∧
        d = { s.dev with regs := d.regs, t1s := d.t1s, irqA := d.irqA, irqB := d.irqB }) ∧
  (∀ (s : State), s.dev.calm = true → s.dev.t1sOn = true → s.dev.plca = true → s.dev.t1s.onWire = false →
    (s.dev.get fT1S_PLCA_BURST_MAX_BURST < s.dev.t1s.burst ∨ s.dev.t1s.burst = 0) → s.dev.domOn 13 = true →
      Completes (.transmitOpportunity true) s fun d =>
        s.dev.sameRegs d [] ∧
        d = { s.dev with regs := d.regs, irqA := d.irqA, irqB := d.irqB }) ∧
  (∀ (s : State), s.dev.calm = true → s.dev.t1sOn = true → s.dev.plca = true → s.dev.get fT1S_PLCA_CFG_NODE_ID ≠ 0 →
    s.dev.domOn 13 = true →
      Completes (.beaconLoss) s fun d =>
        d.on fT1S_STS_PLCA_ACTIVE = false ∧
        (d.reg rT1S_BEACON_LOSS_CNT).toNat = min ((s.dev.reg rT1S_BEACON_LOSS_CNT).toNat + 1) (2 ^ 32 - 1) ∧
        s.dev.sameRegs d [rT1S_STS, rT1S_BEACON_LOSS_CNT] ∧
        d = { s.dev with regs := d.regs, irqA := d.irqA, irqB := d.irqB }) ∧
  (∀ (s : State) (f : T1sFrame) (l : Bool) (r : BitVec 16), s.dev.calm = true → s.dev.t1s.tx = some f →
    s.dev.t1s.onWire = true → (l = false ∨ s.dev.plca = true) → s.dev.t1s.cols < 15 → s.dev.cueFramePast f.cue = false →
    s.dev.domOn 13 = true →
      Completes (.collision l r) s fun d =>
        (d.t1s = { s.dev.t1s with cols := s.dev.t1s.cols + 1, onWire := false, backoff := if s.dev.plca then none else some (r.toNat % 2 ^ min (s.dev.t1s.cols + 1) 10), burst := if s.dev.plca then 0 else s.dev.t1s.burst }) ∧
        (d.reg rT1S_COL_CNT).toNat = min ((s.dev.reg rT1S_COL_CNT).toNat + 1) (2 ^ 32 - 1) ∧
        s.dev.sameRegs d [rT1S_COL_CNT] ∧
        d = { s.dev with regs := d.regs, t1s := d.t1s, irqA := d.irqA, irqB := d.irqB }) ∧
  (∀ (s : State) (f : T1sFrame) (l : Bool) (r : BitVec 16), s.dev.calm = true → s.dev.t1s.tx = some f →
    s.dev.t1s.onWire = true → (l = false ∨ s.dev.plca = true) → 15 ≤ s.dev.t1s.cols → s.dev.cueFramePast f.cue = false →
    s.dev.domOn 13 = true →
      Completes (.collision l r) s fun d =>
        d.t1s.tx = none ∧
        d.t1s.onWire = false ∧
        (d.reg rT1S_COL_CNT).toNat = min ((s.dev.reg rT1S_COL_CNT).toNat + 1) (2 ^ 32 - 1) ∧
        (d.reg rT1S_EXCESS_COL_CNT).toNat = min ((s.dev.reg rT1S_EXCESS_COL_CNT).toNat + 1) (2 ^ 32 - 1) ∧
        s.dev.sameRegs d [rT1S_COL_CNT, rT1S_EXCESS_COL_CNT] ∧
        d = { s.dev with regs := d.regs, t1s := d.t1s, cue := d.cue, irqA := d.irqA, irqB := d.irqB }) ∧
  (∀ (s : State) (f : T1sFrame) (r : BitVec 16), s.dev.calm = true → s.dev.t1s.tx = some f → s.dev.t1s.onWire = true →
    s.dev.plca = false → s.dev.cueFramePast f.cue = false → s.dev.domOn 13 = true →
      Completes (.collision true r) s fun d =>
        d.t1s.tx = none ∧
        d.t1s.onWire = false ∧
        (d.reg rT1S_COL_CNT).toNat = min ((s.dev.reg rT1S_COL_CNT).toNat + 1) (2 ^ 32 - 1) ∧
        (d.reg rT1S_LATE_COL_CNT).toNat = min ((s.dev.reg rT1S_LATE_COL_CNT).toNat + 1) (2 ^ 32 - 1) ∧
        s.dev.sameRegs d [rT1S_COL_CNT, rT1S_LATE_COL_CNT] ∧
        d = { s.dev with regs := d.regs, t1s := d.t1s, cue := d.cue, irqA := d.irqA, irqB := d.irqB }) ∧
  (∀ (s : State) (f : T1sFrame) (l : Bool) (r : BitVec 16), s.dev.calm = true → s.dev.t1s.tx = some f →
    s.dev.t1s.onWire = true → s.dev.cueFramePast f.cue = true → s.dev.domOn 13 = true →
      Completes (.collision l r) s fun d =>
        d.t1s.tx = none ∧
        d.t1s.onWire = false ∧
        (d.reg rT1S_COL_CNT).toNat = min ((s.dev.reg rT1S_COL_CNT).toNat + 1) (2 ^ 32 - 1) ∧
        (d.reg rT1S_TX_CANCEL_CNT).toNat = min ((s.dev.reg rT1S_TX_CANCEL_CNT).toNat + 1) (2 ^ 32 - 1) ∧
        (d.reg rCUE_FRAME_DROP_CNT).toNat = min ((s.dev.reg rCUE_FRAME_DROP_CNT).toNat + 1) (2 ^ 32 - 1) ∧
        s.dev.sameRegs d [rT1S_COL_CNT, rT1S_EXCESS_COL_CNT, rT1S_LATE_COL_CNT, rT1S_TX_CANCEL_CNT, rCUE_FRAME_DROP_CNT] ∧
        d = { s.dev with regs := d.regs, t1s := d.t1s, cue := d.cue, irqA := d.irqA, irqB := d.irqB }) ∧
  (∀ (s : State), s.dev.calm = true → s.dev.domOn 13 = true →
      Completes (.backoffEnd) s fun d =>
        d.t1s = { s.dev.t1s with backoff := none } ∧
        s.dev.sameRegs d [] ∧
        d = { s.dev with regs := d.regs, t1s := d.t1s, irqA := d.irqA, irqB := d.irqB }) ∧
  (∀ (s : State) (f : T1sFrame) (q : List T1sFrame), s.dev.calm = true → s.dev.t1sOn = true → s.dev.plca = false →
    s.dev.t1s.onWire = false → s.dev.t1s.backoff = none → s.dev.t1s.tx = none → s.dev.t1s.cueQ = f :: q →
    s.dev.domOn 13 = true →
      Completes (.deferEnd) s fun d =>
        d.t1s = { s.dev.t1s with tx := some f, cols := 0, onWire := true, cueQ := q } ∧
        s.dev.sameRegs d [] ∧
        d = { s.dev with regs := d.regs, t1s := d.t1s, irqA := d.irqA, irqB := d.irqB }) ∧
  (∀ (s : State) (f : T1sFrame), s.dev.calm = true → s.dev.t1sOn = true → s.dev.plca = false → s.dev.t1s.onWire = false →
    s.dev.t1s.backoff = none → s.dev.t1s.tx = some f → s.dev.domOn 13 = true →
      Completes (.deferEnd) s fun d =>
        d.t1s = { s.dev.t1s with onWire := true } ∧
        s.dev.sameRegs d [] ∧
        d = { s.dev with regs := d.regs, t1s := d.t1s, irqA := d.irqA, irqB := d.irqB }) ∧
  (∀ (s : State) (f : T1sFrame), s.dev.calm = true → s.dev.t1s.tx = some f → s.dev.t1s.onWire = true → s.dev.domOn 13 = true →
      Completes (.frameTxComplete 4) s fun d =>
        d.t1s = { s.dev.t1s with tx := none, cols := 0, onWire := false, backoff := none, burst := s.dev.t1s.burst + 1 } ∧
        (d.reg rT1S_TX_FRAME_CNT).toNat = min ((s.dev.reg rT1S_TX_FRAME_CNT).toNat + 1) (2 ^ 32 - 1) ∧
        s.dev.sameRegs d [rT1S_TX_FRAME_CNT] ∧
        d = { s.dev with regs := d.regs, t1s := d.t1s, cue := d.cue, irqA := d.irqA, irqB := d.irqB })

/-- An enabled engine holds every comparator from TCMP_BASE on, TCMP_NUM of them, and each cue is PENDING at its target if
it is a time cue, else IDLE. A bad count or range is refused with code 1, a comparator held by another with code 2.
Disabling ends every DMX packet run, the timecode and the comparators, and forgets what waited. A table command
writes, reads, arms or disarms one cue; a write changes no other byte of memory. (R36, R357, R361, R378, R379) -/
def Obligations.CuesAreEnabledAndEdited : Prop :=
  (∀ (s : State) (p : Port) (v : Word) (b : Nat) (k : Nat), s.dev.calm = true → s.dev.takes p rCUE_CFG →
    s.dev.on fCUE_CFG_EN = false → b = fCUE_CFG_TCMP_BASE.get v → k = fCUE_CFG_TCMP_NUM.get v → 1 ≤ k → k ≤ 8 → b + k ≤ 64 →
    (∀ t ∈ List.range 64, b ≤ t → t < b + k → s.dev.get (fTIME_TCMPnn_OWNER_OWNER t) = 0 ∧ s.dev.tcmpPrio t = 0) →
    s.dev.sound = true →
      Completes (.cueEnable p v) s fun d =>
        d.on fCUE_CFG_EN = true ∧
        d.cueOn = true ∧
        d.on fCUE_STS_CFG_ERR = false ∧
        (∀ t ∈ List.range 64, b ≤ t → t < b + k → d.get (fTIME_TCMPnn_OWNER_OWNER t) = 0x20) ∧
        (∀ c ∈ List.range 4096, d.cueSt c = (if s.dev.cueHas c 1 then ({ state := 1, due := s.dev.cueTarget c } : CueSt) else ({} : CueSt))) ∧
        d.cue.trigs = [] ∧
        (d.port p).code = 0 ∧
        (s.dev.sameRegs d (rCUE_CFG :: rCUE_STS :: ((List.range k).flatMap fun n => [rTIME_TCMPnn_OWNER (b + n), rTIME_TCMPnn_STS (b + n)]))) ∧
        d = { s.dev with regs := d.regs, ports := d.ports, cue := d.cue, time := d.time, irqA := d.irqA, irqB := d.irqB }) ∧
  (∀ (s : State) (p : Port) (v : Word) (b : Nat) (k : Nat), s.dev.calm = true → s.dev.takes p rCUE_CFG →
    s.dev.on fCUE_CFG_EN = false → b = fCUE_CFG_TCMP_BASE.get v → k = fCUE_CFG_TCMP_NUM.get v →
    (k = 0 ∨ 8 < k ∨ 64 < b + k) →
      Completes (.cueEnable p v) s fun d =>
        d.on fCUE_CFG_EN = false ∧
        d.on fCUE_STS_CFG_ERR = true ∧
        d.get fCUE_STS_ERR_CODE = 1 ∧
        (d.reg rCUE_REFUSE_CNT).toNat = min ((s.dev.reg rCUE_REFUSE_CNT).toNat + 1) (2 ^ 32 - 1) ∧
        (d.port p).code = 0 ∧
        s.dev.sameRegs d [rCUE_CFG, rCUE_STS, rCUE_REFUSE_CNT] ∧
        d = { s.dev with regs := d.regs, ports := d.ports, irqA := d.irqA, irqB := d.irqB }) ∧
  (∀ (s : State) (p : Port) (v : Word) (b : Nat) (k : Nat) (t : Nat), s.dev.calm = true → s.dev.takes p rCUE_CFG →
    s.dev.on fCUE_CFG_EN = false → b = fCUE_CFG_TCMP_BASE.get v → k = fCUE_CFG_TCMP_NUM.get v → 1 ≤ k → k ≤ 8 → b + k ≤ 64 →
    b ≤ t → t < b + k → s.dev.get (fTIME_TCMPnn_OWNER_OWNER t) ≠ 0 → s.dev.get (fTIME_TCMPnn_OWNER_OWNER t) ≠ 0x20 →
      Completes (.cueEnable p v) s fun d =>
        d.on fCUE_CFG_EN = false ∧
        d.on fCUE_STS_CFG_ERR = true ∧
        d.get fCUE_STS_ERR_CODE = 2 ∧
        (d.reg rCUE_REFUSE_CNT).toNat = min ((s.dev.reg rCUE_REFUSE_CNT).toNat + 1) (2 ^ 32 - 1) ∧
        d.get (fTIME_TCMPnn_OWNER_OWNER t) = s.dev.get (fTIME_TCMPnn_OWNER_OWNER t) ∧
        (d.port p).code = 0 ∧
        (s.dev.sameRegs d (rCUE_CFG :: rCUE_STS :: rCUE_REFUSE_CNT :: rTIME_TCMP_CONFLICT :: ((List.range k).flatMap fun n => [rTIME_TCMPnn_OWNER (b + n), rTIME_TCMPnn_STS (b + n), rTIME_TCMPnn_FIRE_CNT (b + n)]))) ∧
        d = { s.dev with regs := d.regs, ports := d.ports, time := d.time, irqA := d.irqA, irqB := d.irqB }) ∧
  (∀ (s : State) (p : Port) (v : Word), s.dev.calm = true → s.dev.takes p rCUE_CFG → s.dev.on fCUE_CFG_EN = true →
      Completes (.cueDisable p v) s fun d =>
        d.on fCUE_CFG_EN = false ∧
        d.cueOn = false ∧
        d.cue.trigs = [] ∧
        d.cue.armed = [] ∧
        d.cue.ltc.start = false ∧
        d.t1s.cueQ = [] ∧
        (∀ q ∈ List.range 4, (d.dmx q).run = false) ∧
        (∀ t ∈ List.range 64, t ∈ s.dev.cueTcmps → d.get (fTIME_TCMPnn_OWNER_OWNER t) ≠ 0x20) ∧
        (d.port p).code = 0 ∧
        (s.dev.sameRegs d (rCUE_CFG :: rCUE_STS :: rCUE_FRAME_DROP_CNT :: rGLB_IGN_CNT :: rGLB_IGN_OVF_CNT :: (s.dev.cueTcmps.flatMap fun n => [rTIME_TCMPnn_OWNER n, rTIME_TCMPnn_STS n, rTIME_TCMPnn_FIRE_CNT n]))) ∧
        d = { s.dev with regs := d.regs, ports := d.ports, cue := d.cue, time := d.time, t1s := d.t1s, net := d.net, ign := d.ign, irqA := d.irqA, irqB := d.irqB }) ∧
  (∀ (s : State) (p : Port) (v : Word) (c : Nat), s.dev.calm = true → s.dev.takes p rCUE_TBL_CMD →
    c = fCUE_TBL_CMD_CUE.get v → s.dev.integ.dead = [] → s.dev.integ.stuck = [] → s.dev.injDue 3 = false →
      Completes (.cueTblWrite p v) s fun d =>
        (∀ i ∈ List.range 16, readWord32 d.tbl (cueBase c + 4 * i) = (s.dev.reg (rCUE_TBL_DATAk i)).toNat) ∧
        Dev.sameMemBut s.dev d (cueBase c) 64 ∧
        d.get fCUE_TBL_STS_RESULT = 1 ∧
        d.cueSt c = d.cueStart c ∧
        (d.port p).code = 0 ∧
        (s.dev.sameRegs d (rCUE_TBL_CMD :: rCUE_TBL_STS :: rCUE_TBL_REFUSE_CNT :: rINT_INJ_CMD :: (s.dev.cueTcmps.flatMap (fun n => [rTIME_TCMPnn_STS n, rTIME_TCMPnn_FIRE_CNT n])))) ∧
        d = { s.dev with regs := d.regs, ports := d.ports, tbl := d.tbl, poison := d.poison, integ := d.integ, cue := d.cue, time := d.time, irqA := d.irqA, irqB := d.irqB }) ∧
  (∀ (s : State) (p : Port) (v : Word) (c : Nat), s.dev.calm = true → s.dev.takes p rCUE_TBL_CMD →
    c = fCUE_TBL_CMD_CUE.get v →
      Completes (.cueTblRead p v) s fun d =>
        (∀ i ∈ List.range 16, (d.reg (rCUE_TBL_DATAk i)).toNat = readWord32 s.dev.tbl (cueBase c + 4 * i)) ∧
        d.get fCUE_TBL_STS_STATE = (s.dev.cueSt c).state % 4 ∧
        d.get fCUE_TBL_STS_RESULT = 1 ∧
        (d.port p).code = 0 ∧
        (s.dev.sameRegs d (rCUE_TBL_CMD :: rCUE_TBL_STS :: ((List.range 16).map rCUE_TBL_DATAk ++ s.dev.cueTcmps.flatMap (fun n => [rTIME_TCMPnn_STS n, rTIME_TCMPnn_FIRE_CNT n])))) ∧
        d = { s.dev with regs := d.regs, ports := d.ports, cue := d.cue, time := d.time, irqA := d.irqA, irqB := d.irqB }) ∧
  (∀ (s : State) (p : Port) (v : Word) (c : Nat), s.dev.calm = true → s.dev.takes p rCUE_TBL_CMD →
    c = fCUE_TBL_CMD_CUE.get v → s.dev.sound = true →
      Completes (.cueTblArm p v) s fun d =>
        (d.cueSt c = (if s.dev.cueHas c 1 then ({ state := 1, due := s.dev.cueTarget c } : CueSt) else ({} : CueSt))) ∧
        d.get fCUE_TBL_STS_RESULT = 1 ∧
        (d.port p).code = 0 ∧
        (s.dev.sameRegs d (rCUE_TBL_CMD :: rCUE_TBL_STS :: (s.dev.cueTcmps.flatMap (fun n => [rTIME_TCMPnn_STS n, rTIME_TCMPnn_FIRE_CNT n])))) ∧
        d = { s.dev with regs := d.regs, ports := d.ports, cue := d.cue, time := d.time, irqA := d.irqA, irqB := d.irqB }) ∧
  (∀ (s : State) (p : Port) (v : Word) (c : Nat), s.dev.calm = true → s.dev.takes p rCUE_TBL_CMD →
    c = fCUE_TBL_CMD_CUE.get v →
      Completes (.cueTblDisarm p v) s fun d =>
        d.cueSt c = { state := 2 } ∧
        d.get fCUE_TBL_STS_RESULT = 1 ∧
        (d.port p).code = 0 ∧
        (s.dev.sameRegs d (rCUE_TBL_CMD :: rCUE_TBL_STS :: (s.dev.cueTcmps.flatMap (fun n => [rTIME_TCMPnn_STS n, rTIME_TCMPnn_FIRE_CNT n])))) ∧
        d = { s.dev with regs := d.regs, ports := d.ports, cue := d.cue, time := d.time, irqA := d.irqA, irqB := d.irqB })

/-- A trigger that reaches an IDLE cue makes it PENDING, due now or after its delay; one that reaches another cue is only
counted. A cue whose due time is reached fires once: it is counted, captured in CUE_LAST while that is empty, counted
late past 100 ns, runs its actions, and is DONE, IDLE or PENDING one period later; past its window it expires and does
nothing; one with a word that holds an uncorrectable error does nothing and is IDLE (a choice of the model, log entry
218). A pin action sets the output pins of its mask, an LTC action starts or stops the timecode, a DMX action starts
an enabled port, and an action of a reserved kind is skipped with code 1. (R357, R358, R359, R360, R363, R364, R367,
R371) -/
def Obligations.CuesAreTriggeredAndFire : Prop :=
  (∀ (s : State) (t : Nat) (c : Nat) (l : List CueTrig), s.dev.calm = true → s.dev.cueOn = true → s.dev.sound = true →
    c < 4096 → s.dev.cue.trigs = .event t :: l → s.dev.cueHas c 2 = true → s.dev.cueParam c % 256 = t →
    (s.dev.cueSt c).state = 0 → s.dev.domOn 1 = true →
      Completes (.cueTrigger) s fun d =>
        d.cue.trigs = l ∧
        d.cueSt c = { state := 1, due := s.dev.cueDue c s.dev.ft64 } ∧
        (s.dev.sameRegs d (rCUE_RETRIG_CNT :: (s.dev.cueTcmps.flatMap (fun n => [rTIME_TCMPnn_STS n, rTIME_TCMPnn_FIRE_CNT n])))) ∧
        d = { s.dev with regs := d.regs, cue := d.cue, time := d.time, irqA := d.irqA, irqB := d.irqB }) ∧
  (∀ (s : State) (c : Nat) (l : List CueTrig), s.dev.calm = true → s.dev.cueOn = true → s.dev.sound = true → c < 4096 →
    s.dev.cue.trigs = .cue c :: l → s.dev.cueHas c 4 = true → (s.dev.cueSt c).state ≠ 0 → s.dev.domOn 1 = true →
      Completes (.cueTrigger) s fun d =>
        d.cue.trigs = l ∧
        d.cue.cues = s.dev.cue.cues ∧
        (d.reg rCUE_RETRIG_CNT).toNat = min ((s.dev.reg rCUE_RETRIG_CNT).toNat + 1) (2 ^ 32 - 1) ∧
        (s.dev.sameRegs d (rCUE_RETRIG_CNT :: (s.dev.cueTcmps.flatMap (fun n => [rTIME_TCMPnn_STS n, rTIME_TCMPnn_FIRE_CNT n])))) ∧
        d = { s.dev with regs := d.regs, cue := d.cue, time := d.time, irqA := d.irqA, irqB := d.irqB }) ∧
  (∀ (s : State) (k : Fin 16) (b : Bool) (c : Nat), s.dev.calm = true → s.dev.cueOn = true → s.dev.sound = true → c < 4096 →
    s.dev.pinDir k.val = 2 → (s.dev.cueIn.toNat / 2 ^ k.val % 2 == 1) = !b → s.dev.cueHas c 3 = true →
    s.dev.cueParam c % 16 = k.val → (s.dev.cueParam c / 256 / (if b then 1 else 2) % 2 = 1) → (s.dev.cueSt c).state = 0 →
      Completes (.cuePinEdge k b) s fun d =>
        (d.cueIn.toNat / 2 ^ k.val % 2 == 1) = b ∧
        d.cueSt c = { state := 1, due := s.dev.cueDue c s.dev.ft64 } ∧
        (s.dev.sameRegs d (rCUE_RETRIG_CNT :: (s.dev.cueTcmps.flatMap (fun n => [rTIME_TCMPnn_STS n, rTIME_TCMPnn_FIRE_CNT n])))) ∧
        d = { s.dev with regs := d.regs, cue := d.cue, time := d.time, cueIn := d.cueIn, irqA := d.irqA, irqB := d.irqB }) ∧
  (∀ (s : State) (k : Fin 16) (b : Bool), s.dev.calm = true → s.dev.pinDir k.val ≠ 2 →
      Completes (.cuePinEdge k b) s fun d =>
        (d.cueIn.toNat / 2 ^ k.val % 2 == 1) = b ∧
        s.dev.sameRegs d [] ∧
        d = { s.dev with regs := d.regs, cueIn := d.cueIn, irqA := d.irqA, irqB := d.irqB }) ∧
  (∀ (s : State) (p : Port) (v : Word) (c : Nat), s.dev.calm = true → s.dev.takes p rCUE_GO → s.dev.cueOn = true →
    s.dev.sound = true → c = fCUE_GO_CUE.get v → s.dev.cueHas c 5 = true → (s.dev.cueSt c).state = 0 →
      Completes (.cueGo p v) s fun d =>
        d.cueSt c = { state := 1, due := s.dev.cueDue c s.dev.ft64 } ∧
        (d.port p).code = 0 ∧
        (s.dev.sameRegs d (rCUE_GO :: (s.dev.cueTcmps.flatMap (fun n => [rTIME_TCMPnn_STS n, rTIME_TCMPnn_FIRE_CNT n])))) ∧
        d = { s.dev with regs := d.regs, ports := d.ports, cue := d.cue, time := d.time, irqA := d.irqA, irqB := d.irqB }) ∧
  (∀ (s : State) (p : Port) (v : Word) (c : Nat), s.dev.calm = true → s.dev.takes p rCUE_GO → s.dev.cueOn = true →
    s.dev.sound = true → c = fCUE_GO_CUE.get v → s.dev.cueHas c 5 = true → (s.dev.cueSt c).state ≠ 0 →
      Completes (.cueGo p v) s fun d =>
        (d.reg rCUE_RETRIG_CNT).toNat = min ((s.dev.reg rCUE_RETRIG_CNT).toNat + 1) (2 ^ 32 - 1) ∧
        d.cue.cues = s.dev.cue.cues ∧
        (d.port p).code = 0 ∧
        (s.dev.sameRegs d (rCUE_GO :: rCUE_RETRIG_CNT :: (s.dev.cueTcmps.flatMap (fun n => [rTIME_TCMPnn_STS n, rTIME_TCMPnn_FIRE_CNT n])))) ∧
        d = { s.dev with regs := d.regs, ports := d.ports, cue := d.cue, time := d.time, irqA := d.irqA, irqB := d.irqB }) ∧
  (∀ (s : State) (c : Nat) (w : Nat), s.dev.calm = true → s.dev.cueOn = true → s.dev.sound = true → c < 4096 →
    0 ≤ sdiff64 s.dev.ft64 (s.dev.cueSt c).due → s.dev.cuesPending = [(c, s.dev.cueSt c)] →
    (s.dev.cueWindow c = 0 ∨ sdiff64 s.dev.ft64 (s.dev.cueSt c).due ≤ s.dev.cueWindow c * 1000) →
    (∀ i ∈ [4, 5, 6, 7], s.dev.cueWord c i = 0) → w = s.dev.cueWord c 3 → w / 2 ^ 60 = 3 →
    (∀ i ∈ List.range 16, w / 2 ^ (16 + i) % 2 = 1 → s.dev.pinDir i = 1) → s.dev.domOn 1 = true →
      Completes (.cueFire) s fun d =>
        d.on fCUE_LAST_VALID = true ∧
        (s.dev.on fCUE_LAST_VALID = false → d.get fCUE_LAST_CUE = c) ∧
        (d.reg rCUE_FIRE_CNT).toNat = min ((s.dev.reg rCUE_FIRE_CNT).toNat + 1) (2 ^ 32 - 1) ∧
        ((d.reg rCUE_LATE_CNT).toNat = min ((s.dev.reg rCUE_LATE_CNT).toNat + if 100 < sdiff64 s.dev.ft64 (s.dev.cueSt c).due then 1 else 0) (2 ^ 32 - 1)) ∧
        (d.cueSt c = (if s.dev.cuePeriod c = 0 then (if s.dev.cueOneshot c = true ∨ s.dev.cueTrig c = 1 then ({ state := 2 } : CueSt) else {}) else { state := 1, due := (s.dev.cueSt c).due + BitVec.ofNat 64 (s.dev.cuePeriod c * 1000) })) ∧
        (∀ i ∈ List.range 16, d.get (bitFld rCUE_PIN_OUT i) = (if w / 2 ^ (16 + i) % 2 = 1 then w / 2 ^ i % 2 else s.dev.get (bitFld rCUE_PIN_OUT i))) ∧
        (s.dev.sameRegs d (rCUE_LAST :: rCUE_FIRE_CNT :: rCUE_LATE_CNT :: ([rCUE_PIN_OUT] ++ s.dev.cueTcmps.flatMap (fun n => [rTIME_TCMPnn_STS n, rTIME_TCMPnn_FIRE_CNT n])))) ∧
        d = { s.dev with regs := d.regs, cue := d.cue, time := d.time, irqA := d.irqA, irqB := d.irqB }) ∧
  (∀ (s : State) (c : Nat) (w : Nat), s.dev.calm = true → s.dev.cueOn = true → s.dev.sound = true → c < 4096 →
    0 ≤ sdiff64 s.dev.ft64 (s.dev.cueSt c).due → s.dev.cuesPending = [(c, s.dev.cueSt c)] →
    (s.dev.cueWindow c = 0 ∨ sdiff64 s.dev.ft64 (s.dev.cueSt c).due ≤ s.dev.cueWindow c * 1000) →
    (∀ i ∈ [4, 5, 6, 7], s.dev.cueWord c i = 0) → w = s.dev.cueWord c 3 → w / 2 ^ 60 = 4 → s.dev.domOn 1 = true →
      Completes (.cueFire) s fun d =>
        d.on fCUE_LAST_VALID = true ∧
        (s.dev.on fCUE_LAST_VALID = false → d.get fCUE_LAST_CUE = c) ∧
        (d.reg rCUE_FIRE_CNT).toNat = min ((s.dev.reg rCUE_FIRE_CNT).toNat + 1) (2 ^ 32 - 1) ∧
        ((d.reg rCUE_LATE_CNT).toNat = min ((s.dev.reg rCUE_LATE_CNT).toNat + if 100 < sdiff64 s.dev.ft64 (s.dev.cueSt c).due then 1 else 0) (2 ^ 32 - 1)) ∧
        (d.cueSt c = (if s.dev.cuePeriod c = 0 then (if s.dev.cueOneshot c = true ∨ s.dev.cueTrig c = 1 then ({ state := 2 } : CueSt) else {}) else { state := 1, due := (s.dev.cueSt c).due + BitVec.ofNat 64 (s.dev.cuePeriod c * 1000) })) ∧
        d.cue.ltc = { s.dev.cue.ltc with start := w % 2 == 1 } ∧
        (s.dev.sameRegs d (rCUE_LAST :: rCUE_FIRE_CNT :: rCUE_LATE_CNT :: ([] ++ s.dev.cueTcmps.flatMap (fun n => [rTIME_TCMPnn_STS n, rTIME_TCMPnn_FIRE_CNT n])))) ∧
        d = { s.dev with regs := d.regs, cue := d.cue, time := d.time, irqA := d.irqA, irqB := d.irqB }) ∧
  (∀ (s : State) (c : Nat) (w : Nat), s.dev.calm = true → s.dev.cueOn = true → s.dev.sound = true → c < 4096 →
    0 ≤ sdiff64 s.dev.ft64 (s.dev.cueSt c).due → s.dev.cuesPending = [(c, s.dev.cueSt c)] →
    (s.dev.cueWindow c = 0 ∨ sdiff64 s.dev.ft64 (s.dev.cueSt c).due ≤ s.dev.cueWindow c * 1000) →
    (∀ i ∈ [4, 5, 6, 7], s.dev.cueWord c i = 0) → w = s.dev.cueWord c 3 → w / 2 ^ 60 = 2 → w / 2 ^ 48 % 4 = 0 →
    s.dev.on (fCUE_DMXp_CFG_EN (w / 2 ^ 40 % 4)) = true → s.dev.domOn 1 = true →
      Completes (.cueFire) s fun d =>
        d.on fCUE_LAST_VALID = true ∧
        (s.dev.on fCUE_LAST_VALID = false → d.get fCUE_LAST_CUE = c) ∧
        (d.reg rCUE_FIRE_CNT).toNat = min ((s.dev.reg rCUE_FIRE_CNT).toNat + 1) (2 ^ 32 - 1) ∧
        ((d.reg rCUE_LATE_CNT).toNat = min ((s.dev.reg rCUE_LATE_CNT).toNat + if 100 < sdiff64 s.dev.ft64 (s.dev.cueSt c).due then 1 else 0) (2 ^ 32 - 1)) ∧
        (d.cueSt c = (if s.dev.cuePeriod c = 0 then (if s.dev.cueOneshot c = true ∨ s.dev.cueTrig c = 1 then ({ state := 2 } : CueSt) else {}) else { state := 1, due := (s.dev.cueSt c).due + BitVec.ofNat 64 (s.dev.cuePeriod c * 1000) })) ∧
        d.dmx (w / 2 ^ 40 % 4) = { s.dev.dmx (w / 2 ^ 40 % 4) with run := true, buf := w / 2 ^ 32 % 8 } ∧
        (s.dev.sameRegs d (rCUE_LAST :: rCUE_FIRE_CNT :: rCUE_LATE_CNT :: ([] ++ s.dev.cueTcmps.flatMap (fun n => [rTIME_TCMPnn_STS n, rTIME_TCMPnn_FIRE_CNT n])))) ∧
        d = { s.dev with regs := d.regs, cue := d.cue, time := d.time, irqA := d.irqA, irqB := d.irqB }) ∧
  (∀ (s : State) (c : Nat) (w : Nat), s.dev.calm = true → s.dev.cueOn = true → s.dev.sound = true → c < 4096 →
    0 ≤ sdiff64 s.dev.ft64 (s.dev.cueSt c).due → s.dev.cuesPending = [(c, s.dev.cueSt c)] →
    (s.dev.cueWindow c = 0 ∨ sdiff64 s.dev.ft64 (s.dev.cueSt c).due ≤ s.dev.cueWindow c * 1000) →
    (∀ i ∈ [4, 5, 6, 7], s.dev.cueWord c i = 0) → w = s.dev.cueWord c 3 → 8 ≤ w / 2 ^ 60 → w / 2 ^ 60 < 16 →
    s.dev.domOn 1 = true →
      Completes (.cueFire) s fun d =>
        d.on fCUE_LAST_VALID = true ∧
        (s.dev.on fCUE_LAST_VALID = false → d.get fCUE_LAST_CUE = c) ∧
        (d.reg rCUE_FIRE_CNT).toNat = min ((s.dev.reg rCUE_FIRE_CNT).toNat + 1) (2 ^ 32 - 1) ∧
        ((d.reg rCUE_LATE_CNT).toNat = min ((s.dev.reg rCUE_LATE_CNT).toNat + if 100 < sdiff64 s.dev.ft64 (s.dev.cueSt c).due then 1 else 0) (2 ^ 32 - 1)) ∧
        (d.cueSt c = (if s.dev.cuePeriod c = 0 then (if s.dev.cueOneshot c = true ∨ s.dev.cueTrig c = 1 then ({ state := 2 } : CueSt) else {}) else { state := 1, due := (s.dev.cueSt c).due + BitVec.ofNat 64 (s.dev.cuePeriod c * 1000) })) ∧
        (d.reg rCUE_ACT_REFUSE_CNT).toNat = min ((s.dev.reg rCUE_ACT_REFUSE_CNT).toNat + 1) (2 ^ 32 - 1) ∧
        d.on fCUE_ACT_ERR_VALID = true ∧
        (s.dev.on fCUE_ACT_ERR_VALID = false → d.get fCUE_ACT_ERR_CODE = 1 ∧ d.get fCUE_ACT_ERR_ACT = 0 ∧ d.get fCUE_ACT_ERR_CUE = c) ∧
        (s.dev.sameRegs d (rCUE_LAST :: rCUE_FIRE_CNT :: rCUE_LATE_CNT :: ([rCUE_ACT_REFUSE_CNT, rCUE_ACT_ERR] ++ s.dev.cueTcmps.flatMap (fun n => [rTIME_TCMPnn_STS n, rTIME_TCMPnn_FIRE_CNT n])))) ∧
        d = { s.dev with regs := d.regs, cue := d.cue, time := d.time, irqA := d.irqA, irqB := d.irqB }) ∧
  (∀ (s : State) (c : Nat), s.dev.calm = true → s.dev.cueOn = true → s.dev.sound = true → c < 4096 →
    0 ≤ sdiff64 s.dev.ft64 (s.dev.cueSt c).due → s.dev.cuesPending = [(c, s.dev.cueSt c)] → s.dev.cueWindow c ≠ 0 →
    s.dev.cueWindow c * 1000 < sdiff64 s.dev.ft64 (s.dev.cueSt c).due → s.dev.domOn 1 = true →
      Completes (.cueFire) s fun d =>
        (d.reg rCUE_EXPIRED_CNT).toNat = min ((s.dev.reg rCUE_EXPIRED_CNT).toNat + 1) (2 ^ 32 - 1) ∧
        (d.cueSt c = (if s.dev.cuePeriod c = 0 then (if s.dev.cueOneshot c = true ∨ s.dev.cueTrig c = 1 then ({ state := 2 } : CueSt) else {}) else { state := 1, due := (s.dev.cueSt c).due + BitVec.ofNat 64 (s.dev.cuePeriod c * 1000) })) ∧
        (s.dev.sameRegs d (rCUE_EXPIRED_CNT :: (s.dev.cueTcmps.flatMap (fun n => [rTIME_TCMPnn_STS n, rTIME_TCMPnn_FIRE_CNT n])))) ∧
        d = { s.dev with regs := d.regs, cue := d.cue, time := d.time, irqA := d.irqA, irqB := d.irqB }) ∧
  (∀ (s : State) (c : Nat), s.dev.calm = true → s.dev.cueOn = true → c < 4096 → 0 ≤ sdiff64 s.dev.ft64 (s.dev.cueSt c).due →
    s.dev.cuesPending = [(c, s.dev.cueSt c)] → s.dev.cueBad c = true → s.dev.domOn 1 = true →
      Completes (.cueFire) s fun d =>
        d.cueSt c = {} ∧
        d.reg rCUE_FIRE_CNT = s.dev.reg rCUE_FIRE_CNT ∧
        d.reg rCUE_EXPIRED_CNT = s.dev.reg rCUE_EXPIRED_CNT ∧
        d.reg rCUE_LAST = s.dev.reg rCUE_LAST) ∧
  (∀ (s : State) (n : Nat), s.dev.calm = true → s.dev.domOn 13 = true → s.dev.cueFramePast n = true →
    (s.dev.t1s.cueQ.any (fun f => f.cue == n) = true) → n ≠ 0 → s.dev.domOn 1 = true →
      Completes (.cueFrameDeadline n) s fun d =>
        (d.t1s.cueQ = s.dev.t1s.cueQ.filter (fun f => f.cue != n)) ∧
        (d.reg rCUE_FRAME_DROP_CNT).toNat = min ((s.dev.reg rCUE_FRAME_DROP_CNT).toNat + 1) (2 ^ 32 - 1) ∧
        (d.reg rT1S_TX_CANCEL_CNT).toNat = min ((s.dev.reg rT1S_TX_CANCEL_CNT).toNat + 1) (2 ^ 32 - 1) ∧
        s.dev.sameRegs d [rCUE_FRAME_DROP_CNT, rT1S_TX_CANCEL_CNT] ∧
        d = { s.dev with regs := d.regs, cue := d.cue, t1s := d.t1s, irqA := d.irqA, irqB := d.irqB }) ∧
  (∀ (s : State) (n : Nat), s.dev.calm = true → s.dev.cueFramePast n = false → s.dev.domOn 1 = true →
      Completes (.cueFrameDeadline n) s fun d =>
        s.dev.sameRegs d [] ∧
        d = { s.dev with regs := d.regs, irqA := d.irqA, irqB := d.irqB })

/-- A write of PIN_CUE_CFG sets each pin's direction, the reserved code as unused, and claims or releases the ball groups
of pins 8 to 15; a pin whose group another function holds stays unused. A DMX port whose group is free is enabled and
holds it; disabled, it stops, and releases it with the packet in progress. At a break a running port takes the image
of its buffer and counts a packet; a port that does not run falls idle. A valid E1.31 packet for one buffer is
committed to it, unused slots as 0; one of a lower priority than the source held is dropped and counted. (R33, R35,
R36, R368, R369, R370, R372, R373) -/
def Obligations.PinsDmxAndE131 : Prop :=
  (∀ (s : State) (p : Port) (v : Word), s.dev.calm = true → s.dev.takes p rPIN_CUE_CFG →
    (∀ g ∈ List.range 8, s.dev.get (fPIN_GRPnn_OWNER_OWNER g) = 0 ∧ s.dev.grpPrio g = 0) →
      Completes (.cuePinDirWrite p v) s fun d =>
        (∀ k ∈ List.range 16, d.pinDir k = (let x := v.toNat / 4 ^ k % 4; if x = 3 then 0 else x)) ∧
        (∀ g ∈ List.range 8, d.get (fPIN_GRPnn_OWNER_OWNER g) = (if d.pinDir (8 + g) = 0 then 0 else 2)) ∧
        (d.port p).code = 0 ∧
        s.dev.sameRegs d (rPIN_CUE_CFG :: (List.range 8).map rPIN_GRPnn_OWNER) ∧
        d = { s.dev with regs := d.regs, ports := d.ports, irqA := d.irqA, irqB := d.irqB }) ∧
  (∀ (s : State) (p : Port) (v : Word) (g : Nat), s.dev.calm = true → s.dev.takes p rPIN_CUE_CFG → g < 8 →
    s.dev.get (fPIN_GRPnn_OWNER_OWNER g) = 1 → (v.toNat / 4 ^ (8 + g) % 4 = 1 ∨ v.toNat / 4 ^ (8 + g) % 4 = 2) →
      Completes (.cuePinDirWrite p v) s fun d =>
        d.pinDir (8 + g) = 0 ∧
        d.get (fPIN_GRPnn_OWNER_OWNER g) = 1 ∧
        d.on fPIN_CONFLICT_VALID = true ∧
        (d.port p).code = 0 ∧
        s.dev.sameRegs d (rPIN_CUE_CFG :: rPIN_CONFLICT :: (List.range 8).map rPIN_GRPnn_OWNER) ∧
        d = { s.dev with regs := d.regs, ports := d.ports, irqA := d.irqA, irqB := d.irqB }) ∧
  (∀ (s : State) (q : Fin 4) (p : Port) (v : Word), s.dev.calm = true → s.dev.takes p (rCUE_DMXp_CFG q.val) →
    s.dev.on (fCUE_DMXp_CFG_EN q.val) = false → (fCUE_DMXp_CFG_EN q.val).get v = 1 →
    s.dev.get (fPIN_GRPnn_OWNER_OWNER (8 + q.val)) = 0 → s.dev.grpPrio (8 + q.val) = 0 →
      Completes (.dmxPortEnable q p v) s fun d =>
        d.on (fCUE_DMXp_CFG_EN q.val) = true ∧
        d.get (fPIN_GRPnn_OWNER_OWNER (8 + q.val)) = 2 ∧
        d.get (fCUE_DMXp_CFG_SLOTS q.val) = (fCUE_DMXp_CFG_SLOTS q.val).get v ∧
        (d.port p).code = 0 ∧
        s.dev.sameRegs d [rCUE_DMXp_CFG q.val, rPIN_GRPnn_OWNER (8 + q.val)] ∧
        d = { s.dev with regs := d.regs, ports := d.ports, irqA := d.irqA, irqB := d.irqB }) ∧
  (∀ (s : State) (q : Fin 4) (p : Port) (v : Word), s.dev.calm = true → s.dev.takes p (rCUE_DMXp_CFG q.val) →
    s.dev.on (fCUE_DMXp_CFG_EN q.val) = false → (fCUE_DMXp_CFG_EN q.val).get v = 1 →
    s.dev.get (fPIN_GRPnn_OWNER_OWNER (8 + q.val)) = 1 →
      Completes (.dmxPortEnable q p v) s fun d =>
        d.on (fCUE_DMXp_CFG_EN q.val) = false ∧
        d.get (fPIN_GRPnn_OWNER_OWNER (8 + q.val)) = 1 ∧
        d.on fPIN_CONFLICT_VALID = true ∧
        (d.port p).code = 0 ∧
        s.dev.sameRegs d [rCUE_DMXp_CFG q.val, rPIN_CONFLICT] ∧
        d = { s.dev with regs := d.regs, ports := d.ports, irqA := d.irqA, irqB := d.irqB }) ∧
  (∀ (s : State) (q : Fin 4) (p : Port) (v : Word), s.dev.calm = true → s.dev.takes p (rCUE_DMXp_CFG q.val) →
    s.dev.on (fCUE_DMXp_CFG_EN q.val) = true → (fCUE_DMXp_CFG_EN q.val).get v = 0 →
    s.dev.get (fPIN_GRPnn_OWNER_OWNER (8 + q.val)) = 2 → (s.dev.dmx q.val).busy = false →
      Completes (.dmxPortEnable q p v) s fun d =>
        d.on (fCUE_DMXp_CFG_EN q.val) = false ∧
        d.get (fPIN_GRPnn_OWNER_OWNER (8 + q.val)) = 0 ∧
        d.dmx q.val = { (s.dev.dmx q.val) with run := false } ∧
        (d.port p).code = 0 ∧
        s.dev.sameRegs d [rCUE_DMXp_CFG q.val, rPIN_GRPnn_OWNER (8 + q.val), rGLB_IGN_CNT, rGLB_IGN_OVF_CNT] ∧
        d = { s.dev with regs := d.regs, ports := d.ports, cue := d.cue, ign := d.ign, irqA := d.irqA, irqB := d.irqB }) ∧
  (∀ (s : State) (q : Fin 4) (p : Port) (v : Word), s.dev.calm = true → s.dev.takes p (rCUE_DMXp_CFG q.val) →
    s.dev.on (fCUE_DMXp_CFG_EN q.val) = true → (fCUE_DMXp_CFG_EN q.val).get v = 0 → (s.dev.dmx q.val).busy = true →
      Completes (.dmxPortEnable q p v) s fun d =>
        d.on (fCUE_DMXp_CFG_EN q.val) = false ∧
        d.get (fPIN_GRPnn_OWNER_OWNER (8 + q.val)) = s.dev.get (fPIN_GRPnn_OWNER_OWNER (8 + q.val)) ∧
        d.dmx q.val = { (s.dev.dmx q.val) with run := false } ∧
        (d.port p).code = 0 ∧
        s.dev.sameRegs d [rCUE_DMXp_CFG q.val, rGLB_IGN_CNT, rGLB_IGN_OVF_CNT] ∧
        d = { s.dev with regs := d.regs, ports := d.ports, cue := d.cue, ign := d.ign, irqA := d.irqA, irqB := d.irqB }) ∧
  (∀ (s : State) (q : Fin 4), s.dev.calm = true → (s.dev.dmx q.val).run = true → s.dev.on (fCUE_DMXp_CFG_EN q.val) = true →
    s.dev.haloFront = true → s.dev.domOn 1 = true →
      Completes (.dmxBreak q) s fun d =>
        d.dmx q.val = { (s.dev.dmx q.val) with busy := true, image := (s.dev.cueBuf (s.dev.dmx q.val).buf).take (s.dev.dmxSlots q.val + 1) } ∧
        (d.reg (rCUE_DMXp_PKT_CNT q.val)).toNat = min ((s.dev.reg (rCUE_DMXp_PKT_CNT q.val)).toNat + 1) (2 ^ 32 - 1) ∧
        s.dev.sameRegs d [rCUE_DMXp_PKT_CNT q.val] ∧
        d = { s.dev with regs := d.regs, cue := d.cue, irqA := d.irqA, irqB := d.irqB }) ∧
  (∀ (s : State) (q : Fin 4), s.dev.calm = true → ((s.dev.dmx q.val).run = false ∨ s.dev.haloFront = false) →
    s.dev.on (fCUE_DMXp_CFG_EN q.val) = true → s.dev.domOn 1 = true →
      Completes (.dmxBreak q) s fun d =>
        d.dmx q.val = { (s.dev.dmx q.val) with busy := false, image := [] } ∧
        s.dev.sameRegs d [] ∧
        d = { s.dev with regs := d.regs, cue := d.cue, irqA := d.irqA, irqB := d.irqB }) ∧
  (∀ (s : State) (q : Fin 4), s.dev.calm = true → s.dev.on (fCUE_DMXp_CFG_EN q.val) = false →
    s.dev.get (fPIN_GRPnn_OWNER_OWNER (8 + q.val)) = 2 → s.dev.domOn 1 = true →
      Completes (.dmxBreak q) s fun d =>
        d.dmx q.val = { (s.dev.dmx q.val) with busy := false, image := [] } ∧
        d.get (fPIN_GRPnn_OWNER_OWNER (8 + q.val)) = 0 ∧
        s.dev.sameRegs d [rPIN_GRPnn_OWNER (8 + q.val)] ∧
        d = { s.dev with regs := d.regs, cue := d.cue, irqA := d.irqA, irqB := d.irqB }) ∧
  (∀ (s : State) (h : Handed) (k : E131Pkt) (b : Nat), s.dev.calm = true →
    (s.dev.handed.find? (fun x => x.sink == .e131) = some h) → e131Packet h.bytes = some k → k.valid = true →
    s.dev.e131Bufs k.universe_ = [b] → (s.dev.e131Of b).hold = false → (s.dev.e131Of b).seq = none → s.dev.domOn 1 = true →
      Completes (.e131Packet) s fun d =>
        d.handed = s.dev.handed.erase h ∧
        d.cueBuf b = (k.values ++ List.replicate 513 0).take 513 ∧
        d.e131Of b = { prio := k.prio, at_ := s.dev.mono, hold := !k.terminated, seq := some k.seq } ∧
        s.dev.sameRegs d ((List.range 129).map (rCUE_BUFb_DATA b)) ∧
        d = { s.dev with regs := d.regs, handed := d.handed, cue := d.cue, irqA := d.irqA, irqB := d.irqB }) ∧
  (∀ (s : State) (h : Handed) (k : E131Pkt) (b : Nat), s.dev.calm = true →
    (s.dev.handed.find? (fun x => x.sink == .e131) = some h) → e131Packet h.bytes = some k → k.valid = true →
    s.dev.e131Bufs k.universe_ = [b] → (s.dev.e131Of b).hold = true →
    s.dev.mono - (s.dev.e131Of b).at_ ≤ 2500000000 * 65536 → k.prio < (s.dev.e131Of b).prio → s.dev.domOn 1 = true →
      Completes (.e131Packet) s fun d =>
        d.handed = s.dev.handed.erase h ∧
        (d.reg rCUE_E131_PRI_DROP_CNT).toNat = min ((s.dev.reg rCUE_E131_PRI_DROP_CNT).toNat + 1) (2 ^ 32 - 1) ∧
        s.dev.sameRegs d [rCUE_E131_PRI_DROP_CNT] ∧
        d = { s.dev with regs := d.regs, handed := d.handed, irqA := d.irqA, irqB := d.irqB })

/-- At a frame boundary a started LTC_OUT of a unit that is not on standby runs and sends the label of the frame current
at the time of day plus the offset; a stopped one rests. A valid LTC_IN frame puts its label and user bits in the
registers; the fourth in a row at one rate sets LTC_LOCK and raises its event. A loss clears LTC_LOCK and raises its
event. (R374, R375, R376) -/
def Obligations.TimecodeOutAndIn : Prop :=
  (∀ (s : State), s.dev.calm = true → s.dev.cue.ltc.start = true → s.dev.haloFront = true → s.dev.domOn 1 = true →
      Completes (.ltcFrame) s fun d =>
        d.on fCUE_STS_LTC_RUN = true ∧
        d.cue.ltc = { s.dev.cue.ltc with label := ltcLabel (s.dev.get fCUE_LTC_CFG_RATE) s.dev.ltcFrameNo } ∧
        s.dev.sameRegs d [rCUE_STS] ∧
        d = { s.dev with regs := d.regs, cue := d.cue, irqA := d.irqA, irqB := d.irqB }) ∧
  (∀ (s : State), s.dev.calm = true → (s.dev.cue.ltc.start = false ∨ s.dev.haloFront = false) → s.dev.domOn 1 = true →
      Completes (.ltcFrame) s fun d =>
        d.on fCUE_STS_LTC_RUN = false ∧
        s.dev.sameRegs d [rCUE_STS] ∧
        d = { s.dev with regs := d.regs, irqA := d.irqA, irqB := d.irqB }) ∧
  (∀ (s : State) (rate : Nat) (h : Nat) (m : Nat) (c : Nat) (f : Nat) (ub : Word) (b : Bool), s.dev.calm = true →
    (s.dev.on fCUE_STS_LTC_LOCK = true ∨ s.dev.cue.ltc.good < 3 ∨ s.dev.cue.ltc.rate ≠ rate ∨ b = true) →
    s.dev.domOn 1 = true →
      Completes (.ltcInFrame rate h m c f ub b) s fun d =>
        d.get fCUE_LTC_RX_HOURS = h % 64 ∧
        d.get fCUE_LTC_RX_MINUTES = m % 64 ∧
        d.get fCUE_LTC_RX_SECONDS = c % 64 ∧
        d.get fCUE_LTC_RX_FRAMES = f % 64 ∧
        d.reg rCUE_LTC_RX_UB = ub ∧
        d.on fCUE_STS_LTC_LOCK = s.dev.on fCUE_STS_LTC_LOCK ∧
        (d.cue.ltc = { s.dev.cue.ltc with good := (if s.dev.cue.ltc.rate = rate ∧ b = false then min 4 (s.dev.cue.ltc.good + 1) else 1), rate := rate }) ∧
        s.dev.sameRegs d [rCUE_LTC_RX, rCUE_LTC_RX_UB] ∧
        d = { s.dev with regs := d.regs, cue := d.cue, irqA := d.irqA, irqB := d.irqB }) ∧
  (∀ (s : State) (rate : Nat) (h : Nat) (m : Nat) (c : Nat) (f : Nat) (ub : Word), s.dev.calm = true →
    s.dev.on fCUE_STS_LTC_LOCK = false → 3 ≤ s.dev.cue.ltc.good → s.dev.cue.ltc.rate = rate → s.dev.domOn 1 = true →
      Completes (.ltcInFrame rate h m c f ub false) s fun d =>
        d.get fCUE_LTC_RX_HOURS = h % 64 ∧
        d.get fCUE_LTC_RX_MINUTES = m % 64 ∧
        d.get fCUE_LTC_RX_SECONDS = c % 64 ∧
        d.get fCUE_LTC_RX_FRAMES = f % 64 ∧
        d.reg rCUE_LTC_RX_UB = ub ∧
        d.on fCUE_STS_LTC_LOCK = true ∧
        d.cue.ltc.good = 4 ∧
        d.hq = (s.dev.hqPush (s.dev.get fHQ_ROUTE_EVT_Q) 5 (eventRecord 0x0E01 0 s.dev.ft64)).hq ∧
        s.dev.sameRegs d (rCUE_LTC_RX :: rCUE_LTC_RX_UB :: rCUE_STS :: s.dev.evtRegs) ∧
        d = { s.dev with regs := d.regs, hq := d.hq, rql := d.rql, cue := d.cue, poison := d.poison, integ := d.integ, irqA := d.irqA, irqB := d.irqB }) ∧
  (∀ (s : State), s.dev.calm = true → s.dev.on fCUE_STS_LTC_LOCK = true → s.dev.domOn 1 = true →
      Completes (.ltcLoss) s fun d =>
        d.on fCUE_STS_LTC_LOCK = false ∧
        d.cue.ltc.good = 0 ∧
        d.hq = (s.dev.hqPush (s.dev.get fHQ_ROUTE_EVT_Q) 5 (eventRecord 0x0E02 0 s.dev.ft64)).hq ∧
        s.dev.sameRegs d (rCUE_STS :: s.dev.evtRegs) ∧
        d = { s.dev with regs := d.regs, hq := d.hq, rql := d.rql, cue := d.cue, poison := d.poison, integ := d.integ, irqA := d.irqA, irqB := d.irqB }) ∧
  (∀ (s : State), s.dev.calm = true → s.dev.on fCUE_STS_LTC_LOCK = false → s.dev.domOn 1 = true →
      Completes (.ltcLoss) s fun d =>
        d.cue.ltc = { s.dev.cue.ltc with good := 0 } ∧
        s.dev.sameRegs d [] ∧
        d = { s.dev with regs := d.regs, cue := d.cue, irqA := d.irqA, irqB := d.irqB })

/-- An enabled unit that passes R382 enters INIT with its status cleared; one that fails keeps EN = 0 and reports its
code. Disabling an active unit enters DETACH with REQ set; another unit goes to OFF. A detach that is over drops
HALO_ACT and, begun by EN = 0, ends in OFF. The first change of state is captured with its cause. LOCK, once written,
holds the role register as written. (R380, R382, R388, R398) -/
def Obligations.HaloEnablesAndDetaches : Prop :=
  (∀ (s : State) (p : Port) (v : Word), s.dev.calm = true → s.dev.refDown 2 = false → s.dev.takes p rHALO_CFG →
    s.dev.on fHALO_CFG_EN = false → (s.dev.stored rHALO_CFG (fHALO_CFG_EN.put v 1)).haloCheck = 0 →
      Completes (.haloEnable p v) s fun d =>
        d.on fHALO_CFG_EN = true ∧
        d.haloState = 1 ∧
        d.on fHALO_STS_CFG_ERR = false ∧
        d.on fHALO_STS_PARTNER_OK = false ∧
        d.halo.act = false ∧
        d.on fHALO_EVT_LOG_VALID = true ∧
        (s.dev.on fHALO_EVT_LOG_VALID = false → d.get fHALO_EVT_LOG_FROM = 0 ∧ d.get fHALO_EVT_LOG_TO = 1 ∧ d.get fHALO_EVT_LOG_CAUSE = 0) ∧
        (d.port p).code = 0 ∧
        s.dev.sameRegs d (rHALO_STS :: rHALO_EVT_LOG :: rHALO_SPLIT_CNT :: ([rHALO_CFG] ++ s.dev.evtRegs)) ∧
        d = { s.dev with regs := d.regs, ports := d.ports, halo := d.halo, mio := d.mio, net := d.net, nextFrame := d.nextFrame, free := d.free, ptp := d.ptp, hq := d.hq, rql := d.rql, cue := d.cue, poison := d.poison, integ := d.integ, irqA := d.irqA, irqB := d.irqB }) ∧
  (∀ (s : State) (p : Port) (v : Word), s.dev.calm = true → s.dev.takes p rHALO_CFG → s.dev.on fHALO_CFG_EN = false →
    (s.dev.stored rHALO_CFG (fHALO_CFG_EN.put v 1)).haloCheck ≠ 0 →
      Completes (.haloEnable p v) s fun d =>
        d.on fHALO_CFG_EN = false ∧
        d.on fHALO_STS_CFG_ERR = true ∧
        d.get fHALO_STS_ERR_CODE = (s.dev.stored rHALO_CFG (fHALO_CFG_EN.put v 1)).haloCheck ∧
        (d.reg rHALO_REFUSE_CNT).toNat = min ((s.dev.reg rHALO_REFUSE_CNT).toNat + 1) (2 ^ 32 - 1) ∧
        (d.port p).code = 0 ∧
        s.dev.sameRegs d [rHALO_CFG, rHALO_STS, rHALO_REFUSE_CNT] ∧
        d = { s.dev with regs := d.regs, ports := d.ports, irqA := d.irqA, irqB := d.irqB }) ∧
  (∀ (s : State) (p : Port) (v : Word), (s.dev.put fHALO_STS_STATE 0).calm = true → s.dev.refDown 2 = false →
    s.dev.haloState = 3 → s.dev.takes p rHALO_CFG → s.dev.on fHALO_CFG_EN = true → s.dev.halo.act = true →
      Completes (.haloDisable p v) s fun d =>
        d.on fHALO_CFG_EN = false ∧
        d.haloState = 4 ∧
        d.on fHALO_STS_REQ_PEND = true ∧
        d.halo.act = true ∧
        d.on fHALO_EVT_LOG_VALID = true ∧
        (s.dev.on fHALO_EVT_LOG_VALID = false → d.get fHALO_EVT_LOG_FROM = 3 ∧ d.get fHALO_EVT_LOG_TO = 4 ∧ d.get fHALO_EVT_LOG_CAUSE = 6) ∧
        (d.port p).code = 0 ∧
        s.dev.sameRegs d (rHALO_STS :: rHALO_EVT_LOG :: rHALO_SPLIT_CNT :: ([rHALO_CFG, rGLB_IGN_CNT, rGLB_IGN_OVF_CNT] ++ s.dev.evtRegs)) ∧
        d = { s.dev with regs := d.regs, ports := d.ports, ign := d.ign, halo := d.halo, mio := d.mio, net := d.net, nextFrame := d.nextFrame, free := d.free, ptp := d.ptp, hq := d.hq, rql := d.rql, cue := d.cue, poison := d.poison, integ := d.integ, irqA := d.irqA, irqB := d.irqB }) ∧
  (∀ (s : State) (p : Port) (v : Word), (s.dev.put fHALO_STS_STATE 0).calm = true → s.dev.refDown 2 = false →
    (s.dev.haloState = 1 ∨ s.dev.haloState = 2) → s.dev.takes p rHALO_CFG → s.dev.on fHALO_CFG_EN = true →
      Completes (.haloDisable p v) s fun d =>
        d.on fHALO_CFG_EN = false ∧
        d.haloState = 0 ∧
        d.on fHALO_STS_PARTNER_OK = false ∧
        d.on fHALO_STS_WIRE_OK = false ∧
        d.on fHALO_STS_NET_OK = false ∧
        d.halo.act = false ∧
        (s.dev.on fHALO_EVT_LOG_VALID = false → d.get fHALO_EVT_LOG_TO = 0 ∧ d.get fHALO_EVT_LOG_CAUSE = 6) ∧
        (d.port p).code = 0 ∧
        s.dev.sameRegs d (rHALO_STS :: rHALO_EVT_LOG :: rHALO_SPLIT_CNT :: ([rHALO_CFG, rGLB_IGN_CNT, rGLB_IGN_OVF_CNT] ++ s.dev.evtRegs)) ∧
        d = { s.dev with regs := d.regs, ports := d.ports, ign := d.ign, halo := d.halo, mio := d.mio, net := d.net, nextFrame := d.nextFrame, free := d.free, ptp := d.ptp, hq := d.hq, rql := d.rql, cue := d.cue, poison := d.poison, integ := d.integ, irqA := d.irqA, irqB := d.irqB }) ∧
  (∀ (s : State), (s.dev.put fHALO_STS_STATE 0).calm = true → s.dev.refDown 2 = false → s.dev.haloState = 4 →
    s.dev.halo.act = true → s.dev.halo.byEn = true → s.dev.domOn 1 = true →
      Completes (.detachTimeout) s fun d =>
        d.halo.act = false ∧
        d.haloState = 0 ∧
        d.on fHALO_STS_REQ_PEND = false ∧
        d.on fHALO_EVT_LOG_VALID = true ∧
        (s.dev.on fHALO_EVT_LOG_VALID = false → d.get fHALO_EVT_LOG_FROM = 4 ∧ d.get fHALO_EVT_LOG_TO = 0 ∧ d.get fHALO_EVT_LOG_CAUSE = 6) ∧
        s.dev.sameRegs d (rHALO_STS :: rHALO_EVT_LOG :: rHALO_SPLIT_CNT :: ([] ++ s.dev.evtRegs)) ∧
        d = { s.dev with regs := d.regs, halo := d.halo, mio := d.mio, net := d.net, nextFrame := d.nextFrame, free := d.free, ptp := d.ptp, hq := d.hq, rql := d.rql, cue := d.cue, poison := d.poison, integ := d.integ, irqA := d.irqA, irqB := d.irqB }) ∧
  (∀ (s : State), (s.dev.put fHALO_STS_STATE 0).calm = true → s.dev.refDown 2 = false → s.dev.haloState = 4 →
    s.dev.halo.act = true → s.dev.halo.byEn = false → s.dev.domOn 1 = true →
      Completes (.detachTimeout) s fun d =>
        d.halo.act = false ∧
        d.haloState = 4 ∧
        d.on fHALO_STS_REQ_PEND = false ∧
        s.dev.sameRegs d (rHALO_STS :: rHALO_EVT_LOG :: rHALO_SPLIT_CNT :: ([] ++ s.dev.evtRegs)) ∧
        d = { s.dev with regs := d.regs, halo := d.halo, mio := d.mio, net := d.net, nextFrame := d.nextFrame, free := d.free, ptp := d.ptp, hq := d.hq, rql := d.rql, cue := d.cue, poison := d.poison, integ := d.integ, irqA := d.irqA, irqB := d.irqB }) ∧
  (∀ (s : State) (p : Port) (v : Word), s.dev.calm = true → s.dev.takes p rHALO_ROLE_CFG →
      Completes (.haloRoleLock p v) s fun d =>
        d.on fHALO_ROLE_CFG_LOCK = true ∧
        d.reg rHALO_ROLE_CFG = (s.dev.stored rHALO_ROLE_CFG (fHALO_ROLE_CFG_LOCK.put v 1)).reg rHALO_ROLE_CFG ∧
        (d.port p).code = 0 ∧
        s.dev.sameRegs d [rHALO_ROLE_CFG, rGLB_IGN_CNT, rGLB_IGN_OVF_CNT] ∧
        d = { s.dev with regs := d.regs, ports := d.ports, ign := d.ign, irqA := d.irqA, irqB := d.irqB })

/-- In INIT, STANDBY and ACTIVE each heartbeat period sends one of the width of Table 15.2. A pulse of no valid width is
counted as bad. A unit in INIT that hears an active partner enters STANDBY; a STANDBY unit that is fit and ready and
hears REQ enters ACTIVE; two active units part by REQ, and a unit that yields enters STANDBY. A network heartbeat of
another pair is counted as bad. A loss of the partner clears PARTNER_OK, is counted, and makes a STANDBY unit ACTIVE;
so does the silence of the last path, and INIT ends in ACTIVE after its time. (R384, R385, R386, R387, R388, R389,
R390, R391, R393, R394) -/
def Obligations.HaloHearsItsPartner : Prop :=
  (∀ (s : State), (s.dev.put fHALO_STS_STATE 0).calm = true → s.dev.refDown 2 = false → s.dev.haloBeats = true →
    s.dev.domOn 1 = true →
      Completes (.heartbeatDue) s fun d =>
        d.halo.hbo = s.dev.haloWidth ∧
        d.halo.seq = (s.dev.halo.seq + 1) % 65536 ∧
        d.haloState = s.dev.haloState ∧
        s.dev.sameRegs d (rHALO_STS :: rHALO_EVT_LOG :: rHALO_SPLIT_CNT :: ([] ++ s.dev.evtRegs)) ∧
        d = { s.dev with regs := d.regs, halo := d.halo, mio := d.mio, net := d.net, nextFrame := d.nextFrame, free := d.free, ptp := d.ptp, hq := d.hq, rql := d.rql, cue := d.cue, poison := d.poison, integ := d.integ, irqA := d.irqA, irqB := d.irqB }) ∧
  (∀ (s : State) (w : Nat), (s.dev.put fHALO_STS_STATE 0).calm = true → s.dev.refDown 2 = false →
    s.dev.on fHALO_CFG_EN = true → wireBeat w = none → s.dev.domOn 1 = true →
      Completes (.wireHeartbeat w) s fun d =>
        (d.reg rHALO_WIRE_BAD_CNT).toNat = min ((s.dev.reg rHALO_WIRE_BAD_CNT).toNat + 1) (2 ^ 32 - 1) ∧
        s.dev.sameRegs d (rHALO_STS :: rHALO_EVT_LOG :: rHALO_SPLIT_CNT :: ([rHALO_WIRE_BAD_CNT] ++ s.dev.evtRegs)) ∧
        d = { s.dev with regs := d.regs, halo := d.halo, mio := d.mio, net := d.net, nextFrame := d.nextFrame, free := d.free, ptp := d.ptp, hq := d.hq, rql := d.rql, cue := d.cue, poison := d.poison, integ := d.integ, irqA := d.irqA, irqB := d.irqB }) ∧
  (∀ (s : State) (w : Nat) (b : Beat), (s.dev.put fHALO_STS_STATE 0).calm = true → s.dev.refDown 2 = false →
    s.dev.haloState = 1 → s.dev.on fHALO_CFG_EN = true → wireBeat w = some b → b.state = 3 → s.dev.domOn 1 = true →
      Completes (.wireHeartbeat w) s fun d =>
        d.haloState = 2 ∧
        d.on fHALO_STS_WIRE_OK = true ∧
        d.on fHALO_STS_PARTNER_OK = true ∧
        d.on fHALO_STS_PARTNER_ACT = true ∧
        d.on fHALO_EVT_LOG_VALID = true ∧
        (s.dev.on fHALO_EVT_LOG_VALID = false → d.get fHALO_EVT_LOG_FROM = 1 ∧ d.get fHALO_EVT_LOG_TO = 2 ∧ d.get fHALO_EVT_LOG_CAUSE = 1) ∧
        s.dev.sameRegs d (rHALO_STS :: rHALO_EVT_LOG :: rHALO_SPLIT_CNT :: ([] ++ s.dev.evtRegs)) ∧
        d = { s.dev with regs := d.regs, halo := d.halo, mio := d.mio, net := d.net, nextFrame := d.nextFrame, free := d.free, ptp := d.ptp, hq := d.hq, rql := d.rql, cue := d.cue, poison := d.poison, integ := d.integ, irqA := d.irqA, irqB := d.irqB }) ∧
  (∀ (s : State) (w : Nat) (b : Beat), (s.dev.put fHALO_STS_STATE 0).calm = true → s.dev.refDown 2 = false →
    s.dev.haloState = 2 → s.dev.on fHALO_CFG_EN = true → wireBeat w = some b → b.req = true → b.detach = false →
    s.dev.haloFit = true → s.dev.haloReady = true → s.dev.halo.act = false → s.dev.domOn 1 = true →
      Completes (.wireHeartbeat w) s fun d =>
        d.haloState = 3 ∧
        d.halo.act = true ∧
        (d.reg rHALO_REQ_CNT).toNat = min ((s.dev.reg rHALO_REQ_CNT).toNat + 1) (2 ^ 32 - 1) ∧
        (d.reg rHALO_TAKEOVER_CNT).toNat = min ((s.dev.reg rHALO_TAKEOVER_CNT).toNat + 1) (2 ^ 32 - 1) ∧
        d.on fHALO_EVT_LOG_VALID = true ∧
        (s.dev.on fHALO_EVT_LOG_VALID = false → d.get fHALO_EVT_LOG_FROM = 2 ∧ d.get fHALO_EVT_LOG_TO = 3 ∧ d.get fHALO_EVT_LOG_CAUSE = 3) ∧
        s.dev.sameRegs d (rHALO_STS :: rHALO_EVT_LOG :: rHALO_SPLIT_CNT :: ([rHALO_REQ_CNT, rHALO_TAKEOVER_CNT] ++ s.dev.evtRegs)) ∧
        d = { s.dev with regs := d.regs, halo := d.halo, mio := d.mio, net := d.net, nextFrame := d.nextFrame, free := d.free, ptp := d.ptp, hq := d.hq, rql := d.rql, cue := d.cue, poison := d.poison, integ := d.integ, irqA := d.irqA, irqB := d.irqB }) ∧
  (∀ (s : State) (w : Nat) (b : Beat), (s.dev.put fHALO_STS_STATE 0).calm = true → s.dev.refDown 2 = false →
    s.dev.haloState = 3 → s.dev.on fHALO_CFG_EN = true → wireBeat w = some b → b.state = 3 →
    s.dev.on fHALO_STS_REQ_PEND = true → b.req = false → s.dev.domOn 1 = true →
      Completes (.wireHeartbeat w) s fun d =>
        d.haloState = 2 ∧
        d.halo.act = false ∧
        (d.reg rHALO_YIELD_CNT).toNat = min ((s.dev.reg rHALO_YIELD_CNT).toNat + 1) (2 ^ 32 - 1) ∧
        d.on fHALO_STS_REQ_PEND = false ∧
        d.on fHALO_EVT_LOG_VALID = true ∧
        (s.dev.on fHALO_EVT_LOG_VALID = false → d.get fHALO_EVT_LOG_FROM = 3 ∧ d.get fHALO_EVT_LOG_TO = 2 ∧ d.get fHALO_EVT_LOG_CAUSE = 4) ∧
        s.dev.sameRegs d (rHALO_STS :: rHALO_EVT_LOG :: rHALO_SPLIT_CNT :: ([rHALO_YIELD_CNT] ++ s.dev.evtRegs)) ∧
        d = { s.dev with regs := d.regs, halo := d.halo, mio := d.mio, net := d.net, nextFrame := d.nextFrame, free := d.free, ptp := d.ptp, hq := d.hq, rql := d.rql, cue := d.cue, poison := d.poison, integ := d.integ, irqA := d.irqA, irqB := d.irqB }) ∧
  (∀ (s : State) (w : Nat) (b : Beat), (s.dev.put fHALO_STS_STATE 0).calm = true → s.dev.refDown 2 = false →
    s.dev.haloState = 3 → s.dev.on fHALO_CFG_EN = true → wireBeat w = some b → b.state = 3 →
    s.dev.on fHALO_STS_REQ_PEND = b.req → s.dev.haloPrimary = true → s.dev.domOn 1 = true →
      Completes (.wireHeartbeat w) s fun d =>
        d.haloState = 3 ∧
        s.dev.sameRegs d (rHALO_STS :: rHALO_EVT_LOG :: rHALO_SPLIT_CNT :: ([] ++ s.dev.evtRegs)) ∧
        d = { s.dev with regs := d.regs, halo := d.halo, mio := d.mio, net := d.net, nextFrame := d.nextFrame, free := d.free, ptp := d.ptp, hq := d.hq, rql := d.rql, cue := d.cue, poison := d.poison, integ := d.integ, irqA := d.irqA, irqB := d.irqB }) ∧
  (∀ (s : State) (h : Handed), (s.dev.put fHALO_STS_STATE 0).calm = true → s.dev.refDown 2 = false →
    s.dev.on fHALO_CFG_EN = true → (s.dev.handed.find? (fun x => x.sink == .heartbeat) = some h) →
    s.dev.get fHALO_CFG_HB_PORTS / 2 ^ h.port.val % 2 = 1 → (∀ q ∈ List.range 4, s.dev.macAddr q ≠ srcOf h.bytes) →
    beAt (h.bytes.drop (etherOff h.bytes + 2)) 2 2 % 4096 ≠ s.dev.pairFnid → s.dev.domOn 1 = true →
      Completes (.heartbeatFrame) s fun d =>
        d.handed = s.dev.handed.erase h ∧
        (d.reg rHALO_NET_BAD_CNT).toNat = min ((s.dev.reg rHALO_NET_BAD_CNT).toNat + 1) (2 ^ 32 - 1) ∧
        s.dev.sameRegs d (rHALO_STS :: rHALO_EVT_LOG :: rHALO_SPLIT_CNT :: ([rHALO_NET_BAD_CNT] ++ s.dev.evtRegs)) ∧
        d = { s.dev with regs := d.regs, handed := d.handed, halo := d.halo, mio := d.mio, net := d.net, nextFrame := d.nextFrame, free := d.free, ptp := d.ptp, hq := d.hq, rql := d.rql, cue := d.cue, poison := d.poison, integ := d.integ, irqA := d.irqA, irqB := d.irqB }) ∧
  (∀ (s : State) (h : Handed), (s.dev.put fHALO_STS_STATE 0).calm = true → s.dev.refDown 2 = false → s.dev.haloState = 2 →
    s.dev.on fHALO_CFG_EN = true → (s.dev.handed.find? (fun x => x.sink == .heartbeat) = some h) →
    s.dev.get fHALO_CFG_HB_PORTS / 2 ^ h.port.val % 2 = 1 → (∀ q ∈ List.range 4, s.dev.macAddr q ≠ srcOf h.bytes) →
    beAt (h.bytes.drop (etherOff h.bytes + 2)) 2 2 % 4096 = s.dev.pairFnid →
    beAt (h.bytes.drop (etherOff h.bytes + 2)) 0 1 = 2 → beAt (h.bytes.drop (etherOff h.bytes + 2)) 1 1 = 1 →
    beAt (h.bytes.drop (etherOff h.bytes + 2)) 5 1 / 16 % 4 = 0 → s.dev.domOn 1 = true →
      Completes (.heartbeatFrame) s fun d =>
        d.handed = s.dev.handed.erase h ∧
        d.haloState = 2 ∧
        d.on fHALO_STS_NET_OK = true ∧
        d.on fHALO_STS_PARTNER_OK = true ∧
        d.on fHALO_STS_PARTNER_FIT = decide (beAt (h.bytes.drop (etherOff h.bytes + 2)) 5 1 / 128 = 1) ∧
        d.on fHALO_STS_PARTNER_READY = decide (beAt (h.bytes.drop (etherOff h.bytes + 2)) 5 1 / 64 % 2 = 1) ∧
        s.dev.sameRegs d (rHALO_STS :: rHALO_EVT_LOG :: rHALO_SPLIT_CNT :: ([rHALO_ROLE_CLASH_CNT] ++ s.dev.evtRegs)) ∧
        d = { s.dev with regs := d.regs, handed := d.handed, halo := d.halo, mio := d.mio, net := d.net, nextFrame := d.nextFrame, free := d.free, ptp := d.ptp, hq := d.hq, rql := d.rql, cue := d.cue, poison := d.poison, integ := d.integ, irqA := d.irqA, irqB := d.irqB }) ∧
  (∀ (s : State), (s.dev.put fHALO_STS_STATE 0).calm = true → s.dev.refDown 2 = false → s.dev.haloState = 2 →
    s.dev.on fHALO_CFG_EN = true → s.dev.on fHALO_STS_PARTNER_OK = true → s.dev.halo.act = false → s.dev.domOn 1 = true →
      Completes (.haloPartnerLost) s fun d =>
        d.haloState = 3 ∧
        d.halo.act = true ∧
        d.on fHALO_STS_PARTNER_OK = false ∧
        d.on fHALO_STS_WIRE_OK = false ∧
        d.on fHALO_STS_NET_OK = false ∧
        (d.reg rHALO_LOSS_CNT).toNat = min ((s.dev.reg rHALO_LOSS_CNT).toNat + 1) (2 ^ 32 - 1) ∧
        (d.reg rHALO_TAKEOVER_CNT).toNat = min ((s.dev.reg rHALO_TAKEOVER_CNT).toNat + 1) (2 ^ 32 - 1) ∧
        d.on fHALO_EVT_LOG_VALID = true ∧
        (s.dev.on fHALO_EVT_LOG_VALID = false → d.get fHALO_EVT_LOG_FROM = 2 ∧ d.get fHALO_EVT_LOG_TO = 3 ∧ d.get fHALO_EVT_LOG_CAUSE = 2) ∧
        s.dev.sameRegs d (rHALO_STS :: rHALO_EVT_LOG :: rHALO_SPLIT_CNT :: ([rHALO_LOSS_CNT, rHALO_TAKEOVER_CNT] ++ s.dev.evtRegs)) ∧
        d = { s.dev with regs := d.regs, halo := d.halo, mio := d.mio, net := d.net, nextFrame := d.nextFrame, free := d.free, ptp := d.ptp, hq := d.hq, rql := d.rql, cue := d.cue, poison := d.poison, integ := d.integ, irqA := d.irqA, irqB := d.irqB }) ∧
  (∀ (s : State), (s.dev.put fHALO_STS_STATE 0).calm = true → s.dev.refDown 2 = false → s.dev.on fHALO_CFG_EN = true →
    s.dev.on fHALO_STS_NET_OK = true → s.dev.domOn 1 = true →
      Completes (.heartbeatPathSilent none) s fun d =>
        d.on fHALO_STS_WIRE_OK = false ∧
        d.on fHALO_STS_PARTNER_OK = s.dev.on fHALO_STS_PARTNER_OK ∧
        d.haloState = s.dev.haloState ∧
        s.dev.sameRegs d (rHALO_STS :: rHALO_EVT_LOG :: rHALO_SPLIT_CNT :: ([] ++ s.dev.evtRegs)) ∧
        d = { s.dev with regs := d.regs, halo := d.halo, mio := d.mio, net := d.net, nextFrame := d.nextFrame, free := d.free, ptp := d.ptp, hq := d.hq, rql := d.rql, cue := d.cue, poison := d.poison, integ := d.integ, irqA := d.irqA, irqB := d.irqB }) ∧
  (∀ (s : State), (s.dev.put fHALO_STS_STATE 0).calm = true → s.dev.refDown 2 = false → s.dev.haloState = 2 →
    s.dev.on fHALO_CFG_EN = true → s.dev.on fHALO_STS_NET_OK = false → s.dev.on fHALO_STS_PARTNER_OK = true →
    s.dev.domOn 1 = true →
      Completes (.heartbeatPathSilent none) s fun d =>
        d.on fHALO_STS_WIRE_OK = false ∧
        d.on fHALO_STS_PARTNER_OK = false ∧
        d.haloState = 3 ∧
        (d.reg rHALO_LOSS_CNT).toNat = min ((s.dev.reg rHALO_LOSS_CNT).toNat + 1) (2 ^ 32 - 1) ∧
        s.dev.sameRegs d (rHALO_STS :: rHALO_EVT_LOG :: rHALO_SPLIT_CNT :: ([rHALO_LOSS_CNT, rHALO_TAKEOVER_CNT] ++ s.dev.evtRegs)) ∧
        d = { s.dev with regs := d.regs, halo := d.halo, mio := d.mio, net := d.net, nextFrame := d.nextFrame, free := d.free, ptp := d.ptp, hq := d.hq, rql := d.rql, cue := d.cue, poison := d.poison, integ := d.integ, irqA := d.irqA, irqB := d.irqB }) ∧
  (∀ (s : State), (s.dev.put fHALO_STS_STATE 0).calm = true → s.dev.refDown 2 = false → s.dev.haloState = 1 →
    s.dev.domOn 1 = true →
      Completes (.haloInitTimeout) s fun d =>
        d.haloState = 3 ∧
        d.halo.act = true ∧
        d.on fHALO_EVT_LOG_VALID = true ∧
        (s.dev.on fHALO_EVT_LOG_VALID = false → d.get fHALO_EVT_LOG_FROM = 1 ∧ d.get fHALO_EVT_LOG_TO = 3 ∧ d.get fHALO_EVT_LOG_CAUSE = 1) ∧
        s.dev.sameRegs d (rHALO_STS :: rHALO_EVT_LOG :: rHALO_SPLIT_CNT :: ([rHALO_TAKEOVER_CNT] ++ s.dev.evtRegs)) ∧
        d = { s.dev with regs := d.regs, halo := d.halo, mio := d.mio, net := d.net, nextFrame := d.nextFrame, free := d.free, ptp := d.ptp, hq := d.hq, rql := d.rql, cue := d.cue, poison := d.poison, integ := d.integ, irqA := d.irqA, irqB := d.irqB }) ∧
  (∀ (s : State) (b : Bool), s.dev.calm = true →
      Completes (.haloPactChange b) s fun d =>
        d.on fHALO_STS_PACT = b ∧
        s.dev.sameRegs d [rHALO_STS] ∧
        d = { s.dev with regs := d.regs, irqA := d.irqA, irqB := d.irqB })

/-- SWITCH on an active unit without a request pending sets REQ and leaves its result open; on any other unit its result
is 3. A request that nobody takes ends after its time, refused. RECLAIM_NOW, and the expiry of the reclaim count, make
a standby primary ACTIVE when its partner is active and it is fit and ready. (R390, R391, R394, R395) -/
def Obligations.HaloChangesOver : Prop :=
  (∀ (s : State) (p : Port) (v : Word), (s.dev.put fHALO_STS_STATE 0).calm = true → s.dev.refDown 2 = false →
    s.dev.haloState = 3 → s.dev.takes p rHALO_CMD → s.dev.get fHALO_CMD_OP = 0 → s.dev.on fHALO_STS_REQ_PEND = false →
      Completes (.haloSwitch p v) s fun d =>
        d.on fHALO_STS_REQ_PEND = true ∧
        d.get fHALO_STS_CMD_RESULT = 0 ∧
        d.halo.switch = true ∧
        d.haloState = 3 ∧
        d.get fHALO_CMD_OP = 1 ∧
        (d.port p).code = 0 ∧
        s.dev.sameRegs d (rHALO_STS :: rHALO_EVT_LOG :: rHALO_SPLIT_CNT :: ([rHALO_CMD] ++ s.dev.evtRegs)) ∧
        d = { s.dev with regs := d.regs, ports := d.ports, halo := d.halo, mio := d.mio, net := d.net, nextFrame := d.nextFrame, free := d.free, ptp := d.ptp, hq := d.hq, rql := d.rql, cue := d.cue, poison := d.poison, integ := d.integ, irqA := d.irqA, irqB := d.irqB }) ∧
  (∀ (s : State) (p : Port) (v : Word), (s.dev.put fHALO_STS_STATE 0).calm = true → s.dev.refDown 2 = false →
    (s.dev.haloState ≠ 3 ∨ s.dev.on fHALO_STS_REQ_PEND = true) → s.dev.takes p rHALO_CMD → s.dev.get fHALO_CMD_OP = 0 →
      Completes (.haloSwitch p v) s fun d =>
        d.get fHALO_STS_CMD_RESULT = 3 ∧
        d.haloState = s.dev.haloState ∧
        (d.port p).code = 0 ∧
        s.dev.sameRegs d (rHALO_STS :: rHALO_EVT_LOG :: rHALO_SPLIT_CNT :: ([rHALO_CMD] ++ s.dev.evtRegs)) ∧
        d = { s.dev with regs := d.regs, ports := d.ports, halo := d.halo, mio := d.mio, net := d.net, nextFrame := d.nextFrame, free := d.free, ptp := d.ptp, hq := d.hq, rql := d.rql, cue := d.cue, poison := d.poison, integ := d.integ, irqA := d.irqA, irqB := d.irqB }) ∧
  (∀ (s : State), (s.dev.put fHALO_STS_STATE 0).calm = true → s.dev.refDown 2 = false → s.dev.haloState = 3 →
    s.dev.on fHALO_STS_REQ_PEND = true → s.dev.domOn 1 = true →
      Completes (.haloReqTimeout) s fun d =>
        d.on fHALO_STS_REQ_PEND = false ∧
        (d.reg rHALO_REQ_REFUSE_CNT).toNat = min ((s.dev.reg rHALO_REQ_REFUSE_CNT).toNat + 1) (2 ^ 32 - 1) ∧
        d.haloState = 3 ∧
        (s.dev.halo.switch = true → d.get fHALO_STS_CMD_RESULT = 2) ∧
        s.dev.sameRegs d (rHALO_STS :: rHALO_EVT_LOG :: rHALO_SPLIT_CNT :: ([rHALO_REQ_REFUSE_CNT] ++ s.dev.evtRegs)) ∧
        d = { s.dev with regs := d.regs, halo := d.halo, mio := d.mio, net := d.net, nextFrame := d.nextFrame, free := d.free, ptp := d.ptp, hq := d.hq, rql := d.rql, cue := d.cue, poison := d.poison, integ := d.integ, irqA := d.irqA, irqB := d.irqB }) ∧
  (∀ (s : State) (p : Port) (v : Word), (s.dev.put fHALO_STS_STATE 0).calm = true → s.dev.refDown 2 = false →
    s.dev.haloState = 2 → s.dev.takes p rHALO_CMD → s.dev.get fHALO_CMD_OP = 0 → s.dev.haloSecondary = false →
    s.dev.on fHALO_STS_PARTNER_ACT = true → s.dev.haloFit = true → s.dev.haloReady = true →
      Completes (.haloReclaimNow p v) s fun d =>
        d.haloState = 3 ∧
        d.halo.act = true ∧
        d.get fHALO_STS_CMD_RESULT = 1 ∧
        (d.reg rHALO_RECLAIM_CNT).toNat = min ((s.dev.reg rHALO_RECLAIM_CNT).toNat + 1) (2 ^ 32 - 1) ∧
        d.on fHALO_EVT_LOG_VALID = true ∧
        (s.dev.on fHALO_EVT_LOG_VALID = false → d.get fHALO_EVT_LOG_FROM = 2 ∧ d.get fHALO_EVT_LOG_TO = 3 ∧ d.get fHALO_EVT_LOG_CAUSE = 5) ∧
        (d.port p).code = 0 ∧
        s.dev.sameRegs d (rHALO_STS :: rHALO_EVT_LOG :: rHALO_SPLIT_CNT :: ([rHALO_CMD, rHALO_RECLAIM_CNT, rHALO_TAKEOVER_CNT] ++ s.dev.evtRegs)) ∧
        d = { s.dev with regs := d.regs, ports := d.ports, halo := d.halo, mio := d.mio, net := d.net, nextFrame := d.nextFrame, free := d.free, ptp := d.ptp, hq := d.hq, rql := d.rql, cue := d.cue, poison := d.poison, integ := d.integ, irqA := d.irqA, irqB := d.irqB }) ∧
  (∀ (s : State) (p : Port) (v : Word), (s.dev.put fHALO_STS_STATE 0).calm = true → s.dev.refDown 2 = false →
    s.dev.takes p rHALO_CMD → s.dev.get fHALO_CMD_OP = 0 → s.dev.haloState = 2 → s.dev.haloSecondary = false →
    s.dev.on fHALO_STS_PARTNER_ACT = false →
      Completes (.haloReclaimNow p v) s fun d =>
        d.haloState = 2 ∧
        d.get fHALO_STS_CMD_RESULT = 2 ∧
        (d.port p).code = 0 ∧
        s.dev.sameRegs d (rHALO_STS :: rHALO_EVT_LOG :: rHALO_SPLIT_CNT :: ([rHALO_CMD] ++ s.dev.evtRegs)) ∧
        d = { s.dev with regs := d.regs, ports := d.ports, halo := d.halo, mio := d.mio, net := d.net, nextFrame := d.nextFrame, free := d.free, ptp := d.ptp, hq := d.hq, rql := d.rql, cue := d.cue, poison := d.poison, integ := d.integ, irqA := d.irqA, irqB := d.irqB }) ∧
  (∀ (s : State), (s.dev.put fHALO_STS_STATE 0).calm = true → s.dev.refDown 2 = false → s.dev.reclaimRuns = true →
    s.dev.halo.reclaim.isSome = true → s.dev.domOn 1 = true →
      Completes (.reclaimExpiry) s fun d =>
        d.haloState = 3 ∧
        d.halo.act = true ∧
        (d.reg rHALO_RECLAIM_CNT).toNat = min ((s.dev.reg rHALO_RECLAIM_CNT).toNat + 1) (2 ^ 32 - 1) ∧
        d.on fHALO_EVT_LOG_VALID = true ∧
        (s.dev.on fHALO_EVT_LOG_VALID = false → d.get fHALO_EVT_LOG_FROM = 2 ∧ d.get fHALO_EVT_LOG_TO = 3 ∧ d.get fHALO_EVT_LOG_CAUSE = 5) ∧
        s.dev.sameRegs d (rHALO_STS :: rHALO_EVT_LOG :: rHALO_SPLIT_CNT :: ([rHALO_RECLAIM_CNT, rHALO_TAKEOVER_CNT] ++ s.dev.evtRegs)) ∧
        d = { s.dev with regs := d.regs, halo := d.halo, mio := d.mio, net := d.net, nextFrame := d.nextFrame, free := d.free, ptp := d.ptp, hq := d.hq, rql := d.rql, cue := d.cue, poison := d.poison, integ := d.integ, irqA := d.irqA, irqB := d.irqB })

/-- A 32-bit pop of a queue that holds words returns the tag of the oldest one, latches its two halves for the port and
removes it; a word stored in the same queue cycle is appended, and the marks are evaluated once; an empty queue
returns 0 and counts; a narrower access is a bus error and pops nothing. A flush discards and counts every word at
once, or when the packet in progress ends. A queue whose pointers disagree is emptied, counted and captured. Its
producer, its marks and the flow-control map are stored as written; a pin of the map whose ball group is free is
claimed, and one that another function holds stays off. (R400, R403, R405, R409, R410, R412, R413, R414, R419, R420) -/
def Obligations.HostQueuesArePoppedAndFlushed : Prop :=
  (∀ (s : State) (q : Fin 32) (p : Port) (w : HqWord) (t : List HqWord), s.dev.calm = true →
    s.dev.accCheck p (rHQnn_POP q.val) .b32 false = none → (s.dev.hqOf q.val).flushPend = false →
    (s.dev.hqOf q.val).words = w :: t → t.length < 1024 → w.nbytes ≤ 8 →
      Completes (.hqPop q p { size := .b32 }) s fun d =>
        (d.hqOf q.val).words = t ∧
        (d.hqOf q.val).rp = ((s.dev.hqOf q.val).rp + 1) % 1024 ∧
        (d.port p).resp = [hqTag true w.last w.torn t.length w.nbytes] ∧
        d.latched p (rHQnn_DATA_L q.val) = some (w.data.setWidth 32) ∧
        d.latched p (rHQnn_DATA_H q.val) = some ((w.data >>> 32).setWidth 32) ∧
        (d.port p).code = 0 ∧
        s.dev.sameRegs d [rHQnn_WM_CROSS_CNT q.val] ∧
        d = { s.dev with regs := d.regs, ports := d.ports, hq := d.hq, irqA := d.irqA, irqB := d.irqB }) ∧
  (∀ (s : State) (q : Fin 32) (p : Port), s.dev.calm = true → s.dev.accCheck p (rHQnn_POP q.val) .b32 false = none →
    (s.dev.hqOf q.val).flushPend = false → (s.dev.hqOf q.val).words = [] →
      Completes (.hqPop q p { size := .b32 }) s fun d =>
        (d.port p).resp = [0] ∧
        (d.reg (rHQnn_EMPTY_POP_CNT q.val)).toNat = min ((s.dev.reg (rHQnn_EMPTY_POP_CNT q.val)).toNat + 1) (2 ^ 32 - 1) ∧
        (d.port p).code = 0 ∧
        s.dev.sameRegs d [rHQnn_EMPTY_POP_CNT q.val] ∧
        d = { s.dev with regs := d.regs, ports := d.ports, irqA := d.irqA, irqB := d.irqB }) ∧
  (∀ (s : State) (q : Fin 32) (p : Port) (w : HqWord) (r : HqWord) (t : List HqWord), s.dev.calm = true →
    s.dev.accCheck p (rHQnn_POP q.val) .b32 false = none → (s.dev.hqOf q.val).flushPend = false →
    (s.dev.hqOf q.val).words = w :: t → t.length < 1024 → (s.dev.hqOf q.val).rest = [r] →
      Completes (.hqPop q p { size := .b32, store := true }) s fun d =>
        (d.hqOf q.val).words = t ++ [r] ∧
        (d.hqOf q.val).rest = [] ∧
        (d.port p).resp = [hqTag true w.last w.torn t.length w.nbytes] ∧
        (d.reg (rHQnn_WM_CROSS_CNT q.val) = s.dev.reg (rHQnn_WM_CROSS_CNT q.val) ∨ (s.dev.hqOf q.val).above = false) ∧
        (d.port p).code = 0 ∧
        s.dev.sameRegs d [rHQnn_WM_CROSS_CNT q.val, rINT_INJ_CMD] ∧
        d = { s.dev with regs := d.regs, ports := d.ports, hq := d.hq, poison := d.poison, integ := d.integ, irqA := d.irqA, irqB := d.irqB }) ∧
  (∀ (s : State) (q : Fin 32) (p : Port) (x : PopAt), s.dev.calm = true → x.size ≠ .b32 → x.store = false →
    s.dev.domOn 1 = true →
      Completes (.hqPop q p x) s fun d =>
        (d.port p).code = 2 ∧
        (d.reg rGLB_BUSERR_CNT).toNat = min ((s.dev.reg rGLB_BUSERR_CNT).toNat + 1) (2 ^ 32 - 1) ∧
        s.dev.sameRegs d [rGLB_BUSERR_CNT, rGLB_BUSERR_LOG] ∧
        d = { s.dev with regs := d.regs, ports := d.ports, irqA := d.irqA, irqB := d.irqB }) ∧
  (∀ (s : State) (q : Fin 32) (p : Port) (v : Word) (m : Meets), s.dev.calm = true → s.dev.takes p (rHQnn_CMD q.val) →
    (s.dev.hqOf q.val).flushPend = false → (s.dev.hqOf q.val).rest = [] →
      Completes (.hqFlush q p v m) s fun d =>
        (d.hqOf q.val).words = [] ∧
        (d.hqOf q.val).rp = (s.dev.hqOf q.val).wp ∧
        (d.reg (rHQnn_DISC_CNT q.val)).toNat = min ((s.dev.reg (rHQnn_DISC_CNT q.val)).toNat + (s.dev.hqOf q.val).words.length) (2 ^ 32 - 1) ∧
        (d.port p).code = 0 ∧
        s.dev.sameRegs d [rHQnn_CMD q.val, rHQnn_DISC_CNT q.val, rHQnn_WM_CROSS_CNT q.val] ∧
        d = { s.dev with regs := d.regs, ports := d.ports, hq := d.hq, irqA := d.irqA, irqB := d.irqB }) ∧
  (∀ (s : State) (q : Fin 32) (p : Port) (v : Word) (m : Meets), s.dev.calm = true → s.dev.takes p (rHQnn_CMD q.val) →
    (s.dev.hqOf q.val).flushPend = false → (s.dev.hqOf q.val).rest ≠ [] →
      Completes (.hqFlush q p v m) s fun d =>
        (d.hqOf q.val) = { (s.dev.hqOf q.val) with flushPend := true } ∧
        (fHQnn_CMD_FLUSH q.val).get (d.regValue (rHQnn_CMD q.val)) = 1 ∧
        (d.port p).code = 0 ∧
        s.dev.sameRegs d [rHQnn_CMD q.val] ∧
        d = { s.dev with regs := d.regs, ports := d.ports, hq := d.hq, irqA := d.irqA, irqB := d.irqB }) ∧
  (∀ (s : State) (q : Fin 32), s.dev.calm = true → (s.dev.hqOf q.val).flushPend = true →
    (s.dev.hqOf q.val).words.length + (s.dev.hqOf q.val).rest.length ≤ 1024 → s.dev.domOn 1 = true →
      Completes (.hqFlushComplete q) s fun d =>
        (d.hqOf q.val).words = [] ∧
        (d.hqOf q.val).rest = [] ∧
        (d.hqOf q.val).flushPend = false ∧
        (fHQnn_CMD_FLUSH q.val).get (d.regValue (rHQnn_CMD q.val)) = 0 ∧
        (d.reg (rHQnn_DISC_CNT q.val)).toNat = min ((s.dev.reg (rHQnn_DISC_CNT q.val)).toNat + ((s.dev.hqOf q.val).words.length + (s.dev.hqOf q.val).rest.length)) (2 ^ 32 - 1) ∧
        s.dev.sameRegs d [rHQnn_DISC_CNT q.val, rHQnn_WM_CROSS_CNT q.val, rINT_INJ_CMD] ∧
        d = { s.dev with regs := d.regs, hq := d.hq, poison := d.poison, integ := d.integ, irqA := d.irqA, irqB := d.irqB }) ∧
  (∀ (s : State) (q : Fin 32), s.dev.calm = true → s.dev.get fHQ_ROUTE_EVT_Q ≠ q.val → s.dev.domOn 1 = true →
      Completes (.hqPointerMismatch q) s fun d =>
        (d.hqOf q.val).words = [] ∧
        (d.hqOf q.val).rest = [] ∧
        (d.hqOf q.val).wp = 0 ∧
        (d.hqOf q.val).rp = 0 ∧
        (d.reg (rHQnn_DISC_CNT q.val)).toNat = min ((s.dev.reg (rHQnn_DISC_CNT q.val)).toNat + ((s.dev.hqOf q.val).words.length + (s.dev.hqOf q.val).rest.length)) (2 ^ 32 - 1) ∧
        (d.reg (rHQnn_QERR_CNT q.val)).toNat = min ((s.dev.reg (rHQnn_QERR_CNT q.val)).toNat + 1) (2 ^ 32 - 1) ∧
        d.on fHQ_QERR_VALID = true ∧
        (s.dev.on fHQ_QERR_VALID = false → d.get fHQ_QERR_QUEUE = q.val) ∧
        s.dev.sameRegs d (rHQnn_DISC_CNT q.val :: rHQnn_QERR_CNT q.val :: rHQ_QERR :: rHQnn_WM_CROSS_CNT q.val :: s.dev.evtRegs) ∧
        d = { s.dev with regs := d.regs, hq := d.hq, rql := d.rql, cue := d.cue, poison := d.poison, integ := d.integ, irqA := d.irqA, irqB := d.irqB }) ∧
  (∀ (s : State) (q : Fin 32) (p : Port) (x : WmWrite), s.dev.calm = true → s.dev.takes p (rHQnn_WM q.val) → x.store = false →
      Completes (.hqWmWrite q p x) s fun d =>
        d.reg (rHQnn_WM q.val) = (s.dev.stored (rHQnn_WM q.val) x.word).reg (rHQnn_WM q.val) ∧
        (d.get (fHQnn_WM_HIGH q.val) = 0 → (d.hqOf q.val).above = false) ∧
        (d.hqOf q.val).words = (s.dev.hqOf q.val).words ∧
        (d.port p).code = 0 ∧
        s.dev.sameRegs d [rHQnn_WM q.val, rHQnn_WM_CROSS_CNT q.val, rGLB_IGN_CNT, rGLB_IGN_OVF_CNT] ∧
        d = { s.dev with regs := d.regs, ports := d.ports, hq := d.hq, ign := d.ign, irqA := d.irqA, irqB := d.irqB }) ∧
  (∀ (s : State) (b : Bool) (p : Port) (v : Word) (a : Nat) (k : Nat), s.dev.calm = true →
    (a = (if b then rHQ_FC_MAP_H else rHQ_FC_MAP_L)) → (k = (if b then 4 else 0)) → s.dev.takes p a →
    (∀ g ∈ List.range 4, s.dev.on (fcEn (k + g)) = false ∧ s.dev.get (fPIN_GRPnn_OWNER_OWNER (k + g)) = 0 ∧ s.dev.grpPrio (k + g) = 0) →
      Completes (.fcMapWrite b p v) s fun d =>
        d.reg a = (s.dev.stored a v).reg a ∧
        (∀ g ∈ List.range 4, d.get (fPIN_GRPnn_OWNER_OWNER (k + g)) = (if (fcEn (k + g)).get v = 1 then 1 else 0)) ∧
        (d.port p).code = 0 ∧
        s.dev.sameRegs d [a, rPIN_GRPnn_OWNER k, rPIN_GRPnn_OWNER (k + 1), rPIN_GRPnn_OWNER (k + 2), rPIN_GRPnn_OWNER (k + 3)] ∧
        d = { s.dev with regs := d.regs, ports := d.ports, irqA := d.irqA, irqB := d.irqB }) ∧
  (∀ (s : State) (b : Bool) (p : Port) (v : Word) (a : Nat) (k : Nat) (g : Nat), s.dev.calm = true →
    (a = (if b then rHQ_FC_MAP_H else rHQ_FC_MAP_L)) → (k = (if b then 4 else 0)) → s.dev.takes p a → g < 4 →
    s.dev.on (fcEn (k + g)) = false → s.dev.get (fPIN_GRPnn_OWNER_OWNER (k + g)) = 2 → (fcEn (k + g)).get v = 1 →
      Completes (.fcMapWrite b p v) s fun d =>
        d.on (fcEn (k + g)) = false ∧
        d.get (fPIN_GRPnn_OWNER_OWNER (k + g)) = 2 ∧
        d.on fPIN_CONFLICT_VALID = true ∧
        (d.port p).code = 0 ∧
        s.dev.sameRegs d [a, rPIN_CONFLICT, rPIN_GRPnn_OWNER k, rPIN_GRPnn_OWNER (k + 1), rPIN_GRPnn_OWNER (k + 2), rPIN_GRPnn_OWNER (k + 3)] ∧
        d = { s.dev with regs := d.regs, ports := d.ports, irqA := d.irqA, irqB := d.irqB }) ∧
  (∀ (s : State) (q : Fin 32) (p : Port) (v : Word), s.dev.calm = true → s.dev.takes p (rHQnn_CFG q.val) →
      Completes (.hqEnable q p v) s fun d =>
        d.reg (rHQnn_CFG q.val) = (s.dev.stored (rHQnn_CFG q.val) v).reg (rHQnn_CFG q.val) ∧
        (d.port p).code = 0 ∧
        s.dev.sameRegs d [rHQnn_CFG q.val, rGLB_IGN_CNT, rGLB_IGN_OVF_CNT] ∧
        d = { s.dev with regs := d.regs, ports := d.ports, ign := d.ign, irqA := d.irqA, irqB := d.irqB })

/-- An SPI write transaction of n words to n consecutive table data registers of the cue engine stores them in order and
returns STATUS 0; a read returns them in order; neither changes anything else. A malformed OP makes no access, is
counted and returns code 7. An access that fails ends the transaction with its code and index, is counted, and stores
nothing. A CMP write, read and the words before an abort do the same; an abort is counted. A CMP read whose first word
cannot be read returns none; a transaction to another device address does nothing. (R417, R418, R420, R421, R422,
R423, R424) -/
def Obligations.HostPortsReadAndWrite : Prop :=
  (∀ (s : State) (m : Meets) (x : SpiXact) (k : Nat), s.dev.calm = true → s.dev.domOn 1 = true → s.dev.boot.lc ≠ 3 →
    s.dev.boot.changing = false → x.op = 0 → x.addr.toNat = rCUE_TBL_DATAk k → x.count + 1 = x.data.length →
    k + x.data.length ≤ 16 →
      Completes (.spiTransaction m x) s fun d =>
        (∀ j ∈ List.range 16, j < x.data.length → d.reg (rCUE_TBL_DATAk (k + j)) = x.data.getD j 0) ∧
        (∀ j ∈ List.range 16, (j < k ∨ k + x.data.length ≤ j) → d.reg (rCUE_TBL_DATAk j) = s.dev.reg (rCUE_TBL_DATAk j)) ∧
        (d.port .spi).code = 0 ∧
        (d.port .spi).resp = [] ∧
        s.dev.sameRegs d ((List.range 16).map rCUE_TBL_DATAk) ∧
        d = { s.dev with regs := d.regs, ports := d.ports, irqA := d.irqA, irqB := d.irqB }) ∧
  (∀ (s : State) (m : Meets) (x : SpiXact) (k : Nat), s.dev.calm = true → s.dev.domOn 1 = true → s.dev.boot.lc ≠ 3 →
    s.dev.boot.changing = false → x.op = 0x80 → x.late = none → x.addr.toNat = rCUE_TBL_DATAk k → k + x.count < 16 →
      Completes (.spiTransaction m x) s fun d =>
        ((d.port .spi).resp = (List.range (x.count + 1)).map fun j => (s.dev.reg (rCUE_TBL_DATAk (k + j))).toNat) ∧
        (d.port .spi).code = 0 ∧
        s.dev.sameRegs d [] ∧
        d = { s.dev with regs := d.regs, ports := d.ports, irqA := d.irqA, irqB := d.irqB }) ∧
  (∀ (s : State) (m : Meets) (x : SpiXact), s.dev.calm = true → s.dev.domOn 1 = true → spiGood x.op = false →
      Completes (.spiTransaction m x) s fun d =>
        (d.port .spi).code = 0x8700 ∧
        (d.port .spi).resp = [] ∧
        (d.reg rGLB_BUSERR_CNT).toNat = min ((s.dev.reg rGLB_BUSERR_CNT).toNat + 1) (2 ^ 32 - 1) ∧
        s.dev.sameRegs d [rGLB_BUSERR_CNT, rGLB_BUSERR_LOG] ∧
        d = { s.dev with regs := d.regs, ports := d.ports, irqA := d.irqA, irqB := d.irqB }) ∧
  (∀ (s : State) (m : Meets) (x : SpiXact) (c : Nat) (v : Word) (l : List Word), s.dev.calm = true → s.dev.domOn 1 = true →
    x.op = 0 → x.data = v :: l → s.dev.accCheck .spi x.addr.toNat .b32 true = some c →
      Completes (.spiTransaction m x) s fun d =>
        (d.port .spi).code = (128 + c) * 256 ∧
        (d.reg rGLB_BUSERR_CNT).toNat = min ((s.dev.reg rGLB_BUSERR_CNT).toNat + 1) (2 ^ 32 - 1) ∧
        s.dev.sameRegs d [rGLB_BUSERR_CNT, rGLB_BUSERR_LOG] ∧
        d = { s.dev with regs := d.regs, ports := d.ports, irqA := d.irqA, irqB := d.irqB }) ∧
  (∀ (s : State) (m : Meets) (x : SpiXact) (k : Nat) (n : Nat), s.dev.calm = true → s.dev.domOn 1 = true → s.dev.boot.lc ≠ 3 →
    s.dev.boot.changing = false → x.op = 0 → x.addr.toNat = rCUE_TBL_DATAk k → x.count + 1 = x.data.length → 5 ≤ n →
    (n - 5) / 4 < x.data.length → k + x.data.length ≤ 16 →
      Completes (.spiAbort m x n 0 false) s fun d =>
        (∀ j ∈ List.range 16, j < (n - 5) / 4 → d.reg (rCUE_TBL_DATAk (k + j)) = x.data.getD j 0) ∧
        (∀ j ∈ List.range 16, (j < k ∨ k + (n - 5) / 4 ≤ j) → d.reg (rCUE_TBL_DATAk j) = s.dev.reg (rCUE_TBL_DATAk j)) ∧
        (d.reg rGLB_SPI_ABORT_CNT).toNat = min ((s.dev.reg rGLB_SPI_ABORT_CNT).toNat + 1) (2 ^ 32 - 1) ∧
        s.dev.sameRegs d (rGLB_SPI_ABORT_CNT :: ((List.range 16).map rCUE_TBL_DATAk)) ∧
        d = { s.dev with regs := d.regs, ports := d.ports, irqA := d.irqA, irqB := d.irqB }) ∧
  (∀ (s : State) (m : Meets) (a : CmpAddr) (ws : List Word) (k : Nat), s.dev.calm = true → s.dev.domOn 1 = true →
    s.dev.boot.lc ≠ 3 → s.dev.boot.changing = false → s.dev.cmpMine a.dev = true → a.addr.toNat = rCUE_TBL_DATAk k →
    ws ≠ [] → k + ws.length ≤ 16 →
      Completes (.cmpWrite m a ws) s fun d =>
        (∀ j ∈ List.range 16, j < ws.length → d.reg (rCUE_TBL_DATAk (k + j)) = ws.getD j 0) ∧
        (∀ j ∈ List.range 16, (j < k ∨ k + ws.length ≤ j) → d.reg (rCUE_TBL_DATAk j) = s.dev.reg (rCUE_TBL_DATAk j)) ∧
        (d.port .cmp).code = 0 ∧
        s.dev.sameRegs d ((List.range 16).map rCUE_TBL_DATAk) ∧
        d = { s.dev with regs := d.regs, ports := d.ports, irqA := d.irqA, irqB := d.irqB }) ∧
  (∀ (s : State) (m : Meets) (a : CmpAddr) (n : Nat) (k : Nat), s.dev.calm = true → s.dev.domOn 1 = true → s.dev.boot.lc ≠ 3 →
    s.dev.boot.changing = false → s.dev.cmpMine a.dev = true → a.addr.toNat = rCUE_TBL_DATAk k → 1 ≤ n → k + n ≤ 16 →
      Completes (.cmpRead m a n) s fun d =>
        ((d.port .cmp).resp = (List.range n).map fun j => (s.dev.reg (rCUE_TBL_DATAk (k + j))).toNat) ∧
        (d.port .cmp).code = 0 ∧
        s.dev.sameRegs d [] ∧
        d = { s.dev with regs := d.regs, ports := d.ports, irqA := d.irqA, irqB := d.irqB }) ∧
  (∀ (s : State) (m : Meets) (a : CmpAddr) (n : Nat) (c : Nat), s.dev.calm = true → s.dev.domOn 1 = true → 1 ≤ n →
    s.dev.cmpMine a.dev = true → s.dev.accCheck .cmp a.addr.toNat .b32 false = some c →
      Completes (.cmpRead m a n) s fun d =>
        (d.port .cmp).resp = [] ∧
        (d.port .cmp).code = c ∧
        (d.reg rGLB_BUSERR_CNT).toNat = min ((s.dev.reg rGLB_BUSERR_CNT).toNat + 1) (2 ^ 32 - 1) ∧
        s.dev.sameRegs d [rGLB_BUSERR_CNT, rGLB_BUSERR_LOG] ∧
        d = { s.dev with regs := d.regs, ports := d.ports, irqA := d.irqA, irqB := d.irqB }) ∧
  (∀ (s : State) (m : Meets) (a : CmpAddr) (ws : List Word) (k : Nat), s.dev.calm = true → s.dev.domOn 1 = true →
    s.dev.boot.lc ≠ 3 → s.dev.boot.changing = false → s.dev.cmpMine a.dev = true → a.addr.toNat = rCUE_TBL_DATAk k →
    k + ws.length ≤ 16 →
      Completes (.cmpAbort m a ws) s fun d =>
        (∀ j ∈ List.range 16, j < ws.length → d.reg (rCUE_TBL_DATAk (k + j)) = ws.getD j 0) ∧
        (∀ j ∈ List.range 16, (j < k ∨ k + ws.length ≤ j) → d.reg (rCUE_TBL_DATAk j) = s.dev.reg (rCUE_TBL_DATAk j)) ∧
        (d.reg rGLB_CMP_ABORT_CNT).toNat = min ((s.dev.reg rGLB_CMP_ABORT_CNT).toNat + 1) (2 ^ 32 - 1) ∧
        s.dev.sameRegs d (rGLB_CMP_ABORT_CNT :: ((List.range 16).map rCUE_TBL_DATAk)) ∧
        d = { s.dev with regs := d.regs, ports := d.ports, irqA := d.irqA, irqB := d.irqB }) ∧
  (∀ (s : State) (m : Meets) (a : CmpAddr) (ws : List Word), s.dev.calm = true → s.dev.domOn 1 = true →
    s.dev.cmpMine a.dev = false →
      Completes (.cmpWrite m a ws) s fun d =>
        s.dev.sameRegs d [] ∧
        d = { s.dev with regs := d.regs, irqA := d.irqA, irqB := d.irqB })

/-- A write that passes the checks stores what its register's write bits take. One that fails is a bus error: its code is
the port's answer, the error is counted and, while the log is empty, captured, and no register that it names changes.
A write that would change class D bits of an enabled owner leaves them, is counted, and is added to the ignore record
while that holds fewer than four entries. A read of GLB_IGN_REC_L pops the oldest entry and latches its owner; with
none it returns 0. (R419, R420, R428, R429, R430, R432) -/
def Obligations.WritesAreCheckedAndRecorded : Prop :=
  (∀ (s : State) (m : Meets) (p : Port) (v : Word) (k : Fin 16), s.dev.calm = true → s.dev.takes p (rCUE_TBL_DATAk k.val) →
      Completes (.registerWrite m p (BitVec.ofNat 24 (rCUE_TBL_DATAk k.val)) .b32 v) s fun d =>
        d.reg (rCUE_TBL_DATAk k.val) = v ∧
        (d.port p).code = 0 ∧
        s.dev.sameRegs d [rCUE_TBL_DATAk k.val] ∧
        d = { s.dev with regs := d.regs, ports := d.ports, irqA := d.irqA, irqB := d.irqB }) ∧
  (∀ (s : State) (m : Meets) (p : Port) (a : BitVec 24) (z : AccSize) (v : Word) (c : Nat), s.dev.calm = true →
    s.dev.domOn 1 = true → s.dev.accCheck p a.toNat z true = some c →
      Completes (.registerWrite m p a z v) s fun d =>
        (d.port p).code = c ∧
        (d.reg rGLB_BUSERR_CNT).toNat = min ((s.dev.reg rGLB_BUSERR_CNT).toNat + 1) (2 ^ 32 - 1) ∧
        d.on fGLB_BUSERR_LOG_VALID = true ∧
        (s.dev.on fGLB_BUSERR_LOG_VALID = false → d.get fGLB_BUSERR_LOG_CODE = c % 8 ∧ d.get fGLB_BUSERR_LOG_ADDR = a.toNat ∧ d.get fGLB_BUSERR_LOG_PORT = portCode p) ∧
        s.dev.sameRegs d [rGLB_BUSERR_CNT, rGLB_BUSERR_LOG] ∧
        d = { s.dev with regs := d.regs, ports := d.ports, irqA := d.irqA, irqB := d.irqB }) ∧
  (∀ (s : State) (m : Meets) (n : Fin 4) (p : Port) (v : Word), s.dev.calm = true →
    s.dev.on (fNETn_SERDES_CFG_LOCK n.val) = true → s.dev.domOn 1 = true → s.dev.domOn (9 + n.val) = true →
    s.dev.boot.lc ≠ 3 → s.dev.boot.changing = false →
      Completes (.registerWrite m p (BitVec.ofNat 24 (rNETn_SERDES_CFG n.val)) .b32 v) s fun d =>
        (d.port p).code = 4 ∧
        (d.reg rGLB_BUSERR_CNT).toNat = min ((s.dev.reg rGLB_BUSERR_CNT).toNat + 1) (2 ^ 32 - 1) ∧
        s.dev.sameRegs d [rGLB_BUSERR_CNT, rGLB_BUSERR_LOG] ∧
        d = { s.dev with regs := d.regs, ports := d.ports, irqA := d.irqA, irqB := d.irqB }) ∧
  (∀ (s : State) (m : Meets) (n : Fin 4) (p : Port) (v : Word), s.dev.calm = true → s.dev.takes p (rNETn_MAC_ADDR_L n.val) →
    s.dev.on (fNETn_MAC_CFG_EN n.val) = true → v ≠ s.dev.reg (rNETn_MAC_ADDR_L n.val) → s.dev.ign.length < 4 →
      Completes (.registerWrite m p (BitVec.ofNat 24 (rNETn_MAC_ADDR_L n.val)) .b32 v) s fun d =>
        d.ign = s.dev.ign ++ [{ port := portCode p, addr := rNETn_MAC_ADDR_L n.val, block := 11, inst := n.val }] ∧
        (d.reg rGLB_IGN_CNT).toNat = min ((s.dev.reg rGLB_IGN_CNT).toNat + 1) (2 ^ 32 - 1) ∧
        (d.port p).ign = true ∧
        (d.port p).code = 0 ∧
        s.dev.sameRegs d [rGLB_IGN_CNT] ∧
        d = { s.dev with regs := d.regs, ports := d.ports, ign := d.ign, irqA := d.irqA, irqB := d.irqB }) ∧
  (∀ (s : State) (m : Meets) (n : Fin 4) (p : Port) (v : Word), s.dev.calm = true → s.dev.takes p (rNETn_MAC_ADDR_L n.val) →
    s.dev.on (fNETn_MAC_CFG_EN n.val) = true → v ≠ s.dev.reg (rNETn_MAC_ADDR_L n.val) → 4 ≤ s.dev.ign.length →
      Completes (.registerWrite m p (BitVec.ofNat 24 (rNETn_MAC_ADDR_L n.val)) .b32 v) s fun d =>
        (d.reg rGLB_IGN_CNT).toNat = min ((s.dev.reg rGLB_IGN_CNT).toNat + 1) (2 ^ 32 - 1) ∧
        (d.reg rGLB_IGN_OVF_CNT).toNat = min ((s.dev.reg rGLB_IGN_OVF_CNT).toNat + 1) (2 ^ 32 - 1) ∧
        (d.port p).ign = true ∧
        (d.port p).code = 0 ∧
        s.dev.sameRegs d [rGLB_IGN_CNT, rGLB_IGN_OVF_CNT] ∧
        d = { s.dev with regs := d.regs, ports := d.ports, irqA := d.irqA, irqB := d.irqB }) ∧
  (∀ (s : State) (p : Port) (e : IgnEntry) (t : List IgnEntry), s.dev.calm = true →
    s.dev.accCheck p rGLB_IGN_REC_L .b32 false = none → s.dev.ign = e :: t → e.port < 8 → e.addr < 2 ^ 24 →
      Completes (.ignRecPop p) s fun d =>
        d.ign = t ∧
        (d.port p).resp = [2 ^ 31 + e.port * 2 ^ 28 + e.addr] ∧
        d.latched p rGLB_IGN_REC_H = some (w32 (e.block * 2 ^ 16 + e.inst)) ∧
        (d.port p).code = 0 ∧
        s.dev.sameRegs d [] ∧
        d = { s.dev with regs := d.regs, ports := d.ports, ign := d.ign, irqA := d.irqA, irqB := d.irqB }) ∧
  (∀ (s : State) (p : Port), s.dev.calm = true → s.dev.accCheck p rGLB_IGN_REC_L .b32 false = none → s.dev.ign = [] →
      Completes (.ignRecPop p) s fun d =>
        (d.port p).resp = [0] ∧
        (d.port p).code = 0 ∧
        s.dev.sameRegs d [] ∧
        d = { s.dev with regs := d.regs, ports := d.ports, irqA := d.irqA, irqB := d.irqB })

/-- The CMP host stages words of a message; the 65th is refused and counted. POST of a message that is staged and fits its
queue sends it, clears the staging buffer and remembers the tag: RESULT 1. A POST with a remembered tag is a replay:
RESULT 1 with REPLAY, and nothing is sent. One of length 0 or longer than what is staged is refused, one whose queue
does not take it is full and counted as rejected. CLEAR empties the staging buffer. The key 0xA5C3 reloads an enabled
watchdog; another value is counted. (R436, R437, R444) -/
def Obligations.MailboxAndWatchdogKick : Prop :=
  (∀ (s : State) (v : Word), s.dev.calm = true → s.dev.takes .cmp rGLB_MBX_DATA → s.dev.mbx.stage.length < 256 →
      Completes (.mbxDataWrite .cmp v) s fun d =>
        d.mbx.stage = s.dev.mbx.stage ++ beBytes 4 v.toNat ∧
        (d.port .cmp).code = 0 ∧
        s.dev.sameRegs d [rGLB_MBX_DATA] ∧
        d = { s.dev with regs := d.regs, ports := d.ports, mbx := d.mbx, irqA := d.irqA, irqB := d.irqB }) ∧
  (∀ (s : State) (v : Word), s.dev.calm = true → s.dev.takes .cmp rGLB_MBX_DATA → 256 ≤ s.dev.mbx.stage.length →
      Completes (.mbxDataWrite .cmp v) s fun d =>
        (d.reg rGLB_MBX_OVF_CNT).toNat = min ((s.dev.reg rGLB_MBX_OVF_CNT).toNat + 1) (2 ^ 32 - 1) ∧
        (d.port .cmp).code = 0 ∧
        s.dev.sameRegs d [rGLB_MBX_DATA, rGLB_MBX_OVF_CNT] ∧
        d = { s.dev with regs := d.regs, ports := d.ports, irqA := d.irqA, irqB := d.irqB }) ∧
  (∀ (s : State) (v : Word) (p : Port), s.dev.calm = true → s.dev.domOn 1 = true → p ≠ .cmp → s.dev.boot.lc ≠ 3 →
    s.dev.boot.changing = false →
      Completes (.mbxDataWrite p v) s fun d =>
        (d.port p).code = 6 ∧
        (d.reg rGLB_BUSERR_CNT).toNat = min ((s.dev.reg rGLB_BUSERR_CNT).toNat + 1) (2 ^ 32 - 1) ∧
        s.dev.sameRegs d [rGLB_BUSERR_CNT, rGLB_BUSERR_LOG] ∧
        d = { s.dev with regs := d.regs, ports := d.ports, irqA := d.irqA, irqB := d.irqB }) ∧
  (∀ (s : State) (v : Word) (t : Nat) (n : Nat) (q : Nat), s.dev.calm = true → s.dev.takes .cmp rGLB_MBX_CMD →
    t = fGLB_MBX_CMD_TAG.get v → n = fGLB_MBX_CMD_LEN.get v → q = s.dev.get fHQ_ROUTE_MBX_Q →
    s.dev.mbx.tags.contains t = false → 1 ≤ n → n ≤ s.dev.mbx.stage.length → s.dev.hqAccepts q 2 = true →
    (s.dev.hqOf q).words.length + (n + 7) / 8 ≤ 1024 →
      Completes (.mbxPost .cmp v) s fun d =>
        d.hq = (s.dev.hqPush q 2 (s.dev.mbx.stage.take n)).hq ∧
        d.mbx = { stage := [], tags := (t :: s.dev.mbx.tags).take 16 } ∧
        d.get fGLB_MBX_STS_RESULT = 1 ∧
        d.on fGLB_MBX_STS_REPLAY = false ∧
        d.get fGLB_MBX_STS_TAG = t ∧
        (d.port .cmp).code = 0 ∧
        s.dev.sameRegs d [rGLB_MBX_CMD, rGLB_MBX_STS, rHQnn_WM_CROSS_CNT q, rHQnn_DISC_CNT q, rHQnn_LOST_CNT q, rHQnn_TORN_CNT q, rINT_INJ_CMD] ∧
        d = { s.dev with regs := d.regs, ports := d.ports, mbx := d.mbx, hq := d.hq, poison := d.poison, integ := d.integ, irqA := d.irqA, irqB := d.irqB }) ∧
  (∀ (s : State) (v : Word) (t : Nat), s.dev.calm = true → s.dev.takes .cmp rGLB_MBX_CMD → t = fGLB_MBX_CMD_TAG.get v →
    s.dev.mbx.tags.contains t = true →
      Completes (.mbxPost .cmp v) s fun d =>
        d.get fGLB_MBX_STS_RESULT = 1 ∧
        d.on fGLB_MBX_STS_REPLAY = true ∧
        d.get fGLB_MBX_STS_TAG = t ∧
        (d.port .cmp).code = 0 ∧
        s.dev.sameRegs d [rGLB_MBX_CMD, rGLB_MBX_STS] ∧
        d = { s.dev with regs := d.regs, ports := d.ports, irqA := d.irqA, irqB := d.irqB }) ∧
  (∀ (s : State) (v : Word) (t : Nat) (n : Nat), s.dev.calm = true → s.dev.takes .cmp rGLB_MBX_CMD →
    t = fGLB_MBX_CMD_TAG.get v → n = fGLB_MBX_CMD_LEN.get v → s.dev.mbx.tags.contains t = false →
    (n = 0 ∨ s.dev.mbx.stage.length < n) →
      Completes (.mbxPost .cmp v) s fun d =>
        d.get fGLB_MBX_STS_RESULT = 2 ∧
        d.get fGLB_MBX_STS_TAG = t ∧
        (d.port .cmp).code = 0 ∧
        s.dev.sameRegs d [rGLB_MBX_CMD, rGLB_MBX_STS] ∧
        d = { s.dev with regs := d.regs, ports := d.ports, irqA := d.irqA, irqB := d.irqB }) ∧
  (∀ (s : State) (v : Word) (t : Nat) (n : Nat) (q : Nat), s.dev.calm = true → s.dev.takes .cmp rGLB_MBX_CMD →
    t = fGLB_MBX_CMD_TAG.get v → n = fGLB_MBX_CMD_LEN.get v → q = s.dev.get fHQ_ROUTE_MBX_Q →
    s.dev.mbx.tags.contains t = false → 1 ≤ n → n ≤ s.dev.mbx.stage.length →
    (s.dev.hqAccepts q 2 = false ∨ 1024 < (s.dev.hqOf q).words.length + (n + 7) / 8) →
      Completes (.mbxPost .cmp v) s fun d =>
        d.get fGLB_MBX_STS_RESULT = 3 ∧
        (d.reg (rHQnn_REJECT_CNT q)).toNat = min ((s.dev.reg (rHQnn_REJECT_CNT q)).toNat + 1) (2 ^ 32 - 1) ∧
        (d.port .cmp).code = 0 ∧
        s.dev.sameRegs d [rGLB_MBX_CMD, rGLB_MBX_STS, rHQnn_REJECT_CNT q] ∧
        d = { s.dev with regs := d.regs, ports := d.ports, irqA := d.irqA, irqB := d.irqB }) ∧
  (∀ (s : State) (v : Word), s.dev.calm = true → s.dev.takes .cmp rGLB_MBX_CMD →
      Completes (.mbxClear .cmp v) s fun d =>
        d.mbx.stage = [] ∧
        d.get fGLB_MBX_STS_RESULT = 1 ∧
        d.on fGLB_MBX_STS_REPLAY = s.dev.on fGLB_MBX_STS_REPLAY ∧
        (d.port .cmp).code = 0 ∧
        s.dev.sameRegs d [rGLB_MBX_CMD, rGLB_MBX_STS] ∧
        d = { s.dev with regs := d.regs, ports := d.ports, mbx := d.mbx, irqA := d.irqA, irqB := d.irqB }) ∧
  (∀ (s : State) (p : Port) (v : Word), s.dev.calm = true → s.dev.takes p rGLB_WDOG_KICK → v.toNat % 65536 = 0xA5C3 →
    s.dev.on fGLB_WDOG_CFG_EN = true →
      Completes (.wdogKick p v) s fun d =>
        d.clk = { s.dev.clk with wdog := 1024 * max 1 (s.dev.get fGLB_WDOG_CFG_TIMEOUT_MS) } ∧
        (d.port p).code = 0 ∧
        s.dev.sameRegs d [rGLB_WDOG_KICK] ∧
        d = { s.dev with regs := d.regs, ports := d.ports, clk := d.clk, irqA := d.irqA, irqB := d.irqB }) ∧
  (∀ (s : State) (p : Port) (v : Word), s.dev.calm = true → s.dev.takes p rGLB_WDOG_KICK → v.toNat % 65536 ≠ 0xA5C3 →
      Completes (.wdogKick p v) s fun d =>
        (d.reg rGLB_WDOG_BADKEY_CNT).toNat = min ((s.dev.reg rGLB_WDOG_BADKEY_CNT).toNat + 1) (2 ^ 32 - 1) ∧
        (d.port p).code = 0 ∧
        s.dev.sameRegs d [rGLB_WDOG_KICK, rGLB_WDOG_BADKEY_CNT] ∧
        d = { s.dev with regs := d.regs, ports := d.ports, irqA := d.irqA, irqB := d.irqB })

/-- SEL = 1 with SYSPLL locked selects it, with SWITCHING set; without the lock, or with the lock falling in the same
cycle, it is refused, counted and SEL reads 0. SEL = 0 falls back. SYSPLL locks while it is enabled and REFCLK is
there, and an unlock is counted. TPLL locks while TIME is on; after a Dawn of TIME its time base advances by the AON
cycles counted. A loss of REFCLK is counted and raised once, and the generators lose their reference; its return is
seen. (R67, R120, R447, R448, R468) -/
def Obligations.ClocksLockSwitchAndFail : Prop :=
  (∀ (s : State) (m : Meets) (p : Port) (v : Word), s.dev.calm = true → s.dev.takes p rCLK_SWITCH →
    fCLK_SWITCH_SEL.get v = 1 → m.unlock = false → s.dev.on fCLK_STS_SYSPLL_LOCK = true → s.dev.selAct = false →
    s.dev.on fDDR_CTL_EN = false →
      Completes (.clkSwitch m p v) s fun d =>
        d.selAct = true ∧
        d.get fCLK_SWITCH_SEL = 1 ∧
        d.clk = { s.dev.clk with switching := true } ∧
        fCLK_STS_SWITCHING.get (d.regValue rCLK_STS) = 1 ∧
        (d.port p).code = 0 ∧
        s.dev.sameRegs d [rCLK_SWITCH, rCLK_STS] ∧
        d = { s.dev with regs := d.regs, ports := d.ports, clk := d.clk, irqA := d.irqA, irqB := d.irqB }) ∧
  (∀ (s : State) (m : Meets) (p : Port) (v : Word), s.dev.calm = true → s.dev.takes p rCLK_SWITCH →
    fCLK_SWITCH_SEL.get v = 1 → s.dev.on fCLK_STS_SYSPLL_LOCK = false →
      Completes (.clkSwitch m p v) s fun d =>
        d.get fCLK_SWITCH_SEL = 0 ∧
        (d.reg rCLK_SW_REFUSE_CNT).toNat = min ((s.dev.reg rCLK_SW_REFUSE_CNT).toNat + 1) (2 ^ 32 - 1) ∧
        (d.port p).code = 0 ∧
        s.dev.sameRegs d [rCLK_SWITCH, rCLK_SW_REFUSE_CNT] ∧
        d = { s.dev with regs := d.regs, ports := d.ports, irqA := d.irqA, irqB := d.irqB }) ∧
  (∀ (s : State) (m : Meets) (p : Port) (v : Word), s.dev.calm = true → s.dev.takes p rCLK_SWITCH →
    fCLK_SWITCH_SEL.get v = 1 → m.unlock = true → s.dev.on fCLK_STS_SYSPLL_LOCK = true →
      Completes (.clkSwitch m p v) s fun d =>
        d.get fCLK_SWITCH_SEL = 0 ∧
        d.on fCLK_STS_SYSPLL_LOCK = false ∧
        (d.reg rCLK_SYSPLL_UNLOCK_CNT).toNat = min ((s.dev.reg rCLK_SYSPLL_UNLOCK_CNT).toNat + 1) (2 ^ 32 - 1) ∧
        (d.reg rCLK_SW_REFUSE_CNT).toNat = min ((s.dev.reg rCLK_SW_REFUSE_CNT).toNat + 1) (2 ^ 32 - 1) ∧
        d.selAct = s.dev.selAct ∧
        (d.port p).code = 0 ∧
        s.dev.sameRegs d [rCLK_SWITCH, rCLK_STS, rCLK_SW_REFUSE_CNT, rCLK_SYSPLL_UNLOCK_CNT] ∧
        d = { s.dev with regs := d.regs, ports := d.ports, irqA := d.irqA, irqB := d.irqB }) ∧
  (∀ (s : State) (m : Meets) (p : Port) (v : Word), s.dev.calm = true → s.dev.takes p rCLK_SWITCH →
    fCLK_SWITCH_SEL.get v = 0 → m.unlock = false → s.dev.selAct = true →
      Completes (.clkSwitch m p v) s fun d =>
        d.selAct = false ∧
        d.get fCLK_SWITCH_SEL = 0 ∧
        d.on fCLK_STS_SYSPLL_LOCK = s.dev.on fCLK_STS_SYSPLL_LOCK ∧
        d.clk = { s.dev.clk with switching := true } ∧
        (d.port p).code = 0 ∧
        d = { s.dev with regs := d.regs, ports := d.ports, clk := d.clk, ticks := d.ticks, stx := d.stx, srx := d.srx, anv := d.anv, ddr := d.ddr, rings := d.rings, tbl := d.tbl, store := d.store, sap := d.sap, net := d.net, nextFrame := d.nextFrame, free := d.free, poison := d.poison, integ := d.integ, hq := d.hq, rql := d.rql, cue := d.cue, lanesRec := d.lanesRec, wbPend := d.wbPend, irqA := d.irqA, irqB := d.irqB }) ∧
  (∀ (s : State), s.dev.calm = true → s.dev.domOn 1 = true → s.dev.on fCLK_SRC_CFG_SYSPLL_EN = true →
    s.dev.clk.refclk = true → s.dev.pwr.policy = false →
      Completes (.syspllLock) s fun d =>
        d.on fCLK_STS_SYSPLL_LOCK = true ∧
        s.dev.sameRegs d [rCLK_STS] ∧
        d = { s.dev with regs := d.regs, irqA := d.irqA, irqB := d.irqB }) ∧
  (∀ (s : State), s.dev.calm = true → s.dev.on fCLK_STS_SYSPLL_LOCK = true →
      Completes (.syspllUnlock) s fun d =>
        d.on fCLK_STS_SYSPLL_LOCK = false ∧
        (d.reg rCLK_SYSPLL_UNLOCK_CNT).toNat = min ((s.dev.reg rCLK_SYSPLL_UNLOCK_CNT).toNat + 1) (2 ^ 32 - 1) ∧
        s.dev.sameRegs d [rCLK_STS, rCLK_SYSPLL_UNLOCK_CNT] ∧
        d = { s.dev with regs := d.regs, irqA := d.irqA, irqB := d.irqB }) ∧
  (∀ (s : State) (n : Nat), s.dev.calm = true → s.dev.domOn 2 = true → s.dev.clk.refclk = true →
    s.dev.on fCLK_STS_TPLL_LOCK = false → s.dev.clk.timeDawn = false →
      Completes (.tpllLock n) s fun d =>
        d.on fCLK_STS_TPLL_LOCK = true ∧
        s.dev.sameRegs d [rCLK_STS] ∧
        d = { s.dev with regs := d.regs, irqA := d.irqA, irqB := d.irqB }) ∧
  (∀ (s : State) (n : Nat), s.dev.calm = true → s.dev.domOn 2 = true → s.dev.clk.refclk = true →
    s.dev.on fCLK_STS_TPLL_LOCK = false → s.dev.clk.timeDawn = true →
      Completes (.tpllLock n) s fun d =>
        d.on fCLK_STS_TPLL_LOCK = true ∧
        d.clk.timeDawn = false ∧
        d.time.value = (((s.dev.time.value : Int) + n * aonCycle * 2 ^ 24) % timeMod).toNat ∧
        d = { s.dev with regs := d.regs, clk := d.clk, time := d.time, ptp := d.ptp, mcg := d.mcg, ticks := d.ticks, stx := d.stx, srx := d.srx, rings := d.rings, anv := d.anv, net := d.net, mio := d.mio, cue := d.cue, sap := d.sap, hq := d.hq, rql := d.rql, poison := d.poison, integ := d.integ, free := d.free, nextFrame := d.nextFrame, handed := d.handed, ddr := d.ddr, tbl := d.tbl, store := d.store, lanesRec := d.lanesRec, wbPend := d.wbPend, t1s := d.t1s, irqA := d.irqA, irqB := d.irqB }) ∧
  (∀ (s : State) (g : Fin 8), s.dev.calm = true → s.dev.clk.refclk = true → s.dev.domOn 1 = true → s.dev.domOn 4 = true →
    s.dev.mcgState g.val = 2 → (s.dev.mcgOf g.val).locked = true →
      Completes (.clkRefLoss) s fun d =>
        d.clk.refclk = false ∧
        d.mcgState g.val = 3 ∧
        (d.reg rCLK_REF_LOSS_CNT).toNat = min ((s.dev.reg rCLK_REF_LOSS_CNT).toNat + 1) (2 ^ 32 - 1) ∧
        d = { s.dev with regs := d.regs, clk := d.clk, mcg := d.mcg, ticks := d.ticks, stx := d.stx, srx := d.srx, rings := d.rings, anv := d.anv, sap := d.sap, net := d.net, nextFrame := d.nextFrame, ddr := d.ddr, tbl := d.tbl, store := d.store, lanesRec := d.lanesRec, wbPend := d.wbPend, free := d.free, hq := d.hq, rql := d.rql, cue := d.cue, poison := d.poison, integ := d.integ, irqA := d.irqA, irqB := d.irqB }) ∧
  (∀ (s : State), s.dev.calm = true → s.dev.clk.refclk = true → s.dev.domOn 1 = true →
    (∀ g ∈ List.range 8, s.dev.mcgState g = 0) →
      Completes (.clkRefLoss) s fun d =>
        d.clk.refclk = false ∧
        (d.reg rCLK_REF_LOSS_CNT).toNat = min ((s.dev.reg rCLK_REF_LOSS_CNT).toNat + 1) (2 ^ 32 - 1) ∧
        d.hq = (s.dev.hqPush (s.dev.get fHQ_ROUTE_EVT_Q) 5 (eventRecord 0x0201 0 s.dev.ft64)).hq ∧
        s.dev.sameRegs d (rCLK_REF_LOSS_CNT :: s.dev.evtRegs) ∧
        d = { s.dev with regs := d.regs, clk := d.clk, hq := d.hq, rql := d.rql, cue := d.cue, poison := d.poison, integ := d.integ, irqA := d.irqA, irqB := d.irqB }) ∧
  (∀ (s : State), s.dev.calm = true → s.dev.clk.refclk = false →
      Completes (.clkRefLoss) s fun d =>
        s.dev.sameRegs d [] ∧
        d = { s.dev with regs := d.regs, irqA := d.irqA, irqB := d.irqB }) ∧
  (∀ (s : State), s.dev.calm = true →
      Completes (.refclkReturn) s fun d =>
        d.clk = { s.dev.clk with refclk := true } ∧
        s.dev.sameRegs d [] ∧
        d = { s.dev with regs := d.regs, clk := d.clk, irqA := d.irqA, irqB := d.irqB })

/-- A request for the state a domain is in only stores the register. A request for RET or OFF begins the Dusk of a SAP or
NET domain with nothing to drain there: SEQ is set while the domain keeps its state. A wake that meets it keeps the
domain ON, and the abandoned Dusk is counted. A request for ON, energy on a link, and a wake frame whose mask names it
begin the Dawn of a domain in RET, captured as the first wake. A CMP address byte of the device's own is answered
NACK, and begins the Dawn of CORE when that source is enabled. A sequence under way has ended when time has passed
(log entry 62, the model's choice of the moment): SEQ is clear and STATE is the state gone to, with the levels of that
state; a Dawn is counted; a bank that fails its check is reported, its port restarts cold, and the Dawn policy, where
it runs, is to reapply its registers. (R426, R454, R456, R457, R460, R463, R465, R466, R469, R470, R471, R472) -/
def Obligations.DomainsGoDownAndComeUp : Prop :=
  (∀ (s : State) (k : Fin 15) (m : Meets) (p : Port) (v : Word), s.dev.calm = true → s.dev.takes p (rPWR_DOMk_CTL k.val) →
    1 ≤ k.val → s.dev.goingDown k.val = false → s.dev.goingUp k.val = false → s.dev.on (fPWR_DOMk_STS_SEQ k.val) = false →
    ((if (fPWR_DOMk_CTL_REQ k.val).get v = 3 then 0 else (fPWR_DOMk_CTL_REQ k.val).get v) = s.dev.domState k.val) →
      Completes (.pwrReqWrite k m p v) s fun d =>
        (fPWR_DOMk_CTL_REQ k.val).get (d.reg (rPWR_DOMk_CTL k.val)) = (fPWR_DOMk_CTL_REQ k.val).get v ∧
        d.domState k.val = s.dev.domState k.val ∧
        (d.port p).code = 0 ∧
        s.dev.sameRegs d [rPWR_DOMk_CTL k.val] ∧
        d = { s.dev with regs := d.regs, ports := d.ports, irqA := d.irqA, irqB := d.irqB }) ∧
  (∀ (s : State) (k : Fin 15) (m : Meets) (p : Port) (v : Word) (q : Nat), s.dev.calm = true →
    s.dev.takes p (rPWR_DOMk_CTL k.val) → s.dev.domOn 1 = true → s.dev.domOn 2 = true → 5 ≤ k.val → k.val ≤ 12 →
    (k.val ≤ 8 → ∀ i ∈ List.range 6, s.dev.on (fSAPnn_CTL_EN (6 * (k.val - 5) + i)) = false) →
    (9 ≤ k.val → s.dev.on (fNETn_MAC_CFG_EN (k.val - 9)) = false) → s.dev.pwr.jobs = [] → s.dev.domState k.val = 0 →
    (fPWR_DOMk_CTL_REQ k.val).get v = q → (q = 1 ∨ q = 2) → m.woken = .none →
      Completes (.pwrReqWrite k m p v) s fun d =>
        d.pwr.jobs = [{ dom := k.val, dest := q, bad := [], started := true }] ∧
        d.on (fPWR_DOMk_STS_SEQ k.val) = true ∧
        d.domState k.val = s.dev.domState k.val ∧
        (d.port p).code = 0 ∧
        s.dev.sameRegs d [rPWR_DOMk_CTL k.val, rPWR_DOMk_STS k.val] ∧
        d = { s.dev with regs := d.regs, ports := d.ports, pwr := d.pwr, irqA := d.irqA, irqB := d.irqB }) ∧
  (∀ (s : State) (k : Fin 15) (m : Meets) (p : Port) (v : Word) (c : Fin 8), s.dev.calm = true →
    s.dev.takes p (rPWR_DOMk_CTL k.val) → s.dev.domOn 1 = true → s.dev.domOn 2 = true → 5 ≤ k.val → k.val ≤ 12 →
    s.dev.pwr.jobs = [] → s.dev.domState k.val = 0 → (fPWR_DOMk_CTL_REQ k.val).get v = 1 → m.woken = .same c →
    (c.val = 0 ∨ 6 ≤ c.val) → s.dev.wakes c.val k.val = true →
      Completes (.pwrReqWrite k m p v) s fun d =>
        d.domState k.val = 0 ∧
        (d.reg rPWR_SLEEP_ABORT_CNT).toNat = min ((s.dev.reg rPWR_SLEEP_ABORT_CNT).toNat + 1) (2 ^ 32 - 1) ∧
        d.on fPWR_WAKE_SRC_VALID = true ∧
        (s.dev.on fPWR_WAKE_SRC_VALID = false → d.get fPWR_WAKE_SRC_SRC = c.val ∧ d.get fPWR_WAKE_SRC_DOMS = 2 ^ k.val) ∧
        d.hq = (s.dev.hqPush (s.dev.get fHQ_ROUTE_EVT_Q) 5 (eventRecord 0x0103 k.val s.dev.ft64)).hq ∧
        d.pwr.jobs = [] ∧
        d.on (fPWR_DOMk_STS_SEQ k.val) = s.dev.on (fPWR_DOMk_STS_SEQ k.val) ∧
        (d.port p).code = 0 ∧
        s.dev.sameRegs d (rPWR_DOMk_CTL k.val :: rPWR_SLEEP_ABORT_CNT :: rPWR_WAKE_SRC :: s.dev.evtRegs) ∧
        d = { s.dev with regs := d.regs, ports := d.ports, pwr := d.pwr, hq := d.hq, rql := d.rql, cue := d.cue, poison := d.poison, integ := d.integ, irqA := d.irqA, irqB := d.irqB }) ∧
  (∀ (s : State) (k : Fin 15) (m : Meets) (p : Port) (v : Word), s.dev.calm = true → s.dev.takes p (rPWR_DOMk_CTL k.val) →
    s.dev.domOn 1 = true → s.dev.domOn 2 = true → 5 ≤ k.val → k.val ≤ 12 → s.dev.pwr.jobs = [] → s.dev.domState k.val = 1 →
    ((fPWR_DOMk_CTL_REQ k.val).get v = 0 ∨ (fPWR_DOMk_CTL_REQ k.val).get v = 3) →
      Completes (.pwrReqWrite k m p v) s fun d =>
        d.pwr.jobs = [{ dom := k.val, dest := 0, bad := m.bad, started := true }] ∧
        d.on (fPWR_DOMk_STS_SEQ k.val) = true ∧
        d.domState k.val = s.dev.domState k.val ∧
        d.on fPWR_WAKE_SRC_VALID = true ∧
        (s.dev.on fPWR_WAKE_SRC_VALID = false → d.get fPWR_WAKE_SRC_SRC = 7 ∧ d.get fPWR_WAKE_SRC_DOMS = 2 ^ k.val) ∧
        (d.port p).code = 0 ∧
        s.dev.sameRegs d [rPWR_DOMk_CTL k.val, rPWR_DOMk_STS k.val, rPWR_WAKE_SRC] ∧
        d = { s.dev with regs := d.regs, ports := d.ports, pwr := d.pwr, irqA := d.irqA, irqB := d.irqB }) ∧
  (∀ (s : State) (k : Fin 15), s.dev.calm = true → s.dev.domOn 1 = true → 5 ≤ k.val → k.val ≤ 12 →
    (k.val ≤ 8 → ∀ i ∈ List.range 6, s.dev.on (fSAPnn_CTL_EN (6 * (k.val - 5) + i)) = false) →
    (9 ≤ k.val → s.dev.on (fNETn_MAC_CFG_EN (k.val - 9)) = false) → s.dev.pwr.jobs = [] → s.dev.domOn k.val = true →
    s.dev.get (fPWR_DOMk_CTL_IDLE_US k.val) ≠ 0 → s.dev.domIdle k.val = true →
      Completes (.idleTimerExpiry k .none) s fun d =>
        d.pwr.jobs = [{ dom := k.val, dest := 1, bad := [], started := true }] ∧
        d.on (fPWR_DOMk_STS_SEQ k.val) = true ∧
        d.domState k.val = s.dev.domState k.val ∧
        s.dev.sameRegs d [rPWR_DOMk_STS k.val] ∧
        d = { s.dev with regs := d.regs, pwr := d.pwr, irqA := d.irqA, irqB := d.irqB }) ∧
  (∀ (s : State) (k : Fin 15), s.dev.calm = true →
    (s.dev.get (fPWR_DOMk_CTL_IDLE_US k.val) = 0 ∨ s.dev.domIdle k.val = false) →
      Completes (.idleTimerExpiry k .none) s fun d =>
        s.dev.sameRegs d [] ∧
        d = { s.dev with regs := d.regs, irqA := d.irqA, irqB := d.irqB }) ∧
  (∀ (s : State) (x : CmpByte), s.dev.calm = true → s.dev.domState 1 ≠ 0 → s.dev.pwr.jobs = [] → s.dev.cmpMine x.dev = true →
    s.dev.on fPWR_WAKE_EN_CMP = true →
      Completes (.cmpWake x) s fun d =>
        d.pwr.jobs = [{ dom := 1, dest := 0, bad := x.bad, started := true }] ∧
        d.on (fPWR_DOMk_STS_SEQ 1) = true ∧
        d.domState 1 = s.dev.domState 1 ∧
        d.on fPWR_WAKE_SRC_VALID = true ∧
        (s.dev.on fPWR_WAKE_SRC_VALID = false → d.get fPWR_WAKE_SRC_SRC = 0 ∧ d.get fPWR_WAKE_SRC_DOMS = 2) ∧
        (d.port .cmp).code = 8 ∧
        s.dev.sameRegs d [rPWR_DOMk_STS 1, rPWR_WAKE_SRC] ∧
        d = { s.dev with regs := d.regs, ports := d.ports, pwr := d.pwr, irqA := d.irqA, irqB := d.irqB }) ∧
  (∀ (s : State) (x : CmpByte), s.dev.calm = true → s.dev.domOn 1 = false → s.dev.cmpMine x.dev = true →
    s.dev.on fPWR_WAKE_EN_CMP = false →
      Completes (.cmpWake x) s fun d =>
        (d.port .cmp).code = 8 ∧
        s.dev.sameRegs d [] ∧
        d = { s.dev with regs := d.regs, ports := d.ports, irqA := d.irqA, irqB := d.irqB }) ∧
  (∀ (s : State) (x : CmpByte), s.dev.calm = true → (s.dev.domOn 1 = true ∨ s.dev.cmpMine x.dev = false) →
      Completes (.cmpWake x) s fun d =>
        s.dev.sameRegs d [] ∧
        d = { s.dev with regs := d.regs, irqA := d.irqA, irqB := d.irqB }) ∧
  (∀ (s : State) (n : Fin 4) (l : List Bank), s.dev.calm = true → s.dev.domOn 1 = true → s.dev.pwr.jobs = [] →
    s.dev.domState (9 + n.val) = 1 → s.dev.on (bitFld rPWR_WAKE_EN (1 + n.val)) = true →
      Completes (.linkEnergy n l) s fun d =>
        d.pwr.jobs = [{ dom := (9 + n.val), dest := 0, bad := l, started := true }] ∧
        d.on (fPWR_DOMk_STS_SEQ (9 + n.val)) = true ∧
        d.domState (9 + n.val) = s.dev.domState (9 + n.val) ∧
        d.on fPWR_WAKE_SRC_VALID = true ∧
        (s.dev.on fPWR_WAKE_SRC_VALID = false → d.get fPWR_WAKE_SRC_SRC = 1 + n.val ∧ d.get fPWR_WAKE_SRC_DOMS = 2 ^ (9 + n.val)) ∧
        s.dev.sameRegs d [rPWR_DOMk_STS (9 + n.val), rPWR_WAKE_SRC] ∧
        d = { s.dev with regs := d.regs, pwr := d.pwr, irqA := d.irqA, irqB := d.irqB }) ∧
  (∀ (s : State) (n : Fin 4) (l : List Bank), s.dev.calm = true → s.dev.pwr.jobs = [] →
    (s.dev.domState (9 + n.val) ≠ 1 ∨ s.dev.on (bitFld rPWR_WAKE_EN (1 + n.val)) = false) →
      Completes (.linkEnergy n l) s fun d =>
        s.dev.sameRegs d [] ∧
        d = { s.dev with regs := d.regs, irqA := d.irqA, irqB := d.irqB }) ∧
  (∀ (s : State) (l : List Bank), s.dev.calm = true → s.dev.domOn 1 = true → s.dev.pwr.jobs = [] → s.dev.domState 13 = 1 →
    s.dev.on fPWR_WAKE_EN_T1S = true →
      Completes (.t1sLinkEnergy l) s fun d =>
        d.pwr.jobs = [{ dom := 13, dest := 0, bad := l, started := true }] ∧
        d.on (fPWR_DOMk_STS_SEQ 13) = true ∧
        d.domState 13 = s.dev.domState 13 ∧
        d.on fPWR_WAKE_SRC_VALID = true ∧
        (s.dev.on fPWR_WAKE_SRC_VALID = false → d.get fPWR_WAKE_SRC_SRC = 5 ∧ d.get fPWR_WAKE_SRC_DOMS = 2 ^ 13) ∧
        s.dev.sameRegs d [rPWR_DOMk_STS 13, rPWR_WAKE_SRC] ∧
        d = { s.dev with regs := d.regs, pwr := d.pwr, irqA := d.irqA, irqB := d.irqB }) ∧
  (∀ (s : State) (h : Handed) (n : Nat) (o : Nat) (l : List Bank), s.dev.calm = true →
    (s.dev.handed.find? (fun x => x.sink == .wake) = some h) → s.dev.domOn 1 = true → s.dev.pwr.jobs = [] → 9 ≤ n → n ≤ 12 →
    s.dev.domState n = 1 → s.dev.on fPWR_WAKE_EN_FRAME = true → s.dev.get fPWR_WAKE_EN_FRAME_MASK = 2 ^ n →
    o = etherOff h.bytes + 2 → dstOf h.bytes = wakeGroup → beAt h.bytes o 1 = 1 → beAt h.bytes (o + 1) 1 = 1 →
    beAt h.bytes (o + 2) 2 = 2 ^ n → beAt h.bytes (o + 4) 2 = 0 →
      Completes (.wakeFrame l) s fun d =>
        d.handed = s.dev.handed.erase h ∧
        d.pwr.jobs = [{ dom := n, dest := 0, bad := l, started := true }] ∧
        d.on (fPWR_DOMk_STS_SEQ n) = true ∧
        d.domState n = s.dev.domState n ∧
        d.on fPWR_WAKE_SRC_VALID = true ∧
        (s.dev.on fPWR_WAKE_SRC_VALID = false → d.get fPWR_WAKE_SRC_SRC = 6 ∧ d.get fPWR_WAKE_SRC_DOMS = 2 ^ n) ∧
        s.dev.sameRegs d [rPWR_DOMk_STS n, rPWR_WAKE_SRC] ∧
        d = { s.dev with regs := d.regs, handed := d.handed, pwr := d.pwr, irqA := d.irqA, irqB := d.irqB }) ∧
  (∀ (s : State) (k : Fin 15) (q : Nat), s.pending = [] →
    s.dev.pwr.jobs = [{ dom := k.val, dest := q, bad := [], started := true }] → 1 ≤ q → q ≤ 2 → 5 ≤ k.val → k.val ≤ 12 →
      Passes s fun d =>
        d.domState k.val = q ∧
        d.on (fPWR_DOMk_STS_SEQ k.val) = false ∧
        d.pwr.jobs = [] ∧
        (d.get (fPWR_DOMk_LEVEL_BIAS k.val) = (if q = 2 then 0 else min 12 (s.dev.levelByte k.val 1 / 16)))) ∧
  (∀ (s : State) (k : Fin 15) (l : List Bank), s.pending = [] →
    s.dev.pwr.jobs = [{ dom := k.val, dest := 0, bad := l, started := true }] → 5 ≤ k.val → k.val ≤ 12 →
    (s.dev.domState k.val = 2 ∨ l = []) →
      Passes s fun d =>
        d.domState k.val = 0 ∧
        d.on (fPWR_DOMk_STS_SEQ k.val) = false ∧
        d.on (fPWR_DOMk_STS_RET_FAIL k.val) = false ∧
        d.pwr.jobs = [] ∧
        (d.reg rPWR_WAKE_CNT).toNat = min ((s.dev.reg rPWR_WAKE_CNT).toNat + 1) (2 ^ 32 - 1) ∧
        d.get (fPWR_DOMk_LEVEL_BIAS k.val) = min 12 (s.dev.levelByte k.val 0 / 16)) ∧
  (∀ (s : State) (k : Fin 15) (i : Nat), s.pending = [] →
    s.dev.pwr.jobs = [{ dom := k.val, dest := 0, bad := [.flop 10 i], started := true }] → s.dev.pwr.lost = [] → 5 ≤ k.val →
    k.val ≤ 8 → s.dev.domState k.val = 1 → 6 * (k.val - 5) ≤ i → i < 6 * (k.val - 5) + 6 →
      Passes s fun d =>
        d.domState k.val = 0 ∧
        d.on (fPWR_DOMk_STS_RET_FAIL k.val) = true ∧
        d.get fPWR_RET_STATUS_DOMS / 2 ^ k.val % 2 = 1 ∧
        (d.reg rPWR_RET_FAIL_CNT).toNat = min ((s.dev.reg rPWR_RET_FAIL_CNT).toNat + 1) (2 ^ 32 - 1) ∧
        (d.reg rPWR_WAKE_CNT).toNat = min ((s.dev.reg rPWR_WAKE_CNT).toNat + 1) (2 ^ 32 - 1) ∧
        d.on (fSAPnn_CTL_EN i) = false ∧
        (d.refDown 3 = true ∨ d.pwr.lost.contains (.regs 10 i) = true) ∧
        d.reg (rSAPnn_SLOT_MASK i) = kget 0 resetRegs (rSAPnn_SLOT_MASK i))

/-- A sequencer whose program passes the checks of its enable runs from its INIT state with event 8 pending; one that
fails stays disabled and its fault is captured with its code. Disabled, it forgets its timers and events. An injection
raises the bits written while it runs. A step takes the lowest pending event: with an entry that it passes, its action
sets a variable, the state becomes NEXT and the step is counted; an entry whose mask lacks the event only consumes it;
a NEXT outside the program is fault 4. A running timer that ends raises its event. (R474, R475, R476, R477, R480,
R481, R482) -/
def Obligations.SequencersRunTheirPrograms : Prop :=
  (∀ (s : State) (n : Fin 8) (p : Port) (v : Word), s.dev.calm = true → s.dev.takes p rRQL_CTL →
    (bitFld rRQL_CTL n.val).put v 1 = (bitFld rRQL_CTL n.val).put (s.dev.reg rRQL_CTL) 1 →
    s.dev.on (bitFld rRQL_CTL n.val) = false → s.dev.rqlCheck n.val = none → s.dev.sound = true →
      Completes (.rqlEnable n p v) s fun d =>
        d.on (bitFld rRQL_CTL n.val) = true ∧
        d.on (fRQLn_STS_RUN n.val) = true ∧
        d.on (fRQLn_STS_FAULT n.val) = false ∧
        d.get (fRQLn_STS_STATE n.val) = s.dev.rqlInit n.val ∧
        (d.rqlOf n.val).pend = 256 ∧
        (d.rqlOf n.val).timers = [] ∧
        (∀ i ∈ List.range 16, d.rqlVar n.val i = BitVec.ofNat 32 (s.dev.rqlWord n.val (5 + i / 2) / (if i % 2 = 0 then 2 ^ 32 else 1))) ∧
        (d.port p).code = 0 ∧
        s.dev.sameRegs d [rRQL_CTL, rRQL_STS, rRQLn_STS n.val] ∧
        d = { s.dev with regs := d.regs, ports := d.ports, rql := d.rql, irqA := d.irqA, irqB := d.irqB }) ∧
  (∀ (s : State) (n : Fin 8) (p : Port) (v : Word) (c : Nat) (i : Nat), s.dev.calm = true → s.dev.takes p rRQL_CTL →
    (bitFld rRQL_CTL n.val).put v 1 = (bitFld rRQL_CTL n.val).put (s.dev.reg rRQL_CTL) 1 →
    s.dev.on (bitFld rRQL_CTL n.val) = false → s.dev.rqlCheck n.val = some (c, i) → n.val ≠ 2 →
      Completes (.rqlEnable n p v) s fun d =>
        d.on (bitFld rRQL_CTL n.val) = false ∧
        d.on (fRQLn_STS_RUN n.val) = false ∧
        d.on (fRQLn_STS_FAULT n.val) = true ∧
        d.on (bitFld rRQL_STS n.val) = true ∧
        d.on (fRQLn_FAULT_LOG_VALID n.val) = true ∧
        (s.dev.on (fRQLn_FAULT_LOG_VALID n.val) = false → d.get (fRQLn_FAULT_LOG_CODE n.val) = c ∧ d.get (fRQLn_FAULT_LOG_INDEX n.val) = i % 2048) ∧
        (d.reg (rRQLn_FAULT_CNT n.val)).toNat = min ((s.dev.reg (rRQLn_FAULT_CNT n.val)).toNat + 1) (2 ^ 32 - 1) ∧
        (d.rqlOf n.val).pend = 0 ∧
        d.hq = (s.dev.hqPush (s.dev.get fHQ_ROUTE_EVT_Q) 5 (eventRecord 0x1101 n.val s.dev.ft64)).hq ∧
        (d.port p).code = 0 ∧
        s.dev.sameRegs d (rRQL_CTL :: rRQLn_STS n.val :: rRQL_STS :: rRQLn_FAULT_LOG n.val :: rRQLn_FAULT_CNT n.val :: s.dev.evtRegs) ∧
        d = { s.dev with regs := d.regs, ports := d.ports, hq := d.hq, rql := d.rql, cue := d.cue, poison := d.poison, integ := d.integ, irqA := d.irqA, irqB := d.irqB }) ∧
  (∀ (s : State) (n : Fin 8) (p : Port) (v : Word), s.dev.calm = true → s.dev.takes p rRQL_CTL →
    (bitFld rRQL_CTL n.val).put v 0 = (bitFld rRQL_CTL n.val).put (s.dev.reg rRQL_CTL) 0 →
    s.dev.on (bitFld rRQL_CTL n.val) = true →
      Completes (.rqlDisable n p v) s fun d =>
        d.on (bitFld rRQL_CTL n.val) = false ∧
        d.on (fRQLn_STS_RUN n.val) = false ∧
        (d.rqlOf n.val) = { (s.dev.rqlOf n.val) with pend := 0, arg := [], timers := [] } ∧
        (d.port p).code = 0 ∧
        s.dev.sameRegs d [rRQL_CTL, rRQLn_STS n.val] ∧
        d = { s.dev with regs := d.regs, ports := d.ports, rql := d.rql, irqA := d.irqA, irqB := d.irqB }) ∧
  (∀ (s : State) (n : Fin 8) (p : Port) (v : Word), s.dev.calm = true → s.dev.takes p (rRQLn_EVT_INJ n.val) →
    s.dev.on (bitFld rRQL_CTL n.val) = true → s.dev.on (fRQLn_STS_RUN n.val) = true →
      Completes (.rqlEvtInj n p v) s fun d =>
        (d.rqlOf n.val) = { (s.dev.rqlOf n.val) with pend := (s.dev.rqlOf n.val).pend ||| v } ∧
        (d.port p).code = 0 ∧
        s.dev.sameRegs d [rRQLn_EVT_INJ n.val] ∧
        d = { s.dev with regs := d.regs, ports := d.ports, rql := d.rql, irqA := d.irqA, irqB := d.irqB }) ∧
  (∀ (s : State) (m : Meets) (n : Fin 8) (e : RqlEntry) (b : Nat) (g : Nat) (w : Nat), s.dev.calm = true →
    s.dev.domOn 1 = true → s.dev.on (bitFld rRQL_CTL n.val) = true → s.dev.on (fRQLn_STS_RUN n.val) = true →
    lowestBit (s.dev.rqlOf n.val).pend = some b → b < 16 → g = s.dev.get (fRQLn_STS_STATE n.val) →
    s.dev.rqlDir n.val g = (w, 1) → s.dev.rqlHurt n.val (16 + g) = false → s.dev.rqlHurt n.val w = false →
    s.dev.rqlHurt n.val (w + 1) = false → e = s.dev.rqlEntry n.val w → e.mask / 2 ^ b % 2 = 1 → e.guard = 0 →
    e.next < s.dev.rqlStates n.val → e.len = 1 → 272 ≤ e.act → e.act + 1 ≤ 2048 → s.dev.sound = true →
    s.dev.rqlWord n.val e.act / 2 ^ 60 = 3 →
      Completes (.rqlStep m n none) s fun d =>
        d.get (fRQLn_STS_STATE n.val) = e.next ∧
        (d.reg (rRQLn_STEP_CNT n.val)).toNat = min ((s.dev.reg (rRQLn_STEP_CNT n.val)).toNat + 1) (2 ^ 32 - 1) ∧
        (d.rqlOf n.val) = { (s.dev.rqlOf n.val) with pend := (s.dev.rqlOf n.val).pend &&& ~~~(BitVec.ofNat 32 (2 ^ b)), vars := kset 0 (s.dev.rqlOf n.val).vars (s.dev.rqlWord n.val e.act / 2 ^ 56 % 16) (w32 (s.dev.rqlWord n.val e.act)) } ∧
        s.dev.sameRegs d [rRQLn_STS n.val, rRQLn_STEP_CNT n.val] ∧
        d = { s.dev with regs := d.regs, rql := d.rql, irqA := d.irqA, irqB := d.irqB }) ∧
  (∀ (s : State) (m : Meets) (n : Fin 8) (e : RqlEntry) (b : Nat) (g : Nat) (w : Nat), s.dev.calm = true →
    s.dev.domOn 1 = true → s.dev.on (bitFld rRQL_CTL n.val) = true → s.dev.on (fRQLn_STS_RUN n.val) = true →
    lowestBit (s.dev.rqlOf n.val).pend = some b → b < 16 → g = s.dev.get (fRQLn_STS_STATE n.val) →
    s.dev.rqlDir n.val g = (w, 1) → s.dev.rqlHurt n.val (16 + g) = false → s.dev.rqlHurt n.val w = false →
    s.dev.rqlHurt n.val (w + 1) = false → e = s.dev.rqlEntry n.val w → e.mask / 2 ^ b % 2 = 1 → e.guard = 0 →
    s.dev.rqlStates n.val ≤ e.next → n.val ≠ 2 → s.dev.sound = true →
      Completes (.rqlStep m n none) s fun d =>
        d.on (fRQLn_STS_RUN n.val) = false ∧
        d.on (fRQLn_STS_FAULT n.val) = true ∧
        d.on (bitFld rRQL_STS n.val) = true ∧
        d.on (fRQLn_FAULT_LOG_VALID n.val) = true ∧
        (s.dev.on (fRQLn_FAULT_LOG_VALID n.val) = false → d.get (fRQLn_FAULT_LOG_CODE n.val) = 4 ∧ d.get (fRQLn_FAULT_LOG_INDEX n.val) = w % 2048) ∧
        (d.reg (rRQLn_FAULT_CNT n.val)).toNat = min ((s.dev.reg (rRQLn_FAULT_CNT n.val)).toNat + 1) (2 ^ 32 - 1) ∧
        (d.rqlOf n.val).pend = 0 ∧
        d.hq = (s.dev.hqPush (s.dev.get fHQ_ROUTE_EVT_Q) 5 (eventRecord 0x1101 n.val s.dev.ft64)).hq ∧
        s.dev.sameRegs d (rRQLn_STS n.val :: rRQL_STS :: rRQLn_FAULT_LOG n.val :: rRQLn_FAULT_CNT n.val :: s.dev.evtRegs) ∧
        d = { s.dev with regs := d.regs, hq := d.hq, rql := d.rql, cue := d.cue, poison := d.poison, integ := d.integ, irqA := d.irqA, irqB := d.irqB }) ∧
  (∀ (s : State) (m : Meets) (n : Fin 8) (e : RqlEntry) (b : Nat) (g : Nat) (w : Nat), s.dev.calm = true →
    s.dev.domOn 1 = true → s.dev.on (bitFld rRQL_CTL n.val) = true → s.dev.on (fRQLn_STS_RUN n.val) = true →
    lowestBit (s.dev.rqlOf n.val).pend = some b → b < 16 → g = s.dev.get (fRQLn_STS_STATE n.val) →
    s.dev.rqlDir n.val g = (w, 1) → s.dev.rqlHurt n.val (16 + g) = false → s.dev.rqlHurt n.val w = false →
    s.dev.rqlHurt n.val (w + 1) = false → e = s.dev.rqlEntry n.val w → e.mask / 2 ^ b % 2 = 0 → s.dev.sound = true →
      Completes (.rqlStep m n none) s fun d =>
        (d.rqlOf n.val) = { (s.dev.rqlOf n.val) with pend := (s.dev.rqlOf n.val).pend &&& ~~~(BitVec.ofNat 32 (2 ^ b)) } ∧
        s.dev.sameRegs d [] ∧
        d = { s.dev with regs := d.regs, rql := d.rql, irqA := d.irqA, irqB := d.irqB }) ∧
  (∀ (s : State) (m : Meets) (n : Fin 8) (z : Option Nat), s.dev.calm = true → (s.dev.rqlOf n.val).pend = 0 →
    s.dev.domOn 1 = true →
      Completes (.rqlStep m n z) s fun d =>
        s.dev.sameRegs d [] ∧
        d = { s.dev with regs := d.regs, irqA := d.irqA, irqB := d.irqB }) ∧
  (∀ (s : State) (n : Fin 8) (t : Fin 8), s.dev.calm = true → s.dev.domOn 1 = true →
    (kget {} (s.dev.rqlOf n.val).timers t.val).running = true →
      Completes (.rqlTimerExpiry n t) s fun d =>
        (d.rqlOf n.val).pend = (s.dev.rqlOf n.val).pend ||| BitVec.ofNat 32 (2 ^ t.val) ∧
        (kget {} (d.rqlOf n.val).timers t.val).running = false ∧
        (d.rqlOf n.val).vars = (s.dev.rqlOf n.val).vars ∧
        s.dev.sameRegs d [] ∧
        d = { s.dev with regs := d.regs, rql := d.rql, irqA := d.irqA, irqB := d.irqB })

/-- A power-on reset leaves every register at its reset value but for RESET_CAUSE, every memory wiped, and OTP, flash and
the balls as they are. RESET_N and the watchdog also keep the failed-start count, the captured boot and fatal logs,
the start record, the repair map and the test access port. A watchdog reset of a start that was neither confirmed nor
in safe mode counts as a failed start and is captured with code 11. A watchdog that is not enabled does nothing.
RESET_N asserted while a power-on reset is still held leaves the power-on cause. (R444, R462, R491, R492, R509, R536) -/
def Obligations.ResetsLeaveWhatTheyKeep : Prop :=
  (∀ (s : State),
      Completes (.powerOnReset) s fun d =>
        d.reg rGLB_RESET_CAUSE = 1 ∧
        (({} : Dev)).sameRegs d [rGLB_RESET_CAUSE] ∧
        d = { ({} : Dev) with regs := d.regs, nvm := s.dev.nvm, wipeDone := s.dev.wipeDone, cueIn := s.dev.cueIn, free := s.dev.free, clk := { refclk := s.dev.clk.refclk }, pin := { hotswap := s.dev.pin.hotswap }, boot := { lc := s.dev.boot.lc, keys := s.dev.boot.keys }, irqA := d.irqA, irqB := d.irqB }) ∧
  (∀ (s : State), (s.dev.boot.released = true ∨ s.dev.on fGLB_RESET_CAUSE_POR = false) →
      Completes (.resetNAssert) s fun d =>
        d.reg rGLB_RESET_CAUSE = 2 ∧
        (({} : Dev)).sameRegs d [rGLB_RESET_CAUSE, rGLB_BOOT_STS, rGLB_BOOT_LOG, rINT_FATAL_LOG] ∧
        d.reg rGLB_BOOT_STS = fGLB_BOOT_STS_FAIL_CNT.put ((({} : Dev)).reg rGLB_BOOT_STS) (s.dev.get fGLB_BOOT_STS_FAIL_CNT) ∧
        d.reg rGLB_BOOT_LOG = s.dev.reg rGLB_BOOT_LOG ∧
        (d.reg rINT_FATAL_LOG = (if s.dev.boot.fatal then 0x81000000 else s.dev.reg rINT_FATAL_LOG)) ∧
        (d = { ({} : Dev) with regs := d.regs, nvm := s.dev.nvm, wipeDone := s.dev.wipeDone, cueIn := s.dev.cueIn, free := s.dev.free, clk := { refclk := s.dev.clk.refclk }, pin := { hotswap := s.dev.pin.hotswap }, boot := { lc := s.dev.boot.lc, keys := s.dev.boot.keys, lastSlot := s.dev.boot.lastSlot, lastOk := s.dev.boot.lastOk }, jtag := s.dev.jtag, integ := { map := if s.dev.boot.fatal then [] else s.dev.integ.map }, lanesRec := if s.dev.boot.fatal then [] else s.dev.lanesRec, irqA := d.irqA, irqB := d.irqB })) ∧
  (∀ (s : State), s.dev.boot.released = false → s.dev.on fGLB_RESET_CAUSE_POR = true →
      Completes (.resetNAssert) s fun d =>
        d.reg rGLB_RESET_CAUSE = 1 ∧
        (({} : Dev)).sameRegs d [rGLB_RESET_CAUSE] ∧
        d = { ({} : Dev) with regs := d.regs, nvm := s.dev.nvm, wipeDone := s.dev.wipeDone, cueIn := s.dev.cueIn, free := s.dev.free, clk := { refclk := s.dev.clk.refclk }, pin := { hotswap := s.dev.pin.hotswap }, boot := { lc := s.dev.boot.lc, keys := s.dev.boot.keys }, irqA := d.irqA, irqB := d.irqB }) ∧
  (∀ (s : State), s.dev.boot.released = true → s.dev.on fGLB_WDOG_CFG_EN = true → s.dev.domOn 1 = true →
    s.dev.on fGLB_BOOT_STS_SAFE = false → s.dev.boot.lastSlot ≠ 0 → s.dev.boot.lastOk = false →
      Completes (.wdogExpiry) s fun d =>
        d.reg rGLB_RESET_CAUSE = 4 ∧
        (({} : Dev)).sameRegs d [rGLB_RESET_CAUSE, rGLB_BOOT_STS, rGLB_BOOT_LOG, rINT_FATAL_LOG] ∧
        d.reg rGLB_BOOT_STS = fGLB_BOOT_STS_FAIL_CNT.put ((({} : Dev)).reg rGLB_BOOT_STS) (min 3 (s.dev.get fGLB_BOOT_STS_FAIL_CNT + 1)) ∧
        d.on fGLB_BOOT_LOG_VALID = true ∧
        (if s.dev.on fGLB_BOOT_LOG_VALID then d.reg rGLB_BOOT_LOG = s.dev.reg rGLB_BOOT_LOG else d.get fGLB_BOOT_LOG_CODE = 11 ∧ d.get fGLB_BOOT_LOG_SLOT = s.dev.boot.lastSlot % 4 ∧ d.get fGLB_BOOT_LOG_SECTION = 0) ∧
        (d.reg rINT_FATAL_LOG = (if s.dev.boot.fatal then 0x81000000 else s.dev.reg rINT_FATAL_LOG)) ∧
        (d = { ({} : Dev) with regs := d.regs, nvm := s.dev.nvm, wipeDone := s.dev.wipeDone, cueIn := s.dev.cueIn, free := s.dev.free, clk := { refclk := s.dev.clk.refclk }, pin := { hotswap := s.dev.pin.hotswap }, boot := { lc := s.dev.boot.lc, keys := s.dev.boot.keys, lastSlot := s.dev.boot.lastSlot, lastOk := s.dev.boot.lastOk }, jtag := s.dev.jtag, integ := { map := if s.dev.boot.fatal then [] else s.dev.integ.map }, lanesRec := if s.dev.boot.fatal then [] else s.dev.lanesRec, irqA := d.irqA, irqB := d.irqB })) ∧
  (∀ (s : State), s.dev.boot.released = true → s.dev.on fGLB_WDOG_CFG_EN = true → s.dev.domOn 1 = true →
    (s.dev.on fGLB_BOOT_STS_SAFE = true ∨ s.dev.boot.lastSlot = 0 ∨ s.dev.boot.lastOk = true) →
      Completes (.wdogExpiry) s fun d =>
        d.reg rGLB_RESET_CAUSE = 4 ∧
        (({} : Dev)).sameRegs d [rGLB_RESET_CAUSE, rGLB_BOOT_STS, rGLB_BOOT_LOG, rINT_FATAL_LOG] ∧
        d.reg rGLB_BOOT_STS = fGLB_BOOT_STS_FAIL_CNT.put ((({} : Dev)).reg rGLB_BOOT_STS) (s.dev.get fGLB_BOOT_STS_FAIL_CNT) ∧
        d.reg rGLB_BOOT_LOG = s.dev.reg rGLB_BOOT_LOG ∧
        (d.reg rINT_FATAL_LOG = (if s.dev.boot.fatal then 0x81000000 else s.dev.reg rINT_FATAL_LOG)) ∧
        (d = { ({} : Dev) with regs := d.regs, nvm := s.dev.nvm, wipeDone := s.dev.wipeDone, cueIn := s.dev.cueIn, free := s.dev.free, clk := { refclk := s.dev.clk.refclk }, pin := { hotswap := s.dev.pin.hotswap }, boot := { lc := s.dev.boot.lc, keys := s.dev.boot.keys, lastSlot := s.dev.boot.lastSlot, lastOk := s.dev.boot.lastOk }, jtag := s.dev.jtag, integ := { map := if s.dev.boot.fatal then [] else s.dev.integ.map }, lanesRec := if s.dev.boot.fatal then [] else s.dev.lanesRec, irqA := d.irqA, irqB := d.irqB })) ∧
  (∀ (s : State), s.dev.calm = true → s.dev.on fGLB_WDOG_CFG_EN = false →
      Completes (.wdogExpiry) s fun d =>
        s.dev.sameRegs d [] ∧
        d = { s.dev with regs := d.regs, irqA := d.irqA, irqB := d.irqB })

/-- The release of a reset keeps nothing that was accessed while it was held, and reads the straps, the silicon step and
the core voltage. With HOTSWAP_N asserted the loader holds at the end of step 5, and its release goes on. Three failed
starts, a BOOT_SEL of 3, and the state RETIRED lead to safe mode with their causes, and so does, on a BLANK device, a
flash in which no slot passes; on any other device that start fails: the watchdog is armed and the loader halts. A
slot that passes is applied: an image that begins in phase 1 waits for the clock switch. (R450, R493, R502, R507,
R509, R510, R511, R519) -/
def Obligations.ColdStartsChooseTheirImage : Prop :=
  (∀ (s : State) (x : StartInfo), s.dev.calm = true → s.dev.boot.released = false → s.dev.pin.hotswap = true →
      Completes (.resetRelease x) s fun d =>
        d.boot.released = true ∧
        d.get fGLB_ID_STEP = x.step.toNat ∧
        d.get fGLB_ID_GRADE = x.grade.toNat ∧
        d.get fPIN_STRAP_HALO_ROLE = x.haloRole.toNat ∧
        d.get fHALO_ROLE_CFG_STRAP = x.haloRole.toNat ∧
        d.get fPIN_STRAP_BOOT_SEL = x.bootSel.val ∧
        d.get fPIN_STRAP_CMP_ASEL = x.cmpAsel.val ∧
        d.get fPIN_AVS_CORE_MV = x.avs.toNat ∧
        d.boot.loader = .hotswap ∧
        d.get fGLB_BOOT_STS_STEP = 5 ∧
        d.on fGLB_BOOT_STS_SAFE = false ∧
        d.nvm = x.nvm.getD s.dev.nvm ∧
        d = { s.dev.wokenCold with regs := d.regs, nvm := d.nvm, boot := d.boot, integ := d.integ, anv := d.anv, lanesRec := d.lanesRec, irqA := d.irqA, irqB := d.irqB }) ∧
  (∀ (s : State) (x : StartInfo), s.dev.calm = true → s.dev.boot.released = false → s.dev.pin.hotswap = false →
    s.dev.get fGLB_BOOT_STS_FAIL_CNT = 3 →
      Completes (.resetRelease x) s fun d =>
        d.boot.released = true ∧
        d.get fGLB_ID_STEP = x.step.toNat ∧
        d.get fGLB_ID_GRADE = x.grade.toNat ∧
        d.get fPIN_STRAP_HALO_ROLE = x.haloRole.toNat ∧
        d.get fHALO_ROLE_CFG_STRAP = x.haloRole.toNat ∧
        d.get fPIN_STRAP_BOOT_SEL = x.bootSel.val ∧
        d.get fPIN_STRAP_CMP_ASEL = x.cmpAsel.val ∧
        d.get fPIN_AVS_CORE_MV = x.avs.toNat ∧
        d.on fGLB_BOOT_STS_SAFE = true ∧
        d.get fGLB_BOOT_STS_SAFE_CAUSE = 1 ∧
        d.boot.lastSlot = 0 ∧
        d.boot.loader = .idle ∧
        d.get fGLB_BOOT_STS_STEP = 0 ∧
        d = { s.dev.wokenCold with regs := d.regs, nvm := d.nvm, boot := d.boot, integ := d.integ, anv := d.anv, lanesRec := d.lanesRec, irqA := d.irqA, irqB := d.irqB }) ∧
  (∀ (s : State) (x : StartInfo), s.dev.calm = true → s.dev.boot.released = false → s.dev.pin.hotswap = false →
    s.dev.get fGLB_BOOT_STS_FAIL_CNT ≠ 3 → x.bootSel = 3 →
      Completes (.resetRelease x) s fun d =>
        d.boot.released = true ∧
        d.get fGLB_ID_STEP = x.step.toNat ∧
        d.get fGLB_ID_GRADE = x.grade.toNat ∧
        d.get fPIN_STRAP_HALO_ROLE = x.haloRole.toNat ∧
        d.get fHALO_ROLE_CFG_STRAP = x.haloRole.toNat ∧
        d.get fPIN_STRAP_BOOT_SEL = x.bootSel.val ∧
        d.get fPIN_STRAP_CMP_ASEL = x.cmpAsel.val ∧
        d.get fPIN_AVS_CORE_MV = x.avs.toNat ∧
        d.on fGLB_BOOT_STS_SAFE = true ∧
        d.get fGLB_BOOT_STS_SAFE_CAUSE = 2 ∧
        d.boot.lastSlot = 0 ∧
        d.boot.loader = .idle ∧
        d.get fGLB_BOOT_STS_STEP = 0 ∧
        d = { s.dev.wokenCold with regs := d.regs, nvm := d.nvm, boot := d.boot, integ := d.integ, anv := d.anv, lanesRec := d.lanesRec, irqA := d.irqA, irqB := d.irqB }) ∧
  (∀ (s : State) (x : StartInfo), s.dev.calm = true → s.dev.boot.released = false → s.dev.pin.hotswap = false →
    s.dev.get fGLB_BOOT_STS_FAIL_CNT ≠ 3 → x.bootSel ≠ 3 → s.dev.boot.lc = 3 →
      Completes (.resetRelease x) s fun d =>
        d.boot.released = true ∧
        d.get fGLB_ID_STEP = x.step.toNat ∧
        d.get fGLB_ID_GRADE = x.grade.toNat ∧
        d.get fPIN_STRAP_HALO_ROLE = x.haloRole.toNat ∧
        d.get fHALO_ROLE_CFG_STRAP = x.haloRole.toNat ∧
        d.get fPIN_STRAP_BOOT_SEL = x.bootSel.val ∧
        d.get fPIN_STRAP_CMP_ASEL = x.cmpAsel.val ∧
        d.get fPIN_AVS_CORE_MV = x.avs.toNat ∧
        d.on fGLB_BOOT_STS_SAFE = true ∧
        d.get fGLB_BOOT_STS_SAFE_CAUSE = 4 ∧
        d.boot.lastSlot = 0 ∧
        d.boot.loader = .idle ∧
        d.get fGLB_BOOT_STS_STEP = 0 ∧
        d = { s.dev.wokenCold with regs := d.regs, nvm := d.nvm, boot := d.boot, integ := d.integ, anv := d.anv, lanesRec := d.lanesRec, irqA := d.irqA, irqB := d.irqB }) ∧
  (∀ (s : State) (x : StartInfo), s.dev.calm = true → s.dev.boot.released = false → s.dev.pin.hotswap = false →
    s.dev.get fGLB_BOOT_STS_FAIL_CNT ≠ 3 → x.bootSel ≠ 3 → s.dev.boot.lc = 0 → (x.nvm.getD s.dev.nvm).responds = false →
      Completes (.resetRelease x) s fun d =>
        d.boot.released = true ∧
        d.get fGLB_ID_STEP = x.step.toNat ∧
        d.get fGLB_ID_GRADE = x.grade.toNat ∧
        d.get fPIN_STRAP_HALO_ROLE = x.haloRole.toNat ∧
        d.get fHALO_ROLE_CFG_STRAP = x.haloRole.toNat ∧
        d.get fPIN_STRAP_BOOT_SEL = x.bootSel.val ∧
        d.get fPIN_STRAP_CMP_ASEL = x.cmpAsel.val ∧
        d.get fPIN_AVS_CORE_MV = x.avs.toNat ∧
        d.on fGLB_BOOT_STS_SAFE = true ∧
        d.get fGLB_BOOT_STS_SAFE_CAUSE = 3 ∧
        d.boot.lastSlot = 0 ∧
        d.boot.loader = .idle ∧
        d.get fGLB_BOOT_STS_STEP = 0 ∧
        d.on fGLB_BOOT_LOG_VALID = true ∧
        (s.dev.on fGLB_BOOT_LOG_VALID = false → d.get fGLB_BOOT_LOG_CODE = 1) ∧
        d = { s.dev.wokenCold with regs := d.regs, nvm := d.nvm, boot := d.boot, integ := d.integ, anv := d.anv, lanesRec := d.lanesRec, irqA := d.irqA, irqB := d.irqB }) ∧
  (∀ (s : State) (x : StartInfo), s.dev.calm = true → s.dev.boot.released = false → s.dev.pin.hotswap = false →
    s.dev.get fGLB_BOOT_STS_FAIL_CNT ≠ 3 → x.bootSel ≠ 3 → (s.dev.boot.lc = 1 ∨ s.dev.boot.lc = 2) →
    (x.nvm.getD s.dev.nvm).responds = false →
      Completes (.resetRelease x) s fun d =>
        d.boot.released = true ∧
        d.get fGLB_ID_STEP = x.step.toNat ∧
        d.get fGLB_ID_GRADE = x.grade.toNat ∧
        d.get fPIN_STRAP_HALO_ROLE = x.haloRole.toNat ∧
        d.get fHALO_ROLE_CFG_STRAP = x.haloRole.toNat ∧
        d.get fPIN_STRAP_BOOT_SEL = x.bootSel.val ∧
        d.get fPIN_STRAP_CMP_ASEL = x.cmpAsel.val ∧
        d.get fPIN_AVS_CORE_MV = x.avs.toNat ∧
        d.boot.loader = .halted ∧
        d.on fGLB_WDOG_CFG_EN = true ∧
        d.get fGLB_WDOG_CFG_TIMEOUT_MS = 1 ∧
        d.boot.lastSlot ≠ 0 ∧
        d.boot.lastOk = false ∧
        d.on fGLB_BOOT_LOG_VALID = true ∧
        d = { s.dev.wokenCold with regs := d.regs, nvm := d.nvm, boot := d.boot, integ := d.integ, anv := d.anv, lanesRec := d.lanesRec, clk := d.clk, irqA := d.irqA, irqB := d.irqB }) ∧
  (∀ (s : State) (x : StartInfo) (n : Nvm), s.dev.calm = true → s.dev.boot.released = false →
    s.dev.get fGLB_BOOT_STS_FAIL_CNT ≠ 1 → s.dev.get fGLB_BOOT_STS_FAIL_CNT ≠ 3 → s.dev.boot.lc ≠ 3 →
    s.dev.pin.hotswap = false → x.nvm = some n → x.reread = none → x.bootSel = 1 →
    ({ s.dev with nvm := n } : Dev).verify n.slotA = none → (imgSect n.slotA 0).phase = 1 →
      Completes (.resetRelease x) s fun d =>
        d.boot.released = true ∧
        d.get fGLB_ID_STEP = x.step.toNat ∧
        d.get fGLB_ID_GRADE = x.grade.toNat ∧
        d.get fPIN_STRAP_HALO_ROLE = x.haloRole.toNat ∧
        d.get fHALO_ROLE_CFG_STRAP = x.haloRole.toNat ∧
        d.get fPIN_STRAP_BOOT_SEL = x.bootSel.val ∧
        d.get fPIN_STRAP_CMP_ASEL = x.cmpAsel.val ∧
        d.get fPIN_AVS_CORE_MV = x.avs.toNat ∧
        d.get fGLB_BOOT_STS_SLOT = 1 ∧
        d.on fGLB_BOOT_STS_CONFIRMED = false ∧
        d.get fGLB_BOOT_STS_STEP = 7 ∧
        d.boot.loader = .lock ∧
        d.boot.img = n.slotA ∧
        d.boot.sect = 0 ∧
        d.boot.lastSlot = 1 ∧
        d.boot.lastOk = false ∧
        d = { s.dev.wokenCold with regs := d.regs, nvm := d.nvm, boot := d.boot, integ := d.integ, anv := d.anv, lanesRec := d.lanesRec, irqA := d.irqA, irqB := d.irqB }) ∧
  (∀ (s : State) (x : StartInfo), s.dev.calm = true → s.dev.boot.released = true →
      Completes (.resetRelease x) s fun d =>
        s.dev.sameRegs d [] ∧
        d = { s.dev with regs := d.regs, irqA := d.irqA, irqB := d.irqB }) ∧
  (∀ (s : State) (z : Option (Nat × BitVec 8)), s.dev.calm = true → s.dev.boot.loader = .hotswap →
    s.dev.get fGLB_BOOT_STS_START_KIND = 0 → (s.dev.get fGLB_BOOT_STS_FAIL_CNT = 3 ∨ s.dev.get fPIN_STRAP_BOOT_SEL = 3) →
      Completes (.hotswapLoadResume z) s fun d =>
        d.on fGLB_BOOT_STS_SAFE = true ∧
        (d.get fGLB_BOOT_STS_SAFE_CAUSE = (if s.dev.get fGLB_BOOT_STS_FAIL_CNT = 3 then 1 else 2)) ∧
        d.boot.lastSlot = 0 ∧
        d.boot.loader = .idle ∧
        d.get fGLB_BOOT_STS_STEP = 0 ∧
        d.pin.hotswap = false ∧
        s.dev.sameRegs d [rGLB_BOOT_STS] ∧
        d = { s.dev with regs := d.regs, boot := d.boot, pin := d.pin, irqA := d.irqA, irqB := d.irqB }) ∧
  (∀ (s : State) (z : Option (Nat × BitVec 8)), s.dev.calm = true → s.dev.boot.loader ≠ .hotswap →
      Completes (.hotswapLoadResume z) s fun d =>
        d.pin = { s.dev.pin with hotswap := false, due := false } ∧
        s.dev.sameRegs d [] ∧
        d = { s.dev with regs := d.regs, pin := d.pin, irqA := d.irqA, irqB := d.irqB })

/-- A WAIT that holds, or has timed out, ends its section; the timeout is captured with code 9, and the load goes on, here
to the clock switch. Without SYSPLL_LOCK in 2 ms the load fails with code 10 and the watchdog is armed. With it the
loader switches the clocks; after the last section it shows digest and sequence number and either confirms itself or
arms the watchdog. (R501, R504, R506, R507, R508, R509) -/
def Obligations.LoadsWaitSwitchAndEnd : Prop :=
  (∀ (s : State) (tmo : Bool) (a : Nat) (mk : Word) (vl : Word) (hld : Bool), s.dev.calm = true →
    s.dev.boot.loader = .wait a mk vl → (s.dev.waitHolds a mk vl).1 = (0, hld) → (hld = true ∨ tmo = true) →
    s.dev.boot.warmLeft = none → s.dev.pin.stop = false → s.dev.boot.switched = false →
    (s.dev.boot.sect + 1 = imgSects s.dev.boot.img ∨ (s.dev.boot.sect + 1 < imgSects s.dev.boot.img ∧ (imgSect s.dev.boot.img (s.dev.boot.sect + 1)).phase = 1)) →
    s.dev.domOn 1 = true →
      Completes (.waitSectionEnd tmo) s fun d =>
        d.boot = { s.dev.boot with loader := .lock, sect := s.dev.boot.sect + 1, pos := 0 } ∧
        d.get fGLB_BOOT_STS_STEP = 7 ∧
        (if hld then d.reg rGLB_BOOT_LOG = s.dev.reg rGLB_BOOT_LOG else d.on fGLB_BOOT_LOG_VALID = true ∧ (s.dev.on fGLB_BOOT_LOG_VALID = false → d.get fGLB_BOOT_LOG_CODE = 9 ∧ d.get fGLB_BOOT_LOG_SECTION = s.dev.boot.sect % 1024))) ∧
  (∀ (s : State) (a : Nat) (mk : Word) (vl : Word), s.dev.calm = true → s.dev.boot.loader = .wait a mk vl →
    (s.dev.waitHolds a mk vl).1 = (0, false) → s.dev.domOn 1 = true →
      Completes (.waitSectionEnd false) s fun d =>
        d.boot = s.dev.boot) ∧
  (∀ (s : State) (tmo : Bool) (a : Nat) (mk : Word) (vl : Word) (hld : Bool) (c : Nat), s.dev.calm = true →
    s.dev.boot.loader = .wait a mk vl → (s.dev.waitHolds a mk vl).1 = (c, hld) → c ≠ 0 → s.dev.domOn 1 = true →
      Completes (.waitSectionEnd tmo) s fun d =>
        d.boot.loader = .halted ∧
        d.on fGLB_BOOT_LOG_VALID = true ∧
        (s.dev.on fGLB_BOOT_LOG_VALID = false → d.get fGLB_BOOT_LOG_CODE = 8 ∧ d.get fGLB_BOOT_LOG_SECTION = s.dev.boot.sect % 1024) ∧
        d.on fGLB_WDOG_CFG_EN = true ∧
        d.get fGLB_WDOG_CFG_TIMEOUT_MS = 1) ∧
  (∀ (s : State), s.dev.calm = true → s.dev.boot.loader = .lock → s.dev.on fCLK_STS_SYSPLL_LOCK = false →
    s.dev.domOn 1 = true →
      Completes (.imageClockSwitch true) s fun d =>
        d.boot = { s.dev.boot with loader := .halted } ∧
        d.on fGLB_BOOT_LOG_VALID = true ∧
        (s.dev.on fGLB_BOOT_LOG_VALID = false → d.get fGLB_BOOT_LOG_CODE = 10 ∧ d.get fGLB_BOOT_LOG_SECTION = (if imgSects s.dev.boot.img ≤ s.dev.boot.sect then 0 else s.dev.boot.sect) % 1024) ∧
        d.on fGLB_WDOG_CFG_EN = true ∧
        d.get fGLB_WDOG_CFG_TIMEOUT_MS = 1 ∧
        (d.clk = (if s.dev.on fGLB_WDOG_CFG_EN then s.dev.clk else { s.dev.clk with wdog := 1024 })) ∧
        d.get fGLB_BOOT_STS_STEP = 0 ∧
        s.dev.sameRegs d [rGLB_BOOT_LOG, rGLB_BOOT_STS, rGLB_WDOG_CFG] ∧
        d = { s.dev with regs := d.regs, boot := d.boot, clk := d.clk, irqA := d.irqA, irqB := d.irqB }) ∧
  (∀ (s : State), s.dev.calm = true → s.dev.boot.loader = .lock → s.dev.on fCLK_STS_SYSPLL_LOCK = false →
    s.dev.domOn 1 = true →
      Completes (.imageClockSwitch false) s fun d =>
        s.dev.sameRegs d [] ∧
        d = { s.dev with regs := d.regs, irqA := d.irqA, irqB := d.irqB }) ∧
  (∀ (s : State) (tmo : Bool), s.dev.calm = true → s.dev.takes .loader rCLK_SWITCH → s.dev.selAct = false →
    s.dev.on fDDR_CTL_EN = false → s.dev.boot.loader = .lock → s.dev.on fCLK_STS_SYSPLL_LOCK = true →
    s.dev.boot.warmLeft = none → s.dev.boot.pos = 0 → s.dev.pin.stop = false → imgSects s.dev.boot.img ≤ s.dev.boot.sect →
    (imgDigest s.dev.boot.img) = imgStored s.dev.boot.img → imgAutoconf s.dev.boot.img = true → s.dev.domOn 1 = true →
      Completes (.imageClockSwitch tmo) s fun d =>
        d.selAct = true ∧
        d.get fCLK_SWITCH_SEL = 1 ∧
        d.boot.loader = .idle ∧
        d.get fGLB_BOOT_STS_STEP = 0 ∧
        d.reg rGLB_IMG_SEQ = BitVec.ofNat 32 (imgBe s.dev.boot.img 8 4) ∧
        d.reg (rGLB_IMG_DIGESTk 7) = BitVec.ofNat 32 (beNat ((imgDigest s.dev.boot.img).drop 28)) ∧
        d.on fGLB_BOOT_STS_CONFIRMED = true ∧
        d.get fGLB_BOOT_STS_FAIL_CNT = 0 ∧
        d.boot.lastOk = true ∧
        d.boot.digest = some (s.dev.get fGLB_BOOT_STS_SLOT, imgDigest s.dev.boot.img) ∧
        d.boot.digestOk = true ∧
        d.boot.warm = imgWarm s.dev.boot.img ∧
        d.reg rGLB_WDOG_CFG = s.dev.reg rGLB_WDOG_CFG ∧
        d.clk = { s.dev.clk with switching := true } ∧
        d = { s.dev with regs := d.regs, boot := d.boot, ports := d.ports, clk := d.clk, irqA := d.irqA, irqB := d.irqB }) ∧
  (∀ (s : State) (tmo : Bool), s.dev.calm = true → s.dev.takes .loader rCLK_SWITCH → s.dev.selAct = false →
    s.dev.on fDDR_CTL_EN = false → s.dev.boot.loader = .lock → s.dev.on fCLK_STS_SYSPLL_LOCK = true →
    s.dev.boot.warmLeft = none → s.dev.boot.pos = 0 → s.dev.pin.stop = false → imgSects s.dev.boot.img ≤ s.dev.boot.sect →
    (imgDigest s.dev.boot.img) = imgStored s.dev.boot.img → imgAutoconf s.dev.boot.img = false →
    s.dev.on fGLB_WDOG_CFG_EN = false → s.dev.domOn 1 = true →
      Completes (.imageClockSwitch tmo) s fun d =>
        d.selAct = true ∧
        d.boot.loader = .idle ∧
        d.on fGLB_BOOT_STS_CONFIRMED = s.dev.on fGLB_BOOT_STS_CONFIRMED ∧
        d.on fGLB_WDOG_CFG_EN = true ∧
        d.get fGLB_WDOG_CFG_TIMEOUT_MS = max 100 (imgBe s.dev.boot.img 18 2) % 65536 ∧
        d.boot.lastOk = s.dev.boot.lastOk ∧
        d.boot.digestOk = false ∧
        d = { s.dev with regs := d.regs, boot := d.boot, ports := d.ports, clk := d.clk, irqA := d.irqA, irqB := d.irqB }) ∧
  (∀ (s : State) (tmo : Bool), s.dev.calm = true → s.dev.boot.loader ≠ .lock → s.dev.domOn 1 = true →
      Completes (.imageClockSwitch tmo) s fun d =>
        s.dev.sameRegs d [] ∧
        d = { s.dev with regs := d.regs, irqA := d.irqA, irqB := d.irqB })

/-- Each of these commands answers a next state under conditions on the state and the operands alone. CONFIRM of a start
not yet confirmed confirms it. RESTART outside safe mode, with the NVM balls held and the loader idle, disables every
block that can be reached and begins a warm start. CLEAR_FAIL clears the failed-start count in safe mode and is
refused outside it. A write of RELEASE gives up or takes back the NVM balls, and a flash written in between answers
with its new content. PROG_KEY programs a free slot and REVOKE revokes a programmed one. (R496, R508, R511, R512,
R518) -/
def Obligations.StartCommandsAndKeys : Prop :=
  (∀ (s : State) (p : Port) (v : Word), s.dev.calm = true → s.dev.takes p rGLB_BOOT_CMD →
    s.dev.on fGLB_BOOT_STS_CONFIRMED = false →
      Completes (.bootConfirm p v) s fun d =>
        d.on fGLB_BOOT_STS_CONFIRMED = true ∧
        d.get fGLB_BOOT_STS_FAIL_CNT = 0 ∧
        d.get fGLB_BOOT_STS_CMD_RESULT = 1 ∧
        d.boot = { s.dev.boot with lastOk := true, digestOk := true } ∧
        (d.port p).code = 0 ∧
        s.dev.sameRegs d [rGLB_BOOT_CMD, rGLB_BOOT_STS] ∧
        d = { s.dev with regs := d.regs, ports := d.ports, boot := d.boot, irqA := d.irqA, irqB := d.irqB }) ∧
  (∀ (s : State) (p : Port) (v : Word), s.dev.calm = true → s.dev.takes p rGLB_BOOT_CMD →
    s.dev.on fGLB_BOOT_STS_SAFE = false → s.dev.on fGLB_NVM_CTL_RELEASE = false → s.dev.boot.loader = .idle →
    s.dev.boot.changing = false → s.dev.selAct = false → s.dev.domOn 1 = true →
      Completes (.bootRestart p v) s fun d =>
        d.get fGLB_BOOT_STS_CMD_RESULT = 1 ∧
        d.get fGLB_BOOT_STS_START_KIND = 2 ∧
        d.on fGLB_RESET_CAUSE_WARM = true ∧
        d.boot.loader = .sel ∧
        d.get fGLB_BOOT_STS_STEP = 6 ∧
        (s.dev.reaches fCUE_CFG_EN.addr = true → d.on fCUE_CFG_EN = false) ∧
        (s.dev.reaches fANV_CTL_EN.addr = true → d.on fANV_CTL_EN = false) ∧
        (s.dev.reaches fMIO_CFG_EN.addr = true → d.on fMIO_CFG_EN = false) ∧
        (∀ n ∈ List.range 24, s.dev.reaches (rSAPnn_CTL n) = true → d.on (fSAPnn_CTL_EN n) = false) ∧
        (∀ n ∈ List.range 4, s.dev.reaches (rNETn_MAC_CFG n) = true → d.on (fNETn_MAC_CFG_EN n) = false) ∧
        (s.dev.reaches fT1S_CFG_EN.addr = true → d.on fT1S_CFG_EN = false) ∧
        (∀ g ∈ List.range 8, s.dev.reaches (rMCGn_CTL g) = true → d.on (fMCGn_CTL_EN g) = false) ∧
        (∀ g ∈ List.range 4, s.dev.reaches (rPTP_PTDd_CTL g) = true → d.on (fPTP_PTDd_CTL_EN g) = false) ∧
        (∀ k ∈ List.range 4, s.dev.reaches rRQL_CTL = true → d.on (bitFld rRQL_CTL (4 + k)) = false) ∧
        d.stxOrder = [] ∧
        d.srxOrder = []) ∧
  (∀ (s : State) (p : Port) (v : Word), s.dev.calm = true → s.dev.takes p rGLB_BOOT_CMD →
      Completes (.bootClearFail p v) s fun d =>
        (d.reg rGLB_BOOT_STS = (if s.dev.on fGLB_BOOT_STS_SAFE then fGLB_BOOT_STS_CMD_RESULT.put (fGLB_BOOT_STS_FAIL_CNT.put (s.dev.reg rGLB_BOOT_STS) 0) 1 else fGLB_BOOT_STS_CMD_RESULT.put (s.dev.reg rGLB_BOOT_STS) 2)) ∧
        (d.port p).code = 0 ∧
        s.dev.sameRegs d [rGLB_BOOT_CMD, rGLB_BOOT_STS] ∧
        d = { s.dev with regs := d.regs, ports := d.ports, irqA := d.irqA, irqB := d.irqB }) ∧
  (∀ (s : State) (p : Port) (v : Word) (z : Option Nvm), s.dev.calm = true → s.dev.takes p rGLB_NVM_CTL →
    (s.dev.starting = false ∨ fGLB_NVM_CTL_RELEASE.get v = 0) →
      Completes (.nvmRelease p v z) s fun d =>
        d.on fGLB_NVM_CTL_RELEASE = (fGLB_NVM_CTL_RELEASE.get v == 1) ∧
        (d.nvm = (if fGLB_NVM_CTL_RELEASE.get v = 1 then z.getD s.dev.nvm else s.dev.nvm)) ∧
        (d.port p).code = 0 ∧
        s.dev.sameRegs d [rGLB_NVM_CTL] ∧
        d = { s.dev with regs := d.regs, ports := d.ports, nvm := d.nvm, irqA := d.irqA, irqB := d.irqB }) ∧
  (∀ (s : State) (p : Port) (v : Word), s.dev.calm = true → s.dev.takes p rGLB_OTP_CMD → s.dev.starting = false →
    fGLB_OTP_CMD_SLOT.get v < 3 → (kget (0, 0) s.dev.boot.keys (fGLB_OTP_CMD_SLOT.get v)).1 = 0 → s.dev.boot.lc < 2 →
      Completes (.progKey p v) s fun d =>
        d.get fGLB_OTP_STS_RESULT = 1 ∧
        d.get fGLB_OTP_STS_CODE = 0 ∧
        d.boot = { s.dev.boot with keys := kset (0, 0) s.dev.boot.keys (fGLB_OTP_CMD_SLOT.get v) (1, s.dev.otpHash) } ∧
        (d.port p).code = 0 ∧
        s.dev.sameRegs d [rGLB_OTP_CMD, rGLB_OTP_STS] ∧
        d = { s.dev with regs := d.regs, ports := d.ports, boot := d.boot, irqA := d.irqA, irqB := d.irqB }) ∧
  (∀ (s : State) (p : Port) (v : Word), s.dev.calm = true → s.dev.takes p rGLB_OTP_CMD → s.dev.starting = false →
    fGLB_OTP_CMD_SLOT.get v < 3 → (kget (0, 0) s.dev.boot.keys (fGLB_OTP_CMD_SLOT.get v)).1 = 1 →
    (s.dev.boot.lc ≠ 2 ∨ ((List.range 3).filter s.dev.keyValid).length ≠ 1) →
      Completes (.revoke p v) s fun d =>
        d.get fGLB_OTP_STS_RESULT = 1 ∧
        d.get fGLB_OTP_STS_CODE = 0 ∧
        d.boot = { s.dev.boot with keys := kset (0, 0) s.dev.boot.keys (fGLB_OTP_CMD_SLOT.get v) (2, (kget (0, 0) s.dev.boot.keys (fGLB_OTP_CMD_SLOT.get v)).2) } ∧
        (d.port p).code = 0 ∧
        s.dev.sameRegs d [rGLB_OTP_CMD, rGLB_OTP_STS] ∧
        d = { s.dev with regs := d.regs, ports := d.ports, boot := d.boot, irqA := d.irqA, irqB := d.irqB })

/-- CONFIRM of a confirmed start changes only its result. RESTART is refused in safe mode, with the NVM balls released,
during a start and after the loader halted. RELEASE written during a start is ignored and recorded. PROG_KEY and
REVOKE are refused with their codes. (R496, R508, R512, R518) -/
def Obligations.StartCommandsAreRefused : Prop :=
  (∀ (s : State) (p : Port) (v : Word), s.dev.calm = true → s.dev.takes p rGLB_BOOT_CMD →
    s.dev.on fGLB_BOOT_STS_CONFIRMED = true →
      Completes (.bootConfirm p v) s fun d =>
        d.reg rGLB_BOOT_STS = fGLB_BOOT_STS_CMD_RESULT.put (s.dev.reg rGLB_BOOT_STS) 3 ∧
        (d.port p).code = 0 ∧
        s.dev.sameRegs d [rGLB_BOOT_CMD, rGLB_BOOT_STS] ∧
        d = { s.dev with regs := d.regs, ports := d.ports, irqA := d.irqA, irqB := d.irqB }) ∧
  (∀ (s : State) (p : Port) (v : Word), s.dev.calm = true → s.dev.takes p rGLB_BOOT_CMD →
    (s.dev.on fGLB_BOOT_STS_SAFE = true ∨ s.dev.on fGLB_NVM_CTL_RELEASE = true ∨ s.dev.starting = true ∨ s.dev.boot.loader = .halted) →
      Completes (.bootRestart p v) s fun d =>
        d.reg rGLB_BOOT_STS = fGLB_BOOT_STS_CMD_RESULT.put (s.dev.reg rGLB_BOOT_STS) 2 ∧
        (d.port p).code = 0 ∧
        s.dev.sameRegs d [rGLB_BOOT_CMD, rGLB_BOOT_STS] ∧
        d = { s.dev with regs := d.regs, ports := d.ports, irqA := d.irqA, irqB := d.irqB }) ∧
  (∀ (s : State) (p : Port) (v : Word) (z : Option Nvm), s.dev.calm = true → s.dev.takes p rGLB_NVM_CTL →
    s.dev.starting = true → fGLB_NVM_CTL_RELEASE.get v = 1 → s.dev.on fGLB_NVM_CTL_RELEASE = false →
      Completes (.nvmRelease p v z) s fun d =>
        d.reg rGLB_NVM_CTL = s.dev.reg rGLB_NVM_CTL ∧
        (d.reg rGLB_IGN_CNT).toNat = min ((s.dev.reg rGLB_IGN_CNT).toNat + 1) (2 ^ 32 - 1) ∧
        (d.port p).code = 0 ∧
        s.dev.sameRegs d [rGLB_IGN_CNT, rGLB_IGN_OVF_CNT] ∧
        d = { s.dev with regs := d.regs, ports := d.ports, ign := d.ign, irqA := d.irqA, irqB := d.irqB }) ∧
  (∀ (s : State) (p : Port) (v : Word) (c : Nat), s.dev.calm = true → s.dev.takes p rGLB_OTP_CMD →
    (c = (if s.dev.starting then 5 else if fGLB_OTP_CMD_SLOT.get v = 3 then 3 else if (kget (0, 0) s.dev.boot.keys (fGLB_OTP_CMD_SLOT.get v)).1 ≠ 0 then 1 else if 2 ≤ s.dev.boot.lc then 2 else 0)) →
    c ≠ 0 →
      Completes (.progKey p v) s fun d =>
        d.get fGLB_OTP_STS_RESULT = 2 ∧
        d.get fGLB_OTP_STS_CODE = c ∧
        d.boot = s.dev.boot ∧
        (d.port p).code = 0 ∧
        s.dev.sameRegs d [rGLB_OTP_CMD, rGLB_OTP_STS] ∧
        d = { s.dev with regs := d.regs, ports := d.ports, irqA := d.irqA, irqB := d.irqB }) ∧
  (∀ (s : State) (p : Port) (v : Word) (c : Nat), s.dev.calm = true → s.dev.takes p rGLB_OTP_CMD →
    (c = (if s.dev.starting then 5 else if fGLB_OTP_CMD_SLOT.get v = 3 then 3 else if (kget (0, 0) s.dev.boot.keys (fGLB_OTP_CMD_SLOT.get v)).1 ≠ 1 then 1 else if s.dev.boot.lc = 2 ∧ ((List.range 3).filter s.dev.keyValid).length = 1 then 4 else 0)) →
    c ≠ 0 →
      Completes (.revoke p v) s fun d =>
        d.get fGLB_OTP_STS_RESULT = 2 ∧
        d.get fGLB_OTP_STS_CODE = c ∧
        d.boot = s.dev.boot ∧
        (d.port p).code = 0 ∧
        s.dev.sameRegs d [rGLB_OTP_CMD, rGLB_OTP_STS] ∧
        d = { s.dev with regs := d.regs, ports := d.ports, irqA := d.irqA, irqB := d.irqB })

/-- GO is refused with code 1 for a state that is not later and with code 2 for FIELD without a valid key. An accepted
change programs the new state, wipes every on-chip memory, the retained records and the external memory when it is in
service, and closes every block but GLB until a reset. LOCK keeps GLB_LC_CTL as it is. A low pulse of HOTSWAP_N is
counted; an assertion detaches a device that has started: STATE is 1 and the cue engine ends at once, and when 2.0 ms
have passed every block is disabled and STATE is 2 (at once with no time base, log entry 74, the model's choice);
while the loader runs it only stops the load; after a detach the release arms the watchdog with 1 ms. (R513, R514,
R515, R517, R519, R569, R570, R571) -/
def Obligations.LifeCycleChangesAndDetach : Prop :=
  (∀ (s : State) (m : Meets) (p : Port) (v : Word), s.dev.calm = true → s.dev.takes p rGLB_LC_CTL →
    s.dev.boot.changing = false → fGLB_LC_CTL_TARGET.get v ≤ s.dev.boot.lc →
      Completes (.lcGo m p v) s fun d =>
        d.get fGLB_LC_STS_RESULT = 2 ∧
        d.get fGLB_LC_STS_CODE = 1 ∧
        (d.port p).code = 0 ∧
        s.dev.sameRegs d [rGLB_LC_CTL, rGLB_LC_STS] ∧
        d = { s.dev with regs := d.regs, ports := d.ports, irqA := d.irqA, irqB := d.irqB }) ∧
  (∀ (s : State) (m : Meets) (p : Port) (v : Word), s.dev.calm = true → s.dev.takes p rGLB_LC_CTL →
    s.dev.boot.changing = false → s.dev.boot.lc < 2 → fGLB_LC_CTL_TARGET.get v = 2 →
    (List.range 3).any s.dev.keyValid = false →
      Completes (.lcGo m p v) s fun d =>
        d.get fGLB_LC_STS_RESULT = 2 ∧
        d.get fGLB_LC_STS_CODE = 2 ∧
        (d.port p).code = 0 ∧
        s.dev.sameRegs d [rGLB_LC_CTL, rGLB_LC_STS] ∧
        d = { s.dev with regs := d.regs, ports := d.ports, irqA := d.irqA, irqB := d.irqB }) ∧
  (∀ (s : State) (m : Meets) (p : Port) (v : Word), s.dev.calm = true → s.dev.takes p rGLB_LC_CTL →
    s.dev.boot.changing = false → s.dev.boot.lc < fGLB_LC_CTL_TARGET.get v →
    (fGLB_LC_CTL_TARGET.get v ≠ 2 ∨ (List.range 3).any s.dev.keyValid = true) → m.reached = 5 →
      Completes (.lcGo m p v) s fun d =>
        d.boot.lc = fGLB_LC_CTL_TARGET.get v ∧
        d.boot.changing = true ∧
        d.boot.loader = .halted ∧
        d.get fGLB_LC_STS_RESULT = 1 ∧
        d.on fGLB_LC_STS_WIPE_BUSY = false ∧
        d.tbl = [] ∧
        d.store = [] ∧
        d.rings = [] ∧
        d.poison = [] ∧
        d.rql = [] ∧
        d.integ.map = [] ∧
        d.boot.warm = [] ∧
        d.boot.digest = none ∧
        d.get fGLB_BOOT_STS_FAIL_CNT = 0 ∧
        d.reg rGLB_BOOT_LOG = 0 ∧
        d.reg rINT_FATAL_LOG = 0 ∧
        d.wipeDone = s.dev.ddrIn ∧
        (d.on fGLB_LC_STS_DRAM_SKIP = true ∨ s.dev.ddrIn = true) ∧
        (s.dev.ddrIn = true → d.ddr.deep = [] ∧ d.ddr.dly = [] ∧ d.ddr.ring = []) ∧
        (∀ q ∈ List.range 16, ∀ w ∈ (d.hqOf q).words, w.data = 0) ∧
        (d.port p).code = 0) ∧
  (∀ (s : State) (p : Port) (v : Word), s.dev.calm = true → s.dev.takes p rGLB_LC_CTL → fGLB_LC_CTL_GO.get v = 0 →
      Completes (.lcLock p v) s fun d =>
        d.on fGLB_LC_CTL_LOCK = true ∧
        d.accCheck p rGLB_LC_CTL .b32 true = some 4 ∧
        (d.port p).code = 0 ∧
        s.dev.sameRegs d [rGLB_LC_CTL] ∧
        d = { s.dev with regs := d.regs, ports := d.ports, irqA := d.irqA, irqB := d.irqB }) ∧
  (∀ (s : State), s.dev.calm = true → s.dev.pin.hotswap = false →
      Completes (.hotswapGlitch) s fun d =>
        (d.reg rPIN_HOTSWAP_GLITCH_CNT).toNat = min ((s.dev.reg rPIN_HOTSWAP_GLITCH_CNT).toNat + 1) (2 ^ 32 - 1) ∧
        s.dev.sameRegs d [rPIN_HOTSWAP_GLITCH_CNT] ∧
        d = { s.dev with regs := d.regs, irqA := d.irqA, irqB := d.irqB }) ∧
  (∀ (s : State), s.dev.calm = true → s.dev.pin.hotswap = false → s.dev.get fPIN_HOTSWAP_STS_STATE = 0 →
    s.dev.domOn 1 = true → s.dev.boot.changing = false → s.dev.on fGLB_BOOT_STS_SAFE = false →
    ((s.dev.boot.loader = .idle ∧ s.dev.boot.released = true) ∨ s.dev.boot.loader = .halted) → s.dev.timeRuns = true →
      Completes (.hotswapAssert) s fun d =>
        d.pin.hotswap = true ∧
        d.get fPIN_HOTSWAP_STS_STATE = 1 ∧
        (d.reg rPIN_DETACH_CNT).toNat = min ((s.dev.reg rPIN_DETACH_CNT).toNat + 1) (2 ^ 32 - 1) ∧
        d.pin.detach = some { since := s.dev.mono, three := false } ∧
        (s.dev.reaches fCUE_CFG_EN.addr = true → d.on fCUE_CFG_EN = false)) ∧
  (∀ (s : State), s.dev.calm = true → s.dev.pin.hotswap = false → s.dev.get fPIN_HOTSWAP_STS_STATE = 0 →
    s.dev.domOn 1 = true → s.dev.boot.changing = false → s.dev.on fGLB_BOOT_STS_SAFE = false →
    ((s.dev.boot.loader = .idle ∧ s.dev.boot.released = true) ∨ s.dev.boot.loader = .halted) → s.dev.timeRuns = false →
      Completes (.hotswapAssert) s fun d =>
        d.pin.hotswap = true ∧
        d.get fPIN_HOTSWAP_STS_STATE = 2 ∧
        (d.reg rPIN_DETACH_CNT).toNat = min ((s.dev.reg rPIN_DETACH_CNT).toNat + 1) (2 ^ 32 - 1) ∧
        d.time.ppsOut = false ∧
        (s.dev.reaches fCUE_CFG_EN.addr = true → d.on fCUE_CFG_EN = false) ∧
        (s.dev.reaches fANV_CTL_EN.addr = true → d.on fANV_CTL_EN = false) ∧
        (s.dev.reaches fMIO_CFG_EN.addr = true → d.on fMIO_CFG_EN = false) ∧
        (∀ n ∈ List.range 24, s.dev.reaches (rSAPnn_CTL n) = true → d.on (fSAPnn_CTL_EN n) = false) ∧
        (∀ n ∈ List.range 4, s.dev.reaches (rNETn_MAC_CFG n) = true → d.on (fNETn_MAC_CFG_EN n) = false) ∧
        (s.dev.reaches fT1S_CFG_EN.addr = true → d.on fT1S_CFG_EN = false) ∧
        (∀ g ∈ List.range 8, s.dev.reaches (rMCGn_CTL g) = true → d.on (fMCGn_CTL_EN g) = false) ∧
        (∀ g ∈ List.range 4, s.dev.reaches (rPTP_PTDd_CTL g) = true → d.on (fPTP_PTDd_CTL_EN g) = false) ∧
        (∀ k ∈ List.range 4, s.dev.reaches rRQL_CTL = true → d.on (bitFld rRQL_CTL (4 + k)) = false) ∧
        d.stxOrder = [] ∧
        d.srxOrder = []) ∧
  (∀ (s : State) (x : Detach), s.pending = [] → s.dev.pin.detach = some x → x.three = false → 6 ≤ x.next →
    s.dev.domOn 1 = true → s.dev.pwr.jobs = [] → s.dev.pin.due = false → 2 * msUnits ≤ s.dev.detachTime x →
      Passes s fun d =>
        d.get fPIN_HOTSWAP_STS_STATE = 2 ∧
        d.pin.detach = none ∧
        d.time.ppsOut = false ∧
        (s.dev.reaches fCUE_CFG_EN.addr = true → d.on fCUE_CFG_EN = false) ∧
        (s.dev.reaches fANV_CTL_EN.addr = true → d.on fANV_CTL_EN = false) ∧
        (s.dev.reaches fMIO_CFG_EN.addr = true → d.on fMIO_CFG_EN = false) ∧
        (∀ n ∈ List.range 24, s.dev.reaches (rSAPnn_CTL n) = true → d.on (fSAPnn_CTL_EN n) = false) ∧
        (∀ n ∈ List.range 4, s.dev.reaches (rNETn_MAC_CFG n) = true → d.on (fNETn_MAC_CFG_EN n) = false) ∧
        (s.dev.reaches fT1S_CFG_EN.addr = true → d.on fT1S_CFG_EN = false) ∧
        (∀ g ∈ List.range 8, s.dev.reaches (rMCGn_CTL g) = true → d.on (fMCGn_CTL_EN g) = false) ∧
        (∀ g ∈ List.range 4, s.dev.reaches (rPTP_PTDd_CTL g) = true → d.on (fPTP_PTDd_CTL_EN g) = false) ∧
        (∀ k ∈ List.range 4, s.dev.reaches rRQL_CTL = true → d.on (bitFld rRQL_CTL (4 + k)) = false) ∧
        d.stxOrder = [] ∧
        d.srxOrder = []) ∧
  (∀ (s : State), s.dev.calm = true → s.dev.pin.hotswap = false → s.dev.get fPIN_HOTSWAP_STS_STATE = 0 →
    s.dev.domOn 1 = true → (s.dev.on fGLB_BOOT_STS_SAFE = true ∨ s.dev.boot.changing = true) →
      Completes (.hotswapAssert) s fun d =>
        d.pin.hotswap = true ∧
        d.get fPIN_HOTSWAP_STS_STATE = 2 ∧
        (d.reg rPIN_DETACH_CNT).toNat = min ((s.dev.reg rPIN_DETACH_CNT).toNat + 1) (2 ^ 32 - 1) ∧
        s.dev.sameRegs d [rPIN_HOTSWAP_STS, rPIN_DETACH_CNT] ∧
        d = { s.dev with regs := d.regs, pin := d.pin, irqA := d.irqA, irqB := d.irqB }) ∧
  (∀ (s : State), s.dev.calm = true → s.dev.pin.hotswap = false → s.dev.get fPIN_HOTSWAP_STS_STATE = 0 →
    s.dev.domOn 1 = true → s.dev.boot.changing = false → s.dev.on fGLB_BOOT_STS_SAFE = false →
    (s.dev.boot.loader = .lock ∨ s.dev.boot.loader = .run) →
      Completes (.hotswapAssert) s fun d =>
        d.pin = { s.dev.pin with hotswap := true, stop := true } ∧
        s.dev.sameRegs d [] ∧
        d = { s.dev with regs := d.regs, pin := d.pin, irqA := d.irqA, irqB := d.irqB }) ∧
  (∀ (s : State), s.dev.calm = true → s.dev.pin.hotswap = false → s.dev.get fPIN_HOTSWAP_STS_STATE = 0 →
    s.dev.domOn 1 = false →
      Completes (.hotswapAssert) s fun d =>
        d.pin = { s.dev.pin with hotswap := true, due := true } ∧
        s.dev.sameRegs d [] ∧
        d = { s.dev with regs := d.regs, pin := d.pin, irqA := d.irqA, irqB := d.irqB }) ∧
  (∀ (s : State), s.dev.calm = true → s.dev.get fPIN_HOTSWAP_STS_STATE = 2 →
      Completes (.hotswapRelease) s fun d =>
        d.pin = { s.dev.pin with hotswap := false, due := false } ∧
        d.on fGLB_WDOG_CFG_EN = true ∧
        d.get fGLB_WDOG_CFG_TIMEOUT_MS = 1 ∧
        (d.clk = (if s.dev.on fGLB_WDOG_CFG_EN then s.dev.clk else { s.dev.clk with wdog := 1024 })) ∧
        d.boot = { s.dev.boot with lastSlot := 0 } ∧
        s.dev.sameRegs d [rGLB_WDOG_CFG] ∧
        d = { s.dev with regs := d.regs, pin := d.pin, clk := d.clk, boot := d.boot, irqA := d.irqA, irqB := d.irqB }) ∧
  (∀ (s : State), s.dev.calm = true → s.dev.get fPIN_HOTSWAP_STS_STATE ≠ 2 →
      Completes (.hotswapRelease) s fun d =>
        d.pin = { s.dev.pin with hotswap := false, due := false } ∧
        s.dev.sameRegs d [] ∧
        d = { s.dev with regs := d.regs, pin := d.pin, irqA := d.irqA, irqB := d.irqB })

/-- Each scrub read takes the next word of its sub-bank, in turn. A clean word changes nothing else. A corrected error is
counted, captured and written back, and a row met for the first time takes an entry of the tracker; the row that
reaches MIGRATE_N begins its migration. An uncorrectable error is counted, captured over a corrected one, told, and
the word is poisoned. The window of an entry ends it. A migration takes the lowest free spare row, is counted,
captured and told, and leaves a write-back pending where WB_EN is 1. A pending write-back starts unless the NVM is not
the device's; done, it writes the other copy with the next number, or waits again where the NVM has been released
meanwhile; failed, it is pending again, counted and shown. A fatal error arms the watchdog with 1 ms and halts the
loader. CLR clears the fatal log. An injection is armed in BLANK and DEVELOP, and starts nothing elsewhere. (R451,
R520, R521, R522, R528, R529, R530, R531, R533, R536, R537) -/
def Obligations.ErrorsAreFoundRepairedAndRecorded : Prop :=
  (∀ (s : State) (array : Nat) (sub : Nat) (word : Nat) (at_ : Nat), s.dev.calm = true → array ≤ 5 → array ≠ 2 →
    sub < (arrayBanks array).1 → (if array = 5 then s.dev.aonRuns = true else s.dev.domOn 1 = true) →
    at_ = (kget 0 s.dev.integ.pos (32 * array + sub)) → s.dev.poisoned array (32768 * sub + at_) = false →
    kget false s.dev.integ.weak (8388608 * array + 32768 * sub + at_) = false →
    kget false s.dev.integ.stuck (8388608 * array + 32768 * sub + at_) = false → at_ + 1 ≠ (arrayBanks array).2 →
    s.dev.domOn 1 = true →
      Completes (.scrubRead array sub word none) s fun d =>
        kget 0 d.integ.pos (32 * array + sub) = (at_ + 1) % (arrayBanks array).2 ∧
        s.dev.sameRegs d [] ∧
        d = { s.dev with regs := d.regs, integ := d.integ, irqA := d.irqA, irqB := d.irqB }) ∧
  (∀ (s : State) (array : Nat) (sub : Nat) (word : Nat) (at_ : Nat) (y : BitVec 8), s.dev.calm = true → array ≤ 5 →
    array ≠ 2 → sub < (arrayBanks array).1 → (if array = 5 then s.dev.aonRuns = true else s.dev.domOn 1 = true) →
    at_ = (kget 0 s.dev.integ.pos (32 * array + sub)) → s.dev.poisoned array (32768 * sub + at_) = false →
    kget false s.dev.integ.weak (8388608 * array + 32768 * sub + at_) = false →
    kget false s.dev.integ.stuck (8388608 * array + 32768 * sub + at_) = false → at_ < (arrayBanks array).2 →
    at_ + 1 ≠ (arrayBanks array).2 → s.dev.integ.track.length < 64 →
    (∀ t ∈ s.dev.integ.track, t.isRow array sub (at_ / 32) = false) → 2 ≤ s.dev.get fINT_REPAIR_CFG_MIGRATE_N →
    s.dev.domOn 1 = true →
      Completes (.scrubRead array sub word (some (false, y))) s fun d =>
        kget 0 d.integ.pos (32 * array + sub) = (at_ + 1) % (arrayBanks array).2 ∧
        (d.reg rINT_ECC_CE_CNT).toNat = min ((s.dev.reg rINT_ECC_CE_CNT).toNat + 1) (2 ^ 32 - 1) ∧
        d.on fINT_ECC_LOG_VALID = true ∧
        (s.dev.on fINT_ECC_LOG_VALID = false → d.on fINT_ECC_LOG_UE = false ∧ d.get fINT_ECC_LOG_ARRAY = array ∧ d.get fINT_ECC_LOG_SUBBANK = sub ∧ d.get fINT_ECC_LOG_ROW = at_ / 32 ∧ d.get fINT_ECC_LOG_SYNDROME = y.toNat) ∧
        d.integ.track = s.dev.integ.track ++ [{ array := array, sub := sub, row := at_ / 32, count := 1 }] ∧
        d.reg rINT_ECC_UE_CNT = s.dev.reg rINT_ECC_UE_CNT ∧
        s.dev.sameRegs d [rINT_ECC_LOG, rINT_ECC_CE_CNT] ∧
        d = { s.dev with regs := d.regs, integ := d.integ, free := d.free, irqA := d.irqA, irqB := d.irqB }) ∧
  (∀ (s : State) (array : Nat) (sub : Nat) (word : Nat) (at_ : Nat) (y : BitVec 8) (e : Track), s.dev.calm = true →
    array ≤ 5 → array ≠ 2 → sub < (arrayBanks array).1 →
    (if array = 5 then s.dev.aonRuns = true else s.dev.domOn 1 = true) → at_ = (kget 0 s.dev.integ.pos (32 * array + sub)) →
    s.dev.poisoned array (32768 * sub + at_) = false →
    kget false s.dev.integ.weak (8388608 * array + 32768 * sub + at_) = false →
    kget false s.dev.integ.stuck (8388608 * array + 32768 * sub + at_) = false → at_ < (arrayBanks array).2 →
    at_ + 1 ≠ (arrayBanks array).2 → s.dev.integ.track = [e] → e.isRow array sub (at_ / 32) = true →
    s.dev.migrateN ≤ e.count + 1 → s.dev.on fINT_REPAIR_CFG_MIGRATE_EN = true →
    s.dev.integ.moving.length < (s.dev.subBank array sub).freeRows → s.dev.domOn 1 = true →
      Completes (.scrubRead array sub word (some (false, y))) s fun d =>
        kget 0 d.integ.pos (32 * array + sub) = (at_ + 1) % (arrayBanks array).2 ∧
        (d.reg rINT_ECC_CE_CNT).toNat = min ((s.dev.reg rINT_ECC_CE_CNT).toNat + 1) (2 ^ 32 - 1) ∧
        d.integ.track = [] ∧
        d.integ.moving = s.dev.integ.moving ++ [(array, sub, at_ / 32)] ∧
        s.dev.sameRegs d [rINT_ECC_LOG, rINT_ECC_CE_CNT] ∧
        d = { s.dev with regs := d.regs, integ := d.integ, free := d.free, irqA := d.irqA, irqB := d.irqB }) ∧
  (∀ (s : State) (sub : Nat) (word : Nat) (at_ : Nat) (y : BitVec 8) (array : Nat), s.dev.calm = true →
    (array = 3 ∧ sub < 16) → (if array = 5 then s.dev.aonRuns = true else s.dev.domOn 1 = true) →
    at_ = (kget 0 s.dev.integ.pos (32 * array + sub)) → s.dev.poisoned array (32768 * sub + at_) = false →
    kget false s.dev.integ.weak (8388608 * array + 32768 * sub + at_) = false →
    kget false s.dev.integ.stuck (8388608 * array + 32768 * sub + at_) = false → at_ < 32767 → s.dev.domOn 1 = true →
    s.dev.stxOrder = [] → s.dev.srxOrder = [] → (∀ i ∈ List.range 4, s.dev.on (fNETn_GATE_CFG_EN i) = false) →
    32768 * sub + at_ < 0x71428 →
      Completes (.scrubRead array sub word (some (true, y))) s fun d =>
        kget 0 d.integ.pos (32 * array + sub) = (at_ + 1) % (arrayBanks array).2 ∧
        (d.reg rINT_ECC_UE_CNT).toNat = min ((s.dev.reg rINT_ECC_UE_CNT).toNat + 1) (2 ^ 32 - 1) ∧
        d.on fINT_ECC_LOG_VALID = true ∧
        (s.dev.on fINT_ECC_LOG_VALID = false ∨ s.dev.on fINT_ECC_LOG_UE = false → d.on fINT_ECC_LOG_UE = true ∧ d.get fINT_ECC_LOG_ARRAY = array ∧ d.get fINT_ECC_LOG_SUBBANK = sub ∧ d.get fINT_ECC_LOG_ROW = at_ / 32 ∧ d.get fINT_ECC_LOG_SYNDROME = y.toNat) ∧
        kget false d.poison (8388608 * array + 32768 * sub + at_) = true ∧
        d.hq = (s.dev.hqPush (s.dev.get fHQ_ROUTE_EVT_Q) 5 (eventRecord 0x1302 array s.dev.ft64)).hq ∧
        d = { s.dev with regs := d.regs, free := d.free, hq := d.hq, rql := d.rql, cue := d.cue, poison := d.poison, integ := d.integ, stx := d.stx, srx := d.srx, stxOrder := d.stxOrder, srxOrder := d.srxOrder, ticks := d.ticks, irqA := d.irqA, irqB := d.irqB }) ∧
  (∀ (s : State) (array : Nat) (sub : Nat) (row : Nat), s.dev.calm = true → s.dev.domOn 1 = true →
      Completes (.trackerEntryExpiry array sub row) s fun d =>
        (d.integ = { s.dev.integ with track := s.dev.integ.track.filter fun t => !t.isRow array sub row }) ∧
        s.dev.sameRegs d [] ∧
        d = { s.dev with regs := d.regs, integ := d.integ, irqA := d.irqA, irqB := d.irqB }) ∧
  (∀ (s : State) (array : Nat) (sub : Nat) (row : Nat), s.dev.calm = true →
    s.dev.integ.moving.contains (array, sub, row) = true → (s.dev.subBank array sub).row0 = .free → s.dev.domOn 1 = true →
      Completes (.rowMigrated array sub row) s fun d =>
        (d.subBank array sub).row0 = .used row true ∧
        ((d.subBank array sub).row1 = (if (s.dev.subBank array sub).row1 = .used row true ∨ (s.dev.subBank array sub).row1 = .used row false then .bad else (s.dev.subBank array sub).row1)) ∧
        d.integ.moving = s.dev.integ.moving.erase (array, sub, row) ∧
        (d.reg rINT_MIGRATE_CNT).toNat = min ((s.dev.reg rINT_MIGRATE_CNT).toNat + 1) (2 ^ 32 - 1) ∧
        d.on fINT_MIGRATE_LOG_VALID = true ∧
        (s.dev.on fINT_MIGRATE_LOG_VALID = false → d.get fINT_MIGRATE_LOG_ROW = row % 1024 ∧ d.get fINT_MIGRATE_LOG_ARRAY = array % 8 ∧ d.get fINT_MIGRATE_LOG_SUBBANK = sub % 32) ∧
        d.wbPend = (s.dev.wbPend || s.dev.on fINT_REPAIR_CFG_WB_EN) ∧
        d.hq = (s.dev.hqPush (s.dev.get fHQ_ROUTE_EVT_Q) 5 (eventRecord 0x1303 (32 * array + sub) s.dev.ft64)).hq ∧
        s.dev.sameRegs d (rINT_MIGRATE_CNT :: rINT_MIGRATE_LOG :: s.dev.evtRegs) ∧
        d = { s.dev with regs := d.regs, hq := d.hq, rql := d.rql, cue := d.cue, poison := d.poison, integ := d.integ, wbPend := d.wbPend, irqA := d.irqA, irqB := d.irqB }) ∧
  (∀ (s : State) (array : Nat) (sub : Nat) (row : Nat), s.dev.calm = true →
    s.dev.integ.moving.contains (array, sub, row) = false → s.dev.domOn 1 = true →
      Completes (.rowMigrated array sub row) s fun d =>
        s.dev.sameRegs d [] ∧
        d = { s.dev with regs := d.regs, irqA := d.irqA, irqB := d.irqB }) ∧
  (∀ (s : State), s.dev.calm = true → s.dev.wbPend = true → s.dev.integ.wbBusy = false → s.dev.starting = false →
    s.dev.on fGLB_NVM_CTL_RELEASE = false → s.dev.domOn 1 = true →
      Completes (.repairWriteback) s fun d =>
        d.wbPend = false ∧
        d.integ = { s.dev.integ with wbBusy := true } ∧
        s.dev.sameRegs d [] ∧
        d = { s.dev with regs := d.regs, wbPend := d.wbPend, integ := d.integ, irqA := d.irqA, irqB := d.irqB }) ∧
  (∀ (s : State), s.dev.calm = true →
    (s.dev.wbPend = false ∨ s.dev.integ.wbBusy = true ∨ s.dev.starting = true ∨ s.dev.on fGLB_NVM_CTL_RELEASE = true ∨ s.dev.domOn 1 = false) →
    s.dev.domOn 1 = true →
      Completes (.repairWriteback) s fun d =>
        s.dev.sameRegs d [] ∧
        d = { s.dev with regs := d.regs, irqA := d.irqA, irqB := d.irqB }) ∧
  (∀ (s : State) (n : Nat) (q : Nat), s.dev.calm = true → s.dev.integ.wbBusy = true → s.dev.on fGLB_NVM_CTL_RELEASE = false →
    s.dev.nvm.responds = true → n = (s.dev.integ.recSeq + 1) % 2 ^ 32 → q = 1 - s.dev.integ.recCopy → s.dev.domOn 1 = true →
      Completes (.repairWritebackDone true) s fun d =>
        (d.nvm = (if q = 0 then { s.dev.nvm with rec0 := recordCopy n s.dev.recEntries } else { s.dev.nvm with rec1 := recordCopy n s.dev.recEntries })) ∧
        d.integ = { s.dev.integ with wbBusy := false, recCopy := q, recSeq := n } ∧
        d.on fINT_STS_REC_FAIL = false ∧
        s.dev.sameRegs d [rINT_STS] ∧
        d = { s.dev with regs := d.regs, nvm := d.nvm, integ := d.integ, irqA := d.irqA, irqB := d.irqB }) ∧
  (∀ (s : State) (ok : Bool), s.dev.calm = true → s.dev.integ.wbBusy = true → s.dev.on fGLB_NVM_CTL_RELEASE = true →
    s.dev.domOn 1 = true →
      Completes (.repairWritebackDone ok) s fun d =>
        d.wbPend = true ∧
        d.integ = { s.dev.integ with wbBusy := false } ∧
        s.dev.sameRegs d [] ∧
        d = { s.dev with regs := d.regs, wbPend := d.wbPend, integ := d.integ, irqA := d.irqA, irqB := d.irqB }) ∧
  (∀ (s : State), s.dev.calm = true → s.dev.integ.wbBusy = true → s.dev.on fGLB_NVM_CTL_RELEASE = false →
    s.dev.domOn 1 = true →
      Completes (.repairWritebackDone false) s fun d =>
        d.wbPend = true ∧
        d.integ = { s.dev.integ with wbBusy := false } ∧
        d.on fINT_STS_REC_FAIL = true ∧
        (d.reg rINT_REC_FAIL_CNT).toNat = min ((s.dev.reg rINT_REC_FAIL_CNT).toNat + 1) (2 ^ 32 - 1) ∧
        s.dev.sameRegs d [rINT_STS, rINT_REC_FAIL_CNT] ∧
        d = { s.dev with regs := d.regs, wbPend := d.wbPend, integ := d.integ, irqA := d.irqA, irqB := d.irqB }) ∧
  (∀ (s : State), s.dev.calm = true →
      Completes (.fatalError) s fun d =>
        d.boot = { s.dev.boot with fatal := true, loader := .halted } ∧
        d.on fGLB_WDOG_CFG_EN = true ∧
        d.get fGLB_WDOG_CFG_TIMEOUT_MS = 1 ∧
        d.clk = { s.dev.clk with wdog := 1024 } ∧
        s.dev.sameRegs d [rGLB_WDOG_CFG] ∧
        d = { s.dev with regs := d.regs, boot := d.boot, clk := d.clk, irqA := d.irqA, irqB := d.irqB }) ∧
  (∀ (s : State) (p : Port) (v : Word), s.dev.calm = true → s.dev.takes p rINT_FATAL_LOG →
      Completes (.fatalLogClr p v) s fun d =>
        d.reg rINT_FATAL_LOG = 0 ∧
        (d.port p).code = 0 ∧
        s.dev.sameRegs d [rINT_FATAL_LOG] ∧
        d = { s.dev with regs := d.regs, ports := d.ports, irqA := d.irqA, irqB := d.irqB }) ∧
  (∀ (s : State) (p : Port) (v : Word), s.dev.calm = true → s.dev.takes p rINT_INJ_CMD → s.dev.boot.lc ≤ 1 →
    fINT_INJ_CMD_ARRAY.get v ≤ 4 →
      Completes (.injArm p v) s fun d =>
        d.get fINT_INJ_CMD_OP = 1 ∧
        d.on fINT_INJ_CMD_ARMED = true ∧
        d.get fINT_INJ_CMD_ARRAY = fINT_INJ_CMD_ARRAY.get v ∧
        d.get fINT_INJ_CMD_BITS = fINT_INJ_CMD_BITS.get v ∧
        (d.port p).code = 0 ∧
        s.dev.sameRegs d [rINT_INJ_CMD] ∧
        d = { s.dev with regs := d.regs, ports := d.ports, irqA := d.irqA, irqB := d.irqB }) ∧
  (∀ (s : State) (p : Port) (v : Word), s.dev.calm = true → s.dev.takes p rINT_INJ_CMD →
    (2 ≤ s.dev.boot.lc ∨ 4 < fINT_INJ_CMD_ARRAY.get v) →
      Completes (.injArm p v) s fun d =>
        d.on fINT_INJ_CMD_ARMED = s.dev.on fINT_INJ_CMD_ARMED ∧
        (d.port p).code = 0 ∧
        s.dev.sameRegs d [rINT_INJ_CMD] ∧
        d = { s.dev with regs := d.regs, ports := d.ports, irqA := d.irqA, irqB := d.irqB })

/-- Each of these commands answers a next state under conditions on the state and the operands alone. An enable that the
geometry, regions and domain allow begins training, or the way out of self-refresh when the memory has been trained so
before; a memory that goes out of service is told and discards its queued writes. Training that succeeds begins the
wipe, which makes the regions ready one by one and ends with WIPE_DONE programmed. A disable completes the queued
writes and leaves service. (R541, R542, R543, R547, R517, R553) -/
def Obligations.ExternalMemoryComesIntoService : Prop :=
  (∀ (s : State) (p : Port) (v : Word), s.dev.calm = true → s.dev.takes p rDDR_CTL →
    fDDR_CTL_EN.put v 1 = fDDR_CTL_EN.put (s.dev.reg rDDR_CTL) 1 → s.dev.on fDDR_CTL_EN = false → s.dev.ddrCheck = 0 →
    (s.dev.on fDDR_STS_TRAINED = false ∨ s.dev.ddr.geom ≠ s.dev.reg rDDR_GEOM) → s.dev.on fDDR_STS_OUT = false →
      Completes (.ddrEnable p v) s fun d =>
        d.on fDDR_CTL_EN = true ∧
        d.ddr.phase = 1 ∧
        d.on fDDR_STS_IN_SERVICE = false ∧
        d.on fDDR_STS_OUT = true ∧
        d.on fDDR_STS_TRAINED = false ∧
        d.reg rDDR_READY = 0 ∧
        d.ddr.posted = [] ∧
        d.srx = (s.dev.ddr.posted.foldl Dev.dropSpan s.dev).srx ∧
        d.hq = (s.dev.hqPush (s.dev.get fHQ_ROUTE_EVT_Q) 5 (eventRecord 0x1201 0 s.dev.ft64)).hq ∧
        (d.port p).code = 0 ∧
        s.dev.sameRegs d (rDDR_CTL :: rDDR_STS :: rDDR_READY :: rDDR_WR_DROP_CNT :: s.dev.evtRegs) ∧
        d = { s.dev with regs := d.regs, ports := d.ports, ddr := d.ddr, srx := d.srx, hq := d.hq, rql := d.rql, cue := d.cue, poison := d.poison, integ := d.integ, irqA := d.irqA, irqB := d.irqB }) ∧
  (∀ (s : State) (p : Port) (v : Word), s.dev.calm = true → s.dev.takes p rDDR_CTL →
    fDDR_CTL_EN.put v 1 = fDDR_CTL_EN.put (s.dev.reg rDDR_CTL) 1 → s.dev.on fDDR_CTL_EN = false → s.dev.ddrCheck = 0 →
    s.dev.on fDDR_STS_TRAINED = true → s.dev.ddr.geom = s.dev.reg rDDR_GEOM → s.dev.on fDDR_STS_OUT = true →
      Completes (.ddrEnable p v) s fun d =>
        d.on fDDR_CTL_EN = true ∧
        d.ddr = { s.dev.ddr with phase := 3 } ∧
        d.on fDDR_STS_TRAINED = true ∧
        (d.port p).code = 0 ∧
        s.dev.sameRegs d [rDDR_CTL, rDDR_STS] ∧
        d = { s.dev with regs := d.regs, ports := d.ports, ddr := d.ddr, irqA := d.irqA, irqB := d.irqB }) ∧
  (∀ (s : State) (p : Port) (v : Word), s.dev.calm = true → s.dev.takes p rDDR_CTL →
    fDDR_CTL_EN.put v 0 = fDDR_CTL_EN.put (s.dev.reg rDDR_CTL) 0 → s.dev.on fDDR_CTL_EN = true → s.dev.ddr.phase ≠ 1 →
    s.dev.ddr.phase ≠ 2 → (s.dev.anv.block.all (fun b => b.jobs.all fun r => (s.dev.reader r.bank r.entry).isNone) = true) →
      Completes (.ddrDisable p v) s fun d =>
        d.on fDDR_CTL_EN = false ∧
        d.on fDDR_STS_IN_SERVICE = false ∧
        d.on fDDR_STS_OUT = false ∧
        d.on fDDR_STS_TRAINED = s.dev.on fDDR_STS_TRAINED ∧
        d.ddr = { s.dev.postedAll.ddr with phase := 0, tries := [] } ∧
        (d.port p).code = 0 ∧
        s.dev.sameRegs d [rDDR_CTL, rDDR_STS, rDDR_UNREADY_CNT] ∧
        d = { s.dev with regs := d.regs, ports := d.ports, ddr := d.ddr, irqA := d.irqA, irqB := d.irqB }) ∧
  (∀ (s : State), s.dev.calm = true → s.dev.on fDDR_CTL_EN = true → s.dev.domOn 14 = true → s.dev.selAct = true →
    s.dev.ddr.phase = 1 →
      Completes (.ddrTrainingDone 0) s fun d =>
        d.ddr.phase = 0 ∧
        d.ddr.geom = s.dev.reg rDDR_GEOM ∧
        d.on fDDR_STS_TRAINED = true ∧
        d.on fDDR_STS_WIPE_BUSY = true ∧
        d.get fDDR_WIPE_POS_MIB = 0 ∧
        d.reg rDDR_READY = 0 ∧
        d.on fDDR_STS_IN_SERVICE = s.dev.wipeDone ∧
        s.dev.sameRegs d (rDDR_STS :: rDDR_WIPE_POS :: rDDR_READY :: rDDR_WR_DROP_CNT :: s.dev.evtRegs) ∧
        d = { s.dev with regs := d.regs, ddr := d.ddr, srx := d.srx, hq := d.hq, rql := d.rql, cue := d.cue, poison := d.poison, integ := d.integ, irqA := d.irqA, irqB := d.irqB }) ∧
  (∀ (s : State) (q : Nat), s.dev.calm = true → s.dev.wiping = true → q < 4 →
    (∀ r ∈ List.range 4, s.dev.regionReady r = decide (r < q)) → s.dev.domOn 14 = true →
      Completes (.ddrRegionReady) s fun d =>
        (∀ r ∈ List.range 4, d.regionReady r = decide (r ≤ q)) ∧
        d.get fDDR_WIPE_POS_MIB = s.dev.regionStart (q + 1) % 65536 ∧
        s.dev.sameRegs d [rDDR_READY, rDDR_WIPE_POS] ∧
        d = { s.dev with regs := d.regs, ddr := d.ddr, irqA := d.irqA, irqB := d.irqB }) ∧
  (∀ (s : State), s.dev.calm = true → s.dev.wiping = true → s.dev.on fDDR_STS_OUT = true → s.dev.domOn 14 = true →
      Completes (.ddrWipeDone) s fun d =>
        d.on fDDR_STS_WIPE_BUSY = false ∧
        (∀ r ∈ List.range 4, d.regionReady r = true) ∧
        d.ddr.bad = [] ∧
        d.wipeDone = true ∧
        d.on fDDR_STS_IN_SERVICE = (s.dev.on fDDR_STS_IN_SERVICE || !s.dev.wipeDone) ∧
        s.dev.sameRegs d [rDDR_STS, rDDR_READY, rDDR_WIPE_POS] ∧
        d = { s.dev with regs := d.regs, ddr := d.ddr, wipeDone := d.wipeDone, irqA := d.irqA, irqB := d.irqB })

/-- An enable that the geometry, regions or domain do not allow is refused with its code; a training that fails is
captured. A read that finds an uncorrectable beat is counted, logged and told, and retried twice; the third failure is
the read's own. The patrol counts and logs what it finds. An alert is counted, and the sixteenth within a second sends
the memory into a retrain and out of service. The oldest posted write stores its items and sets its map bits. (R524,
R541, R543, R546, R550, R551, R552, R553) -/
def Obligations.ExternalMemoryErrorsAndWrites : Prop :=
  (∀ (s : State) (p : Port) (v : Word) (c : Nat), s.dev.calm = true → s.dev.takes p rDDR_CTL →
    fDDR_CTL_EN.put v 1 = fDDR_CTL_EN.put (s.dev.reg rDDR_CTL) 1 → s.dev.on fDDR_CTL_EN = false → c = s.dev.ddrCheck →
    c ≠ 0 →
      Completes (.ddrEnable p v) s fun d =>
        d.on fDDR_CTL_EN = false ∧
        d.on fDDR_ERR_VALID = true ∧
        (s.dev.on fDDR_ERR_VALID = false → d.get fDDR_ERR_CODE = c) ∧
        (d.reg rDDR_REFUSE_CNT).toNat = min ((s.dev.reg rDDR_REFUSE_CNT).toNat + 1) (2 ^ 32 - 1) ∧
        (d.port p).code = 0 ∧
        s.dev.sameRegs d [rDDR_CTL, rDDR_ERR, rDDR_REFUSE_CNT] ∧
        d = { s.dev with regs := d.regs, ports := d.ports, irqA := d.irqA, irqB := d.irqB }) ∧
  (∀ (s : State) (k : Fin 3), s.dev.calm = true → s.dev.on fDDR_CTL_EN = true → s.dev.domOn 14 = true → s.dev.selAct = true →
    k ≠ 0 → s.dev.ddr.phase ≠ 0 →
      Completes (.ddrTrainingDone k) s fun d =>
        d.ddr = { s.dev.ddr with phase := 0 } ∧
        d.on fDDR_STS_TRAINED = false ∧
        d.on fDDR_ERR_VALID = true ∧
        (s.dev.on fDDR_ERR_VALID = false → d.get fDDR_ERR_CODE = (if s.dev.ddr.phase = 2 then 6 else 3 + k.val)) ∧
        s.dev.sameRegs d [rDDR_STS, rDDR_ERR] ∧
        d = { s.dev with regs := d.regs, ddr := d.ddr, irqA := d.irqA, irqB := d.irqB }) ∧
  (∀ (s : State), s.dev.calm = true → s.dev.wiping = false → s.dev.domOn 14 = true →
      Completes (.ddrRegionReady) s fun d =>
        s.dev.sameRegs d [] ∧
        d = { s.dev with regs := d.regs, irqA := d.irqA, irqB := d.irqB }) ∧
  (∀ (s : State) (c : Fin 512) (rank : Nat) (beat : Nat) (y : Nat) (k : Nat), s.dev.calm = true → s.dev.ddrIn = true →
    s.dev.reading (.staging c) = true → k = kget 0 s.dev.ddr.tries (65536 + c.val) → k < 2 → s.dev.domOn 14 = true →
      Completes (.ddrReadFail (.staging c) rank beat y) s fun d =>
        kget 0 d.ddr.tries (65536 + c.val) = k + 1 ∧
        (d.reg rDDR_ECC_UE_CNT).toNat = min ((s.dev.reg rDDR_ECC_UE_CNT).toNat + 1) (2 ^ 32 - 1) ∧
        (d.reg rDDR_RETRY_CNT).toNat = min ((s.dev.reg rDDR_RETRY_CNT).toNat + 1) (2 ^ 32 - 1) ∧
        d.on fDDR_ECC_LOG_VALID = true ∧
        kget false d.ddr.bad beat = true ∧
        d.hq = (s.dev.hqPush (s.dev.get fHQ_ROUTE_EVT_Q) 5 (eventRecord 0x1202 0 s.dev.ft64)).hq ∧
        s.dev.sameRegs d (rDDR_ECC_UE_CNT :: rDDR_RETRY_CNT :: rDDR_ECC_LOG :: rDDR_ECC_ADDR :: s.dev.evtRegs) ∧
        d = { s.dev with regs := d.regs, ddr := d.ddr, hq := d.hq, rql := d.rql, cue := d.cue, poison := d.poison, integ := d.integ, irqA := d.irqA, irqB := d.irqB }) ∧
  (∀ (s : State) (w : DramReader) (rank : Nat) (beat : Nat) (y : Nat), s.dev.calm = true →
    (s.dev.ddrIn = false ∨ s.dev.reading w = false) → s.dev.domOn 14 = true →
      Completes (.ddrReadFail w rank beat y) s fun d =>
        s.dev.sameRegs d [] ∧
        d = { s.dev with regs := d.regs, irqA := d.irqA, irqB := d.irqB }) ∧
  (∀ (s : State) (rank : Nat) (beat : Nat) (y : Nat), s.dev.calm = true → s.dev.domState 1 = 0 → s.dev.ddrIn = true →
    s.dev.on fDDR_CTL_SCRUB_EN = true → kget false s.dev.ddr.bad beat = false → s.dev.domOn 14 = true →
      Completes (.ddrPatrolRead rank beat (some (true, y))) s fun d =>
        (d.reg rDDR_ECC_UE_CNT).toNat = min ((s.dev.reg rDDR_ECC_UE_CNT).toNat + 1) (2 ^ 32 - 1) ∧
        d.on fDDR_ECC_LOG_VALID = true ∧
        d.ddr = { s.dev.ddr with bad := kset false s.dev.ddr.bad beat true } ∧
        d.hq = (s.dev.hqPush (s.dev.get fHQ_ROUTE_EVT_Q) 5 (eventRecord 0x1202 0 s.dev.ft64)).hq ∧
        (s.dev.on fDDR_ECC_LOG_VALID = false ∨ s.dev.on fDDR_ECC_LOG_UE = false → d.on fDDR_ECC_LOG_UE = true ∧ d.get fDDR_ECC_LOG_CLASS = 5 ∧ d.get fDDR_ECC_LOG_RANK = rank % 2 ∧ d.get fDDR_ECC_ADDR_ADDR = beat % 2 ^ 31) ∧
        s.dev.sameRegs d (rDDR_ECC_UE_CNT :: rDDR_ECC_LOG :: rDDR_ECC_ADDR :: s.dev.evtRegs) ∧
        d = { s.dev with regs := d.regs, ddr := d.ddr, hq := d.hq, rql := d.rql, cue := d.cue, poison := d.poison, integ := d.integ, irqA := d.irqA, irqB := d.irqB }) ∧
  (∀ (s : State) (rank : Nat) (beat : Nat) (y : Nat), s.dev.calm = true → s.dev.ddrIn = true →
    s.dev.on fDDR_CTL_SCRUB_EN = true → kget false s.dev.ddr.bad beat = false → s.dev.domOn 14 = true →
      Completes (.ddrPatrolRead rank beat (some (false, y))) s fun d =>
        (d.reg rDDR_ECC_CE_CNT).toNat = min ((s.dev.reg rDDR_ECC_CE_CNT).toNat + 1) (2 ^ 32 - 1) ∧
        d.on fDDR_ECC_LOG_VALID = true ∧
        s.dev.sameRegs d [rDDR_ECC_CE_CNT, rDDR_ECC_LOG, rDDR_ECC_ADDR] ∧
        d = { s.dev with regs := d.regs, irqA := d.irqA, irqB := d.irqB }) ∧
  (∀ (s : State), s.dev.calm = true → s.dev.on fDDR_CTL_EN = true → s.dev.domOn 14 = true → s.dev.selAct = true →
    s.dev.ddr.alerts.length < 15 →
      Completes (.ddrAlert) s fun d =>
        (d.reg rDDR_ALERT_CNT).toNat = min ((s.dev.reg rDDR_ALERT_CNT).toNat + 1) (2 ^ 32 - 1) ∧
        (d.ddr = { s.dev.ddr with alerts := s.dev.mono :: s.dev.ddr.alerts.filter fun t => decide (s.dev.mono - t < 1000000000 * 65536) }) ∧
        s.dev.sameRegs d [rDDR_ALERT_CNT] ∧
        d = { s.dev with regs := d.regs, ddr := d.ddr, irqA := d.irqA, irqB := d.irqB }) ∧
  (∀ (s : State), s.dev.calm = true → s.dev.on fDDR_CTL_EN = true → s.dev.domOn 14 = true → s.dev.selAct = true →
    s.dev.domState 1 = 0 → s.dev.ddrIn = true → s.dev.ddr.alerts.length = 15 →
    (∀ t ∈ s.dev.ddr.alerts, s.dev.mono - t < 1000000000 * 65536) → s.dev.on fDDR_STS_OUT = false →
      Completes (.ddrAlert) s fun d =>
        (d.reg rDDR_ALERT_CNT).toNat = min ((s.dev.reg rDDR_ALERT_CNT).toNat + 1) (2 ^ 32 - 1) ∧
        (d.reg rDDR_RETRAIN_CNT).toNat = min ((s.dev.reg rDDR_RETRAIN_CNT).toNat + 1) (2 ^ 32 - 1) ∧
        d.ddr.phase = 2 ∧
        d.ddr.alerts = [] ∧
        d.on fDDR_STS_IN_SERVICE = false ∧
        d.on fDDR_STS_OUT = true ∧
        d.hq = (s.dev.hqPush (s.dev.get fHQ_ROUTE_EVT_Q) 5 (eventRecord 0x1201 0 s.dev.ft64)).hq ∧
        (d.reg rDDR_WR_DROP_CNT).toNat = min ((s.dev.reg rDDR_WR_DROP_CNT).toNat + s.dev.ddr.posted.length) (2 ^ 32 - 1) ∧
        d.ddr.posted = [] ∧
        d.srx = (s.dev.ddr.posted.foldl Dev.dropSpan s.dev).srx ∧
        s.dev.sameRegs d (rDDR_ALERT_CNT :: rDDR_RETRAIN_CNT :: rDDR_WR_DROP_CNT :: rDDR_STS :: s.dev.evtRegs) ∧
        d = { s.dev with regs := d.regs, ddr := d.ddr, srx := d.srx, hq := d.hq, rql := d.rql, cue := d.cue, poison := d.poison, integ := d.integ, irqA := d.irqA, irqB := d.irqB }) ∧
  (∀ (s : State) (w : Posted) (t : List Posted) (i : Nat) (x : Int), s.dev.calm = true → s.dev.ddrIn = true →
    s.dev.ddr.posted = w :: t → w.items = [(i, x)] → w.region = 3 → w.mark = none →
    kget false s.dev.ddr.bad (s.dev.itemBeat 3 i) = false → s.dev.domOn 14 = true →
      Completes (.postedWriteDone) s fun d =>
        d.ddr = { s.dev.ddr with posted := t, ring := kset 0 s.dev.ddr.ring i x } ∧
        s.dev.sameRegs d [] ∧
        d = { s.dev with regs := d.regs, ddr := d.ddr, irqA := d.irqA, irqB := d.irqB }) ∧
  (∀ (s : State), s.dev.calm = true → (s.dev.ddr.posted = [] ∨ s.dev.ddrIn = false) → s.dev.domOn 14 = true →
      Completes (.postedWriteDone) s fun d =>
        s.dev.sameRegs d [] ∧
        d = { s.dev with regs := d.regs, irqA := d.irqA, irqB := d.irqB })

/-- CANCEL ends a pending swap before its boundary: SCENE returns to idle and the claim of a timed swap is released.
CANCEL during a crossfade, or with no swap pending, is a no-op. Neither form changes anything else. (R222) -/
def Obligations.CancelEndsAPendingSwap : Prop :=
  (∀ (s : State) (p : Port) (v : Word) (w : AnvSwap) (n : Fin 64), s.dev.calm = true → s.dev.takes p rANV_SCENE_CMD →
    s.dev.anv.swap = some w → w.tcmp = some n.val → s.dev.get (fTIME_TCMPnn_OWNER_OWNER n.val) = 0x80 →
      Completes (.sceneCancel p v) s fun d =>
        d.get fANV_STS_SCENE = 0 ∧
        d.anv = { s.dev.anv with swap := none } ∧
        d.get (fTIME_TCMPnn_OWNER_OWNER n.val) = 0 ∧
        (d.port p).code = 0 ∧
        s.dev.sameRegs d [rANV_SCENE_CMD, rANV_STS, rTIME_TCMPnn_OWNER n.val, rTIME_TCMPnn_CTL n.val, rTIME_TCMPnn_STS n.val] ∧
        d = { s.dev with regs := d.regs, ports := d.ports, anv := d.anv, time := d.time, irqA := d.irqA, irqB := d.irqB }) ∧
  (∀ (s : State) (p : Port) (v : Word) (w : AnvSwap), s.dev.calm = true → s.dev.takes p rANV_SCENE_CMD →
    s.dev.anv.swap = some w → w.tcmp = none →
      Completes (.sceneCancel p v) s fun d =>
        d.get fANV_STS_SCENE = 0 ∧
        d.anv = { s.dev.anv with swap := none } ∧
        (d.port p).code = 0 ∧
        s.dev.sameRegs d [rANV_SCENE_CMD, rANV_STS] ∧
        d = { s.dev with regs := d.regs, ports := d.ports, anv := d.anv, irqA := d.irqA, irqB := d.irqB }) ∧
  (∀ (s : State) (p : Port) (v : Word), s.dev.calm = true → s.dev.takes p rANV_SCENE_CMD → s.dev.anv.swap = none →
      Completes (.sceneCancel p v) s fun d =>
        d.reg rANV_STS = s.dev.reg rANV_STS ∧
        (d.port p).code = 0 ∧
        s.dev.sameRegs d [rANV_SCENE_CMD] ∧
        d = { s.dev with regs := d.regs, ports := d.ports, irqA := d.irqA, irqB := d.irqB })

/-- The accesses already made stand: the device is as the complete write words left it, or, of a read, the items begun and
the one after them, whose access is made as the item before begins. A write word that is not complete is discarded,
and a header that is not complete makes no access. GLB_SPI_ABORT_CNT counts the transaction, except when SPI_CS_N
rises during STATUS. (R423) -/
def Obligations.SpiAbortsKeepWhatWasMade : Prop :=
  (∀ (s : State) (m : Meets) (x : SpiXact) (k : Nat) (it : Nat) (b : Bool) (e : Dev), s.dev.calm = true →
    s.dev.domOn 1 = true → spiGood x.op = true → spiRead x.op = false → (5 ≤ k ∨ it ≠ 0) →
    e = (s.dev.spiWrites m x.op x.addr.toNat 0 (x.data.take (min ((k - 5) / 4) (x.count + 1))) {}).2 → e.calm = true →
      Completes (.spiAbort m x k it b) s fun d =>
        e.sameRegs d [rGLB_SPI_ABORT_CNT] ∧
        d = { e with regs := d.regs, ports := d.ports, irqA := d.irqA, irqB := d.irqB } ∧
        ((d.reg rGLB_SPI_ABORT_CNT).toNat = (if b then (e.reg rGLB_SPI_ABORT_CNT).toNat else min ((e.reg rGLB_SPI_ABORT_CNT).toNat + 1) (2 ^ 32 - 1)))) ∧
  (∀ (s : State) (m : Meets) (x : SpiXact) (k : Nat) (it : Nat) (b : Bool), s.dev.calm = true → s.dev.domOn 1 = true →
    spiGood x.op = true → spiRead x.op = false → k < 9 → it = 0 →
      Completes (.spiAbort m x k it b) s fun d =>
        s.dev.sameRegs d [rGLB_SPI_ABORT_CNT] ∧
        d = { s.dev with regs := d.regs, ports := d.ports, irqA := d.irqA, irqB := d.irqB } ∧
        ((d.reg rGLB_SPI_ABORT_CNT).toNat = (if b then (s.dev.reg rGLB_SPI_ABORT_CNT).toNat else min ((s.dev.reg rGLB_SPI_ABORT_CNT).toNat + 1) (2 ^ 32 - 1)))) ∧
  (∀ (s : State) (m : Meets) (x : SpiXact) (k : Nat) (it : Nat) (b : Bool) (e : Dev), s.dev.calm = true →
    s.dev.domOn 1 = true → spiGood x.op = true → spiRead x.op = true → (5 ≤ k ∨ it ≠ 0) →
    e = (s.dev.spiReads x.op x.addr.toNat (x.late.filter (· < it)) 0 (min (it + 1) (x.count + 1)) {}).2 → e.calm = true →
      Completes (.spiAbort m x k it b) s fun d =>
        e.sameRegs d [rGLB_SPI_ABORT_CNT] ∧
        d = { e with regs := d.regs, ports := d.ports, irqA := d.irqA, irqB := d.irqB } ∧
        ((d.reg rGLB_SPI_ABORT_CNT).toNat = (if b then (e.reg rGLB_SPI_ABORT_CNT).toNat else min ((e.reg rGLB_SPI_ABORT_CNT).toNat + 1) (2 ^ 32 - 1)))) ∧
  (∀ (s : State) (m : Meets) (x : SpiXact) (k : Nat) (it : Nat) (b : Bool) (e : Dev), s.dev.calm = true →
    s.dev.domOn 1 = true → spiGood x.op = false → (5 ≤ k ∨ it ≠ 0) → e = s.dev.busError .spi x.addr.toNat 7 →
    s.dev.calm = true →
      Completes (.spiAbort m x k it b) s fun d =>
        e.sameRegs d [rGLB_SPI_ABORT_CNT] ∧
        d = { e with regs := d.regs, ports := d.ports, irqA := d.irqA, irqB := d.irqB } ∧
        ((d.reg rGLB_SPI_ABORT_CNT).toNat = (if b then (e.reg rGLB_SPI_ABORT_CNT).toNat else min ((e.reg rGLB_SPI_ABORT_CNT).toNat + 1) (2 ^ 32 - 1)))) ∧
  (∀ (s : State) (m : Meets) (x : SpiXact) (k : Nat) (b : Bool), s.dev.calm = true → s.dev.domOn 1 = true → k < 5 →
      Completes (.spiAbort m x k 0 b) s fun d =>
        s.dev.sameRegs d [rGLB_SPI_ABORT_CNT] ∧
        d = { s.dev with regs := d.regs, ports := d.ports, irqA := d.irqA, irqB := d.irqB } ∧
        ((d.reg rGLB_SPI_ABORT_CNT).toNat = (if b then (s.dev.reg rGLB_SPI_ABORT_CNT).toNat else min ((s.dev.reg rGLB_SPI_ABORT_CNT).toNat + 1) (2 ^ 32 - 1))))

/-- On every TCLK edge of a running time base the 40-bit fraction and the addend's fraction add modulo 2^40, the
nanoseconds take the addend's whole nanoseconds and the carry, and at 1 000 000 000 ns they wrap and the seconds
advance modulo 2^48. The visible fraction is bits 39 to 24. The nominal addend is 0x0200_0000_0000. (R41) -/
def Obligations.TimeBaseAddsItsAddend : Prop :=
  (∀ (d : Dev) (sum ns : Nat), d.timeRuns = true → sum = d.time.frac.toNat + d.addend % 2 ^ 40 →
    ns = d.time.ns.toNat + d.addend / 2 ^ 40 + sum / 2 ^ 40 →
      d.tick.time.frac.toNat = sum % 2 ^ 40 ∧
      d.tick.time.ns.toNat = (if 1000000000 ≤ ns then ns - 1000000000 else ns) ∧
      d.tick.time.sec.toNat = (if 1000000000 ≤ ns then (d.time.sec.toNat + 1) % 2 ^ 48 else d.time.sec.toNat)) ∧
  (∀ d : Dev, d.regValue rTIME_NOW_FRAC = BitVec.ofNat 32 (d.time.frac.toNat / 2 ^ 24)) ∧
  State.reset.dev.addend = 0x020000000000

/-- For every port that reaches the arrays through the windows, an address from 0x40_0000 to 0x5F_FFFF names table memory
and one from 0x60_0000 to 0x7F_FFFF the Anvil store, each in the 2 MiB half that its page bit of GLB_WIN_PAGE selects.
(R21) -/
def Obligations.WindowsShowOneHalf : Prop :=
  ∀ (d : Dev) (p : Port) (a : Nat), (∀ n, p ≠ .rql n) →
    (0x400000 ≤ a → a ≤ 0x5FFFFF →
      d.place p a = .table (0x200000 * d.get fGLB_WIN_PAGE_TPAGE + (a - 0x400000)) ∧ d.get fGLB_WIN_PAGE_TPAGE < 2) ∧
    (0x600000 ≤ a → a ≤ 0x7FFFFF →
      d.place p a = .anvil (0x200000 * d.get fGLB_WIN_PAGE_APAGE + (a - 0x600000)) ∧ d.get fGLB_WIN_PAGE_APAGE < 2)

/-- A change that is accepted and has reached step 1 leaves the old state to a reset that follows; one that has reached
step 2, 3 or 4 leaves the new state with its WIPE_DONE bit clear. Power-on reset, RESET_N and the watchdog agree in
this. (R516) -/
def Obligations.ResetsDuringALifeCycleChange : Prop :=
  ∀ (s : State) (m : Meets) (p : Port) (v : Word) (c : Instr), s.dev.takes p rGLB_LC_CTL → s.dev.boot.changing = false →
    s.dev.boot.lc < fGLB_LC_CTL_TARGET.get v → (fGLB_LC_CTL_TARGET.get v ≠ 2 ∨ (List.range 3).any s.dev.keyValid = true) →
    1 ≤ m.reached → m.reached ≤ 4 → (c = .powerOnReset ∨ c = .resetNAssert ∨ (c = .wdogExpiry ∧ s.dev.on fGLB_WDOG_CFG_EN = true)) →
    ∃ t u, exec (.lcGo m p v) s = .next t ∧ exec c t = .next u ∧ u.pending = s.pending ∧
      (m.reached = 1 → u.dev.boot.lc = s.dev.boot.lc ∧ u.dev.wipeDone = s.dev.wipeDone) ∧
      (2 ≤ m.reached → u.dev.boot.lc = fGLB_LC_CTL_TARGET.get v ∧ u.dev.wipeDone = false)
end

