-- ==== Sys2Proof/Laws/Ecc.lean ====
section
/-! SUPPORT. What reading an array finds where no word of it holds an error: nothing (R520, R521). -/

namespace Sys2Proof.Machine

open Sys2Proof

theorem Dev.sound_parts {d : Dev} (h : d.sound = true) :
    d.poison = [] ∧ d.integ.dead = [] ∧ d.integ.inj = [] ∧ d.integ.weak = [] ∧ d.integ.stuck = [] := by
  simp only [Dev.sound, Bool.and_eq_true, List.isEmpty_iff] at h
  obtain ⟨⟨⟨⟨h1, h2⟩, h3⟩, h4⟩, h5⟩ := h
  exact ⟨h1, h2, h3, h4, h5⟩

theorem Dev.eccHits_sound {d : Dev} (h : d.sound = true) (array lo n : Nat) : d.eccHits array lo n = [] := by
  obtain ⟨h1, h2, h3, h4, h5⟩ := Dev.sound_parts h
  simp [Dev.eccHits, h1, h2, h3, h4, h5]

theorem Dev.eccReads_sound {d : Dev} (h : d.sound = true) (array lo n : Nat) : d.eccReads array lo n = d := by
  simp [Dev.eccReads, Dev.eccHits_sound h]

theorem Dev.tblReads_sound {d : Dev} (h : d.sound = true) (off n : Nat) : d.tblReads off n = d := Dev.eccReads_sound h ..

theorem Dev.tblBad_sound {d : Dev} (h : d.sound = true) (off n : Nat) : d.tblBad off n = false := by simp [Dev.tblBad, h]

theorem Dev.poisoned_sound {d : Dev} (h : d.sound = true) (array word : Nat) : d.poisoned array word = false := by
  obtain ⟨h1, h2, h3, -, -⟩ := Dev.sound_parts h
  simp [Dev.poisoned, h1, h2, h3, kget]

theorem Dev.gateReads_sound {d : Dev} (h : d.sound = true) (n i k : Nat) : d.gateReads n i k = (true, d) := by
  simp [Dev.gateReads, Dev.tblBad_sound h, Dev.tblReads_sound h]

end Sys2Proof.Machine
end

