-- ==== Sys2Proof/Laws/Maps.lean ====
section
/-! SUPPORT. Keyed maps and byte memories: a read after a write, and that every operation keeps the canonical form. -/

namespace Sys2Proof.Machine

open Sys2Proof

variable {α : Type}

theorem kget_kput_same (z : α) (m : KMap α) (i : Nat) (v : α) : kget z (kput m i v) i = v := by
  induction m with
  | nil => simp [kput, kget]
  | cons e t ih =>
    obtain ⟨k, w⟩ := e
    simp only [kput]
    split
    · simp [kget]
    · split
      · simp [kget]
      · simp [kget, *]

theorem kget_kput_ne (z : α) (m : KMap α) {i j : Nat} (v : α) (h : i ≠ j) : kget z (kput m i v) j = kget z m j := by
  induction m with
  | nil => simp [kput, kget, h.symm]
  | cons e t ih =>
    obtain ⟨k, w⟩ := e
    simp only [kput]
    split
    · simp [kget, h.symm]
    · split
      · subst_vars; simp [kget, h.symm]
      · simp [kget, ih]

theorem kget_filter_same (z : α) (m : KMap α) (i : Nat) : kget z (m.filter fun e => decide (e.1 ≠ i)) i = z := by
  induction m with
  | nil => rfl
  | cons e t ih =>
    obtain ⟨k, w⟩ := e
    by_cases h : k = i
    · simp only [ne_eq, h, not_true_eq_false, decide_false, Bool.false_eq_true, not_false_eq_true, List.filter_cons_of_neg]; exact ih
    · rw [List.filter_cons_of_pos (by simpa using h)]
      simpa [kget, Ne.symm h] using ih

theorem kget_filter_ne (z : α) (m : KMap α) {i j : Nat} (h : i ≠ j) :
    kget z (m.filter fun e => decide (e.1 ≠ i)) j = kget z m j := by
  induction m with
  | nil => rfl
  | cons e t ih =>
    obtain ⟨k, w⟩ := e
    by_cases hk : k = i
    · rw [List.filter_cons_of_neg (by simp [hk]), ih]
      simp [kget, hk, h.symm]
    · rw [List.filter_cons_of_pos (by simpa using hk)]
      simp only [kget, ih]

variable [DecidableEq α]

/-- A read of the key just written gives the value written. -/
@[simp] theorem kget_kset_same (z : α) (m : KMap α) (i : Nat) (v : α) : kget z (kset z m i v) i = v := by
  unfold kset
  split
  · subst_vars; exact kget_filter_same _ m i
  · exact kget_kput_same z m i v

/-- A read of any other key gives what it gave before. -/
theorem kget_kset_ne (z : α) (m : KMap α) {i j : Nat} (v : α) (h : i ≠ j) : kget z (kset z m i v) j = kget z m j := by
  unfold kset
  split
  · exact kget_filter_ne z m h
  · exact kget_kput_ne z m v h

theorem kget_kset (z : α) (m : KMap α) (i j : Nat) (v : α) : kget z (kset z m i v) j = if i = j then v else kget z m j := by
  split
  · subst_vars; simp
  · exact kget_kset_ne z m v (by assumption)

/-! ## The canonical form -/

theorem kwfFrom_weaken {z : α} {m : KMap α} {a b : Nat} (hab : a ≤ b) (h : kwfFrom z b m = true) : kwfFrom z a m = true := by
  cases m with
  | nil => rfl
  | cons e t =>
    obtain ⟨k, w⟩ := e
    simp only [kwfFrom, Bool.and_eq_true, decide_eq_true_eq] at h ⊢
    exact ⟨⟨le_trans hab h.1.1, h.1.2⟩, h.2⟩

theorem kwfFrom_kput {z : α} {m : KMap α} {b i : Nat} {v : α} (hb : b ≤ i) (hv : v ≠ z) (h : kwfFrom z b m = true) :
    kwfFrom z b (kput m i v) = true := by
  induction m generalizing b with
  | nil => simp [kput, kwfFrom, hb, hv]
  | cons e t ih =>
    obtain ⟨k, w⟩ := e
    simp only [kwfFrom, Bool.and_eq_true, decide_eq_true_eq] at h
    simp only [kput]
    split
    · rename_i hik
      simp only [kwfFrom, Bool.and_eq_true, decide_eq_true_eq]
      exact ⟨⟨hb, hv⟩, ⟨hik, h.1.2⟩, h.2⟩
    · split
      · subst_vars
        simp only [kwfFrom, Bool.and_eq_true, decide_eq_true_eq]
        exact ⟨⟨hb, hv⟩, h.2⟩
      · simp only [kwfFrom, Bool.and_eq_true, decide_eq_true_eq]
        exact ⟨h.1, ih (by omega) h.2⟩

theorem kwfFrom_filter {z : α} {m : KMap α} {b : Nat} (p : Nat × α → Bool) (h : kwfFrom z b m = true) :
    kwfFrom z b (m.filter p) = true := by
  induction m generalizing b with
  | nil => rfl
  | cons e t ih =>
    obtain ⟨k, w⟩ := e
    simp only [kwfFrom, Bool.and_eq_true, decide_eq_true_eq] at h
    rw [List.filter_cons]
    split
    · simp only [kwfFrom, Bool.and_eq_true, decide_eq_true_eq]
      exact ⟨h.1, ih h.2⟩
    · exact kwfFrom_weaken (by omega) (ih h.2)

/-- A write keeps the canonical form of a map. -/
theorem kset_wf {z : α} {m : KMap α} (i : Nat) (v : α) (h : kwf z m = true) : kwf z (kset z m i v) = true := by
  unfold kset
  split
  · exact kwfFrom_filter _ h
  · exact kwfFrom_kput (Nat.zero_le i) (by assumption) h

theorem filter_wf {z : α} {m : KMap α} (p : Nat × α → Bool) (h : kwf z m = true) : kwf z (m.filter p) = true := kwfFrom_filter p h

/-! ## Byte memories -/

theorem writeByte_wf {m : Memory} (a : Nat) (b : Byte) (h : Memory.wf m = true) : Memory.wf (writeByte m a b) = true := kset_wf a b h

theorem writeBytes_wf {m : Memory} (a : Nat) (l : List Byte) (h : Memory.wf m = true) : Memory.wf (writeBytes m a l) = true := by
  induction l generalizing m a with
  | nil => exact h
  | cons b t ih => exact ih _ (writeByte_wf a b h)

/-- A word write keeps the canonical form. -/
theorem writeWord64_wf {m : Memory} (a v : Nat) (h : Memory.wf m = true) : Memory.wf (writeWord64 m a v) = true := writeBytes_wf a _ h

theorem clearBytes_wf {m : Memory} (a n : Nat) (h : Memory.wf m = true) : Memory.wf (clearBytes m a n) = true := filter_wf _ h

theorem readByte_writeByte (m : Memory) (a c : Nat) (b : Byte) :
    readByte (writeByte m a b) c = if a = c then b else readByte m c := kget_kset 0 m a c b

/-- A byte outside the bytes written reads as before. -/
theorem readByte_writeBytes_out (m : Memory) (a c : Nat) (l : List Byte) (h : c < a ∨ a + l.length ≤ c) :
    readByte (writeBytes m a l) c = readByte m c := by
  induction l generalizing m a with
  | nil => rfl
  | cons b t ih =>
    simp only [List.length_cons] at h
    rw [writeBytes, ih _ _ (by omega), readByte_writeByte, if_neg (by omega)]

/-- A byte among those written reads as the byte written there. -/
theorem readByte_writeBytes_in (m : Memory) (a : Nat) (l : List Byte) (i : Nat) (h : i < l.length) :
    readByte (writeBytes m a l) (a + i) = l[i] := by
  induction l generalizing m a i with
  | nil => simp at h
  | cons b t ih =>
    cases i with
    | zero => rw [writeBytes, readByte_writeBytes_out _ _ _ _ (by omega), readByte_writeByte]; simp
    | succ i => simpa [writeBytes, Nat.add_assoc, Nat.add_comm 1 i] using ih (writeByte m a b) (a + 1) i (by simpa using h)

theorem readBytes_writeBytes (m : Memory) (a : Nat) (l : List Byte) : readBytes (writeBytes m a l) a l.length = l := by
  have key : ∀ (n i : Nat), i + n = l.length → readBytes (writeBytes m a l) (a + i) n = l.drop i := by
    intro n
    induction n with
    | zero => intro i h; simp [readBytes, List.drop_eq_nil_of_le (by omega : l.length ≤ i)]
    | succ n ih =>
      intro i h
      rw [readBytes, readByte_writeBytes_in _ _ _ _ (by omega), Nat.add_assoc, ih (i + 1) (by omega)]
      exact (List.drop_eq_getElem_cons (by omega)).symm
  simpa using key l.length 0 (by omega)

theorem readBytes_congr {m m' : Memory} {a n : Nat} (h : ∀ c, a ≤ c → c < a + n → readByte m c = readByte m' c) :
    readBytes m a n = readBytes m' a n := by
  induction n generalizing a with
  | zero => rfl
  | succ n ih =>
    simp only [readBytes]
    rw [h a (by omega) (by omega), ih (fun c h1 h2 => h c (by omega) (by omega))]

@[simp] theorem leBytes_length (n v : Nat) : (leBytes n v).length = n := by
  induction n generalizing v with
  | zero => rfl
  | succ n ih => simp [leBytes, ih]

theorem leNat_leBytes (n v : Nat) : leNat (leBytes n v) = v % 256 ^ n := by
  induction n generalizing v with
  | zero => simp [leBytes, leNat, Nat.mod_one]
  | succ n ih =>
    simp only [leBytes, leNat, ih, BitVec.toNat_ofNat, Nat.reducePow]
    rw [Nat.pow_succ', Nat.mod_mul]

/-- A word read where it was written is the word written. -/
theorem readWord64_writeWord64 (m : Memory) (a v : Nat) : readWord64 (writeWord64 m a v) a = v % 2 ^ 64 := by
  unfold readWord64 writeWord64
  have h := readBytes_writeBytes m a (leBytes 8 v)
  rw [leBytes_length] at h
  rw [h, leNat_leBytes]
  norm_num

/-- A word apart from the one written reads as before. -/
theorem readWord64_writeWord64_out (m : Memory) (a b v : Nat) (h : b + 8 ≤ a ∨ a + 8 ≤ b) :
    readWord64 (writeWord64 m a v) b = readWord64 m b := by
  unfold readWord64 writeWord64
  exact congrArg leNat (readBytes_congr fun c h1 h2 => readByte_writeBytes_out m a c _ (by rw [leBytes_length]; omega))

end Sys2Proof.Machine
end

