-- ==== Sys2Proof/Laws/State.lean ====
section
/-! SUPPORT. What each update of the device leaves as it was: one lemma for each field of the device and each update. -/

namespace Sys2Proof.Machine

open Sys2Proof

variable (d : Dev)

@[simp] theorem Dev.setReg_ports (a : Nat) (w : Word) : (d.setReg a w).ports = d.ports := rfl
@[simp] theorem Dev.setReg_ign (a : Nat) (w : Word) : (d.setReg a w).ign = d.ign := rfl
@[simp] theorem Dev.setReg_mbx (a : Nat) (w : Word) : (d.setReg a w).mbx = d.mbx := rfl
@[simp] theorem Dev.setReg_clk (a : Nat) (w : Word) : (d.setReg a w).clk = d.clk := rfl
@[simp] theorem Dev.setReg_ticks (a : Nat) (w : Word) : (d.setReg a w).ticks = d.ticks := rfl
@[simp] theorem Dev.setReg_xing (a : Nat) (w : Word) : (d.setReg a w).xing = d.xing := rfl
@[simp] theorem Dev.setReg_time (a : Nat) (w : Word) : (d.setReg a w).time = d.time := rfl
@[simp] theorem Dev.setReg_hq (a : Nat) (w : Word) : (d.setReg a w).hq = d.hq := rfl
@[simp] theorem Dev.setReg_ptp (a : Nat) (w : Word) : (d.setReg a w).ptp = d.ptp := rfl
@[simp] theorem Dev.setReg_mcg (a : Nat) (w : Word) : (d.setReg a w).mcg = d.mcg := rfl
@[simp] theorem Dev.setReg_net (a : Nat) (w : Word) : (d.setReg a w).net = d.net := rfl
@[simp] theorem Dev.setReg_nextFrame (a : Nat) (w : Word) : (d.setReg a w).nextFrame = d.nextFrame := rfl
@[simp] theorem Dev.setReg_handed (a : Nat) (w : Word) : (d.setReg a w).handed = d.handed := rfl
@[simp] theorem Dev.setReg_snap (a : Nat) (w : Word) : (d.setReg a w).snap = d.snap := rfl
@[simp] theorem Dev.setReg_snapHeld (a : Nat) (w : Word) : (d.setReg a w).snapHeld = d.snapHeld := rfl
@[simp] theorem Dev.setReg_mdio (a : Nat) (w : Word) : (d.setReg a w).mdio = d.mdio := rfl
@[simp] theorem Dev.setReg_mio (a : Nat) (w : Word) : (d.setReg a w).mio = d.mio := rfl
@[simp] theorem Dev.setReg_stx (a : Nat) (w : Word) : (d.setReg a w).stx = d.stx := rfl
@[simp] theorem Dev.setReg_srx (a : Nat) (w : Word) : (d.setReg a w).srx = d.srx := rfl
@[simp] theorem Dev.setReg_stxOrder (a : Nat) (w : Word) : (d.setReg a w).stxOrder = d.stxOrder := rfl
@[simp] theorem Dev.setReg_srxOrder (a : Nat) (w : Word) : (d.setReg a w).srxOrder = d.srxOrder := rfl
@[simp] theorem Dev.setReg_stxNow (a : Nat) (w : Word) : (d.setReg a w).stxNow = d.stxNow := rfl
@[simp] theorem Dev.setReg_srxNow (a : Nat) (w : Word) : (d.setReg a w).srxNow = d.srxNow := rfl
@[simp] theorem Dev.setReg_stxHeld (a : Nat) (w : Word) : (d.setReg a w).stxHeld = d.stxHeld := rfl
@[simp] theorem Dev.setReg_srxHeld (a : Nat) (w : Word) : (d.setReg a w).srxHeld = d.srxHeld := rfl
@[simp] theorem Dev.setReg_rings (a : Nat) (w : Word) : (d.setReg a w).rings = d.rings := rfl
@[simp] theorem Dev.setReg_sap (a : Nat) (w : Word) : (d.setReg a w).sap = d.sap := rfl
@[simp] theorem Dev.setReg_ddr (a : Nat) (w : Word) : (d.setReg a w).ddr = d.ddr := rfl
@[simp] theorem Dev.setReg_anv (a : Nat) (w : Word) : (d.setReg a w).anv = d.anv := rfl
@[simp] theorem Dev.setReg_store (a : Nat) (w : Word) : (d.setReg a w).store = d.store := rfl
@[simp] theorem Dev.setReg_cue (a : Nat) (w : Word) : (d.setReg a w).cue = d.cue := rfl
@[simp] theorem Dev.setReg_cueIn (a : Nat) (w : Word) : (d.setReg a w).cueIn = d.cueIn := rfl
@[simp] theorem Dev.setReg_t1s (a : Nat) (w : Word) : (d.setReg a w).t1s = d.t1s := rfl
@[simp] theorem Dev.setReg_halo (a : Nat) (w : Word) : (d.setReg a w).halo = d.halo := rfl
@[simp] theorem Dev.setReg_pwr (a : Nat) (w : Word) : (d.setReg a w).pwr = d.pwr := rfl
@[simp] theorem Dev.setReg_rql (a : Nat) (w : Word) : (d.setReg a w).rql = d.rql := rfl
@[simp] theorem Dev.setReg_wipeDone (a : Nat) (w : Word) : (d.setReg a w).wipeDone = d.wipeDone := rfl
@[simp] theorem Dev.setReg_boot (a : Nat) (w : Word) : (d.setReg a w).boot = d.boot := rfl
@[simp] theorem Dev.setReg_nvm (a : Nat) (w : Word) : (d.setReg a w).nvm = d.nvm := rfl
@[simp] theorem Dev.setReg_poison (a : Nat) (w : Word) : (d.setReg a w).poison = d.poison := rfl
@[simp] theorem Dev.setReg_lanesRec (a : Nat) (w : Word) : (d.setReg a w).lanesRec = d.lanesRec := rfl
@[simp] theorem Dev.setReg_wbPend (a : Nat) (w : Word) : (d.setReg a w).wbPend = d.wbPend := rfl
@[simp] theorem Dev.setReg_integ (a : Nat) (w : Word) : (d.setReg a w).integ = d.integ := rfl
@[simp] theorem Dev.setReg_pin (a : Nat) (w : Word) : (d.setReg a w).pin = d.pin := rfl
@[simp] theorem Dev.setReg_jtag (a : Nat) (w : Word) : (d.setReg a w).jtag = d.jtag := rfl
@[simp] theorem Dev.setReg_tbl (a : Nat) (w : Word) : (d.setReg a w).tbl = d.tbl := rfl
@[simp] theorem Dev.setReg_irqA (a : Nat) (w : Word) : (d.setReg a w).irqA = d.irqA := rfl
@[simp] theorem Dev.setReg_irqB (a : Nat) (w : Word) : (d.setReg a w).irqB = d.irqB := rfl
@[simp] theorem Dev.setReg_free (a : Nat) (w : Word) : (d.setReg a w).free = d.free := rfl

@[simp] theorem Dev.setPort_regs (p : Port) (x : PortSt) : (d.setPort p x).regs = d.regs := rfl
@[simp] theorem Dev.setPort_ign (p : Port) (x : PortSt) : (d.setPort p x).ign = d.ign := rfl
@[simp] theorem Dev.setPort_mbx (p : Port) (x : PortSt) : (d.setPort p x).mbx = d.mbx := rfl
@[simp] theorem Dev.setPort_clk (p : Port) (x : PortSt) : (d.setPort p x).clk = d.clk := rfl
@[simp] theorem Dev.setPort_ticks (p : Port) (x : PortSt) : (d.setPort p x).ticks = d.ticks := rfl
@[simp] theorem Dev.setPort_xing (p : Port) (x : PortSt) : (d.setPort p x).xing = d.xing := rfl
@[simp] theorem Dev.setPort_time (p : Port) (x : PortSt) : (d.setPort p x).time = d.time := rfl
@[simp] theorem Dev.setPort_hq (p : Port) (x : PortSt) : (d.setPort p x).hq = d.hq := rfl
@[simp] theorem Dev.setPort_ptp (p : Port) (x : PortSt) : (d.setPort p x).ptp = d.ptp := rfl
@[simp] theorem Dev.setPort_mcg (p : Port) (x : PortSt) : (d.setPort p x).mcg = d.mcg := rfl
@[simp] theorem Dev.setPort_net (p : Port) (x : PortSt) : (d.setPort p x).net = d.net := rfl
@[simp] theorem Dev.setPort_nextFrame (p : Port) (x : PortSt) : (d.setPort p x).nextFrame = d.nextFrame := rfl
@[simp] theorem Dev.setPort_handed (p : Port) (x : PortSt) : (d.setPort p x).handed = d.handed := rfl
@[simp] theorem Dev.setPort_snap (p : Port) (x : PortSt) : (d.setPort p x).snap = d.snap := rfl
@[simp] theorem Dev.setPort_snapHeld (p : Port) (x : PortSt) : (d.setPort p x).snapHeld = d.snapHeld := rfl
@[simp] theorem Dev.setPort_mdio (p : Port) (x : PortSt) : (d.setPort p x).mdio = d.mdio := rfl
@[simp] theorem Dev.setPort_mio (p : Port) (x : PortSt) : (d.setPort p x).mio = d.mio := rfl
@[simp] theorem Dev.setPort_stx (p : Port) (x : PortSt) : (d.setPort p x).stx = d.stx := rfl
@[simp] theorem Dev.setPort_srx (p : Port) (x : PortSt) : (d.setPort p x).srx = d.srx := rfl
@[simp] theorem Dev.setPort_stxOrder (p : Port) (x : PortSt) : (d.setPort p x).stxOrder = d.stxOrder := rfl
@[simp] theorem Dev.setPort_srxOrder (p : Port) (x : PortSt) : (d.setPort p x).srxOrder = d.srxOrder := rfl
@[simp] theorem Dev.setPort_stxNow (p : Port) (x : PortSt) : (d.setPort p x).stxNow = d.stxNow := rfl
@[simp] theorem Dev.setPort_srxNow (p : Port) (x : PortSt) : (d.setPort p x).srxNow = d.srxNow := rfl
@[simp] theorem Dev.setPort_stxHeld (p : Port) (x : PortSt) : (d.setPort p x).stxHeld = d.stxHeld := rfl
@[simp] theorem Dev.setPort_srxHeld (p : Port) (x : PortSt) : (d.setPort p x).srxHeld = d.srxHeld := rfl
@[simp] theorem Dev.setPort_rings (p : Port) (x : PortSt) : (d.setPort p x).rings = d.rings := rfl
@[simp] theorem Dev.setPort_sap (p : Port) (x : PortSt) : (d.setPort p x).sap = d.sap := rfl
@[simp] theorem Dev.setPort_ddr (p : Port) (x : PortSt) : (d.setPort p x).ddr = d.ddr := rfl
@[simp] theorem Dev.setPort_anv (p : Port) (x : PortSt) : (d.setPort p x).anv = d.anv := rfl
@[simp] theorem Dev.setPort_store (p : Port) (x : PortSt) : (d.setPort p x).store = d.store := rfl
@[simp] theorem Dev.setPort_cue (p : Port) (x : PortSt) : (d.setPort p x).cue = d.cue := rfl
@[simp] theorem Dev.setPort_cueIn (p : Port) (x : PortSt) : (d.setPort p x).cueIn = d.cueIn := rfl
@[simp] theorem Dev.setPort_t1s (p : Port) (x : PortSt) : (d.setPort p x).t1s = d.t1s := rfl
@[simp] theorem Dev.setPort_halo (p : Port) (x : PortSt) : (d.setPort p x).halo = d.halo := rfl
@[simp] theorem Dev.setPort_pwr (p : Port) (x : PortSt) : (d.setPort p x).pwr = d.pwr := rfl
@[simp] theorem Dev.setPort_rql (p : Port) (x : PortSt) : (d.setPort p x).rql = d.rql := rfl
@[simp] theorem Dev.setPort_wipeDone (p : Port) (x : PortSt) : (d.setPort p x).wipeDone = d.wipeDone := rfl
@[simp] theorem Dev.setPort_boot (p : Port) (x : PortSt) : (d.setPort p x).boot = d.boot := rfl
@[simp] theorem Dev.setPort_nvm (p : Port) (x : PortSt) : (d.setPort p x).nvm = d.nvm := rfl
@[simp] theorem Dev.setPort_poison (p : Port) (x : PortSt) : (d.setPort p x).poison = d.poison := rfl
@[simp] theorem Dev.setPort_lanesRec (p : Port) (x : PortSt) : (d.setPort p x).lanesRec = d.lanesRec := rfl
@[simp] theorem Dev.setPort_wbPend (p : Port) (x : PortSt) : (d.setPort p x).wbPend = d.wbPend := rfl
@[simp] theorem Dev.setPort_integ (p : Port) (x : PortSt) : (d.setPort p x).integ = d.integ := rfl
@[simp] theorem Dev.setPort_pin (p : Port) (x : PortSt) : (d.setPort p x).pin = d.pin := rfl
@[simp] theorem Dev.setPort_jtag (p : Port) (x : PortSt) : (d.setPort p x).jtag = d.jtag := rfl
@[simp] theorem Dev.setPort_tbl (p : Port) (x : PortSt) : (d.setPort p x).tbl = d.tbl := rfl
@[simp] theorem Dev.setPort_irqA (p : Port) (x : PortSt) : (d.setPort p x).irqA = d.irqA := rfl
@[simp] theorem Dev.setPort_irqB (p : Port) (x : PortSt) : (d.setPort p x).irqB = d.irqB := rfl
@[simp] theorem Dev.setPort_free (p : Port) (x : PortSt) : (d.setPort p x).free = d.free := rfl
@[simp] theorem Dev.setPort_reg (p : Port) (x : PortSt) (r : Nat) : (d.setPort p x).reg r = d.reg r := rfl
@[simp] theorem Dev.setPort_get (p : Port) (x : PortSt) (f : Fld) : (d.setPort p x).get f = d.get f := rfl
@[simp] theorem Dev.setPort_on (p : Port) (x : PortSt) (f : Fld) : (d.setPort p x).on f = d.on f := rfl

@[simp] theorem Dev.setMcg_regs (n : Nat) (x : McgSt) : (d.setMcg n x).regs = d.regs := rfl
@[simp] theorem Dev.setMcg_ports (n : Nat) (x : McgSt) : (d.setMcg n x).ports = d.ports := rfl
@[simp] theorem Dev.setMcg_ign (n : Nat) (x : McgSt) : (d.setMcg n x).ign = d.ign := rfl
@[simp] theorem Dev.setMcg_mbx (n : Nat) (x : McgSt) : (d.setMcg n x).mbx = d.mbx := rfl
@[simp] theorem Dev.setMcg_clk (n : Nat) (x : McgSt) : (d.setMcg n x).clk = d.clk := rfl
@[simp] theorem Dev.setMcg_ticks (n : Nat) (x : McgSt) : (d.setMcg n x).ticks = d.ticks := rfl
@[simp] theorem Dev.setMcg_xing (n : Nat) (x : McgSt) : (d.setMcg n x).xing = d.xing := rfl
@[simp] theorem Dev.setMcg_time (n : Nat) (x : McgSt) : (d.setMcg n x).time = d.time := rfl
@[simp] theorem Dev.setMcg_hq (n : Nat) (x : McgSt) : (d.setMcg n x).hq = d.hq := rfl
@[simp] theorem Dev.setMcg_ptp (n : Nat) (x : McgSt) : (d.setMcg n x).ptp = d.ptp := rfl
@[simp] theorem Dev.setMcg_net (n : Nat) (x : McgSt) : (d.setMcg n x).net = d.net := rfl
@[simp] theorem Dev.setMcg_nextFrame (n : Nat) (x : McgSt) : (d.setMcg n x).nextFrame = d.nextFrame := rfl
@[simp] theorem Dev.setMcg_handed (n : Nat) (x : McgSt) : (d.setMcg n x).handed = d.handed := rfl
@[simp] theorem Dev.setMcg_snap (n : Nat) (x : McgSt) : (d.setMcg n x).snap = d.snap := rfl
@[simp] theorem Dev.setMcg_snapHeld (n : Nat) (x : McgSt) : (d.setMcg n x).snapHeld = d.snapHeld := rfl
@[simp] theorem Dev.setMcg_mdio (n : Nat) (x : McgSt) : (d.setMcg n x).mdio = d.mdio := rfl
@[simp] theorem Dev.setMcg_mio (n : Nat) (x : McgSt) : (d.setMcg n x).mio = d.mio := rfl
@[simp] theorem Dev.setMcg_stx (n : Nat) (x : McgSt) : (d.setMcg n x).stx = d.stx := rfl
@[simp] theorem Dev.setMcg_srx (n : Nat) (x : McgSt) : (d.setMcg n x).srx = d.srx := rfl
@[simp] theorem Dev.setMcg_stxOrder (n : Nat) (x : McgSt) : (d.setMcg n x).stxOrder = d.stxOrder := rfl
@[simp] theorem Dev.setMcg_srxOrder (n : Nat) (x : McgSt) : (d.setMcg n x).srxOrder = d.srxOrder := rfl
@[simp] theorem Dev.setMcg_stxNow (n : Nat) (x : McgSt) : (d.setMcg n x).stxNow = d.stxNow := rfl
@[simp] theorem Dev.setMcg_srxNow (n : Nat) (x : McgSt) : (d.setMcg n x).srxNow = d.srxNow := rfl
@[simp] theorem Dev.setMcg_stxHeld (n : Nat) (x : McgSt) : (d.setMcg n x).stxHeld = d.stxHeld := rfl
@[simp] theorem Dev.setMcg_srxHeld (n : Nat) (x : McgSt) : (d.setMcg n x).srxHeld = d.srxHeld := rfl
@[simp] theorem Dev.setMcg_rings (n : Nat) (x : McgSt) : (d.setMcg n x).rings = d.rings := rfl
@[simp] theorem Dev.setMcg_sap (n : Nat) (x : McgSt) : (d.setMcg n x).sap = d.sap := rfl
@[simp] theorem Dev.setMcg_ddr (n : Nat) (x : McgSt) : (d.setMcg n x).ddr = d.ddr := rfl
@[simp] theorem Dev.setMcg_anv (n : Nat) (x : McgSt) : (d.setMcg n x).anv = d.anv := rfl
@[simp] theorem Dev.setMcg_store (n : Nat) (x : McgSt) : (d.setMcg n x).store = d.store := rfl
@[simp] theorem Dev.setMcg_cue (n : Nat) (x : McgSt) : (d.setMcg n x).cue = d.cue := rfl
@[simp] theorem Dev.setMcg_cueIn (n : Nat) (x : McgSt) : (d.setMcg n x).cueIn = d.cueIn := rfl
@[simp] theorem Dev.setMcg_t1s (n : Nat) (x : McgSt) : (d.setMcg n x).t1s = d.t1s := rfl
@[simp] theorem Dev.setMcg_halo (n : Nat) (x : McgSt) : (d.setMcg n x).halo = d.halo := rfl
@[simp] theorem Dev.setMcg_pwr (n : Nat) (x : McgSt) : (d.setMcg n x).pwr = d.pwr := rfl
@[simp] theorem Dev.setMcg_rql (n : Nat) (x : McgSt) : (d.setMcg n x).rql = d.rql := rfl
@[simp] theorem Dev.setMcg_wipeDone (n : Nat) (x : McgSt) : (d.setMcg n x).wipeDone = d.wipeDone := rfl
@[simp] theorem Dev.setMcg_boot (n : Nat) (x : McgSt) : (d.setMcg n x).boot = d.boot := rfl
@[simp] theorem Dev.setMcg_nvm (n : Nat) (x : McgSt) : (d.setMcg n x).nvm = d.nvm := rfl
@[simp] theorem Dev.setMcg_poison (n : Nat) (x : McgSt) : (d.setMcg n x).poison = d.poison := rfl
@[simp] theorem Dev.setMcg_lanesRec (n : Nat) (x : McgSt) : (d.setMcg n x).lanesRec = d.lanesRec := rfl
@[simp] theorem Dev.setMcg_wbPend (n : Nat) (x : McgSt) : (d.setMcg n x).wbPend = d.wbPend := rfl
@[simp] theorem Dev.setMcg_integ (n : Nat) (x : McgSt) : (d.setMcg n x).integ = d.integ := rfl
@[simp] theorem Dev.setMcg_pin (n : Nat) (x : McgSt) : (d.setMcg n x).pin = d.pin := rfl
@[simp] theorem Dev.setMcg_jtag (n : Nat) (x : McgSt) : (d.setMcg n x).jtag = d.jtag := rfl
@[simp] theorem Dev.setMcg_tbl (n : Nat) (x : McgSt) : (d.setMcg n x).tbl = d.tbl := rfl
@[simp] theorem Dev.setMcg_irqA (n : Nat) (x : McgSt) : (d.setMcg n x).irqA = d.irqA := rfl
@[simp] theorem Dev.setMcg_irqB (n : Nat) (x : McgSt) : (d.setMcg n x).irqB = d.irqB := rfl
@[simp] theorem Dev.setMcg_free (n : Nat) (x : McgSt) : (d.setMcg n x).free = d.free := rfl
@[simp] theorem Dev.setMcg_reg (n : Nat) (x : McgSt) (r : Nat) : (d.setMcg n x).reg r = d.reg r := rfl
@[simp] theorem Dev.setMcg_get (n : Nat) (x : McgSt) (f : Fld) : (d.setMcg n x).get f = d.get f := rfl
@[simp] theorem Dev.setMcg_on (n : Nat) (x : McgSt) (f : Fld) : (d.setMcg n x).on f = d.on f := rfl

@[simp] theorem Dev.setHq_regs (q : Nat) (x : Hq) : (d.setHq q x).regs = d.regs := rfl
@[simp] theorem Dev.setHq_ports (q : Nat) (x : Hq) : (d.setHq q x).ports = d.ports := rfl
@[simp] theorem Dev.setHq_ign (q : Nat) (x : Hq) : (d.setHq q x).ign = d.ign := rfl
@[simp] theorem Dev.setHq_mbx (q : Nat) (x : Hq) : (d.setHq q x).mbx = d.mbx := rfl
@[simp] theorem Dev.setHq_clk (q : Nat) (x : Hq) : (d.setHq q x).clk = d.clk := rfl
@[simp] theorem Dev.setHq_ticks (q : Nat) (x : Hq) : (d.setHq q x).ticks = d.ticks := rfl
@[simp] theorem Dev.setHq_xing (q : Nat) (x : Hq) : (d.setHq q x).xing = d.xing := rfl
@[simp] theorem Dev.setHq_time (q : Nat) (x : Hq) : (d.setHq q x).time = d.time := rfl
@[simp] theorem Dev.setHq_ptp (q : Nat) (x : Hq) : (d.setHq q x).ptp = d.ptp := rfl
@[simp] theorem Dev.setHq_mcg (q : Nat) (x : Hq) : (d.setHq q x).mcg = d.mcg := rfl
@[simp] theorem Dev.setHq_net (q : Nat) (x : Hq) : (d.setHq q x).net = d.net := rfl
@[simp] theorem Dev.setHq_nextFrame (q : Nat) (x : Hq) : (d.setHq q x).nextFrame = d.nextFrame := rfl
@[simp] theorem Dev.setHq_handed (q : Nat) (x : Hq) : (d.setHq q x).handed = d.handed := rfl
@[simp] theorem Dev.setHq_snap (q : Nat) (x : Hq) : (d.setHq q x).snap = d.snap := rfl
@[simp] theorem Dev.setHq_snapHeld (q : Nat) (x : Hq) : (d.setHq q x).snapHeld = d.snapHeld := rfl
@[simp] theorem Dev.setHq_mdio (q : Nat) (x : Hq) : (d.setHq q x).mdio = d.mdio := rfl
@[simp] theorem Dev.setHq_mio (q : Nat) (x : Hq) : (d.setHq q x).mio = d.mio := rfl
@[simp] theorem Dev.setHq_stx (q : Nat) (x : Hq) : (d.setHq q x).stx = d.stx := rfl
@[simp] theorem Dev.setHq_srx (q : Nat) (x : Hq) : (d.setHq q x).srx = d.srx := rfl
@[simp] theorem Dev.setHq_stxOrder (q : Nat) (x : Hq) : (d.setHq q x).stxOrder = d.stxOrder := rfl
@[simp] theorem Dev.setHq_srxOrder (q : Nat) (x : Hq) : (d.setHq q x).srxOrder = d.srxOrder := rfl
@[simp] theorem Dev.setHq_stxNow (q : Nat) (x : Hq) : (d.setHq q x).stxNow = d.stxNow := rfl
@[simp] theorem Dev.setHq_srxNow (q : Nat) (x : Hq) : (d.setHq q x).srxNow = d.srxNow := rfl
@[simp] theorem Dev.setHq_stxHeld (q : Nat) (x : Hq) : (d.setHq q x).stxHeld = d.stxHeld := rfl
@[simp] theorem Dev.setHq_srxHeld (q : Nat) (x : Hq) : (d.setHq q x).srxHeld = d.srxHeld := rfl
@[simp] theorem Dev.setHq_rings (q : Nat) (x : Hq) : (d.setHq q x).rings = d.rings := rfl
@[simp] theorem Dev.setHq_sap (q : Nat) (x : Hq) : (d.setHq q x).sap = d.sap := rfl
@[simp] theorem Dev.setHq_ddr (q : Nat) (x : Hq) : (d.setHq q x).ddr = d.ddr := rfl
@[simp] theorem Dev.setHq_anv (q : Nat) (x : Hq) : (d.setHq q x).anv = d.anv := rfl
@[simp] theorem Dev.setHq_store (q : Nat) (x : Hq) : (d.setHq q x).store = d.store := rfl
@[simp] theorem Dev.setHq_cue (q : Nat) (x : Hq) : (d.setHq q x).cue = d.cue := rfl
@[simp] theorem Dev.setHq_cueIn (q : Nat) (x : Hq) : (d.setHq q x).cueIn = d.cueIn := rfl
@[simp] theorem Dev.setHq_t1s (q : Nat) (x : Hq) : (d.setHq q x).t1s = d.t1s := rfl
@[simp] theorem Dev.setHq_halo (q : Nat) (x : Hq) : (d.setHq q x).halo = d.halo := rfl
@[simp] theorem Dev.setHq_pwr (q : Nat) (x : Hq) : (d.setHq q x).pwr = d.pwr := rfl
@[simp] theorem Dev.setHq_rql (q : Nat) (x : Hq) : (d.setHq q x).rql = d.rql := rfl
@[simp] theorem Dev.setHq_wipeDone (q : Nat) (x : Hq) : (d.setHq q x).wipeDone = d.wipeDone := rfl
@[simp] theorem Dev.setHq_boot (q : Nat) (x : Hq) : (d.setHq q x).boot = d.boot := rfl
@[simp] theorem Dev.setHq_nvm (q : Nat) (x : Hq) : (d.setHq q x).nvm = d.nvm := rfl
@[simp] theorem Dev.setHq_poison (q : Nat) (x : Hq) : (d.setHq q x).poison = d.poison := rfl
@[simp] theorem Dev.setHq_lanesRec (q : Nat) (x : Hq) : (d.setHq q x).lanesRec = d.lanesRec := rfl
@[simp] theorem Dev.setHq_wbPend (q : Nat) (x : Hq) : (d.setHq q x).wbPend = d.wbPend := rfl
@[simp] theorem Dev.setHq_integ (q : Nat) (x : Hq) : (d.setHq q x).integ = d.integ := rfl
@[simp] theorem Dev.setHq_pin (q : Nat) (x : Hq) : (d.setHq q x).pin = d.pin := rfl
@[simp] theorem Dev.setHq_jtag (q : Nat) (x : Hq) : (d.setHq q x).jtag = d.jtag := rfl
@[simp] theorem Dev.setHq_tbl (q : Nat) (x : Hq) : (d.setHq q x).tbl = d.tbl := rfl
@[simp] theorem Dev.setHq_irqA (q : Nat) (x : Hq) : (d.setHq q x).irqA = d.irqA := rfl
@[simp] theorem Dev.setHq_irqB (q : Nat) (x : Hq) : (d.setHq q x).irqB = d.irqB := rfl
@[simp] theorem Dev.setHq_free (q : Nat) (x : Hq) : (d.setHq q x).free = d.free := rfl
@[simp] theorem Dev.setHq_reg (q : Nat) (x : Hq) (r : Nat) : (d.setHq q x).reg r = d.reg r := rfl
@[simp] theorem Dev.setHq_get (q : Nat) (x : Hq) (f : Fld) : (d.setHq q x).get f = d.get f := rfl
@[simp] theorem Dev.setHq_on (q : Nat) (x : Hq) (f : Fld) : (d.setHq q x).on f = d.on f := rfl

@[simp] theorem Dev.setRql_regs (n : Nat) (x : RqlSt) : (d.setRql n x).regs = d.regs := rfl
@[simp] theorem Dev.setRql_ports (n : Nat) (x : RqlSt) : (d.setRql n x).ports = d.ports := rfl
@[simp] theorem Dev.setRql_ign (n : Nat) (x : RqlSt) : (d.setRql n x).ign = d.ign := rfl
@[simp] theorem Dev.setRql_mbx (n : Nat) (x : RqlSt) : (d.setRql n x).mbx = d.mbx := rfl
@[simp] theorem Dev.setRql_clk (n : Nat) (x : RqlSt) : (d.setRql n x).clk = d.clk := rfl
@[simp] theorem Dev.setRql_ticks (n : Nat) (x : RqlSt) : (d.setRql n x).ticks = d.ticks := rfl
@[simp] theorem Dev.setRql_xing (n : Nat) (x : RqlSt) : (d.setRql n x).xing = d.xing := rfl
@[simp] theorem Dev.setRql_time (n : Nat) (x : RqlSt) : (d.setRql n x).time = d.time := rfl
@[simp] theorem Dev.setRql_hq (n : Nat) (x : RqlSt) : (d.setRql n x).hq = d.hq := rfl
@[simp] theorem Dev.setRql_ptp (n : Nat) (x : RqlSt) : (d.setRql n x).ptp = d.ptp := rfl
@[simp] theorem Dev.setRql_mcg (n : Nat) (x : RqlSt) : (d.setRql n x).mcg = d.mcg := rfl
@[simp] theorem Dev.setRql_net (n : Nat) (x : RqlSt) : (d.setRql n x).net = d.net := rfl
@[simp] theorem Dev.setRql_nextFrame (n : Nat) (x : RqlSt) : (d.setRql n x).nextFrame = d.nextFrame := rfl
@[simp] theorem Dev.setRql_handed (n : Nat) (x : RqlSt) : (d.setRql n x).handed = d.handed := rfl
@[simp] theorem Dev.setRql_snap (n : Nat) (x : RqlSt) : (d.setRql n x).snap = d.snap := rfl
@[simp] theorem Dev.setRql_snapHeld (n : Nat) (x : RqlSt) : (d.setRql n x).snapHeld = d.snapHeld := rfl
@[simp] theorem Dev.setRql_mdio (n : Nat) (x : RqlSt) : (d.setRql n x).mdio = d.mdio := rfl
@[simp] theorem Dev.setRql_mio (n : Nat) (x : RqlSt) : (d.setRql n x).mio = d.mio := rfl
@[simp] theorem Dev.setRql_stx (n : Nat) (x : RqlSt) : (d.setRql n x).stx = d.stx := rfl
@[simp] theorem Dev.setRql_srx (n : Nat) (x : RqlSt) : (d.setRql n x).srx = d.srx := rfl
@[simp] theorem Dev.setRql_stxOrder (n : Nat) (x : RqlSt) : (d.setRql n x).stxOrder = d.stxOrder := rfl
@[simp] theorem Dev.setRql_srxOrder (n : Nat) (x : RqlSt) : (d.setRql n x).srxOrder = d.srxOrder := rfl
@[simp] theorem Dev.setRql_stxNow (n : Nat) (x : RqlSt) : (d.setRql n x).stxNow = d.stxNow := rfl
@[simp] theorem Dev.setRql_srxNow (n : Nat) (x : RqlSt) : (d.setRql n x).srxNow = d.srxNow := rfl
@[simp] theorem Dev.setRql_stxHeld (n : Nat) (x : RqlSt) : (d.setRql n x).stxHeld = d.stxHeld := rfl
@[simp] theorem Dev.setRql_srxHeld (n : Nat) (x : RqlSt) : (d.setRql n x).srxHeld = d.srxHeld := rfl
@[simp] theorem Dev.setRql_rings (n : Nat) (x : RqlSt) : (d.setRql n x).rings = d.rings := rfl
@[simp] theorem Dev.setRql_sap (n : Nat) (x : RqlSt) : (d.setRql n x).sap = d.sap := rfl
@[simp] theorem Dev.setRql_ddr (n : Nat) (x : RqlSt) : (d.setRql n x).ddr = d.ddr := rfl
@[simp] theorem Dev.setRql_anv (n : Nat) (x : RqlSt) : (d.setRql n x).anv = d.anv := rfl
@[simp] theorem Dev.setRql_store (n : Nat) (x : RqlSt) : (d.setRql n x).store = d.store := rfl
@[simp] theorem Dev.setRql_cue (n : Nat) (x : RqlSt) : (d.setRql n x).cue = d.cue := rfl
@[simp] theorem Dev.setRql_cueIn (n : Nat) (x : RqlSt) : (d.setRql n x).cueIn = d.cueIn := rfl
@[simp] theorem Dev.setRql_t1s (n : Nat) (x : RqlSt) : (d.setRql n x).t1s = d.t1s := rfl
@[simp] theorem Dev.setRql_halo (n : Nat) (x : RqlSt) : (d.setRql n x).halo = d.halo := rfl
@[simp] theorem Dev.setRql_pwr (n : Nat) (x : RqlSt) : (d.setRql n x).pwr = d.pwr := rfl
@[simp] theorem Dev.setRql_wipeDone (n : Nat) (x : RqlSt) : (d.setRql n x).wipeDone = d.wipeDone := rfl
@[simp] theorem Dev.setRql_boot (n : Nat) (x : RqlSt) : (d.setRql n x).boot = d.boot := rfl
@[simp] theorem Dev.setRql_nvm (n : Nat) (x : RqlSt) : (d.setRql n x).nvm = d.nvm := rfl
@[simp] theorem Dev.setRql_poison (n : Nat) (x : RqlSt) : (d.setRql n x).poison = d.poison := rfl
@[simp] theorem Dev.setRql_lanesRec (n : Nat) (x : RqlSt) : (d.setRql n x).lanesRec = d.lanesRec := rfl
@[simp] theorem Dev.setRql_wbPend (n : Nat) (x : RqlSt) : (d.setRql n x).wbPend = d.wbPend := rfl
@[simp] theorem Dev.setRql_integ (n : Nat) (x : RqlSt) : (d.setRql n x).integ = d.integ := rfl
@[simp] theorem Dev.setRql_pin (n : Nat) (x : RqlSt) : (d.setRql n x).pin = d.pin := rfl
@[simp] theorem Dev.setRql_jtag (n : Nat) (x : RqlSt) : (d.setRql n x).jtag = d.jtag := rfl
@[simp] theorem Dev.setRql_tbl (n : Nat) (x : RqlSt) : (d.setRql n x).tbl = d.tbl := rfl
@[simp] theorem Dev.setRql_irqA (n : Nat) (x : RqlSt) : (d.setRql n x).irqA = d.irqA := rfl
@[simp] theorem Dev.setRql_irqB (n : Nat) (x : RqlSt) : (d.setRql n x).irqB = d.irqB := rfl
@[simp] theorem Dev.setRql_free (n : Nat) (x : RqlSt) : (d.setRql n x).free = d.free := rfl
@[simp] theorem Dev.setRql_reg (n : Nat) (x : RqlSt) (r : Nat) : (d.setRql n x).reg r = d.reg r := rfl
@[simp] theorem Dev.setRql_get (n : Nat) (x : RqlSt) (f : Fld) : (d.setRql n x).get f = d.get f := rfl
@[simp] theorem Dev.setRql_on (n : Nat) (x : RqlSt) (f : Fld) : (d.setRql n x).on f = d.on f := rfl

@[simp] theorem Dev.setNet_regs (n : Nat) (x : NetSt) : (d.setNet n x).regs = d.regs := rfl
@[simp] theorem Dev.setNet_ports (n : Nat) (x : NetSt) : (d.setNet n x).ports = d.ports := rfl
@[simp] theorem Dev.setNet_ign (n : Nat) (x : NetSt) : (d.setNet n x).ign = d.ign := rfl
@[simp] theorem Dev.setNet_mbx (n : Nat) (x : NetSt) : (d.setNet n x).mbx = d.mbx := rfl
@[simp] theorem Dev.setNet_clk (n : Nat) (x : NetSt) : (d.setNet n x).clk = d.clk := rfl
@[simp] theorem Dev.setNet_ticks (n : Nat) (x : NetSt) : (d.setNet n x).ticks = d.ticks := rfl
@[simp] theorem Dev.setNet_xing (n : Nat) (x : NetSt) : (d.setNet n x).xing = d.xing := rfl
@[simp] theorem Dev.setNet_time (n : Nat) (x : NetSt) : (d.setNet n x).time = d.time := rfl
@[simp] theorem Dev.setNet_hq (n : Nat) (x : NetSt) : (d.setNet n x).hq = d.hq := rfl
@[simp] theorem Dev.setNet_ptp (n : Nat) (x : NetSt) : (d.setNet n x).ptp = d.ptp := rfl
@[simp] theorem Dev.setNet_mcg (n : Nat) (x : NetSt) : (d.setNet n x).mcg = d.mcg := rfl
@[simp] theorem Dev.setNet_nextFrame (n : Nat) (x : NetSt) : (d.setNet n x).nextFrame = d.nextFrame := rfl
@[simp] theorem Dev.setNet_handed (n : Nat) (x : NetSt) : (d.setNet n x).handed = d.handed := rfl
@[simp] theorem Dev.setNet_snap (n : Nat) (x : NetSt) : (d.setNet n x).snap = d.snap := rfl
@[simp] theorem Dev.setNet_snapHeld (n : Nat) (x : NetSt) : (d.setNet n x).snapHeld = d.snapHeld := rfl
@[simp] theorem Dev.setNet_mdio (n : Nat) (x : NetSt) : (d.setNet n x).mdio = d.mdio := rfl
@[simp] theorem Dev.setNet_mio (n : Nat) (x : NetSt) : (d.setNet n x).mio = d.mio := rfl
@[simp] theorem Dev.setNet_stx (n : Nat) (x : NetSt) : (d.setNet n x).stx = d.stx := rfl
@[simp] theorem Dev.setNet_srx (n : Nat) (x : NetSt) : (d.setNet n x).srx = d.srx := rfl
@[simp] theorem Dev.setNet_stxOrder (n : Nat) (x : NetSt) : (d.setNet n x).stxOrder = d.stxOrder := rfl
@[simp] theorem Dev.setNet_srxOrder (n : Nat) (x : NetSt) : (d.setNet n x).srxOrder = d.srxOrder := rfl
@[simp] theorem Dev.setNet_stxNow (n : Nat) (x : NetSt) : (d.setNet n x).stxNow = d.stxNow := rfl
@[simp] theorem Dev.setNet_srxNow (n : Nat) (x : NetSt) : (d.setNet n x).srxNow = d.srxNow := rfl
@[simp] theorem Dev.setNet_stxHeld (n : Nat) (x : NetSt) : (d.setNet n x).stxHeld = d.stxHeld := rfl
@[simp] theorem Dev.setNet_srxHeld (n : Nat) (x : NetSt) : (d.setNet n x).srxHeld = d.srxHeld := rfl
@[simp] theorem Dev.setNet_rings (n : Nat) (x : NetSt) : (d.setNet n x).rings = d.rings := rfl
@[simp] theorem Dev.setNet_sap (n : Nat) (x : NetSt) : (d.setNet n x).sap = d.sap := rfl
@[simp] theorem Dev.setNet_ddr (n : Nat) (x : NetSt) : (d.setNet n x).ddr = d.ddr := rfl
@[simp] theorem Dev.setNet_anv (n : Nat) (x : NetSt) : (d.setNet n x).anv = d.anv := rfl
@[simp] theorem Dev.setNet_store (n : Nat) (x : NetSt) : (d.setNet n x).store = d.store := rfl
@[simp] theorem Dev.setNet_cue (n : Nat) (x : NetSt) : (d.setNet n x).cue = d.cue := rfl
@[simp] theorem Dev.setNet_cueIn (n : Nat) (x : NetSt) : (d.setNet n x).cueIn = d.cueIn := rfl
@[simp] theorem Dev.setNet_t1s (n : Nat) (x : NetSt) : (d.setNet n x).t1s = d.t1s := rfl
@[simp] theorem Dev.setNet_halo (n : Nat) (x : NetSt) : (d.setNet n x).halo = d.halo := rfl
@[simp] theorem Dev.setNet_pwr (n : Nat) (x : NetSt) : (d.setNet n x).pwr = d.pwr := rfl
@[simp] theorem Dev.setNet_rql (n : Nat) (x : NetSt) : (d.setNet n x).rql = d.rql := rfl
@[simp] theorem Dev.setNet_wipeDone (n : Nat) (x : NetSt) : (d.setNet n x).wipeDone = d.wipeDone := rfl
@[simp] theorem Dev.setNet_boot (n : Nat) (x : NetSt) : (d.setNet n x).boot = d.boot := rfl
@[simp] theorem Dev.setNet_nvm (n : Nat) (x : NetSt) : (d.setNet n x).nvm = d.nvm := rfl
@[simp] theorem Dev.setNet_poison (n : Nat) (x : NetSt) : (d.setNet n x).poison = d.poison := rfl
@[simp] theorem Dev.setNet_lanesRec (n : Nat) (x : NetSt) : (d.setNet n x).lanesRec = d.lanesRec := rfl
@[simp] theorem Dev.setNet_wbPend (n : Nat) (x : NetSt) : (d.setNet n x).wbPend = d.wbPend := rfl
@[simp] theorem Dev.setNet_integ (n : Nat) (x : NetSt) : (d.setNet n x).integ = d.integ := rfl
@[simp] theorem Dev.setNet_pin (n : Nat) (x : NetSt) : (d.setNet n x).pin = d.pin := rfl
@[simp] theorem Dev.setNet_jtag (n : Nat) (x : NetSt) : (d.setNet n x).jtag = d.jtag := rfl
@[simp] theorem Dev.setNet_tbl (n : Nat) (x : NetSt) : (d.setNet n x).tbl = d.tbl := rfl
@[simp] theorem Dev.setNet_irqA (n : Nat) (x : NetSt) : (d.setNet n x).irqA = d.irqA := rfl
@[simp] theorem Dev.setNet_irqB (n : Nat) (x : NetSt) : (d.setNet n x).irqB = d.irqB := rfl
@[simp] theorem Dev.setNet_free (n : Nat) (x : NetSt) : (d.setNet n x).free = d.free := rfl
@[simp] theorem Dev.setNet_reg (n : Nat) (x : NetSt) (r : Nat) : (d.setNet n x).reg r = d.reg r := rfl
@[simp] theorem Dev.setNet_get (n : Nat) (x : NetSt) (f : Fld) : (d.setNet n x).get f = d.get f := rfl
@[simp] theorem Dev.setNet_on (n : Nat) (x : NetSt) (f : Fld) : (d.setNet n x).on f = d.on f := rfl

@[simp] theorem Dev.setSap_regs (n : Nat) (x : SapSt) : (d.setSap n x).regs = d.regs := rfl
@[simp] theorem Dev.setSap_ports (n : Nat) (x : SapSt) : (d.setSap n x).ports = d.ports := rfl
@[simp] theorem Dev.setSap_ign (n : Nat) (x : SapSt) : (d.setSap n x).ign = d.ign := rfl
@[simp] theorem Dev.setSap_mbx (n : Nat) (x : SapSt) : (d.setSap n x).mbx = d.mbx := rfl
@[simp] theorem Dev.setSap_clk (n : Nat) (x : SapSt) : (d.setSap n x).clk = d.clk := rfl
@[simp] theorem Dev.setSap_ticks (n : Nat) (x : SapSt) : (d.setSap n x).ticks = d.ticks := rfl
@[simp] theorem Dev.setSap_xing (n : Nat) (x : SapSt) : (d.setSap n x).xing = d.xing := rfl
@[simp] theorem Dev.setSap_time (n : Nat) (x : SapSt) : (d.setSap n x).time = d.time := rfl
@[simp] theorem Dev.setSap_hq (n : Nat) (x : SapSt) : (d.setSap n x).hq = d.hq := rfl
@[simp] theorem Dev.setSap_ptp (n : Nat) (x : SapSt) : (d.setSap n x).ptp = d.ptp := rfl
@[simp] theorem Dev.setSap_mcg (n : Nat) (x : SapSt) : (d.setSap n x).mcg = d.mcg := rfl
@[simp] theorem Dev.setSap_net (n : Nat) (x : SapSt) : (d.setSap n x).net = d.net := rfl
@[simp] theorem Dev.setSap_nextFrame (n : Nat) (x : SapSt) : (d.setSap n x).nextFrame = d.nextFrame := rfl
@[simp] theorem Dev.setSap_handed (n : Nat) (x : SapSt) : (d.setSap n x).handed = d.handed := rfl
@[simp] theorem Dev.setSap_snap (n : Nat) (x : SapSt) : (d.setSap n x).snap = d.snap := rfl
@[simp] theorem Dev.setSap_snapHeld (n : Nat) (x : SapSt) : (d.setSap n x).snapHeld = d.snapHeld := rfl
@[simp] theorem Dev.setSap_mdio (n : Nat) (x : SapSt) : (d.setSap n x).mdio = d.mdio := rfl
@[simp] theorem Dev.setSap_mio (n : Nat) (x : SapSt) : (d.setSap n x).mio = d.mio := rfl
@[simp] theorem Dev.setSap_stx (n : Nat) (x : SapSt) : (d.setSap n x).stx = d.stx := rfl
@[simp] theorem Dev.setSap_srx (n : Nat) (x : SapSt) : (d.setSap n x).srx = d.srx := rfl
@[simp] theorem Dev.setSap_stxOrder (n : Nat) (x : SapSt) : (d.setSap n x).stxOrder = d.stxOrder := rfl
@[simp] theorem Dev.setSap_srxOrder (n : Nat) (x : SapSt) : (d.setSap n x).srxOrder = d.srxOrder := rfl
@[simp] theorem Dev.setSap_stxNow (n : Nat) (x : SapSt) : (d.setSap n x).stxNow = d.stxNow := rfl
@[simp] theorem Dev.setSap_srxNow (n : Nat) (x : SapSt) : (d.setSap n x).srxNow = d.srxNow := rfl
@[simp] theorem Dev.setSap_stxHeld (n : Nat) (x : SapSt) : (d.setSap n x).stxHeld = d.stxHeld := rfl
@[simp] theorem Dev.setSap_srxHeld (n : Nat) (x : SapSt) : (d.setSap n x).srxHeld = d.srxHeld := rfl
@[simp] theorem Dev.setSap_rings (n : Nat) (x : SapSt) : (d.setSap n x).rings = d.rings := rfl
@[simp] theorem Dev.setSap_ddr (n : Nat) (x : SapSt) : (d.setSap n x).ddr = d.ddr := rfl
@[simp] theorem Dev.setSap_anv (n : Nat) (x : SapSt) : (d.setSap n x).anv = d.anv := rfl
@[simp] theorem Dev.setSap_store (n : Nat) (x : SapSt) : (d.setSap n x).store = d.store := rfl
@[simp] theorem Dev.setSap_cue (n : Nat) (x : SapSt) : (d.setSap n x).cue = d.cue := rfl
@[simp] theorem Dev.setSap_cueIn (n : Nat) (x : SapSt) : (d.setSap n x).cueIn = d.cueIn := rfl
@[simp] theorem Dev.setSap_t1s (n : Nat) (x : SapSt) : (d.setSap n x).t1s = d.t1s := rfl
@[simp] theorem Dev.setSap_halo (n : Nat) (x : SapSt) : (d.setSap n x).halo = d.halo := rfl
@[simp] theorem Dev.setSap_pwr (n : Nat) (x : SapSt) : (d.setSap n x).pwr = d.pwr := rfl
@[simp] theorem Dev.setSap_rql (n : Nat) (x : SapSt) : (d.setSap n x).rql = d.rql := rfl
@[simp] theorem Dev.setSap_wipeDone (n : Nat) (x : SapSt) : (d.setSap n x).wipeDone = d.wipeDone := rfl
@[simp] theorem Dev.setSap_boot (n : Nat) (x : SapSt) : (d.setSap n x).boot = d.boot := rfl
@[simp] theorem Dev.setSap_nvm (n : Nat) (x : SapSt) : (d.setSap n x).nvm = d.nvm := rfl
@[simp] theorem Dev.setSap_poison (n : Nat) (x : SapSt) : (d.setSap n x).poison = d.poison := rfl
@[simp] theorem Dev.setSap_lanesRec (n : Nat) (x : SapSt) : (d.setSap n x).lanesRec = d.lanesRec := rfl
@[simp] theorem Dev.setSap_wbPend (n : Nat) (x : SapSt) : (d.setSap n x).wbPend = d.wbPend := rfl
@[simp] theorem Dev.setSap_integ (n : Nat) (x : SapSt) : (d.setSap n x).integ = d.integ := rfl
@[simp] theorem Dev.setSap_pin (n : Nat) (x : SapSt) : (d.setSap n x).pin = d.pin := rfl
@[simp] theorem Dev.setSap_jtag (n : Nat) (x : SapSt) : (d.setSap n x).jtag = d.jtag := rfl
@[simp] theorem Dev.setSap_tbl (n : Nat) (x : SapSt) : (d.setSap n x).tbl = d.tbl := rfl
@[simp] theorem Dev.setSap_irqA (n : Nat) (x : SapSt) : (d.setSap n x).irqA = d.irqA := rfl
@[simp] theorem Dev.setSap_irqB (n : Nat) (x : SapSt) : (d.setSap n x).irqB = d.irqB := rfl
@[simp] theorem Dev.setSap_free (n : Nat) (x : SapSt) : (d.setSap n x).free = d.free := rfl
@[simp] theorem Dev.setSap_reg (n : Nat) (x : SapSt) (r : Nat) : (d.setSap n x).reg r = d.reg r := rfl
@[simp] theorem Dev.setSap_get (n : Nat) (x : SapSt) (f : Fld) : (d.setSap n x).get f = d.get f := rfl
@[simp] theorem Dev.setSap_on (n : Nat) (x : SapSt) (f : Fld) : (d.setSap n x).on f = d.on f := rfl

@[simp] theorem Dev.setSrx_regs (c : Nat) (x : SrxSt) : (d.setSrx c x).regs = d.regs := rfl
@[simp] theorem Dev.setSrx_ports (c : Nat) (x : SrxSt) : (d.setSrx c x).ports = d.ports := rfl
@[simp] theorem Dev.setSrx_ign (c : Nat) (x : SrxSt) : (d.setSrx c x).ign = d.ign := rfl
@[simp] theorem Dev.setSrx_mbx (c : Nat) (x : SrxSt) : (d.setSrx c x).mbx = d.mbx := rfl
@[simp] theorem Dev.setSrx_clk (c : Nat) (x : SrxSt) : (d.setSrx c x).clk = d.clk := rfl
@[simp] theorem Dev.setSrx_ticks (c : Nat) (x : SrxSt) : (d.setSrx c x).ticks = d.ticks := rfl
@[simp] theorem Dev.setSrx_xing (c : Nat) (x : SrxSt) : (d.setSrx c x).xing = d.xing := rfl
@[simp] theorem Dev.setSrx_time (c : Nat) (x : SrxSt) : (d.setSrx c x).time = d.time := rfl
@[simp] theorem Dev.setSrx_hq (c : Nat) (x : SrxSt) : (d.setSrx c x).hq = d.hq := rfl
@[simp] theorem Dev.setSrx_ptp (c : Nat) (x : SrxSt) : (d.setSrx c x).ptp = d.ptp := rfl
@[simp] theorem Dev.setSrx_mcg (c : Nat) (x : SrxSt) : (d.setSrx c x).mcg = d.mcg := rfl
@[simp] theorem Dev.setSrx_net (c : Nat) (x : SrxSt) : (d.setSrx c x).net = d.net := rfl
@[simp] theorem Dev.setSrx_nextFrame (c : Nat) (x : SrxSt) : (d.setSrx c x).nextFrame = d.nextFrame := rfl
@[simp] theorem Dev.setSrx_handed (c : Nat) (x : SrxSt) : (d.setSrx c x).handed = d.handed := rfl
@[simp] theorem Dev.setSrx_snap (c : Nat) (x : SrxSt) : (d.setSrx c x).snap = d.snap := rfl
@[simp] theorem Dev.setSrx_snapHeld (c : Nat) (x : SrxSt) : (d.setSrx c x).snapHeld = d.snapHeld := rfl
@[simp] theorem Dev.setSrx_mdio (c : Nat) (x : SrxSt) : (d.setSrx c x).mdio = d.mdio := rfl
@[simp] theorem Dev.setSrx_mio (c : Nat) (x : SrxSt) : (d.setSrx c x).mio = d.mio := rfl
@[simp] theorem Dev.setSrx_stx (c : Nat) (x : SrxSt) : (d.setSrx c x).stx = d.stx := rfl
@[simp] theorem Dev.setSrx_stxOrder (c : Nat) (x : SrxSt) : (d.setSrx c x).stxOrder = d.stxOrder := rfl
@[simp] theorem Dev.setSrx_srxOrder (c : Nat) (x : SrxSt) : (d.setSrx c x).srxOrder = d.srxOrder := rfl
@[simp] theorem Dev.setSrx_stxNow (c : Nat) (x : SrxSt) : (d.setSrx c x).stxNow = d.stxNow := rfl
@[simp] theorem Dev.setSrx_srxNow (c : Nat) (x : SrxSt) : (d.setSrx c x).srxNow = d.srxNow := rfl
@[simp] theorem Dev.setSrx_stxHeld (c : Nat) (x : SrxSt) : (d.setSrx c x).stxHeld = d.stxHeld := rfl
@[simp] theorem Dev.setSrx_srxHeld (c : Nat) (x : SrxSt) : (d.setSrx c x).srxHeld = d.srxHeld := rfl
@[simp] theorem Dev.setSrx_rings (c : Nat) (x : SrxSt) : (d.setSrx c x).rings = d.rings := rfl
@[simp] theorem Dev.setSrx_sap (c : Nat) (x : SrxSt) : (d.setSrx c x).sap = d.sap := rfl
@[simp] theorem Dev.setSrx_ddr (c : Nat) (x : SrxSt) : (d.setSrx c x).ddr = d.ddr := rfl
@[simp] theorem Dev.setSrx_anv (c : Nat) (x : SrxSt) : (d.setSrx c x).anv = d.anv := rfl
@[simp] theorem Dev.setSrx_store (c : Nat) (x : SrxSt) : (d.setSrx c x).store = d.store := rfl
@[simp] theorem Dev.setSrx_cue (c : Nat) (x : SrxSt) : (d.setSrx c x).cue = d.cue := rfl
@[simp] theorem Dev.setSrx_cueIn (c : Nat) (x : SrxSt) : (d.setSrx c x).cueIn = d.cueIn := rfl
@[simp] theorem Dev.setSrx_t1s (c : Nat) (x : SrxSt) : (d.setSrx c x).t1s = d.t1s := rfl
@[simp] theorem Dev.setSrx_halo (c : Nat) (x : SrxSt) : (d.setSrx c x).halo = d.halo := rfl
@[simp] theorem Dev.setSrx_pwr (c : Nat) (x : SrxSt) : (d.setSrx c x).pwr = d.pwr := rfl
@[simp] theorem Dev.setSrx_rql (c : Nat) (x : SrxSt) : (d.setSrx c x).rql = d.rql := rfl
@[simp] theorem Dev.setSrx_wipeDone (c : Nat) (x : SrxSt) : (d.setSrx c x).wipeDone = d.wipeDone := rfl
@[simp] theorem Dev.setSrx_boot (c : Nat) (x : SrxSt) : (d.setSrx c x).boot = d.boot := rfl
@[simp] theorem Dev.setSrx_nvm (c : Nat) (x : SrxSt) : (d.setSrx c x).nvm = d.nvm := rfl
@[simp] theorem Dev.setSrx_poison (c : Nat) (x : SrxSt) : (d.setSrx c x).poison = d.poison := rfl
@[simp] theorem Dev.setSrx_lanesRec (c : Nat) (x : SrxSt) : (d.setSrx c x).lanesRec = d.lanesRec := rfl
@[simp] theorem Dev.setSrx_wbPend (c : Nat) (x : SrxSt) : (d.setSrx c x).wbPend = d.wbPend := rfl
@[simp] theorem Dev.setSrx_integ (c : Nat) (x : SrxSt) : (d.setSrx c x).integ = d.integ := rfl
@[simp] theorem Dev.setSrx_pin (c : Nat) (x : SrxSt) : (d.setSrx c x).pin = d.pin := rfl
@[simp] theorem Dev.setSrx_jtag (c : Nat) (x : SrxSt) : (d.setSrx c x).jtag = d.jtag := rfl
@[simp] theorem Dev.setSrx_tbl (c : Nat) (x : SrxSt) : (d.setSrx c x).tbl = d.tbl := rfl
@[simp] theorem Dev.setSrx_irqA (c : Nat) (x : SrxSt) : (d.setSrx c x).irqA = d.irqA := rfl
@[simp] theorem Dev.setSrx_irqB (c : Nat) (x : SrxSt) : (d.setSrx c x).irqB = d.irqB := rfl
@[simp] theorem Dev.setSrx_free (c : Nat) (x : SrxSt) : (d.setSrx c x).free = d.free := rfl
@[simp] theorem Dev.setSrx_reg (c : Nat) (x : SrxSt) (r : Nat) : (d.setSrx c x).reg r = d.reg r := rfl
@[simp] theorem Dev.setSrx_get (c : Nat) (x : SrxSt) (f : Fld) : (d.setSrx c x).get f = d.get f := rfl
@[simp] theorem Dev.setSrx_on (c : Nat) (x : SrxSt) (f : Fld) : (d.setSrx c x).on f = d.on f := rfl

@[simp] theorem Dev.setStx_regs (c : Nat) (x : StxSt) : (d.setStx c x).regs = d.regs := rfl
@[simp] theorem Dev.setStx_ports (c : Nat) (x : StxSt) : (d.setStx c x).ports = d.ports := rfl
@[simp] theorem Dev.setStx_ign (c : Nat) (x : StxSt) : (d.setStx c x).ign = d.ign := rfl
@[simp] theorem Dev.setStx_mbx (c : Nat) (x : StxSt) : (d.setStx c x).mbx = d.mbx := rfl
@[simp] theorem Dev.setStx_clk (c : Nat) (x : StxSt) : (d.setStx c x).clk = d.clk := rfl
@[simp] theorem Dev.setStx_ticks (c : Nat) (x : StxSt) : (d.setStx c x).ticks = d.ticks := rfl
@[simp] theorem Dev.setStx_xing (c : Nat) (x : StxSt) : (d.setStx c x).xing = d.xing := rfl
@[simp] theorem Dev.setStx_time (c : Nat) (x : StxSt) : (d.setStx c x).time = d.time := rfl
@[simp] theorem Dev.setStx_hq (c : Nat) (x : StxSt) : (d.setStx c x).hq = d.hq := rfl
@[simp] theorem Dev.setStx_ptp (c : Nat) (x : StxSt) : (d.setStx c x).ptp = d.ptp := rfl
@[simp] theorem Dev.setStx_mcg (c : Nat) (x : StxSt) : (d.setStx c x).mcg = d.mcg := rfl
@[simp] theorem Dev.setStx_net (c : Nat) (x : StxSt) : (d.setStx c x).net = d.net := rfl
@[simp] theorem Dev.setStx_nextFrame (c : Nat) (x : StxSt) : (d.setStx c x).nextFrame = d.nextFrame := rfl
@[simp] theorem Dev.setStx_handed (c : Nat) (x : StxSt) : (d.setStx c x).handed = d.handed := rfl
@[simp] theorem Dev.setStx_snap (c : Nat) (x : StxSt) : (d.setStx c x).snap = d.snap := rfl
@[simp] theorem Dev.setStx_snapHeld (c : Nat) (x : StxSt) : (d.setStx c x).snapHeld = d.snapHeld := rfl
@[simp] theorem Dev.setStx_mdio (c : Nat) (x : StxSt) : (d.setStx c x).mdio = d.mdio := rfl
@[simp] theorem Dev.setStx_mio (c : Nat) (x : StxSt) : (d.setStx c x).mio = d.mio := rfl
@[simp] theorem Dev.setStx_srx (c : Nat) (x : StxSt) : (d.setStx c x).srx = d.srx := rfl
@[simp] theorem Dev.setStx_stxOrder (c : Nat) (x : StxSt) : (d.setStx c x).stxOrder = d.stxOrder := rfl
@[simp] theorem Dev.setStx_srxOrder (c : Nat) (x : StxSt) : (d.setStx c x).srxOrder = d.srxOrder := rfl
@[simp] theorem Dev.setStx_stxNow (c : Nat) (x : StxSt) : (d.setStx c x).stxNow = d.stxNow := rfl
@[simp] theorem Dev.setStx_srxNow (c : Nat) (x : StxSt) : (d.setStx c x).srxNow = d.srxNow := rfl
@[simp] theorem Dev.setStx_stxHeld (c : Nat) (x : StxSt) : (d.setStx c x).stxHeld = d.stxHeld := rfl
@[simp] theorem Dev.setStx_srxHeld (c : Nat) (x : StxSt) : (d.setStx c x).srxHeld = d.srxHeld := rfl
@[simp] theorem Dev.setStx_rings (c : Nat) (x : StxSt) : (d.setStx c x).rings = d.rings := rfl
@[simp] theorem Dev.setStx_sap (c : Nat) (x : StxSt) : (d.setStx c x).sap = d.sap := rfl
@[simp] theorem Dev.setStx_ddr (c : Nat) (x : StxSt) : (d.setStx c x).ddr = d.ddr := rfl
@[simp] theorem Dev.setStx_anv (c : Nat) (x : StxSt) : (d.setStx c x).anv = d.anv := rfl
@[simp] theorem Dev.setStx_store (c : Nat) (x : StxSt) : (d.setStx c x).store = d.store := rfl
@[simp] theorem Dev.setStx_cue (c : Nat) (x : StxSt) : (d.setStx c x).cue = d.cue := rfl
@[simp] theorem Dev.setStx_cueIn (c : Nat) (x : StxSt) : (d.setStx c x).cueIn = d.cueIn := rfl
@[simp] theorem Dev.setStx_t1s (c : Nat) (x : StxSt) : (d.setStx c x).t1s = d.t1s := rfl
@[simp] theorem Dev.setStx_halo (c : Nat) (x : StxSt) : (d.setStx c x).halo = d.halo := rfl
@[simp] theorem Dev.setStx_pwr (c : Nat) (x : StxSt) : (d.setStx c x).pwr = d.pwr := rfl
@[simp] theorem Dev.setStx_rql (c : Nat) (x : StxSt) : (d.setStx c x).rql = d.rql := rfl
@[simp] theorem Dev.setStx_wipeDone (c : Nat) (x : StxSt) : (d.setStx c x).wipeDone = d.wipeDone := rfl
@[simp] theorem Dev.setStx_boot (c : Nat) (x : StxSt) : (d.setStx c x).boot = d.boot := rfl
@[simp] theorem Dev.setStx_nvm (c : Nat) (x : StxSt) : (d.setStx c x).nvm = d.nvm := rfl
@[simp] theorem Dev.setStx_poison (c : Nat) (x : StxSt) : (d.setStx c x).poison = d.poison := rfl
@[simp] theorem Dev.setStx_lanesRec (c : Nat) (x : StxSt) : (d.setStx c x).lanesRec = d.lanesRec := rfl
@[simp] theorem Dev.setStx_wbPend (c : Nat) (x : StxSt) : (d.setStx c x).wbPend = d.wbPend := rfl
@[simp] theorem Dev.setStx_integ (c : Nat) (x : StxSt) : (d.setStx c x).integ = d.integ := rfl
@[simp] theorem Dev.setStx_pin (c : Nat) (x : StxSt) : (d.setStx c x).pin = d.pin := rfl
@[simp] theorem Dev.setStx_jtag (c : Nat) (x : StxSt) : (d.setStx c x).jtag = d.jtag := rfl
@[simp] theorem Dev.setStx_tbl (c : Nat) (x : StxSt) : (d.setStx c x).tbl = d.tbl := rfl
@[simp] theorem Dev.setStx_irqA (c : Nat) (x : StxSt) : (d.setStx c x).irqA = d.irqA := rfl
@[simp] theorem Dev.setStx_irqB (c : Nat) (x : StxSt) : (d.setStx c x).irqB = d.irqB := rfl
@[simp] theorem Dev.setStx_free (c : Nat) (x : StxSt) : (d.setStx c x).free = d.free := rfl
@[simp] theorem Dev.setStx_reg (c : Nat) (x : StxSt) (r : Nat) : (d.setStx c x).reg r = d.reg r := rfl
@[simp] theorem Dev.setStx_get (c : Nat) (x : StxSt) (f : Fld) : (d.setStx c x).get f = d.get f := rfl
@[simp] theorem Dev.setStx_on (c : Nat) (x : StxSt) (f : Fld) : (d.setStx c x).on f = d.on f := rfl

@[simp] theorem Dev.setDom_regs (i : Nat) (x : PtpDom) : (d.setDom i x).regs = d.regs := rfl
@[simp] theorem Dev.setDom_ports (i : Nat) (x : PtpDom) : (d.setDom i x).ports = d.ports := rfl
@[simp] theorem Dev.setDom_ign (i : Nat) (x : PtpDom) : (d.setDom i x).ign = d.ign := rfl
@[simp] theorem Dev.setDom_mbx (i : Nat) (x : PtpDom) : (d.setDom i x).mbx = d.mbx := rfl
@[simp] theorem Dev.setDom_clk (i : Nat) (x : PtpDom) : (d.setDom i x).clk = d.clk := rfl
@[simp] theorem Dev.setDom_ticks (i : Nat) (x : PtpDom) : (d.setDom i x).ticks = d.ticks := rfl
@[simp] theorem Dev.setDom_xing (i : Nat) (x : PtpDom) : (d.setDom i x).xing = d.xing := rfl
@[simp] theorem Dev.setDom_time (i : Nat) (x : PtpDom) : (d.setDom i x).time = d.time := rfl
@[simp] theorem Dev.setDom_hq (i : Nat) (x : PtpDom) : (d.setDom i x).hq = d.hq := rfl
@[simp] theorem Dev.setDom_mcg (i : Nat) (x : PtpDom) : (d.setDom i x).mcg = d.mcg := rfl
@[simp] theorem Dev.setDom_net (i : Nat) (x : PtpDom) : (d.setDom i x).net = d.net := rfl
@[simp] theorem Dev.setDom_nextFrame (i : Nat) (x : PtpDom) : (d.setDom i x).nextFrame = d.nextFrame := rfl
@[simp] theorem Dev.setDom_handed (i : Nat) (x : PtpDom) : (d.setDom i x).handed = d.handed := rfl
@[simp] theorem Dev.setDom_snap (i : Nat) (x : PtpDom) : (d.setDom i x).snap = d.snap := rfl
@[simp] theorem Dev.setDom_snapHeld (i : Nat) (x : PtpDom) : (d.setDom i x).snapHeld = d.snapHeld := rfl
@[simp] theorem Dev.setDom_mdio (i : Nat) (x : PtpDom) : (d.setDom i x).mdio = d.mdio := rfl
@[simp] theorem Dev.setDom_mio (i : Nat) (x : PtpDom) : (d.setDom i x).mio = d.mio := rfl
@[simp] theorem Dev.setDom_stx (i : Nat) (x : PtpDom) : (d.setDom i x).stx = d.stx := rfl
@[simp] theorem Dev.setDom_srx (i : Nat) (x : PtpDom) : (d.setDom i x).srx = d.srx := rfl
@[simp] theorem Dev.setDom_stxOrder (i : Nat) (x : PtpDom) : (d.setDom i x).stxOrder = d.stxOrder := rfl
@[simp] theorem Dev.setDom_srxOrder (i : Nat) (x : PtpDom) : (d.setDom i x).srxOrder = d.srxOrder := rfl
@[simp] theorem Dev.setDom_stxNow (i : Nat) (x : PtpDom) : (d.setDom i x).stxNow = d.stxNow := rfl
@[simp] theorem Dev.setDom_srxNow (i : Nat) (x : PtpDom) : (d.setDom i x).srxNow = d.srxNow := rfl
@[simp] theorem Dev.setDom_stxHeld (i : Nat) (x : PtpDom) : (d.setDom i x).stxHeld = d.stxHeld := rfl
@[simp] theorem Dev.setDom_srxHeld (i : Nat) (x : PtpDom) : (d.setDom i x).srxHeld = d.srxHeld := rfl
@[simp] theorem Dev.setDom_rings (i : Nat) (x : PtpDom) : (d.setDom i x).rings = d.rings := rfl
@[simp] theorem Dev.setDom_sap (i : Nat) (x : PtpDom) : (d.setDom i x).sap = d.sap := rfl
@[simp] theorem Dev.setDom_ddr (i : Nat) (x : PtpDom) : (d.setDom i x).ddr = d.ddr := rfl
@[simp] theorem Dev.setDom_anv (i : Nat) (x : PtpDom) : (d.setDom i x).anv = d.anv := rfl
@[simp] theorem Dev.setDom_store (i : Nat) (x : PtpDom) : (d.setDom i x).store = d.store := rfl
@[simp] theorem Dev.setDom_cue (i : Nat) (x : PtpDom) : (d.setDom i x).cue = d.cue := rfl
@[simp] theorem Dev.setDom_cueIn (i : Nat) (x : PtpDom) : (d.setDom i x).cueIn = d.cueIn := rfl
@[simp] theorem Dev.setDom_t1s (i : Nat) (x : PtpDom) : (d.setDom i x).t1s = d.t1s := rfl
@[simp] theorem Dev.setDom_halo (i : Nat) (x : PtpDom) : (d.setDom i x).halo = d.halo := rfl
@[simp] theorem Dev.setDom_pwr (i : Nat) (x : PtpDom) : (d.setDom i x).pwr = d.pwr := rfl
@[simp] theorem Dev.setDom_rql (i : Nat) (x : PtpDom) : (d.setDom i x).rql = d.rql := rfl
@[simp] theorem Dev.setDom_wipeDone (i : Nat) (x : PtpDom) : (d.setDom i x).wipeDone = d.wipeDone := rfl
@[simp] theorem Dev.setDom_boot (i : Nat) (x : PtpDom) : (d.setDom i x).boot = d.boot := rfl
@[simp] theorem Dev.setDom_nvm (i : Nat) (x : PtpDom) : (d.setDom i x).nvm = d.nvm := rfl
@[simp] theorem Dev.setDom_poison (i : Nat) (x : PtpDom) : (d.setDom i x).poison = d.poison := rfl
@[simp] theorem Dev.setDom_lanesRec (i : Nat) (x : PtpDom) : (d.setDom i x).lanesRec = d.lanesRec := rfl
@[simp] theorem Dev.setDom_wbPend (i : Nat) (x : PtpDom) : (d.setDom i x).wbPend = d.wbPend := rfl
@[simp] theorem Dev.setDom_integ (i : Nat) (x : PtpDom) : (d.setDom i x).integ = d.integ := rfl
@[simp] theorem Dev.setDom_pin (i : Nat) (x : PtpDom) : (d.setDom i x).pin = d.pin := rfl
@[simp] theorem Dev.setDom_jtag (i : Nat) (x : PtpDom) : (d.setDom i x).jtag = d.jtag := rfl
@[simp] theorem Dev.setDom_tbl (i : Nat) (x : PtpDom) : (d.setDom i x).tbl = d.tbl := rfl
@[simp] theorem Dev.setDom_irqA (i : Nat) (x : PtpDom) : (d.setDom i x).irqA = d.irqA := rfl
@[simp] theorem Dev.setDom_irqB (i : Nat) (x : PtpDom) : (d.setDom i x).irqB = d.irqB := rfl
@[simp] theorem Dev.setDom_free (i : Nat) (x : PtpDom) : (d.setDom i x).free = d.free := rfl
@[simp] theorem Dev.setDom_reg (i : Nat) (x : PtpDom) (r : Nat) : (d.setDom i x).reg r = d.reg r := rfl
@[simp] theorem Dev.setDom_get (i : Nat) (x : PtpDom) (f : Fld) : (d.setDom i x).get f = d.get f := rfl
@[simp] theorem Dev.setDom_on (i : Nat) (x : PtpDom) (f : Fld) : (d.setDom i x).on f = d.on f := rfl

@[simp] theorem Dev.setAnv_regs (x : AnvSt) : (d.setAnv x).regs = d.regs := rfl
@[simp] theorem Dev.setAnv_ports (x : AnvSt) : (d.setAnv x).ports = d.ports := rfl
@[simp] theorem Dev.setAnv_ign (x : AnvSt) : (d.setAnv x).ign = d.ign := rfl
@[simp] theorem Dev.setAnv_mbx (x : AnvSt) : (d.setAnv x).mbx = d.mbx := rfl
@[simp] theorem Dev.setAnv_clk (x : AnvSt) : (d.setAnv x).clk = d.clk := rfl
@[simp] theorem Dev.setAnv_ticks (x : AnvSt) : (d.setAnv x).ticks = d.ticks := rfl
@[simp] theorem Dev.setAnv_xing (x : AnvSt) : (d.setAnv x).xing = d.xing := rfl
@[simp] theorem Dev.setAnv_time (x : AnvSt) : (d.setAnv x).time = d.time := rfl
@[simp] theorem Dev.setAnv_hq (x : AnvSt) : (d.setAnv x).hq = d.hq := rfl
@[simp] theorem Dev.setAnv_ptp (x : AnvSt) : (d.setAnv x).ptp = d.ptp := rfl
@[simp] theorem Dev.setAnv_mcg (x : AnvSt) : (d.setAnv x).mcg = d.mcg := rfl
@[simp] theorem Dev.setAnv_net (x : AnvSt) : (d.setAnv x).net = d.net := rfl
@[simp] theorem Dev.setAnv_nextFrame (x : AnvSt) : (d.setAnv x).nextFrame = d.nextFrame := rfl
@[simp] theorem Dev.setAnv_handed (x : AnvSt) : (d.setAnv x).handed = d.handed := rfl
@[simp] theorem Dev.setAnv_snap (x : AnvSt) : (d.setAnv x).snap = d.snap := rfl
@[simp] theorem Dev.setAnv_snapHeld (x : AnvSt) : (d.setAnv x).snapHeld = d.snapHeld := rfl
@[simp] theorem Dev.setAnv_mdio (x : AnvSt) : (d.setAnv x).mdio = d.mdio := rfl
@[simp] theorem Dev.setAnv_mio (x : AnvSt) : (d.setAnv x).mio = d.mio := rfl
@[simp] theorem Dev.setAnv_stx (x : AnvSt) : (d.setAnv x).stx = d.stx := rfl
@[simp] theorem Dev.setAnv_srx (x : AnvSt) : (d.setAnv x).srx = d.srx := rfl
@[simp] theorem Dev.setAnv_stxOrder (x : AnvSt) : (d.setAnv x).stxOrder = d.stxOrder := rfl
@[simp] theorem Dev.setAnv_srxOrder (x : AnvSt) : (d.setAnv x).srxOrder = d.srxOrder := rfl
@[simp] theorem Dev.setAnv_stxNow (x : AnvSt) : (d.setAnv x).stxNow = d.stxNow := rfl
@[simp] theorem Dev.setAnv_srxNow (x : AnvSt) : (d.setAnv x).srxNow = d.srxNow := rfl
@[simp] theorem Dev.setAnv_stxHeld (x : AnvSt) : (d.setAnv x).stxHeld = d.stxHeld := rfl
@[simp] theorem Dev.setAnv_srxHeld (x : AnvSt) : (d.setAnv x).srxHeld = d.srxHeld := rfl
@[simp] theorem Dev.setAnv_rings (x : AnvSt) : (d.setAnv x).rings = d.rings := rfl
@[simp] theorem Dev.setAnv_sap (x : AnvSt) : (d.setAnv x).sap = d.sap := rfl
@[simp] theorem Dev.setAnv_ddr (x : AnvSt) : (d.setAnv x).ddr = d.ddr := rfl
@[simp] theorem Dev.setAnv_store (x : AnvSt) : (d.setAnv x).store = d.store := rfl
@[simp] theorem Dev.setAnv_cue (x : AnvSt) : (d.setAnv x).cue = d.cue := rfl
@[simp] theorem Dev.setAnv_cueIn (x : AnvSt) : (d.setAnv x).cueIn = d.cueIn := rfl
@[simp] theorem Dev.setAnv_t1s (x : AnvSt) : (d.setAnv x).t1s = d.t1s := rfl
@[simp] theorem Dev.setAnv_halo (x : AnvSt) : (d.setAnv x).halo = d.halo := rfl
@[simp] theorem Dev.setAnv_pwr (x : AnvSt) : (d.setAnv x).pwr = d.pwr := rfl
@[simp] theorem Dev.setAnv_rql (x : AnvSt) : (d.setAnv x).rql = d.rql := rfl
@[simp] theorem Dev.setAnv_wipeDone (x : AnvSt) : (d.setAnv x).wipeDone = d.wipeDone := rfl
@[simp] theorem Dev.setAnv_boot (x : AnvSt) : (d.setAnv x).boot = d.boot := rfl
@[simp] theorem Dev.setAnv_nvm (x : AnvSt) : (d.setAnv x).nvm = d.nvm := rfl
@[simp] theorem Dev.setAnv_poison (x : AnvSt) : (d.setAnv x).poison = d.poison := rfl
@[simp] theorem Dev.setAnv_lanesRec (x : AnvSt) : (d.setAnv x).lanesRec = d.lanesRec := rfl
@[simp] theorem Dev.setAnv_wbPend (x : AnvSt) : (d.setAnv x).wbPend = d.wbPend := rfl
@[simp] theorem Dev.setAnv_integ (x : AnvSt) : (d.setAnv x).integ = d.integ := rfl
@[simp] theorem Dev.setAnv_pin (x : AnvSt) : (d.setAnv x).pin = d.pin := rfl
@[simp] theorem Dev.setAnv_jtag (x : AnvSt) : (d.setAnv x).jtag = d.jtag := rfl
@[simp] theorem Dev.setAnv_tbl (x : AnvSt) : (d.setAnv x).tbl = d.tbl := rfl
@[simp] theorem Dev.setAnv_irqA (x : AnvSt) : (d.setAnv x).irqA = d.irqA := rfl
@[simp] theorem Dev.setAnv_irqB (x : AnvSt) : (d.setAnv x).irqB = d.irqB := rfl
@[simp] theorem Dev.setAnv_free (x : AnvSt) : (d.setAnv x).free = d.free := rfl
@[simp] theorem Dev.setAnv_reg (x : AnvSt) (r : Nat) : (d.setAnv x).reg r = d.reg r := rfl
@[simp] theorem Dev.setAnv_get (x : AnvSt) (f : Fld) : (d.setAnv x).get f = d.get f := rfl
@[simp] theorem Dev.setAnv_on (x : AnvSt) (f : Fld) : (d.setAnv x).on f = d.on f := rfl

@[simp] theorem Dev.setTcmp_regs (n : Nat) (x : TcmpSt) : (d.setTcmp n x).regs = d.regs := rfl
@[simp] theorem Dev.setTcmp_ports (n : Nat) (x : TcmpSt) : (d.setTcmp n x).ports = d.ports := rfl
@[simp] theorem Dev.setTcmp_ign (n : Nat) (x : TcmpSt) : (d.setTcmp n x).ign = d.ign := rfl
@[simp] theorem Dev.setTcmp_mbx (n : Nat) (x : TcmpSt) : (d.setTcmp n x).mbx = d.mbx := rfl
@[simp] theorem Dev.setTcmp_clk (n : Nat) (x : TcmpSt) : (d.setTcmp n x).clk = d.clk := rfl
@[simp] theorem Dev.setTcmp_ticks (n : Nat) (x : TcmpSt) : (d.setTcmp n x).ticks = d.ticks := rfl
@[simp] theorem Dev.setTcmp_xing (n : Nat) (x : TcmpSt) : (d.setTcmp n x).xing = d.xing := rfl
@[simp] theorem Dev.setTcmp_hq (n : Nat) (x : TcmpSt) : (d.setTcmp n x).hq = d.hq := rfl
@[simp] theorem Dev.setTcmp_ptp (n : Nat) (x : TcmpSt) : (d.setTcmp n x).ptp = d.ptp := rfl
@[simp] theorem Dev.setTcmp_mcg (n : Nat) (x : TcmpSt) : (d.setTcmp n x).mcg = d.mcg := rfl
@[simp] theorem Dev.setTcmp_net (n : Nat) (x : TcmpSt) : (d.setTcmp n x).net = d.net := rfl
@[simp] theorem Dev.setTcmp_nextFrame (n : Nat) (x : TcmpSt) : (d.setTcmp n x).nextFrame = d.nextFrame := rfl
@[simp] theorem Dev.setTcmp_handed (n : Nat) (x : TcmpSt) : (d.setTcmp n x).handed = d.handed := rfl
@[simp] theorem Dev.setTcmp_snap (n : Nat) (x : TcmpSt) : (d.setTcmp n x).snap = d.snap := rfl
@[simp] theorem Dev.setTcmp_snapHeld (n : Nat) (x : TcmpSt) : (d.setTcmp n x).snapHeld = d.snapHeld := rfl
@[simp] theorem Dev.setTcmp_mdio (n : Nat) (x : TcmpSt) : (d.setTcmp n x).mdio = d.mdio := rfl
@[simp] theorem Dev.setTcmp_mio (n : Nat) (x : TcmpSt) : (d.setTcmp n x).mio = d.mio := rfl
@[simp] theorem Dev.setTcmp_stx (n : Nat) (x : TcmpSt) : (d.setTcmp n x).stx = d.stx := rfl
@[simp] theorem Dev.setTcmp_srx (n : Nat) (x : TcmpSt) : (d.setTcmp n x).srx = d.srx := rfl
@[simp] theorem Dev.setTcmp_stxOrder (n : Nat) (x : TcmpSt) : (d.setTcmp n x).stxOrder = d.stxOrder := rfl
@[simp] theorem Dev.setTcmp_srxOrder (n : Nat) (x : TcmpSt) : (d.setTcmp n x).srxOrder = d.srxOrder := rfl
@[simp] theorem Dev.setTcmp_stxNow (n : Nat) (x : TcmpSt) : (d.setTcmp n x).stxNow = d.stxNow := rfl
@[simp] theorem Dev.setTcmp_srxNow (n : Nat) (x : TcmpSt) : (d.setTcmp n x).srxNow = d.srxNow := rfl
@[simp] theorem Dev.setTcmp_stxHeld (n : Nat) (x : TcmpSt) : (d.setTcmp n x).stxHeld = d.stxHeld := rfl
@[simp] theorem Dev.setTcmp_srxHeld (n : Nat) (x : TcmpSt) : (d.setTcmp n x).srxHeld = d.srxHeld := rfl
@[simp] theorem Dev.setTcmp_rings (n : Nat) (x : TcmpSt) : (d.setTcmp n x).rings = d.rings := rfl
@[simp] theorem Dev.setTcmp_sap (n : Nat) (x : TcmpSt) : (d.setTcmp n x).sap = d.sap := rfl
@[simp] theorem Dev.setTcmp_ddr (n : Nat) (x : TcmpSt) : (d.setTcmp n x).ddr = d.ddr := rfl
@[simp] theorem Dev.setTcmp_anv (n : Nat) (x : TcmpSt) : (d.setTcmp n x).anv = d.anv := rfl
@[simp] theorem Dev.setTcmp_store (n : Nat) (x : TcmpSt) : (d.setTcmp n x).store = d.store := rfl
@[simp] theorem Dev.setTcmp_cue (n : Nat) (x : TcmpSt) : (d.setTcmp n x).cue = d.cue := rfl
@[simp] theorem Dev.setTcmp_cueIn (n : Nat) (x : TcmpSt) : (d.setTcmp n x).cueIn = d.cueIn := rfl
@[simp] theorem Dev.setTcmp_t1s (n : Nat) (x : TcmpSt) : (d.setTcmp n x).t1s = d.t1s := rfl
@[simp] theorem Dev.setTcmp_halo (n : Nat) (x : TcmpSt) : (d.setTcmp n x).halo = d.halo := rfl
@[simp] theorem Dev.setTcmp_pwr (n : Nat) (x : TcmpSt) : (d.setTcmp n x).pwr = d.pwr := rfl
@[simp] theorem Dev.setTcmp_rql (n : Nat) (x : TcmpSt) : (d.setTcmp n x).rql = d.rql := rfl
@[simp] theorem Dev.setTcmp_wipeDone (n : Nat) (x : TcmpSt) : (d.setTcmp n x).wipeDone = d.wipeDone := rfl
@[simp] theorem Dev.setTcmp_boot (n : Nat) (x : TcmpSt) : (d.setTcmp n x).boot = d.boot := rfl
@[simp] theorem Dev.setTcmp_nvm (n : Nat) (x : TcmpSt) : (d.setTcmp n x).nvm = d.nvm := rfl
@[simp] theorem Dev.setTcmp_poison (n : Nat) (x : TcmpSt) : (d.setTcmp n x).poison = d.poison := rfl
@[simp] theorem Dev.setTcmp_lanesRec (n : Nat) (x : TcmpSt) : (d.setTcmp n x).lanesRec = d.lanesRec := rfl
@[simp] theorem Dev.setTcmp_wbPend (n : Nat) (x : TcmpSt) : (d.setTcmp n x).wbPend = d.wbPend := rfl
@[simp] theorem Dev.setTcmp_integ (n : Nat) (x : TcmpSt) : (d.setTcmp n x).integ = d.integ := rfl
@[simp] theorem Dev.setTcmp_pin (n : Nat) (x : TcmpSt) : (d.setTcmp n x).pin = d.pin := rfl
@[simp] theorem Dev.setTcmp_jtag (n : Nat) (x : TcmpSt) : (d.setTcmp n x).jtag = d.jtag := rfl
@[simp] theorem Dev.setTcmp_tbl (n : Nat) (x : TcmpSt) : (d.setTcmp n x).tbl = d.tbl := rfl
@[simp] theorem Dev.setTcmp_irqA (n : Nat) (x : TcmpSt) : (d.setTcmp n x).irqA = d.irqA := rfl
@[simp] theorem Dev.setTcmp_irqB (n : Nat) (x : TcmpSt) : (d.setTcmp n x).irqB = d.irqB := rfl
@[simp] theorem Dev.setTcmp_free (n : Nat) (x : TcmpSt) : (d.setTcmp n x).free = d.free := rfl
@[simp] theorem Dev.setTcmp_reg (n : Nat) (x : TcmpSt) (r : Nat) : (d.setTcmp n x).reg r = d.reg r := rfl
@[simp] theorem Dev.setTcmp_get (n : Nat) (x : TcmpSt) (f : Fld) : (d.setTcmp n x).get f = d.get f := rfl
@[simp] theorem Dev.setTcmp_on (n : Nat) (x : TcmpSt) (f : Fld) : (d.setTcmp n x).on f = d.on f := rfl

@[simp] theorem Dev.setCue_regs (c : Nat) (x : CueSt) : (d.setCue c x).regs = d.regs := rfl
@[simp] theorem Dev.setCue_ports (c : Nat) (x : CueSt) : (d.setCue c x).ports = d.ports := rfl
@[simp] theorem Dev.setCue_ign (c : Nat) (x : CueSt) : (d.setCue c x).ign = d.ign := rfl
@[simp] theorem Dev.setCue_mbx (c : Nat) (x : CueSt) : (d.setCue c x).mbx = d.mbx := rfl
@[simp] theorem Dev.setCue_clk (c : Nat) (x : CueSt) : (d.setCue c x).clk = d.clk := rfl
@[simp] theorem Dev.setCue_ticks (c : Nat) (x : CueSt) : (d.setCue c x).ticks = d.ticks := rfl
@[simp] theorem Dev.setCue_xing (c : Nat) (x : CueSt) : (d.setCue c x).xing = d.xing := rfl
@[simp] theorem Dev.setCue_time (c : Nat) (x : CueSt) : (d.setCue c x).time = d.time := rfl
@[simp] theorem Dev.setCue_hq (c : Nat) (x : CueSt) : (d.setCue c x).hq = d.hq := rfl
@[simp] theorem Dev.setCue_ptp (c : Nat) (x : CueSt) : (d.setCue c x).ptp = d.ptp := rfl
@[simp] theorem Dev.setCue_mcg (c : Nat) (x : CueSt) : (d.setCue c x).mcg = d.mcg := rfl
@[simp] theorem Dev.setCue_net (c : Nat) (x : CueSt) : (d.setCue c x).net = d.net := rfl
@[simp] theorem Dev.setCue_nextFrame (c : Nat) (x : CueSt) : (d.setCue c x).nextFrame = d.nextFrame := rfl
@[simp] theorem Dev.setCue_handed (c : Nat) (x : CueSt) : (d.setCue c x).handed = d.handed := rfl
@[simp] theorem Dev.setCue_snap (c : Nat) (x : CueSt) : (d.setCue c x).snap = d.snap := rfl
@[simp] theorem Dev.setCue_snapHeld (c : Nat) (x : CueSt) : (d.setCue c x).snapHeld = d.snapHeld := rfl
@[simp] theorem Dev.setCue_mdio (c : Nat) (x : CueSt) : (d.setCue c x).mdio = d.mdio := rfl
@[simp] theorem Dev.setCue_mio (c : Nat) (x : CueSt) : (d.setCue c x).mio = d.mio := rfl
@[simp] theorem Dev.setCue_stx (c : Nat) (x : CueSt) : (d.setCue c x).stx = d.stx := rfl
@[simp] theorem Dev.setCue_srx (c : Nat) (x : CueSt) : (d.setCue c x).srx = d.srx := rfl
@[simp] theorem Dev.setCue_stxOrder (c : Nat) (x : CueSt) : (d.setCue c x).stxOrder = d.stxOrder := rfl
@[simp] theorem Dev.setCue_srxOrder (c : Nat) (x : CueSt) : (d.setCue c x).srxOrder = d.srxOrder := rfl
@[simp] theorem Dev.setCue_stxNow (c : Nat) (x : CueSt) : (d.setCue c x).stxNow = d.stxNow := rfl
@[simp] theorem Dev.setCue_srxNow (c : Nat) (x : CueSt) : (d.setCue c x).srxNow = d.srxNow := rfl
@[simp] theorem Dev.setCue_stxHeld (c : Nat) (x : CueSt) : (d.setCue c x).stxHeld = d.stxHeld := rfl
@[simp] theorem Dev.setCue_srxHeld (c : Nat) (x : CueSt) : (d.setCue c x).srxHeld = d.srxHeld := rfl
@[simp] theorem Dev.setCue_rings (c : Nat) (x : CueSt) : (d.setCue c x).rings = d.rings := rfl
@[simp] theorem Dev.setCue_sap (c : Nat) (x : CueSt) : (d.setCue c x).sap = d.sap := rfl
@[simp] theorem Dev.setCue_ddr (c : Nat) (x : CueSt) : (d.setCue c x).ddr = d.ddr := rfl
@[simp] theorem Dev.setCue_anv (c : Nat) (x : CueSt) : (d.setCue c x).anv = d.anv := rfl
@[simp] theorem Dev.setCue_store (c : Nat) (x : CueSt) : (d.setCue c x).store = d.store := rfl
@[simp] theorem Dev.setCue_cueIn (c : Nat) (x : CueSt) : (d.setCue c x).cueIn = d.cueIn := rfl
@[simp] theorem Dev.setCue_t1s (c : Nat) (x : CueSt) : (d.setCue c x).t1s = d.t1s := rfl
@[simp] theorem Dev.setCue_halo (c : Nat) (x : CueSt) : (d.setCue c x).halo = d.halo := rfl
@[simp] theorem Dev.setCue_pwr (c : Nat) (x : CueSt) : (d.setCue c x).pwr = d.pwr := rfl
@[simp] theorem Dev.setCue_rql (c : Nat) (x : CueSt) : (d.setCue c x).rql = d.rql := rfl
@[simp] theorem Dev.setCue_wipeDone (c : Nat) (x : CueSt) : (d.setCue c x).wipeDone = d.wipeDone := rfl
@[simp] theorem Dev.setCue_boot (c : Nat) (x : CueSt) : (d.setCue c x).boot = d.boot := rfl
@[simp] theorem Dev.setCue_nvm (c : Nat) (x : CueSt) : (d.setCue c x).nvm = d.nvm := rfl
@[simp] theorem Dev.setCue_poison (c : Nat) (x : CueSt) : (d.setCue c x).poison = d.poison := rfl
@[simp] theorem Dev.setCue_lanesRec (c : Nat) (x : CueSt) : (d.setCue c x).lanesRec = d.lanesRec := rfl
@[simp] theorem Dev.setCue_wbPend (c : Nat) (x : CueSt) : (d.setCue c x).wbPend = d.wbPend := rfl
@[simp] theorem Dev.setCue_integ (c : Nat) (x : CueSt) : (d.setCue c x).integ = d.integ := rfl
@[simp] theorem Dev.setCue_pin (c : Nat) (x : CueSt) : (d.setCue c x).pin = d.pin := rfl
@[simp] theorem Dev.setCue_jtag (c : Nat) (x : CueSt) : (d.setCue c x).jtag = d.jtag := rfl
@[simp] theorem Dev.setCue_tbl (c : Nat) (x : CueSt) : (d.setCue c x).tbl = d.tbl := rfl
@[simp] theorem Dev.setCue_irqA (c : Nat) (x : CueSt) : (d.setCue c x).irqA = d.irqA := rfl
@[simp] theorem Dev.setCue_irqB (c : Nat) (x : CueSt) : (d.setCue c x).irqB = d.irqB := rfl
@[simp] theorem Dev.setCue_free (c : Nat) (x : CueSt) : (d.setCue c x).free = d.free := rfl
@[simp] theorem Dev.setCue_reg (c : Nat) (x : CueSt) (r : Nat) : (d.setCue c x).reg r = d.reg r := rfl
@[simp] theorem Dev.setCue_get (c : Nat) (x : CueSt) (f : Fld) : (d.setCue c x).get f = d.get f := rfl
@[simp] theorem Dev.setCue_on (c : Nat) (x : CueSt) (f : Fld) : (d.setCue c x).on f = d.on f := rfl

@[simp] theorem Dev.setMioNet_regs (k : Nat) (x : MioNet) : (d.setMioNet k x).regs = d.regs := rfl
@[simp] theorem Dev.setMioNet_ports (k : Nat) (x : MioNet) : (d.setMioNet k x).ports = d.ports := rfl
@[simp] theorem Dev.setMioNet_ign (k : Nat) (x : MioNet) : (d.setMioNet k x).ign = d.ign := rfl
@[simp] theorem Dev.setMioNet_mbx (k : Nat) (x : MioNet) : (d.setMioNet k x).mbx = d.mbx := rfl
@[simp] theorem Dev.setMioNet_clk (k : Nat) (x : MioNet) : (d.setMioNet k x).clk = d.clk := rfl
@[simp] theorem Dev.setMioNet_ticks (k : Nat) (x : MioNet) : (d.setMioNet k x).ticks = d.ticks := rfl
@[simp] theorem Dev.setMioNet_xing (k : Nat) (x : MioNet) : (d.setMioNet k x).xing = d.xing := rfl
@[simp] theorem Dev.setMioNet_time (k : Nat) (x : MioNet) : (d.setMioNet k x).time = d.time := rfl
@[simp] theorem Dev.setMioNet_hq (k : Nat) (x : MioNet) : (d.setMioNet k x).hq = d.hq := rfl
@[simp] theorem Dev.setMioNet_ptp (k : Nat) (x : MioNet) : (d.setMioNet k x).ptp = d.ptp := rfl
@[simp] theorem Dev.setMioNet_mcg (k : Nat) (x : MioNet) : (d.setMioNet k x).mcg = d.mcg := rfl
@[simp] theorem Dev.setMioNet_net (k : Nat) (x : MioNet) : (d.setMioNet k x).net = d.net := rfl
@[simp] theorem Dev.setMioNet_nextFrame (k : Nat) (x : MioNet) : (d.setMioNet k x).nextFrame = d.nextFrame := rfl
@[simp] theorem Dev.setMioNet_handed (k : Nat) (x : MioNet) : (d.setMioNet k x).handed = d.handed := rfl
@[simp] theorem Dev.setMioNet_snap (k : Nat) (x : MioNet) : (d.setMioNet k x).snap = d.snap := rfl
@[simp] theorem Dev.setMioNet_snapHeld (k : Nat) (x : MioNet) : (d.setMioNet k x).snapHeld = d.snapHeld := rfl
@[simp] theorem Dev.setMioNet_mdio (k : Nat) (x : MioNet) : (d.setMioNet k x).mdio = d.mdio := rfl
@[simp] theorem Dev.setMioNet_stx (k : Nat) (x : MioNet) : (d.setMioNet k x).stx = d.stx := rfl
@[simp] theorem Dev.setMioNet_srx (k : Nat) (x : MioNet) : (d.setMioNet k x).srx = d.srx := rfl
@[simp] theorem Dev.setMioNet_stxOrder (k : Nat) (x : MioNet) : (d.setMioNet k x).stxOrder = d.stxOrder := rfl
@[simp] theorem Dev.setMioNet_srxOrder (k : Nat) (x : MioNet) : (d.setMioNet k x).srxOrder = d.srxOrder := rfl
@[simp] theorem Dev.setMioNet_stxNow (k : Nat) (x : MioNet) : (d.setMioNet k x).stxNow = d.stxNow := rfl
@[simp] theorem Dev.setMioNet_srxNow (k : Nat) (x : MioNet) : (d.setMioNet k x).srxNow = d.srxNow := rfl
@[simp] theorem Dev.setMioNet_stxHeld (k : Nat) (x : MioNet) : (d.setMioNet k x).stxHeld = d.stxHeld := rfl
@[simp] theorem Dev.setMioNet_srxHeld (k : Nat) (x : MioNet) : (d.setMioNet k x).srxHeld = d.srxHeld := rfl
@[simp] theorem Dev.setMioNet_rings (k : Nat) (x : MioNet) : (d.setMioNet k x).rings = d.rings := rfl
@[simp] theorem Dev.setMioNet_sap (k : Nat) (x : MioNet) : (d.setMioNet k x).sap = d.sap := rfl
@[simp] theorem Dev.setMioNet_ddr (k : Nat) (x : MioNet) : (d.setMioNet k x).ddr = d.ddr := rfl
@[simp] theorem Dev.setMioNet_anv (k : Nat) (x : MioNet) : (d.setMioNet k x).anv = d.anv := rfl
@[simp] theorem Dev.setMioNet_store (k : Nat) (x : MioNet) : (d.setMioNet k x).store = d.store := rfl
@[simp] theorem Dev.setMioNet_cue (k : Nat) (x : MioNet) : (d.setMioNet k x).cue = d.cue := rfl
@[simp] theorem Dev.setMioNet_cueIn (k : Nat) (x : MioNet) : (d.setMioNet k x).cueIn = d.cueIn := rfl
@[simp] theorem Dev.setMioNet_t1s (k : Nat) (x : MioNet) : (d.setMioNet k x).t1s = d.t1s := rfl
@[simp] theorem Dev.setMioNet_halo (k : Nat) (x : MioNet) : (d.setMioNet k x).halo = d.halo := rfl
@[simp] theorem Dev.setMioNet_pwr (k : Nat) (x : MioNet) : (d.setMioNet k x).pwr = d.pwr := rfl
@[simp] theorem Dev.setMioNet_rql (k : Nat) (x : MioNet) : (d.setMioNet k x).rql = d.rql := rfl
@[simp] theorem Dev.setMioNet_wipeDone (k : Nat) (x : MioNet) : (d.setMioNet k x).wipeDone = d.wipeDone := rfl
@[simp] theorem Dev.setMioNet_boot (k : Nat) (x : MioNet) : (d.setMioNet k x).boot = d.boot := rfl
@[simp] theorem Dev.setMioNet_nvm (k : Nat) (x : MioNet) : (d.setMioNet k x).nvm = d.nvm := rfl
@[simp] theorem Dev.setMioNet_poison (k : Nat) (x : MioNet) : (d.setMioNet k x).poison = d.poison := rfl
@[simp] theorem Dev.setMioNet_lanesRec (k : Nat) (x : MioNet) : (d.setMioNet k x).lanesRec = d.lanesRec := rfl
@[simp] theorem Dev.setMioNet_wbPend (k : Nat) (x : MioNet) : (d.setMioNet k x).wbPend = d.wbPend := rfl
@[simp] theorem Dev.setMioNet_integ (k : Nat) (x : MioNet) : (d.setMioNet k x).integ = d.integ := rfl
@[simp] theorem Dev.setMioNet_pin (k : Nat) (x : MioNet) : (d.setMioNet k x).pin = d.pin := rfl
@[simp] theorem Dev.setMioNet_jtag (k : Nat) (x : MioNet) : (d.setMioNet k x).jtag = d.jtag := rfl
@[simp] theorem Dev.setMioNet_tbl (k : Nat) (x : MioNet) : (d.setMioNet k x).tbl = d.tbl := rfl
@[simp] theorem Dev.setMioNet_irqA (k : Nat) (x : MioNet) : (d.setMioNet k x).irqA = d.irqA := rfl
@[simp] theorem Dev.setMioNet_irqB (k : Nat) (x : MioNet) : (d.setMioNet k x).irqB = d.irqB := rfl
@[simp] theorem Dev.setMioNet_free (k : Nat) (x : MioNet) : (d.setMioNet k x).free = d.free := rfl
@[simp] theorem Dev.setMioNet_reg (k : Nat) (x : MioNet) (r : Nat) : (d.setMioNet k x).reg r = d.reg r := rfl
@[simp] theorem Dev.setMioNet_get (k : Nat) (x : MioNet) (f : Fld) : (d.setMioNet k x).get f = d.get f := rfl
@[simp] theorem Dev.setMioNet_on (k : Nat) (x : MioNet) (f : Fld) : (d.setMioNet k x).on f = d.on f := rfl

@[simp] theorem Dev.setMioPort_regs (n : Nat) (x : MioPort) : (d.setMioPort n x).regs = d.regs := rfl
@[simp] theorem Dev.setMioPort_ports (n : Nat) (x : MioPort) : (d.setMioPort n x).ports = d.ports := rfl
@[simp] theorem Dev.setMioPort_ign (n : Nat) (x : MioPort) : (d.setMioPort n x).ign = d.ign := rfl
@[simp] theorem Dev.setMioPort_mbx (n : Nat) (x : MioPort) : (d.setMioPort n x).mbx = d.mbx := rfl
@[simp] theorem Dev.setMioPort_clk (n : Nat) (x : MioPort) : (d.setMioPort n x).clk = d.clk := rfl
@[simp] theorem Dev.setMioPort_ticks (n : Nat) (x : MioPort) : (d.setMioPort n x).ticks = d.ticks := rfl
@[simp] theorem Dev.setMioPort_xing (n : Nat) (x : MioPort) : (d.setMioPort n x).xing = d.xing := rfl
@[simp] theorem Dev.setMioPort_time (n : Nat) (x : MioPort) : (d.setMioPort n x).time = d.time := rfl
@[simp] theorem Dev.setMioPort_hq (n : Nat) (x : MioPort) : (d.setMioPort n x).hq = d.hq := rfl
@[simp] theorem Dev.setMioPort_ptp (n : Nat) (x : MioPort) : (d.setMioPort n x).ptp = d.ptp := rfl
@[simp] theorem Dev.setMioPort_mcg (n : Nat) (x : MioPort) : (d.setMioPort n x).mcg = d.mcg := rfl
@[simp] theorem Dev.setMioPort_net (n : Nat) (x : MioPort) : (d.setMioPort n x).net = d.net := rfl
@[simp] theorem Dev.setMioPort_nextFrame (n : Nat) (x : MioPort) : (d.setMioPort n x).nextFrame = d.nextFrame := rfl
@[simp] theorem Dev.setMioPort_handed (n : Nat) (x : MioPort) : (d.setMioPort n x).handed = d.handed := rfl
@[simp] theorem Dev.setMioPort_snap (n : Nat) (x : MioPort) : (d.setMioPort n x).snap = d.snap := rfl
@[simp] theorem Dev.setMioPort_snapHeld (n : Nat) (x : MioPort) : (d.setMioPort n x).snapHeld = d.snapHeld := rfl
@[simp] theorem Dev.setMioPort_mdio (n : Nat) (x : MioPort) : (d.setMioPort n x).mdio = d.mdio := rfl
@[simp] theorem Dev.setMioPort_stx (n : Nat) (x : MioPort) : (d.setMioPort n x).stx = d.stx := rfl
@[simp] theorem Dev.setMioPort_srx (n : Nat) (x : MioPort) : (d.setMioPort n x).srx = d.srx := rfl
@[simp] theorem Dev.setMioPort_stxOrder (n : Nat) (x : MioPort) : (d.setMioPort n x).stxOrder = d.stxOrder := rfl
@[simp] theorem Dev.setMioPort_srxOrder (n : Nat) (x : MioPort) : (d.setMioPort n x).srxOrder = d.srxOrder := rfl
@[simp] theorem Dev.setMioPort_stxNow (n : Nat) (x : MioPort) : (d.setMioPort n x).stxNow = d.stxNow := rfl
@[simp] theorem Dev.setMioPort_srxNow (n : Nat) (x : MioPort) : (d.setMioPort n x).srxNow = d.srxNow := rfl
@[simp] theorem Dev.setMioPort_stxHeld (n : Nat) (x : MioPort) : (d.setMioPort n x).stxHeld = d.stxHeld := rfl
@[simp] theorem Dev.setMioPort_srxHeld (n : Nat) (x : MioPort) : (d.setMioPort n x).srxHeld = d.srxHeld := rfl
@[simp] theorem Dev.setMioPort_rings (n : Nat) (x : MioPort) : (d.setMioPort n x).rings = d.rings := rfl
@[simp] theorem Dev.setMioPort_sap (n : Nat) (x : MioPort) : (d.setMioPort n x).sap = d.sap := rfl
@[simp] theorem Dev.setMioPort_ddr (n : Nat) (x : MioPort) : (d.setMioPort n x).ddr = d.ddr := rfl
@[simp] theorem Dev.setMioPort_anv (n : Nat) (x : MioPort) : (d.setMioPort n x).anv = d.anv := rfl
@[simp] theorem Dev.setMioPort_store (n : Nat) (x : MioPort) : (d.setMioPort n x).store = d.store := rfl
@[simp] theorem Dev.setMioPort_cue (n : Nat) (x : MioPort) : (d.setMioPort n x).cue = d.cue := rfl
@[simp] theorem Dev.setMioPort_cueIn (n : Nat) (x : MioPort) : (d.setMioPort n x).cueIn = d.cueIn := rfl
@[simp] theorem Dev.setMioPort_t1s (n : Nat) (x : MioPort) : (d.setMioPort n x).t1s = d.t1s := rfl
@[simp] theorem Dev.setMioPort_halo (n : Nat) (x : MioPort) : (d.setMioPort n x).halo = d.halo := rfl
@[simp] theorem Dev.setMioPort_pwr (n : Nat) (x : MioPort) : (d.setMioPort n x).pwr = d.pwr := rfl
@[simp] theorem Dev.setMioPort_rql (n : Nat) (x : MioPort) : (d.setMioPort n x).rql = d.rql := rfl
@[simp] theorem Dev.setMioPort_wipeDone (n : Nat) (x : MioPort) : (d.setMioPort n x).wipeDone = d.wipeDone := rfl
@[simp] theorem Dev.setMioPort_boot (n : Nat) (x : MioPort) : (d.setMioPort n x).boot = d.boot := rfl
@[simp] theorem Dev.setMioPort_nvm (n : Nat) (x : MioPort) : (d.setMioPort n x).nvm = d.nvm := rfl
@[simp] theorem Dev.setMioPort_poison (n : Nat) (x : MioPort) : (d.setMioPort n x).poison = d.poison := rfl
@[simp] theorem Dev.setMioPort_lanesRec (n : Nat) (x : MioPort) : (d.setMioPort n x).lanesRec = d.lanesRec := rfl
@[simp] theorem Dev.setMioPort_wbPend (n : Nat) (x : MioPort) : (d.setMioPort n x).wbPend = d.wbPend := rfl
@[simp] theorem Dev.setMioPort_integ (n : Nat) (x : MioPort) : (d.setMioPort n x).integ = d.integ := rfl
@[simp] theorem Dev.setMioPort_pin (n : Nat) (x : MioPort) : (d.setMioPort n x).pin = d.pin := rfl
@[simp] theorem Dev.setMioPort_jtag (n : Nat) (x : MioPort) : (d.setMioPort n x).jtag = d.jtag := rfl
@[simp] theorem Dev.setMioPort_tbl (n : Nat) (x : MioPort) : (d.setMioPort n x).tbl = d.tbl := rfl
@[simp] theorem Dev.setMioPort_irqA (n : Nat) (x : MioPort) : (d.setMioPort n x).irqA = d.irqA := rfl
@[simp] theorem Dev.setMioPort_irqB (n : Nat) (x : MioPort) : (d.setMioPort n x).irqB = d.irqB := rfl
@[simp] theorem Dev.setMioPort_free (n : Nat) (x : MioPort) : (d.setMioPort n x).free = d.free := rfl
@[simp] theorem Dev.setMioPort_reg (n : Nat) (x : MioPort) (r : Nat) : (d.setMioPort n x).reg r = d.reg r := rfl
@[simp] theorem Dev.setMioPort_get (n : Nat) (x : MioPort) (f : Fld) : (d.setMioPort n x).get f = d.get f := rfl
@[simp] theorem Dev.setMioPort_on (n : Nat) (x : MioPort) (f : Fld) : (d.setMioPort n x).on f = d.on f := rfl

@[simp] theorem Dev.put_ports (f : Fld) (v : Nat) : (d.put f v).ports = d.ports := Dev.setReg_ports d _ _
@[simp] theorem Dev.put_ign (f : Fld) (v : Nat) : (d.put f v).ign = d.ign := Dev.setReg_ign d _ _
@[simp] theorem Dev.put_mbx (f : Fld) (v : Nat) : (d.put f v).mbx = d.mbx := Dev.setReg_mbx d _ _
@[simp] theorem Dev.put_clk (f : Fld) (v : Nat) : (d.put f v).clk = d.clk := Dev.setReg_clk d _ _
@[simp] theorem Dev.put_ticks (f : Fld) (v : Nat) : (d.put f v).ticks = d.ticks := Dev.setReg_ticks d _ _
@[simp] theorem Dev.put_xing (f : Fld) (v : Nat) : (d.put f v).xing = d.xing := Dev.setReg_xing d _ _
@[simp] theorem Dev.put_time (f : Fld) (v : Nat) : (d.put f v).time = d.time := Dev.setReg_time d _ _
@[simp] theorem Dev.put_hq (f : Fld) (v : Nat) : (d.put f v).hq = d.hq := Dev.setReg_hq d _ _
@[simp] theorem Dev.put_ptp (f : Fld) (v : Nat) : (d.put f v).ptp = d.ptp := Dev.setReg_ptp d _ _
@[simp] theorem Dev.put_mcg (f : Fld) (v : Nat) : (d.put f v).mcg = d.mcg := Dev.setReg_mcg d _ _
@[simp] theorem Dev.put_net (f : Fld) (v : Nat) : (d.put f v).net = d.net := Dev.setReg_net d _ _
@[simp] theorem Dev.put_nextFrame (f : Fld) (v : Nat) : (d.put f v).nextFrame = d.nextFrame := Dev.setReg_nextFrame d _ _
@[simp] theorem Dev.put_handed (f : Fld) (v : Nat) : (d.put f v).handed = d.handed := Dev.setReg_handed d _ _
@[simp] theorem Dev.put_snap (f : Fld) (v : Nat) : (d.put f v).snap = d.snap := Dev.setReg_snap d _ _
@[simp] theorem Dev.put_snapHeld (f : Fld) (v : Nat) : (d.put f v).snapHeld = d.snapHeld := Dev.setReg_snapHeld d _ _
@[simp] theorem Dev.put_mdio (f : Fld) (v : Nat) : (d.put f v).mdio = d.mdio := Dev.setReg_mdio d _ _
@[simp] theorem Dev.put_mio (f : Fld) (v : Nat) : (d.put f v).mio = d.mio := Dev.setReg_mio d _ _
@[simp] theorem Dev.put_stx (f : Fld) (v : Nat) : (d.put f v).stx = d.stx := Dev.setReg_stx d _ _
@[simp] theorem Dev.put_srx (f : Fld) (v : Nat) : (d.put f v).srx = d.srx := Dev.setReg_srx d _ _
@[simp] theorem Dev.put_stxOrder (f : Fld) (v : Nat) : (d.put f v).stxOrder = d.stxOrder := Dev.setReg_stxOrder d _ _
@[simp] theorem Dev.put_srxOrder (f : Fld) (v : Nat) : (d.put f v).srxOrder = d.srxOrder := Dev.setReg_srxOrder d _ _
@[simp] theorem Dev.put_stxNow (f : Fld) (v : Nat) : (d.put f v).stxNow = d.stxNow := Dev.setReg_stxNow d _ _
@[simp] theorem Dev.put_srxNow (f : Fld) (v : Nat) : (d.put f v).srxNow = d.srxNow := Dev.setReg_srxNow d _ _
@[simp] theorem Dev.put_stxHeld (f : Fld) (v : Nat) : (d.put f v).stxHeld = d.stxHeld := Dev.setReg_stxHeld d _ _
@[simp] theorem Dev.put_srxHeld (f : Fld) (v : Nat) : (d.put f v).srxHeld = d.srxHeld := Dev.setReg_srxHeld d _ _
@[simp] theorem Dev.put_rings (f : Fld) (v : Nat) : (d.put f v).rings = d.rings := Dev.setReg_rings d _ _
@[simp] theorem Dev.put_sap (f : Fld) (v : Nat) : (d.put f v).sap = d.sap := Dev.setReg_sap d _ _
@[simp] theorem Dev.put_ddr (f : Fld) (v : Nat) : (d.put f v).ddr = d.ddr := Dev.setReg_ddr d _ _
@[simp] theorem Dev.put_anv (f : Fld) (v : Nat) : (d.put f v).anv = d.anv := Dev.setReg_anv d _ _
@[simp] theorem Dev.put_store (f : Fld) (v : Nat) : (d.put f v).store = d.store := Dev.setReg_store d _ _
@[simp] theorem Dev.put_cue (f : Fld) (v : Nat) : (d.put f v).cue = d.cue := Dev.setReg_cue d _ _
@[simp] theorem Dev.put_cueIn (f : Fld) (v : Nat) : (d.put f v).cueIn = d.cueIn := Dev.setReg_cueIn d _ _
@[simp] theorem Dev.put_t1s (f : Fld) (v : Nat) : (d.put f v).t1s = d.t1s := Dev.setReg_t1s d _ _
@[simp] theorem Dev.put_halo (f : Fld) (v : Nat) : (d.put f v).halo = d.halo := Dev.setReg_halo d _ _
@[simp] theorem Dev.put_pwr (f : Fld) (v : Nat) : (d.put f v).pwr = d.pwr := Dev.setReg_pwr d _ _
@[simp] theorem Dev.put_rql (f : Fld) (v : Nat) : (d.put f v).rql = d.rql := Dev.setReg_rql d _ _
@[simp] theorem Dev.put_wipeDone (f : Fld) (v : Nat) : (d.put f v).wipeDone = d.wipeDone := Dev.setReg_wipeDone d _ _
@[simp] theorem Dev.put_boot (f : Fld) (v : Nat) : (d.put f v).boot = d.boot := Dev.setReg_boot d _ _
@[simp] theorem Dev.put_nvm (f : Fld) (v : Nat) : (d.put f v).nvm = d.nvm := Dev.setReg_nvm d _ _
@[simp] theorem Dev.put_poison (f : Fld) (v : Nat) : (d.put f v).poison = d.poison := Dev.setReg_poison d _ _
@[simp] theorem Dev.put_lanesRec (f : Fld) (v : Nat) : (d.put f v).lanesRec = d.lanesRec := Dev.setReg_lanesRec d _ _
@[simp] theorem Dev.put_wbPend (f : Fld) (v : Nat) : (d.put f v).wbPend = d.wbPend := Dev.setReg_wbPend d _ _
@[simp] theorem Dev.put_integ (f : Fld) (v : Nat) : (d.put f v).integ = d.integ := Dev.setReg_integ d _ _
@[simp] theorem Dev.put_pin (f : Fld) (v : Nat) : (d.put f v).pin = d.pin := Dev.setReg_pin d _ _
@[simp] theorem Dev.put_jtag (f : Fld) (v : Nat) : (d.put f v).jtag = d.jtag := Dev.setReg_jtag d _ _
@[simp] theorem Dev.put_tbl (f : Fld) (v : Nat) : (d.put f v).tbl = d.tbl := Dev.setReg_tbl d _ _
@[simp] theorem Dev.put_irqA (f : Fld) (v : Nat) : (d.put f v).irqA = d.irqA := Dev.setReg_irqA d _ _
@[simp] theorem Dev.put_irqB (f : Fld) (v : Nat) : (d.put f v).irqB = d.irqB := Dev.setReg_irqB d _ _
@[simp] theorem Dev.put_free (f : Fld) (v : Nat) : (d.put f v).free = d.free := Dev.setReg_free d _ _

@[simp] theorem Dev.putB_ports (f : Fld) (b : Bool) : (d.putB f b).ports = d.ports := Dev.put_ports d _ _
@[simp] theorem Dev.putB_ign (f : Fld) (b : Bool) : (d.putB f b).ign = d.ign := Dev.put_ign d _ _
@[simp] theorem Dev.putB_mbx (f : Fld) (b : Bool) : (d.putB f b).mbx = d.mbx := Dev.put_mbx d _ _
@[simp] theorem Dev.putB_clk (f : Fld) (b : Bool) : (d.putB f b).clk = d.clk := Dev.put_clk d _ _
@[simp] theorem Dev.putB_ticks (f : Fld) (b : Bool) : (d.putB f b).ticks = d.ticks := Dev.put_ticks d _ _
@[simp] theorem Dev.putB_xing (f : Fld) (b : Bool) : (d.putB f b).xing = d.xing := Dev.put_xing d _ _
@[simp] theorem Dev.putB_time (f : Fld) (b : Bool) : (d.putB f b).time = d.time := Dev.put_time d _ _
@[simp] theorem Dev.putB_hq (f : Fld) (b : Bool) : (d.putB f b).hq = d.hq := Dev.put_hq d _ _
@[simp] theorem Dev.putB_ptp (f : Fld) (b : Bool) : (d.putB f b).ptp = d.ptp := Dev.put_ptp d _ _
@[simp] theorem Dev.putB_mcg (f : Fld) (b : Bool) : (d.putB f b).mcg = d.mcg := Dev.put_mcg d _ _
@[simp] theorem Dev.putB_net (f : Fld) (b : Bool) : (d.putB f b).net = d.net := Dev.put_net d _ _
@[simp] theorem Dev.putB_nextFrame (f : Fld) (b : Bool) : (d.putB f b).nextFrame = d.nextFrame := Dev.put_nextFrame d _ _
@[simp] theorem Dev.putB_handed (f : Fld) (b : Bool) : (d.putB f b).handed = d.handed := Dev.put_handed d _ _
@[simp] theorem Dev.putB_snap (f : Fld) (b : Bool) : (d.putB f b).snap = d.snap := Dev.put_snap d _ _
@[simp] theorem Dev.putB_snapHeld (f : Fld) (b : Bool) : (d.putB f b).snapHeld = d.snapHeld := Dev.put_snapHeld d _ _
@[simp] theorem Dev.putB_mdio (f : Fld) (b : Bool) : (d.putB f b).mdio = d.mdio := Dev.put_mdio d _ _
@[simp] theorem Dev.putB_mio (f : Fld) (b : Bool) : (d.putB f b).mio = d.mio := Dev.put_mio d _ _
@[simp] theorem Dev.putB_stx (f : Fld) (b : Bool) : (d.putB f b).stx = d.stx := Dev.put_stx d _ _
@[simp] theorem Dev.putB_srx (f : Fld) (b : Bool) : (d.putB f b).srx = d.srx := Dev.put_srx d _ _
@[simp] theorem Dev.putB_stxOrder (f : Fld) (b : Bool) : (d.putB f b).stxOrder = d.stxOrder := Dev.put_stxOrder d _ _
@[simp] theorem Dev.putB_srxOrder (f : Fld) (b : Bool) : (d.putB f b).srxOrder = d.srxOrder := Dev.put_srxOrder d _ _
@[simp] theorem Dev.putB_stxNow (f : Fld) (b : Bool) : (d.putB f b).stxNow = d.stxNow := Dev.put_stxNow d _ _
@[simp] theorem Dev.putB_srxNow (f : Fld) (b : Bool) : (d.putB f b).srxNow = d.srxNow := Dev.put_srxNow d _ _
@[simp] theorem Dev.putB_stxHeld (f : Fld) (b : Bool) : (d.putB f b).stxHeld = d.stxHeld := Dev.put_stxHeld d _ _
@[simp] theorem Dev.putB_srxHeld (f : Fld) (b : Bool) : (d.putB f b).srxHeld = d.srxHeld := Dev.put_srxHeld d _ _
@[simp] theorem Dev.putB_rings (f : Fld) (b : Bool) : (d.putB f b).rings = d.rings := Dev.put_rings d _ _
@[simp] theorem Dev.putB_sap (f : Fld) (b : Bool) : (d.putB f b).sap = d.sap := Dev.put_sap d _ _
@[simp] theorem Dev.putB_ddr (f : Fld) (b : Bool) : (d.putB f b).ddr = d.ddr := Dev.put_ddr d _ _
@[simp] theorem Dev.putB_anv (f : Fld) (b : Bool) : (d.putB f b).anv = d.anv := Dev.put_anv d _ _
@[simp] theorem Dev.putB_store (f : Fld) (b : Bool) : (d.putB f b).store = d.store := Dev.put_store d _ _
@[simp] theorem Dev.putB_cue (f : Fld) (b : Bool) : (d.putB f b).cue = d.cue := Dev.put_cue d _ _
@[simp] theorem Dev.putB_cueIn (f : Fld) (b : Bool) : (d.putB f b).cueIn = d.cueIn := Dev.put_cueIn d _ _
@[simp] theorem Dev.putB_t1s (f : Fld) (b : Bool) : (d.putB f b).t1s = d.t1s := Dev.put_t1s d _ _
@[simp] theorem Dev.putB_halo (f : Fld) (b : Bool) : (d.putB f b).halo = d.halo := Dev.put_halo d _ _
@[simp] theorem Dev.putB_pwr (f : Fld) (b : Bool) : (d.putB f b).pwr = d.pwr := Dev.put_pwr d _ _
@[simp] theorem Dev.putB_rql (f : Fld) (b : Bool) : (d.putB f b).rql = d.rql := Dev.put_rql d _ _
@[simp] theorem Dev.putB_wipeDone (f : Fld) (b : Bool) : (d.putB f b).wipeDone = d.wipeDone := Dev.put_wipeDone d _ _
@[simp] theorem Dev.putB_boot (f : Fld) (b : Bool) : (d.putB f b).boot = d.boot := Dev.put_boot d _ _
@[simp] theorem Dev.putB_nvm (f : Fld) (b : Bool) : (d.putB f b).nvm = d.nvm := Dev.put_nvm d _ _
@[simp] theorem Dev.putB_poison (f : Fld) (b : Bool) : (d.putB f b).poison = d.poison := Dev.put_poison d _ _
@[simp] theorem Dev.putB_lanesRec (f : Fld) (b : Bool) : (d.putB f b).lanesRec = d.lanesRec := Dev.put_lanesRec d _ _
@[simp] theorem Dev.putB_wbPend (f : Fld) (b : Bool) : (d.putB f b).wbPend = d.wbPend := Dev.put_wbPend d _ _
@[simp] theorem Dev.putB_integ (f : Fld) (b : Bool) : (d.putB f b).integ = d.integ := Dev.put_integ d _ _
@[simp] theorem Dev.putB_pin (f : Fld) (b : Bool) : (d.putB f b).pin = d.pin := Dev.put_pin d _ _
@[simp] theorem Dev.putB_jtag (f : Fld) (b : Bool) : (d.putB f b).jtag = d.jtag := Dev.put_jtag d _ _
@[simp] theorem Dev.putB_tbl (f : Fld) (b : Bool) : (d.putB f b).tbl = d.tbl := Dev.put_tbl d _ _
@[simp] theorem Dev.putB_irqA (f : Fld) (b : Bool) : (d.putB f b).irqA = d.irqA := Dev.put_irqA d _ _
@[simp] theorem Dev.putB_irqB (f : Fld) (b : Bool) : (d.putB f b).irqB = d.irqB := Dev.put_irqB d _ _
@[simp] theorem Dev.putB_free (f : Fld) (b : Bool) : (d.putB f b).free = d.free := Dev.put_free d _ _

@[simp] theorem Dev.count_ports (f : Fld) (n : Nat) : (d.count f n).ports = d.ports := Dev.put_ports d _ _
@[simp] theorem Dev.count_ign (f : Fld) (n : Nat) : (d.count f n).ign = d.ign := Dev.put_ign d _ _
@[simp] theorem Dev.count_mbx (f : Fld) (n : Nat) : (d.count f n).mbx = d.mbx := Dev.put_mbx d _ _
@[simp] theorem Dev.count_clk (f : Fld) (n : Nat) : (d.count f n).clk = d.clk := Dev.put_clk d _ _
@[simp] theorem Dev.count_ticks (f : Fld) (n : Nat) : (d.count f n).ticks = d.ticks := Dev.put_ticks d _ _
@[simp] theorem Dev.count_xing (f : Fld) (n : Nat) : (d.count f n).xing = d.xing := Dev.put_xing d _ _
@[simp] theorem Dev.count_time (f : Fld) (n : Nat) : (d.count f n).time = d.time := Dev.put_time d _ _
@[simp] theorem Dev.count_hq (f : Fld) (n : Nat) : (d.count f n).hq = d.hq := Dev.put_hq d _ _
@[simp] theorem Dev.count_ptp (f : Fld) (n : Nat) : (d.count f n).ptp = d.ptp := Dev.put_ptp d _ _
@[simp] theorem Dev.count_mcg (f : Fld) (n : Nat) : (d.count f n).mcg = d.mcg := Dev.put_mcg d _ _
@[simp] theorem Dev.count_net (f : Fld) (n : Nat) : (d.count f n).net = d.net := Dev.put_net d _ _
@[simp] theorem Dev.count_nextFrame (f : Fld) (n : Nat) : (d.count f n).nextFrame = d.nextFrame := Dev.put_nextFrame d _ _
@[simp] theorem Dev.count_handed (f : Fld) (n : Nat) : (d.count f n).handed = d.handed := Dev.put_handed d _ _
@[simp] theorem Dev.count_snap (f : Fld) (n : Nat) : (d.count f n).snap = d.snap := Dev.put_snap d _ _
@[simp] theorem Dev.count_snapHeld (f : Fld) (n : Nat) : (d.count f n).snapHeld = d.snapHeld := Dev.put_snapHeld d _ _
@[simp] theorem Dev.count_mdio (f : Fld) (n : Nat) : (d.count f n).mdio = d.mdio := Dev.put_mdio d _ _
@[simp] theorem Dev.count_mio (f : Fld) (n : Nat) : (d.count f n).mio = d.mio := Dev.put_mio d _ _
@[simp] theorem Dev.count_stx (f : Fld) (n : Nat) : (d.count f n).stx = d.stx := Dev.put_stx d _ _
@[simp] theorem Dev.count_srx (f : Fld) (n : Nat) : (d.count f n).srx = d.srx := Dev.put_srx d _ _
@[simp] theorem Dev.count_stxOrder (f : Fld) (n : Nat) : (d.count f n).stxOrder = d.stxOrder := Dev.put_stxOrder d _ _
@[simp] theorem Dev.count_srxOrder (f : Fld) (n : Nat) : (d.count f n).srxOrder = d.srxOrder := Dev.put_srxOrder d _ _
@[simp] theorem Dev.count_stxNow (f : Fld) (n : Nat) : (d.count f n).stxNow = d.stxNow := Dev.put_stxNow d _ _
@[simp] theorem Dev.count_srxNow (f : Fld) (n : Nat) : (d.count f n).srxNow = d.srxNow := Dev.put_srxNow d _ _
@[simp] theorem Dev.count_stxHeld (f : Fld) (n : Nat) : (d.count f n).stxHeld = d.stxHeld := Dev.put_stxHeld d _ _
@[simp] theorem Dev.count_srxHeld (f : Fld) (n : Nat) : (d.count f n).srxHeld = d.srxHeld := Dev.put_srxHeld d _ _
@[simp] theorem Dev.count_rings (f : Fld) (n : Nat) : (d.count f n).rings = d.rings := Dev.put_rings d _ _
@[simp] theorem Dev.count_sap (f : Fld) (n : Nat) : (d.count f n).sap = d.sap := Dev.put_sap d _ _
@[simp] theorem Dev.count_ddr (f : Fld) (n : Nat) : (d.count f n).ddr = d.ddr := Dev.put_ddr d _ _
@[simp] theorem Dev.count_anv (f : Fld) (n : Nat) : (d.count f n).anv = d.anv := Dev.put_anv d _ _
@[simp] theorem Dev.count_store (f : Fld) (n : Nat) : (d.count f n).store = d.store := Dev.put_store d _ _
@[simp] theorem Dev.count_cue (f : Fld) (n : Nat) : (d.count f n).cue = d.cue := Dev.put_cue d _ _
@[simp] theorem Dev.count_cueIn (f : Fld) (n : Nat) : (d.count f n).cueIn = d.cueIn := Dev.put_cueIn d _ _
@[simp] theorem Dev.count_t1s (f : Fld) (n : Nat) : (d.count f n).t1s = d.t1s := Dev.put_t1s d _ _
@[simp] theorem Dev.count_halo (f : Fld) (n : Nat) : (d.count f n).halo = d.halo := Dev.put_halo d _ _
@[simp] theorem Dev.count_pwr (f : Fld) (n : Nat) : (d.count f n).pwr = d.pwr := Dev.put_pwr d _ _
@[simp] theorem Dev.count_rql (f : Fld) (n : Nat) : (d.count f n).rql = d.rql := Dev.put_rql d _ _
@[simp] theorem Dev.count_wipeDone (f : Fld) (n : Nat) : (d.count f n).wipeDone = d.wipeDone := Dev.put_wipeDone d _ _
@[simp] theorem Dev.count_boot (f : Fld) (n : Nat) : (d.count f n).boot = d.boot := Dev.put_boot d _ _
@[simp] theorem Dev.count_nvm (f : Fld) (n : Nat) : (d.count f n).nvm = d.nvm := Dev.put_nvm d _ _
@[simp] theorem Dev.count_poison (f : Fld) (n : Nat) : (d.count f n).poison = d.poison := Dev.put_poison d _ _
@[simp] theorem Dev.count_lanesRec (f : Fld) (n : Nat) : (d.count f n).lanesRec = d.lanesRec := Dev.put_lanesRec d _ _
@[simp] theorem Dev.count_wbPend (f : Fld) (n : Nat) : (d.count f n).wbPend = d.wbPend := Dev.put_wbPend d _ _
@[simp] theorem Dev.count_integ (f : Fld) (n : Nat) : (d.count f n).integ = d.integ := Dev.put_integ d _ _
@[simp] theorem Dev.count_pin (f : Fld) (n : Nat) : (d.count f n).pin = d.pin := Dev.put_pin d _ _
@[simp] theorem Dev.count_jtag (f : Fld) (n : Nat) : (d.count f n).jtag = d.jtag := Dev.put_jtag d _ _
@[simp] theorem Dev.count_tbl (f : Fld) (n : Nat) : (d.count f n).tbl = d.tbl := Dev.put_tbl d _ _
@[simp] theorem Dev.count_irqA (f : Fld) (n : Nat) : (d.count f n).irqA = d.irqA := Dev.put_irqA d _ _
@[simp] theorem Dev.count_irqB (f : Fld) (n : Nat) : (d.count f n).irqB = d.irqB := Dev.put_irqB d _ _
@[simp] theorem Dev.count_free (f : Fld) (n : Nat) : (d.count f n).free = d.free := Dev.put_free d _ _

@[simp] theorem Dev.add_ports (a n : Nat) : (d.add a n).ports = d.ports := Dev.count_ports d _ _
@[simp] theorem Dev.add_ign (a n : Nat) : (d.add a n).ign = d.ign := Dev.count_ign d _ _
@[simp] theorem Dev.add_mbx (a n : Nat) : (d.add a n).mbx = d.mbx := Dev.count_mbx d _ _
@[simp] theorem Dev.add_clk (a n : Nat) : (d.add a n).clk = d.clk := Dev.count_clk d _ _
@[simp] theorem Dev.add_ticks (a n : Nat) : (d.add a n).ticks = d.ticks := Dev.count_ticks d _ _
@[simp] theorem Dev.add_xing (a n : Nat) : (d.add a n).xing = d.xing := Dev.count_xing d _ _
@[simp] theorem Dev.add_time (a n : Nat) : (d.add a n).time = d.time := Dev.count_time d _ _
@[simp] theorem Dev.add_hq (a n : Nat) : (d.add a n).hq = d.hq := Dev.count_hq d _ _
@[simp] theorem Dev.add_ptp (a n : Nat) : (d.add a n).ptp = d.ptp := Dev.count_ptp d _ _
@[simp] theorem Dev.add_mcg (a n : Nat) : (d.add a n).mcg = d.mcg := Dev.count_mcg d _ _
@[simp] theorem Dev.add_net (a n : Nat) : (d.add a n).net = d.net := Dev.count_net d _ _
@[simp] theorem Dev.add_nextFrame (a n : Nat) : (d.add a n).nextFrame = d.nextFrame := Dev.count_nextFrame d _ _
@[simp] theorem Dev.add_handed (a n : Nat) : (d.add a n).handed = d.handed := Dev.count_handed d _ _
@[simp] theorem Dev.add_snap (a n : Nat) : (d.add a n).snap = d.snap := Dev.count_snap d _ _
@[simp] theorem Dev.add_snapHeld (a n : Nat) : (d.add a n).snapHeld = d.snapHeld := Dev.count_snapHeld d _ _
@[simp] theorem Dev.add_mdio (a n : Nat) : (d.add a n).mdio = d.mdio := Dev.count_mdio d _ _
@[simp] theorem Dev.add_mio (a n : Nat) : (d.add a n).mio = d.mio := Dev.count_mio d _ _
@[simp] theorem Dev.add_stx (a n : Nat) : (d.add a n).stx = d.stx := Dev.count_stx d _ _
@[simp] theorem Dev.add_srx (a n : Nat) : (d.add a n).srx = d.srx := Dev.count_srx d _ _
@[simp] theorem Dev.add_stxOrder (a n : Nat) : (d.add a n).stxOrder = d.stxOrder := Dev.count_stxOrder d _ _
@[simp] theorem Dev.add_srxOrder (a n : Nat) : (d.add a n).srxOrder = d.srxOrder := Dev.count_srxOrder d _ _
@[simp] theorem Dev.add_stxNow (a n : Nat) : (d.add a n).stxNow = d.stxNow := Dev.count_stxNow d _ _
@[simp] theorem Dev.add_srxNow (a n : Nat) : (d.add a n).srxNow = d.srxNow := Dev.count_srxNow d _ _
@[simp] theorem Dev.add_stxHeld (a n : Nat) : (d.add a n).stxHeld = d.stxHeld := Dev.count_stxHeld d _ _
@[simp] theorem Dev.add_srxHeld (a n : Nat) : (d.add a n).srxHeld = d.srxHeld := Dev.count_srxHeld d _ _
@[simp] theorem Dev.add_rings (a n : Nat) : (d.add a n).rings = d.rings := Dev.count_rings d _ _
@[simp] theorem Dev.add_sap (a n : Nat) : (d.add a n).sap = d.sap := Dev.count_sap d _ _
@[simp] theorem Dev.add_ddr (a n : Nat) : (d.add a n).ddr = d.ddr := Dev.count_ddr d _ _
@[simp] theorem Dev.add_anv (a n : Nat) : (d.add a n).anv = d.anv := Dev.count_anv d _ _
@[simp] theorem Dev.add_store (a n : Nat) : (d.add a n).store = d.store := Dev.count_store d _ _
@[simp] theorem Dev.add_cue (a n : Nat) : (d.add a n).cue = d.cue := Dev.count_cue d _ _
@[simp] theorem Dev.add_cueIn (a n : Nat) : (d.add a n).cueIn = d.cueIn := Dev.count_cueIn d _ _
@[simp] theorem Dev.add_t1s (a n : Nat) : (d.add a n).t1s = d.t1s := Dev.count_t1s d _ _
@[simp] theorem Dev.add_halo (a n : Nat) : (d.add a n).halo = d.halo := Dev.count_halo d _ _
@[simp] theorem Dev.add_pwr (a n : Nat) : (d.add a n).pwr = d.pwr := Dev.count_pwr d _ _
@[simp] theorem Dev.add_rql (a n : Nat) : (d.add a n).rql = d.rql := Dev.count_rql d _ _
@[simp] theorem Dev.add_wipeDone (a n : Nat) : (d.add a n).wipeDone = d.wipeDone := Dev.count_wipeDone d _ _
@[simp] theorem Dev.add_boot (a n : Nat) : (d.add a n).boot = d.boot := Dev.count_boot d _ _
@[simp] theorem Dev.add_nvm (a n : Nat) : (d.add a n).nvm = d.nvm := Dev.count_nvm d _ _
@[simp] theorem Dev.add_poison (a n : Nat) : (d.add a n).poison = d.poison := Dev.count_poison d _ _
@[simp] theorem Dev.add_lanesRec (a n : Nat) : (d.add a n).lanesRec = d.lanesRec := Dev.count_lanesRec d _ _
@[simp] theorem Dev.add_wbPend (a n : Nat) : (d.add a n).wbPend = d.wbPend := Dev.count_wbPend d _ _
@[simp] theorem Dev.add_integ (a n : Nat) : (d.add a n).integ = d.integ := Dev.count_integ d _ _
@[simp] theorem Dev.add_pin (a n : Nat) : (d.add a n).pin = d.pin := Dev.count_pin d _ _
@[simp] theorem Dev.add_jtag (a n : Nat) : (d.add a n).jtag = d.jtag := Dev.count_jtag d _ _
@[simp] theorem Dev.add_tbl (a n : Nat) : (d.add a n).tbl = d.tbl := Dev.count_tbl d _ _
@[simp] theorem Dev.add_irqA (a n : Nat) : (d.add a n).irqA = d.irqA := Dev.count_irqA d _ _
@[simp] theorem Dev.add_irqB (a n : Nat) : (d.add a n).irqB = d.irqB := Dev.count_irqB d _ _
@[simp] theorem Dev.add_free (a n : Nat) : (d.add a n).free = d.free := Dev.count_free d _ _

@[simp] theorem Dev.inc_ports (a : Nat) : (d.inc a).ports = d.ports := Dev.add_ports d _ _
@[simp] theorem Dev.inc_ign (a : Nat) : (d.inc a).ign = d.ign := Dev.add_ign d _ _
@[simp] theorem Dev.inc_mbx (a : Nat) : (d.inc a).mbx = d.mbx := Dev.add_mbx d _ _
@[simp] theorem Dev.inc_clk (a : Nat) : (d.inc a).clk = d.clk := Dev.add_clk d _ _
@[simp] theorem Dev.inc_ticks (a : Nat) : (d.inc a).ticks = d.ticks := Dev.add_ticks d _ _
@[simp] theorem Dev.inc_xing (a : Nat) : (d.inc a).xing = d.xing := Dev.add_xing d _ _
@[simp] theorem Dev.inc_time (a : Nat) : (d.inc a).time = d.time := Dev.add_time d _ _
@[simp] theorem Dev.inc_hq (a : Nat) : (d.inc a).hq = d.hq := Dev.add_hq d _ _
@[simp] theorem Dev.inc_ptp (a : Nat) : (d.inc a).ptp = d.ptp := Dev.add_ptp d _ _
@[simp] theorem Dev.inc_mcg (a : Nat) : (d.inc a).mcg = d.mcg := Dev.add_mcg d _ _
@[simp] theorem Dev.inc_net (a : Nat) : (d.inc a).net = d.net := Dev.add_net d _ _
@[simp] theorem Dev.inc_nextFrame (a : Nat) : (d.inc a).nextFrame = d.nextFrame := Dev.add_nextFrame d _ _
@[simp] theorem Dev.inc_handed (a : Nat) : (d.inc a).handed = d.handed := Dev.add_handed d _ _
@[simp] theorem Dev.inc_snap (a : Nat) : (d.inc a).snap = d.snap := Dev.add_snap d _ _
@[simp] theorem Dev.inc_snapHeld (a : Nat) : (d.inc a).snapHeld = d.snapHeld := Dev.add_snapHeld d _ _
@[simp] theorem Dev.inc_mdio (a : Nat) : (d.inc a).mdio = d.mdio := Dev.add_mdio d _ _
@[simp] theorem Dev.inc_mio (a : Nat) : (d.inc a).mio = d.mio := Dev.add_mio d _ _
@[simp] theorem Dev.inc_stx (a : Nat) : (d.inc a).stx = d.stx := Dev.add_stx d _ _
@[simp] theorem Dev.inc_srx (a : Nat) : (d.inc a).srx = d.srx := Dev.add_srx d _ _
@[simp] theorem Dev.inc_stxOrder (a : Nat) : (d.inc a).stxOrder = d.stxOrder := Dev.add_stxOrder d _ _
@[simp] theorem Dev.inc_srxOrder (a : Nat) : (d.inc a).srxOrder = d.srxOrder := Dev.add_srxOrder d _ _
@[simp] theorem Dev.inc_stxNow (a : Nat) : (d.inc a).stxNow = d.stxNow := Dev.add_stxNow d _ _
@[simp] theorem Dev.inc_srxNow (a : Nat) : (d.inc a).srxNow = d.srxNow := Dev.add_srxNow d _ _
@[simp] theorem Dev.inc_stxHeld (a : Nat) : (d.inc a).stxHeld = d.stxHeld := Dev.add_stxHeld d _ _
@[simp] theorem Dev.inc_srxHeld (a : Nat) : (d.inc a).srxHeld = d.srxHeld := Dev.add_srxHeld d _ _
@[simp] theorem Dev.inc_rings (a : Nat) : (d.inc a).rings = d.rings := Dev.add_rings d _ _
@[simp] theorem Dev.inc_sap (a : Nat) : (d.inc a).sap = d.sap := Dev.add_sap d _ _
@[simp] theorem Dev.inc_ddr (a : Nat) : (d.inc a).ddr = d.ddr := Dev.add_ddr d _ _
@[simp] theorem Dev.inc_anv (a : Nat) : (d.inc a).anv = d.anv := Dev.add_anv d _ _
@[simp] theorem Dev.inc_store (a : Nat) : (d.inc a).store = d.store := Dev.add_store d _ _
@[simp] theorem Dev.inc_cue (a : Nat) : (d.inc a).cue = d.cue := Dev.add_cue d _ _
@[simp] theorem Dev.inc_cueIn (a : Nat) : (d.inc a).cueIn = d.cueIn := Dev.add_cueIn d _ _
@[simp] theorem Dev.inc_t1s (a : Nat) : (d.inc a).t1s = d.t1s := Dev.add_t1s d _ _
@[simp] theorem Dev.inc_halo (a : Nat) : (d.inc a).halo = d.halo := Dev.add_halo d _ _
@[simp] theorem Dev.inc_pwr (a : Nat) : (d.inc a).pwr = d.pwr := Dev.add_pwr d _ _
@[simp] theorem Dev.inc_rql (a : Nat) : (d.inc a).rql = d.rql := Dev.add_rql d _ _
@[simp] theorem Dev.inc_wipeDone (a : Nat) : (d.inc a).wipeDone = d.wipeDone := Dev.add_wipeDone d _ _
@[simp] theorem Dev.inc_boot (a : Nat) : (d.inc a).boot = d.boot := Dev.add_boot d _ _
@[simp] theorem Dev.inc_nvm (a : Nat) : (d.inc a).nvm = d.nvm := Dev.add_nvm d _ _
@[simp] theorem Dev.inc_poison (a : Nat) : (d.inc a).poison = d.poison := Dev.add_poison d _ _
@[simp] theorem Dev.inc_lanesRec (a : Nat) : (d.inc a).lanesRec = d.lanesRec := Dev.add_lanesRec d _ _
@[simp] theorem Dev.inc_wbPend (a : Nat) : (d.inc a).wbPend = d.wbPend := Dev.add_wbPend d _ _
@[simp] theorem Dev.inc_integ (a : Nat) : (d.inc a).integ = d.integ := Dev.add_integ d _ _
@[simp] theorem Dev.inc_pin (a : Nat) : (d.inc a).pin = d.pin := Dev.add_pin d _ _
@[simp] theorem Dev.inc_jtag (a : Nat) : (d.inc a).jtag = d.jtag := Dev.add_jtag d _ _
@[simp] theorem Dev.inc_tbl (a : Nat) : (d.inc a).tbl = d.tbl := Dev.add_tbl d _ _
@[simp] theorem Dev.inc_irqA (a : Nat) : (d.inc a).irqA = d.irqA := Dev.add_irqA d _ _
@[simp] theorem Dev.inc_irqB (a : Nat) : (d.inc a).irqB = d.irqB := Dev.add_irqB d _ _
@[simp] theorem Dev.inc_free (a : Nat) : (d.inc a).free = d.free := Dev.add_free d _ _

@[simp] theorem Dev.setPair_ports (h l v : Nat) : (d.setPair h l v).ports = d.ports := by
  unfold Dev.setPair; simp only [Dev.setReg_ports]
@[simp] theorem Dev.setPair_ign (h l v : Nat) : (d.setPair h l v).ign = d.ign := by
  unfold Dev.setPair; simp only [Dev.setReg_ign]
@[simp] theorem Dev.setPair_mbx (h l v : Nat) : (d.setPair h l v).mbx = d.mbx := by
  unfold Dev.setPair; simp only [Dev.setReg_mbx]
@[simp] theorem Dev.setPair_clk (h l v : Nat) : (d.setPair h l v).clk = d.clk := by
  unfold Dev.setPair; simp only [Dev.setReg_clk]
@[simp] theorem Dev.setPair_ticks (h l v : Nat) : (d.setPair h l v).ticks = d.ticks := by
  unfold Dev.setPair; simp only [Dev.setReg_ticks]
@[simp] theorem Dev.setPair_xing (h l v : Nat) : (d.setPair h l v).xing = d.xing := by
  unfold Dev.setPair; simp only [Dev.setReg_xing]
@[simp] theorem Dev.setPair_time (h l v : Nat) : (d.setPair h l v).time = d.time := by
  unfold Dev.setPair; simp only [Dev.setReg_time]
@[simp] theorem Dev.setPair_hq (h l v : Nat) : (d.setPair h l v).hq = d.hq := by
  unfold Dev.setPair; simp only [Dev.setReg_hq]
@[simp] theorem Dev.setPair_ptp (h l v : Nat) : (d.setPair h l v).ptp = d.ptp := by
  unfold Dev.setPair; simp only [Dev.setReg_ptp]
@[simp] theorem Dev.setPair_mcg (h l v : Nat) : (d.setPair h l v).mcg = d.mcg := by
  unfold Dev.setPair; simp only [Dev.setReg_mcg]
@[simp] theorem Dev.setPair_net (h l v : Nat) : (d.setPair h l v).net = d.net := by
  unfold Dev.setPair; simp only [Dev.setReg_net]
@[simp] theorem Dev.setPair_nextFrame (h l v : Nat) : (d.setPair h l v).nextFrame = d.nextFrame := by
  unfold Dev.setPair; simp only [Dev.setReg_nextFrame]
@[simp] theorem Dev.setPair_handed (h l v : Nat) : (d.setPair h l v).handed = d.handed := by
  unfold Dev.setPair; simp only [Dev.setReg_handed]
@[simp] theorem Dev.setPair_snap (h l v : Nat) : (d.setPair h l v).snap = d.snap := by
  unfold Dev.setPair; simp only [Dev.setReg_snap]
@[simp] theorem Dev.setPair_snapHeld (h l v : Nat) : (d.setPair h l v).snapHeld = d.snapHeld := by
  unfold Dev.setPair; simp only [Dev.setReg_snapHeld]
@[simp] theorem Dev.setPair_mdio (h l v : Nat) : (d.setPair h l v).mdio = d.mdio := by
  unfold Dev.setPair; simp only [Dev.setReg_mdio]
@[simp] theorem Dev.setPair_mio (h l v : Nat) : (d.setPair h l v).mio = d.mio := by
  unfold Dev.setPair; simp only [Dev.setReg_mio]
@[simp] theorem Dev.setPair_stx (h l v : Nat) : (d.setPair h l v).stx = d.stx := by
  unfold Dev.setPair; simp only [Dev.setReg_stx]
@[simp] theorem Dev.setPair_srx (h l v : Nat) : (d.setPair h l v).srx = d.srx := by
  unfold Dev.setPair; simp only [Dev.setReg_srx]
@[simp] theorem Dev.setPair_stxOrder (h l v : Nat) : (d.setPair h l v).stxOrder = d.stxOrder := by
  unfold Dev.setPair; simp only [Dev.setReg_stxOrder]
@[simp] theorem Dev.setPair_srxOrder (h l v : Nat) : (d.setPair h l v).srxOrder = d.srxOrder := by
  unfold Dev.setPair; simp only [Dev.setReg_srxOrder]
@[simp] theorem Dev.setPair_stxNow (h l v : Nat) : (d.setPair h l v).stxNow = d.stxNow := by
  unfold Dev.setPair; simp only [Dev.setReg_stxNow]
@[simp] theorem Dev.setPair_srxNow (h l v : Nat) : (d.setPair h l v).srxNow = d.srxNow := by
  unfold Dev.setPair; simp only [Dev.setReg_srxNow]
@[simp] theorem Dev.setPair_stxHeld (h l v : Nat) : (d.setPair h l v).stxHeld = d.stxHeld := by
  unfold Dev.setPair; simp only [Dev.setReg_stxHeld]
@[simp] theorem Dev.setPair_srxHeld (h l v : Nat) : (d.setPair h l v).srxHeld = d.srxHeld := by
  unfold Dev.setPair; simp only [Dev.setReg_srxHeld]
@[simp] theorem Dev.setPair_rings (h l v : Nat) : (d.setPair h l v).rings = d.rings := by
  unfold Dev.setPair; simp only [Dev.setReg_rings]
@[simp] theorem Dev.setPair_sap (h l v : Nat) : (d.setPair h l v).sap = d.sap := by
  unfold Dev.setPair; simp only [Dev.setReg_sap]
@[simp] theorem Dev.setPair_ddr (h l v : Nat) : (d.setPair h l v).ddr = d.ddr := by
  unfold Dev.setPair; simp only [Dev.setReg_ddr]
@[simp] theorem Dev.setPair_anv (h l v : Nat) : (d.setPair h l v).anv = d.anv := by
  unfold Dev.setPair; simp only [Dev.setReg_anv]
@[simp] theorem Dev.setPair_store (h l v : Nat) : (d.setPair h l v).store = d.store := by
  unfold Dev.setPair; simp only [Dev.setReg_store]
@[simp] theorem Dev.setPair_cue (h l v : Nat) : (d.setPair h l v).cue = d.cue := by
  unfold Dev.setPair; simp only [Dev.setReg_cue]
@[simp] theorem Dev.setPair_cueIn (h l v : Nat) : (d.setPair h l v).cueIn = d.cueIn := by
  unfold Dev.setPair; simp only [Dev.setReg_cueIn]
@[simp] theorem Dev.setPair_t1s (h l v : Nat) : (d.setPair h l v).t1s = d.t1s := by
  unfold Dev.setPair; simp only [Dev.setReg_t1s]
@[simp] theorem Dev.setPair_halo (h l v : Nat) : (d.setPair h l v).halo = d.halo := by
  unfold Dev.setPair; simp only [Dev.setReg_halo]
@[simp] theorem Dev.setPair_pwr (h l v : Nat) : (d.setPair h l v).pwr = d.pwr := by
  unfold Dev.setPair; simp only [Dev.setReg_pwr]
@[simp] theorem Dev.setPair_rql (h l v : Nat) : (d.setPair h l v).rql = d.rql := by
  unfold Dev.setPair; simp only [Dev.setReg_rql]
@[simp] theorem Dev.setPair_wipeDone (h l v : Nat) : (d.setPair h l v).wipeDone = d.wipeDone := by
  unfold Dev.setPair; simp only [Dev.setReg_wipeDone]
@[simp] theorem Dev.setPair_boot (h l v : Nat) : (d.setPair h l v).boot = d.boot := by
  unfold Dev.setPair; simp only [Dev.setReg_boot]
@[simp] theorem Dev.setPair_nvm (h l v : Nat) : (d.setPair h l v).nvm = d.nvm := by
  unfold Dev.setPair; simp only [Dev.setReg_nvm]
@[simp] theorem Dev.setPair_poison (h l v : Nat) : (d.setPair h l v).poison = d.poison := by
  unfold Dev.setPair; simp only [Dev.setReg_poison]
@[simp] theorem Dev.setPair_lanesRec (h l v : Nat) : (d.setPair h l v).lanesRec = d.lanesRec := by
  unfold Dev.setPair; simp only [Dev.setReg_lanesRec]
@[simp] theorem Dev.setPair_wbPend (h l v : Nat) : (d.setPair h l v).wbPend = d.wbPend := by
  unfold Dev.setPair; simp only [Dev.setReg_wbPend]
@[simp] theorem Dev.setPair_integ (h l v : Nat) : (d.setPair h l v).integ = d.integ := by
  unfold Dev.setPair; simp only [Dev.setReg_integ]
@[simp] theorem Dev.setPair_pin (h l v : Nat) : (d.setPair h l v).pin = d.pin := by
  unfold Dev.setPair; simp only [Dev.setReg_pin]
@[simp] theorem Dev.setPair_jtag (h l v : Nat) : (d.setPair h l v).jtag = d.jtag := by
  unfold Dev.setPair; simp only [Dev.setReg_jtag]
@[simp] theorem Dev.setPair_tbl (h l v : Nat) : (d.setPair h l v).tbl = d.tbl := by
  unfold Dev.setPair; simp only [Dev.setReg_tbl]
@[simp] theorem Dev.setPair_irqA (h l v : Nat) : (d.setPair h l v).irqA = d.irqA := by
  unfold Dev.setPair; simp only [Dev.setReg_irqA]
@[simp] theorem Dev.setPair_irqB (h l v : Nat) : (d.setPair h l v).irqB = d.irqB := by
  unfold Dev.setPair; simp only [Dev.setReg_irqB]
@[simp] theorem Dev.setPair_free (h l v : Nat) : (d.setPair h l v).free = d.free := by
  unfold Dev.setPair; simp only [Dev.setReg_free]

@[simp] theorem Dev.add64_ports (h l n : Nat) : (d.add64 h l n).ports = d.ports := by
  unfold Dev.add64; simp only [Dev.setPair_ports]
@[simp] theorem Dev.add64_ign (h l n : Nat) : (d.add64 h l n).ign = d.ign := by
  unfold Dev.add64; simp only [Dev.setPair_ign]
@[simp] theorem Dev.add64_mbx (h l n : Nat) : (d.add64 h l n).mbx = d.mbx := by
  unfold Dev.add64; simp only [Dev.setPair_mbx]
@[simp] theorem Dev.add64_clk (h l n : Nat) : (d.add64 h l n).clk = d.clk := by
  unfold Dev.add64; simp only [Dev.setPair_clk]
@[simp] theorem Dev.add64_ticks (h l n : Nat) : (d.add64 h l n).ticks = d.ticks := by
  unfold Dev.add64; simp only [Dev.setPair_ticks]
@[simp] theorem Dev.add64_xing (h l n : Nat) : (d.add64 h l n).xing = d.xing := by
  unfold Dev.add64; simp only [Dev.setPair_xing]
@[simp] theorem Dev.add64_time (h l n : Nat) : (d.add64 h l n).time = d.time := by
  unfold Dev.add64; simp only [Dev.setPair_time]
@[simp] theorem Dev.add64_hq (h l n : Nat) : (d.add64 h l n).hq = d.hq := by
  unfold Dev.add64; simp only [Dev.setPair_hq]
@[simp] theorem Dev.add64_ptp (h l n : Nat) : (d.add64 h l n).ptp = d.ptp := by
  unfold Dev.add64; simp only [Dev.setPair_ptp]
@[simp] theorem Dev.add64_mcg (h l n : Nat) : (d.add64 h l n).mcg = d.mcg := by
  unfold Dev.add64; simp only [Dev.setPair_mcg]
@[simp] theorem Dev.add64_net (h l n : Nat) : (d.add64 h l n).net = d.net := by
  unfold Dev.add64; simp only [Dev.setPair_net]
@[simp] theorem Dev.add64_nextFrame (h l n : Nat) : (d.add64 h l n).nextFrame = d.nextFrame := by
  unfold Dev.add64; simp only [Dev.setPair_nextFrame]
@[simp] theorem Dev.add64_handed (h l n : Nat) : (d.add64 h l n).handed = d.handed := by
  unfold Dev.add64; simp only [Dev.setPair_handed]
@[simp] theorem Dev.add64_snap (h l n : Nat) : (d.add64 h l n).snap = d.snap := by
  unfold Dev.add64; simp only [Dev.setPair_snap]
@[simp] theorem Dev.add64_snapHeld (h l n : Nat) : (d.add64 h l n).snapHeld = d.snapHeld := by
  unfold Dev.add64; simp only [Dev.setPair_snapHeld]
@[simp] theorem Dev.add64_mdio (h l n : Nat) : (d.add64 h l n).mdio = d.mdio := by
  unfold Dev.add64; simp only [Dev.setPair_mdio]
@[simp] theorem Dev.add64_mio (h l n : Nat) : (d.add64 h l n).mio = d.mio := by
  unfold Dev.add64; simp only [Dev.setPair_mio]
@[simp] theorem Dev.add64_stx (h l n : Nat) : (d.add64 h l n).stx = d.stx := by
  unfold Dev.add64; simp only [Dev.setPair_stx]
@[simp] theorem Dev.add64_srx (h l n : Nat) : (d.add64 h l n).srx = d.srx := by
  unfold Dev.add64; simp only [Dev.setPair_srx]
@[simp] theorem Dev.add64_stxOrder (h l n : Nat) : (d.add64 h l n).stxOrder = d.stxOrder := by
  unfold Dev.add64; simp only [Dev.setPair_stxOrder]
@[simp] theorem Dev.add64_srxOrder (h l n : Nat) : (d.add64 h l n).srxOrder = d.srxOrder := by
  unfold Dev.add64; simp only [Dev.setPair_srxOrder]
@[simp] theorem Dev.add64_stxNow (h l n : Nat) : (d.add64 h l n).stxNow = d.stxNow := by
  unfold Dev.add64; simp only [Dev.setPair_stxNow]
@[simp] theorem Dev.add64_srxNow (h l n : Nat) : (d.add64 h l n).srxNow = d.srxNow := by
  unfold Dev.add64; simp only [Dev.setPair_srxNow]
@[simp] theorem Dev.add64_stxHeld (h l n : Nat) : (d.add64 h l n).stxHeld = d.stxHeld := by
  unfold Dev.add64; simp only [Dev.setPair_stxHeld]
@[simp] theorem Dev.add64_srxHeld (h l n : Nat) : (d.add64 h l n).srxHeld = d.srxHeld := by
  unfold Dev.add64; simp only [Dev.setPair_srxHeld]
@[simp] theorem Dev.add64_rings (h l n : Nat) : (d.add64 h l n).rings = d.rings := by
  unfold Dev.add64; simp only [Dev.setPair_rings]
@[simp] theorem Dev.add64_sap (h l n : Nat) : (d.add64 h l n).sap = d.sap := by
  unfold Dev.add64; simp only [Dev.setPair_sap]
@[simp] theorem Dev.add64_ddr (h l n : Nat) : (d.add64 h l n).ddr = d.ddr := by
  unfold Dev.add64; simp only [Dev.setPair_ddr]
@[simp] theorem Dev.add64_anv (h l n : Nat) : (d.add64 h l n).anv = d.anv := by
  unfold Dev.add64; simp only [Dev.setPair_anv]
@[simp] theorem Dev.add64_store (h l n : Nat) : (d.add64 h l n).store = d.store := by
  unfold Dev.add64; simp only [Dev.setPair_store]
@[simp] theorem Dev.add64_cue (h l n : Nat) : (d.add64 h l n).cue = d.cue := by
  unfold Dev.add64; simp only [Dev.setPair_cue]
@[simp] theorem Dev.add64_cueIn (h l n : Nat) : (d.add64 h l n).cueIn = d.cueIn := by
  unfold Dev.add64; simp only [Dev.setPair_cueIn]
@[simp] theorem Dev.add64_t1s (h l n : Nat) : (d.add64 h l n).t1s = d.t1s := by
  unfold Dev.add64; simp only [Dev.setPair_t1s]
@[simp] theorem Dev.add64_halo (h l n : Nat) : (d.add64 h l n).halo = d.halo := by
  unfold Dev.add64; simp only [Dev.setPair_halo]
@[simp] theorem Dev.add64_pwr (h l n : Nat) : (d.add64 h l n).pwr = d.pwr := by
  unfold Dev.add64; simp only [Dev.setPair_pwr]
@[simp] theorem Dev.add64_rql (h l n : Nat) : (d.add64 h l n).rql = d.rql := by
  unfold Dev.add64; simp only [Dev.setPair_rql]
@[simp] theorem Dev.add64_wipeDone (h l n : Nat) : (d.add64 h l n).wipeDone = d.wipeDone := by
  unfold Dev.add64; simp only [Dev.setPair_wipeDone]
@[simp] theorem Dev.add64_boot (h l n : Nat) : (d.add64 h l n).boot = d.boot := by
  unfold Dev.add64; simp only [Dev.setPair_boot]
@[simp] theorem Dev.add64_nvm (h l n : Nat) : (d.add64 h l n).nvm = d.nvm := by
  unfold Dev.add64; simp only [Dev.setPair_nvm]
@[simp] theorem Dev.add64_poison (h l n : Nat) : (d.add64 h l n).poison = d.poison := by
  unfold Dev.add64; simp only [Dev.setPair_poison]
@[simp] theorem Dev.add64_lanesRec (h l n : Nat) : (d.add64 h l n).lanesRec = d.lanesRec := by
  unfold Dev.add64; simp only [Dev.setPair_lanesRec]
@[simp] theorem Dev.add64_wbPend (h l n : Nat) : (d.add64 h l n).wbPend = d.wbPend := by
  unfold Dev.add64; simp only [Dev.setPair_wbPend]
@[simp] theorem Dev.add64_integ (h l n : Nat) : (d.add64 h l n).integ = d.integ := by
  unfold Dev.add64; simp only [Dev.setPair_integ]
@[simp] theorem Dev.add64_pin (h l n : Nat) : (d.add64 h l n).pin = d.pin := by
  unfold Dev.add64; simp only [Dev.setPair_pin]
@[simp] theorem Dev.add64_jtag (h l n : Nat) : (d.add64 h l n).jtag = d.jtag := by
  unfold Dev.add64; simp only [Dev.setPair_jtag]
@[simp] theorem Dev.add64_tbl (h l n : Nat) : (d.add64 h l n).tbl = d.tbl := by
  unfold Dev.add64; simp only [Dev.setPair_tbl]
@[simp] theorem Dev.add64_irqA (h l n : Nat) : (d.add64 h l n).irqA = d.irqA := by
  unfold Dev.add64; simp only [Dev.setPair_irqA]
@[simp] theorem Dev.add64_irqB (h l n : Nat) : (d.add64 h l n).irqB = d.irqB := by
  unfold Dev.add64; simp only [Dev.setPair_irqB]
@[simp] theorem Dev.add64_free (h l n : Nat) : (d.add64 h l n).free = d.free := by
  unfold Dev.add64; simp only [Dev.setPair_free]

@[simp] theorem Dev.puts_ports (l : List (Fld × Nat)) : (d.puts l).ports = d.ports := by
  induction l generalizing d with
  | nil => rfl
  | cons e t ih => exact (ih (d.put e.1 e.2)).trans (Dev.put_ports d _ _)
@[simp] theorem Dev.capture_ports (v : Fld) (l : List (Fld × Nat)) : (d.capture v l).ports = d.ports := by
  unfold Dev.capture; split <;> simp only [Dev.put_ports, Dev.puts_ports]
@[simp] theorem Dev.puts_ign (l : List (Fld × Nat)) : (d.puts l).ign = d.ign := by
  induction l generalizing d with
  | nil => rfl
  | cons e t ih => exact (ih (d.put e.1 e.2)).trans (Dev.put_ign d _ _)
@[simp] theorem Dev.capture_ign (v : Fld) (l : List (Fld × Nat)) : (d.capture v l).ign = d.ign := by
  unfold Dev.capture; split <;> simp only [Dev.put_ign, Dev.puts_ign]
@[simp] theorem Dev.puts_mbx (l : List (Fld × Nat)) : (d.puts l).mbx = d.mbx := by
  induction l generalizing d with
  | nil => rfl
  | cons e t ih => exact (ih (d.put e.1 e.2)).trans (Dev.put_mbx d _ _)
@[simp] theorem Dev.capture_mbx (v : Fld) (l : List (Fld × Nat)) : (d.capture v l).mbx = d.mbx := by
  unfold Dev.capture; split <;> simp only [Dev.put_mbx, Dev.puts_mbx]
@[simp] theorem Dev.puts_clk (l : List (Fld × Nat)) : (d.puts l).clk = d.clk := by
  induction l generalizing d with
  | nil => rfl
  | cons e t ih => exact (ih (d.put e.1 e.2)).trans (Dev.put_clk d _ _)
@[simp] theorem Dev.capture_clk (v : Fld) (l : List (Fld × Nat)) : (d.capture v l).clk = d.clk := by
  unfold Dev.capture; split <;> simp only [Dev.put_clk, Dev.puts_clk]
@[simp] theorem Dev.puts_ticks (l : List (Fld × Nat)) : (d.puts l).ticks = d.ticks := by
  induction l generalizing d with
  | nil => rfl
  | cons e t ih => exact (ih (d.put e.1 e.2)).trans (Dev.put_ticks d _ _)
@[simp] theorem Dev.capture_ticks (v : Fld) (l : List (Fld × Nat)) : (d.capture v l).ticks = d.ticks := by
  unfold Dev.capture; split <;> simp only [Dev.put_ticks, Dev.puts_ticks]
@[simp] theorem Dev.puts_xing (l : List (Fld × Nat)) : (d.puts l).xing = d.xing := by
  induction l generalizing d with
  | nil => rfl
  | cons e t ih => exact (ih (d.put e.1 e.2)).trans (Dev.put_xing d _ _)
@[simp] theorem Dev.capture_xing (v : Fld) (l : List (Fld × Nat)) : (d.capture v l).xing = d.xing := by
  unfold Dev.capture; split <;> simp only [Dev.put_xing, Dev.puts_xing]
@[simp] theorem Dev.puts_time (l : List (Fld × Nat)) : (d.puts l).time = d.time := by
  induction l generalizing d with
  | nil => rfl
  | cons e t ih => exact (ih (d.put e.1 e.2)).trans (Dev.put_time d _ _)
@[simp] theorem Dev.capture_time (v : Fld) (l : List (Fld × Nat)) : (d.capture v l).time = d.time := by
  unfold Dev.capture; split <;> simp only [Dev.put_time, Dev.puts_time]
@[simp] theorem Dev.puts_hq (l : List (Fld × Nat)) : (d.puts l).hq = d.hq := by
  induction l generalizing d with
  | nil => rfl
  | cons e t ih => exact (ih (d.put e.1 e.2)).trans (Dev.put_hq d _ _)
@[simp] theorem Dev.capture_hq (v : Fld) (l : List (Fld × Nat)) : (d.capture v l).hq = d.hq := by
  unfold Dev.capture; split <;> simp only [Dev.put_hq, Dev.puts_hq]
@[simp] theorem Dev.puts_ptp (l : List (Fld × Nat)) : (d.puts l).ptp = d.ptp := by
  induction l generalizing d with
  | nil => rfl
  | cons e t ih => exact (ih (d.put e.1 e.2)).trans (Dev.put_ptp d _ _)
@[simp] theorem Dev.capture_ptp (v : Fld) (l : List (Fld × Nat)) : (d.capture v l).ptp = d.ptp := by
  unfold Dev.capture; split <;> simp only [Dev.put_ptp, Dev.puts_ptp]
@[simp] theorem Dev.puts_mcg (l : List (Fld × Nat)) : (d.puts l).mcg = d.mcg := by
  induction l generalizing d with
  | nil => rfl
  | cons e t ih => exact (ih (d.put e.1 e.2)).trans (Dev.put_mcg d _ _)
@[simp] theorem Dev.capture_mcg (v : Fld) (l : List (Fld × Nat)) : (d.capture v l).mcg = d.mcg := by
  unfold Dev.capture; split <;> simp only [Dev.put_mcg, Dev.puts_mcg]
@[simp] theorem Dev.puts_net (l : List (Fld × Nat)) : (d.puts l).net = d.net := by
  induction l generalizing d with
  | nil => rfl
  | cons e t ih => exact (ih (d.put e.1 e.2)).trans (Dev.put_net d _ _)
@[simp] theorem Dev.capture_net (v : Fld) (l : List (Fld × Nat)) : (d.capture v l).net = d.net := by
  unfold Dev.capture; split <;> simp only [Dev.put_net, Dev.puts_net]
@[simp] theorem Dev.puts_nextFrame (l : List (Fld × Nat)) : (d.puts l).nextFrame = d.nextFrame := by
  induction l generalizing d with
  | nil => rfl
  | cons e t ih => exact (ih (d.put e.1 e.2)).trans (Dev.put_nextFrame d _ _)
@[simp] theorem Dev.capture_nextFrame (v : Fld) (l : List (Fld × Nat)) : (d.capture v l).nextFrame = d.nextFrame := by
  unfold Dev.capture; split <;> simp only [Dev.put_nextFrame, Dev.puts_nextFrame]
@[simp] theorem Dev.puts_handed (l : List (Fld × Nat)) : (d.puts l).handed = d.handed := by
  induction l generalizing d with
  | nil => rfl
  | cons e t ih => exact (ih (d.put e.1 e.2)).trans (Dev.put_handed d _ _)
@[simp] theorem Dev.capture_handed (v : Fld) (l : List (Fld × Nat)) : (d.capture v l).handed = d.handed := by
  unfold Dev.capture; split <;> simp only [Dev.put_handed, Dev.puts_handed]
@[simp] theorem Dev.puts_snap (l : List (Fld × Nat)) : (d.puts l).snap = d.snap := by
  induction l generalizing d with
  | nil => rfl
  | cons e t ih => exact (ih (d.put e.1 e.2)).trans (Dev.put_snap d _ _)
@[simp] theorem Dev.capture_snap (v : Fld) (l : List (Fld × Nat)) : (d.capture v l).snap = d.snap := by
  unfold Dev.capture; split <;> simp only [Dev.put_snap, Dev.puts_snap]
@[simp] theorem Dev.puts_snapHeld (l : List (Fld × Nat)) : (d.puts l).snapHeld = d.snapHeld := by
  induction l generalizing d with
  | nil => rfl
  | cons e t ih => exact (ih (d.put e.1 e.2)).trans (Dev.put_snapHeld d _ _)
@[simp] theorem Dev.capture_snapHeld (v : Fld) (l : List (Fld × Nat)) : (d.capture v l).snapHeld = d.snapHeld := by
  unfold Dev.capture; split <;> simp only [Dev.put_snapHeld, Dev.puts_snapHeld]
@[simp] theorem Dev.puts_mdio (l : List (Fld × Nat)) : (d.puts l).mdio = d.mdio := by
  induction l generalizing d with
  | nil => rfl
  | cons e t ih => exact (ih (d.put e.1 e.2)).trans (Dev.put_mdio d _ _)
@[simp] theorem Dev.capture_mdio (v : Fld) (l : List (Fld × Nat)) : (d.capture v l).mdio = d.mdio := by
  unfold Dev.capture; split <;> simp only [Dev.put_mdio, Dev.puts_mdio]
@[simp] theorem Dev.puts_mio (l : List (Fld × Nat)) : (d.puts l).mio = d.mio := by
  induction l generalizing d with
  | nil => rfl
  | cons e t ih => exact (ih (d.put e.1 e.2)).trans (Dev.put_mio d _ _)
@[simp] theorem Dev.capture_mio (v : Fld) (l : List (Fld × Nat)) : (d.capture v l).mio = d.mio := by
  unfold Dev.capture; split <;> simp only [Dev.put_mio, Dev.puts_mio]
@[simp] theorem Dev.puts_stx (l : List (Fld × Nat)) : (d.puts l).stx = d.stx := by
  induction l generalizing d with
  | nil => rfl
  | cons e t ih => exact (ih (d.put e.1 e.2)).trans (Dev.put_stx d _ _)
@[simp] theorem Dev.capture_stx (v : Fld) (l : List (Fld × Nat)) : (d.capture v l).stx = d.stx := by
  unfold Dev.capture; split <;> simp only [Dev.put_stx, Dev.puts_stx]
@[simp] theorem Dev.puts_srx (l : List (Fld × Nat)) : (d.puts l).srx = d.srx := by
  induction l generalizing d with
  | nil => rfl
  | cons e t ih => exact (ih (d.put e.1 e.2)).trans (Dev.put_srx d _ _)
@[simp] theorem Dev.capture_srx (v : Fld) (l : List (Fld × Nat)) : (d.capture v l).srx = d.srx := by
  unfold Dev.capture; split <;> simp only [Dev.put_srx, Dev.puts_srx]
@[simp] theorem Dev.puts_stxOrder (l : List (Fld × Nat)) : (d.puts l).stxOrder = d.stxOrder := by
  induction l generalizing d with
  | nil => rfl
  | cons e t ih => exact (ih (d.put e.1 e.2)).trans (Dev.put_stxOrder d _ _)
@[simp] theorem Dev.capture_stxOrder (v : Fld) (l : List (Fld × Nat)) : (d.capture v l).stxOrder = d.stxOrder := by
  unfold Dev.capture; split <;> simp only [Dev.put_stxOrder, Dev.puts_stxOrder]
@[simp] theorem Dev.puts_srxOrder (l : List (Fld × Nat)) : (d.puts l).srxOrder = d.srxOrder := by
  induction l generalizing d with
  | nil => rfl
  | cons e t ih => exact (ih (d.put e.1 e.2)).trans (Dev.put_srxOrder d _ _)
@[simp] theorem Dev.capture_srxOrder (v : Fld) (l : List (Fld × Nat)) : (d.capture v l).srxOrder = d.srxOrder := by
  unfold Dev.capture; split <;> simp only [Dev.put_srxOrder, Dev.puts_srxOrder]
@[simp] theorem Dev.puts_stxNow (l : List (Fld × Nat)) : (d.puts l).stxNow = d.stxNow := by
  induction l generalizing d with
  | nil => rfl
  | cons e t ih => exact (ih (d.put e.1 e.2)).trans (Dev.put_stxNow d _ _)
@[simp] theorem Dev.capture_stxNow (v : Fld) (l : List (Fld × Nat)) : (d.capture v l).stxNow = d.stxNow := by
  unfold Dev.capture; split <;> simp only [Dev.put_stxNow, Dev.puts_stxNow]
@[simp] theorem Dev.puts_srxNow (l : List (Fld × Nat)) : (d.puts l).srxNow = d.srxNow := by
  induction l generalizing d with
  | nil => rfl
  | cons e t ih => exact (ih (d.put e.1 e.2)).trans (Dev.put_srxNow d _ _)
@[simp] theorem Dev.capture_srxNow (v : Fld) (l : List (Fld × Nat)) : (d.capture v l).srxNow = d.srxNow := by
  unfold Dev.capture; split <;> simp only [Dev.put_srxNow, Dev.puts_srxNow]
@[simp] theorem Dev.puts_stxHeld (l : List (Fld × Nat)) : (d.puts l).stxHeld = d.stxHeld := by
  induction l generalizing d with
  | nil => rfl
  | cons e t ih => exact (ih (d.put e.1 e.2)).trans (Dev.put_stxHeld d _ _)
@[simp] theorem Dev.capture_stxHeld (v : Fld) (l : List (Fld × Nat)) : (d.capture v l).stxHeld = d.stxHeld := by
  unfold Dev.capture; split <;> simp only [Dev.put_stxHeld, Dev.puts_stxHeld]
@[simp] theorem Dev.puts_srxHeld (l : List (Fld × Nat)) : (d.puts l).srxHeld = d.srxHeld := by
  induction l generalizing d with
  | nil => rfl
  | cons e t ih => exact (ih (d.put e.1 e.2)).trans (Dev.put_srxHeld d _ _)
@[simp] theorem Dev.capture_srxHeld (v : Fld) (l : List (Fld × Nat)) : (d.capture v l).srxHeld = d.srxHeld := by
  unfold Dev.capture; split <;> simp only [Dev.put_srxHeld, Dev.puts_srxHeld]
@[simp] theorem Dev.puts_rings (l : List (Fld × Nat)) : (d.puts l).rings = d.rings := by
  induction l generalizing d with
  | nil => rfl
  | cons e t ih => exact (ih (d.put e.1 e.2)).trans (Dev.put_rings d _ _)
@[simp] theorem Dev.capture_rings (v : Fld) (l : List (Fld × Nat)) : (d.capture v l).rings = d.rings := by
  unfold Dev.capture; split <;> simp only [Dev.put_rings, Dev.puts_rings]
@[simp] theorem Dev.puts_sap (l : List (Fld × Nat)) : (d.puts l).sap = d.sap := by
  induction l generalizing d with
  | nil => rfl
  | cons e t ih => exact (ih (d.put e.1 e.2)).trans (Dev.put_sap d _ _)
@[simp] theorem Dev.capture_sap (v : Fld) (l : List (Fld × Nat)) : (d.capture v l).sap = d.sap := by
  unfold Dev.capture; split <;> simp only [Dev.put_sap, Dev.puts_sap]
@[simp] theorem Dev.puts_ddr (l : List (Fld × Nat)) : (d.puts l).ddr = d.ddr := by
  induction l generalizing d with
  | nil => rfl
  | cons e t ih => exact (ih (d.put e.1 e.2)).trans (Dev.put_ddr d _ _)
@[simp] theorem Dev.capture_ddr (v : Fld) (l : List (Fld × Nat)) : (d.capture v l).ddr = d.ddr := by
  unfold Dev.capture; split <;> simp only [Dev.put_ddr, Dev.puts_ddr]
@[simp] theorem Dev.puts_anv (l : List (Fld × Nat)) : (d.puts l).anv = d.anv := by
  induction l generalizing d with
  | nil => rfl
  | cons e t ih => exact (ih (d.put e.1 e.2)).trans (Dev.put_anv d _ _)
@[simp] theorem Dev.capture_anv (v : Fld) (l : List (Fld × Nat)) : (d.capture v l).anv = d.anv := by
  unfold Dev.capture; split <;> simp only [Dev.put_anv, Dev.puts_anv]
@[simp] theorem Dev.puts_store (l : List (Fld × Nat)) : (d.puts l).store = d.store := by
  induction l generalizing d with
  | nil => rfl
  | cons e t ih => exact (ih (d.put e.1 e.2)).trans (Dev.put_store d _ _)
@[simp] theorem Dev.capture_store (v : Fld) (l : List (Fld × Nat)) : (d.capture v l).store = d.store := by
  unfold Dev.capture; split <;> simp only [Dev.put_store, Dev.puts_store]
@[simp] theorem Dev.puts_cue (l : List (Fld × Nat)) : (d.puts l).cue = d.cue := by
  induction l generalizing d with
  | nil => rfl
  | cons e t ih => exact (ih (d.put e.1 e.2)).trans (Dev.put_cue d _ _)
@[simp] theorem Dev.capture_cue (v : Fld) (l : List (Fld × Nat)) : (d.capture v l).cue = d.cue := by
  unfold Dev.capture; split <;> simp only [Dev.put_cue, Dev.puts_cue]
@[simp] theorem Dev.puts_cueIn (l : List (Fld × Nat)) : (d.puts l).cueIn = d.cueIn := by
  induction l generalizing d with
  | nil => rfl
  | cons e t ih => exact (ih (d.put e.1 e.2)).trans (Dev.put_cueIn d _ _)
@[simp] theorem Dev.capture_cueIn (v : Fld) (l : List (Fld × Nat)) : (d.capture v l).cueIn = d.cueIn := by
  unfold Dev.capture; split <;> simp only [Dev.put_cueIn, Dev.puts_cueIn]
@[simp] theorem Dev.puts_t1s (l : List (Fld × Nat)) : (d.puts l).t1s = d.t1s := by
  induction l generalizing d with
  | nil => rfl
  | cons e t ih => exact (ih (d.put e.1 e.2)).trans (Dev.put_t1s d _ _)
@[simp] theorem Dev.capture_t1s (v : Fld) (l : List (Fld × Nat)) : (d.capture v l).t1s = d.t1s := by
  unfold Dev.capture; split <;> simp only [Dev.put_t1s, Dev.puts_t1s]
@[simp] theorem Dev.puts_halo (l : List (Fld × Nat)) : (d.puts l).halo = d.halo := by
  induction l generalizing d with
  | nil => rfl
  | cons e t ih => exact (ih (d.put e.1 e.2)).trans (Dev.put_halo d _ _)
@[simp] theorem Dev.capture_halo (v : Fld) (l : List (Fld × Nat)) : (d.capture v l).halo = d.halo := by
  unfold Dev.capture; split <;> simp only [Dev.put_halo, Dev.puts_halo]
@[simp] theorem Dev.puts_pwr (l : List (Fld × Nat)) : (d.puts l).pwr = d.pwr := by
  induction l generalizing d with
  | nil => rfl
  | cons e t ih => exact (ih (d.put e.1 e.2)).trans (Dev.put_pwr d _ _)
@[simp] theorem Dev.capture_pwr (v : Fld) (l : List (Fld × Nat)) : (d.capture v l).pwr = d.pwr := by
  unfold Dev.capture; split <;> simp only [Dev.put_pwr, Dev.puts_pwr]
@[simp] theorem Dev.puts_rql (l : List (Fld × Nat)) : (d.puts l).rql = d.rql := by
  induction l generalizing d with
  | nil => rfl
  | cons e t ih => exact (ih (d.put e.1 e.2)).trans (Dev.put_rql d _ _)
@[simp] theorem Dev.capture_rql (v : Fld) (l : List (Fld × Nat)) : (d.capture v l).rql = d.rql := by
  unfold Dev.capture; split <;> simp only [Dev.put_rql, Dev.puts_rql]
@[simp] theorem Dev.puts_wipeDone (l : List (Fld × Nat)) : (d.puts l).wipeDone = d.wipeDone := by
  induction l generalizing d with
  | nil => rfl
  | cons e t ih => exact (ih (d.put e.1 e.2)).trans (Dev.put_wipeDone d _ _)
@[simp] theorem Dev.capture_wipeDone (v : Fld) (l : List (Fld × Nat)) : (d.capture v l).wipeDone = d.wipeDone := by
  unfold Dev.capture; split <;> simp only [Dev.put_wipeDone, Dev.puts_wipeDone]
@[simp] theorem Dev.puts_boot (l : List (Fld × Nat)) : (d.puts l).boot = d.boot := by
  induction l generalizing d with
  | nil => rfl
  | cons e t ih => exact (ih (d.put e.1 e.2)).trans (Dev.put_boot d _ _)
@[simp] theorem Dev.capture_boot (v : Fld) (l : List (Fld × Nat)) : (d.capture v l).boot = d.boot := by
  unfold Dev.capture; split <;> simp only [Dev.put_boot, Dev.puts_boot]
@[simp] theorem Dev.puts_nvm (l : List (Fld × Nat)) : (d.puts l).nvm = d.nvm := by
  induction l generalizing d with
  | nil => rfl
  | cons e t ih => exact (ih (d.put e.1 e.2)).trans (Dev.put_nvm d _ _)
@[simp] theorem Dev.capture_nvm (v : Fld) (l : List (Fld × Nat)) : (d.capture v l).nvm = d.nvm := by
  unfold Dev.capture; split <;> simp only [Dev.put_nvm, Dev.puts_nvm]
@[simp] theorem Dev.puts_poison (l : List (Fld × Nat)) : (d.puts l).poison = d.poison := by
  induction l generalizing d with
  | nil => rfl
  | cons e t ih => exact (ih (d.put e.1 e.2)).trans (Dev.put_poison d _ _)
@[simp] theorem Dev.capture_poison (v : Fld) (l : List (Fld × Nat)) : (d.capture v l).poison = d.poison := by
  unfold Dev.capture; split <;> simp only [Dev.put_poison, Dev.puts_poison]
@[simp] theorem Dev.puts_lanesRec (l : List (Fld × Nat)) : (d.puts l).lanesRec = d.lanesRec := by
  induction l generalizing d with
  | nil => rfl
  | cons e t ih => exact (ih (d.put e.1 e.2)).trans (Dev.put_lanesRec d _ _)
@[simp] theorem Dev.capture_lanesRec (v : Fld) (l : List (Fld × Nat)) : (d.capture v l).lanesRec = d.lanesRec := by
  unfold Dev.capture; split <;> simp only [Dev.put_lanesRec, Dev.puts_lanesRec]
@[simp] theorem Dev.puts_wbPend (l : List (Fld × Nat)) : (d.puts l).wbPend = d.wbPend := by
  induction l generalizing d with
  | nil => rfl
  | cons e t ih => exact (ih (d.put e.1 e.2)).trans (Dev.put_wbPend d _ _)
@[simp] theorem Dev.capture_wbPend (v : Fld) (l : List (Fld × Nat)) : (d.capture v l).wbPend = d.wbPend := by
  unfold Dev.capture; split <;> simp only [Dev.put_wbPend, Dev.puts_wbPend]
@[simp] theorem Dev.puts_integ (l : List (Fld × Nat)) : (d.puts l).integ = d.integ := by
  induction l generalizing d with
  | nil => rfl
  | cons e t ih => exact (ih (d.put e.1 e.2)).trans (Dev.put_integ d _ _)
@[simp] theorem Dev.capture_integ (v : Fld) (l : List (Fld × Nat)) : (d.capture v l).integ = d.integ := by
  unfold Dev.capture; split <;> simp only [Dev.put_integ, Dev.puts_integ]
@[simp] theorem Dev.puts_pin (l : List (Fld × Nat)) : (d.puts l).pin = d.pin := by
  induction l generalizing d with
  | nil => rfl
  | cons e t ih => exact (ih (d.put e.1 e.2)).trans (Dev.put_pin d _ _)
@[simp] theorem Dev.capture_pin (v : Fld) (l : List (Fld × Nat)) : (d.capture v l).pin = d.pin := by
  unfold Dev.capture; split <;> simp only [Dev.put_pin, Dev.puts_pin]
@[simp] theorem Dev.puts_jtag (l : List (Fld × Nat)) : (d.puts l).jtag = d.jtag := by
  induction l generalizing d with
  | nil => rfl
  | cons e t ih => exact (ih (d.put e.1 e.2)).trans (Dev.put_jtag d _ _)
@[simp] theorem Dev.capture_jtag (v : Fld) (l : List (Fld × Nat)) : (d.capture v l).jtag = d.jtag := by
  unfold Dev.capture; split <;> simp only [Dev.put_jtag, Dev.puts_jtag]
@[simp] theorem Dev.puts_tbl (l : List (Fld × Nat)) : (d.puts l).tbl = d.tbl := by
  induction l generalizing d with
  | nil => rfl
  | cons e t ih => exact (ih (d.put e.1 e.2)).trans (Dev.put_tbl d _ _)
@[simp] theorem Dev.capture_tbl (v : Fld) (l : List (Fld × Nat)) : (d.capture v l).tbl = d.tbl := by
  unfold Dev.capture; split <;> simp only [Dev.put_tbl, Dev.puts_tbl]
@[simp] theorem Dev.puts_irqA (l : List (Fld × Nat)) : (d.puts l).irqA = d.irqA := by
  induction l generalizing d with
  | nil => rfl
  | cons e t ih => exact (ih (d.put e.1 e.2)).trans (Dev.put_irqA d _ _)
@[simp] theorem Dev.capture_irqA (v : Fld) (l : List (Fld × Nat)) : (d.capture v l).irqA = d.irqA := by
  unfold Dev.capture; split <;> simp only [Dev.put_irqA, Dev.puts_irqA]
@[simp] theorem Dev.puts_irqB (l : List (Fld × Nat)) : (d.puts l).irqB = d.irqB := by
  induction l generalizing d with
  | nil => rfl
  | cons e t ih => exact (ih (d.put e.1 e.2)).trans (Dev.put_irqB d _ _)
@[simp] theorem Dev.capture_irqB (v : Fld) (l : List (Fld × Nat)) : (d.capture v l).irqB = d.irqB := by
  unfold Dev.capture; split <;> simp only [Dev.put_irqB, Dev.puts_irqB]
@[simp] theorem Dev.puts_free (l : List (Fld × Nat)) : (d.puts l).free = d.free := by
  induction l generalizing d with
  | nil => rfl
  | cons e t ih => exact (ih (d.put e.1 e.2)).trans (Dev.put_free d _ _)
@[simp] theorem Dev.capture_free (v : Fld) (l : List (Fld × Nat)) : (d.capture v l).free = d.free := by
  unfold Dev.capture; split <;> simp only [Dev.put_free, Dev.puts_free]

end Sys2Proof.Machine
end

