-- ==== Sys2Proof/Machine/Jtag.lean ====
section
/-! DEFINITION. The IEEE 1149.1 test access port on the JTAG balls (Table 0.2, Table 21.9, Table 24.1): the TAP controller, its
instruction, bypass and boundary registers. No row of the opcode table drives TCK or TRST_N, so no command calls these
operations (log entry 150). -/

namespace Sys2Proof.Machine

open Sys2Proof

/-- The state the TAP controller takes at a rising edge of TCK (IEEE 1149.1). -/
def TapState.next (s : TapState) (tms : Bool) : TapState :=
  match s with
  | .testLogicReset => if tms then .testLogicReset else .runTestIdle
  | .runTestIdle | .updateDr | .updateIr => if tms then .selectDr else .runTestIdle
  | .selectDr => if tms then .selectIr else .captureDr
  | .captureDr | .shiftDr => if tms then .exit1Dr else .shiftDr
  | .exit1Dr => if tms then .updateDr else .pauseDr
  | .pauseDr => if tms then .exit2Dr else .pauseDr
  | .exit2Dr => if tms then .updateDr else .shiftDr
  | .selectIr => if tms then .testLogicReset else .captureIr
  | .captureIr | .shiftIr => if tms then .exit1Ir else .shiftIr
  | .exit1Ir => if tms then .updateIr else .pauseIr
  | .pauseIr => if tms then .exit2Ir else .pauseIr
  | .exit2Ir => if tms then .updateIr else .shiftIr

/-- The instruction that the bits of the instruction register select, nearest TDO first: all ones is BYPASS, and so is an
opcode that the life-cycle state `lc` does not allow (R513, Table 21.9). -/
def tapInstr (lc : Nat) (ir : List Bool) : TapInstr :=
  if ir.all id then .bypass
  else match Config.tapOpcode ir with
    | 0 => .bypass
    | 1 => .sample
    | 2 => .preload
    | 3 => .extest
    | k + 4 => if lc < 2 then .test k else .bypass

/-- The TAP in Test-Logic-Reset: with no identification register, BYPASS is the instruction in force. -/
def Tap.reset (t : Tap) : Tap := { t with state := .testLogicReset, instr := .bypass }

/-- What a rising edge of TCK captures or shifts in the state the controller stands in; `pins` are the levels at the balls. -/
def Tap.act (t : Tap) (tdi : Bool) (pins : List Bool) : Tap :=
  match t.state with
  | .captureIr => { t with ir := true :: List.replicate (Config.tapIrLength - 1) false }
  | .shiftIr => { t with ir := t.ir.tail ++ [tdi] }
  | .captureDr => if t.instr = .bypass then { t with bypass := false } else { t with chain := pins }
  | .shiftDr => if t.instr = .bypass then { t with bypass := tdi } else { t with chain := t.chain.tail ++ [tdi] }
  | _ => t

/-- What the state just entered does at the falling edge that follows. -/
def Tap.enter (t : Tap) (lc : Nat) : Tap :=
  match t.state with
  | .testLogicReset => t.reset
  | .updateIr => { t with instr := tapInstr lc t.ir }
  | .updateDr => if t.instr = .bypass then t else { t with latched := t.chain }
  | _ => t

/-- One cycle of TCK with TMS and TDI. -/
def Dev.tapClock (d : Dev) (tms tdi : Bool) (pins : List Bool) : Dev :=
  let t := d.jtag.act tdi pins
  { d with jtag := ({ t with state := t.state.next tms } : Tap).enter d.boot.lc }

/-- TRST_N low. -/
def Dev.tapReset (d : Dev) : Dev := { d with jtag := d.jtag.reset }

/-- TDO, none while it is high impedance. -/
def Tap.tdo (t : Tap) : Option Bool :=
  match t.state with
  | .shiftIr => t.ir.head?
  | .shiftDr => if t.instr = .bypass then some t.bypass else t.chain.head?
  | _ => none

/-- The levels that EXTEST drives on the balls in place of the device's own. -/
def Tap.drives (t : Tap) : Option (List Bool) := if t.instr = .extest then some t.latched else none

end Sys2Proof.Machine
end

