-- ==== Sys2Proof/Laws/Ops.lean ====
section
/-! SUPPORT. Registers and their fields: what a read gives after a write. A field lies within its 32-bit word (`Fld.ok`). -/

namespace Sys2Proof.Machine

open Sys2Proof

variable (d : Dev)

/-! ## Words and fields -/

theorem Dev.reg_setReg (a b : Nat) (w : Word) : (d.setReg a w).reg b = if a = b then w else d.reg b := kget_kset 0 d.regs a b w

@[simp] theorem Dev.reg_setReg_same (a : Nat) (w : Word) : (d.setReg a w).reg a = w := by simp [Dev.reg_setReg]

/-- A field lies within a 32-bit word. -/
def Fld.ok (f : Fld) : Prop := f.lo + f.width ≤ 32

/-- Two fields of one word have no bit in common. -/
def Fld.apart (f g : Fld) : Prop := f.lo + f.width ≤ g.lo ∨ g.lo + g.width ≤ f.lo

theorem Fld.get_testBit (f : Fld) (w : Word) (i : Nat) :
    (f.get w).testBit i = (decide (i < f.width) && w.getLsbD (f.lo + i)) := by
  simp [Fld.get, Nat.testBit_mod_two_pow, Nat.testBit_div_two_pow, BitVec.getLsbD, Nat.add_comm]

theorem Fld.put_getLsbD (f : Fld) (hf : f.ok) (w : Word) (v i : Nat) :
    (f.put w v).getLsbD i =
      if f.lo ≤ i ∧ i < f.lo + f.width then v.testBit (i - f.lo) else w.getLsbD i := by
  unfold Fld.ok at hf
  simp only [Fld.put, BitVec.getLsbD_or, BitVec.getLsbD_and, BitVec.getLsbD_not, BitVec.getLsbD_ofNat,
    Nat.testBit_mul_two_pow, Nat.testBit_two_pow_sub_one, Nat.testBit_mod_two_pow]
  by_cases h : f.lo ≤ i ∧ i < f.lo + f.width
  · have h1 : i - f.lo < f.width := by omega
    have h2 : i < 32 := by omega
    simp [h, h1, h2]
  · rw [if_neg h]
    by_cases h1 : f.lo ≤ i
    · have h3 : ¬ i - f.lo < f.width := by omega
      by_cases h2 : i < 32
      · simp [h2, h3]
      · simp [h2, h3, BitVec.getLsbD_of_ge w i (by omega)]
    · by_cases h2 : i < 32
      · simp [h1, h2]
      · simp [h1, h2, BitVec.getLsbD_of_ge w i (by omega)]

theorem Fld.get_put (f : Fld) (hf : f.ok) (w : Word) (v : Nat) : f.get (f.put w v) = v % 2 ^ f.width := by
  apply Nat.eq_of_testBit_eq
  intro i
  rw [Fld.get_testBit, Fld.put_getLsbD f hf, Nat.testBit_mod_two_pow]
  by_cases h : i < f.width
  · simp [h]
  · simp [h]

theorem Fld.get_put_apart (f g : Fld) (hf : f.ok) (h : f.apart g) (w : Word) (v : Nat) : g.get (f.put w v) = g.get w := by
  apply Nat.eq_of_testBit_eq
  intro i
  rw [Fld.get_testBit, Fld.get_testBit, Fld.put_getLsbD f hf]
  by_cases hi : i < g.width
  · unfold Fld.apart at h
    rw [if_neg (by omega)]
  · simp [hi]

/-! ## Registers and fields of the device -/

theorem Dev.reg_put (f : Fld) (v b : Nat) :
    (d.put f v).reg b = if f.addr = b then f.put (d.reg f.addr) v else d.reg b := Dev.reg_setReg d _ _ _

theorem Dev.get_setReg (a : Nat) (w : Word) (f : Fld) : (d.setReg a w).get f = if a = f.addr then f.get w else d.get f := by
  unfold Dev.get
  rw [Dev.reg_setReg]
  split <;> simp_all

theorem Dev.get_setReg_ne (a : Nat) (w : Word) (f : Fld) (h : a ≠ f.addr) : (d.setReg a w).get f = d.get f := by
  rw [Dev.get_setReg, if_neg h]

theorem Dev.get_put_same (f : Fld) (v : Nat) (hf : f.ok) : (d.put f v).get f = v % 2 ^ f.width := by
  unfold Dev.get
  rw [Dev.reg_put, if_pos rfl, Fld.get_put f hf]

theorem Dev.get_put_addr (f g : Fld) (v : Nat) (h : f.addr ≠ g.addr) : (d.put f v).get g = d.get g := by
  unfold Dev.get
  rw [Dev.reg_put, if_neg h]

theorem Dev.get_put_apart (f g : Fld) (v : Nat) (hf : f.ok) (h : f.apart g) : (d.put f v).get g = d.get g := by
  unfold Dev.get
  rw [Dev.reg_put]
  split
  · rename_i e; rw [Fld.get_put_apart f g hf h, e]
  · rfl

/-- A 32-bit counter rises by `n` and stays at all ones. -/
theorem Dev.reg_add_same (a n : Nat) : ((d.add a n).reg a).toNat = min ((d.reg a).toNat + n) (2 ^ 32 - 1) := by
  unfold Dev.add Dev.count
  rw [Dev.reg_put, if_pos (show (wordFld a).addr = a from rfl)]
  have hf : (wordFld a).ok := by simp [Fld.ok, wordFld]
  have hg : ∀ w : Word, (wordFld a).get w = w.toNat := fun w => by
    simp only [Fld.get, wordFld, Nat.pow_zero, Nat.div_one]; exact Nat.mod_eq_of_lt w.isLt
  have h := Fld.get_put (wordFld a) hf (d.reg (wordFld a).addr) (satAdd (wordFld a).width (d.get (wordFld a)) n)
  rw [hg] at h
  have e : satAdd (wordFld a).width (d.get (wordFld a)) n = min ((d.reg a).toNat + n) (2 ^ 32 - 1) := by
    have : d.get (wordFld a) = (d.reg a).toNat := hg _
    rw [this]; rfl
  rw [h, e]
  exact Nat.mod_eq_of_lt (lt_of_le_of_lt (Nat.min_le_right _ _) (show 2 ^ 32 - 1 < 2 ^ 32 by norm_num))

theorem Dev.reg_add_ne (a n b : Nat) (h : a ≠ b) : (d.add a n).reg b = d.reg b := by
  unfold Dev.add Dev.count
  rw [Dev.reg_put, if_neg (show (wordFld a).addr ≠ b from h)]

/-- A counter register after one event. -/
theorem Dev.reg_inc_same (a : Nat) : ((d.inc a).reg a).toNat = min ((d.reg a).toNat + 1) (2 ^ 32 - 1) := Dev.reg_add_same d a 1

theorem Dev.reg_inc_ne (a b : Nat) (h : a ≠ b) : (d.inc a).reg b = d.reg b := Dev.reg_add_ne d a 1 b h

theorem Dev.get_inc_ne (a : Nat) (f : Fld) (h : a ≠ f.addr) : (d.inc a).get f = d.get f := by
  unfold Dev.get; rw [Dev.reg_inc_ne d a _ h]

/-- A capture that is held stays as it is. -/
theorem Dev.capture_held (v : Fld) (l : List (Fld × Nat)) (h : d.on v = true) : d.capture v l = d := by
  simp [Dev.capture, h]

/-! ## The test access port -/

/-- Five rising edges with TMS = 1 bring the TAP controller to Test-Logic-Reset from any state. -/
theorem TapState.five_ones (s : TapState) : ((((s.next true).next true).next true).next true).next true = .testLogicReset := by
  cases s <;> rfl

end Sys2Proof.Machine
end

