-- ==== Sys2Proof/Laws/PerInstr.lean ====
section
/-! SUPPORT. One lemma for each command: no word of any length spells it (the opcode table of this block gives no row any
bits), so that the queue is the only way in for a command. -/

namespace Sys2Proof.Laws.Unspelled

open Sys2Proof

/-- No word decodes to the command. -/
def Statement (i : Instr) : Prop := ∀ nbits w, decodeTableWord nbits w ≠ some i

/-- The decoder of this block answers no word. -/
theorem of_any (i : Instr) : Statement i := fun _ _ h => nomatch h

theorem tickIssue (g : Fin 8) : Statement (.tickIssue g) := of_any _
theorem tickHoldSend (g : Fin 8) (c : Consumer) : Statement (.tickHoldSend g c) := of_any _
theorem crossingWordDeliver (x : Crossing) : Statement (.crossingWordDeliver x) := of_any _
theorem tickWord (g : Fin 8) (c : Consumer) : Statement (.tickWord g c) := of_any _
theorem captureRead (p : Port) (addr : BitVec 24) (size : AccSize) : Statement (.captureRead p addr size) := of_any _
theorem winPageWrite (p : Port) (v : Word) : Statement (.winPageWrite p v) := of_any _
theorem windowWriteLower (p : Port) (addr : BitVec 24) (v : Word) : Statement (.windowWriteLower p addr v) := of_any _
theorem windowWriteUpper (p : Port) (addr : BitVec 24) (v : Word) : Statement (.windowWriteUpper p addr v) := of_any _
theorem windowReadLower (p : Port) (addr : BitVec 24) (size : AccSize) : Statement (.windowReadLower p addr size) := of_any _
theorem pairLowRead (p : Port) (addr : BitVec 24) (size : AccSize) : Statement (.pairLowRead p addr size) := of_any _
theorem deadlineCancel (k : RetryKind) (tag : Nat) : Statement (.deadlineCancel k tag) := of_any _
theorem lateResultDiscard (k : RetryKind) (tag : Nat) : Statement (.lateResultDiscard k tag) := of_any _
theorem timeAddendLWrite (p : Port) (v : Word) : Statement (.timeAddendLWrite p v) := of_any _
theorem timeAddendHWrite (p : Port) (v : Word) : Statement (.timeAddendHWrite p v) := of_any _
theorem timeSet (p : Port) (v : Word) : Statement (.timeSet p v) := of_any _
theorem timeCtlStep (p : Port) (v : Word) : Statement (.timeCtlStep p v) := of_any _
theorem timeNowRead (p : Port) (size : AccSize) : Statement (.timeNowRead p size) := of_any _
theorem ft64Read (p : Port) (size : AccSize) : Statement (.ft64Read p size) := of_any _
theorem stepSizeRead (p : Port) (size : AccSize) : Statement (.stepSizeRead p size) := of_any _
theorem tcmpArm (n : Fin 64) (p : Port) (v : Word) : Statement (.tcmpArm n p v) := of_any _
theorem tcmpDisarm (n : Fin 64) (p : Port) (v : Word) : Statement (.tcmpDisarm n p v) := of_any _
theorem tcmpFire (n : Fin 64) : Statement (.tcmpFire n) := of_any _
theorem tcapEdge (n : Fin 16) (rising : Bool) : Statement (.tcapEdge n rising) := of_any _
theorem tcapPop (n : Fin 16) (p : Port) (v : Word) : Statement (.tcapPop n p v) := of_any _
theorem tcapRead (n : Fin 16) (p : Port) (size : AccSize) : Statement (.tcapRead n p size) := of_any _
theorem tcapDisable (n : Fin 16) (p : Port) (v : Word) : Statement (.tcapDisable n p v) := of_any _
theorem ppsInEdge : Statement .ppsInEdge := of_any _
theorem ppsInLos : Statement .ppsInLos := of_any _
theorem clk10mWindow (freq : Int) : Statement (.clk10mWindow freq) := of_any _
theorem clk10mLos : Statement .clk10mLos := of_any _
theorem ppsOutEnable (p : Port) (v : Word) : Statement (.ppsOutEnable p v) := of_any _
theorem ppsOutDisable (p : Port) (v : Word) : Statement (.ppsOutDisable p v) := of_any _
theorem ppsOutPulseEnd : Statement .ppsOutPulseEnd := of_any _
theorem ptpDomainEnable (i : Fin 4) (p : Port) (v : Word) : Statement (.ptpDomainEnable i p v) := of_any _
theorem ptpDomainDisable (i : Fin 4) (p : Port) (v : Word) : Statement (.ptpDomainDisable i p v) := of_any _
theorem ptpMessageHeld (delay : Option Int) : Statement (.ptpMessageHeld delay) := of_any _
theorem ptpMeasurement (i n : Fin 4) (t1 t2 cf followUp : Int) : Statement (.ptpMeasurement i n t1 t2 cf followUp) := of_any _
theorem servoSourceLost (i : Fin 4) : Statement (.servoSourceLost i) := of_any _
theorem servoHoldExpiry (i : Fin 4) : Statement (.servoHoldExpiry i) := of_any _
theorem announceInterval (i : Fin 4) : Statement (.announceInterval i) := of_any _
theorem announceReceiptTimeout (i n : Fin 4) : Statement (.announceReceiptTimeout i n) := of_any _
theorem delayReqDue (i n : Fin 4) : Statement (.delayReqDue i n) := of_any _
theorem governingChange : Statement .governingChange := of_any _
theorem gmDisable (p : Port) (v : Word) : Statement (.gmDisable p v) := of_any _
theorem todLoad (p : Port) (v : Word) : Statement (.todLoad p v) := of_any _
theorem mcgEnable (n : Fin 8) (p : Port) (v : Word) : Statement (.mcgEnable n p v) := of_any _
theorem mcgDisable (n : Fin 8) (p : Port) (v : Word) : Statement (.mcgDisable n p v) := of_any _
theorem mcgSrcWrite (n : Fin 8) (p : Port) (v : Word) : Statement (.mcgSrcWrite n p v) := of_any _
theorem mcgPhaseMeasure (n : Fin 8) (err freq : Int) : Statement (.mcgPhaseMeasure n err freq) := of_any _
theorem mcgSourceLoss (n : Fin 8) : Statement (.mcgSourceLoss n) := of_any _
theorem mcgSourceQualified (n : Fin 8) : Statement (.mcgSourceQualified n) := of_any _
theorem mcgFree (n : Fin 8) : Statement (.mcgFree n) := of_any _
theorem mcgJumpTick (n : Fin 8) : Statement (.mcgJumpTick n) := of_any _
theorem mclkEnable (n : Fin 8) (p : Port) (v : Word) : Statement (.mclkEnable n p v) := of_any _
theorem stxEnable (p : Port) (v : Word) : Statement (.stxEnable p v) := of_any _
theorem stxDisable (p : Port) (v : Word) : Statement (.stxDisable p v) := of_any _
theorem stxMute (p : Port) (v : Word) : Statement (.stxMute p v) := of_any _
theorem stxUnmute (p : Port) (v : Word) : Statement (.stxUnmute p v) := of_any _
theorem stxQueuedCmd (tx : Bool) : Statement (.stxQueuedCmd tx) := of_any _
theorem packetEmit (c : Fin 512) : Statement (.packetEmit c) := of_any _
theorem srxEnable (p : Port) (v : Word) : Statement (.srxEnable p v) := of_any _
theorem srxDisable (p : Port) (v : Word) : Statement (.srxDisable p v) := of_any _
theorem srxMute (p : Port) (v : Word) : Statement (.srxMute p v) := of_any _
theorem srxUnmute (p : Port) (v : Word) : Statement (.srxUnmute p v) := of_any _
theorem streamCopy : Statement .streamCopy := of_any _
theorem streamLossTimeout (c : Fin 512) : Statement (.streamLossTimeout c) := of_any _
theorem grpWaitExpiry (grp : BitVec 8) (realign : Bool) : Statement (.grpWaitExpiry grp realign) := of_any _
theorem deepStagingCopy (c : Fin 512) : Statement (.deepStagingCopy c) := of_any _
theorem crfConcealTimeout (c : Fin 512) : Statement (.crfConcealTimeout c) := of_any _
theorem anvEnable (p : Port) (v : Word) : Statement (.anvEnable p v) := of_any _
theorem anvDisable (p : Port) (v : Word) : Statement (.anvDisable p v) := of_any _
theorem sceneSwap (p : Port) (v : Word) : Statement (.sceneSwap p v) := of_any _
theorem sceneCancel (p : Port) (v : Word) : Statement (.sceneCancel p v) := of_any _
theorem blockGather : Statement .blockGather := of_any _
theorem jobCommit (lane : Fin 34) (k : Shadow) : Statement (.jobCommit lane k) := of_any _
theorem laneResidueFault (lane : Fin 34) (slack : Bool) : Statement (.laneResidueFault lane slack) := of_any _
theorem jobDeadlineMiss (bank : Fin 2) (entry : Fin 32768) : Statement (.jobDeadlineMiss bank entry) := of_any _
theorem dramReadReturn (bank : Fin 2) (entry : Fin 32768) (ce : Option (Nat × Nat × Nat)) : Statement (.dramReadReturn bank entry ce) := of_any _
theorem sensorSample (rs : List Int) : Statement (.sensorSample rs) := of_any _
theorem sapEnable (n : Fin 24) (p : Port) (v : Word) : Statement (.sapEnable n p v) := of_any _
theorem sapDisable (n : Fin 24) (p : Port) (v : Word) : Statement (.sapDisable n p v) := of_any _
theorem sapFrame (n : Fin 24) (ws : BitVec 65) (lanes : List (BitVec 65)) (ratio : Nat) (drift : Bool) : Statement (.sapFrame n ws lanes ratio drift) := of_any _
theorem slotMaskWrite (n : Fin 24) (p : Port) (v : Word) : Statement (.slotMaskWrite n p v) := of_any _
theorem slotMaskApply (n : Fin 24) : Statement (.slotMaskApply n) := of_any _
theorem sapChStart (n : Fin 24) (p : Port) (v : Word) : Statement (.sapChStart n p v) := of_any _
theorem sapChStop (n : Fin 24) (p : Port) (v : Word) : Statement (.sapChStop n p v) := of_any _
theorem sapChMute (n : Fin 24) (p : Port) (v : Word) : Statement (.sapChMute n p v) := of_any _
theorem sapChUnmute (n : Fin 24) (p : Port) (v : Word) : Statement (.sapChUnmute n p v) := of_any _
theorem zeroCrossing (n : Fin 24) (c : Fin 16) : Statement (.zeroCrossing n c) := of_any _
theorem zcTimeout (n : Fin 24) (c : Fin 16) : Statement (.zcTimeout n c) := of_any _
theorem asrcLock (n : Fin 24) (ratio : Nat) : Statement (.asrcLock n ratio) := of_any _
theorem sapClkLoss (n : Fin 24) : Statement (.sapClkLoss n) := of_any _
theorem netEnable (n : Fin 4) (p : Port) (v : Word) : Statement (.netEnable n p v) := of_any _
theorem netDisable (n : Fin 4) (p : Port) (v : Word) : Statement (.netDisable n p v) := of_any _
theorem serdesLock (n : Fin 4) (p : Port) (v : Word) : Statement (.serdesLock n p v) := of_any _
theorem linkDown (n : Fin 4) (rx : Bool) : Statement (.linkDown n rx) := of_any _
theorem linkUp (n : Fin 4) (reported : Nat) : Statement (.linkUp n reported) := of_any _
theorem frameReceive (n : Fin 4) (f : RxFrame) (lpi : Nat) : Statement (.frameReceive n f lpi) := of_any _
theorem frameTxStart (n : Fin 4) (ns : Int) (frac : BitVec 16) : Statement (.frameTxStart n ns frac) := of_any _
theorem frameTxComplete (n : Fin 5) : Statement (.frameTxComplete n) := of_any _
theorem netSnap (p : Port) (v : Word) : Statement (.netSnap p v) := of_any _
theorem mdioC22Write (p : Port) (v : Word) : Statement (.mdioC22Write p v) := of_any _
theorem mdioC22Read (p : Port) (v : Word) : Statement (.mdioC22Read p v) := of_any _
theorem mdioC45Write (p : Port) (v : Word) : Statement (.mdioC45Write p v) := of_any _
theorem mdioC45Read (p : Port) (v : Word) : Statement (.mdioC45Read p v) := of_any _
theorem mdioC45ReadInc (p : Port) (v : Word) : Statement (.mdioC45ReadInc p v) := of_any _
theorem mdioC45Address (p : Port) (v : Word) : Statement (.mdioC45Address p v) := of_any _
theorem mdioDone (resp : Bool) (v : BitVec 16) : Statement (.mdioDone resp v) := of_any _
theorem gateEnable (n : Fin 4) (p : Port) (v : Word) : Statement (.gateEnable n p v) := of_any _
theorem gateDisable (n : Fin 4) (p : Port) (v : Word) : Statement (.gateDisable n p v) := of_any _
theorem gateEntryEnd (n : Fin 4) : Statement (.gateEntryEnd n) := of_any _
theorem verifyFrame (n : Fin 4) : Statement (.verifyFrame n) := of_any _
theorem respondFrame (n : Fin 4) : Statement (.respondFrame n) := of_any _
theorem verifyTimeout (n : Fin 4) : Statement (.verifyTimeout n) := of_any _
theorem pauseFrame : Statement .pauseFrame := of_any _
theorem pauseExpiry (n : Fin 4) : Statement (.pauseExpiry n) := of_any _
theorem pauseTxSend (n : Fin 4) (p : Port) (v : Word) : Statement (.pauseTxSend n p v) := of_any _
theorem mioEnable (p : Port) (v : Word) : Statement (.mioEnable p v) := of_any _
theorem mioDisable (p : Port) (v : Word) : Statement (.mioDisable p v) := of_any _
theorem mioTblWrite (p : Port) (v : Word) : Statement (.mioTblWrite p v) := of_any _
theorem mioTblRead (p : Port) (v : Word) : Statement (.mioTblRead p v) := of_any _
theorem mioTblInvalidate (p : Port) (v : Word) : Statement (.mioTblInvalidate p v) := of_any _
theorem discPeriod : Statement .discPeriod := of_any _
theorem probePeriod : Statement .probePeriod := of_any _
theorem discReceive : Statement .discReceive := of_any _
theorem probeReceive : Statement .probeReceive := of_any _
theorem topoLinkDown : Statement .topoLinkDown := of_any _
theorem topoBreakSet : Statement .topoBreakSet := of_any _
theorem chainPortLoss (n : Fin 4) : Statement (.chainPortLoss n) := of_any _
theorem noPeerTimeout (n : Fin 4) : Statement (.noPeerTimeout n) := of_any _
theorem nodeTimeout (net : Fin 2) (mac : BitVec 48) : Statement (.nodeTimeout net mac) := of_any _
theorem ringTimeout (net : Fin 2) : Statement (.ringTimeout net) := of_any _
theorem restoreTimeout (n : Fin 4) : Statement (.restoreTimeout n) := of_any _
theorem segOverTimeout (net : Fin 2) : Statement (.segOverTimeout net) := of_any _
theorem fnidListenEnd : Statement .fnidListenEnd := of_any _
theorem fnidClaimEnd : Statement .fnidClaimEnd := of_any _
theorem addressAge (i : Fin 16384) : Statement (.addressAge i) := of_any _
theorem mgmtRequest (m : Meets) (early : Bool) : Statement (.mgmtRequest m early) := of_any _
theorem mgmtResponse : Statement .mgmtResponse := of_any _
theorem mioReqRead (p : Port) (v : Word) : Statement (.mioReqRead p v) := of_any _
theorem mioReqWrite (p : Port) (v : Word) : Statement (.mioReqWrite p v) := of_any _
theorem mioReqInbox (p : Port) (v : Word) : Statement (.mioReqInbox p v) := of_any _
theorem mioReqRetx : Statement .mioReqRetx := of_any _
theorem mioReqTimeout : Statement .mioReqTimeout := of_any _
theorem t1sEnable (p : Port) (v : Word) : Statement (.t1sEnable p v) := of_any _
theorem t1sFrameReceive (f : T1sRx) : Statement (.t1sFrameReceive f) := of_any _
theorem beacon : Statement .beacon := of_any _
theorem transmitOpportunity (further : Bool) : Statement (.transmitOpportunity further) := of_any _
theorem beaconLoss : Statement .beaconLoss := of_any _
theorem collision (late : Bool) (r : BitVec 16) : Statement (.collision late r) := of_any _
theorem backoffEnd : Statement .backoffEnd := of_any _
theorem cueEnable (p : Port) (v : Word) : Statement (.cueEnable p v) := of_any _
theorem cueDisable (p : Port) (v : Word) : Statement (.cueDisable p v) := of_any _
theorem cueFire : Statement .cueFire := of_any _
theorem cueTrigger : Statement .cueTrigger := of_any _
theorem cuePinEdge (k : Fin 16) (level : Bool) : Statement (.cuePinEdge k level) := of_any _
theorem cueGo (p : Port) (v : Word) : Statement (.cueGo p v) := of_any _
theorem cueTblWrite (p : Port) (v : Word) : Statement (.cueTblWrite p v) := of_any _
theorem cueTblRead (p : Port) (v : Word) : Statement (.cueTblRead p v) := of_any _
theorem cueTblArm (p : Port) (v : Word) : Statement (.cueTblArm p v) := of_any _
theorem cueTblDisarm (p : Port) (v : Word) : Statement (.cueTblDisarm p v) := of_any _
theorem cueFrameDeadline (n : Nat) : Statement (.cueFrameDeadline n) := of_any _
theorem cuePinDirWrite (p : Port) (v : Word) : Statement (.cuePinDirWrite p v) := of_any _
theorem dmxPortEnable (q : Fin 4) (p : Port) (v : Word) : Statement (.dmxPortEnable q p v) := of_any _
theorem dmxBreak (q : Fin 4) : Statement (.dmxBreak q) := of_any _
theorem e131Packet : Statement .e131Packet := of_any _
theorem ltcFrame : Statement .ltcFrame := of_any _
theorem ltcInFrame (rate h m sec f : Nat) (ub : Word) (broken : Bool) : Statement (.ltcInFrame rate h m sec f ub broken) := of_any _
theorem ltcLoss : Statement .ltcLoss := of_any _
theorem haloEnable (p : Port) (v : Word) : Statement (.haloEnable p v) := of_any _
theorem haloDisable (p : Port) (v : Word) : Statement (.haloDisable p v) := of_any _
theorem heartbeatDue : Statement .heartbeatDue := of_any _
theorem wireHeartbeat (w : Nat) : Statement (.wireHeartbeat w) := of_any _
theorem heartbeatFrame : Statement .heartbeatFrame := of_any _
theorem haloPartnerLost : Statement .haloPartnerLost := of_any _
theorem haloInitTimeout : Statement .haloInitTimeout := of_any _
theorem haloReqTimeout : Statement .haloReqTimeout := of_any _
theorem haloSwitch (p : Port) (v : Word) : Statement (.haloSwitch p v) := of_any _
theorem haloReclaimNow (p : Port) (v : Word) : Statement (.haloReclaimNow p v) := of_any _
theorem reclaimExpiry : Statement .reclaimExpiry := of_any _
theorem detachTimeout : Statement .detachTimeout := of_any _
theorem haloRoleLock (p : Port) (v : Word) : Statement (.haloRoleLock p v) := of_any _
theorem hqPop (q : Fin 32) (p : Port) (x : PopAt) : Statement (.hqPop q p x) := of_any _
theorem hqFlush (q : Fin 32) (p : Port) (v : Word) (m : Meets) : Statement (.hqFlush q p v m) := of_any _
theorem hqFlushComplete (q : Fin 32) : Statement (.hqFlushComplete q) := of_any _
theorem hqPointerMismatch (q : Fin 32) : Statement (.hqPointerMismatch q) := of_any _
theorem hqWmWrite (q : Fin 32) (p : Port) (x : WmWrite) : Statement (.hqWmWrite q p x) := of_any _
theorem fcMapWrite (hi : Bool) (p : Port) (v : Word) : Statement (.fcMapWrite hi p v) := of_any _
theorem hqEnable (q : Fin 32) (p : Port) (v : Word) : Statement (.hqEnable q p v) := of_any _
theorem spiTransaction (m : Meets) (x : SpiXact) : Statement (.spiTransaction m x) := of_any _
theorem spiAbort (m : Meets) (x : SpiXact) (bytes itemsOut : Nat) (inStatus : Bool) : Statement (.spiAbort m x bytes itemsOut inStatus) := of_any _
theorem cmpWrite (m : Meets) (addr : CmpAddr) (ws : List Word) : Statement (.cmpWrite m addr ws) := of_any _
theorem cmpRead (m : Meets) (addr : CmpAddr) (n : Nat) : Statement (.cmpRead m addr n) := of_any _
theorem cmpAbort (m : Meets) (addr : CmpAddr) (ws : List Word) : Statement (.cmpAbort m addr ws) := of_any _
theorem registerWrite (m : Meets) (p : Port) (addr : BitVec 24) (size : AccSize) (v : Word) : Statement (.registerWrite m p addr size v) := of_any _
theorem ignRecPop (p : Port) : Statement (.ignRecPop p) := of_any _
theorem mbxDataWrite (p : Port) (v : Word) : Statement (.mbxDataWrite p v) := of_any _
theorem mbxPost (p : Port) (v : Word) : Statement (.mbxPost p v) := of_any _
theorem mbxClear (p : Port) (v : Word) : Statement (.mbxClear p v) := of_any _
theorem wdogKick (p : Port) (v : Word) : Statement (.wdogKick p v) := of_any _
theorem wdogExpiry : Statement .wdogExpiry := of_any _
theorem clkSwitch (m : Meets) (p : Port) (v : Word) : Statement (.clkSwitch m p v) := of_any _
theorem syspllLock : Statement .syspllLock := of_any _
theorem tpllLock (cycles : Nat) : Statement (.tpllLock cycles) := of_any _
theorem clkRefLoss : Statement .clkRefLoss := of_any _
theorem syspllUnlock : Statement .syspllUnlock := of_any _
theorem pwrReqWrite (k : Fin 15) (m : Meets) (p : Port) (v : Word) : Statement (.pwrReqWrite k m p v) := of_any _
theorem idleTimerExpiry (k : Fin 15) (w : Woken) : Statement (.idleTimerExpiry k w) := of_any _
theorem cmpWake (x : CmpByte) : Statement (.cmpWake x) := of_any _
theorem linkEnergy (n : Fin 4) (bad : List Bank) : Statement (.linkEnergy n bad) := of_any _
theorem t1sLinkEnergy (bad : List Bank) : Statement (.t1sLinkEnergy bad) := of_any _
theorem wakeFrame (bad : List Bank) : Statement (.wakeFrame bad) := of_any _
theorem rqlEnable (n : Fin 8) (p : Port) (v : Word) : Statement (.rqlEnable n p v) := of_any _
theorem rqlDisable (n : Fin 8) (p : Port) (v : Word) : Statement (.rqlDisable n p v) := of_any _
theorem rqlEvtInj (n : Fin 8) (p : Port) (v : Word) : Statement (.rqlEvtInj n p v) := of_any _
theorem rqlStep (m : Meets) (n : Fin 8) (time : Option Nat) : Statement (.rqlStep m n time) := of_any _
theorem rqlTimerExpiry (n t : Fin 8) : Statement (.rqlTimerExpiry n t) := of_any _
theorem powerOnReset : Statement .powerOnReset := of_any _
theorem resetNAssert : Statement .resetNAssert := of_any _
theorem resetRelease (x : StartInfo) : Statement (.resetRelease x) := of_any _
theorem waitSectionEnd (timeout : Bool) : Statement (.waitSectionEnd timeout) := of_any _
theorem imageClockSwitch (timeout : Bool) : Statement (.imageClockSwitch timeout) := of_any _
theorem bootConfirm (p : Port) (v : Word) : Statement (.bootConfirm p v) := of_any _
theorem bootRestart (p : Port) (v : Word) : Statement (.bootRestart p v) := of_any _
theorem bootClearFail (p : Port) (v : Word) : Statement (.bootClearFail p v) := of_any _
theorem nvmRelease (p : Port) (v : Word) (content : Option Nvm) : Statement (.nvmRelease p v content) := of_any _
theorem lcGo (m : Meets) (p : Port) (v : Word) : Statement (.lcGo m p v) := of_any _
theorem lcLock (p : Port) (v : Word) : Statement (.lcLock p v) := of_any _
theorem progKey (p : Port) (v : Word) : Statement (.progKey p v) := of_any _
theorem revoke (p : Port) (v : Word) : Statement (.revoke p v) := of_any _
theorem scrubRead (array sub word : Nat) (err : Option (Bool × BitVec 8)) : Statement (.scrubRead array sub word err) := of_any _
theorem rowMigrated (array sub row : Nat) : Statement (.rowMigrated array sub row) := of_any _
theorem trackerEntryExpiry (array sub row : Nat) : Statement (.trackerEntryExpiry array sub row) := of_any _
theorem repairWriteback : Statement .repairWriteback := of_any _
theorem repairWritebackDone (ok : Bool) : Statement (.repairWritebackDone ok) := of_any _
theorem fatalError : Statement .fatalError := of_any _
theorem fatalLogClr (p : Port) (v : Word) : Statement (.fatalLogClr p v) := of_any _
theorem injArm (p : Port) (v : Word) : Statement (.injArm p v) := of_any _
theorem ddrEnable (p : Port) (v : Word) : Statement (.ddrEnable p v) := of_any _
theorem ddrDisable (p : Port) (v : Word) : Statement (.ddrDisable p v) := of_any _
theorem ddrTrainingDone (result : Fin 3) : Statement (.ddrTrainingDone result) := of_any _
theorem ddrRegionReady : Statement .ddrRegionReady := of_any _
theorem ddrWipeDone : Statement .ddrWipeDone := of_any _
theorem ddrReadFail (who : DramReader) (rank beat syndrome : Nat) : Statement (.ddrReadFail who rank beat syndrome) := of_any _
theorem ddrAlert : Statement .ddrAlert := of_any _
theorem ddrPatrolRead (rank beat : Nat) (err : Option (Bool × Nat)) : Statement (.ddrPatrolRead rank beat err) := of_any _
theorem hotswapAssert : Statement .hotswapAssert := of_any _
theorem hotswapGlitch : Statement .hotswapGlitch := of_any _
theorem hotswapRelease : Statement .hotswapRelease := of_any _
theorem hotswapLoadResume (reread : Option (Nat × BitVec 8)) : Statement (.hotswapLoadResume reread) := of_any _
theorem refclkReturn : Statement .refclkReturn := of_any _
theorem portFaulted (n : Fin 4) (c : PortFault) : Statement (.portFaulted n c) := of_any _
theorem portFaultCleared (e : FaultEnd) : Statement (.portFaultCleared e) := of_any _
theorem heartbeatPathSilent (path : Option (Fin 4)) : Statement (.heartbeatPathSilent path) := of_any _
theorem haloPactChange (level : Bool) : Statement (.haloPactChange level) := of_any _
theorem deferEnd : Statement .deferEnd := of_any _
theorem postedWriteDone : Statement .postedWriteDone := of_any _
theorem syncDue (i n : Fin 4) : Statement (.syncDue i n) := of_any _

end Sys2Proof.Laws.Unspelled
end

