-- ==== Sys2Proof/Laws/Settle.lean ====
section
/-! SUPPORT. What follows a command: with nothing waiting on the device's own part (`Dev.calm`), only the interrupt balls move. -/

namespace Sys2Proof.Machine

open Sys2Proof

/-- The registers that `Dev.calm` reads. -/
def calmRegs : List Nat := [rPTP_PTDd_STS 0, rPTP_PTDd_STS 1, rPTP_PTDd_STS 2, rPTP_PTDd_STS 3, rHALO_STS,
  rPTP_GOV_STS, rTIME_PPS_OUT_CFG]

theorem Dev.ptp_settles (d : Dev) (i : Nat) (h : ¬d.ptpLock i = 1 ∧ ¬d.ptpLock i = 2) (b : d.portsBegun i = true) :
    d.ptpSettles i = d := by
  simp only [Dev.portsBegun, Bool.and_eq_true, bne_iff_ne, ne_eq] at b
  simp [Dev.ptpSettles, List.range, List.range.loop, h.1, h.2, b.1.1.1, b.1.1.2, b.1.2, b.2]

theorem Dev.settle_calm (d : Dev) (h : d.calm = true) : d.settle = d.showIrq := by
  simp only [Dev.calm, Bool.and_eq_true, Bool.not_eq_true', beq_iff_eq, bne_iff_ne, ne_eq, Option.isNone_iff_eq_none] at h
  obtain ⟨⟨⟨⟨⟨⟨⟨⟨⟨⟨⟨⟨h1, h0⟩, h2⟩, h3⟩, h4⟩, p0⟩, p1⟩, p2⟩, p3⟩, b0⟩, b1⟩, b2⟩, b3⟩ := h.1.1
  have e1 : d.hotswapSettle = d := by simp [Dev.hotswapSettle, Dev.detachNext, Dev.detachThree, h1, h0]
  have e2 : d.loaderSettle = d := by simp [Dev.loaderSettle, Dev.warmBegin, Dev.warmGo, Dev.queuedGo, h2, h3, h4]
  have e3 : d.ptpSettle = d := by
    simp only [Dev.ptpSettle, List.range, List.range.loop, List.foldl, d.ptp_settles 0 p0 b0, d.ptp_settles 1 p1 b1,
      d.ptp_settles 2 p2 b2, d.ptp_settles 3 p3 b3]
  have e4 : d.haloSettle = d := by simp [Dev.haloSettle, h.1.2]
  have e5 : d.ppsSettle = d := by
    unfold Dev.ppsSettle
    split
    · rename_i g
      simp only [Bool.and_eq_true, Bool.not_eq_true'] at g
      simp [g.1, g.2] at h
    · rfl
  simp [Dev.settle, e1, e2, e3, e4, e5]

theorem Dev.calm_setReg (d : Dev) (a : Nat) (w : Word) (h : a ∉ calmRegs) : (d.setReg a w).calm = d.calm := by
  simp only [calmRegs, List.mem_cons, List.not_mem_nil, or_false, not_or] at h
  obtain ⟨h0, h1, h2, h3, h4, h5, h6⟩ := h
  have g : ∀ i, i < 4 → (d.setReg a w).ptpLock i = d.ptpLock i := by
    intro i hi
    unfold Dev.ptpLock
    apply Dev.get_setReg_ne
    match i, hi with
    | 0, _ => exact h0
    | 1, _ => exact h1
    | 2, _ => exact h2
    | 3, _ => exact h3
  have e : (d.setReg a w).haloState = d.haloState := Dev.get_setReg_ne d a w _ h4
  have f : ∀ i, i < 4 → (d.setReg a w).get (fPTP_PTDd_STS_LOCK_STATE i) = d.get (fPTP_PTDd_STS_LOCK_STATE i) := g
  have o : (d.setReg a w).ppsGateOk = d.ppsGateOk := by
    have e1 : (d.setReg a w).on fTIME_PPS_OUT_CFG_GATE = d.on fTIME_PPS_OUT_CFG_GATE := by
      simp [Dev.on, Dev.get_setReg_ne d a w fTIME_PPS_OUT_CFG_GATE h6]
    have e2 : (d.setReg a w).governing = d.governing := by
      simp [Dev.governing, Dev.on, Dev.get_setReg_ne d a w fPTP_GOV_STS_NONE h5, Dev.get_setReg_ne d a w fPTP_GOV_STS_GOV h5]
    unfold Dev.ppsGateOk
    rw [e1, e2]
    congr 1
    cases hg : d.governing with
    | none => rfl
    | some i =>
      have hi : i < 4 := by
        unfold Dev.governing at hg
        split at hg
        · cases hg
        · cases hg; exact Nat.mod_lt _ (by decide)
      simp [f i hi]
  have b : ∀ i, i < 4 → (d.setReg a w).portsBegun i = d.portsBegun i := by
    intro i hi
    have : ∀ n, (d.setReg a w).pstate i n = d.pstate i n := by
      intro n
      unfold Dev.pstate
      rw [Dev.get_setReg_ne]
      match i, hi with
      | 0, _ => exact h0
      | 1, _ => exact h1
      | 2, _ => exact h2
      | 3, _ => exact h3
    simp [Dev.portsBegun, this]
  simp [Dev.calm, g, b, e, o]

theorem Dev.calm_put (d : Dev) (f : Fld) (v : Nat) (h : f.addr ∉ calmRegs) : (d.put f v).calm = d.calm := Dev.calm_setReg d _ _ h

theorem Dev.calm_inc (d : Dev) (a : Nat) (h : a ∉ calmRegs) : (d.inc a).calm = d.calm := Dev.calm_setReg d _ _ h

/-- The device after a command whose own effect is `d` and leaves the device calm. -/
theorem completes_of_calm {i : Instr} {s : State} {P : Dev → Prop} {d : Dev} (e : exec i s = s.done d) (h : d.calm = true)
    (p : P d.showIrq) : Completes i s P :=
  ⟨{ s with dev := d.settle }, e, rfl, by rw [Dev.settle_calm d h]; exact p⟩

@[simp] theorem Dev.showIrq_reg (d : Dev) (a : Nat) : d.showIrq.reg a = d.reg a := rfl
@[simp] theorem Dev.showIrq_get (d : Dev) (f : Fld) : d.showIrq.get f = d.get f := rfl
@[simp] theorem Dev.showIrq_on (d : Dev) (f : Fld) : d.showIrq.on f = d.on f := rfl

/-- Settling leaves the interrupt balls as their causes drive them. -/
theorem Dev.settle_irqShown (d : Dev) : d.settle.IrqShown := ⟨rfl, rfl⟩

end Sys2Proof.Machine
end

