-- ==== Sys2Proof/WellFormed.lean ====
section
/-! DEFINITION. Which commands the outside can send: operands that name something the device has, and items in the number the
spec gives. A command that is not well formed still has a meaning. -/

namespace Sys2Proof

/-- Sub-bank `sub` of on-chip array `array` exists (Table 1.5). -/
def onChip (array sub : Nat) : Bool :=
  match array with
  | 0 | 1 => decide (sub < 24)
  | 2 | 3 => decide (sub < 16)
  | 4 | 5 => sub == 0
  | _ => false

/-- A retention bank that exists: a flop bank of a block of Table 17.4, or a sub-bank. -/
def Bank.wf : Bank → Bool
  | .flop block _ => decide (block < 21)
  | .sram array sub => onChip array sub

/-- The islands of a crossing exist, and a residue is 4 bits wide (Table 18.22). -/
def Crossing.wf : Crossing → Bool
  | .tick _ _ => true
  | .sample src dst _ _ _ r => decide (src < 43) && decide (dst < 43) && decide (r < 16)

/-- The banks that fail exist, and a life-cycle change has five steps (Table 21.10). -/
def Meets.wf (m : Meets) : Bool := m.bad.all Bank.wf && decide (1 ≤ m.reached) && decide (m.reached ≤ 5)

/-- COUNT is one byte, and a write carries a word for each access (Table 17.2). -/
def SpiXact.wf (x : SpiXact) : Bool :=
  decide (x.count < 256) && (decide (128 ≤ x.op.toNat) || x.data.length == x.count + 1)

/-- A received packet has an FCS or an mCRC's worth of bytes. -/
def RxFrame.wf (f : RxFrame) : Bool := decide (4 ≤ f.bytes.length) || f.pcsErr

/-- What BIST finds lies in a sub-bank, and no sub-bank has more than two spare columns (R19). -/
def BistBank.wf (b : BistBank) : Bool :=
  onChip b.array b.sub && decide (b.cols ≤ 2) && b.cells.all fun c => decide (c.1 < 1024) && decide (c.2 < 2304)

/-- Each sub-bank and each lane is named once. -/
def StartInfo.wf (x : StartInfo) : Bool :=
  x.bist.all BistBank.wf && decide (x.bist.map fun b => (b.array, b.sub)).Nodup && decide x.lanes.Nodup

/-- An address in one of the two windows (R21). -/
def inWindow (a : BitVec 24) : Bool := decide (0x400000 ≤ a.toNat) && decide (a.toNat < 0x800000)

/-- A command that the outside can send. -/
def Instr.wf : Instr → Bool
  | .tickIssue _ => true
  | .tickHoldSend _ _ => true
  | .crossingWordDeliver x => x.wf
  | .tickWord _ _ => true
  | .captureRead _ _ _ => true
  | .winPageWrite _ _ => true
  | .windowWriteLower _ addr _ => inWindow addr && addr.toNat % 8 == 0
  | .windowWriteUpper _ addr _ => inWindow addr && addr.toNat % 8 == 4
  | .windowReadLower _ addr size => inWindow addr && addr.toNat % 8 == 0 && size == AccSize.b32
  | .pairLowRead _ _ _ => true
  | .deadlineCancel _ _ => true
  | .lateResultDiscard _ _ => true
  | .timeAddendLWrite _ _ => true
  | .timeAddendHWrite _ _ => true
  | .timeSet _ _ => true
  | .timeCtlStep _ _ => true
  | .timeNowRead _ _ => true
  | .ft64Read _ _ => true
  | .stepSizeRead _ _ => true
  | .tcmpArm _ _ _ => true
  | .tcmpDisarm _ _ _ => true
  | .tcmpFire _ => true
  | .tcapEdge _ _ => true
  | .tcapPop _ _ _ => true
  | .tcapRead _ _ _ => true
  | .tcapDisable _ _ _ => true
  | .ppsInEdge => true
  | .ppsInLos => true
  | .clk10mWindow _ => true
  | .clk10mLos => true
  | .ppsOutEnable _ _ => true
  | .ppsOutDisable _ _ => true
  | .ppsOutPulseEnd => true
  | .ptpDomainEnable _ _ _ => true
  | .ptpDomainDisable _ _ _ => true
  | .ptpMessageHeld _ => true
  | .ptpMeasurement _ _ _ _ _ _ => true
  | .servoSourceLost _ => true
  | .servoHoldExpiry _ => true
  | .announceInterval _ => true
  | .announceReceiptTimeout _ _ => true
  | .delayReqDue _ _ => true
  | .governingChange => true
  | .gmDisable _ _ => true
  | .todLoad _ _ => true
  | .mcgEnable _ _ _ => true
  | .mcgDisable _ _ _ => true
  | .mcgSrcWrite _ _ _ => true
  | .mcgPhaseMeasure _ _ _ => true
  | .mcgSourceLoss _ => true
  | .mcgSourceQualified _ => true
  | .mcgFree _ => true
  | .mcgJumpTick _ => true
  | .mclkEnable _ _ _ => true
  | .stxEnable _ _ => true
  | .stxDisable _ _ => true
  | .stxMute _ _ => true
  | .stxUnmute _ _ => true
  | .stxQueuedCmd _ => true
  | .packetEmit _ => true
  | .srxEnable _ _ => true
  | .srxDisable _ _ => true
  | .srxMute _ _ => true
  | .srxUnmute _ _ => true
  | .streamCopy => true
  | .streamLossTimeout _ => true
  | .grpWaitExpiry _ _ => true
  | .deepStagingCopy _ => true
  | .crfConcealTimeout _ => true
  | .anvEnable _ _ => true
  | .anvDisable _ _ => true
  | .sceneSwap _ _ => true
  | .sceneCancel _ _ => true
  | .blockGather => true
  | .jobCommit _ _ => true
  | .laneResidueFault _ _ => true
  | .jobDeadlineMiss _ _ => true
  | .dramReadReturn _ _ ce => ce.all fun e => decide (e.1 < 2)
  | .sensorSample rs => rs.length == 8
  | .sapEnable _ _ _ => true
  | .sapDisable _ _ _ => true
  | .sapFrame _ _ lanes _ _ => lanes.length == 4
  | .slotMaskWrite _ _ _ => true
  | .slotMaskApply _ => true
  | .sapChStart _ _ _ => true
  | .sapChStop _ _ _ => true
  | .sapChMute _ _ _ => true
  | .sapChUnmute _ _ _ => true
  | .zeroCrossing _ _ => true
  | .zcTimeout _ _ => true
  | .asrcLock _ ratio => decide (ratio < 2 ^ 32)
  | .sapClkLoss _ => true
  | .netEnable _ _ _ => true
  | .netDisable _ _ _ => true
  | .serdesLock _ _ _ => true
  | .linkDown _ _ => true
  | .linkUp _ reported => decide (reported < 8)
  | .frameReceive _ f _ => f.wf
  | .frameTxStart _ _ _ => true
  | .frameTxComplete _ => true
  | .netSnap _ _ => true
  | .mdioC22Write _ _ => true
  | .mdioC22Read _ _ => true
  | .mdioC45Write _ _ => true
  | .mdioC45Read _ _ => true
  | .mdioC45ReadInc _ _ => true
  | .mdioC45Address _ _ => true
  | .mdioDone _ _ => true
  | .gateEnable _ _ _ => true
  | .gateDisable _ _ _ => true
  | .gateEntryEnd _ => true
  | .verifyFrame _ => true
  | .respondFrame _ => true
  | .verifyTimeout _ => true
  | .pauseFrame => true
  | .pauseExpiry _ => true
  | .pauseTxSend _ _ _ => true
  | .mioEnable _ _ => true
  | .mioDisable _ _ => true
  | .mioTblWrite _ _ => true
  | .mioTblRead _ _ => true
  | .mioTblInvalidate _ _ => true
  | .discPeriod => true
  | .probePeriod => true
  | .discReceive => true
  | .probeReceive => true
  | .topoLinkDown => true
  | .topoBreakSet => true
  | .chainPortLoss _ => true
  | .noPeerTimeout _ => true
  | .nodeTimeout _ _ => true
  | .ringTimeout _ => true
  | .restoreTimeout _ => true
  | .segOverTimeout _ => true
  | .fnidListenEnd => true
  | .fnidClaimEnd => true
  | .addressAge _ => true
  | .mgmtRequest m _ => m.wf
  | .mgmtResponse => true
  | .mioReqRead _ _ => true
  | .mioReqWrite _ _ => true
  | .mioReqInbox _ _ => true
  | .mioReqRetx => true
  | .mioReqTimeout => true
  | .t1sEnable _ _ => true
  | .t1sFrameReceive f => decide (4 ≤ f.bytes.length)
  | .beacon => true
  | .transmitOpportunity _ => true
  | .beaconLoss => true
  | .collision _ _ => true
  | .backoffEnd => true
  | .cueEnable _ _ => true
  | .cueDisable _ _ => true
  | .cueFire => true
  | .cueTrigger => true
  | .cuePinEdge _ _ => true
  | .cueGo _ _ => true
  | .cueTblWrite _ _ => true
  | .cueTblRead _ _ => true
  | .cueTblArm _ _ => true
  | .cueTblDisarm _ _ => true
  | .cueFrameDeadline n => n != 0
  | .cuePinDirWrite _ _ => true
  | .dmxPortEnable _ _ _ => true
  | .dmxBreak _ => true
  | .e131Packet => true
  | .ltcFrame => true
  | .ltcInFrame rate h m sec f _ _ => decide (rate < 4) && decide (h < 24) && decide (m < 60) && decide (sec < 60) && decide (f < 30)
  | .ltcLoss => true
  | .haloEnable _ _ => true
  | .haloDisable _ _ => true
  | .heartbeatDue => true
  | .wireHeartbeat _ => true
  | .heartbeatFrame => true
  | .haloPartnerLost => true
  | .haloInitTimeout => true
  | .haloReqTimeout => true
  | .haloSwitch _ _ => true
  | .haloReclaimNow _ _ => true
  | .reclaimExpiry => true
  | .detachTimeout => true
  | .haloRoleLock _ _ => true
  | .hqPop _ _ _ => true
  | .hqFlush _ _ _ m => m.wf
  | .hqFlushComplete _ => true
  | .hqPointerMismatch _ => true
  | .hqWmWrite _ _ _ => true
  | .fcMapWrite _ _ _ => true
  | .hqEnable _ _ _ => true
  | .spiTransaction m x => m.wf && x.wf
  | .spiAbort m x _ itemsOut _ => m.wf && x.wf && decide (itemsOut ≤ x.count + 1)
  | .cmpWrite m _ _ => m.wf
  | .cmpRead m _ _ => m.wf
  | .cmpAbort m _ _ => m.wf
  | .registerWrite m _ _ _ _ => m.wf
  | .ignRecPop _ => true
  | .mbxDataWrite _ _ => true
  | .mbxPost _ _ => true
  | .mbxClear _ _ => true
  | .wdogKick _ _ => true
  | .wdogExpiry => true
  | .clkSwitch m _ _ => m.wf
  | .syspllLock => true
  | .tpllLock _ => true
  | .clkRefLoss => true
  | .syspllUnlock => true
  | .pwrReqWrite _ m _ _ => m.wf
  | .idleTimerExpiry _ _ => true
  | .cmpWake x => x.bad.all Bank.wf
  | .linkEnergy _ bad => bad.all Bank.wf
  | .t1sLinkEnergy bad => bad.all Bank.wf
  | .wakeFrame bad => bad.all Bank.wf
  | .rqlEnable _ _ _ => true
  | .rqlDisable _ _ _ => true
  | .rqlEvtInj _ _ _ => true
  | .rqlStep m _ _ => m.wf
  | .rqlTimerExpiry _ _ => true
  | .powerOnReset => true
  | .resetNAssert => true
  | .resetRelease x => x.wf
  | .waitSectionEnd _ => true
  | .imageClockSwitch _ => true
  | .bootConfirm _ _ => true
  | .bootRestart _ _ => true
  | .bootClearFail _ _ => true
  | .nvmRelease _ _ _ => true
  | .lcGo m _ _ => m.wf
  | .lcLock _ _ => true
  | .progKey _ _ => true
  | .revoke _ _ => true
  | .scrubRead array sub word _ => onChip array sub && decide (word < 32768)
  | .rowMigrated array sub row => onChip array sub && decide (row < 1024)
  | .trackerEntryExpiry array sub row => onChip array sub && decide (row < 1024)
  | .repairWriteback => true
  | .repairWritebackDone _ => true
  | .fatalError => true
  | .fatalLogClr _ _ => true
  | .injArm _ _ => true
  | .ddrEnable _ _ => true
  | .ddrDisable _ _ => true
  | .ddrTrainingDone _ => true
  | .ddrRegionReady => true
  | .ddrWipeDone => true
  | .ddrReadFail _ rank _ syndrome => decide (rank < 2) && decide (syndrome < 256)
  | .ddrAlert => true
  | .ddrPatrolRead rank _ _ => decide (rank < 2)
  | .hotswapAssert => true
  | .hotswapGlitch => true
  | .hotswapRelease => true
  | .hotswapLoadResume _ => true
  | .refclkReturn => true
  | .portFaulted _ _ => true
  | .portFaultCleared _ => true
  | .heartbeatPathSilent _ => true
  | .haloPactChange _ => true
  | .deferEnd => true
  | .postedWriteDone => true
  | .syncDue _ _ => true

end Sys2Proof
end

