-- ==== Sys2Proof/Tests/Witnesses.lean ====
section
/-! SUPPORT. Witnesses: for each clause of each statement that has hypotheses, a state and operands that meet them all. -/

set_option Elab.async false

open Sys2Proof Sys2Proof.Machine

namespace Sys2Proof.Tests

/-- A device whose clocks all run, every domain ON and nothing enabled. -/
def live : State := { dev := ({} : Dev).puts [(fCLK_STS_TPLL_LOCK, 1), (fCLK_STS_SYSPLL_LOCK, 1), (fCLK_STS_SEL_ACT, 1), (fCLK_SWITCH_SEL, 1), (fCLK_SRC_CFG_SYSPLL_EN, 1), (fRQLn_STS_RUN 0, 1), (fRQLn_STS_RUN 1, 1), (fRQLn_STS_RUN 2, 1), (fRQLn_STS_RUN 3, 1)], pending := [] }

/-- A state with its device changed. -/
def onDev (s : State) (f : Dev → Dev) : State := { s with dev := f s.dev }

/-- Words of the context block of a context. -/
def cw (ctx : Nat) (ws : List (Nat × Nat)) (d : Dev) : Dev := { d with tbl := ws.foldl (fun m x => writeWord64 m (256 * ctx + 8 * x.1) x.2) d.tbl }

/-- A transmit context enabled. -/
def stxLive (c : Nat) (d : Dev) : Dev := { (d.putB (bitFld (rSTX_ENMAPkk (c / 32)) (c % 32)) true) with stxOrder := d.stxOrder ++ [c] }

/-- A receive context enabled. -/
def srxLive (c : Nat) (d : Dev) : Dev := { (d.putB (bitFld (rSRX_ENMAPkk (c / 32)) (c % 32)) true) with srxOrder := d.srxOrder ++ [c] }

/-- The nanoseconds of the time base. -/
def setTime (ns : Nat) (d : Dev) : Dev := { d with time := { d.time with ns := BitVec.ofNat 30 ns } }

/-- A CRF PDU behind its MAC header. -/
def crfBytes : List (BitVec 8) := List.replicate 12 0 ++ [0x22, 0xF0, 4, 0x80, 7, 1] ++ List.replicate 12 0 ++ [0, 8, 0, 6] ++ List.replicate 8 0

/-- An AAF PDU behind its MAC header. -/
def aafBytes : List (BitVec 8) := List.replicate 12 0 ++ [0x22, 0xF0, 2, 0x81, 9, 0] ++ List.replicate 8 0 ++ [0, 0, 0xF4, 0x24] ++ [2, 0x50, 1, 32, 0, 4, 0, 0] ++ [0x11, 0x22, 0x33, 0x44]

/-- A network port enabled with its link up. -/
def netUp (n : Nat) (d : Dev) : Dev := (((d.putB (fNETn_MAC_CFG_EN n) true).putB (fNETn_STS_LINK_UP n) true).put fMIO_PORT_CFG_ROLES 0x55).setNet n { pcs := false }

/-- A Miodal frame. -/
def mioFrameOf (sub hops flags origin mac seq : Nat) (body : List (BitVec 8)) : List (BitVec 8) :=
  beBytes 6 mioGroup ++ beBytes 6 mac ++ beBytes 2 0x88B5 ++ beBytes 1 (16 + sub) ++ beBytes 1 hops ++ beBytes 2 (flags * 4096 + origin) ++ beBytes 6 mac ++ beBytes 2 0 ++ beBytes 2 seq ++ body

/-- A MGMT frame for a node. -/
def mgmtTo (dest : Nat) (body : List (BitVec 8)) : List (BitVec 8) :=
  beBytes 6 mioGroup ++ beBytes 6 5 ++ beBytes 2 0x88B5 ++ beBytes 1 0x14 ++ beBytes 1 9 ++ beBytes 2 dest ++ beBytes 6 5 ++ beBytes 2 dest ++ beBytes 2 1 ++ body

/-- The stage bus enabled. -/
def t1sUp (d : Dev) : Dev := ((d.putB fT1S_CFG_EN true).putB fT1S_STS_RUN true).putB fT1S_STS_LINK true

/-- The stage bus with PLCA active. -/
def plcaUp (d : Dev) : Dev := ((t1sUp d).putB fT1S_PLCA_CFG_PLCA_EN true).putB fT1S_STS_PLCA_ACTIVE true

/-- The cue engine running. -/
def cueUp (d : Dev) : Dev := (((d.put fCUE_CFG_TCMP_NUM 2).put fCUE_CFG_TCMP_BASE 62).putB fCUE_CFG_EN true).putB fCUE_STS_RUN true

/-- A pending cue that is due. -/
def dueCue (c w : Nat) (d : Dev) : Dev := ({ d with tbl := writeWord64 (writeWord64 d.tbl (cueBase c) 0x8100000000000000) (cueBase c + 24) w, time := { d.time with ns := 101 } } : Dev).setCue c { state := 1, due := 100 }

/-- An E1.31 packet. -/
def e131Bytes : List (BitVec 8) :=
  List.replicate 12 0 ++ [8, 0, 0x45] ++ List.replicate 8 0 ++ [17] ++ List.replicate 10 0
    ++ [0x15, 0xC0, 0x15, 0xC0, 0, 0x90, 0, 0]
    ++ List.replicate 18 0 ++ beBytes 4 4 ++ List.replicate 18 0 ++ beBytes 4 2 ++ List.replicate 64 0 ++ [100, 0, 0, 5, 0, 0, 9] ++ List.replicate 2 0
    ++ [2, 0, 0, 0, 0, 0, 4, 0, 7, 8, 9]

/-- Halo enabled in a state. -/
def haloUp (st : Nat) (d : Dev) : Dev :=
  d.puts [(fHALO_CFG_EN, 1), (fHALO_STS_STATE, st), (fHALO_CFG_HB_PORTS, 15), (fMIO_CFG_EN, 1), (fMIO_FNID_CFG_PAIR_FNID, 9)] |> fun d => { d with halo := { d.halo with act := st == 3 } }

/-- Audio ready for READY. -/
def readyUp (d : Dev) : Dev := (d.put (fMCGn_STS_STATE (d.get fMCG_HOUSE_HOUSE)) 2).putB fANV_STS_RUN true

/-- A heartbeat frame. -/
def beatBytes (fnid : Nat) : List (BitVec 8) :=
  beBytes 6 0x0B594D000002 ++ beBytes 6 7 ++ beBytes 2 0x88B6 ++ [2, 1] ++ beBytes 2 (0x8000 + fnid) ++ [3, 0xC0] ++ beBytes 2 0 ++ beBytes 8 0 ++ beBytes 4 0

/-- A sequencer with words of its program. -/
def rqlUp (n : Nat) (ws : List (Nat × Nat)) (d : Dev) : Dev :=
  { (d.putB (bitFld rRQL_CTL n) true).putB (fRQLn_STS_RUN n) true with tbl := ws.foldl (fun m x => writeWord64 m (rqlWordAt n x.1) x.2) d.tbl, rql := [(n, { pend := 1 })] }

/-- A Kazide image with one WAIT-free REGS section. -/
def imgOf (flags : Nat) : List (BitVec 8) :=
  let b := [0x4B, 0x5A, 0x49, 0x44, 1] ++ beBytes 1 flags ++ [0, 0] ++ beBytes 4 7 ++ beBytes 4 88 ++ beBytes 2 1 ++ beBytes 2 250 ++ List.replicate 40 0
  let dat := beBytes 4 rGLB_LC_CTL ++ beBytes 4 0
  let h := b ++ beBytes 4 (crc32 b) ++ ([1, 1, 0, 0] ++ beBytes 4 80 ++ beBytes 4 8 ++ beBytes 4 (crc32 dat)) ++ dat
  h ++ sha256 h

/-- An image that does not confirm itself. -/
def imgMade : List (BitVec 8) := imgOf 0

/-- An image that does. -/
def imgAuto : List (BitVec 8) := imgOf 2

theorem test_witness_TicksCrossToConsumers :
    (∃ (s : State) (g : Fin 8),
      s.dev.calm = true ∧ s.dev.mcgRuns g.val = true ∧ (s.dev.mcgOf g.val).jump = false ∧ ((s.dev.mcgState g.val = 2 ∧ s.dev.mcgEpoch g.val = true ∧ (s.dev.mcgOf g.val).epoch = true → s.dev.mcgAt g.val (s.dev.mcgSidx g.val + 1).toNat = true)) ∧ (s.dev.mcgOf g.val).first = false ∧ (s.dev.mcgOf g.val).issued = true ∧ (s.dev.mcgOf g.val).kind = s.dev.get (fMCGn_SRC_KIND g.val) ∧ (s.dev.mcgOf g.val).index = s.dev.get (fMCGn_SRC_INDEX g.val) ∧ (s.dev.mcgOf g.val).rebase = false) ∧
    (∃ (s : State) (g : Fin 8) (c : Consumer) (w : BitVec 64) (r : Bool),
      s.dev.calm = true ∧ (s.dev.path g.val c).flight = none ∧ (s.dev.path g.val c).hold = some { sidx := w, rebase := r }) ∧
    (∃ (s : State) (g : Fin 8) (c : Consumer) (w : TickWord),
      s.dev.calm = true ∧ s.dev.consumerRuns c = true ∧ (s.dev.path g.val c).arrived = none ∧ (s.dev.path g.val c).flight = some w) ∧
    (∃ (s : State) (src : Nat) (dst : Nat) (_ : BitVec 16) (_ : BitVec 64) (w : BitVec 64) (r : Nat),
      s.dev.calm = true ∧ src < 43 ∧ dst < 43 ∧ s.dev.islandRuns dst = true ∧ res w.toInt = r) ∧
    (∃ (s : State) (src : Nat) (dst : Nat) (_ : BitVec 16) (_ : BitVec 64) (w : BitVec 64) (r : Nat),
      s.dev.calm = true ∧ src < 43 ∧ dst < 43 ∧ s.dev.islandRuns dst = true ∧ res w.toInt ≠ r) ∧
    (∃ (s : State) (g : Fin 8) (c : Consumer) (w : TickWord) (l : BitVec 64),
      s.dev.calm = true ∧ s.dev.consumerRuns c = true ∧ c ∈ s.dev.followers g.val ∧ (c ≠ .core ∨ s.dev.selAct = true) ∧ (s.dev.path g.val c).arrived = some w ∧ (s.dev.path g.val c).idx = some l ∧ w.rebase = false ∧ (s.dev.path g.val c).fresh = false ∧ sdiff64 w.sidx l ≤ 0) ∧
    (∃ (s : State) (g : Fin 8) (w : TickWord) (l : BitVec 64),
      s.dev.calm = true ∧ s.dev.domOn 1 = true ∧ Consumer.core ∈ s.dev.followers g.val ∧ s.dev.selAct = true ∧ s.dev.mapBits (rSTX_ENMAPkk 0) = [] ∧ s.dev.srxOrder = [] ∧ (s.dev.path g.val .core).arrived = some w ∧ (s.dev.path g.val .core).idx = some l ∧ w.rebase = false ∧ (s.dev.path g.val .core).fresh = false ∧ 0 < sdiff64 w.sidx l ∧ sdiff64 w.sidx l ≤ 64) :=
  ⟨⟨onDev live fun d => ((d.put (fMCGn_STS_STATE 3) 2).putB (fANV_CTL_EN) true).put fMCG_HOUSE_HOUSE 3 |>.setMcg 3 { ticking := true, issued := true }, 3, by decide +kernel⟩,
   ⟨onDev live fun d => d.setPath 5 .core { hold := some { sidx := 7, rebase := true } }, 5, .core, 7, true, by decide +kernel⟩,
   ⟨onDev live fun d => d.setPath 7 .anv { flight := some { sidx := 9, rebase := false } }, 7, .anv, { sidx := 9, rebase := false }, by decide +kernel⟩,
   ⟨live, 0, 42, 0x8003, 5, 17, 2, by decide +kernel⟩,
   ⟨live, 42, 0, 0x8003, 5, 17, 3, by decide +kernel⟩,
   ⟨onDev live fun d => (d.putB (fANV_CTL_EN) true).setPath 0 .anv { arrived := some { sidx := 9, rebase := false }, idx := some 9 }, 0, .anv, { sidx := 9, rebase := false }, 9, by decide +kernel⟩,
   ⟨onDev live fun d => (d.putB (bitFld (rSRX_ENMAPkk 0) 0) true).setPath 0 .core { arrived := some { sidx := 73, rebase := false }, idx := some 9 }, 0, { sidx := 73, rebase := false }, 9, by decide +kernel⟩⟩

theorem test_witness_WindowsStageAndCommit :
    (∃ (s : State) (p : Port) (_ : Word),
      s.dev.calm = true ∧ s.dev.takes p rGLB_WIN_PAGE) ∧
    (∃ (s : State) (p : Port) (a : BitVec 24) (off : Nat) (_ : Word),
      s.dev.calm = true ∧ s.dev.takes p a.toNat ∧ s.dev.place p a.toNat = .table off ∧ off % 8 = 0 ∧ (s.dev.port p).stage = none) ∧
    (∃ (s : State) (p : Port) (a : BitVec 24) (off : Nat) (lo : Word) (_ : Word),
      s.dev.calm = true ∧ s.dev.takes p a.toNat ∧ s.dev.place p a.toNat = .table (off + 4) ∧ off % 8 = 0 ∧ (s.dev.port p).stage = some (0, off, lo) ∧ s.dev.tblKeeps p off = .taken ∧ s.dev.on fINT_INJ_CMD_ARMED = false) ∧
    (∃ (s : State) (p : Port) (a : BitVec 24) (off : Nat),
      s.dev.calm = true ∧ s.dev.accCheck p a.toNat .b32 false = none ∧ s.dev.place p a.toNat = .table off ∧ off % 8 = 0 ∧ s.dev.poisoned 3 (off / 8) = false ∧ kget false s.dev.integ.weak (8388608 * 3 + off / 8) = false ∧ kget false s.dev.integ.stuck (8388608 * 3 + off / 8) = false) ∧
    (∃ (s : State) (p : Port) (a : BitVec 24),
      s.dev.calm = true ∧ s.dev.accCheck p a.toNat .b32 false = none ∧ (a = 0x030018 ∨ a = 0x050120 ∨ a = 0x040130)) ∧
    (∃ (s : State) (p : Port),
      s.dev.calm = true ∧ s.dev.accCheck p rGLB_BUSERR_LOG .b32 false = none ∧ s.dev.latched p rGLB_BUSERR_LOG = none) :=
  ⟨⟨live, .spi, 0xFFFFFFFF#32, by decide +kernel⟩,
   ⟨live, .cmp, 0x5FFFF8#24, 0x1FFFF8, 5#32, by decide +kernel⟩,
   ⟨onDev live fun d => d.setPort .spi { stage := some (0, 0x40000, 7) }, .spi, 0x440004#24, 0x40000, 7#32, 9#32, by decide +kernel⟩,
   ⟨onDev live fun d => { d with tbl := writeWord64 d.tbl 0x100 0x1122334455667788 }, .inband, 0x400100#24, 0x100, by decide +kernel⟩,
   ⟨live, (.rql 7), 0x050120#24, by decide +kernel⟩,
   ⟨onDev live fun d => d.busError .spi 0x123456 3, .cmp, by decide +kernel⟩⟩

theorem test_witness_TimeBaseIsWrittenAndRead :
    (∃ (s : State) (p : Port) (v : Word),
      s.dev.calm = true ∧ s.dev.takes p rTIME_CTL ∧ s.dev.on fTIME_CTL_SERVO_EN = false ∧ fTIME_CTL_SERVO_EN.get v = 0 ∧ fTIME_CTL_STEP.get v = 0 ∧ (s.dev.reg rTIME_SET_NS).toNat < 1000000000 ∧ s.dev.on fCUE_STS_RUN = false) ∧
    (∃ (s : State) (p : Port) (v : Word),
      s.dev.calm = true ∧ s.dev.takes p rTIME_CTL ∧ s.dev.on fTIME_CTL_SERVO_EN = false ∧ fTIME_CTL_SERVO_EN.get v = 0 ∧ fTIME_CTL_SET.get v = 0 ∧ s.dev.on fCUE_STS_RUN = false) ∧
    (∃ (s : State) (p : Port) (_ : Word),
      s.dev.calm = true ∧ s.dev.takes p rTIME_ADDEND_L ∧ s.dev.on fTIME_CTL_SERVO_EN = false) ∧
    (∃ (s : State) (p : Port) (v : Word) (x : Nat),
      s.dev.calm = true ∧ s.dev.takes p rTIME_ADDEND_H ∧ s.dev.on fTIME_CTL_SERVO_EN = false ∧ x = v.toNat % 65536 * 2 ^ 32 + ((s.dev.port p).addendL.getD (s.dev.reg rTIME_ADDEND_L)).toNat) ∧
    (∃ (s : State) (p : Port),
      s.dev.calm = true ∧ s.dev.accCheck p rTIME_NOW_FRAC .b32 false = none ∧ s.dev.latched p rTIME_NOW_FRAC = none) ∧
    (∃ (s : State) (p : Port),
      s.dev.calm = true ∧ s.dev.accCheck p rTIME_FT64_L .b32 false = none ∧ s.dev.latched p rTIME_FT64_L = none) ∧
    (∃ (s : State) (p : Port),
      s.dev.calm = true ∧ s.dev.accCheck p rTIME_STEP_SIZE_L .b32 false = none ∧ s.dev.latched p rTIME_STEP_SIZE_L = none) :=
  ⟨⟨onDev live fun d => (d.setReg rTIME_SET_SEC_L 77).setReg rTIME_SET_NS 999999999, .spi, 0#32, by decide +kernel⟩,
   ⟨onDev live fun d => (d.setReg rTIME_STEP_ADJ_L 77).setReg rTIME_STEP_ADJ_H 0xFFFFFFFF, .spi, 0#32, by decide +kernel⟩,
   ⟨live, .spi, 5#32, by decide +kernel⟩,
   ⟨live, .spi, 0x200#32, 0x20000000000, by decide +kernel⟩,
   ⟨onDev live fun d => { d with time := { d.time with sec := 0x123456789ABC, ns := 999999999, frac := 0xFEDCBA9876 } }, .cmp, by decide +kernel⟩,
   ⟨onDev live fun d => { d with time := { d.time with sec := 0x123456789ABC, ns := 999999999 } }, .cmp, by decide +kernel⟩,
   ⟨onDev live fun d => d.captureStep (-5), .cmp, by decide +kernel⟩⟩

theorem test_witness_ComparatorsArmFireAndRelease :
    (∃ (s : State) (n : Fin 64) (p : Port) (v : Word),
      s.dev.calm = true ∧ s.dev.takes p (rTIME_TCMPnn_CTL n.val) ∧ s.dev.on (fTIME_TCMPnn_STS_ARMED n.val) = false ∧ s.dev.get (fTIME_TCMPnn_OWNER_OWNER n.val) = 0 ∧ s.dev.tcmpPrio n.val = 0 ∧ (fTIME_TCMPnn_CTL_MODE n.val).get v = 1 ∧ (fTIME_TCMPnn_CTL_DISARM n.val).get v = 0) ∧
    (∃ (s : State) (n : Fin 64) (p : Port) (_ : Word),
      s.dev.calm = true ∧ s.dev.takes p (rTIME_TCMPnn_CTL n.val) ∧ s.dev.tcmpForeign n.val = false) ∧
    (∃ (s : State) (n : Fin 64),
      s.dev.calm = true ∧ s.dev.timeRuns = true ∧ s.dev.on (fTIME_TCMPnn_STS_ARMED n.val) = true ∧ s.dev.get (fTIME_TCMPnn_OWNER_OWNER n.val) / 32 = 5 ∧ (s.dev.tcmpOf n.val).mode = 1 ∧ (s.dev.tcmpOf n.val).late = false ∧ 0 ≤ sdiff64 s.dev.ft64 (s.dev.tcmpOf n.val).next) :=
  ⟨⟨live, 63, .spi, 0xF801#32, by decide +kernel⟩,
   ⟨onDev live fun d => (d.put (fTIME_TCMPnn_OWNER_OWNER 0) 0xA3).putB (fTIME_TCMPnn_STS_ARMED 0) true, 0, .cmp, 0#32, by decide +kernel⟩,
   ⟨onDev live fun d => ((d.put (fTIME_TCMPnn_OWNER_OWNER 5) 0xA3).putB (fTIME_TCMPnn_STS_ARMED 5) true).setTcmp 5 { mode := 1 }, 5, by decide +kernel⟩⟩

theorem test_witness_CapturesAreQueuedAndRead :
    (∃ (s : State) (n : Fin 16) (up : Bool),
      s.dev.calm = true ∧ s.dev.timeRuns = true ∧ s.dev.on (fTIME_TCAPnn_CFG_EN n.val) = true ∧ s.dev.tcapSees n.val = true ∧ (s.dev.get (fTIME_TCAPnn_CFG_EDGE n.val) / (if up then 1 else 2) % 2 = 1) ∧ (s.dev.tcapOf n.val).length < 4) ∧
    (∃ (s : State) (n : Fin 16) (up : Bool),
      s.dev.calm = true ∧ s.dev.timeRuns = true ∧ s.dev.on (fTIME_TCAPnn_CFG_EN n.val) = true ∧ s.dev.tcapSees n.val = true ∧ (s.dev.get (fTIME_TCAPnn_CFG_EDGE n.val) / (if up then 1 else 2) % 2 = 1) ∧ 4 ≤ (s.dev.tcapOf n.val).length) ∧
    (∃ (s : State) (n : Fin 16) (p : Port) (v : Word),
      s.dev.calm = true ∧ s.dev.takes p (rTIME_TCAPnn_CFG n.val) ∧ (fTIME_TCAPnn_CFG_EN n.val).get v = 1) ∧
    (∃ (s : State) (n : Fin 16) (p : Port),
      s.dev.calm = true ∧ s.dev.accCheck p (rTIME_TCAPnn_FRAC n.val) .b32 false = none ∧ s.dev.latched p (rTIME_TCAPnn_FRAC n.val) = none) ∧
    (∃ (s : State) (n : Fin 16) (p : Port) (_ : Word),
      s.dev.calm = true ∧ s.dev.takes p (rTIME_TCAPnn_CFG n.val)) :=
  ⟨⟨onDev live fun d => (d.put (fTIME_TCAPnn_CFG_EDGE 15) 3).putB (fTIME_TCAPnn_CFG_EN 15) true, 15, false, by decide +kernel⟩,
   ⟨onDev live fun d => ((d.put (fTIME_TCAPnn_CFG_EDGE 0) 1).putB (fTIME_TCAPnn_CFG_EN 0) true).setTcap 0 [{}, {}, {}, {}], 0, true, by decide +kernel⟩,
   ⟨onDev live fun d => d.setTcap 3 [{}, {}], 3, (.rql 0), 1#32, by decide +kernel⟩,
   ⟨onDev live fun d => d.setTcap 15 [{ sec := 5, ns := 6, frac := 7 }], 15, .cmp, by decide +kernel⟩,
   ⟨onDev live fun d => d.setTcap 3 [{}, {}], 3, .cmp, 1#32, by decide +kernel⟩⟩

theorem test_witness_PulsesInAndOut :
    (∃ (s : State),
      s.dev.calm = true ∧ s.dev.timeRuns = true ∧ s.dev.time.ppsPrev = none ∧ s.dev.get (fTIME_TCAPnn_CFG_SRC 0) ≠ 0 ∧ (∀ i ∈ List.range 4, s.dev.gmSource i = false)) ∧
    (∃ (s : State),
      s.dev.calm = true ∧ (∀ i ∈ List.range 4, s.dev.gmSource i = false) ∧ s.dev.timeRuns = true) ∧
    (∃ (s : State) (f : Int),
      s.dev.calm = true ∧ -(100000 * 65536) ≤ f ∧ f ≤ 100000 * 65536 ∧ s.dev.timeRuns = true) ∧
    (∃ (s : State) (f : Int),
      s.dev.calm = true ∧ (f < -(100000 * 65536) ∨ 100000 * 65536 < f) ∧ s.dev.timeRuns = true) ∧
    (∃ (s : State),
      s.dev.calm = true ∧ s.dev.timeRuns = true) ∧
    (∃ (s : State) (p : Port) (v : Word) (n : Nat),
      s.dev.calm = true ∧ s.dev.takes p rTIME_PPS_OUT_CFG ∧ s.dev.on fTIME_PPS_OUT_CFG_EN = false ∧ n = fTIME_PPS_OUT_CFG_TCMP.get v ∧ s.dev.get (fTIME_TCMPnn_OWNER_OWNER n) = 0 ∧ s.dev.tcmpPrio n = 0) ∧
    (∃ (s : State) (p : Port) (_ : Word) (n : Nat),
      s.dev.calm = true ∧ s.dev.takes p rTIME_PPS_OUT_CFG ∧ s.dev.on fTIME_PPS_OUT_CFG_EN = true ∧ n = s.dev.get fTIME_PPS_OUT_CFG_TCMP) ∧
    (∃ (s : State),
      s.dev.calm = true) :=
  ⟨⟨onDev live fun d => d.put (fTIME_TCAPnn_CFG_SRC 0) 1, by decide +kernel⟩,
   ⟨live, by decide +kernel⟩,
   ⟨live, 6553600000, by decide +kernel⟩,
   ⟨live, 6553600001, by decide +kernel⟩,
   ⟨live, by decide +kernel⟩,
   ⟨live, .spi, 0x03F00000#32, 63, by decide +kernel⟩,
   ⟨onDev live fun d => (d.putB fTIME_PPS_OUT_CFG_EN true).put fTIME_PPS_OUT_CFG_TCMP 9, .spi, 0#32, 9, by decide +kernel⟩,
   ⟨onDev live fun d => { d with time := { d.time with ppsOut := true } }, by decide +kernel⟩⟩

theorem test_witness_PtpDomainsAndGovernor :
    (∃ (s : State) (i : Fin 4) (p : Port) (v : Word),
      s.dev.calm = true ∧ s.dev.takes p (rPTP_PTDd_CTL i.val) ∧ s.dev.ptpOn i.val = false ∧ s.dev.on fTIME_CTL_SERVO_EN = false ∧ ((s.dev.stored (rPTP_PTDd_CTL i.val) ((fPTP_PTDd_CTL_EN i.val).put v 1)).putB (fPTP_PTDd_CTL_EN i.val) false).ptpCheck i.val = true) ∧
    (∃ (s : State) (i : Fin 4) (p : Port) (v : Word),
      s.dev.calm = true ∧ s.dev.takes p (rPTP_PTDd_CTL i.val) ∧ s.dev.ptpOn i.val = false ∧ ((s.dev.stored (rPTP_PTDd_CTL i.val) ((fPTP_PTDd_CTL_EN i.val).put v 1)).putB (fPTP_PTDd_CTL_EN i.val) false).ptpCheck i.val = false) ∧
    (∃ (s : State) (i : Fin 4) (p : Port) (_ : Word),
      s.dev.takes p (rPTP_PTDd_CTL i.val) ∧ s.dev.ptpOn i.val = true ∧ s.dev.on fTIME_CTL_SERVO_EN = false ∧ (s.dev.put (fPTP_PTDd_STS_LOCK_STATE i.val) 0).calm = true) ∧
    (∃ (s : State) (i : Fin 4),
      s.dev.calm = true ∧ s.dev.on fPTP_GOV_CTL_MODE = false ∧ s.dev.on fTIME_CTL_SERVO_EN = false ∧ s.dev.get fPTP_GOV_CTL_DOM = i.val ∧ s.dev.ptpOn i.val = true ∧ s.dev.governing ≠ some i.val ∧ s.dev.timeRuns = true) ∧
    (∃ (s : State) (p : Port) (_ : Word),
      s.dev.calm = true ∧ s.dev.takes p rPTP_GM_CTL ∧ s.dev.on fPTP_GM_CTL_GM_EN = false) ∧
    (∃ (s : State) (i : Fin 4) (p : Port) (v : Word),
      s.dev.takes p rPTP_GM_CTL ∧ s.dev.gmSource i.val = true ∧ s.dev.ptpLock i.val = 2 ∧ fPTP_GM_CTL_TOD_LOAD.get v = 0 ∧ (s.dev.put (fPTP_PTDd_STS_LOCK_STATE i.val) 0).calm = true) :=
  ⟨⟨onDev live fun d => ((d.put (fPTP_PTDd_RATES_ANN_TO 3) 2).put (fPTP_PTDd_PORTS_ROLES 3) 0x80).put (fPTP_PTDd_RATES_ANN 3) 0, 3, .spi, 0#32, by decide +kernel⟩,
   ⟨live, 0, .spi, 0x70#32, by decide +kernel⟩,
   ⟨onDev live fun d => (d.putB (fPTP_PTDd_CTL_EN 2) true).put (fPTP_PTDd_STS_LOCK_STATE 2) 2, 2, .cmp, 0#32, by decide +kernel⟩,
   ⟨onDev live fun d => (d.putB (fPTP_PTDd_CTL_EN 3) true).put fPTP_GOV_CTL_DOM 3, 3, by decide +kernel⟩,
   ⟨live, .cmp, 0x31#32, by decide +kernel⟩,
   ⟨onDev live fun d => (((d.putB (fPTP_PTDd_CTL_EN 2) true).put (fPTP_PTDd_STS_LOCK_STATE 2) 2).putB fPTP_GM_CTL_GM_EN true).put fPTP_GM_CTL_DOM 2, 2, .cmp, 0x20#32, by decide +kernel⟩⟩

theorem test_witness_PtpServoAndMessages :
    (∃ (s : State) (i : Fin 4) (n : Fin 4) (_ : Int) (t2 : Int) (_ : Int) (_ : Int),
      s.dev.calm = true ∧ s.dev.ptpOn i.val = true ∧ s.dev.gmSource i.val = false ∧ s.dev.refDown 0 = false ∧ s.dev.clientPort i.val = some n.val ∧ ptpPeer (s.dev.get (fPTP_PTDd_CTL_PROFILE i.val)) = false ∧ (s.dev.dom i.val).delays = [] ∧ (s.dev.dom i.val).gmChanged = false ∧ (s.dev.time.lastStep.all (fun e => decide (e ≤ t2)) = true) ∧ s.dev.driving ≠ some i.val ∧ s.dev.ptpLock i.val = 0 ∧ s.dev.reg (rPTP_PTDd_STEP_THRESH i.val) = 0 ∧ s.dev.get (fPTP_PTDd_LOCK_CFG_LOCK_THRESH i.val) = 0 ∧ s.dev.timeRuns = true) ∧
    (∃ (s : State) (i : Fin 4),
      s.dev.ptpLock i.val = 2 ∧ s.dev.gmSource i.val = false ∧ (s.dev.put (fPTP_PTDd_STS_LOCK_STATE i.val) 0).calm = true ∧ s.dev.timeRuns = true) ∧
    (∃ (s : State) (i : Fin 4),
      s.dev.ptpLock i.val = 1 ∧ s.dev.gmSource i.val = false ∧ (s.dev.put (fPTP_PTDd_STS_LOCK_STATE i.val) 0).calm = true ∧ s.dev.timeRuns = true) ∧
    (∃ (s : State) (i : Fin 4),
      s.dev.calm = true ∧ s.dev.ptpLock i.val = 3 ∧ s.dev.timeRuns = true) ∧
    (∃ (s : State) (i : Fin 4) (h : Handed) (t : List Handed) (o : Nat) (_ : Int),
      s.dev.calm = true ∧ s.dev.handed = h :: t ∧ h.sink = .ptp i.val ∧ ptpAny h.bytes = some (o, 9) ∧ s.dev.refDown 0 = false ∧ s.dev.clientPort i.val = some h.port ∧ s.dev.domOn 1 = true ∧ s.dev.timeRuns = true) ∧
    (∃ (s : State) (i : Fin 4),
      s.dev.calm = true ∧ s.dev.ptpOn i.val = true ∧ s.dev.refDown 0 = false ∧ (s.dev.dom i.val).masters = [] ∧ s.dev.gmSource i.val = false ∧ s.dev.timeRuns = true) ∧
    (∃ (s : State) (i : Fin 4) (n : Fin 4),
      s.dev.calm = true ∧ s.dev.ptpOn i.val = true ∧ s.dev.refDown 0 = false ∧ s.dev.pstate i.val n.val = 8 ∧ s.dev.ptpLock i.val = 0 ∧ s.dev.timeRuns = true) ∧
    (∃ (s : State) (i : Fin 4) (n : Fin 4),
      s.dev.calm = true ∧ s.dev.ptpOn i.val = true ∧ s.dev.refDown 0 = false ∧ ptpPeer (s.dev.get (fPTP_PTDd_CTL_PROFILE i.val)) = false ∧ s.dev.get (fTIME_NETn_TS_CFG_TC_MODE n.val) ≠ 2 ∧ s.dev.clientPort i.val = some n.val ∧ s.dev.netOn n.val = true ∧ s.dev.linkUp n.val = true ∧ s.dev.carries n.val .other = true ∧ 1 ≤ s.dev.cellsFree ∧ s.dev.timeRuns = true) ∧
    (∃ (s : State) (i : Fin 4) (n : Fin 4),
      s.dev.calm = true ∧ s.dev.ptpOn i.val = true ∧ s.dev.refDown 0 = false ∧ s.dev.pstate i.val n.val = 6 ∧ s.dev.netOn n.val = true ∧ s.dev.linkUp n.val = true ∧ s.dev.carries n.val .other = true ∧ 1 ≤ s.dev.cellsFree ∧ s.dev.timeRuns = true) ∧
    (∃ (s : State) (i : Fin 4) (n : Fin 4),
      s.dev.calm = true ∧ s.dev.pstate i.val n.val ≠ 6 ∧ s.dev.timeRuns = true) :=
  ⟨⟨onDev live fun d => ((d.putB (fPTP_PTDd_CTL_EN 3) true).setPstate 3 2 8), 3, 2, 5, 9000, 3, 4, by decide +kernel⟩,
   ⟨onDev live fun d => d.put (fPTP_PTDd_STS_LOCK_STATE 0) 2, 0, by decide +kernel⟩,
   ⟨onDev live fun d => d.put (fPTP_PTDd_STS_LOCK_STATE 3) 1, 3, by decide +kernel⟩,
   ⟨onDev live fun d => d.put (fPTP_PTDd_STS_LOCK_STATE 3) 3, 3, by decide +kernel⟩,
   ⟨onDev live fun d => { (d.setPstate 1 3 9) with handed := [{ sink := .ptp 1, port := 3, bytes := List.replicate 12 0 ++ [0x88, 0xF7, 0x09] ++ List.replicate 60 0 }] }, 1, { sink := .ptp 1, port := 3, bytes := List.replicate 12 0 ++ [0x88, 0xF7, 0x09] ++ List.replicate 60 0 }, [], 14, 77, by decide +kernel⟩,
   ⟨onDev live fun d => ((d.putB (fPTP_PTDd_CTL_EN 3) true).setPstate 3 2 8).put (fPTP_PTDd_PORTS_ROLES 3) 0x10, 3, by decide +kernel⟩,
   ⟨onDev live fun d => ((d.putB (fPTP_PTDd_CTL_EN 3) true).setPstate 3 3 8), 3, 3, by decide +kernel⟩,
   ⟨onDev live fun d => (((((d.putB (fPTP_PTDd_CTL_EN 3) true).setPstate 3 2 8).putB (fNETn_MAC_CFG_EN 2) true).putB (fNETn_STS_LINK_UP 2) true)).put fMIO_PORT_CFG_ROLES 0x10, 3, 2, by decide +kernel⟩,
   ⟨onDev live fun d => (((((d.putB (fPTP_PTDd_CTL_EN 3) true).setPstate 3 2 6).putB (fNETn_MAC_CFG_EN 2) true).putB (fNETn_STS_LINK_UP 2) true)).put fMIO_PORT_CFG_ROLES 0x10, 3, 2, by decide +kernel⟩,
   ⟨live, 3, 2, by decide +kernel⟩⟩

theorem test_witness_GeneratorsEnableAndFollowTheirSource :
    (∃ (s : State) (n : Fin 8) (p : Port) (v : Word),
      s.dev.calm = true ∧ s.dev.takes p (rMCGn_CTL n.val) ∧ s.dev.on (fMCGn_CTL_EN n.val) = false ∧ (s.dev.stored (rMCGn_CTL n.val) ((fMCGn_CTL_EN n.val).put v 1)).mcgCheck n.val = 0) ∧
    (∃ (s : State) (n : Fin 8) (p : Port) (v : Word),
      s.dev.calm = true ∧ s.dev.takes p (rMCGn_CTL n.val) ∧ s.dev.on (fMCGn_CTL_EN n.val) = false ∧ (s.dev.stored (rMCGn_CTL n.val) ((fMCGn_CTL_EN n.val).put v 1)).mcgCheck n.val ≠ 0) ∧
    (∃ (s : State) (n : Fin 8) (p : Port) (_ : Word),
      s.dev.calm = true ∧ s.dev.takes p (rMCGn_CTL n.val) ∧ s.dev.on (fMCGn_CTL_EN n.val) = true) ∧
    (∃ (s : State) (n : Fin 8) (p : Port) (_ : Word),
      s.dev.calm = true ∧ s.dev.takes p (rMCGn_CTL n.val) ∧ s.dev.on (fMCGn_CTL_EN n.val) = true ∧ (s.dev.mcgOf n.val).ticking = false) ∧
    (∃ (s : State) (n : Fin 8) (p : Port) (_ : Word),
      s.dev.calm = true ∧ s.dev.takes p (rMCGn_SRC n.val) ∧ s.dev.on (fMCGn_CTL_EN n.val) = true ∧ (s.dev.mcgOf n.val).ticking = true) ∧
    (∃ (s : State) (n : Fin 8) (x : McgSt),
      s.dev.calm = true ∧ x = s.dev.mcgOf n.val ∧ s.dev.mcgRuns n.val = true ∧ x.first = false ∧ x.issued = true ∧ x.rebase = false ∧ (x.kind ≠ s.dev.get (fMCGn_SRC_KIND n.val) ∨ x.index ≠ s.dev.get (fMCGn_SRC_INDEX n.val))) ∧
    (∃ (s : State) (n : Fin 8) (p : Port) (_ : Word),
      s.dev.calm = true ∧ s.dev.takes p (rMCGn_MCLK_CFG n.val)) ∧
    (∃ (s : State) (n : Fin 8) (x : McgSt),
      s.dev.calm = true ∧ x = s.dev.mcgOf n.val ∧ s.dev.mcgRuns n.val = true ∧ x.jump = false ∧ x.first = false ∧ x.issued = true ∧ ((s.dev.mcgState n.val = 2 ∧ s.dev.mcgEpoch n.val = true ∧ x.epoch = true → s.dev.mcgAt n.val (s.dev.mcgSidx n.val + 1).toNat = true)) ∧ x.kind = s.dev.get (fMCGn_SRC_KIND n.val) ∧ x.index = s.dev.get (fMCGn_SRC_INDEX n.val)) ∧
    (∃ (s : State) (n : Fin 8) (e : Int) (_ : Int),
      s.dev.calm = true ∧ s.dev.mcgState n.val = 2 ∧ s.dev.domOn 4 = true ∧ (e.natAbs : Int) < (s.dev.mcgWins n.val).2) ∧
    (∃ (s : State) (n : Fin 8) (e : Int) (_ : Int),
      s.dev.calm = true ∧ s.dev.mcgState n.val = 2 ∧ s.dev.domOn 4 = true ∧ (s.dev.mcgWins n.val).2 ≤ (e.natAbs : Int) ∧ (s.dev.mcgOf n.val).outWin = 7 ∧ s.dev.mcgSrcOk n.val = true) ∧
    (∃ (s : State) (n : Fin 8) (e : Int) (_ : Int),
      s.dev.calm = true ∧ s.dev.mcgState n.val = 1 ∧ s.dev.domOn 4 = true ∧ (e.natAbs : Int) < (s.dev.mcgWins n.val).1 ∧ (s.dev.mcgOf n.val).inWin = 63 ∧ (s.dev.mcgOf n.val).relock = false ∧ s.dev.mcgSrcOk n.val = true) ∧
    (∃ (s : State) (n : Fin 8),
      s.dev.calm = true ∧ s.dev.mcgState n.val = 2 ∧ s.dev.on (fMCGn_STS_SRC_OK n.val) = true ∧ s.dev.srcLost (s.dev.mcgOf n.val).kind (s.dev.mcgOf n.val).index = true ∧ s.dev.domOn 4 = true) ∧
    (∃ (s : State) (n : Fin 8),
      s.dev.calm = true ∧ (s.dev.mcgState n.val = 3 ∨ s.dev.mcgState n.val = 4) ∧ s.dev.on (fMCGn_STS_SRC_OK n.val) = false ∧ s.dev.srcQualified (s.dev.mcgOf n.val).kind (s.dev.mcgOf n.val).index true = true ∧ s.dev.domOn 4 = true) ∧
    (∃ (s : State) (n : Fin 8),
      s.dev.calm = true ∧ s.dev.domState 1 = 0 ∧ s.dev.mcgState n.val = 3 ∧ s.dev.reg (rMCGn_HOLD_LIMIT n.val) ≠ 0 ∧ s.dev.domOn 4 = true) ∧
    (∃ (s : State) (n : Fin 8),
      s.dev.calm = true ∧ s.dev.mcgState n.val ≠ 0 ∧ s.dev.domOn 4 = true ∧ (s.dev.mcgOf n.val).jump = true ∧ (s.dev.mcgOf n.val).locked = true ∧ (s.dev.mcgOf n.val).first = false ∧ s.dev.mcgEpoch n.val = true ∧ s.dev.mcgPending n.val = false ∧ s.dev.mcgSpaced n.val = true ∧ s.dev.mcgAt n.val (s.dev.mcgBoundary n.val 0) = true) :=
  ⟨⟨live, 7, .spi, 0xFFFFF02A#32, by decide +kernel⟩,
   ⟨live, 0, .cmp, 0x30#32, by decide +kernel⟩,
   ⟨onDev live fun d => ((d.putB (fMCGn_CTL_EN 3) true).put (fMCGn_STS_STATE 3) 2).setMcg 3 { ticking := true, locked := true }, 3, .cmp, 0#32, by decide +kernel⟩,
   ⟨onDev live fun d => ((d.putB (fMCGn_CTL_EN 3) true).put (fMCGn_STS_STATE 3) 1), 3, .cmp, 0#32, by decide +kernel⟩,
   ⟨onDev live fun d => ((d.putB (fMCGn_CTL_EN 3) true)).setMcg 3 { ticking := true }, 3, .cmp, 0x2000#32, by decide +kernel⟩,
   ⟨onDev live fun d => (((d.putB (fMCGn_CTL_EN 3) true).put (fMCGn_STS_STATE 3) 2).put (fMCGn_SRC_KIND 3) 1).setMcg 3 { ticking := true, issued := true, locked := true }, 3, { ticking := true, issued := true, locked := true }, by decide +kernel⟩,
   ⟨live, 3, .cmp, 7#32, by decide +kernel⟩,
   ⟨onDev live fun d => (((d.putB (fMCGn_CTL_EN 3) true).put (fMCGn_STS_STATE 3) 2).put (fMCGn_MCLK_CFG_EN 3) 1).setMcg 3 { ticking := true, issued := true, locked := true }, 3, { ticking := true, issued := true, locked := true }, by decide +kernel⟩,
   ⟨onDev live fun d => d.put (fMCGn_STS_STATE 3) 2, 3, (-5), 7, by decide +kernel⟩,
   ⟨onDev live fun d => ((d.put (fMCGn_STS_STATE 3) 2).putB (fMCGn_STS_SRC_OK 3) true).setMcg 3 { outWin := 7 }, 3, (-4294967296), 7, by decide +kernel⟩,
   ⟨onDev live fun d => ((d.put (fMCGn_STS_STATE 3) 1).putB (fMCGn_STS_SRC_OK 3) true).setMcg 3 { inWin := 63 }, 3, (-655359), 7, by decide +kernel⟩,
   ⟨onDev live fun d => ((d.put (fMCGn_STS_STATE 3) 2).putB (fMCGn_STS_SRC_OK 3) true).setMcg 3 { kind := 2, freqs := [4, 7, -2] }, 3, by decide +kernel⟩,
   ⟨onDev live fun d => d.put (fMCGn_STS_STATE 3) 4, 3, by decide +kernel⟩,
   ⟨onDev live fun d => (d.put (fMCGn_STS_STATE 3) 3).setReg (rMCGn_HOLD_LIMIT 3) 1, 3, by decide +kernel⟩,
   ⟨onDev live fun d => (setTime 999999999 ((d.put (fMCGn_STS_STATE 3) 1).put (fMCGn_SRC_KIND 3) 1)).setMcg 3 { kind := 1, jump := true, locked := true }, 3, by decide +kernel⟩⟩

theorem test_witness_TransmitContextsRunTheirCommands :
    (∃ (s : State) (p : Port) (v : Word) (c : Nat),
      s.dev.calm = true ∧ s.dev.takes p rSTX_CMD ∧ c = fSTX_CMD_CTX.get v ∧ s.dev.on fSTX_CMD_STS_BUSY = false ∧ s.dev.stxOn c = false ∧ s.dev.admission c = none ∧ (∀ w ∈ List.range 32, s.dev.tblHurt (256 * (c) + 8 * w) = false) ∧ s.dev.on fINT_INJ_CMD_ARMED = false ∧ s.dev.stxHeld = none) ∧
    (∃ (s : State) (p : Port) (v : Word) (c : Nat) (r : Refused),
      s.dev.calm = true ∧ s.dev.takes p rSTX_CMD ∧ c = fSTX_CMD_CTX.get v ∧ s.dev.on fSTX_CMD_STS_BUSY = false ∧ s.dev.stxOn c = false ∧ s.dev.admission c = some r ∧ s.dev.stxHeld = none) ∧
    (∃ (s : State) (p : Port) (v : Word) (c : Nat),
      s.dev.calm = true ∧ s.dev.takes p rSTX_CMD ∧ c = fSTX_CMD_CTX.get v ∧ s.dev.on fSTX_CMD_STS_BUSY = false ∧ s.dev.stxOn c = true ∧ (∀ w ∈ List.range 32, s.dev.tblHurt (256 * (c) + 8 * w) = false) ∧ s.dev.on fINT_INJ_CMD_ARMED = false ∧ s.dev.stxHeld = none) ∧
    (∃ (s : State) (p : Port) (v : Word) (c : Nat),
      s.dev.calm = true ∧ s.dev.takes p rSTX_CMD ∧ c = fSTX_CMD_CTX.get v ∧ s.dev.on fSTX_CMD_STS_BUSY = false ∧ s.dev.cb c 24 3 = false ∧ s.dev.tblHurt (256 * c + 192) = false ∧ s.dev.stxHeld = none) ∧
    (∃ (s : State) (p : Port) (v : Word) (c : Nat),
      s.dev.calm = true ∧ s.dev.takes p rSTX_CMD ∧ c = fSTX_CMD_CTX.get v ∧ s.dev.on fSTX_CMD_STS_BUSY = false ∧ s.dev.cb c 24 3 = true ∧ s.dev.tblHurt (256 * c + 192) = false ∧ s.dev.stxHeld = none) ∧
    (∃ (s : State) (c : Fin 512),
      s.dev.calm = true ∧ s.dev.stxNow = some (3, c.val) ∧ s.dev.cb c.val 24 3 = false ∧ s.dev.tblHurt (256 * c.val + 192) = false ∧ s.dev.domOn 1 = true) ∧
    (∃ (s : State) (c : Fin 512),
      s.dev.calm = true ∧ s.dev.srxNow = some (3, c.val) ∧ s.dev.on (srxMuteFld c.val) = false ∧ s.dev.domOn 1 = true) ∧
    (∃ (s : State) (c : Fin 512),
      s.dev.calm = true ∧ s.dev.emitReady c.val = true ∧ (((s.dev.mapBits (rSTX_ENMAPkk 0)).filter fun o => decide (o < c.val) && s.dev.emitReady o && s.dev.emitBefore c.val o) = []) ∧ fmtCrf (s.dev.cFmt c.val) = false ∧ (s.dev.stxOf c.val).asm.length < s.dev.cSpan c.val ∧ s.dev.on fANV_STS_RUN = true ∧ (∀ w ∈ List.range 32, s.dev.tblHurt (256 * (c.val) + 8 * w) = false) ∧ s.dev.on fINT_INJ_CMD_ARMED = false ∧ s.dev.domOn 1 = true) ∧
    (∃ (s : State) (c : Fin 512),
      s.dev.calm = true ∧ s.dev.emitReady c.val = true ∧ (((s.dev.mapBits (rSTX_ENMAPkk 0)).filter fun o => decide (o < c.val) && s.dev.emitReady o && s.dev.emitBefore c.val o) = []) ∧ fmtCrf (s.dev.cFmt c.val) = true ∧ (∀ w ∈ List.range 32, s.dev.tblHurt (256 * (c.val) + 8 * w) = false) ∧ s.dev.on fINT_INJ_CMD_ARMED = false ∧ s.dev.domOn 1 = true) :=
  ⟨⟨onDev live (cw 511 [(0, 0x8000060000000000), (2, 0x10001), (10, 1)]), .spi, 511#32, 511, by decide +kernel⟩,
   ⟨live, .spi, 511#32, 511, { code := 1 }, by decide +kernel⟩,
   ⟨onDev live fun d => stxLive 511 ((cw 511 [(0, 0x8000060000000000), (2, 0x10001), (10, 1)]) d), .spi, 511#32, 511, by decide +kernel⟩,
   ⟨onDev live fun d => stxLive 511 d, .spi, 511#32, 511, by decide +kernel⟩,
   ⟨onDev live fun d => stxLive 0 (cw 0 [(24, 8)] d), .spi, 0#32, 0, by decide +kernel⟩,
   ⟨onDev live fun d => { d with stxNow := some (3, 9), stxHeld := some (1, 2) }, 9, by decide +kernel⟩,
   ⟨onDev live fun d => { d with srxNow := some (3, 509) }, 509, by decide +kernel⟩,
   ⟨onDev live fun d => setTime 200000 ((((stxLive 5 (cw 5 [(0, 0x4000060100000000), (2, 0x10001), (24, 2)] d)).putB fANV_STS_RUN true).setMcg 0 { kind := 1, epoch := true }).setPath 0 .core { idx := some 6 }), 5, by decide +kernel⟩,
   ⟨onDev live fun d => setTime 200000 (((stxLive 5 (cw 5 [(0, 0x8000060000000000), (2, 0x10001), (10, 1), (24, 2)] d)).setMcg 0 { kind := 1, epoch := true }).setPath 0 .core { idx := some 6 }), 5, by decide +kernel⟩⟩

theorem test_witness_ReceiveContextsRunTheirCommands :
    (∃ (s : State) (p : Port) (v : Word) (c : Nat),
      s.dev.calm = true ∧ s.dev.takes p rSRX_CMD ∧ c = fSRX_CMD_CTX.get v ∧ s.dev.on fSRX_CMD_STS_BUSY = false ∧ s.dev.srxOn c = false ∧ s.dev.admission (512 + c) = none ∧ (∀ w ∈ List.range 32, s.dev.tblHurt (256 * (512 + c) + 8 * w) = false) ∧ s.dev.on fINT_INJ_CMD_ARMED = false ∧ s.dev.srxHeld = none) ∧
    (∃ (s : State) (p : Port) (v : Word) (c : Nat) (r : Refused),
      s.dev.calm = true ∧ s.dev.takes p rSRX_CMD ∧ c = fSRX_CMD_CTX.get v ∧ s.dev.on fSRX_CMD_STS_BUSY = false ∧ s.dev.srxOn c = false ∧ s.dev.admission (512 + c) = some r ∧ s.dev.srxHeld = none) ∧
    (∃ (s : State) (p : Port) (v : Word) (c : Nat),
      s.dev.calm = true ∧ s.dev.takes p rSRX_CMD ∧ c = fSRX_CMD_CTX.get v ∧ s.dev.on fSRX_CMD_STS_BUSY = false ∧ s.dev.srxOn c = true ∧ s.dev.tblHurt (256 * (512 + c) + 160) = false ∧ s.dev.srxHeld = none) ∧
    (∃ (s : State) (p : Port) (v : Word) (c : Nat),
      s.dev.calm = true ∧ s.dev.takes p rSRX_CMD ∧ c = fSRX_CMD_CTX.get v ∧ s.dev.on fSRX_CMD_STS_BUSY = false ∧ s.dev.on (srxMuteFld c) = false ∧ s.dev.srxHeld = none) ∧
    (∃ (s : State) (p : Port) (v : Word) (c : Nat),
      s.dev.calm = true ∧ s.dev.takes p rSRX_CMD ∧ c = fSRX_CMD_CTX.get v ∧ s.dev.on fSRX_CMD_STS_BUSY = false ∧ s.dev.on (srxMuteFld c) = true ∧ s.dev.srxHeld = none) :=
  ⟨⟨onDev live (cw 1023 [(0, 0x8000060000000000), (3, 1), (6, 0x8000000000000000)]), .spi, 511#32, 511, by decide +kernel⟩,
   ⟨live, .spi, 511#32, 511, { code := 1 }, by decide +kernel⟩,
   ⟨onDev live (srxLive 511), .spi, 511#32, 511, by decide +kernel⟩,
   ⟨onDev live (srxLive 511), .spi, 511#32, 511, by decide +kernel⟩,
   ⟨onDev live fun d => d.putB (srxMuteFld 0) true, .spi, 0#32, 0, by decide +kernel⟩⟩

theorem test_witness_ReceivedCopiesAreTestedAndPlaced :
    (∃ (s : State) (c : Fin 512) (b : Fin 4) (h : Handed) (t : List Handed),
      s.dev.calm = true ∧ s.dev.handed = h :: t ∧ h.sink = .stream c.val b.val ∧ s.dev.domOn 1 = true ∧ s.dev.srxOn c.val = true ∧ s.dev.readCopy (512 + c.val) h.bytes = none ∧ s.dev.tblHurt (256 * (512 + c.val) + 192) = false) ∧
    (∃ (s : State) (c : Fin 512) (b : Fin 4) (h : Handed) (t : List Handed) (k : Copy),
      s.dev.calm = true ∧ s.dev.handed = h :: t ∧ h.sink = .stream c.val b.val ∧ s.dev.domOn 1 = true ∧ s.dev.srxOn c.val = true ∧ fmtCrf (s.dev.cFmt (512 + c.val)) = true ∧ s.dev.readCopy (512 + c.val) h.bytes = some k ∧ (s.dev.srxOf c.val).win = none ∧ (∀ w ∈ List.range 32, s.dev.tblHurt (256 * (512 + c.val) + 8 * w) = false) ∧ s.dev.on fINT_INJ_CMD_ARMED = false) ∧
    (∃ (s : State) (c : Fin 512) (b : Fin 4) (h : Handed) (t : List Handed) (k : Copy) (ts : Nat) (r : Word64),
      s.dev.calm = true ∧ s.dev.handed = h :: t ∧ h.sink = .stream c.val b.val ∧ s.dev.domOn 1 = true ∧ s.dev.srxOn c.val = true ∧ fmtCrf (s.dev.cFmt (512 + c.val)) = false ∧ s.dev.srxDeep c.val = false ∧ s.dev.readCopy (512 + c.val) h.bytes = some k ∧ k.ts = some ts ∧ (s.dev.srxOf c.val).win = none ∧ (s.dev.srxOf c.val).r = some r ∧ s.dev.cState (512 + c.val) = 1 ∧ sdiff32 ((ts + s.dev.cf (512 + c.val) 1 19 0) % 2 ^ 32) (r.toNat % 2 ^ 32) < 0 ∧ s.dev.tblHurt (256 * (512 + c.val) + 184) = false) ∧
    (∃ (s : State) (c : Fin 512) (b : Fin 4) (h : Handed) (t : List Handed) (k : Copy) (ts : Nat) (q : Nat) (r : Word64),
      s.dev.calm = true ∧ s.dev.handed = h :: t ∧ h.sink = .stream c.val b.val ∧ s.dev.domOn 1 = true ∧ s.dev.srxOn c.val = true ∧ fmtCrf (s.dev.cFmt (512 + c.val)) = false ∧ s.dev.srxDeep c.val = false ∧ s.dev.readCopy (512 + c.val) h.bytes = some k ∧ k.ts = some ts ∧ (s.dev.srxOf c.val).win = none ∧ (s.dev.srxOf c.val).r = some r ∧ s.dev.cState (512 + c.val) = 1 ∧ q = (ts + s.dev.cf (512 + c.val) 1 19 0) % 2 ^ 32 ∧ 0 ≤ sdiff32 q (r.toNat % 2 ^ 32) ∧ sdiff32 q (r.toNat % 2 ^ 32) + s.dev.cSpan (512 + c.val) ≤ s.dev.ringOn ∧ s.dev.houseMult ≤ 4 ∧ (∀ w ∈ List.range 32, s.dev.tblHurt (256 * (512 + c.val) + 8 * w) = false) ∧ s.dev.on fINT_INJ_CMD_ARMED = false) ∧
    (∃ (s : State) (c : Fin 512),
      s.dev.calm = true ∧ s.dev.domOn 1 = true ∧ s.dev.srxOn c.val = true ∧ (s.dev.srxOf c.val).stopped = false ∧ (s.dev.mcgOf (s.dev.ctxMcg (512 + c.val))).ticking = true ∧ s.dev.cState (512 + c.val) = 3 ∧ s.dev.tblHurt (256 * (512 + c.val) + 160) = false) ∧
    (∃ (s : State) (g : BitVec 8) (f : Nat),
      s.dev.calm = true ∧ s.dev.domOn 1 = true ∧ g ≠ 0 ∧ s.dev.groupRef false g.toNat = some f ∧ (∃ o ∈ s.dev.grpWaiting g.toNat 1, (s.dev.srxOf o).recorded.isSome)) ∧
    (∃ (s : State) (c : Fin 512) (q : Nat) (r : Word64),
      s.dev.calm = true ∧ s.dev.domOn 1 = true ∧ s.dev.srxOn c.val = true ∧ s.dev.srxDeep c.val = true ∧ s.dev.ddrIn = true ∧ (s.dev.srxOf c.val).r = some r ∧ ((s.dev.srxOf c.val).unstaged.reverse.find? (fun p => decide (0 ≤ sdiff32 p (r.toNat % 2 ^ 32)) && decide (sdiff32 p (r.toNat % 2 ^ 32) ≤ 256 * s.dev.houseMult)) = some q) ∧ s.dev.domOn 14 = true) ∧
    (∃ (s : State) (c : Fin 512),
      s.dev.calm = true ∧ s.dev.domOn 1 = true ∧ s.dev.srxOn c.val = true ∧ fmtCrf (s.dev.cFmt (512 + c.val)) = true ∧ s.dev.cState (512 + c.val) = 2 ∧ (∀ w ∈ List.range 32, s.dev.tblHurt (256 * (512 + c.val) + 8 * w) = false)) :=
  ⟨⟨onDev live fun d => { (srxLive 3 d) with handed := [{ sink := .stream 3 2, port := 1, bytes := [] }] }, 3, 2, { sink := .stream 3 2, port := 1, bytes := [] }, [], by decide +kernel⟩,
   ⟨onDev live fun d => { (srxLive 3 (cw 515 [(0, 0x8000060000000000), (3, 1), (20, 1)] d)) with handed := [{ sink := .stream 3 2, port := 1, bytes := crfBytes }] }, 3, 2, { sink := .stream 3 2, port := 1, bytes := crfBytes }, [], { q := 7, ts := none, pay := List.replicate 8 0 }, by decide +kernel⟩,
   ⟨onDev live fun d => { (((srxLive 3 (cw 515 [(0, 0x6000010100000000), (1, 1), (20, 1)] d)).setMcg 0 { kind := 1, epoch := true }).setSrx 3 { r := some 5 }) with handed := [{ sink := .stream 3 2, port := 1, bytes := aafBytes }] }, 3, 2, { sink := .stream 3 2, port := 1, bytes := aafBytes }, [], { q := 9, ts := some 3, pay := [0x11, 0x22, 0x33, 0x44] }, 3, 5, by decide +kernel⟩,
   ⟨onDev live fun d => { (((srxLive 3 (cw 515 [(0, 0x6000010100000000), (1, 1), (20, 1)] d)).setMcg 0 { kind := 1, epoch := true }).setSrx 3 { r := some 2 }) with handed := [{ sink := .stream 3 2, port := 1, bytes := aafBytes }] }, 3, 2, { sink := .stream 3 2, port := 1, bytes := aafBytes }, [], { q := 9, ts := some 3, pay := [0x11, 0x22, 0x33, 0x44] }, 3, 4, 2, by decide +kernel⟩,
   ⟨onDev live fun d => (srxLive 511 (cw 1023 [(20, 3)] d)).setMcg 0 { ticking := true }, 511, by decide +kernel⟩,
   ⟨onDev live fun d => ((srxLive 9 (srxLive 3 (cw 515 [(0, 0x0000060107000000), (20, 1)] (cw 521 [(0, 0x0000060107000000), (20, 1)] d)))).setSrx 3 { recorded := some 77 }).setSrx 9 { recorded := some 85 }, 7, 515, by decide +kernel⟩,
   ⟨onDev live fun d => ((srxLive 3 (cw 515 [(0, 0x6000010100000000), (20, 9)] d)).setSrx 3 { r := some 5, unstaged := [99, 6] }).putB fDDR_STS_IN_SERVICE true, 3, 6, 5, by decide +kernel⟩,
   ⟨onDev live fun d => srxLive 511 (cw 1023 [(0, 0x8000060000000000), (20, 2)] d), 511, by decide +kernel⟩⟩

theorem test_witness_AnvilEnablesAndSwapsScenes :
    (∃ (s : State) (p : Port) (v : Word),
      s.dev.calm = true ∧ s.dev.takes p rANV_CTL ∧ s.dev.on fANV_CTL_EN = false ∧ s.dev.anv.swap = none ∧ (s.dev.stored rANV_CTL (fANV_CTL_EN.put v 1)).validate ((s.dev.stored rANV_CTL (fANV_CTL_EN.put v 1)).get fANV_CTL_BANK) = none) ∧
    (∃ (s : State) (p : Port) (v : Word) (c : Nat) (e : Nat),
      s.dev.calm = true ∧ s.dev.takes p rANV_CTL ∧ s.dev.on fANV_CTL_EN = false ∧ (s.dev.stored rANV_CTL (fANV_CTL_EN.put v 1)).validate ((s.dev.stored rANV_CTL (fANV_CTL_EN.put v 1)).get fANV_CTL_BANK) = some (c, e) ∧ s.dev.on fANV_REFUSE_VALID = false) ∧
    (∃ (s : State) (p : Port) (_ : Word),
      s.dev.calm = true ∧ s.dev.takes p rANV_CTL ∧ s.dev.on fANV_CTL_EN = true ∧ s.dev.anv.block = none ∧ s.dev.anv.swap = none) ∧
    (∃ (s : State) (p : Port) (v : Word),
      s.dev.calm = true ∧ s.dev.takes p rANV_SCENE_CMD ∧ s.dev.get fANV_STS_SCENE = 0 ∧ fANV_SCENE_CMD_TIMED.get v = 0 ∧ (s.dev.stored rANV_SCENE_CMD (fANV_SCENE_CMD_OP.put v 1)).validate s.dev.nextBank = none ∧ (fANV_SCENE_CMD_XFADE.get v = 0 ∨ (s.dev.stored rANV_SCENE_CMD (fANV_SCENE_CMD_OP.put v 1)).sharesHeap s.dev.nextBank (1 - s.dev.nextBank) = none)) ∧
    (∃ (s : State) (p : Port) (v : Word),
      s.dev.calm = true ∧ s.dev.takes p rANV_SCENE_CMD ∧ s.dev.get fANV_STS_SCENE ≠ 0 ∧ fANV_SCENE_CMD_TIMED.get v = 0 ∧ (s.dev.stored rANV_SCENE_CMD (fANV_SCENE_CMD_OP.put v 1)).validate s.dev.nextBank = none ∧ (fANV_SCENE_CMD_XFADE.get v = 0 ∨ (s.dev.stored rANV_SCENE_CMD (fANV_SCENE_CMD_OP.put v 1)).sharesHeap s.dev.nextBank (1 - s.dev.nextBank) = none)) ∧
    (∃ (s : State) (p : Port) (v : Word) (c : Nat) (e : Nat),
      s.dev.calm = true ∧ s.dev.takes p rANV_SCENE_CMD ∧ fANV_SCENE_CMD_TIMED.get v = 0 ∧ (s.dev.stored rANV_SCENE_CMD (fANV_SCENE_CMD_OP.put v 1)).validate s.dev.nextBank = some (c, e)) ∧
    (∃ (s : State) (p : Port) (_ : Word) (w : AnvSwap),
      s.dev.calm = true ∧ s.dev.takes p rANV_SCENE_CMD ∧ s.dev.anv.swap = some w ∧ w.tcmp = none ∧ w.at_ = none) :=
  ⟨⟨live, .spi, 0x10#32, by decide +kernel⟩,
   ⟨onDev live fun d => { d with tbl := writeWord64 d.tbl 0x40050 0xC200000000000000 }, .spi, 0#32, 1, 5, by decide +kernel⟩,
   ⟨onDev live fun d => { (d.putB fANV_CTL_EN true).putB fANV_STS_RUN true with anv := { d.anv with due := [{ start := 0, n := 4 }], sig := [(0x3001, [5])] } }, .spi, 0#32, by decide +kernel⟩,
   ⟨onDev live fun d => d.putB fANV_CTL_EN true, .spi, 0x10040#32, by decide +kernel⟩,
   ⟨onDev live fun d => (d.putB fANV_CTL_EN true).put fANV_STS_SCENE 2, .spi, 0x10040#32, by decide +kernel⟩,
   ⟨onDev live fun d => { (d.put fANV_STS_SCENE 2) with tbl := writeWord64 d.tbl 0xC0050 0xC200000000000000 }, .spi, 0x10040#32, 1, 5, by decide +kernel⟩,
   ⟨onDev live fun d => { (d.putB fANV_CTL_EN true).put fANV_STS_SCENE 1 with anv := { d.anv with swap := some { bank := 1, xfade := 7 } } }, .spi, 0x10040#32, { bank := 1, xfade := 7 }, by decide +kernel⟩⟩

theorem test_witness_BlocksGatherAndJobsCommit :
    (∃ (s : State) (w : AnvDue) (t : List AnvDue),
      s.dev.calm = true ∧ s.dev.anvRuns = true ∧ s.dev.on fANV_CTL_EN = true ∧ (s.dev.mcgOf (s.dev.get fMCG_HOUSE_HOUSE)).ticking = true ∧ s.dev.anv.block = none ∧ s.dev.anv.waiting = 0 ∧ s.dev.gatherReady = true ∧ s.dev.anv.due = w :: t) ∧
    (∃ (s : State) (b : AnvBlock),
      s.dev.calm = true ∧ s.dev.anvRuns = true ∧ s.dev.on fANV_CTL_EN = true ∧ s.dev.anv.block = some b ∧ s.dev.anv.waiting < s.dev.anv.due.length) ∧
    (∃ (s : State) (l : Fin 34) (b : AnvBlock) (r : JobRun) (o : JobOut),
      s.dev.calm = true ∧ s.dev.anvRuns = true ∧ s.dev.anv.block = some b ∧ b.onLane l.val = some r ∧ r.stage = .running l.val false o ∧ s.dev.anv.waiting = 0) ∧
    (∃ (s : State) (l : Fin 34) (b : AnvBlock) (r : JobRun) (o : JobOut) (h : Nat) (xs : List Int),
      s.dev.calm = true ∧ s.dev.anvRuns = true ∧ s.dev.anv.block = some b ∧ b.onLane l.val = some r ∧ r.stage = .running l.val false o ∧ s.dev.anv.waiting = 0 ∧ b.jobs = [r] ∧ b.fade = none ∧ b.disabled = false ∧ b.checks = [] ∧ o = { sigs := [(h, xs)] } ∧ s.dev.handleValid h = true ∧ kget false s.dev.anv.missed r.key = false) ∧
    (∃ (s : State) (l : Fin 34) (sl : Bool) (b : AnvBlock) (r : JobRun) (o : JobOut),
      s.dev.calm = true ∧ s.dev.anvRuns = true ∧ s.dev.anv.block = some b ∧ b.onLane l.val = some r ∧ r.stage = .running l.val false o ∧ s.dev.anv.waiting = 0 ∧ (sl = false ∨ s.dev.spares.find? (fun x => (b.onLane x).isNone && x != l.val) = none)) ∧
    (∃ (s : State) (l : Fin 34) (s0 : Fin 34) (b : AnvBlock) (r : JobRun) (o : JobOut),
      s.dev.calm = true ∧ s.dev.anvRuns = true ∧ s.dev.anv.block = some b ∧ b.onLane l.val = some r ∧ r.stage = .running l.val false o ∧ s.dev.anv.waiting = 0 ∧ (s.dev.spares.find? (fun x => (b.onLane x).isNone && x != l.val) = some s0.val) ∧ b.jobs = [r] ∧ b.checks = []) ∧
    (∃ (s : State) (k : Fin 2) (e : Fin 32768) (b : AnvBlock) (r : JobRun),
      s.dev.calm = true ∧ s.dev.anvRuns = true ∧ s.dev.anv.block = some b ∧ (b.jobs.find? (fun x => x.bank == k.val && x.entry == e.val && x.open_) = some r) ∧ s.dev.anv.waiting = 0) ∧
    (∃ (s : State) (k : Fin 2) (e : Fin 32768) (b : AnvBlock) (r : JobRun),
      s.dev.calm = true ∧ s.dev.anvRuns = true ∧ s.dev.anv.block = some b ∧ b.jobs = [r] ∧ r.bank = k.val ∧ r.entry = e.val ∧ r.open_ = true ∧ s.dev.anv.waiting = 0) ∧
    (∃ (s : State) (k : Fin 2) (e : Fin 32768) (b : AnvBlock) (r : JobRun) (vs : List Int),
      s.dev.calm = true ∧ s.dev.anvRuns = true ∧ s.dev.ddrIn = true ∧ s.dev.reader k.val e.val = some (b, r) ∧ b.jobs = [r] ∧ s.dev.anv.waiting = 0 ∧ s.dev.anv.work = [] ∧ r.ext = some (false, vs) ∧ b.fed = true ∧ (((s.dev.extItems (s.dev.jobOf r) b.start b.n).2.map (s.dev.itemBeat (s.dev.extItems (s.dev.jobOf r) b.start b.n).1)).find? (fun x => kget false s.dev.ddr.bad x) = none)) ∧
    (∃ (s : State) (rs : List Int),
      s.dev.calm = true ∧ s.dev.anvRuns = true ∧ (2 ≤ ((List.range 8).filter fun i => (decide (-880 ≤ rs.getD i 0) && decide (rs.getD i 0 ≤ 2400))).length)) ∧
    (∃ (s : State) (rs : List Int),
      s.dev.calm = true ∧ s.dev.anvRuns = true ∧ (((List.range 8).filter fun i => (decide (-880 ≤ rs.getD i 0) && decide (rs.getD i 0 ≤ 2400))).length < 2)) :=
  ⟨⟨onDev live fun d => { (d.putB fANV_CTL_EN true).setMcg 0 { ticking := true } with anv := { d.anv with due := [{ start := 8, n := 4 }] } }, { start := 8, n := 4 }, [], by decide +kernel⟩,
   ⟨onDev live fun d => { d.putB fANV_CTL_EN true with anv := { d.anv with due := [{ start := 8, n := 4 }], block := some { start := 4, n := 4, jobs := [] } } }, { start := 4, n := 4, jobs := [] }, by decide +kernel⟩,
   ⟨onDev live fun d => { d.putB fANV_CTL_EN true with anv := { d.anv with work := [0, 1, 2], block := some ({ start := 0, n := 2, jobs := [{ bank := 1, entry := 5, cls := 2, due := 9, stage := .running 1 false { sigs := [(0x3007, [4, -4])] } }] }) } }, 1, { start := 0, n := 2, jobs := [{ bank := 1, entry := 5, cls := 2, due := 9, stage := .running 1 false { sigs := [(0x3007, [4, -4])] } }] }, { bank := 1, entry := 5, cls := 2, due := 9, stage := .running 1 false { sigs := [(0x3007, [4, -4])] } }, { sigs := [(0x3007, [4, -4])] }, by decide +kernel⟩,
   ⟨onDev live fun d => { d.putB fANV_CTL_EN true with anv := { d.anv with work := [0, 1, 2], block := some ({ start := 0, n := 2, jobs := [{ bank := 1, entry := 5, cls := 2, due := 9, stage := .running 1 false { sigs := [(0x3007, [4, -4])] } }] }) } }, 1, { start := 0, n := 2, jobs := [{ bank := 1, entry := 5, cls := 2, due := 9, stage := .running 1 false { sigs := [(0x3007, [4, -4])] } }] }, { bank := 1, entry := 5, cls := 2, due := 9, stage := .running 1 false { sigs := [(0x3007, [4, -4])] } }, { sigs := [(0x3007, [4, -4])] }, 0x3007, [4, -4], by decide +kernel⟩,
   ⟨onDev live fun d => { d.putB fANV_CTL_EN true with anv := { d.anv with work := [0, 1, 2], block := some ({ start := 0, n := 2, jobs := [{ bank := 1, entry := 5, cls := 2, due := 9, stage := .running 1 false { sigs := [(0x3007, [4, -4])] } }] }) } }, 1, true, { start := 0, n := 2, jobs := [{ bank := 1, entry := 5, cls := 2, due := 9, stage := .running 1 false { sigs := [(0x3007, [4, -4])] } }] }, { bank := 1, entry := 5, cls := 2, due := 9, stage := .running 1 false { sigs := [(0x3007, [4, -4])] } }, { sigs := [(0x3007, [4, -4])] }, by decide +kernel⟩,
   ⟨onDev live fun d => { (d.putB fANV_CTL_EN true).putB (fLaneSpare 33) true with anv := { d.anv with work := [0, 1, 2], block := some { start := 0, n := 2, jobs := [{ bank := 1, entry := 5, cls := 2, due := 9, stage := .running 1 false { sigs := [(0x3007, [4, -4])] } }] } } }, 1, 33, { start := 0, n := 2, jobs := [{ bank := 1, entry := 5, cls := 2, due := 9, stage := .running 1 false { sigs := [(0x3007, [4, -4])] } }] }, { bank := 1, entry := 5, cls := 2, due := 9, stage := .running 1 false { sigs := [(0x3007, [4, -4])] } }, { sigs := [(0x3007, [4, -4])] }, by decide +kernel⟩,
   ⟨onDev live fun d => { d.putB fANV_CTL_EN true with anv := { d.anv with work := [0, 1, 2], block := some ({ start := 0, n := 2, jobs := [{ bank := 1, entry := 5, cls := 2, due := 9, stage := .running 1 false { sigs := [(0x3007, [4, -4])] } }] }) } }, 1, 5, { start := 0, n := 2, jobs := [{ bank := 1, entry := 5, cls := 2, due := 9, stage := .running 1 false { sigs := [(0x3007, [4, -4])] } }] }, { bank := 1, entry := 5, cls := 2, due := 9, stage := .running 1 false { sigs := [(0x3007, [4, -4])] } }, by decide +kernel⟩,
   ⟨onDev live fun d => { d.putB fANV_CTL_EN true with anv := { d.anv with work := [0, 1, 2], block := some ({ start := 0, n := 2, jobs := [{ bank := 1, entry := 5, cls := 2, due := 9, stage := .running 1 false { sigs := [(0x3007, [4, -4])] } }] }) } }, 1, 5, { start := 0, n := 2, jobs := [{ bank := 1, entry := 5, cls := 2, due := 9, stage := .running 1 false { sigs := [(0x3007, [4, -4])] } }] }, { bank := 1, entry := 5, cls := 2, due := 9, stage := .running 1 false { sigs := [(0x3007, [4, -4])] } }, by decide +kernel⟩,
   ⟨onDev live fun d => { (d.putB fANV_CTL_EN true).putB fDDR_STS_IN_SERVICE true with anv := { d.anv with work := [], block := some { start := 0, n := 2, jobs := [{ bank := 0, entry := 3, cls := 1, due := 9, ext := some (false, [1, 2]) }], fed := true } } }, 0, 3, { start := 0, n := 2, jobs := [{ bank := 0, entry := 3, cls := 1, due := 9, ext := some (false, [1, 2]) }], fed := true }, { bank := 0, entry := 3, cls := 1, due := 9, ext := some (false, [1, 2]) }, [1, 2], by decide +kernel⟩,
   ⟨live, [-880, 2400, 2401, -881, 3000, 3000, 3000, 3000], by decide +kernel⟩,
   ⟨live, [400, 3000, 3000, 3000, 3000, 3000, 3000, 3000], by decide +kernel⟩⟩

theorem test_witness_SerialPortsEnableAndFrame :
    (∃ (s : State) (n : Fin 24) (p : Port) (v : Word),
      s.dev.calm = true ∧ s.dev.takes p (rSAPnn_CTL n.val) ∧ s.dev.on (fSAPnn_CTL_EN n.val) = false ∧ (s.dev.stored (rSAPnn_CTL n.val) ((fSAPnn_CTL_EN n.val).put v 1)).sapCheck n.val = 0) ∧
    (∃ (s : State) (n : Fin 24) (p : Port) (v : Word),
      s.dev.calm = true ∧ s.dev.takes p (rSAPnn_CTL n.val) ∧ s.dev.on (fSAPnn_CTL_EN n.val) = false ∧ (s.dev.stored (rSAPnn_CTL n.val) ((fSAPnn_CTL_EN n.val).put v 1)).sapCheck n.val ≠ 0) ∧
    (∃ (s : State) (n : Fin 24) (p : Port) (_ : Word),
      s.dev.calm = true ∧ s.dev.takes p (rSAPnn_CTL n.val) ∧ s.dev.on (fSAPnn_CTL_EN n.val) = true ∧ ((s.dev.on (fSAPnn_STS_RUN n.val) && s.dev.domOn (5 + n.val / 6) && (if s.dev.on (fSAPnn_CTL_MASTER n.val) then !(s.dev.sapOf n.val).frames.isEmpty else !s.dev.on (fSAPnn_STS_CLK_LOSS n.val))) = false)) ∧
    (∃ (s : State) (n : Fin 24) (p : Port) (_ : Word),
      s.dev.calm = true ∧ s.dev.takes p (rSAPnn_CTL n.val) ∧ s.dev.on (fSAPnn_CTL_EN n.val) = true ∧ ((s.dev.on (fSAPnn_STS_RUN n.val) && s.dev.domOn (5 + n.val / 6) && (if s.dev.on (fSAPnn_CTL_MASTER n.val) then !(s.dev.sapOf n.val).frames.isEmpty else !s.dev.on (fSAPnn_STS_CLK_LOSS n.val))) = true)) ∧
    (∃ (s : State) (n : Fin 24) (ws : BitVec 65) (_ : List (BitVec 65)) (_ : Nat) (_ : Bool),
      s.dev.calm = true ∧ s.dev.sapOn n.val = true ∧ s.dev.on (fSAPnn_CTL_MASTER n.val) = false ∧ (s.dev.sapOf n.val).ending = false ∧ s.dev.anv.waiting = 0 ∧ s.dev.on (fSAPnn_STS_RESYNC n.val) = false ∧ s.dev.sapValid n.val ws.toNat = false) ∧
    (∃ (s : State) (n : Fin 24) (ws : BitVec 65) (_ : List (BitVec 65)) (_ : Nat) (_ : Bool),
      s.dev.calm = true ∧ s.dev.sapOn n.val = true ∧ s.dev.on (fSAPnn_CTL_MASTER n.val) = false ∧ (s.dev.sapOf n.val).ending = false ∧ s.dev.anv.waiting = 0 ∧ s.dev.sapValid n.val ws.toNat = true) ∧
    (∃ (s : State) (n : Fin 24) (_ : BitVec 65) (_ : List (BitVec 65)) (_ : Nat) (_ : Bool) (t : Word64) (u : List Word64),
      s.dev.calm = true ∧ s.dev.sapOn n.val = true ∧ s.dev.on (fSAPnn_CTL_MASTER n.val) = true ∧ s.dev.sapBypass n.val = true ∧ (s.dev.sapOf n.val).ending = false ∧ s.dev.anv.waiting = 0 ∧ (s.dev.sapOf n.val).frames = t :: u) ∧
    (∃ (s : State) (n : Fin 24),
      s.dev.calm = true ∧ s.dev.sapOn n.val = true ∧ s.dev.on (fSAPnn_CTL_MASTER n.val) = false ∧ s.dev.on (fSAPnn_STS_CLK_LOSS n.val) = false ∧ (s.dev.sapOf n.val).seen = true) ∧
    (∃ (s : State) (n : Fin 24) (_ : Nat),
      s.dev.calm = true ∧ s.dev.sapOn n.val = true ∧ (s.dev.sapOf n.val).seen = true ∧ s.dev.sapBypass n.val = false ∧ s.dev.on (fSAPnn_STS_ASRC_LOCK n.val) = false) :=
  ⟨⟨onDev live fun d => d.putB fPIN_CONFLICT_VALID true, 23, .spi, 0x1020#32, by decide +kernel⟩,
   ⟨live, 23, .spi, 0x30#32, by decide +kernel⟩,
   ⟨onDev live fun d => (((d.putB (fSAPnn_CTL_EN 23) true).put (fSAPnn_STS_ASRC_LOCK 23) 1).putB (fSapPend 23 15) true).setSapCh 23 15 { wait := [3] }, 23, .spi, 0x1001020#32, by decide +kernel⟩,
   ⟨onDev live fun d => (((d.putB (fSAPnn_CTL_EN 23) true).put (fSAPnn_STS_RUN 23) 1).putB (fSapPend 23 15) true).setSapCh 23 15 { wait := [3] }, 23, .spi, 0x1001020#32, by decide +kernel⟩,
   ⟨onDev live fun d => d.putB (fSAPnn_CTL_EN 11) true, 11, 0#65, [], 0, false, by decide +kernel⟩,
   ⟨onDev live fun d => (d.putB (fSAPnn_CTL_EN 11) true).putB (fSAPnn_STS_RESYNC 11) true, 11, 0xFFFFFFFF00000000#65, [], 0x10000000, false, by decide +kernel⟩,
   ⟨onDev live fun d => (((d.putB (fSAPnn_CTL_EN 11) true).putB (fSAPnn_CTL_MASTER 11) true).putB (fSAPnn_STS_BYPASS 11) true).setSap 11 { frames := [77, 78], mask := 0x81 }, 11, 0#65, [5#65, 0#65, 0#65, 9#65], 0, false, 77, [78], by decide +kernel⟩,
   ⟨onDev live fun d => (d.putB (fSAPnn_CTL_EN 11) true).setSap 11 { seen := true }, 11, by decide +kernel⟩,
   ⟨onDev live fun d => (d.putB (fSAPnn_CTL_EN 11) true).setSap 11 { seen := true }, 11, 0x10000000, by decide +kernel⟩⟩

theorem test_witness_SerialChannelsWaitForTheirZero :
    (∃ (s : State) (n : Fin 24) (p : Port) (v : Word),
      s.dev.calm = true ∧ s.dev.takes p (rSAPnn_CH_CMD n.val) ∧ (∀ i ∈ List.range 8, ((s.dev.sapOf n.val).chan (if (fSAPnn_CH_CMD_DIRSEL n.val).get v = 1 then 8 + i else i)).ramp = none ∧ ((s.dev.sapOf n.val).chan (if (fSAPnn_CH_CMD_DIRSEL n.val).get v = 1 then 8 + i else i)).wait = [])) ∧
    (∃ (s : State) (n : Fin 24) (p : Port) (v : Word),
      s.dev.calm = true ∧ s.dev.takes p (rSAPnn_CH_CMD n.val) ∧ (∀ i ∈ List.range 8, ((s.dev.sapOf n.val).chan (if (fSAPnn_CH_CMD_DIRSEL n.val).get v = 1 then 8 + i else i)).ramp = none ∧ ((s.dev.sapOf n.val).chan (if (fSAPnn_CH_CMD_DIRSEL n.val).get v = 1 then 8 + i else i)).wait = [])) ∧
    (∃ (s : State) (n : Fin 24) (p : Port) (v : Word),
      s.dev.calm = true ∧ s.dev.takes p (rSAPnn_CH_CMD n.val) ∧ (∀ i ∈ List.range 8, ((s.dev.sapOf n.val).chan (if (fSAPnn_CH_CMD_DIRSEL n.val).get v = 1 then 8 + i else i)).ramp = none ∧ ((s.dev.sapOf n.val).chan (if (fSAPnn_CH_CMD_DIRSEL n.val).get v = 1 then 8 + i else i)).wait = [])) ∧
    (∃ (s : State) (n : Fin 24) (p : Port) (v : Word),
      s.dev.calm = true ∧ s.dev.takes p (rSAPnn_CH_CMD n.val) ∧ (∀ i ∈ List.range 8, ((s.dev.sapOf n.val).chan (if (fSAPnn_CH_CMD_DIRSEL n.val).get v = 1 then 8 + i else i)).ramp = none ∧ ((s.dev.sapOf n.val).chan (if (fSAPnn_CH_CMD_DIRSEL n.val).get v = 1 then 8 + i else i)).wait = [])) ∧
    (∃ (s : State) (n : Fin 24) (c : Fin 16) (t : Word64),
      s.dev.calm = true ∧ s.dev.sapOn n.val = true ∧ ((s.dev.sapOf n.val).chan c.val).ramp = none ∧ ((s.dev.sapOf n.val).chan c.val).wait = [2] ∧ ((s.dev.sapOf n.val).chan c.val).raw = [(t, 0)]) ∧
    (∃ (s : State) (n : Fin 24) (c : Fin 16) (t : Word64) (x : Int) (o : Nat),
      s.dev.calm = true ∧ s.dev.sapOn n.val = true ∧ ((s.dev.sapOf n.val).chan c.val).ramp = none ∧ ((s.dev.sapOf n.val).chan c.val).wait = [o] ∧ 1 ≤ o ∧ o ≤ 4 ∧ ((s.dev.sapOf n.val).chan c.val).raw = [(t, x)] ∧ x ≠ 0 ∧ decide (x < 0) = decide (((s.dev.sapOf n.val).chan c.val).last < 0) ∧ s.dev.zcSamples n.val ≤ ((s.dev.sapOf n.val).chan c.val).evald ∧ s.dev.sapAudible n.val c.val = true) ∧
    (∃ (s : State) (n : Fin 24) (p : Port) (v : Word) (w : BitVec 12),
      s.dev.calm = true ∧ s.dev.takes p (rSAPnn_SLOT_MASK n.val) ∧ n.val < 22 ∧ w = (v >>> 16).setWidth 12 ∧ w ≠ 0) ∧
    (∃ (s : State) (n : Fin 24) (p : Port) (v : Word),
      s.dev.calm = true ∧ s.dev.takes p (rSAPnn_SLOT_MASK n.val) ∧ v.toNat / 65536 % 4096 = 0) ∧
    (∃ (s : State) (n : Fin 24) (p : Port) (v : Word),
      s.dev.calm = true ∧ s.dev.takes p (rSAPnn_SLOT_MASK n.val) ∧ v.toNat / 65536 % 4096 ≠ 0) ∧
    (∃ (s : State) (n : Fin 24),
      s.dev.calm = true ∧ s.dev.sapOn n.val = true ∧ s.dev.on (fSAPnn_STS_MASK_PEND n.val) = true ∧ s.dev.on (fSAPnn_STS_RESYNC n.val) = false) :=
  ⟨⟨onDev live fun d => (((d.putB (fSAPnn_CTL_EN 11) true).putB (fSapRun 11 15) false).putB (fSapMuted 11 15) false).putB (fSapMuted 11 8) true, 11, .cmp, 0x1C1#32, by decide +kernel⟩,
   ⟨onDev live fun d => (((d.putB (fSAPnn_CTL_EN 11) true).putB (fSapRun 11 15) true).putB (fSapMuted 11 15) false).putB (fSapMuted 11 8) true, 11, .cmp, 0x1C1#32, by decide +kernel⟩,
   ⟨onDev live fun d => (((d.putB (fSAPnn_CTL_EN 11) true).putB (fSapRun 11 15) true).putB (fSapMuted 11 15) false).putB (fSapMuted 11 8) true, 11, .cmp, 0x1C1#32, by decide +kernel⟩,
   ⟨onDev live fun d => (((d.putB (fSAPnn_CTL_EN 11) true).putB (fSapRun 11 15) true).putB (fSapMuted 11 15) true).putB (fSapMuted 11 8) true, 11, .cmp, 0x1C1#32, by decide +kernel⟩,
   ⟨onDev live fun d => ((d.putB (fSAPnn_CTL_EN 11) true).putB (fSapRun 11 15) true).setSapCh 11 15 { wait := [2], raw := [(9, 0)] }, 11, 15, 9, by decide +kernel⟩,
   ⟨onDev live fun d => ((d.putB (fSAPnn_CTL_EN 11) true).putB (fSapRun 11 15) true).setSapCh 11 15 { wait := [3], raw := [(9, 5)], evald := 100000 }, 11, 15, 9, 5, 3, by decide +kernel⟩,
   ⟨live, 21, .inband, 0xFFF0081#32, 0xFFF#12, by decide +kernel⟩,
   ⟨live, 23, .inband, 0x70000081#32, by decide +kernel⟩,
   ⟨live, 23, .inband, 0xFFF0081#32, by decide +kernel⟩,
   ⟨onDev live fun d => (((d.putB (fSAPnn_CTL_EN 11) true).putB (fSAPnn_STS_MASK_PEND 11) true).put (fSAPnn_SLOT_MASK_MASK 11) 0xFF).put (fSAPnn_SLOT_MASK_DIR 11) 4, 11, by decide +kernel⟩⟩

theorem test_witness_PortsEnableFaultAndLink :
    (∃ (s : State) (n : Fin 4) (p : Port) (v : Word),
      s.dev.calm = true ∧ s.dev.takes p (rNETn_MAC_CFG n.val) ∧ s.dev.on (fNETn_MAC_CFG_EN n.val) = false ∧ s.dev.linkUp n.val = false ∧ (s.dev.stored (rNETn_MAC_CFG n.val) ((fNETn_MAC_CFG_EN n.val).put v 1)).netCheck n.val = 0) ∧
    (∃ (s : State) (n : Fin 4) (p : Port) (v : Word),
      s.dev.calm = true ∧ s.dev.takes p (rNETn_MAC_CFG n.val) ∧ s.dev.on (fNETn_MAC_CFG_EN n.val) = false ∧ (s.dev.stored (rNETn_MAC_CFG n.val) ((fNETn_MAC_CFG_EN n.val).put v 1)).netCheck n.val ≠ 0) ∧
    (∃ (s : State) (n : Fin 4) (p : Port) (_ : Word),
      s.dev.calm = true ∧ s.dev.takes p (rNETn_MAC_CFG n.val) ∧ s.dev.on (fNETn_MAC_CFG_EN n.val) = true) ∧
    (∃ (s : State) (n : Fin 4) (p : Port) (_ : Word),
      s.dev.calm = true ∧ s.dev.takes p (rNETn_SERDES_CFG n.val)) ∧
    (∃ (s : State) (n : Fin 4),
      s.dev.calm = true ∧ s.dev.linkUp n.val = true ∧ (s.dev.netOf n.val).faulted = true ∧ s.dev.domOn (9 + n.val) = true) ∧
    (∃ (s : State) (n : Fin 4) (r : Nat) (x : Nat),
      s.dev.calm = true ∧ s.dev.netOn n.val = true ∧ s.dev.linkUp n.val = false ∧ (s.dev.netOf n.val).faulted = false ∧ x = s.dev.upRate n.val r ∧ x ∈ modeRates (s.dev.get (fNETn_SERDES_CFG_MODE n.val)) ∧ s.dev.domOn (9 + n.val) = true) ∧
    (∃ (s : State) (n : Fin 4),
      s.dev.calm = true ∧ s.dev.netOn n.val = true ∧ s.dev.domOn (9 + n.val) = true) ∧
    (∃ (s : State) (n : Fin 4),
      s.dev.calm = true ∧ s.dev.netOn n.val = true ∧ s.dev.domOn (9 + n.val) = true) ∧
    (∃ (s : State) (n : Fin 4),
      s.dev.calm = true ∧ s.dev.netOn n.val = true ∧ (s.dev.netOf n.val).localF = false ∧ (s.dev.netOf n.val).remoteF = false ∧ (s.dev.netOf n.val).linkBit = false ∧ (s.dev.netOf n.val).an = false ∧ s.dev.domOn (9 + n.val) = true) ∧
    (∃ (s : State) (n : Fin 4),
      s.dev.calm = true ∧ s.dev.netOn n.val = true ∧ (s.dev.netOf n.val).pcs = true ∧ s.dev.domOn (9 + n.val) = true) ∧
    (∃ (s : State) (n : Fin 4),
      s.dev.calm = true ∧ s.dev.netOn n.val = true ∧ (s.dev.get (fNETn_SERDES_CFG_MODE n.val) = 1 ∨ s.dev.get (fNETn_SERDES_CFG_MODE n.val) = 2) ∧ s.dev.domOn (9 + n.val) = true) :=
  ⟨⟨onDev live fun d => ((d.put (fNETn_SERDES_CFG_MODE 3) 4).put (fNETn_SERDES_CFG_RATE 3) 1).setReg (rNETn_MAC_ADDR_L 3) 5, 3, .spi, 0#32, by decide +kernel⟩,
   ⟨live, 0, .spi, 0#32, by decide +kernel⟩,
   ⟨onDev live (netUp 2), 2, .spi, 0#32, by decide +kernel⟩,
   ⟨live, 3, .spi, 0x12#32, by decide +kernel⟩,
   ⟨onDev live fun d => (netUp 2 d).setNet 2 { pcs := true }, 2, by decide +kernel⟩,
   ⟨onDev live fun d => ((netUp 2 d).put (fNETn_STS_LINK_UP 2) 0).put (fNETn_SERDES_CFG_MODE 2) 4, 2, 3, 3, by decide +kernel⟩,
   ⟨onDev live (netUp 2), 2, by decide +kernel⟩,
   ⟨onDev live (netUp 2), 2, by decide +kernel⟩,
   ⟨onDev live fun d => (netUp 2 d).setNet 2 { pcs := true, hdx := true }, 2, by decide +kernel⟩,
   ⟨onDev live fun d => (netUp 2 d).setNet 2 { pcs := true, hdx := true }, 2, by decide +kernel⟩,
   ⟨onDev live fun d => ((netUp 2 d).put (fNETn_SERDES_CFG_MODE 2) 1).setNet 2 { pcs := false, localF := true, remoteF := true }, 2, by decide +kernel⟩⟩

theorem test_witness_FramesAreCheckedSentAndCounted :
    (∃ (s : State) (n : Fin 4) (f : RxFrame) (b : List (BitVec 8)),
      s.dev.calm = true ∧ s.dev.netOn n.val = true ∧ s.dev.linkUp n.val = true ∧ s.dev.on (fNETn_MM_CFG_PE_EN n.val) = false ∧ f.smd = .express ∧ f.pcsErr = false ∧ f.bytes = b ++ fcsOf b ∧ 60 ≤ b.length ∧ b.length + 4 ≤ s.dev.maxLen n.val + tagAllowance f.bytes ∧ cellsFor (b.length + 4) ≤ s.dev.cellsFree ∧ s.dev.domOn (9 + n.val) = true) ∧
    (∃ (s : State) (n : Fin 4) (f : RxFrame) (k : Nat),
      s.dev.calm = true ∧ s.dev.netOn n.val = true ∧ s.dev.linkUp n.val = true ∧ s.dev.on (fNETn_MM_CFG_PE_EN n.val) = false ∧ f.smd = .express ∧ f.pcsErr = false ∧ f.bytes.length < 64 ∧ k < 2 ^ 32 ∧ s.dev.domOn (9 + n.val) = true) ∧
    (∃ (s : State) (n : Fin 4) (f : RxFrame),
      s.dev.calm = true ∧ s.dev.netOn n.val = true ∧ s.dev.linkUp n.val = true ∧ s.dev.on (fNETn_MM_CFG_PE_EN n.val) = false ∧ f.smd = .express ∧ f.pcsErr = false ∧ 64 ≤ f.bytes.length ∧ f.bytes.length ≤ s.dev.maxLen n.val ∧ f.bytes.drop (f.bytes.length - 4) ≠ fcsOf (f.bytes.take (f.bytes.length - 4)) ∧ s.dev.domOn (9 + n.val) = true) ∧
    (∃ (s : State) (n : Fin 4) (t : Nat) (_ : Int) (_ : BitVec 16),
      s.dev.calm = true ∧ s.dev.domOn (9 + n.val) = true ∧ s.dev.linkUp n.val = true ∧ (s.dev.netOf n.val).faulted = false ∧ (s.dev.netOf n.val).wire = none ∧ (s.dev.netOf n.val).pauseTx = some t) ∧
    (∃ (s : State) (n : Fin 4) (c : Nat) (_ : Int) (_ : BitVec 16) (f : Frame) (q : List Frame),
      s.dev.calm = true ∧ s.dev.domOn (9 + n.val) = true ∧ s.dev.linkUp n.val = true ∧ (s.dev.netOf n.val).faulted = false ∧ (s.dev.netOf n.val).wire = none ∧ (s.dev.netOf n.val).pauseTx = none ∧ (s.dev.netOf n.val).rem = none ∧ ((((s.dev.cbs n.val).netLatch n.val).checkHeads n.val).bestClass n.val (fun _ => true) = some c) ∧ ((((s.dev.cbs n.val).netLatch n.val).checkHeads n.val).netOf n.val).queue c = f :: q ∧ kget none (((s.dev.cbs n.val).netLatch n.val).checkHeads n.val).integ.cells f.id = none) ∧
    (∃ (s : State) (n : Fin 5) (w : OnWire),
      s.dev.calm = true ∧ n.val < 4 ∧ (s.dev.netOf n.val).wire = some w ∧ w.frame.kind = .data ∧ (s.dev.domOn (if n.val = 4 then 13 else 9 + n.val) = true)) :=
  ⟨⟨onDev live (netUp 2), 2, { bytes := (List.replicate 60 0 ++ fcsOf (List.replicate 60 0)), ts := 5, pcsErr := false, smd := .express, steps := 0 }, (List.replicate 60 0), by decide +kernel⟩,
   ⟨onDev live (netUp 2), 2, { bytes := [1, 2], ts := 5, pcsErr := false, smd := .express, steps := 0 }, 3, by decide +kernel⟩,
   ⟨onDev live (netUp 2), 2, { bytes := List.replicate 64 0, ts := 5, pcsErr := false, smd := .express, steps := 0 }, by decide +kernel⟩,
   ⟨onDev live fun d => (netUp 2 d).setNet 2 { pcs := false, pauseTx := some 9 }, 2, 9, 0, 5#16, by decide +kernel⟩,
   ⟨onDev live fun d => ((netUp 2 d).put (fNETn_GATE_STS_GATES 2) 0xFF).setNet 2 { pcs := false, q := [(4, [{ bytes := List.replicate 60 0 }])] }, 2, 4, 0, 5#16, { bytes := List.replicate 60 0 }, [], by decide +kernel⟩,
   ⟨onDev live fun d => (netUp 2 d).setNet 2 { pcs := false, wire := some { frame := { bytes := List.replicate 60 0 }, cls := 4, pre := false, start := 0 } }, 2, { frame := { bytes := List.replicate 60 0 }, cls := 4, pre := false, start := 0 }, by decide +kernel⟩⟩

theorem test_witness_MdioAndSnapshots :
    (∃ (s : State) (p : Port) (_ : Word),
      s.dev.calm = true ∧ s.dev.takes p rNET_MDIO_CMD ∧ s.dev.on fNET_MDIO_STS_BUSY = false) ∧
    (∃ (s : State) (p : Port) (_ : Word),
      s.dev.calm = true ∧ s.dev.takes p rNET_MDIO_CMD ∧ s.dev.on fNET_MDIO_STS_BUSY = false) ∧
    (∃ (s : State) (p : Port) (_ : Word),
      s.dev.calm = true ∧ s.dev.takes p rNET_MDIO_CMD ∧ s.dev.on fNET_MDIO_STS_BUSY = false) ∧
    (∃ (s : State) (p : Port) (_ : Word),
      s.dev.calm = true ∧ s.dev.takes p rNET_MDIO_CMD ∧ s.dev.on fNET_MDIO_STS_BUSY = false) ∧
    (∃ (s : State) (p : Port) (_ : Word),
      s.dev.calm = true ∧ s.dev.takes p rNET_MDIO_CMD ∧ s.dev.on fNET_MDIO_STS_BUSY = false) ∧
    (∃ (s : State) (p : Port) (_ : Word),
      s.dev.calm = true ∧ s.dev.takes p rNET_MDIO_CMD ∧ s.dev.on fNET_MDIO_STS_BUSY = false) ∧
    (∃ (s : State) (m : Mdio) (_ : BitVec 16),
      s.dev.calm = true ∧ s.dev.mdio = some m ∧ (m.op = 2 ∨ m.op = 4 ∨ m.op = 5) ∧ s.dev.domOn 1 = true) ∧
    (∃ (s : State) (m : Mdio) (_ : BitVec 16),
      s.dev.calm = true ∧ s.dev.mdio = some m ∧ (m.op = 2 ∨ m.op = 4 ∨ m.op = 5) ∧ s.dev.domOn 1 = true) ∧
    (∃ (s : State) (m : Mdio) (_ : Bool) (_ : BitVec 16),
      s.dev.calm = true ∧ s.dev.mdio = some m ∧ (m.op = 1 ∨ m.op = 3 ∨ m.op = 6) ∧ s.dev.domOn 1 = true) ∧
    (∃ (s : State) (p : Port) (v : Word),
      s.dev.calm = true ∧ s.dev.takes p rNET_SNAP_CMD ∧ s.dev.snap = none ∧ fNET_SNAP_CMD_CLR.get v = 0) ∧
    (∃ (s : State) (p : Port) (v : Word),
      s.dev.calm = true ∧ s.dev.takes p rNET_SNAP_CMD ∧ s.dev.snap = none ∧ fNET_SNAP_CMD_CLR.get v = 1) ∧
    (∃ (s : State) (p : Port) (_ : Word) (w : Snap),
      s.dev.calm = true ∧ s.dev.takes p rNET_SNAP_CMD ∧ s.dev.snap = some w ∧ s.dev.snapHeld = none) ∧
    (∃ (s : State) (p : Port) (_ : Word) (w : Snap) (b : Bool),
      s.dev.calm = true ∧ s.dev.takes p rNET_SNAP_CMD ∧ s.dev.snap = some w ∧ s.dev.snapHeld = some b) :=
  ⟨⟨live, .spi, 0xFFFFFFFF#32, by decide +kernel⟩,
   ⟨live, .spi, 0xFFFFFFFF#32, by decide +kernel⟩,
   ⟨live, .spi, 0xFFFFFFFF#32, by decide +kernel⟩,
   ⟨live, .spi, 0xFFFFFFFF#32, by decide +kernel⟩,
   ⟨live, .spi, 0xFFFFFFFF#32, by decide +kernel⟩,
   ⟨live, .spi, 0xFFFFFFFF#32, by decide +kernel⟩,
   ⟨onDev live fun d => { d with mdio := some { op := 2, prtad := 1, devad := 0, addr := 0, data := 0 } }, { op := 2, prtad := 1, devad := 0, addr := 0, data := 0 }, 0xABCD#16, by decide +kernel⟩,
   ⟨onDev live fun d => { d with mdio := some { op := 5, prtad := 1, devad := 0, addr := 0, data := 0 } }, { op := 5, prtad := 1, devad := 0, addr := 0, data := 0 }, 0xABCD#16, by decide +kernel⟩,
   ⟨onDev live fun d => { d with mdio := some { op := 6, prtad := 1, devad := 0, addr := 0, data := 0 } }, { op := 6, prtad := 1, devad := 0, addr := 0, data := 0 }, false, 0xABCD#16, by decide +kernel⟩,
   ⟨live, .spi, 0#32, by decide +kernel⟩,
   ⟨live, .spi, 1#32, by decide +kernel⟩,
   ⟨onDev live fun d => { d with snap := some { copies := [], ft := 0 } }, .spi, 1#32, { copies := [], ft := 0 }, by decide +kernel⟩,
   ⟨onDev live fun d => { d with snap := some { copies := [], ft := 0 }, snapHeld := some true }, .spi, 1#32, { copies := [], ft := 0 }, true, by decide +kernel⟩⟩

theorem test_witness_GatesPreemptionAndPause :
    (∃ (s : State) (n : Fin 4) (p : Port) (v : Word) (t : Nat),
      s.dev.calm = true ∧ s.dev.takes p (rNETn_GATE_CFG n.val) ∧ s.dev.on (fNETn_GATE_CFG_EN n.val) = false ∧ t = (fNETn_GATE_CFG_TCMP n.val).get v ∧ (s.dev.stored (rNETn_GATE_CFG n.val) ((fNETn_GATE_CFG_EN n.val).put v 1)).gateCheck n.val = 0 ∧ s.dev.get (fTIME_TCMPnn_OWNER_OWNER t) = 0 ∧ s.dev.tcmpPrio t = 0 ∧ s.dev.sound = true) ∧
    (∃ (s : State) (n : Fin 4) (p : Port) (v : Word),
      s.dev.calm = true ∧ s.dev.takes p (rNETn_GATE_CFG n.val) ∧ s.dev.on (fNETn_GATE_CFG_EN n.val) = false ∧ (s.dev.stored (rNETn_GATE_CFG n.val) ((fNETn_GATE_CFG_EN n.val).put v 1)).gateCheck n.val ≠ 0) ∧
    (∃ (s : State) (n : Fin 4) (p : Port) (_ : Word) (t : Nat),
      s.dev.calm = true ∧ s.dev.takes p (rNETn_GATE_CFG n.val) ∧ s.dev.on (fNETn_GATE_CFG_EN n.val) = true ∧ t = s.dev.get (fNETn_GATE_CFG_TCMP n.val)) ∧
    (∃ (s : State) (n : Fin 4) (k : Nat),
      s.dev.calm = true ∧ k = s.dev.get (fNETn_GATE_STS_ENTRY n.val) ∧ s.dev.on (fNETn_GATE_STS_RUNNING n.val) = true ∧ k + 1 < s.dev.gateLen n.val ∧ k + 1 < 256 ∧ s.dev.entryOver n.val k = true ∧ s.dev.sound = true ∧ s.dev.domOn (9 + n.val) = true) ∧
    (∃ (s : State) (n : Fin 4) (k : Nat),
      s.dev.calm = true ∧ k = s.dev.get (fNETn_GATE_STS_ENTRY n.val) ∧ s.dev.on (fNETn_GATE_STS_RUNNING n.val) = true ∧ k + 1 < s.dev.gateLen n.val ∧ s.dev.entryOver n.val k = true ∧ s.dev.tblHurt (0x2E8000 + 0x800 * n.val + 8 * (k + 1)) = true ∧ s.dev.domOn 1 = true ∧ s.dev.get (fTIME_TCMPnn_OWNER_OWNER (s.dev.get (fNETn_GATE_CFG_TCMP n.val))) = 0x40 + n.val ∧ s.dev.domOn (9 + n.val) = true) ∧
    (∃ (s : State) (n : Fin 4),
      s.dev.calm = true ∧ s.dev.netOn n.val = true ∧ s.dev.linkUp n.val = true ∧ s.dev.on (fNETn_MM_CFG_PE_EN n.val) = true ∧ s.dev.domOn (9 + n.val) = true) ∧
    (∃ (s : State) (n : Fin 4),
      s.dev.calm = true ∧ s.dev.netOn n.val = true ∧ s.dev.linkUp n.val = true ∧ s.dev.on (fNETn_MM_CFG_PE_EN n.val) = true ∧ s.dev.get (fNETn_MM_STS_VERIFY n.val) = 2 ∧ s.dev.domOn (9 + n.val) = true) ∧
    (∃ (s : State) (n : Fin 4),
      s.dev.calm = true ∧ s.dev.netOn n.val = true ∧ s.dev.linkUp n.val = true ∧ s.dev.on (fNETn_MM_CFG_PE_EN n.val) = false ∧ s.dev.domOn (9 + n.val) = true) ∧
    (∃ (s : State) (n : Fin 4),
      s.dev.calm = true ∧ s.dev.netOn n.val = true ∧ s.dev.linkUp n.val = true ∧ s.dev.on (fNETn_MM_CFG_PE_EN n.val) = false ∧ s.dev.domOn (9 + n.val) = true) ∧
    (∃ (s : State) (n : Fin 4),
      s.dev.calm = true ∧ s.dev.linkUp n.val = true ∧ s.dev.get (fNETn_MM_STS_VERIFY n.val) = 2 ∧ 3 ≤ (s.dev.netOf n.val).tries ∧ s.dev.domOn (9 + n.val) = true) ∧
    (∃ (s : State) (n : Fin 4),
      s.dev.calm = true ∧ s.dev.linkUp n.val = true ∧ s.dev.get (fNETn_MM_STS_VERIFY n.val) = 2 ∧ (s.dev.netOf n.val).tries < 3 ∧ s.dev.domOn (9 + n.val) = true) ∧
    (∃ (s : State) (h : Handed) (t : List Handed),
      s.dev.calm = true ∧ s.dev.handed = h :: t ∧ h.sink = .pause ∧ h.port < 4 ∧ s.dev.domOn (9 + h.port.val) = true ∧ s.dev.on (fNETn_PAUSE_CFG_RX_EN h.port) = true ∧ s.dev.domOn 1 = true) ∧
    (∃ (s : State) (n : Fin 4) (q : Nat) (z : Int),
      s.dev.calm = true ∧ (s.dev.netOf n.val).pause = some (q, z) ∧ q < 65536 ∧ s.dev.domOn (9 + n.val) = true) ∧
    (∃ (s : State) (n : Fin 4) (p : Port) (_ : Word),
      s.dev.calm = true ∧ s.dev.takes p (rNETn_PAUSE_TX n.val) ∧ s.dev.netOn n.val = true ∧ s.dev.linkUp n.val = true) :=
  ⟨⟨onDev live fun d => { (d.setReg (rNETn_GATE_CYCLE 3) 1000000) with tbl := writeWord64 d.tbl 0x2E9800 0xFF00000000001000 }, 3, .spi, 0x003F0001#32, 63, by decide +kernel⟩,
   ⟨live, 3, .spi, 0#32, by decide +kernel⟩,
   ⟨onDev live fun d => ((d.putB (fNETn_GATE_CFG_EN 3) true).put (fNETn_GATE_CFG_TCMP 3) 63).put (fTIME_TCMPnn_OWNER_OWNER 63) 0x43, 3, .spi, 0x003F0000#32, 63, by decide +kernel⟩,
   ⟨onDev live fun d => { (d.put (fNETn_GATE_CFG_LEN 3) 2).putB (fNETn_GATE_STS_RUNNING 3) true with tbl := writeWord64 d.tbl 0x2E9808 0x5A00000000001000 }, 3, 0, by decide +kernel⟩,
   ⟨onDev live fun d => { (((d.put (fNETn_GATE_CFG_LEN 3) 2).put (fNETn_GATE_CFG_TCMP 3) 63).putB (fNETn_GATE_STS_RUNNING 3) true).put (fTIME_TCMPnn_OWNER_OWNER 63) 0x43 with poison := [(8388608 * 3 + (0x2E8000 + 0x800 * 3 + 8) / 8, true)] }, 3, 0, by decide +kernel⟩,
   ⟨onDev live fun d => (netUp 2 d).putB (fNETn_MM_CFG_PE_EN 2) true, 2, by decide +kernel⟩,
   ⟨onDev live fun d => ((netUp 2 d).putB (fNETn_MM_CFG_PE_EN 2) true).put (fNETn_MM_STS_VERIFY 2) 2, 2, by decide +kernel⟩,
   ⟨onDev live (netUp 2), 2, by decide +kernel⟩,
   ⟨onDev live (netUp 2), 2, by decide +kernel⟩,
   ⟨onDev live fun d => ((netUp 2 d).put (fNETn_MM_STS_VERIFY 2) 2).setNet 2 { tries := 3 }, 2, by decide +kernel⟩,
   ⟨onDev live fun d => ((netUp 2 d).put (fNETn_MM_STS_VERIFY 2) 2).setNet 2 { tries := 2 }, 2, by decide +kernel⟩,
   ⟨onDev live fun d => { (netUp 2 d).putB (fNETn_PAUSE_CFG_RX_EN 2) true with handed := [{ sink := .pause, port := 2, bytes := List.replicate 16 0 ++ [1, 2] }] }, { sink := .pause, port := 2, bytes := List.replicate 16 0 ++ [1, 2] }, [], by decide +kernel⟩,
   ⟨onDev live fun d => (netUp 2 d).setNet 2 { pause := some (65535, 4) }, 2, 65535, 4, by decide +kernel⟩,
   ⟨onDev live (netUp 2), 2, .spi, 0xFFFF#32, by decide +kernel⟩⟩

theorem test_witness_FabricEnablesAndRefuses :
    (∃ (s : State) (p : Port) (v : Word),
      s.dev.calm = true ∧ s.dev.takes p rMIO_CFG ∧ s.dev.on fMIO_CFG_EN = false ∧ (s.dev.stored rMIO_CFG (fMIO_CFG_EN.put v 1)).mioCheck = 0) ∧
    (∃ (s : State) (p : Port) (v : Word),
      s.dev.calm = true ∧ s.dev.takes p rMIO_CFG ∧ s.dev.on fMIO_CFG_EN = false ∧ (s.dev.stored rMIO_CFG (fMIO_CFG_EN.put v 1)).mioCheck ≠ 0) ∧
    (∃ (s : State) (p : Port) (_ : Word),
      s.dev.calm = true ∧ s.dev.takes p rMIO_CFG ∧ s.dev.on fMIO_CFG_EN = true) ∧
    (∃ (s : State) (f : Nat),
      s.dev.calm = true ∧ s.dev.mioOn = true ∧ s.dev.refDown 1 = false ∧ s.dev.get fMIO_STS_FNID_STATE = 1 ∧ firstFree (s.dev.put fMIO_FNID_FNID 0).fnidsTaken (max 1 (s.dev.get fMIO_FNID_CFG_CFG_FNID)) 4096 = some f ∧ s.dev.domOn 1 = true) ∧
    (∃ (s : State),
      s.dev.calm = true ∧ s.dev.mioOn = true ∧ s.dev.refDown 1 = false ∧ s.dev.get fMIO_STS_FNID_STATE = 2 ∧ s.dev.mio.claim < 4095 ∧ s.dev.domOn 1 = true) :=
  ⟨⟨onDev live fun d => (d.put fMIO_FNID_CFG_CFG_FNID 4094).put fMIO_PORT_CFG_ROLES 0x5A, .spi, 0#32, by decide +kernel⟩,
   ⟨live, .spi, 0#32, by decide +kernel⟩,
   ⟨onDev live fun d => { d.putB fMIO_CFG_EN true with tbl := writeWord64 d.tbl 0x240000 0x8000000000000005 }, .spi, 0#32, by decide +kernel⟩,
   ⟨onDev live fun d => ((d.putB fMIO_CFG_EN true).put fMIO_STS_FNID_STATE 1).put fMIO_FNID_CFG_CFG_FNID 4094, 4094, by decide +kernel⟩,
   ⟨onDev live fun d => { (d.putB fMIO_CFG_EN true).put fMIO_STS_FNID_STATE 2 with mio := { d.mio with claim := 4094 } }, by decide +kernel⟩⟩

theorem test_witness_FabricTablesAreReadAndWritten :
    (∃ (s : State) (p : Port) (v : Word) (a : Nat),
      s.dev.calm = true ∧ s.dev.takes p rMIO_TBL_CMD ∧ fMIO_TBL_CMD_TBL.get v ≠ 3 ∧ fMIO_TBL_CMD_INDEX.get v < (mioTable (fMIO_TBL_CMD_TBL.get v)).2.2 ∧ a = (mioTable (fMIO_TBL_CMD_TBL.get v)).1 + (mioTable (fMIO_TBL_CMD_TBL.get v)).2.1 * fMIO_TBL_CMD_INDEX.get v ∧ (fMIO_TBL_CMD_TBL.get v = 2 → ((s.dev.reg (rMIO_TBL_DATAk 1)).toNat * 2 ^ 32 + (s.dev.reg (rMIO_TBL_DATAk 0)).toNat) / 2 ^ 62 % 2 = 1)) ∧
    (∃ (s : State) (p : Port) (v : Word) (a : Nat),
      s.dev.calm = true ∧ s.dev.takes p rMIO_TBL_CMD ∧ fMIO_TBL_CMD_TBL.get v ≠ 3 ∧ fMIO_TBL_CMD_INDEX.get v < (mioTable (fMIO_TBL_CMD_TBL.get v)).2.2 ∧ a = (mioTable (fMIO_TBL_CMD_TBL.get v)).1 + (mioTable (fMIO_TBL_CMD_TBL.get v)).2.1 * fMIO_TBL_CMD_INDEX.get v) ∧
    (∃ (s : State) (p : Port) (v : Word) (a : Nat),
      s.dev.calm = true ∧ s.dev.takes p rMIO_TBL_CMD ∧ fMIO_TBL_CMD_TBL.get v ≠ 3 ∧ fMIO_TBL_CMD_INDEX.get v < (mioTable (fMIO_TBL_CMD_TBL.get v)).2.2 ∧ a = (mioTable (fMIO_TBL_CMD_TBL.get v)).1 + (mioTable (fMIO_TBL_CMD_TBL.get v)).2.1 * fMIO_TBL_CMD_INDEX.get v) ∧
    (∃ (s : State) (p : Port) (v : Word),
      s.dev.calm = true ∧ s.dev.takes p rMIO_TBL_CMD ∧ (fMIO_TBL_CMD_TBL.get v = 3 ∨ (mioTable (fMIO_TBL_CMD_TBL.get v)).2.2 ≤ fMIO_TBL_CMD_INDEX.get v ∨ (fMIO_TBL_CMD_TBL.get v = 2 ∧ ((s.dev.reg (rMIO_TBL_DATAk 1)).toNat * 2 ^ 32 + (s.dev.reg (rMIO_TBL_DATAk 0)).toNat) / 2 ^ 62 % 2 = 0))) ∧
    (∃ (s : State) (p : Port) (v : Word),
      s.dev.calm = true ∧ s.dev.takes p rMIO_TBL_CMD ∧ (fMIO_TBL_CMD_TBL.get v = 3 ∨ (mioTable (fMIO_TBL_CMD_TBL.get v)).2.2 ≤ fMIO_TBL_CMD_INDEX.get v)) ∧
    (∃ (s : State) (p : Port) (v : Word),
      s.dev.calm = true ∧ s.dev.takes p rMIO_TBL_CMD ∧ (fMIO_TBL_CMD_TBL.get v = 3 ∨ (mioTable (fMIO_TBL_CMD_TBL.get v)).2.2 ≤ fMIO_TBL_CMD_INDEX.get v)) :=
  ⟨⟨onDev live fun d => d.setReg (rMIO_TBL_DATAk 1) 0xC0000000, .spi, 0x02000FFF#32, 0x287FF8, by decide +kernel⟩,
   ⟨onDev live fun d => { d with tbl := writeWord64 d.tbl 0x240010 0x8000000000000005 }, .spi, 0x01000001#32, 0x240010, by decide +kernel⟩,
   ⟨onDev live fun d => { d with tbl := writeWord64 d.tbl 0x23FFF0 0x8000000000000005 }, .spi, 0x0000FFFF#32, 0x23FFF0, by decide +kernel⟩,
   ⟨live, .spi, 0x02000000#32, by decide +kernel⟩,
   ⟨live, .spi, 0x02001000#32, by decide +kernel⟩,
   ⟨live, .spi, 0x03000000#32, by decide +kernel⟩⟩

theorem test_witness_FabricFramesGoOutAndComeIn :
    (∃ (s : State) (n : Fin 4),
      s.dev.calm = true ∧ s.dev.mioOn = true ∧ s.dev.refDown 1 = false ∧ 4 ≤ s.dev.cellsFree ∧ s.dev.role n.val = 2 ∧ s.dev.netOn n.val = true ∧ s.dev.linkUp n.val = true ∧ s.dev.domOn 1 = true) ∧
    (∃ (s : State) (n : Fin 4),
      s.dev.calm = true ∧ s.dev.mioOn = true ∧ 4 ≤ s.dev.cellsFree ∧ s.dev.role n.val = 2 ∧ s.dev.netOn n.val = true ∧ s.dev.linkUp n.val = true ∧ s.dev.domOn 1 = true) ∧
    (∃ (s : State) (h : Handed) (k : Nat),
      s.dev.calm = true ∧ s.dev.mioOn = true ∧ s.dev.refDown 1 = false ∧ (s.dev.handed.find? (fun x => x.sink == .disc) = some h) ∧ h.port.val < 4 ∧ k = h.port.val / 2 ∧ (mioHead h.bytes).mac ≠ s.dev.macAddr 0 ∧ ((s.dev.mioNet k).nodes.all (fun x => x.mac != (mioHead h.bytes).mac) = true) ∧ (s.dev.mioNet k).nodes.length < 127 ∧ s.dev.domOn 1 = true) ∧
    (∃ (s : State) (h : Handed) (k : Nat),
      s.dev.calm = true ∧ s.dev.mioOn = true ∧ s.dev.refDown 1 = false ∧ (s.dev.handed.find? (fun x => x.sink == .disc) = some h) ∧ h.port.val < 4 ∧ k = h.port.val / 2 ∧ (mioHead h.bytes).mac ≠ s.dev.macAddr 0 ∧ ((s.dev.mioNet k).nodes.all (fun x => x.mac != (mioHead h.bytes).mac) = true) ∧ 127 ≤ (s.dev.mioNet k).nodes.length ∧ s.dev.domOn 1 = true) ∧
    (∃ (s : State) (h : Handed),
      s.dev.calm = true ∧ s.dev.mioOn = true ∧ s.dev.refDown 1 = false ∧ (s.dev.handed.find? (fun x => x.sink == .disc) = some h) ∧ h.port.val < 4 ∧ (mioHead h.bytes).mac = s.dev.macAddr 0 ∧ beAt (mioBody h.bytes) 1 1 ≠ otherPort h.port.val ∧ s.dev.domOn 1 = true) ∧
    (∃ (s : State) (h : Handed),
      s.dev.calm = true ∧ (s.dev.handed.find? (fun x => x.sink == .probe) = some h) ∧ s.dev.domOn 1 = true) ∧
    (∃ (s : State) (n : Fin 4),
      s.dev.calm = true ∧ s.dev.mioOn = true ∧ s.dev.role n.val = 2 ∧ (s.dev.mioPort n.val).lost = false ∧ s.dev.domOn 1 = true) ∧
    (∃ (s : State) (h : Handed) (p : Nat) (k : Nat),
      s.dev.calm = true ∧ s.dev.mioOn = true ∧ s.dev.refDown 1 = false ∧ (s.dev.handed.find? (fun x => x.sink == .topo && beAt (mioBody x.bytes) 0 1 == 1) = some h) ∧ h.port.val < 4 ∧ k = h.port.val / 2 ∧ (p = 2 * k ∨ p = 2 * k + 1) ∧ s.dev.role p = 2 ∧ s.dev.endsAt (topoLink (mioBody h.bytes)) p = true ∧ (p = 2 * k + 1 → s.dev.endsAt (topoLink (mioBody h.bytes)) (2 * k) = false) ∧ (mioHead h.bytes).mac ≠ s.dev.macAddr 0 ∧ (s.dev.mioNet k).topos.contains ((mioHead h.bytes).origin, (mioHead h.bytes).seq) = false ∧ s.dev.domOn 1 = true) ∧
    (∃ (s : State) (h : Handed) (p : Nat) (k : Nat),
      s.dev.calm = true ∧ s.dev.mioOn = true ∧ s.dev.refDown 1 = false ∧ (s.dev.handed.find? (fun x => x.sink == .topo && beAt (mioBody x.bytes) 0 1 == 2) = some h) ∧ h.port.val < 4 ∧ k = h.port.val / 2 ∧ (p = 2 * k ∨ p = 2 * k + 1) ∧ s.dev.role p = 2 ∧ s.dev.endsAt (topoLink (mioBody h.bytes)) p = false ∧ (s.dev.mioPort p).restoring = true ∧ (mioHead h.bytes).mac ≠ s.dev.macAddr 0 ∧ (s.dev.mioNet k).topos.contains ((mioHead h.bytes).origin, (mioHead h.bytes).seq) = false ∧ s.dev.domOn 1 = true) :=
  ⟨⟨onDev live fun d => (netUp 2 d |>.putB fMIO_CFG_EN true |>.put fMIO_PORT_CFG_ROLES 0xAA |>.put (fMIO_FNID_FNID) 9 |>.put fMIO_STS_FNID_STATE 3), 2, by decide +kernel⟩,
   ⟨onDev live fun d => (netUp 2 d |>.putB fMIO_CFG_EN true |>.put fMIO_PORT_CFG_ROLES 0xAA |>.put (fMIO_FNID_FNID) 9 |>.put fMIO_STS_FNID_STATE 3), 2, by decide +kernel⟩,
   ⟨onDev live fun d => { (netUp 2 d |>.putB fMIO_CFG_EN true |>.put fMIO_PORT_CFG_ROLES 0xAA |>.put (fMIO_FNID_FNID) 9 |>.put fMIO_STS_FNID_STATE 3) with handed := [{ sink := .disc, port := 2, bytes := (mioFrameOf 1 100 0x5 77 0x123456 3 [1, 3, 0, 0, 0xFF]) }] }, ({ sink := .disc, port := 2, bytes := (mioFrameOf 1 100 0x5 77 0x123456 3 [1, 3, 0, 0, 0xFF]) }), 1, by decide +kernel⟩,
   ⟨onDev live fun d => ({ (netUp 2 d |>.putB fMIO_CFG_EN true |>.put fMIO_PORT_CFG_ROLES 0xAA |>.put (fMIO_FNID_FNID) 9 |>.put fMIO_STS_FNID_STATE 3) with handed := [{ sink := .disc, port := 2, bytes := (mioFrameOf 1 100 0x5 77 0x123456 3 [1, 3, 0, 0, 0xFF]) }] } : Dev).setMioNet 1 { nodes := List.replicate 127 { fnid := 1, mac := 1 } }, ({ sink := .disc, port := 2, bytes := (mioFrameOf 1 100 0x5 77 0x123456 3 [1, 3, 0, 0, 0xFF]) }), 1, by decide +kernel⟩,
   ⟨onDev live fun d => ({ (netUp 2 d |>.putB fMIO_CFG_EN true |>.put fMIO_PORT_CFG_ROLES 0xAA |>.put (fMIO_FNID_FNID) 9 |>.put fMIO_STS_FNID_STATE 3) with handed := [{ sink := .disc, port := 2, bytes := (mioFrameOf 1 100 0x5 77 0x123456 3 [1, 2, 0, 0, 0xFF]) }] } : Dev).setReg (rNETn_MAC_ADDR_L 0) 0x123456 |>.setMioPort 2 { noPeer := true }, ({ sink := .disc, port := 2, bytes := (mioFrameOf 1 100 0x5 77 0x123456 3 [1, 2, 0, 0, 0xFF]) }), by decide +kernel⟩,
   ⟨onDev live fun d => { (netUp 2 d |>.putB fMIO_CFG_EN true |>.put fMIO_PORT_CFG_ROLES 0xAA |>.put (fMIO_FNID_FNID) 9 |>.put fMIO_STS_FNID_STATE 3) with handed := [{ sink := .probe, port := 2, bytes := [] }] }, ({ sink := .probe, port := 2, bytes := [] }), by decide +kernel⟩,
   ⟨onDev live fun d => (netUp 2 d |>.putB fMIO_CFG_EN true |>.put fMIO_PORT_CFG_ROLES 0xAA |>.put (fMIO_FNID_FNID) 9 |>.put fMIO_STS_FNID_STATE 3), 2, by decide +kernel⟩,
   ⟨onDev live fun d => { (netUp 2 d |>.putB fMIO_CFG_EN true |>.put fMIO_PORT_CFG_ROLES 0xAA |>.put (fMIO_FNID_FNID) 9 |>.put fMIO_STS_FNID_STATE 3) with handed := [{ sink := .topo, port := 2, bytes := (mioFrameOf 3 100 0 77 0x123456 3 [1, 0, 9, 2, 0, 8, 1]) }] }, ({ sink := .topo, port := 2, bytes := (mioFrameOf 3 100 0 77 0x123456 3 [1, 0, 9, 2, 0, 8, 1]) }), 2, 1, by decide +kernel⟩,
   ⟨onDev live fun d => ({ (netUp 2 d |>.putB fMIO_CFG_EN true |>.put fMIO_PORT_CFG_ROLES 0xAA |>.put (fMIO_FNID_FNID) 9 |>.put fMIO_STS_FNID_STATE 3) with handed := [{ sink := .topo, port := 2, bytes := (mioFrameOf 3 100 0 77 0x123456 3 [2, 0, 7, 2, 0, 8, 1]) }] } : Dev).setMioPort 3 { restoring := true }, ({ sink := .topo, port := 2, bytes := (mioFrameOf 3 100 0 77 0x123456 3 [2, 0, 7, 2, 0, 8, 1]) }), 3, 1, by decide +kernel⟩⟩

theorem test_witness_FabricTimersExpire :
    (∃ (s : State) (n : Fin 4),
      s.dev.calm = true ∧ s.dev.mioOn = true ∧ s.dev.role n.val = 2 ∧ s.dev.linkUp n.val = true ∧ s.dev.domOn 1 = true) ∧
    (∃ (s : State) (_ : Fin 2) (_ : BitVec 48),
      s.dev.calm = true ∧ s.dev.refDown 1 = false ∧ s.dev.domOn 1 = true) ∧
    (∃ (s : State) (net : Fin 2),
      s.dev.calm = true ∧ s.dev.mioOn = true ∧ s.dev.refDown 1 = false ∧ s.dev.on (fRing net.val) = true ∧ s.dev.domOn 1 = true) ∧
    (∃ (s : State) (n : Fin 4),
      s.dev.calm = true ∧ s.dev.mioOn = true ∧ s.dev.refDown 1 = false ∧ s.dev.role n.val = 2 ∧ (s.dev.mioPort n.val).restoring = true ∧ s.dev.domOn 1 = true) ∧
    (∃ (s : State) (net : Fin 2),
      s.dev.calm = true ∧ s.dev.mioOn = true ∧ s.dev.refDown 1 = false ∧ s.dev.on (fSegOver net.val) = true ∧ s.dev.domOn 1 = true) ∧
    (∃ (s : State) (i : Fin 16384),
      s.dev.calm = true ∧ s.dev.mioOn = true ∧ s.dev.get fMIO_CFG_AGE_S ≠ 0 ∧ (s.dev.learned i.val).valid = true ∧ (s.dev.learned i.val).static = false ∧ s.dev.domOn 1 = true) ∧
    (∃ (s : State) (i : Fin 16384),
      s.dev.calm = true ∧ (s.dev.get fMIO_CFG_AGE_S = 0 ∨ (s.dev.learned i.val).static = true) ∧ s.dev.domOn 1 = true) :=
  ⟨⟨onDev live fun d => (netUp 2 d |>.putB fMIO_CFG_EN true |>.put fMIO_PORT_CFG_ROLES 0xAA |>.put (fMIO_FNID_FNID) 9 |>.put fMIO_STS_FNID_STATE 3), 2, by decide +kernel⟩,
   ⟨onDev live fun d => ((netUp 2 d |>.putB fMIO_CFG_EN true |>.put fMIO_PORT_CFG_ROLES 0xAA |>.put (fMIO_FNID_FNID) 9 |>.put fMIO_STS_FNID_STATE 3)).setMioNet 1 { nodes := [{ fnid := 5, mac := 7 }, { fnid := 6, mac := 8 }] }, 1, 7#48, by decide +kernel⟩,
   ⟨onDev live fun d => ((netUp 2 d |>.putB fMIO_CFG_EN true |>.put fMIO_PORT_CFG_ROLES 0xAA |>.put (fMIO_FNID_FNID) 9 |>.put fMIO_STS_FNID_STATE 3)).putB (fRing 1) true |>.putB (fBreak 1) true, 1, by decide +kernel⟩,
   ⟨onDev live fun d => ((netUp 2 d |>.putB fMIO_CFG_EN true |>.put fMIO_PORT_CFG_ROLES 0xAA |>.put (fMIO_FNID_FNID) 9 |>.put fMIO_STS_FNID_STATE 3)).setMioPort 2 { restoring := true, lost := true }, 2, by decide +kernel⟩,
   ⟨onDev live fun d => ((netUp 2 d |>.putB fMIO_CFG_EN true |>.put fMIO_PORT_CFG_ROLES 0xAA |>.put (fMIO_FNID_FNID) 9 |>.put fMIO_STS_FNID_STATE 3)).putB (fSegOver 1) true, 1, by decide +kernel⟩,
   ⟨onDev live fun d => { ((netUp 2 d |>.putB fMIO_CFG_EN true |>.put fMIO_PORT_CFG_ROLES 0xAA |>.put (fMIO_FNID_FNID) 9 |>.put fMIO_STS_FNID_STATE 3)).put fMIO_CFG_AGE_S 1 with tbl := writeWord64 d.tbl 0x27FFF0 0x8000000000000005 }, 16383, by decide +kernel⟩,
   ⟨live, 3, by decide +kernel⟩⟩

theorem test_witness_FabricRequestsAndResponses :
    (∃ (s : State) (p : Port) (_ : Word),
      s.dev.calm = true ∧ s.dev.takes p rMIO_REQ_CMD ∧ s.dev.on fMIO_REQ_STS_BUSY = false ∧ s.dev.mioOn = false) ∧
    (∃ (s : State) (p : Port) (_ : Word),
      s.dev.calm = true ∧ s.dev.takes p rMIO_REQ_CMD ∧ s.dev.on fMIO_REQ_STS_BUSY = false ∧ s.dev.mioOn = false) ∧
    (∃ (s : State) (p : Port) (_ : Word),
      s.dev.calm = true ∧ s.dev.takes p rMIO_REQ_CMD ∧ s.dev.on fMIO_REQ_STS_BUSY = false ∧ s.dev.mioOn = false) ∧
    (∃ (s : State) (p : Port) (_ : Word) (f : Nat),
      s.dev.calm = true ∧ s.dev.takes p rMIO_REQ_CMD ∧ s.dev.on fMIO_REQ_STS_BUSY = false ∧ s.dev.mioOn = true ∧ f = s.dev.get fMIO_REQ_DEST_FNID ∧ f ≠ 4095 ∧ s.dev.mgmtMine f = true) ∧
    (∃ (s : State) (p : Port) (_ : Word) (f : Nat),
      s.dev.calm = true ∧ s.dev.takes p rMIO_REQ_CMD ∧ s.dev.on fMIO_REQ_STS_BUSY = false ∧ s.dev.mioOn = true ∧ f = s.dev.get fMIO_REQ_DEST_FNID ∧ f ≠ 4095 ∧ s.dev.mgmtMine f = true) ∧
    (∃ (s : State) (p : Port) (_ : Word) (f : Nat),
      s.dev.calm = true ∧ s.dev.takes p rMIO_REQ_CMD ∧ s.dev.on fMIO_REQ_STS_BUSY = false ∧ s.dev.mioOn = true ∧ f = s.dev.get fMIO_REQ_DEST_FNID ∧ f ≠ 4095 ∧ s.dev.mgmtMine f = true) ∧
    (∃ (s : State) (h : Handed),
      s.dev.calm = true ∧ s.dev.mioOn = true ∧ (s.dev.handed.find? (fun x => x.sink == .response) = some h) ∧ (mioHead h.bytes).dest ≠ 0 ∧ (mioHead h.bytes).dest ≠ 4095 ∧ s.dev.mgmtMine (mioHead h.bytes).dest = true ∧ s.dev.on fMIO_REQ_STS_BUSY = true ∧ beAt (mioBody h.bytes) 0 1 = 0 ∧ s.dev.reqTag = some (beAt (mioBody h.bytes) 1 2) ∧ s.dev.domOn 1 = true) ∧
    (∃ (s : State) (h : Handed),
      s.dev.calm = true ∧ s.dev.mioOn = true ∧ (s.dev.handed.find? (fun x => x.sink == .response) = some h) ∧ (mioHead h.bytes).dest ≠ 0 ∧ (mioHead h.bytes).dest ≠ 4095 ∧ s.dev.mgmtMine (mioHead h.bytes).dest = true ∧ (s.dev.on fMIO_REQ_STS_BUSY = false ∨ beAt (mioBody h.bytes) 0 1 ≠ 0 ∨ s.dev.reqTag ≠ some (beAt (mioBody h.bytes) 1 2)) ∧ s.dev.domOn 1 = true) ∧
    (∃ (s : State) (f : Nat) (b : List (BitVec 8)),
      s.dev.calm = true ∧ s.dev.mioOn = true ∧ s.dev.on fMIO_REQ_STS_BUSY = true ∧ s.dev.mio.req = some (f, b) ∧ f ≠ 4095 ∧ s.dev.mgmtMine f = true ∧ s.dev.domOn 1 = true) ∧
    (∃ (s : State),
      s.dev.calm = true ∧ s.dev.on fMIO_REQ_STS_BUSY = true ∧ s.dev.domOn 1 = true) ∧
    (∃ (s : State) (_ : Meets) (h : Handed) (o : Nat) (t : List (BitVec 8)) (b : List (BitVec 8)),
      s.dev.calm = true ∧ s.dev.mioOn = true ∧ (s.dev.handed.find? (fun x => x.sink == .mgmt) = some h) ∧ (mioHead h.bytes).dest ≠ 4095 ∧ s.dev.mgmtMine (mioHead h.bytes).dest = true ∧ b = mioBody h.bytes ∧ o = (mioHead h.bytes).origin ∧ ((splitRec o (beAt b 0 1) s.dev.mio.recs).1.bind (fun r => r.tags.lookup (beAt b 1 2)) = some t) ∧ h.port = selfPort ∧ s.dev.mgmtMine o = true ∧ s.dev.domOn 1 = true) ∧
    (∃ (s : State) (_ : Meets) (h : Handed) (o : Nat) (b : List (BitVec 8)),
      s.dev.calm = true ∧ s.dev.mioOn = true ∧ (s.dev.handed.find? (fun x => x.sink == .mgmt) = some h) ∧ (mioHead h.bytes).dest ≠ 4095 ∧ s.dev.mgmtMine (mioHead h.bytes).dest = true ∧ b = mioBody h.bytes ∧ o = (mioHead h.bytes).origin ∧ ((splitRec o (beAt b 0 1) s.dev.mio.recs).1.bind (fun r => r.tags.lookup (beAt b 1 2)) = none) ∧ h.port = selfPort ∧ s.dev.mgmtMine o = true ∧ (beAt b 3 1 = 0 ∨ 4 ≤ beAt b 3 1) ∧ s.dev.domOn 1 = true) ∧
    (∃ (s : State) (tag : Nat),
      s.dev.calm = true ∧ s.dev.reqTag ≠ some tag ∧ s.dev.domOn 1 = true) ∧
    (∃ (s : State) (tag : Nat),
      s.dev.calm = true ∧ s.dev.reqTag = some tag ∧ s.dev.on fMIO_REQ_STS_BUSY = true ∧ s.dev.domOn 1 = true) ∧
    (∃ (s : State) (tag : Nat),
      s.dev.calm = true ∧ (s.dev.on fMIO_REQ_STS_BUSY = false ∨ s.dev.reqTag ≠ some tag) ∧ s.dev.domOn 1 = true) :=
  ⟨⟨live, .spi, 0x01234567#32, by decide +kernel⟩,
   ⟨live, .spi, 0x01234567#32, by decide +kernel⟩,
   ⟨live, .spi, 0x01234567#32, by decide +kernel⟩,
   ⟨onDev live fun d => ((netUp 2 d |>.putB fMIO_CFG_EN true |>.put fMIO_PORT_CFG_ROLES 0xAA |>.put (fMIO_FNID_FNID) 9 |>.put fMIO_STS_FNID_STATE 3)).put fMIO_REQ_DEST_FNID 9, .spi, 0x01234567#32, 9, by decide +kernel⟩,
   ⟨onDev live fun d => ((netUp 2 d |>.putB fMIO_CFG_EN true |>.put fMIO_PORT_CFG_ROLES 0xAA |>.put (fMIO_FNID_FNID) 9 |>.put fMIO_STS_FNID_STATE 3)).put fMIO_REQ_DEST_FNID 9, .spi, 0x01234567#32, 9, by decide +kernel⟩,
   ⟨onDev live fun d => ((netUp 2 d |>.putB fMIO_CFG_EN true |>.put fMIO_PORT_CFG_ROLES 0xAA |>.put (fMIO_FNID_FNID) 9 |>.put fMIO_STS_FNID_STATE 3)).put fMIO_REQ_DEST_FNID 9, .spi, 0x01234567#32, 9, by decide +kernel⟩,
   ⟨onDev live fun d => { ((netUp 2 d |>.putB fMIO_CFG_EN true |>.put fMIO_PORT_CFG_ROLES 0xAA |>.put (fMIO_FNID_FNID) 9 |>.put fMIO_STS_FNID_STATE 3)).putB fMIO_REQ_STS_BUSY true with mio := { d.mio with req := some (9, mgmtBody 0 0x4567 1 0 4 0 0 []) }, handed := [{ sink := .response, port := 2, bytes := (mgmtTo 9 [0, 0x45, 0x67, 0x81, 3, 1, 2, 0, 0, 0, 1, 2, 3, 4]) }] }, ({ sink := .response, port := 2, bytes := (mgmtTo 9 [0, 0x45, 0x67, 0x81, 3, 1, 2, 0, 0, 0, 1, 2, 3, 4]) }), by decide +kernel⟩,
   ⟨onDev live fun d => { ((netUp 2 d |>.putB fMIO_CFG_EN true |>.put fMIO_PORT_CFG_ROLES 0xAA |>.put (fMIO_FNID_FNID) 9 |>.put fMIO_STS_FNID_STATE 3)) with handed := [{ sink := .response, port := 2, bytes := (mgmtTo 9 [0, 0x45, 0x67, 0x81, 3, 1, 2, 0, 0, 0, 1, 2, 3, 4]) }] }, ({ sink := .response, port := 2, bytes := (mgmtTo 9 [0, 0x45, 0x67, 0x81, 3, 1, 2, 0, 0, 0, 1, 2, 3, 4]) }), by decide +kernel⟩,
   ⟨onDev live fun d => { ((netUp 2 d |>.putB fMIO_CFG_EN true |>.put fMIO_PORT_CFG_ROLES 0xAA |>.put (fMIO_FNID_FNID) 9 |>.put fMIO_STS_FNID_STATE 3)).putB fMIO_REQ_STS_BUSY true with mio := { d.mio with req := some (9, [1]) } }, 9, [1], by decide +kernel⟩,
   ⟨onDev live fun d => d.putB fMIO_REQ_STS_BUSY true, by decide +kernel⟩,
   ⟨onDev live fun d => { ((netUp 2 d |>.putB fMIO_CFG_EN true |>.put fMIO_PORT_CFG_ROLES 0xAA |>.put (fMIO_FNID_FNID) 9 |>.put fMIO_STS_FNID_STATE 3)) with handed := [{ ({ sink := .mgmt, port := 2, bytes := (mgmtTo 9 [0, 0x45, 0x67, 0x81, 3, 1, 2, 0, 0, 0]) } : Handed) with port := selfPort }], mio := { d.mio with recs := [{ fnid := 9, session := 0, tags := [(0x4567, [1, 2])] }] } }, {}, { ({ sink := .mgmt, port := 2, bytes := (mgmtTo 9 [0, 0x45, 0x67, 0x81, 3, 1, 2, 0, 0, 0]) } : Handed) with port := selfPort }, 9, [1, 2], [0, 0x45, 0x67, 0x81, 3, 1, 2, 0, 0, 0], by decide +kernel⟩,
   ⟨onDev live fun d => { ((netUp 2 d |>.putB fMIO_CFG_EN true |>.put fMIO_PORT_CFG_ROLES 0xAA |>.put (fMIO_FNID_FNID) 9 |>.put fMIO_STS_FNID_STATE 3)) with handed := [{ ({ sink := .mgmt, port := 2, bytes := (mgmtTo 9 [0, 0x45, 0x67, 7, 3, 1, 2, 0, 0, 0]) } : Handed) with port := selfPort }] }, {}, { ({ sink := .mgmt, port := 2, bytes := (mgmtTo 9 [0, 0x45, 0x67, 7, 3, 1, 2, 0, 0, 0]) } : Handed) with port := selfPort }, 9, [0, 0x45, 0x67, 7, 3, 1, 2, 0, 0, 0], by decide +kernel⟩,
   ⟨live, 3, by decide +kernel⟩,
   ⟨onDev live fun d => { d.putB fMIO_REQ_STS_BUSY true with mio := { d.mio with req := some (7, mgmtBody 0 9 1 0 4 0 0 []) } }, 9, by decide +kernel⟩,
   ⟨live, 9, by decide +kernel⟩⟩

theorem test_witness_StageBusEnablesAndReceives :
    (∃ (s : State) (p : Port) (_ : Word),
      s.dev.calm = true ∧ s.dev.takes p rT1S_CFG ∧ s.dev.on fT1S_CFG_EN = false ∧ (s.dev.on fT1S_PLCA_CFG_PLCA_EN = true → s.dev.get fT1S_PLCA_CFG_NODE_ID < s.dev.t1sNodes)) ∧
    (∃ (s : State) (p : Port) (_ : Word),
      s.dev.calm = true ∧ s.dev.takes p rT1S_CFG ∧ s.dev.on fT1S_CFG_EN = false ∧ s.dev.on fT1S_PLCA_CFG_PLCA_EN = true ∧ s.dev.t1sNodes ≤ s.dev.get fT1S_PLCA_CFG_NODE_ID) ∧
    (∃ (s : State) (b : List (BitVec 8)) (q : Nat),
      s.dev.calm = true ∧ s.dev.t1sOn = true ∧ 60 ≤ b.length ∧ b.length ≤ 1518 ∧ dstOf b = s.dev.t1sMac ∧ beAt b 12 2 ≠ 0x88B5 ∧ etherType b ≠ 0x88B6 ∧ isE131 b = false ∧ q = s.dev.get fT1S_CFG_RXQ ∧ s.dev.domOn 13 = true) ∧
    (∃ (s : State) (b : List (BitVec 8)),
      s.dev.calm = true ∧ s.dev.t1sOn = true ∧ 60 ≤ b.length ∧ b.length ≤ 1518 ∧ dstOf b ≠ s.dev.t1sMac ∧ dstOf b ≠ broadcast ∧ s.dev.on fT1S_CFG_PROMISC = false ∧ beAt b 12 2 ≠ 0x88B5 ∧ etherType b ≠ 0x88B6 ∧ isE131 b = false ∧ s.dev.domOn 13 = true) ∧
    (∃ (s : State) (b : List (BitVec 8)),
      s.dev.calm = true ∧ s.dev.t1sOn = true ∧ b.length < 64 ∧ s.dev.domOn 13 = true) ∧
    (∃ (s : State) (b : List (BitVec 8)),
      s.dev.calm = true ∧ s.dev.t1sOn = true ∧ 1522 < b.length ∧ s.dev.domOn 13 = true) ∧
    (∃ (s : State) (b : List (BitVec 8)),
      s.dev.calm = true ∧ s.dev.t1sOn = true ∧ 64 ≤ b.length ∧ b.length ≤ 1522 ∧ b.drop (b.length - 4) ≠ fcsOf (b.take (b.length - 4)) ∧ s.dev.domOn 13 = true) :=
  ⟨⟨onDev live fun d => ((d.putB fT1S_PLCA_CFG_PLCA_EN true).put fT1S_PLCA_CFG_NODE_ID 7).put fT1S_PLCA_CFG_NODE_COUNT 8, .spi, 0#32, by decide +kernel⟩,
   ⟨onDev live fun d => ((d.putB fT1S_PLCA_CFG_PLCA_EN true).put fT1S_PLCA_CFG_NODE_ID 7).put fT1S_PLCA_CFG_NODE_COUNT 7, .spi, 0#32, by decide +kernel⟩,
   ⟨onDev live t1sUp, (beBytes 6 0 ++ List.replicate 54 0), 0, by decide +kernel⟩,
   ⟨onDev live t1sUp, (beBytes 6 5 ++ List.replicate 1512 0), by decide +kernel⟩,
   ⟨onDev live t1sUp, (List.replicate 63 0), by decide +kernel⟩,
   ⟨onDev live t1sUp, (List.replicate 1523 0), by decide +kernel⟩,
   ⟨onDev live t1sUp, (List.replicate 64 0), by decide +kernel⟩⟩

theorem test_witness_StageBusSendsAndBacksOff :
    (∃ (s : State),
      s.dev.calm = true ∧ s.dev.t1sOn = true ∧ s.dev.on fT1S_PLCA_CFG_PLCA_EN = true ∧ s.dev.domOn 13 = true) ∧
    (∃ (s : State) (f : T1sFrame) (q : List T1sFrame),
      s.dev.calm = true ∧ s.dev.t1sOn = true ∧ s.dev.plca = true ∧ s.dev.t1s.onWire = false ∧ s.dev.t1s.tx = none ∧ s.dev.t1s.cueQ = f :: q ∧ s.dev.domOn 13 = true) ∧
    (∃ (s : State) (f : T1sFrame) (q : List T1sFrame),
      s.dev.calm = true ∧ s.dev.t1sOn = true ∧ s.dev.plca = true ∧ s.dev.t1s.onWire = false ∧ s.dev.t1s.tx = none ∧ s.dev.t1s.cueQ = [] ∧ s.dev.t1s.mgmtQ = f :: q ∧ s.dev.domOn 13 = true) ∧
    (∃ (s : State) (f : T1sFrame) (q : List T1sFrame),
      s.dev.calm = true ∧ s.dev.t1sOn = true ∧ s.dev.plca = true ∧ s.dev.t1s.onWire = false ∧ s.dev.t1s.tx = none ∧ s.dev.t1s.cueQ = f :: q ∧ 1 ≤ s.dev.t1s.burst ∧ s.dev.t1s.burst ≤ s.dev.get fT1S_PLCA_BURST_MAX_BURST ∧ s.dev.domOn 13 = true) ∧
    (∃ (s : State),
      s.dev.calm = true ∧ s.dev.t1sOn = true ∧ s.dev.plca = true ∧ s.dev.t1s.onWire = false ∧ (s.dev.get fT1S_PLCA_BURST_MAX_BURST < s.dev.t1s.burst ∨ s.dev.t1s.burst = 0) ∧ s.dev.domOn 13 = true) ∧
    (∃ (s : State),
      s.dev.calm = true ∧ s.dev.t1sOn = true ∧ s.dev.plca = true ∧ s.dev.get fT1S_PLCA_CFG_NODE_ID ≠ 0 ∧ s.dev.domOn 13 = true) ∧
    (∃ (s : State) (f : T1sFrame) (l : Bool) (_ : BitVec 16),
      s.dev.calm = true ∧ s.dev.t1s.tx = some f ∧ s.dev.t1s.onWire = true ∧ (l = false ∨ s.dev.plca = true) ∧ s.dev.t1s.cols < 15 ∧ s.dev.cueFramePast f.cue = false ∧ s.dev.domOn 13 = true) ∧
    (∃ (s : State) (f : T1sFrame) (l : Bool) (_ : BitVec 16),
      s.dev.calm = true ∧ s.dev.t1s.tx = some f ∧ s.dev.t1s.onWire = true ∧ (l = false ∨ s.dev.plca = true) ∧ 15 ≤ s.dev.t1s.cols ∧ s.dev.cueFramePast f.cue = false ∧ s.dev.domOn 13 = true) ∧
    (∃ (s : State) (f : T1sFrame) (_ : BitVec 16),
      s.dev.calm = true ∧ s.dev.t1s.tx = some f ∧ s.dev.t1s.onWire = true ∧ s.dev.plca = false ∧ s.dev.cueFramePast f.cue = false ∧ s.dev.domOn 13 = true) ∧
    (∃ (s : State) (f : T1sFrame) (_ : Bool) (_ : BitVec 16),
      s.dev.calm = true ∧ s.dev.t1s.tx = some f ∧ s.dev.t1s.onWire = true ∧ s.dev.cueFramePast f.cue = true ∧ s.dev.domOn 13 = true) ∧
    (∃ (s : State),
      s.dev.calm = true ∧ s.dev.domOn 13 = true) ∧
    (∃ (s : State) (f : T1sFrame) (q : List T1sFrame),
      s.dev.calm = true ∧ s.dev.t1sOn = true ∧ s.dev.plca = false ∧ s.dev.t1s.onWire = false ∧ s.dev.t1s.backoff = none ∧ s.dev.t1s.tx = none ∧ s.dev.t1s.cueQ = f :: q ∧ s.dev.domOn 13 = true) ∧
    (∃ (s : State) (f : T1sFrame),
      s.dev.calm = true ∧ s.dev.t1sOn = true ∧ s.dev.plca = false ∧ s.dev.t1s.onWire = false ∧ s.dev.t1s.backoff = none ∧ s.dev.t1s.tx = some f ∧ s.dev.domOn 13 = true) ∧
    (∃ (s : State) (f : T1sFrame),
      s.dev.calm = true ∧ s.dev.t1s.tx = some f ∧ s.dev.t1s.onWire = true ∧ s.dev.domOn 13 = true) :=
  ⟨⟨onDev live fun d => (t1sUp d).putB fT1S_PLCA_CFG_PLCA_EN true, by decide +kernel⟩,
   ⟨onDev live fun d => { plcaUp d with t1s := { cueQ := [{ bytes := [1, 2, 3] }], mgmtQ := [{ bytes := [1, 2, 3] }] } }, { bytes := [1, 2, 3] }, [], by decide +kernel⟩,
   ⟨onDev live fun d => { plcaUp d with t1s := { mgmtQ := [{ bytes := [1, 2, 3] }] } }, { bytes := [1, 2, 3] }, [], by decide +kernel⟩,
   ⟨onDev live fun d => { (plcaUp d).put fT1S_PLCA_BURST_MAX_BURST 1 with t1s := { cueQ := [{ bytes := [1, 2, 3] }], burst := 1 } }, { bytes := [1, 2, 3] }, [], by decide +kernel⟩,
   ⟨onDev live fun d => { (plcaUp d).put fT1S_PLCA_BURST_MAX_BURST 1 with t1s := { cueQ := [{ bytes := [1, 2, 3] }], burst := 2 } }, by decide +kernel⟩,
   ⟨onDev live fun d => (plcaUp d).put fT1S_PLCA_CFG_NODE_ID 1, by decide +kernel⟩,
   ⟨onDev live fun d => { t1sUp d with t1s := { tx := some { bytes := [1, 2, 3] }, onWire := true, cols := 14 } }, { bytes := [1, 2, 3] }, false, 0xFFFF, by decide +kernel⟩,
   ⟨onDev live fun d => { plcaUp d with t1s := { tx := some { bytes := [1, 2, 3] }, onWire := true, cols := 15 } }, { bytes := [1, 2, 3] }, true, 0xFFFF, by decide +kernel⟩,
   ⟨onDev live fun d => { t1sUp d with t1s := { tx := some { bytes := [1, 2, 3] }, onWire := true } }, { bytes := [1, 2, 3] }, 0, by decide +kernel⟩,
   ⟨onDev live fun d => { t1sUp d with t1s := { tx := some { bytes := [1, 2, 3], cue := 3 }, onWire := true }, cue := { d.cue with deadlines := [(3, some 0)] } }, ({ bytes := [1, 2, 3], cue := 3 }), true, 0, by decide +kernel⟩,
   ⟨onDev live fun d => { d with t1s := { backoff := some 3 } }, by decide +kernel⟩,
   ⟨onDev live fun d => { t1sUp d with t1s := { cueQ := [{ bytes := [1, 2, 3] }], mgmtQ := [{ bytes := [1, 2, 3] }] } }, { bytes := [1, 2, 3] }, [], by decide +kernel⟩,
   ⟨onDev live fun d => { t1sUp d with t1s := { tx := some { bytes := [1, 2, 3] } } }, { bytes := [1, 2, 3] }, by decide +kernel⟩,
   ⟨onDev live fun d => { t1sUp d with t1s := { tx := some { bytes := [1, 2, 3] }, onWire := true } }, { bytes := [1, 2, 3] }, by decide +kernel⟩⟩

theorem test_witness_CuesAreEnabledAndEdited :
    (∃ (s : State) (p : Port) (v : Word) (b : Nat) (k : Nat),
      s.dev.calm = true ∧ s.dev.takes p rCUE_CFG ∧ s.dev.on fCUE_CFG_EN = false ∧ b = fCUE_CFG_TCMP_BASE.get v ∧ k = fCUE_CFG_TCMP_NUM.get v ∧ 1 ≤ k ∧ k ≤ 8 ∧ b + k ≤ 64 ∧ (∀ t ∈ List.range 64, b ≤ t → t < b + k → s.dev.get (fTIME_TCMPnn_OWNER_OWNER t) = 0 ∧ s.dev.tcmpPrio t = 0) ∧ s.dev.sound = true) ∧
    (∃ (s : State) (p : Port) (v : Word) (b : Nat) (k : Nat),
      s.dev.calm = true ∧ s.dev.takes p rCUE_CFG ∧ s.dev.on fCUE_CFG_EN = false ∧ b = fCUE_CFG_TCMP_BASE.get v ∧ k = fCUE_CFG_TCMP_NUM.get v ∧ (k = 0 ∨ 8 < k ∨ 64 < b + k)) ∧
    (∃ (s : State) (p : Port) (v : Word) (b : Nat) (k : Nat) (t : Nat),
      s.dev.calm = true ∧ s.dev.takes p rCUE_CFG ∧ s.dev.on fCUE_CFG_EN = false ∧ b = fCUE_CFG_TCMP_BASE.get v ∧ k = fCUE_CFG_TCMP_NUM.get v ∧ 1 ≤ k ∧ k ≤ 8 ∧ b + k ≤ 64 ∧ b ≤ t ∧ t < b + k ∧ s.dev.get (fTIME_TCMPnn_OWNER_OWNER t) ≠ 0 ∧ s.dev.get (fTIME_TCMPnn_OWNER_OWNER t) ≠ 0x20) ∧
    (∃ (s : State) (p : Port) (_ : Word),
      s.dev.calm = true ∧ s.dev.takes p rCUE_CFG ∧ s.dev.on fCUE_CFG_EN = true) ∧
    (∃ (s : State) (p : Port) (v : Word) (c : Nat),
      s.dev.calm = true ∧ s.dev.takes p rCUE_TBL_CMD ∧ c = fCUE_TBL_CMD_CUE.get v ∧ s.dev.integ.dead = [] ∧ s.dev.integ.stuck = [] ∧ s.dev.injDue 3 = false) ∧
    (∃ (s : State) (p : Port) (v : Word) (c : Nat),
      s.dev.calm = true ∧ s.dev.takes p rCUE_TBL_CMD ∧ c = fCUE_TBL_CMD_CUE.get v) ∧
    (∃ (s : State) (p : Port) (v : Word) (c : Nat),
      s.dev.calm = true ∧ s.dev.takes p rCUE_TBL_CMD ∧ c = fCUE_TBL_CMD_CUE.get v ∧ s.dev.sound = true) ∧
    (∃ (s : State) (p : Port) (v : Word) (c : Nat),
      s.dev.calm = true ∧ s.dev.takes p rCUE_TBL_CMD ∧ c = fCUE_TBL_CMD_CUE.get v) :=
  ⟨⟨onDev live fun d => { d with tbl := writeWord64 (writeWord64 d.tbl (cueBase 4095) 0x8100000000000000) (cueBase 4095 + 8) 5000 }, .spi, 0x00000838#32, 56, 8, by decide +kernel⟩,
   ⟨live, .spi, 0x00000839#32, 57, 8, by decide +kernel⟩,
   ⟨onDev live fun d => d.put (fTIME_TCMPnn_OWNER_OWNER 63) 0x40, .spi, 0x00000838#32, 56, 8, 63, by decide +kernel⟩,
   ⟨onDev live fun d => { cueUp d with t1s := { cueQ := [{ bytes := [1, 2, 3] }] } }, .spi, 0#32, by decide +kernel⟩,
   ⟨onDev live fun d => (cueUp d).setReg (rCUE_TBL_DATAk 1) 0x81000000, .spi, 0x00000FFF#32, 4095, by decide +kernel⟩,
   ⟨onDev live cueUp, .spi, 0x00000FFF#32, 4095, by decide +kernel⟩,
   ⟨onDev live cueUp, .spi, 5#32, 5, by decide +kernel⟩,
   ⟨onDev live cueUp, .spi, 5#32, 5, by decide +kernel⟩⟩

theorem test_witness_CuesAreTriggeredAndFire :
    (∃ (s : State) (t : Nat) (c : Nat) (l : List CueTrig),
      s.dev.calm = true ∧ s.dev.cueOn = true ∧ s.dev.sound = true ∧ c < 4096 ∧ s.dev.cue.trigs = .event t :: l ∧ s.dev.cueHas c 2 = true ∧ s.dev.cueParam c % 256 = t ∧ (s.dev.cueSt c).state = 0 ∧ s.dev.domOn 1 = true) ∧
    (∃ (s : State) (c : Nat) (l : List CueTrig),
      s.dev.calm = true ∧ s.dev.cueOn = true ∧ s.dev.sound = true ∧ c < 4096 ∧ s.dev.cue.trigs = .cue c :: l ∧ s.dev.cueHas c 4 = true ∧ (s.dev.cueSt c).state ≠ 0 ∧ s.dev.domOn 1 = true) ∧
    (∃ (s : State) (k : Fin 16) (b : Bool) (c : Nat),
      s.dev.calm = true ∧ s.dev.cueOn = true ∧ s.dev.sound = true ∧ c < 4096 ∧ s.dev.pinDir k.val = 2 ∧ (s.dev.cueIn.toNat / 2 ^ k.val % 2 == 1) = !b ∧ s.dev.cueHas c 3 = true ∧ s.dev.cueParam c % 16 = k.val ∧ (s.dev.cueParam c / 256 / (if b then 1 else 2) % 2 = 1) ∧ (s.dev.cueSt c).state = 0) ∧
    (∃ (s : State) (k : Fin 16) (_ : Bool),
      s.dev.calm = true ∧ s.dev.pinDir k.val ≠ 2) ∧
    (∃ (s : State) (p : Port) (v : Word) (c : Nat),
      s.dev.calm = true ∧ s.dev.takes p rCUE_GO ∧ s.dev.cueOn = true ∧ s.dev.sound = true ∧ c = fCUE_GO_CUE.get v ∧ s.dev.cueHas c 5 = true ∧ (s.dev.cueSt c).state = 0) ∧
    (∃ (s : State) (p : Port) (v : Word) (c : Nat),
      s.dev.calm = true ∧ s.dev.takes p rCUE_GO ∧ s.dev.cueOn = true ∧ s.dev.sound = true ∧ c = fCUE_GO_CUE.get v ∧ s.dev.cueHas c 5 = true ∧ (s.dev.cueSt c).state ≠ 0) ∧
    (∃ (s : State) (c : Nat) (w : Nat),
      s.dev.calm = true ∧ s.dev.cueOn = true ∧ s.dev.sound = true ∧ c < 4096 ∧ 0 ≤ sdiff64 s.dev.ft64 (s.dev.cueSt c).due ∧ s.dev.cuesPending = [(c, s.dev.cueSt c)] ∧ (s.dev.cueWindow c = 0 ∨ sdiff64 s.dev.ft64 (s.dev.cueSt c).due ≤ s.dev.cueWindow c * 1000) ∧ (∀ i ∈ [4, 5, 6, 7], s.dev.cueWord c i = 0) ∧ w = s.dev.cueWord c 3 ∧ w / 2 ^ 60 = 3 ∧ (∀ i ∈ List.range 16, w / 2 ^ (16 + i) % 2 = 1 → s.dev.pinDir i = 1) ∧ s.dev.domOn 1 = true) ∧
    (∃ (s : State) (c : Nat) (w : Nat),
      s.dev.calm = true ∧ s.dev.cueOn = true ∧ s.dev.sound = true ∧ c < 4096 ∧ 0 ≤ sdiff64 s.dev.ft64 (s.dev.cueSt c).due ∧ s.dev.cuesPending = [(c, s.dev.cueSt c)] ∧ (s.dev.cueWindow c = 0 ∨ sdiff64 s.dev.ft64 (s.dev.cueSt c).due ≤ s.dev.cueWindow c * 1000) ∧ (∀ i ∈ [4, 5, 6, 7], s.dev.cueWord c i = 0) ∧ w = s.dev.cueWord c 3 ∧ w / 2 ^ 60 = 4 ∧ s.dev.domOn 1 = true) ∧
    (∃ (s : State) (c : Nat) (w : Nat),
      s.dev.calm = true ∧ s.dev.cueOn = true ∧ s.dev.sound = true ∧ c < 4096 ∧ 0 ≤ sdiff64 s.dev.ft64 (s.dev.cueSt c).due ∧ s.dev.cuesPending = [(c, s.dev.cueSt c)] ∧ (s.dev.cueWindow c = 0 ∨ sdiff64 s.dev.ft64 (s.dev.cueSt c).due ≤ s.dev.cueWindow c * 1000) ∧ (∀ i ∈ [4, 5, 6, 7], s.dev.cueWord c i = 0) ∧ w = s.dev.cueWord c 3 ∧ w / 2 ^ 60 = 2 ∧ w / 2 ^ 48 % 4 = 0 ∧ s.dev.on (fCUE_DMXp_CFG_EN (w / 2 ^ 40 % 4)) = true ∧ s.dev.domOn 1 = true) ∧
    (∃ (s : State) (c : Nat) (w : Nat),
      s.dev.calm = true ∧ s.dev.cueOn = true ∧ s.dev.sound = true ∧ c < 4096 ∧ 0 ≤ sdiff64 s.dev.ft64 (s.dev.cueSt c).due ∧ s.dev.cuesPending = [(c, s.dev.cueSt c)] ∧ (s.dev.cueWindow c = 0 ∨ sdiff64 s.dev.ft64 (s.dev.cueSt c).due ≤ s.dev.cueWindow c * 1000) ∧ (∀ i ∈ [4, 5, 6, 7], s.dev.cueWord c i = 0) ∧ w = s.dev.cueWord c 3 ∧ 8 ≤ w / 2 ^ 60 ∧ w / 2 ^ 60 < 16 ∧ s.dev.domOn 1 = true) ∧
    (∃ (s : State) (c : Nat),
      s.dev.calm = true ∧ s.dev.cueOn = true ∧ s.dev.sound = true ∧ c < 4096 ∧ 0 ≤ sdiff64 s.dev.ft64 (s.dev.cueSt c).due ∧ s.dev.cuesPending = [(c, s.dev.cueSt c)] ∧ s.dev.cueWindow c ≠ 0 ∧ s.dev.cueWindow c * 1000 < sdiff64 s.dev.ft64 (s.dev.cueSt c).due ∧ s.dev.domOn 1 = true) ∧
    (∃ (s : State) (c : Nat),
      s.dev.calm = true ∧ s.dev.cueOn = true ∧ c < 4096 ∧ 0 ≤ sdiff64 s.dev.ft64 (s.dev.cueSt c).due ∧ s.dev.cuesPending = [(c, s.dev.cueSt c)] ∧ s.dev.cueBad c = true ∧ s.dev.domOn 1 = true) ∧
    (∃ (s : State) (n : Nat),
      s.dev.calm = true ∧ s.dev.domOn 13 = true ∧ s.dev.cueFramePast n = true ∧ (s.dev.t1s.cueQ.any (fun f => f.cue == n) = true) ∧ n ≠ 0 ∧ s.dev.domOn 1 = true) ∧
    (∃ (s : State) (n : Nat),
      s.dev.calm = true ∧ s.dev.cueFramePast n = false ∧ s.dev.domOn 1 = true) :=
  ⟨⟨onDev live fun d => { cueUp d with tbl := writeWord64 d.tbl (cueBase 4095) 0x8200000000000003, cue := { d.cue with trigs := [.event 3] } }, 3, 4095, [], by decide +kernel⟩,
   ⟨onDev live fun d => ({ cueUp d with tbl := writeWord64 d.tbl (cueBase 4095) 0x8400000000000003, cue := { d.cue with trigs := [.cue 4095] } } : Dev).setCue 4095 { state := 2 }, 4095, [], by decide +kernel⟩,
   ⟨onDev live fun d => { (cueUp d).put ⟨rPIN_CUE_CFG, 30, 2⟩ 2 with tbl := writeWord64 d.tbl (cueBase 4095) 0x830000000000010F }, 15, true, 4095, by decide +kernel⟩,
   ⟨live, 15, true, by decide +kernel⟩,
   ⟨onDev live fun d => { cueUp d with tbl := writeWord64 d.tbl (cueBase 4095) 0x8500000000000000 }, .spi, 4095#32, 4095, by decide +kernel⟩,
   ⟨onDev live fun d => ({ cueUp d with tbl := writeWord64 d.tbl (cueBase 4095) 0x8500000000000000 } : Dev).setCue 4095 { state := 2 }, .spi, 4095#32, 4095, by decide +kernel⟩,
   ⟨onDev live fun d => dueCue 5 0x3000000080008000 ((cueUp d).put ⟨rPIN_CUE_CFG, 30, 2⟩ 1), 5, 0x3000000080008000, by decide +kernel⟩,
   ⟨onDev live fun d => dueCue 5 0x4000000000000001 ((cueUp d)), 5, 0x4000000000000001, by decide +kernel⟩,
   ⟨onDev live fun d => dueCue 5 0x2000030700000000 ((cueUp d).putB (fCUE_DMXp_CFG_EN 3) true), 5, 0x2000030700000000, by decide +kernel⟩,
   ⟨onDev live fun d => dueCue 5 0xF000000000000000 ((cueUp d)), 5, 0xF000000000000000, by decide +kernel⟩,
   ⟨onDev live fun d => let d := dueCue 5 0 (cueUp d); { d with tbl := writeWord64 d.tbl (cueBase 5 + 16) (2 ^ 44), time := { d.time with ns := 1101 } }, 5, by decide +kernel⟩,
   ⟨onDev live fun d => { (dueCue 5 0 (cueUp d)) with poison := [(8388608 * 3 + cueBase 5 / 8, true)] }, 5, by decide +kernel⟩,
   ⟨onDev live fun d => { d with t1s := { cueQ := [{ bytes := [1], cue := 3 }] }, cue := { d.cue with deadlines := [(3, some 0)] } }, 3, by decide +kernel⟩,
   ⟨live, 3, by decide +kernel⟩⟩

theorem test_witness_PinsDmxAndE131 :
    (∃ (s : State) (p : Port) (_ : Word),
      s.dev.calm = true ∧ s.dev.takes p rPIN_CUE_CFG ∧ (∀ g ∈ List.range 8, s.dev.get (fPIN_GRPnn_OWNER_OWNER g) = 0 ∧ s.dev.grpPrio g = 0)) ∧
    (∃ (s : State) (p : Port) (v : Word) (g : Nat),
      s.dev.calm = true ∧ s.dev.takes p rPIN_CUE_CFG ∧ g < 8 ∧ s.dev.get (fPIN_GRPnn_OWNER_OWNER g) = 1 ∧ (v.toNat / 4 ^ (8 + g) % 4 = 1 ∨ v.toNat / 4 ^ (8 + g) % 4 = 2)) ∧
    (∃ (s : State) (q : Fin 4) (p : Port) (v : Word),
      s.dev.calm = true ∧ s.dev.takes p (rCUE_DMXp_CFG q.val) ∧ s.dev.on (fCUE_DMXp_CFG_EN q.val) = false ∧ (fCUE_DMXp_CFG_EN q.val).get v = 1 ∧ s.dev.get (fPIN_GRPnn_OWNER_OWNER (8 + q.val)) = 0 ∧ s.dev.grpPrio (8 + q.val) = 0) ∧
    (∃ (s : State) (q : Fin 4) (p : Port) (v : Word),
      s.dev.calm = true ∧ s.dev.takes p (rCUE_DMXp_CFG q.val) ∧ s.dev.on (fCUE_DMXp_CFG_EN q.val) = false ∧ (fCUE_DMXp_CFG_EN q.val).get v = 1 ∧ s.dev.get (fPIN_GRPnn_OWNER_OWNER (8 + q.val)) = 1) ∧
    (∃ (s : State) (q : Fin 4) (p : Port) (v : Word),
      s.dev.calm = true ∧ s.dev.takes p (rCUE_DMXp_CFG q.val) ∧ s.dev.on (fCUE_DMXp_CFG_EN q.val) = true ∧ (fCUE_DMXp_CFG_EN q.val).get v = 0 ∧ s.dev.get (fPIN_GRPnn_OWNER_OWNER (8 + q.val)) = 2 ∧ (s.dev.dmx q.val).busy = false) ∧
    (∃ (s : State) (q : Fin 4) (p : Port) (v : Word),
      s.dev.calm = true ∧ s.dev.takes p (rCUE_DMXp_CFG q.val) ∧ s.dev.on (fCUE_DMXp_CFG_EN q.val) = true ∧ (fCUE_DMXp_CFG_EN q.val).get v = 0 ∧ (s.dev.dmx q.val).busy = true) ∧
    (∃ (s : State) (q : Fin 4),
      s.dev.calm = true ∧ (s.dev.dmx q.val).run = true ∧ s.dev.on (fCUE_DMXp_CFG_EN q.val) = true ∧ s.dev.haloFront = true ∧ s.dev.domOn 1 = true) ∧
    (∃ (s : State) (q : Fin 4),
      s.dev.calm = true ∧ ((s.dev.dmx q.val).run = false ∨ s.dev.haloFront = false) ∧ s.dev.on (fCUE_DMXp_CFG_EN q.val) = true ∧ s.dev.domOn 1 = true) ∧
    (∃ (s : State) (q : Fin 4),
      s.dev.calm = true ∧ s.dev.on (fCUE_DMXp_CFG_EN q.val) = false ∧ s.dev.get (fPIN_GRPnn_OWNER_OWNER (8 + q.val)) = 2 ∧ s.dev.domOn 1 = true) ∧
    (∃ (s : State) (h : Handed) (k : E131Pkt) (b : Nat),
      s.dev.calm = true ∧ (s.dev.handed.find? (fun x => x.sink == .e131) = some h) ∧ e131Packet h.bytes = some k ∧ k.valid = true ∧ s.dev.e131Bufs k.universe_ = [b] ∧ (s.dev.e131Of b).hold = false ∧ (s.dev.e131Of b).seq = none ∧ s.dev.domOn 1 = true) ∧
    (∃ (s : State) (h : Handed) (k : E131Pkt) (b : Nat),
      s.dev.calm = true ∧ (s.dev.handed.find? (fun x => x.sink == .e131) = some h) ∧ e131Packet h.bytes = some k ∧ k.valid = true ∧ s.dev.e131Bufs k.universe_ = [b] ∧ (s.dev.e131Of b).hold = true ∧ s.dev.mono - (s.dev.e131Of b).at_ ≤ 2500000000 * 65536 ∧ k.prio < (s.dev.e131Of b).prio ∧ s.dev.domOn 1 = true) :=
  ⟨⟨live, .spi, 0xE4E4E4E4#32, by decide +kernel⟩,
   ⟨onDev live fun d => d.put (fPIN_GRPnn_OWNER_OWNER 7) 1, .spi, 0x80000000#32, 7, by decide +kernel⟩,
   ⟨live, 3, .spi, 0x82000060#32, by decide +kernel⟩,
   ⟨onDev live fun d => d.put (fPIN_GRPnn_OWNER_OWNER 11) 1, 3, .spi, 0x82000060#32, by decide +kernel⟩,
   ⟨onDev live fun d => ((d.put (fPIN_GRPnn_OWNER_OWNER 11) 2).putB (fCUE_DMXp_CFG_EN 3) true).setDmx 3 { run := true }, 3, .spi, 0#32, by decide +kernel⟩,
   ⟨onDev live fun d => ((d.put (fPIN_GRPnn_OWNER_OWNER 11) 2).putB (fCUE_DMXp_CFG_EN 3) true).setDmx 3 { run := true, busy := true }, 3, .spi, 0#32, by decide +kernel⟩,
   ⟨onDev live fun d => ((d.putB (fCUE_DMXp_CFG_EN 3) true).setReg (rCUE_BUFb_DATA 7 0) 0x00FF1122).setDmx 3 { run := true, buf := 7 }, 3, by decide +kernel⟩,
   ⟨onDev live fun d => (d.putB (fCUE_DMXp_CFG_EN 3) true).setDmx 3 { busy := true }, 3, by decide +kernel⟩,
   ⟨onDev live fun d => (d.put (fPIN_GRPnn_OWNER_OWNER 11) 2).setDmx 3 { busy := true }, 3, by decide +kernel⟩,
   ⟨onDev live fun d => { d.put (fCUE_BUFb_CFG_UNIV 7) 9 with handed := [{ sink := .e131, port := 4, bytes := e131Bytes }] }, ({ sink := .e131, port := 4, bytes := e131Bytes }), ((e131Packet e131Bytes).getD { valid := false, prio := 0, seq := 0, terminated := true, universe_ := 0, values := [] }), 7, by decide +kernel⟩,
   ⟨onDev live fun d => { d.put (fCUE_BUFb_CFG_UNIV 7) 9 with handed := [{ sink := .e131, port := 4, bytes := e131Bytes }], cue := { d.cue with e131 := [(7, { hold := true, prio := 101, at_ := 0 })] } }, ({ sink := .e131, port := 4, bytes := e131Bytes }), ((e131Packet e131Bytes).getD { valid := false, prio := 0, seq := 0, terminated := true, universe_ := 0, values := [] }), 7, by decide +kernel⟩⟩

theorem test_witness_TimecodeOutAndIn :
    (∃ (s : State),
      s.dev.calm = true ∧ s.dev.cue.ltc.start = true ∧ s.dev.haloFront = true ∧ s.dev.domOn 1 = true) ∧
    (∃ (s : State),
      s.dev.calm = true ∧ (s.dev.cue.ltc.start = false ∨ s.dev.haloFront = false) ∧ s.dev.domOn 1 = true) ∧
    (∃ (s : State) (rate : Nat) (_ : Nat) (_ : Nat) (_ : Nat) (_ : Nat) (_ : Word) (b : Bool),
      s.dev.calm = true ∧ (s.dev.on fCUE_STS_LTC_LOCK = true ∨ s.dev.cue.ltc.good < 3 ∨ s.dev.cue.ltc.rate ≠ rate ∨ b = true) ∧ s.dev.domOn 1 = true) ∧
    (∃ (s : State) (rate : Nat) (_ : Nat) (_ : Nat) (_ : Nat) (_ : Nat) (_ : Word),
      s.dev.calm = true ∧ s.dev.on fCUE_STS_LTC_LOCK = false ∧ 3 ≤ s.dev.cue.ltc.good ∧ s.dev.cue.ltc.rate = rate ∧ s.dev.domOn 1 = true) ∧
    (∃ (s : State),
      s.dev.calm = true ∧ s.dev.on fCUE_STS_LTC_LOCK = true ∧ s.dev.domOn 1 = true) ∧
    (∃ (s : State),
      s.dev.calm = true ∧ s.dev.on fCUE_STS_LTC_LOCK = false ∧ s.dev.domOn 1 = true) :=
  ⟨⟨onDev live fun d => { d with cue := { d.cue with ltc := { d.cue.ltc with start := true } }, time := { d.time with sec := 3599 } }, by decide +kernel⟩,
   ⟨live, by decide +kernel⟩,
   ⟨live, 1, 23, 59, 58, 24, 0x12345678, false, by decide +kernel⟩,
   ⟨onDev live fun d => { d with cue := { d.cue with ltc := { d.cue.ltc with good := 3, rate := 1 } } }, 1, 23, 59, 58, 24, 0x12345678, by decide +kernel⟩,
   ⟨onDev live fun d => d.putB fCUE_STS_LTC_LOCK true, by decide +kernel⟩,
   ⟨live, by decide +kernel⟩⟩

theorem test_witness_HaloEnablesAndDetaches :
    (∃ (s : State) (p : Port) (v : Word),
      s.dev.calm = true ∧ s.dev.refDown 2 = false ∧ s.dev.takes p rHALO_CFG ∧ s.dev.on fHALO_CFG_EN = false ∧ (s.dev.stored rHALO_CFG (fHALO_CFG_EN.put v 1)).haloCheck = 0) ∧
    (∃ (s : State) (p : Port) (v : Word),
      s.dev.calm = true ∧ s.dev.takes p rHALO_CFG ∧ s.dev.on fHALO_CFG_EN = false ∧ (s.dev.stored rHALO_CFG (fHALO_CFG_EN.put v 1)).haloCheck ≠ 0) ∧
    (∃ (s : State) (p : Port) (_ : Word),
      (s.dev.put fHALO_STS_STATE 0).calm = true ∧ s.dev.refDown 2 = false ∧ s.dev.haloState = 3 ∧ s.dev.takes p rHALO_CFG ∧ s.dev.on fHALO_CFG_EN = true ∧ s.dev.halo.act = true) ∧
    (∃ (s : State) (p : Port) (_ : Word),
      (s.dev.put fHALO_STS_STATE 0).calm = true ∧ s.dev.refDown 2 = false ∧ (s.dev.haloState = 1 ∨ s.dev.haloState = 2) ∧ s.dev.takes p rHALO_CFG ∧ s.dev.on fHALO_CFG_EN = true) ∧
    (∃ (s : State),
      (s.dev.put fHALO_STS_STATE 0).calm = true ∧ s.dev.refDown 2 = false ∧ s.dev.haloState = 4 ∧ s.dev.halo.act = true ∧ s.dev.halo.byEn = true ∧ s.dev.domOn 1 = true) ∧
    (∃ (s : State),
      (s.dev.put fHALO_STS_STATE 0).calm = true ∧ s.dev.refDown 2 = false ∧ s.dev.haloState = 4 ∧ s.dev.halo.act = true ∧ s.dev.halo.byEn = false ∧ s.dev.domOn 1 = true) ∧
    (∃ (s : State) (p : Port) (_ : Word),
      s.dev.calm = true ∧ s.dev.takes p rHALO_ROLE_CFG) :=
  ⟨⟨onDev live fun d => ((d.putB fMIO_CFG_EN true).put fMIO_FNID_CFG_PAIR_FNID 4094), .spi, 0xFFFFFFFF#32, by decide +kernel⟩,
   ⟨live, .spi, 0#32, by decide +kernel⟩,
   ⟨onDev live fun d => (haloUp 3 d), .spi, 0#32, by decide +kernel⟩,
   ⟨onDev live fun d => (haloUp 2 d), .spi, 0#32, by decide +kernel⟩,
   ⟨onDev live fun d => (haloUp 4 d) |> fun d => { d with halo := { d.halo with act := true, byEn := true } }, by decide +kernel⟩,
   ⟨onDev live fun d => (haloUp 4 d) |> fun d => { d with halo := { d.halo with act := true } }, by decide +kernel⟩,
   ⟨live, .spi, 3#32, by decide +kernel⟩⟩

theorem test_witness_HaloHearsItsPartner :
    (∃ (s : State),
      (s.dev.put fHALO_STS_STATE 0).calm = true ∧ s.dev.refDown 2 = false ∧ s.dev.haloBeats = true ∧ s.dev.domOn 1 = true) ∧
    (∃ (s : State) (w : Nat),
      (s.dev.put fHALO_STS_STATE 0).calm = true ∧ s.dev.refDown 2 = false ∧ s.dev.on fHALO_CFG_EN = true ∧ wireBeat w = none ∧ s.dev.domOn 1 = true) ∧
    (∃ (s : State) (w : Nat) (b : Beat),
      (s.dev.put fHALO_STS_STATE 0).calm = true ∧ s.dev.refDown 2 = false ∧ s.dev.haloState = 1 ∧ s.dev.on fHALO_CFG_EN = true ∧ wireBeat w = some b ∧ b.state = 3 ∧ s.dev.domOn 1 = true) ∧
    (∃ (s : State) (w : Nat) (b : Beat),
      (s.dev.put fHALO_STS_STATE 0).calm = true ∧ s.dev.refDown 2 = false ∧ s.dev.haloState = 2 ∧ s.dev.on fHALO_CFG_EN = true ∧ wireBeat w = some b ∧ b.req = true ∧ b.detach = false ∧ s.dev.haloFit = true ∧ s.dev.haloReady = true ∧ s.dev.halo.act = false ∧ s.dev.domOn 1 = true) ∧
    (∃ (s : State) (w : Nat) (b : Beat),
      (s.dev.put fHALO_STS_STATE 0).calm = true ∧ s.dev.refDown 2 = false ∧ s.dev.haloState = 3 ∧ s.dev.on fHALO_CFG_EN = true ∧ wireBeat w = some b ∧ b.state = 3 ∧ s.dev.on fHALO_STS_REQ_PEND = true ∧ b.req = false ∧ s.dev.domOn 1 = true) ∧
    (∃ (s : State) (w : Nat) (b : Beat),
      (s.dev.put fHALO_STS_STATE 0).calm = true ∧ s.dev.refDown 2 = false ∧ s.dev.haloState = 3 ∧ s.dev.on fHALO_CFG_EN = true ∧ wireBeat w = some b ∧ b.state = 3 ∧ s.dev.on fHALO_STS_REQ_PEND = b.req ∧ s.dev.haloPrimary = true ∧ s.dev.domOn 1 = true) ∧
    (∃ (s : State) (h : Handed),
      (s.dev.put fHALO_STS_STATE 0).calm = true ∧ s.dev.refDown 2 = false ∧ s.dev.on fHALO_CFG_EN = true ∧ (s.dev.handed.find? (fun x => x.sink == .heartbeat) = some h) ∧ s.dev.get fHALO_CFG_HB_PORTS / 2 ^ h.port.val % 2 = 1 ∧ (∀ q ∈ List.range 4, s.dev.macAddr q ≠ srcOf h.bytes) ∧ beAt (h.bytes.drop (etherOff h.bytes + 2)) 2 2 % 4096 ≠ s.dev.pairFnid ∧ s.dev.domOn 1 = true) ∧
    (∃ (s : State) (h : Handed),
      (s.dev.put fHALO_STS_STATE 0).calm = true ∧ s.dev.refDown 2 = false ∧ s.dev.haloState = 2 ∧ s.dev.on fHALO_CFG_EN = true ∧ (s.dev.handed.find? (fun x => x.sink == .heartbeat) = some h) ∧ s.dev.get fHALO_CFG_HB_PORTS / 2 ^ h.port.val % 2 = 1 ∧ (∀ q ∈ List.range 4, s.dev.macAddr q ≠ srcOf h.bytes) ∧ beAt (h.bytes.drop (etherOff h.bytes + 2)) 2 2 % 4096 = s.dev.pairFnid ∧ beAt (h.bytes.drop (etherOff h.bytes + 2)) 0 1 = 2 ∧ beAt (h.bytes.drop (etherOff h.bytes + 2)) 1 1 = 1 ∧ beAt (h.bytes.drop (etherOff h.bytes + 2)) 5 1 / 16 % 4 = 0 ∧ s.dev.domOn 1 = true) ∧
    (∃ (s : State),
      (s.dev.put fHALO_STS_STATE 0).calm = true ∧ s.dev.refDown 2 = false ∧ s.dev.haloState = 2 ∧ s.dev.on fHALO_CFG_EN = true ∧ s.dev.on fHALO_STS_PARTNER_OK = true ∧ s.dev.halo.act = false ∧ s.dev.domOn 1 = true) ∧
    (∃ (s : State),
      (s.dev.put fHALO_STS_STATE 0).calm = true ∧ s.dev.refDown 2 = false ∧ s.dev.on fHALO_CFG_EN = true ∧ s.dev.on fHALO_STS_NET_OK = true ∧ s.dev.domOn 1 = true) ∧
    (∃ (s : State),
      (s.dev.put fHALO_STS_STATE 0).calm = true ∧ s.dev.refDown 2 = false ∧ s.dev.haloState = 2 ∧ s.dev.on fHALO_CFG_EN = true ∧ s.dev.on fHALO_STS_NET_OK = false ∧ s.dev.on fHALO_STS_PARTNER_OK = true ∧ s.dev.domOn 1 = true) ∧
    (∃ (s : State),
      (s.dev.put fHALO_STS_STATE 0).calm = true ∧ s.dev.refDown 2 = false ∧ s.dev.haloState = 1 ∧ s.dev.domOn 1 = true) ∧
    (∃ (s : State) (_ : Bool),
      s.dev.calm = true) :=
  ⟨⟨onDev live fun d => (haloUp 3 d).putB fHALO_STS_REQ_PEND true, by decide +kernel⟩,
   ⟨onDev live fun d => (haloUp 2 d), 26, by decide +kernel⟩,
   ⟨onDev live fun d => (haloUp 1 d), 75, { state := 3, req := false, detach := false, flags := none }, by decide +kernel⟩,
   ⟨onDev live fun d => (haloUp 2 d) |> readyUp, 105, { state := 3, req := true, detach := false, flags := none }, by decide +kernel⟩,
   ⟨onDev live fun d => (haloUp 3 d).putB fHALO_STS_REQ_PEND true, 80, { state := 3, req := false, detach := false, flags := none }, by decide +kernel⟩,
   ⟨onDev live fun d => (haloUp 3 d), 85, { state := 3, req := false, detach := false, flags := none }, by decide +kernel⟩,
   ⟨onDev live fun d => (haloUp 2 d) |> fun d => { d with handed := [{ sink := .heartbeat, port := 2, bytes := beatBytes 5 }] }, ({ sink := .heartbeat, port := 2, bytes := beatBytes 5 }), by decide +kernel⟩,
   ⟨onDev live fun d => (haloUp 2 d) |> fun d => { d with handed := [{ sink := .heartbeat, port := 2, bytes := beatBytes 9 }] }, ({ sink := .heartbeat, port := 2, bytes := beatBytes 9 }), by decide +kernel⟩,
   ⟨onDev live fun d => (haloUp 2 d).putB fHALO_STS_PARTNER_OK true, by decide +kernel⟩,
   ⟨onDev live fun d => (haloUp 2 d).putB fHALO_STS_NET_OK true, by decide +kernel⟩,
   ⟨onDev live fun d => (haloUp 2 d).putB fHALO_STS_PARTNER_OK true, by decide +kernel⟩,
   ⟨onDev live fun d => (haloUp 1 d), by decide +kernel⟩,
   ⟨live, true, by decide +kernel⟩⟩

theorem test_witness_HaloChangesOver :
    (∃ (s : State) (p : Port) (_ : Word),
      (s.dev.put fHALO_STS_STATE 0).calm = true ∧ s.dev.refDown 2 = false ∧ s.dev.haloState = 3 ∧ s.dev.takes p rHALO_CMD ∧ s.dev.get fHALO_CMD_OP = 0 ∧ s.dev.on fHALO_STS_REQ_PEND = false) ∧
    (∃ (s : State) (p : Port) (_ : Word),
      (s.dev.put fHALO_STS_STATE 0).calm = true ∧ s.dev.refDown 2 = false ∧ (s.dev.haloState ≠ 3 ∨ s.dev.on fHALO_STS_REQ_PEND = true) ∧ s.dev.takes p rHALO_CMD ∧ s.dev.get fHALO_CMD_OP = 0) ∧
    (∃ (s : State),
      (s.dev.put fHALO_STS_STATE 0).calm = true ∧ s.dev.refDown 2 = false ∧ s.dev.haloState = 3 ∧ s.dev.on fHALO_STS_REQ_PEND = true ∧ s.dev.domOn 1 = true) ∧
    (∃ (s : State) (p : Port) (_ : Word),
      (s.dev.put fHALO_STS_STATE 0).calm = true ∧ s.dev.refDown 2 = false ∧ s.dev.haloState = 2 ∧ s.dev.takes p rHALO_CMD ∧ s.dev.get fHALO_CMD_OP = 0 ∧ s.dev.haloSecondary = false ∧ s.dev.on fHALO_STS_PARTNER_ACT = true ∧ s.dev.haloFit = true ∧ s.dev.haloReady = true) ∧
    (∃ (s : State) (p : Port) (_ : Word),
      (s.dev.put fHALO_STS_STATE 0).calm = true ∧ s.dev.refDown 2 = false ∧ s.dev.takes p rHALO_CMD ∧ s.dev.get fHALO_CMD_OP = 0 ∧ s.dev.haloState = 2 ∧ s.dev.haloSecondary = false ∧ s.dev.on fHALO_STS_PARTNER_ACT = false) ∧
    (∃ (s : State),
      (s.dev.put fHALO_STS_STATE 0).calm = true ∧ s.dev.refDown 2 = false ∧ s.dev.reclaimRuns = true ∧ s.dev.halo.reclaim.isSome = true ∧ s.dev.domOn 1 = true) :=
  ⟨⟨onDev live fun d => (haloUp 3 d), .spi, 0#32, by decide +kernel⟩,
   ⟨onDev live fun d => (haloUp 2 d), .spi, 0#32, by decide +kernel⟩,
   ⟨onDev live fun d => (haloUp 3 d).putB fHALO_STS_REQ_PEND true |> fun d => { d with halo := { d.halo with switch := true } }, by decide +kernel⟩,
   ⟨onDev live fun d => (haloUp 2 d) |> readyUp |>.putB fHALO_STS_PARTNER_ACT true, .spi, 0#32, by decide +kernel⟩,
   ⟨onDev live fun d => (haloUp 2 d), .spi, 0#32, by decide +kernel⟩,
   ⟨onDev live fun d => (haloUp 2 d) |> readyUp |>.puts [(fHALO_STS_PARTNER_ACT, 1), (fHALO_STS_PARTNER_OK, 1), (fHALO_CFG_AUTO_RECLAIM, 1)] |> fun d => { d with halo := { d.halo with reclaim := some 0 } }, by decide +kernel⟩⟩

theorem test_witness_HostQueuesArePoppedAndFlushed :
    (∃ (s : State) (q : Fin 32) (p : Port) (w : HqWord) (t : List HqWord),
      s.dev.calm = true ∧ s.dev.accCheck p (rHQnn_POP q.val) .b32 false = none ∧ (s.dev.hqOf q.val).flushPend = false ∧ (s.dev.hqOf q.val).words = w :: t ∧ t.length < 1024 ∧ w.nbytes ≤ 8) ∧
    (∃ (s : State) (q : Fin 32) (p : Port),
      s.dev.calm = true ∧ s.dev.accCheck p (rHQnn_POP q.val) .b32 false = none ∧ (s.dev.hqOf q.val).flushPend = false ∧ (s.dev.hqOf q.val).words = []) ∧
    (∃ (s : State) (q : Fin 32) (p : Port) (w : HqWord) (r : HqWord) (t : List HqWord),
      s.dev.calm = true ∧ s.dev.accCheck p (rHQnn_POP q.val) .b32 false = none ∧ (s.dev.hqOf q.val).flushPend = false ∧ (s.dev.hqOf q.val).words = w :: t ∧ t.length < 1024 ∧ (s.dev.hqOf q.val).rest = [r]) ∧
    (∃ (s : State) (_ : Fin 32) (_ : Port) (x : PopAt),
      s.dev.calm = true ∧ x.size ≠ .b32 ∧ x.store = false ∧ s.dev.domOn 1 = true) ∧
    (∃ (s : State) (q : Fin 32) (p : Port) (_ : Word) (_ : Meets),
      s.dev.calm = true ∧ s.dev.takes p (rHQnn_CMD q.val) ∧ (s.dev.hqOf q.val).flushPend = false ∧ (s.dev.hqOf q.val).rest = []) ∧
    (∃ (s : State) (q : Fin 32) (p : Port) (_ : Word) (_ : Meets),
      s.dev.calm = true ∧ s.dev.takes p (rHQnn_CMD q.val) ∧ (s.dev.hqOf q.val).flushPend = false ∧ (s.dev.hqOf q.val).rest ≠ []) ∧
    (∃ (s : State) (q : Fin 32),
      s.dev.calm = true ∧ (s.dev.hqOf q.val).flushPend = true ∧ (s.dev.hqOf q.val).words.length + (s.dev.hqOf q.val).rest.length ≤ 1024 ∧ s.dev.domOn 1 = true) ∧
    (∃ (s : State) (q : Fin 32),
      s.dev.calm = true ∧ s.dev.get fHQ_ROUTE_EVT_Q ≠ q.val ∧ s.dev.domOn 1 = true) ∧
    (∃ (s : State) (q : Fin 32) (p : Port) (x : WmWrite),
      s.dev.calm = true ∧ s.dev.takes p (rHQnn_WM q.val) ∧ x.store = false) ∧
    (∃ (s : State) (b : Bool) (p : Port) (_ : Word) (a : Nat) (k : Nat),
      s.dev.calm = true ∧ (a = (if b then rHQ_FC_MAP_H else rHQ_FC_MAP_L)) ∧ (k = (if b then 4 else 0)) ∧ s.dev.takes p a ∧ (∀ g ∈ List.range 4, s.dev.on (fcEn (k + g)) = false ∧ s.dev.get (fPIN_GRPnn_OWNER_OWNER (k + g)) = 0 ∧ s.dev.grpPrio (k + g) = 0)) ∧
    (∃ (s : State) (b : Bool) (p : Port) (v : Word) (a : Nat) (k : Nat) (g : Nat),
      s.dev.calm = true ∧ (a = (if b then rHQ_FC_MAP_H else rHQ_FC_MAP_L)) ∧ (k = (if b then 4 else 0)) ∧ s.dev.takes p a ∧ g < 4 ∧ s.dev.on (fcEn (k + g)) = false ∧ s.dev.get (fPIN_GRPnn_OWNER_OWNER (k + g)) = 2 ∧ (fcEn (k + g)).get v = 1) ∧
    (∃ (s : State) (q : Fin 32) (p : Port) (_ : Word),
      s.dev.calm = true ∧ s.dev.takes p (rHQnn_CFG q.val)) :=
  ⟨⟨onDev live fun d => d.setHq 31 { words := [{ data := 0x1122334455667788, last := true, nbytes := 8 }] }, 31, .spi, { data := 0x1122334455667788, last := true, nbytes := 8 }, [], by decide +kernel⟩,
   ⟨live, 31, .spi, by decide +kernel⟩,
   ⟨onDev live fun d => d.setHq 31 { words := [{ data := 0x1122334455667788, last := true, nbytes := 8 }], rest := [{ data := 0x1122334455667788, last := true, nbytes := 8 }] }, 31, .spi, { data := 0x1122334455667788, last := true, nbytes := 8 }, { data := 0x1122334455667788, last := true, nbytes := 8 }, [], by decide +kernel⟩,
   ⟨live, 31, .spi, { size := .b16 }, by decide +kernel⟩,
   ⟨onDev live fun d => d.setHq 31 { words := [{ data := 0x1122334455667788, last := true, nbytes := 8 }], wp := 1 }, 31, .spi, 0#32, {}, by decide +kernel⟩,
   ⟨onDev live fun d => d.setHq 31 { words := [{ data := 0x1122334455667788, last := true, nbytes := 8 }], wp := 1, rest := [{ data := 0x1122334455667788, last := true, nbytes := 8 }] }, 31, .spi, 0#32, {}, by decide +kernel⟩,
   ⟨onDev live fun d => d.setHq 31 { words := [{ data := 0x1122334455667788, last := true, nbytes := 8 }], wp := 1, rest := [{ data := 0x1122334455667788, last := true, nbytes := 8 }], flushPend := true }, 31, by decide +kernel⟩,
   ⟨onDev live fun d => d.setHq 31 { words := [{ data := 0x1122334455667788, last := true, nbytes := 8 }], wp := 1, rest := [{ data := 0x1122334455667788, last := true, nbytes := 8 }] }, 31, by decide +kernel⟩,
   ⟨live, 31, .spi, { word := 0x04000001#32, store := false }, by decide +kernel⟩,
   ⟨live, true, .spi, 0x80818283#32, rHQ_FC_MAP_H, 4, by decide +kernel⟩,
   ⟨onDev live fun d => d.put (fPIN_GRPnn_OWNER_OWNER 7) 2, true, .spi, 0x80818283#32, rHQ_FC_MAP_H, 4, 3, by decide +kernel⟩,
   ⟨live, 31, .spi, 0x701#32, by decide +kernel⟩⟩

theorem test_witness_HostPortsReadAndWrite :
    (∃ (s : State) (_ : Meets) (x : SpiXact) (k : Nat),
      s.dev.calm = true ∧ s.dev.domOn 1 = true ∧ s.dev.boot.lc ≠ 3 ∧ s.dev.boot.changing = false ∧ x.op = 0 ∧ x.addr.toNat = rCUE_TBL_DATAk k ∧ x.count + 1 = x.data.length ∧ k + x.data.length ≤ 16) ∧
    (∃ (s : State) (_ : Meets) (x : SpiXact) (k : Nat),
      s.dev.calm = true ∧ s.dev.domOn 1 = true ∧ s.dev.boot.lc ≠ 3 ∧ s.dev.boot.changing = false ∧ x.op = 0x80 ∧ x.late = none ∧ x.addr.toNat = rCUE_TBL_DATAk k ∧ k + x.count < 16) ∧
    (∃ (s : State) (_ : Meets) (x : SpiXact),
      s.dev.calm = true ∧ s.dev.domOn 1 = true ∧ spiGood x.op = false) ∧
    (∃ (s : State) (_ : Meets) (x : SpiXact) (c : Nat) (v : Word) (l : List Word),
      s.dev.calm = true ∧ s.dev.domOn 1 = true ∧ x.op = 0 ∧ x.data = v :: l ∧ s.dev.accCheck .spi x.addr.toNat .b32 true = some c) ∧
    (∃ (s : State) (_ : Meets) (x : SpiXact) (k : Nat) (n : Nat),
      s.dev.calm = true ∧ s.dev.domOn 1 = true ∧ s.dev.boot.lc ≠ 3 ∧ s.dev.boot.changing = false ∧ x.op = 0 ∧ x.addr.toNat = rCUE_TBL_DATAk k ∧ x.count + 1 = x.data.length ∧ 5 ≤ n ∧ (n - 5) / 4 < x.data.length ∧ k + x.data.length ≤ 16) ∧
    (∃ (s : State) (_ : Meets) (a : CmpAddr) (ws : List Word) (k : Nat),
      s.dev.calm = true ∧ s.dev.domOn 1 = true ∧ s.dev.boot.lc ≠ 3 ∧ s.dev.boot.changing = false ∧ s.dev.cmpMine a.dev = true ∧ a.addr.toNat = rCUE_TBL_DATAk k ∧ ws ≠ [] ∧ k + ws.length ≤ 16) ∧
    (∃ (s : State) (_ : Meets) (a : CmpAddr) (n : Nat) (k : Nat),
      s.dev.calm = true ∧ s.dev.domOn 1 = true ∧ s.dev.boot.lc ≠ 3 ∧ s.dev.boot.changing = false ∧ s.dev.cmpMine a.dev = true ∧ a.addr.toNat = rCUE_TBL_DATAk k ∧ 1 ≤ n ∧ k + n ≤ 16) ∧
    (∃ (s : State) (_ : Meets) (a : CmpAddr) (n : Nat) (c : Nat),
      s.dev.calm = true ∧ s.dev.domOn 1 = true ∧ 1 ≤ n ∧ s.dev.cmpMine a.dev = true ∧ s.dev.accCheck .cmp a.addr.toNat .b32 false = some c) ∧
    (∃ (s : State) (_ : Meets) (a : CmpAddr) (ws : List Word) (k : Nat),
      s.dev.calm = true ∧ s.dev.domOn 1 = true ∧ s.dev.boot.lc ≠ 3 ∧ s.dev.boot.changing = false ∧ s.dev.cmpMine a.dev = true ∧ a.addr.toNat = rCUE_TBL_DATAk k ∧ k + ws.length ≤ 16) ∧
    (∃ (s : State) (_ : Meets) (a : CmpAddr) (_ : List Word),
      s.dev.calm = true ∧ s.dev.domOn 1 = true ∧ s.dev.cmpMine a.dev = false) :=
  ⟨⟨live, {}, { op := 0, addr := BitVec.ofNat 24 (rCUE_TBL_DATAk 14), count := 1, data := [7, 0xFFFFFFFF], late := none }, 14, by decide +kernel⟩,
   ⟨onDev live fun d => d.setReg (rCUE_TBL_DATAk 15) 0xFFFFFFFF, {}, { op := 0x80, addr := BitVec.ofNat 24 (rCUE_TBL_DATAk 14), count := 1, data := [], late := none }, 14, by decide +kernel⟩,
   ⟨live, {}, { op := 1, addr := 0, count := 0, data := [5], late := none }, by decide +kernel⟩,
   ⟨live, {}, { op := 0, addr := 0x800000, count := 1, data := [5, 6], late := none }, 3, 5, [6], by decide +kernel⟩,
   ⟨live, {}, { op := 0, addr := BitVec.ofNat 24 (rCUE_TBL_DATAk 14), count := 1, data := [7, 8], late := none }, 14, 12, by decide +kernel⟩,
   ⟨live, {}, { dev := 0x58, addr := BitVec.ofNat 24 (rCUE_TBL_DATAk 14) }, [3, 4], 14, by decide +kernel⟩,
   ⟨live, {}, { dev := 0x58, addr := BitVec.ofNat 24 (rCUE_TBL_DATAk 14) }, 2, 14, by decide +kernel⟩,
   ⟨live, {}, { dev := 0x58, addr := 0x800000 }, 2, 3, by decide +kernel⟩,
   ⟨live, {}, { dev := 0x58, addr := BitVec.ofNat 24 (rCUE_TBL_DATAk 14) }, [3], 14, by decide +kernel⟩,
   ⟨live, {}, { dev := 0x59, addr := 0x120000 }, [3], by decide +kernel⟩⟩

theorem test_witness_WritesAreCheckedAndRecorded :
    (∃ (s : State) (_ : Meets) (p : Port) (_ : Word) (k : Fin 16),
      s.dev.calm = true ∧ s.dev.takes p (rCUE_TBL_DATAk k.val)) ∧
    (∃ (s : State) (_ : Meets) (p : Port) (a : BitVec 24) (z : AccSize) (_ : Word) (c : Nat),
      s.dev.calm = true ∧ s.dev.domOn 1 = true ∧ s.dev.accCheck p a.toNat z true = some c) ∧
    (∃ (s : State) (_ : Meets) (n : Fin 4) (_ : Port) (_ : Word),
      s.dev.calm = true ∧ s.dev.on (fNETn_SERDES_CFG_LOCK n.val) = true ∧ s.dev.domOn 1 = true ∧ s.dev.domOn (9 + n.val) = true ∧ s.dev.boot.lc ≠ 3 ∧ s.dev.boot.changing = false) ∧
    (∃ (s : State) (_ : Meets) (n : Fin 4) (p : Port) (v : Word),
      s.dev.calm = true ∧ s.dev.takes p (rNETn_MAC_ADDR_L n.val) ∧ s.dev.on (fNETn_MAC_CFG_EN n.val) = true ∧ v ≠ s.dev.reg (rNETn_MAC_ADDR_L n.val) ∧ s.dev.ign.length < 4) ∧
    (∃ (s : State) (_ : Meets) (n : Fin 4) (p : Port) (v : Word),
      s.dev.calm = true ∧ s.dev.takes p (rNETn_MAC_ADDR_L n.val) ∧ s.dev.on (fNETn_MAC_CFG_EN n.val) = true ∧ v ≠ s.dev.reg (rNETn_MAC_ADDR_L n.val) ∧ 4 ≤ s.dev.ign.length) ∧
    (∃ (s : State) (p : Port) (e : IgnEntry) (t : List IgnEntry),
      s.dev.calm = true ∧ s.dev.accCheck p rGLB_IGN_REC_L .b32 false = none ∧ s.dev.ign = e :: t ∧ e.port < 8 ∧ e.addr < 2 ^ 24) ∧
    (∃ (s : State) (p : Port),
      s.dev.calm = true ∧ s.dev.accCheck p rGLB_IGN_REC_L .b32 false = none ∧ s.dev.ign = []) :=
  ⟨⟨live, {}, .spi, 0xDEADBEEF#32, 15, by decide +kernel⟩,
   ⟨live, {}, .cmp, 0x123457, .b32, 5, 1, by decide +kernel⟩,
   ⟨onDev live fun d => d.putB (fNETn_SERDES_CFG_LOCK 3) true, {}, 3, .spi, 0#32, by decide +kernel⟩,
   ⟨onDev live (netUp 3), {}, 3, .spi, 9#32, by decide +kernel⟩,
   ⟨onDev live fun d => { netUp 3 d with ign := List.replicate 4 { port := 0, addr := 4, block := 0, inst := 0 } }, {}, 3, .spi, 9#32, by decide +kernel⟩,
   ⟨onDev live fun d => { d with ign := [{ port := 4, addr := 0xFFFFFC, block := 17, inst := 7 }] }, .spi, { port := 4, addr := 0xFFFFFC, block := 17, inst := 7 }, [], by decide +kernel⟩,
   ⟨live, .spi, by decide +kernel⟩⟩

theorem test_witness_MailboxAndWatchdogKick :
    (∃ (s : State) (_ : Word),
      s.dev.calm = true ∧ s.dev.takes .cmp rGLB_MBX_DATA ∧ s.dev.mbx.stage.length < 256) ∧
    (∃ (s : State) (_ : Word),
      s.dev.calm = true ∧ s.dev.takes .cmp rGLB_MBX_DATA ∧ 256 ≤ s.dev.mbx.stage.length) ∧
    (∃ (s : State) (_ : Word) (p : Port),
      s.dev.calm = true ∧ s.dev.domOn 1 = true ∧ p ≠ .cmp ∧ s.dev.boot.lc ≠ 3 ∧ s.dev.boot.changing = false) ∧
    (∃ (s : State) (v : Word) (t : Nat) (n : Nat) (q : Nat),
      s.dev.calm = true ∧ s.dev.takes .cmp rGLB_MBX_CMD ∧ t = fGLB_MBX_CMD_TAG.get v ∧ n = fGLB_MBX_CMD_LEN.get v ∧ q = s.dev.get fHQ_ROUTE_MBX_Q ∧ s.dev.mbx.tags.contains t = false ∧ 1 ≤ n ∧ n ≤ s.dev.mbx.stage.length ∧ s.dev.hqAccepts q 2 = true ∧ (s.dev.hqOf q).words.length + (n + 7) / 8 ≤ 1024) ∧
    (∃ (s : State) (v : Word) (t : Nat),
      s.dev.calm = true ∧ s.dev.takes .cmp rGLB_MBX_CMD ∧ t = fGLB_MBX_CMD_TAG.get v ∧ s.dev.mbx.tags.contains t = true) ∧
    (∃ (s : State) (v : Word) (t : Nat) (n : Nat),
      s.dev.calm = true ∧ s.dev.takes .cmp rGLB_MBX_CMD ∧ t = fGLB_MBX_CMD_TAG.get v ∧ n = fGLB_MBX_CMD_LEN.get v ∧ s.dev.mbx.tags.contains t = false ∧ (n = 0 ∨ s.dev.mbx.stage.length < n)) ∧
    (∃ (s : State) (v : Word) (t : Nat) (n : Nat) (q : Nat),
      s.dev.calm = true ∧ s.dev.takes .cmp rGLB_MBX_CMD ∧ t = fGLB_MBX_CMD_TAG.get v ∧ n = fGLB_MBX_CMD_LEN.get v ∧ q = s.dev.get fHQ_ROUTE_MBX_Q ∧ s.dev.mbx.tags.contains t = false ∧ 1 ≤ n ∧ n ≤ s.dev.mbx.stage.length ∧ (s.dev.hqAccepts q 2 = false ∨ 1024 < (s.dev.hqOf q).words.length + (n + 7) / 8)) ∧
    (∃ (s : State) (_ : Word),
      s.dev.calm = true ∧ s.dev.takes .cmp rGLB_MBX_CMD) ∧
    (∃ (s : State) (p : Port) (v : Word),
      s.dev.calm = true ∧ s.dev.takes p rGLB_WDOG_KICK ∧ v.toNat % 65536 = 0xA5C3 ∧ s.dev.on fGLB_WDOG_CFG_EN = true) ∧
    (∃ (s : State) (p : Port) (v : Word),
      s.dev.calm = true ∧ s.dev.takes p rGLB_WDOG_KICK ∧ v.toNat % 65536 ≠ 0xA5C3) :=
  ⟨⟨live, 0x12345678#32, by decide +kernel⟩,
   ⟨onDev live fun d => { d with mbx := { stage := List.replicate 256 0, tags := [] } }, 0x12345678#32, by decide +kernel⟩,
   ⟨live, 0#32, .spi, by decide +kernel⟩,
   ⟨onDev live fun d => { (d.put (fHQnn_CFG_PROD 0) 2).putB (fHQnn_CFG_EN 0) true with mbx := { stage := List.replicate 8 1, tags := [] } }, (fGLB_MBX_CMD_LEN.put (fGLB_MBX_CMD_TAG.put 0#32 0x7FFF) 8), 0x7FFF, 8, 0, by decide +kernel⟩,
   ⟨onDev live fun d => { d with mbx := { stage := [], tags := [5] } }, (fGLB_MBX_CMD_TAG.put 0#32 5), 5, by decide +kernel⟩,
   ⟨live, (fGLB_MBX_CMD_TAG.put 0#32 5), 5, 0, by decide +kernel⟩,
   ⟨onDev live fun d => { d with mbx := { stage := List.replicate 8 1, tags := [] } }, (fGLB_MBX_CMD_LEN.put (fGLB_MBX_CMD_TAG.put 0#32 5) 8), 5, 8, 0, by decide +kernel⟩,
   ⟨onDev live fun d => { d with mbx := { stage := [1], tags := [3] } }, 0#32, by decide +kernel⟩,
   ⟨onDev live fun d => d.putB fGLB_WDOG_CFG_EN true, .spi, 0xFFFFA5C3#32, by decide +kernel⟩,
   ⟨live, .spi, 0xA5C30000#32, by decide +kernel⟩⟩

theorem test_witness_ClocksLockSwitchAndFail :
    (∃ (s : State) (m : Meets) (p : Port) (v : Word),
      s.dev.calm = true ∧ s.dev.takes p rCLK_SWITCH ∧ fCLK_SWITCH_SEL.get v = 1 ∧ m.unlock = false ∧ s.dev.on fCLK_STS_SYSPLL_LOCK = true ∧ s.dev.selAct = false ∧ s.dev.on fDDR_CTL_EN = false) ∧
    (∃ (s : State) (_ : Meets) (p : Port) (v : Word),
      s.dev.calm = true ∧ s.dev.takes p rCLK_SWITCH ∧ fCLK_SWITCH_SEL.get v = 1 ∧ s.dev.on fCLK_STS_SYSPLL_LOCK = false) ∧
    (∃ (s : State) (m : Meets) (p : Port) (v : Word),
      s.dev.calm = true ∧ s.dev.takes p rCLK_SWITCH ∧ fCLK_SWITCH_SEL.get v = 1 ∧ m.unlock = true ∧ s.dev.on fCLK_STS_SYSPLL_LOCK = true) ∧
    (∃ (s : State) (m : Meets) (p : Port) (v : Word),
      s.dev.calm = true ∧ s.dev.takes p rCLK_SWITCH ∧ fCLK_SWITCH_SEL.get v = 0 ∧ m.unlock = false ∧ s.dev.selAct = true) ∧
    (∃ (s : State),
      s.dev.calm = true ∧ s.dev.domOn 1 = true ∧ s.dev.on fCLK_SRC_CFG_SYSPLL_EN = true ∧ s.dev.clk.refclk = true ∧ s.dev.pwr.policy = false) ∧
    (∃ (s : State),
      s.dev.calm = true ∧ s.dev.on fCLK_STS_SYSPLL_LOCK = true) ∧
    (∃ (s : State) (_ : Nat),
      s.dev.calm = true ∧ s.dev.domOn 2 = true ∧ s.dev.clk.refclk = true ∧ s.dev.on fCLK_STS_TPLL_LOCK = false ∧ s.dev.clk.timeDawn = false) ∧
    (∃ (s : State) (_ : Nat),
      s.dev.calm = true ∧ s.dev.domOn 2 = true ∧ s.dev.clk.refclk = true ∧ s.dev.on fCLK_STS_TPLL_LOCK = false ∧ s.dev.clk.timeDawn = true) ∧
    (∃ (s : State) (g : Fin 8),
      s.dev.calm = true ∧ s.dev.clk.refclk = true ∧ s.dev.domOn 1 = true ∧ s.dev.domOn 4 = true ∧ s.dev.mcgState g.val = 2 ∧ (s.dev.mcgOf g.val).locked = true) ∧
    (∃ (s : State),
      s.dev.calm = true ∧ s.dev.clk.refclk = true ∧ s.dev.domOn 1 = true ∧ (∀ g ∈ List.range 8, s.dev.mcgState g = 0)) ∧
    (∃ (s : State),
      s.dev.calm = true ∧ s.dev.clk.refclk = false) ∧
    (∃ (s : State),
      s.dev.calm = true) :=
  ⟨⟨onDev live fun d => (d.put fCLK_STS_SEL_ACT 0).put fCLK_SWITCH_SEL 0, {}, .spi, 1#32, by decide +kernel⟩,
   ⟨onDev live fun d => d.put fCLK_STS_SYSPLL_LOCK 0, {}, .spi, 1#32, by decide +kernel⟩,
   ⟨live, { unlock := true }, .spi, 1#32, by decide +kernel⟩,
   ⟨live, {}, .spi, 0#32, by decide +kernel⟩,
   ⟨onDev live fun d => d.put fCLK_STS_SYSPLL_LOCK 0, by decide +kernel⟩,
   ⟨live, by decide +kernel⟩,
   ⟨onDev live fun d => d.put fCLK_STS_TPLL_LOCK 0, 7, by decide +kernel⟩,
   ⟨onDev live fun d => { d.put fCLK_STS_TPLL_LOCK 0 with clk := { d.clk with timeDawn := true } }, 1024, by decide +kernel⟩,
   ⟨onDev live fun d => (d.put (fMCGn_STS_STATE 7) 2).setMcg 7 { locked := true, ticking := true }, 7, by decide +kernel⟩,
   ⟨live, by decide +kernel⟩,
   ⟨onDev live fun d => { d with clk := { d.clk with refclk := false } }, by decide +kernel⟩,
   ⟨onDev live fun d => { d with clk := { d.clk with refclk := false } }, by decide +kernel⟩⟩

theorem test_witness_DomainsGoDownAndComeUp :
    (∃ (s : State) (k : Fin 15) (_ : Meets) (p : Port) (v : Word),
      s.dev.calm = true ∧ s.dev.takes p (rPWR_DOMk_CTL k.val) ∧ 1 ≤ k.val ∧ s.dev.goingDown k.val = false ∧ s.dev.goingUp k.val = false ∧ s.dev.on (fPWR_DOMk_STS_SEQ k.val) = false ∧ ((if (fPWR_DOMk_CTL_REQ k.val).get v = 3 then 0 else (fPWR_DOMk_CTL_REQ k.val).get v) = s.dev.domState k.val)) ∧
    (∃ (s : State) (k : Fin 15) (m : Meets) (p : Port) (v : Word) (q : Nat),
      s.dev.calm = true ∧ s.dev.takes p (rPWR_DOMk_CTL k.val) ∧ s.dev.domOn 1 = true ∧ s.dev.domOn 2 = true ∧ 5 ≤ k.val ∧ k.val ≤ 12 ∧ (k.val ≤ 8 → ∀ i ∈ List.range 6, s.dev.on (fSAPnn_CTL_EN (6 * (k.val - 5) + i)) = false) ∧ (9 ≤ k.val → s.dev.on (fNETn_MAC_CFG_EN (k.val - 9)) = false) ∧ s.dev.pwr.jobs = [] ∧ s.dev.domState k.val = 0 ∧ (fPWR_DOMk_CTL_REQ k.val).get v = q ∧ (q = 1 ∨ q = 2) ∧ m.woken = .none) ∧
    (∃ (s : State) (k : Fin 15) (m : Meets) (p : Port) (v : Word) (c : Fin 8),
      s.dev.calm = true ∧ s.dev.takes p (rPWR_DOMk_CTL k.val) ∧ s.dev.domOn 1 = true ∧ s.dev.domOn 2 = true ∧ 5 ≤ k.val ∧ k.val ≤ 12 ∧ s.dev.pwr.jobs = [] ∧ s.dev.domState k.val = 0 ∧ (fPWR_DOMk_CTL_REQ k.val).get v = 1 ∧ m.woken = .same c ∧ (c.val = 0 ∨ 6 ≤ c.val) ∧ s.dev.wakes c.val k.val = true) ∧
    (∃ (s : State) (k : Fin 15) (_ : Meets) (p : Port) (v : Word),
      s.dev.calm = true ∧ s.dev.takes p (rPWR_DOMk_CTL k.val) ∧ s.dev.domOn 1 = true ∧ s.dev.domOn 2 = true ∧ 5 ≤ k.val ∧ k.val ≤ 12 ∧ s.dev.pwr.jobs = [] ∧ s.dev.domState k.val = 1 ∧ ((fPWR_DOMk_CTL_REQ k.val).get v = 0 ∨ (fPWR_DOMk_CTL_REQ k.val).get v = 3)) ∧
    (∃ (s : State) (k : Fin 15),
      s.dev.calm = true ∧ s.dev.domOn 1 = true ∧ 5 ≤ k.val ∧ k.val ≤ 12 ∧ (k.val ≤ 8 → ∀ i ∈ List.range 6, s.dev.on (fSAPnn_CTL_EN (6 * (k.val - 5) + i)) = false) ∧ (9 ≤ k.val → s.dev.on (fNETn_MAC_CFG_EN (k.val - 9)) = false) ∧ s.dev.pwr.jobs = [] ∧ s.dev.domOn k.val = true ∧ s.dev.get (fPWR_DOMk_CTL_IDLE_US k.val) ≠ 0 ∧ s.dev.domIdle k.val = true) ∧
    (∃ (s : State) (k : Fin 15),
      s.dev.calm = true ∧ (s.dev.get (fPWR_DOMk_CTL_IDLE_US k.val) = 0 ∨ s.dev.domIdle k.val = false)) ∧
    (∃ (s : State) (x : CmpByte),
      s.dev.calm = true ∧ s.dev.domState 1 ≠ 0 ∧ s.dev.pwr.jobs = [] ∧ s.dev.cmpMine x.dev = true ∧ s.dev.on fPWR_WAKE_EN_CMP = true) ∧
    (∃ (s : State) (x : CmpByte),
      s.dev.calm = true ∧ s.dev.domOn 1 = false ∧ s.dev.cmpMine x.dev = true ∧ s.dev.on fPWR_WAKE_EN_CMP = false) ∧
    (∃ (s : State) (x : CmpByte),
      s.dev.calm = true ∧ (s.dev.domOn 1 = true ∨ s.dev.cmpMine x.dev = false)) ∧
    (∃ (s : State) (n : Fin 4) (_ : List Bank),
      s.dev.calm = true ∧ s.dev.domOn 1 = true ∧ s.dev.pwr.jobs = [] ∧ s.dev.domState (9 + n.val) = 1 ∧ s.dev.on (bitFld rPWR_WAKE_EN (1 + n.val)) = true) ∧
    (∃ (s : State) (n : Fin 4) (_ : List Bank),
      s.dev.calm = true ∧ s.dev.pwr.jobs = [] ∧ (s.dev.domState (9 + n.val) ≠ 1 ∨ s.dev.on (bitFld rPWR_WAKE_EN (1 + n.val)) = false)) ∧
    (∃ (s : State) (_ : List Bank),
      s.dev.calm = true ∧ s.dev.domOn 1 = true ∧ s.dev.pwr.jobs = [] ∧ s.dev.domState 13 = 1 ∧ s.dev.on fPWR_WAKE_EN_T1S = true) ∧
    (∃ (s : State) (h : Handed) (n : Nat) (o : Nat) (_ : List Bank),
      s.dev.calm = true ∧ (s.dev.handed.find? (fun x => x.sink == .wake) = some h) ∧ s.dev.domOn 1 = true ∧ s.dev.pwr.jobs = [] ∧ 9 ≤ n ∧ n ≤ 12 ∧ s.dev.domState n = 1 ∧ s.dev.on fPWR_WAKE_EN_FRAME = true ∧ s.dev.get fPWR_WAKE_EN_FRAME_MASK = 2 ^ n ∧ o = etherOff h.bytes + 2 ∧ dstOf h.bytes = wakeGroup ∧ beAt h.bytes o 1 = 1 ∧ beAt h.bytes (o + 1) 1 = 1 ∧ beAt h.bytes (o + 2) 2 = 2 ^ n ∧ beAt h.bytes (o + 4) 2 = 0) ∧
    (∃ (s : State) (k : Fin 15) (q : Nat),
      s.pending = [] ∧ s.dev.pwr.jobs = [{ dom := k.val, dest := q, bad := [], started := true }] ∧ 1 ≤ q ∧ q ≤ 2 ∧ 5 ≤ k.val ∧ k.val ≤ 12) ∧
    (∃ (s : State) (k : Fin 15) (l : List Bank),
      s.pending = [] ∧ s.dev.pwr.jobs = [{ dom := k.val, dest := 0, bad := l, started := true }] ∧ 5 ≤ k.val ∧ k.val ≤ 12 ∧ (s.dev.domState k.val = 2 ∨ l = [])) ∧
    (∃ (s : State) (k : Fin 15) (i : Nat),
      s.pending = [] ∧ s.dev.pwr.jobs = [{ dom := k.val, dest := 0, bad := [.flop 10 i], started := true }] ∧ s.dev.pwr.lost = [] ∧ 5 ≤ k.val ∧ k.val ≤ 8 ∧ s.dev.domState k.val = 1 ∧ 6 * (k.val - 5) ≤ i ∧ i < 6 * (k.val - 5) + 6) :=
  ⟨⟨live, 14, {}, .spi, 0xC0000010#32, by decide +kernel⟩,
   ⟨live, 12, {}, .spi, 0x20000000#32, 2, by decide +kernel⟩,
   ⟨live, 12, { woken := .same 7 }, .spi, 0x10000000#32, 7, by decide +kernel⟩,
   ⟨onDev live fun d => d.put (fPWR_DOMk_STS_STATE 12) 1, 12, {}, .spi, 0#32, by decide +kernel⟩,
   ⟨onDev live fun d => d.put (fPWR_DOMk_CTL_IDLE_US 12) 5, 12, by decide +kernel⟩,
   ⟨live, 12, by decide +kernel⟩,
   ⟨onDev live fun d => d.puts [(fPWR_DOMk_STS_STATE 1, 1), (fPWR_WAKE_EN_CMP, 1)], { dev := 0x58 }, by decide +kernel⟩,
   ⟨onDev live fun d => d.puts [(fPWR_DOMk_STS_STATE 1, 1), (fPWR_WAKE_EN_CMP, 0)], { dev := 0x58 }, by decide +kernel⟩,
   ⟨onDev live fun d => d.put (fPWR_DOMk_STS_STATE 1) 1, { dev := 0x5A }, by decide +kernel⟩,
   ⟨onDev live fun d => (d.put (fPWR_DOMk_STS_STATE 12) 1).put fPWR_WAKE_EN_NET 15, 3, [], by decide +kernel⟩,
   ⟨live, 3, [], by decide +kernel⟩,
   ⟨onDev live fun d => (d.put (fPWR_DOMk_STS_STATE 13) 1).putB fPWR_WAKE_EN_T1S true, [], by decide +kernel⟩,
   ⟨onDev live fun d => { ((d.put (fPWR_DOMk_STS_STATE 12) 1).putB fPWR_WAKE_EN_FRAME true).put fPWR_WAKE_EN_FRAME_MASK 0x1000 with handed := [{ sink := .wake, port := 1, bytes := beBytes 6 wakeGroup ++ List.replicate 6 0 ++ [0x88, 0xB6, 1, 1, 0x10, 0, 0, 0] }] }, { sink := .wake, port := 1, bytes := beBytes 6 wakeGroup ++ List.replicate 6 0 ++ [0x88, 0xB6, 1, 1, 0x10, 0, 0, 0] }, 12, 14, [], by decide +kernel⟩,
   ⟨onDev live fun d => { ((d.put (fPWR_DOMk_STS_STATE 8) 0).putB (fPWR_DOMk_STS_SEQ 8) true) with pwr := { d.pwr with jobs := [{ dom := 8, dest := 2, bad := [], started := true }] } }, 8, 2, by decide +kernel⟩,
   ⟨onDev live fun d => { ((d.put (fPWR_DOMk_STS_STATE 12) 1).putB (fPWR_DOMk_STS_SEQ 12) true) with pwr := { d.pwr with jobs := [{ dom := 12, dest := 0, bad := [], started := true }] } }, 12, [], by decide +kernel⟩,
   ⟨onDev live fun d => { ((d.put (fPWR_DOMk_STS_STATE 8) 1).putB (fPWR_DOMk_STS_SEQ 8) true).setReg (rSAPnn_SLOT_MASK 23) 0x100 with pwr := { d.pwr with jobs := [{ dom := 8, dest := 0, bad := [.flop 10 23], started := true }] } }, 8, 23, by decide +kernel⟩⟩

theorem test_witness_SequencersRunTheirPrograms :
    (∃ (s : State) (n : Fin 8) (p : Port) (v : Word),
      s.dev.calm = true ∧ s.dev.takes p rRQL_CTL ∧ (bitFld rRQL_CTL n.val).put v 1 = (bitFld rRQL_CTL n.val).put (s.dev.reg rRQL_CTL) 1 ∧ s.dev.on (bitFld rRQL_CTL n.val) = false ∧ s.dev.rqlCheck n.val = none ∧ s.dev.sound = true) ∧
    (∃ (s : State) (n : Fin 8) (p : Port) (v : Word) (c : Nat) (i : Nat),
      s.dev.calm = true ∧ s.dev.takes p rRQL_CTL ∧ (bitFld rRQL_CTL n.val).put v 1 = (bitFld rRQL_CTL n.val).put (s.dev.reg rRQL_CTL) 1 ∧ s.dev.on (bitFld rRQL_CTL n.val) = false ∧ s.dev.rqlCheck n.val = some (c, i) ∧ n.val ≠ 2) ∧
    (∃ (s : State) (n : Fin 8) (p : Port) (v : Word),
      s.dev.calm = true ∧ s.dev.takes p rRQL_CTL ∧ (bitFld rRQL_CTL n.val).put v 0 = (bitFld rRQL_CTL n.val).put (s.dev.reg rRQL_CTL) 0 ∧ s.dev.on (bitFld rRQL_CTL n.val) = true) ∧
    (∃ (s : State) (n : Fin 8) (p : Port) (_ : Word),
      s.dev.calm = true ∧ s.dev.takes p (rRQLn_EVT_INJ n.val) ∧ s.dev.on (bitFld rRQL_CTL n.val) = true ∧ s.dev.on (fRQLn_STS_RUN n.val) = true) ∧
    (∃ (s : State) (_ : Meets) (n : Fin 8) (e : RqlEntry) (b : Nat) (g : Nat) (w : Nat),
      s.dev.calm = true ∧ s.dev.domOn 1 = true ∧ s.dev.on (bitFld rRQL_CTL n.val) = true ∧ s.dev.on (fRQLn_STS_RUN n.val) = true ∧ lowestBit (s.dev.rqlOf n.val).pend = some b ∧ b < 16 ∧ g = s.dev.get (fRQLn_STS_STATE n.val) ∧ s.dev.rqlDir n.val g = (w, 1) ∧ s.dev.rqlHurt n.val (16 + g) = false ∧ s.dev.rqlHurt n.val w = false ∧ s.dev.rqlHurt n.val (w + 1) = false ∧ e = s.dev.rqlEntry n.val w ∧ e.mask / 2 ^ b % 2 = 1 ∧ e.guard = 0 ∧ e.next < s.dev.rqlStates n.val ∧ e.len = 1 ∧ 272 ≤ e.act ∧ e.act + 1 ≤ 2048 ∧ s.dev.sound = true ∧ s.dev.rqlWord n.val e.act / 2 ^ 60 = 3) ∧
    (∃ (s : State) (_ : Meets) (n : Fin 8) (e : RqlEntry) (b : Nat) (g : Nat) (w : Nat),
      s.dev.calm = true ∧ s.dev.domOn 1 = true ∧ s.dev.on (bitFld rRQL_CTL n.val) = true ∧ s.dev.on (fRQLn_STS_RUN n.val) = true ∧ lowestBit (s.dev.rqlOf n.val).pend = some b ∧ b < 16 ∧ g = s.dev.get (fRQLn_STS_STATE n.val) ∧ s.dev.rqlDir n.val g = (w, 1) ∧ s.dev.rqlHurt n.val (16 + g) = false ∧ s.dev.rqlHurt n.val w = false ∧ s.dev.rqlHurt n.val (w + 1) = false ∧ e = s.dev.rqlEntry n.val w ∧ e.mask / 2 ^ b % 2 = 1 ∧ e.guard = 0 ∧ s.dev.rqlStates n.val ≤ e.next ∧ n.val ≠ 2 ∧ s.dev.sound = true) ∧
    (∃ (s : State) (_ : Meets) (n : Fin 8) (e : RqlEntry) (b : Nat) (g : Nat) (w : Nat),
      s.dev.calm = true ∧ s.dev.domOn 1 = true ∧ s.dev.on (bitFld rRQL_CTL n.val) = true ∧ s.dev.on (fRQLn_STS_RUN n.val) = true ∧ lowestBit (s.dev.rqlOf n.val).pend = some b ∧ b < 16 ∧ g = s.dev.get (fRQLn_STS_STATE n.val) ∧ s.dev.rqlDir n.val g = (w, 1) ∧ s.dev.rqlHurt n.val (16 + g) = false ∧ s.dev.rqlHurt n.val w = false ∧ s.dev.rqlHurt n.val (w + 1) = false ∧ e = s.dev.rqlEntry n.val w ∧ e.mask / 2 ^ b % 2 = 0 ∧ s.dev.sound = true) ∧
    (∃ (s : State) (_ : Meets) (n : Fin 8) (_ : Option Nat),
      s.dev.calm = true ∧ (s.dev.rqlOf n.val).pend = 0 ∧ s.dev.domOn 1 = true) ∧
    (∃ (s : State) (n : Fin 8) (t : Fin 8),
      s.dev.calm = true ∧ s.dev.domOn 1 = true ∧ (kget {} (s.dev.rqlOf n.val).timers t.val).running = true) :=
  ⟨⟨onDev live fun d => ((rqlUp 7 [(0, 0x0100020000000000), (16, 0x0000011000000001), (272, 0x0000000101010000), (273, 300), (300, 0x3500000012345678)] d).put (bitFld rRQL_CTL 7) 0).put (fRQLn_STS_RUN 7) 0, 7, .spi, 0x80#32, by decide +kernel⟩,
   ⟨live, 7, .spi, 0x80#32, 1, 0, by decide +kernel⟩,
   ⟨onDev live (rqlUp 7 [(0, 0x0100020000000000), (16, 0x0000011000000001), (272, 0x0000000101010000), (273, 300), (300, 0x3500000012345678)]), 7, .spi, 0#32, by decide +kernel⟩,
   ⟨onDev live (rqlUp 7 [(0, 0x0100020000000000), (16, 0x0000011000000001), (272, 0x0000000101010000), (273, 300), (300, 0x3500000012345678)]), 7, .spi, 0x0200#32, by decide +kernel⟩,
   ⟨onDev live (rqlUp 7 [(0, 0x0100020000000000), (16, 0x0000011000000001), (272, 0x0000000101010000), (273, 300), (300, 0x3500000012345678)]), {}, 7, { word := 272, mask := 1, next := 1, len := 1, guard := 0, act := 300 }, 0, 0, 272, by decide +kernel⟩,
   ⟨onDev live (rqlUp 7 [(0, 0x0100010000000000), (16, 0x0000011000000001), (272, 0x0000000101010000), (273, 300), (300, 0x3500000012345678)]), {}, 7, { word := 272, mask := 1, next := 1, len := 1, guard := 0, act := 300 }, 0, 0, 272, by decide +kernel⟩,
   ⟨onDev live (rqlUp 7 [(0, 0x0100020000000000), (16, 0x0000011000000001), (272, 0x0000000201010000), (273, 300), (300, 0x3500000012345678)]), {}, 7, { word := 272, mask := 2, next := 1, len := 1, guard := 0, act := 300 }, 0, 0, 272, by decide +kernel⟩,
   ⟨live, {}, 7, none, by decide +kernel⟩,
   ⟨onDev live fun d => d.setRql 7 { timers := [(7, { running := true, left := 1 })] }, 7, 7, by decide +kernel⟩⟩

theorem test_witness_ResetsLeaveWhatTheyKeep :
    (∃ (s : State),
      (s.dev.boot.released = true ∨ s.dev.on fGLB_RESET_CAUSE_POR = false)) ∧
    (∃ (s : State),
      s.dev.boot.released = false ∧ s.dev.on fGLB_RESET_CAUSE_POR = true) ∧
    (∃ (s : State),
      s.dev.boot.released = true ∧ s.dev.on fGLB_WDOG_CFG_EN = true ∧ s.dev.domOn 1 = true ∧ s.dev.on fGLB_BOOT_STS_SAFE = false ∧ s.dev.boot.lastSlot ≠ 0 ∧ s.dev.boot.lastOk = false) ∧
    (∃ (s : State),
      s.dev.boot.released = true ∧ s.dev.on fGLB_WDOG_CFG_EN = true ∧ s.dev.domOn 1 = true ∧ (s.dev.on fGLB_BOOT_STS_SAFE = true ∨ s.dev.boot.lastSlot = 0 ∨ s.dev.boot.lastOk = true)) ∧
    (∃ (s : State),
      s.dev.calm = true ∧ s.dev.on fGLB_WDOG_CFG_EN = false) :=
  ⟨⟨onDev live fun d => { d with boot := { d.boot with released := true } }, by decide +kernel⟩,
   ⟨live, by decide +kernel⟩,
   ⟨onDev live fun d => { d.putB fGLB_WDOG_CFG_EN true with boot := { d.boot with released := true, lastSlot := 2 } }, by decide +kernel⟩,
   ⟨onDev live fun d => { d.putB fGLB_WDOG_CFG_EN true with boot := { d.boot with released := true, lastSlot := 2, lastOk := true } }, by decide +kernel⟩,
   ⟨live, by decide +kernel⟩⟩

theorem test_witness_ColdStartsChooseTheirImage :
    (∃ (s : State) (_ : StartInfo),
      s.dev.calm = true ∧ s.dev.boot.released = false ∧ s.dev.pin.hotswap = true) ∧
    (∃ (s : State) (_ : StartInfo),
      s.dev.calm = true ∧ s.dev.boot.released = false ∧ s.dev.pin.hotswap = false ∧ s.dev.get fGLB_BOOT_STS_FAIL_CNT = 3) ∧
    (∃ (s : State) (x : StartInfo),
      s.dev.calm = true ∧ s.dev.boot.released = false ∧ s.dev.pin.hotswap = false ∧ s.dev.get fGLB_BOOT_STS_FAIL_CNT ≠ 3 ∧ x.bootSel = 3) ∧
    (∃ (s : State) (x : StartInfo),
      s.dev.calm = true ∧ s.dev.boot.released = false ∧ s.dev.pin.hotswap = false ∧ s.dev.get fGLB_BOOT_STS_FAIL_CNT ≠ 3 ∧ x.bootSel ≠ 3 ∧ s.dev.boot.lc = 3) ∧
    (∃ (s : State) (x : StartInfo),
      s.dev.calm = true ∧ s.dev.boot.released = false ∧ s.dev.pin.hotswap = false ∧ s.dev.get fGLB_BOOT_STS_FAIL_CNT ≠ 3 ∧ x.bootSel ≠ 3 ∧ s.dev.boot.lc = 0 ∧ (x.nvm.getD s.dev.nvm).responds = false) ∧
    (∃ (s : State) (x : StartInfo),
      s.dev.calm = true ∧ s.dev.boot.released = false ∧ s.dev.pin.hotswap = false ∧ s.dev.get fGLB_BOOT_STS_FAIL_CNT ≠ 3 ∧ x.bootSel ≠ 3 ∧ (s.dev.boot.lc = 1 ∨ s.dev.boot.lc = 2) ∧ (x.nvm.getD s.dev.nvm).responds = false) ∧
    (∃ (s : State) (x : StartInfo) (n : Nvm),
      s.dev.calm = true ∧ s.dev.boot.released = false ∧ s.dev.get fGLB_BOOT_STS_FAIL_CNT ≠ 1 ∧ s.dev.get fGLB_BOOT_STS_FAIL_CNT ≠ 3 ∧ s.dev.boot.lc ≠ 3 ∧ s.dev.pin.hotswap = false ∧ x.nvm = some n ∧ x.reread = none ∧ x.bootSel = 1 ∧ ({ s.dev with nvm := n } : Dev).verify n.slotA = none ∧ (imgSect n.slotA 0).phase = 1) ∧
    (∃ (s : State) (_ : StartInfo),
      s.dev.calm = true ∧ s.dev.boot.released = true) ∧
    (∃ (s : State) (_ : Option (Nat × BitVec 8)),
      s.dev.calm = true ∧ s.dev.boot.loader = .hotswap ∧ s.dev.get fGLB_BOOT_STS_START_KIND = 0 ∧ (s.dev.get fGLB_BOOT_STS_FAIL_CNT = 3 ∨ s.dev.get fPIN_STRAP_BOOT_SEL = 3)) ∧
    (∃ (s : State) (_ : Option (Nat × BitVec 8)),
      s.dev.calm = true ∧ s.dev.boot.loader ≠ .hotswap) :=
  ⟨⟨onDev live fun d => { d with pin := { hotswap := true } }, { step := 0x21, grade := true, haloRole := true, bootSel := 1, cmpAsel := 2, avs := 840, bist := [], lanes := [3], nvm := none, reread := none }, by decide +kernel⟩,
   ⟨onDev live fun d => d.put fGLB_BOOT_STS_FAIL_CNT 3, { step := 0x21, grade := true, haloRole := true, bootSel := 1, cmpAsel := 2, avs := 840, bist := [], lanes := [3], nvm := none, reread := none }, by decide +kernel⟩,
   ⟨live, { step := 0x21, grade := true, haloRole := true, bootSel := 3, cmpAsel := 2, avs := 840, bist := [], lanes := [3], nvm := none, reread := none }, by decide +kernel⟩,
   ⟨onDev live fun d => { d with boot := { d.boot with lc := 3 } }, { step := 0x21, grade := true, haloRole := true, bootSel := 2, cmpAsel := 2, avs := 840, bist := [], lanes := [3], nvm := none, reread := none }, by decide +kernel⟩,
   ⟨live, { step := 0x21, grade := true, haloRole := true, bootSel := 0, cmpAsel := 2, avs := 840, bist := [], lanes := [3], nvm := none, reread := none }, by decide +kernel⟩,
   ⟨onDev live fun d => { d with boot := { d.boot with lc := 2 } }, { step := 0x21, grade := true, haloRole := true, bootSel := 0, cmpAsel := 2, avs := 840, bist := [], lanes := [3], nvm := none, reread := none }, by decide +kernel⟩,
   ⟨live, { step := 0x21, grade := true, haloRole := true, bootSel := 1, cmpAsel := 2, avs := 840, bist := [], lanes := [3], nvm := some { responds := true, slotA := imgMade }, reread := none }, { responds := true, slotA := imgMade }, by decide +kernel⟩,
   ⟨onDev live fun d => { d with boot := { d.boot with released := true } }, { step := 0x21, grade := true, haloRole := true, bootSel := 1, cmpAsel := 2, avs := 840, bist := [], lanes := [3], nvm := none, reread := none }, by decide +kernel⟩,
   ⟨onDev live fun d => { d.put fPIN_STRAP_BOOT_SEL 3 with boot := { d.boot with loader := .hotswap, released := true }, pin := { hotswap := true } }, none, by decide +kernel⟩,
   ⟨onDev live fun d => { d with pin := { hotswap := true } }, none, by decide +kernel⟩⟩

theorem test_witness_LoadsWaitSwitchAndEnd :
    (∃ (s : State) (tmo : Bool) (a : Nat) (mk : Word) (vl : Word) (hld : Bool),
      s.dev.calm = true ∧ s.dev.boot.loader = .wait a mk vl ∧ (s.dev.waitHolds a mk vl).1 = (0, hld) ∧ (hld = true ∨ tmo = true) ∧ s.dev.boot.warmLeft = none ∧ s.dev.pin.stop = false ∧ s.dev.boot.switched = false ∧ (s.dev.boot.sect + 1 = imgSects s.dev.boot.img ∨ (s.dev.boot.sect + 1 < imgSects s.dev.boot.img ∧ (imgSect s.dev.boot.img (s.dev.boot.sect + 1)).phase = 1)) ∧ s.dev.domOn 1 = true) ∧
    (∃ (s : State) (a : Nat) (mk : Word) (vl : Word),
      s.dev.calm = true ∧ s.dev.boot.loader = .wait a mk vl ∧ (s.dev.waitHolds a mk vl).1 = (0, false) ∧ s.dev.domOn 1 = true) ∧
    (∃ (s : State) (_ : Bool) (a : Nat) (mk : Word) (vl : Word) (hld : Bool) (c : Nat),
      s.dev.calm = true ∧ s.dev.boot.loader = .wait a mk vl ∧ (s.dev.waitHolds a mk vl).1 = (c, hld) ∧ c ≠ 0 ∧ s.dev.domOn 1 = true) ∧
    (∃ (s : State),
      s.dev.calm = true ∧ s.dev.boot.loader = .lock ∧ s.dev.on fCLK_STS_SYSPLL_LOCK = false ∧ s.dev.domOn 1 = true) ∧
    (∃ (s : State),
      s.dev.calm = true ∧ s.dev.boot.loader = .lock ∧ s.dev.on fCLK_STS_SYSPLL_LOCK = false ∧ s.dev.domOn 1 = true) ∧
    (∃ (s : State) (_ : Bool),
      s.dev.calm = true ∧ s.dev.takes .loader rCLK_SWITCH ∧ s.dev.selAct = false ∧ s.dev.on fDDR_CTL_EN = false ∧ s.dev.boot.loader = .lock ∧ s.dev.on fCLK_STS_SYSPLL_LOCK = true ∧ s.dev.boot.warmLeft = none ∧ s.dev.boot.pos = 0 ∧ s.dev.pin.stop = false ∧ imgSects s.dev.boot.img ≤ s.dev.boot.sect ∧ (imgDigest s.dev.boot.img) = imgStored s.dev.boot.img ∧ imgAutoconf s.dev.boot.img = true ∧ s.dev.domOn 1 = true) ∧
    (∃ (s : State) (_ : Bool),
      s.dev.calm = true ∧ s.dev.takes .loader rCLK_SWITCH ∧ s.dev.selAct = false ∧ s.dev.on fDDR_CTL_EN = false ∧ s.dev.boot.loader = .lock ∧ s.dev.on fCLK_STS_SYSPLL_LOCK = true ∧ s.dev.boot.warmLeft = none ∧ s.dev.boot.pos = 0 ∧ s.dev.pin.stop = false ∧ imgSects s.dev.boot.img ≤ s.dev.boot.sect ∧ (imgDigest s.dev.boot.img) = imgStored s.dev.boot.img ∧ imgAutoconf s.dev.boot.img = false ∧ s.dev.on fGLB_WDOG_CFG_EN = false ∧ s.dev.domOn 1 = true) ∧
    (∃ (s : State) (_ : Bool),
      s.dev.calm = true ∧ s.dev.boot.loader ≠ .lock ∧ s.dev.domOn 1 = true) :=
  ⟨⟨onDev live fun d => { d with boot := { d.boot with released := true, loader := .wait rCLK_STS 0 0, img := imgMade } }, false, rCLK_STS, 0, 0, true, by decide +kernel⟩,
   ⟨onDev live fun d => { d with boot := { d.boot with released := true, loader := .wait rCLK_STS 0 1 } }, rCLK_STS, 0, 1, by decide +kernel⟩,
   ⟨onDev live fun d => { d with boot := { d.boot with released := true, loader := .wait 1 0 0 } }, true, 1, 0, 0, true, 1, by decide +kernel⟩,
   ⟨onDev (onDev live fun d => { (d.put fCLK_STS_SEL_ACT 0).put fCLK_SWITCH_SEL 0 with boot := { d.boot with released := true, loader := .lock, img := [], sect := 0 } }) fun d => d.put fCLK_STS_SYSPLL_LOCK 0, by decide +kernel⟩,
   ⟨onDev (onDev live fun d => { (d.put fCLK_STS_SEL_ACT 0).put fCLK_SWITCH_SEL 0 with boot := { d.boot with released := true, loader := .lock, img := [], sect := 0 } }) fun d => d.put fCLK_STS_SYSPLL_LOCK 0, by decide +kernel⟩,
   ⟨onDev live fun d => { (d.put fCLK_STS_SEL_ACT 0).put fCLK_SWITCH_SEL 0 with boot := { d.boot with released := true, loader := .lock, img := imgAuto, sect := 1 } }, false, by decide +kernel⟩,
   ⟨onDev live fun d => { (d.put fCLK_STS_SEL_ACT 0).put fCLK_SWITCH_SEL 0 with boot := { d.boot with released := true, loader := .lock, img := imgMade, sect := 1 } }, false, by decide +kernel⟩,
   ⟨live, true, by decide +kernel⟩⟩

theorem test_witness_StartCommandsAndKeys :
    (∃ (s : State) (p : Port) (_ : Word),
      s.dev.calm = true ∧ s.dev.takes p rGLB_BOOT_CMD ∧ s.dev.on fGLB_BOOT_STS_CONFIRMED = false) ∧
    (∃ (s : State) (p : Port) (_ : Word),
      s.dev.calm = true ∧ s.dev.takes p rGLB_BOOT_CMD ∧ s.dev.on fGLB_BOOT_STS_SAFE = false ∧ s.dev.on fGLB_NVM_CTL_RELEASE = false ∧ s.dev.boot.loader = .idle ∧ s.dev.boot.changing = false ∧ s.dev.selAct = false ∧ s.dev.domOn 1 = true) ∧
    (∃ (s : State) (p : Port) (_ : Word),
      s.dev.calm = true ∧ s.dev.takes p rGLB_BOOT_CMD) ∧
    (∃ (s : State) (p : Port) (v : Word) (_ : Option Nvm),
      s.dev.calm = true ∧ s.dev.takes p rGLB_NVM_CTL ∧ (s.dev.starting = false ∨ fGLB_NVM_CTL_RELEASE.get v = 0)) ∧
    (∃ (s : State) (p : Port) (v : Word),
      s.dev.calm = true ∧ s.dev.takes p rGLB_OTP_CMD ∧ s.dev.starting = false ∧ fGLB_OTP_CMD_SLOT.get v < 3 ∧ (kget (0, 0) s.dev.boot.keys (fGLB_OTP_CMD_SLOT.get v)).1 = 0 ∧ s.dev.boot.lc < 2) ∧
    (∃ (s : State) (p : Port) (v : Word),
      s.dev.calm = true ∧ s.dev.takes p rGLB_OTP_CMD ∧ s.dev.starting = false ∧ fGLB_OTP_CMD_SLOT.get v < 3 ∧ (kget (0, 0) s.dev.boot.keys (fGLB_OTP_CMD_SLOT.get v)).1 = 1 ∧ (s.dev.boot.lc ≠ 2 ∨ ((List.range 3).filter s.dev.keyValid).length ≠ 1)) :=
  ⟨⟨live, .spi, 0#32, by decide +kernel⟩,
   ⟨onDev (onDev live (netUp 3)) fun d => (((cueUp (stxLive 5 d)).put fCLK_STS_SEL_ACT 0).putB (fSAPnn_CTL_EN 23) true), .spi, 0#32, by decide +kernel⟩,
   ⟨onDev live fun d => d.putB fGLB_BOOT_STS_SAFE true, .spi, 0#32, by decide +kernel⟩,
   ⟨live, .spi, 1#32, (some { responds := true }), by decide +kernel⟩,
   ⟨onDev live fun d => d.setReg (rGLB_OTP_DATAk 7) 0x55, .spi, 2#32, by decide +kernel⟩,
   ⟨onDev live fun d => { d with boot := { d.boot with keys := [(2, (1, 7))] } }, .spi, 2#32, by decide +kernel⟩⟩

theorem test_witness_StartCommandsAreRefused :
    (∃ (s : State) (p : Port) (_ : Word),
      s.dev.calm = true ∧ s.dev.takes p rGLB_BOOT_CMD ∧ s.dev.on fGLB_BOOT_STS_CONFIRMED = true) ∧
    (∃ (s : State) (p : Port) (_ : Word),
      s.dev.calm = true ∧ s.dev.takes p rGLB_BOOT_CMD ∧ (s.dev.on fGLB_BOOT_STS_SAFE = true ∨ s.dev.on fGLB_NVM_CTL_RELEASE = true ∨ s.dev.starting = true ∨ s.dev.boot.loader = .halted)) ∧
    (∃ (s : State) (p : Port) (v : Word) (_ : Option Nvm),
      s.dev.calm = true ∧ s.dev.takes p rGLB_NVM_CTL ∧ s.dev.starting = true ∧ fGLB_NVM_CTL_RELEASE.get v = 1 ∧ s.dev.on fGLB_NVM_CTL_RELEASE = false) ∧
    (∃ (s : State) (p : Port) (v : Word) (c : Nat),
      s.dev.calm = true ∧ s.dev.takes p rGLB_OTP_CMD ∧ (c = (if s.dev.starting then 5 else if fGLB_OTP_CMD_SLOT.get v = 3 then 3 else if (kget (0, 0) s.dev.boot.keys (fGLB_OTP_CMD_SLOT.get v)).1 ≠ 0 then 1 else if 2 ≤ s.dev.boot.lc then 2 else 0)) ∧ c ≠ 0) ∧
    (∃ (s : State) (p : Port) (v : Word) (c : Nat),
      s.dev.calm = true ∧ s.dev.takes p rGLB_OTP_CMD ∧ (c = (if s.dev.starting then 5 else if fGLB_OTP_CMD_SLOT.get v = 3 then 3 else if (kget (0, 0) s.dev.boot.keys (fGLB_OTP_CMD_SLOT.get v)).1 ≠ 1 then 1 else if s.dev.boot.lc = 2 ∧ ((List.range 3).filter s.dev.keyValid).length = 1 then 4 else 0)) ∧ c ≠ 0) :=
  ⟨⟨onDev live fun d => d.putB fGLB_BOOT_STS_CONFIRMED true, .spi, 0#32, by decide +kernel⟩,
   ⟨onDev live fun d => d.putB fGLB_NVM_CTL_RELEASE true, .spi, 0#32, by decide +kernel⟩,
   ⟨onDev live fun d => { d with boot := { d.boot with loader := .run } }, .spi, 1#32, (some { responds := true }), by decide +kernel⟩,
   ⟨onDev live fun d => { d with boot := { d.boot with lc := 2 } }, .spi, 2#32, 2, by decide +kernel⟩,
   ⟨onDev live fun d => { d with boot := { d.boot with lc := 2, keys := [(2, (1, 7))] } }, .spi, 2#32, 4, by decide +kernel⟩⟩

theorem test_witness_LifeCycleChangesAndDetach :
    (∃ (s : State) (_ : Meets) (p : Port) (v : Word),
      s.dev.calm = true ∧ s.dev.takes p rGLB_LC_CTL ∧ s.dev.boot.changing = false ∧ fGLB_LC_CTL_TARGET.get v ≤ s.dev.boot.lc) ∧
    (∃ (s : State) (_ : Meets) (p : Port) (v : Word),
      s.dev.calm = true ∧ s.dev.takes p rGLB_LC_CTL ∧ s.dev.boot.changing = false ∧ s.dev.boot.lc < 2 ∧ fGLB_LC_CTL_TARGET.get v = 2 ∧ (List.range 3).any s.dev.keyValid = false) ∧
    (∃ (s : State) (m : Meets) (p : Port) (v : Word),
      s.dev.calm = true ∧ s.dev.takes p rGLB_LC_CTL ∧ s.dev.boot.changing = false ∧ s.dev.boot.lc < fGLB_LC_CTL_TARGET.get v ∧ (fGLB_LC_CTL_TARGET.get v ≠ 2 ∨ (List.range 3).any s.dev.keyValid = true) ∧ m.reached = 5) ∧
    (∃ (s : State) (p : Port) (v : Word),
      s.dev.calm = true ∧ s.dev.takes p rGLB_LC_CTL ∧ fGLB_LC_CTL_GO.get v = 0) ∧
    (∃ (s : State),
      s.dev.calm = true ∧ s.dev.pin.hotswap = false) ∧
    (∃ (s : State),
      s.dev.calm = true ∧ s.dev.pin.hotswap = false ∧ s.dev.get fPIN_HOTSWAP_STS_STATE = 0 ∧ s.dev.domOn 1 = true ∧ s.dev.boot.changing = false ∧ s.dev.on fGLB_BOOT_STS_SAFE = false ∧ ((s.dev.boot.loader = .idle ∧ s.dev.boot.released = true) ∨ s.dev.boot.loader = .halted) ∧ s.dev.timeRuns = true) ∧
    (∃ (s : State),
      s.dev.calm = true ∧ s.dev.pin.hotswap = false ∧ s.dev.get fPIN_HOTSWAP_STS_STATE = 0 ∧ s.dev.domOn 1 = true ∧ s.dev.boot.changing = false ∧ s.dev.on fGLB_BOOT_STS_SAFE = false ∧ ((s.dev.boot.loader = .idle ∧ s.dev.boot.released = true) ∨ s.dev.boot.loader = .halted) ∧ s.dev.timeRuns = false) ∧
    (∃ (s : State) (x : Detach),
      s.pending = [] ∧ s.dev.pin.detach = some x ∧ x.three = false ∧ 6 ≤ x.next ∧ s.dev.domOn 1 = true ∧ s.dev.pwr.jobs = [] ∧ s.dev.pin.due = false ∧ 2 * msUnits ≤ s.dev.detachTime x) ∧
    (∃ (s : State),
      s.dev.calm = true ∧ s.dev.pin.hotswap = false ∧ s.dev.get fPIN_HOTSWAP_STS_STATE = 0 ∧ s.dev.domOn 1 = true ∧ (s.dev.on fGLB_BOOT_STS_SAFE = true ∨ s.dev.boot.changing = true)) ∧
    (∃ (s : State),
      s.dev.calm = true ∧ s.dev.pin.hotswap = false ∧ s.dev.get fPIN_HOTSWAP_STS_STATE = 0 ∧ s.dev.domOn 1 = true ∧ s.dev.boot.changing = false ∧ s.dev.on fGLB_BOOT_STS_SAFE = false ∧ (s.dev.boot.loader = .lock ∨ s.dev.boot.loader = .run)) ∧
    (∃ (s : State),
      s.dev.calm = true ∧ s.dev.pin.hotswap = false ∧ s.dev.get fPIN_HOTSWAP_STS_STATE = 0 ∧ s.dev.domOn 1 = false) ∧
    (∃ (s : State),
      s.dev.calm = true ∧ s.dev.get fPIN_HOTSWAP_STS_STATE = 2) ∧
    (∃ (s : State),
      s.dev.calm = true ∧ s.dev.get fPIN_HOTSWAP_STS_STATE ≠ 2) :=
  ⟨⟨onDev live fun d => { d with boot := { d.boot with lc := 3 } }, {}, .spi, 3#32, by decide +kernel⟩,
   ⟨live, {}, .spi, 2#32, by decide +kernel⟩,
   ⟨onDev live fun d => { d with tbl := [(8, 7)], store := [(0x14C000, 5)] }, {}, .spi, 3#32, by decide +kernel⟩,
   ⟨live, .spi, 3#32, by decide +kernel⟩,
   ⟨live, by decide +kernel⟩,
   ⟨onDev (onDev live (netUp 3)) fun d => let d := cueUp (stxLive 5 d); { (d.putB (fSAPnn_CTL_EN 23) true) with boot := { d.boot with released := true } }, by decide +kernel⟩,
   ⟨onDev (onDev live (netUp 3)) fun d => let d := cueUp (stxLive 5 d); { (d.putB (fSAPnn_CTL_EN 23) true).put fCLK_STS_TPLL_LOCK 0 with boot := { d.boot with released := true } }, by decide +kernel⟩,
   ⟨onDev (onDev live (netUp 3)) fun d => let d := cueUp (stxLive 5 d); { (d.putB (fSAPnn_CTL_EN 23) true).put fPIN_HOTSWAP_STS_STATE 1 with boot := { d.boot with released := true }, pin := { hotswap := true, detach := some { since := d.mono - 140000000000, three := false, next := 6 } } }, { since := live.dev.mono - 140000000000, three := false, next := 6 }, by decide +kernel⟩,
   ⟨onDev live fun d => d.putB fGLB_BOOT_STS_SAFE true, by decide +kernel⟩,
   ⟨onDev live fun d => { (d.put fCLK_STS_SEL_ACT 0).put fCLK_SWITCH_SEL 0 with boot := { d.boot with released := true, loader := .lock, img := [], sect := 0 } }, by decide +kernel⟩,
   ⟨onDev live fun d => d.put (fPWR_DOMk_STS_STATE 1) 1, by decide +kernel⟩,
   ⟨onDev live fun d => { d.put fPIN_HOTSWAP_STS_STATE 2 with pin := { hotswap := true } }, by decide +kernel⟩,
   ⟨onDev live fun d => { d with pin := { hotswap := true } }, by decide +kernel⟩⟩

theorem test_witness_ErrorsAreFoundRepairedAndRecorded :
    (∃ (s : State) (array : Nat) (sub : Nat) (_ : Nat) (at_ : Nat),
      s.dev.calm = true ∧ array ≤ 5 ∧ array ≠ 2 ∧ sub < (arrayBanks array).1 ∧ (if array = 5 then s.dev.aonRuns = true else s.dev.domOn 1 = true) ∧ at_ = (kget 0 s.dev.integ.pos (32 * array + sub)) ∧ s.dev.poisoned array (32768 * sub + at_) = false ∧ kget false s.dev.integ.weak (8388608 * array + 32768 * sub + at_) = false ∧ kget false s.dev.integ.stuck (8388608 * array + 32768 * sub + at_) = false ∧ at_ + 1 ≠ (arrayBanks array).2 ∧ s.dev.domOn 1 = true) ∧
    (∃ (s : State) (array : Nat) (sub : Nat) (_ : Nat) (at_ : Nat) (_ : BitVec 8),
      s.dev.calm = true ∧ array ≤ 5 ∧ array ≠ 2 ∧ sub < (arrayBanks array).1 ∧ (if array = 5 then s.dev.aonRuns = true else s.dev.domOn 1 = true) ∧ at_ = (kget 0 s.dev.integ.pos (32 * array + sub)) ∧ s.dev.poisoned array (32768 * sub + at_) = false ∧ kget false s.dev.integ.weak (8388608 * array + 32768 * sub + at_) = false ∧ kget false s.dev.integ.stuck (8388608 * array + 32768 * sub + at_) = false ∧ at_ < (arrayBanks array).2 ∧ at_ + 1 ≠ (arrayBanks array).2 ∧ s.dev.integ.track.length < 64 ∧ (∀ t ∈ s.dev.integ.track, t.isRow array sub (at_ / 32) = false) ∧ 2 ≤ s.dev.get fINT_REPAIR_CFG_MIGRATE_N ∧ s.dev.domOn 1 = true) ∧
    (∃ (s : State) (array : Nat) (sub : Nat) (_ : Nat) (at_ : Nat) (_ : BitVec 8) (e : Track),
      s.dev.calm = true ∧ array ≤ 5 ∧ array ≠ 2 ∧ sub < (arrayBanks array).1 ∧ (if array = 5 then s.dev.aonRuns = true else s.dev.domOn 1 = true) ∧ at_ = (kget 0 s.dev.integ.pos (32 * array + sub)) ∧ s.dev.poisoned array (32768 * sub + at_) = false ∧ kget false s.dev.integ.weak (8388608 * array + 32768 * sub + at_) = false ∧ kget false s.dev.integ.stuck (8388608 * array + 32768 * sub + at_) = false ∧ at_ < (arrayBanks array).2 ∧ at_ + 1 ≠ (arrayBanks array).2 ∧ s.dev.integ.track = [e] ∧ e.isRow array sub (at_ / 32) = true ∧ s.dev.migrateN ≤ e.count + 1 ∧ s.dev.on fINT_REPAIR_CFG_MIGRATE_EN = true ∧ s.dev.integ.moving.length < (s.dev.subBank array sub).freeRows ∧ s.dev.domOn 1 = true) ∧
    (∃ (s : State) (sub : Nat) (_ : Nat) (at_ : Nat) (_ : BitVec 8) (array : Nat),
      s.dev.calm = true ∧ (array = 3 ∧ sub < 16) ∧ (if array = 5 then s.dev.aonRuns = true else s.dev.domOn 1 = true) ∧ at_ = (kget 0 s.dev.integ.pos (32 * array + sub)) ∧ s.dev.poisoned array (32768 * sub + at_) = false ∧ kget false s.dev.integ.weak (8388608 * array + 32768 * sub + at_) = false ∧ kget false s.dev.integ.stuck (8388608 * array + 32768 * sub + at_) = false ∧ at_ < 32767 ∧ s.dev.domOn 1 = true ∧ s.dev.stxOrder = [] ∧ s.dev.srxOrder = [] ∧ (∀ i ∈ List.range 4, s.dev.on (fNETn_GATE_CFG_EN i) = false) ∧ 32768 * sub + at_ < 0x71428) ∧
    (∃ (s : State) (_ : Nat) (_ : Nat) (_ : Nat),
      s.dev.calm = true ∧ s.dev.domOn 1 = true) ∧
    (∃ (s : State) (array : Nat) (sub : Nat) (row : Nat),
      s.dev.calm = true ∧ s.dev.integ.moving.contains (array, sub, row) = true ∧ (s.dev.subBank array sub).row0 = .free ∧ s.dev.domOn 1 = true) ∧
    (∃ (s : State) (array : Nat) (sub : Nat) (row : Nat),
      s.dev.calm = true ∧ s.dev.integ.moving.contains (array, sub, row) = false ∧ s.dev.domOn 1 = true) ∧
    (∃ (s : State),
      s.dev.calm = true ∧ s.dev.wbPend = true ∧ s.dev.integ.wbBusy = false ∧ s.dev.starting = false ∧ s.dev.on fGLB_NVM_CTL_RELEASE = false ∧ s.dev.domOn 1 = true) ∧
    (∃ (s : State),
      s.dev.calm = true ∧ (s.dev.wbPend = false ∨ s.dev.integ.wbBusy = true ∨ s.dev.starting = true ∨ s.dev.on fGLB_NVM_CTL_RELEASE = true ∨ s.dev.domOn 1 = false) ∧ s.dev.domOn 1 = true) ∧
    (∃ (s : State) (n : Nat) (q : Nat),
      s.dev.calm = true ∧ s.dev.integ.wbBusy = true ∧ s.dev.on fGLB_NVM_CTL_RELEASE = false ∧ s.dev.nvm.responds = true ∧ n = (s.dev.integ.recSeq + 1) % 2 ^ 32 ∧ q = 1 - s.dev.integ.recCopy ∧ s.dev.domOn 1 = true) ∧
    (∃ (s : State) (_ : Bool),
      s.dev.calm = true ∧ s.dev.integ.wbBusy = true ∧ s.dev.on fGLB_NVM_CTL_RELEASE = true ∧ s.dev.domOn 1 = true) ∧
    (∃ (s : State),
      s.dev.calm = true ∧ s.dev.integ.wbBusy = true ∧ s.dev.on fGLB_NVM_CTL_RELEASE = false ∧ s.dev.domOn 1 = true) ∧
    (∃ (s : State),
      s.dev.calm = true) ∧
    (∃ (s : State) (p : Port) (_ : Word),
      s.dev.calm = true ∧ s.dev.takes p rINT_FATAL_LOG) ∧
    (∃ (s : State) (p : Port) (v : Word),
      s.dev.calm = true ∧ s.dev.takes p rINT_INJ_CMD ∧ s.dev.boot.lc ≤ 1 ∧ fINT_INJ_CMD_ARRAY.get v ≤ 4) ∧
    (∃ (s : State) (p : Port) (v : Word),
      s.dev.calm = true ∧ s.dev.takes p rINT_INJ_CMD ∧ (2 ≤ s.dev.boot.lc ∨ 4 < fINT_INJ_CMD_ARRAY.get v)) :=
  ⟨⟨live, 5, 0, 0, 0, by decide +kernel⟩,
   ⟨onDev live fun d => d.put fINT_REPAIR_CFG_MIGRATE_N 2, 5, 0, 0, 0, 0x81#8, by decide +kernel⟩,
   ⟨onDev live fun d => { (d.put fINT_REPAIR_CFG_MIGRATE_N 2).putB fINT_REPAIR_CFG_MIGRATE_EN true with integ := { track := [{ array := 4, sub := 0, row := 0, count := 1 }] } }, 4, 0, 0, 0, 0x81#8, { array := 4, sub := 0, row := 0, count := 1 }, by decide +kernel⟩,
   ⟨live, 14, 0, 0, 0x55#8, 3, by decide +kernel⟩,
   ⟨onDev live fun d => { d with integ := { track := [{ array := 4, sub := 0, row := 9, count := 1 }] } }, 4, 0, 9, by decide +kernel⟩,
   ⟨onDev live fun d => { d with integ := { moving := [(3, 15, 1023)] } }, 3, 15, 1023, by decide +kernel⟩,
   ⟨live, 3, 15, 1023, by decide +kernel⟩,
   ⟨onDev live fun d => { d with wbPend := true }, by decide +kernel⟩,
   ⟨live, by decide +kernel⟩,
   ⟨onDev live fun d => { d with integ := { wbBusy := true, recSeq := 4294967295 }, nvm := { responds := true }, lanesRec := [31] }, 0, 1, by decide +kernel⟩,
   ⟨onDev live fun d => { d.putB fGLB_NVM_CTL_RELEASE true with integ := { wbBusy := true } }, true, by decide +kernel⟩,
   ⟨onDev live fun d => { d with integ := { wbBusy := true } }, by decide +kernel⟩,
   ⟨live, by decide +kernel⟩,
   ⟨onDev live fun d => d.setReg rINT_FATAL_LOG 0x81000000, .spi, 0#32, by decide +kernel⟩,
   ⟨live, .spi, 0x02040000#32, by decide +kernel⟩,
   ⟨onDev live fun d => { d with boot := { d.boot with lc := 2 } }, .spi, 0x02040000#32, by decide +kernel⟩⟩

theorem test_witness_ExternalMemoryComesIntoService :
    (∃ (s : State) (p : Port) (v : Word),
      s.dev.calm = true ∧ s.dev.takes p rDDR_CTL ∧ fDDR_CTL_EN.put v 1 = fDDR_CTL_EN.put (s.dev.reg rDDR_CTL) 1 ∧ s.dev.on fDDR_CTL_EN = false ∧ s.dev.ddrCheck = 0 ∧ (s.dev.on fDDR_STS_TRAINED = false ∨ s.dev.ddr.geom ≠ s.dev.reg rDDR_GEOM) ∧ s.dev.on fDDR_STS_OUT = false) ∧
    (∃ (s : State) (p : Port) (v : Word),
      s.dev.calm = true ∧ s.dev.takes p rDDR_CTL ∧ fDDR_CTL_EN.put v 1 = fDDR_CTL_EN.put (s.dev.reg rDDR_CTL) 1 ∧ s.dev.on fDDR_CTL_EN = false ∧ s.dev.ddrCheck = 0 ∧ s.dev.on fDDR_STS_TRAINED = true ∧ s.dev.ddr.geom = s.dev.reg rDDR_GEOM ∧ s.dev.on fDDR_STS_OUT = true) ∧
    (∃ (s : State) (p : Port) (v : Word),
      s.dev.calm = true ∧ s.dev.takes p rDDR_CTL ∧ fDDR_CTL_EN.put v 0 = fDDR_CTL_EN.put (s.dev.reg rDDR_CTL) 0 ∧ s.dev.on fDDR_CTL_EN = true ∧ s.dev.ddr.phase ≠ 1 ∧ s.dev.ddr.phase ≠ 2 ∧ (s.dev.anv.block.all (fun b => b.jobs.all fun r => (s.dev.reader r.bank r.entry).isNone) = true)) ∧
    (∃ (s : State),
      s.dev.calm = true ∧ s.dev.on fDDR_CTL_EN = true ∧ s.dev.domOn 14 = true ∧ s.dev.selAct = true ∧ s.dev.ddr.phase = 1) ∧
    (∃ (s : State) (q : Nat),
      s.dev.calm = true ∧ s.dev.wiping = true ∧ q < 4 ∧ (∀ r ∈ List.range 4, s.dev.regionReady r = decide (r < q)) ∧ s.dev.domOn 14 = true) ∧
    (∃ (s : State),
      s.dev.calm = true ∧ s.dev.wiping = true ∧ s.dev.on fDDR_STS_OUT = true ∧ s.dev.domOn 14 = true) :=
  ⟨⟨onDev live fun d => d.setReg rDDR_GEOM 0x104, .spi, 1#32, by decide +kernel⟩,
   ⟨onDev live fun d => { (d.puts [(fDDR_STS_TRAINED, 1), (fDDR_STS_OUT, 1)]).setReg rDDR_GEOM 0x104 with ddr := { geom := 0x104 } }, .spi, 1#32, by decide +kernel⟩,
   ⟨onDev live fun d => { d.puts [(fDDR_CTL_EN, 1), (fDDR_STS_IN_SERVICE, 1), (fDDR_STS_TRAINED, 1)] with ddr := { posted := [{ region := 3, items := [(5, 9)], bytes := 8 }] } }, .spi, 0#32, by decide +kernel⟩,
   ⟨onDev live fun d => { d.puts [(fDDR_CTL_EN, 1), (fDDR_STS_OUT, 1)] with ddr := { phase := 1 } }, by decide +kernel⟩,
   ⟨onDev live fun d => (d.puts [(fDDR_CTL_EN, 1), (fDDR_STS_TRAINED, 1), (fDDR_STS_WIPE_BUSY, 1)]).setReg rDDR_READY 7, 3, by decide +kernel⟩,
   ⟨onDev live fun d => { d.puts [(fDDR_CTL_EN, 1), (fDDR_STS_TRAINED, 1), (fDDR_STS_WIPE_BUSY, 1), (fDDR_STS_OUT, 1)] with wipeDone := false }, by decide +kernel⟩⟩

theorem test_witness_ExternalMemoryErrorsAndWrites :
    (∃ (s : State) (p : Port) (v : Word) (c : Nat),
      s.dev.calm = true ∧ s.dev.takes p rDDR_CTL ∧ fDDR_CTL_EN.put v 1 = fDDR_CTL_EN.put (s.dev.reg rDDR_CTL) 1 ∧ s.dev.on fDDR_CTL_EN = false ∧ c = s.dev.ddrCheck ∧ c ≠ 0) ∧
    (∃ (s : State) (k : Fin 3),
      s.dev.calm = true ∧ s.dev.on fDDR_CTL_EN = true ∧ s.dev.domOn 14 = true ∧ s.dev.selAct = true ∧ k ≠ 0 ∧ s.dev.ddr.phase ≠ 0) ∧
    (∃ (s : State),
      s.dev.calm = true ∧ s.dev.wiping = false ∧ s.dev.domOn 14 = true) ∧
    (∃ (s : State) (c : Fin 512) (_ : Nat) (_ : Nat) (_ : Nat) (k : Nat),
      s.dev.calm = true ∧ s.dev.ddrIn = true ∧ s.dev.reading (.staging c) = true ∧ k = kget 0 s.dev.ddr.tries (65536 + c.val) ∧ k < 2 ∧ s.dev.domOn 14 = true) ∧
    (∃ (s : State) (w : DramReader) (_ : Nat) (_ : Nat) (_ : Nat),
      s.dev.calm = true ∧ (s.dev.ddrIn = false ∨ s.dev.reading w = false) ∧ s.dev.domOn 14 = true) ∧
    (∃ (s : State) (_ : Nat) (beat : Nat) (_ : Nat),
      s.dev.calm = true ∧ s.dev.domState 1 = 0 ∧ s.dev.ddrIn = true ∧ s.dev.on fDDR_CTL_SCRUB_EN = true ∧ kget false s.dev.ddr.bad beat = false ∧ s.dev.domOn 14 = true) ∧
    (∃ (s : State) (_ : Nat) (beat : Nat) (_ : Nat),
      s.dev.calm = true ∧ s.dev.ddrIn = true ∧ s.dev.on fDDR_CTL_SCRUB_EN = true ∧ kget false s.dev.ddr.bad beat = false ∧ s.dev.domOn 14 = true) ∧
    (∃ (s : State),
      s.dev.calm = true ∧ s.dev.on fDDR_CTL_EN = true ∧ s.dev.domOn 14 = true ∧ s.dev.selAct = true ∧ s.dev.ddr.alerts.length < 15) ∧
    (∃ (s : State),
      s.dev.calm = true ∧ s.dev.on fDDR_CTL_EN = true ∧ s.dev.domOn 14 = true ∧ s.dev.selAct = true ∧ s.dev.domState 1 = 0 ∧ s.dev.ddrIn = true ∧ s.dev.ddr.alerts.length = 15 ∧ (∀ t ∈ s.dev.ddr.alerts, s.dev.mono - t < 1000000000 * 65536) ∧ s.dev.on fDDR_STS_OUT = false) ∧
    (∃ (s : State) (w : Posted) (t : List Posted) (i : Nat) (x : Int),
      s.dev.calm = true ∧ s.dev.ddrIn = true ∧ s.dev.ddr.posted = w :: t ∧ w.items = [(i, x)] ∧ w.region = 3 ∧ w.mark = none ∧ kget false s.dev.ddr.bad (s.dev.itemBeat 3 i) = false ∧ s.dev.domOn 14 = true) ∧
    (∃ (s : State),
      s.dev.calm = true ∧ (s.dev.ddr.posted = [] ∨ s.dev.ddrIn = false) ∧ s.dev.domOn 14 = true) :=
  ⟨⟨onDev live fun d => (d.setReg rDDR_GEOM 0x104).put fDDR_REGION_CFG_DLY_SLOTS 4096, .spi, 1#32, 2, by decide +kernel⟩,
   ⟨onDev live fun d => { d.puts [(fDDR_CTL_EN, 1)] with ddr := { phase := 1 } }, 2, by decide +kernel⟩,
   ⟨live, by decide +kernel⟩,
   ⟨onDev live fun d => let d := (srxLive 511 (cw 1023 [(20, 8)] d)).setSrx 511 { r := some 0, unstaged := [0] }; { d.puts [(fDDR_CTL_EN, 1), (fDDR_STS_IN_SERVICE, 1), (fDDR_STS_TRAINED, 1)] with ddr := { tries := [(66047, 1)] } }, 511, 0, 7, 3, 1, by decide +kernel⟩,
   ⟨live, (.staging 511), 0, 0, 0, by decide +kernel⟩,
   ⟨onDev live fun d => { d.puts [(fDDR_CTL_EN, 1), (fDDR_STS_IN_SERVICE, 1), (fDDR_STS_TRAINED, 1), (fDDR_CTL_SCRUB_EN, 1)] with ddr := { phase := 0 } }, 1, 5, 9, by decide +kernel⟩,
   ⟨onDev live fun d => { d.puts [(fDDR_CTL_EN, 1), (fDDR_STS_IN_SERVICE, 1), (fDDR_STS_TRAINED, 1), (fDDR_CTL_SCRUB_EN, 1)] with ddr := { phase := 0 } }, 1, 5, 9, by decide +kernel⟩,
   ⟨onDev live fun d => { d.puts [(fDDR_CTL_EN, 1), (fDDR_STS_IN_SERVICE, 1), (fDDR_STS_TRAINED, 1)] with ddr := { phase := 0 } }, by decide +kernel⟩,
   ⟨onDev live fun d => { d.puts [(fDDR_CTL_EN, 1), (fDDR_STS_IN_SERVICE, 1), (fDDR_STS_TRAINED, 1)] with ddr := { alerts := List.replicate 15 0, posted := [{ region := 3, items := [], bytes := 8 }] } }, by decide +kernel⟩,
   ⟨onDev live fun d => { d.puts [(fDDR_CTL_EN, 1), (fDDR_STS_IN_SERVICE, 1), (fDDR_STS_TRAINED, 1)] with ddr := { posted := [{ region := 3, items := [(5, 9)], bytes := 8 }] } }, { region := 3, items := [(5, 9)], bytes := 8 }, [], 5, 9, by decide +kernel⟩,
   ⟨live, by decide +kernel⟩⟩

theorem test_witness_CancelEndsAPendingSwap :
    (∃ (s : State) (p : Port) (_ : Word) (w : AnvSwap) (n : Fin 64),
      s.dev.calm = true ∧ s.dev.takes p rANV_SCENE_CMD ∧ s.dev.anv.swap = some w ∧ w.tcmp = some n.val ∧ s.dev.get (fTIME_TCMPnn_OWNER_OWNER n.val) = 0x80) ∧
    (∃ (s : State) (p : Port) (_ : Word) (w : AnvSwap),
      s.dev.calm = true ∧ s.dev.takes p rANV_SCENE_CMD ∧ s.dev.anv.swap = some w ∧ w.tcmp = none) ∧
    (∃ (s : State) (p : Port) (_ : Word),
      s.dev.calm = true ∧ s.dev.takes p rANV_SCENE_CMD ∧ s.dev.anv.swap = none) :=
  ⟨⟨onDev live fun d => { (d.puts [(fANV_CTL_EN, 1), (fANV_STS_SCENE, 1), (fTIME_TCMPnn_OWNER_OWNER 63, 0x80)]) with anv := { d.anv with swap := some { bank := 1, xfade := 7, tcmp := some 63 } } }, .spi, 0#32, { bank := 1, xfade := 7, tcmp := some 63 }, 63, by decide +kernel⟩,
   ⟨onDev live fun d => { (d.putB fANV_CTL_EN true).put fANV_STS_SCENE 1 with anv := { d.anv with swap := some { bank := 1, xfade := 7 } } }, .spi, 0#32, { bank := 1, xfade := 7 }, by decide +kernel⟩,
   ⟨onDev live fun d => (d.putB fANV_CTL_EN true).put fANV_STS_SCENE 2, .spi, 0#32, by decide +kernel⟩⟩

theorem test_witness_SpiAbortsKeepWhatWasMade :
    (∃ (s : State) (m : Meets) (x : SpiXact) (k : Nat) (it : Nat) (_ : Bool) (e : Dev),
      s.dev.calm = true ∧ s.dev.domOn 1 = true ∧ spiGood x.op = true ∧ spiRead x.op = false ∧ (5 ≤ k ∨ it ≠ 0) ∧ e = (s.dev.spiWrites m x.op x.addr.toNat 0 (x.data.take (min ((k - 5) / 4) (x.count + 1))) {}).2 ∧ e.calm = true) ∧
    (∃ (s : State) (_ : Meets) (x : SpiXact) (k : Nat) (it : Nat) (_ : Bool),
      s.dev.calm = true ∧ s.dev.domOn 1 = true ∧ spiGood x.op = true ∧ spiRead x.op = false ∧ k < 9 ∧ it = 0) ∧
    (∃ (s : State) (_ : Meets) (x : SpiXact) (k : Nat) (it : Nat) (_ : Bool) (e : Dev),
      s.dev.calm = true ∧ s.dev.domOn 1 = true ∧ spiGood x.op = true ∧ spiRead x.op = true ∧ (5 ≤ k ∨ it ≠ 0) ∧ e = (s.dev.spiReads x.op x.addr.toNat (x.late.filter (· < it)) 0 (min (it + 1) (x.count + 1)) {}).2 ∧ e.calm = true) ∧
    (∃ (s : State) (_ : Meets) (x : SpiXact) (k : Nat) (it : Nat) (_ : Bool) (e : Dev),
      s.dev.calm = true ∧ s.dev.domOn 1 = true ∧ spiGood x.op = false ∧ (5 ≤ k ∨ it ≠ 0) ∧ e = s.dev.busError .spi x.addr.toNat 7 ∧ s.dev.calm = true) ∧
    (∃ (s : State) (_ : Meets) (_ : SpiXact) (k : Nat) (_ : Bool),
      s.dev.calm = true ∧ s.dev.domOn 1 = true ∧ k < 5) :=
  ⟨⟨live, {}, { op := 0, addr := BitVec.ofNat 24 (rCUE_TBL_DATAk 15), count := 1, data := [5, 6], late := none }, 12, 0, false, (live.dev.spiWrites {} 0 (rCUE_TBL_DATAk 15) 0 ([5, 6].take (min 1 (1 + 1))) {}).2, by decide +kernel⟩,
   ⟨live, {}, { op := 0, addr := BitVec.ofNat 24 (rCUE_TBL_DATAk 15), count := 1, data := [5, 6], late := none }, 8, 0, true, by decide +kernel⟩,
   ⟨live, {}, { op := 0x80, addr := BitVec.ofNat 24 (rCUE_TBL_DATAk 15), count := 1, data := [], late := none }, 5, 2, true, (live.dev.spiReads 0x80 (rCUE_TBL_DATAk 15) none 0 (min (2 + 1) (1 + 1)) {}).2, by decide +kernel⟩,
   ⟨live, {}, { op := 0x07, addr := BitVec.ofNat 24 (rCUE_TBL_DATAk 15), count := 1, data := [], late := none }, 6, 0, false, (live.dev.busError .spi (rCUE_TBL_DATAk 15) 7), by decide +kernel⟩,
   ⟨live, {}, { op := 0x07, addr := BitVec.ofNat 24 (rCUE_TBL_DATAk 15), count := 1, data := [], late := none }, 4, false, by decide +kernel⟩⟩

end Sys2Proof.Tests
end

