-- ==== Sys2Proof/Tests/Slice0.lean ====
section
/-! SUPPORT. The model's own tests: what `Instr.wf` refuses, the worked examples of the spec, and standard answers of the
functions that the spec takes from other standards. -/

set_option Elab.async false

open Sys2Proof Sys2Proof.Machine

namespace Sys2Proof.Tests

/-- The device after a command. -/
def after (c : Instr) (d : Dev) : Dev :=
  match exec c { dev := d, pending := [] } with
  | .next t => t.dev
  | _ => d

/-- A device with words of table memory. -/
def tblOf (ws : List (Nat × Nat)) : Dev := { tbl := ws.foldl (fun m x => writeWord64 m x.1 x.2) [] }

/-- What a start finds on a board with nothing strapped and no flash. -/
def bareStart : StartInfo :=
  { step := 0, grade := false, haloRole := false, bootSel := 0, cmpAsel := 0, avs := 0, bist := [], lanes := [], nvm := none, reread := none }

/-! ## Ill-formed commands -/

theorem test_wf_accepts : (Instr.scrubRead 5 0 16383 none).wf = true ∧ (Instr.resetRelease bareStart).wf = true ∧
    (Instr.spiTransaction {} { op := 0, addr := 0x10, count := 1, data := [1, 2], late := none }).wf = true := by decide

theorem test_wf_refuses_memory : (Instr.scrubRead 6 0 0 none).wf = false ∧ (Instr.scrubRead 0 24 0 none).wf = false ∧
    (Instr.scrubRead 3 16 0 none).wf = false ∧ (Instr.scrubRead 4 1 0 none).wf = false ∧
    (Instr.scrubRead 0 0 32768 none).wf = false ∧ (Instr.rowMigrated 0 0 1024).wf = false ∧
    (Instr.trackerEntryExpiry 5 1 0).wf = false ∧ (Instr.ddrReadFail (.staging 0) 2 0 0).wf = false ∧
    (Instr.ddrReadFail (.staging 0) 0 0 256).wf = false ∧ (Instr.ddrPatrolRead 2 0 none).wf = false ∧
    (Instr.dramReadReturn 0 0 (some (2, 0, 0))).wf = false := by decide

theorem test_wf_refuses_crossings : (Instr.crossingWordDeliver (.sample 43 0 0 0 0 0)).wf = false ∧
    (Instr.crossingWordDeliver (.sample 0 43 0 0 0 0)).wf = false ∧ (Instr.crossingWordDeliver (.sample 0 0 0 0 0 16)).wf = false := by decide

theorem test_wf_refuses_windows : (Instr.windowWriteLower .spi 0x3FFFF8 0).wf = false ∧
    (Instr.windowWriteLower .spi 0x800000 0).wf = false ∧ (Instr.windowWriteLower .spi 0x400004 0).wf = false ∧
    (Instr.windowWriteUpper .spi 0x400000 0).wf = false ∧ (Instr.windowReadLower .spi 0x400004 .b32).wf = false ∧
    (Instr.windowReadLower .spi 0x400000 .b8).wf = false := by decide

theorem test_wf_refuses_audio : (Instr.sensorSample [1]).wf = false ∧ (Instr.sapFrame 0 0 [] 0 false).wf = false ∧
    (Instr.asrcLock 0 (2 ^ 32)).wf = false := by decide

theorem test_wf_refuses_frames : (Instr.linkUp 0 8).wf = false ∧
    (Instr.frameReceive 0 { bytes := [1, 2, 3], ts := 0, pcsErr := false, smd := .express, steps := 0 } 0).wf = false ∧
    (Instr.t1sFrameReceive { bytes := [1, 2, 3] }).wf = false ∧ (Instr.cueFrameDeadline 0).wf = false ∧
    (Instr.mgmtRequest { reached := 0 } false).wf = false := by decide

theorem test_wf_refuses_timecode : (Instr.ltcInFrame 4 0 0 0 0 0 false).wf = false ∧ (Instr.ltcInFrame 0 24 0 0 0 0 false).wf = false ∧
    (Instr.ltcInFrame 0 0 60 0 0 0 false).wf = false ∧ (Instr.ltcInFrame 0 0 0 60 0 0 false).wf = false ∧
    (Instr.ltcInFrame 0 0 0 0 30 0 false).wf = false := by decide

theorem test_wf_refuses_accesses : (Instr.hqFlush 0 .spi 0 { reached := 6 }).wf = false ∧
    (Instr.spiTransaction {} { op := 0, addr := 0, count := 1, data := [1], late := none }).wf = false ∧
    (Instr.spiTransaction {} { op := 0x80, addr := 0, count := 256, data := [], late := none }).wf = false ∧
    (Instr.spiTransaction { reached := 0 } { op := 0x80, addr := 0, count := 0, data := [], late := none }).wf = false ∧
    (Instr.spiAbort {} { op := 0x80, addr := 0, count := 0, data := [], late := none } 0 2 false).wf = false ∧
    (Instr.cmpWrite { reached := 0 } { dev := 0, addr := 0 } []).wf = false ∧
    (Instr.cmpRead { reached := 0 } { dev := 0, addr := 0 } 1).wf = false ∧
    (Instr.cmpAbort { reached := 0 } { dev := 0, addr := 0 } []).wf = false ∧ (Instr.registerWrite { reached := 0 } .spi 0 .b32 0).wf = false := by decide

theorem test_wf_refuses_power : (Instr.clkSwitch { reached := 0 } .spi 0).wf = false ∧
    (Instr.pwrReqWrite 1 { bad := [.flop 21 0] } .spi 0).wf = false ∧ (Instr.cmpWake { dev := 0, bad := [.sram 6 0] }).wf = false ∧
    (Instr.linkEnergy 0 [.sram 0 24]).wf = false ∧ (Instr.t1sLinkEnergy [.sram 4 1]).wf = false ∧
    (Instr.wakeFrame [.sram 2 16]).wf = false ∧ (Instr.rqlStep { reached := 9 } 0 none).wf = false ∧
    (Instr.lcGo { reached := 0 } .spi 0).wf = false := by decide

theorem test_wf_refuses_starts : (Instr.resetRelease { bareStart with lanes := [3, 3] }).wf = false ∧
    (Instr.resetRelease { bareStart with bist := [{ array := 0, sub := 0, cells := [], good0 := true, good1 := true, cols := 3 }] }).wf = false ∧
    (Instr.resetRelease { bareStart with bist := [{ array := 0, sub := 0, cells := [(1024, 0)], good0 := true, good1 := true, cols := 2 }] }).wf = false := by
  decide

/-! ## No word spells a command; memory after reset is in its form -/

theorem test_no_word_decodes : decodeTableWord 32 0x12345678 = none := rfl

theorem test_reset_memory_canonical : Memory.wf State.reset.dev.tbl = true ∧ Memory.wf State.reset.dev.store = true ∧
    kwf 0 State.reset.dev.regs = true := by decide +kernel

/-! ## Registers by their instance templates (R441) -/

theorem test_templates : rMCGn_SIDX_L 3 = 0x050420 ∧ rPTP_PTDd_STS 2 = 0x040304 ∧ rTIME_TCMPnn_CTL 12 = 0x031180 ∧
    rSAPnn_SLOT_MASK 7 = 0x0C1C08 ∧ rNETn_PAUSE_STS 2 = 0x0E2468 ∧ rHQnn_LEVEL 12 = 0x140C08 := by decide

/-- "SAP24_SLOT_MASK" does not exist: code 3. -/
theorem test_no_such_instance : State.reset.dev.accCheck .spi 0x0C6008 .b32 true = some 3 := by decide +kernel

/-! ## Worked examples -/

/-- R18: CORE has index n + 1 when n + 3 arrives: two samples' work, one tick coalesced. -/
theorem test_stalled_core :
    let d := stxLive 0 (({} : Dev).puts [(fCLK_STS_SEL_ACT, 1)])
    let t := after (.tickWord 0 .core) (d.setPath 0 .core { arrived := some { sidx := 13, rebase := false }, idx := some 11 })
    (t.path 0 .core).idx = some 13 ∧ t.reg rGLB_TICK_COAL_CNT = 1 := by decide +kernel

/-- R37: TCMP12 is held by the gate list of P1 and PPS_OUT asks for it. -/
theorem test_claim_conflict : ((({} : Dev).put (fTIME_TCMPnn_OWNER_OWNER 12) 0x41).claimTcmp 12 0x60).1 = false ∧
    ((({} : Dev).put (fTIME_TCMPnn_OWNER_OWNER 12) 0x41).claimTcmp 12 0x60).2.reg rTIME_TCMP_CONFLICT = 0x8C416001 := by decide +kernel

/-- R42: a value one beyond the limit is replaced and counted; the limit itself is taken. -/
theorem test_addend_clamp : (({} : Dev).setAddend 0x020083126E99).addend = 0x020083126E98 ∧
    (({} : Dev).setAddend 0x020083126E99).reg rTIME_ADDEND_CLAMP_CNT = 1 ∧
    (({} : Dev).setAddend 0x01FF7CED9168).reg rTIME_ADDEND_CLAMP_CNT = 0 := by decide +kernel

/-- R60: the correction field and the checksum of the example. -/
theorem test_udp_checksum : udpFix false 0x5C1E (beBytes 8 0x000000002A300000) (beBytes 8 0x0000000032ADA000) = 0xB3A0 := by decide +kernel

/-- R59: a correction field that saturates. -/
theorem test_correction_saturates : cfAdd 0x7FFFFFFFFFFFFFFE 5 = (0x7FFFFFFFFFFFFFFF, true) ∧
    cfAdd 0x2A300000 0x087DA000 = (0x32ADA000, false) := by decide +kernel

/-- R41: the first edge of a time base at its last nanoseconds. -/
theorem test_time_base_carries : ({ sec := 0xFFFFFFFFFFFF, ns := 999999999, frac := 0 } : TimeSt).edge 0x020000000000 =
    { sec := 0, ns := 1, frac := 0 } := by decide +kernel

/-- R488: the power cap at 103 °C, and at 120 °C. -/
theorem test_power_cap :
    let d := tblOf [(0x2EE000, 0xFFFD800000001770), (0x2EE008, 0x0005500000001770), (0x2EE010, 0x00064000000005DC),
      (0x2EE018, 0x00069000000003E8), (0x2EE020, 0x00073000000001F4)]
    curveWhole (d.curveAt 8 1648 1 * 2 ^ 24) = 1200 * 2 ^ 24 ∧ d.curveAt 8 1920 1 = 500 * 2 ^ 24 := by decide +kernel

/-- R197: the example of an equaliser band at entry 0x120 of bank 0. -/
theorem test_job_entry :
    let j := (tblOf [(0x41200, 0x4AC03040100C0000), (0x41208, 0x000298000002980B)]).job 0 0x120
    j.typ = 4 ∧ j.cls = 2 ∧ j.en = true ∧ j.deadline = 0xC0 ∧ j.dst = 0x3040 ∧ j.src = 0x100C := by decide +kernel

/-- R429: a write of MCG3_CTL that would change FAMILY while EN is 1 is recorded, and kept out. -/
theorem test_ignore_record :
    let d := after (.registerWrite {} .spi 0x050400 .b32 3) (({} : Dev).put (fMCGn_CTL_EN 3) 1)
    d.ign = [{ port := 0, addr := 0x050400, block := 5, inst := 3 }] ∧ d.reg 0x050400 = 1 ∧ d.reg rGLB_IGN_CNT = 1 ∧
      (d.port .spi).ign = true := by decide +kernel

theorem test_ignore_pop :
    let d := after (.ignRecPop .spi) { ({} : Dev) with ign := [{ port := 0, addr := 0x050400, block := 5, inst := 3 }] }
    (d.port .spi).resp = [0x80050400] ∧ d.latched .spi rGLB_IGN_REC_H = some 0x00050003 ∧ d.ign = [] := by decide +kernel

/-- R529: row 679 of sub-bank 5 of the stream buffers migrates. -/
theorem test_row_migrates :
    let d := after (.rowMigrated 1 5 679) { ({} : Dev) with integ := { moving := [(1, 5, 679)] } }
    d.reg rINT_MIGRATE_LOG = 0x896A7000 ∧ d.regValue rINT_SPARE_MIN = 0x12 ∧ d.reg rINT_MIGRATE_CNT = 1 := by decide +kernel

/-- R404: a 67-byte frame is pushed into HQ05, which holds 1 020 words: five words are lost and the head frame is torn. -/
theorem test_queue_overruns :
    let w : HqWord := { data := 0, last := false, nbytes := 8 }
    let one : List HqWord := [{ data := 0, last := true, nbytes := 8 }]
    let ws := List.replicate 186 w ++ one ++ (List.replicate 12 one).flatten ++ List.replicate 820 w ++ one
    let d := (({} : Dev).setHq 5 { words := ws, wp := 1020, wpDup := 1020, above := true }).puts [(fHQnn_CFG_EN 5, 1), (fHQnn_CFG_PROD 5, 1), (fHQnn_WM_HIGH 5, 768), (fHQnn_WM_LOW 5, 256)]
    let e := (d.hqPush 5 1 (List.replicate 67 7)).hqFinish 5
    (e.hqOf 5).words.length = 1024 ∧ e.reg (rHQnn_LOST_CNT 5) = 5 ∧ e.reg (rHQnn_TORN_CNT 5) = 1 ∧
      e.regValue (rHQnn_LEVEL 5) = 0x800F0400 := by decide +kernel

/-! ## Answers from the standards that the spec names -/

/-- FIPS 180-4: SHA-256 of "abc". -/
theorem test_sha256 : beNat (sha256 [0x61, 0x62, 0x63]) =
    0xBA7816BF8F01CFEA414140DE5DAE2223B00361A396177A9CB410FF61F20015AD := by decide +kernel

/-- IEEE 802.3: the CRC of "123456789". -/
theorem test_crc32 : crc32 [0x31, 0x32, 0x33, 0x34, 0x35, 0x36, 0x37, 0x38, 0x39] = 0xCBF43926 := by decide +kernel

/-! ## Witnesses of the statements written without clauses -/

theorem test_witness_MemoriesKeepTheirForm :
    (∃ (s : State) (p : Port) (a : BitVec 24) (off : Nat), Memory.wf s.dev.tbl = true ∧ Memory.wf s.dev.store = true ∧
      s.dev.calm = true ∧ s.dev.takes p a.toNat ∧ s.dev.place p a.toNat = .table off) ∧
    (∃ (s : State) (p : Port) (a : BitVec 24) (off : Nat), Memory.wf s.dev.tbl = true ∧ Memory.wf s.dev.store = true ∧
      s.dev.calm = true ∧ s.dev.takes p a.toNat ∧ s.dev.place p a.toNat = .anvil off) :=
  ⟨⟨onDev live fun d => { d with tbl := [(7, 1)] }, .spi, 0x5FFFFC, 0x1FFFFC, by decide +kernel⟩,
   ⟨live, .spi, 0x7FFFFC, 0x1FFFFC, by decide +kernel⟩⟩

theorem test_witness_ResetsDuringALifeCycleChange : ∃ (s : State) (m : Meets) (p : Port) (v : Word),
    s.dev.takes p rGLB_LC_CTL ∧ s.dev.boot.changing = false ∧ s.dev.boot.lc < fGLB_LC_CTL_TARGET.get v ∧
    (fGLB_LC_CTL_TARGET.get v ≠ 2 ∨ (List.range 3).any s.dev.keyValid = true) ∧ 1 ≤ m.reached ∧ m.reached ≤ 4 ∧
    s.dev.on fGLB_WDOG_CFG_EN = true :=
  ⟨onDev live fun d => { d.putB fGLB_WDOG_CFG_EN true with boot := { d.boot with lc := 2 } }, { reached := 4 }, .cmp, 3#32, by decide +kernel⟩

theorem test_witness_TimeBaseAddsItsAddend : ∃ (d : Dev) (sum ns : Nat), d.timeRuns = true ∧
    sum = d.time.frac.toNat + d.addend % 2 ^ 40 ∧ ns = d.time.ns.toNat + d.addend / 2 ^ 40 + sum / 2 ^ 40 ∧ 1000000000 ≤ ns :=
  ⟨(setTime 999999998 live.dev), 0, 1000000000, by decide +kernel⟩

theorem test_witness_WindowsShowOneHalf : ∃ (p : Port) (a : Nat), (∀ n, p ≠ .rql n) ∧ 0x400000 ≤ a ∧ a ≤ 0x5FFFFF :=
  ⟨.spi, 0x5FFFFF, ⟨(fun n h => nomatch h), by decide, by decide⟩⟩

theorem test_witness_AStepRunsTheFrontCommand : ∃ s : State, s.pending = [] := ⟨State.reset, rfl⟩

theorem test_witness_EveryRunGoesOn : ∃ (i : Instr) (s : State), s.dev.atWork i = false :=
  ⟨.mioReqRetx, onDev live (·.put (fPWR_DOMk_STS_STATE 1) 1), by decide +kernel⟩

theorem test_witness_InterruptBallsFollowTheirCauses :
    (∃ s t : State, s.dev.IrqShown ∧ step s = .next t) ∧ (∃ (n : Nat) (s t : State), s.dev.IrqShown ∧ run n s = .next t ∧ n = 1) :=
  ⟨⟨onDev live Dev.showIrq, _, ⟨rfl, rfl⟩, rfl⟩, ⟨1, onDev live Dev.showIrq, _, ⟨rfl, rfl⟩, rfl, rfl⟩⟩

end Sys2Proof.Tests
end

section
/-! What a command leaves as it was: registers outside a list, and the parts of the device that `Dev.calm` reads. -/

namespace Sys2Proof.Machine

open Sys2Proof

variable {d e : Dev} {L : List Nat}

/-! ## Registers outside a list -/

theorem Dev.sameRegs.refl (d : Dev) (L : List Nat) : d.sameRegs d L := fun _ _ => rfl

theorem Dev.sameRegs.trans {f : Dev} (h : d.sameRegs e L) (k : e.sameRegs f L) : d.sameRegs f L :=
  fun a ha => (k a ha).trans (h a ha)

theorem Dev.sameRegs.mono {M : List Nat} (h : d.sameRegs e L) (hLM : L ⊆ M) : d.sameRegs e M := fun a ha => h a fun hL => ha (hLM hL)

theorem Dev.sameRegs.of_regs {f : Dev} (h : d.sameRegs e L) (k : f.regs = e.regs) : d.sameRegs f L := fun a ha => by
  rw [← h a ha]; exact congrArg (kget 0 · a) k

theorem Dev.sameRegs.setReg (h : d.sameRegs e L) {a : Nat} (ha : a ∈ L) (w : Word) : d.sameRegs (e.setReg a w) L := fun b hb => by
  have hab : a ≠ b := fun hab => hb (hab ▸ ha)
  rw [Dev.reg_setReg, if_neg hab, h b hb]

theorem Dev.sameRegs.put (h : d.sameRegs e L) {f : Fld} (hf : f.addr ∈ L) (v : Nat) : d.sameRegs (e.put f v) L := h.setReg hf _

theorem Dev.sameRegs.putB (h : d.sameRegs e L) {f : Fld} (hf : f.addr ∈ L) (b : Bool) : d.sameRegs (e.putB f b) L := h.put hf _

theorem Dev.sameRegs.count (h : d.sameRegs e L) {f : Fld} (hf : f.addr ∈ L) (n : Nat) : d.sameRegs (e.count f n) L := h.put hf _

theorem Dev.sameRegs.add (h : d.sameRegs e L) {a : Nat} (ha : a ∈ L) (n : Nat) : d.sameRegs (e.add a n) L :=
  h.count (f := wordFld a) ha n

theorem Dev.sameRegs.inc (h : d.sameRegs e L) {a : Nat} (ha : a ∈ L) : d.sameRegs (e.inc a) L := h.add ha 1

theorem Dev.sameRegs.puts (h : d.sameRegs e L) {fs : List (Fld × Nat)} (hfs : ∀ x ∈ fs, x.1.addr ∈ L) : d.sameRegs (e.puts fs) L := by
  induction fs generalizing e with
  | nil => exact h
  | cons x t ih => exact ih (h.put (hfs x List.mem_cons_self) x.2) fun y hy => hfs y (List.mem_cons_of_mem x hy)

theorem Dev.sameRegs.capture (h : d.sameRegs e L) {v : Fld} {fs : List (Fld × Nat)} (hv : v.addr ∈ L) (hfs : ∀ x ∈ fs, x.1.addr ∈ L) :
    d.sameRegs (e.capture v fs) L := by
  unfold Dev.capture
  split
  · exact h
  · exact (h.puts hfs).put hv 1

/-- A fold of operations each of which changes registers of `L` alone changes registers of `L` alone. -/
theorem Dev.sameRegs.foldl {α : Type} (h : d.sameRegs e L) (op : Dev → α → Dev) (l : List α)
    (hop : ∀ x ∈ l, ∀ c : Dev, c.sameRegs (op c x) L) : d.sameRegs (l.foldl op e) L := by
  induction l generalizing e with
  | nil => exact h
  | cons x t ih =>
    exact ih (h.trans (hop x List.mem_cons_self e)) fun y hy => hop y (List.mem_cons_of_mem x hy)

theorem Dev.sameRegs.get (h : d.sameRegs e L) {f : Fld} (hf : f.addr ∉ L) : e.get f = d.get f := congrArg f.get (h f.addr hf)

theorem Dev.sameRegs.on (h : d.sameRegs e L) {f : Fld} (hf : f.addr ∉ L) : e.on f = d.on f := congrArg (· != 0) (h.get hf)

theorem Dev.get_of_regs (h : e.regs = d.regs) (f : Fld) : e.get f = d.get f := by unfold Dev.get Dev.reg; rw [h]

theorem Dev.on_of_regs (h : e.regs = d.regs) (f : Fld) : e.on f = d.on f := congrArg (· != 0) (Dev.get_of_regs h f)

/-- What every operation of a fold keeps, the fold keeps. -/
theorem foldl_keeps {α β : Type} (E : Dev → β) (op : Dev → α → Dev) (l : List α) (h : ∀ x ∈ l, ∀ c, E (op c x) = E c) (d : Dev) :
    E (l.foldl op d) = E d := by
  induction l generalizing d with
  | nil => rfl
  | cons x t ih => exact (ih (fun y hy => h y (List.mem_cons_of_mem x hy)) (op d x)).trans (h x List.mem_cons_self d)

/-- `e` has registers outside `L` and the part `E` of the device as `d` has them. -/
structure Keeps {β : Type} (E : Dev → β) (L : List Nat) (d e : Dev) : Prop where
  rest : E e = E d
  regs : d.sameRegs e L

namespace Keeps

variable {β : Type} {E : Dev → β} {f : Dev} {M : List Nat}

theorem refl (E : Dev → β) (L : List Nat) (d : Dev) : Keeps E L d d := ⟨rfl, Dev.sameRegs.refl d L⟩

theorem trans (h : Keeps E L d e) (k : Keeps E L e f) : Keeps E L d f := ⟨k.rest.trans h.rest, h.regs.trans k.regs⟩

theorem mono (h : Keeps E L d e) (hLM : L ⊆ M) : Keeps E M d e := ⟨h.rest, h.regs.mono hLM⟩

/-- A smaller part of the device is kept as well. -/
theorem part {γ : Type} (h : Keeps E L d e) (F : β → γ) : Keeps (fun x => F (E x)) L d e := ⟨congrArg F h.rest, h.regs⟩

theorem of_regs (rest : E e = E d) (regs : e.regs = d.regs) : Keeps E L d e := ⟨rest, (Dev.sameRegs.refl d L).of_regs regs⟩

/-- A fold of operations each of which keeps all this keeps it. -/
theorem foldl {α : Type} (op : Dev → α → Dev) (l : List α) (hop : ∀ x ∈ l, ∀ c, Keeps E L c (op c x)) (d : Dev) :
    Keeps E L d (l.foldl op d) :=
  ⟨foldl_keeps E op l (fun x hx c => (hop x hx c).rest) d, (Dev.sameRegs.refl d L).foldl op l fun x hx c => (hop x hx c).regs⟩

end Keeps

/-! ## Parts of the device: an update of registers is an update of `regs` alone -/

/-- The device but for its registers. -/
def Dev.butRegs (d : Dev) : Dev := { d with regs := [] }

theorem Dev.puts_frame (d : Dev) (fs : List (Fld × Nat)) : d.puts fs = { d with regs := (d.puts fs).regs } := by
  induction fs generalizing d with
  | nil => rfl
  | cons x t ih => exact ih (d.put x.1 x.2)

theorem Dev.capture_frame (d : Dev) (v : Fld) (fs : List (Fld × Nat)) :
    d.capture v fs = { d with regs := (d.capture v fs).regs } := by
  unfold Dev.capture
  split
  · rfl
  · exact congrArg (fun x : Dev => x.put v 1) (d.puts_frame fs)

theorem Dev.sameRegs.showIrq (h : d.sameRegs e L) : d.sameRegs e.showIrq L := h.of_regs rfl

@[simp] theorem Dev.showIrq_tcmpOf (d : Dev) (n : Nat) : d.showIrq.tcmpOf n = d.tcmpOf n := rfl
@[simp] theorem Dev.showIrq_port (d : Dev) (p : Port) : d.showIrq.port p = d.port p := rfl

/-! ## A calm device stays calm -/

/-- `Dev.calm` reads the registers `calmRegs`, the hot plug, the loader and the level of PPS_OUT. -/
theorem Dev.calm_congr (h : ∀ a ∈ calmRegs, e.reg a = d.reg a) (hpin : e.pin = d.pin) (hboot : e.boot = d.boot)
    (hpps : e.time.ppsOut = d.time.ppsOut) : e.calm = d.calm := by
  have get : ∀ f : Fld, f.addr ∈ calmRegs → e.get f = d.get f := fun f hf => congrArg f.get (h f.addr hf)
  have sts : ∀ i, i < 4 → rPTP_PTDd_STS i ∈ calmRegs := by decide
  have lock : ∀ i, i < 4 → e.ptpLock i = d.ptpLock i := fun i hi => get _ (sts i hi)
  have begun : ∀ i, i < 4 → e.portsBegun i = d.portsBegun i := by
    intro i hi
    have : ∀ n, e.pstate i n = d.pstate i n := fun n => by rw [Dev.pstate, Dev.pstate, get _ (sts i hi)]
    simp only [Dev.portsBegun, this]
  have halo : e.haloState = d.haloState := get _ (by decide)
  have on : ∀ f : Fld, f.addr ∈ calmRegs → e.on f = d.on f := fun f hf => congrArg (· != 0) (get f hf)
  have gov : e.governing = d.governing := by
    unfold Dev.governing
    rw [on fPTP_GOV_STS_NONE (by decide), get fPTP_GOV_STS_GOV (by decide)]
  have gate : e.ppsGateOk = d.ppsGateOk := by
    have small : ∀ i, d.governing = some i → i < 4 := by
      intro i hi
      unfold Dev.governing at hi
      split at hi
      · cases hi
      · cases hi; exact Nat.mod_lt _ (by decide)
    unfold Dev.ppsGateOk
    rw [gov, on fTIME_PPS_OUT_CFG_GATE (by decide)]
    cases hg : d.governing with
    | none => rfl
    | some i => simp only [get (fPTP_PTDd_STS_LOCK_STATE i) (sts i (small i hg))]
  simp [Dev.calm, hpin, hboot, hpps, lock, begun, halo, gate]

/-- What `Dev.calm` reads beside registers. -/
def Dev.calmPart (d : Dev) : PinSt × BootSt × Bool := (d.pin, d.boot, d.time.ppsOut)

/-- A command whose own effect `e` leaves everything that `Dev.calm` reads as it was completes in `e`, with the interrupt balls
following. -/
theorem completes_of_sameRegs {i : Instr} {s : State} {P : Dev → Prop} (hx : exec i s = s.done e) (calm : s.dev.calm = true)
    (regs : s.dev.sameRegs e L) (hL : ∀ a ∈ calmRegs, a ∉ L) (part : e.calmPart = s.dev.calmPart) (h : P e.showIrq) :
    Completes i s P := by
  simp only [Dev.calmPart, Prod.mk.injEq] at part
  obtain ⟨hpin, hboot, hpps⟩ := part
  exact completes_of_calm hx (by rw [Dev.calm_congr (fun a ha => regs a (hL a ha)) hpin hboot hpps, calm]) h

end Sys2Proof.Machine
end

section
/-! Fields of a stored word, and a 32-bit write of a port to a register: what it answers, stores and records. -/

namespace Sys2Proof.Machine

open Sys2Proof

/-! ## Fields of a stored word -/

/-- All bits of the field are set in the mask. -/
def Fld.within (f : Fld) (mask : Word) : Bool := (List.range f.width).all fun i => mask.getLsbD (f.lo + i)

/-- No bit of the field is set in the mask. -/
def Fld.outside (f : Fld) (mask : Word) : Bool := (List.range f.width).all fun i => !mask.getLsbD (f.lo + i)

/-- The word that a write of `v` leaves where the bits of `take` are stored. -/
def merged (take old v : Word) : Word := (old &&& ~~~take) ||| (v &&& take)

theorem merged_getLsbD (take old v : Word) (i : Nat) :
    (merged take old v).getLsbD i = if take.getLsbD i then v.getLsbD i else old.getLsbD i := by
  by_cases hi : i < 32
  · simp only [merged, BitVec.getLsbD_or, BitVec.getLsbD_and, BitVec.getLsbD_not, hi, decide_true, Bool.true_and]
    cases take.getLsbD i <;> simp
  · simp [BitVec.getLsbD_of_ge _ i (Nat.le_of_not_lt hi)]

theorem Fld.get_merged_within {f : Fld} {take : Word} (h : f.within take = true) (old v : Word) :
    f.get (merged take old v) = f.get v := by
  apply Nat.eq_of_testBit_eq
  intro i
  rw [Fld.get_testBit, Fld.get_testBit, merged_getLsbD]
  by_cases hi : i < f.width
  · rw [if_pos (List.all_eq_true.mp h i (List.mem_range.mpr hi))]
  · simp [hi]

theorem Fld.get_merged_outside {f : Fld} {take : Word} (h : f.outside take = true) (old v : Word) :
    f.get (merged take old v) = f.get old := by
  apply Nat.eq_of_testBit_eq
  intro i
  rw [Fld.get_testBit, Fld.get_testBit, merged_getLsbD]
  by_cases hi : i < f.width
  · have clear : take.getLsbD (f.lo + i) = false := by simpa using List.all_eq_true.mp h i (List.mem_range.mpr hi)
    simp [clear]
  · simp [hi]

theorem Fld.get_and_within {f : Fld} {mask : Word} (h : f.within mask = true) (v : Word) : f.get (v &&& mask) = f.get v := by
  apply Nat.eq_of_testBit_eq
  intro i
  rw [Fld.get_testBit, Fld.get_testBit, BitVec.getLsbD_and]
  by_cases hi : i < f.width
  · have set : mask.getLsbD (f.lo + i) = true := List.all_eq_true.mp h i (List.mem_range.mpr hi)
    simp [set]
  · simp [hi]

theorem Dev.on_putB_same (d : Dev) {f : Fld} (hf : f.ok) (hw : f.width = 1) (b : Bool) : (d.putB f b).on f = b := by
  unfold Dev.on Dev.putB
  rw [Dev.get_put_same d f _ hf, hw]
  cases b <;> rfl

theorem Dev.reg_put_ne (d : Dev) {f : Fld} {a : Nat} (v : Nat) (h : f.addr ≠ a) : (d.put f v).reg a = d.reg a := by
  rw [Dev.reg_put, if_neg h]

theorem Dev.on_put_addr (d : Dev) {f g : Fld} (v : Nat) (h : f.addr ≠ g.addr) : (d.put f v).on g = d.on g :=
  congrArg (· != 0) (d.get_put_addr f g v h)

theorem Dev.on_put_apart (d : Dev) {f g : Fld} (v : Nat) (hf : f.ok) (h : f.apart g) : (d.put f v).on g = d.on g :=
  congrArg (· != 0) (d.get_put_apart f g v hf h)

/-! ## Ports -/

@[simp] theorem Dev.port_setPort_same (d : Dev) (p : Port) (x : PortSt) : (d.setPort p x).port p = x := kget_kset_same ..

theorem Dev.port_congr {d e : Dev} (h : e.ports = d.ports) (p : Port) : e.port p = d.port p := by unfold Dev.port; rw [h]

@[simp] theorem Dev.answer_code (d : Dev) (p : Port) (l : List Nat) : ((d.answer p l).port p).code = 0 := by simp [Dev.answer]

theorem Dev.answer_sameRegs (d : Dev) (p : Port) (l : List Nat) (L : List Nat) : d.sameRegs (d.answer p l) L := fun _ _ => rfl

/-! ## The ignore record -/

/-- The port is told, the write is counted, and an entry joins the record or its overflow is counted. -/
theorem Dev.record_cases (d : Dev) (p : Port) (a b i : Nat) :
    ∃ c : Dev, c = (d.setPort p { d.port p with ign := true }).inc rGLB_IGN_CNT ∧
      ((∃ l, d.record p a b i = { c with ign := l }) ∨ d.record p a b i = c.inc rGLB_IGN_OVF_CNT) := by
  by_cases room : d.ign.length < 4
  · exact ⟨_, rfl, Or.inl ⟨_, if_pos room⟩⟩
  · exact ⟨_, rfl, Or.inr (if_neg room)⟩

theorem Dev.record_sameRegs (d : Dev) (p : Port) (a b i : Nat) {L : List Nat} (h : rGLB_IGN_CNT ∈ L) (h' : rGLB_IGN_OVF_CNT ∈ L) :
    d.sameRegs (d.record p a b i) L := by
  obtain ⟨c, hc, hl⟩ := d.record_cases p a b i
  have counted : d.sameRegs c L := by
    rw [hc]; exact ((Dev.sameRegs.refl d L).of_regs (d.setPort_regs p _)).inc h
  obtain ⟨l, hl⟩ | hl := hl <;> rw [hl]
  · exact counted.of_regs rfl
  · exact counted.inc h'

theorem Dev.record_frame (d : Dev) (p : Port) (a b i : Nat) :
    d.record p a b i =
      { d with regs := (d.record p a b i).regs, ports := (d.record p a b i).ports, ign := (d.record p a b i).ign } := by
  obtain ⟨c, rfl, ⟨l, hl⟩ | hl⟩ := d.record_cases p a b i <;> rw [hl] <;> rfl

@[simp] theorem Dev.record_code (d : Dev) (p : Port) (a b i : Nat) : ((d.record p a b i).port p).code = (d.port p).code := by
  obtain ⟨c, rfl, hl⟩ := d.record_cases p a b i
  have told : ∀ e : Dev, e.ports = (d.setPort p { d.port p with ign := true }).ports → (e.port p).code = (d.port p).code := by
    intro e he
    rw [Dev.port_congr he p, Dev.port_setPort_same]
  obtain ⟨l, hl⟩ | hl := hl <;> rw [hl] <;> exact told _ rfl

/-! ## A register write that the checks pass -/

/-- The register at `a`, of instance `i`, has no rule of its own in `Dev.regWrite`, but for the comparators' (R64). -/
def plainReg (a i : Nat) : Bool :=
  !decide (a ∈ [rTIME_ADDEND_L, rTIME_ADDEND_H, rPWR_DOMk_CTL 0, rGLB_NVM_CTL, rSTX_CMD, rSRX_CMD, rNET_MDIO_CMD, rMIO_REQ_CMD,
    rPIN_CUE_CFG, rSAPnn_SLOT_MASK i, rNETn_PAUSE_QUANTA_CNT i])

/-- A register of the comparators (R64). -/
def tcmpReg (a : Nat) : Bool := decide (rTIME_TCMPnn_CTL 0 ≤ a) && decide (a ≤ rTIME_TCMPnn_FIRE_CNT 63)

variable {d : Dev} {m : Meets} {p : Port} {a i j : Nat} {v : Word} {r : RegDesc}

/-- A write that passes the checks, of a register that is implemented, answers and then writes the register. -/
theorem Dev.busWrite_reg (h : d.takes p a) (hlow : a < 0x400000) (hr : (regAt (a / 4 * 4)).isSome = true) :
    d.busWrite m p a .b32 v = (d.answer p []).regWrite m p a v := by
  have place : (d.answer p []).place p a = .reg := by simp only [Dev.place, hlow, hr, if_true]
  simp only [Dev.busWrite, h, place]

theorem Dev.regWrite_plain (hr : regAt a = some (r, i, j)) (hp : plainReg a i = true)
    (ht : tcmpReg a = true → d.tcmpForeign i = false) : d.regWrite m p a v = d.regStore m p a v r i := by
  simp only [plainReg, List.mem_cons, List.not_mem_nil, or_false, Bool.not_eq_true', decide_eq_false_iff_not, not_or] at hp
  obtain ⟨h1, h2, h3, h4, h5, h6, h7, h8, h9, h10, h11⟩ := hp
  have foreign : ¬ (rTIME_TCMPnn_CTL 0 ≤ a ∧ a ≤ rTIME_TCMPnn_FIRE_CNT 63 ∧ a ≠ rTIME_TCMPnn_STS i ∧ d.tcmpForeign i = true) := by
    rintro ⟨hlo, hhi, -, hf⟩
    have := ht (by simp [tcmpReg, hlo, hhi])
    simp [this] at hf
  simp only [Dev.regWrite, hr, h1, h2, h3, h4, h5, h6, h7, h8, h9, h10, h11, foreign, if_false, false_and, and_false]

/-- The write of a register none of whose bits is kept by an enabled owner (R419, R428). -/
theorem Dev.regStore_free (h : d.owned r i = false) :
    d.regStore m p a v r i = (d.setReg a (merged (writeMask r v) (d.reg a) v)).writeEffect m a i (d.reg a) v (v &&& w32 r.cmd) := by
  have nothing : ∀ x : Word, x &&& 0 = 0 := fun x => BitVec.and_zero
  have all : ∀ x : Word, x &&& ~~~0 = x := fun x => BitVec.and_allOnes
  have quiet : ((0 : Word) != 0) = false := rfl
  simp only [Dev.regStore, h, merged, Bool.false_eq_true, if_false, nothing, all, quiet, Bool.or_self]

/-- The write of a register whose class D bits an enabled owner keeps: the rest is stored, on a device in which the write may
have been recorded (R428, R429). -/
theorem Dev.regStore_owned (h : d.owned r i = true) :
    ∃ c, (c = d ∨ c = d.record p a (ownBlock r a) i) ∧
      d.regStore m p a v r i = (c.setReg a (merged (writeMask r v &&& ~~~w32 r.dcls) (d.reg a) v)).writeEffect m a i (d.reg a) v
        (v &&& w32 r.cmd &&& ~~~w32 r.dcls) := by
  simp only [Dev.regStore, h, if_true, merged]
  split
  · exact ⟨_, Or.inr rfl, rfl⟩
  · exact ⟨_, Or.inl rfl, rfl⟩

/-- A write that turns an enable which its block sets itself: the rest is stored, the enable as it was, and the block acts. -/
theorem Dev.atEdgeOld_turned (d : Dev) {f : Fld} {take old v : Word} (within : f.within take = true) (ne : f.get old ≠ f.get v) (on off : Dev → Dev) :
    (d.setReg f.addr (merged take old v)).atEdgeOld f old on off =
      (if f.get v != 0 then on else off) ((d.setReg f.addr (merged take old v)).put f (f.get old)) := by
  have get : (d.setReg f.addr (merged take old v)).get f = f.get v := by
    rw [Dev.get_setReg, if_pos rfl, Fld.get_merged_within within]
  have turns : (d.setReg f.addr (merged take old v)).turns f old = some (f.get v != 0) := by
    unfold Dev.turns Dev.on
    rw [get, if_neg (by simpa using ne)]
  unfold Dev.atEdgeOld
  rw [turns]
  cases f.get v != 0 <;> rfl

theorem Dev.atEdgeOld_rise (d : Dev) {f : Fld} {take old v : Word} (within : f.within take = true) (was : f.get old = 0)
    (rises : f.get v = 1) (on off : Dev → Dev) : (d.setReg f.addr (merged take old v)).atEdgeOld f old on off =
      on ((d.setReg f.addr (merged take old v)).put f (f.get old)) := by
  rw [Dev.atEdgeOld_turned d within (by omega), rises]
  rfl

theorem Dev.atEdgeOld_fall (d : Dev) {f : Fld} {take old v : Word} (within : f.within take = true) (was : f.get old ≠ 0)
    (falls : f.get v = 0) (on off : Dev → Dev) : (d.setReg f.addr (merged take old v)).atEdgeOld f old on off =
      off ((d.setReg f.addr (merged take old v)).put f (f.get old)) := by
  rw [Dev.atEdgeOld_turned d within (by omega), falls]
  rfl

end Sys2Proof.Machine
end

section
/-! The two 2 MiB windows, the state after reset, and the window commit that counts a reserved trigger (01_architecture). -/

namespace Sys2Proof.Machine

open Sys2Proof

/-- The value of a field fits its width. -/
theorem Dev.get_lt (d : Dev) (f : Fld) : d.get f < 2 ^ f.width := Nat.mod_lt _ (Nat.two_pow_pos _)

/-- R21: below 0x60_0000 a port that is no sequencer reaches table memory, in the half that TPAGE names. -/
theorem Dev.place_tableWindow (d : Dev) (p : Port) (a : Nat) (hp : ∀ n, p ≠ .rql n) (h : 0x400000 ≤ a) (h' : a ≤ 0x5FFFFF) :
    d.place p a = .table (0x200000 * d.get fGLB_WIN_PAGE_TPAGE + (a - 0x400000)) := by
  have low : ¬ a < 0x400000 := by omega
  have high : ¬ 0x800000 ≤ a := by omega
  have tbl : a < 0x600000 := by omega
  cases p with
  | rql n => exact absurd rfl (hp n)
  | _ => simp only [Dev.place, low, high, tbl, if_true, if_false]

/-- R21: from 0x60_0000 on it reaches the Anvil store, in the half that APAGE names. -/
theorem Dev.place_anvilWindow (d : Dev) (p : Port) (a : Nat) (hp : ∀ n, p ≠ .rql n) (h : 0x600000 ≤ a) (h' : a ≤ 0x7FFFFF) :
    d.place p a = .anvil (0x200000 * d.get fGLB_WIN_PAGE_APAGE + (a - 0x600000)) := by
  have low : ¬ a < 0x400000 := by omega
  have high : ¬ 0x800000 ≤ a := by omega
  have anv : ¬ a < 0x600000 := by omega
  cases p with
  | rql n => exact absurd rfl (hp n)
  | _ => simp only [Dev.place, low, high, anv, if_false]

/-- Settles O59: the page bits are one bit wide, so each window shows one of two halves. -/
theorem windowsShowOneHalf : Obligations.WindowsShowOneHalf := by
  intro d p a hp
  exact ⟨fun h h' => ⟨d.place_tableWindow p a hp h h', d.get_lt fGLB_WIN_PAGE_TPAGE⟩,
    fun h h' => ⟨d.place_anvilWindow p a hp h h', d.get_lt fGLB_WIN_PAGE_APAGE⟩⟩

/-- Settles O4: the state after reset is a closed term, and each of its values is read off it. -/
theorem resetLeavesTheSpecsValues : Obligations.ResetLeavesTheSpecsValues := by
  have balls : State.reset.dev.IrqShown := ⟨by decide, by decide⟩
  have unowned : ∀ n ∈ List.range 64, State.reset.dev.get (fTIME_TCMPnn_OWNER_OWNER n) = 0 := by decide
  have contexts : ∀ k ∈ List.range 16, State.reset.dev.reg (rSTX_ENMAPkk k) = 0 ∧ State.reset.dev.reg (rSRX_ENMAPkk k) = 0 := by
    decide
  exact ⟨rfl, rfl, rfl, balls, by decide, by decide, by decide, unowned, by decide, by decide, contexts, by decide, by decide,
    by decide⟩

/-- The state after reset with the upper page of table memory in the window, the cue engine off, and the lower half of word 0 of
cue 0 staged by SPI. -/
def stagedCueWord : State :=
  { dev := ({ ports := [(0, { stage := some (0, 0x288000, 0) })] } : Dev).put fGLB_WIN_PAGE_TPAGE 1, pending := [] }

/-- The counter of reserved triggers (Table 14.3) after a command, where it goes on. -/
def refusedTriggers (o : Host.Outcome State Fault Refusal) : Option Word :=
  match o with
  | .next t => some (t.dev.reg rCUE_TBL_REFUSE_CNT)
  | _ => none

/-- The commit of an upper half with the reserved trigger 7 counts in CUE_TBL_REFUSE_CNT. -/
theorem stagedCueWord_counts :
    refusedTriggers (exec (.windowWriteUpper .spi 0x488004 0x07000000) stagedCueWord) = some 1 := by decide +kernel

/-- Refutes O7: the commit of word 0 of a cue that names a reserved trigger changes a register, CUE_TBL_REFUSE_CNT, though the
third clause lets the committing write change none. -/
theorem not_windowsStageAndCommit : ¬ Obligations.WindowsStageAndCommit := by
  rintro ⟨-, -, commit, -⟩
  obtain ⟨t, hexec, -, -, -, -, -, sameRegs, -⟩ := commit stagedCueWord .spi 0x488004 0x288000 0 0x07000000
    (by decide +kernel) (by decide +kernel) (by decide +kernel) rfl (by decide +kernel) (by decide +kernel) (by decide +kernel)
  have unchanged : t.dev.reg rCUE_TBL_REFUSE_CNT = stagedCueWord.dev.reg rCUE_TBL_REFUSE_CNT := sameRegs _ (by decide)
  have counted := stagedCueWord_counts
  rw [hexec, refusedTriggers, unchanged] at counted
  exact absurd counted (by decide +kernel)

end Sys2Proof.Machine
end

section
/-! Comparators (R33, R62 to R65): claiming, arming, firing and releasing one, and the write of its CTL register. -/

namespace Sys2Proof.Machine

open Sys2Proof

variable {d : Dev} {n : Nat}

/-! ## The hidden state of a comparator -/

/-- The device but for its registers and the hidden state of its comparators. -/
def Dev.butTcmp (d : Dev) : Dev := { d with regs := [], time := { d.time with tcmp := [] } }

@[simp] theorem Dev.tcmpOf_setTcmp_same (d : Dev) (n : Nat) (x : TcmpSt) : (d.setTcmp n x).tcmpOf n = x := kget_kset_same ..

/-! ## Claims -/

/-- A comparator that nobody holds and that is reserved for nobody is granted (R33). -/
theorem Dev.claimTcmp_free (h : d.get (fTIME_TCMPnn_OWNER_OWNER n) = 0) (hp : d.tcmpPrio n = 0) (code : Nat) :
    d.claimTcmp n code = (true, d.put (fTIME_TCMPnn_OWNER_OWNER n) code) := by
  simp [Dev.claimTcmp, h, hp]

theorem fTIME_TCMPnn_OWNER_ok (n : Nat) : (fTIME_TCMPnn_OWNER_OWNER n).ok := by simp [Fld.ok, fTIME_TCMPnn_OWNER_OWNER]

theorem fTIME_TCMPnn_STS_ARMED_ok (n : Nat) : (fTIME_TCMPnn_STS_ARMED n).ok := by simp [Fld.ok, fTIME_TCMPnn_STS_ARMED]

/-- The owner of a comparator and its status are two registers. -/
theorem rTIME_TCMPnn_OWNER_ne_STS (n : Nat) : rTIME_TCMPnn_OWNER n ≠ rTIME_TCMPnn_STS n := by
  simp only [rTIME_TCMPnn_OWNER, rTIME_TCMPnn_STS]; omega

/-! ## Release -/

theorem Dev.releaseTcmp_sameRegs {L : List Nat} (h : rTIME_TCMPnn_OWNER n ∈ L) (h' : rTIME_TCMPnn_STS n ∈ L) :
    d.sameRegs (d.releaseTcmp n) L :=
  (((Dev.sameRegs.refl d L).putB (f := fTIME_TCMPnn_STS_ARMED n) h' false).put (f := fTIME_TCMPnn_OWNER_OWNER n) h 0).of_regs rfl

theorem Dev.releaseTcmp_butTcmp (d : Dev) (n : Nat) : (d.releaseTcmp n).butTcmp = d.butTcmp := rfl

theorem Dev.releaseTcmp_regs (d : Dev) (n : Nat) :
    (d.releaseTcmp n).regs = ((d.putB (fTIME_TCMPnn_STS_ARMED n) false).put (fTIME_TCMPnn_OWNER_OWNER n) 0).regs := rfl

theorem Dev.releaseTcmp_armed (d : Dev) (n : Nat) : (d.releaseTcmp n).on (fTIME_TCMPnn_STS_ARMED n) = false := by
  rw [Dev.on_of_regs (d.releaseTcmp_regs n), Dev.on_put_addr _ 0 (rTIME_TCMPnn_OWNER_ne_STS n)]
  exact d.on_putB_same (fTIME_TCMPnn_STS_ARMED_ok n) rfl false

theorem Dev.releaseTcmp_owner (d : Dev) (n : Nat) : (d.releaseTcmp n).get (fTIME_TCMPnn_OWNER_OWNER n) = 0 := by
  rw [Dev.get_of_regs (d.releaseTcmp_regs n), Dev.get_put_same _ _ _ (fTIME_TCMPnn_OWNER_ok n), Nat.zero_mod]

@[simp] theorem Dev.releaseTcmp_tcmpOf (d : Dev) (n : Nat) : (d.releaseTcmp n).tcmpOf n = {} := Dev.tcmpOf_setTcmp_same ..

/-! ## Arming -/

theorem Dev.armTcmp_sameRegs {L : List Nat} (h : rTIME_TCMPnn_STS n ∈ L) (mode : Nat) (t : Word64) (per : Nat) :
    d.sameRegs (d.armTcmp n mode t per) L :=
  (((Dev.sameRegs.refl d L).of_regs (f := d.setTcmp n _) rfl).putB (f := fTIME_TCMPnn_STS_ARMED n) h true).putB
    (f := fTIME_TCMPnn_STS_ARM_ERR n) h false

theorem Dev.armTcmp_armed (d : Dev) (n mode : Nat) (t : Word64) (per : Nat) :
    (d.armTcmp n mode t per).on (fTIME_TCMPnn_STS_ARMED n) = true := by
  have apart : (fTIME_TCMPnn_STS_ARM_ERR n).apart (fTIME_TCMPnn_STS_ARMED n) := Or.inl (Nat.le_refl 4)
  have ok : (fTIME_TCMPnn_STS_ARM_ERR n).ok := by simp [Fld.ok, fTIME_TCMPnn_STS_ARM_ERR]
  unfold Dev.armTcmp
  rw [Dev.putB, Dev.on_put_apart _ _ ok apart, Dev.on_putB_same _ (fTIME_TCMPnn_STS_ARMED_ok n) rfl]

theorem Dev.armTcmp_armErr (d : Dev) (n mode : Nat) (t : Word64) (per : Nat) :
    (d.armTcmp n mode t per).on (fTIME_TCMPnn_STS_ARM_ERR n) = false :=
  Dev.on_putB_same _ (by simp [Fld.ok, fTIME_TCMPnn_STS_ARM_ERR]) rfl false

/-- A comparator armed in one-shot mode stands at its target. -/
theorem Dev.armTcmp_oneShot (d : Dev) (n : Nat) (t : Word64) (per : Nat) :
    ((d.armTcmp n 1 t per).tcmpOf n).mode = 1 ∧ ((d.armTcmp n 1 t per).tcmpOf n).next = t := by
  have armed : (d.armTcmp n 1 t per).tcmpOf n =
      { mode := 1, base := t, per := per, next := t, acc := 0, late := decide (1 = 1 ∧ 0 ≤ sdiff64 d.ft64 t) } :=
    Dev.tcmpOf_setTcmp_same ..
  simp [armed]

/-! ## Fires -/

/-- A flag set where the condition holds. -/
def Dev.flagIf (d : Dev) (c : Bool) (f : Fld) : Dev := if c then d.putB f true else d

theorem Dev.sameRegs.flagIf {e : Dev} {L : List Nat} (h : d.sameRegs e L) (c : Bool) {f : Fld} (hf : f.addr ∈ L) :
    d.sameRegs (e.flagIf c f) L := by
  cases c
  · exact h
  · exact h.putB hf true

@[simp] theorem Dev.flagIf_butTcmp (d : Dev) (c : Bool) (f : Fld) : (d.flagIf c f).butTcmp = d.butTcmp := by cases c <;> rfl

/-- A fire counts and sets its flags, and then moves the periodic target or disarms. -/
theorem Dev.tcmpFired_cases (d : Dev) (n : Nat) (b : Bool) : ∃ (e : Dev) (c : Bool) (x : TcmpSt),
    e = (((d.inc (rTIME_TCMPnn_FIRE_CNT n)).putB (fTIME_TCMPnn_STS_FIRED n) true).flagIf b (fTIME_TCMPnn_STS_STEPPED n)).flagIf c
      (fTIME_TCMPnn_STS_LATE n) ∧
    (d.tcmpFired n b = e.setTcmp n x ∨ d.tcmpFired n b = e.putB (fTIME_TCMPnn_STS_ARMED n) false) :=
  ⟨_, _, _, rfl, ite_eq_or_eq _ _ _⟩

theorem Dev.tcmpFired_sameRegs {L : List Nat} (h : rTIME_TCMPnn_STS n ∈ L) (h' : rTIME_TCMPnn_FIRE_CNT n ∈ L) (b : Bool) :
    d.sameRegs (d.tcmpFired n b) L := by
  obtain ⟨e, c, x, he, moved | disarmed⟩ := d.tcmpFired_cases n b
  all_goals
    have flags : d.sameRegs e L := by
      rw [he]
      exact ((((Dev.sameRegs.refl d L).inc h').putB (f := fTIME_TCMPnn_STS_FIRED n) h true).flagIf b
        (f := fTIME_TCMPnn_STS_STEPPED n) h).flagIf c (f := fTIME_TCMPnn_STS_LATE n) h
  · rw [moved]; exact flags.of_regs rfl
  · rw [disarmed]; exact flags.putB (f := fTIME_TCMPnn_STS_ARMED n) h false

theorem Dev.tcmpFired_butTcmp (d : Dev) (n : Nat) (b : Bool) : (d.tcmpFired n b).butTcmp = d.butTcmp := by
  obtain ⟨e, c, x, he, moved | disarmed⟩ := d.tcmpFired_cases n b
  all_goals
    have flags : e.butTcmp = d.butTcmp := by rw [he, Dev.flagIf_butTcmp, Dev.flagIf_butTcmp]; rfl
  · rw [moved]; exact flags
  · rw [disarmed]; exact flags

/-- The flags that a one-shot fire which is not late leaves: FIRED is set, the fire is counted, and the comparator disarms. -/
theorem Dev.tcmpFired_oneShot (h : (d.tcmpOf n).mode = 1) (h' : (d.tcmpOf n).late = false) :
    d.tcmpFired n false =
      ((d.inc (rTIME_TCMPnn_FIRE_CNT n)).putB (fTIME_TCMPnn_STS_FIRED n) true).putB (fTIME_TCMPnn_STS_ARMED n) false := by
  have same : ((d.inc (rTIME_TCMPnn_FIRE_CNT n)).putB (fTIME_TCMPnn_STS_FIRED n) true).tcmpOf n = d.tcmpOf n := rfl
  simp [Dev.tcmpFired, same, h, h']

/-- The fire of a comparator that the host holds, or nobody, is its flag and its count alone (Table 1.12). -/
theorem Dev.deliverFire_host (h : d.tcmpForeign n = false) (b : Bool) : (d.tcmpFired n b).deliverFire n = d.tcmpFired n b := by
  have owner : (d.tcmpFired n b).get (fTIME_TCMPnn_OWNER_OWNER n) = d.get (fTIME_TCMPnn_OWNER_OWNER n) :=
    (Dev.tcmpFired_sameRegs (L := [rTIME_TCMPnn_STS n, rTIME_TCMPnn_FIRE_CNT n]) (by simp) (by simp) b).get (by
      simp [fTIME_TCMPnn_OWNER_OWNER, rTIME_TCMPnn_STS, rTIME_TCMPnn_FIRE_CNT]; omega)
  have host : d.get (fTIME_TCMPnn_OWNER_OWNER n) / 32 = 0 ∨ d.get (fTIME_TCMPnn_OWNER_OWNER n) / 32 = 5 := by
    simp only [Dev.tcmpForeign, Bool.and_eq_false_iff, bne_eq_false_iff_eq] at h
    omega
  obtain free | host := host <;> simp only [Dev.deliverFire, *]

theorem Dev.tcmpFire_host (h : d.tcmpForeign n = false) :
    d.tcmpFire n = if d.timeRuns && d.on (fTIME_TCMPnn_STS_ARMED n) && decide (0 ≤ sdiff64 d.ft64 (d.tcmpOf n).next)
      then d.tcmpFired n false else d := by
  rw [Dev.tcmpFire, Dev.deliverFire_host h]

/-! ## A write of CTL (R64) -/

/-- The row of TIME_TCMPnn_CTL in the register summary. -/
def tcmpCtlRow : RegDesc :=
  { base := 0x31000, s1 := 0x20, c1 := 64, wr := 0xF803, cmd := 0xC0, dcls := 0xF803, own := some ⟨0x31004, 4, 1⟩, ownS := 0x20 }

theorem regAt_tcmpCtl (n : Fin 64) : regAt (rTIME_TCMPnn_CTL n.val) = some (tcmpCtlRow, n.val, 0) := by fin_cases n <;> rfl

theorem plainReg_tcmpCtl (n : Fin 64) : plainReg (rTIME_TCMPnn_CTL n.val) n.val = true := by revert n; decide

/-- The class D bits of CTL belong to ARMED. -/
theorem Dev.owned_tcmpCtl (d : Dev) (n : Nat) : d.owned tcmpCtlRow n = d.on (fTIME_TCMPnn_STS_ARMED n) := by
  simp [Dev.owned, tcmpCtlRow, fTIME_TCMPnn_STS_ARMED]

theorem Dev.writeEffect_tcmpCtl (d : Dev) (m : Meets) (n : Fin 64) (old v cmd : Word) :
    d.writeEffect m (rTIME_TCMPnn_CTL n.val) n.val old v cmd =
      d.tcmpCtl n.val (cmdOf (fTIME_TCMPnn_CTL_ARM n.val) cmd == 1) (cmdOf (fTIME_TCMPnn_CTL_DISARM n.val) cmd == 1) := by
  have block : blockOf (rTIME_TCMPnn_CTL n.val) = 3 := by revert n; decide
  have ctl : rTIME_TCMPnn_CTL n.val ≠ rTIME_CTL := by simp only [rTIME_TCMPnn_CTL, rTIME_CTL]; omega
  have pps : rTIME_TCMPnn_CTL n.val ≠ rTIME_PPS_OUT_CFG := by simp only [rTIME_TCMPnn_CTL, rTIME_PPS_OUT_CFG]; omega
  simp only [Dev.writeEffect, block, Dev.fxTime, ctl, pps, if_false, if_true]

theorem Dev.writeWith_tcmpCtl {d : Dev} {n : Fin 64} {p : Port} (h : d.takes p (rTIME_TCMPnn_CTL n.val))
    (hf : d.tcmpForeign n.val = false) (m : Meets) {f : Fld} (ha : f.addr = rTIME_TCMPnn_CTL n.val) (x : Nat) (v : Word) :
    d.writeWith m p f x v = (d.answer p []).regStore m p (rTIME_TCMPnn_CTL n.val) (f.put v x) tcmpCtlRow n.val := by
  have low : rTIME_TCMPnn_CTL n.val < 0x400000 := by simp only [rTIME_TCMPnn_CTL]; omega
  have aligned : rTIME_TCMPnn_CTL n.val / 4 * 4 = rTIME_TCMPnn_CTL n.val := by simp only [rTIME_TCMPnn_CTL]; omega
  have row := regAt_tcmpCtl n
  have foreign : (d.answer p []).tcmpForeign n.val = false := hf
  rw [Dev.writeWith, ha, Dev.busWrite_reg h low (by rw [aligned, row]; rfl), Dev.regWrite_plain row (plainReg_tcmpCtl n) fun _ => foreign]

end Sys2Proof.Machine
end

section
/-! The comparators of the host: arm, disarm and fire (R33, R62 to R64). -/

namespace Sys2Proof.Machine

open Sys2Proof

variable {d : Dev} {n : Nat}

/-- The registers of a comparator and the counters of the ignore record lie apart from those that `Dev.calm` reads. -/
theorem calmRegs_tcmp (hn : n < 78) : ∀ a ∈ calmRegs, a ∉ [rTIME_TCMPnn_CTL n, rTIME_TCMPnn_STS n, rTIME_TCMPnn_OWNER n,
    rTIME_TCMPnn_FIRE_CNT n, rGLB_IGN_CNT, rGLB_IGN_OVF_CNT] := by
  simp [calmRegs, rTIME_TCMPnn_CTL, rTIME_TCMPnn_STS, rTIME_TCMPnn_OWNER, rTIME_TCMPnn_FIRE_CNT, rGLB_IGN_CNT,
    rGLB_IGN_OVF_CNT, rPTP_PTDd_STS, rHALO_STS, rPTP_GOV_STS, rTIME_PPS_OUT_CFG]
  omega

theorem apart_of_subset {K L M : List Nat} (h : ∀ a ∈ K, a ∉ L) (hML : M ⊆ L) : ∀ a ∈ K, a ∉ M := fun a ha hm => h a ha (hML hm)

/-- The device but for its registers, its ports and the hidden state of its comparators. -/
def Dev.butTcmpPorts (d : Dev) : Dev := { d with regs := [], ports := [], time := { d.time with tcmp := [] } }

/-! ## Arm -/

/-- A free, unreserved comparator that is not armed is claimed under its label and armed at TGT in one-shot mode (R62, R64). -/
theorem Dev.tcmpArm_free (armed : d.on (fTIME_TCMPnn_STS_ARMED n) = false)
    (free : d.get (fTIME_TCMPnn_OWNER_OWNER n) = 0) (prio : d.tcmpPrio n = 0) (mode : d.get (fTIME_TCMPnn_CTL_MODE n) = 1) :
    d.tcmpArm n = (d.put (fTIME_TCMPnn_OWNER_OWNER n) (0xA0 + d.get (fTIME_TCMPnn_CTL_LABEL n))).armTcmp n 1
      (BitVec.ofNat 64 (d.pair (rTIME_TCMPnn_TGT_H n) (rTIME_TCMPnn_TGT_L n))) (d.tcmpPer n) := by
  simp [Dev.tcmpArm, armed, mode, Dev.claimTcmp_free free prio]

/-- The device with CTL of comparator `n` as a write of `v` stores it while the comparator is not armed. -/
def Dev.tcmpStored (d : Dev) (n : Nat) (v : Word) : Dev :=
  d.setReg (rTIME_TCMPnn_CTL n) (merged (w32 0xF803) (d.reg (rTIME_TCMPnn_CTL n)) v)

theorem Dev.tcmpStored_sameRegs (d : Dev) (n : Nat) (v : Word) : d.sameRegs (d.tcmpStored n v) [rTIME_TCMPnn_CTL n] :=
  (Dev.sameRegs.refl d _).setReg (by simp) _

theorem Dev.tcmpStored_get_within (d : Dev) (n : Nat) (v : Word) {f : Fld} (ha : f.addr = rTIME_TCMPnn_CTL n)
    (hf : f.within (w32 0xF803) = true) : (d.tcmpStored n v).get f = f.get v := by
  rw [Dev.tcmpStored, Dev.get_setReg, if_pos ha.symm, Fld.get_merged_within hf]

theorem Dev.tcmpStored_mode (d : Dev) (n : Nat) (v : Word) :
    (d.tcmpStored n v).get (fTIME_TCMPnn_CTL_MODE n) = (fTIME_TCMPnn_CTL_MODE n).get v :=
  d.tcmpStored_get_within n v rfl (by decide : Fld.within ⟨0, 0, 2⟩ (w32 0xF803) = true)

theorem Dev.tcmpStored_label (d : Dev) (n : Nat) (v : Word) :
    (d.tcmpStored n v).get (fTIME_TCMPnn_CTL_LABEL n) = (fTIME_TCMPnn_CTL_LABEL n).get v :=
  d.tcmpStored_get_within n v rfl (by decide : Fld.within ⟨0, 11, 5⟩ (w32 0xF803) = true)

/-- While the comparator is not armed a write of CTL is stored, and then ARM or DISARM acts. -/
theorem Dev.regStore_tcmpCtl_free {n : Fin 64} (armed : d.on (fTIME_TCMPnn_STS_ARMED n.val) = false) (m : Meets) (p : Port) (v : Word) :
    d.regStore m p (rTIME_TCMPnn_CTL n.val) v tcmpCtlRow n.val =
      (d.tcmpStored n.val v).tcmpCtl n.val ((fTIME_TCMPnn_CTL_ARM n.val).get v == 1) ((fTIME_TCMPnn_CTL_DISARM n.val).get v == 1) := by
  have arm : (fTIME_TCMPnn_CTL_ARM n.val).within (w32 tcmpCtlRow.cmd) = true := (by decide : Fld.within ⟨0, 7, 1⟩ (w32 0xC0) = true)
  have disarm : (fTIME_TCMPnn_CTL_DISARM n.val).within (w32 tcmpCtlRow.cmd) = true :=
    (by decide : Fld.within ⟨0, 6, 1⟩ (w32 0xC0) = true)
  rw [Dev.regStore_free (by rw [Dev.owned_tcmpCtl, armed]), Dev.writeEffect_tcmpCtl, cmdOf, cmdOf, Fld.get_and_within arm,
    Fld.get_and_within disarm]
  rfl

/-- The word that TCMP_ARM writes: ARM set in the operand. -/
def armWord (n : Nat) (v : Word) : Word := (fTIME_TCMPnn_CTL_ARM n).put v 1

theorem fTIME_TCMPnn_CTL_ARM_ok (n : Nat) : (fTIME_TCMPnn_CTL_ARM n).ok := (by decide : 7 + 1 ≤ 32)

theorem armWord_arm (n : Nat) (v : Word) : (fTIME_TCMPnn_CTL_ARM n).get (armWord n v) = 1 := Fld.get_put _ (fTIME_TCMPnn_CTL_ARM_ok n) v 1

theorem armWord_apart (n : Nat) (v : Word) {f : Fld} (h : (fTIME_TCMPnn_CTL_ARM n).apart f) : f.get (armWord n v) = f.get v :=
  Fld.get_put_apart _ f (fTIME_TCMPnn_CTL_ARM_ok n) h v 1

theorem armWord_disarm (n : Nat) (v : Word) : (fTIME_TCMPnn_CTL_DISARM n).get (armWord n v) = (fTIME_TCMPnn_CTL_DISARM n).get v :=
  armWord_apart n v (Or.inr (by decide : 6 + 1 ≤ 7))

/-- TCMP_ARM of a comparator that is not armed and that no other function holds stores CTL and arms. -/
theorem exec_tcmpArm {s : State} {n : Fin 64} {p : Port} {v : Word} (takes : s.dev.takes p (rTIME_TCMPnn_CTL n.val))
    (armed : s.dev.on (fTIME_TCMPnn_STS_ARMED n.val) = false) (foreign : s.dev.tcmpForeign n.val = false)
    (disarm : (fTIME_TCMPnn_CTL_DISARM n.val).get v = 0) :
    exec (.tcmpArm n p v) s = s.done (((s.dev.answer p []).tcmpStored n.val (armWord n.val v)).tcmpArm n.val) := by
  have armed' : (s.dev.answer p []).on (fTIME_TCMPnn_STS_ARMED n.val) = false := armed
  show s.done (s.dev.writeWith {} p (fTIME_TCMPnn_CTL_ARM n.val) 1 v) = _
  rw [Dev.writeWith_tcmpCtl takes foreign {} rfl, ← armWord, Dev.regStore_tcmpCtl_free armed', armWord_arm, armWord_disarm, disarm]
  rfl

/-- A host's code fits the OWNER field. -/
theorem hostCode_fits (n : Nat) (v : Word) :
    (0xA0 + (fTIME_TCMPnn_CTL_LABEL n).get v) % 2 ^ (fTIME_TCMPnn_OWNER_OWNER n).width = 0xA0 + (fTIME_TCMPnn_CTL_LABEL n).get v :=
  Nat.mod_eq_of_lt (lt_of_lt_of_le (Nat.add_lt_add_left (Nat.mod_lt _ (Nat.two_pow_pos 5)) 0xA0) (by decide : 0xA0 + 2 ^ 5 ≤ 2 ^ 8))

/-- The first clause of O9: ARM of a free, unreserved comparator. -/
theorem tcmpArm_completes (s : State) (n : Fin 64) (p : Port) (v : Word) (calm : s.dev.calm = true)
    (takes : s.dev.takes p (rTIME_TCMPnn_CTL n.val)) (armed : s.dev.on (fTIME_TCMPnn_STS_ARMED n.val) = false)
    (free : s.dev.get (fTIME_TCMPnn_OWNER_OWNER n.val) = 0) (prio : s.dev.tcmpPrio n.val = 0)
    (mode : (fTIME_TCMPnn_CTL_MODE n.val).get v = 1) (disarm : (fTIME_TCMPnn_CTL_DISARM n.val).get v = 0) :
    Completes (.tcmpArm n p v) s fun d =>
        d.on (fTIME_TCMPnn_STS_ARMED n.val) = true ∧
        d.get (fTIME_TCMPnn_OWNER_OWNER n.val) = 0xA0 + (fTIME_TCMPnn_CTL_LABEL n.val).get v ∧
        (d.tcmpOf n.val).mode = 1 ∧
        (d.tcmpOf n.val).next = BitVec.ofNat 64 (s.dev.pair (rTIME_TCMPnn_TGT_H n.val) (rTIME_TCMPnn_TGT_L n.val)) ∧
        d.on (fTIME_TCMPnn_STS_ARM_ERR n.val) = false ∧
        s.dev.sameRegs d [rTIME_TCMPnn_CTL n.val, rTIME_TCMPnn_STS n.val, rTIME_TCMPnn_OWNER n.val] ∧
        d = { s.dev with regs := d.regs, ports := d.ports, time := d.time, irqA := d.irqA, irqB := d.irqB } := by
  obtain ⟨c, hc⟩ : ∃ c, c = (s.dev.answer p []).tcmpStored n.val (armWord n.val v) := ⟨_, rfl⟩
  have cMode : c.get (fTIME_TCMPnn_CTL_MODE n.val) = 1 := by
    rw [hc, Dev.tcmpStored_mode, armWord_apart n.val v (Or.inr (by decide : 0 + 2 ≤ 7)), mode]
  have cLabel : c.get (fTIME_TCMPnn_CTL_LABEL n.val) = (fTIME_TCMPnn_CTL_LABEL n.val).get v := by
    rw [hc, Dev.tcmpStored_label, armWord_apart n.val v (f := fTIME_TCMPnn_CTL_LABEL n.val) (Or.inl (by decide : 7 + 1 ≤ 11))]
  have cRegs : s.dev.sameRegs c [rTIME_TCMPnn_CTL n.val] := by
    rw [hc]; exact (s.dev.answer_sameRegs p [] _).trans (Dev.tcmpStored_sameRegs _ _ _)
  have other : rTIME_TCMPnn_STS n.val ∉ [rTIME_TCMPnn_CTL n.val] ∧ rTIME_TCMPnn_OWNER n.val ∉ [rTIME_TCMPnn_CTL n.val] ∧
      rTIME_TCMPnn_TGT_H n.val ∉ [rTIME_TCMPnn_CTL n.val] ∧ rTIME_TCMPnn_TGT_L n.val ∉ [rTIME_TCMPnn_CTL n.val] := by
    simp [rTIME_TCMPnn_CTL, rTIME_TCMPnn_STS, rTIME_TCMPnn_OWNER, rTIME_TCMPnn_TGT_H, rTIME_TCMPnn_TGT_L]; omega
  obtain ⟨sts, owner, tgtH, tgtL⟩ := other
  have target : c.pair (rTIME_TCMPnn_TGT_H n.val) (rTIME_TCMPnn_TGT_L n.val) =
      s.dev.pair (rTIME_TCMPnn_TGT_H n.val) (rTIME_TCMPnn_TGT_L n.val) := by
    rw [Dev.pair, cRegs _ tgtH, cRegs _ tgtL, Dev.pair]
  have cPrio : c.tcmpPrio n.val = 0 := by
    rw [← prio]; unfold Dev.tcmpPrio; rw [cRegs.get (f := fTIME_TCMPnn_OWNER_PRIO n.val) owner]
  have arming := Dev.tcmpArm_free ((cRegs.on sts).trans armed) ((cRegs.get owner).trans free) cPrio cMode
  rw [target, cLabel] at arming
  have regs : s.dev.sameRegs (c.tcmpArm n.val) [rTIME_TCMPnn_CTL n.val, rTIME_TCMPnn_STS n.val, rTIME_TCMPnn_OWNER n.val] := by
    rw [arming]
    exact ((cRegs.mono (by simp)).put (f := fTIME_TCMPnn_OWNER_OWNER n.val) (by simp [fTIME_TCMPnn_OWNER_OWNER, rTIME_TCMPnn_OWNER])
      _).trans (Dev.armTcmp_sameRegs (by simp) _ _ _)
  obtain ⟨e, he⟩ : ∃ e, e = c.tcmpArm n.val := ⟨_, rfl⟩
  rw [← he] at regs arming
  have cKeeps : c.butTcmpPorts = s.dev.butTcmpPorts := by rw [hc]; rfl
  have keeps : e.butTcmpPorts = s.dev.butTcmpPorts := by rw [arming, ← cKeeps]; rfl
  have hx := exec_tcmpArm takes armed (by simp [Dev.tcmpForeign, free]) disarm
  rw [← hc, ← he] at hx
  refine completes_of_sameRegs hx calm regs (apart_of_subset (calmRegs_tcmp (Nat.lt_trans n.isLt (by decide))) (by simp))
    (congrArg (·.calmPart) keeps) ⟨?_, ?_, ?_, ?_, ?_, regs.showIrq, ?_⟩
  · rw [Dev.showIrq_on, arming]; exact Dev.armTcmp_armed ..
  · have owner : (fTIME_TCMPnn_OWNER_OWNER n.val).addr ∉ [rTIME_TCMPnn_STS n.val] := by
      rw [List.mem_singleton]; exact rTIME_TCMPnn_OWNER_ne_STS n.val
    rw [Dev.showIrq_get, arming, (Dev.armTcmp_sameRegs (by simp) _ _ _).get owner, Dev.get_put_same _ _ _ (fTIME_TCMPnn_OWNER_ok n.val),
      hostCode_fits]
  · rw [Dev.showIrq_tcmpOf, arming]; exact (Dev.armTcmp_oneShot _ _ _ _).1
  · rw [Dev.showIrq_tcmpOf, arming]; exact (Dev.armTcmp_oneShot _ _ _ _).2
  · rw [Dev.showIrq_on, arming]; exact Dev.armTcmp_armErr ..
  · exact congrArg (fun x : Dev => { x with regs := e.regs, ports := e.ports, time := e.time, irqA := e.irqPinA, irqB := e.irqPinB }) keeps

/-! ## Disarm -/

/-- DISARM written alone, or with ARM. -/
theorem Dev.tcmpCtl_disarm (h : d.tcmpForeign n = false) (arm : Bool) : d.tcmpCtl n arm true = (d.tcmpFire n).releaseTcmp n := by
  simp [Dev.tcmpCtl, h]

/-- The word that TCMP_DISARM writes: DISARM set in the operand. -/
def disarmWord (n : Nat) (v : Word) : Word := (fTIME_TCMPnn_CTL_DISARM n).put v 1

theorem disarmWord_disarm (n : Nat) (v : Word) : (fTIME_TCMPnn_CTL_DISARM n).get (disarmWord n v) = 1 :=
  Fld.get_put (fTIME_TCMPnn_CTL_DISARM n) (by decide : 6 + 1 ≤ 32) v 1

/-- A write of CTL, whether the comparator is armed or not, is recorded at most, stores bits of CTL, and then DISARM acts. -/
theorem Dev.regStore_tcmpCtl_disarm (d : Dev) (n : Fin 64) (m : Meets) (p : Port) (v : Word) :
    ∃ c w arm, (c = d ∨ c = d.record p (rTIME_TCMPnn_CTL n.val) 3 n.val) ∧
      d.regStore m p (rTIME_TCMPnn_CTL n.val) (disarmWord n.val v) tcmpCtlRow n.val =
        (c.setReg (rTIME_TCMPnn_CTL n.val) w).tcmpCtl n.val arm true := by
  have cmd : (fTIME_TCMPnn_CTL_DISARM n.val).within (w32 tcmpCtlRow.cmd) = true := (by decide : Fld.within ⟨0, 6, 1⟩ (w32 0xC0) = true)
  have notKept : (fTIME_TCMPnn_CTL_DISARM n.val).within (~~~w32 tcmpCtlRow.dcls) = true :=
    (by decide : Fld.within ⟨0, 6, 1⟩ (~~~w32 0xF803) = true)
  cases owned : d.owned tcmpCtlRow n.val with
  | false =>
    have stored := Dev.regStore_free (m := m) (p := p) (a := rTIME_TCMPnn_CTL n.val) (v := disarmWord n.val v) owned
    rw [Dev.writeEffect_tcmpCtl, cmdOf, cmdOf, Fld.get_and_within cmd, disarmWord_disarm] at stored
    exact ⟨d, _, _, Or.inl rfl, stored⟩
  | true =>
    obtain ⟨c, hc, stored⟩ := Dev.regStore_owned (m := m) (p := p) (a := rTIME_TCMPnn_CTL n.val) (v := disarmWord n.val v) owned
    rw [Dev.writeEffect_tcmpCtl, cmdOf, cmdOf, Fld.get_and_within notKept, Fld.get_and_within cmd, disarmWord_disarm] at stored
    exact ⟨c, _, _, hc, stored⟩

/-- The device but for its registers, its ports, its ignore record and the hidden state of its comparators. -/
def Dev.butTcmpIgn (d : Dev) : Dev := { d with regs := [], ports := [], ign := [], time := { d.time with tcmp := [] } }

theorem Dev.record_butTcmpIgn (d : Dev) (p : Port) (a b i : Nat) : (d.record p a b i).butTcmpIgn = d.butTcmpIgn := by
  rw [d.record_frame p a b i]; rfl

/-- The second clause of O9: DISARM of a comparator that no other function holds. -/
theorem tcmpDisarm_completes (s : State) (n : Fin 64) (p : Port) (v : Word) (calm : s.dev.calm = true)
    (takes : s.dev.takes p (rTIME_TCMPnn_CTL n.val)) (host : s.dev.tcmpForeign n.val = false) :
    Completes (.tcmpDisarm n p v) s fun d =>
        d.on (fTIME_TCMPnn_STS_ARMED n.val) = false ∧
        d.get (fTIME_TCMPnn_OWNER_OWNER n.val) = 0 ∧
        d.tcmpOf n.val = {} := by
  obtain ⟨L, hL⟩ : ∃ L, L = [rTIME_TCMPnn_CTL n.val, rTIME_TCMPnn_STS n.val, rTIME_TCMPnn_OWNER n.val, rTIME_TCMPnn_FIRE_CNT n.val,
    rGLB_IGN_CNT, rGLB_IGN_OVF_CNT] := ⟨_, rfl⟩
  have calmApart : ∀ a ∈ calmRegs, a ∉ L := by rw [hL]; exact calmRegs_tcmp (Nat.lt_trans n.isLt (by decide))
  obtain ⟨c, w, arm, hc, stored⟩ := (s.dev.answer p []).regStore_tcmpCtl_disarm n {} p v
  have cRegs : s.dev.sameRegs c [rGLB_IGN_CNT, rGLB_IGN_OVF_CNT] := by
    have answered := s.dev.answer_sameRegs p [] [rGLB_IGN_CNT, rGLB_IGN_OVF_CNT]
    obtain rfl | rfl := hc
    · exact answered
    · exact answered.trans (Dev.record_sameRegs _ _ _ _ _ (by simp) (by simp))
  have cKeeps : c.butTcmpIgn = s.dev.butTcmpIgn := by
    obtain rfl | rfl := hc
    · rfl
    · rw [Dev.record_butTcmpIgn]; rfl
  obtain ⟨b, hb⟩ : ∃ b, b = c.setReg (rTIME_TCMPnn_CTL n.val) w := ⟨_, rfl⟩
  have bRegs : s.dev.sameRegs b [rGLB_IGN_CNT, rGLB_IGN_OVF_CNT, rTIME_TCMPnn_CTL n.val] := by
    rw [hb]; exact (cRegs.mono (by simp)).setReg (by simp) w
  have bKeeps : b.butTcmpIgn = s.dev.butTcmpIgn := by rw [hb, ← cKeeps]; rfl
  have bHost : b.tcmpForeign n.val = false := by
    have owner : b.get (fTIME_TCMPnn_OWNER_OWNER n.val) = s.dev.get (fTIME_TCMPnn_OWNER_OWNER n.val) := bRegs.get (by
      simp [fTIME_TCMPnn_OWNER_OWNER, rGLB_IGN_CNT, rGLB_IGN_OVF_CNT, rTIME_TCMPnn_CTL]; omega)
    unfold Dev.tcmpForeign
    rw [owner]
    exact host
  have hx : exec (.tcmpDisarm n p v) s = s.done ((b.tcmpFire n.val).releaseTcmp n.val) := by
    show s.done (s.dev.writeWith {} p (fTIME_TCMPnn_CTL_DISARM n.val) 1 v) = _
    rw [Dev.writeWith_tcmpCtl takes host {} rfl, ← disarmWord, stored, ← hb, Dev.tcmpCtl_disarm bHost]
  have fired : b.sameRegs (b.tcmpFire n.val) L ∧ (b.tcmpFire n.val).butTcmpIgn = b.butTcmpIgn := by
    rw [Dev.tcmpFire_host bHost]
    split
    · exact ⟨Dev.tcmpFired_sameRegs (by simp [hL]) (by simp [hL]) false,
        congrArg (fun x : Dev => { x with ports := [], ign := [] }) (b.tcmpFired_butTcmp n.val false)⟩
    · exact ⟨Dev.sameRegs.refl b L, rfl⟩
  obtain ⟨f, hf⟩ : ∃ f, f = b.tcmpFire n.val := ⟨_, rfl⟩
  rw [← hf] at hx fired
  have regs : s.dev.sameRegs (f.releaseTcmp n.val) L :=
    ((bRegs.mono (by simp [hL])).trans fired.1).trans (Dev.releaseTcmp_sameRegs (by simp [hL]) (by simp [hL]))
  have keeps : (f.releaseTcmp n.val).butTcmpIgn = s.dev.butTcmpIgn := by rw [← bKeeps, ← fired.2]; rfl
  refine completes_of_sameRegs hx calm regs calmApart (congrArg (·.calmPart) keeps) ⟨?_, ?_, ?_⟩
  · rw [Dev.showIrq_on]; exact Dev.releaseTcmp_armed ..
  · rw [Dev.showIrq_get]; exact Dev.releaseTcmp_owner ..
  · rw [Dev.showIrq_tcmpOf]; exact Dev.releaseTcmp_tcmpOf ..

/-! ## Fire -/

/-- The third clause of O9: a one-shot comparator of the host whose target is reached. -/
theorem tcmpFire_completes (s : State) (n : Fin 64) (calm : s.dev.calm = true) (runs : s.dev.timeRuns = true)
    (armed : s.dev.on (fTIME_TCMPnn_STS_ARMED n.val) = true) (owner : s.dev.get (fTIME_TCMPnn_OWNER_OWNER n.val) / 32 = 5)
    (mode : (s.dev.tcmpOf n.val).mode = 1) (late : (s.dev.tcmpOf n.val).late = false)
    (reached : 0 ≤ sdiff64 s.dev.ft64 (s.dev.tcmpOf n.val).next) :
    Completes (.tcmpFire n) s fun d =>
        d.on (fTIME_TCMPnn_STS_ARMED n.val) = false ∧
        d.on (fTIME_TCMPnn_STS_FIRED n.val) = true ∧
        (d.reg (rTIME_TCMPnn_FIRE_CNT n.val)).toNat = min ((s.dev.reg (rTIME_TCMPnn_FIRE_CNT n.val)).toNat + 1) (2 ^ 32 - 1) ∧
        s.dev.sameRegs d [rTIME_TCMPnn_STS n.val, rTIME_TCMPnn_FIRE_CNT n.val] ∧
        d = { s.dev with regs := d.regs, irqA := d.irqA, irqB := d.irqB } := by
  obtain ⟨e, he⟩ : ∃ e, e = ((s.dev.inc (rTIME_TCMPnn_FIRE_CNT n.val)).putB (fTIME_TCMPnn_STS_FIRED n.val) true).putB
    (fTIME_TCMPnn_STS_ARMED n.val) false := ⟨_, rfl⟩
  have host : s.dev.tcmpForeign n.val = false := by simp [Dev.tcmpForeign, owner]
  have hx : exec (.tcmpFire n) s = s.done e := by
    show s.done (s.dev.tcmpFire n.val) = _
    rw [Dev.tcmpFire_host host, runs, armed, decide_eq_true reached, Dev.tcmpFired_oneShot mode late, ← he]
    rfl
  have regs : s.dev.sameRegs e [rTIME_TCMPnn_STS n.val, rTIME_TCMPnn_FIRE_CNT n.val] := by
    rw [he]
    exact (((Dev.sameRegs.refl _ _).inc (by simp)).putB (f := fTIME_TCMPnn_STS_FIRED n.val) List.mem_cons_self true).putB
      (f := fTIME_TCMPnn_STS_ARMED n.val) List.mem_cons_self false
  have keeps : e.butRegs = s.dev.butRegs := by rw [he]; rfl
  refine completes_of_sameRegs hx calm regs (apart_of_subset (calmRegs_tcmp (Nat.lt_trans n.isLt (by decide))) (by simp))
    (congrArg (·.calmPart) keeps) ⟨?_, ?_, ?_, regs.showIrq, ?_⟩
  · rw [Dev.showIrq_on, he, Dev.on_putB_same _ (fTIME_TCMPnn_STS_ARMED_ok n.val) rfl]
  · have apart : (fTIME_TCMPnn_STS_ARMED n.val).apart (fTIME_TCMPnn_STS_FIRED n.val) := Or.inr (by decide : 2 + 1 ≤ 4)
    rw [Dev.showIrq_on, he, Dev.putB, Dev.on_put_apart _ _ (fTIME_TCMPnn_STS_ARMED_ok n.val) apart,
      Dev.on_putB_same (f := fTIME_TCMPnn_STS_FIRED n.val) _ (by decide : 2 + 1 ≤ 32) rfl]
  · have sts : rTIME_TCMPnn_STS n.val ≠ rTIME_TCMPnn_FIRE_CNT n.val := by simp only [rTIME_TCMPnn_STS, rTIME_TCMPnn_FIRE_CNT]; omega
    rw [Dev.showIrq_reg, he, Dev.putB, Dev.reg_put_ne (f := fTIME_TCMPnn_STS_ARMED n.val) _ _ sts, Dev.putB,
      Dev.reg_put_ne (f := fTIME_TCMPnn_STS_FIRED n.val) _ _ sts, Dev.reg_inc_same]
  · exact congrArg (fun x : Dev => { x with regs := e.regs, irqA := e.irqPinA, irqB := e.irqPinB }) keeps

/-- Settles O9: ARM, DISARM and the fire of a comparator of the host. -/
theorem comparatorsArmFireAndRelease : Obligations.ComparatorsArmFireAndRelease :=
  ⟨tcmpArm_completes, tcmpDisarm_completes, tcmpFire_completes⟩

end Sys2Proof.Machine
end

section
/-! What raising an event leaves as it was (R401 to R412, R475): all but its host queue, the sequencers, the cue engine's triggers, and
what an armed injection into the queue's array takes with it. -/

namespace Sys2Proof.Machine

open Sys2Proof

variable {d e f : Dev} {q : Nat}

/-- The registers that an event may change: the counters of its host queue and the arm of an injection. -/
def eventRegs (q : Nat) : List Nat :=
  [rHQnn_LOST_CNT q, rHQnn_TORN_CNT q, rHQnn_DISC_CNT q, rHQnn_REJECT_CNT q, rHQnn_WM_CROSS_CNT q, fINT_INJ_CMD_ARMED.addr]

/-- The device but for its registers and what an event may change. -/
def Dev.butEvents (d : Dev) : Dev := { d with regs := [], hq := [], rql := [], cue := {}, poison := [], integ := {} }

/-- `e` differs from `d` only in what an event to queue `q` may change. -/
abbrev EvtKeeps (q : Nat) (d e : Dev) : Prop := Keeps Dev.butEvents (eventRegs q) d e

namespace EvtKeeps

theorem refl (q : Nat) (d : Dev) : EvtKeeps q d d := Keeps.refl ..

theorem add (h : EvtKeeps q d e) {a : Nat} (ha : a ∈ eventRegs q) (n : Nat) : EvtKeeps q d (e.add a n) := ⟨h.rest, h.regs.add ha n⟩

theorem inc (h : EvtKeeps q d e) {a : Nat} (ha : a ∈ eventRegs q) : EvtKeeps q d (e.inc a) := h.add ha 1

theorem setHq (h : EvtKeeps q d e) (n : Nat) (x : Hq) : EvtKeeps q d (e.setHq n x) := Keeps.trans h (Keeps.of_regs rfl rfl)

end EvtKeeps

theorem Dev.hqMark_keeps (d : Dev) (q : Nat) : EvtKeeps q d (d.hqMark q) := by
  unfold Dev.hqMark
  dsimp only
  split
  · exact (EvtKeeps.refl q d).setHq q _
  · split
    · split
      · exact (EvtKeeps.refl q d).setHq q _
      · exact EvtKeeps.refl q d
    · split
      · exact ((EvtKeeps.refl q d).setHq q _).inc (by simp [eventRegs])
      · exact EvtKeeps.refl q d

theorem Dev.injMade_keeps (d : Dev) (q : Nat) : EvtKeeps q d d.injMade :=
  ⟨rfl, ((Dev.sameRegs.refl d _).put (f := fINT_INJ_CMD_OP) (by simp [eventRegs, fINT_INJ_CMD_ARMED, fINT_INJ_CMD_OP]) 0).putB
    (f := fINT_INJ_CMD_ARMED) (by simp [eventRegs]) false⟩

theorem Dev.arrayWrite_keeps (d : Dev) (q array word : Nat) : EvtKeeps q d (d.arrayWrite array word) := by
  unfold Dev.arrayWrite
  dsimp only
  split
  · exact ((Keeps.of_regs rfl rfl).trans (Dev.injMade_keeps _ q)).trans (Keeps.of_regs rfl rfl)
  · exact Keeps.of_regs rfl rfl

theorem Dev.hqStore_keeps (d : Dev) (q : Nat) (w : HqWord) : EvtKeeps q d (d.hqStore q w) := by
  obtain ⟨c, hc⟩ : ∃ c, c = d.arrayWrite 4 (1024 * q + (d.hqOf q).wp) := ⟨_, rfl⟩
  have written : EvtKeeps q d c := by rw [hc]; exact d.arrayWrite_keeps q _ _
  have marked : ∀ f, EvtKeeps q d f → EvtKeeps q d (f.hqMark q) := fun f h => h.trans (f.hqMark_keeps q)
  unfold Dev.hqStore
  dsimp only
  rw [← hc]
  split
  · split
    · exact marked _ (written.setHq q _)
    · split
      · exact marked _ ((written.setHq q _).inc (by simp [eventRegs]))
      · refine marked _ ?_
        split
        · exact (written.setHq q _).inc (by simp [eventRegs])
        · exact ((written.setHq q _).inc (by simp [eventRegs])).inc (by simp [eventRegs])
  · exact marked _ (written.setHq q _)

theorem Dev.hqStores_keeps (d : Dev) (q : Nat) (l : List HqWord) : EvtKeeps q d (d.hqStores q l) := by
  induction l generalizing d with
  | nil => exact EvtKeeps.refl q d
  | cons w t ih => exact (d.hqStore_keeps q w).trans (ih _)

theorem Dev.hqDoFlush_keeps (d : Dev) (q : Nat) : EvtKeeps q d (d.hqDoFlush q) := by
  unfold Dev.hqDoFlush
  dsimp only
  exact (((EvtKeeps.refl q d).setHq q _).add (by simp [eventRegs]) _).trans (Dev.hqMark_keeps _ q)

theorem Dev.hqFinish_keeps (d : Dev) (q : Nat) : EvtKeeps q d (d.hqFinish q) := by
  have stored := ((EvtKeeps.refl q d).setHq q { d.hqOf q with rest := [] }).trans (Dev.hqStores_keeps _ q (d.hqOf q).rest)
  unfold Dev.hqFinish
  dsimp only
  split
  · exact stored.trans (Dev.hqDoFlush_keeps _ q)
  · exact stored

theorem Dev.hqPush_keeps (d : Dev) (q prod : Nat) (bs : List Byte) : EvtKeeps q d (d.hqPush q prod bs) := by
  unfold Dev.hqPush
  split
  · exact (d.hqFinish_keeps q).setHq q _
  · exact (EvtKeeps.refl q d).inc (by simp [eventRegs])

theorem Dev.rqlOffer_keeps (d : Dev) (q code arg : Nat) : EvtKeeps q d (d.rqlOffer code arg) := by
  have take : ∀ (c : Dev) n, (c.rqlTake code arg n).butEvents = c.butEvents ∧ (c.rqlTake code arg n).regs = c.regs := by
    intro c n
    unfold Dev.rqlTake
    split <;> exact ⟨rfl, rfl⟩
  exact Keeps.of_regs (foldl_keeps Dev.butEvents _ _ (fun n _ c => (take c n).1) d) (foldl_keeps Dev.regs _ _ (fun n _ c => (take c n).2) d)

theorem Dev.cueNote_keeps (d : Dev) (q evt : Nat) : EvtKeeps q d (d.cueNote evt) := by
  unfold Dev.cueNote
  split
  · exact EvtKeeps.refl q d
  · exact Keeps.of_regs rfl rfl

/-- An event changes its host queue, the sequencers, the cue engine's triggers and what an injection takes with it. -/
theorem Dev.raise_keeps (d : Dev) (code arg : Nat) : EvtKeeps (d.get fHQ_ROUTE_EVT_Q) d (d.raise code arg) := by
  unfold Dev.raise
  split
  · exact EvtKeeps.refl _ d
  · exact ((d.hqPush_keeps _ _ _).trans (Dev.rqlOffer_keeps _ _ _ _)).trans (Dev.cueNote_keeps _ _ _)

/-- The event queue is one of 32. -/
theorem Dev.eventQueue_lt (d : Dev) : d.get fHQ_ROUTE_EVT_Q < 32 := Nat.mod_lt _ (Nat.two_pow_pos 5)

theorem calmRegs_event {q : Nat} (hq : q < 32) : ∀ a ∈ calmRegs, a ∉ eventRegs q := by
  simp [calmRegs, eventRegs, rHQnn_LOST_CNT, rHQnn_TORN_CNT, rHQnn_DISC_CNT, rHQnn_REJECT_CNT, rHQnn_WM_CROSS_CNT, fINT_INJ_CMD_ARMED,
    rPTP_PTDd_STS, rHALO_STS, rPTP_GOV_STS, rTIME_PPS_OUT_CFG]
  omega

end Sys2Proof.Machine
end

section
/-! Tick words (R13, R17, R18, R31, R106, R118): a generator issues one, the crossing carries it, and a consumer takes it. -/

namespace Sys2Proof.Machine

open Sys2Proof

variable {d : Dev}

/-! ## Paths -/

/-- The device but for its registers and the crossings of tick words. -/
def Dev.butTicks (d : Dev) : Dev := { d with regs := [], ticks := [] }

theorem consumerKey_inj {c c' : Consumer} (h : consumerKey c = consumerKey c') : c = c' := by
  cases c <;> cases c' <;> grind [consumerKey]

theorem pathKey_inj {g : Nat} {c c' : Consumer} (h : pathKey g c = pathKey g c') : c = c' := consumerKey_inj (by
  unfold pathKey at h; omega)

@[simp] theorem Dev.path_setPath_same (d : Dev) (g : Nat) (c : Consumer) (x : TickPath) : (d.setPath g c x).path g c = x := kget_kset_same ..

theorem Dev.path_setPath_ne (d : Dev) (g : Nat) {c c' : Consumer} (x : TickPath) (h : c ≠ c') :
    (d.setPath g c x).path g c' = d.path g c' := kget_kset_ne _ _ _ (mt pathKey_inj h)

theorem Dev.path_of_ticks {d e : Dev} (h : e.ticks = d.ticks) (g : Nat) (c : Consumer) : e.path g c = d.path g c := by
  unfold Dev.path; rw [h]

@[simp] theorem Dev.showIrq_path (d : Dev) (g : Nat) (c : Consumer) : d.showIrq.path g c = d.path g c := rfl

/-- A consumer follows a generator once. -/
theorem Dev.followers_nodup (d : Dev) (g : Nat) : (d.followers g).Nodup := by
  have one : ∀ (b : Prop) [Decidable b] (c : Consumer), (if b then [c] else []).Nodup := by
    intro b _ c; split <;> simp
  have ports : ∀ on : Fin 24 → Bool, ((List.finRange 24).filterMap fun n => if on n then some (Consumer.sap n) else none).Nodup :=
    fun on => (List.nodup_finRange 24).filterMap (by simp; tauto)
  refine ((one _ _).append (one _ _) ?_).append (ports _) ?_
  · simp [List.Disjoint]
  · simp only [List.Disjoint, List.mem_append, List.mem_ite_nil_right, List.mem_singleton, List.mem_filterMap, Option.ite_none_right_eq_some]
    rintro c (⟨-, rfl⟩ | ⟨-, rfl⟩) ⟨n, -, -, h⟩ <;> cases h

theorem Dev.foldl_offer_path (g : Nat) (w : TickWord) (l : List Consumer) (hl : l.Nodup) (d : Dev) :
    ∀ c, (l.foldl (fun d c => d.setPath g c ((d.path g c).offer w)) d).path g c = if c ∈ l then (d.path g c).offer w else d.path g c := by
  induction l generalizing d with
  | nil => simp
  | cons x t ih =>
    intro c
    obtain ⟨hx, ht⟩ := List.nodup_cons.mp hl
    rw [List.foldl_cons, ih ht]
    by_cases hc : c = x
    · subst hc; simp [hx]
    · simp [hc, Dev.path_setPath_ne _ g _ (Ne.symm hc)]

/-- A word issued is offered to each follower (R118). -/
theorem Dev.issueTick_path (d : Dev) (g : Nat) (w : TickWord) {c : Consumer} (hc : c ∈ d.followers g) :
    (d.issueTick g w).path g c = (d.path g c).offer w := by
  rw [Dev.issueTick, Dev.foldl_offer_path g w _ (d.followers_nodup g), if_pos hc]

theorem Dev.issueTick_butTicks (d : Dev) (g : Nat) (w : TickWord) : (d.issueTick g w).butTicks = d.butTicks := by
  unfold Dev.issueTick
  refine foldl_keeps Dev.butTicks _ _ ?_ d
  intros; rfl

theorem Dev.issueTick_regs (d : Dev) (g : Nat) (w : TickWord) : (d.issueTick g w).regs = d.regs := by
  unfold Dev.issueTick
  refine foldl_keeps Dev.regs _ _ ?_ d
  intros; rfl

/-! ## The tick of a generator -/

/-- The device but for its registers, its generators and the crossings of tick words. -/
def Dev.butMcgTicks (d : Dev) : Dev := { d with regs := [], mcg := [], ticks := [] }

theorem Dev.pair_setPair (d : Dev) {hi lo v : Nat} (h : hi ≠ lo) (hv : v < 2 ^ 64) : (d.setPair hi lo v).pair hi lo = v := by
  rw [Dev.pair, Dev.setPair, Dev.reg_setReg_same, Dev.reg_setReg, if_neg h, Dev.reg_setReg_same, BitVec.toNat_ofNat, BitVec.toNat_ofNat]
  omega

theorem Dev.sameRegs.setPair {e : Dev} {L : List Nat} (h : d.sameRegs e L) {hi lo : Nat} (hhi : hi ∈ L) (hlo : lo ∈ L) (v : Nat) :
    d.sameRegs (e.setPair hi lo v) L := (h.setReg hlo _).setReg hhi _

/-- The bits set in an enable map are those of its 16 registers. -/
theorem Dev.mapBits_congr {d e : Dev} {L : List Nat} (regs : d.sameRegs e L) {base : Nat} (apart : ∀ k < 16, base + 4 * k ∉ L) :
    e.mapBits base = d.mapBits base := by
  unfold Dev.mapBits
  refine congrArg List.flatten (List.map_congr_left fun k hk => ?_)
  rw [regs _ (apart k (List.mem_range.mp hk))]

theorem Dev.setMcg_butMcgTicks (d : Dev) (n : Nat) (x : McgSt) : (d.setMcg n x).butMcgTicks = d.butMcgTicks := rfl

theorem Dev.setPair_butMcgTicks (d : Dev) (hi lo v : Nat) : (d.setPair hi lo v).butMcgTicks = d.butMcgTicks := rfl

theorem Dev.mcgMclk_regs (d : Dev) (n : Nat) : (d.mcgMclk n).regs = d.regs := rfl

theorem Dev.mcgMclk_ticks (d : Dev) (n : Nat) : (d.mcgMclk n).ticks = d.ticks := rfl

theorem Dev.mcgMclk_butMcgTicks (d : Dev) (n : Nat) : (d.mcgMclk n).butMcgTicks = d.butMcgTicks := rfl

/-- The followers of a generator are read off the enable maps, the contexts, Anvil's house clock and the serial ports. -/
theorem Dev.followers_congr {d e : Dev} {L : List Nat} (regs : d.sameRegs e L) (tbl : e.tbl = d.tbl)
    (stx : ∀ k < 16, rSTX_ENMAPkk 0 + 4 * k ∉ L) (srx : ∀ k < 16, rSRX_ENMAPkk 0 + 4 * k ∉ L) (anv : fANV_CTL_EN.addr ∉ L)
    (house : fMCG_HOUSE_HOUSE.addr ∉ L) (sap : ∀ k < 24, (fSAPnn_CTL_EN k).addr ∉ L) (g : Nat) : e.followers g = d.followers g := by
  have ctx : ∀ c, e.ctxMcg c = d.ctxMcg c := fun c => by rw [Dev.ctxMcg, Dev.ctxWord, tbl]; rfl
  have port : ∀ n : Fin 24, (e.on (fSAPnn_CTL_EN n.val) && e.on (fSAPnn_CTL_MASTER n.val) && e.get (fSAPnn_CTL_MCG n.val) == g) =
      (d.on (fSAPnn_CTL_EN n.val) && d.on (fSAPnn_CTL_MASTER n.val) && d.get (fSAPnn_CTL_MCG n.val) == g) := fun n => by
    rw [regs.on (f := fSAPnn_CTL_EN n.val) (sap n n.isLt), regs.on (f := fSAPnn_CTL_MASTER n.val) (sap n n.isLt),
      regs.get (f := fSAPnn_CTL_MCG n.val) (sap n n.isLt)]
  unfold Dev.followers
  simp only [Dev.mapBits_congr regs stx, Dev.mapBits_congr regs srx, regs.on anv, regs.get house, ctx, port]

/-- A tick without REBASE sets SIDX and the generator's own state, and offers the word to the followers. -/
theorem Dev.mcgEmit_next (d : Dev) (n : Nat) (s : Word64) (ep fresh : Bool) : ∃ y, d.mcgEmit n s false ep fresh =
    (((d.setPair (rMCGn_SIDX_H n) (rMCGn_SIDX_L n) s.toNat).setMcg n y).mcgMclk n).issueTick n { sidx := s, rebase := false } := by
  unfold Dev.mcgEmit
  simp only [Bool.false_eq_true, if_false]
  exact ⟨_, rfl⟩

/-- The next tick of a count that goes on, of a generator whose source has not been written and for which no jump waits: the next
SIDX, without REBASE. -/
theorem Dev.mcgTick_next {d : Dev} {n : Nat} (runs : d.mcgRuns n = true) (jump : (d.mcgOf n).jump = false)
    (here : d.mcgState n = 2 ∧ d.mcgEpoch n = true ∧ (d.mcgOf n).epoch = true → d.mcgAt n (d.mcgSidx n + 1).toNat = true)
    (first : (d.mcgOf n).first = false) (issued : (d.mcgOf n).issued = true) (kind : (d.mcgOf n).kind = d.get (fMCGn_SRC_KIND n))
    (index : (d.mcgOf n).index = d.get (fMCGn_SRC_INDEX n)) (rebase : (d.mcgOf n).rebase = false) :
    ∃ x, d.mcgTick n = (d.setMcg n x).mcgEmit n (d.mcgSidx n + 1) false (d.mcgOf n).epoch false := by
  have pending : d.mcgPending n = false := by simp [Dev.mcgPending, kind, index]
  have next : d.mcgNext n = d.mcgSidx n + 1 := by simp [Dev.mcgNext, first, issued]
  have source : d.mcgApplySource n = d := if_pos ⟨kind, index⟩
  have atHere : (!(d.mcgState n == 2 && d.mcgEpoch n && (d.mcgOf n).epoch) || d.mcgAt n (d.mcgSidx n + 1).toNat) = true := by
    cases hs : (d.mcgState n == 2 && d.mcgEpoch n && (d.mcgOf n).epoch) with
    | false => rfl
    | true =>
      simp only [Bool.and_eq_true, beq_iff_eq] at hs
      rw [here ⟨hs.1.1, hs.1.2, hs.2⟩, Bool.or_true]
  refine ⟨{ d.mcgOf n with first := false, rebase := false, issued := true, ticking := true }, ?_⟩
  rw [Dev.mcgTick]
  simp only [pending, next, source, runs, jump, first, rebase, atHere, Bool.false_or, Bool.not_false, Bool.or_false, Bool.and_self,
    Bool.not_true, Bool.false_eq_true, if_false, false_and]

theorem calmRegs_sidx (g : Fin 8) : ∀ a ∈ calmRegs, a ∉ [rMCGn_SIDX_H g.val, rMCGn_SIDX_L g.val] := by revert g; decide

/-- The first clause of O6: a generator issues the next tick. -/
theorem tickIssue_completes (s : State) (g : Fin 8) (calm : s.dev.calm = true) (runs : s.dev.mcgRuns g.val = true)
    (jump : (s.dev.mcgOf g.val).jump = false)
    (here : s.dev.mcgState g.val = 2 ∧ s.dev.mcgEpoch g.val = true ∧ (s.dev.mcgOf g.val).epoch = true →
      s.dev.mcgAt g.val (s.dev.mcgSidx g.val + 1).toNat = true)
    (first : (s.dev.mcgOf g.val).first = false) (issued : (s.dev.mcgOf g.val).issued = true)
    (kind : (s.dev.mcgOf g.val).kind = s.dev.get (fMCGn_SRC_KIND g.val))
    (index : (s.dev.mcgOf g.val).index = s.dev.get (fMCGn_SRC_INDEX g.val)) (rebase : (s.dev.mcgOf g.val).rebase = false) :
    Completes (.tickIssue g) s fun d =>
        d.mcgSidx g.val = s.dev.mcgSidx g.val + 1 ∧
        (∀ c ∈ s.dev.followers g.val, d.path g.val c = (s.dev.path g.val c).offer { sidx := s.dev.mcgSidx g.val + 1, rebase := false }) ∧
        s.dev.sameRegs d [rMCGn_SIDX_H g.val, rMCGn_SIDX_L g.val] ∧
        d = { s.dev with regs := d.regs, mcg := d.mcg, ticks := d.ticks, irqA := d.irqA, irqB := d.irqB } := by
  obtain ⟨x, tick⟩ := Dev.mcgTick_next runs jump here first issued kind index rebase
  obtain ⟨y, emit⟩ := (s.dev.setMcg g.val x).mcgEmit_next g.val (s.dev.mcgSidx g.val + 1) (s.dev.mcgOf g.val).epoch false
  obtain ⟨c, hc⟩ : ∃ c, c = (((s.dev.setMcg g.val x).setPair (rMCGn_SIDX_H g.val) (rMCGn_SIDX_L g.val)
    (s.dev.mcgSidx g.val + 1).toNat).setMcg g.val y).mcgMclk g.val := ⟨_, rfl⟩
  rw [emit, ← hc] at tick
  obtain ⟨e, he⟩ : ∃ e, e = c.issueTick g.val { sidx := s.dev.mcgSidx g.val + 1, rebase := false } := ⟨_, rfl⟩
  rw [← he] at tick
  have cTicks : c.ticks = s.dev.ticks := by rw [hc, Dev.mcgMclk_ticks, Dev.setMcg_ticks, Dev.setPair_ticks, Dev.setMcg_ticks]
  have cKeeps : c.butMcgTicks = s.dev.butMcgTicks := by
    rw [hc, Dev.mcgMclk_butMcgTicks, Dev.setMcg_butMcgTicks, Dev.setPair_butMcgTicks, Dev.setMcg_butMcgTicks]
  have regs : s.dev.sameRegs c [rMCGn_SIDX_H g.val, rMCGn_SIDX_L g.val] := by
    rw [hc]
    refine Dev.sameRegs.of_regs ?_ (Dev.mcgMclk_regs ..)
    exact (((Dev.sameRegs.refl _ _).of_regs (Dev.setMcg_regs ..)).setPair (by simp) (by simp) _).of_regs (Dev.setMcg_regs ..)
  have eRegs : e.regs = c.regs := by rw [he, Dev.issueTick_regs]
  have keeps : e.butMcgTicks = s.dev.butMcgTicks := by
    rw [← cKeeps, he]
    exact congrArg (fun x : Dev => { x with mcg := [] }) (c.issueTick_butTicks _ _)
  have followers : c.followers g.val = s.dev.followers g.val := by
    have sidx : rMCGn_SIDX_H g.val = 0x50124 + 0x100 * g.val ∧ rMCGn_SIDX_L g.val = 0x50120 + 0x100 * g.val := ⟨rfl, rfl⟩
    have hg := g.isLt
    refine Dev.followers_congr regs (congrArg (·.tbl) cKeeps) ?_ ?_ ?_ ?_ ?_ g.val <;>
      simp [sidx, rSTX_ENMAPkk, rSRX_ENMAPkk, fANV_CTL_EN, fMCG_HOUSE_HOUSE, fSAPnn_CTL_EN] <;> omega
  refine completes_of_sameRegs (e := e) (by rw [← tick]; rfl) calm (regs.of_regs eRegs) (calmRegs_sidx g) (congrArg (·.calmPart) keeps)
    ⟨?_, ?_, (regs.of_regs eRegs).showIrq, ?_⟩
  · have pair : e.pair (rMCGn_SIDX_H g.val) (rMCGn_SIDX_L g.val) = (s.dev.mcgSidx g.val + 1).toNat := by
      rw [Dev.pair, Dev.reg, Dev.reg, eRegs, hc, Dev.mcgMclk_regs, Dev.setMcg_regs]
      exact Dev.pair_setPair _ (by simp [rMCGn_SIDX_H, rMCGn_SIDX_L]) (BitVec.isLt _)
    show BitVec.ofNat 64 (e.pair (rMCGn_SIDX_H g.val) (rMCGn_SIDX_L g.val)) = _
    rw [pair, BitVec.ofNat_toNat, BitVec.setWidth_eq]
  · intro f hf
    rw [Dev.showIrq_path, he, Dev.issueTick_path _ _ _ (by rw [followers]; exact hf), Dev.path_of_ticks cTicks]
  · exact congrArg (fun x : Dev => { x with regs := e.regs, mcg := e.mcg, ticks := e.ticks, irqA := e.irqPinA, irqB := e.irqPinB }) keeps

/-! ## The holding register and the crossing -/

/-- A command whose own effect replaces one path completes with that path replaced and nothing else changed. -/
theorem setPath_completes {i : Instr} {s : State} {g : Nat} {c : Consumer} {x : TickPath} (calm : s.dev.calm = true)
    (hx : exec i s = s.done (s.dev.setPath g c x)) :
    Completes i s fun d =>
        d.path g c = x ∧ s.dev.sameRegs d [] ∧
        d = { s.dev with regs := d.regs, ticks := d.ticks, irqA := d.irqA, irqB := d.irqB } := by
  have regs : s.dev.sameRegs (s.dev.setPath g c x) [] := fun _ _ => rfl
  refine completes_of_sameRegs hx calm regs (by simp) rfl ⟨?_, regs.showIrq, rfl⟩
  rw [Dev.showIrq_path, Dev.path_setPath_same]

theorem TickPath.sendHeld_idle {x : TickPath} {w : TickWord} (flight : x.flight = none) (hold : x.hold = some w) :
    x.sendHeld = { x with flight := some w, hold := none } := by
  simp only [TickPath.sendHeld, flight, hold]

theorem TickPath.deliver_flight {x : TickPath} {w : TickWord} (arrived : x.arrived = none) (flight : x.flight = some w) :
    x.deliver = { x with arrived := some w, flight := none } := by
  simp only [TickPath.deliver, arrived, flight]

/-- The second clause of O6: the word that waits is sent. -/
theorem tickHoldSend_completes (s : State) (g : Fin 8) (c : Consumer) (w : BitVec 64) (r : Bool) (calm : s.dev.calm = true)
    (flight : (s.dev.path g.val c).flight = none) (hold : (s.dev.path g.val c).hold = some { sidx := w, rebase := r }) :
    Completes (.tickHoldSend g c) s fun d =>
        d.path g.val c = { s.dev.path g.val c with flight := some { sidx := w, rebase := r }, hold := none } ∧
        s.dev.sameRegs d [] ∧
        d = { s.dev with regs := d.regs, ticks := d.ticks, irqA := d.irqA, irqB := d.irqB } :=
  setPath_completes calm (by
    rw [← TickPath.sendHeld_idle flight hold]; rfl)

/-- The third clause of O6: a word in flight is delivered. -/
theorem crossingTick_completes (s : State) (g : Fin 8) (c : Consumer) (w : TickWord) (calm : s.dev.calm = true)
    (runs : s.dev.consumerRuns c = true) (arrived : (s.dev.path g.val c).arrived = none)
    (flight : (s.dev.path g.val c).flight = some w) :
    Completes (.crossingWordDeliver (.tick g c)) s fun d =>
        d.path g.val c = { s.dev.path g.val c with arrived := some w, flight := none } ∧
        s.dev.sameRegs d [] ∧
        d = { s.dev with regs := d.regs, ticks := d.ticks, irqA := d.irqA, irqB := d.irqB } :=
  setPath_completes calm (by
    rw [← TickPath.deliver_flight arrived flight]
    exact congrArg s.done (if_pos runs))

/-- The fourth clause of O6: a sample word whose residue fits. -/
theorem crossingSample_completes (s : State) (src dst : Nat) (h : BitVec 16) (x w : BitVec 64) (r : Nat) (calm : s.dev.calm = true)
    (hsrc : src < 43) (hdst : dst < 43) (runs : s.dev.islandRuns dst = true) (fits : res w.toInt = r) :
    Completes (.crossingWordDeliver (.sample src dst h x w r)) s fun d =>
        kget 0 d.xing (64 * src + dst) = w ∧
        s.dev.sameRegs d [] ∧
        d = { s.dev with regs := d.regs, xing := d.xing, irqA := d.irqA, irqB := d.irqB } := by
  obtain ⟨e, he⟩ : ∃ e : Dev, e = { s.dev with xing := kset 0 s.dev.xing (64 * src + dst) w } := ⟨_, rfl⟩
  have hx : exec (.crossingWordDeliver (.sample src dst h x w r)) s = s.done e := by
    show s.done (s.dev.crossing (.sample src dst h x w r)) = _
    have passes : ¬(43 ≤ src ∨ 43 ≤ dst ∨ (!s.dev.islandRuns dst) = true) := by simp [runs]; omega
    simp only [Dev.crossing, if_neg passes, fits, beq_self_eq_true, if_true, he]
  have regs : s.dev.sameRegs e [] := by rw [he]; exact fun _ _ => rfl
  refine completes_of_sameRegs hx calm regs (by simp) (by rw [he]; rfl) ⟨?_, regs.showIrq, by rw [he]; rfl⟩
  show kget 0 e.xing _ = w
  rw [he]
  exact kget_kset_same ..

/-- The device but for what the silence of a sample word may change: Anvil, the serial ports and the transmit contexts. -/
def Dev.butSamples (d : Dev) : Dev := { d with anv := {}, sap := [], stx := [] }

theorem Dev.anvHush_butSamples (d : Dev) (h : Nat) (s : Word64) : (d.anvHush h s).butSamples = d.butSamples := by
  unfold Dev.anvHush
  split
  · dsimp only
    split <;> rfl
  · rfl

/-- The silence of a sample word changes the samples of whatever takes it alone (R31). -/
theorem Dev.hushWord_butSamples (d : Dev) (h : Nat) (s : Word64) : (d.hushWord h s).butSamples = d.butSamples := by
  have port : ∀ (c : Dev) n x, (c.setSap n x).butSamples = c.butSamples := fun _ _ _ => rfl
  have anvil : (if h / 4096 = 2 then d.anvHush h s else d).butSamples = d.butSamples := by
    split
    · exact d.anvHush_butSamples h s
    · rfl
  unfold Dev.hushWord
  dsimp only
  split
  · exact d.anvHush_butSamples h s
  · exact (port _ _ _).trans anvil
  · exact (port _ _ _).trans anvil
  · refine foldl_keeps Dev.butSamples _ _ ?_ d
    intro x _ c
    split <;> rfl
  · rfl

/-- The fifth clause of O6: a sample word whose residue does not fit. -/
theorem crossingSample_silenced (s : State) (src dst : Nat) (h : BitVec 16) (x w : BitVec 64) (r : Nat) (calm : s.dev.calm = true)
    (hsrc : src < 43) (hdst : dst < 43) (runs : s.dev.islandRuns dst = true) (unfit : res w.toInt ≠ r) :
    Completes (.crossingWordDeliver (.sample src dst h x w r)) s fun d =>
        kget 0 d.xing (64 * src + dst) = 0 ∧
        (d.reg rINT_RES_XING_CNT).toNat = min ((s.dev.reg rINT_RES_XING_CNT).toNat + 1) (2 ^ 32 - 1) := by
  obtain ⟨b, hb⟩ : ∃ b : Dev, b = { s.dev with xing := kset 0 s.dev.xing (64 * src + dst) 0 } := ⟨_, rfl⟩
  obtain ⟨c, hc⟩ : ∃ c, c = ((b.hushWord h.toNat x).inc rINT_RES_XING_CNT).capture fINT_RES_XING_LOG_VALID
    [(fINT_RES_XING_LOG_SRC, src), (fINT_RES_XING_LOG_DST, dst)] := ⟨_, rfl⟩
  obtain ⟨e, he⟩ : ∃ e, e = c.raise 0x1301 src := ⟨_, rfl⟩
  have hx : exec (.crossingWordDeliver (.sample src dst h x w r)) s = s.done e := by
    show s.done (s.dev.crossing (.sample src dst h x w r)) = _
    have passes : ¬(43 ≤ src ∨ 43 ≤ dst ∨ (!s.dev.islandRuns dst) = true) := by simp [runs]; omega
    have bad : (res w.toInt == r) = false := beq_eq_false_iff_ne.mpr unfit
    simp only [Dev.crossing, if_neg passes, bad, Bool.false_eq_true, if_false, he, hc, hb]
  have hushed := b.hushWord_butSamples h.toNat x
  have cRegs : s.dev.sameRegs c [rINT_RES_XING_CNT, rINT_RES_XING_LOG] := by
    have start : s.dev.sameRegs (b.hushWord h.toNat x) [rINT_RES_XING_CNT, rINT_RES_XING_LOG] :=
      (Dev.sameRegs.refl s.dev _).of_regs ((congrArg (·.regs) hushed).trans (by rw [hb]; rfl))
    rw [hc]
    exact (start.inc (by simp)).capture (by decide) (by simp [fINT_RES_XING_LOG_SRC, fINT_RES_XING_LOG_DST, rINT_RES_XING_LOG])
  have cRest : c.xing = b.xing ∧ c.calmPart = s.dev.calmPart := by
    rw [hc, Dev.capture_frame]
    exact ⟨congrArg (·.xing) hushed, (congrArg (·.calmPart) hushed).trans (by rw [hb]; rfl)⟩
  have raised := c.raise_keeps 0x1301 src
  rw [← he] at raised
  have apart : ∀ a ∈ calmRegs, a ∉ [rINT_RES_XING_CNT, rINT_RES_XING_LOG] ++ eventRegs (c.get fHQ_ROUTE_EVT_Q) := fun a ha => by
    rw [List.mem_append, not_or]
    exact ⟨(by decide : ∀ a ∈ calmRegs, a ∉ [rINT_RES_XING_CNT, rINT_RES_XING_LOG]) a ha, calmRegs_event c.eventQueue_lt a ha⟩
  have regs := (cRegs.mono (List.subset_append_left _ _)).trans (raised.regs.mono (List.subset_append_right _ _))
  refine completes_of_sameRegs hx calm regs apart ((congrArg (·.calmPart) raised.rest).trans cRest.2) ⟨?_, ?_⟩
  · show kget 0 e.xing _ = 0
    have words : e.xing = kset 0 s.dev.xing (64 * src + dst) 0 := by
      rw [show e.xing = c.xing from congrArg (·.xing) raised.rest, cRest.1, hb]
    rw [words, kget_kset_same]
  · have other : rINT_RES_XING_CNT ∉ eventRegs (c.get fHQ_ROUTE_EVT_Q) := by
      have := c.eventQueue_lt
      simp [eventRegs, rINT_RES_XING_CNT, rHQnn_LOST_CNT, rHQnn_TORN_CNT, rHQnn_DISC_CNT, rHQnn_REJECT_CNT, rHQnn_WM_CROSS_CNT,
        fINT_INJ_CMD_ARMED]
      omega
    have logged : ((b.hushWord h.toNat x).inc rINT_RES_XING_CNT).sameRegs c [rINT_RES_XING_LOG] := by
      rw [hc]
      exact (Dev.sameRegs.refl _ _).capture (by decide) (by simp [fINT_RES_XING_LOG_SRC, fINT_RES_XING_LOG_DST, rINT_RES_XING_LOG])
    have before : (b.hushWord h.toNat x).reg rINT_RES_XING_CNT = s.dev.reg rINT_RES_XING_CNT := by
      unfold Dev.reg
      rw [show (b.hushWord h.toNat x).regs = s.dev.regs from (congrArg (·.regs) hushed).trans (by rw [hb]; rfl)]
    rw [Dev.showIrq_reg, raised.regs _ other, logged _ (by decide), Dev.reg_inc_same, before]

/-! ## A consumer takes a word -/

/-- A word no newer than the local index is dropped and counted (R18). -/
theorem Dev.tickTake_dup {d : Dev} {g : Nat} {c : Consumer} {x : TickPath} {w : TickWord} {l : Word64} (idx : x.idx = some l)
    (rebase : w.rebase = false) (fresh : x.fresh = false) (old : sdiff64 w.sidx l ≤ 0) :
    d.tickTake g c x w = (d.setPath g c x).inc rGLB_TICK_DUP_CNT := by
  have noSlip : ¬64 < sdiff64 w.sidx l := by omega
  simp [Dev.tickTake, idx, rebase, fresh, noSlip, old]

/-- A word up to 64 ahead is taken, and the words coalesced into it are counted (R18). -/
theorem Dev.tickTake_ahead {d : Dev} {g : Nat} {c : Consumer} {x : TickPath} {w : TickWord} {l : Word64} (idx : x.idx = some l)
    (rebase : w.rebase = false) (fresh : x.fresh = false) (new : 0 < sdiff64 w.sidx l) (near : sdiff64 w.sidx l ≤ 64) :
    d.tickTake g c x w = ((d.setPath g c { x with idx := some w.sidx, fresh := false }).add rGLB_TICK_COAL_CNT
      ((sdiff64 w.sidx l).toNat - 1)).tickRun g c l (sdiff64 w.sidx l).toNat := by
  have noSlip : ¬64 < sdiff64 w.sidx l := by omega
  have notOld : ¬sdiff64 w.sidx l ≤ 0 := by omega
  simp [Dev.tickTake, idx, rebase, fresh, noSlip, notOld]

/-- A stream engine with no context at work has no work on a tick. -/
theorem Dev.tickRun_core {d : Dev} (stx : d.mapBits (rSTX_ENMAPkk 0) = []) (srx : d.srxOrder = []) (g n : Nat) (l : Word64) :
    d.tickRun g .core l n = d := by
  induction n generalizing l with
  | zero => rfl
  | succ n ih =>
    have work : d.tickWork g .core (some l) (l + 1) false = d := by
      simp only [Dev.tickWork, stx, srx, List.foldl_nil]
    rw [Dev.tickRun, work, ih]

/-- A consumer that follows the generator, with its clock and, for the stream engine, SEL, takes the word that has arrived. -/
theorem Dev.tickWord_takes {d : Dev} {g : Nat} {c : Consumer} {w : TickWord} (runs : d.consumerRuns c = true)
    (follows : c ∈ d.followers g) (sel : c ≠ .core ∨ d.selAct = true) (arrived : (d.path g c).arrived = some w) :
    d.tickWord g c = d.tickTake g c { d.path g c with arrived := none } w := by
  have listed : (d.followers g).contains c = true := List.contains_iff_mem.mpr follows
  have selected : ¬(c = .core ∧ (!d.selAct) = true) := by
    rintro ⟨rfl, off⟩
    simp at sel off
    simp [sel] at off
  simp only [Dev.tickWord, arrived, runs, listed, if_neg selected, Bool.not_true, Bool.false_eq_true, if_false]

/-- A command whose own effect replaces one path and adds to one counter. -/
theorem setPathCount_completes {i : Instr} {s : State} {g : Nat} {c : Consumer} {x : TickPath} {a n : Nat} (calm : s.dev.calm = true)
    (ha : ∀ b ∈ calmRegs, b ∉ [a]) (hx : exec i s = s.done ((s.dev.setPath g c x).add a n)) :
    Completes i s fun d =>
        d.path g c = x ∧ (d.reg a).toNat = min ((s.dev.reg a).toNat + n) (2 ^ 32 - 1) ∧ s.dev.sameRegs d [a] ∧
        d = { s.dev with regs := d.regs, ticks := d.ticks, irqA := d.irqA, irqB := d.irqB } := by
  have regs : s.dev.sameRegs ((s.dev.setPath g c x).add a n) [a] :=
    ((Dev.sameRegs.refl _ _).of_regs (f := s.dev.setPath g c x) rfl).add (by simp) n
  refine completes_of_sameRegs hx calm regs ha rfl ⟨?_, ?_, regs.showIrq, rfl⟩
  · rw [Dev.showIrq_path]; exact Dev.path_setPath_same ..
  · rw [Dev.showIrq_reg, Dev.reg_add_same]; rfl

/-- The sixth clause of O6: a word no newer than the index. -/
theorem tickWord_dup_completes (s : State) (g : Fin 8) (c : Consumer) (w : TickWord) (l : BitVec 64) (calm : s.dev.calm = true)
    (runs : s.dev.consumerRuns c = true) (follows : c ∈ s.dev.followers g.val) (sel : c ≠ .core ∨ s.dev.selAct = true)
    (arrived : (s.dev.path g.val c).arrived = some w) (idx : (s.dev.path g.val c).idx = some l) (rebase : w.rebase = false)
    (fresh : (s.dev.path g.val c).fresh = false) (old : sdiff64 w.sidx l ≤ 0) :
    Completes (.tickWord g c) s fun d =>
        d.path g.val c = { s.dev.path g.val c with arrived := none } ∧
        (d.reg rGLB_TICK_DUP_CNT).toNat = min ((s.dev.reg rGLB_TICK_DUP_CNT).toNat + 1) (2 ^ 32 - 1) ∧
        s.dev.sameRegs d [rGLB_TICK_DUP_CNT] ∧
        d = { s.dev with regs := d.regs, ticks := d.ticks, irqA := d.irqA, irqB := d.irqB } :=
  setPathCount_completes calm (by decide) (by
    show s.done (s.dev.tickWord g.val c) = _
    rw [Dev.tickWord_takes runs follows sel arrived, Dev.tickTake_dup (x := { s.dev.path g.val c with arrived := none }) idx rebase fresh old]
    rfl)

/-- The seventh clause of O6: the stream engine takes a word ahead of its index. -/
theorem tickWord_core_completes (s : State) (g : Fin 8) (w : TickWord) (l : BitVec 64) (calm : s.dev.calm = true)
    (runs : s.dev.domOn 1 = true) (follows : Consumer.core ∈ s.dev.followers g.val) (sel : s.dev.selAct = true)
    (stx : s.dev.mapBits (rSTX_ENMAPkk 0) = []) (srx : s.dev.srxOrder = []) (arrived : (s.dev.path g.val .core).arrived = some w)
    (idx : (s.dev.path g.val .core).idx = some l) (rebase : w.rebase = false) (fresh : (s.dev.path g.val .core).fresh = false)
    (new : 0 < sdiff64 w.sidx l) (near : sdiff64 w.sidx l ≤ 64) :
    Completes (.tickWord g .core) s fun d =>
        d.path g.val .core = { s.dev.path g.val .core with arrived := none, idx := some w.sidx } ∧
        (d.reg rGLB_TICK_COAL_CNT).toNat = min ((s.dev.reg rGLB_TICK_COAL_CNT).toNat + ((sdiff64 w.sidx l).toNat - 1)) (2 ^ 32 - 1) ∧
        s.dev.sameRegs d [rGLB_TICK_COAL_CNT] ∧
        d = { s.dev with regs := d.regs, ticks := d.ticks, irqA := d.irqA, irqB := d.irqB } := by
  refine setPathCount_completes calm (by decide) ?_
  show s.done (s.dev.tickWord g.val .core) = _
  rw [Dev.tickWord_takes (c := .core) runs follows (Or.inr sel) arrived,
    Dev.tickTake_ahead (x := { s.dev.path g.val .core with arrived := none }) idx rebase fresh new near, ← fresh]
  obtain ⟨e, he⟩ : ∃ e, e = (s.dev.setPath g.val .core { s.dev.path g.val .core with arrived := none, idx := some w.sidx }).add
    rGLB_TICK_COAL_CNT ((sdiff64 w.sidx l).toNat - 1) := ⟨_, rfl⟩
  have regs : s.dev.sameRegs e [rGLB_TICK_COAL_CNT] := by
    rw [he]; exact ((Dev.sameRegs.refl _ _).of_regs (f := s.dev.setPath g.val .core _) rfl).add (by simp) _
  have stx' : e.mapBits (rSTX_ENMAPkk 0) = [] := by
    rw [← stx]; exact Dev.mapBits_congr regs (by decide)
  have srx' : e.srxOrder = [] := by
    rw [he, ← srx]; rfl
  rw [← he, Dev.tickRun_core stx' srx']

/-- Settles O6: a word issued, held, delivered, checked, and taken by its consumer. -/
theorem ticksCrossToConsumers : Obligations.TicksCrossToConsumers :=
  ⟨tickIssue_completes, tickHoldSend_completes, crossingTick_completes, crossingSample_completes, crossingSample_silenced,
    tickWord_dup_completes, tickWord_core_completes⟩

end Sys2Proof.Machine
end

section
/-! Ball groups (R33, R35, R36) and the directions of the cue pins (R368). -/

namespace Sys2Proof.Machine

open Sys2Proof

variable {d : Dev} {g k : Nat}

/-- What holds before every element but one and is kept by them, that one turns into what the others keep too. -/
theorem foldl_reaches {α : Type} (Q P : Dev → Prop) (op : Dev → α → Dev) {x : α} {l : List α} (hx : x ∈ l) (hl : l.Nodup)
    (before : ∀ y ∈ l, y ≠ x → ∀ c, Q c → Q (op c y)) (here : ∀ c, Q c → P (op c x))
    (after : ∀ y ∈ l, y ≠ x → ∀ c, P c → P (op c y)) {d : Dev} (h : Q d) : P (l.foldl op d) := by
  have keep : ∀ (t : List α), (∀ y ∈ t, y ≠ x) → t ⊆ l → ∀ c, P c → P (t.foldl op c) := by
    intro t
    induction t with
    | nil => exact fun _ _ _ hc => hc
    | cons y t ih =>
      intro ne sub c hc
      exact ih (fun z hz => ne z (List.mem_cons_of_mem y hz)) (fun z hz => sub (List.mem_cons_of_mem y hz)) _
        (after y (sub List.mem_cons_self) (ne y List.mem_cons_self) c hc)
  induction l generalizing d with
  | nil => cases hx
  | cons y t ih =>
    obtain ⟨hy, ht⟩ := List.nodup_cons.mp hl
    by_cases hyx : y = x
    · subst hyx
      exact keep t (fun z hz hzy => hy (hzy ▸ hz)) (List.subset_cons_self ..) _ (here d h)
    · have hxt : x ∈ t := (List.mem_cons.mp hx).resolve_left (Ne.symm hyx)
      refine ih hxt ht (fun z hz => before z (List.mem_cons_of_mem y hz)) (fun z hz => after z (List.mem_cons_of_mem y hz))
        (before y List.mem_cons_self hyx d h) ?_
      intro t' ne sub
      exact keep t' ne fun z hz => List.mem_cons_of_mem y (sub hz)

/-! ## Ball groups -/

theorem fPIN_GRPnn_OWNER_OWNER_ok (g : Nat) : (fPIN_GRPnn_OWNER_OWNER g).ok := (by decide : 0 + 2 ≤ 32)

/-- Function `f` gets a group that it holds, or that nobody holds and that is reserved for nobody (R33, R35). -/
theorem Dev.claimGrp_granted {f : Nat} (h : d.get (fPIN_GRPnn_OWNER_OWNER g) = f ∨ (d.get (fPIN_GRPnn_OWNER_OWNER g) = 0 ∧ d.grpPrio g = 0)) :
    d.claimGrp g f = (true, d.put (fPIN_GRPnn_OWNER_OWNER g) f) := by
  obtain own | ⟨free, prio⟩ := h
  · simp [Dev.claimGrp, own]
  · simp [Dev.claimGrp, free, prio]

/-- The conflict that a refused claim of group `g` by function `f` leaves. -/
def Dev.grpConflict (d : Dev) (g f : Nat) : Dev :=
  (d.capture fPIN_CONFLICT_VALID [(fPIN_CONFLICT_GROUP, g), (fPIN_CONFLICT_HOLDER, d.get (fPIN_GRPnn_OWNER_OWNER g)),
    (fPIN_CONFLICT_REFUSED, f)]).count fPIN_CONFLICT_COUNT 1

theorem Dev.claimGrp_cases (d : Dev) (g f : Nat) :
    d.claimGrp g f = (true, d.put (fPIN_GRPnn_OWNER_OWNER g) f) ∨ d.claimGrp g f = (false, d.grpConflict g f) := by
  unfold Dev.claimGrp
  dsimp only
  split
  · exact Or.inl rfl
  · exact Or.inr rfl

/-- Function 2 does not get a group that function 1 holds. -/
theorem Dev.claimGrp_refused (h : d.get (fPIN_GRPnn_OWNER_OWNER g) = 1) : d.claimGrp g 2 = (false, d.grpConflict g 2) := by
  simp [Dev.claimGrp, Dev.grpConflict, h]

theorem Dev.grpConflict_sameRegs (d : Dev) (g f : Nat) : d.sameRegs (d.grpConflict g f) [rPIN_CONFLICT] := by
  unfold Dev.grpConflict
  exact ((Dev.sameRegs.refl d _).capture (v := fPIN_CONFLICT_VALID) (by decide) (by
    simp [fPIN_CONFLICT_GROUP, fPIN_CONFLICT_HOLDER, fPIN_CONFLICT_REFUSED, rPIN_CONFLICT])).count (f := fPIN_CONFLICT_COUNT) (by decide) 1

theorem Dev.count_butRegs (d : Dev) (f : Fld) (n : Nat) : (d.count f n).butRegs = d.butRegs := rfl

theorem Dev.capture_butRegs (d : Dev) (v : Fld) (fs : List (Fld × Nat)) : (d.capture v fs).butRegs = d.butRegs := by
  rw [Dev.capture_frame]; rfl

theorem Dev.grpConflict_butRegs (d : Dev) (g f : Nat) : (d.grpConflict g f).butRegs = d.butRegs := by
  unfold Dev.grpConflict
  rw [Dev.count_butRegs, Dev.capture_butRegs]

theorem Dev.grpConflict_valid (d : Dev) (g f : Nat) : (d.grpConflict g f).on fPIN_CONFLICT_VALID = true := by
  unfold Dev.grpConflict Dev.count
  rw [Dev.on_put_apart (f := fPIN_CONFLICT_COUNT) _ _ (by decide : 16 + 8 ≤ 32) (Or.inl (by decide : 16 + 8 ≤ 31) : fPIN_CONFLICT_COUNT.apart fPIN_CONFLICT_VALID)]
  unfold Dev.capture
  split
  · assumption
  · exact Dev.on_putB_same (f := fPIN_CONFLICT_VALID) _ (by decide : 31 + 1 ≤ 32) rfl true

theorem Dev.releaseGrp_held {f : Nat} (h : d.get (fPIN_GRPnn_OWNER_OWNER g) = f) :
    d.releaseGrp g f = d.put (fPIN_GRPnn_OWNER_OWNER g) 0 := if_pos h

theorem Dev.releaseGrp_cases (d : Dev) (g f : Nat) :
    d.releaseGrp g f = d.put (fPIN_GRPnn_OWNER_OWNER g) 0 ∨ (d.get (fPIN_GRPnn_OWNER_OWNER g) ≠ f ∧ d.releaseGrp g f = d) := by
  unfold Dev.releaseGrp
  split
  · exact Or.inl rfl
  · exact Or.inr ⟨‹_›, rfl⟩

/-! ## The direction of a pin -/

/-- The field of PIN_CUE_CFG that holds the direction of pin `k`. -/
def pinFld (k : Nat) : Fld := ⟨rPIN_CUE_CFG, 2 * k, 2⟩

theorem pinFld_ok (hk : k < 16) : (pinFld k).ok := by simp [Fld.ok, pinFld]; omega

theorem Dev.pinDir_eq (d : Dev) (k : Nat) : d.pinDir k = d.get (pinFld k) := by
  simp [Dev.pinDir, Dev.get, Fld.get, pinFld, Nat.pow_mul]

theorem pinFld_apart {j : Nat} (h : j ≠ k) : (pinFld k).apart (pinFld j) := by
  simp only [Fld.apart, pinFld]; omega

/-- The direction that a write asks for: the reserved code is unused. -/
def pinCode (v : Nat) : Nat := if v = 3 then 0 else v

theorem Dev.pinDir_put (d : Dev) (hk : k < 16) (v : Nat) : (d.put (pinFld k) v).pinDir k = v % 4 := by
  rw [Dev.pinDir_eq, Dev.get_put_same _ _ _ (pinFld_ok hk)]; rfl

theorem Dev.pinDir_put_ne (d : Dev) {j : Nat} (hk : k < 16) (h : j ≠ k) (v : Nat) : (d.put (pinFld k) v).pinDir j = d.pinDir j := by
  rw [Dev.pinDir_eq, Dev.pinDir_eq, Dev.get_put_apart _ _ _ _ (pinFld_ok hk) (pinFld_apart h)]

/-- The ways a pin's direction is written: a pin without a group is set; one given up releases its group; one that takes its group is
set; one that does not get it stays unused. -/
theorem Dev.pinDirPut_cases (d : Dev) (k v : Nat) :
    (k < 8 ∧ d.pinDirPut k v = d.put (pinFld k) (pinCode v)) ∨
    (8 ≤ k ∧ pinCode v = 0 ∧ d.pinDirPut k v = (d.releaseGrp (k - 8) 2).put (pinFld k) 0) ∨
    (8 ≤ k ∧ pinCode v ≠ 0 ∧ d.claimGrp (k - 8) 2 = (true, d.put (fPIN_GRPnn_OWNER_OWNER (k - 8)) 2) ∧
      d.pinDirPut k v = (d.put (fPIN_GRPnn_OWNER_OWNER (k - 8)) 2).put (pinFld k) (pinCode v)) ∨
    (8 ≤ k ∧ pinCode v ≠ 0 ∧ d.claimGrp (k - 8) 2 = (false, d.grpConflict (k - 8) 2) ∧
      d.pinDirPut k v = (d.grpConflict (k - 8) 2).put (pinFld k) 0) := by
  unfold Dev.pinDirPut
  rw [← pinCode]
  dsimp only
  by_cases hk : k < 8
  · exact Or.inl ⟨hk, if_pos hk⟩
  · refine Or.inr ?_
    rw [if_neg hk]
    by_cases hv : pinCode v = 0
    · exact Or.inl ⟨by omega, hv, if_pos hv⟩
    · rw [if_neg hv]
      obtain granted | refused := d.claimGrp_cases (k - 8) 2
      · exact Or.inr (Or.inl ⟨by omega, hv, granted, by rw [granted]; rfl⟩)
      · exact Or.inr (Or.inr ⟨by omega, hv, refused, by rw [refused]; rfl⟩)

/-- A pin's direction is written after its group has been claimed or released, or without that if the pin has no group. -/
theorem Dev.pinDirPut_form (d : Dev) (k v : Nat) : ∃ c x, d.pinDirPut k v = c.put (pinFld k) x ∧
    d.sameRegs c [rPIN_CONFLICT, rPIN_GRPnn_OWNER (k - 8)] ∧ c.butRegs = d.butRegs ∧ (k < 8 → c = d) ∧
    (d.on fPIN_CONFLICT_VALID = true → c.on fPIN_CONFLICT_VALID = true) := by
  have owned : ∀ x, d.sameRegs (d.put (fPIN_GRPnn_OWNER_OWNER (k - 8)) x) [rPIN_CONFLICT, rPIN_GRPnn_OWNER (k - 8)] := fun x =>
    (Dev.sameRegs.refl d _).put (f := fPIN_GRPnn_OWNER_OWNER (k - 8)) (by simp [fPIN_GRPnn_OWNER_OWNER, rPIN_GRPnn_OWNER]) x
  have valid : ∀ x, (d.put (fPIN_GRPnn_OWNER_OWNER (k - 8)) x).on fPIN_CONFLICT_VALID = d.on fPIN_CONFLICT_VALID := fun x =>
    Dev.on_put_addr d x (by simp [fPIN_GRPnn_OWNER_OWNER, fPIN_CONFLICT_VALID]; omega)
  obtain ⟨-, h⟩ | ⟨hk, -, h⟩ | ⟨hk, -, -, h⟩ | ⟨hk, -, -, h⟩ := d.pinDirPut_cases k v
  · exact ⟨_, _, h, Dev.sameRegs.refl d _, rfl, fun _ => rfl, id⟩
  · obtain released | ⟨-, kept⟩ := d.releaseGrp_cases (k - 8) 2
    · rw [released] at h
      exact ⟨_, _, h, owned 0, rfl, fun _ => by omega, fun on => (valid 0).trans on⟩
    · rw [kept] at h
      exact ⟨_, _, h, Dev.sameRegs.refl d _, rfl, fun _ => rfl, id⟩
  · exact ⟨_, _, h, owned 2, rfl, fun _ => by omega, fun on => (valid 2).trans on⟩
  · exact ⟨_, _, h, (d.grpConflict_sameRegs (k - 8) 2).mono (by simp), d.grpConflict_butRegs _ _, fun _ => by omega,
      fun _ => d.grpConflict_valid _ _⟩

theorem Dev.pinDirPut_butRegs (d : Dev) (k v : Nat) : (d.pinDirPut k v).butRegs = d.butRegs := by
  obtain ⟨c, x, h, -, rest, -⟩ := d.pinDirPut_form k v
  rw [h, ← rest]; rfl

theorem Dev.pinDirPut_dir_ne (d : Dev) {j : Nat} (hk : k < 16) (h : j ≠ k) (v : Nat) : (d.pinDirPut k v).pinDir j = d.pinDir j := by
  obtain ⟨c, x, form, regs, -⟩ := d.pinDirPut_form k v
  have cfg : c.get (pinFld j) = d.get (pinFld j) := regs.get (by simp [pinFld, rPIN_CUE_CFG, rPIN_CONFLICT, rPIN_GRPnn_OWNER]; omega)
  rw [form, Dev.pinDir_put_ne c hk h, Dev.pinDir_eq, cfg, Dev.pinDir_eq]

/-- The direction of a pin leaves the groups of the others as they are. -/
theorem Dev.pinDirPut_grp_ne (d : Dev) (hk : k < 16) (h : 8 + g ≠ k) (hg : g < 8) (v : Nat) :
    (d.pinDirPut k v).reg (rPIN_GRPnn_OWNER g) = d.reg (rPIN_GRPnn_OWNER g) := by
  obtain ⟨c, x, form, regs, -, noGrp, -⟩ := d.pinDirPut_form k v
  have cfg : (pinFld k).addr ≠ rPIN_GRPnn_OWNER g := by simp only [pinFld, rPIN_CUE_CFG, rPIN_GRPnn_OWNER]; omega
  rw [form, Dev.reg_put_ne _ _ cfg]
  by_cases hk8 : k < 8
  · rw [noGrp hk8]
  · exact regs _ (by simp [rPIN_CONFLICT, rPIN_GRPnn_OWNER]; omega)

theorem Dev.pinDirPut_valid (d : Dev) (k v : Nat) (h : d.on fPIN_CONFLICT_VALID = true) : (d.pinDirPut k v).on fPIN_CONFLICT_VALID = true := by
  obtain ⟨c, x, form, -, -, -, valid⟩ := d.pinDirPut_form k v
  rw [form, Dev.on_put_addr (f := pinFld k) _ _ (by simp [pinFld, rPIN_CUE_CFG, fPIN_CONFLICT_VALID])]
  exact valid h

theorem Dev.pinDirPut_sameRegs (d : Dev) (hk : k < 16) (v : Nat) :
    d.sameRegs (d.pinDirPut k v) (rPIN_CUE_CFG :: rPIN_CONFLICT :: (List.range 8).map rPIN_GRPnn_OWNER) := by
  obtain ⟨c, x, form, regs, -⟩ := d.pinDirPut_form k v
  have grp : rPIN_GRPnn_OWNER (k - 8) ∈ (List.range 8).map rPIN_GRPnn_OWNER := List.mem_map_of_mem (List.mem_range.mpr (by omega))
  rw [form]
  refine Dev.sameRegs.put (regs.mono ?_) (f := pinFld k) List.mem_cons_self x
  simp only [List.cons_subset, List.nil_subset, and_true]
  exact ⟨by simp, List.mem_cons_of_mem _ (List.mem_cons_of_mem _ grp)⟩

/-- The groups of pins 8 to 15 are free or the pins', and none is reserved. -/
def Dev.pinGrpsOpen (d : Dev) : Prop :=
  ∀ g < 8, (d.get (fPIN_GRPnn_OWNER_OWNER g) = 0 ∨ d.get (fPIN_GRPnn_OWNER_OWNER g) = 2) ∧ d.grpPrio g = 0

theorem Dev.grpPrio_congr {d e : Dev} (h : e.get (fPIN_GRPnn_OWNER_PRIO g) = d.get (fPIN_GRPnn_OWNER_PRIO g)) : e.grpPrio g = d.grpPrio g := by
  unfold Dev.grpPrio; rw [h]

theorem Dev.grpPrio_putOwner (d : Dev) (g x : Nat) : (d.put (fPIN_GRPnn_OWNER_OWNER g) x).grpPrio g = d.grpPrio g :=
  Dev.grpPrio_congr (d.get_put_apart _ _ x (fPIN_GRPnn_OWNER_OWNER_ok g) (Or.inl (by decide : 0 + 2 ≤ 16)))

theorem Dev.get_owner_putOwner (d : Dev) (g x : Nat) :
    (d.put (fPIN_GRPnn_OWNER_OWNER g) x).get (fPIN_GRPnn_OWNER_OWNER g) = x % 4 :=
  d.get_put_same _ x (fPIN_GRPnn_OWNER_OWNER_ok g)

/-- With its group open a pin takes the direction asked for, after it has claimed its group or given it up. -/
theorem Dev.pinDirPut_open_form (o : d.pinGrpsOpen) (hk : k < 16) (v : Nat) : ∃ c,
    d.pinDirPut k v = c.put (pinFld k) (pinCode v) ∧ (k < 8 → c = d) ∧
    (8 ≤ k → c.get (fPIN_GRPnn_OWNER_OWNER (k - 8)) = if pinCode v = 0 then 0 else 2) ∧
    d.sameRegs c [rPIN_GRPnn_OWNER (k - 8)] ∧ c.grpPrio (k - 8) = d.grpPrio (k - 8) := by
  have owned : ∀ x, d.sameRegs (d.put (fPIN_GRPnn_OWNER_OWNER (k - 8)) x) [rPIN_GRPnn_OWNER (k - 8)] := fun x =>
    (Dev.sameRegs.refl d _).put (f := fPIN_GRPnn_OWNER_OWNER (k - 8)) List.mem_cons_self x
  obtain ⟨hk8, h⟩ | ⟨hk8, hv, h⟩ | ⟨hk8, hv, -, h⟩ | ⟨hk8, -, refused, -⟩ := d.pinDirPut_cases k v
  · exact ⟨d, h, fun _ => rfl, fun _ => by omega, Dev.sameRegs.refl d _, rfl⟩
  · rw [if_pos hv, hv]
    obtain released | ⟨notPins, kept⟩ := d.releaseGrp_cases (k - 8) 2
    · rw [released] at h
      exact ⟨_, h, fun _ => by omega, fun _ => d.get_owner_putOwner _ 0, owned 0, d.grpPrio_putOwner _ 0⟩
    · rw [kept] at h
      exact ⟨d, h, fun _ => rfl, fun _ => ((o (k - 8) (by omega)).1).resolve_right notPins, Dev.sameRegs.refl d _, rfl⟩
  · rw [if_neg hv]
    exact ⟨_, h, fun _ => by omega, fun _ => d.get_owner_putOwner _ 2, owned 2, d.grpPrio_putOwner _ 2⟩
  · obtain ⟨owner, prio⟩ := o (k - 8) (by omega)
    rw [Dev.claimGrp_granted (owner.symm.imp_right fun free => ⟨free, prio⟩)] at refused
    cases refused

theorem pinFld_addr_ne_grp (k : Nat) (hg : g < 12) : (pinFld k).addr ≠ rPIN_GRPnn_OWNER g := by
  simp only [pinFld, rPIN_CUE_CFG, rPIN_GRPnn_OWNER]; omega

/-- A pin whose group is open takes the direction asked for, and holds its group where it is used. -/
theorem Dev.pinDirPut_open (o : d.pinGrpsOpen) (hk : k < 16) {v : Nat} (hv : v < 4) :
    (d.pinDirPut k v).pinDir k = pinCode v ∧
    (8 ≤ k → (d.pinDirPut k v).get (fPIN_GRPnn_OWNER_OWNER (k - 8)) = if pinCode v = 0 then 0 else 2) ∧
    (d.pinDirPut k v).pinGrpsOpen ∧
    d.sameRegs (d.pinDirPut k v) (rPIN_CUE_CFG :: (List.range 8).map rPIN_GRPnn_OWNER) := by
  obtain ⟨c, form, noGrp, owner, regs, prio⟩ := Dev.pinDirPut_open_form o hk v
  have fits : pinCode v % 4 = pinCode v := by unfold pinCode; split <;> omega
  have ownerOf : ∀ g < 8, (c.put (pinFld k) (pinCode v)).get (fPIN_GRPnn_OWNER_OWNER g) = c.get (fPIN_GRPnn_OWNER_OWNER g) := fun g hg =>
    Dev.get_put_addr c _ _ _ (pinFld_addr_ne_grp k (by omega))
  rw [form]
  refine ⟨by rw [Dev.pinDir_put c hk, fits], fun h8 => by rw [ownerOf _ (by omega), owner h8], fun g hg => ?_, ?_⟩
  · have prioOf : (c.put (pinFld k) (pinCode v)).grpPrio g = c.grpPrio g :=
      Dev.grpPrio_congr (Dev.get_put_addr c _ _ _ (pinFld_addr_ne_grp k (by omega)))
    rw [ownerOf g hg, prioOf]
    by_cases hgk : 8 ≤ k ∧ g = k - 8
    · obtain ⟨h8, rfl⟩ := hgk
      rw [owner h8, prio]
      exact ⟨by split <;> simp, (o _ hg).2⟩
    · by_cases h8 : k < 8
      · rw [noGrp h8]; exact o g hg
      · have apart : rPIN_GRPnn_OWNER g ∉ [rPIN_GRPnn_OWNER (k - 8)] := by simp [rPIN_GRPnn_OWNER]; omega
        rw [regs.get (f := fPIN_GRPnn_OWNER_OWNER g) apart, Dev.grpPrio_congr (regs.get (f := fPIN_GRPnn_OWNER_PRIO g) apart)]
        exact o g hg
  · have grp : rPIN_GRPnn_OWNER (k - 8) ∈ (List.range 8).map rPIN_GRPnn_OWNER := List.mem_map_of_mem (List.mem_range.mpr (by omega))
    exact Dev.sameRegs.put (regs.mono (by simpa using Or.inr (List.mem_map.mp grp))) (f := pinFld k) List.mem_cons_self _

/-! ## PIN_CUE_CFG written -/

theorem Dev.busWrite_pinCueCfg {p : Port} {v : Word} (takes : d.takes p rPIN_CUE_CFG) (m : Meets) :
    d.busWrite m p rPIN_CUE_CFG .b32 v = (d.answer p []).pinCueCfg v.toNat := by
  rw [Dev.busWrite_reg takes (by decide) (by decide)]
  rfl

theorem Dev.pinCueCfg_butRegs (d : Dev) (v : Nat) : (d.pinCueCfg v).butRegs = d.butRegs :=
  foldl_keeps Dev.butRegs _ _ (fun k _ c => c.pinDirPut_butRegs k _) d

theorem Dev.pinCueCfg_sameRegs (d : Dev) (v : Nat) :
    d.sameRegs (d.pinCueCfg v) (rPIN_CUE_CFG :: rPIN_CONFLICT :: (List.range 8).map rPIN_GRPnn_OWNER) :=
  (Dev.sameRegs.refl d _).foldl _ _ fun _ hk c => c.pinDirPut_sameRegs (List.mem_range.mp hk) _

theorem pinCode_lt (v k : Nat) : v / 4 ^ k % 4 < 4 := Nat.mod_lt _ (by decide)

/-- With every group open no claim is refused. -/
theorem Dev.pinCueCfg_open_sameRegs (o : d.pinGrpsOpen) (v : Nat) :
    d.sameRegs (d.pinCueCfg v) (rPIN_CUE_CFG :: (List.range 8).map rPIN_GRPnn_OWNER) := by
  have all : d.sameRegs (d.pinCueCfg v) (rPIN_CUE_CFG :: (List.range 8).map rPIN_GRPnn_OWNER) ∧ (d.pinCueCfg v).pinGrpsOpen := by
    unfold Dev.pinCueCfg
    refine List.foldlRecOn (motive := fun c => d.sameRegs c (rPIN_CUE_CFG :: (List.range 8).map rPIN_GRPnn_OWNER) ∧ c.pinGrpsOpen)
      _ _ ⟨Dev.sameRegs.refl d _, o⟩ ?_
    rintro c ⟨regs, opened⟩ k hk
    obtain ⟨-, -, opened', regs'⟩ := Dev.pinDirPut_open opened (List.mem_range.mp hk) (pinCode_lt v k)
    exact ⟨regs.trans regs', opened'⟩
  exact all.1

/-- With every group open each pin takes its direction, and its group where it is used. -/
theorem Dev.pinCueCfg_open (o : d.pinGrpsOpen) (v : Nat) (hk : k < 16) :
    (d.pinCueCfg v).pinDir k = pinCode (v / 4 ^ k % 4) ∧
    (8 ≤ k → (d.pinCueCfg v).get (fPIN_GRPnn_OWNER_OWNER (k - 8)) = if pinCode (v / 4 ^ k % 4) = 0 then 0 else 2) := by
  refine foldl_reaches Dev.pinGrpsOpen (fun c => c.pinDir k = pinCode (v / 4 ^ k % 4) ∧
    (8 ≤ k → c.get (fPIN_GRPnn_OWNER_OWNER (k - 8)) = if pinCode (v / 4 ^ k % 4) = 0 then 0 else 2)) _ (List.mem_range.mpr hk)
    List.nodup_range ?_ ?_ ?_ o
  · intro j hj _ c hc
    exact (Dev.pinDirPut_open hc (List.mem_range.mp hj) (pinCode_lt v j)).2.2.1
  · intro c hc
    obtain ⟨dir, owner, -⟩ := Dev.pinDirPut_open hc hk (pinCode_lt v k)
    exact ⟨dir, owner⟩
  · rintro j hj hjk c ⟨dir, owner⟩
    have hj16 := List.mem_range.mp hj
    refine ⟨(c.pinDirPut_dir_ne hj16 hjk.symm _).trans dir, fun h8 => ?_⟩
    rw [← owner h8]
    exact congrArg (Fld.get _) (c.pinDirPut_grp_ne (g := k - 8) hj16 (by omega) (by omega) _)

/-- A pin whose group function 1 holds stays unused, and the conflict is kept (R35). -/
theorem Dev.pinCueCfg_refused (hg : g < 8) (held : d.get (fPIN_GRPnn_OWNER_OWNER g) = 1) {v : Nat}
    (used : pinCode (v / 4 ^ (8 + g) % 4) ≠ 0) :
    (d.pinCueCfg v).pinDir (8 + g) = 0 ∧ (d.pinCueCfg v).get (fPIN_GRPnn_OWNER_OWNER g) = 1 ∧
    (d.pinCueCfg v).on fPIN_CONFLICT_VALID = true := by
  have grpKept : ∀ j < 16, j ≠ 8 + g → ∀ (c : Dev) x,
      (c.pinDirPut j x).get (fPIN_GRPnn_OWNER_OWNER g) = c.get (fPIN_GRPnn_OWNER_OWNER g) := fun j hj hjk c x =>
    congrArg (Fld.get _) (c.pinDirPut_grp_ne (g := g) hj (by omega) hg x)
  refine foldl_reaches (fun c => c.get (fPIN_GRPnn_OWNER_OWNER g) = 1) (fun c => c.pinDir (8 + g) = 0 ∧
    c.get (fPIN_GRPnn_OWNER_OWNER g) = 1 ∧ c.on fPIN_CONFLICT_VALID = true) _ (x := 8 + g) (List.mem_range.mpr (by omega))
    List.nodup_range ?_ ?_ ?_ held
  · intro j hj hjk c hc
    exact (grpKept j (List.mem_range.mp hj) hjk c _).trans hc
  · intro c hc
    have hk : 8 + g < 16 := by omega
    have grp : 8 + g - 8 = g := by omega
    have conflict : c.pinDirPut (8 + g) (v / 4 ^ (8 + g) % 4) = (c.grpConflict g 2).put (pinFld (8 + g)) 0 := by
      obtain ⟨lt, -⟩ | ⟨-, zero, -⟩ | ⟨-, -, granted, -⟩ | ⟨-, -, -, form⟩ := c.pinDirPut_cases (8 + g) (v / 4 ^ (8 + g) % 4)
      · omega
      · exact absurd zero used
      · rw [grp, Dev.claimGrp_refused hc] at granted
        cases granted
      · rwa [grp] at form
    rw [conflict]
    refine ⟨Dev.pinDir_put _ hk 0, ?_, ?_⟩
    · rw [Dev.get_put_addr _ _ _ _ (pinFld_addr_ne_grp (8 + g) (by omega)),
        (c.grpConflict_sameRegs g 2).get (f := fPIN_GRPnn_OWNER_OWNER g) (by simp [fPIN_GRPnn_OWNER_OWNER, rPIN_CONFLICT]; omega), hc]
    · rw [Dev.on_put_addr (f := pinFld (8 + g)) _ _ (by simp [pinFld, rPIN_CUE_CFG, fPIN_CONFLICT_VALID]), c.grpConflict_valid]
  · rintro j hj hjk c ⟨dir, owner, valid⟩
    have hj16 := List.mem_range.mp hj
    exact ⟨(c.pinDirPut_dir_ne hj16 hjk.symm _).trans dir, (grpKept j hj16 hjk c _).trans owner, c.pinDirPut_valid j _ valid⟩

theorem calmRegs_pins : ∀ a ∈ calmRegs, a ∉ rPIN_CUE_CFG :: rPIN_CONFLICT :: (List.range 12).map rPIN_GRPnn_OWNER := by decide

/-- The device but for its registers and its ports. -/
def Dev.butRegsPorts (d : Dev) : Dev := { d with regs := [], ports := [] }

/-- A write of PIN_CUE_CFG changes registers of the pins and answers its port. -/
theorem pinCueCfg_completes {s : State} {p : Port} {v : Word} {L : List Nat} {P : Dev → Prop} (calm : s.dev.calm = true)
    (takes : s.dev.takes p rPIN_CUE_CFG) (regs : (s.dev.answer p []).sameRegs ((s.dev.answer p []).pinCueCfg v.toNat) L)
    (hL : L ⊆ rPIN_CUE_CFG :: rPIN_CONFLICT :: (List.range 8).map rPIN_GRPnn_OWNER)
    (h : P ((s.dev.answer p []).pinCueCfg v.toNat).showIrq) :
    Completes (.cuePinDirWrite p v) s fun d => P d ∧ (d.port p).code = 0 ∧ s.dev.sameRegs d L ∧
        d = { s.dev with regs := d.regs, ports := d.ports, irqA := d.irqA, irqB := d.irqB } := by
  have hx : exec (.cuePinDirWrite p v) s = s.done (s.dev.busWrite {} p rPIN_CUE_CFG .b32 v) := rfl
  rw [Dev.busWrite_pinCueCfg takes] at hx
  have rest := (s.dev.answer p []).pinCueCfg_butRegs v.toNat
  obtain ⟨e, he⟩ : ∃ e, e = (s.dev.answer p []).pinCueCfg v.toNat := ⟨_, rfl⟩
  rw [← he] at hx regs rest h
  have keeps : e.butRegsPorts = s.dev.butRegsPorts := congrArg (fun x : Dev => { x with ports := [] }) rest
  have regs' : s.dev.sameRegs e L := (s.dev.answer_sameRegs p [] _).trans regs
  have all : L ⊆ rPIN_CUE_CFG :: rPIN_CONFLICT :: (List.range 12).map rPIN_GRPnn_OWNER := List.Subset.trans hL (by decide)
  refine completes_of_sameRegs hx calm regs' (apart_of_subset calmRegs_pins all) (congrArg (·.calmPart) keeps) ⟨h, ?_, regs'.showIrq, ?_⟩
  · rw [Dev.showIrq_port, Dev.port_congr (congrArg (·.ports) rest : e.ports = (s.dev.answer p []).ports), Dev.answer_code]
  · exact congrArg (fun x : Dev => { x with regs := e.regs, ports := e.ports, irqA := e.irqPinA, irqB := e.irqPinB }) keeps

@[simp] theorem Dev.showIrq_pinDir (d : Dev) (k : Nat) : d.showIrq.pinDir k = d.pinDir k := rfl

/-- The first clause of O35: the directions are set while every group is free. -/
theorem cuePinDir_completes (s : State) (p : Port) (v : Word) (calm : s.dev.calm = true) (takes : s.dev.takes p rPIN_CUE_CFG)
    (free : ∀ g ∈ List.range 8, s.dev.get (fPIN_GRPnn_OWNER_OWNER g) = 0 ∧ s.dev.grpPrio g = 0) :
    Completes (.cuePinDirWrite p v) s fun d =>
        (∀ k ∈ List.range 16, d.pinDir k = (let x := v.toNat / 4 ^ k % 4; if x = 3 then 0 else x)) ∧
        (∀ g ∈ List.range 8, d.get (fPIN_GRPnn_OWNER_OWNER g) = (if d.pinDir (8 + g) = 0 then 0 else 2)) ∧
        (d.port p).code = 0 ∧
        s.dev.sameRegs d (rPIN_CUE_CFG :: (List.range 8).map rPIN_GRPnn_OWNER) ∧
        d = { s.dev with regs := d.regs, ports := d.ports, irqA := d.irqA, irqB := d.irqB } := by
  have opened : (s.dev.answer p []).pinGrpsOpen := fun g hg =>
    let ⟨owner, prio⟩ := free g (List.mem_range.mpr hg)
    ⟨Or.inl owner, prio⟩
  have dir := fun k (hk : k < 16) => Dev.pinCueCfg_open opened v.toNat hk
  have done := pinCueCfg_completes calm takes (Dev.pinCueCfg_open_sameRegs opened v.toNat) (by simp)
    (P := fun d => (∀ k ∈ List.range 16, d.pinDir k = (let x := v.toNat / 4 ^ k % 4; if x = 3 then 0 else x)) ∧
      ∀ g ∈ List.range 8, d.get (fPIN_GRPnn_OWNER_OWNER g) = (if d.pinDir (8 + g) = 0 then 0 else 2)) (by
    refine ⟨fun k hk => (dir k (List.mem_range.mp hk)).1, fun g hg => ?_⟩
    have grp := (dir (8 + g) (by have := List.mem_range.mp hg; omega)).2 (by omega)
    rw [Dev.showIrq_get, Dev.showIrq_pinDir, (dir (8 + g) (by have := List.mem_range.mp hg; omega)).1, ← grp]
    congr 2
    omega)
  obtain ⟨t, ran, waits, ⟨dirs, grps⟩, rest⟩ := done
  exact ⟨t, ran, waits, dirs, grps, rest⟩

/-- The second clause of O35: a pin whose group another function holds. -/
theorem cuePinDir_refused_completes (s : State) (p : Port) (v : Word) (g : Nat) (calm : s.dev.calm = true)
    (takes : s.dev.takes p rPIN_CUE_CFG) (hg : g < 8) (held : s.dev.get (fPIN_GRPnn_OWNER_OWNER g) = 1)
    (used : v.toNat / 4 ^ (8 + g) % 4 = 1 ∨ v.toNat / 4 ^ (8 + g) % 4 = 2) :
    Completes (.cuePinDirWrite p v) s fun d =>
        d.pinDir (8 + g) = 0 ∧
        d.get (fPIN_GRPnn_OWNER_OWNER g) = 1 ∧
        d.on fPIN_CONFLICT_VALID = true ∧
        (d.port p).code = 0 ∧
        s.dev.sameRegs d (rPIN_CUE_CFG :: rPIN_CONFLICT :: (List.range 8).map rPIN_GRPnn_OWNER) ∧
        d = { s.dev with regs := d.regs, ports := d.ports, irqA := d.irqA, irqB := d.irqB } := by
  have code : pinCode (v.toNat / 4 ^ (8 + g) % 4) ≠ 0 := by
    unfold pinCode; obtain h | h := used <;> simp [h]
  have refused := Dev.pinCueCfg_refused (d := s.dev.answer p []) hg held code
  obtain ⟨t, ran, waits, ⟨dir, owner, valid⟩, rest⟩ := pinCueCfg_completes calm takes (Dev.pinCueCfg_sameRegs _ v.toNat)
    (List.Subset.refl _) (P := fun d => d.pinDir (8 + g) = 0 ∧ d.get (fPIN_GRPnn_OWNER_OWNER g) = 1 ∧ d.on fPIN_CONFLICT_VALID = true) (by
      rw [Dev.showIrq_pinDir, Dev.showIrq_get, Dev.showIrq_on]; exact refused)
  exact ⟨t, ran, waits, dir, owner, valid, rest⟩

end Sys2Proof.Machine
end

section
/-! DMX ports (R369 to R371) and E1.31 input (R372, R373). -/

namespace Sys2Proof.Machine

open Sys2Proof

variable {d : Dev}

/-! ## The state of a DMX port -/

@[simp] theorem Dev.dmx_setDmx_same (d : Dev) (q : Nat) (x : DmxSt) : (d.setDmx q x).dmx q = x := kget_kset_same ..

@[simp] theorem Dev.showIrq_dmx (d : Dev) (q : Nat) : d.showIrq.dmx q = d.dmx q := rfl

theorem Dev.dmx_of_cue {d e : Dev} (h : e.cue = d.cue) (q : Nat) : e.dmx q = d.dmx q := by unfold Dev.dmx; rw [h]

/-! ## The write of CUE_DMXp_CFG -/

/-- The row of CUE_DMXp_CFG in the register summary. -/
def dmxCfgRow : RegDesc := { base := 0x120100, s1 := 0x10, c1 := 4, wr := 0x83FF03FF }

theorem regAt_dmxCfg (q : Fin 4) : regAt (rCUE_DMXp_CFG q.val) = some (dmxCfgRow, q.val, 0) := by fin_cases q <;> rfl

theorem plainReg_dmxCfg (q : Fin 4) : plainReg (rCUE_DMXp_CFG q.val) q.val = true := by revert q; decide

/-- CUE_DMXp_CFG as a write of `v` stores it, EN as it was. -/
def Dev.dmxStored (d : Dev) (q : Nat) (v : Word) : Dev :=
  (d.setReg (rCUE_DMXp_CFG q) (merged (w32 0x83FF03FF) (d.reg (rCUE_DMXp_CFG q)) v)).put (fCUE_DMXp_CFG_EN q) (d.get (fCUE_DMXp_CFG_EN q))

theorem fCUE_DMXp_CFG_EN_ok (q : Nat) : (fCUE_DMXp_CFG_EN q).ok := (by decide : 31 + 1 ≤ 32)

theorem Dev.dmxStored_sameRegs (d : Dev) (q : Nat) (v : Word) : d.sameRegs (d.dmxStored q v) [rCUE_DMXp_CFG q] :=
  ((Dev.sameRegs.refl d _).setReg List.mem_cons_self _).put (f := fCUE_DMXp_CFG_EN q) List.mem_cons_self _

theorem Dev.dmxStored_slots (d : Dev) (q : Nat) (v : Word) :
    (d.dmxStored q v).get (fCUE_DMXp_CFG_SLOTS q) = (fCUE_DMXp_CFG_SLOTS q).get v := by
  have addr : rCUE_DMXp_CFG q = (fCUE_DMXp_CFG_SLOTS q).addr := rfl
  have within : (fCUE_DMXp_CFG_SLOTS q).within (w32 0x83FF03FF) = true := (by decide : Fld.within ⟨0, 16, 10⟩ (w32 0x83FF03FF) = true)
  rw [Dev.dmxStored, Dev.get_put_apart _ _ _ _ (fCUE_DMXp_CFG_EN_ok q) (Or.inr (by decide : 16 + 10 ≤ 31)), Dev.get_setReg,
    if_pos addr, Fld.get_merged_within within]

theorem dmxCfg_place (q : Fin 4) : tcmpReg (rCUE_DMXp_CFG q.val) = false ∧ blockOf (rCUE_DMXp_CFG q.val) = 14 ∧
    rCUE_DMXp_CFG q.val ≠ rCUE_CFG ∧ rCUE_DMXp_CFG q.val ≠ rCUE_GO ∧ rCUE_DMXp_CFG q.val ≠ rCUE_TBL_CMD := by
  revert q; decide

/-- A write of CUE_DMXp_CFG that turns EN has its effect on the device with the rest stored. -/
theorem Dev.busWrite_dmxCfg {q : Fin 4} {p : Port} {v : Word} {b : Bool} (takes : d.takes p (rCUE_DMXp_CFG q.val))
    (old : d.on (fCUE_DMXp_CFG_EN q.val) = !b) (new : (fCUE_DMXp_CFG_EN q.val).get v = b.toNat) (m : Meets) :
    d.busWrite m p (rCUE_DMXp_CFG q.val) .b32 v = ((d.answer p []).dmxStored q.val v).dmxEnable q.val b := by
  have low : rCUE_DMXp_CFG q.val < 0x400000 := by simp only [rCUE_DMXp_CFG]; omega
  have aligned : rCUE_DMXp_CFG q.val / 4 * 4 = rCUE_DMXp_CFG q.val := by simp only [rCUE_DMXp_CFG]; omega
  have row := regAt_dmxCfg q
  have free : (d.answer p []).owned dmxCfgRow q.val = false := rfl
  obtain ⟨notTcmp, block, cfg, go, tbl⟩ := dmxCfg_place q
  rw [Dev.busWrite_reg takes low (by rw [aligned, row]; rfl), Dev.regWrite_plain row (plainReg_dmxCfg q) (by simp [notTcmp]),
    Dev.regStore_free free]
  simp only [Dev.writeEffect, block, Dev.fxCue, cfg, go, tbl, if_false, if_true]
  have within : (fCUE_DMXp_CFG_EN q.val).within (writeMask dmxCfgRow v) = true := (by decide : Fld.within ⟨0, 31, 1⟩ (w32 0x83FF03FF) = true)
  have ne : (fCUE_DMXp_CFG_EN q.val).get ((d.answer p []).reg (rCUE_DMXp_CFG q.val)) ≠ (fCUE_DMXp_CFG_EN q.val).get v := by
    rw [new]
    intro same
    have on : d.on (fCUE_DMXp_CFG_EN q.val) = (b.toNat != 0) := congrArg (· != 0) same
    rw [old] at on
    cases b <;> cases on
  refine (Dev.atEdgeOld_turned (d.answer p []) within ne _ _).trans ?_
  rw [new]
  cases b <;> rfl

theorem calmRegs_dmx (q : Fin 4) : ∀ a ∈ calmRegs, a ∉ [rCUE_DMXp_CFG q.val, rPIN_GRPnn_OWNER (8 + q.val), rPIN_CONFLICT,
    rCUE_DMXp_PKT_CNT q.val] := by revert q; decide

theorem rCUE_DMXp_CFG_ne_grp (q : Fin 4) (g : Nat) : rCUE_DMXp_CFG q.val ≠ rPIN_GRPnn_OWNER g := by
  simp only [rCUE_DMXp_CFG, rPIN_GRPnn_OWNER]; omega

/-- What the store of CUE_DMXp_CFG leaves, before EN acts. -/
structure DmxWritten (d c : Dev) (q : Nat) (p : Port) (v : Word) : Prop where
  regs : d.sameRegs c [rCUE_DMXp_CFG q]
  rest : c.butRegsPorts = d.butRegsPorts
  code : (c.port p).code = 0
  slots : c.get (fCUE_DMXp_CFG_SLOTS q) = (fCUE_DMXp_CFG_SLOTS q).get v

theorem Dev.dmxStored_written (d : Dev) (q : Nat) (p : Port) (v : Word) : DmxWritten d ((d.answer p []).dmxStored q v) q p v where
  regs := (d.answer_sameRegs p [] _).trans (Dev.dmxStored_sameRegs _ q v)
  rest := rfl
  code := (congrArg PortSt.code (Dev.port_congr rfl p)).trans (d.answer_code p [])
  slots := Dev.dmxStored_slots ..

namespace DmxWritten

variable {c : Dev} {q : Fin 4} {p : Port} {v : Word}

theorem grp (w : DmxWritten d c q.val p v) (g : Nat) : c.reg (rPIN_GRPnn_OWNER g) = d.reg (rPIN_GRPnn_OWNER g) :=
  w.regs _ (by simpa using (rCUE_DMXp_CFG_ne_grp q g).symm)

theorem owner (w : DmxWritten d c q.val p v) (g : Nat) : c.get (fPIN_GRPnn_OWNER_OWNER g) = d.get (fPIN_GRPnn_OWNER_OWNER g) :=
  congrArg (Fld.get _) (w.grp g)

theorem prio (w : DmxWritten d c q.val p v) (g : Nat) : c.grpPrio g = d.grpPrio g :=
  Dev.grpPrio_congr (congrArg (Fld.get _) (w.grp g))

theorem dmx (w : DmxWritten d c q.val p v) : c.dmx q.val = d.dmx q.val :=
  Dev.dmx_of_cue (congrArg (·.cue) w.rest) _

end DmxWritten

/-- A write of CUE_DMXp_CFG that turns EN completes in the device that the port's enable or disable leaves. -/
theorem dmxWrite_completes {s : State} {q : Fin 4} {p : Port} {v : Word} {b : Bool} {e : Dev} {P : Dev → Prop}
    (calm : s.dev.calm = true) (takes : s.dev.takes p (rCUE_DMXp_CFG q.val)) (old : s.dev.on (fCUE_DMXp_CFG_EN q.val) = !b)
    (new : (fCUE_DMXp_CFG_EN q.val).get v = b.toNat) (he : ((s.dev.answer p []).dmxStored q.val v).dmxEnable q.val b = e)
    (regs : s.dev.sameRegs e [rCUE_DMXp_CFG q.val, rPIN_GRPnn_OWNER (8 + q.val), rPIN_CONFLICT, rCUE_DMXp_PKT_CNT q.val])
    (part : e.calmPart = s.dev.calmPart) (h : P e.showIrq) : Completes (.dmxPortEnable q p v) s P := by
  have hx : exec (.dmxPortEnable q p v) s = s.done e := by
    show s.done (s.dev.busWrite {} p (rCUE_DMXp_CFG q.val) .b32 v) = _
    rw [Dev.busWrite_dmxCfg takes old new, he]
  exact completes_of_sameRegs hx calm regs (calmRegs_dmx q) part h

/-- A port whose group is granted is enabled. -/
theorem Dev.dmxEnable_granted {q : Nat} (h : d.get (fPIN_GRPnn_OWNER_OWNER (8 + q)) = 0) (hp : d.grpPrio (8 + q) = 0) :
    d.dmxEnable q true = (d.put (fPIN_GRPnn_OWNER_OWNER (8 + q)) 2).putB (fCUE_DMXp_CFG_EN q) true := by
  simp only [Dev.dmxEnable, Dev.claimGrp_granted (Or.inr ⟨h, hp⟩), if_true]

/-- A port whose group function 1 holds is not. -/
theorem Dev.dmxEnable_refused {q : Nat} (h : d.get (fPIN_GRPnn_OWNER_OWNER (8 + q)) = 1) :
    d.dmxEnable q true = (d.grpConflict (8 + q) 2).putB (fCUE_DMXp_CFG_EN q) false := by
  simp only [Dev.dmxEnable, Dev.claimGrp_refused h, if_true]

/-- The third clause of O35: a port is enabled whose group is free. -/
theorem dmxEnable_completes (s : State) (q : Fin 4) (p : Port) (v : Word) (calm : s.dev.calm = true)
    (takes : s.dev.takes p (rCUE_DMXp_CFG q.val)) (off : s.dev.on (fCUE_DMXp_CFG_EN q.val) = false)
    (en : (fCUE_DMXp_CFG_EN q.val).get v = 1) (free : s.dev.get (fPIN_GRPnn_OWNER_OWNER (8 + q.val)) = 0)
    (prio : s.dev.grpPrio (8 + q.val) = 0) :
    Completes (.dmxPortEnable q p v) s fun d =>
        d.on (fCUE_DMXp_CFG_EN q.val) = true ∧
        d.get (fPIN_GRPnn_OWNER_OWNER (8 + q.val)) = 2 ∧
        d.get (fCUE_DMXp_CFG_SLOTS q.val) = (fCUE_DMXp_CFG_SLOTS q.val).get v ∧
        (d.port p).code = 0 ∧
        s.dev.sameRegs d [rCUE_DMXp_CFG q.val, rPIN_GRPnn_OWNER (8 + q.val)] ∧
        d = { s.dev with regs := d.regs, ports := d.ports, irqA := d.irqA, irqB := d.irqB } := by
  have w := s.dev.dmxStored_written q.val p v
  obtain ⟨c, hc⟩ : ∃ c, c = (s.dev.answer p []).dmxStored q.val v := ⟨_, rfl⟩
  rw [← hc] at w
  obtain ⟨e, he⟩ : ∃ e, e = (c.put (fPIN_GRPnn_OWNER_OWNER (8 + q.val)) 2).putB (fCUE_DMXp_CFG_EN q.val) true := ⟨_, rfl⟩
  have acts : c.dmxEnable q.val true = e := by
    rw [he]; exact Dev.dmxEnable_granted ((w.owner _).trans free) ((w.prio _).trans prio)
  have regs : s.dev.sameRegs e [rCUE_DMXp_CFG q.val, rPIN_GRPnn_OWNER (8 + q.val)] := by
    rw [he]
    exact ((w.regs.mono (M := [rCUE_DMXp_CFG q.val, rPIN_GRPnn_OWNER (8 + q.val)]) (by simp)).put (f := fPIN_GRPnn_OWNER_OWNER (8 + q.val)) (by simp [fPIN_GRPnn_OWNER_OWNER, rPIN_GRPnn_OWNER])
      2).putB (f := fCUE_DMXp_CFG_EN q.val) List.mem_cons_self true
  have ne := rCUE_DMXp_CFG_ne_grp q (8 + q.val)
  have keeps : e.butRegsPorts = s.dev.butRegsPorts := by rw [he, ← w.rest]; rfl
  refine dmxWrite_completes (b := true) calm takes off en (by rw [← hc, acts]) (regs.mono (by simp))
    (congrArg (·.calmPart) keeps) ⟨?_, ?_, ?_, ?_, regs.showIrq, ?_⟩
  · rw [Dev.showIrq_on, he, Dev.on_putB_same _ (fCUE_DMXp_CFG_EN_ok q.val) rfl]
  · rw [Dev.showIrq_get, he, Dev.putB, Dev.get_put_addr _ _ _ _ ne, Dev.get_owner_putOwner]
  · rw [Dev.showIrq_get, he, Dev.putB, Dev.get_put_apart _ _ _ _ (fCUE_DMXp_CFG_EN_ok q.val) (Or.inr (by decide : 16 + 10 ≤ 31)),
      Dev.get_put_addr _ _ _ _ ne.symm, w.slots]
  · rw [Dev.showIrq_port, he, ← w.code]; exact congrArg PortSt.code (Dev.port_congr rfl p)
  · exact congrArg (fun x : Dev => { x with regs := e.regs, ports := e.ports, irqA := e.irqPinA, irqB := e.irqPinB }) keeps

theorem dmxConflict_apart (q : Fin 4) : rPIN_GRPnn_OWNER (8 + q.val) ∉ [rCUE_DMXp_CFG q.val, rPIN_CONFLICT] ∧
    (fCUE_DMXp_CFG_EN q.val).addr ≠ fPIN_CONFLICT_VALID.addr := by
  revert q; decide

/-- The fourth clause of O35: a port whose group another function holds. -/
theorem dmxEnable_refused_completes (s : State) (q : Fin 4) (p : Port) (v : Word) (calm : s.dev.calm = true)
    (takes : s.dev.takes p (rCUE_DMXp_CFG q.val)) (off : s.dev.on (fCUE_DMXp_CFG_EN q.val) = false)
    (en : (fCUE_DMXp_CFG_EN q.val).get v = 1) (held : s.dev.get (fPIN_GRPnn_OWNER_OWNER (8 + q.val)) = 1) :
    Completes (.dmxPortEnable q p v) s fun d =>
        d.on (fCUE_DMXp_CFG_EN q.val) = false ∧
        d.get (fPIN_GRPnn_OWNER_OWNER (8 + q.val)) = 1 ∧
        d.on fPIN_CONFLICT_VALID = true ∧
        (d.port p).code = 0 ∧
        s.dev.sameRegs d [rCUE_DMXp_CFG q.val, rPIN_CONFLICT] ∧
        d = { s.dev with regs := d.regs, ports := d.ports, irqA := d.irqA, irqB := d.irqB } := by
  have w := s.dev.dmxStored_written q.val p v
  obtain ⟨c, hc⟩ : ∃ c, c = (s.dev.answer p []).dmxStored q.val v := ⟨_, rfl⟩
  rw [← hc] at w
  obtain ⟨f, hf⟩ : ∃ f, f = c.grpConflict (8 + q.val) 2 := ⟨_, rfl⟩
  obtain ⟨e, he⟩ : ∃ e, e = f.putB (fCUE_DMXp_CFG_EN q.val) false := ⟨_, rfl⟩
  have acts : c.dmxEnable q.val true = e := by
    rw [he, hf]; exact Dev.dmxEnable_refused ((w.owner _).trans held)
  have conflict : c.sameRegs f [rPIN_CONFLICT] ∧ f.butRegs = c.butRegs := by
    rw [hf]; exact ⟨c.grpConflict_sameRegs _ _, c.grpConflict_butRegs _ _⟩
  have regs : s.dev.sameRegs e [rCUE_DMXp_CFG q.val, rPIN_CONFLICT] := by
    rw [he]
    exact ((w.regs.mono (M := [rCUE_DMXp_CFG q.val, rPIN_CONFLICT]) (by simp)).trans (conflict.1.mono (by simp))).putB (f := fCUE_DMXp_CFG_EN q.val) List.mem_cons_self false
  have keeps : e.butRegsPorts = s.dev.butRegsPorts := by
    rw [he, ← w.rest]; exact congrArg (fun x : Dev => { x with ports := [] }) conflict.2
  refine dmxWrite_completes (b := true) calm takes off en (by rw [← hc, acts]) (regs.mono (by simp))
    (congrArg (·.calmPart) keeps) ⟨?_, ?_, ?_, ?_, regs.showIrq, ?_⟩
  · rw [Dev.showIrq_on, he, Dev.on_putB_same _ (fCUE_DMXp_CFG_EN_ok q.val) rfl]
  · rw [Dev.showIrq_get, regs.get (f := fPIN_GRPnn_OWNER_OWNER (8 + q.val)) (dmxConflict_apart q).1, held]
  · rw [Dev.showIrq_on, he, Dev.putB, Dev.on_put_addr _ _ (dmxConflict_apart q).2, hf, Dev.grpConflict_valid]
  · rw [Dev.showIrq_port, he, ← w.code]; exact congrArg PortSt.code (Dev.port_congr (congrArg (·.ports) conflict.2) p)
  · exact congrArg (fun x : Dev => { x with regs := e.regs, ports := e.ports, irqA := e.irqPinA, irqB := e.irqPinB }) keeps

/-- A port that is disabled stops. -/
def Dev.dmxStopped (d : Dev) (q : Nat) : Dev := (d.setDmx q { d.dmx q with run := false }).putB (fCUE_DMXp_CFG_EN q) false

theorem Dev.dmxStopped_dmx (d : Dev) (q : Nat) : (d.dmxStopped q).dmx q = { d.dmx q with run := false } :=
  (Dev.dmx_of_cue rfl q).trans (Dev.dmx_setDmx_same ..)

theorem Dev.dmxStopped_sameRegs (d : Dev) (q : Nat) : d.sameRegs (d.dmxStopped q) [rCUE_DMXp_CFG q] :=
  ((Dev.sameRegs.refl d _).of_regs (f := d.setDmx q _) rfl).putB (f := fCUE_DMXp_CFG_EN q) List.mem_cons_self false

theorem Dev.dmxStopped_off (d : Dev) (q : Nat) : (d.dmxStopped q).on (fCUE_DMXp_CFG_EN q) = false :=
  Dev.on_putB_same _ (fCUE_DMXp_CFG_EN_ok q) rfl false

/-- Disabled, a port keeps its balls while a packet is on the line. -/
theorem Dev.dmxEnable_off (d : Dev) (q : Nat) :
    d.dmxEnable q false = if (d.dmx q).busy then d.dmxStopped q else (d.dmxStopped q).releaseGrp (8 + q) 2 := by
  have busy : ((d.dmxStopped q).dmx q).busy = (d.dmx q).busy := by rw [Dev.dmxStopped_dmx]
  simp only [Dev.dmxEnable, Bool.false_eq_true, if_false]
  rw [← Dev.dmxStopped, busy]

/-- The device but for its registers, its ports and the state of its DMX ports. -/
def Dev.butDmxPorts (d : Dev) : Dev := { d with regs := [], ports := [], cue := { d.cue with dmx := [] } }

theorem Dev.dmxStopped_butDmxPorts (d : Dev) (q : Nat) : (d.dmxStopped q).butDmxPorts = d.butDmxPorts := rfl

theorem Dev.dmxStopped_ports (d : Dev) (q : Nat) : (d.dmxStopped q).ports = d.ports := rfl

/-- What the store of CUE_DMXp_CFG and the stop of its port leave. -/
structure DmxDisabled (d f : Dev) (q : Nat) (p : Port) : Prop where
  regs : d.sameRegs f [rCUE_DMXp_CFG q]
  rest : f.butDmxPorts = d.butDmxPorts
  off : f.on (fCUE_DMXp_CFG_EN q) = false
  dmx : f.dmx q = { d.dmx q with run := false }
  code : (f.port p).code = 0

theorem DmxWritten.disabled {c : Dev} {q : Fin 4} {p : Port} {v : Word} (w : DmxWritten d c q.val p v) :
    DmxDisabled d (c.dmxStopped q.val) q.val p where
  regs := w.regs.trans (c.dmxStopped_sameRegs q.val)
  rest := (c.dmxStopped_butDmxPorts q.val).trans (congrArg (fun x : Dev => { x with cue := { x.cue with dmx := [] } }) w.rest)
  off := c.dmxStopped_off q.val
  dmx := by rw [c.dmxStopped_dmx, w.dmx]
  code := by rw [Dev.port_congr (c.dmxStopped_ports q.val), w.code]

theorem DmxDisabled.owner {f : Dev} {q : Fin 4} {p : Port} (w : DmxDisabled d f q.val p) (g : Nat) :
    f.get (fPIN_GRPnn_OWNER_OWNER g) = d.get (fPIN_GRPnn_OWNER_OWNER g) :=
  w.regs.get (f := fPIN_GRPnn_OWNER_OWNER g) (by rw [List.mem_singleton]; exact (rCUE_DMXp_CFG_ne_grp q g).symm)

/-- The fifth clause of O35: a port with no packet on the line is disabled. -/
theorem dmxDisable_completes (s : State) (q : Fin 4) (p : Port) (v : Word) (calm : s.dev.calm = true)
    (takes : s.dev.takes p (rCUE_DMXp_CFG q.val)) (on : s.dev.on (fCUE_DMXp_CFG_EN q.val) = true)
    (dis : (fCUE_DMXp_CFG_EN q.val).get v = 0) (held : s.dev.get (fPIN_GRPnn_OWNER_OWNER (8 + q.val)) = 2)
    (idle : (s.dev.dmx q.val).busy = false) :
    Completes (.dmxPortEnable q p v) s fun d =>
        d.on (fCUE_DMXp_CFG_EN q.val) = false ∧
        d.get (fPIN_GRPnn_OWNER_OWNER (8 + q.val)) = 0 ∧
        d.dmx q.val = { (s.dev.dmx q.val) with run := false } ∧
        (d.port p).code = 0 ∧
        s.dev.sameRegs d [rCUE_DMXp_CFG q.val, rPIN_GRPnn_OWNER (8 + q.val), rGLB_IGN_CNT, rGLB_IGN_OVF_CNT] ∧
        d = { s.dev with regs := d.regs, ports := d.ports, cue := d.cue, ign := d.ign, irqA := d.irqA, irqB := d.irqB } := by
  have w := s.dev.dmxStored_written q.val p v
  obtain ⟨c, hc⟩ : ∃ c, c = (s.dev.answer p []).dmxStored q.val v := ⟨_, rfl⟩
  rw [← hc] at w
  have off := w.disabled
  obtain ⟨f, hf⟩ : ∃ f, f = c.dmxStopped q.val := ⟨_, rfl⟩
  rw [← hf] at off
  obtain ⟨e, he⟩ : ∃ e, e = f.put (fPIN_GRPnn_OWNER_OWNER (8 + q.val)) 0 := ⟨_, rfl⟩
  have acts : c.dmxEnable q.val false = e := by
    rw [he, Dev.dmxEnable_off, w.dmx, idle, ← hf, Dev.releaseGrp_held ((off.owner _).trans held)]; rfl
  have regs : s.dev.sameRegs e [rCUE_DMXp_CFG q.val, rPIN_GRPnn_OWNER (8 + q.val)] := by
    rw [he]
    exact (off.regs.mono (M := [rCUE_DMXp_CFG q.val, rPIN_GRPnn_OWNER (8 + q.val)]) (by simp)).put
      (f := fPIN_GRPnn_OWNER_OWNER (8 + q.val)) (by simp [fPIN_GRPnn_OWNER_OWNER, rPIN_GRPnn_OWNER]) 0
  have keeps : e.butDmxPorts = s.dev.butDmxPorts := by rw [he, ← off.rest]; rfl
  have dmx : e.dmx q.val = f.dmx q.val := by rw [he]; exact Dev.dmx_of_cue rfl _
  have ports : e.ports = f.ports := by rw [he]; rfl
  refine dmxWrite_completes (b := false) calm takes on dis (by rw [← hc, acts]) (regs.mono (by simp))
    (congrArg (·.calmPart) keeps) ⟨?_, ?_, ?_, ?_, (regs.mono (by simp)).showIrq, ?_⟩
  · rw [Dev.showIrq_on, he, Dev.on_put_addr _ _ (rCUE_DMXp_CFG_ne_grp q _).symm, off.off]
  · rw [Dev.showIrq_get, he, Dev.get_owner_putOwner]
  · rw [Dev.showIrq_dmx, dmx, off.dmx]
  · rw [Dev.showIrq_port, Dev.port_congr ports, off.code]
  · exact congrArg (fun x : Dev => { x with regs := e.regs, ports := e.ports, cue := e.cue, ign := e.ign, irqA := e.irqPinA, irqB := e.irqPinB }) keeps

/-- The sixth clause of O35: a port with a packet on the line is disabled. -/
theorem dmxDisable_busy_completes (s : State) (q : Fin 4) (p : Port) (v : Word) (calm : s.dev.calm = true)
    (takes : s.dev.takes p (rCUE_DMXp_CFG q.val)) (on : s.dev.on (fCUE_DMXp_CFG_EN q.val) = true)
    (dis : (fCUE_DMXp_CFG_EN q.val).get v = 0) (busy : (s.dev.dmx q.val).busy = true) :
    Completes (.dmxPortEnable q p v) s fun d =>
        d.on (fCUE_DMXp_CFG_EN q.val) = false ∧
        d.get (fPIN_GRPnn_OWNER_OWNER (8 + q.val)) = s.dev.get (fPIN_GRPnn_OWNER_OWNER (8 + q.val)) ∧
        d.dmx q.val = { (s.dev.dmx q.val) with run := false } ∧
        (d.port p).code = 0 ∧
        s.dev.sameRegs d [rCUE_DMXp_CFG q.val, rGLB_IGN_CNT, rGLB_IGN_OVF_CNT] ∧
        d = { s.dev with regs := d.regs, ports := d.ports, cue := d.cue, ign := d.ign, irqA := d.irqA, irqB := d.irqB } := by
  have w := s.dev.dmxStored_written q.val p v
  obtain ⟨c, hc⟩ : ∃ c, c = (s.dev.answer p []).dmxStored q.val v := ⟨_, rfl⟩
  rw [← hc] at w
  have off := w.disabled
  obtain ⟨e, he⟩ : ∃ e, e = c.dmxStopped q.val := ⟨_, rfl⟩
  rw [← he] at off
  have acts : c.dmxEnable q.val false = e := by rw [he, Dev.dmxEnable_off, w.dmx, busy]; rfl
  refine dmxWrite_completes (b := false) calm takes on dis (by rw [← hc, acts]) (off.regs.mono (by simp))
    (congrArg (·.calmPart) off.rest) ⟨?_, ?_, ?_, ?_, (off.regs.mono (by simp)).showIrq, ?_⟩
  · rw [Dev.showIrq_on, off.off]
  · rw [Dev.showIrq_get, off.owner]
  · rw [Dev.showIrq_dmx, off.dmx]
  · rw [Dev.showIrq_port, off.code]
  · exact congrArg (fun x : Dev => { x with regs := e.regs, ports := e.ports, cue := e.cue, ign := e.ign, irqA := e.irqPinA, irqB := e.irqPinB }) off.rest

/-! ## Breaks (R370) -/

/-- The device but for its registers and the state of its DMX ports. -/
def Dev.butDmx (d : Dev) : Dev := { d with regs := [], cue := { d.cue with dmx := [] } }

/-- A port that falls idle at a break. -/
def Dev.dmxIdle (d : Dev) (q : Nat) : Dev := d.setDmx q { d.dmx q with busy := false, image := [] }

theorem Dev.dmxBreak_idle {q : Nat} (h : (d.dmx q).run = false ∨ d.on (fCUE_DMXp_CFG_EN q) = false ∨ d.haloFront = false) :
    d.dmxBreak q = if d.on (fCUE_DMXp_CFG_EN q) then d.dmxIdle q else (d.dmxIdle q).releaseGrp (8 + q) 2 := by
  have stands : ¬((d.dmx q).run = true ∧ d.on (fCUE_DMXp_CFG_EN q) = true ∧ d.haloFront = true) := by
    rintro ⟨run, en, front⟩
    simp [run, en, front] at h
  simp only [Dev.dmxBreak, if_neg stands]
  rfl

theorem exec_dmxBreak {s : State} {q : Fin 4} {e : Dev} (core : s.dev.domOn 1 = true) (he : s.dev.dmxBreak q.val = e) :
    exec (.dmxBreak q) s = s.done e := by
  show s.doneIn (s.dev.domOn 1) (s.dev.dmxBreak q.val) = _
  rw [core, he]; rfl

/-- The seventh clause of O35: a running port takes the image of its buffer. -/
theorem dmxBreak_runs_completes (s : State) (q : Fin 4) (calm : s.dev.calm = true) (run : (s.dev.dmx q.val).run = true)
    (en : s.dev.on (fCUE_DMXp_CFG_EN q.val) = true) (front : s.dev.haloFront = true) (core : s.dev.domOn 1 = true) :
    Completes (.dmxBreak q) s fun d =>
        d.dmx q.val = { (s.dev.dmx q.val) with busy := true, image := (s.dev.cueBuf (s.dev.dmx q.val).buf).take (s.dev.dmxSlots q.val + 1) } ∧
        (d.reg (rCUE_DMXp_PKT_CNT q.val)).toNat = min ((s.dev.reg (rCUE_DMXp_PKT_CNT q.val)).toNat + 1) (2 ^ 32 - 1) ∧
        s.dev.sameRegs d [rCUE_DMXp_PKT_CNT q.val] ∧
        d = { s.dev with regs := d.regs, cue := d.cue, irqA := d.irqA, irqB := d.irqB } := by
  obtain ⟨x, hx⟩ : ∃ x, x = { s.dev.dmx q.val with busy := true, image := (s.dev.cueBuf (s.dev.dmx q.val).buf).take (s.dev.dmxSlots q.val + 1) } :=
    ⟨_, rfl⟩
  obtain ⟨c, hc⟩ : ∃ c, c = s.dev.setDmx q.val x := ⟨_, rfl⟩
  obtain ⟨e, he⟩ : ∃ e, e = c.inc (rCUE_DMXp_PKT_CNT q.val) := ⟨_, rfl⟩
  have breaks : s.dev.dmxBreak q.val = e := by rw [he, hc, hx]; exact if_pos ⟨run, en, front⟩
  have cRegs : c.regs = s.dev.regs := by rw [hc]; rfl
  have regs : s.dev.sameRegs e [rCUE_DMXp_PKT_CNT q.val] := by
    rw [he]; exact ((Dev.sameRegs.refl _ _).of_regs cRegs).inc (by simp)
  have keeps : e.butDmx = s.dev.butDmx := by rw [he, hc]; rfl
  have dmx : e.dmx q.val = c.dmx q.val := by rw [he]; exact Dev.dmx_of_cue rfl _
  rw [← hx]
  refine completes_of_sameRegs (exec_dmxBreak core breaks) calm (regs.mono (by simp)) (calmRegs_dmx q) (congrArg (·.calmPart) keeps)
    ⟨?_, ?_, regs.showIrq, ?_⟩
  · rw [Dev.showIrq_dmx, dmx, hc, Dev.dmx_setDmx_same]
  · rw [Dev.showIrq_reg, he, Dev.reg_inc_same, Dev.reg, cRegs]; rfl
  · exact congrArg (fun x : Dev => { x with regs := e.regs, cue := e.cue, irqA := e.irqPinA, irqB := e.irqPinB }) keeps

theorem Dev.dmxIdle_dmx (d : Dev) (q : Nat) : (d.dmxIdle q).dmx q = { d.dmx q with busy := false, image := [] } := Dev.dmx_setDmx_same ..

theorem Dev.dmxIdle_regs (d : Dev) (q : Nat) : (d.dmxIdle q).regs = d.regs := rfl

theorem Dev.dmxIdle_butDmx (d : Dev) (q : Nat) : (d.dmxIdle q).butDmx = d.butDmx := rfl

/-- The eighth clause of O35: an enabled port that does not run. -/
theorem dmxBreak_idle_completes (s : State) (q : Fin 4) (calm : s.dev.calm = true)
    (stands : (s.dev.dmx q.val).run = false ∨ s.dev.haloFront = false) (en : s.dev.on (fCUE_DMXp_CFG_EN q.val) = true)
    (core : s.dev.domOn 1 = true) :
    Completes (.dmxBreak q) s fun d =>
        d.dmx q.val = { (s.dev.dmx q.val) with busy := false, image := [] } ∧
        s.dev.sameRegs d [] ∧
        d = { s.dev with regs := d.regs, cue := d.cue, irqA := d.irqA, irqB := d.irqB } := by
  obtain ⟨e, he⟩ : ∃ e, e = s.dev.dmxIdle q.val := ⟨_, rfl⟩
  have breaks : s.dev.dmxBreak q.val = e := by rw [he, Dev.dmxBreak_idle (stands.imp_right Or.inr), if_pos en]
  have regs : s.dev.sameRegs e [] := by rw [he]; exact (Dev.sameRegs.refl _ _).of_regs (s.dev.dmxIdle_regs q.val)
  have keeps : e.butDmx = s.dev.butDmx := by rw [he, Dev.dmxIdle_butDmx]
  refine completes_of_sameRegs (exec_dmxBreak core breaks) calm regs (by simp) (congrArg (·.calmPart) keeps) ⟨?_, regs.showIrq, ?_⟩
  · rw [Dev.showIrq_dmx, he, Dev.dmxIdle_dmx]
  · exact congrArg (fun x : Dev => { x with regs := e.regs, cue := e.cue, irqA := e.irqPinA, irqB := e.irqPinB }) keeps

/-- The ninth clause of O35: a port that has been disabled gives its group up. -/
theorem dmxBreak_disabled_completes (s : State) (q : Fin 4) (calm : s.dev.calm = true)
    (off : s.dev.on (fCUE_DMXp_CFG_EN q.val) = false) (held : s.dev.get (fPIN_GRPnn_OWNER_OWNER (8 + q.val)) = 2)
    (core : s.dev.domOn 1 = true) :
    Completes (.dmxBreak q) s fun d =>
        d.dmx q.val = { (s.dev.dmx q.val) with busy := false, image := [] } ∧
        d.get (fPIN_GRPnn_OWNER_OWNER (8 + q.val)) = 0 ∧
        s.dev.sameRegs d [rPIN_GRPnn_OWNER (8 + q.val)] ∧
        d = { s.dev with regs := d.regs, cue := d.cue, irqA := d.irqA, irqB := d.irqB } := by
  obtain ⟨c, hc⟩ : ∃ c, c = s.dev.dmxIdle q.val := ⟨_, rfl⟩
  have cRegs : c.regs = s.dev.regs := by rw [hc, Dev.dmxIdle_regs]
  obtain ⟨e, he⟩ : ∃ e, e = c.put (fPIN_GRPnn_OWNER_OWNER (8 + q.val)) 0 := ⟨_, rfl⟩
  have breaks : s.dev.dmxBreak q.val = e := by
    rw [he, Dev.dmxBreak_idle (Or.inr (Or.inl off)), off, ← hc, Dev.releaseGrp_held ((Dev.get_of_regs cRegs _).trans held)]; rfl
  have regs : s.dev.sameRegs e [rPIN_GRPnn_OWNER (8 + q.val)] := by
    rw [he]; exact ((Dev.sameRegs.refl _ _).of_regs cRegs).put (f := fPIN_GRPnn_OWNER_OWNER (8 + q.val)) List.mem_cons_self 0
  have keeps : e.butDmx = s.dev.butDmx := by rw [he, ← s.dev.dmxIdle_butDmx q.val, hc]; rfl
  have dmx : e.dmx q.val = c.dmx q.val := by rw [he]; exact Dev.dmx_of_cue rfl _
  refine completes_of_sameRegs (exec_dmxBreak core breaks) calm (regs.mono (by simp)) (calmRegs_dmx q) (congrArg (·.calmPart) keeps)
    ⟨?_, ?_, regs.showIrq, ?_⟩
  · rw [Dev.showIrq_dmx, dmx, hc, Dev.dmxIdle_dmx]
  · rw [Dev.showIrq_get, he, Dev.get_owner_putOwner]
  · exact congrArg (fun x : Dev => { x with regs := e.regs, cue := e.cue, irqA := e.irqPinA, irqB := e.irqPinB }) keeps

end Sys2Proof.Machine
end

section
/-! E1.31 input (R372, R373): a universe buffer written and read back, and a packet for one buffer. -/

namespace Sys2Proof.Machine

open Sys2Proof

variable {d : Dev} {b : Nat}

/-! ## The bytes of a word -/

/-- The four bytes of a word, the first one at the top, read back. -/
theorem beBytes_beNat_four (w : List Byte) (h : w.length = 4) : beBytes 4 (BitVec.ofNat 32 (beNat w)).toNat = w := by
  obtain ⟨x, y, z, t, rfl⟩ : ∃ x y z t, w = [x, y, z, t] := by
    match w, h with
    | [x, y, z, t], _ => exact ⟨x, y, z, t, rfl⟩
  have hx := x.isLt
  have hy := y.isLt
  have hz := z.isLt
  have ht := t.isLt
  have value : beNat [x, y, z, t] = 256 * (256 * (256 * x.toNat + y.toNat) + z.toNat) + t.toNat := by simp [beNat]
  rw [value]
  simp only [beBytes, leBytes, BitVec.toNat_ofNat, List.reverse_cons, List.reverse_nil, List.nil_append, List.cons_append,
    List.cons.injEq, and_true]
  refine ⟨?_, ?_, ?_, ?_⟩ <;>
    exact BitVec.eq_of_toNat_eq (by rw [BitVec.toNat_ofNat]; omega)

/-! ## A universe buffer -/

/-- A word of a buffer: the next four bytes, zeros for the missing ones. -/
def bufWord (bs : List Byte) : List Byte := bs.take 4 ++ List.replicate (4 - (bs.take 4).length) 0

theorem bufWord_length (bs : List Byte) : (bufWord bs).length = 4 := by
  simp [bufWord]

theorem Dev.putBufWords_succ (d : Dev) (b n k : Nat) (bs : List Byte) :
    d.putBufWords b (n + 1) k bs = (d.setReg (rCUE_BUFb_DATA b k) (BitVec.ofNat 32 (beNat (bufWord bs)))).putBufWords b n (k + 1) (bs.drop 4) := rfl

theorem Dev.putBufWords_sameRegs (d : Dev) (b n k : Nat) (bs : List Byte) :
    d.sameRegs (d.putBufWords b n k bs) ((List.range' k n).map (rCUE_BUFb_DATA b)) := by
  induction n generalizing d k bs with
  | zero => exact Dev.sameRegs.refl d _
  | succ n ih =>
    rw [Dev.putBufWords_succ, List.range'_succ, List.map_cons]
    exact ((Dev.sameRegs.refl d _).setReg List.mem_cons_self _).trans ((ih _ _ _).mono (List.subset_cons_self ..))

theorem Dev.putBufWords_butRegs (d : Dev) (b n k : Nat) (bs : List Byte) : (d.putBufWords b n k bs).butRegs = d.butRegs := by
  induction n generalizing d k bs with
  | zero => rfl
  | succ n ih => rw [Dev.putBufWords_succ, ih]; rfl

theorem rCUE_BUFb_DATA_inj (b : Nat) : Function.Injective (rCUE_BUFb_DATA b) := fun i j h => by
  simp only [rCUE_BUFb_DATA] at h; omega

/-- The words of a buffer hold the bytes given, and zeros behind them. -/
theorem Dev.putBufWords_reg (d : Dev) (b n k : Nat) (bs : List Byte) {i : Nat} (hi : i < n) :
    (d.putBufWords b n k bs).reg (rCUE_BUFb_DATA b (k + i)) = BitVec.ofNat 32 (beNat (bufWord (bs.drop (4 * i)))) := by
  induction n generalizing d k bs i with
  | zero => omega
  | succ n ih =>
    rw [Dev.putBufWords_succ]
    cases i with
    | zero =>
      have apart : rCUE_BUFb_DATA b (k + 0) ∉ (List.range' (k + 1) n).map (rCUE_BUFb_DATA b) := by
        rw [List.mem_map_of_injective (rCUE_BUFb_DATA_inj b), List.mem_range'_1]; omega
      rw [Dev.putBufWords_sameRegs _ _ _ _ _ _ apart, Nat.add_zero, Dev.reg_setReg_same]; rfl
    | succ i =>
      have := ih (d.setReg (rCUE_BUFb_DATA b k) (BitVec.ofNat 32 (beNat (bufWord bs)))) (k + 1) (bs.drop 4) (i := i) (by omega)
      rw [List.drop_drop] at this
      rw [show k + (i + 1) = k + 1 + i by omega, this, show 4 + 4 * i = 4 * (i + 1) by omega]

/-- A list in words of four, zeros behind it. -/
theorem flatMap_bufWord (n : Nat) (bs : List Byte) :
    (List.range n).flatMap (fun i => bufWord (bs.drop (4 * i))) = (bs ++ List.replicate (4 * n) 0).take (4 * n) := by
  induction n generalizing bs with
  | zero => rfl
  | succ n ih =>
    have later : ∀ i, bufWord (bs.drop (4 * (i + 1))) = bufWord ((bs.drop 4).drop (4 * i)) := fun i => by
      rw [List.drop_drop, show 4 + 4 * i = 4 * (i + 1) by omega]
    have first : (bs ++ List.replicate (4 * (n + 1)) (0 : Byte)).take 4 = bufWord bs := by
      simp only [bufWord, List.take_append, List.take_replicate, List.length_take]
      congr 2; omega
    have rest : ((bs ++ List.replicate (4 * (n + 1)) (0 : Byte)).drop 4).take (4 * n) = (bs.drop 4 ++ List.replicate (4 * n) 0).take (4 * n) := by
      simp only [List.drop_append, List.drop_replicate, List.take_append, List.take_replicate, List.length_drop]
      congr 2; omega
    rw [List.range_succ_eq_map, List.flatMap_cons, List.flatMap_map]
    simp only [later, ih (bs.drop 4)]
    rw [show 4 * (n + 1) = 4 + 4 * n by omega, List.take_add, show 4 + 4 * n = 4 * (n + 1) by omega, first, rest]
    rfl

/-- A buffer read back after its commit: the bytes given, slots beyond them 0 (R373). -/
theorem Dev.cueBuf_setCueBuf (d : Dev) (b : Nat) (bs : List Byte) :
    (d.setCueBuf b bs).cueBuf b = (bs ++ List.replicate 513 0).take 513 := by
  have words : ∀ i ∈ List.range 129, beBytes 4 ((d.setCueBuf b bs).reg (rCUE_BUFb_DATA b i)).toNat = bufWord ((bs.take 513).drop (4 * i)) := by
    intro i hi
    have reg := d.putBufWords_reg b 129 0 (bs.take 513) (List.mem_range.mp hi)
    rw [Nat.zero_add] at reg
    rw [Dev.setCueBuf, reg, beBytes_beNat_four _ (bufWord_length _)]
  unfold Dev.cueBuf
  rw [show (List.range 129).flatMap (fun k => beBytes 4 ((d.setCueBuf b bs).reg (rCUE_BUFb_DATA b k)).toNat) =
    (List.range 129).flatMap (fun i => bufWord ((bs.take 513).drop (4 * i))) from congrArg List.flatten (List.map_congr_left words),
    flatMap_bufWord, List.take_take]
  simp only [List.take_append, List.take_take, List.take_replicate, List.length_take]
  congr 2; omega

theorem Dev.setCueBuf_sameRegs (d : Dev) (b : Nat) (bs : List Byte) : d.sameRegs (d.setCueBuf b bs) ((List.range 129).map (rCUE_BUFb_DATA b)) := by
  rw [List.range_eq_range']; exact d.putBufWords_sameRegs b 129 0 _

theorem Dev.setCueBuf_butRegs (d : Dev) (b : Nat) (bs : List Byte) : (d.setCueBuf b bs).butRegs = d.butRegs := d.putBufWords_butRegs ..

/-! ## A packet -/

/-- The device with the frame that E131_PACKET takes gone from those handed. -/
def Dev.unhand (d : Dev) (h : Handed) : Dev := { d with handed := d.handed.erase h }

/-- A valid packet of the frame taken, for one buffer, is offered to that buffer (R372). -/
theorem Dev.e131Taken_one {h : Handed} {k : E131Pkt} (first : d.handed.find? (fun x => x.sink == .e131) = some h)
    (packet : e131Packet h.bytes = some k) (valid : k.valid = true) (bound : d.e131Bufs k.universe_ = [b]) :
    d.e131Taken = (d.unhand h).e131Commit b k := by
  have taken : d.take (fun h => h.sink == .e131) = (some h, d.unhand h) := by
    simp only [Dev.take, first]; rfl
  have bound' : (d.unhand h).e131Bufs k.universe_ = [b] := bound
  simp only [Dev.e131Taken, taken, packet, valid, if_true, bound', List.foldl_cons, List.foldl_nil]

/-- A packet of a lower priority than the source held is dropped and counted (R373). -/
theorem Dev.e131Commit_lower {k : E131Pkt} (hold : (d.e131Of b).hold = true) (lately : d.mono - (d.e131Of b).at_ ≤ 2500000000 * 65536)
    (lower : k.prio < (d.e131Of b).prio) : d.e131Commit b k = d.inc rCUE_E131_PRI_DROP_CNT := by
  simp only [Dev.e131Commit, hold, lower, decide_eq_true lately, Bool.and_self, and_self, if_true]

/-- With no source held and none seen before, the packet is committed and its source kept. -/
theorem Dev.e131Commit_first {k : E131Pkt} (hold : (d.e131Of b).hold = false) (seq : (d.e131Of b).seq = none) :
    ∃ trigs, d.e131Commit b k = { d.setCueBuf b k.values with cue := { (d.setCueBuf b k.values).cue with
      e131 := kset {} (d.setCueBuf b k.values).cue.e131 b
        { prio := k.prio, at_ := (d.setCueBuf b k.values).mono, hold := !k.terminated, seq := some k.seq }
      trigs := trigs } } := by
  simp only [Dev.e131Commit, hold, seq, Bool.false_and, Bool.false_eq_true, false_and, if_false]
  exact ⟨_, rfl⟩

/-- The buffers bound to a universe are of eight. -/
theorem Dev.e131Bufs_lt {u : Nat} (h : d.e131Bufs u = [b]) : b < 8 := by
  have mem : b ∈ d.e131Bufs u := by rw [h]; exact List.mem_singleton_self b
  unfold Dev.e131Bufs at mem
  split at mem
  · cases mem
  · exact List.mem_range.mp (List.mem_filter.mp mem).1

theorem calmRegs_buf (hb : b < 8) : ∀ a ∈ calmRegs, a ∉ (List.range 129).map (rCUE_BUFb_DATA b) := by
  intro a ha hm
  obtain ⟨k, hk, rfl⟩ := List.mem_map.mp hm
  have high : ∀ a ∈ calmRegs, a < 0x124000 ∨ 0x126000 ≤ a := by decide
  have := List.mem_range.mp hk
  have := high _ ha
  simp only [rCUE_BUFb_DATA] at this
  omega

/-- The device but for its registers, its handed frames, the sources of its buffers and the cue engine's triggers. -/
def Dev.butE131 (d : Dev) : Dev := { d with regs := [], handed := [], cue := { d.cue with e131 := [], trigs := [] } }

theorem Dev.unhand_butE131 (d : Dev) (h : Handed) : (d.unhand h).butE131 = d.butE131 := rfl

theorem Dev.unhand_regs (d : Dev) (h : Handed) : (d.unhand h).regs = d.regs := rfl

theorem exec_e131Packet {s : State} {e : Dev} (core : s.dev.domOn 1 = true) (he : s.dev.e131Taken = e) :
    exec .e131Packet s = s.done e := by
  show s.doneIn (s.dev.domOn 1) s.dev.e131Taken = _
  rw [core, he]; rfl

/-- The tenth clause of O35: a valid packet for one buffer is committed. -/
theorem e131_commit_completes (s : State) (h : Handed) (k : E131Pkt) (b : Nat) (calm : s.dev.calm = true)
    (first : s.dev.handed.find? (fun x => x.sink == .e131) = some h) (packet : e131Packet h.bytes = some k) (valid : k.valid = true)
    (bound : s.dev.e131Bufs k.universe_ = [b]) (hold : (s.dev.e131Of b).hold = false) (seq : (s.dev.e131Of b).seq = none)
    (core : s.dev.domOn 1 = true) :
    Completes (.e131Packet) s fun d =>
        d.handed = s.dev.handed.erase h ∧
        d.cueBuf b = (k.values ++ List.replicate 513 0).take 513 ∧
        d.e131Of b = { prio := k.prio, at_ := s.dev.mono, hold := !k.terminated, seq := some k.seq } ∧
        s.dev.sameRegs d ((List.range 129).map (rCUE_BUFb_DATA b)) ∧
        d = { s.dev with regs := d.regs, handed := d.handed, cue := d.cue, irqA := d.irqA, irqB := d.irqB } := by
  obtain ⟨c, hc⟩ : ∃ c, c = (s.dev.unhand h).setCueBuf b k.values := ⟨_, rfl⟩
  have cRest : c.butRegs = (s.dev.unhand h).butRegs := by rw [hc, Dev.setCueBuf_butRegs]
  have cRegs : s.dev.sameRegs c ((List.range 129).map (rCUE_BUFb_DATA b)) := by
    rw [hc]; exact ((Dev.sameRegs.refl _ _).of_regs (s.dev.unhand_regs h)).trans (Dev.setCueBuf_sameRegs _ _ _)
  have cMono : c.mono = s.dev.mono := by
    unfold Dev.mono
    rw [show c.time = s.dev.time from congrArg (·.time) cRest]
  obtain ⟨trigs, commit⟩ := Dev.e131Commit_first (d := s.dev.unhand h) (k := k) (b := b) hold seq
  rw [← hc, cMono] at commit
  obtain ⟨e, he⟩ : ∃ e, e = (s.dev.unhand h).e131Commit b k := ⟨_, rfl⟩
  rw [← he] at commit
  have eRegs : e.regs = c.regs := by rw [commit]
  have keeps : e.butE131 = s.dev.butE131 := by
    rw [commit, ← s.dev.unhand_butE131 h]
    exact congrArg (fun x : Dev => { x with handed := [], cue := { x.cue with e131 := [], trigs := [] } }) cRest
  have regs := cRegs.of_regs eRegs
  refine completes_of_sameRegs (exec_e131Packet core (by rw [he, Dev.e131Taken_one first packet valid bound])) calm regs
    (calmRegs_buf (Dev.e131Bufs_lt bound)) (congrArg (·.calmPart) keeps) ⟨?_, ?_, ?_, regs.showIrq, ?_⟩
  · show e.handed = _
    rw [commit]
    exact congrArg (·.handed) cRest
  · have buf : e.cueBuf b = c.cueBuf b := by unfold Dev.cueBuf Dev.reg; rw [eRegs]
    show e.cueBuf b = _
    rw [buf, hc, Dev.cueBuf_setCueBuf]
  · show e.e131Of b = _
    rw [commit]
    exact kget_kset_same ..
  · exact congrArg (fun x : Dev => { x with regs := e.regs, handed := e.handed, cue := e.cue, irqA := e.irqPinA, irqB := e.irqPinB }) keeps

/-- The eleventh clause of O35: a packet of a lower priority than the source held. -/
theorem e131_lower_completes (s : State) (h : Handed) (k : E131Pkt) (b : Nat) (calm : s.dev.calm = true)
    (first : s.dev.handed.find? (fun x => x.sink == .e131) = some h) (packet : e131Packet h.bytes = some k) (valid : k.valid = true)
    (bound : s.dev.e131Bufs k.universe_ = [b]) (hold : (s.dev.e131Of b).hold = true)
    (lately : s.dev.mono - (s.dev.e131Of b).at_ ≤ 2500000000 * 65536) (lower : k.prio < (s.dev.e131Of b).prio)
    (core : s.dev.domOn 1 = true) :
    Completes (.e131Packet) s fun d =>
        d.handed = s.dev.handed.erase h ∧
        (d.reg rCUE_E131_PRI_DROP_CNT).toNat = min ((s.dev.reg rCUE_E131_PRI_DROP_CNT).toNat + 1) (2 ^ 32 - 1) ∧
        s.dev.sameRegs d [rCUE_E131_PRI_DROP_CNT] ∧
        d = { s.dev with regs := d.regs, handed := d.handed, irqA := d.irqA, irqB := d.irqB } := by
  obtain ⟨e, he⟩ : ∃ e, e = (s.dev.unhand h).inc rCUE_E131_PRI_DROP_CNT := ⟨_, rfl⟩
  have drops : s.dev.e131Taken = e := by
    rw [Dev.e131Taken_one first packet valid bound, Dev.e131Commit_lower (d := s.dev.unhand h) hold lately lower, he]
  have regs : s.dev.sameRegs e [rCUE_E131_PRI_DROP_CNT] := by
    rw [he]; exact ((Dev.sameRegs.refl _ _).of_regs (s.dev.unhand_regs h)).inc (by simp)
  have rest : e.butRegs = (s.dev.unhand h).butRegs := by rw [he]; rfl
  refine completes_of_sameRegs (exec_e131Packet core drops) calm regs (by decide) (congrArg (·.calmPart) rest)
    ⟨congrArg (·.handed) rest, ?_, regs.showIrq, ?_⟩
  · rw [Dev.showIrq_reg, he, Dev.reg_inc_same, Dev.reg, s.dev.unhand_regs]; rfl
  · exact congrArg (fun x : Dev => { x with regs := e.regs, handed := e.handed, irqA := e.irqPinA, irqB := e.irqPinB }) rest

/-- Settles O35: the cue pins, the DMX ports and E1.31 input. -/
theorem pinsDmxAndE131 : Obligations.PinsDmxAndE131 :=
  ⟨cuePinDir_completes, cuePinDir_refused_completes, dmxEnable_completes, dmxEnable_refused_completes, dmxDisable_completes,
    dmxDisable_busy_completes, dmxBreak_runs_completes, dmxBreak_idle_completes, dmxBreak_disabled_completes, e131_commit_completes,
    e131_lower_completes⟩

end Sys2Proof.Machine
end

section
/-! The comparators of the cue engine (R361, R378): claimed, armed for the due times, and released. -/

namespace Sys2Proof.Machine

open Sys2Proof

variable {d e : Dev} {n t : Nat} {l : List Nat}

/-! ## Where they lie -/

/-- The status and the fire counts of comparators. -/
abbrev cueTcmpRegs (l : List Nat) : List Nat := l.flatMap fun n => [rTIME_TCMPnn_STS n, rTIME_TCMPnn_FIRE_CNT n]

/-- The owners, the status and the fire counts of comparators. -/
abbrev cueTcmpAll (l : List Nat) : List Nat := l.flatMap fun n => [rTIME_TCMPnn_OWNER n, rTIME_TCMPnn_STS n, rTIME_TCMPnn_FIRE_CNT n]

theorem map_subset_flatMap {f : Nat → Nat} {F : Nat → List Nat} (h : ∀ n, f n ∈ F n) (l : List Nat) : l.map f ⊆ l.flatMap F := fun a ha => by
  obtain ⟨n, hn, rfl⟩ := List.mem_map.mp ha
  exact List.mem_flatMap.mpr ⟨n, hn, h n⟩

theorem cueTcmpRegs_subset_all (l : List Nat) : cueTcmpRegs l ⊆ cueTcmpAll l := by
  intro a ha
  simp only [List.mem_flatMap, List.mem_cons, List.not_mem_nil, or_false] at ha ⊢
  obtain ⟨n, hn, h⟩ := ha
  exact ⟨n, hn, Or.inr h⟩

theorem Dev.mem_cueTcmps {d : Dev} : n ∈ d.cueTcmps ↔ d.get fCUE_CFG_TCMP_BASE ≤ n ∧ n < d.get fCUE_CFG_TCMP_BASE + d.get fCUE_CFG_TCMP_NUM := by
  simp only [Dev.cueTcmps, List.mem_map, List.mem_range]
  constructor
  · rintro ⟨i, hi, rfl⟩; omega
  · intro h; exact ⟨n - d.get fCUE_CFG_TCMP_BASE, by omega, by omega⟩

theorem Dev.cueTcmps_lt {d : Dev} (h : n ∈ d.cueTcmps) : n < 78 := by
  have num : d.get fCUE_CFG_TCMP_NUM < 2 ^ 4 := Nat.mod_lt _ (Nat.two_pow_pos 4)
  have base : d.get fCUE_CFG_TCMP_BASE < 2 ^ 6 := Nat.mod_lt _ (Nat.two_pow_pos 6)
  have := Dev.mem_cueTcmps.mp h
  omega

theorem Dev.cueTcmps_nodup (d : Dev) : d.cueTcmps.Nodup :=
  List.Nodup.map (fun _ _ h => Nat.add_left_cancel h) List.nodup_range

theorem Dev.cueTcmps_congr (h : e.reg rCUE_CFG = d.reg rCUE_CFG) : e.cueTcmps = d.cueTcmps := by
  have num : e.get fCUE_CFG_TCMP_NUM = d.get fCUE_CFG_TCMP_NUM := congrArg (Fld.get _) h
  have base : e.get fCUE_CFG_TCMP_BASE = d.get fCUE_CFG_TCMP_BASE := congrArg (Fld.get _) h
  unfold Dev.cueTcmps
  rw [num, base]

/-- The registers of comparators 0 to 77 lie from 0x30800 to 0x31FFF. -/
theorem cueTcmpAll_range (h : ∀ n ∈ l, n < 78) {a : Nat} (ha : a ∈ cueTcmpAll l) : 0x30800 ≤ a ∧ a < 0x32000 := by
  simp only [List.mem_flatMap, List.mem_cons, List.not_mem_nil, or_false, rTIME_TCMPnn_OWNER, rTIME_TCMPnn_STS, rTIME_TCMPnn_FIRE_CNT] at ha
  obtain ⟨n, hn, ha⟩ := ha
  have := h n hn
  omega

theorem not_mem_cueTcmpAll (h : ∀ n ∈ l, n < 78) {a : Nat} (ha : a < 0x30800 ∨ 0x32000 ≤ a) : a ∉ cueTcmpAll l := fun hm => by
  have := cueTcmpAll_range h hm
  omega

/-- A register of the cue engine is none of the comparators'. -/
theorem Dev.not_mem_cueTcmps (d : Dev) {a : Nat} (ha : a < 0x30800 ∨ 0x32000 ≤ a) : a ∉ cueTcmpAll d.cueTcmps :=
  not_mem_cueTcmpAll (fun _ => Dev.cueTcmps_lt) ha

theorem Dev.not_mem_cueTcmpRegs (d : Dev) {a : Nat} (ha : a < 0x30800 ∨ 0x32000 ≤ a) : a ∉ cueTcmpRegs d.cueTcmps := fun hm =>
  d.not_mem_cueTcmps ha (cueTcmpRegs_subset_all _ hm)

theorem calmRegs_cueTcmps (d : Dev) : ∀ a ∈ calmRegs, a ∉ cueTcmpAll d.cueTcmps := fun a ha =>
  d.not_mem_cueTcmps ((by decide : ∀ a ∈ calmRegs, a < 0x30800 ∨ 0x32000 ≤ a) a ha)

/-! ## Arming for the due times (R361) -/

/-- The device but for its registers, the hidden state of its comparators and the due times the engine keeps armed. -/
def Dev.butCueTcmp (d : Dev) : Dev := { d with regs := [], time := { d.time with tcmp := [] }, cue := { d.cue with armed := [] } }

/-- An armed comparator's fire before it is given up changes its own registers alone. -/
theorem Dev.cueLastFire_keeps {L : List Nat} (h : rTIME_TCMPnn_STS n ∈ L) (h' : rTIME_TCMPnn_FIRE_CNT n ∈ L) :
    Keeps Dev.butTcmp L d (d.cueLastFire n) := by
  unfold Dev.cueLastFire
  split
  · exact ⟨Dev.tcmpFired_butTcmp d n false, Dev.tcmpFired_sameRegs h h' false⟩
  · exact Keeps.refl ..

/-- The due time that comparator `n` is armed for noted. -/
def Dev.noteArmed (d : Dev) (n : Nat) (t : Option Word64) : Dev := { d with cue := { d.cue with armed := kset none d.cue.armed n t } }

theorem Dev.noteArmed_keeps (d : Dev) (L : List Nat) (n : Nat) (t : Option Word64) : Keeps Dev.butCueTcmp L d (d.noteArmed n t) :=
  Keeps.of_regs rfl rfl

theorem Dev.noteArmed_armTcmp_keeps {L : List Nat} (h : rTIME_TCMPnn_STS n ∈ L) (t : Word64) :
    Keeps Dev.butCueTcmp L d ((d.noteArmed n (some t)).armTcmp n 1 t 0) :=
  (d.noteArmed_keeps L n _).trans ⟨rfl, Dev.armTcmp_sameRegs h 1 t 0⟩

/-- A comparator with no due time gets the next wanted one. -/
theorem Dev.cueArm1_none (h : kget none d.cue.armed n = none) (keep w : List Word64) :
    (d.cueArm1 n keep w).2 = d ∨ ∃ t, (d.cueArm1 n keep w).2 = (d.noteArmed n (some t)).armTcmp n 1 t 0 := by
  unfold Dev.cueArm1
  rw [h]
  cases w with
  | nil => exact Or.inl rfl
  | cons t w => exact Or.inr ⟨t, rfl⟩

theorem Dev.cueArm1_keeps {L : List Nat} (h : rTIME_TCMPnn_STS n ∈ L) (h' : rTIME_TCMPnn_FIRE_CNT n ∈ L) (keep w : List Word64) :
    Keeps Dev.butCueTcmp L d (d.cueArm1 n keep w).2 := by
  have fired : Keeps Dev.butCueTcmp L d (d.cueLastFire n) :=
    (Dev.cueLastFire_keeps h h').part fun x : Dev => { x with cue := { x.cue with armed := [] } }
  cases armed : kget none d.cue.armed n with
  | none =>
    obtain same | ⟨t, arms⟩ := Dev.cueArm1_none armed keep w
    · rw [same]; exact Keeps.refl ..
    · rw [arms]; exact Dev.noteArmed_armTcmp_keeps h t
  | some t =>
    unfold Dev.cueArm1
    rw [armed]
    dsimp only
    split
    · exact Keeps.refl ..
    · cases w with
      | nil =>
        have disarmed := fired.trans (Dev.noteArmed_keeps (d.cueLastFire n) L n none)
        exact ⟨disarmed.rest, disarmed.regs.putB (f := fTIME_TCMPnn_STS_ARMED n) h false⟩
      | cons t' w => exact fired.trans (Dev.noteArmed_armTcmp_keeps h t')

/-- Bringing the comparators to the due times changes nothing but their status and what is kept armed. -/
theorem Dev.cueArm_keeps (d : Dev) : Keeps Dev.butCueTcmp (cueTcmpRegs d.cueTcmps) d d.cueArm := by
  unfold Dev.cueArm
  split
  · refine List.foldlRecOn (motive := fun wd : List Word64 × Dev => Keeps Dev.butCueTcmp (cueTcmpRegs d.cueTcmps) d wd.2) _ _
      (Keeps.refl ..) ?_
    rintro ⟨w, c⟩ hc n hn
    have listed : ∀ a ∈ [rTIME_TCMPnn_STS n, rTIME_TCMPnn_FIRE_CNT n], a ∈ cueTcmpRegs d.cueTcmps := fun a ha =>
      List.mem_flatMap.mpr ⟨n, hn, ha⟩
    exact hc.trans (Dev.cueArm1_keeps (listed _ (by simp)) (listed _ (by simp)) _ w)
  · exact Keeps.refl ..

/-- With nothing armed before, no comparator fires while they are armed. -/
theorem Dev.cueArm_fresh_keeps (h : d.cue.armed = []) : Keeps Dev.butCueTcmp (d.cueTcmps.map rTIME_TCMPnn_STS) d d.cueArm := by
  have fold : ∀ (l : List Nat) (keep : List Word64) (wd : List Word64 × Dev), l.Nodup → (∀ n ∈ l, kget none wd.2.cue.armed n = none) →
      Keeps Dev.butCueTcmp (l.map rTIME_TCMPnn_STS) wd.2 (l.foldl (fun (wd : List Word64 × Dev) n => wd.2.cueArm1 n keep wd.1) wd).2 := by
    intro l keep
    induction l with
    | nil => exact fun _ _ _ => Keeps.refl ..
    | cons n l ih =>
      rintro ⟨w, c⟩ hl none
      obtain ⟨hn, hl⟩ := List.nodup_cons.mp hl
      have step := Dev.cueArm1_none (none n List.mem_cons_self) keep w
      have one : Keeps Dev.butCueTcmp (rTIME_TCMPnn_STS n :: l.map rTIME_TCMPnn_STS) c (c.cueArm1 n keep w).2 := by
        obtain same | ⟨t, arms⟩ := step
        · rw [same]; exact Keeps.refl ..
        · rw [arms]; exact Dev.noteArmed_armTcmp_keeps List.mem_cons_self t
      refine one.trans ((ih _ hl fun m hm => ?_).mono (List.subset_cons_self ..))
      have other : kget Option.none (c.cueArm1 n keep w).2.cue.armed m = kget Option.none c.cue.armed m := by
        obtain same | ⟨t, arms⟩ := step
        · rw [same]
        · rw [arms]
          exact kget_kset_ne Option.none c.cue.armed (some t) (ne_of_mem_of_not_mem hm hn).symm
      rw [other]
      exact none m (List.mem_cons_of_mem n hm)
  unfold Dev.cueArm
  split
  · dsimp only
    exact fold d.cueTcmps _ (_, d) d.cueTcmps_nodup fun n _ => (congrArg (kget Option.none · n) h).trans rfl
  · exact Keeps.refl ..

/-! ## Claims of the engine (R378) -/

/-- The engine's claim is granted, of a comparator that is free or its own; or it is refused, and the conflict is kept. -/
theorem Dev.claimTcmp_cue (d : Dev) (n : Nat) :
    (d.claimTcmp n 0x20 = (true, d.put (fTIME_TCMPnn_OWNER_OWNER n) 0x20) ∧
      (d.get (fTIME_TCMPnn_OWNER_OWNER n) = 0 ∨ d.get (fTIME_TCMPnn_OWNER_OWNER n) = 0x20)) ∨
    (∃ c, d.claimTcmp n 0x20 = (false, c) ∧ Keeps Dev.butRegs [rTIME_TCMP_CONFLICT] d c) := by
  unfold Dev.claimTcmp
  dsimp only
  split
  · rename_i granted
    refine Or.inl ⟨rfl, ?_⟩
    simp only [bne_iff_ne, ne_eq, Bool.or_eq_true, Bool.and_eq_true, beq_iff_eq, Nat.reduceDiv, Nat.reduceEqDiff, and_false, or_false] at granted
    exact granted.elim (fun own => Or.inr own.2) fun free => Or.inl free.1
  · refine Or.inr ⟨_, rfl, ?_, ?_⟩
    · rw [Dev.count_butRegs, Dev.capture_butRegs]
    · exact ((Dev.sameRegs.refl d _).capture (v := fTIME_TCMP_CONFLICT_VALID) (by decide) (by
        simp [fTIME_TCMP_CONFLICT_TCMP, fTIME_TCMP_CONFLICT_HOLDER, fTIME_TCMP_CONFLICT_REFUSED, rTIME_TCMP_CONFLICT])).count
          (f := fTIME_TCMP_CONFLICT_COUNT) (by decide) 1

theorem Dev.claimTcmps_cons (d : Dev) (n : Nat) (l : List Nat) :
    d.claimTcmps (n :: l) = if (d.claimTcmp n 0x20).1 then (d.claimTcmp n 0x20).2.claimTcmps l else (false, (d.claimTcmp n 0x20).2) := rfl

theorem rTIME_TCMPnn_OWNER_inj {m : Nat} (h : rTIME_TCMPnn_OWNER n = rTIME_TCMPnn_OWNER m) : n = m := by
  simp only [rTIME_TCMPnn_OWNER] at h; omega

theorem Dev.tcmpPrio_congr (h : e.get (fTIME_TCMPnn_OWNER_PRIO n) = d.get (fTIME_TCMPnn_OWNER_PRIO n)) : e.tcmpPrio n = d.tcmpPrio n := by
  unfold Dev.tcmpPrio; rw [h]

theorem Dev.get_owner_putTcmp (d : Dev) (n : Nat) : (d.put (fTIME_TCMPnn_OWNER_OWNER n) 0x20).get (fTIME_TCMPnn_OWNER_OWNER n) = 0x20 :=
  d.get_put_same _ _ (fTIME_TCMPnn_OWNER_ok n)

theorem Dev.putOwner_keeps {L : List Nat} (h : rTIME_TCMPnn_OWNER n ∈ L) (x : Nat) :
    Keeps Dev.butRegs L d (d.put (fTIME_TCMPnn_OWNER_OWNER n) x) := ⟨rfl, (Dev.sameRegs.refl d L).put (f := fTIME_TCMPnn_OWNER_OWNER n) h x⟩

/-- Comparators that are free and not reserved are all granted. -/
theorem Dev.claimTcmps_granted (hl : l.Nodup) (free : ∀ n ∈ l, d.get (fTIME_TCMPnn_OWNER_OWNER n) = 0 ∧ d.tcmpPrio n = 0) :
    ∃ e, d.claimTcmps l = (true, e) ∧ Keeps Dev.butRegs (l.map rTIME_TCMPnn_OWNER) d e ∧
      ∀ n ∈ l, e.get (fTIME_TCMPnn_OWNER_OWNER n) = 0x20 := by
  induction l generalizing d with
  | nil => exact ⟨d, rfl, Keeps.refl .., by simp⟩
  | cons n l ih =>
    obtain ⟨hn, hl⟩ := List.nodup_cons.mp hl
    obtain ⟨owner, prio⟩ := free n List.mem_cons_self
    obtain ⟨c, hc⟩ : ∃ c, c = d.put (fTIME_TCMPnn_OWNER_OWNER n) 0x20 := ⟨_, rfl⟩
    have first : Keeps Dev.butRegs [rTIME_TCMPnn_OWNER n] d c := by rw [hc]; exact Dev.putOwner_keeps List.mem_cons_self _
    have apart : ∀ m ∈ l, rTIME_TCMPnn_OWNER m ∉ [rTIME_TCMPnn_OWNER n] := fun m hm h =>
      hn (rTIME_TCMPnn_OWNER_inj (List.mem_singleton.mp h) ▸ hm)
    obtain ⟨e, rest, keeps, owned⟩ := ih (d := c) hl fun m hm => by
      obtain ⟨owner, prio⟩ := free m (List.mem_cons_of_mem n hm)
      exact ⟨(first.regs.get (f := fTIME_TCMPnn_OWNER_OWNER m) (apart m hm)).trans owner,
        (Dev.tcmpPrio_congr (first.regs.get (f := fTIME_TCMPnn_OWNER_PRIO m) (apart m hm))).trans prio⟩
    refine ⟨e, ?_, (first.mono (by simp)).trans (keeps.mono (by simp)), ?_⟩
    · rw [Dev.claimTcmps_cons, Dev.claimTcmp_free owner prio]
      exact (if_pos rfl).trans (hc ▸ rest)
    · intro m hm
      obtain rfl | hm := List.mem_cons.mp hm
      · have : rTIME_TCMPnn_OWNER m ∉ l.map rTIME_TCMPnn_OWNER := fun h => by
          obtain ⟨k, hk, hkm⟩ := List.mem_map.mp h
          exact hn (rTIME_TCMPnn_OWNER_inj hkm ▸ hk)
        rw [keeps.regs.get (f := fTIME_TCMPnn_OWNER_OWNER m) this, hc, Dev.get_owner_putTcmp]
      · exact owned m hm

/-- One comparator that another function holds, and the claims stop at a refusal; it stays as it was. -/
theorem Dev.claimTcmps_refused (ht : t ∈ l) (ht78 : t < 78) (held : d.get (fTIME_TCMPnn_OWNER_OWNER t) ≠ 0) (foreign : d.get (fTIME_TCMPnn_OWNER_OWNER t) ≠ 0x20) :
    ∃ e, d.claimTcmps l = (false, e) ∧ Keeps Dev.butRegs (rTIME_TCMP_CONFLICT :: l.map rTIME_TCMPnn_OWNER) d e ∧
      e.get (fTIME_TCMPnn_OWNER_OWNER t) = d.get (fTIME_TCMPnn_OWNER_OWNER t) := by
  induction l generalizing d with
  | nil => cases ht
  | cons n l ih =>
    rw [Dev.claimTcmps_cons]
    obtain ⟨granted, own⟩ | ⟨c, refused, conflict⟩ := d.claimTcmp_cue n
    · have ne : n ≠ t := fun h => own.elim (fun h0 => held (h ▸ h0)) fun h0 => foreign (h ▸ h0)
      obtain ⟨c, hc⟩ : ∃ c, c = d.put (fTIME_TCMPnn_OWNER_OWNER n) 0x20 := ⟨_, rfl⟩
      have first : Keeps Dev.butRegs [rTIME_TCMPnn_OWNER n] d c := by rw [hc]; exact Dev.putOwner_keeps List.mem_cons_self _
      have owner : c.get (fTIME_TCMPnn_OWNER_OWNER t) = d.get (fTIME_TCMPnn_OWNER_OWNER t) :=
        first.regs.get (f := fTIME_TCMPnn_OWNER_OWNER t) fun h => ne (rTIME_TCMPnn_OWNER_inj (List.mem_singleton.mp h)).symm
      rw [granted, if_pos rfl, ← hc]
      obtain ⟨e, rest, keeps, kept⟩ := ih (d := c) ((List.mem_cons.mp ht).resolve_left ne.symm) (by rwa [owner]) (by rwa [owner])
      exact ⟨e, rest, (first.mono (by simp)).trans (keeps.mono (by simp)), kept.trans owner⟩
    · rw [refused, if_neg (by simp)]
      refine ⟨c, rfl, conflict.mono (by simp), conflict.regs.get (f := fTIME_TCMPnn_OWNER_OWNER t) ?_⟩
      simp only [fTIME_TCMPnn_OWNER_OWNER, rTIME_TCMP_CONFLICT, List.mem_singleton]
      omega

/-! ## Release (R378) -/

/-- The release of one comparator, if the engine holds it. -/
def Dev.cueRelease1 (d : Dev) (n : Nat) : Dev :=
  if d.get (fTIME_TCMPnn_OWNER_OWNER n) = 0x20 then (d.cueLastFire n).releaseTcmp n else d

theorem Dev.cueRelease1_keeps (d : Dev) (n : Nat) :
    Keeps Dev.butTcmp [rTIME_TCMPnn_OWNER n, rTIME_TCMPnn_STS n, rTIME_TCMPnn_FIRE_CNT n] d (d.cueRelease1 n) := by
  unfold Dev.cueRelease1
  split
  · exact (Dev.cueLastFire_keeps (by simp) (by simp)).trans ⟨Dev.releaseTcmp_butTcmp _ n, Dev.releaseTcmp_sameRegs (by simp) (by simp)⟩
  · exact Keeps.refl ..

theorem Dev.cueRelease_keeps (d : Dev) (l : List Nat) : Keeps Dev.butTcmp (cueTcmpAll l) d (d.cueRelease l) :=
  Keeps.foldl Dev.cueRelease1 l (fun n hn c => (c.cueRelease1_keeps n).mono fun _ ha => List.mem_flatMap.mpr ⟨n, hn, ha⟩) d

/-- The release of a comparator leaves the owners of the others. -/
theorem Dev.cueRelease1_owner_ne (d : Dev) (hn : n ≠ t) (ht : t < 78) :
    (d.cueRelease1 n).get (fTIME_TCMPnn_OWNER_OWNER t) = d.get (fTIME_TCMPnn_OWNER_OWNER t) :=
  (d.cueRelease1_keeps n).regs.get (f := fTIME_TCMPnn_OWNER_OWNER t) (by
    simp [fTIME_TCMPnn_OWNER_OWNER, rTIME_TCMPnn_OWNER, rTIME_TCMPnn_STS, rTIME_TCMPnn_FIRE_CNT]; omega)

theorem Dev.cueRelease1_owner (d : Dev) (n : Nat) : (d.cueRelease1 n).get (fTIME_TCMPnn_OWNER_OWNER n) ≠ 0x20 := by
  unfold Dev.cueRelease1
  split
  · rw [Dev.releaseTcmp_owner]; decide
  · assumption

/-- None of the comparators released is the engine's any more. -/
theorem Dev.cueRelease_owner (d : Dev) (hl : l.Nodup) (ht : t ∈ l) (ht78 : t < 78) : (d.cueRelease l).get (fTIME_TCMPnn_OWNER_OWNER t) ≠ 0x20 :=
  foldl_reaches (fun _ => True) (fun c => c.get (fTIME_TCMPnn_OWNER_OWNER t) ≠ 0x20) Dev.cueRelease1 ht hl (fun _ _ _ _ _ => trivial)
    (fun c _ => c.cueRelease1_owner t) (fun n _ hn c hc => by rwa [c.cueRelease1_owner_ne hn ht78]) trivial

/-- A comparator that another function holds keeps its owner. -/
theorem Dev.cueRelease_foreign (d : Dev) (l : List Nat) (ht : t < 78) (foreign : d.get (fTIME_TCMPnn_OWNER_OWNER t) ≠ 0x20) :
    (d.cueRelease l).get (fTIME_TCMPnn_OWNER_OWNER t) = d.get (fTIME_TCMPnn_OWNER_OWNER t) := by
  refine List.foldlRecOn (motive := fun c : Dev => c.get (fTIME_TCMPnn_OWNER_OWNER t) = d.get (fTIME_TCMPnn_OWNER_OWNER t)) l
    Dev.cueRelease1 rfl ?_
  intro c hc n _
  by_cases hn : n = t
  · subst hn
    rw [Dev.cueRelease1, if_neg (hc ▸ foreign), hc]
  · rw [c.cueRelease1_owner_ne hn ht, hc]

end Sys2Proof.Machine
end

section
/-! Enabling and disabling the cue engine (R378). -/

namespace Sys2Proof.Machine

open Sys2Proof

variable {d c e : Dev}

/-! ## The write of CUE_CFG -/

/-- The row of CUE_CFG in the register summary. -/
def cueCfgRow : RegDesc := { base := 0x120000, wr := 0x80000F3F, dcls := 0xF3F, own := some ⟨0x120000, 31, 1⟩ }

theorem regAt_cueCfg : regAt rCUE_CFG = some (cueCfgRow, 0, 0) := rfl

/-- A write of CUE_CFG that passes the checks reaches the store. -/
theorem Dev.busWrite_cueCfg {p : Port} {v : Word} (takes : d.takes p rCUE_CFG) (m : Meets) :
    d.busWrite m p rCUE_CFG .b32 v = (d.answer p []).regStore m p rCUE_CFG v cueCfgRow 0 := by
  rw [Dev.busWrite_reg takes (by decide) (by decide), Dev.regWrite_plain regAt_cueCfg (by decide) fun h => absurd h (by decide)]

/-- The class D bits of CUE_CFG belong to EN. -/
theorem Dev.owned_cueCfg (d : Dev) : d.owned cueCfgRow 0 = d.on fCUE_CFG_EN := rfl

theorem Dev.writeEffect_cueCfg (d : Dev) (m : Meets) (old v cmd : Word) :
    d.writeEffect m rCUE_CFG 0 old v cmd = d.atEdgeOld fCUE_CFG_EN old Dev.cueEnable Dev.cueDisable := rfl

/-- CUE_CFG with the bits of `take` stored, EN as it was. -/
def Dev.cueStored (d : Dev) (take v : Word) : Dev :=
  (d.setReg rCUE_CFG (merged take (d.reg rCUE_CFG) v)).put fCUE_CFG_EN (d.get fCUE_CFG_EN)

theorem Dev.cueStored_sameRegs (d : Dev) (take v : Word) : d.sameRegs (d.cueStored take v) [rCUE_CFG] :=
  ((Dev.sameRegs.refl d _).setReg (by simp) _).put (f := fCUE_CFG_EN) (by decide) _

theorem Dev.cueStored_butRegs (d : Dev) (take v : Word) : (d.cueStored take v).butRegs = d.butRegs := rfl

theorem Dev.cueStored_get (d : Dev) (take v : Word) {f : Fld} (ha : f.addr = rCUE_CFG) (hf : fCUE_CFG_EN.apart f) :
    (d.cueStored take v).get f = f.get (merged take (d.reg rCUE_CFG) v) := by
  rw [Dev.cueStored, Dev.get_put_apart _ fCUE_CFG_EN f _ (by decide : 31 + 1 ≤ 32) hf, Dev.get_setReg, if_pos ha.symm]

/-- EN written 1 while the engine is disabled. -/
theorem Dev.busWrite_cueEnable {p : Port} {v : Word} (takes : d.takes p rCUE_CFG) (off : d.on fCUE_CFG_EN = false)
    (en : fCUE_CFG_EN.get v = 1) (m : Meets) :
    d.busWrite m p rCUE_CFG .b32 v = ((d.answer p []).cueStored (w32 0x80000F3F) v).cueEnable := by
  have old : fCUE_CFG_EN.get ((d.answer p []).reg rCUE_CFG) = 0 := bne_eq_false_iff_eq.mp off
  have mask : writeMask cueCfgRow v = w32 0x80000F3F := rfl
  have rise := Dev.atEdgeOld_rise (f := fCUE_CFG_EN) (take := w32 0x80000F3F) (d.answer p []) (by decide) old en Dev.cueEnable Dev.cueDisable
  rw [Dev.busWrite_cueCfg takes, Dev.regStore_free (by rw [Dev.owned_cueCfg]; exact off), Dev.writeEffect_cueCfg, mask]
  exact rise

/-- EN written 0 while the engine is enabled: the write may be recorded, and the class D bits are kept. -/
theorem Dev.busWrite_cueDisable {p : Port} {v : Word} (takes : d.takes p rCUE_CFG) (on : d.on fCUE_CFG_EN = true)
    (dis : fCUE_CFG_EN.get v = 0) (m : Meets) :
    ∃ c, (c = d.answer p [] ∨ c = (d.answer p []).record p rCUE_CFG 14 0) ∧
      d.busWrite m p rCUE_CFG .b32 v = (c.cueStored (w32 0x80000000) v).cueDisable := by
  obtain ⟨c, hc, stored⟩ := Dev.regStore_owned (d := d.answer p []) (m := m) (p := p) (a := rCUE_CFG) (v := v) (r := cueCfgRow) (i := 0) on
  have cfg : c.reg rCUE_CFG = d.reg rCUE_CFG := by
    obtain rfl | rfl := hc
    · rfl
    · exact Dev.record_sameRegs _ p _ _ _ (L := [rGLB_IGN_CNT, rGLB_IGN_OVF_CNT]) (by simp) (by simp) _ (by decide)
  refine ⟨c, hc, ?_⟩
  have old : fCUE_CFG_EN.get (c.reg rCUE_CFG) ≠ 0 := by
    rw [cfg]
    exact bne_iff_ne.mp on
  have take : writeMask cueCfgRow v &&& ~~~w32 cueCfgRow.dcls = w32 0x80000000 := by
    show w32 0x80000F3F &&& ~~~w32 0xF3F = w32 0x80000000
    decide
  rw [Dev.busWrite_cueCfg takes, stored, Dev.writeEffect_cueCfg, take, show (d.answer p []).reg rCUE_CFG = c.reg rCUE_CFG from cfg.symm]
  exact Dev.atEdgeOld_fall (f := fCUE_CFG_EN) (take := w32 0x80000000) c (by decide) old dis Dev.cueEnable Dev.cueDisable

/-! ## What an enable does -/

/-- A refused enable: EN falls, and the refusal is shown under its code and counted. -/
def Dev.cueRefuse (d : Dev) (code : Nat) : Dev :=
  (((d.putB fCUE_CFG_EN false).putB fCUE_STS_CFG_ERR true).put fCUE_STS_ERR_CODE code).inc rCUE_REFUSE_CNT

theorem Dev.cueRefuse_keeps (d : Dev) (code : Nat) : Keeps Dev.butRegs [rCUE_CFG, rCUE_STS, rCUE_REFUSE_CNT] d (d.cueRefuse code) :=
  ⟨rfl, ((((Dev.sameRegs.refl d _).putB (f := fCUE_CFG_EN) (by decide) false).putB (f := fCUE_STS_CFG_ERR) (by decide) true).put
    (f := fCUE_STS_ERR_CODE) (by decide) code).inc (by decide)⟩

/-- What a refused enable shows. -/
theorem Dev.cueRefuse_shows (d : Dev) {code : Nat} (h : code < 16) :
    (d.cueRefuse code).on fCUE_CFG_EN = false ∧ (d.cueRefuse code).on fCUE_STS_CFG_ERR = true ∧
    (d.cueRefuse code).get fCUE_STS_ERR_CODE = code ∧
    ((d.cueRefuse code).reg rCUE_REFUSE_CNT).toNat = min ((d.reg rCUE_REFUSE_CNT).toNat + 1) (2 ^ 32 - 1) := by
  have counted : ∀ (x : Dev) (f : Fld), f.addr ≠ rCUE_REFUSE_CNT → (x.inc rCUE_REFUSE_CNT).get f = x.get f := fun x f hf =>
    congrArg f.get (x.reg_inc_ne rCUE_REFUSE_CNT f.addr hf.symm)
  have on : ∀ (x : Dev) (f : Fld), f.addr ≠ rCUE_REFUSE_CNT → (x.inc rCUE_REFUSE_CNT).on f = x.on f := fun x f hf =>
    congrArg (· != 0) (counted x f hf)
  unfold Dev.cueRefuse
  refine ⟨?_, ?_, ?_, ?_⟩
  · rw [on _ _ (by decide), Dev.on_put_addr (f := fCUE_STS_ERR_CODE) _ _ (by decide), Dev.putB,
      Dev.on_put_addr (f := fCUE_STS_CFG_ERR) _ _ (by decide), Dev.on_putB_same (f := fCUE_CFG_EN) _ (by decide : 31 + 1 ≤ 32) rfl]
  · rw [on _ _ (by decide), Dev.on_put_apart (f := fCUE_STS_ERR_CODE) _ _ (by decide : 28 + 4 ≤ 32) (Or.inr (by decide : 27 + 1 ≤ 28)),
      Dev.on_putB_same (f := fCUE_STS_CFG_ERR) _ (by decide : 27 + 1 ≤ 32) rfl]
  · rw [counted _ _ (by decide), Dev.get_put_same _ fCUE_STS_ERR_CODE _ (by decide : 28 + 4 ≤ 32)]
    exact Nat.mod_eq_of_lt h
  · rw [Dev.reg_inc_same, Dev.reg_put_ne (f := fCUE_STS_ERR_CODE) _ _ (by decide), Dev.putB,
      Dev.reg_put_ne (f := fCUE_STS_CFG_ERR) _ _ (by decide), Dev.putB, Dev.reg_put_ne (f := fCUE_CFG_EN) _ _ (by decide)]

/-- The time cues, PENDING at their targets. -/
def Dev.startedCues (d : Dev) : KMap CueSt := ((List.range 4096).filter fun c => d.cueHas c 1).map fun c => (c, d.cueStart c)

/-- The engine as an enable starts it: its time cues PENDING, nothing waiting, nothing armed. -/
def Dev.cueStarted (d : Dev) : Dev :=
  { d with cue := { d.cue with
    cues := d.startedCues, trigs := [], armed := [] } }

/-- The registers as an enable sets them. -/
def Dev.cueEnabled (d : Dev) : Dev :=
  (d.putB fCUE_CFG_EN true).puts [(fCUE_STS_RUN, 1), (fCUE_STS_CFG_ERR, 0), (fCUE_STS_ERR_CODE, 0)]

theorem Dev.cueEnable_bad (h : d.get fCUE_CFG_TCMP_NUM = 0 ∨ 8 < d.get fCUE_CFG_TCMP_NUM ∨
    64 < d.get fCUE_CFG_TCMP_BASE + d.get fCUE_CFG_TCMP_NUM) : d.cueEnable = d.cueRefuse 1 := if_pos h

theorem Dev.cueEnable_refused (h : ¬(d.get fCUE_CFG_TCMP_NUM = 0 ∨ 8 < d.get fCUE_CFG_TCMP_NUM ∨
    64 < d.get fCUE_CFG_TCMP_BASE + d.get fCUE_CFG_TCMP_NUM)) (claims : d.claimTcmps d.cueTcmps = (false, c)) :
    d.cueEnable = (c.cueRelease d.cueTcmps).cueRefuse 2 := by
  simp only [Dev.cueEnable, if_neg h, claims, Bool.false_eq_true, if_false]
  rfl

theorem Dev.cueReads_sound (h : d.sound = true) (c : Nat) : d.cueReads c = d := Dev.tblReads_sound h ..

theorem Dev.cueBad_sound (h : d.sound = true) (c : Nat) : d.cueBad c = false := Dev.tblBad_sound h ..

theorem Dev.cueStart_sound (h : d.sound = true) (i : Nat) :
    d.cueStart i = if d.cueHas i 1 then { state := 1, due := d.cueTarget i } else {} := by
  simp only [Dev.cueStart, Dev.cueBad_sound h, Bool.not_false, Bool.and_true]

/-- With no error in any array the engine starts each time cue. -/
theorem Dev.cueEnable_granted (h : ¬(d.get fCUE_CFG_TCMP_NUM = 0 ∨ 8 < d.get fCUE_CFG_TCMP_NUM ∨
    64 < d.get fCUE_CFG_TCMP_BASE + d.get fCUE_CFG_TCMP_NUM)) (claims : d.claimTcmps d.cueTcmps = (true, c))
    (sound : c.cueEnabled.sound = true) : d.cueEnable = c.cueEnabled.cueStarted.cueArm := by
  have reads : ∀ l : List Nat, l.foldl (fun d c => d.cueReads c) c.cueEnabled = c.cueEnabled := by
    intro l
    induction l with
    | nil => rfl
    | cons x l ih => rw [List.foldl_cons, Dev.cueReads_sound sound, ih]
  simp only [Dev.cueEnable, if_neg h, claims, if_true]
  rw [← Dev.cueEnabled, reads]
  simp only [Dev.cueBad_sound sound, Bool.not_false, List.filter_true]
  rfl

theorem kget_map_key {α : Type} (z : α) (f : Nat → α) (l : List Nat) (i : Nat) :
    kget z (l.map fun c => (c, f c)) i = if i ∈ l then f i else z := by
  induction l with
  | nil => rfl
  | cons c l ih =>
    rw [List.map_cons, kget, ih]
    by_cases h : i = c
    · subst h; simp
    · simp [h]

theorem Dev.cueStarted_cues (d : Dev) : d.cueStarted.cue.cues = d.startedCues := by rw [Dev.cueStarted]

/-- Each cue right after an enable. -/
theorem Dev.cueStarted_cueSt (d : Dev) (sound : d.sound = true) {i : Nat} (hi : i < 4096) :
    d.cueStarted.cueSt i = if d.cueHas i 1 then { state := 1, due := d.cueTarget i } else {} := by
  have listed : i ∈ (List.range 4096).filter (fun c => d.cueHas c 1) ↔ d.cueHas i 1 = true := by
    rw [List.mem_filter, List.mem_range]; exact and_iff_right hi
  unfold Dev.cueSt
  rw [Dev.cueStarted_cues, Dev.startedCues, kget_map_key]
  simp only [listed, Dev.cueStart_sound sound]
  split <;> rfl

/-! ## The three ends of an enable -/

theorem Dev.cueTcmps_of_get (num : e.get fCUE_CFG_TCMP_NUM = d.get fCUE_CFG_TCMP_NUM) (base : e.get fCUE_CFG_TCMP_BASE = d.get fCUE_CFG_TCMP_BASE) :
    e.cueTcmps = d.cueTcmps := by
  unfold Dev.cueTcmps
  rw [num, base]

theorem Dev.domOn_congr {L : List Nat} (h : d.sameRegs e L) {k : Nat} (hk : rPWR_DOMk_STS k ∉ L) : e.domOn k = d.domOn k := by
  unfold Dev.domOn Dev.domState Dev.domSeq
  rw [h.get (f := fPWR_DOMk_STS_STATE k) hk, h.on (f := fPWR_DOMk_STS_SEQ k) hk]

/-- The registers of the cue engine are reached while CORE is ON (R440). -/
theorem Dev.takes_cueCfg {p : Port} (h : d.takes p rCUE_CFG) : d.domOn 1 = true := by
  have reached : d.placeReached p rCUE_CFG = true := by
    by_contra away
    rw [Dev.takes, Dev.accCheck, if_neg (by decide), if_neg (by decide), if_pos (by simpa using away)] at h
    cases h
  have place : d.place p rCUE_CFG = .reg := rfl
  have reaches : d.reaches (rCUE_CFG / 4 * 4) = d.domOn 1 := rfl
  unfold Dev.placeReached at reached
  rw [place] at reached
  split at reached
  · cases reached
  · rw [← reaches]; exact reached

/-- What the store of CUE_CFG leaves, before EN acts. -/
structure CueWritten (d c : Dev) (p : Port) (v : Word) : Prop where
  kept : Keeps Dev.butRegsPorts [rCUE_CFG] d c
  code : (c.port p).code = 0
  num : c.get fCUE_CFG_TCMP_NUM = fCUE_CFG_TCMP_NUM.get v
  base : c.get fCUE_CFG_TCMP_BASE = fCUE_CFG_TCMP_BASE.get v

/-- CUE_ENABLE stores CUE_CFG and enables the engine. -/
theorem exec_cueEnable {s : State} {p : Port} {v : Word} (takes : s.dev.takes p rCUE_CFG) (off : s.dev.on fCUE_CFG_EN = false) :
    ∃ c, CueWritten s.dev c p v ∧ exec (.cueEnable p v) s = s.done c.cueEnable := by
  have en : fCUE_CFG_EN.get (fCUE_CFG_EN.put v 1) = 1 := Fld.get_put fCUE_CFG_EN (by decide : 31 + 1 ≤ 32) v 1
  have stored : ∀ f : Fld, f.addr = rCUE_CFG → fCUE_CFG_EN.apart f → f.within (w32 0x80000F3F) = true →
      ((s.dev.answer p []).cueStored (w32 0x80000F3F) (fCUE_CFG_EN.put v 1)).get f = f.get v := fun f ha apart within => by
    rw [Dev.cueStored_get _ _ _ ha apart, Fld.get_merged_within within, Fld.get_put_apart fCUE_CFG_EN f (by decide : 31 + 1 ≤ 32) apart]
  refine ⟨(s.dev.answer p []).cueStored (w32 0x80000F3F) (fCUE_CFG_EN.put v 1), ⟨⟨rfl, Dev.cueStored_sameRegs _ _ _⟩, ?_, ?_, ?_⟩, ?_⟩
  · exact (congrArg PortSt.code (Dev.port_congr rfl p)).trans (s.dev.answer_code p [])
  · exact stored _ rfl (Or.inr (by decide)) (by decide)
  · exact stored _ rfl (Or.inr (by decide)) (by decide)
  · show s.done (s.dev.busWrite {} p rCUE_CFG .b32 (fCUE_CFG_EN.put v 1)) = _
    rw [Dev.busWrite_cueEnable takes off en]

/-- A comparator number of the engine's range. -/
theorem CueWritten.mem_cueTcmps {p : Port} {v : Word} (w : CueWritten d c p v) {t : Nat} :
    t ∈ c.cueTcmps ↔ fCUE_CFG_TCMP_BASE.get v ≤ t ∧ t < fCUE_CFG_TCMP_BASE.get v + fCUE_CFG_TCMP_NUM.get v := by
  rw [Dev.mem_cueTcmps, w.num, w.base]

theorem CueWritten.cueTcmps {p : Port} {v : Word} (w : CueWritten d c p v) :
    c.cueTcmps = (List.range (fCUE_CFG_TCMP_NUM.get v)).map (fCUE_CFG_TCMP_BASE.get v + ·) := by
  rw [Dev.cueTcmps, w.num, w.base]

/-- A bad count or range is refused (R378). -/
theorem cueEnable_bad_completes (s : State) (p : Port) (v : Word) (b k : Nat) (calm : s.dev.calm = true) (takes : s.dev.takes p rCUE_CFG)
    (off : s.dev.on fCUE_CFG_EN = false) (hb : b = fCUE_CFG_TCMP_BASE.get v) (hk : k = fCUE_CFG_TCMP_NUM.get v)
    (bad : k = 0 ∨ 8 < k ∨ 64 < b + k) :
    Completes (.cueEnable p v) s fun d =>
        d.on fCUE_CFG_EN = false ∧
        d.on fCUE_STS_CFG_ERR = true ∧
        d.get fCUE_STS_ERR_CODE = 1 ∧
        (d.reg rCUE_REFUSE_CNT).toNat = min ((s.dev.reg rCUE_REFUSE_CNT).toNat + 1) (2 ^ 32 - 1) ∧
        (d.port p).code = 0 ∧
        s.dev.sameRegs d [rCUE_CFG, rCUE_STS, rCUE_REFUSE_CNT] ∧
        d = { s.dev with regs := d.regs, ports := d.ports, irqA := d.irqA, irqB := d.irqB } := by
  obtain ⟨c, w, hx⟩ := exec_cueEnable (v := v) takes off
  obtain ⟨e, he⟩ : ∃ e, e = c.cueRefuse 1 := ⟨_, rfl⟩
  rw [Dev.cueEnable_bad (by rw [w.num, w.base, ← hb, ← hk]; exact bad), ← he] at hx
  have refuses := c.cueRefuse_keeps 1
  have shows := c.cueRefuse_shows (code := 1) (by decide)
  rw [← he] at refuses shows
  obtain ⟨en, err, code, count⟩ := shows
  have keeps : Keeps Dev.butRegsPorts [rCUE_CFG, rCUE_STS, rCUE_REFUSE_CNT] s.dev e :=
    (w.kept.mono (by simp)).trans (refuses.part fun x : Dev => { x with ports := [] })
  refine completes_of_sameRegs hx calm keeps.regs (by decide) (congrArg (·.calmPart) keeps.rest) ⟨en, err, code, ?_, ?_, keeps.regs.showIrq, ?_⟩
  · rw [Dev.showIrq_reg, count, w.kept.regs _ (by decide)]
  · rw [Dev.showIrq_port, Dev.port_congr (congrArg (·.ports) refuses.rest : e.ports = c.ports), w.code]
  · exact congrArg (fun x : Dev => { x with regs := e.regs, ports := e.ports, irqA := e.irqPinA, irqB := e.irqPinB }) keeps.rest

/-- A comparator that another function holds: the enable is refused, and what was claimed is given up (R378). -/
theorem cueEnable_refused_completes (s : State) (p : Port) (v : Word) (b k t : Nat) (calm : s.dev.calm = true)
    (takes : s.dev.takes p rCUE_CFG) (off : s.dev.on fCUE_CFG_EN = false) (hb : b = fCUE_CFG_TCMP_BASE.get v)
    (hk : k = fCUE_CFG_TCMP_NUM.get v) (h1 : 1 ≤ k) (h8 : k ≤ 8) (h64 : b + k ≤ 64) (hbt : b ≤ t) (htk : t < b + k)
    (held : s.dev.get (fTIME_TCMPnn_OWNER_OWNER t) ≠ 0) (foreign : s.dev.get (fTIME_TCMPnn_OWNER_OWNER t) ≠ 0x20) :
    Completes (.cueEnable p v) s fun d =>
        d.on fCUE_CFG_EN = false ∧
        d.on fCUE_STS_CFG_ERR = true ∧
        d.get fCUE_STS_ERR_CODE = 2 ∧
        (d.reg rCUE_REFUSE_CNT).toNat = min ((s.dev.reg rCUE_REFUSE_CNT).toNat + 1) (2 ^ 32 - 1) ∧
        d.get (fTIME_TCMPnn_OWNER_OWNER t) = s.dev.get (fTIME_TCMPnn_OWNER_OWNER t) ∧
        (d.port p).code = 0 ∧
        (s.dev.sameRegs d (rCUE_CFG :: rCUE_STS :: rCUE_REFUSE_CNT :: rTIME_TCMP_CONFLICT :: ((List.range k).flatMap fun n => [rTIME_TCMPnn_OWNER (b + n), rTIME_TCMPnn_STS (b + n), rTIME_TCMPnn_FIRE_CNT (b + n)]))) ∧
        d = { s.dev with regs := d.regs, ports := d.ports, time := d.time, irqA := d.irqA, irqB := d.irqB } := by
  obtain ⟨c, w, hx⟩ := exec_cueEnable (v := v) takes off
  have ht : t ∈ c.cueTcmps := w.mem_cueTcmps.mpr (by omega)
  have ht78 : t < 78 := by omega
  have cOwner : c.get (fTIME_TCMPnn_OWNER_OWNER t) = s.dev.get (fTIME_TCMPnn_OWNER_OWNER t) :=
    w.kept.regs.get (f := fTIME_TCMPnn_OWNER_OWNER t) (by simp [fTIME_TCMPnn_OWNER_OWNER, rCUE_CFG]; omega)
  obtain ⟨e, claims, claimed, eOwner⟩ := Dev.claimTcmps_refused ht ht78 (by rwa [cOwner]) (by rwa [cOwner])
  obtain ⟨f, hf⟩ : ∃ f, f = e.cueRelease c.cueTcmps := ⟨_, rfl⟩
  have released := e.cueRelease_keeps c.cueTcmps
  have fOwner := e.cueRelease_foreign c.cueTcmps ht78 (by rwa [eOwner, cOwner])
  rw [← hf] at released fOwner
  obtain ⟨g, hg⟩ : ∃ g, g = f.cueRefuse 2 := ⟨_, rfl⟩
  rw [Dev.cueEnable_refused (by rw [w.num, w.base]; omega) claims, ← hf, ← hg] at hx
  have refuses := f.cueRefuse_keeps 2
  have shows := f.cueRefuse_shows (code := 2) (by decide)
  rw [← hg] at refuses shows
  obtain ⟨en, err, code, count⟩ := shows
  obtain ⟨L, hL⟩ : ∃ L, L = rCUE_CFG :: rCUE_STS :: rCUE_REFUSE_CNT :: rTIME_TCMP_CONFLICT :: cueTcmpAll c.cueTcmps := ⟨_, rfl⟩
  have ownersL : c.cueTcmps.map rTIME_TCMPnn_OWNER ⊆ cueTcmpAll c.cueTcmps := map_subset_flatMap (fun n => by simp) _
  have acts : Keeps Dev.butTcmp L c g := by
    have first : Keeps Dev.butTcmp L c e :=
      (claimed.mono (M := L) (by rw [hL]; intro a ha; simp only [List.mem_cons] at ha ⊢; have := @ownersL a; tauto)).part
        fun x : Dev => { x with time := { x.time with tcmp := [] } }
    have second : Keeps Dev.butTcmp L e f := released.mono (by rw [hL]; intro a ha; simp only [List.mem_cons]; tauto)
    have third : Keeps Dev.butTcmp L f g :=
      (refuses.mono (M := L) (by rw [hL]; simp)).part fun x : Dev => { x with time := { x.time with tcmp := [] } }
    exact (first.trans second).trans third
  have keeps : Keeps Dev.butTcmpPorts L s.dev g :=
    ((w.kept.mono (M := L) (by rw [hL]; simp)).part fun x : Dev => { x with time := { x.time with tcmp := [] } }).trans
      (acts.part fun x : Dev => { x with ports := [] })
  have outside : ∀ a, a < 0x30800 ∨ 0x32000 ≤ a → a ≠ rCUE_CFG → a ≠ rCUE_STS → a ≠ rCUE_REFUSE_CNT → a ≠ rTIME_TCMP_CONFLICT →
      a ∉ L := fun a ha h1 h2 h3 h4 hm => by
    rw [hL] at hm
    simp only [List.mem_cons, h1, h2, h3, h4, false_or] at hm
    exact c.not_mem_cueTcmps ha hm
  have list : L = rCUE_CFG :: rCUE_STS :: rCUE_REFUSE_CNT :: rTIME_TCMP_CONFLICT :: ((List.range k).flatMap fun n =>
      [rTIME_TCMPnn_OWNER (b + n), rTIME_TCMPnn_STS (b + n), rTIME_TCMPnn_FIRE_CNT (b + n)]) := by
    rw [hL, cueTcmpAll, w.cueTcmps, List.flatMap_map, ← hb, ← hk]
  have calmApart : ∀ a ∈ calmRegs, a ∉ L := fun a ha => by
    obtain ⟨range, h1, h2, h3, h4⟩ := (by decide : ∀ a ∈ calmRegs, (a < 0x30800 ∨ 0x32000 ≤ a) ∧ a ≠ rCUE_CFG ∧ a ≠ rCUE_STS ∧
      a ≠ rCUE_REFUSE_CNT ∧ a ≠ rTIME_TCMP_CONFLICT) a ha
    exact outside a range h1 h2 h3 h4
  have before : f.reg rCUE_REFUSE_CNT = s.dev.reg rCUE_REFUSE_CNT := by
    have apart := c.not_mem_cueTcmps (a := rCUE_REFUSE_CNT) (by decide)
    have notOwner : rCUE_REFUSE_CNT ∉ rTIME_TCMP_CONFLICT :: c.cueTcmps.map rTIME_TCMPnn_OWNER := fun hm =>
      (List.mem_cons.mp hm).elim (by decide) fun hm => apart (ownersL hm)
    rw [released.regs _ apart, claimed.regs _ notOwner, w.kept.regs _ (by decide)]
  have ports : g.ports = c.ports := congrArg (·.ports) acts.rest
  rw [← list]
  refine completes_of_sameRegs hx calm keeps.regs calmApart (congrArg (·.calmPart) keeps.rest)
    ⟨en, err, code, ?_, ?_, ?_, keeps.regs.showIrq, ?_⟩
  · rw [Dev.showIrq_reg, count, before]
  · have apart : rTIME_TCMPnn_OWNER t ∉ [rCUE_CFG, rCUE_STS, rCUE_REFUSE_CNT] := by
      simp [rTIME_TCMPnn_OWNER, rCUE_CFG, rCUE_STS, rCUE_REFUSE_CNT]; omega
    rw [Dev.showIrq_get, refuses.regs.get (f := fTIME_TCMPnn_OWNER_OWNER t) apart, fOwner, eOwner, cOwner]
  · rw [Dev.showIrq_port, Dev.port_congr ports, w.code]
  · exact congrArg (fun x : Dev => { x with regs := g.regs, ports := g.ports, time := g.time, irqA := g.irqPinA, irqB := g.irqPinB }) keeps.rest

/-! ## The engine enabled -/

/-- The device but for its registers, the hidden state of its comparators and the cue engine. -/
def Dev.butEngine (d : Dev) : Dev := { d with regs := [], time := { d.time with tcmp := [] }, cue := {} }

theorem Dev.cueEnabled_keeps (d : Dev) : Keeps Dev.butRegs [rCUE_CFG, rCUE_STS] d d.cueEnabled :=
  ⟨rfl, ((Dev.sameRegs.refl d _).putB (f := fCUE_CFG_EN) (by decide) true).puts (by decide)⟩

/-- What an enable shows. -/
theorem Dev.cueEnabled_shows (d : Dev) : d.cueEnabled.on fCUE_CFG_EN = true ∧ d.cueEnabled.on fCUE_STS_RUN = true ∧
    d.cueEnabled.on fCUE_STS_CFG_ERR = false ∧ d.cueEnabled.get fCUE_CFG_TCMP_NUM = d.get fCUE_CFG_TCMP_NUM ∧
    d.cueEnabled.get fCUE_CFG_TCMP_BASE = d.get fCUE_CFG_TCMP_BASE := by
  have unfolds : d.cueEnabled = (((d.putB fCUE_CFG_EN true).put fCUE_STS_RUN 1).put fCUE_STS_CFG_ERR 0).put fCUE_STS_ERR_CODE 0 := rfl
  have cfg : d.cueEnabled.reg rCUE_CFG = (d.putB fCUE_CFG_EN true).reg rCUE_CFG := by
    rw [unfolds, Dev.reg_put_ne (f := fCUE_STS_ERR_CODE) _ _ (by decide), Dev.reg_put_ne (f := fCUE_STS_CFG_ERR) _ _ (by decide),
      Dev.reg_put_ne (f := fCUE_STS_RUN) _ _ (by decide)]
  have okErr : fCUE_STS_CFG_ERR.ok := (by decide : 27 + 1 ≤ 32)
  have okCode : fCUE_STS_ERR_CODE.ok := (by decide : 28 + 4 ≤ 32)
  have okEn : fCUE_CFG_EN.ok := (by decide : 31 + 1 ≤ 32)
  refine ⟨?_, ?_, ?_, ?_, ?_⟩
  · exact (congrArg (fun w => fCUE_CFG_EN.get w != 0) cfg).trans (d.on_putB_same okEn rfl true)
  · rw [unfolds, Dev.on_put_apart (f := fCUE_STS_ERR_CODE) _ _ okCode (Or.inr (by decide)), Dev.on_put_apart (f := fCUE_STS_CFG_ERR) _ _ okErr
      (Or.inr (by decide))]
    exact Dev.on_putB_same (f := fCUE_STS_RUN) _ (by decide : 0 + 1 ≤ 32) rfl true
  · rw [unfolds, Dev.on_put_apart (f := fCUE_STS_ERR_CODE) _ _ okCode (Or.inr (by decide))]
    exact Dev.on_putB_same _ okErr rfl false
  · exact (congrArg fCUE_CFG_TCMP_NUM.get cfg).trans (d.get_put_apart fCUE_CFG_EN fCUE_CFG_TCMP_NUM _ okEn (Or.inr (by decide)))
  · exact (congrArg fCUE_CFG_TCMP_BASE.get cfg).trans (d.get_put_apart fCUE_CFG_EN fCUE_CFG_TCMP_BASE _ okEn (Or.inr (by decide)))

theorem Dev.cueStarted_keeps (d : Dev) (L : List Nat) : Keeps Dev.butEngine L d d.cueStarted := by
  have start : ∀ l : KMap CueSt, Keeps Dev.butEngine L d { d with cue := { d.cue with cues := l, trigs := [], armed := [] } } := fun _ =>
    Keeps.of_regs rfl rfl
  exact start d.startedCues

theorem Dev.cueStarted_regs (d : Dev) : d.cueStarted.regs = d.regs := by rw [Dev.cueStarted]

theorem Dev.cueStarted_trigs (d : Dev) : d.cueStarted.cue.trigs = [] := by rw [Dev.cueStarted]

theorem Dev.cueStarted_armed (d : Dev) : d.cueStarted.cue.armed = [] := by rw [Dev.cueStarted]

theorem Dev.cueHas_congr (h : e.tbl = d.tbl) (i t : Nat) : e.cueHas i t = d.cueHas i t := by
  simp only [Dev.cueHas, Dev.cueEn, Dev.cueTrig, Dev.cueWord, h]

theorem Dev.cueTarget_congr (h : e.tbl = d.tbl) (i : Nat) : e.cueTarget i = d.cueTarget i := by
  simp only [Dev.cueTarget, Dev.cueWord, h]

theorem Dev.sound_congr (h : e.poison = d.poison) (h' : e.integ = d.integ) : e.sound = d.sound := by
  simp only [Dev.sound, h, h']

@[simp] theorem Dev.showIrq_cueOn (d : Dev) : d.showIrq.cueOn = d.cueOn := rfl
@[simp] theorem Dev.showIrq_cueSt (d : Dev) (i : Nat) : d.showIrq.cueSt i = d.cueSt i := rfl

/-- What an enable leaves that the claims grant. -/
structure CueRuns (d h : Dev) : Prop where
  kept : Keeps Dev.butEngine (rCUE_CFG :: rCUE_STS :: (d.cueTcmps.flatMap fun n => [rTIME_TCMPnn_OWNER n, rTIME_TCMPnn_STS n])) d h
  en : h.on fCUE_CFG_EN = true
  run : h.on fCUE_STS_RUN = true
  err : h.on fCUE_STS_CFG_ERR = false
  owners : ∀ t ∈ d.cueTcmps, h.get (fTIME_TCMPnn_OWNER_OWNER t) = 0x20
  cues : ∀ i < 4096, h.cueSt i = if d.cueHas i 1 then { state := 1, due := d.cueTarget i } else {}
  trigs : h.cue.trigs = []

/-- An enable with a good range, every comparator of it free, and no error in any array (R361, R378). -/
theorem Dev.cueEnable_runs (good : ¬(d.get fCUE_CFG_TCMP_NUM = 0 ∨ 8 < d.get fCUE_CFG_TCMP_NUM ∨
      64 < d.get fCUE_CFG_TCMP_BASE + d.get fCUE_CFG_TCMP_NUM))
    (free : ∀ t ∈ d.cueTcmps, d.get (fTIME_TCMPnn_OWNER_OWNER t) = 0 ∧ d.tcmpPrio t = 0) (sound : d.sound = true) : CueRuns d d.cueEnable := by
  obtain ⟨e, claims, claimed, owned⟩ := Dev.claimTcmps_granted d.cueTcmps_nodup free
  obtain ⟨f, hf⟩ : ∃ f, f = e.cueEnabled := ⟨_, rfl⟩
  obtain ⟨g, hg⟩ : ∃ g, g = f.cueStarted := ⟨_, rfl⟩
  obtain ⟨h, hh⟩ : ∃ h, h = g.cueArm := ⟨_, rfl⟩
  have enables : Keeps Dev.butRegs [rCUE_CFG, rCUE_STS] e f := by rw [hf]; exact e.cueEnabled_keeps
  have gRegs : g.regs = f.regs := by rw [hg, f.cueStarted_regs]
  have arms : Keeps Dev.butCueTcmp (g.cueTcmps.map rTIME_TCMPnn_STS) g h := by
    rw [hh]; exact Dev.cueArm_fresh_keeps (by rw [hg, f.cueStarted_armed])
  have shows := e.cueEnabled_shows
  rw [← hf] at shows
  obtain ⟨en, run, err, num, base⟩ := shows
  have rest : f.butRegs = d.butRegs := enables.rest.trans claimed.rest
  have fSound : f.sound = true :=
    (Dev.sound_congr (d := d) (e := f) (congrArg (·.poison) rest) (congrArg (·.integ) rest)).trans sound
  have fTbl : f.tbl = d.tbl := congrArg (·.tbl) rest
  have cfg : e.reg rCUE_CFG = d.reg rCUE_CFG := claimed.regs _ fun hm =>
    d.not_mem_cueTcmps (by decide) (map_subset_flatMap (fun n => by simp) _ hm)
  have tcmps : g.cueTcmps = d.cueTcmps := by
    rw [Dev.cueTcmps_of_get (d := e) ((Dev.get_of_regs gRegs _).trans num) ((Dev.get_of_regs gRegs _).trans base), Dev.cueTcmps_congr cfg]
  rw [tcmps] at arms
  have cueReg : ∀ a, 0x32000 ≤ a → h.reg a = f.reg a := fun a ha => by
    have apart : a ∉ d.cueTcmps.map rTIME_TCMPnn_STS := fun hm =>
      d.not_mem_cueTcmps (Or.inr ha) (map_subset_flatMap (fun n => by simp) _ hm)
    rw [arms.regs _ apart, Dev.reg, gRegs, ← Dev.reg]
  have result : d.cueEnable = h := by
    rw [Dev.cueEnable_granted good claims (hf ▸ fSound), ← hf, ← hg, ← hh]
  rw [result]
  refine ⟨?_, ?_, ?_, ?_, ?_, ?_, ?_⟩
  · obtain ⟨L, hL⟩ : ∃ L, L = rCUE_CFG :: rCUE_STS :: (d.cueTcmps.flatMap fun n => [rTIME_TCMPnn_OWNER n, rTIME_TCMPnn_STS n]) := ⟨_, rfl⟩
    have inL : ∀ r : Nat → Nat, (∀ n, r n ∈ [rTIME_TCMPnn_OWNER n, rTIME_TCMPnn_STS n]) → d.cueTcmps.map r ⊆ L := fun r hr a ha => by
      rw [hL]
      exact List.mem_cons_of_mem _ (List.mem_cons_of_mem _ (map_subset_flatMap hr _ ha))
    have first : Keeps Dev.butEngine L d e :=
      (claimed.mono (inL _ fun n => by simp)).part fun x : Dev => { x with time := { x.time with tcmp := [] }, cue := {} }
    have second : Keeps Dev.butEngine L e f :=
      (enables.mono (M := L) (by rw [hL]; simp)).part fun x : Dev => { x with time := { x.time with tcmp := [] }, cue := {} }
    have third : Keeps Dev.butEngine L f g := by rw [hg]; exact f.cueStarted_keeps L
    have fourth : Keeps Dev.butEngine L g h := (arms.mono (inL _ fun n => by simp)).part fun x : Dev => { x with cue := {} }
    rw [← hL]
    exact ((first.trans second).trans third).trans fourth
  · exact (congrArg (fun w => fCUE_CFG_EN.get w != 0) (cueReg _ (by decide))).trans en
  · exact (congrArg (fun w => fCUE_STS_RUN.get w != 0) (cueReg _ (by decide))).trans run
  · exact (congrArg (fun w => fCUE_STS_CFG_ERR.get w != 0) (cueReg _ (by decide))).trans err
  · intro t ht
    have := Dev.cueTcmps_lt ht
    have sts : rTIME_TCMPnn_OWNER t ∉ d.cueTcmps.map rTIME_TCMPnn_STS := fun hm => by
      obtain ⟨n, hn, eq⟩ := List.mem_map.mp hm
      simp only [rTIME_TCMPnn_OWNER, rTIME_TCMPnn_STS] at eq
      omega
    have cue : rTIME_TCMPnn_OWNER t ∉ [rCUE_CFG, rCUE_STS] := by
      simp [rTIME_TCMPnn_OWNER, rCUE_CFG, rCUE_STS]; omega
    rw [arms.regs.get (f := fTIME_TCMPnn_OWNER_OWNER t) sts, Dev.get_of_regs gRegs, enables.regs.get (f := fTIME_TCMPnn_OWNER_OWNER t) cue,
      owned t ht]
  · intro i hi
    have cues : h.cue.cues = g.cue.cues := congrArg (·.cue.cues) arms.rest
    have same : h.cueSt i = f.cueStarted.cueSt i := by unfold Dev.cueSt; rw [cues, hg]
    rw [same, f.cueStarted_cueSt fSound hi, Dev.cueHas_congr fTbl, Dev.cueTarget_congr fTbl]
  · have trigs : h.cue.trigs = g.cue.trigs := congrArg (·.cue.trigs) arms.rest
    rw [trigs, hg, f.cueStarted_trigs]

/-- Free comparators in a good range: the engine is enabled (R361, R378). -/
theorem cueEnable_completes (s : State) (p : Port) (v : Word) (b k : Nat) (calm : s.dev.calm = true) (takes : s.dev.takes p rCUE_CFG)
    (off : s.dev.on fCUE_CFG_EN = false) (hb : b = fCUE_CFG_TCMP_BASE.get v) (hk : k = fCUE_CFG_TCMP_NUM.get v) (h1 : 1 ≤ k) (h8 : k ≤ 8)
    (h64 : b + k ≤ 64)
    (free : ∀ t ∈ List.range 64, b ≤ t → t < b + k → s.dev.get (fTIME_TCMPnn_OWNER_OWNER t) = 0 ∧ s.dev.tcmpPrio t = 0)
    (sound : s.dev.sound = true) :
    Completes (.cueEnable p v) s fun d =>
        d.on fCUE_CFG_EN = true ∧
        d.cueOn = true ∧
        d.on fCUE_STS_CFG_ERR = false ∧
        (∀ t ∈ List.range 64, b ≤ t → t < b + k → d.get (fTIME_TCMPnn_OWNER_OWNER t) = 0x20) ∧
        (∀ c ∈ List.range 4096, d.cueSt c = (if s.dev.cueHas c 1 then ({ state := 1, due := s.dev.cueTarget c } : CueSt) else ({} : CueSt))) ∧
        d.cue.trigs = [] ∧
        (d.port p).code = 0 ∧
        (s.dev.sameRegs d (rCUE_CFG :: rCUE_STS :: ((List.range k).flatMap fun n => [rTIME_TCMPnn_OWNER (b + n), rTIME_TCMPnn_STS (b + n)]))) ∧
        d = { s.dev with regs := d.regs, ports := d.ports, cue := d.cue, time := d.time, irqA := d.irqA, irqB := d.irqB } := by
  obtain ⟨c, w, hx⟩ := exec_cueEnable (v := v) takes off
  have inRange : ∀ {t}, t ∈ c.cueTcmps → t < 64 ∧ b ≤ t ∧ t < b + k := fun ht => by
    have := w.mem_cueTcmps.mp ht
    omega
  have kept : ∀ {t}, t ∈ c.cueTcmps → c.reg (rTIME_TCMPnn_OWNER t) = s.dev.reg (rTIME_TCMPnn_OWNER t) := fun ht =>
    w.kept.regs _ (by have := inRange ht; simp [rTIME_TCMPnn_OWNER, rCUE_CFG]; omega)
  have runs := Dev.cueEnable_runs (d := c) (by rw [w.num, w.base]; omega) (fun t ht => by
    obtain ⟨h, hbt, htk⟩ := inRange ht
    obtain ⟨owner, prio⟩ := free t (List.mem_range.mpr h) hbt htk
    exact ⟨(congrArg (Fld.get _) (kept ht)).trans owner, (Dev.tcmpPrio_congr (congrArg (Fld.get _) (kept ht))).trans prio⟩)
    ((Dev.sound_congr (d := s.dev) (e := c) (congrArg (·.poison) w.kept.rest) (congrArg (·.integ) w.kept.rest)).trans sound)
  obtain ⟨h, hh⟩ : ∃ h, h = c.cueEnable := ⟨_, rfl⟩
  rw [← hh] at hx runs
  obtain ⟨L, hL⟩ : ∃ L, L = rCUE_CFG :: rCUE_STS :: (c.cueTcmps.flatMap fun n => [rTIME_TCMPnn_OWNER n, rTIME_TCMPnn_STS n]) := ⟨_, rfl⟩
  have acts := runs.kept
  rw [← hL] at acts
  have keeps : Keeps (fun x => { Dev.butEngine x with ports := [] }) L s.dev h :=
    ((w.kept.mono (M := L) (by rw [hL]; simp)).part fun x : Dev => { x with time := { x.time with tcmp := [] }, cue := {} }).trans
      (acts.part fun x : Dev => { x with ports := [] })
  have outside : ∀ a, a < 0x30800 ∨ 0x32000 ≤ a → a ≠ rCUE_CFG → a ≠ rCUE_STS → a ∉ L := fun a ha h1 h2 hm => by
    rw [hL] at hm
    simp only [List.mem_cons, h1, h2, false_or, List.mem_flatMap] at hm
    obtain ⟨n, hn, hm⟩ := hm
    refine c.not_mem_cueTcmps ha (List.mem_flatMap.mpr ⟨n, hn, ?_⟩)
    simp only [List.mem_cons, List.not_mem_nil, or_false] at hm ⊢
    exact hm.imp_right Or.inl
  have calmApart : ∀ a ∈ calmRegs, a ∉ L := fun a ha => by
    obtain ⟨range, h1, h2⟩ := (by decide : ∀ a ∈ calmRegs, (a < 0x30800 ∨ 0x32000 ≤ a) ∧ a ≠ rCUE_CFG ∧ a ≠ rCUE_STS) a ha
    exact outside a range h1 h2
  have core : h.domOn 1 = true := by
    rw [Dev.domOn_congr keeps.regs (outside _ (by decide) (by decide) (by decide)), Dev.takes_cueCfg takes]
  have list : L = rCUE_CFG :: rCUE_STS :: ((List.range k).flatMap fun n => [rTIME_TCMPnn_OWNER (b + n), rTIME_TCMPnn_STS (b + n)]) := by
    rw [hL, w.cueTcmps, List.flatMap_map, ← hb, ← hk]
  have tbl : c.tbl = s.dev.tbl := congrArg (·.tbl) w.kept.rest
  have ports : h.ports = c.ports := congrArg (·.ports) acts.rest
  rw [← list]
  refine completes_of_sameRegs hx calm keeps.regs calmApart (congrArg (·.calmPart) keeps.rest)
    ⟨runs.en, ?_, runs.err, ?_, ?_, runs.trigs, ?_, keeps.regs.showIrq, ?_⟩
  · rw [Dev.showIrq_cueOn, Dev.cueOn, runs.run, core]; rfl
  · intro t _ hbt htk
    exact runs.owners t (w.mem_cueTcmps.mpr (by omega))
  · intro i hi
    rw [Dev.showIrq_cueSt, runs.cues i (List.mem_range.mp hi), Dev.cueHas_congr tbl, Dev.cueTarget_congr tbl]
  · rw [Dev.showIrq_port, Dev.port_congr ports, w.code]
  · exact congrArg (fun x : Dev => { x with regs := h.regs, ports := h.ports, cue := h.cue, time := h.time, irqA := h.irqPinA, irqB := h.irqPinB }) keeps.rest

end Sys2Proof.Machine
end

section
/-! The cue engine disabled (R378). -/

namespace Sys2Proof.Machine

open Sys2Proof

variable {d c e : Dev}

/-! ## Queued cue frames dropped -/

/-- The device but for its registers, the queues of its network ports, its stage bus port and the deadlines of cue frames. -/
def Dev.butFrames (d : Dev) : Dev := { d with regs := [], net := [], t1s := {}, cue := { d.cue with deadlines := [] } }

theorem Dev.addFrameDrop_keeps (d : Dev) (n : Nat) : Keeps Dev.butFrames [rCUE_FRAME_DROP_CNT] d (d.add rCUE_FRAME_DROP_CNT n) :=
  ⟨rfl, (Dev.sameRegs.refl d _).add List.mem_cons_self n⟩

theorem Dev.setNet_keeps (d : Dev) (L : List Nat) (p : Nat) (x : NetSt) : Keeps Dev.butFrames L d (d.setNet p x) := Keeps.of_regs rfl rfl

theorem Dev.cueFlushPort_keeps (d : Dev) (p : Nat) : Keeps Dev.butFrames [rCUE_FRAME_DROP_CNT] d (d.cueFlushPort p) := by
  unfold Dev.cueFlushPort
  dsimp only
  split
  · exact Keeps.refl ..
  · exact (d.setNet_keeps _ p _).trans (Dev.addFrameDrop_keeps _ _)

/-- A change of the stage bus port. -/
def Dev.setT1s (d : Dev) (x : T1sSt) : Dev := { d with t1s := x }

theorem Dev.setT1s_keeps (d : Dev) (L : List Nat) (x : T1sSt) : Keeps Dev.butFrames L d (d.setT1s x) := Keeps.of_regs rfl rfl

theorem Dev.cueFlushBus_keeps (d : Dev) : Keeps Dev.butFrames [rCUE_FRAME_DROP_CNT] d d.cueFlushBus :=
  (d.addFrameDrop_keeps d.t1s.cueQ.length).trans (Dev.setT1s_keeps _ _ _)

theorem Dev.cueForget_keeps (d : Dev) (L : List Nat) (n : Nat) : Keeps Dev.butFrames L d (d.cueForget n) := Keeps.of_regs rfl rfl

theorem Dev.cueFrameGone_keeps (d : Dev) (L : List Nat) (n : Nat) : Keeps Dev.butFrames L d (d.cueFrameGone n) := by
  unfold Dev.cueFrameGone
  split
  · exact Keeps.refl ..
  · exact Keeps.of_regs rfl rfl

theorem Dev.t1sGone_keeps (d : Dev) (L : List Nat) : Keeps Dev.butFrames L d d.t1sGone := by
  unfold Dev.t1sGone
  split
  · exact (Dev.setT1s_keeps d L _).trans (Dev.cueFrameGone_keeps _ L _)
  · exact Keeps.refl ..

theorem Dev.cueFrameGone_t1s (d : Dev) (n : Nat) : (d.cueFrameGone n).t1s = d.t1s := by
  unfold Dev.cueFrameGone
  split <;> rfl

theorem Dev.t1sGone_cueQ (d : Dev) : d.t1sGone.t1s.cueQ = d.t1s.cueQ := by
  unfold Dev.t1sGone
  split
  · rw [Dev.cueFrameGone_t1s]
  · rfl

/-- A flush drops the cue frames that wait. -/
theorem Dev.cueFlush_keeps (d : Dev) : Keeps Dev.butFrames [rCUE_FRAME_DROP_CNT] d d.cueFlush ∧ d.cueFlush.t1s.cueQ = [] := by
  obtain ⟨c, hc⟩ : ∃ c, c = ((List.range 4).foldl Dev.cueFlushPort d).cueFlushBus := ⟨_, rfl⟩
  have bus : Keeps Dev.butFrames [rCUE_FRAME_DROP_CNT] d c := by
    rw [hc]
    exact (Keeps.foldl Dev.cueFlushPort _ (fun p _ c => c.cueFlushPort_keeps p) d).trans (Dev.cueFlushBus_keeps _)
  have empty : c.t1s.cueQ = [] := by rw [hc]; rfl
  unfold Dev.cueFlush
  dsimp only
  rw [← hc]
  split
  · exact ⟨bus.trans (c.cueForget_keeps _ _), empty⟩
  · split
    · exact ⟨bus.trans (c.cueForget_keeps _ _), empty⟩
    · refine ⟨((bus.trans (c.t1sGone_keeps _)).trans (Dev.addFrameDrop_keeps _ 1)).trans (Dev.cueForget_keeps _ _ _), ?_⟩
      exact c.t1sGone_cueQ.trans empty

/-! ## The engine stopped -/

/-- The engine with nothing waiting, nothing armed, every DMX port stopped and no timecode. -/
def Dev.cueStopped (d : Dev) : Dev :=
  { d with cue := { d.cue with
    trigs := [], armed := []
    dmx := (d.cue.dmx.map fun e => (e.1, { e.2 with run := false })).filter fun e => decide (e.2 ≠ ({} : DmxSt))
    ltc := { d.cue.ltc with start := false } } }

theorem Dev.cueDisable_eq (d : Dev) :
    d.cueDisable = ((d.cueFlush.cueStopped.cueRelease d.cueFlush.cueStopped.cueTcmps).putB fCUE_CFG_EN false).putB fCUE_STS_RUN false := rfl

theorem kget_of_forall {α : Type} (P : α → Prop) {z : α} (hz : P z) {m : KMap α} (h : ∀ e ∈ m, P e.2) (i : Nat) : P (kget z m i) := by
  induction m with
  | nil => exact hz
  | cons e m ih =>
    rw [kget]
    split
    · exact h e List.mem_cons_self
    · exact ih fun e he => h e (List.mem_cons_of_mem _ he)

/-- No DMX port of a stopped engine runs a packet. -/
theorem Dev.cueStopped_dmx (d : Dev) (q : Nat) : (d.cueStopped.dmx q).run = false := by
  refine kget_of_forall (fun x : DmxSt => x.run = false) rfl (fun e he => ?_) q
  obtain ⟨x, -, rfl⟩ := List.mem_map.mp (List.mem_filter.mp he).1
  rfl

theorem Dev.cueStopped_keeps (d : Dev) (L : List Nat) : Keeps Dev.butEngine L d d.cueStopped := by
  unfold Dev.cueStopped
  exact Keeps.of_regs rfl rfl

/-- The device but for its registers, its ports and its ignore record. -/
def Dev.butPortsIgn (d : Dev) : Dev := { d with regs := [], ports := [], ign := [] }

/-- CUE_DISABLE stores EN alone, and may be recorded, before the engine stops. -/
theorem exec_cueDisable {s : State} {p : Port} {v : Word} (takes : s.dev.takes p rCUE_CFG) (on : s.dev.on fCUE_CFG_EN = true) :
    ∃ c, Keeps Dev.butPortsIgn [rCUE_CFG, rGLB_IGN_CNT, rGLB_IGN_OVF_CNT] s.dev c ∧ (c.port p).code = 0 ∧ c.cueTcmps = s.dev.cueTcmps ∧
      exec (.cueDisable p v) s = s.done c.cueDisable := by
  have dis : fCUE_CFG_EN.get (fCUE_CFG_EN.put v 0) = 0 := Fld.get_put fCUE_CFG_EN (by decide : 31 + 1 ≤ 32) v 0
  obtain ⟨b, hb, write⟩ := Dev.busWrite_cueDisable takes on dis {}
  have kept : Keeps Dev.butPortsIgn [rGLB_IGN_CNT, rGLB_IGN_OVF_CNT] s.dev b ∧ (b.port p).code = 0 := by
    have answered : Keeps Dev.butPortsIgn [rGLB_IGN_CNT, rGLB_IGN_OVF_CNT] s.dev (s.dev.answer p []) := ⟨rfl, s.dev.answer_sameRegs p [] _⟩
    obtain rfl | rfl := hb
    · exact ⟨answered, s.dev.answer_code p []⟩
    · have recorded : Keeps Dev.butPortsIgn [rGLB_IGN_CNT, rGLB_IGN_OVF_CNT] (s.dev.answer p []) ((s.dev.answer p []).record p rCUE_CFG 14 0) :=
        ⟨by rw [Dev.record_frame]; rfl, Dev.record_sameRegs _ _ _ _ _ (by simp) (by simp)⟩
      exact ⟨answered.trans recorded, by rw [Dev.record_code, Dev.answer_code]⟩
  obtain ⟨c, hc⟩ : ∃ c, c = b.cueStored (w32 0x80000000) (fCUE_CFG_EN.put v 0) := ⟨_, rfl⟩
  have stored : Keeps Dev.butRegs [rCUE_CFG] b c := by rw [hc]; exact ⟨b.cueStored_butRegs _ _, b.cueStored_sameRegs _ _⟩
  have cfg : ∀ f : Fld, f.addr = rCUE_CFG → fCUE_CFG_EN.apart f → f.outside (w32 0x80000000) = true → c.get f = s.dev.get f :=
    fun f ha apart out => by
      rw [hc, Dev.cueStored_get _ _ _ ha apart, Fld.get_merged_outside out, kept.1.regs _ (by decide), ← ha]
      rfl
  refine ⟨c, ?_, ?_, Dev.cueTcmps_of_get (cfg _ rfl (Or.inr (by decide)) (by decide)) (cfg _ rfl (Or.inr (by decide)) (by decide)), ?_⟩
  · exact (kept.1.mono (by simp)).trans ((stored.mono (by simp)).part fun x : Dev => { x with ports := [], ign := [] })
  · have ports : c.ports = b.ports := congrArg (·.ports) stored.rest
    rw [Dev.port_congr ports, kept.2]
  · have acts : s.dev.busWrite {} p rCUE_CFG .b32 (fCUE_CFG_EN.put v 0) = c.cueDisable := by rw [write, hc]
    exact congrArg s.done acts

/-- What a disable leaves. -/
structure CueEnds (d h : Dev) : Prop where
  kept : Keeps (fun x => { Dev.butEngine x with net := [], t1s := {} })
    (rCUE_CFG :: rCUE_STS :: rCUE_FRAME_DROP_CNT :: cueTcmpAll d.cueTcmps) d h
  en : h.on fCUE_CFG_EN = false
  run : h.on fCUE_STS_RUN = false
  trigs : h.cue.trigs = []
  armed : h.cue.armed = []
  ltc : h.cue.ltc.start = false
  bus : h.t1s.cueQ = []
  dmx : ∀ q, (h.dmx q).run = false
  owners : ∀ t ∈ d.cueTcmps, h.get (fTIME_TCMPnn_OWNER_OWNER t) ≠ 0x20

/-- The engine's enables fall: EN and RUN. -/
def Dev.cueFallen (d : Dev) : Dev := (d.putB fCUE_CFG_EN false).putB fCUE_STS_RUN false

theorem Dev.cueFallen_keeps (d : Dev) : Keeps Dev.butRegs [rCUE_CFG, rCUE_STS] d d.cueFallen :=
  ⟨rfl, ((Dev.sameRegs.refl d _).putB (f := fCUE_CFG_EN) (by decide) false).putB (f := fCUE_STS_RUN) (by decide) false⟩

theorem Dev.cueFallen_shows (d : Dev) : d.cueFallen.on fCUE_CFG_EN = false ∧ d.cueFallen.on fCUE_STS_RUN = false := by
  unfold Dev.cueFallen
  constructor
  · rw [Dev.putB, Dev.on_put_addr (f := fCUE_STS_RUN) _ _ (by decide)]
    exact Dev.on_putB_same (f := fCUE_CFG_EN) _ (by decide : 31 + 1 ≤ 32) rfl false
  · exact Dev.on_putB_same (f := fCUE_STS_RUN) _ (by decide : 0 + 1 ≤ 32) rfl false

theorem Dev.cueDisable_ends (d : Dev) : CueEnds d d.cueDisable := by
  obtain ⟨f, hf⟩ : ∃ f, f = d.cueFlush := ⟨_, rfl⟩
  obtain ⟨g, hg⟩ : ∃ g, g = f.cueStopped := ⟨_, rfl⟩
  obtain ⟨h, hh⟩ : ∃ h, h = g.cueRelease d.cueTcmps := ⟨_, rfl⟩
  obtain ⟨i, hi⟩ : ∃ i, i = h.cueFallen := ⟨_, rfl⟩
  obtain ⟨flushed, empty⟩ := d.cueFlush_keeps
  rw [← hf] at flushed empty
  have stops : Keeps Dev.butEngine [] f g := by rw [hg]; exact f.cueStopped_keeps []
  have tcmps : g.cueTcmps = d.cueTcmps := Dev.cueTcmps_congr ((stops.regs _ (by simp)).trans (flushed.regs _ (by decide)))
  have released : Keeps Dev.butTcmp (cueTcmpAll d.cueTcmps) g h := by rw [hh]; exact g.cueRelease_keeps _
  have falls : Keeps Dev.butRegs [rCUE_CFG, rCUE_STS] h i := by rw [hi]; exact h.cueFallen_keeps
  have shows := h.cueFallen_shows
  rw [← hi] at shows
  have result : d.cueDisable = i := by
    rw [Dev.cueDisable_eq, ← hf, ← hg, tcmps, ← hh, hi]
    rfl
  have cue : i.cue = f.cueStopped.cue := by
    rw [show i.cue = h.cue from congrArg (·.cue) falls.rest, show h.cue = g.cue from congrArg (·.cue) released.rest, hg]
  have t1s : i.t1s = f.t1s := by
    rw [show i.t1s = h.t1s from congrArg (·.t1s) falls.rest, show h.t1s = g.t1s from congrArg (·.t1s) released.rest,
      show g.t1s = f.t1s from congrArg (·.t1s) stops.rest]
  rw [result]
  refine ⟨?_, shows.1, shows.2, ?_, ?_, ?_, by rw [t1s, empty], fun q => ?_, fun t ht => ?_⟩
  · obtain ⟨L, hL⟩ : ∃ L, L = rCUE_CFG :: rCUE_STS :: rCUE_FRAME_DROP_CNT :: cueTcmpAll d.cueTcmps := ⟨_, rfl⟩
    have tail : cueTcmpAll d.cueTcmps ⊆ L := by rw [hL]; intro a ha; simp only [List.mem_cons]; tauto
    rw [← hL]
    have first : Keeps (fun x => { Dev.butEngine x with net := [], t1s := {} }) L d f :=
      (flushed.mono (M := L) (by rw [hL]; simp)).part fun x : Dev => { x with time := { x.time with tcmp := [] }, cue := {} }
    have second : Keeps (fun x => { Dev.butEngine x with net := [], t1s := {} }) L f g :=
      (stops.mono (List.nil_subset L)).part fun x : Dev => { x with net := [], t1s := {} }
    have third : Keeps (fun x => { Dev.butEngine x with net := [], t1s := {} }) L g h :=
      (released.mono tail).part fun x : Dev => { x with cue := {}, net := [], t1s := {} }
    have fourth : Keeps (fun x => { Dev.butEngine x with net := [], t1s := {} }) L h i :=
      (falls.mono (M := L) (by rw [hL]; simp)).part fun x : Dev => { x with time := { x.time with tcmp := [] }, cue := {}, net := [], t1s := {} }
    exact ((first.trans second).trans third).trans fourth
  · rw [cue]; rfl
  · rw [cue]; rfl
  · rw [cue]; rfl
  · rw [Dev.dmx_of_cue cue, Dev.cueStopped_dmx]
  · have lt := Dev.cueTcmps_lt ht
    have apart : rTIME_TCMPnn_OWNER t ∉ [rCUE_CFG, rCUE_STS] := by
      simp [rTIME_TCMPnn_OWNER, rCUE_CFG, rCUE_STS]; omega
    rw [falls.regs.get (f := fTIME_TCMPnn_OWNER_OWNER t) apart, hh]
    exact g.cueRelease_owner d.cueTcmps_nodup ht lt

/-- The engine disabled (R378). -/
theorem cueDisable_completes (s : State) (p : Port) (v : Word) (calm : s.dev.calm = true) (takes : s.dev.takes p rCUE_CFG)
    (on : s.dev.on fCUE_CFG_EN = true) :
    Completes (.cueDisable p v) s fun d =>
        d.on fCUE_CFG_EN = false ∧
        d.cueOn = false ∧
        d.cue.trigs = [] ∧
        d.cue.armed = [] ∧
        d.cue.ltc.start = false ∧
        d.t1s.cueQ = [] ∧
        (∀ q ∈ List.range 4, (d.dmx q).run = false) ∧
        (∀ t ∈ List.range 64, t ∈ s.dev.cueTcmps → d.get (fTIME_TCMPnn_OWNER_OWNER t) ≠ 0x20) ∧
        (d.port p).code = 0 ∧
        (s.dev.sameRegs d (rCUE_CFG :: rCUE_STS :: rCUE_FRAME_DROP_CNT :: rGLB_IGN_CNT :: rGLB_IGN_OVF_CNT :: (s.dev.cueTcmps.flatMap fun n => [rTIME_TCMPnn_OWNER n, rTIME_TCMPnn_STS n, rTIME_TCMPnn_FIRE_CNT n]))) ∧
        d = { s.dev with regs := d.regs, ports := d.ports, cue := d.cue, time := d.time, t1s := d.t1s, net := d.net, ign := d.ign, irqA := d.irqA, irqB := d.irqB } := by
  obtain ⟨c, kept, code, tcmps, hx⟩ := exec_cueDisable (v := v) takes on
  have ends := c.cueDisable_ends
  obtain ⟨h, hh⟩ : ∃ h, h = c.cueDisable := ⟨_, rfl⟩
  rw [← hh] at hx ends
  have stops := ends.kept
  have owners := ends.owners
  rw [tcmps] at stops owners
  obtain ⟨L, hL⟩ : ∃ L, L = rCUE_CFG :: rCUE_STS :: rCUE_FRAME_DROP_CNT :: rGLB_IGN_CNT :: rGLB_IGN_OVF_CNT :: cueTcmpAll s.dev.cueTcmps := ⟨_, rfl⟩
  have keeps : Keeps (fun x => { Dev.butEngine x with net := [], t1s := {}, ports := [], ign := [] }) L s.dev h :=
    ((kept.mono (M := L) (by rw [hL]; simp)).part fun x : Dev =>
      { x with time := { x.time with tcmp := [] }, cue := {}, net := [], t1s := {} }).trans
    ((stops.mono (M := L) (by rw [hL]; intro a ha; simp only [List.mem_cons] at ha ⊢; tauto)).part fun x : Dev => { x with ports := [], ign := [] })
  have calmApart : ∀ a ∈ calmRegs, a ∉ L := fun a ha hm => by
    obtain ⟨h1, h2, h3, h4, h5⟩ := (by decide : ∀ a ∈ calmRegs, a ≠ rCUE_CFG ∧ a ≠ rCUE_STS ∧ a ≠ rCUE_FRAME_DROP_CNT ∧ a ≠ rGLB_IGN_CNT ∧
      a ≠ rGLB_IGN_OVF_CNT) a ha
    rw [hL] at hm
    simp only [List.mem_cons, h1, h2, h3, h4, h5, false_or] at hm
    exact calmRegs_cueTcmps _ a ha hm
  have ports : h.ports = c.ports := congrArg (·.ports) stops.rest
  rw [← hL]
  refine completes_of_sameRegs hx calm keeps.regs calmApart (congrArg (·.calmPart) keeps.rest)
    ⟨ends.en, ?_, ends.trigs, ends.armed, ends.ltc, ends.bus, fun q _ => ends.dmx q, fun t _ ht => owners t ht, ?_, keeps.regs.showIrq, ?_⟩
  · rw [Dev.showIrq_cueOn, Dev.cueOn, ends.run]; rfl
  · rw [Dev.showIrq_port, Dev.port_congr ports, code]
  · exact congrArg (fun x : Dev => { x with regs := h.regs, ports := h.ports, cue := h.cue, time := h.time, t1s := h.t1s, net := h.net, ign := h.ign, irqA := h.irqPinA, irqB := h.irqPinB }) keeps.rest

end Sys2Proof.Machine
end

section
/-! Live editing of the cue table (R379). -/

namespace Sys2Proof.Machine

open Sys2Proof

variable {d c e : Dev}

/-! ## The write of CUE_TBL_CMD -/

/-- The row of CUE_TBL_CMD in the register summary. -/
def cueTblCmdRow : RegDesc := { base := 0x12000C, wr := 0xFFF, cmd := 0xF0000000 }

theorem regAt_cueTblCmd : regAt rCUE_TBL_CMD = some (cueTblCmdRow, 0, 0) := rfl

theorem Dev.writeEffect_cueTblCmd (d : Dev) (m : Meets) (old v cmd : Word) :
    d.writeEffect m rCUE_TBL_CMD 0 old v cmd = d.cueTblCmd (fCUE_TBL_CMD_OP.get cmd) := rfl

/-- What the store of CUE_TBL_CMD leaves, before the command acts. -/
structure CueTblWritten (d c : Dev) (p : Port) (v : Word) : Prop where
  kept : Keeps Dev.butRegsPorts [rCUE_TBL_CMD] d c
  code : (c.port p).code = 0
  cue : c.get fCUE_TBL_CMD_CUE = fCUE_TBL_CMD_CUE.get v

/-- A table command is stored and acts. -/
theorem Dev.writeWith_cueTblCmd {p : Port} (takes : d.takes p rCUE_TBL_CMD) {x : Nat} (hx : x < 16) (v : Word) :
    ∃ c, CueTblWritten d c p v ∧ d.writeWith {} p fCUE_TBL_CMD_OP x v = c.cueTblCmd x := by
  have okOp : fCUE_TBL_CMD_OP.ok := (by decide : 28 + 4 ≤ 32)
  obtain ⟨c, hc⟩ : ∃ c, c = (d.answer p []).setReg rCUE_TBL_CMD (merged (w32 0xFFF) ((d.answer p []).reg rCUE_TBL_CMD) (fCUE_TBL_CMD_OP.put v x)) :=
    ⟨_, rfl⟩
  have cue : c.get fCUE_TBL_CMD_CUE = fCUE_TBL_CMD_CUE.get v := by
    have addr : rCUE_TBL_CMD = fCUE_TBL_CMD_CUE.addr := rfl
    rw [hc, Dev.get_setReg, if_pos addr, Fld.get_merged_within (by decide),
      Fld.get_put_apart fCUE_TBL_CMD_OP fCUE_TBL_CMD_CUE okOp (Or.inr (by decide))]
  have kept : Keeps Dev.butRegsPorts [rCUE_TBL_CMD] d c := by
    rw [hc]; exact ⟨rfl, (d.answer_sameRegs p [] _).setReg (by simp) _⟩
  have code : (c.port p).code = 0 := by
    rw [hc]; exact (congrArg PortSt.code (Dev.port_congr rfl p)).trans (d.answer_code p [])
  refine ⟨c, ⟨kept, code, cue⟩, ?_⟩
  have op : fCUE_TBL_CMD_OP.get (fCUE_TBL_CMD_OP.put v x &&& w32 cueTblCmdRow.cmd) = x := by
    rw [Fld.get_and_within (by decide), Fld.get_put _ okOp]
    exact Nat.mod_eq_of_lt hx
  have mask : writeMask cueTblCmdRow (fCUE_TBL_CMD_OP.put v x) = w32 0xFFF := rfl
  have addr : fCUE_TBL_CMD_OP.addr = rCUE_TBL_CMD := rfl
  rw [Dev.writeWith, addr, Dev.busWrite_reg takes (by decide) (by decide),
    Dev.regWrite_plain regAt_cueTblCmd (by decide) fun h => absurd h (by decide), Dev.regStore_free rfl, Dev.writeEffect_cueTblCmd, op, mask, ← hc]

/-! ## The end of a command -/

/-- A command done: its result is shown and the comparators follow. -/
def Dev.cueTblDone (d : Dev) : Dev := (d.put fCUE_TBL_STS_RESULT 1).cueArm

theorem Dev.cueTblDone_keeps (d : Dev) : Keeps Dev.butCueTcmp (rCUE_TBL_STS :: cueTcmpRegs d.cueTcmps) d d.cueTblDone := by
  obtain ⟨c, hc⟩ : ∃ c, c = d.put fCUE_TBL_STS_RESULT 1 := ⟨_, rfl⟩
  have shown : Keeps Dev.butCueTcmp [rCUE_TBL_STS] d c := by
    rw [hc]; exact ⟨rfl, (Dev.sameRegs.refl d _).put (f := fCUE_TBL_STS_RESULT) (by decide) 1⟩
  have tcmps : c.cueTcmps = d.cueTcmps := Dev.cueTcmps_congr (shown.regs _ (by decide))
  have arms := c.cueArm_keeps
  rw [tcmps] at arms
  rw [Dev.cueTblDone, ← hc]
  exact (shown.mono (by simp)).trans (arms.mono (List.subset_cons_self ..))

theorem Dev.cueTblDone_result (d : Dev) : d.cueTblDone.get fCUE_TBL_STS_RESULT = 1 := by
  unfold Dev.cueTblDone
  rw [(Dev.cueArm_keeps _).regs.get (f := fCUE_TBL_STS_RESULT) (Dev.not_mem_cueTcmpRegs _ (by decide))]
  exact d.get_put_same fCUE_TBL_STS_RESULT 1 (by decide : 28 + 2 ≤ 32)

theorem Dev.cueTblDone_state (d : Dev) : d.cueTblDone.get fCUE_TBL_STS_STATE = d.get fCUE_TBL_STS_STATE := by
  unfold Dev.cueTblDone
  rw [(Dev.cueArm_keeps _).regs.get (f := fCUE_TBL_STS_STATE) (Dev.not_mem_cueTcmpRegs _ (by decide))]
  exact d.get_put_apart fCUE_TBL_STS_RESULT fCUE_TBL_STS_STATE 1 (by decide : 28 + 2 ≤ 32) (Or.inr (by decide))

theorem Dev.cueTblDone_cueSt (d : Dev) (i : Nat) : d.cueTblDone.cueSt i = d.cueSt i := by
  have cues : d.cueTblDone.cue.cues = d.cue.cues := congrArg (·.cue.cues) d.cueTblDone_keeps.rest
  unfold Dev.cueSt
  rw [cues]

theorem Dev.cueTblDone_ports (d : Dev) : d.cueTblDone.ports = d.ports := congrArg (·.ports) d.cueTblDone_keeps.rest

theorem calmRegs_cueTbl (d : Dev) {M : List Nat} (hM : ∀ a ∈ calmRegs, a ∉ M) :
    ∀ a ∈ calmRegs, a ∉ rCUE_TBL_CMD :: rCUE_TBL_STS :: (M ++ cueTcmpRegs d.cueTcmps) := fun a ha hm => by
  obtain ⟨h1, h2⟩ := (by decide : ∀ a ∈ calmRegs, a ≠ rCUE_TBL_CMD ∧ a ≠ rCUE_TBL_STS) a ha
  simp only [List.mem_cons, h1, h2, false_or, List.mem_append] at hm
  exact hm.elim (hM a ha) fun hm => calmRegs_cueTcmps d a ha (cueTcmpRegs_subset_all _ hm)

/-- What a table command leaves as it was, but for its registers `M` and what `F` erases. -/
def Dev.butTblCmd (F : Dev → Dev) (d : Dev) : Dev := F { d.butEngine with ports := [] }

/-- A table command completes in what its own effect `g` leaves once the comparators have followed. -/
theorem cueTbl_completes {F : Dev → Dev} {i : Instr} {s : State} {p : Port} {v : Word} {x : Nat} {g : Dev} {M : List Nat} {P : Dev → Prop}
    (calm : s.dev.calm = true) (w : CueTblWritten s.dev c p v) (hx : exec i s = s.done (c.cueTblCmd x))
    (hg : c.cueTblCmd x = g.cueTblDone) (hF : ∀ x : Dev, (F x).calmPart = x.calmPart) (hM : ∀ a ∈ calmRegs, a ∉ M) (cfg : rCUE_CFG ∉ M)
    (acts : Keeps (Dev.butTblCmd F) (rCUE_TBL_STS :: M) c g) (ports : g.ports = c.ports)
    (h : g.cueTblDone.butTblCmd F = s.dev.butTblCmd F → P g.cueTblDone.showIrq) :
    Completes i s fun d => P d ∧ d.get fCUE_TBL_STS_RESULT = 1 ∧ (d.port p).code = 0 ∧
      s.dev.sameRegs d (rCUE_TBL_CMD :: rCUE_TBL_STS :: (M ++ cueTcmpRegs s.dev.cueTcmps)) := by
  obtain ⟨L, hL⟩ : ∃ L, L = rCUE_TBL_CMD :: rCUE_TBL_STS :: (M ++ cueTcmpRegs s.dev.cueTcmps) := ⟨_, rfl⟩
  obtain ⟨e, he⟩ : ∃ e, e = g.cueTblDone := ⟨_, rfl⟩
  have tcmps : g.cueTcmps = s.dev.cueTcmps := by
    have other : rCUE_CFG ∉ rCUE_TBL_STS :: M := fun hm => (List.mem_cons.mp hm).elim (by decide) cfg
    rw [Dev.cueTcmps_congr (acts.regs _ other), Dev.cueTcmps_congr (w.kept.regs _ (by decide))]
  have ends : Keeps Dev.butCueTcmp (rCUE_TBL_STS :: cueTcmpRegs s.dev.cueTcmps) g e := by
    rw [he, ← tcmps]; exact g.cueTblDone_keeps
  have keeps : Keeps (Dev.butTblCmd F) L s.dev e := by
    have first : Keeps (Dev.butTblCmd F) L s.dev c :=
      (w.kept.mono (M := L) (by rw [hL]; simp)).part fun y : Dev => F { y with time := { y.time with tcmp := [] }, cue := {} }
    have second : Keeps (Dev.butTblCmd F) L c g := acts.mono (by
      rw [hL]; intro a ha; simp only [List.mem_cons, List.mem_append] at ha ⊢; tauto)
    have third : Keeps (Dev.butTblCmd F) L g e :=
      (ends.mono (M := L) (by rw [hL]; intro a ha; simp only [List.mem_cons, List.mem_append] at ha ⊢; tauto)).part
        fun y : Dev => F { y with ports := [], cue := {} }
    exact (first.trans second).trans third
  have calmSame : e.calmPart = s.dev.calmPart := by
    have erased : ∀ y : Dev, (y.butTblCmd F).calmPart = y.calmPart := fun y => (hF _).trans rfl
    rw [← erased e, keeps.rest, erased]
  rw [hg, ← he] at hx
  rw [← hL]
  have calmApart : ∀ a ∈ calmRegs, a ∉ L := by rw [hL]; exact calmRegs_cueTbl s.dev hM
  refine completes_of_sameRegs hx calm keeps.regs calmApart calmSame ⟨?_, ?_, ?_, keeps.regs.showIrq⟩
  · rw [he]; exact h (by rw [← he]; exact keeps.rest)
  · rw [Dev.showIrq_get, he, Dev.cueTblDone_result]
  · rw [Dev.showIrq_port, he, Dev.port_congr (g.cueTblDone_ports.trans ports), w.code]

/-- The same for a command that changes the cue engine and its registers alone. -/
theorem cueTblPlain_completes {i : Instr} {s : State} {p : Port} {v : Word} {x : Nat} {g : Dev} {M : List Nat} {P : Dev → Prop}
    (calm : s.dev.calm = true) (w : CueTblWritten s.dev c p v) (hx : exec i s = s.done (c.cueTblCmd x))
    (hg : c.cueTblCmd x = g.cueTblDone) (hM : ∀ a ∈ calmRegs, a ∉ M) (cfg : rCUE_CFG ∉ M)
    (acts : Keeps Dev.butEngine (rCUE_TBL_STS :: M) c g) (ports : g.ports = c.ports) (h : P g.cueTblDone.showIrq) :
    Completes i s fun d => P d ∧ d.get fCUE_TBL_STS_RESULT = 1 ∧ (d.port p).code = 0 ∧
      s.dev.sameRegs d (rCUE_TBL_CMD :: rCUE_TBL_STS :: (M ++ cueTcmpRegs s.dev.cueTcmps)) ∧
      d = { s.dev with regs := d.regs, ports := d.ports, cue := d.cue, time := d.time, irqA := d.irqA, irqB := d.irqB } := by
  obtain ⟨e, he⟩ : ∃ e, e = g.cueTblDone := ⟨_, rfl⟩
  obtain ⟨t, ran, waits, ⟨own, frame⟩, result, code, regs⟩ := cueTbl_completes (F := id) calm w hx hg (fun _ => rfl) hM cfg
    (acts.part fun y : Dev => { y with ports := [] }) ports
    (P := fun d => P d ∧ d = { s.dev with regs := d.regs, ports := d.ports, cue := d.cue, time := d.time, irqA := d.irqA, irqB := d.irqB })
    fun keeps => by
      rw [← he] at keeps h ⊢
      exact ⟨h, congrArg (fun x : Dev => { x with regs := e.regs, ports := e.ports, cue := e.cue, time := e.time, irqA := e.irqPinA, irqB := e.irqPinB }) keeps⟩
  exact ⟨t, ran, waits, own, result, code, regs, frame⟩

/-! ## Disarm, arm and read -/

theorem Dev.setCue_keeps (d : Dev) (L : List Nat) (i : Nat) (x : CueSt) : Keeps Dev.butEngine L d (d.setCue i x) := Keeps.of_regs rfl rfl

@[simp] theorem Dev.cueSt_setCue (d : Dev) (i : Nat) (x : CueSt) : (d.setCue i x).cueSt i = x := kget_kset_same ..

/-- CUE_TBL_CMD disarm (R379). -/
theorem cueTblDisarm_completes (s : State) (p : Port) (v : Word) (i : Nat) (calm : s.dev.calm = true) (takes : s.dev.takes p rCUE_TBL_CMD)
    (hi : i = fCUE_TBL_CMD_CUE.get v) :
    Completes (.cueTblDisarm p v) s fun d =>
        d.cueSt i = { state := 2 } ∧
        d.get fCUE_TBL_STS_RESULT = 1 ∧
        (d.port p).code = 0 ∧
        (s.dev.sameRegs d (rCUE_TBL_CMD :: rCUE_TBL_STS :: (s.dev.cueTcmps.flatMap (fun n => [rTIME_TCMPnn_STS n, rTIME_TCMPnn_FIRE_CNT n])))) ∧
        d = { s.dev with regs := d.regs, ports := d.ports, cue := d.cue, time := d.time, irqA := d.irqA, irqB := d.irqB } := by
  obtain ⟨c, w, write⟩ := Dev.writeWith_cueTblCmd takes (by decide : 4 < 16) v
  have acts : c.cueTblCmd 4 = (c.setCue i { state := 2 }).cueTblDone := by rw [hi, ← w.cue]; rfl
  exact cueTblPlain_completes calm w (congrArg s.done write) acts (M := []) (by simp) (by simp) (c.setCue_keeps _ i _) (Dev.setCue_ports ..)
    (P := fun d => d.cueSt i = { state := 2 }) (by rw [Dev.showIrq_cueSt, Dev.cueTblDone_cueSt, Dev.cueSt_setCue])

/-- CUE_TBL_CMD arm with no error in any array (R379). -/
theorem cueTblArm_completes (s : State) (p : Port) (v : Word) (i : Nat) (calm : s.dev.calm = true) (takes : s.dev.takes p rCUE_TBL_CMD)
    (hi : i = fCUE_TBL_CMD_CUE.get v) (sound : s.dev.sound = true) :
    Completes (.cueTblArm p v) s fun d =>
        (d.cueSt i = (if s.dev.cueHas i 1 then ({ state := 1, due := s.dev.cueTarget i } : CueSt) else ({} : CueSt))) ∧
        d.get fCUE_TBL_STS_RESULT = 1 ∧
        (d.port p).code = 0 ∧
        (s.dev.sameRegs d (rCUE_TBL_CMD :: rCUE_TBL_STS :: (s.dev.cueTcmps.flatMap (fun n => [rTIME_TCMPnn_STS n, rTIME_TCMPnn_FIRE_CNT n])))) ∧
        d = { s.dev with regs := d.regs, ports := d.ports, cue := d.cue, time := d.time, irqA := d.irqA, irqB := d.irqB } := by
  obtain ⟨c, w, write⟩ := Dev.writeWith_cueTblCmd takes (by decide : 3 < 16) v
  have cSound : c.sound = true :=
    (Dev.sound_congr (d := s.dev) (congrArg (·.poison) w.kept.rest) (congrArg (·.integ) w.kept.rest)).trans sound
  have tbl : c.tbl = s.dev.tbl := congrArg (·.tbl) w.kept.rest
  have acts : c.cueTblCmd 3 = (c.setCue i (c.cueStart i)).cueTblDone := by
    rw [hi, ← w.cue]
    show ((c.cueReads _).setCue _ _).cueTblDone = _
    rw [Dev.cueReads_sound cSound]
  exact cueTblPlain_completes calm w (congrArg s.done write) acts (M := []) (by simp) (by simp) (c.setCue_keeps _ i _) (Dev.setCue_ports ..)
    (P := fun d => d.cueSt i = (if s.dev.cueHas i 1 then ({ state := 1, due := s.dev.cueTarget i } : CueSt) else ({} : CueSt)))
    (by rw [Dev.showIrq_cueSt, Dev.cueTblDone_cueSt, Dev.cueSt_setCue, Dev.cueStart_sound cSound, Dev.cueHas_congr tbl, Dev.cueTarget_congr tbl])

theorem leNat_lt (l : List Byte) : leNat l < 256 ^ l.length := by
  induction l with
  | nil => simp [leNat]
  | cons b t ih =>
    have := b.isLt
    simp only [leNat, List.length_cons, Nat.pow_succ]
    omega

theorem readBytes_length (m : Memory) (a n : Nat) : (readBytes m a n).length = n := by
  induction n generalizing a with
  | zero => rfl
  | succ n ih => simp [readBytes, ih]

theorem readWord32_lt (m : Memory) (a : Nat) : readWord32 m a < 2 ^ 32 := by
  have := leNat_lt (readBytes m a 4)
  rwa [readBytes_length] at this

/-- One word of a cue copied to CUE_TBL_DATA. -/
def Dev.cueTblCopy (i : Nat) (d : Dev) (k : Nat) : Dev :=
  d.setReg (rCUE_TBL_DATAk k) (BitVec.ofNat 32 (readWord32 d.tbl (cueBase i + 4 * k)))

theorem rCUE_TBL_DATAk_inj {j k : Nat} (h : rCUE_TBL_DATAk j = rCUE_TBL_DATAk k) : j = k := by
  simp only [rCUE_TBL_DATAk] at h; omega

theorem Dev.cueTblCopy_keeps (d : Dev) (i : Nat) :
    Keeps Dev.butRegs ((List.range 16).map rCUE_TBL_DATAk) d ((List.range 16).foldl (Dev.cueTblCopy i) d) :=
  Keeps.foldl (Dev.cueTblCopy i) _ (fun _ hk c => ⟨rfl, (Dev.sameRegs.refl c _).setReg (List.mem_map_of_mem hk) _⟩) d

theorem Dev.cueTblCopy_reg (d : Dev) (i : Nat) {k : Nat} (hk : k < 16) :
    (((List.range 16).foldl (Dev.cueTblCopy i) d).reg (rCUE_TBL_DATAk k)).toNat = readWord32 d.tbl (cueBase i + 4 * k) := by
  refine foldl_reaches (fun c => c.tbl = d.tbl) (fun c => (c.reg (rCUE_TBL_DATAk k)).toNat = readWord32 d.tbl (cueBase i + 4 * k))
    (Dev.cueTblCopy i) (List.mem_range.mpr hk) List.nodup_range (fun _ _ _ _ hc => hc) (fun c hc => ?_) (fun j _ hj c hc => ?_) rfl
  · rw [Dev.cueTblCopy, Dev.reg_setReg_same, BitVec.toNat_ofNat, hc, Nat.mod_eq_of_lt (readWord32_lt ..)]
  · rw [Dev.cueTblCopy, Dev.reg_setReg, if_neg fun h => hj (rCUE_TBL_DATAk_inj h), hc]

/-- CUE_TBL_CMD read (R379). -/
theorem cueTblRead_completes (s : State) (p : Port) (v : Word) (i : Nat) (calm : s.dev.calm = true) (takes : s.dev.takes p rCUE_TBL_CMD)
    (hi : i = fCUE_TBL_CMD_CUE.get v) :
    Completes (.cueTblRead p v) s fun d =>
        (∀ k ∈ List.range 16, (d.reg (rCUE_TBL_DATAk k)).toNat = readWord32 s.dev.tbl (cueBase i + 4 * k)) ∧
        d.get fCUE_TBL_STS_STATE = (s.dev.cueSt i).state % 4 ∧
        d.get fCUE_TBL_STS_RESULT = 1 ∧
        (d.port p).code = 0 ∧
        (s.dev.sameRegs d (rCUE_TBL_CMD :: rCUE_TBL_STS :: ((List.range 16).map rCUE_TBL_DATAk ++ s.dev.cueTcmps.flatMap (fun n => [rTIME_TCMPnn_STS n, rTIME_TCMPnn_FIRE_CNT n])))) ∧
        d = { s.dev with regs := d.regs, ports := d.ports, cue := d.cue, time := d.time, irqA := d.irqA, irqB := d.irqB } := by
  obtain ⟨c, w, write⟩ := Dev.writeWith_cueTblCmd takes (by decide : 2 < 16) v
  obtain ⟨f, hf⟩ : ∃ f, f = (List.range 16).foldl (Dev.cueTblCopy i) c := ⟨_, rfl⟩
  have copied : Keeps Dev.butRegs ((List.range 16).map rCUE_TBL_DATAk) c f := by rw [hf]; exact c.cueTblCopy_keeps i
  have cue : f.cueSt i = s.dev.cueSt i := by
    have cues : f.cue = s.dev.cue := (congrArg (·.cue) copied.rest : f.cue = c.cue).trans (congrArg (·.cue) w.kept.rest)
    unfold Dev.cueSt; rw [cues]
  obtain ⟨g, hg⟩ : ∃ g, g = f.put fCUE_TBL_STS_STATE (f.cueSt i).state := ⟨_, rfl⟩
  have acts : c.cueTblCmd 2 = g.cueTblDone := by rw [hg, hf, hi, ← w.cue]; rfl
  have keeps : Keeps Dev.butRegs (rCUE_TBL_STS :: (List.range 16).map rCUE_TBL_DATAk) c g := by
    rw [hg]
    exact (copied.mono (List.subset_cons_self ..)).trans
      ⟨rfl, (Dev.sameRegs.refl f _).put (f := fCUE_TBL_STS_STATE) List.mem_cons_self _⟩
  have data : ∀ k ∈ List.range 16, (g.cueTblDone.reg (rCUE_TBL_DATAk k)).toNat = readWord32 s.dev.tbl (cueBase i + 4 * k) := fun k hk => by
    have hk16 := List.mem_range.mp hk
    have apart : rCUE_TBL_DATAk k ∉ rCUE_TBL_STS :: cueTcmpRegs g.cueTcmps := fun hm => by
      obtain h | h := List.mem_cons.mp hm
      · simp only [rCUE_TBL_DATAk, rCUE_TBL_STS] at h; omega
      · exact g.not_mem_cueTcmpRegs (Or.inr (by simp only [rCUE_TBL_DATAk]; omega)) h
    have state : fCUE_TBL_STS_STATE.addr ≠ rCUE_TBL_DATAk k := by simp only [fCUE_TBL_STS_STATE, rCUE_TBL_DATAk]; omega
    have tbl : c.tbl = s.dev.tbl := congrArg (·.tbl) w.kept.rest
    rw [g.cueTblDone_keeps.regs _ apart, hg, Dev.reg_put_ne _ _ state, hf, Dev.cueTblCopy_reg _ _ hk16, tbl]
  obtain ⟨t, ran, waits, ⟨read, state⟩, rest⟩ := cueTblPlain_completes calm w (congrArg s.done write) acts (by decide) (by decide)
    (keeps.part fun y : Dev => { y with time := { y.time with tcmp := [] }, cue := {} }) (congrArg (·.ports) keeps.rest)
    (i := .cueTblRead p v)
    (P := fun d => (∀ k ∈ List.range 16, (d.reg (rCUE_TBL_DATAk k)).toNat = readWord32 s.dev.tbl (cueBase i + 4 * k)) ∧
      d.get fCUE_TBL_STS_STATE = (s.dev.cueSt i).state % 4) ⟨fun k hk => by rw [Dev.showIrq_reg, data k hk], by
        rw [Dev.showIrq_get, Dev.cueTblDone_state, hg, Dev.get_put_same _ fCUE_TBL_STS_STATE _ (by decide : 0 + 2 ≤ 32), cue]; rfl⟩
  exact ⟨t, ran, waits, read, state, rest⟩

end Sys2Proof.Machine
end

section
/-! CUE_TBL_CMD write (R379): a cue written to table memory, word by word. -/

namespace Sys2Proof.Machine

open Sys2Proof

variable {d c e : Dev}

/-! ## Bytes written in words of eight -/

theorem leBytes_leNat (l : List Byte) : leBytes l.length (leNat l) = l := by
  induction l with
  | nil => rfl
  | cons b t ih =>
    have := b.isLt
    have low : BitVec.ofNat 8 (b.toNat + 256 * leNat t) = b := BitVec.eq_of_toNat_eq (by rw [BitVec.toNat_ofNat]; omega)
    have high : (b.toNat + 256 * leNat t) / 256 = leNat t := by omega
    rw [List.length_cons, leNat, leBytes, low, high, ih]

theorem writeWord64_leNat (m : Memory) (a : Nat) {l : List Byte} (h : l.length = 8) : writeWord64 m a (leNat l) = writeBytes m a l := by
  rw [writeWord64, ← h, leBytes_leNat]

/-- The word at index `i` of a list of bytes. -/
def wordOf (bs : List Byte) (i : Nat) : Nat := leNat ((bs.drop (8 * i)).take 8)

/-- The first `n` words of a list of bytes written from `a` upwards. -/
def writeWords (bs : List Byte) (a n : Nat) (m : Memory) : Memory := (List.range n).foldl (fun m i => writeWord64 m (a + 8 * i) (wordOf bs i)) m

theorem writeWords_succ (bs : List Byte) (a n : Nat) (m : Memory) :
    writeWords bs a (n + 1) m = writeWord64 (writeWords bs a n m) (a + 8 * n) (wordOf bs n) := by
  rw [writeWords, List.range_succ, List.foldl_append]; rfl

/-- Words written one after the other hold the bytes; every other byte reads as before. -/
theorem readByte_writeWords (bs : List Byte) (a : Nat) (m : Memory) {n : Nat} (h : 8 * n ≤ bs.length) (j : Nat) :
    readByte (writeWords bs a n m) j = if a ≤ j ∧ j < a + 8 * n then bs.getD (j - a) 0 else readByte m j := by
  induction n with
  | zero => rw [if_neg (by omega)]; rfl
  | succ n ih =>
    have length : ((bs.drop (8 * n)).take 8).length = 8 := by rw [List.length_take, List.length_drop]; omega
    rw [writeWords_succ, wordOf, writeWord64_leNat _ _ length]
    by_cases inside : a + 8 * n ≤ j ∧ j < a + 8 * n + 8
    · obtain ⟨k, rfl⟩ : ∃ k, j = a + 8 * n + k := ⟨j - (a + 8 * n), by omega⟩
      have hk : k < ((bs.drop (8 * n)).take 8).length := by omega
      have inBs : a + 8 * n + k - a < bs.length := by omega
      have same : 8 * n + k = a + 8 * n + k - a := by omega
      rw [readByte_writeBytes_in _ _ _ _ hk, if_pos (by omega), List.getElem_take, List.getElem_drop, List.getD_eq_getElem _ _ inBs]
      simp only [same]
    · rw [readByte_writeBytes_out _ _ _ _ (by omega), ih (by omega)]
      by_cases before : a ≤ j ∧ j < a + 8 * n
      · rw [if_pos before, if_pos (by omega)]
      · rw [if_neg before, if_neg (by omega)]

theorem readBytes_of_getD {m : Memory} {a : Nat} {l : List Byte} (h : ∀ j < l.length, readByte m (a + j) = l.getD j 0) :
    readBytes m a l.length = l := by
  induction l generalizing a with
  | nil => rfl
  | cons b t ih =>
    rw [List.length_cons, readBytes, ih fun j hj => ?_]
    · exact congrArg (· :: t) (h 0 (by simp))
    · have := h (j + 1) (by simpa using hj)
      rw [show a + 1 + j = a + (j + 1) by omega, this]
      rfl

/-- Item `i` of a list of items of four bytes each. -/
theorem take_drop_flatMap_four {f : Nat → List Byte} (hf : ∀ k, (f k).length = 4) (l : List Nat) (i : Nat) (hi : i < l.length) :
    ((l.flatMap f).drop (4 * i)).take 4 = f l[i] := by
  induction l generalizing i with
  | nil => simp at hi
  | cons k t ih =>
    rw [List.flatMap_cons]
    cases i with
    | zero =>
      rw [Nat.mul_zero, List.drop_zero, ← hf k, List.take_left']
      · rfl
      · rfl
    | succ i =>
      have drops : (f k ++ t.flatMap f).drop (4 * (i + 1)) = (t.flatMap f).drop (4 * i) := by
        rw [show 4 * (i + 1) = (f k).length + 4 * i by rw [hf k]; omega, List.drop_length_add_append]
      rw [drops, ih i (by simpa using hi)]
      rfl

/-! ## The image of a cue -/

/-- The bytes in CUE_TBL_DATA. -/
def Dev.cueImage (d : Dev) : List Byte := (List.range 16).flatMap fun k => leBytes 4 (d.reg (rCUE_TBL_DATAk k)).toNat

theorem Dev.cueImage_length (d : Dev) : d.cueImage.length = 64 := by
  simp [Dev.cueImage, List.length_flatMap]

/-- The words of an image written at `a` read as the data words. -/
theorem readWord32_cueImage (d : Dev) (a : Nat) (m : Memory) {k : Nat} (hk : k < 16) :
    readWord32 (writeWords d.cueImage a 8 m) (a + 4 * k) = (d.reg (rCUE_TBL_DATAk k)).toNat := by
  obtain ⟨w, hw⟩ : ∃ w, w = leBytes 4 (d.reg (rCUE_TBL_DATAk k)).toNat := ⟨_, rfl⟩
  have length : w.length = 4 := by rw [hw, leBytes_length]
  have item : (d.cueImage.drop (4 * k)).take 4 = w := by
    rw [Dev.cueImage, take_drop_flatMap_four (fun _ => leBytes_length ..) _ _ (by simpa using hk), List.getElem_range, hw]
  have bytes : readBytes (writeWords d.cueImage a 8 m) (a + 4 * k) w.length = w := readBytes_of_getD fun j hj => by
    have image := d.cueImage_length
    rw [readByte_writeWords _ _ _ (by omega), if_pos (by omega), ← item, show a + 4 * k + j - a = 4 * k + j by omega]
    have four : j < 4 := by omega
    simp only [List.getD_eq_getElem?_getD, List.getElem?_take, List.getElem?_drop, if_pos four]
  rw [length] at bytes
  rw [readWord32, bytes, hw, leNat_leBytes]
  exact Nat.mod_eq_of_lt (BitVec.isLt _)

/-! ## Table memory written -/

/-- The device but for table memory and what the write of one of its words changes of the array's errors. -/
def Dev.butTable (d : Dev) : Dev := { d with tbl := [], poison := [], integ := { d.integ with weak := [], inj := [] } }

/-- The key of a table word among the errors of all arrays. -/
def tblKey (off : Nat) : Nat := 8388608 * 3 + off / 8

/-- No error of word `k` stands in a map. -/
def clearAt (k : Nat) (m : KMap Bool) : Prop := ∀ x ∈ m, x.1 ≠ k

theorem clearAt_kset_same (m : KMap Bool) (k : Nat) : clearAt k (kset false m k false) := fun x hx => by
  have := (List.mem_filter.mp hx).2
  simpa using this

theorem clearAt_kset {m : KMap Bool} {k : Nat} (h : clearAt k m) (j : Nat) : clearAt k (kset false m j false) := fun x hx =>
  h x (List.mem_filter.mp hx).1

/-- Word `k` holds none of the errors that a write removes. -/
def Dev.clearWord (d : Dev) (k : Nat) : Prop := clearAt k d.poison ∧ clearAt k d.integ.inj ∧ clearAt k d.integ.weak

/-- A word of table memory stored, its errors replaced. -/
def Dev.tblStored (d : Dev) (off v : Nat) : Dev :=
  { d with
    tbl := writeWord64 d.tbl off v
    poison := kset false d.poison (tblKey off) false
    integ := { d.integ with
      weak := kset false d.integ.weak (tblKey off) false
      inj := kset false d.integ.inj (tblKey off) false } }

/-- With no injection due a word of table memory written is clear of errors, and no other word gets one (R521, R537). -/
theorem Dev.tblWord_calm (h : d.injDue 3 = false) (off v : Nat) :
    (d.tblWord off v).tbl = writeWord64 d.tbl off v ∧ (d.tblWord off v).butTable = d.butTable ∧ (d.tblWord off v).clearWord (tblKey off) ∧
    ∀ k, d.clearWord k → (d.tblWord off v).clearWord k := by
  obtain ⟨b, hb⟩ : ∃ b, b = d.tblStored off v := ⟨_, rfl⟩
  have due : b.injDue 3 = false := by rw [hb]; exact h
  obtain ⟨x, written⟩ : ∃ x, d.tblWord off v = if (d.tblStored off v).injDue 3 then x else d.tblStored off v := ⟨_, rfl⟩
  rw [← hb, due, if_neg (by simp)] at written
  rw [written]
  refine ⟨by rw [hb]; rfl, by rw [hb]; rfl, ?_, fun k hk => ?_⟩
  · rw [hb]; exact ⟨clearAt_kset_same _ _, clearAt_kset_same _ _, clearAt_kset_same _ _⟩
  · obtain ⟨poison, inj, weak⟩ := hk
    rw [hb]; exact ⟨clearAt_kset poison _, clearAt_kset inj _, clearAt_kset weak _⟩

/-- The first `n` words of an image written to table memory. -/
def Dev.tblWords (d : Dev) (bs : List Byte) (a n : Nat) : Dev := (List.range n).foldl (fun d i => d.tblWord (a + 8 * i) (wordOf bs i)) d

theorem Dev.tblWords_succ (d : Dev) (bs : List Byte) (a n : Nat) :
    d.tblWords bs a (n + 1) = (d.tblWords bs a n).tblWord (a + 8 * n) (wordOf bs n) := by
  rw [Dev.tblWords, List.range_succ, List.foldl_append]; rfl

theorem Dev.injDue_congr {d e : Dev} (h : e.butTable = d.butTable) (k : Nat) : e.injDue k = d.injDue k := by
  have regs : e.regs = d.regs := congrArg (·.regs) h
  unfold Dev.injDue
  rw [Dev.on_of_regs regs, Dev.get_of_regs regs]

theorem Dev.tblWords_calm (h : d.injDue 3 = false) (bs : List Byte) (a n : Nat) :
    (d.tblWords bs a n).tbl = writeWords bs a n d.tbl ∧ (d.tblWords bs a n).butTable = d.butTable ∧
    ∀ i < n, (d.tblWords bs a n).clearWord (tblKey (a + 8 * i)) := by
  induction n with
  | zero => exact ⟨rfl, rfl, fun i hi => by omega⟩
  | succ n ih =>
    obtain ⟨tbl, rest, clear⟩ := ih
    obtain ⟨c, hc⟩ : ∃ c, c = d.tblWords bs a n := ⟨_, rfl⟩
    rw [← hc] at tbl rest clear
    obtain ⟨tbl', rest', same, other⟩ := Dev.tblWord_calm (d := c) ((Dev.injDue_congr rest 3).trans h) (a + 8 * n) (wordOf bs n)
    rw [Dev.tblWords_succ, writeWords_succ, ← hc]
    refine ⟨by rw [tbl', tbl], rest'.trans rest, fun i hi => ?_⟩
    obtain rfl | hi := Nat.lt_succ_iff_lt_or_eq.mp hi |>.symm
    · exact same
    · exact other _ (clear i hi)

/-- Words that hold no error are read without finding one. -/
theorem Dev.tblReads_clear (dead : d.integ.dead = []) (stuck : d.integ.stuck = []) {a n : Nat} (clear : ∀ i < n, d.clearWord (8388608 * 3 + a / 8 + i)) :
    d.tblReads a n = d := by
  have none : d.eccHits 3 (a / 8) n = [] := by
    have nil : ((d.poison ++ d.integ.dead ++ d.integ.inj ++ d.integ.weak ++ d.integ.stuck).filter fun e =>
        e.2 && decide (8388608 * 3 + a / 8 ≤ e.1) && decide (e.1 < 8388608 * 3 + a / 8 + n)) = [] := by
      refine List.filter_eq_nil_iff.mpr fun e he hit => ?_
      simp only [Bool.and_eq_true, decide_eq_true_eq] at hit
      obtain ⟨poison, inj, weak⟩ := clear (e.1 - (8388608 * 3 + a / 8)) (by omega)
      have key : e.1 = 8388608 * 3 + a / 8 + (e.1 - (8388608 * 3 + a / 8)) := by omega
      simp only [dead, stuck, List.append_nil, List.mem_append] at he
      obtain (he | he) | he := he
      · exact poison e he key
      · exact inj e he key
      · exact weak e he key
    rw [Dev.eccHits, nil]
    rfl
  rw [Dev.tblReads, Dev.eccReads, none]
  rfl

/-! ## The command -/

/-- A cue whose trigger kind the engine does not know is counted (R379). -/
def Dev.cueTblRefused (d : Dev) (i : Nat) : Dev := if 7 ≤ d.cueTrig i then d.inc rCUE_TBL_REFUSE_CNT else d

theorem Dev.cueTblRefused_keeps (d : Dev) (i : Nat) : Keeps Dev.butRegs [rCUE_TBL_REFUSE_CNT] d (d.cueTblRefused i) := by
  unfold Dev.cueTblRefused
  split
  · exact ⟨rfl, (Dev.sameRegs.refl d _).inc List.mem_cons_self⟩
  · exact Keeps.refl ..

theorem tblKey_cueBase (i k : Nat) : tblKey (cueBase i + 8 * k) = 8388608 * 3 + cueBase i / 8 + k := by
  simp only [tblKey, cueBase]; omega

/-- The cue as a write leaves it in table memory. -/
def Dev.cueTblStored (d : Dev) (i : Nat) : Dev := (d.tblWords d.cueImage (cueBase i) 8).cueTblRefused i

theorem Dev.cueTblCmd_write (d : Dev) {i : Nat} (hi : d.get fCUE_TBL_CMD_CUE = i) :
    d.cueTblCmd 1 = (((d.cueTblStored i).cueReads i).setCue i ((d.cueTblStored i).cueStart i)).cueTblDone := by
  subst hi
  rfl

theorem Dev.cueBad_congr (h : e.poison = d.poison) (h' : e.integ = d.integ) (i : Nat) : e.cueBad i = d.cueBad i := by
  simp only [Dev.cueBad, Dev.tblBad, Dev.sound_congr h h', Dev.tblHurt, Dev.poisoned, h, h']

theorem Dev.cueStart_congr (tbl : e.tbl = d.tbl) (poison : e.poison = d.poison) (integ : e.integ = d.integ) (i : Nat) :
    e.cueStart i = d.cueStart i := by
  simp only [Dev.cueStart, Dev.cueHas_congr tbl, Dev.cueTarget_congr tbl, Dev.cueBad_congr poison integ]

/-- The device but for table memory and its errors. -/
def Dev.butTblArray (d : Dev) : Dev := { d with tbl := [], poison := [], integ := {} }

/-- With no bit of table memory broken and no injection due, a cue is stored in table memory, every word clear of errors, so that
what reads it then finds none. -/
theorem Dev.cueTblStored_calm (dead : d.integ.dead = []) (stuck : d.integ.stuck = []) (due : d.injDue 3 = false) (i : Nat) :
    (d.cueTblStored i).tbl = writeWords d.cueImage (cueBase i) 8 d.tbl ∧
    Keeps (fun x => x.butRegs.butTblArray) [rCUE_TBL_REFUSE_CNT] d (d.cueTblStored i) ∧ (d.cueTblStored i).cueReads i = d.cueTblStored i := by
  obtain ⟨b, hb⟩ : ∃ b, b = d.tblWords d.cueImage (cueBase i) 8 := ⟨_, rfl⟩
  obtain ⟨bTbl, bRest, clear⟩ := Dev.tblWords_calm due d.cueImage (cueBase i) 8
  rw [← hb] at bTbl bRest clear
  obtain ⟨f, hf⟩ : ∃ f, f = b.cueTblRefused i := ⟨_, rfl⟩
  have refused : Keeps Dev.butRegs [rCUE_TBL_REFUSE_CNT] b f := by rw [hf]; exact b.cueTblRefused_keeps i
  have fInteg : f.integ = b.integ := congrArg (·.integ) refused.rest
  rw [Dev.cueTblStored, ← hb, ← hf]
  refine ⟨(congrArg (·.tbl) refused.rest : f.tbl = b.tbl).trans bTbl, ?_, Dev.tblReads_clear ?_ ?_ fun k hk => ?_⟩
  · have stored : b.butRegs.butTblArray = d.butRegs.butTblArray := by
      have erased := congrArg (fun x : Dev => x.butRegs.butTblArray) bRest
      exact erased
    have first : Keeps (fun x => x.butRegs.butTblArray) [rCUE_TBL_REFUSE_CNT] d b := Keeps.of_regs stored (congrArg (·.regs) bRest)
    exact first.trans (refused.part Dev.butTblArray)
  · rw [fInteg, show b.integ.dead = d.integ.dead from congrArg (·.integ.dead) bRest, dead]
  · rw [fInteg, show b.integ.stuck = d.integ.stuck from congrArg (·.integ.stuck) bRest, stuck]
  · have word := clear k hk
    rw [tblKey_cueBase] at word
    unfold Dev.clearWord
    rw [fInteg, show f.poison = b.poison from congrArg (·.poison) refused.rest]
    exact word

/-- A cue stored in table memory reads as the data words, and no other byte changes. -/
theorem Dev.cueImage_stored (tbl : e.tbl = writeWords c.cueImage (cueBase i) 8 d.tbl) (store : e.store = d.store) :
    (∀ k ∈ List.range 16, readWord32 e.tbl (cueBase i + 4 * k) = (c.reg (rCUE_TBL_DATAk k)).toNat) ∧ Dev.sameMemBut d e (cueBase i) 64 := by
  refine ⟨fun k hk => ?_, fun a ha => ?_, fun a => by rw [store]⟩
  · rw [tbl, readWord32_cueImage c _ _ (List.mem_range.mp hk)]
  · rw [tbl, readByte_writeWords _ _ _ (by rw [Dev.cueImage_length]), if_neg (by omega)]

@[simp] theorem Dev.showIrq_cueStart (d : Dev) (i : Nat) : d.showIrq.cueStart i = d.cueStart i := rfl

/-- CUE_TBL_CMD write (R379). -/
theorem cueTblWrite_completes (s : State) (p : Port) (v : Word) (i : Nat) (calm : s.dev.calm = true) (takes : s.dev.takes p rCUE_TBL_CMD)
    (hi : i = fCUE_TBL_CMD_CUE.get v) (dead : s.dev.integ.dead = []) (stuck : s.dev.integ.stuck = []) (due : s.dev.injDue 3 = false) :
    Completes (.cueTblWrite p v) s fun d =>
        (∀ k ∈ List.range 16, readWord32 d.tbl (cueBase i + 4 * k) = (s.dev.reg (rCUE_TBL_DATAk k)).toNat) ∧
        Dev.sameMemBut s.dev d (cueBase i) 64 ∧
        d.get fCUE_TBL_STS_RESULT = 1 ∧
        d.cueSt i = d.cueStart i ∧
        (d.port p).code = 0 ∧
        (s.dev.sameRegs d (rCUE_TBL_CMD :: rCUE_TBL_STS :: rCUE_TBL_REFUSE_CNT :: rINT_INJ_CMD :: (s.dev.cueTcmps.flatMap (fun n => [rTIME_TCMPnn_STS n, rTIME_TCMPnn_FIRE_CNT n])))) ∧
        d = { s.dev with regs := d.regs, ports := d.ports, tbl := d.tbl, poison := d.poison, integ := d.integ, cue := d.cue, time := d.time, irqA := d.irqA, irqB := d.irqB } := by
  obtain ⟨c, w, write⟩ := Dev.writeWith_cueTblCmd takes (by decide : 1 < 16) v
  have cInteg : c.integ = s.dev.integ := congrArg (·.integ) w.kept.rest
  have cDue : c.injDue 3 = false := by
    have armed : c.on fINT_INJ_CMD_ARMED = s.dev.on fINT_INJ_CMD_ARMED := w.kept.regs.on (by decide)
    have array : c.get fINT_INJ_CMD_ARRAY = s.dev.get fINT_INJ_CMD_ARRAY := w.kept.regs.get (by decide)
    rw [← due, Dev.injDue, armed, array, Dev.injDue]
  obtain ⟨f, hf⟩ : ∃ f, f = c.cueTblStored i := ⟨_, rfl⟩
  obtain ⟨fTbl, stored, reads⟩ := Dev.cueTblStored_calm (by rw [cInteg, dead]) (by rw [cInteg, stuck]) cDue i
  rw [← hf] at fTbl stored reads
  obtain ⟨g, hg⟩ : ∃ g, g = f.setCue i (f.cueStart i) := ⟨_, rfl⟩
  have acts : c.cueTblCmd 1 = g.cueTblDone := by rw [c.cueTblCmd_write (w.cue.trans hi.symm), ← hf, reads, hg]
  have own : Keeps (Dev.butTblCmd Dev.butTblArray) (rCUE_TBL_STS :: [rCUE_TBL_REFUSE_CNT, rINT_INJ_CMD]) c g := by
    have set : Keeps (Dev.butTblCmd Dev.butTblArray) (rCUE_TBL_STS :: [rCUE_TBL_REFUSE_CNT, rINT_INJ_CMD]) f g := by
      rw [hg]; exact (f.setCue_keeps _ i _).part fun y : Dev => Dev.butTblArray { y with ports := [] }
    exact ((stored.mono (by decide)).part (Dev.butTblCmd id)).trans set
  have ports : g.ports = c.ports := (by rw [hg]; rfl : g.ports = f.ports).trans (congrArg (·.ports) stored.rest)
  obtain ⟨e, he⟩ : ∃ e, e = g.cueTblDone := ⟨_, rfl⟩
  have ends : Keeps Dev.butCueTcmp (rCUE_TBL_STS :: cueTcmpRegs g.cueTcmps) g e := by rw [he]; exact g.cueTblDone_keeps
  obtain ⟨eTbl, ePoison, eInteg⟩ : e.tbl = f.tbl ∧ e.poison = f.poison ∧ e.integ = f.integ := by
    rw [hg] at ends
    exact ⟨congrArg (·.tbl) ends.rest, congrArg (·.poison) ends.rest, congrArg (·.integ) ends.rest⟩
  have start : e.cueSt i = e.cueStart i := by
    rw [Dev.cueStart_congr eTbl ePoison eInteg, he, Dev.cueTblDone_cueSt, hg, Dev.cueSt_setCue]
  have image : e.tbl = writeWords c.cueImage (cueBase i) 8 s.dev.tbl := by
    rw [eTbl, fTbl, show c.tbl = s.dev.tbl from congrArg (·.tbl) w.kept.rest]
  obtain ⟨t, ran, waits, ⟨words, mem, cue, frame⟩, result, code, regs⟩ := cueTbl_completes (F := Dev.butTblArray) calm w (congrArg s.done write) acts
    (fun _ => rfl) (by decide) (by decide) own ports (i := .cueTblWrite p v)
    (P := fun d => (∀ k ∈ List.range 16, readWord32 d.tbl (cueBase i + 4 * k) = (s.dev.reg (rCUE_TBL_DATAk k)).toNat) ∧
      Dev.sameMemBut s.dev d (cueBase i) 64 ∧ d.cueSt i = d.cueStart i ∧
      d = { s.dev with regs := d.regs, ports := d.ports, tbl := d.tbl, poison := d.poison, integ := d.integ, cue := d.cue, time := d.time, irqA := d.irqA, irqB := d.irqB })
    fun keeps => by
      rw [← he] at keeps ⊢
      obtain ⟨words, mem⟩ := Dev.cueImage_stored (e := e.showIrq) image (congrArg (·.store) keeps)
      refine ⟨fun k hk => ?_, mem, by rw [Dev.showIrq_cueSt, Dev.showIrq_cueStart, start], ?_⟩
      · have other : rCUE_TBL_DATAk k ∉ [rCUE_TBL_CMD] := by simp only [rCUE_TBL_DATAk, rCUE_TBL_CMD, List.mem_singleton]; omega
        rw [words k hk, w.kept.regs _ other]
      · exact congrArg (fun x : Dev => { x with regs := e.regs, ports := e.ports, tbl := e.tbl, poison := e.poison, integ := e.integ, cue := e.cue, time := e.time, irqA := e.irqPinA, irqB := e.irqPinB }) keeps
  exact ⟨t, ran, waits, words, mem, result, cue, code, regs, frame⟩

/-- Settles O33: each command of the cue engine by its own lemma. -/
theorem cuesAreEnabledAndEdited : Obligations.CuesAreEnabledAndEdited :=
  ⟨cueEnable_completes, cueEnable_bad_completes, cueEnable_refused_completes, cueDisable_completes, cueTblWrite_completes, cueTblRead_completes,
    cueTblArm_completes, cueTblDisarm_completes⟩

end Sys2Proof.Machine
end

section
/-! The time base (R41): one TCLK edge, its visible fraction and its nominal addend. -/

namespace Sys2Proof.Machine

open Sys2Proof

/-- The addend is a 48-bit number (R41). -/
theorem Dev.addend_lt (d : Dev) : d.addend < 2 ^ 48 := by
  have low := (d.reg rTIME_ADDEND_L).isLt
  unfold Dev.addend
  omega

/-- What the nanoseconds of an edge come to before they wrap. -/
def TimeSt.edgeNs (t : TimeSt) (addend : Nat) : Nat := t.ns.toNat + addend / 2 ^ 40 + (t.frac.toNat + addend % 2 ^ 40) / 2 ^ 40

theorem TimeSt.edge_frac (t : TimeSt) (addend : Nat) : (t.edge addend).frac.toNat = (t.frac.toNat + addend % 2 ^ 40) % 2 ^ 40 := by
  unfold TimeSt.edge
  dsimp only
  split <;> exact BitVec.toNat_ofNat ..

/-- The nanoseconds fit their 30 bits on both sides of the wrap. -/
theorem TimeSt.edge_ns (t : TimeSt) {addend : Nat} (h : addend < 2 ^ 48) :
    (t.edge addend).ns.toNat = if 1000000000 ≤ t.edgeNs addend then t.edgeNs addend - 1000000000 else t.edgeNs addend := by
  have ns := t.ns.isLt
  have frac := t.frac.isLt
  have bound : t.edgeNs addend < 2 ^ 30 + 1000000000 := by unfold TimeSt.edgeNs; omega
  unfold TimeSt.edge
  dsimp only
  rw [← TimeSt.edgeNs]
  split
  · rw [BitVec.toNat_ofNat]; exact Nat.mod_eq_of_lt (by omega)
  · rw [BitVec.toNat_ofNat]; exact Nat.mod_eq_of_lt (by omega)

theorem TimeSt.edge_sec (t : TimeSt) (addend : Nat) :
    (t.edge addend).sec.toNat = if 1000000000 ≤ t.edgeNs addend then (t.sec.toNat + 1) % 2 ^ 48 else t.sec.toNat := by
  unfold TimeSt.edge
  dsimp only
  rw [← TimeSt.edgeNs]
  split
  · exact BitVec.toNat_add ..
  · rfl

theorem Dev.tick_time {d : Dev} (runs : d.timeRuns = true) : d.tick.time = d.time.edge d.addend := by rw [Dev.tick, if_pos runs]

/-- TIME_NOW_FRAC shows bits 39 to 24 of the fraction. -/
theorem Dev.regValue_nowFrac (d : Dev) : d.regValue rTIME_NOW_FRAC = BitVec.ofNat 32 (d.time.frac.toNat / 2 ^ 24) := by
  have frac := d.time.frac.isLt
  have visible : ((d.time.frac >>> 24).setWidth 16).toNat = d.time.frac.toNat / 2 ^ 24 := by
    rw [BitVec.toNat_setWidth, BitVec.toNat_ushiftRight, Nat.shiftRight_eq_div_pow]
    exact Nat.mod_eq_of_lt (by omega)
  show BitVec.ofNat 32 ((d.time.frac >>> 24).setWidth 16).toNat = _
  rw [visible]

/-- Settles O58: the three parts of an edge, the visible fraction, and the addend after reset. -/
theorem timeBaseAddsItsAddend : Obligations.TimeBaseAddsItsAddend := by
  refine ⟨?_, Dev.regValue_nowFrac, by decide⟩
  rintro d sum ns runs rfl rfl
  rw [Dev.tick_time runs]
  exact ⟨d.time.edge_frac d.addend, d.time.edge_ns d.addend_lt, d.time.edge_sec d.addend⟩

end Sys2Proof.Machine
end

section
/-! A 32-bit read of a plain register (R418): what it returns, and the registers that it latches for the port. -/

namespace Sys2Proof.Machine

open Sys2Proof

theorem lanes_b32 {a v : Nat} (ha : a % 4 = 0) (hv : v < 2 ^ 32) : lanes a .b32 v = v := by
  rw [lanes, ha, accBytes, Nat.pow_zero, Nat.div_one]
  exact Nat.mod_eq_of_lt hv

/-- Each register of a list latched for the port. -/
def Dev.latchAll (d : Dev) (p : Port) (l : List Nat) : Dev := l.foldl (fun d b => d.latch p b (d.regValue b)) d

/-- The register at `a` is implemented, and a read of it changes nothing but what it latches: it is not popped, is no live count, and
holds no capture field. -/
def plainRead (a : Nat) : Bool :=
  decide (a < 0x400000) && decide (a % 4 = 0) && (regAt a).isSome && !popOrCap a && blockOf a != 16 &&
    !decide (a ∈ [rGLB_IGN_REC_L, rGLB_WDOG_LEFT, rTIME_STEP_SIZE_L, rDDR_ECC_LOG])

theorem Dev.busRead_plain {d : Dev} {p : Port} {a : Nat} (check : d.accCheck p a .b32 false = none) (plain : plainRead a = true) :
    (d.busRead p a .b32).2 = (d.latchAll p (latchedBy a)).answer p [(d.portValue p a).toNat] := by
  simp only [plainRead, Bool.and_eq_true, decide_eq_true_eq, Bool.not_eq_true', bne_iff_ne, ne_eq, decide_eq_false_iff_not, List.mem_cons,
    List.not_mem_nil, or_false, not_or] at plain
  obtain ⟨⟨⟨⟨⟨low, aligned⟩, row⟩, noCap⟩, notQueue⟩, notIgn, notWdog, notStep, notEcc⟩ := plain
  have word : a / 4 * 4 = a := by omega
  have place : d.place p a = .reg := by simp only [Dev.place, low, word, row, if_true]
  have kept : ∀ c : Dev, c.clearCap a = c := fun c => by
    simp only [Dev.clearCap, notStep, notEcc, noCap, if_false, Bool.false_eq_true, ite_self]
  have read : d.regRead p a true = ((d.portValue p a).toNat, d.latchAll p (latchedBy a)) := by
    simp only [Dev.regRead, notIgn, notWdog, notQueue, false_and, if_false, if_true, kept, Dev.latchAll]
  have whole : (AccSize.b32 == AccSize.b32) = true := rfl
  simp only [Dev.busRead, check, place, word, whole, read, lanes_b32 aligned (d.portValue p a).isLt]

theorem Dev.latched_latch (d : Dev) (p : Port) (a b : Nat) (w : Word) :
    (d.latch p a w).latched p b = if a = b then some w else d.latched p b := by
  unfold Dev.latched Dev.latch
  rw [Dev.port_setPort_same]
  exact kget_kset none (d.port p).latch a b (some w)

@[simp] theorem Dev.latched_answer (d : Dev) (p : Port) (l : List Nat) (a : Nat) : (d.answer p l).latched p a = d.latched p a := by
  unfold Dev.latched Dev.answer
  rw [Dev.port_setPort_same]

@[simp] theorem Dev.answer_resp (d : Dev) (p : Port) (l : List Nat) : ((d.answer p l).port p).resp = l := by simp [Dev.answer]

@[simp] theorem Dev.showIrq_latched (d : Dev) (p : Port) (a : Nat) : d.showIrq.latched p a = d.latched p a := rfl

theorem Dev.latchAll_regs (d : Dev) (p : Port) (l : List Nat) : (d.latchAll p l).regs = d.regs :=
  foldl_keeps Dev.regs (fun c b => c.latch p b (c.regValue b)) l (fun _ _ _ => rfl) d

theorem Dev.latchAll_butRegsPorts (d : Dev) (p : Port) (l : List Nat) : (d.latchAll p l).butRegsPorts = d.butRegsPorts :=
  foldl_keeps Dev.butRegsPorts (fun c b => c.latch p b (c.regValue b)) l (fun _ _ _ => rfl) d

/-- A register outside the list keeps what the port has latched for it. -/
theorem Dev.latched_latchAll_skip (d : Dev) (p : Port) {a : Nat} (l : List Nat) (h : a ∉ l) : (d.latchAll p l).latched p a = d.latched p a := by
  induction l generalizing d with
  | nil => rfl
  | cons b t ih =>
    obtain ⟨hb, ht⟩ := not_or.mp (mt List.mem_cons.mpr h)
    exact (ih _ ht).trans ((d.latched_latch p b a _).trans (if_neg (Ne.symm hb)))

/-- The first register of the list is latched as it stands. -/
theorem Dev.latched_latchAll_head (d : Dev) (p : Port) {a : Nat} {l : List Nat} (h : a ∉ l) :
    (d.latchAll p (a :: l)).latched p a = some (d.regValue a) :=
  (Dev.latched_latchAll_skip _ p l h).trans ((d.latched_latch p a a _).trans (if_pos rfl))

end Sys2Proof.Machine
end

section
/-! Captures (R68, R69): edges, the read of the oldest one, and the write of CFG. -/

namespace Sys2Proof.Machine

open Sys2Proof

variable {d : Dev} {n : Nat}

/-! ## A capture FIFO -/

/-- The device but for its registers, its ports and its capture FIFOs. -/
def Dev.butTcapPorts (d : Dev) : Dev := { d with regs := [], ports := [], time := { d.time with tcap := [] } }

@[simp] theorem Dev.tcapOf_setTcap_same (d : Dev) (n : Nat) (l : List Time94) : (d.setTcap n l).tcapOf n = l := kget_kset_same ..

@[simp] theorem Dev.showIrq_tcapOf (d : Dev) (n : Nat) : d.showIrq.tcapOf n = d.tcapOf n := rfl

theorem Dev.setTcap_level (d : Dev) (n : Nat) (l : List Time94) : (d.setTcap n l).reg (rTIME_TCAPnn_STS n) = BitVec.ofNat 32 l.length :=
  Dev.reg_setReg_same ..

theorem Dev.setTcap_sameRegs (d : Dev) (n : Nat) (l : List Time94) : d.sameRegs (d.setTcap n l) [rTIME_TCAPnn_STS n] :=
  Dev.sameRegs.setReg (e := { d with time := { d.time with tcap := kset [] d.time.tcap n l } }) (fun _ _ => rfl) List.mem_cons_self _

theorem Dev.setTcap_keeps (d : Dev) (n : Nat) (l : List Time94) : Keeps Dev.butTcapPorts [rTIME_TCAPnn_STS n] d (d.setTcap n l) :=
  ⟨rfl, d.setTcap_sameRegs n l⟩

/-- The registers of a capture lie apart from those that `Dev.calm` reads. -/
theorem calmRegs_tcap (n : Fin 16) :
    ∀ a ∈ calmRegs, a ∉ [rTIME_TCAPnn_CFG n.val, rTIME_TCAPnn_STS n.val, rTIME_TCAPnn_OVF_CNT n.val] := by revert n; decide

/-! ## Edges -/

/-- A selected edge of an enabled capture is appended, or counted where the FIFO is full (R68). -/
theorem Dev.tcapEdge_selected {up : Bool} (runs : d.timeRuns = true) (en : d.on (fTIME_TCAPnn_CFG_EN n) = true) (sees : d.tcapSees n = true)
    (edge : d.get (fTIME_TCAPnn_CFG_EDGE n) / (if up then 1 else 2) % 2 = 1) :
    d.tcapEdge n up = if 4 ≤ (d.tcapOf n).length then d.inc (rTIME_TCAPnn_OVF_CNT n) else d.setTcap n (d.tcapOf n ++ [d.time.now94]) := by
  simp [Dev.tcapEdge, runs, en, sees, edge]

/-- The first clause of O10: an edge while the FIFO holds fewer than four. -/
theorem tcapEdge_appends (s : State) (n : Fin 16) (up : Bool) (calm : s.dev.calm = true) (runs : s.dev.timeRuns = true)
    (en : s.dev.on (fTIME_TCAPnn_CFG_EN n.val) = true) (sees : s.dev.tcapSees n.val = true)
    (edge : s.dev.get (fTIME_TCAPnn_CFG_EDGE n.val) / (if up then 1 else 2) % 2 = 1) (room : (s.dev.tcapOf n.val).length < 4) :
    Completes (.tcapEdge n up) s fun d =>
        d.tcapOf n.val = s.dev.tcapOf n.val ++ [s.dev.time.now94] ∧
        d.reg (rTIME_TCAPnn_STS n.val) = BitVec.ofNat 32 ((s.dev.tcapOf n.val).length + 1) ∧
        s.dev.sameRegs d [rTIME_TCAPnn_STS n.val] ∧
        d = { s.dev with regs := d.regs, time := d.time, irqA := d.irqA, irqB := d.irqB } := by
  have hx : exec (.tcapEdge n up) s = s.done (s.dev.setTcap n.val (s.dev.tcapOf n.val ++ [s.dev.time.now94])) := by
    show s.done (s.dev.tcapEdge n.val up) = _
    rw [Dev.tcapEdge_selected runs en sees edge, if_neg (Nat.not_le.mpr room)]
  refine completes_of_sameRegs hx calm (s.dev.setTcap_sameRegs n.val _) (apart_of_subset (calmRegs_tcap n) (by simp)) rfl
    ⟨?_, ?_, (s.dev.setTcap_sameRegs n.val _).showIrq, rfl⟩
  · rw [Dev.showIrq_tcapOf, Dev.tcapOf_setTcap_same]
  · rw [Dev.showIrq_reg, Dev.setTcap_level, List.length_append, List.length_singleton]

/-- The second clause of O10: an edge while the FIFO is full. -/
theorem tcapEdge_overflows (s : State) (n : Fin 16) (up : Bool) (calm : s.dev.calm = true) (runs : s.dev.timeRuns = true)
    (en : s.dev.on (fTIME_TCAPnn_CFG_EN n.val) = true) (sees : s.dev.tcapSees n.val = true)
    (edge : s.dev.get (fTIME_TCAPnn_CFG_EDGE n.val) / (if up then 1 else 2) % 2 = 1) (full : 4 ≤ (s.dev.tcapOf n.val).length) :
    Completes (.tcapEdge n up) s fun d =>
        (d.reg (rTIME_TCAPnn_OVF_CNT n.val)).toNat = min ((s.dev.reg (rTIME_TCAPnn_OVF_CNT n.val)).toNat + 1) (2 ^ 32 - 1) ∧
        s.dev.sameRegs d [rTIME_TCAPnn_OVF_CNT n.val] ∧
        d = { s.dev with regs := d.regs, irqA := d.irqA, irqB := d.irqB } := by
  have hx : exec (.tcapEdge n up) s = s.done (s.dev.inc (rTIME_TCAPnn_OVF_CNT n.val)) := by
    show s.done (s.dev.tcapEdge n.val up) = _
    rw [Dev.tcapEdge_selected runs en sees edge, if_pos full]
  have regs : s.dev.sameRegs (s.dev.inc (rTIME_TCAPnn_OVF_CNT n.val)) [rTIME_TCAPnn_OVF_CNT n.val] :=
    (Dev.sameRegs.refl _ _).inc List.mem_cons_self
  exact completes_of_sameRegs hx calm regs (apart_of_subset (calmRegs_tcap n) (by simp)) rfl ⟨Dev.reg_inc_same .., regs.showIrq, rfl⟩

/-! ## The write of CFG -/

/-- The row of TIME_TCAPnn_CFG in the register summary. -/
def tcapCfgRow : RegDesc := { base := 0x31800, s1 := 0x20, c1 := 16, wr := 0x1F0301, cmd := 0x80000000 }

theorem regAt_tcapCfg (n : Fin 16) : regAt (rTIME_TCAPnn_CFG n.val) = some (tcapCfgRow, n.val, 0) := by fin_cases n <;> rfl

theorem blockOf_tcapCfg (n : Fin 16) : blockOf (rTIME_TCAPnn_CFG n.val) = 3 := by revert n; decide

theorem plainReg_tcapCfg (n : Fin 16) : plainReg (rTIME_TCAPnn_CFG n.val) n.val = true ∧ tcmpReg (rTIME_TCAPnn_CFG n.val) = false := by
  revert n; decide

/-- The device with CFG of capture `n` as a write of `v` by port `p` stores it. -/
def Dev.tcapStored (d : Dev) (n : Nat) (p : Port) (v : Word) : Dev :=
  (d.answer p []).setReg (rTIME_TCAPnn_CFG n) (merged (w32 0x1F0301) (d.reg (rTIME_TCAPnn_CFG n)) v)

theorem Dev.tcapStored_keeps (d : Dev) (n : Nat) (p : Port) (v : Word) :
    Keeps Dev.butTcapPorts [rTIME_TCAPnn_CFG n] d (d.tcapStored n p v) :=
  ⟨rfl, (d.answer_sameRegs p [] _).setReg List.mem_cons_self _⟩

theorem Dev.tcapStored_en (d : Dev) (n : Nat) (p : Port) (v : Word) :
    (d.tcapStored n p v).on (fTIME_TCAPnn_CFG_EN n) = ((fTIME_TCAPnn_CFG_EN n).get v != 0) := by
  have within : (fTIME_TCAPnn_CFG_EN n).within (w32 0x1F0301) = true := (by decide : Fld.within ⟨0, 0, 1⟩ (w32 0x1F0301) = true)
  unfold Dev.on Dev.tcapStored
  rw [Dev.get_setReg, if_pos (show rTIME_TCAPnn_CFG n = (fTIME_TCAPnn_CFG_EN n).addr from rfl), Fld.get_merged_within within]

/-- A write of CFG pops where POP says so, and empties the FIFO where EN is 0 (R69). -/
def Dev.tcapCtl (d : Dev) (n : Nat) (pop : Bool) : Dev :=
  let c := if pop then d.tcapPop n else d
  if c.on (fTIME_TCAPnn_CFG_EN n) then c else c.tcapEmpty n

theorem Dev.writeWith_tcapCfg {n : Fin 16} {p : Port} (takes : d.takes p (rTIME_TCAPnn_CFG n.val)) {f : Fld}
    (ha : f.addr = rTIME_TCAPnn_CFG n.val) (x : Nat) (v : Word) :
    d.writeWith {} p f x v = (d.tcapStored n.val p (f.put v x)).tcapCtl n.val ((fTIME_TCAPnn_CFG_POP n.val).get (f.put v x) == 1) := by
  obtain ⟨plain, tcmp⟩ := plainReg_tcapCfg n
  have row := regAt_tcapCfg n
  have low : rTIME_TCAPnn_CFG n.val < 0x400000 := by simp only [rTIME_TCAPnn_CFG]; omega
  have aligned : rTIME_TCAPnn_CFG n.val / 4 * 4 = rTIME_TCAPnn_CFG n.val := by simp only [rTIME_TCAPnn_CFG]; omega
  have block := blockOf_tcapCfg n
  have other : rTIME_TCAPnn_CFG n.val ≠ rTIME_CTL ∧ rTIME_TCAPnn_CFG n.val ≠ rTIME_PPS_OUT_CFG ∧
      rTIME_TCAPnn_CFG n.val ≠ rTIME_TCMPnn_CTL n.val := by
    simp only [rTIME_TCAPnn_CFG, rTIME_CTL, rTIME_PPS_OUT_CFG, rTIME_TCMPnn_CTL]; omega
  obtain ⟨ctl, pps, cmp⟩ := other
  have pop : (fTIME_TCAPnn_CFG_POP n.val).within (w32 tcapCfgRow.cmd) = true :=
    (by decide : Fld.within ⟨0, 31, 1⟩ (w32 0x80000000) = true)
  rw [Dev.writeWith, ha, Dev.busWrite_reg takes low (by rw [aligned, row]; rfl),
    Dev.regWrite_plain row plain fun h => absurd (tcmp ▸ h) Bool.false_ne_true, Dev.regStore_free rfl]
  simp only [Dev.writeEffect, block, Dev.fxTime, ctl, pps, cmp, if_false, if_true, cmdOf, Fld.get_and_within pop, Dev.tcapCtl, beq_iff_eq]
  rfl

/-- POP written with EN = 1. -/
theorem Dev.tcapCtl_pop (en : d.on (fTIME_TCAPnn_CFG_EN n) = true) : d.tcapCtl n true = d.tcapPop n := by
  have apart : (fTIME_TCAPnn_CFG_EN n).addr ∉ [rTIME_TCAPnn_STS n] := by
    simp only [fTIME_TCAPnn_CFG_EN, rTIME_TCAPnn_STS, List.mem_singleton]; omega
  have popped : (d.tcapPop n).on (fTIME_TCAPnn_CFG_EN n) = true := ((d.setTcap_sameRegs n _).on apart).trans en
  simp only [Dev.tcapCtl, if_true, popped]

/-- EN written 0 empties the FIFO, whether POP is written or not. -/
theorem Dev.tcapCtl_off (off : d.on (fTIME_TCAPnn_CFG_EN n) = false) (pop : Bool) :
    ∃ c, Keeps Dev.butTcapPorts [rTIME_TCAPnn_STS n] d c ∧ d.tcapCtl n pop = c.setTcap n [] := by
  have apart : (fTIME_TCAPnn_CFG_EN n).addr ∉ [rTIME_TCAPnn_STS n] := by
    simp only [fTIME_TCAPnn_CFG_EN, rTIME_TCAPnn_STS, List.mem_singleton]; omega
  have keeps : Keeps Dev.butTcapPorts [rTIME_TCAPnn_STS n] d (if pop then d.tcapPop n else d) := by
    split
    · exact d.setTcap_keeps n _
    · exact Keeps.refl ..
  refine ⟨_, keeps, ?_⟩
  simp only [Dev.tcapCtl, keeps.regs.on apart, off, Bool.false_eq_true, if_false, Dev.tcapEmpty]

/-- What every write of CFG leaves as it was. -/
theorem tcapWrite_completes {i : Instr} {s : State} {n : Fin 16} {e : Dev} {P : Dev → Prop} (hx : exec i s = s.done e)
    (calm : s.dev.calm = true) (keeps : Keeps Dev.butTcapPorts [rTIME_TCAPnn_CFG n.val, rTIME_TCAPnn_STS n.val] s.dev e)
    (h : s.dev.sameRegs e.showIrq [rTIME_TCAPnn_CFG n.val, rTIME_TCAPnn_STS n.val] ∧
      e.showIrq = { s.dev with regs := e.regs, ports := e.ports, time := e.time, irqA := e.irqPinA, irqB := e.irqPinB } → P e.showIrq) :
    Completes i s P :=
  completes_of_sameRegs hx calm keeps.regs (apart_of_subset (calmRegs_tcap n) (by simp)) (congrArg (·.calmPart) keeps.rest)
    (h ⟨keeps.regs.showIrq, congrArg
      (fun x : Dev => { x with regs := e.regs, ports := e.ports, time := e.time, irqA := e.irqPinA, irqB := e.irqPinB }) keeps.rest⟩)

/-- The third clause of O10: POP of an enabled capture. -/
theorem tcapPop_completes (s : State) (n : Fin 16) (p : Port) (v : Word) (calm : s.dev.calm = true)
    (takes : s.dev.takes p (rTIME_TCAPnn_CFG n.val)) (en : (fTIME_TCAPnn_CFG_EN n.val).get v = 1) :
    Completes (.tcapPop n p v) s fun d =>
        d.tcapOf n.val = (s.dev.tcapOf n.val).tail ∧
        d.reg (rTIME_TCAPnn_STS n.val) = BitVec.ofNat 32 ((s.dev.tcapOf n.val).length - 1) ∧
        s.dev.sameRegs d [rTIME_TCAPnn_CFG n.val, rTIME_TCAPnn_STS n.val] ∧
        d = { s.dev with regs := d.regs, ports := d.ports, time := d.time, irqA := d.irqA, irqB := d.irqB } := by
  obtain ⟨w, hw⟩ : ∃ w, w = (fTIME_TCAPnn_CFG_POP n.val).put v 1 := ⟨_, rfl⟩
  have ok : (fTIME_TCAPnn_CFG_POP n.val).ok := (by decide : 31 + 1 ≤ 32)
  have pops : (fTIME_TCAPnn_CFG_POP n.val).get w = 1 := by rw [hw]; exact Fld.get_put _ ok v 1
  have enabled : (s.dev.tcapStored n.val p w).on (fTIME_TCAPnn_CFG_EN n.val) = true := by
    rw [Dev.tcapStored_en, hw, Fld.get_put_apart _ (fTIME_TCAPnn_CFG_EN n.val) ok (Or.inr (by decide : 0 + 1 ≤ 31)), en]
    rfl
  have hx : exec (.tcapPop n p v) s = s.done ((s.dev.tcapStored n.val p w).setTcap n.val (s.dev.tcapOf n.val).tail) := by
    show s.done (s.dev.writeWith {} p (fTIME_TCAPnn_CFG_POP n.val) 1 v) = _
    rw [Dev.writeWith_tcapCfg takes rfl, ← hw, pops, beq_self_eq_true, Dev.tcapCtl_pop enabled]
    rfl
  have keeps := ((s.dev.tcapStored_keeps n.val p w).mono (M := [rTIME_TCAPnn_CFG n.val, rTIME_TCAPnn_STS n.val]) (by simp)).trans
    ((Dev.setTcap_keeps _ n.val (s.dev.tcapOf n.val).tail).mono (by simp))
  refine tcapWrite_completes hx calm keeps fun frame => ⟨?_, ?_, frame⟩
  · rw [Dev.showIrq_tcapOf, Dev.tcapOf_setTcap_same]
  · rw [Dev.showIrq_reg, Dev.setTcap_level, List.length_tail]

/-- The fifth clause of O10: EN written 0. -/
theorem tcapDisable_completes (s : State) (n : Fin 16) (p : Port) (v : Word) (calm : s.dev.calm = true)
    (takes : s.dev.takes p (rTIME_TCAPnn_CFG n.val)) :
    Completes (.tcapDisable n p v) s fun d =>
        d.tcapOf n.val = [] ∧
        d.reg (rTIME_TCAPnn_STS n.val) = 0 ∧
        d.on (fTIME_TCAPnn_CFG_EN n.val) = false ∧
        s.dev.sameRegs d [rTIME_TCAPnn_CFG n.val, rTIME_TCAPnn_STS n.val] ∧
        d = { s.dev with regs := d.regs, ports := d.ports, time := d.time, irqA := d.irqA, irqB := d.irqB } := by
  obtain ⟨w, hw⟩ : ∃ w, w = (fTIME_TCAPnn_CFG_EN n.val).put v 0 := ⟨_, rfl⟩
  have off : (s.dev.tcapStored n.val p w).on (fTIME_TCAPnn_CFG_EN n.val) = false := by
    rw [Dev.tcapStored_en, hw, Fld.get_put (fTIME_TCAPnn_CFG_EN n.val) (by decide : 0 + 1 ≤ 32)]
    rfl
  obtain ⟨c, popped, emptied⟩ := Dev.tcapCtl_off off ((fTIME_TCAPnn_CFG_POP n.val).get w == 1)
  have hx : exec (.tcapDisable n p v) s = s.done (c.setTcap n.val []) := by
    show s.done (s.dev.writeWith {} p (fTIME_TCAPnn_CFG_EN n.val) 0 v) = _
    rw [Dev.writeWith_tcapCfg takes rfl, ← hw, emptied]
  have after := popped.trans (c.setTcap_keeps n.val [])
  have keeps := ((s.dev.tcapStored_keeps n.val p w).mono (M := [rTIME_TCAPnn_CFG n.val, rTIME_TCAPnn_STS n.val]) (by simp)).trans
    (after.mono (by simp))
  have apart : (fTIME_TCAPnn_CFG_EN n.val).addr ∉ [rTIME_TCAPnn_STS n.val] := by
    simp only [fTIME_TCAPnn_CFG_EN, rTIME_TCAPnn_STS, List.mem_singleton]; omega
  refine tcapWrite_completes hx calm keeps fun frame => ⟨?_, ?_, ?_, frame⟩
  · rw [Dev.showIrq_tcapOf, Dev.tcapOf_setTcap_same]
  · rw [Dev.showIrq_reg, Dev.setTcap_level]; rfl
  · rw [Dev.showIrq_on, after.regs.on apart, off]

/-! ## The read of FRAC -/

/-- The four registers that show the visible capture show its parts, and those of zero while the FIFO is empty. -/
theorem Dev.regValue_tcap (d : Dev) (n : Fin 16) (k : Fin 4) :
    d.regValue (rTIME_TCAPnn_FRAC n.val + 4 * k.val) = ((d.tcapOf n.val).headD {}).part k.val := by
  obtain ⟨a, ha⟩ : ∃ a, a = rTIME_TCAPnn_FRAC n.val + 4 * k.val := ⟨_, rfl⟩
  have block : blockOf a = 3 := by subst ha; revert n k; decide
  have place : a = 0x31808 + 0x20 * n.val + 4 * k.val := ha
  have sts : a ≠ rTIME_STS := by simp only [rTIME_STS]; omega
  have now : ¬ (rTIME_NOW_FRAC ≤ a ∧ a ≤ rTIME_NOW_SEC_H) := by simp only [rTIME_NOW_FRAC, rTIME_NOW_SEC_H]; omega
  have low : a ≠ rTIME_FT64_L := by simp only [rTIME_FT64_L]; omega
  have high : a ≠ rTIME_FT64_H := by simp only [rTIME_FT64_H]; omega
  have cfg : rTIME_TCAPnn_CFG 0 = 0x31800 := rfl
  have inst : (a - 0x31800) / 32 = n.val := by omega
  have part : (a - 0x31800) % 32 / 4 = k.val + 2 := by omega
  have within : 0x31800 ≤ a ∧ 2 ≤ k.val + 2 ∧ k.val + 2 ≤ 5 := by omega
  rw [← ha]
  simp only [Dev.regValue, block, Dev.timeValue, sts, now, low, high, cfg, inst, part, within, and_self, if_false, if_true, Nat.add_sub_cancel]

theorem latchedBy_tcapFrac (n : Fin 16) :
    latchedBy (rTIME_TCAPnn_FRAC n.val) = [rTIME_TCAPnn_NS n.val, rTIME_TCAPnn_SEC_L n.val, rTIME_TCAPnn_SEC_H n.val] := by
  revert n; decide

theorem plainRead_tcapFrac (n : Fin 16) : plainRead (rTIME_TCAPnn_FRAC n.val) = true := by revert n; decide

theorem isUpper_tcapFrac (n : Fin 16) : isUpper (rTIME_TCAPnn_FRAC n.val) = false := by revert n; decide

/-- The fourth clause of O10: a 32-bit read of FRAC. -/
theorem tcapRead_completes (s : State) (n : Fin 16) (p : Port) (calm : s.dev.calm = true)
    (check : s.dev.accCheck p (rTIME_TCAPnn_FRAC n.val) .b32 false = none) (fresh : s.dev.latched p (rTIME_TCAPnn_FRAC n.val) = none) :
    Completes (.tcapRead n p .b32) s fun d =>
        (d.port p).resp = [((s.dev.tcapOf n.val).headD {}).frac.toNat] ∧
        d.latched p (rTIME_TCAPnn_NS n.val) = some (BitVec.ofNat 32 ((s.dev.tcapOf n.val).headD {}).ns.toNat) ∧
        s.dev.sameRegs d [] ∧
        d = { s.dev with regs := d.regs, ports := d.ports, irqA := d.irqA, irqB := d.irqB } := by
  have frac : (s.dev.portValue p (rTIME_TCAPnn_FRAC n.val)).toNat = ((s.dev.tcapOf n.val).headD {}).frac.toNat := by
    have fits := ((s.dev.tcapOf n.val).headD {}).frac.isLt
    rw [Dev.portValue, isUpper_tcapFrac, if_neg Bool.false_ne_true, fresh, Option.getD_none]
    exact (congrArg BitVec.toNat (s.dev.regValue_tcap n 0)).trans ((BitVec.toNat_ofNat ..).trans (Nat.mod_eq_of_lt (by omega)))
  obtain ⟨c, hc⟩ : ∃ c, c = s.dev.latchAll p (latchedBy (rTIME_TCAPnn_FRAC n.val)) := ⟨_, rfl⟩
  have hx : exec (.tcapRead n p .b32) s = s.done (c.answer p [((s.dev.tcapOf n.val).headD {}).frac.toNat]) := by
    show s.done (s.dev.busRead p (rTIME_TCAPnn_FRAC n.val) .b32).2 = _
    rw [Dev.busRead_plain check (plainRead_tcapFrac n), frac, hc]
  have regs : s.dev.sameRegs (c.answer p [((s.dev.tcapOf n.val).headD {}).frac.toNat]) [] :=
    (Dev.sameRegs.refl _ _).of_regs (by rw [hc]; exact s.dev.latchAll_regs p _)
  have rest : c.butRegsPorts = s.dev.butRegsPorts := by rw [hc]; exact s.dev.latchAll_butRegsPorts p _
  refine completes_of_sameRegs hx calm regs (by simp) (congrArg (·.calmPart) rest) ⟨?_, ?_, regs.showIrq, ?_⟩
  · rw [Dev.showIrq_port, Dev.answer_resp]
  · have later : rTIME_TCAPnn_NS n.val ∉ [rTIME_TCAPnn_SEC_L n.val, rTIME_TCAPnn_SEC_H n.val] := by
      simp [rTIME_TCAPnn_NS, rTIME_TCAPnn_SEC_L, rTIME_TCAPnn_SEC_H]
    rw [Dev.showIrq_latched, Dev.latched_answer, hc, latchedBy_tcapFrac, Dev.latched_latchAll_head _ _ later]
    have ns : rTIME_TCAPnn_NS n.val = rTIME_TCAPnn_FRAC n.val + 4 * (1 : Fin 4).val := by
      simp only [rTIME_TCAPnn_NS, rTIME_TCAPnn_FRAC]; omega
    rw [ns, Dev.regValue_tcap]
    rfl
  · exact congrArg (fun x : Dev => { x with
      regs := c.regs, ports := (c.answer p [((s.dev.tcapOf n.val).headD {}).frac.toNat]).ports,
      irqA := (c.answer p [((s.dev.tcapOf n.val).headD {}).frac.toNat]).irqPinA,
      irqB := (c.answer p [((s.dev.tcapOf n.val).headD {}).frac.toNat]).irqPinB }) rest

/-- Settles O10: each command of the captures by its own lemma. -/
theorem capturesAreQueuedAndRead : Obligations.CapturesAreQueuedAndRead :=
  ⟨tcapEdge_appends, tcapEdge_overflows, tcapPop_completes, tcapRead_completes, tcapDisable_completes⟩

end Sys2Proof.Machine
end

section
/-! PPS_IN, CLK10M_IN (R70, R71) and PPS_OUT (R72). -/

namespace Sys2Proof.Machine

open Sys2Proof

variable {d e : Dev} {n : Nat}

/-! ## The inputs of the time base -/

/-- The device but for its registers and what it keeps of PPS_IN and CLK10M_IN. -/
def Dev.butTimeIn (d : Dev) : Dev :=
  { d with regs := [], time := { d.time with ppsPrev := none, ppsSteps := 0, ppsGood := 0, clk10 := none } }

theorem calmRegs_timeSts : ∀ a ∈ calmRegs, a ∉ [rTIME_STS] := by decide

/-- An event at an input of the time base completes in the device that it makes. -/
theorem timeIn_completes {i : Instr} {s : State} {P : Dev → Prop} (hx : exec i s = s.done e) (calm : s.dev.calm = true)
    (keeps : Keeps Dev.butTimeIn [rTIME_STS] s.dev e)
    (h : s.dev.sameRegs e.showIrq [rTIME_STS] ∧
      e.showIrq = { s.dev with regs := e.regs, time := e.time, irqA := e.irqPinA, irqB := e.irqPinB } → P e.showIrq) : Completes i s P :=
  completes_of_sameRegs hx calm keeps.regs calmRegs_timeSts (congrArg (·.calmPart) keeps.rest)
    (h ⟨keeps.regs.showIrq, congrArg (fun x : Dev => { x with regs := e.regs, time := e.time, irqA := e.irqPinA, irqB := e.irqPinB }) keeps.rest⟩)

theorem Keeps.putTimeSts (h : Keeps Dev.butTimeIn [rTIME_STS] d e) {f : Fld} (hf : f.addr = rTIME_STS) (b : Bool) :
    Keeps Dev.butTimeIn [rTIME_STS] d (e.putB f b) := ⟨h.rest, h.regs.putB (by rw [hf]; exact List.mem_cons_self) b⟩

/-- No domain is grandmaster while TIME_STS alone changes. -/
theorem Dev.sameRegs.noGmSource (h : d.sameRegs e [rTIME_STS]) (none : ∀ i ∈ List.range 4, d.gmSource i = false) :
    (List.range 4).find? e.gmSource = Option.none := by
  refine List.find?_eq_none.mpr fun i hi => ?_
  have apart : (fPTP_PTDd_CTL_EN i).addr ∉ [rTIME_STS] := by simp only [fPTP_PTDd_CTL_EN, rTIME_STS, List.mem_singleton]; omega
  have same : e.gmSource i = d.gmSource i := by
    unfold Dev.gmSource Dev.ptpOn
    rw [h.on (f := fPTP_GM_CTL_GM_EN) (by decide), h.get (f := fPTP_GM_CTL_DOM) (by decide), h.on apart]
  rw [same, none i hi]
  exact Bool.false_ne_true

/-- The time of a PPS_IN edge noted, `good` valid ones in a row. -/
def Dev.ppsNoted (d : Dev) (good : Nat) : Dev :=
  { d with time := { d.time with ppsPrev := some d.time.now94, ppsSteps := 0, ppsGood := good } }

/-- With two valid edges in a row PPS_IN is no longer lost (R70). -/
def Dev.ppsFound (d : Dev) (good : Nat) : Dev := if 2 ≤ good then d.putB fTIME_STS_PPS_IN_LOS false else d

theorem Dev.ppsNoted_keeps (d : Dev) (good : Nat) : Keeps Dev.butTimeIn [rTIME_STS] d (d.ppsNoted good) := Keeps.of_regs rfl rfl

theorem Dev.ppsFound_keeps (d : Dev) (good : Nat) : Keeps Dev.butTimeIn [rTIME_STS] d (d.ppsFound good) := by
  unfold Dev.ppsFound
  split
  · exact (Keeps.refl ..).putTimeSts rfl false
  · exact Keeps.refl ..

theorem Dev.ppsFound_time (d : Dev) (good : Nat) : (d.ppsFound good).time = d.time := by
  unfold Dev.ppsFound
  split <;> rfl

/-- The first edge after an absence is valid, and with no grandmaster domain it is noted alone (R70). -/
theorem Dev.ppsInEdge_first (runs : d.timeRuns = true) (prev : d.time.ppsPrev = none) (src : d.get (fTIME_TCAPnn_CFG_SRC 0) ≠ 0)
    (noGm : ∀ i ∈ List.range 4, d.gmSource i = false) :
    d.ppsInEdge = (d.ppsNoted (min 2 (d.time.ppsGood + 1))).ppsFound (min 2 (d.time.ppsGood + 1)) := by
  obtain ⟨good, hg⟩ : ∃ good, good = min 2 (d.time.ppsGood + 1) := ⟨_, rfl⟩
  have found := ((d.ppsNoted_keeps good).trans (Dev.ppsFound_keeps _ good)).regs.noGmSource noGm
  unfold Dev.ppsFound Dev.ppsNoted at found
  simp only [Dev.ppsInEdge, runs, src, prev, Dev.ppsFound, Dev.ppsNoted, ← hg, Bool.not_true, Bool.false_eq_true, if_false, if_true, found]

/-- The first clause of O11: the first PPS_IN edge after an absence. -/
theorem ppsInEdge_completes (s : State) (calm : s.dev.calm = true) (runs : s.dev.timeRuns = true) (prev : s.dev.time.ppsPrev = none)
    (src : s.dev.get (fTIME_TCAPnn_CFG_SRC 0) ≠ 0) (noGm : ∀ i ∈ List.range 4, s.dev.gmSource i = false) :
    Completes (.ppsInEdge) s fun d =>
        d.time.ppsPrev = some s.dev.time.now94 ∧
        d.reg rTIME_PPS_IN_BAD_CNT = s.dev.reg rTIME_PPS_IN_BAD_CNT ∧
        s.dev.sameRegs d [rTIME_STS] ∧
        d = { s.dev with regs := d.regs, time := d.time, irqA := d.irqA, irqB := d.irqB } := by
  obtain ⟨good, hg⟩ : ∃ good, good = min 2 (s.dev.time.ppsGood + 1) := ⟨_, rfl⟩
  have hx : exec .ppsInEdge s = s.done ((s.dev.ppsNoted good).ppsFound good) := by
    show s.done s.dev.ppsInEdge = _
    rw [Dev.ppsInEdge_first runs prev src noGm, ← hg]
  have keeps := (s.dev.ppsNoted_keeps good).trans (Dev.ppsFound_keeps _ good)
  refine timeIn_completes hx calm keeps fun frame => ⟨?_, keeps.regs _ (by decide), frame⟩
  exact congrArg (·.ppsPrev) (Dev.ppsFound_time (s.dev.ppsNoted good) good)

/-- The device without an edge of PPS_IN to measure from. -/
def Dev.ppsForgotten (d : Dev) : Dev := { d with time := { d.time with ppsPrev := none, ppsSteps := 0, ppsGood := 0 } }

theorem Dev.ppsForgotten_keeps (d : Dev) : Keeps Dev.butTimeIn [rTIME_STS] d d.ppsForgotten := Keeps.of_regs rfl rfl

/-- What a command says TIME does of itself happens while TCLK runs. -/
theorem State.doneIn_on {s : State} {on : Bool} (h : on = true) (c : Dev) : s.doneIn on c = s.done c := by rw [State.doneIn, if_pos h]

/-- The second clause of O11: no PPS_IN edge for 1.1 s. -/
theorem ppsInLos_completes (s : State) (calm : s.dev.calm = true) (noGm : ∀ i ∈ List.range 4, s.dev.gmSource i = false)
    (runs : s.dev.timeRuns = true) :
    Completes (.ppsInLos) s fun d =>
        d.on fTIME_STS_PPS_IN_LOS = true ∧
        d.time.ppsPrev = none ∧
        s.dev.sameRegs d [rTIME_STS] ∧
        d = { s.dev with regs := d.regs, time := d.time, irqA := d.irqA, irqB := d.irqB } := by
  have keeps : Keeps Dev.butTimeIn [rTIME_STS] s.dev (s.dev.ppsForgotten.putB fTIME_STS_PPS_IN_LOS true) :=
    s.dev.ppsForgotten_keeps.putTimeSts rfl true
  have found := keeps.regs.noGmSource noGm
  have hx : exec .ppsInLos s = s.done (s.dev.ppsForgotten.putB fTIME_STS_PPS_IN_LOS true) := by
    show s.doneIn s.dev.timeRuns s.dev.ppsInLos = _
    rw [State.doneIn_on runs]
    unfold Dev.ppsForgotten at found ⊢
    simp only [Dev.ppsInLos, found]
  exact timeIn_completes hx calm keeps fun frame =>
    ⟨Dev.on_putB_same _ (f := fTIME_STS_PPS_IN_LOS) (by unfold Fld.ok; decide) rfl true, rfl, frame⟩

/-- The device with a measured excess of CLK10M_IN, none while it is lost. -/
def Dev.clk10Noted (d : Dev) (f : Option Int) : Dev := { d with time := { d.time with clk10 := f } }

theorem Dev.clk10Noted_keeps (d : Dev) (f : Option Int) : Keeps Dev.butTimeIn [rTIME_STS] d (d.clk10Noted f) := Keeps.of_regs rfl rfl

theorem fTIME_STS_ok : fTIME_STS_CLK10M_LOS.ok ∧ fTIME_STS_CLK10M_BAD.ok ∧ fTIME_STS_CLK10M_BAD.apart fTIME_STS_CLK10M_LOS ∧
    fTIME_STS_CLK10M_LOS.apart fTIME_STS_CLK10M_BAD := by unfold Fld.ok Fld.apart; decide

/-- The third clause of O11: a window of CLK10M_IN within 100 ppm of nominal. -/
theorem clk10mWindow_good_completes (s : State) (f : Int) (calm : s.dev.calm = true) (low : -(100000 * 65536) ≤ f) (high : f ≤ 100000 * 65536)
    (runs : s.dev.timeRuns = true) :
    Completes (.clk10mWindow f) s fun d =>
        d.on fTIME_STS_CLK10M_LOS = false ∧
        d.on fTIME_STS_CLK10M_BAD = false ∧
        d.time.clk10 = some f ∧
        s.dev.sameRegs d [rTIME_STS] ∧
        d = { s.dev with regs := d.regs, time := d.time, irqA := d.irqA, irqB := d.irqB } := by
  obtain ⟨losOk, badOk, -, apart⟩ := fTIME_STS_ok
  have good : ¬(100000 * 65536 < f ∨ f < -(100000 * 65536)) := by omega
  obtain ⟨c, hc⟩ : ∃ c, c = (s.dev.clk10Noted (some f)).putB fTIME_STS_CLK10M_BAD false := ⟨_, rfl⟩
  have cKeeps : Keeps Dev.butTimeIn [rTIME_STS] s.dev c := by rw [hc]; exact (s.dev.clk10Noted_keeps _).putTimeSts rfl false
  have hx : exec (.clk10mWindow f) s = s.done (c.putB fTIME_STS_CLK10M_LOS false) := by
    show s.doneIn s.dev.timeRuns (s.dev.clk10mWindow f) = _
    rw [State.doneIn_on runs, hc]
    simp only [Dev.clk10mWindow, decide_eq_false good, Bool.false_eq_true, if_false, Dev.clk10Noted]
  refine timeIn_completes hx calm (cKeeps.putTimeSts rfl false) fun frame => ⟨Dev.on_putB_same _ losOk rfl false, ?_, by rw [hc]; rfl, frame⟩
  rw [Dev.showIrq_on, Dev.putB, Dev.on_put_apart _ _ losOk apart, hc, Dev.on_putB_same _ badOk rfl]

/-- The fourth clause of O11: a window of CLK10M_IN out of range. -/
theorem clk10mWindow_bad_completes (s : State) (f : Int) (calm : s.dev.calm = true) (out : f < -(100000 * 65536) ∨ 100000 * 65536 < f)
    (runs : s.dev.timeRuns = true) :
    Completes (.clk10mWindow f) s fun d =>
        d.on fTIME_STS_CLK10M_LOS = s.dev.on fTIME_STS_CLK10M_LOS ∧
        d.on fTIME_STS_CLK10M_BAD = true ∧
        s.dev.sameRegs d [rTIME_STS] ∧
        d = { s.dev with regs := d.regs, time := d.time, irqA := d.irqA, irqB := d.irqB } := by
  obtain ⟨-, badOk, apart, -⟩ := fTIME_STS_ok
  have hx : exec (.clk10mWindow f) s = s.done ((s.dev.clk10Noted (some f)).putB fTIME_STS_CLK10M_BAD true) := by
    show s.doneIn s.dev.timeRuns (s.dev.clk10mWindow f) = _
    rw [State.doneIn_on runs]
    simp only [Dev.clk10mWindow, decide_eq_true (Or.comm.mp out), if_true, Dev.clk10Noted]
  refine timeIn_completes hx calm ((s.dev.clk10Noted_keeps _).putTimeSts rfl true) fun frame =>
    ⟨?_, Dev.on_putB_same _ badOk rfl true, frame⟩
  rw [Dev.showIrq_on, Dev.putB, Dev.on_put_apart _ _ badOk apart]
  rfl

/-- The fifth clause of O11: CLK10M_IN shows no edge. -/
theorem clk10mLos_completes (s : State) (calm : s.dev.calm = true) (runs : s.dev.timeRuns = true) :
    Completes (.clk10mLos) s fun d =>
        d.on fTIME_STS_CLK10M_LOS = true ∧
        d.time.clk10 = none ∧
        s.dev.sameRegs d [rTIME_STS] ∧
        d = { s.dev with regs := d.regs, time := d.time, irqA := d.irqA, irqB := d.irqB } := by
  obtain ⟨losOk, -⟩ := fTIME_STS_ok
  have hx : exec .clk10mLos s = s.done ((s.dev.clk10Noted none).putB fTIME_STS_CLK10M_LOS true) := by
    show s.doneIn s.dev.timeRuns s.dev.clk10mLos = _
    rw [State.doneIn_on runs]
    rfl
  exact timeIn_completes hx calm ((s.dev.clk10Noted_keeps _).putTimeSts rfl true) fun frame =>
    ⟨Dev.on_putB_same _ losOk rfl true, rfl, frame⟩

/-! ## What follows a write of PPS_OUT_CFG: the gate alone may act -/

/-- With PPS_OUT low, `Dev.calm` does not read PPS_OUT_CFG. -/
theorem Dev.calm_setPpsCfg (low : d.time.ppsOut = false) (w : Word) : (d.setReg rTIME_PPS_OUT_CFG w).calm = d.calm := by
  have get : ∀ f : Fld, f.addr ≠ rTIME_PPS_OUT_CFG → (d.setReg rTIME_PPS_OUT_CFG w).get f = d.get f := fun f hf =>
    Dev.get_setReg_ne d _ w f (Ne.symm hf)
  have sts : ∀ i, rPTP_PTDd_STS i ≠ rTIME_PPS_OUT_CFG := fun i => by simp only [rPTP_PTDd_STS, rTIME_PPS_OUT_CFG]; omega
  have lock : ∀ i, (d.setReg rTIME_PPS_OUT_CFG w).ptpLock i = d.ptpLock i := fun i => get _ (sts i)
  have begun : ∀ i, (d.setReg rTIME_PPS_OUT_CFG w).portsBegun i = d.portsBegun i := fun i => by
    have state : ∀ n, (d.setReg rTIME_PPS_OUT_CFG w).pstate i n = d.pstate i n := fun n => by rw [Dev.pstate, Dev.pstate, get _ (sts i)]
    simp only [Dev.portsBegun, state]
  have halo : (d.setReg rTIME_PPS_OUT_CFG w).haloState = d.haloState := get _ (by decide)
  simp only [Dev.calm, lock, begun, halo, Dev.setReg_pin, Dev.setReg_boot, Dev.setReg_time, low, Bool.not_false, Bool.true_or]

/-- A calm device stays calm with PPS_OUT low, whatever PPS_OUT_CFG holds. -/
theorem Dev.calm_of_ppsLow (calm : d.calm = true) (regs : ∀ a ∈ calmRegs, a ≠ rTIME_PPS_OUT_CFG → e.reg a = d.reg a)
    (pin : e.pin = d.pin) (boot : e.boot = d.boot) (low : e.time.ppsOut = false) : e.calm = true := by
  have lowered : d.ppsPulseEnd.calm = true := by
    have parts := calm
    simp only [Dev.calm, Bool.and_eq_true] at parts ⊢
    exact ⟨parts.1, rfl⟩
  rw [← Dev.calm_setPpsCfg low (d.reg rTIME_PPS_OUT_CFG), ← lowered]
  refine Dev.calm_congr (fun a ha => ?_) pin boot low
  by_cases h : rTIME_PPS_OUT_CFG = a
  · rw [Dev.reg_setReg, if_pos h, h]; rfl
  · rw [Dev.reg_setReg, if_neg h]; exact regs a ha (Ne.symm h)

/-- A device that is calm once PPS_OUT is low settles by its gate alone (R72). -/
theorem Dev.settle_ppsSettle (h : d.ppsPulseEnd.calm = true) : d.settle = d.ppsSettle.showIrq := by
  simp only [Dev.calm, Bool.and_eq_true, Bool.not_eq_true', beq_iff_eq, bne_iff_ne, ne_eq, Option.isNone_iff_eq_none] at h
  obtain ⟨⟨⟨⟨⟨⟨⟨⟨⟨⟨⟨⟨due, detach⟩, start⟩, sel⟩, queued⟩, p0⟩, p1⟩, p2⟩, p3⟩, b0⟩, b1⟩, b2⟩, b3⟩ := h.1.1
  have pins : d.hotswapSettle = d := by
    rw [Dev.hotswapSettle, show d.pin.due = false from due]
    simp [Dev.detachNext, Dev.detachThree, show d.pin.detach = none from detach]
  have loader : d.loaderSettle = d := by
    simp [Dev.loaderSettle, Dev.warmBegin, Dev.warmGo, Dev.queuedGo, show d.boot.start = 0 from start, show ¬d.boot.loader = .sel from sel,
      show ¬d.boot.loader = .queued from queued]
  have ptp : d.ptpSettle = d := by
    simp only [Dev.ptpSettle, List.range, List.range.loop, List.foldl, d.ptp_settles 0 p0 b0, d.ptp_settles 1 p1 b1, d.ptp_settles 2 p2 b2,
      d.ptp_settles 3 p3 b3]
  have off : d.ppsSettle.haloState = 0 := by
    unfold Dev.ppsSettle
    split <;> exact h.1.2
  simp only [Dev.settle, pins, loader, ptp]
  simp [Dev.haloSettle, off]

theorem Dev.ppsSettle_cases (d : Dev) : d.ppsSettle = d ∨ d.ppsSettle = d.ppsPulseEnd := by
  unfold Dev.ppsSettle
  split
  · exact Or.inr rfl
  · exact Or.inl rfl

/-! ## PPS_OUT_CFG written -/

/-- The row of TIME_PPS_OUT_CFG in the register summary. -/
def ppsCfgRow : RegDesc := { base := 0x30400, wr := 0xC3FFFFFF, dcls := 0x3F00000, own := some ⟨0x30400, 31, 1⟩ }

theorem regAt_ppsCfg : regAt rTIME_PPS_OUT_CFG = some (ppsCfgRow, 0, 0) := rfl

theorem Dev.owned_ppsCfg (d : Dev) : d.owned ppsCfgRow 0 = d.on fTIME_PPS_OUT_CFG_EN := rfl

theorem Dev.writeEffect_ppsCfg (d : Dev) (m : Meets) (old v cmd : Word) :
    d.writeEffect m rTIME_PPS_OUT_CFG 0 old v cmd = d.atEdgeOld fTIME_PPS_OUT_CFG_EN old Dev.ppsEnable Dev.ppsDisable := rfl

theorem Dev.busWrite_ppsCfg {p : Port} {v : Word} (takes : d.takes p rTIME_PPS_OUT_CFG) (m : Meets) :
    d.busWrite m p rTIME_PPS_OUT_CFG .b32 v = (d.answer p []).regStore m p rTIME_PPS_OUT_CFG v ppsCfgRow 0 := by
  rw [Dev.busWrite_reg takes (by decide) (by decide),
    Dev.regWrite_plain regAt_ppsCfg (by decide) fun h => absurd h (by decide)]

theorem fTIME_PPS_OUT_CFG_ok : fTIME_PPS_OUT_CFG_EN.ok ∧ fTIME_PPS_OUT_CFG_EN.apart fTIME_PPS_OUT_CFG_TCMP := by
  unfold Fld.ok Fld.apart; decide

/-- The device but for its registers, its ports, its ignore record, PPS_OUT and the hidden state of its comparators. -/
def Dev.butPpsOut (d : Dev) : Dev :=
  { d with regs := [], ports := [], ign := [], time := { d.time with tcmp := [], ppsOut := false } }

/-- The registers that PPS_OUT with comparator `n` may change: its own, those of the comparator, and the ignore record's counters. -/
abbrev ppsOutRegs (n : Nat) : List Nat :=
  [rTIME_PPS_OUT_CFG, rTIME_TCMPnn_OWNER n, rTIME_TCMPnn_STS n, rGLB_IGN_CNT, rGLB_IGN_OVF_CNT]

theorem Dev.calm_ppsOut (calm : d.calm = true) (hn : n < 64) (keeps : Keeps Dev.butPpsOut (ppsOutRegs n) d e) (low : e.time.ppsOut = false) :
    e.calm = true := by
  refine Dev.calm_of_ppsLow calm (fun a ha hne => keeps.regs a fun hm => ?_) (congrArg (·.pin) keeps.rest) (congrArg (·.boot) keeps.rest) low
  have other : a ∈ [rTIME_TCMPnn_CTL n, rTIME_TCMPnn_STS n, rTIME_TCMPnn_OWNER n, rTIME_TCMPnn_FIRE_CNT n, rGLB_IGN_CNT,
      rGLB_IGN_OVF_CNT] := by
    simp only [ppsOutRegs, List.mem_cons, List.not_mem_nil, or_false] at hm ⊢
    tauto
  exact calmRegs_tcmp (Nat.lt_trans hn (by decide)) a ha other

theorem Dev.ppsTcmp_lt (d : Dev) : d.get fTIME_PPS_OUT_CFG_TCMP < 64 := d.get_lt fTIME_PPS_OUT_CFG_TCMP

/-- PPS_OUT_CFG lies apart from the registers of the comparators. -/
theorem rTIME_PPS_OUT_CFG_apart (hn : n < 64) : rTIME_TCMPnn_OWNER n ∉ [rTIME_PPS_OUT_CFG] ∧ rTIME_TCMPnn_STS n ∉ [rTIME_PPS_OUT_CFG] := by
  simp [rTIME_TCMPnn_OWNER, rTIME_TCMPnn_STS, rTIME_PPS_OUT_CFG]
  omega

/-- The word of PPS_OUT_CFG with EN as PPS_OUT_ENABLE and PPS_OUT_DISABLE write it. -/
theorem ppsWord_en (v : Word) {x : Nat} (hx : x < 2) : fTIME_PPS_OUT_CFG_EN.get (fTIME_PPS_OUT_CFG_EN.put v x) = x := by
  rw [Fld.get_put _ fTIME_PPS_OUT_CFG_ok.1]
  exact Nat.mod_eq_of_lt hx

/-- The device as a write of PPS_OUT_CFG that turns EN leaves it to `ppsEnable` or `ppsDisable`: `take` are the bits stored, and EN
stands as it was. -/
def Dev.ppsStored (d c : Dev) (take v : Word) : Dev :=
  (c.setReg rTIME_PPS_OUT_CFG (merged take (d.reg rTIME_PPS_OUT_CFG) v)).put fTIME_PPS_OUT_CFG_EN (d.get fTIME_PPS_OUT_CFG_EN)

theorem Dev.ppsStored_tcmp (d c : Dev) (take v : Word) :
    (d.ppsStored c take v).get fTIME_PPS_OUT_CFG_TCMP = fTIME_PPS_OUT_CFG_TCMP.get (merged take (d.reg rTIME_PPS_OUT_CFG) v) := by
  rw [Dev.ppsStored, Dev.get_put_apart _ _ _ _ fTIME_PPS_OUT_CFG_ok.1 fTIME_PPS_OUT_CFG_ok.2, Dev.get_setReg]
  rfl

theorem Dev.ppsStored_sameRegs (d c : Dev) (take v : Word) : c.sameRegs (d.ppsStored c take v) [rTIME_PPS_OUT_CFG] :=
  ((Dev.sameRegs.refl c _).setReg List.mem_cons_self _).put (f := fTIME_PPS_OUT_CFG_EN) List.mem_cons_self _

/-! ## EN turned on -/

/-- PPS_OUT with a comparator that nobody holds: it is claimed and armed, periodic from the next whole second (R72). -/
theorem Dev.ppsEnable_free (hn : d.get fTIME_PPS_OUT_CFG_TCMP = n) (free : d.get (fTIME_TCMPnn_OWNER_OWNER n) = 0) (prio : d.tcmpPrio n = 0) :
    ∃ base per, base = BitVec.ofNat 64 ((d.time.sec.toNat + 1) * 1000000000) ∧
      d.ppsEnable = ((d.put (fTIME_TCMPnn_OWNER_OWNER n) 0x60).armTcmp n 2 base per).putB fTIME_PPS_OUT_CFG_EN true := by
  refine ⟨_, 1000000000 * 65536, rfl, ?_⟩
  simp only [Dev.ppsEnable, hn, Dev.claimTcmp_free free prio, if_true]

/-- A comparator armed in periodic mode keeps its base. -/
theorem Dev.armTcmp_periodic (d : Dev) (n : Nat) (t : Word64) (per : Nat) :
    ((d.armTcmp n 2 t per).tcmpOf n).mode = 2 ∧ ((d.armTcmp n 2 t per).tcmpOf n).base = t := by
  obtain ⟨x, hx⟩ : ∃ x : TcmpSt, x = { mode := 2, base := t, per := per, next := t, acc := 0 } := ⟨_, rfl⟩
  have armed : (d.armTcmp n 2 t per).tcmpOf n =
      { (if 2 = 2 ∧ 0 ≤ sdiff64 d.ft64 t then x.atBoundary (firstBoundary t d.ft64 per) else x) with
        late := decide (2 = 1 ∧ 0 ≤ sdiff64 d.ft64 t) } := by
    rw [hx]; exact Dev.tcmpOf_setTcmp_same ..
  rw [armed, hx]
  split <;> exact ⟨rfl, rfl⟩

theorem Dev.armTcmp_butPpsOut (d : Dev) (n mode : Nat) (t : Word64) (per : Nat) : (d.armTcmp n mode t per).butPpsOut = d.butPpsOut := rfl

theorem Dev.put_butPpsOut (d : Dev) (f : Fld) (x : Nat) : (d.put f x).butPpsOut = d.butPpsOut := rfl

theorem Dev.ppsStored_butPpsOut (d : Dev) (p : Port) (take v : Word) : (d.ppsStored (d.answer p []) take v).butPpsOut = d.butPpsOut := rfl

/-- The sixth clause of O11: EN of PPS_OUT written 1 with a free, unreserved comparator. -/
theorem ppsOutEnable_completes (s : State) (p : Port) (v : Word) (n : Nat) (calm : s.dev.calm = true) (takes : s.dev.takes p rTIME_PPS_OUT_CFG)
    (off : s.dev.on fTIME_PPS_OUT_CFG_EN = false) (hn : n = fTIME_PPS_OUT_CFG_TCMP.get v) (free : s.dev.get (fTIME_TCMPnn_OWNER_OWNER n) = 0)
    (prio : s.dev.tcmpPrio n = 0) :
    Completes (.ppsOutEnable p v) s fun d =>
        d.on fTIME_PPS_OUT_CFG_EN = true ∧
        d.get (fTIME_TCMPnn_OWNER_OWNER n) = 0x60 ∧
        d.on (fTIME_TCMPnn_STS_ARMED n) = true ∧
        (d.tcmpOf n).mode = 2 ∧
        (d.tcmpOf n).base = BitVec.ofNat 64 ((s.dev.time.sec.toNat + 1) * 1000000000) := by
  have hn64 : n < 64 := by rw [hn]; exact Nat.mod_lt _ (Nat.two_pow_pos 6)
  obtain ⟨ownerApart, stsApart⟩ := rTIME_PPS_OUT_CFG_apart hn64
  obtain ⟨w, hw⟩ : ∃ w, w = fTIME_PPS_OUT_CFG_EN.put v 1 := ⟨_, rfl⟩
  have was : s.dev.get fTIME_PPS_OUT_CFG_EN = 0 := bne_eq_false_iff_eq.mp off
  have within : fTIME_PPS_OUT_CFG_EN.within (w32 0xC3FFFFFF) = true := by decide
  obtain ⟨c, hc⟩ : ∃ c, c = s.dev.ppsStored (s.dev.answer p []) (w32 0xC3FFFFFF) w := ⟨_, rfl⟩
  have cRegs : s.dev.sameRegs c [rTIME_PPS_OUT_CFG] := by
    rw [hc]; exact (s.dev.answer_sameRegs p [] _).trans (Dev.ppsStored_sameRegs _ _ _ _)
  have cTcmp : c.get fTIME_PPS_OUT_CFG_TCMP = n := by
    rw [hc, Dev.ppsStored_tcmp, Fld.get_merged_within (by decide), hw, Fld.get_put_apart _ _ fTIME_PPS_OUT_CFG_ok.1 fTIME_PPS_OUT_CFG_ok.2, hn]
  have cFree : c.get (fTIME_TCMPnn_OWNER_OWNER n) = 0 := (cRegs.get ownerApart).trans free
  have cPrio : c.tcmpPrio n = 0 := (Dev.tcmpPrio_congr (cRegs.get (f := fTIME_TCMPnn_OWNER_PRIO n) ownerApart)).trans prio
  obtain ⟨base, per, hbase, enabled⟩ := Dev.ppsEnable_free cTcmp cFree cPrio
  rw [show c.time = s.dev.time by rw [hc]; rfl] at hbase
  obtain ⟨a, ha⟩ : ∃ a, a = (c.put (fTIME_TCMPnn_OWNER_OWNER n) 0x60).armTcmp n 2 base per := ⟨_, rfl⟩
  rw [← ha] at enabled
  have hx : exec (.ppsOutEnable p v) s = s.done (a.putB fTIME_PPS_OUT_CFG_EN true) := by
    show s.done (s.dev.writeWith {} p fTIME_PPS_OUT_CFG_EN 1 v) = _
    have owned : (s.dev.answer p []).owned ppsCfgRow 0 = false := (Dev.owned_ppsCfg _).trans off
    rw [Dev.writeWith, ← hw, show fTIME_PPS_OUT_CFG_EN.addr = rTIME_PPS_OUT_CFG from rfl, Dev.busWrite_ppsCfg takes, Dev.regStore_free owned,
      Dev.writeEffect_ppsCfg, ← enabled, hc]
    exact congrArg s.done (Dev.atEdgeOld_rise (f := fTIME_PPS_OUT_CFG_EN) _ within was (by rw [hw]; exact ppsWord_en v (by decide)) ..)
  have aRegs : c.sameRegs a [rTIME_TCMPnn_OWNER n, rTIME_TCMPnn_STS n] := by
    rw [ha]
    exact ((Dev.sameRegs.refl c [rTIME_TCMPnn_OWNER n, rTIME_TCMPnn_STS n]).put (f := fTIME_TCMPnn_OWNER_OWNER n) List.mem_cons_self
      0x60).trans (Dev.armTcmp_sameRegs (by simp) _ _ _)
  have both : s.dev.sameRegs a (ppsOutRegs n) := (cRegs.mono (by simp)).trans (aRegs.mono (by simp))
  have keeps : Keeps Dev.butPpsOut (ppsOutRegs n) s.dev (a.putB fTIME_PPS_OUT_CFG_EN true) :=
    ⟨by rw [Dev.putB, Dev.put_butPpsOut, ha, Dev.armTcmp_butPpsOut, Dev.put_butPpsOut, hc, Dev.ppsStored_butPpsOut],
      both.putB (f := fTIME_PPS_OUT_CFG_EN) List.mem_cons_self true⟩
  obtain ⟨e, he⟩ : ∃ e, e = a.putB fTIME_PPS_OUT_CFG_EN true := ⟨_, rfl⟩
  rw [← he] at hx keeps
  have lowered : Keeps Dev.butPpsOut (ppsOutRegs n) s.dev e.ppsPulseEnd := ⟨keeps.rest, keeps.regs⟩
  have settles : e.settle = e.ppsSettle.showIrq := Dev.settle_ppsSettle (Dev.calm_ppsOut calm hn64 lowered rfl)
  have shown : e.settle.regs = e.regs ∧ e.settle.tcmpOf n = e.tcmpOf n := by
    rw [settles]
    obtain same | low := e.ppsSettle_cases
    · rw [same]; exact ⟨rfl, rfl⟩
    · rw [low]; exact ⟨rfl, rfl⟩
  obtain ⟨regs, tcmp⟩ := shown
  have periodic := (c.put (fTIME_TCMPnn_OWNER_OWNER n) 0x60).armTcmp_periodic n base per
  rw [← ha] at periodic
  refine ⟨{ s with dev := e.settle }, hx, rfl, ?_, ?_, ?_, ?_, ?_⟩
  · show e.settle.on _ = _
    rw [Dev.on_of_regs regs, he, Dev.on_putB_same _ fTIME_PPS_OUT_CFG_ok.1 rfl]
  · show e.settle.get _ = _
    have ownerSts : rTIME_TCMPnn_OWNER n ∉ [rTIME_TCMPnn_STS n] := by rw [List.mem_singleton]; exact rTIME_TCMPnn_OWNER_ne_STS n
    rw [Dev.get_of_regs regs, he, Dev.putB, Dev.get_put_addr _ _ _ _ (fun h => ownerApart (by rw [List.mem_singleton]; exact h.symm)), ha,
      (Dev.armTcmp_sameRegs (L := [rTIME_TCMPnn_STS n]) List.mem_cons_self _ _ _).get (f := fTIME_TCMPnn_OWNER_OWNER n) ownerSts,
      Dev.get_put_same _ _ _ (fTIME_TCMPnn_OWNER_ok n)]
    rfl
  · show e.settle.on _ = _
    rw [Dev.on_of_regs regs, he, Dev.putB, Dev.on_put_addr _ _ (fun h => stsApart (by rw [List.mem_singleton]; exact h.symm)), ha]
    exact Dev.armTcmp_armed ..
  · show (e.settle.tcmpOf n).mode = 2
    rw [tcmp, he]; exact periodic.1
  · show (e.settle.tcmpOf n).base = _
    rw [tcmp, he, ← hbase]; exact periodic.2

/-! ## EN turned off -/

theorem Dev.ppsDisable_eq (hn : d.get fTIME_PPS_OUT_CFG_TCMP = n) :
    d.ppsDisable = (d.ppsPulseEnd.releaseTcmp n).putB fTIME_PPS_OUT_CFG_EN false := by
  subst hn; rfl

/-- The seventh clause of O11: EN of PPS_OUT written 0. -/
theorem ppsOutDisable_completes (s : State) (p : Port) (v : Word) (n : Nat) (calm : s.dev.calm = true) (takes : s.dev.takes p rTIME_PPS_OUT_CFG)
    (on : s.dev.on fTIME_PPS_OUT_CFG_EN = true) (hn : n = s.dev.get fTIME_PPS_OUT_CFG_TCMP) :
    Completes (.ppsOutDisable p v) s fun d =>
        d.on fTIME_PPS_OUT_CFG_EN = false ∧
        d.get (fTIME_TCMPnn_OWNER_OWNER n) = 0 ∧
        d.on (fTIME_TCMPnn_STS_ARMED n) = false ∧
        d.time.ppsOut = false := by
  have hn64 : n < 64 := by rw [hn]; exact s.dev.ppsTcmp_lt
  obtain ⟨ownerApart, stsApart⟩ := rTIME_PPS_OUT_CFG_apart hn64
  obtain ⟨w, hw⟩ : ∃ w, w = fTIME_PPS_OUT_CFG_EN.put v 0 := ⟨_, rfl⟩
  have was : s.dev.get fTIME_PPS_OUT_CFG_EN ≠ 0 := bne_iff_ne.mp on
  have owned : (s.dev.answer p []).owned ppsCfgRow 0 = true := (Dev.owned_ppsCfg _).trans on
  obtain ⟨r, hr, stored⟩ := Dev.regStore_owned (m := {}) (p := p) (a := rTIME_PPS_OUT_CFG) (v := w) owned
  have within : fTIME_PPS_OUT_CFG_EN.within (w32 0xC3FFFFFF &&& ~~~w32 0x3F00000) = true := by decide
  obtain ⟨c, hc⟩ : ∃ c, c = s.dev.ppsStored r (w32 0xC3FFFFFF &&& ~~~w32 0x3F00000) w := ⟨_, rfl⟩
  have rKeeps : Keeps Dev.butPpsOut (ppsOutRegs n) s.dev r := by
    have answered : Keeps Dev.butPpsOut (ppsOutRegs n) s.dev (s.dev.answer p []) := Keeps.of_regs rfl rfl
    obtain rfl | rfl := hr
    · exact answered
    · refine answered.trans ⟨?_, Dev.record_sameRegs _ _ _ _ _ (by simp) (by simp)⟩
      rw [Dev.record_frame]; rfl
  have cTcmp : c.get fTIME_PPS_OUT_CFG_TCMP = n := by
    rw [hc, Dev.ppsStored_tcmp, Fld.get_merged_outside (by decide), hn]; rfl
  have cKeeps : Keeps Dev.butPpsOut (ppsOutRegs n) s.dev c := by
    refine rKeeps.trans ⟨by rw [hc]; rfl, ?_⟩
    rw [hc]; exact (Dev.ppsStored_sameRegs _ _ _ _).mono (by simp)
  obtain ⟨f, hf⟩ : ∃ f, f = c.ppsPulseEnd.releaseTcmp n := ⟨_, rfl⟩
  have hx : exec (.ppsOutDisable p v) s = s.done (f.putB fTIME_PPS_OUT_CFG_EN false) := by
    show s.done (s.dev.writeWith {} p fTIME_PPS_OUT_CFG_EN 0 v) = _
    rw [Dev.writeWith, ← hw, show fTIME_PPS_OUT_CFG_EN.addr = rTIME_PPS_OUT_CFG from rfl, Dev.busWrite_ppsCfg takes, stored,
      Dev.writeEffect_ppsCfg, hf, ← Dev.ppsDisable_eq cTcmp, hc]
    exact congrArg s.done (Dev.atEdgeOld_fall (f := fTIME_PPS_OUT_CFG_EN) _ within was (by rw [hw]; exact ppsWord_en v (by decide)) ..)
  have keeps : Keeps Dev.butPpsOut (ppsOutRegs n) s.dev (f.putB fTIME_PPS_OUT_CFG_EN false) := by
    refine cKeeps.trans ⟨by rw [hf]; rfl, ?_⟩
    have released : c.sameRegs f (ppsOutRegs n) := by
      rw [hf]
      exact ((Dev.sameRegs.refl c _).of_regs (f := c.ppsPulseEnd) rfl).trans (Dev.releaseTcmp_sameRegs (by simp) (by simp))
    exact released.putB (f := fTIME_PPS_OUT_CFG_EN) List.mem_cons_self false
  refine completes_of_calm hx (Dev.calm_ppsOut calm hn64 keeps (by rw [hf]; rfl)) ⟨?_, ?_, ?_, by rw [hf]; rfl⟩
  · exact Dev.on_putB_same _ fTIME_PPS_OUT_CFG_ok.1 rfl false
  · rw [Dev.showIrq_get, Dev.putB, Dev.get_put_addr _ _ _ _ (fun h => ownerApart (by rw [List.mem_singleton]; exact h.symm)), hf]
    exact Dev.releaseTcmp_owner ..
  · rw [Dev.showIrq_on, Dev.putB, Dev.on_put_addr _ _ (fun h => stsApart (by rw [List.mem_singleton]; exact h.symm)), hf]
    exact Dev.releaseTcmp_armed ..

/-! ## The end of a pulse -/

/-- The eighth clause of O11: WIDTH_US has passed. -/
theorem ppsOutPulseEnd_completes (s : State) (calm : s.dev.calm = true) :
    Completes (.ppsOutPulseEnd) s fun d =>
        d.time.ppsOut = false ∧
        s.dev.sameRegs d [] ∧
        d = { s.dev with regs := d.regs, time := d.time, irqA := d.irqA, irqB := d.irqB } :=
  completes_of_calm (d := s.dev.ppsPulseEnd) rfl (Dev.calm_of_ppsLow calm (fun _ _ _ => rfl) rfl rfl rfl)
    ⟨rfl, Dev.sameRegs.showIrq fun _ _ => rfl, rfl⟩

/-- Settles O11: each command of the pulses by its own lemma. -/
theorem pulsesInAndOut : Obligations.PulsesInAndOut :=
  ⟨ppsInEdge_completes, ppsInLos_completes, clk10mWindow_good_completes, clk10mWindow_bad_completes, clk10mLos_completes, ppsOutEnable_completes,
    ppsOutDisable_completes, ppsOutPulseEnd_completes⟩

end Sys2Proof.Machine
end

section
/-! Three statements that fail: SET with a servo step pending (R46, R84, R93), the return of a PTP port to LISTENING (R79, R80), and a
Dawn of TIME that fires a MUTE cue (R67, R140, R362, R367). -/

namespace Sys2Proof.Machine

open Sys2Proof

/-- What a command leaves, as `f` reads it, where it goes on. -/
def shownAfter {α : Type} (f : Dev → α) (o : Host.Outcome State Fault Refusal) : Option α :=
  match o with
  | .next t => some (f t.dev)
  | _ => none

/-- A command that completes leaves what `shownAfter` reads. -/
theorem Completes.shown {α : Type} {i : Instr} {s : State} {P : Dev → Prop} (h : Completes i s P) (f : Dev → α) :
    ∃ d, P d ∧ shownAfter f (exec i s) = some (f d) := by
  obtain ⟨t, hexec, -, holds⟩ := h
  exact ⟨t.dev, holds, by rw [hexec]; rfl⟩

/-! ## SET with a servo step pending -/

/-- A running time base with the servo off, TIME_SET at 2 ns, and a step of 2^-16 ns that a servo has made for the next edge before
it was turned off. -/
def setWithStepPending : State :=
  { dev := ({ time := { frac := 0x1000000, pend := 1 } } : Dev).puts [(fCLK_STS_TPLL_LOCK, 1), (wordFld rTIME_SET_NS, 2)], pending := [] }

/-- The pending step is made on the edge of the SET, as one step with it. -/
theorem setWithStepPending_adds : shownAfter (·.time.value) (exec (.timeSet .spi 0) setWithStepPending) = some (2 * 2 ^ 40 + 2 ^ 24) := by
  decide +kernel

/-- Refutes O8: SET loads TIME_SET, but a step that the servo made for the same edge comes on top of it (R93), so that the time base
does not show exactly the value loaded. -/
theorem not_timeBaseIsWrittenAndRead : ¬ Obligations.TimeBaseIsWrittenAndRead := by
  rintro ⟨set, -⟩
  obtain ⟨d, ⟨exact, -⟩, after⟩ := (set setWithStepPending .spi 0 (by decide +kernel) (by decide +kernel) (by decide +kernel)
    (by decide +kernel) (by decide +kernel) (by decide +kernel) (by decide +kernel)).shown (·.time.value)
  rw [setWithStepPending_adds, exact] at after
  exact absurd after (by decide +kernel)

/-! ## A port returns to LISTENING -/

/-- Port 0 of domain 0 waits in UNCALIBRATED for its first Sync, three announce intervals after its last Announce. -/
def uncalibratedPort : State :=
  { dev := ({ ptp := [(0, { quiet := [(0, 3)] })] } : Dev).puts
      [(fCLK_STS_TPLL_LOCK, 1), (fRQLn_STS_RUN 0, 1), (fPTP_PTDd_CTL_EN 0, 1), (fPTP_PTDd_STS_PSTATE 0, 8)], pending := [] }

/-- The port that enters LISTENING begins to count its announce intervals anew. -/
theorem uncalibratedPort_listens : shownAfter (·.ptp) (exec (.announceReceiptTimeout 0 0) uncalibratedPort) = some [] := by decide +kernel

/-- Refutes O13: a port that returns to LISTENING starts its count of silent announce intervals again, a part of the domain's state that
the seventh clause lets nothing change. -/
theorem not_ptpServoAndMessages : ¬ Obligations.PtpServoAndMessages := by
  rintro ⟨-, -, -, -, -, -, timeout, -⟩
  obtain ⟨d, ⟨-, -, -, -, frame⟩, after⟩ := (timeout uncalibratedPort 0 0 (by decide +kernel) (by decide +kernel) (by decide +kernel)
    (by decide +kernel) (by decide +kernel) (by decide +kernel)).shown (·.ptp)
  have unchanged : d.ptp = uncalibratedPort.dev.ptp := congrArg (·.ptp) frame
  rw [uncalibratedPort_listens, unchanged] at after
  exact absurd after (by decide +kernel)

/-! ## A cue fires at a Dawn of TIME -/

/-- The cue engine runs while TIME comes back from RET; time cue 0, due at 100 ns, mutes transmit context 0. -/
def muteCueAtDawn : State :=
  { dev := ({ clk := { timeDawn := true }
              tbl := writeWord64 (writeWord64 [] (cueBase 0) 0x8100000000000000) (cueBase 0 + 24) 0x6000000000000000
              cue := { cues := [(0, { state := 1, due := 100 })] } } : Dev).put fCUE_STS_RUN 1
    pending := [] }

/-- The step of the Dawn reaches the cue, and its MUTE begins a stream command. -/
theorem muteCueAtDawn_mutes : shownAfter (·.stxNow) (exec (.tpllLock 1) muteCueAtDawn) = some (some (3, 0)) := by decide +kernel

/-- Refutes O44: the step that a Dawn of TIME makes fires the cues that it reaches, and a MUTE action puts a stream command in progress,
which the eighth clause lets nothing change. -/
theorem not_clocksLockSwitchAndFail : ¬ Obligations.ClocksLockSwitchAndFail := by
  rintro ⟨-, -, -, -, -, -, -, dawn, -⟩
  obtain ⟨d, ⟨-, -, -, frame⟩, after⟩ := (dawn muteCueAtDawn 1 (by decide +kernel) (by decide +kernel) (by decide +kernel)
    (by decide +kernel) (by decide +kernel)).shown (·.stxNow)
  have unchanged : d.stxNow = muteCueAtDawn.dev.stxNow := congrArg (·.stxNow) frame
  rw [muteCueAtDawn_mutes, unchanged] at after
  exact absurd after (by decide +kernel)

end Sys2Proof.Machine
end

section
/-! A statement that fails: the governing role passes while a servo step waits for the next edge (R84, R92). -/

namespace Sys2Proof.Machine

open Sys2Proof

/-- Domain 1 governs and has made a step of 2^-16 ns for the next edge, before the servo was turned off; the manual choice is now
domain 0, which is enabled. -/
def govChangeWithStepPending : State :=
  { dev := ({ time := { pend := 1 } } : Dev).puts
      [(fCLK_STS_TPLL_LOCK, 1), (fPTP_PTDd_CTL_EN 0, 1), (fPTP_PTDd_CTL_EN 1, 1), (fPTP_GOV_STS_GOV, 1)], pending := [] }

/-- The pending step is made on an edge that comes before the change. -/
theorem govChangeWithStepPending_steps : shownAfter (·.time.pend) (exec .governingChange govChangeWithStepPending) = some 0 := by
  decide +kernel

/-- Refutes O12: with a servo step due on the next edge, the governing change makes that step first and passes the role on the edge after
it (R92), so that the time base moves, which the fourth clause lets nothing do. -/
theorem not_ptpDomainsAndGovernor : ¬ Obligations.PtpDomainsAndGovernor := by
  rintro ⟨-, -, -, choice, -⟩
  obtain ⟨d, ⟨-, -, -, -, frame⟩, after⟩ := (choice govChangeWithStepPending 0 (by decide +kernel) (by decide +kernel) (by decide +kernel)
    (by decide +kernel) (by decide +kernel) (by decide +kernel) (by decide +kernel)).shown (·.time.pend)
  have unchanged : d.time = govChangeWithStepPending.dev.time := congrArg (·.time) frame
  rw [govChangeWithStepPending_steps, unchanged] at after
  exact absurd after (by decide +kernel)

end Sys2Proof.Machine
end

section
/-! A statement that fails: MCG_FREE raised while an injection waits for the array of the host queues (R110, R401, R537). -/

namespace Sys2Proof.Machine

open Sys2Proof

/-- Generator 0 is in HOLD with a HOLD_LIMIT of 60 s. The event queue holds a record in progress, of an earlier MCG_FREE, and a
two-bit injection is armed for array 4, the host queues. -/
def mcgHoldWithInjectionArmed : State :=
  { dev := ({ hq := [(0, { rest := packWords 16 (eventRecord 0x0501 1 0) })] } : Dev).puts
      [(fHQnn_CFG_PROD 0, 5), (fHQnn_CFG_EN 0, 1), (fINT_INJ_CMD_ARRAY, 4), (fINT_INJ_CMD_BITS, 2), (fINT_INJ_CMD_ARMED, 1),
        (fMCGn_STS_STATE 0, 3), (wordFld (rMCGn_HOLD_LIMIT 0), 60)]
    pending := [] }

/-- The record of MCG_FREE brings the one in progress to its end mark, and the first word so stored, word 0 of array 4, takes the
injection. -/
theorem mcgHoldWithInjectionArmed_injects :
    shownAfter (·.integ.inj) (exec (.mcgFree 0) mcgHoldWithInjectionArmed) = some [(8388608 * 4, true)] := by decide +kernel

/-- Refutes O14: the record of MCG_FREE makes the producer store words of its queue, and such a word takes an injection armed for that
array (R537), so that the errors hidden in the arrays change, which the fourteenth clause lets nothing do. -/
theorem not_generatorsEnableAndFollowTheirSource : ¬ Obligations.GeneratorsEnableAndFollowTheirSource := by
  rintro ⟨-, -, -, -, -, -, -, -, -, -, -, -, -, free, -⟩
  obtain ⟨d, ⟨-, -, frame⟩, after⟩ := (free mcgHoldWithInjectionArmed 0 (by decide +kernel) (by decide +kernel) (by decide +kernel)
    (by decide +kernel) (by decide +kernel)).shown (·.integ.inj)
  have unchanged : d.integ = mcgHoldWithInjectionArmed.dev.integ := congrArg (·.integ) frame
  rw [mcgHoldWithInjectionArmed_injects, unchanged] at after
  exact absurd after (by decide +kernel)

end Sys2Proof.Machine
end

section
/-! A statement that fails: a CRF packet leaves while an injected error waits in the assembly of its context (R148, R537). -/

namespace Sys2Proof.Machine

open Sys2Proof

/-- CRF context 0 runs on generator 0, one timestamp of six samples a packet, and its packet from sample 0 is due on port 0. A two-bit
error that an injection has left in the assembly of the context lies within that packet; the log of errors already holds one. -/
def crfPacketWithErrorInAssembly : State :=
  { dev := (((({ time := { ns := 200000 }
                 tbl := writeWord64 (writeWord64 (writeWord64 (writeWord64 [] 0 0x8000060000000000) 16 0x10001) 80 1) 192 2
                 stxOrder := [0] } : Dev).puts
      [(fCLK_STS_TPLL_LOCK, 1), (bitFld (rSTX_ENMAPkk 0) 0, 1), (fINT_ECC_LOG_VALID, 1), (fINT_ECC_LOG_UE, 1)]).setMcg 0
        { kind := 1, epoch := true }).setPath 0 .core { idx := some 6 }).setStx 0 { hurt := some (0, true) }
    pending := [] }

/-- The samples of the packet are read from assembly, the error is found, and the packet counts as skipped. -/
theorem crfPacketWithErrorInAssembly_skips :
    shownAfter (·.cf 0 27 31 0) (exec (.packetEmit 0) crfPacketWithErrorInAssembly) = some 1 := by decide +kernel

/-- Refutes O15: a CRF packet whose samples hold an uncorrectable error in assembly is discarded on every path and counted in SKIP_CNT
(Table 22.1, R537), which the last clause lets only stand. The clause takes any state of the context, and so also one in which an error
waits in its assembly. -/
theorem not_transmitContextsRunTheirCommands : ¬ Obligations.TransmitContextsRunTheirCommands := by
  rintro ⟨-, -, -, -, -, -, -, -, crf⟩
  obtain ⟨d, ⟨-, -, skips, -⟩, after⟩ := (crf crfPacketWithErrorInAssembly 0 (by decide +kernel) (by decide +kernel) (by decide +kernel)
    (by decide +kernel) (by decide +kernel) (by decide +kernel) (by decide +kernel)).shown (·.cf 0 27 31 0)
  have stands : d.cf 0 27 31 0 = 0 := skips.trans (by decide +kernel)
  rw [crfPacketWithErrorInAssembly_skips, stands] at after
  exact absurd after (by decide)

end Sys2Proof.Machine
end

section
/-! Words of a stream context (R122, R138, R521, R537): one field written, what reads as before, and when no injection waits for table
memory. -/

namespace Sys2Proof.Machine

open Sys2Proof

variable {d e : Dev}

/-! ## Bytes that read as before -/

theorem Dev.sameMemBut.trans {f : Dev} {a n : Nat} (h : d.sameMemBut e a n) (k : e.sameMemBut f a n) : d.sameMemBut f a n :=
  ⟨fun c hc => (k.1 c hc).trans (h.1 c hc), fun c => (k.2 c).trans (h.2 c)⟩

theorem Dev.sameMemBut.mono {a n b m : Nat} (h : d.sameMemBut e a n) (hlo : b ≤ a) (hhi : a + n ≤ b + m) : d.sameMemBut e b m :=
  ⟨fun c hc => h.1 c (by omega), h.2⟩

theorem Dev.sameMemBut.of_mem (tbl : e.tbl = d.tbl) (store : e.store = d.store) (a n : Nat) : d.sameMemBut e a n :=
  ⟨fun c _ => by rw [tbl], fun c => by rw [store]⟩

/-! ## A word of table memory written -/

/-- The device but for its registers and the errors of the arrays. -/
def Dev.butErrors (d : Dev) : Dev := { d with regs := [], poison := [], integ := {} }

/-- The device but for its registers, table memory and the errors of the arrays. -/
def Dev.butWords (d : Dev) : Dev := { d.butErrors with tbl := [] }

theorem Dev.arrayWrite_keepsRest (d : Dev) (array word : Nat) : Keeps Dev.butErrors [rINT_INJ_CMD] d (d.arrayWrite array word) := by
  have made : ∀ c : Dev, Keeps Dev.butErrors [rINT_INJ_CMD] c c.injMade := fun c =>
    ⟨rfl, ((Dev.sameRegs.refl c _).put (f := fINT_INJ_CMD_OP) (by decide) 0).putB (f := fINT_INJ_CMD_ARMED) (by decide) false⟩
  unfold Dev.arrayWrite
  dsimp only
  split
  · exact ((Keeps.of_regs rfl rfl).trans (made _)).trans (Keeps.of_regs rfl rfl)
  · exact Keeps.of_regs rfl rfl

theorem Dev.tblWord_keeps (d : Dev) (off v : Nat) : Keeps Dev.butWords [rINT_INJ_CMD] d (d.tblWord off v) := by
  have noted := Dev.arrayWrite_keepsRest { d with tbl := writeWord64 d.tbl off v } 3 (off / 8)
  exact ⟨(congrArg (fun x : Dev => { x with tbl := [] }) noted.rest).trans rfl, noted.regs⟩

theorem Dev.tblWord_tbl (d : Dev) (off v : Nat) : (d.tblWord off v).tbl = writeWord64 d.tbl off v :=
  congrArg (·.tbl) (Dev.arrayWrite_keepsRest { d with tbl := writeWord64 d.tbl off v } 3 (off / 8)).rest

theorem Dev.tblWord_stored (due : d.injDue 3 = false) (off v : Nat) : d.tblWord off v = d.tblStored off v := by
  obtain ⟨x, written⟩ : ∃ x, d.tblWord off v = if (d.tblStored off v).injDue 3 then x else d.tblStored off v := ⟨_, rfl⟩
  have quiet : (d.tblStored off v).injDue 3 = false := due
  rw [written, quiet, if_neg Bool.false_ne_true]

/-- With no injection due a write leaves a sound word sound. -/
theorem Dev.tblWord_tblHurt (due : d.injDue 3 = false) (off v : Nat) {o : Nat} (sound : d.tblHurt o = false) :
    (d.tblWord off v).tblHurt o = false := by
  rw [Dev.tblWord_stored due]
  simp only [Dev.tblHurt, Dev.poisoned, Bool.or_eq_false_iff] at sound ⊢
  obtain ⟨⟨poison, dead⟩, inj⟩ := sound
  refine ⟨⟨?_, dead⟩, ?_⟩
  · simp only [Dev.tblStored, kget_kset, poison, ite_self]
  · simp only [Dev.tblStored, kget_kset, inj, ite_self]

/-! ## A field of a word -/

/-- A word with bits [hi:lo] replaced. -/
def fieldPut (old hi lo v : Nat) : Nat := old - old / 2 ^ lo % 2 ^ (hi + 1 - lo) * 2 ^ lo + v % 2 ^ (hi + 1 - lo) * 2 ^ lo

/-- A digit of a number replaced: of the parts above, at and below it only the one at it changes. -/
theorem digit_put {F K : Nat} (old x : Nat) : old - old / F % K * F + x * F = F * (K * (old / F / K) + x) + old % F := by
  have parts : old = F * (K * (old / F / K)) + old / F % K * F + old % F := by
    conv_lhs => rw [← Nat.div_add_mod old F, ← Nat.div_add_mod (old / F) K, Nat.mul_add, Nat.mul_comm F (old / F % K)]
  rw [Nat.mul_add, Nat.mul_comm F x]
  omega

theorem fieldPut_get {old hi lo : Nat} (hold : old < 2 ^ 64) (hlo : lo ≤ hi) (hhi : hi < 64) (v : Nat) :
    fieldPut old hi lo v % 2 ^ 64 / 2 ^ lo % 2 ^ (hi + 1 - lo) = v % 2 ^ (hi + 1 - lo) := by
  obtain ⟨F, hF⟩ : ∃ F, F = 2 ^ lo := ⟨_, rfl⟩
  obtain ⟨K, hK⟩ : ∃ K, K = 2 ^ (hi + 1 - lo) := ⟨_, rfl⟩
  obtain ⟨M, hM⟩ : ∃ M, M = 2 ^ (64 - (hi + 1)) := ⟨_, rfl⟩
  have whole : 2 ^ 64 = F * (K * M) := by rw [hF, hK, hM, ← pow_add, ← pow_add]; congr 1; omega
  have posF : 0 < F := hF ▸ Nat.two_pow_pos lo
  have posK : 0 < K := hK ▸ Nat.two_pow_pos _
  have digit : v % K < K := Nat.mod_lt _ posK
  have top : old / F / K < M := by
    rw [Nat.div_div_eq_div_mul, Nat.div_lt_iff_lt_mul (Nat.mul_pos posF posK), Nat.mul_comm M, Nat.mul_assoc, ← whole]
    exact hold
  have upper : K * (old / F / K) + v % K < K * M := by
    have := Nat.mul_le_mul_left K top
    rw [Nat.mul_succ] at this
    omega
  have below : F * (K * (old / F / K) + v % K) + old % F < 2 ^ 64 := by
    have := Nat.mul_le_mul_left F upper
    rw [Nat.mul_succ, ← whole] at this
    have := Nat.mod_lt old posF
    omega
  rw [fieldPut, ← hF, ← hK, digit_put, Nat.mod_eq_of_lt below, Nat.mul_add_div posF, Nat.div_eq_of_lt (Nat.mod_lt old posF), Nat.add_zero,
    Nat.mul_add_mod, Nat.mod_mod]

/-! ## A field of a context word -/

variable {ctx w hi lo : Nat}

theorem Dev.ctxWord_lt (d : Dev) (ctx w : Nat) : d.ctxWord ctx w < 2 ^ 64 := by
  have h := leNat_lt (readBytes d.tbl (256 * ctx + 8 * w) 8)
  rw [readBytes_length] at h
  exact h

theorem Dev.cput_sound (sound : d.tblHurt (256 * ctx + 8 * w) = false) (v : Nat) :
    d.cput ctx w hi lo v = d.tblWord (256 * ctx + 8 * w) (fieldPut (d.ctxWord ctx w) hi lo v) := by
  rw [Dev.cput, sound, if_neg Bool.false_ne_true]; rfl

theorem Dev.cput_cases (d : Dev) (ctx w hi lo v : Nat) :
    d.cput ctx w hi lo v = d ∨ ∃ n, d.cput ctx w hi lo v = d.tblWord (256 * ctx + 8 * w) n := by
  unfold Dev.cput
  split
  · exact Or.inl rfl
  · exact Or.inr ⟨_, rfl⟩

theorem Dev.cput_keeps (d : Dev) (ctx w hi lo v : Nat) : Keeps Dev.butWords [rINT_INJ_CMD] d (d.cput ctx w hi lo v) := by
  obtain h | ⟨n, h⟩ := d.cput_cases ctx w hi lo v <;> rw [h]
  · exact Keeps.refl ..
  · exact Dev.tblWord_keeps ..

theorem Dev.cput_regs (due : d.injDue 3 = false) (v : Nat) : (d.cput ctx w hi lo v).regs = d.regs := by
  obtain h | ⟨n, h⟩ := d.cput_cases ctx w hi lo v <;> rw [h]
  rw [Dev.tblWord_stored due]; rfl

theorem Dev.cput_tblHurt (due : d.injDue 3 = false) (v : Nat) {o : Nat} (sound : d.tblHurt o = false) :
    (d.cput ctx w hi lo v).tblHurt o = false := by
  obtain h | ⟨n, h⟩ := d.cput_cases ctx w hi lo v <;> rw [h]
  · exact sound
  · exact Dev.tblWord_tblHurt due _ n sound

theorem Dev.cput_sameMem (d : Dev) (ctx w hi lo v : Nat) : d.sameMemBut (d.cput ctx w hi lo v) (256 * ctx + 8 * w) 8 := by
  obtain h | ⟨n, h⟩ := d.cput_cases ctx w hi lo v <;> rw [h]
  · exact Dev.sameMemBut.of_mem rfl rfl ..
  · have store : (d.tblWord (256 * ctx + 8 * w) n).store = d.store := congrArg (·.store) (d.tblWord_keeps (256 * ctx + 8 * w) n).rest
    refine ⟨fun c hc => ?_, fun c => by rw [store]⟩
    rw [Dev.tblWord_tbl]
    exact readByte_writeBytes_out _ _ _ _ (by rwa [leBytes_length])

theorem Dev.cf_congr (tbl : e.tbl = d.tbl) (ctx w hi lo : Nat) : e.cf ctx w hi lo = d.cf ctx w hi lo := by
  simp only [Dev.cf, Dev.ctxWord, tbl]

theorem Dev.cf_cput_same (sound : d.tblHurt (256 * ctx + 8 * w) = false) (hlo : lo ≤ hi) (hhi : hi < 64) (v : Nat) :
    (d.cput ctx w hi lo v).cf ctx w hi lo = v % 2 ^ (hi + 1 - lo) := by
  rw [Dev.cput_sound sound, Dev.cf, Dev.ctxWord, Dev.tblWord_tbl, readWord64_writeWord64]
  exact fieldPut_get (d.ctxWord_lt ctx w) hlo hhi v

theorem Dev.cf_cput_ne {u : Nat} (h : w ≠ u) (v i j : Nat) : (d.cput ctx w hi lo v).cf ctx u i j = d.cf ctx u i j := by
  obtain k | ⟨n, k⟩ := d.cput_cases ctx w hi lo v <;> rw [k]
  rw [Dev.cf, Dev.ctxWord, Dev.tblWord_tbl, readWord64_writeWord64_out _ _ _ _ (by omega)]
  rfl

end Sys2Proof.Machine
end

section
/-! What the admission checks read (R133, R135, Table 5.3): table memory, the enable maps, the rates of the generators and of the ports,
and no other register of the receive block. -/

namespace Sys2Proof.Machine

open Sys2Proof

theorem Dev.ctxMcg_lt (d : Dev) (ctx : Nat) : d.ctxMcg ctx < 8 := Nat.mod_lt _ (by decide)

/-- `e` has table memory as `d` has it, and every register but for those of the receive block that come before its enable map. -/
structure SameStreams (d e : Dev) : Prop where
  tbl : e.tbl = d.tbl
  regs : ∀ a, a < 0x80000 ∨ 0x80040 ≤ a → e.reg a = d.reg a

namespace SameStreams

variable {d e : Dev}

theorem get (h : SameStreams d e) {f : Fld} (hf : f.addr < 0x80000 ∨ 0x80040 ≤ f.addr) : e.get f = d.get f :=
  congrArg f.get (h.regs f.addr hf)

theorem cf (h : SameStreams d e) (ctx w hi lo : Nat) : e.cf ctx w hi lo = d.cf ctx w hi lo := Dev.cf_congr h.tbl ..

theorem cb (h : SameStreams d e) (ctx w b : Nat) : e.cb ctx w b = d.cb ctx w b := by rw [Dev.cb, Dev.cb, h.cf]

theorem ctxWord (h : SameStreams d e) (ctx w : Nat) : e.ctxWord ctx w = d.ctxWord ctx w := by rw [Dev.ctxWord, Dev.ctxWord, h.tbl]

theorem ctxMcg (h : SameStreams d e) (ctx : Nat) : e.ctxMcg ctx = d.ctxMcg ctx := by rw [Dev.ctxMcg, Dev.ctxMcg, h.ctxWord]

/-! ## Generators -/

theorem mult (h : SameStreams d e) {g : Nat} (hg : g < 8) : e.mcgMult g = d.mcgMult g := by
  rw [Dev.mcgMult, Dev.mcgMult, h.get (Or.inl (show 0x50100 + 0x100 * g < 0x80000 by omega))]

theorem pull (h : SameStreams d e) {g : Nat} (hg : g < 8) : e.mcgPull g = d.mcgPull g := by
  rw [Dev.mcgPull, Dev.mcgPull, h.get (Or.inl (show 0x50100 + 0x100 * g < 0x80000 by omega))]

theorem family (h : SameStreams d e) {g : Nat} (hg : g < 8) : e.on (fMCGn_CTL_FAMILY g) = d.on (fMCGn_CTL_FAMILY g) :=
  congrArg (· != 0) (h.get (Or.inl (show 0x50100 + 0x100 * g < 0x80000 by omega)))

theorem fs (h : SameStreams d e) {g : Nat} (hg : g < 8) : e.mcgFs g = d.mcgFs g := by
  rw [Dev.mcgFs, Dev.mcgFs, h.pull hg, Dev.mcgRate, Dev.mcgRate, h.mult hg, h.family hg]

theorem houseMult (h : SameStreams d e) : e.houseMult = d.houseMult := by
  have small : d.get fMCG_HOUSE_HOUSE < 8 := d.get_lt fMCG_HOUSE_HOUSE
  rw [Dev.houseMult, Dev.houseMult, h.get (f := fMCG_HOUSE_HOUSE) (by decide)]
  exact h.mult small

/-! ## Sizes and loads of a context -/

theorem cPkt (h : SameStreams d e) (ctx : Nat) : e.cPkt ctx = d.cPkt ctx := h.cf ..
theorem cFmt (h : SameStreams d e) (ctx : Nat) : e.cFmt ctx = d.cFmt ctx := h.cf ..
theorem cCh (h : SameStreams d e) (ctx : Nat) : e.cCh ctx = d.cCh ctx := h.cf ..
theorem cBase (h : SameStreams d e) (ctx : Nat) : e.cBase ctx = d.cBase ctx := h.cf ..
theorem cPres (h : SameStreams d e) (ctx : Nat) : e.cPres ctx = d.cPres ctx := h.cf ..
theorem cPt (h : SameStreams d e) (ctx : Nat) : e.cPt ctx = d.cPt ctx := by simp only [Dev.cPt, h.cf]
theorem cCrfTs (h : SameStreams d e) (ctx : Nat) : e.cCrfTs ctx = d.cCrfTs ctx := by simp only [Dev.cCrfTs, h.cf]
theorem cTags (h : SameStreams d e) (ctx : Nat) : e.cTags ctx = d.cTags ctx := by simp only [Dev.cTags, h.cf]
theorem cEgr (h : SameStreams d e) (ctx : Nat) : e.cEgr ctx = d.cEgr ctx := by simp only [Dev.cEgr, h.cf]
theorem cPaths (h : SameStreams d e) (ctx : Nat) : e.cPaths ctx = d.cPaths ctx := by simp only [Dev.cPaths, h.cf]
theorem cBindings (h : SameStreams d e) (ctx : Nat) : e.cBindings ctx = d.cBindings ctx := by simp only [Dev.cBindings, h.cb]

theorem ctxMult (h : SameStreams d e) (ctx : Nat) : e.mcgMult (d.ctxMcg ctx) = d.mcgMult (d.ctxMcg ctx) := h.mult (d.ctxMcg_lt ctx)

theorem cSpan (h : SameStreams d e) (ctx : Nat) : e.cSpan ctx = d.cSpan ctx := by
  simp only [Dev.cSpan, h.cPkt, h.ctxMcg, h.ctxMult, h.cFmt, h.cCrfTs]

theorem cPayload (h : SameStreams d e) (ctx : Nat) : e.cPayload ctx = d.cPayload ctx := by
  simp only [Dev.cPayload, Dev.cSpp, h.cPkt, h.ctxMcg, h.ctxMult, h.cFmt, h.cCrfTs, h.cCh]

theorem cFrame (h : SameStreams d e) (ctx : Nat) : e.cFrame ctx = d.cFrame ctx := by
  simp only [Dev.cFrame, h.cFmt, h.cf, h.cPayload, h.cTags]

theorem cRate (h : SameStreams d e) (ctx : Nat) : e.cRate ctx = d.cRate ctx := by
  simp only [Dev.cRate, h.ctxMcg, h.family (d.ctxMcg_lt ctx), h.pull (d.ctxMcg_lt ctx), h.cPkt, h.cFmt, h.cCrfTs]

theorem cLoad (h : SameStreams d e) (ctx : Nat) : e.cLoad ctx = d.cLoad ctx := by
  simp only [Dev.cLoad, h.cRate, h.cPaths, h.cBindings]

theorem resvBits (h : SameStreams d e) (l : List Nat) (p : Nat) : e.resvBits l p = d.resvBits l p := by
  simp only [Dev.resvBits, h.cf, h.cRate, h.cFrame]

theorem overlaps (h : SameStreams d e) (a b : Nat) : e.overlaps a b = d.overlaps a b := by
  simp only [Dev.overlaps, h.cFmt, h.cBase, h.cCh]

theorem needsDeep (h : SameStreams d e) (ctx : Nat) : e.needsDeep ctx = d.needsDeep ctx := by
  simp only [Dev.needsDeep, h.cFmt, h.houseMult, h.cf, h.cSpan]

theorem ctxKeys (h : SameStreams d e) (ctx : Nat) : e.ctxKeys ctx = d.ctxKeys ctx := by
  have key : ∀ b, e.bindKey ctx b = d.bindKey ctx b := fun b => by simp only [Dev.bindKey, h.cFmt, h.ctxWord, h.cf, h.cb]
  simp only [Dev.ctxKeys, h.cBindings, key]

/-! ## Enable maps and ports -/

theorem mapBits (h : SameStreams d e) {base : Nat} (hb : base + 0x40 ≤ 0x80000 ∨ 0x80040 ≤ base) : e.mapBits base = d.mapBits base :=
  Dev.mapBits_congr (L := (List.range 0x40).map (0x80000 + ·))
    (fun a ha => h.regs a (by
      by_contra hn
      exact ha (List.mem_map.mpr ⟨a - 0x80000, List.mem_range.mpr (by omega), by omega⟩)))
    fun k hk hm => by
      obtain ⟨i, hi, hik⟩ := List.mem_map.mp hm
      have := List.mem_range.mp hi
      omega

theorem cEnabled (h : SameStreams d e) (tx : Bool) : e.cEnabled tx = d.cEnabled tx := by
  have stx : e.mapBits (rSTX_ENMAPkk 0) = d.mapBits (rSTX_ENMAPkk 0) := h.mapBits (by decide)
  have srx : e.mapBits (rSRX_ENMAPkk 0) = d.mapBits (rSRX_ENMAPkk 0) := h.mapBits (by decide)
  rw [Dev.cEnabled, Dev.cEnabled, stx, srx]

theorem maxLen (h : SameStreams d e) (p : Nat) : e.maxLen p = d.maxLen p := by
  rw [Dev.maxLen, Dev.maxLen, h.get (Or.inr (show 0x80040 ≤ 0xE0000 + 0x1000 * p by omega))]

theorem rate (h : SameStreams d e) (p : Nat) : e.get (fNETn_SERDES_CFG_RATE p) = d.get (fNETn_SERDES_CFG_RATE p) :=
  h.get (Or.inr (show 0x80040 ≤ 0xE0004 + 0x1000 * p by omega))

theorem ddrIn (h : SameStreams d e) : e.ddrIn = d.ddrIn := congrArg (· != 0) (h.get (by decide))

theorem classCount (h : SameStreams d e) (k : Nat) : e.classCount k = d.classCount k := by
  simp only [Dev.classCount, h.houseMult]

/-- The admission checks give the same answer. -/
theorem admission (h : SameStreams d e) (ctx : Nat) : e.admission ctx = d.admission ctx := by
  have keys : e.ctxKeys = d.ctxKeys := funext h.ctxKeys
  have loads : e.cLoad = d.cLoad := funext h.cLoad
  simp only [Dev.admission, h.cFmt, h.cf, h.cb, h.cPt, h.cCh, h.ctxMcg, h.fs (d.ctxMcg_lt ctx), h.cEnabled, h.cCrfTs, h.cPkt, h.cPres,
    h.cPayload, h.cEgr, h.maxLen, h.cTags, h.cFrame, h.classCount, h.cBase, h.overlaps, h.houseMult, h.ctxMult, h.cBindings, keys, loads,
    h.rate, h.resvBits, h.needsDeep, h.ddrIn]

end SameStreams

end Sys2Proof.Machine
end

section
/-! SRX_CMD (R135, R139, R140, R188, R189): a command begun, its effect when it completes, and its result. -/

namespace Sys2Proof.Machine

open Sys2Proof

variable {d e f : Dev} {p : Port} {op c : Nat} {v : Word}

/-! ## The write of SRX_CMD -/

/-- The row of SRX_CMD in the register summary. -/
def srxCmdRow : RegDesc := { base := 0x80000, wr := 0x1FF, cmd := 0xF0000000 }

theorem regAt_srxCmd : regAt rSRX_CMD = some (srxCmdRow, 0, 0) := rfl

theorem Dev.writeEffect_srxCmd (d : Dev) (m : Meets) (old v cmd : Word) :
    d.writeEffect m rSRX_CMD 0 old v cmd = d.srxCmd (fSRX_CMD_OP.get cmd) (d.get fSRX_CMD_CTX) := rfl

theorem Dev.regValue_srxCmd (d : Dev) : d.regValue rSRX_CMD = fSRX_CMD_OP.put (d.reg rSRX_CMD) (cmdOp d.srxNow d.srxHeld) := rfl

theorem fSRX_CMD_ok : fSRX_CMD_OP.ok ∧ fSRX_CMD_STS_BUSY.ok ∧ fSRX_CMD_STS_QUEUED.ok := by unfold Fld.ok; decide

/-- With no command in progress a write of SRX_CMD is stored. -/
theorem Dev.regWrite_srxCmd (idle : d.on fSRX_CMD_STS_BUSY = false) (m : Meets) (p : Port) (v : Word) :
    d.regWrite m p rSRX_CMD v = d.regStore m p rSRX_CMD v srxCmdRow 0 := by
  simp only [Dev.regWrite, regAt_srxCmd, idle]
  rfl

/-- The device with another receive command in progress, or none. -/
def Dev.setSrxNow (d : Dev) (x : Option (Nat × Nat)) : Dev := { d with srxNow := x }

theorem Dev.srxCmd_idle (idle : d.on fSRX_CMD_STS_BUSY = false) (hlo : 1 ≤ op) (hhi : op ≤ 4) (c : Nat) :
    d.srxCmd op c = (d.setSrxNow (some (op, c))).putB fSRX_CMD_STS_BUSY true := by
  rw [Dev.srxCmd, if_neg (by omega), idle]
  rfl

/-- The device but for what a command begun changes of it. -/
def Dev.butSrxCmd (d : Dev) : Dev := { d with regs := [], ports := [], srxNow := none, irqA := false, irqB := false }

theorem Dev.setSrxNow_butSrxCmd (d : Dev) (x : Option (Nat × Nat)) : (d.setSrxNow x).butSrxCmd = d.butSrxCmd := rfl

theorem Dev.butRegs_butSrxCmd (d : Dev) : d.butRegs.butSrxCmd = d.butSrxCmd := rfl

/-- Command `op` on receive context `c` is in progress, and nothing else has changed. -/
structure SrxBegun (d e : Dev) (p : Port) (op c : Nat) : Prop where
  kept : Keeps Dev.butSrxCmd [rSRX_CMD, rSRX_CMD_STS] d e
  now : e.srxNow = some (op, c)
  busy : e.on fSRX_CMD_STS_BUSY = true
  code : (e.port p).code = 0

theorem Dev.writeWith_srxCmd (takes : d.takes p rSRX_CMD) (idle : d.on fSRX_CMD_STS_BUSY = false) (hlo : 1 ≤ op) (hhi : op ≤ 4) (v : Word) :
    SrxBegun d (d.writeWith {} p fSRX_CMD_OP op v) p op (fSRX_CMD_CTX.get v) := by
  obtain ⟨w, hw⟩ : ∃ w, w = (d.answer p []).setReg rSRX_CMD (merged (w32 0x1FF) ((d.answer p []).reg rSRX_CMD) (fSRX_CMD_OP.put v op)) :=
    ⟨_, rfl⟩
  have regs : d.sameRegs w [rSRX_CMD] := by rw [hw]; exact (d.answer_sameRegs p [] _).setReg (by simp) _
  have ctx : w.get fSRX_CMD_CTX = fSRX_CMD_CTX.get v := by
    have addr : rSRX_CMD = fSRX_CMD_CTX.addr := rfl
    rw [hw, Dev.get_setReg, if_pos addr, Fld.get_merged_within (by decide),
      Fld.get_put_apart fSRX_CMD_OP fSRX_CMD_CTX fSRX_CMD_ok.1 (Or.inr (by decide))]
  have opSeen : fSRX_CMD_OP.get (fSRX_CMD_OP.put v op &&& w32 srxCmdRow.cmd) = op := by
    rw [Fld.get_and_within (by decide), Fld.get_put _ fSRX_CMD_ok.1]
    exact Nat.mod_eq_of_lt (by omega : op < 16)
  have idleW : w.on fSRX_CMD_STS_BUSY = false := (regs.on (by decide)).trans idle
  have mask : writeMask srxCmdRow (fSRX_CMD_OP.put v op) = w32 0x1FF := rfl
  have addr : fSRX_CMD_OP.addr = rSRX_CMD := rfl
  have written : d.writeWith {} p fSRX_CMD_OP op v = (w.setSrxNow (some (op, fSRX_CMD_CTX.get v))).putB fSRX_CMD_STS_BUSY true := by
    rw [Dev.writeWith, addr, Dev.busWrite_reg takes (by decide) (by decide), Dev.regWrite_srxCmd (d := d.answer p []) idle, Dev.regStore_free rfl,
      Dev.writeEffect_srxCmd, opSeen, mask, ← hw, ctx, Dev.srxCmd_idle idleW hlo hhi]
  rw [written]
  refine ⟨⟨by rw [hw]; rfl, ?_⟩, rfl, Dev.on_putB_same _ fSRX_CMD_ok.2.1 rfl true, ?_⟩
  · exact ((regs.mono (by simp)).of_regs (f := w.setSrxNow (some (op, fSRX_CMD_CTX.get v))) rfl).putB (by decide) true
  · rw [hw]; exact (congrArg PortSt.code (Dev.port_congr rfl p)).trans (d.answer_code p [])

namespace SrxBegun

theorem shows (b : SrxBegun d e p op c) (held : d.srxHeld = none) (hhi : op ≤ 4) : fSRX_CMD_OP.get (e.regValue rSRX_CMD) = op := by
  have none : e.srxHeld = none := (congrArg (·.srxHeld) b.kept.rest).trans held
  rw [Dev.regValue_srxCmd, Fld.get_put _ fSRX_CMD_ok.1, none, b.now]
  exact Nat.mod_eq_of_lt (by omega : op < 16)

theorem frame (b : SrxBegun d e p op c) :
    e = { d with regs := e.regs, ports := e.ports, srxNow := e.srxNow, irqA := e.irqA, irqB := e.irqB } :=
  congrArg (fun x : Dev => { x with regs := e.regs, ports := e.ports, srxNow := e.srxNow, irqA := e.irqA, irqB := e.irqB }) b.kept.rest

theorem showIrq (b : SrxBegun d e p op c) : SrxBegun d e.showIrq p op c := ⟨⟨b.kept.rest, b.kept.regs⟩, b.now, b.busy, b.code⟩

end SrxBegun

/-- A command written with none in progress completes its write: it is begun. -/
theorem srxCommand_completes {i : Instr} {s : State} {P : Dev → Prop} (calm : s.dev.calm = true) (takes : s.dev.takes p rSRX_CMD)
    (hc : c = fSRX_CMD_CTX.get v) (idle : s.dev.on fSRX_CMD_STS_BUSY = false) (hlo : 1 ≤ op) (hhi : op ≤ 4)
    (hx : exec i s = s.done (s.dev.writeWith {} p fSRX_CMD_OP op v)) (h : ∀ e, SrxBegun s.dev e p op c → P e) : Completes i s P := by
  have begun := Dev.writeWith_srxCmd takes idle hlo hhi v
  rw [← hc] at begun
  refine completes_of_sameRegs hx calm begun.kept.regs (by decide) ?_ (h _ begun.showIrq)
  exact (congrArg Dev.calmPart begun.kept.rest :)

/-! ## The end of a command -/

/-- The result of a stream command stands in its CMD_STS, and nothing else changes (R135). -/
theorem Dev.cmdResult_shows (d : Dev) (sts result code ctx : Nat) :
    Keeps Dev.butRegs [sts] d (d.cmdResult sts result code ctx) ∧ (d.cmdResult sts result code ctx).get ⟨sts, 28, 2⟩ = result % 4 ∧
    (d.cmdResult sts result code ctx).get ⟨sts, 24, 4⟩ = code % 16 := by
  have okResult : (⟨sts, 28, 2⟩ : Fld).ok := (by decide : 28 + 2 ≤ 32)
  have okCode : (⟨sts, 24, 4⟩ : Fld).ok := (by decide : 24 + 4 ≤ 32)
  have okCtx : (⟨sts, 0, 9⟩ : Fld).ok := (by decide : 0 + 9 ≤ 32)
  have written : d.cmdResult sts result code ctx = ((d.put ⟨sts, 28, 2⟩ result).put ⟨sts, 24, 4⟩ code).put ⟨sts, 0, 9⟩ ctx := rfl
  rw [written]
  refine ⟨⟨rfl, (((Dev.sameRegs.refl d _).put ?_ _).put ?_ _).put ?_ _⟩, ?_, ?_⟩
  · exact List.mem_singleton_self sts
  · exact List.mem_singleton_self sts
  · exact List.mem_singleton_self sts
  · rw [Dev.get_put_apart _ _ _ _ okCtx (Or.inl (by decide : 0 + 9 ≤ 28)), Dev.get_put_apart _ _ _ _ okCode (Or.inl (by decide : 24 + 4 ≤ 28)),
      Dev.get_put_same _ _ _ okResult]
    rfl
  · rw [Dev.get_put_apart _ _ _ _ okCtx (Or.inl (by decide : 0 + 9 ≤ 24)), Dev.get_put_same _ _ _ okCode]
    rfl

/-- The device with its receive commands replaced: the one in progress and the one held. -/
def Dev.setSrxCmds (d : Dev) (now held : Option (Nat × Nat)) : Dev := { d with srxNow := now, srxHeld := held }

theorem Dev.setSrxCmds_none (now : d.srxNow = none) (held : d.srxHeld = none) : d.setSrxCmds none none = d := by
  have same : d.setSrxCmds d.srxNow d.srxHeld = d := rfl
  rwa [now, held] at same

/-- The end of a command: its result is shown, and one that is held starts. -/
def Dev.srxEnd (d : Dev) (result code c : Nat) : Dev :=
  ((d.cmdResult rSRX_CMD_STS result code c).setSrxCmds d.srxHeld none).puts
    [(fSRX_CMD_STS_BUSY, d.srxHeld.isSome.toNat), (fSRX_CMD_STS_QUEUED, 0)]

theorem Dev.srxQueued_end {result code : Nat} (now : d.srxNow = some (op, c))
    (run : (d.setSrxNow none).srxRun op c = f.cmdResult rSRX_CMD_STS result code c) : d.srxQueued = f.srxEnd result code c := by
  have queued : d.srxQueued = (((d.setSrxNow none).srxRun op c).setSrxCmds ((d.setSrxNow none).srxRun op c).srxHeld none).puts
      [(fSRX_CMD_STS_BUSY, ((d.setSrxNow none).srxRun op c).srxHeld.isSome.toNat), (fSRX_CMD_STS_QUEUED, 0)] := by
    rw [Dev.srxQueued, now]; rfl
  rw [queued, run]
  rfl

/-- The end of the only command leaves the device as its effect left it, but for CMD_STS. -/
theorem Dev.srxEnd_shows (now : f.srxNow = none) (held : f.srxHeld = none) (result code c : Nat) :
    Keeps Dev.butRegs [rSRX_CMD_STS] f (f.srxEnd result code c) ∧ (f.srxEnd result code c).on fSRX_CMD_STS_BUSY = false ∧
    (f.srxEnd result code c).get fSRX_CMD_STS_RESULT = result % 4 ∧ (f.srxEnd result code c).get fSRX_CMD_STS_CODE = code % 16 := by
  obtain ⟨kept, hresult, hcode⟩ := f.cmdResult_shows rSRX_CMD_STS result code c
  obtain ⟨g, hg⟩ : ∃ g, g = f.cmdResult rSRX_CMD_STS result code c := ⟨_, rfl⟩
  obtain ⟨okBusy, okQueued⟩ := fSRX_CMD_ok.2
  rw [← hg] at kept hresult hcode
  have gnow : g.srxNow = none := (congrArg (·.srxNow) kept.rest).trans now
  have gheld : g.srxHeld = none := (congrArg (·.srxHeld) kept.rest).trans held
  have same : f.srxEnd result code c = (g.put fSRX_CMD_STS_BUSY 0).put fSRX_CMD_STS_QUEUED 0 := by
    rw [Dev.srxEnd, ← hg, held, Dev.setSrxCmds_none gnow gheld]
    rfl
  rw [same]
  refine ⟨⟨kept.rest, (kept.regs.put (by decide) 0).put (by decide) 0⟩, ?_, ?_, ?_⟩
  · rw [Dev.on_put_apart _ 0 okQueued (Or.inl (by decide))]
    exact Dev.on_putB_same g okBusy rfl false
  · rw [Dev.get_put_apart _ _ _ 0 okQueued (Or.inr (by decide)), Dev.get_put_apart _ _ _ 0 okBusy (Or.inr (by decide))]
    exact hresult
  · rw [Dev.get_put_apart _ _ _ 0 okQueued (Or.inr (by decide)), Dev.get_put_apart _ _ _ 0 okBusy (Or.inr (by decide))]
    exact hcode

/-- What a command that began and has completed leaves, `q`, where its effect is the part `f` of it: its result stands and none is in
progress, and registers outside `M` and CMD_STS, and all that `F` does not erase, are as before. -/
structure SrxCompleted (F : Dev → Dev) (M : List Nat) (d f q : Dev) (result code : Nat) : Prop where
  after : Keeps Dev.butRegs [rSRX_CMD_STS] f q
  busy : q.on fSRX_CMD_STS_BUSY = false
  now : q.srxNow = none
  result : q.get fSRX_CMD_STS_RESULT = result % 4
  code : q.get fSRX_CMD_STS_CODE = code % 16
  kept : Keeps (fun x => F x.butSrxCmd) (rSRX_CMD :: rSRX_CMD_STS :: M) d q

theorem SrxBegun.completed {F : Dev → Dev} {M : List Nat} {result code : Nat} (b : SrxBegun d e p op c) (held : d.srxHeld = none)
    (run : (e.setSrxNow none).srxRun op c = f.cmdResult rSRX_CMD_STS result code c)
    (acts : Keeps (fun x => F x.butSrxCmd) M (e.setSrxNow none) f) (fnow : f.srxNow = none) (fheld : f.srxHeld = e.srxHeld) :
    SrxCompleted F M d f e.srxQueued result code := by
  have eheld : e.srxHeld = none := (congrArg (·.srxHeld) b.kept.rest).trans held
  obtain ⟨after, busy, hresult, hcode⟩ := f.srxEnd_shows fnow (fheld.trans eheld) result code c
  obtain ⟨q, hq⟩ : ∃ q, q = f.srxEnd result code c := ⟨_, rfl⟩
  rw [Dev.srxQueued_end b.now run, ← hq]
  rw [← hq] at after busy hresult hcode
  refine ⟨after, busy, (congrArg (·.srxNow) after.rest).trans fnow, hresult, hcode, ?_⟩
  have begun : Keeps (fun x => F x.butSrxCmd) [rSRX_CMD, rSRX_CMD_STS] d (e.setSrxNow none) :=
    ⟨by rw [Dev.setSrxNow_butSrxCmd, b.kept.rest], b.kept.regs.of_regs rfl⟩
  have ended : Keeps (fun x => F x.butSrxCmd) [rSRX_CMD_STS] f q :=
    ⟨by rw [← Dev.butRegs_butSrxCmd, after.rest, Dev.butRegs_butSrxCmd], after.regs⟩
  exact ((begun.mono (by simp)).trans (acts.mono (by simp))).trans (ended.mono (by simp))

/-! ## What runs the command sees the device as before -/

namespace SrxBegun

theorem sameStreams (b : SrxBegun d e p op c) : SameStreams d (e.setSrxNow none) where
  tbl := congrArg (·.tbl) b.kept.rest
  regs a ha := b.kept.regs a (by
    simp only [List.mem_cons, List.not_mem_nil, or_false, rSRX_CMD, rSRX_CMD_STS]
    omega)

theorem on (b : SrxBegun d e p op c) {g : Fld} (hg : g.addr ∉ [rSRX_CMD, rSRX_CMD_STS]) : (e.setSrxNow none).on g = d.on g := b.kept.regs.on hg

theorem srxOf (b : SrxBegun d e p op c) (o : Nat) : (e.setSrxNow none).srxOf o = d.srxOf o := by
  have srx : e.srx = d.srx := congrArg (·.srx) b.kept.rest
  exact congrArg (kget {} · o) srx

theorem tblHurt (b : SrxBegun d e p op c) (o : Nat) : (e.setSrxNow none).tblHurt o = d.tblHurt o := by
  have poison : e.poison = d.poison := congrArg (·.poison) b.kept.rest
  have integ : e.integ = d.integ := congrArg (·.integ) b.kept.rest
  change e.tblHurt o = d.tblHurt o
  rw [Dev.tblHurt, Dev.poisoned, poison, integ]
  rfl

theorem srxOrder (b : SrxBegun d e p op c) : e.srxOrder = d.srxOrder := congrArg (·.srxOrder) b.kept.rest

end SrxBegun

/-! ## A refusal (R135, Table 5.3) -/

/-- The refusal of an ENABLE: captured and counted. -/
def Dev.srxRefused (d : Dev) (r : Refused) (c : Nat) : Dev :=
  (d.capture fSRX_REFUSE_VALID [(fSRX_REFUSE_CODE, r.code), (fSRX_REFUSE_PORT, r.port), (fSRX_REFUSE_OTHER, r.other), (fSRX_REFUSE_CTX, c)]).inc
    rSRX_REFUSE_CNT

theorem Dev.srxRun_refused {r : Refused} (off : d.srxOn c = false) (adm : d.admission (512 + c) = some r) :
    d.srxRun 1 c = (d.srxRefused r c).cmdResult rSRX_CMD_STS 2 r.code c := by
  simp only [Dev.srxRun, off, rxCtx, adm, Dev.srxRefused, Bool.false_eq_true, if_false]

theorem Dev.srxRefused_keeps (d : Dev) (r : Refused) (c : Nat) : Keeps Dev.butRegs [rSRX_REFUSE, rSRX_REFUSE_CNT] d (d.srxRefused r c) := by
  refine ⟨Dev.capture_butRegs .., ((Dev.sameRegs.refl d _).capture (by decide) fun x hx => ?_).inc (by decide)⟩
  simp only [List.mem_cons, List.not_mem_nil, or_false] at hx
  obtain rfl | rfl | rfl | rfl := hx <;> exact List.mem_cons_self

theorem Dev.srxRefused_count (d : Dev) (r : Refused) (c : Nat) :
    ((d.srxRefused r c).reg rSRX_REFUSE_CNT).toNat = min ((d.reg rSRX_REFUSE_CNT).toNat + 1) (2 ^ 32 - 1) := by
  have apart : d.sameRegs (d.capture fSRX_REFUSE_VALID
      [(fSRX_REFUSE_CODE, r.code), (fSRX_REFUSE_PORT, r.port), (fSRX_REFUSE_OTHER, r.other), (fSRX_REFUSE_CTX, c)]) [rSRX_REFUSE] := by
    refine (Dev.sameRegs.refl d _).capture (by decide) fun x hx => ?_
    simp only [List.mem_cons, List.not_mem_nil, or_false] at hx
    obtain rfl | rfl | rfl | rfl := hx <;> exact List.mem_cons_self
  rw [Dev.srxRefused, Dev.reg_inc_same, apart _ (by decide)]

end Sys2Proof.Machine
end

section
/-! What MUTE, UNMUTE, ENABLE and DISABLE of a receive context change (R139, R183, R184, R188, R189). -/

namespace Sys2Proof.Machine

open Sys2Proof

variable {d e f : Dev} {c : Nat}

@[simp] theorem Dev.srxOf_setSrx_same (d : Dev) (c : Nat) (x : SrxSt) : (d.setSrx c x).srxOf c = x := kget_kset_same ..

theorem Dev.srxOf_congr (h : e.srx = d.srx) (c : Nat) : e.srxOf c = d.srxOf c := by rw [Dev.srxOf, Dev.srxOf, h]

theorem Dev.srxOf_butRegs (h : e.butRegs = d.butRegs) (c : Nat) : e.srxOf c = d.srxOf c := Dev.srxOf_congr (congrArg (·.srx) h) c

/-! ## MUTE and UNMUTE (R188) -/

theorem bitFld_ok (a c : Nat) : (bitFld a (c % 32)).ok := by
  have := Nat.mod_lt c (by decide : 0 < 32)
  change c % 32 + 1 ≤ 32
  omega

/-- The device but for its registers and the receive contexts. -/
def Dev.butSrx (d : Dev) : Dev := { d.butRegs with srx := [] }

theorem Dev.srxRun_mute {op : Nat} {mute : Bool} (hop : op = if mute then 3 else 4) (other : d.on (srxMuteFld c) = !mute) :
    d.srxRun op c = (d.srxSetMute c mute).cmdResult rSRX_CMD_STS 1 0 c := by
  cases mute <;> subst hop <;> simp [Dev.srxRun, other]

theorem Dev.srxSetMute_keeps (d : Dev) (c : Nat) (mute : Bool) : Keeps Dev.butSrx [rSRX_MUTEMAPkk (c / 32)] d (d.srxSetMute c mute) :=
  ⟨rfl, ((Dev.sameRegs.refl d _).putB (f := srxMuteFld c) List.mem_cons_self mute).of_regs rfl⟩

theorem Dev.srxSetMute_muted (d : Dev) (c : Nat) (mute : Bool) : (d.srxSetMute c mute).on (srxMuteFld c) = mute :=
  Dev.on_putB_same d (bitFld_ok _ c) rfl mute

theorem srxMuteFld_apart (c : Nat) : (srxMuteFld c).addr ≠ (bitFld (rSRX_ENMAPkk (c / 32)) (c % 32)).addr := by
  change 0x800C0 + 0x4 * (c / 32) ≠ 0x80040 + 0x4 * (c / 32)
  omega

theorem Dev.srxSetMute_ramp (d : Dev) (c : Nat) (mute : Bool) :
    ((d.srxSetMute c mute).srxOf c).ramp = if d.srxOn c then (d.srxOf c).ramp.command mute else MuteRamp.rest mute := by
  have on : (d.putB (srxMuteFld c) mute).srxOn c = d.srxOn c := Dev.on_put_addr d _ (srxMuteFld_apart c)
  rw [Dev.srxSetMute, Dev.srxOf_setSrx_same, on]

/-! ## The sums shown (R133) -/

/-- The registers of the admission sums. -/
def sumRegs : List Nat := [rSTX_PPS_LOAD, rSRX_PPS_LOAD, rSTX_RESV_Pp 0, rSTX_RESV_Pp 1, rSTX_RESV_Pp 2, rSTX_RESV_Pp 3]

theorem Dev.showSums_keeps (d : Dev) : Keeps Dev.butRegs sumRegs d d.showSums := by
  unfold Dev.showSums
  dsimp only
  refine Keeps.trans (e := (d.setReg rSTX_PPS_LOAD _).setReg rSRX_PPS_LOAD _)
    ⟨rfl, ((Dev.sameRegs.refl d _).setReg (by decide) _).setReg (by decide) _⟩ (Keeps.foldl _ _ (fun p hp x => ?_) _)
  have here : rSTX_RESV_Pp p ∈ sumRegs := by
    revert p
    decide
  exact ⟨rfl, (Dev.sameRegs.refl x _).setReg here _⟩

/-! ## ENABLE (R139, R183) -/

theorem Dev.cSetState_rx (d : Dev) (c v : Nat) : d.cSetState (rxCtx c) v = d.cput (rxCtx c) 20 2 0 v :=
  if_neg (Nat.not_lt.mpr (Nat.le_add_right 512 c))

theorem Dev.cState_rx (d : Dev) (c : Nat) : d.cState (rxCtx c) = d.cf (rxCtx c) 20 2 0 :=
  if_neg (Nat.not_lt.mpr (Nat.le_add_right 512 c))

/-- Context `c` listed as enabled, last in order. -/
def Dev.srxListed (d : Dev) (c : Nat) : Dev :=
  { d.putB (bitFld (rSRX_ENMAPkk (c / 32)) (c % 32)) true with srxOrder := d.srxOrder ++ [c] }

/-- The state words of context `c` loaded. -/
def Dev.srxLoaded (d : Dev) (c deep : Nat) : Dev := ((d.cput (rxCtx c) 20 3 3 deep).cput (rxCtx c) 21 63 0 0).cSetState (rxCtx c) 1

/-- Context `c` gets its own state, `x`, then what its group makes of it, and the sums are shown. -/
def Dev.srxEntered (d : Dev) (c : Nat) (x : SrxSt) : Dev :=
  let e := (d.setSrx c x).srxSolo c
  (e.setSrx c { e.srxOf c with fixed := !(e.srxOf c).solo && e.grpFixed c }).showSums

theorem Dev.srxStart_eq (d : Dev) (c : Nat) :
    ∃ x, x.win = none ∧ d.srxStart c = ((d.srxListed c).srxLoaded c (d.needsDeep (rxCtx c)).toNat).srxEntered c x := ⟨_, rfl, rfl⟩

theorem Dev.setSrx_keeps (d : Dev) (L : List Nat) (c : Nat) (x : SrxSt) : Keeps Dev.butSrx L d (d.setSrx c x) := Keeps.of_regs rfl rfl

theorem Dev.srxSolo_keeps (d : Dev) (c : Nat) : Keeps Dev.butSrx [rSRX_GRP_SOLO, rSRX_GRP_SOLO_CNT] d (d.srxSolo c) ∧
    ((d.srxSolo c).srxOf c).win = (d.srxOf c).win := by
  have noted : ∀ (x : Dev) (fs : List (Fld × Nat)), (∀ y ∈ fs, y.1.addr = rSRX_GRP_SOLO) →
      Keeps Dev.butRegs [rSRX_GRP_SOLO, rSRX_GRP_SOLO_CNT] x ((x.capture fSRX_GRP_SOLO_VALID fs).inc rSRX_GRP_SOLO_CNT) := fun x fs hfs =>
    ⟨Dev.capture_butRegs .., ((Dev.sameRegs.refl x _).capture (by decide) fun y hy => by rw [hfs y hy]; exact List.mem_cons_self).inc (by decide)⟩
  unfold Dev.srxSolo
  split
  · split
    · exact ⟨Keeps.refl .., rfl⟩
    · rename_i r _ _
      obtain ⟨s, hs⟩ : ∃ s, s = d.setSrx c { d.srxOf c with solo := true } := ⟨_, rfl⟩
      have kept := noted s [(fSRX_GRP_SOLO_GRP, s.cGrp (rxCtx c)), (fSRX_GRP_SOLO_REF, r % 512), (fSRX_GRP_SOLO_CTX, c)] (by simp; decide)
      have set : Keeps Dev.butSrx [rSRX_GRP_SOLO, rSRX_GRP_SOLO_CNT] d s := by rw [hs]; exact d.setSrx_keeps ..
      have own : (s.srxOf c).win = (d.srxOf c).win := by rw [hs, Dev.srxOf_setSrx_same]
      rw [← hs]
      refine ⟨set.trans (kept.part fun x : Dev => { x with srx := [] }), ?_⟩
      exact (congrArg SrxSt.win (Dev.srxOf_butRegs kept.rest c)).trans own
  · exact ⟨Keeps.refl .., rfl⟩

theorem Dev.srxEntered_keeps (d : Dev) (c : Nat) (x : SrxSt) :
    Keeps Dev.butSrx (rSRX_GRP_SOLO :: rSRX_GRP_SOLO_CNT :: sumRegs) d (d.srxEntered c x) ∧ ((d.srxEntered c x).srxOf c).win = x.win := by
  obtain ⟨s, hs⟩ : ∃ s, s = (d.setSrx c x).srxSolo c := ⟨_, rfl⟩
  obtain ⟨g, hg⟩ : ∃ g, g = s.setSrx c { s.srxOf c with fixed := !(s.srxOf c).solo && s.grpFixed c } := ⟨_, rfl⟩
  obtain ⟨kept, win⟩ := (d.setSrx c x).srxSolo_keeps c
  have shown := g.showSums_keeps
  rw [← hs] at kept win
  have entered : d.srxEntered c x = g.showSums := by rw [hg, hs]; rfl
  rw [entered]
  refine ⟨?_, ?_⟩
  · have fixed : Keeps Dev.butSrx (rSRX_GRP_SOLO :: rSRX_GRP_SOLO_CNT :: sumRegs) s g := by rw [hg]; exact s.setSrx_keeps ..
    have sums := (shown.mono (M := rSRX_GRP_SOLO :: rSRX_GRP_SOLO_CNT :: sumRegs) (by simp)).part fun x : Dev => { x with srx := [] }
    exact (((d.setSrx_keeps _ c x).trans (kept.mono (by simp))).trans fixed).trans sums
  · rw [Dev.srxOf_butRegs shown.rest, hg, Dev.srxOf_setSrx_same]
    exact win.trans (by rw [Dev.srxOf_setSrx_same])

theorem Dev.injDue_of_regs (h : e.regs = d.regs) (array : Nat) : e.injDue array = d.injDue array := by
  rw [Dev.injDue, Dev.injDue, Dev.on_of_regs h, Dev.get_of_regs h]

theorem Dev.injDue_off (off : d.on fINT_INJ_CMD_ARMED = false) (array : Nat) : d.injDue array = false := by rw [Dev.injDue, off]; rfl

/-- Every field of a word that is 0 is 0. -/
theorem Dev.cf_zero {ctx w : Nat} (h : d.cf ctx w 63 0 = 0) (hi lo : Nat) : d.cf ctx w hi lo = 0 := by
  have word : d.ctxWord ctx w = 0 := by
    rw [Dev.cf, pow_zero, Nat.div_one] at h
    rwa [Nat.mod_eq_of_lt (d.ctxWord_lt ctx w)] at h
  rw [Dev.cf, word, Nat.zero_div, Nat.zero_mod]

/-- The state words of a context loaded, where no injection is due and both words are sound. -/
theorem Dev.srxLoaded_shows (due : d.injDue 3 = false) (sound : ∀ w < 32, d.tblHurt (256 * rxCtx c + 8 * w) = false) (deep : Nat) :
    Keeps Dev.butWords [] d (d.srxLoaded c deep) ∧ (d.srxLoaded c deep).cState (rxCtx c) = 1 ∧ (d.srxLoaded c deep).extSeq c = 0 ∧
    d.sameMemBut (d.srxLoaded c deep) (256 * rxCtx c) 256 ∧ ∀ w < 32, (d.srxLoaded c deep).tblHurt (256 * rxCtx c + 8 * w) = false := by
  obtain ⟨a, ha⟩ : ∃ a, a = d.cput (rxCtx c) 20 3 3 deep := ⟨_, rfl⟩
  obtain ⟨b, hb⟩ : ∃ b, b = a.cput (rxCtx c) 21 63 0 0 := ⟨_, rfl⟩
  have regsA : a.regs = d.regs := by rw [ha, Dev.cput_regs due]
  have dueA : a.injDue 3 = false := (Dev.injDue_of_regs regsA 3).trans due
  have regsB : b.regs = a.regs := by rw [hb, Dev.cput_regs dueA]
  have dueB : b.injDue 3 = false := (Dev.injDue_of_regs regsB 3).trans dueA
  have soundA : ∀ w < 32, a.tblHurt (256 * rxCtx c + 8 * w) = false := fun w hw => by rw [ha]; exact Dev.cput_tblHurt due _ (sound w hw)
  have soundB : ∀ w < 32, b.tblHurt (256 * rxCtx c + 8 * w) = false := fun w hw => by rw [hb]; exact Dev.cput_tblHurt dueA _ (soundA w hw)
  have loaded : d.srxLoaded c deep = b.cput (rxCtx c) 20 2 0 1 := by rw [hb, ha, ← Dev.cSetState_rx]; rfl
  rw [loaded]
  refine ⟨⟨?_, ?_⟩, ?_, ?_, ?_, fun w hw => Dev.cput_tblHurt dueB _ (soundB w hw)⟩
  · rw [(b.cput_keeps ..).rest, hb, (a.cput_keeps ..).rest, ha, (d.cput_keeps ..).rest]
  · exact (Dev.sameRegs.refl d _).of_regs ((Dev.cput_regs dueB _).trans (regsB.trans regsA))
  · rw [Dev.cState_rx, Dev.cf_cput_same (soundB 20 (by decide)) (by decide) (by decide)]
    rfl
  · have clear : b.cf (rxCtx c) 21 63 0 = 0 := by
      rw [hb, Dev.cf_cput_same (soundA 21 (by decide)) (by decide) (by decide), Nat.zero_mod]
    rw [Dev.extSeq, Dev.cf_cput_ne (by decide)]
    exact Dev.cf_zero clear 63 32
  · have memA := d.cput_sameMem (rxCtx c) 20 3 3 deep
    have memB := a.cput_sameMem (rxCtx c) 21 63 0 0
    have memC := b.cput_sameMem (rxCtx c) 20 2 0 1
    rw [← ha] at memA
    rw [← hb] at memB
    exact ((memA.mono (by omega) (by omega)).trans (memB.mono (by omega) (by omega))).trans (memC.mono (by omega) (by omega))

/-- The device but for its registers, table memory, the errors of the arrays and the receive contexts. -/
def Dev.butStream (d : Dev) : Dev := { d.butWords with srx := [], srxOrder := [] }

/-- What an accepted ENABLE leaves. -/
structure SrxStarted (d f : Dev) (c : Nat) : Prop where
  kept : Keeps Dev.butStream (rSRX_ENMAPkk (c / 32) :: rSRX_GRP_SOLO :: rSRX_GRP_SOLO_CNT :: sumRegs) d f
  enabled : f.srxOn c = true
  order : f.srxOrder = d.srxOrder ++ [c]
  state : f.cState (rxCtx c) = 1
  seq : f.extSeq c = 0
  win : (f.srxOf c).win = none
  mem : d.sameMemBut f (256 * rxCtx c) 256
  sound : f.tblBad (256 * rxCtx c) 32 = false

theorem Dev.srxListed_keeps (d : Dev) (c : Nat) : Keeps Dev.butStream [rSRX_ENMAPkk (c / 32)] d (d.srxListed c) :=
  ⟨rfl, ((Dev.sameRegs.refl d _).putB (f := bitFld (rSRX_ENMAPkk (c / 32)) (c % 32)) List.mem_cons_self true).of_regs rfl⟩

theorem rSRX_ENMAPkk_apart (c : Nat) {a : Nat} (ha : a < 0x80040 ∨ 0x80080 ≤ a) (hc : c < 512) : rSRX_ENMAPkk (c / 32) ≠ a := by
  change 0x80040 + 0x4 * (c / 32) ≠ a
  omega

theorem Dev.srxStart_shows (hc : c < 512) (off : d.on fINT_INJ_CMD_ARMED = false)
    (sound : ∀ w < 32, d.tblHurt (256 * rxCtx c + 8 * w) = false) : SrxStarted d (d.srxStart c) c := by
  obtain ⟨x, hx, start⟩ := d.srxStart_eq c
  obtain ⟨l, hl⟩ : ∃ l, l = d.srxListed c := ⟨_, rfl⟩
  obtain ⟨m, hm⟩ : ∃ m, m = l.srxLoaded c (d.needsDeep (rxCtx c)).toNat := ⟨_, rfl⟩
  obtain ⟨f, hf⟩ : ∃ f, f = m.srxEntered c x := ⟨_, rfl⟩
  have listed := d.srxListed_keeps c
  rw [← hl] at listed
  have offL : l.on fINT_INJ_CMD_ARMED = false :=
    (listed.regs.on (by
      simp only [List.mem_singleton]
      exact (rSRX_ENMAPkk_apart c (by decide) hc).symm)).trans off
  have soundL : ∀ w < 32, l.tblHurt (256 * rxCtx c + 8 * w) = false := fun w hw => by rw [hl]; exact sound w hw
  obtain ⟨loaded, state, seq, mem, whole⟩ := Dev.srxLoaded_shows (Dev.injDue_off offL 3) soundL (d.needsDeep (rxCtx c)).toNat
  rw [← hm] at loaded state seq mem whole
  obtain ⟨entered, win⟩ := m.srxEntered_keeps c x
  rw [← hf] at entered win
  rw [start, ← hl, ← hm, ← hf]
  have tbl : f.tbl = m.tbl := congrArg (·.tbl) entered.rest
  have apart : (bitFld (rSRX_ENMAPkk (c / 32)) (c % 32)).addr ∉ rSRX_GRP_SOLO :: rSRX_GRP_SOLO_CNT :: sumRegs := by
    have far : ∀ a ∈ rSRX_GRP_SOLO :: rSRX_GRP_SOLO_CNT :: sumRegs, a < 0x80040 ∨ 0x80080 ≤ a := by decide
    exact fun h => rSRX_ENMAPkk_apart c (far _ h) hc rfl
  exact
    { kept := by
        have first := loaded.part fun y : Dev => { y with srx := [], srxOrder := [] }
        have second := entered.part fun y : Dev => { y with tbl := [], srxOrder := [], poison := [], integ := {} }
        exact ((listed.mono (by simp)).trans (first.mono (by simp))).trans (second.mono (by simp))
      enabled := by
        have shown : l.srxOn c = true := by rw [hl]; exact Dev.on_putB_same d (bitFld_ok _ c) rfl true
        exact (entered.regs.on apart).trans ((loaded.regs.on (by simp)).trans shown)
      order := by
        have listedLast : l.srxOrder = d.srxOrder ++ [c] := by rw [hl]; rfl
        exact (congrArg (·.srxOrder) entered.rest).trans ((congrArg (·.srxOrder) loaded.rest).trans listedLast)
      state := by rw [Dev.cState_rx, Dev.cf_congr tbl, ← Dev.cState_rx, state]
      seq := by rw [Dev.extSeq, Dev.cf_congr tbl]; exact seq
      win := win.trans hx
      mem := by
        have memL : d.sameMemBut l (256 * rxCtx c) 256 := by rw [hl]; exact Dev.sameMemBut.of_mem rfl rfl ..
        exact (memL.trans mem).trans (Dev.sameMemBut.of_mem tbl (congrArg (·.store) entered.rest) ..)
      sound := by
        have poison : f.poison = m.poison := congrArg (·.poison) entered.rest
        have integ : f.integ = m.integ := congrArg (·.integ) entered.rest
        have hurt : ∀ o, f.tblHurt o = m.tblHurt o := fun o => by rw [Dev.tblHurt, Dev.tblHurt, Dev.poisoned, Dev.poisoned, poison, integ]
        have none : ((List.range 32).any fun i => f.tblHurt (256 * rxCtx c + 8 * i)) = false := by
          rw [List.any_eq_false]
          intro i hi
          rw [hurt, whole i (List.mem_range.mp hi)]
          exact Bool.false_ne_true
        rw [Dev.tblBad, none, Bool.and_false] }

end Sys2Proof.Machine
end

section
/-! The commands of the receive contexts, each from its write to its end (R135, R140, R184, R189). -/

namespace Sys2Proof.Machine

open Sys2Proof

variable {d e f : Dev} {c : Nat}

theorem Dev.srxRun_started (disabled : d.srxOn c = false) (adm : d.admission (512 + c) = none)
    (whole : (d.srxStart c).tblBad (256 * rxCtx c) 32 = false) :
    d.srxRun 1 c = (d.srxStart c).cmdResult rSRX_CMD_STS 1 0 c := by
  have words : (d.srxStart c).srxWords c = d.srxStart c := by rw [Dev.srxWords, whole, if_neg Bool.false_ne_true]
  simp only [Dev.srxRun, disabled, rxCtx, adm, words, Bool.false_eq_true, if_false]

/-! ## DISABLE (R184, R189) -/

theorem Dev.srxRun_stopped (enabled : d.srxOn c = true) : d.srxRun 2 c = (d.srxStop c).cmdResult rSRX_CMD_STS 1 0 c := by
  simp only [Dev.srxRun, enabled, if_true]

theorem Dev.srxOf_setSrx (d : Dev) (c o : Nat) (x : SrxSt) : (d.setSrx c x).srxOf o = if c = o then x else d.srxOf o := kget_kset ..

/-- A group whose members need not wait any longer fixes their start, and leaves what they play (R184). -/
theorem Dev.grpFix_keeps (d : Dev) (grp state : Nat) :
    Keeps Dev.butSrx [] d (d.grpFix grp state) ∧ ∀ o, ((d.grpFix grp state).srxOf o).play = (d.srxOf o).play := by
  unfold Dev.grpFix
  dsimp only
  split
  · refine ⟨Keeps.foldl _ _ (fun x _ e => e.setSrx_keeps ..) d, fun o => ?_⟩
    refine foldl_keeps (fun e : Dev => (e.srxOf o).play) _ _ (fun x _ e => ?_) d
    rw [Dev.srxOf_setSrx]
    split
    · rename_i same
      rw [same]
    · rfl
  · exact ⟨Keeps.refl .., fun _ => rfl⟩

theorem Dev.grpCheck_keeps (d : Dev) (grp state : Nat) :
    Keeps Dev.butSrx [] d (d.grpCheck grp state) ∧ ∀ o, ((d.grpCheck grp state).srxOf o).play = (d.srxOf o).play := by
  unfold Dev.grpCheck
  dsimp only
  split
  · exact d.grpFix_keeps grp state
  · exact ⟨Keeps.refl .., fun _ => rfl⟩

theorem Dev.unfollow_keeps (d : Dev) (g : Nat) (k : Consumer) : Keeps Dev.butTicks [] d (d.unfollow g k) := by
  unfold Dev.unfollow
  split
  · exact Keeps.refl ..
  · exact Keeps.of_regs rfl rfl

/-- Context `c` taken out of the list of enabled contexts, its state IDLE. -/
def Dev.srxLeft (d : Dev) (c : Nat) : Dev :=
  let e := (d.cSetState (rxCtx c) 0).putB (bitFld (rSRX_ENMAPkk (c / 32)) (c % 32)) false
  let e := { e with srxOrder := e.srxOrder.filter (· != c) }
  e.setSrx c { ramp := MuteRamp.rest (e.on (srxMuteFld c)) }

/-- The group of a context that has left, the paths of ticks and the sums follow. -/
def Dev.srxGone (d : Dev) (c g : Nat) : Dev := (((d.grpCheck (d.cGrp (rxCtx c)) 1).grpCheck (d.cGrp (rxCtx c)) 4).unfollow g .core).showSums

theorem Dev.srxStop_eq (d : Dev) (c : Nat) : d.srxStop c = (d.srxLeft c).srxGone c (d.ctxMcg (rxCtx c)) := rfl

/-- The device but for its registers, the receive contexts and the paths of ticks. -/
def Dev.butSrxTicks (d : Dev) : Dev := { d.butSrx with ticks := [] }

theorem Dev.srxGone_keeps (d : Dev) (c g : Nat) :
    Keeps Dev.butSrxTicks sumRegs d (d.srxGone c g) ∧ ((d.srxGone c g).srxOf c).play = (d.srxOf c).play := by
  obtain ⟨a, ha⟩ : ∃ a, a = d.grpCheck (d.cGrp (rxCtx c)) 1 := ⟨_, rfl⟩
  obtain ⟨b, hb⟩ : ∃ b, b = a.grpCheck (d.cGrp (rxCtx c)) 4 := ⟨_, rfl⟩
  obtain ⟨u, hu⟩ : ∃ u, u = b.unfollow g .core := ⟨_, rfl⟩
  obtain ⟨keptA, playA⟩ := d.grpCheck_keeps (d.cGrp (rxCtx c)) 1
  obtain ⟨keptB, playB⟩ := a.grpCheck_keeps (d.cGrp (rxCtx c)) 4
  have keptU := b.unfollow_keeps g .core
  have shown := u.showSums_keeps
  have gone : d.srxGone c g = u.showSums := by rw [hu, hb, ha]; rfl
  rw [← ha] at keptA playA
  rw [← hb] at keptB playB
  rw [← hu] at keptU
  rw [gone]
  refine ⟨?_, ?_⟩
  · have first := (keptA.trans keptB).part fun x : Dev => { x with ticks := [] }
    have second := keptU.part fun x : Dev => { x with srx := [] }
    have third := shown.part fun x : Dev => { x with srx := [], ticks := [] }
    exact ((first.mono (by simp)).trans (second.mono (by simp))).trans third
  · have same : u.srxOf c = b.srxOf c := Dev.srxOf_congr (congrArg (·.srx) keptU.rest) c
    rw [Dev.srxOf_butRegs shown.rest, same, playB, playA]

/-- The device but for its registers, table memory, the errors of the arrays, the receive contexts and the paths of ticks. -/
def Dev.butStreamTicks (d : Dev) : Dev := { d.butStream with ticks := [] }

/-- What a DISABLE leaves. -/
structure SrxStopped (d f : Dev) (c : Nat) : Prop where
  kept : Keeps Dev.butStreamTicks (rSRX_ENMAPkk (c / 32) :: (sumRegs ++ [rINT_INJ_CMD])) d f
  disabled : f.srxOn c = false
  order : f.srxOrder = d.srxOrder.filter (· != c)
  state : f.cState (rxCtx c) = 0
  silent : (f.srxOf c).play = .silent
  mem : d.sameMemBut f (256 * rxCtx c + 160) 8

theorem Dev.srxLeft_shows (d : Dev) (c : Nat) (sound : d.tblHurt (256 * rxCtx c + 160) = false) :
    Keeps Dev.butStream [rSRX_ENMAPkk (c / 32), rINT_INJ_CMD] d (d.srxLeft c) ∧ (d.srxLeft c).srxOn c = false ∧
    (d.srxLeft c).srxOrder = d.srxOrder.filter (· != c) ∧ (d.srxLeft c).cState (rxCtx c) = 0 ∧ ((d.srxLeft c).srxOf c).play = .silent ∧
    d.sameMemBut (d.srxLeft c) (256 * rxCtx c + 160) 8 := by
  obtain ⟨w, hw⟩ : ∃ w, w = d.cput (rxCtx c) 20 2 0 0 := ⟨_, rfl⟩
  have kept := d.cput_keeps (rxCtx c) 20 2 0 0
  have mem := d.cput_sameMem (rxCtx c) 20 2 0 0
  have state : w.cf (rxCtx c) 20 2 0 = 0 := by rw [hw, Dev.cf_cput_same sound (by decide) (by decide), Nat.zero_mod]
  rw [← hw] at kept mem
  obtain ⟨o, ho⟩ : ∃ o, o = w.putB (bitFld (rSRX_ENMAPkk (c / 32)) (c % 32)) false := ⟨_, rfl⟩
  have disabled : o.srxOn c = false := by rw [ho]; exact Dev.on_putB_same w (bitFld_ok _ c) rfl false
  have offRegs : w.sameRegs o [rSRX_ENMAPkk (c / 32)] := by
    rw [ho]; exact (Dev.sameRegs.refl w _).putB (f := bitFld (rSRX_ENMAPkk (c / 32)) (c % 32)) List.mem_cons_self false
  have same : o.butRegs = w.butRegs := by rw [ho]; rfl
  have left : d.srxLeft c = { o with srxOrder := o.srxOrder.filter (· != c)
                                     srx := kset {} o.srx c { ramp := MuteRamp.rest (o.on (srxMuteFld c)) } } := by
    rw [ho, hw, ← Dev.cSetState_rx]; rfl
  have order : o.srxOrder = d.srxOrder := (congrArg (·.srxOrder) same).trans (congrArg (·.srxOrder) kept.rest)
  have tbl : o.tbl = w.tbl := congrArg (·.tbl) same
  rw [left]
  refine ⟨?_, disabled, ?_, ?_, ?_, ?_⟩
  · have first := kept.part fun x : Dev => { x with srx := [], srxOrder := [] }
    have second : Keeps Dev.butStream [rSRX_ENMAPkk (c / 32)] w o :=
      ⟨congrArg (fun x : Dev => { x with tbl := [], poison := [], integ := {}, srx := [], srxOrder := [] }) same, offRegs⟩
    exact ((first.mono (by simp)).trans (second.mono (by simp))).trans (Keeps.of_regs rfl rfl)
  · rw [order]
  · rw [Dev.cState_rx]
    exact (Dev.cf_congr tbl ..).trans state
  · exact congrArg SrxSt.play (kget_kset_same ..)
  · exact mem.trans (Dev.sameMemBut.of_mem tbl (congrArg (·.store) same) ..)

theorem Dev.srxStop_shows (hc : c < 512) (sound : d.tblHurt (256 * rxCtx c + 160) = false) : SrxStopped d (d.srxStop c) c := by
  obtain ⟨l, hl⟩ : ∃ l, l = d.srxLeft c := ⟨_, rfl⟩
  obtain ⟨f, hf⟩ : ∃ f, f = l.srxGone c (d.ctxMcg (rxCtx c)) := ⟨_, rfl⟩
  obtain ⟨left, disabled, order, state, silent, mem⟩ := d.srxLeft_shows c sound
  obtain ⟨gone, play⟩ := l.srxGone_keeps c (d.ctxMcg (rxCtx c))
  rw [← hl] at left disabled order state silent mem
  rw [← hf] at gone play
  rw [Dev.srxStop_eq, ← hl, ← hf]
  have tbl : f.tbl = l.tbl := congrArg (·.tbl) gone.rest
  have apart : (bitFld (rSRX_ENMAPkk (c / 32)) (c % 32)).addr ∉ sumRegs := fun h =>
    rSRX_ENMAPkk_apart c ((by decide : ∀ a ∈ sumRegs, a < 0x80040 ∨ 0x80080 ≤ a) _ h) hc rfl
  exact
    { kept := by
        have first := left.part fun y : Dev => { y with ticks := [] }
        have second := gone.part fun y : Dev => { y with tbl := [], srxOrder := [], poison := [], integ := {} }
        exact (first.mono (by simp)).trans (second.mono (List.subset_cons_of_subset _ (List.subset_append_left ..)))
      disabled := (gone.regs.on apart).trans disabled
      order := (congrArg (·.srxOrder) gone.rest).trans order
      state := by rw [Dev.cState_rx, Dev.cf_congr tbl, ← Dev.cState_rx, state]
      silent := play.trans silent
      mem := mem.trans (Dev.sameMemBut.of_mem tbl (congrArg (·.store) gone.rest) ..) }

/-! ## Each command, from its write to its end -/

theorem Keeps.beyondCmd {F : Dev → Dev} {M : List Nat} (comm : ∀ x, (F x).butSrxCmd = F x.butSrxCmd) (h : Keeps F M d f) :
    Keeps (fun x => F x.butSrxCmd) M d f := ⟨by rw [← comm, h.rest, comm], h.regs⟩

namespace SrxCompleted

variable {F : Dev → Dev} {M : List Nat} {q : Dev} {result code : Nat}

theorem srxOn (h : SrxCompleted F M d f q result code) (hc : c < 512) : q.srxOn c = f.srxOn c :=
  h.after.regs.on (by
    rw [List.mem_singleton]
    exact rSRX_ENMAPkk_apart c (by decide) hc)

theorem srxOf (h : SrxCompleted F M d f q result code) (o : Nat) : q.srxOf o = f.srxOf o := Dev.srxOf_butRegs h.after.rest o

theorem srxOrder (h : SrxCompleted F M d f q result code) : q.srxOrder = f.srxOrder := congrArg (·.srxOrder) h.after.rest

theorem cf (h : SrxCompleted F M d f q result code) (ctx w hi lo : Nat) : q.cf ctx w hi lo = f.cf ctx w hi lo :=
  Dev.cf_congr (congrArg (·.tbl) h.after.rest) ..

theorem cState (h : SrxCompleted F M d f q result code) (c : Nat) : q.cState (rxCtx c) = f.cState (rxCtx c) := by
  rw [Dev.cState_rx, Dev.cState_rx, h.cf]

theorem mem (h : SrxCompleted F M d f q result code) {a n : Nat} (m : d.sameMemBut f a n) : d.sameMemBut q a n :=
  m.trans (Dev.sameMemBut.of_mem (congrArg (·.tbl) h.after.rest) (congrArg (·.store) h.after.rest) ..)

theorem frameRegs (h : SrxCompleted Dev.butRegs M d f q result code) :
    q = { d with regs := q.regs, ports := q.ports, srxNow := q.srxNow, irqA := q.irqA, irqB := q.irqB } :=
  congrArg (fun x : Dev => { x with regs := q.regs, ports := q.ports, srxNow := q.srxNow, irqA := q.irqA, irqB := q.irqB })
    h.kept.rest

theorem frameSrx (h : SrxCompleted Dev.butSrx M d f q result code) :
    q = { d with regs := q.regs, ports := q.ports, srx := q.srx, srxNow := q.srxNow, irqA := q.irqA, irqB := q.irqB } :=
  congrArg (fun x : Dev => { x with regs := q.regs, ports := q.ports, srx := q.srx, srxNow := q.srxNow, irqA := q.irqA, irqB := q.irqB })
    h.kept.rest

theorem frameStream (h : SrxCompleted Dev.butStream M d f q result code) :
    q = { d with
      regs := q.regs, ports := q.ports, tbl := q.tbl, srx := q.srx, srxOrder := q.srxOrder, poison := q.poison, integ := q.integ,
      srxNow := q.srxNow, irqA := q.irqA, irqB := q.irqB } :=
  congrArg (fun x : Dev => { x with
      regs := q.regs, ports := q.ports, tbl := q.tbl, srx := q.srx, srxOrder := q.srxOrder, poison := q.poison, integ := q.integ,
      srxNow := q.srxNow, irqA := q.irqA, irqB := q.irqB })
    h.kept.rest

theorem frameStreamTicks (h : SrxCompleted Dev.butStreamTicks M d f q result code) :
    q = { d with
      regs := q.regs, ports := q.ports, tbl := q.tbl, srx := q.srx, srxOrder := q.srxOrder, poison := q.poison, integ := q.integ,
      ticks := q.ticks, srxNow := q.srxNow, irqA := q.irqA, irqB := q.irqB } :=
  congrArg (fun x : Dev => { x with
      regs := q.regs, ports := q.ports, tbl := q.tbl, srx := q.srx, srxOrder := q.srxOrder, poison := q.poison, integ := q.integ,
      ticks := q.ticks, srxNow := q.srxNow, irqA := q.irqA, irqB := q.irqB })
    h.kept.rest

end SrxCompleted

section

variable {p : Port} {op : Nat} {r : Refused}

/-- The memory that an effect leaves as the running command sees it, it leaves as it was before the command. -/
theorem SrxBegun.mem (b : SrxBegun d e p op c) {a n : Nat} (m : (e.setSrxNow none).sameMemBut f a n) : d.sameMemBut f a n :=
  (Dev.sameMemBut.of_mem (congrArg (·.tbl) b.kept.rest) (congrArg (·.store) b.kept.rest) a n).trans m

theorem SrxBegun.srxOn (b : SrxBegun d e p op c) (hc : c < 512) : (e.setSrxNow none).srxOn c = d.srxOn c :=
  b.on (by
    simp only [List.mem_cons, List.not_mem_nil, or_false, not_or]
    exact ⟨rSRX_ENMAPkk_apart c (by decide) hc, rSRX_ENMAPkk_apart c (by decide) hc⟩)

theorem SrxBegun.muted (b : SrxBegun d e p op c) : (e.setSrxNow none).on (srxMuteFld c) = d.on (srxMuteFld c) :=
  b.on (by
    change 0x800C0 + 0x4 * (c / 32) ∉ [0x80000, 0x80004]
    simp only [List.mem_cons, List.not_mem_nil, or_false]
    omega)

theorem SrxBegun.refuses (b : SrxBegun d e p 1 c) (held : d.srxHeld = none) (hc : c < 512) (off : d.srxOn c = false)
    (adm : d.admission (512 + c) = some r) :
    SrxCompleted Dev.butRegs [rSRX_REFUSE, rSRX_REFUSE_CNT] d ((e.setSrxNow none).srxRefused r c) e.srxQueued 2 r.code ∧
    e.srxQueued.srxOn c = false ∧ (e.srxQueued.reg rSRX_REFUSE_CNT).toNat = min ((d.reg rSRX_REFUSE_CNT).toNat + 1) (2 ^ 32 - 1) := by
  have kept := (e.setSrxNow none).srxRefused_keeps r c
  have offE : (e.setSrxNow none).srxOn c = false := (b.srxOn hc).trans off
  have done : SrxCompleted Dev.butRegs [rSRX_REFUSE, rSRX_REFUSE_CNT] d ((e.setSrxNow none).srxRefused r c) e.srxQueued 2 r.code :=
    b.completed held (Dev.srxRun_refused offE ((b.sameStreams.admission _).trans adm)) (kept.beyondCmd fun _ => rfl)
      (congrArg (·.srxNow) kept.rest) (congrArg (·.srxHeld) kept.rest)
  refine ⟨done, ?_, ?_⟩
  · refine (done.srxOn hc).trans ((kept.regs.on ?_).trans offE)
    simp only [List.mem_cons, List.not_mem_nil, or_false, not_or]
    exact ⟨rSRX_ENMAPkk_apart c (by decide) hc, rSRX_ENMAPkk_apart c (by decide) hc⟩
  · have before : (e.setSrxNow none).reg rSRX_REFUSE_CNT = d.reg rSRX_REFUSE_CNT := b.kept.regs _ (by decide)
    rw [done.after.regs _ (by decide), Dev.srxRefused_count, before]

theorem SrxBegun.starts (b : SrxBegun d e p 1 c) (held : d.srxHeld = none) (hc : c < 512) (off : d.srxOn c = false)
    (adm : d.admission (512 + c) = none) (st : SrxStarted (e.setSrxNow none) f c) (hf : f = (e.setSrxNow none).srxStart c) :
    SrxCompleted Dev.butStream (rSRX_ENMAPkk (c / 32) :: rSRX_GRP_SOLO :: rSRX_GRP_SOLO_CNT :: sumRegs) d f e.srxQueued 1 0 :=
  b.completed held (by rw [hf]; exact Dev.srxRun_started ((b.srxOn hc).trans off) ((b.sameStreams.admission _).trans adm) (hf ▸ st.sound))
    (st.kept.beyondCmd fun _ => rfl) (congrArg (·.srxNow) st.kept.rest) (congrArg (·.srxHeld) st.kept.rest)

theorem SrxBegun.stops (b : SrxBegun d e p 2 c) (held : d.srxHeld = none) (hc : c < 512) (on : d.srxOn c = true)
    (st : SrxStopped (e.setSrxNow none) f c) (hf : f = (e.setSrxNow none).srxStop c) :
    SrxCompleted Dev.butStreamTicks (rSRX_ENMAPkk (c / 32) :: (sumRegs ++ [rINT_INJ_CMD])) d f e.srxQueued 1 0 :=
  b.completed held (by rw [hf]; exact Dev.srxRun_stopped ((b.srxOn hc).trans on))
    (st.kept.beyondCmd fun _ => rfl) (congrArg (·.srxNow) st.kept.rest) (congrArg (·.srxHeld) st.kept.rest)

/-- MUTE and UNMUTE: what they leave, the bit and the ramp. -/
theorem SrxBegun.mutes {mute : Bool} (b : SrxBegun d e p op c) (held : d.srxHeld = none) (hc : c < 512) (hop : op = if mute then 3 else 4)
    (other : d.on (srxMuteFld c) = !mute) :
    SrxCompleted Dev.butSrx [rSRX_MUTEMAPkk (c / 32)] d ((e.setSrxNow none).srxSetMute c mute) e.srxQueued 1 0 ∧
    e.srxQueued.on (srxMuteFld c) = mute ∧
    (e.srxQueued.srxOf c).ramp = if d.srxOn c then (d.srxOf c).ramp.command mute else MuteRamp.rest mute := by
  have kept := (e.setSrxNow none).srxSetMute_keeps c mute
  have done : SrxCompleted Dev.butSrx [rSRX_MUTEMAPkk (c / 32)] d ((e.setSrxNow none).srxSetMute c mute) e.srxQueued 1 0 :=
    b.completed held (Dev.srxRun_mute hop (b.muted.trans other)) (kept.beyondCmd fun _ => rfl)
      (congrArg (·.srxNow) kept.rest) (congrArg (·.srxHeld) kept.rest)
  refine ⟨done, ?_, ?_⟩
  · refine (done.after.regs.on ?_).trans (Dev.srxSetMute_muted ..)
    change 0x800C0 + 0x4 * (c / 32) ∉ [0x80004]
    rw [List.mem_singleton]
    omega
  · rw [done.srxOf, Dev.srxSetMute_ramp, b.srxOn hc, b.srxOf]

end

theorem fSRX_CMD_CTX_lt (v : Word) : fSRX_CMD_CTX.get v < 512 := Nat.mod_lt _ (by decide)

/-- Settles O16: each command by what it leaves begun, `d`, and what its end leaves, `q`. -/
theorem receiveContextsRunTheirCommands : Obligations.ReceiveContextsRunTheirCommands := by
  unfold Obligations.ReceiveContextsRunTheirCommands
  refine ⟨?enable, ?refuse, ?disable, ?mute, ?unmute⟩
  case enable =>
    intro s p v c calm takes hc idle off adm sound unarmed held
    have small : c < 512 := hc ▸ fSRX_CMD_CTX_lt v
    refine srxCommand_completes calm takes hc idle (by decide : 1 ≤ 1) (by decide) rfl fun d b => ?_
    obtain ⟨f, hf⟩ : ∃ f, f = (d.setSrxNow none).srxStart c := ⟨_, rfl⟩
    have st := Dev.srxStart_shows small ((b.on (by decide)).trans unarmed)
      fun w hw => (b.tblHurt _).trans (sound w (List.mem_range.mpr hw))
    rw [← hf] at st
    have done := b.starts held small off adm st hf
    generalize d.srxQueued = q at done ⊢
    exact ⟨b.busy, b.now, b.shows held (by decide), b.code, (done.srxOn small).trans st.enabled, (done.cState c).trans st.state,
      (done.cf ..).trans st.seq, (congrArg SrxSt.win (done.srxOf c)).trans st.win,
      done.srxOrder.trans (st.order.trans (congrArg (· ++ [c]) b.srxOrder)), done.result, done.mem (b.mem st.mem), done.busy, done.now,
      b.kept.regs, b.frame, done.kept.regs, done.frameStream⟩
  case refuse =>
    intro s p v c r calm takes hc idle off adm held
    have small : c < 512 := hc ▸ fSRX_CMD_CTX_lt v
    refine srxCommand_completes calm takes hc idle (by decide : 1 ≤ 1) (by decide) rfl fun d b => ?_
    obtain ⟨done, still, count⟩ := b.refuses held small off adm
    generalize d.srxQueued = q at done still count ⊢
    exact ⟨b.busy, b.now, b.shows held (by decide), b.code, still, done.result, done.code, count, done.busy, done.now, b.kept.regs, b.frame,
      done.kept.regs, done.frameRegs⟩
  case disable =>
    intro s p v c calm takes hc idle on sound held
    have small : c < 512 := hc ▸ fSRX_CMD_CTX_lt v
    refine srxCommand_completes calm takes hc idle (by decide : 1 ≤ 2) (by decide) rfl fun d b => ?_
    obtain ⟨f, hf⟩ : ∃ f, f = (d.setSrxNow none).srxStop c := ⟨_, rfl⟩
    have st := Dev.srxStop_shows small ((b.tblHurt _).trans sound)
    rw [← hf] at st
    have done := b.stops held small on st hf
    generalize d.srxQueued = q at done ⊢
    exact ⟨b.busy, b.now, b.shows held (by decide), b.code, (done.srxOn small).trans st.disabled, (done.cState c).trans st.state,
      done.srxOrder.trans (st.order.trans (congrArg (List.filter (· != c)) b.srxOrder)),
      (congrArg SrxSt.play (done.srxOf c)).trans st.silent, done.result, done.mem (b.mem st.mem), done.busy, done.now,
      b.kept.regs, b.frame, done.kept.regs, done.frameStreamTicks⟩
  case mute =>
    intro s p v c calm takes hc idle other held
    refine srxCommand_completes calm takes hc idle (by decide : 1 ≤ 3) (by decide) rfl fun d b => ?_
    obtain ⟨done, muted, ramp⟩ := b.mutes (mute := true) held (hc ▸ fSRX_CMD_CTX_lt v) rfl other
    generalize d.srxQueued = q at done muted ramp ⊢
    exact ⟨b.busy, b.now, b.shows held (by decide), b.code, muted, done.result, ramp, done.busy, done.now, b.kept.regs, b.frame,
      done.kept.regs, done.frameSrx⟩
  case unmute =>
    intro s p v c calm takes hc idle other held
    refine srxCommand_completes calm takes hc idle (by decide : 1 ≤ 4) (by decide) rfl fun d b => ?_
    obtain ⟨done, muted, ramp⟩ := b.mutes (mute := false) held (hc ▸ fSRX_CMD_CTX_lt v) rfl other
    generalize d.srxQueued = q at done muted ramp ⊢
    exact ⟨b.busy, b.now, b.shows held (by decide), b.code, muted, done.result, ramp, done.busy, done.now, b.kept.regs, b.frame,
      done.kept.regs, done.frameSrx⟩

end Sys2Proof.Machine
end

section
/-! A statement that fails: the staging read of a deep span meets an uncorrectable error in external memory (R176, R550, R551). -/

namespace Sys2Proof.Machine

open Sys2Proof

/-- Deep context 0 plays one channel in spans of one sample, its read point at 5. Its span at 6 waits in external memory, which is in
service with the deep region ready; the beat that holds the span, beat 3, holds an uncorrectable error. The log of such errors already
holds one. -/
def deepSpanWithErrorInBeat : State :=
  { dev := (({ tbl := writeWord64 (writeWord64 [] (256 * rxCtx 0) 0x6000010100000000) (256 * rxCtx 0 + 160) 0xA
               srxOrder := [0]
               ddr := { bad := [(3, true)] } } : Dev).puts
      [(bitFld (rSRX_ENMAPkk 0) 0, 1), (fDDR_STS_IN_SERVICE, 1), (bitFld rDDR_READY 0, 1), (fDDR_ECC_LOG_VALID, 1),
        (fDDR_ECC_LOG_UE, 1)]).setSrx 0 { r := some 5, unstaged := [6] }
    pending := [] }

/-- The attempt fails, and no span becomes readable. -/
theorem deepSpanWithErrorInBeat_stagesNothing :
    shownAfter (fun d => (d.srxOf 0).spans) (exec (.deepStagingCopy 0) deepSpanWithErrorInBeat) = some [] := by decide +kernel

/-- Refutes O17: a staging read whose beat holds an uncorrectable error fails its attempt (R550, R551), and the span stays unstaged (R176),
where the seventh clause has it readable. The clause takes any external memory in service, and so also one with such a beat. -/
theorem not_receivedCopiesAreTestedAndPlaced : ¬ Obligations.ReceivedCopiesAreTestedAndPlaced := by
  rintro ⟨-, -, -, -, -, -, staged, -⟩
  obtain ⟨d, ⟨readable, -⟩, after⟩ := (staged deepSpanWithErrorInBeat 0 6 5 (by decide +kernel) (by decide +kernel) (by decide +kernel)
    (by decide +kernel) (by decide +kernel) (by decide +kernel) (by decide +kernel) (by decide +kernel)).shown
      fun d => (d.srxOf 0).spans
  have filled : (d.srxOf 0).spans = 6 :: (deepSpanWithErrorInBeat.dev.srxOf 0).spans := readable
  rw [deepSpanWithErrorInBeat_stagesNothing, filled] at after
  exact absurd after (by decide +kernel)

end Sys2Proof.Machine
end

section
/-! A statement that fails: CANCEL comes after the boundary of its swap, before the gather that makes it (R220, R222). -/

namespace Sys2Proof.Machine

open Sys2Proof

/-- Anvil is enabled, and an untimed swap to bank 1 is pending. The tick that closed the block of samples 0 to 3 was the boundary of the
swap; the gather of that block has still to begin. -/
def swapPastItsBoundary : State :=
  { dev := ({ anv := { next := some 4, due := [{ start := 0, n := 4 }], swap := some { bank := 1, xfade := 7, at_ := some 0 } } } : Dev).puts
      [(fCLK_STS_SEL_ACT, 1), (fANV_CTL_EN, 1), (fANV_STS_SCENE, 1)]
    pending := [] }

/-- The swap whose boundary has come stands. -/
theorem swapPastItsBoundary_stands :
    shownAfter (·.anv.swap) (exec (.sceneCancel .spi 0) swapPastItsBoundary) = some (some { bank := 1, xfade := 7, at_ := some 0 }) := by
  decide +kernel

/-- Refutes O56: CANCEL ends a swap before its boundary alone (R222), so that a swap whose boundary has come stands, where the second clause
has every untimed swap end. The clause takes any pending swap, and so also one whose block is closed and not yet gathered. -/
theorem not_cancelEndsAPendingSwap : ¬ Obligations.CancelEndsAPendingSwap := by
  rintro ⟨-, untimed, -⟩
  obtain ⟨d, ⟨-, ended, -⟩, after⟩ := (untimed swapPastItsBoundary .spi 0 { bank := 1, xfade := 7, at_ := some 0 } (by decide +kernel)
    (by decide +kernel) (by decide +kernel) rfl).shown (·.anv.swap)
  have gone : d.anv.swap = none := congrArg (·.swap) ended
  rw [swapPastItsBoundary_stands, gone] at after
  exact absurd after (by decide)

end Sys2Proof.Machine
end

section
/-! A statement that fails: the read of a PLAY job meets an uncorrectable error in the Contrail map (R214, R546, R550, R551). -/

namespace Sys2Proof.Machine

open Sys2Proof

/-- The PLAY job of entry 0 of bank 0, whose read of samples 0 to 3 of Contrail channel 0 is in flight. -/
def playRun : JobRun := { bank := 0, entry := 0, cls := 3, due := 9, ext := some (false, [0, 0, 0, 0]) }

/-- External memory is in service with 1 GiB of Contrail, its map and its ring ready, and the four samples that the job plays are captured.
The beat of the map that says so, beat 16 777 216, holds an uncorrectable error; the beats of the samples hold none. The log of such errors
already holds one. -/
def playWithErrorInMap : State :=
  { dev := ({ tbl := writeWord64 (writeWord64 [] (jobAt 0 0) 0xBE00500000000000) (jobAt 0 0 + 8) 0x29800
              ddr := { mark := [(0, some (3, 0))], map := [(0, true)], bad := [(16777216, true)] }
              anv := { block := some { start := 0, n := 4, jobs := [playRun], fed := true } } } : Dev).puts
      [(fCLK_STS_SEL_ACT, 1), (fANV_CTL_EN, 1), (fDDR_STS_IN_SERVICE, 1), (fDDR_REGION_CFG_CTR_GIB, 1), (bitFld rDDR_READY 1, 1),
        (bitFld rDDR_READY 3, 1), (fDDR_ECC_LOG_VALID, 1), (fDDR_ECC_LOG_UE, 1)]
    pending := [] }

/-- The attempt fails, and the read of the job is still in flight. -/
theorem playWithErrorInMap_waits :
    shownAfter (fun d => d.anv.block.map (·.jobs)) (exec (.dramReadReturn 0 0 none) playWithErrorInMap) = some (some [playRun]) := by
  decide +kernel

/-- Refutes O19: the read of a PLAY job covers its bits of the Contrail map as well as its samples, and an uncorrectable error in the map fails
the attempt (R550, R551), where the ninth clause, which asks for sound beats of the samples alone, has the read return. -/
theorem not_blocksGatherAndJobsCommit : ¬ Obligations.BlocksGatherAndJobsCommit := by
  rintro ⟨-, -, -, -, -, -, -, -, returns, -⟩
  obtain ⟨d, ⟨freed, -⟩, after⟩ := (returns playWithErrorInMap 0 0 { start := 0, n := 4, jobs := [playRun], fed := true } playRun [0, 0, 0, 0]
    (by decide +kernel) (by decide +kernel) (by decide +kernel) (by decide +kernel) rfl (by decide +kernel) (by decide +kernel) rfl rfl
    (by decide +kernel)).shown fun d => d.anv.block.map (·.jobs)
  rw [playWithErrorInMap_waits, Option.some.injEq] at after
  obtain ⟨b, block, jobs⟩ := Option.map_eq_some_iff.mp after.symm
  rw [block, Option.any_some, jobs] at freed
  exact absurd freed (by decide)

end Sys2Proof.Machine
end

section
/-! What the validation of a bank reads (R216, Table 8.6): table memory, the store, the errors of the arrays, the working lanes, and no
register of the scene commands. -/

namespace Sys2Proof.Machine

open Sys2Proof

/-- `e` has what validation reads as `d` has it. -/
structure SameJobs (d e : Dev) : Prop where
  tbl : e.tbl = d.tbl
  store : e.store = d.store
  poison : e.poison = d.poison
  integ : e.integ = d.integ
  work : e.anv.work = d.anv.work
  regs : d.sameRegs e [rANV_SCENE_CMD]

namespace SameJobs

variable {d e : Dev}

theorem get (h : SameJobs d e) {f : Fld} (hf : f.addr ≠ rANV_SCENE_CMD) : e.get f = d.get f := h.regs.get (by simpa using hf)

/-! ## The lists of the banks -/

theorem heap (h : SameJobs d e) (a : Nat) : e.heap a = d.heap a := by rw [Dev.heap, Dev.heap, h.store]

theorem job (h : SameJobs d e) (b : Nat) : e.job b = d.job b := funext fun j => by rw [Dev.job, Dev.job, h.tbl]

theorem bankList (h : SameJobs d e) (b : Nat) : e.bankList b = d.bankList b := by
  rw [Dev.bankList, Dev.bankList, Dev.jobIndices, Dev.jobIndices, h.tbl, h.job]

theorem jobSound (h : SameJobs d e) (j : Job) : e.jobSound j = d.jobSound j := by
  simp only [Dev.jobSound, Dev.poisoned, h.poison, h.integ]

theorem bankJobs (h : SameJobs d e) (b : Nat) : e.bankJobs b = d.bankJobs b := by
  simp only [Dev.bankJobs, h.bankList, h.jobSound]

theorem jobReads (h : SameJobs d e) (j : Job) : e.jobReads j = d.jobReads j := by
  simp only [Dev.jobReads, Dev.mixList, Dev.heapI, h.heap]

theorem feeds (h : SameJobs d e) (a b : Job) : e.feeds a b = d.feeds a b := by rw [Dev.feeds, Dev.feeds, h.jobReads]

theorem classes (h : SameJobs d e) (l : List Job) : e.classes l = d.classes l := by
  induction l with
  | nil => rfl
  | cons j t ih => simp only [Dev.classes, ih, h.feeds]

/-! ## Rates and costs -/

theorem mcgCtl (h : SameJobs d e) (g : Nat) {f : Fld} (hf : f.addr = rMCGn_CTL g) : e.get f = d.get f :=
  h.get (by rw [hf]; show 0x50100 + 0x100 * g ≠ 0xA0008; omega)

theorem mcgMult (h : SameJobs d e) (g : Nat) : e.mcgMult g = d.mcgMult g := by rw [Dev.mcgMult, Dev.mcgMult, h.mcgCtl g rfl]

theorem mcgFs (h : SameJobs d e) (g : Nat) : e.mcgFs g = d.mcgFs g := by
  have family : e.on (fMCGn_CTL_FAMILY g) = d.on (fMCGn_CTL_FAMILY g) := congrArg (· != 0) (h.mcgCtl g rfl)
  have pull : e.mcgPull g = d.mcgPull g := by rw [Dev.mcgPull, Dev.mcgPull, h.mcgCtl g rfl]
  rw [Dev.mcgFs, Dev.mcgFs, Dev.mcgRate, Dev.mcgRate, family, pull, h.mcgMult]

theorem house (h : SameJobs d e) : e.get fMCG_HOUSE_HOUSE = d.get fMCG_HOUSE_HOUSE := h.get (by decide)

theorem blockLen (h : SameJobs d e) : e.blockLen = d.blockLen := by rw [Dev.blockLen, Dev.blockLen, h.get (by decide)]

theorem jobCost (h : SameJobs d e) (j : Job) (n : Nat) (reduced : Bool) : e.jobCost j n reduced = d.jobCost j n reduced := by
  simp only [Dev.jobCost, Dev.srcMax, h.mcgFs, h.house]

theorem classCost (h : SameJobs d e) (l : List (Job × Nat)) (c : Nat) : e.classCost l c = d.classCost l c := by
  simp only [Dev.classCost, h.jobCost, h.blockLen]

theorem capacity (h : SameJobs d e) : e.capacity = d.capacity := by
  simp only [Dev.capacity, h.mcgFs, h.house, h.work, h.blockLen]

/-! ## The conditions of Table 8.6 -/

theorem classCount (h : SameJobs d e) (k : Nat) : e.classCount k = d.classCount k := by
  have mult : e.houseMult = d.houseMult := by
    rw [Dev.houseMult, Dev.houseMult, h.house]
    exact h.mcgMult _
  simp only [Dev.classCount, mult]

theorem handleValid (h : SameJobs d e) (x : Nat) : e.handleValid x = d.handleValid x := by rw [Dev.handleValid, Dev.handleValid, h.classCount]

theorem srcOk (h : SameJobs d e) : e.srcOk = d.srcOk := funext fun j => by simp only [Dev.srcOk, h.handleValid]

theorem dstOk (h : SameJobs d e) : e.dstOk = d.dstOk := funext fun j => by simp only [Dev.dstOk, h.handleValid]

theorem rangeOk (h : SameJobs d e) : e.rangeOk = d.rangeOk := funext fun j => by
  have slots : e.dlySlots = d.dlySlots := by rw [Dev.dlySlots, Dev.dlySlots, h.get (by decide)]
  simp only [Dev.rangeOk, h.classCount, slots]

theorem ddrIn (h : SameJobs d e) : e.ddrIn = d.ddrIn := congrArg (· != 0) (h.get (by decide))

/-- Validation gives the same answer. -/
theorem validate (h : SameJobs d e) (b : Nat) : e.validate b = d.validate b := by
  simp only [Dev.validate, h.bankList, h.bankJobs, h.classes, h.srcOk, h.dstOk, h.rangeOk, h.house, h.capacity, h.classCost, h.ddrIn]

theorem sharesHeap (h : SameJobs d e) (b other : Nat) : e.sharesHeap b other = d.sharesHeap b other := by
  simp only [Dev.sharesHeap, h.bankJobs]

end SameJobs

end Sys2Proof.Machine
end

section
/-! The writes of ANV_CTL and ANV_SCENE_CMD (R217, R218, R220, R222, R428): what is stored, and what acts. -/

namespace Sys2Proof.Machine

open Sys2Proof

variable {d c : Dev} {p : Port} {v : Word}

/-! ## An enable whose block follows the field as written -/

/-- A write that turns an enable is stored, and the block acts. -/
theorem Dev.atEdge_turned (d : Dev) {f : Fld} {take old v : Word} (within : f.within take = true) (ne : f.get old ≠ f.get v) (on off : Dev → Dev) :
    (d.setReg f.addr (merged take old v)).atEdge f old on off =
      (if f.get v != 0 then on else off) (d.setReg f.addr (merged take old v)) := by
  have get : (d.setReg f.addr (merged take old v)).get f = f.get v := by
    rw [Dev.get_setReg, if_pos rfl, Fld.get_merged_within within]
  have turns : (d.setReg f.addr (merged take old v)).turns f old = some (f.get v != 0) := by
    unfold Dev.turns Dev.on
    rw [get, if_neg (by simpa using ne)]
  unfold Dev.atEdge
  rw [turns]
  cases f.get v != 0 <;> rfl

/-- What a write stores in a register none of whose bits an enabled owner keeps. -/
theorem Dev.stored_free {a i j : Nat} {r : RegDesc} (row : regAt a = some (r, i, j)) (free : d.owned r i = false) (v : Word) :
    d.stored a v = d.setReg a (merged (writeMask r v) (d.reg a) v) := by
  have all : ∀ x : Word, x &&& ~~~0 = x := fun x => BitVec.and_allOnes
  simp only [Dev.stored, row, free, Bool.false_eq_true, if_false, all, merged]

/-! ## ANV_CTL -/

/-- The row of ANV_CTL in the register summary. -/
def anvCtlRow : RegDesc := { base := 0xA0000, wr := 0xFCD3, dcls := 0xD0, own := some ⟨0xA0000, 0, 1⟩ }

theorem regAt_anvCtl : regAt rANV_CTL = some (anvCtlRow, 0, 0) := rfl

theorem Dev.busWrite_anvCtl (takes : d.takes p rANV_CTL) (m : Meets) :
    d.busWrite m p rANV_CTL .b32 v = (d.answer p []).regStore m p rANV_CTL v anvCtlRow 0 := by
  rw [Dev.busWrite_reg takes (by decide) (by decide), Dev.regWrite_plain regAt_anvCtl (by decide) fun h => absurd h (by decide)]

theorem Dev.writeEffect_anvCtl (d : Dev) (m : Meets) (old v cmd : Word) :
    d.writeEffect m rANV_CTL 0 old v cmd = d.atEdge fANV_CTL_EN old Dev.anvEnable Dev.anvDisable := rfl

theorem fANV_CTL_EN_ok : fANV_CTL_EN.ok := (by decide : 0 + 1 ≤ 32)

/-- The operand of ANV_ENABLE and ANV_DISABLE with EN as the command writes it. -/
theorem anvCtl_en {x : Nat} (hx : x < 2) (v : Word) : fANV_CTL_EN.get (fANV_CTL_EN.put v x) = x := by
  rw [Fld.get_put _ fANV_CTL_EN_ok]
  exact Nat.mod_eq_of_lt hx

/-- What the write of ANV_ENABLE leaves before Anvil acts. -/
structure AnvEnabling (d c : Dev) (p : Port) (v : Word) : Prop where
  kept : Keeps Dev.butRegsPorts [rANV_CTL] d c
  code : (c.port p).code = 0
  en : c.on fANV_CTL_EN = true
  bank : c.get fANV_CTL_BANK = fANV_CTL_BANK.get v
  validates : c.validate (c.get fANV_CTL_BANK) =
    (d.stored rANV_CTL (fANV_CTL_EN.put v 1)).validate ((d.stored rANV_CTL (fANV_CTL_EN.put v 1)).get fANV_CTL_BANK)

/-- ANV_ENABLE of a disabled Anvil stores ANV_CTL and enables. -/
theorem exec_anvEnable {s : State} (takes : s.dev.takes p rANV_CTL) (off : s.dev.on fANV_CTL_EN = false) :
    ∃ c, AnvEnabling s.dev c p v ∧ exec (.anvEnable p v) s = s.done c.anvEnable := by
  obtain ⟨w, hw⟩ : ∃ w, w = fANV_CTL_EN.put v 1 := ⟨_, rfl⟩
  have en : fANV_CTL_EN.get w = 1 := hw ▸ anvCtl_en (by decide) v
  have bank : fANV_CTL_BANK.get w = fANV_CTL_BANK.get v := hw ▸ Fld.get_put_apart _ _ fANV_CTL_EN_ok (Or.inl (by decide)) v 1
  have stored : s.dev.stored rANV_CTL w = s.dev.setReg rANV_CTL (merged (w32 0xFCD3) (s.dev.reg rANV_CTL) w) :=
    Dev.stored_free regAt_anvCtl off w
  have read : ∀ f : Fld, f.addr = rANV_CTL → f.within (w32 0xFCD3) = true → (s.dev.stored rANV_CTL w).get f = f.get w := fun f ha within => by
    rw [stored, Dev.get_setReg, if_pos ha.symm, Fld.get_merged_within within]
  have jobs : SameJobs (s.dev.stored rANV_CTL w) ((s.dev.stored rANV_CTL w).answer p []) := ⟨rfl, rfl, rfl, rfl, rfl, fun _ _ => rfl⟩
  rw [stored] at read jobs
  refine ⟨(s.dev.setReg rANV_CTL (merged (w32 0xFCD3) (s.dev.reg rANV_CTL) w)).answer p [], ⟨⟨rfl, ?_⟩, Dev.answer_code .., ?_, ?_, ?_⟩, ?_⟩
  · exact ((Dev.sameRegs.refl s.dev _).setReg (by simp) _).trans (Dev.answer_sameRegs _ p [] _)
  · exact congrArg (· != 0) ((read fANV_CTL_EN rfl (by decide)).trans en)
  · exact (read fANV_CTL_BANK rfl (by decide)).trans bank
  · rw [← hw, stored]
    exact jobs.validate _
  · have old : fANV_CTL_EN.get ((s.dev.answer p []).reg rANV_CTL) = 0 := bne_eq_false_iff_eq.mp off
    have rise := Dev.atEdge_turned (f := fANV_CTL_EN) (take := w32 0xFCD3) (v := w) (s.dev.answer p []) (by decide) (by rw [old, en]; decide)
      Dev.anvEnable Dev.anvDisable
    rw [en] at rise
    show s.done (s.dev.busWrite {} p rANV_CTL .b32 (fANV_CTL_EN.put v 1)) = _
    rw [← hw, Dev.busWrite_anvCtl takes, Dev.regStore_free (show (s.dev.answer p []).owned anvCtlRow 0 = false from off), Dev.writeEffect_anvCtl]
    exact congrArg s.done rise

/-- ANV_DISABLE of an enabled Anvil stores EN and what is not of class D, and may be recorded, before Anvil stops. -/
theorem exec_anvDisable {s : State} (takes : s.dev.takes p rANV_CTL) (on : s.dev.on fANV_CTL_EN = true) :
    ∃ c, Keeps Dev.butPortsIgn [rANV_CTL, rGLB_IGN_CNT, rGLB_IGN_OVF_CNT] s.dev c ∧ (c.port p).code = 0 ∧ c.on fANV_CTL_EN = false ∧
      exec (.anvDisable p v) s = s.done c.anvDisable := by
  obtain ⟨w, hw⟩ : ∃ w, w = fANV_CTL_EN.put v 0 := ⟨_, rfl⟩
  have en : fANV_CTL_EN.get w = 0 := hw ▸ anvCtl_en (by decide) v
  obtain ⟨b, hb, write⟩ := Dev.regStore_owned (d := s.dev.answer p []) (m := {}) (p := p) (a := rANV_CTL) (v := w) (r := anvCtlRow) (i := 0) on
  have kept : Keeps Dev.butPortsIgn [rGLB_IGN_CNT, rGLB_IGN_OVF_CNT] s.dev b ∧ (b.port p).code = 0 := by
    have answered : Keeps Dev.butPortsIgn [rGLB_IGN_CNT, rGLB_IGN_OVF_CNT] s.dev (s.dev.answer p []) := ⟨rfl, s.dev.answer_sameRegs p [] _⟩
    obtain rfl | rfl := hb
    · exact ⟨answered, s.dev.answer_code p []⟩
    · have recorded := Dev.record_sameRegs (s.dev.answer p []) p rANV_CTL (ownBlock anvCtlRow rANV_CTL) 0
        (L := [rGLB_IGN_CNT, rGLB_IGN_OVF_CNT]) (by simp) (by simp)
      exact ⟨answered.trans ⟨by rw [Dev.record_frame]; rfl, recorded⟩, by rw [Dev.record_code, Dev.answer_code]⟩
  have ctl : b.reg rANV_CTL = s.dev.reg rANV_CTL := kept.1.regs _ (by decide)
  have take : writeMask anvCtlRow w &&& ~~~w32 anvCtlRow.dcls = w32 0xFC03 := by
    show w32 0xFCD3 &&& ~~~w32 0xD0 = w32 0xFC03
    decide
  have ne : fANV_CTL_EN.get (s.dev.reg rANV_CTL) ≠ fANV_CTL_EN.get w := by
    rw [en]
    exact bne_iff_ne.mp on
  have fall := Dev.atEdge_turned (f := fANV_CTL_EN) (take := w32 0xFC03) b (by decide) ne Dev.anvEnable Dev.anvDisable
  rw [en] at fall
  refine ⟨b.setReg rANV_CTL (merged (w32 0xFC03) (s.dev.reg rANV_CTL) w), ⟨kept.1.rest, ?_⟩, ?_, ?_, ?_⟩
  · exact (kept.1.regs.mono (by simp)).setReg (by simp) _
  · exact kept.2
  · rw [Dev.on, Dev.get_setReg, if_pos (show rANV_CTL = fANV_CTL_EN.addr from rfl), Fld.get_merged_within (by decide), en]
    rfl
  · show s.done (s.dev.busWrite {} p rANV_CTL .b32 (fANV_CTL_EN.put v 0)) = _
    rw [← hw, Dev.busWrite_anvCtl takes, write, Dev.writeEffect_anvCtl, take]
    exact congrArg s.done fall

/-! ## ANV_SCENE_CMD -/

/-- The row of ANV_SCENE_CMD in the register summary. -/
def sceneCmdRow : RegDesc := { base := 0xA0008, wr := 0x13FFFFF, cmd := 0xF0000000 }

theorem regAt_sceneCmd : regAt rANV_SCENE_CMD = some (sceneCmdRow, 0, 0) := rfl

theorem Dev.writeEffect_sceneCmd (d : Dev) (m : Meets) (old v cmd : Word) :
    d.writeEffect m rANV_SCENE_CMD 0 old v cmd = d.sceneCmd (cmdOf fANV_SCENE_CMD_OP cmd) := rfl

theorem fANV_SCENE_CMD_OP_ok : fANV_SCENE_CMD_OP.ok := (by decide : 28 + 4 ≤ 32)

/-- What the write of ANV_SCENE_CMD with `op` leaves before the command acts, OP cleared. -/
structure SceneWritten (d c : Dev) (p : Port) (op : Nat) (v : Word) : Prop where
  kept : Keeps Dev.butRegsPorts [rANV_SCENE_CMD] d c
  code : (c.port p).code = 0
  timed : c.on fANV_SCENE_CMD_TIMED = (fANV_SCENE_CMD_TIMED.get v != 0)
  xfade : c.get fANV_SCENE_CMD_XFADE = fANV_SCENE_CMD_XFADE.get v
  jobs : SameJobs (d.stored rANV_SCENE_CMD (fANV_SCENE_CMD_OP.put v op)) c

/-- ANV_SCENE_CMD is stored, and then OP acts. -/
theorem Dev.writeWith_sceneCmd {op : Nat} (takes : d.takes p rANV_SCENE_CMD) (hop : op < 16) :
    ∃ b : Dev, SceneWritten d (b.put fANV_SCENE_CMD_OP 0) p op v ∧ d.writeWith {} p fANV_SCENE_CMD_OP op v = b.sceneCmd op := by
  obtain ⟨w, hw⟩ : ∃ w, w = fANV_SCENE_CMD_OP.put v op := ⟨_, rfl⟩
  have acts : cmdOf fANV_SCENE_CMD_OP (w &&& w32 sceneCmdRow.cmd) = op := by
    rw [cmdOf, Fld.get_and_within (by decide), hw, Fld.get_put _ fANV_SCENE_CMD_OP_ok]
    exact Nat.mod_eq_of_lt hop
  have stored : d.stored rANV_SCENE_CMD w = d.setReg rANV_SCENE_CMD (merged (w32 0x13FFFFF) (d.reg rANV_SCENE_CMD) w) :=
    Dev.stored_free regAt_sceneCmd rfl w
  obtain ⟨b, hb⟩ : ∃ b, b = (d.stored rANV_SCENE_CMD w).answer p [] := ⟨_, rfl⟩
  have regs : d.sameRegs b [rANV_SCENE_CMD] := by
    rw [hb, stored]
    exact ((Dev.sameRegs.refl d _).setReg (by simp) _).trans (Dev.answer_sameRegs _ p [] _)
  have code : (b.port p).code = 0 := by
    rw [hb]
    exact Dev.answer_code _ p []
  have read : ∀ f : Fld, f.addr = rANV_SCENE_CMD → f.within (w32 0x13FFFFF) = true → fANV_SCENE_CMD_OP.apart f →
      (b.put fANV_SCENE_CMD_OP 0).get f = f.get v := fun f ha within apart => by
    have kept : f.get w = f.get v := hw ▸ Fld.get_put_apart _ _ fANV_SCENE_CMD_OP_ok apart v op
    have answered : b.get f = (d.stored rANV_SCENE_CMD w).get f := by rw [hb]; rfl
    rw [Dev.get_put_apart _ _ _ _ fANV_SCENE_CMD_OP_ok apart, answered, stored, Dev.get_setReg, if_pos ha.symm, Fld.get_merged_within within, kept]
  refine ⟨b, ⟨⟨?_, regs.put (f := fANV_SCENE_CMD_OP) (by decide) 0⟩, ?_, ?_, ?_, ?_⟩, ?_⟩
  · rw [hb, stored]
    rfl
  · exact (congrArg PortSt.code (Dev.port_congr (e := b) rfl p)).trans code
  · exact congrArg (· != 0) (read fANV_SCENE_CMD_TIMED rfl (by decide) (Or.inr (by decide)))
  · exact read fANV_SCENE_CMD_XFADE rfl (by decide) (Or.inr (by decide))
  · rw [← hw, hb, stored]
    exact ⟨rfl, rfl, rfl, rfl, rfl, (Dev.answer_sameRegs _ p [] _).put (f := fANV_SCENE_CMD_OP) (by decide) 0⟩
  · rw [Dev.writeWith, show fANV_SCENE_CMD_OP.addr = rANV_SCENE_CMD from rfl, ← hw, Dev.busWrite_reg takes (by decide) (by decide),
      Dev.regWrite_plain regAt_sceneCmd (by decide) fun h => absurd h (by decide), Dev.regStore_free (d := d.answer p []) rfl,
      Dev.writeEffect_sceneCmd, acts, hb, stored]
    rfl

/-- SCENE_SWAP with TIMED = 0 asks for an untimed swap over the crossfade of its operand. -/
theorem exec_sceneSwap {s : State} (takes : s.dev.takes p rANV_SCENE_CMD) (untimed : fANV_SCENE_CMD_TIMED.get v = 0) :
    ∃ c t, SceneWritten s.dev c p 1 v ∧ exec (.sceneSwap p v) s = s.done (c.sceneSwap false t (fANV_SCENE_CMD_XFADE.get v)).2 := by
  obtain ⟨b, w, write⟩ := Dev.writeWith_sceneCmd (op := 1) (v := v) takes (by decide)
  have timed : (b.put fANV_SCENE_CMD_OP 0).on fANV_SCENE_CMD_TIMED = false := by rw [w.timed, untimed]; rfl
  refine ⟨_, (b.put fANV_SCENE_CMD_OP 0).get fANV_SCENE_CMD_TCMP, w, ?_⟩
  rw [← timed, ← w.xfade]
  exact congrArg s.done write

/-- SCENE_CANCEL cancels. -/
theorem exec_sceneCancel {s : State} (takes : s.dev.takes p rANV_SCENE_CMD) :
    ∃ c, SceneWritten s.dev c p 2 v ∧ exec (.sceneCancel p v) s = s.done c.sceneCancel := by
  obtain ⟨b, w, write⟩ := Dev.writeWith_sceneCmd (op := 2) (v := v) takes (by decide)
  exact ⟨_, w, congrArg s.done write⟩

end Sys2Proof.Machine
end

section
/-! What Anvil does at its enable, its disable and its scene commands (R217 to R222). -/

namespace Sys2Proof.Machine

open Sys2Proof

variable {d c e : Dev} {p : Port} {v : Word}

theorem fANV_STS_SCENE_ok : fANV_STS_SCENE.ok := (by decide : 4 + 2 ≤ 32)

theorem fANV_STS_LIVE_ok : fANV_STS_LIVE.ok := (by decide : 1 + 1 ≤ 32)

/-! ## A refusal -/

/-- `e` is `d` with a refusal counted, and captured where the register was free. -/
structure AnvRefused (d e : Dev) (code entry : Nat) : Prop where
  kept : Keeps Dev.butRegs [rANV_REFUSE, rANV_REFUSE_CNT] d e
  valid : e.on fANV_REFUSE_VALID = true
  shown : d.on fANV_REFUSE_VALID = true ∨ e.get fANV_REFUSE_CODE = code % 16 ∧ e.get fANV_REFUSE_ENTRY = entry % 32768
  count : (e.reg rANV_REFUSE_CNT).toNat = min ((d.reg rANV_REFUSE_CNT).toNat + 1) (2 ^ 32 - 1)

/-- The fields of ANV_REFUSE as a refusal loads them. -/
def refusal (code source bank entry : Nat) : List (Fld × Nat) :=
  [(fANV_REFUSE_CODE, code), (fANV_REFUSE_SOURCE, source), (fANV_REFUSE_BANK, bank), (fANV_REFUSE_ENTRY, entry)]

theorem refusal_addr (code source bank entry : Nat) : ∀ x ∈ refusal code source bank entry, x.1.addr = rANV_REFUSE := by
  simp [refusal, fANV_REFUSE_CODE, fANV_REFUSE_SOURCE, fANV_REFUSE_BANK, fANV_REFUSE_ENTRY, rANV_REFUSE]

theorem Dev.anvRefuse_eq (d : Dev) (code source bank entry : Nat) :
    d.anvRefuse code source bank entry = (d.capture fANV_REFUSE_VALID (refusal code source bank entry)).inc rANV_REFUSE_CNT := rfl

/-- A capture into a free ANV_REFUSE. -/
theorem Dev.capture_refusal (off : d.on fANV_REFUSE_VALID = false) (code source bank entry : Nat) :
    (d.capture fANV_REFUSE_VALID (refusal code source bank entry)).on fANV_REFUSE_VALID = true ∧
    (d.capture fANV_REFUSE_VALID (refusal code source bank entry)).get fANV_REFUSE_CODE = code % 16 ∧
    (d.capture fANV_REFUSE_VALID (refusal code source bank entry)).get fANV_REFUSE_ENTRY = entry % 32768 := by
  have valid : fANV_REFUSE_VALID.ok := (by decide : 31 + 1 ≤ 32)
  have loads : d.capture fANV_REFUSE_VALID (refusal code source bank entry) =
      ((((d.put fANV_REFUSE_CODE code).put fANV_REFUSE_SOURCE source).put fANV_REFUSE_BANK bank).put fANV_REFUSE_ENTRY entry).putB
        fANV_REFUSE_VALID true := by
    rw [Dev.capture, off]; rfl
  rw [loads]
  refine ⟨Dev.on_putB_same _ valid rfl true, ?_, ?_⟩
  · rw [Dev.putB, Dev.get_put_apart (f := fANV_REFUSE_VALID) (hf := valid) (h := Or.inr (by decide)),
      Dev.get_put_apart (f := fANV_REFUSE_ENTRY) (hf := (by decide : 0 + 15 ≤ 32)) (h := Or.inl (by decide)),
      Dev.get_put_apart (f := fANV_REFUSE_BANK) (hf := (by decide : 25 + 1 ≤ 32)) (h := Or.inl (by decide)),
      Dev.get_put_apart (f := fANV_REFUSE_SOURCE) (hf := (by decide : 26 + 1 ≤ 32)) (h := Or.inl (by decide)),
      Dev.get_put_same _ fANV_REFUSE_CODE _ (by decide : 27 + 4 ≤ 32)]
    rfl
  · rw [Dev.putB, Dev.get_put_apart (f := fANV_REFUSE_VALID) (hf := valid) (h := Or.inr (by decide)),
      Dev.get_put_same _ fANV_REFUSE_ENTRY _ (by decide : 0 + 15 ≤ 32)]
    rfl

theorem Dev.anvRefuse_refused (d : Dev) (code source bank entry : Nat) : AnvRefused d (d.anvRefuse code source bank entry) code entry := by
  obtain ⟨x, hx⟩ : ∃ x, x = d.capture fANV_REFUSE_VALID (refusal code source bank entry) := ⟨_, rfl⟩
  have captured : d.sameRegs x [rANV_REFUSE] := by
    rw [hx]
    exact (Dev.sameRegs.refl d _).capture (v := fANV_REFUSE_VALID) (by decide) fun y hy => by rw [refusal_addr _ _ _ _ y hy]; simp
  have counted : ∀ f : Fld, f.addr = rANV_REFUSE → (x.inc rANV_REFUSE_CNT).get f = x.get f := fun f ha =>
    Dev.get_inc_ne _ rANV_REFUSE_CNT f (by rw [ha]; decide)
  have valid : (x.inc rANV_REFUSE_CNT).on fANV_REFUSE_VALID = x.on fANV_REFUSE_VALID := congrArg (· != 0) (counted fANV_REFUSE_VALID rfl)
  rw [Dev.anvRefuse_eq, ← hx]
  refine ⟨⟨?_, (captured.mono (by simp)).inc (by simp)⟩, ?_, ?_, ?_⟩
  · have frame : x.butRegs = d.butRegs := by rw [hx]; exact d.capture_butRegs _ _
    exact frame
  · rw [valid, hx]
    cases held : d.on fANV_REFUSE_VALID with
    | true => rw [Dev.capture_held _ _ _ held]; exact held
    | false => exact (Dev.capture_refusal held ..).1
  · rw [counted fANV_REFUSE_CODE rfl, counted fANV_REFUSE_ENTRY rfl, hx]
    cases held : d.on fANV_REFUSE_VALID with
    | true => exact Or.inl rfl
    | false => exact Or.inr (Dev.capture_refusal held ..).2
  · rw [Dev.reg_inc_same, captured _ (by decide)]

/-! ## The enable -/

/-- The registers of ANV_COST_P0 to P3. -/
def costRegs : List Nat := (List.range 4).map rANV_COST_Pc

theorem Dev.showCosts_keeps (d : Dev) : Keeps Dev.butRegs costRegs d d.showCosts :=
  Keeps.foldl (E := Dev.butRegs) (L := costRegs)
    (fun x k => x.setReg (rANV_COST_Pc k) (BitVec.ofNat 32 (x.classCost (d.classed (d.get fANV_STS_LIVE)) k))) (List.range 4)
    (fun _ hk c => ⟨rfl, (Dev.sameRegs.refl c _).setReg (List.mem_map_of_mem hk) _⟩) d

/-- The state of Anvil that an enable with bank `b` leaves where no swap waits. -/
def Dev.anvStarted (d : Dev) (b : Nat) : AnvSt :=
  let l := (d.path (Fin.ofNat 8 (d.get fMCG_HOUSE_HOUSE)).val .anv).idx
  ((d.setAnv { d.anv with next := l.map fun s => BitVec.ofNat 64 (s.toNat / d.blockLen * d.blockLen),
                          since := l, fresh := true, ease := [], period := 0, misses := 0 }).fixClasses b).anv

/-- The enable of a valid bank where no swap waits. -/
theorem Dev.anvEnable_valid (valid : d.validate (d.get fANV_CTL_BANK) = none) (idle : d.anv.swap = none) :
    d.anvEnable = ((d.setAnv (d.anvStarted (d.get fANV_CTL_BANK))).putB fANV_STS_LIVE (d.get fANV_CTL_BANK == 1)).showCosts := by
  have noSwap : ∀ x : Dev, x.anv.swap = none → x.swapAtEnable = x := fun x hx => by rw [Dev.swapAtEnable, hx]
  unfold Dev.anvEnable
  simp only [valid]
  exact congrArg Dev.showCosts (noSwap _ idle)

/-- What the enable of a valid bank leaves. -/
structure AnvEnabled (d e : Dev) : Prop where
  kept : Keeps (fun x => { Dev.butRegs x with anv := {} }) (rANV_STS :: costRegs) d e
  live : e.get fANV_STS_LIVE = d.get fANV_CTL_BANK
  run : e.on fANV_STS_RUN = d.on fANV_STS_RUN
  fresh : e.anv.fresh = true
  faults : e.anv.faults = d.anv.faults

theorem Dev.anvEnable_enabled (valid : d.validate (d.get fANV_CTL_BANK) = none) (idle : d.anv.swap = none) : AnvEnabled d d.anvEnable := by
  obtain ⟨x, hx⟩ : ∃ x, x = (d.setAnv (d.anvStarted (d.get fANV_CTL_BANK))).putB fANV_STS_LIVE (d.get fANV_CTL_BANK == 1) := ⟨_, rfl⟩
  have shows := x.showCosts_keeps
  have anv : x.showCosts.anv = d.anvStarted (d.get fANV_CTL_BANK) := by
    rw [show x.showCosts.anv = x.anv from congrArg (·.anv) shows.rest, hx]; rfl
  have bank : (d.get fANV_CTL_BANK == 1).toNat = d.get fANV_CTL_BANK := by
    have lt : d.get fANV_CTL_BANK < 2 := d.get_lt fANV_CTL_BANK
    interval_cases d.get fANV_CTL_BANK <;> rfl
  rw [Dev.anvEnable_valid valid idle, ← hx]
  refine ⟨?_, ?_, ?_, ?_, ?_⟩
  · have first : Keeps (fun y => { Dev.butRegs y with anv := {} }) (rANV_STS :: costRegs) d x := by
      rw [hx]
      exact ⟨rfl, (Dev.sameRegs.of_regs (Dev.sameRegs.refl d _) rfl).putB (f := fANV_STS_LIVE) (List.mem_cons_self) _⟩
    exact first.trans ((shows.mono (List.subset_cons_self _ _)).part fun y : Dev => { y with anv := {} })
  · rw [shows.regs.get (f := fANV_STS_LIVE) (by decide), hx, Dev.putB, Dev.get_put_same _ fANV_STS_LIVE _ fANV_STS_LIVE_ok, bank]
    exact Nat.mod_eq_of_lt (d.get_lt fANV_CTL_BANK)
  · rw [shows.regs.on (f := fANV_STS_RUN) (by decide), hx, Dev.putB,
      Dev.on_put_apart (f := fANV_STS_LIVE) _ _ fANV_STS_LIVE_ok (Or.inr (by decide))]
    rfl
  · rw [anv]; rfl
  · rw [anv]; rfl

/-- The enable of a bank that does not validate. -/
theorem Dev.anvEnable_bad {code entry : Nat} (bad : d.validate (d.get fANV_CTL_BANK) = some (code, entry)) :
    d.anvEnable = (d.putB fANV_CTL_EN false).anvRefuse code 0 (d.get fANV_CTL_BANK) entry := by
  unfold Dev.anvEnable
  simp only [bad]

/-! ## The disable -/

/-- Entries under a key that a filter of keys takes in stay. -/
theorem kget_filter_key {α : Type} (z : α) (m : KMap α) (q : Nat → Bool) {i : Nat} (hi : q i = true) :
    kget z (m.filter fun x => q x.1) i = kget z m i := by
  induction m with
  | nil => rfl
  | cons x t ih =>
    obtain ⟨k, w⟩ := x
    by_cases hk : q k = true
    · rw [List.filter_cons_of_pos (by exact hk)]
      simp only [kget, ih]
    · have apart : i ≠ k := fun h => hk (h ▸ hi)
      rw [List.filter_cons_of_neg (by exact hk), ih]
      simp only [kget, if_neg apart]

/-- The device but for its registers, the paths of ticks, Anvil and the store. -/
def Dev.butAnvStore (d : Dev) : Dev := { d.butTicks with anv := {}, store := [] }

/-- The store outside the signal area stays when Anvil falls silent. -/
theorem Dev.anvSilent_store (d : Dev) {a : Nat} (ha : a < 0x8C000 ∨ 0x14C000 ≤ a) : readByte d.anvSilent.store a = readByte d.store a :=
  kget_filter_key 0 d.store (fun k => decide (8 * heapBase ≤ k) || decide (k < 0x8C000)) (by
    have base : 8 * heapBase = 0x14C000 := rfl
    rw [base, Bool.or_eq_true, decide_eq_true_iff, decide_eq_true_iff]
    exact ha.symm)

/-- Of the samples, only gathered ones are left. -/
theorem Dev.anvSilent_sig (d : Dev) : d.anvSilent.anv.sig.all (fun x => decide (131072 ≤ x.1)) = true := by
  show (((d.anv.forget 0).forget 1).sig.all fun x => decide (131072 ≤ x.1)) = true
  rw [List.all_eq_true]
  intro x hx
  simp only [AnvSt.forget, List.mem_filter, Bool.not_eq_true', Bool.and_eq_false_iff, decide_eq_false_iff_not] at hx
  rw [decide_eq_true_iff]
  omega

/-- Anvil as a disable leaves it before its handles read zero. -/
def Dev.anvHalted (d : Dev) : Dev :=
  (((d.setAnv { d.anv.stop with xfade := none }).put fANV_STS_SCENE 0).unfollow (d.get fMCG_HOUSE_HOUSE) .anv).putB fANV_STS_RUN false

/-- The disable with no block in progress and no swap pending. -/
theorem Dev.anvDisable_idle (block : d.anv.block = none) (swap : d.anv.swap = none) : d.anvDisable = d.anvHalted.anvSilent := by
  obtain ⟨x, hx⟩ : ∃ x, x = (d.setAnv { d.anv.stop with xfade := none }).put fANV_STS_SCENE 0 := ⟨_, rfl⟩
  have idle : (x.unfollow (d.get fMCG_HOUSE_HOUSE) .anv).anv.block = none := by
    rw [show (x.unfollow (d.get fMCG_HOUSE_HOUSE) .anv).anv = x.anv from congrArg (·.anv) (x.unfollow_keeps _ _).rest, hx]
    exact block
  have ends : d.swapEnd = d := by rw [Dev.swapEnd, swap]
  unfold Dev.anvDisable Dev.anvHalted
  simp only [ends, Dev.setAnv_get, ← hx, idle]

/-- What such a disable leaves. -/
structure AnvStopped (d e : Dev) : Prop where
  kept : Keeps Dev.butAnvStore [rANV_STS] d e
  run : e.on fANV_STS_RUN = false
  scene : e.get fANV_STS_SCENE = 0
  sig : e.anv.sig.all (fun x => decide (131072 ≤ x.1)) = true
  due : e.anv.due = []
  xfade : e.anv.xfade = none
  store : ∀ a, a < 0x8C000 ∨ 0x14C000 ≤ a → readByte e.store a = readByte d.store a

theorem Dev.anvDisable_stopped (block : d.anv.block = none) (swap : d.anv.swap = none) : AnvStopped d d.anvDisable := by
  obtain ⟨x, hx⟩ : ∃ x, x = (d.setAnv { d.anv.stop with xfade := none }).put fANV_STS_SCENE 0 := ⟨_, rfl⟩
  obtain ⟨y, hy⟩ : ∃ y, y = x.unfollow (d.get fMCG_HOUSE_HOUSE) .anv := ⟨_, rfl⟩
  have left : Keeps Dev.butTicks [] x y := by rw [hy]; exact x.unfollow_keeps _ _
  have anv : y.anv = { d.anv.stop with xfade := none } := by
    rw [show y.anv = x.anv from congrArg (·.anv) left.rest, hx]; rfl
  have store : y.store = d.store := by
    rw [show y.store = x.store from congrArg (·.store) left.rest, hx]; rfl
  have halted : d.anvHalted = y.putB fANV_STS_RUN false := by rw [hy, hx, Dev.anvHalted]
  rw [Dev.anvDisable_idle block swap, halted]
  refine ⟨?_, ?_, ?_, Dev.anvSilent_sig _, ?_, ?_, fun a ha => ?_⟩
  · have first : Keeps Dev.butAnvStore [rANV_STS] d x := by
      rw [hx]
      exact ⟨rfl, ((Dev.sameRegs.refl d _).of_regs rfl).put (f := fANV_STS_SCENE) (by decide) 0⟩
    have second : Keeps Dev.butAnvStore [rANV_STS] x y := (left.mono (by simp)).part fun z : Dev => { z with anv := {}, store := [] }
    have third : Keeps Dev.butAnvStore [rANV_STS] y (y.putB fANV_STS_RUN false).anvSilent :=
      ⟨rfl, ((Dev.sameRegs.refl y _).putB (f := fANV_STS_RUN) (by decide) false).of_regs rfl⟩
    exact (first.trans second).trans third
  · exact Dev.on_putB_same y (f := fANV_STS_RUN) (by decide : 0 + 1 ≤ 32) rfl false
  · show (y.put fANV_STS_RUN 0).get fANV_STS_SCENE = 0
    rw [Dev.get_put_apart _ fANV_STS_RUN _ _ (by decide : 0 + 1 ≤ 32) (Or.inl (by decide)), left.regs.get (f := fANV_STS_SCENE) (by simp), hx,
      Dev.get_put_same _ fANV_STS_SCENE _ fANV_STS_SCENE_ok]
    rfl
  · show y.anv.due = []
    rw [anv]; rfl
  · show y.anv.xfade = none
    rw [anv]
  · rw [Dev.anvSilent_store _ ha, show (y.putB fANV_STS_RUN false).store = y.store from rfl, store]

/-! ## The scene commands -/

/-- The conditions of Table 8.6 that an untimed SWAP of the NEXT bank breaks, lowest code first. -/
def Dev.swapRefusal (d : Dev) (xfade : Nat) : Option (Nat × Nat) :=
  (d.validate d.nextBank).orElse fun _ =>
    ((if xfade = 0 then none else d.sharesHeap d.nextBank (d.get fANV_STS_LIVE)).map fun e => (11, e)).orElse fun _ =>
      if d.get fANV_STS_SCENE ≠ 0 then some (12, 0) else none

theorem Dev.sceneSwap_refused {t xfade code entry : Nat} (bad : d.swapRefusal xfade = some (code, entry)) :
    (d.sceneSwap false t xfade).2 = d.anvRefuse code 1 d.nextBank entry := by
  unfold Dev.swapRefusal at bad
  simp only [Dev.sceneSwap, Bool.false_eq_true, if_false, if_true, Bool.false_and, Dev.dropClaim, Option.orElse_none]
  rw [bad]

theorem Dev.sceneSwap_accepted {t xfade : Nat} (good : d.swapRefusal xfade = none) :
    (d.sceneSwap false t xfade).2 = ((d.put fANV_STS_SCENE 1).fixClasses d.nextBank).setAnv
      { ((d.put fANV_STS_SCENE 1).fixClasses d.nextBank).anv with swap := some { bank := d.nextBank, xfade := xfade } } := by
  unfold Dev.swapRefusal at good
  simp only [Dev.sceneSwap, Bool.false_eq_true, if_false, if_true, Bool.false_and, Option.orElse_none]
  rw [good]

end Sys2Proof.Machine
end

section
/-! Anvil enabled, refused and disabled, and its scenes swapped and cancelled: each command from its write to what it leaves (R217 to R222). -/

namespace Sys2Proof.Machine

open Sys2Proof

variable {d c e : Dev} {p : Port} {v : Word}

/-- The device but for its registers, its ports and Anvil. -/
def Dev.butPortsAnv (d : Dev) : Dev := { d with regs := [], ports := [], anv := {} }

theorem Dev.calmPart_butPortsAnv (h : e.butPortsAnv = d.butPortsAnv) : e.calmPart = d.calmPart :=
  (congrArg Dev.calmPart h : e.butPortsAnv.calmPart = d.butPortsAnv.calmPart)

/-- A device that keeps everything but registers, ports and Anvil, as a frame equation, its interrupt balls following. -/
theorem Dev.showIrq_of_butPortsAnv (h : e.butPortsAnv = d.butPortsAnv) :
    e.showIrq = { d with regs := e.showIrq.regs, ports := e.showIrq.ports, anv := e.showIrq.anv, irqA := e.showIrq.irqA, irqB := e.showIrq.irqB } :=
  congrArg (fun x : Dev => { x with regs := e.regs, ports := e.ports, anv := e.anv, irqA := e.irqPinA, irqB := e.irqPinB }) h

/-- The same where Anvil is kept too. -/
theorem Dev.showIrq_of_butRegsPorts (h : e.butRegsPorts = d.butRegsPorts) :
    e.showIrq = { d with regs := e.showIrq.regs, ports := e.showIrq.ports, irqA := e.showIrq.irqA, irqB := e.showIrq.irqB } :=
  congrArg (fun x : Dev => { x with regs := e.regs, ports := e.ports, irqA := e.irqPinA, irqB := e.irqPinB }) h

/-! ## Enable and disable -/

/-- A valid bank becomes LIVE (R217). -/
theorem anvEnable_completes (s : State) (p : Port) (v : Word) (calm : s.dev.calm = true) (takes : s.dev.takes p rANV_CTL)
    (off : s.dev.on fANV_CTL_EN = false) (idle : s.dev.anv.swap = none)
    (valid : (s.dev.stored rANV_CTL (fANV_CTL_EN.put v 1)).validate ((s.dev.stored rANV_CTL (fANV_CTL_EN.put v 1)).get fANV_CTL_BANK) = none) :
    Completes (.anvEnable p v) s fun d =>
      d.on fANV_CTL_EN = true ∧
      d.get fANV_STS_LIVE = fANV_CTL_BANK.get v ∧
      d.on fANV_STS_RUN = s.dev.on fANV_STS_RUN ∧
      d.anv.fresh = true ∧
      d.anv.faults = s.dev.anv.faults ∧
      (d.port p).code = 0 ∧
      s.dev.sameRegs d [rANV_CTL, rANV_STS, rANV_COST_Pc 0, rANV_COST_Pc 1, rANV_COST_Pc 2, rANV_COST_Pc 3] ∧
      d = { s.dev with regs := d.regs, ports := d.ports, anv := d.anv, irqA := d.irqA, irqB := d.irqB } := by
  obtain ⟨c, w, hx⟩ := exec_anvEnable (v := v) takes off
  have anv : c.anv = s.dev.anv := congrArg (·.anv) w.kept.rest
  have starts := Dev.anvEnable_enabled (w.validates.trans valid) (by rw [anv]; exact idle)
  obtain ⟨e, he⟩ : ∃ e, e = c.anvEnable := ⟨_, rfl⟩
  rw [← he] at hx starts
  have keeps : Keeps Dev.butPortsAnv (rANV_CTL :: rANV_STS :: costRegs) s.dev e :=
    ((w.kept.mono (by simp)).part fun x : Dev => { x with anv := {} }).trans
      ((starts.kept.mono (List.subset_cons_self _ _)).part fun x : Dev => { x with ports := [] })
  refine completes_of_sameRegs hx calm keeps.regs (by decide) (Dev.calmPart_butPortsAnv keeps.rest)
    ⟨?_, starts.live.trans w.bank, ?_, starts.fresh, ?_, ?_, keeps.regs.showIrq, Dev.showIrq_of_butPortsAnv keeps.rest⟩
  · exact (starts.kept.regs.on (f := fANV_CTL_EN) (by decide)).trans w.en
  · exact starts.run.trans (w.kept.regs.on (f := fANV_STS_RUN) (by decide))
  · exact starts.faults.trans (congrArg (·.faults) anv)
  · rw [Dev.showIrq_port, Dev.port_congr (congrArg (·.ports) starts.kept.rest : e.ports = c.ports), w.code]

/-- A bank that does not validate is refused, and EN stays 0 (R217). -/
theorem anvEnable_refused_completes (s : State) (p : Port) (v : Word) (code entry : Nat) (calm : s.dev.calm = true)
    (takes : s.dev.takes p rANV_CTL) (off : s.dev.on fANV_CTL_EN = false)
    (bad : (s.dev.stored rANV_CTL (fANV_CTL_EN.put v 1)).validate ((s.dev.stored rANV_CTL (fANV_CTL_EN.put v 1)).get fANV_CTL_BANK) =
      some (code, entry))
    (free : s.dev.on fANV_REFUSE_VALID = false) :
    Completes (.anvEnable p v) s fun d =>
      d.on fANV_CTL_EN = false ∧
      d.on fANV_REFUSE_VALID = true ∧
      d.get fANV_REFUSE_CODE = code % 16 ∧
      d.get fANV_REFUSE_ENTRY = entry % 32768 ∧
      (d.reg rANV_REFUSE_CNT).toNat = min ((s.dev.reg rANV_REFUSE_CNT).toNat + 1) (2 ^ 32 - 1) ∧
      (d.port p).code = 0 ∧
      s.dev.sameRegs d [rANV_CTL, rANV_REFUSE, rANV_REFUSE_CNT] ∧
      d = { s.dev with regs := d.regs, ports := d.ports, irqA := d.irqA, irqB := d.irqB } := by
  obtain ⟨c, w, hx⟩ := exec_anvEnable (v := v) takes off
  obtain ⟨e, he⟩ : ∃ e, e = (c.putB fANV_CTL_EN false).anvRefuse code 0 (c.get fANV_CTL_BANK) entry := ⟨_, rfl⟩
  rw [Dev.anvEnable_bad (w.validates.trans bad), ← he] at hx
  have fallen : Keeps Dev.butRegsPorts [rANV_CTL] s.dev (c.putB fANV_CTL_EN false) :=
    ⟨w.kept.rest, w.kept.regs.putB (f := fANV_CTL_EN) (by decide) false⟩
  have refused := (c.putB fANV_CTL_EN false).anvRefuse_refused code 0 (c.get fANV_CTL_BANK) entry
  rw [← he] at refused
  have keeps : Keeps Dev.butRegsPorts [rANV_CTL, rANV_REFUSE, rANV_REFUSE_CNT] s.dev e :=
    (fallen.mono (by simp)).trans ((refused.kept.mono (by simp)).part fun x : Dev => { x with ports := [] })
  have empty : (c.putB fANV_CTL_EN false).on fANV_REFUSE_VALID ≠ true := by
    rw [fallen.regs.on (f := fANV_REFUSE_VALID) (by decide), free]
    decide
  obtain ⟨shownCode, shownEntry⟩ := refused.shown.resolve_left empty
  refine completes_of_sameRegs hx calm keeps.regs (by decide) (congrArg (·.calmPart) keeps.rest)
    ⟨?_, refused.valid, shownCode, shownEntry, ?_, ?_, keeps.regs.showIrq, Dev.showIrq_of_butRegsPorts keeps.rest⟩
  · rw [Dev.showIrq_on, refused.kept.regs.on (f := fANV_CTL_EN) (by decide)]
    exact Dev.on_putB_same c fANV_CTL_EN_ok rfl false
  · rw [Dev.showIrq_reg, refused.count, fallen.regs _ (by decide)]
  · rw [Dev.showIrq_port, Dev.port_congr (congrArg (·.ports) refused.kept.rest : e.ports = c.ports), w.code]

/-- The disable with no block in progress (R218). -/
theorem anvDisable_completes (s : State) (p : Port) (v : Word) (calm : s.dev.calm = true) (takes : s.dev.takes p rANV_CTL)
    (on : s.dev.on fANV_CTL_EN = true) (block : s.dev.anv.block = none) (swap : s.dev.anv.swap = none) :
    Completes (.anvDisable p v) s fun d =>
      d.on fANV_CTL_EN = false ∧
      d.on fANV_STS_RUN = false ∧
      d.get fANV_STS_SCENE = 0 ∧
      (d.anv.sig.all (fun e => decide (131072 ≤ e.1)) = true) ∧
      d.anv.due = [] ∧
      d.anv.xfade = none ∧
      s.dev.sameStoreBut d 0x8C000 0x14C000 ∧
      (d.port p).code = 0 ∧
      s.dev.sameRegs d [rANV_CTL, rANV_STS, rGLB_IGN_CNT, rGLB_IGN_OVF_CNT] ∧
      d = { s.dev with regs := d.regs, ports := d.ports, ign := d.ign, anv := d.anv, ticks := d.ticks, store := d.store, irqA := d.irqA, irqB := d.irqB } := by
  obtain ⟨c, kept, code, en, hx⟩ := exec_anvDisable (v := v) takes on
  have anv : c.anv = s.dev.anv := congrArg (·.anv) kept.rest
  have store : c.store = s.dev.store := congrArg (·.store) kept.rest
  have stops := Dev.anvDisable_stopped (d := c) (by rw [anv]; exact block) (by rw [anv]; exact swap)
  obtain ⟨e, he⟩ : ∃ e, e = c.anvDisable := ⟨_, rfl⟩
  rw [← he] at hx stops
  have keeps : Keeps (fun x => { Dev.butAnvStore x with ports := [], ign := [] }) [rANV_CTL, rANV_STS, rGLB_IGN_CNT, rGLB_IGN_OVF_CNT] s.dev e :=
    ((kept.mono (by simp)).part fun x : Dev => { x with ticks := [], anv := {}, store := [] }).trans
      ((stops.kept.mono (by simp)).part fun x : Dev => { x with ports := [], ign := [] })
  have tbl : e.tbl = s.dev.tbl := congrArg (·.tbl) keeps.rest
  refine completes_of_sameRegs hx calm keeps.regs (by decide) (congrArg (·.calmPart) keeps.rest)
    ⟨?_, stops.run, stops.scene, stops.sig, stops.due, stops.xfade, ⟨fun a => congrArg (readByte · a) tbl, fun a ha => ?_⟩, ?_,
      keeps.regs.showIrq, ?_⟩
  · exact (stops.kept.regs.on (f := fANV_CTL_EN) (by decide)).trans en
  · exact (stops.store a ha).trans (congrArg (readByte · a) store)
  · rw [Dev.showIrq_port, Dev.port_congr (congrArg (·.ports) stops.kept.rest : e.ports = c.ports), code]
  · exact congrArg (fun x : Dev => { x with regs := e.regs, ports := e.ports, ign := e.ign, anv := e.anv, ticks := e.ticks, store := e.store, irqA := e.irqPinA, irqB := e.irqPinB }) keeps.rest

/-! ## Scenes -/

namespace SceneWritten

variable {op : Nat}

theorem live (w : SceneWritten d c p op v) : c.get fANV_STS_LIVE = d.get fANV_STS_LIVE := w.kept.regs.get (f := fANV_STS_LIVE) (by decide)

theorem scene (w : SceneWritten d c p op v) : c.get fANV_STS_SCENE = d.get fANV_STS_SCENE := w.kept.regs.get (f := fANV_STS_SCENE) (by decide)

theorem nextBank (w : SceneWritten d c p op v) : c.nextBank = d.nextBank := by rw [Dev.nextBank, Dev.nextBank, w.live]

theorem anv (w : SceneWritten d c p op v) : c.anv = d.anv := congrArg (·.anv) w.kept.rest

/-- What refuses the swap, from the device as the command stores it. -/
theorem swapRefusal (w : SceneWritten d c p op v) (xfade : Nat) : c.swapRefusal xfade =
    ((d.stored rANV_SCENE_CMD (fANV_SCENE_CMD_OP.put v op)).validate d.nextBank).orElse fun _ =>
      ((if xfade = 0 then none
        else (d.stored rANV_SCENE_CMD (fANV_SCENE_CMD_OP.put v op)).sharesHeap d.nextBank (1 - d.nextBank)).map fun e => (11, e)).orElse fun _ =>
        if d.get fANV_STS_SCENE ≠ 0 then some (12, 0) else none := by
  have other : d.get fANV_STS_LIVE = 1 - d.nextBank := by
    have lt : d.get fANV_STS_LIVE < 2 := d.get_lt fANV_STS_LIVE
    unfold Dev.nextBank
    omega
  rw [Dev.swapRefusal, w.jobs.validate, w.jobs.sharesHeap, w.nextBank, w.live, other, w.scene]

/-- Of a NEXT bank that validates, and where a crossfade finds no shared heap, only a swap in progress is left to refuse the swap. -/
theorem swapRefusal_valid (w : SceneWritten d c p op v) {xfade : Nat}
    (valid : (d.stored rANV_SCENE_CMD (fANV_SCENE_CMD_OP.put v op)).validate d.nextBank = none)
    (apart : xfade = 0 ∨ (d.stored rANV_SCENE_CMD (fANV_SCENE_CMD_OP.put v op)).sharesHeap d.nextBank (1 - d.nextBank) = none) :
    c.swapRefusal xfade = if d.get fANV_STS_SCENE ≠ 0 then some (12, 0) else none := by
  have noShare : (if xfade = 0 then none
      else (d.stored rANV_SCENE_CMD (fANV_SCENE_CMD_OP.put v op)).sharesHeap d.nextBank (1 - d.nextBank)) = none := by
    split
    · rfl
    · next fades => exact apart.resolve_left fades
  rw [w.swapRefusal, valid, noShare]
  rfl

end SceneWritten

/-- An untimed SWAP of a valid NEXT bank waits (R220). -/
theorem sceneSwap_completes (s : State) (p : Port) (v : Word) (calm : s.dev.calm = true) (takes : s.dev.takes p rANV_SCENE_CMD)
    (scene : s.dev.get fANV_STS_SCENE = 0) (untimed : fANV_SCENE_CMD_TIMED.get v = 0)
    (valid : (s.dev.stored rANV_SCENE_CMD (fANV_SCENE_CMD_OP.put v 1)).validate s.dev.nextBank = none)
    (apart : fANV_SCENE_CMD_XFADE.get v = 0 ∨
      (s.dev.stored rANV_SCENE_CMD (fANV_SCENE_CMD_OP.put v 1)).sharesHeap s.dev.nextBank (1 - s.dev.nextBank) = none) :
    Completes (.sceneSwap p v) s fun d =>
      d.get fANV_STS_SCENE = 1 ∧
      d.anv = { s.dev.anv with swap := some { bank := s.dev.nextBank, xfade := fANV_SCENE_CMD_XFADE.get v }, cls := d.anv.cls } ∧
      (d.port p).code = 0 ∧
      s.dev.sameRegs d [rANV_SCENE_CMD, rANV_STS] ∧
      d = { s.dev with regs := d.regs, ports := d.ports, anv := d.anv, irqA := d.irqA, irqB := d.irqB } := by
  obtain ⟨c, t, w, hx⟩ := exec_sceneSwap takes untimed
  have accepted : c.swapRefusal (fANV_SCENE_CMD_XFADE.get v) = none := by
    rw [w.swapRefusal_valid valid apart, scene]
    rfl
  obtain ⟨x, hy⟩ : ∃ x, x = { ((c.put fANV_STS_SCENE 1).fixClasses c.nextBank).anv with
    swap := some { bank := c.nextBank, xfade := fANV_SCENE_CMD_XFADE.get v } } := ⟨_, rfl⟩
  obtain ⟨e, he⟩ : ∃ e, e = ((c.put fANV_STS_SCENE 1).fixClasses c.nextBank).setAnv x := ⟨_, rfl⟩
  rw [Dev.sceneSwap_accepted accepted, ← hy, ← he] at hx
  have regs : s.dev.sameRegs e [rANV_SCENE_CMD, rANV_STS] := by
    rw [he]
    exact ((w.kept.regs.mono (by simp)).put (f := fANV_STS_SCENE) (by decide) 1).of_regs rfl
  have rest : e.butPortsAnv = s.dev.butPortsAnv := by
    rw [he]
    exact congrArg (fun x : Dev => { x with anv := {} }) w.kept.rest
  refine completes_of_sameRegs hx calm regs (by decide) (Dev.calmPart_butPortsAnv rest)
    ⟨?_, ?_, ?_, regs.showIrq, Dev.showIrq_of_butPortsAnv rest⟩
  · rw [Dev.showIrq_get, he]
    exact Dev.get_put_same c fANV_STS_SCENE 1 fANV_STS_SCENE_ok
  · have waits : e.anv = { c.anv with swap := some { bank := c.nextBank, xfade := fANV_SCENE_CMD_XFADE.get v }, cls := e.anv.cls } := by
      rw [he, hy]
      rfl
    rw [w.anv, w.nextBank] at waits
    exact waits
  · rw [Dev.showIrq_port, Dev.port_congr (by rw [he]; rfl : e.ports = c.ports)]
    exact w.code

/-- An untimed SWAP that is refused changes its command register and what shows the refusal alone (R216, R220). -/
theorem sceneSwap_refused_completes {s : State} {code entry : Nat} (calm : s.dev.calm = true) (takes : s.dev.takes p rANV_SCENE_CMD)
    (untimed : fANV_SCENE_CMD_TIMED.get v = 0)
    (bad : ∀ c, SceneWritten s.dev c p 1 v → c.swapRefusal (fANV_SCENE_CMD_XFADE.get v) = some (code, entry)) :
    Completes (.sceneSwap p v) s fun d =>
      d.get fANV_STS_SCENE = s.dev.get fANV_STS_SCENE ∧
      (s.dev.on fANV_REFUSE_VALID = true ∨ d.get fANV_REFUSE_CODE = code % 16) ∧
      (d.reg rANV_REFUSE_CNT).toNat = min ((s.dev.reg rANV_REFUSE_CNT).toNat + 1) (2 ^ 32 - 1) ∧
      (d.port p).code = 0 ∧
      s.dev.sameRegs d [rANV_SCENE_CMD, rANV_REFUSE, rANV_REFUSE_CNT] ∧
      d = { s.dev with regs := d.regs, ports := d.ports, irqA := d.irqA, irqB := d.irqB } := by
  obtain ⟨c, t, w, hx⟩ := exec_sceneSwap takes untimed
  obtain ⟨e, he⟩ : ∃ e, e = c.anvRefuse code 1 c.nextBank entry := ⟨_, rfl⟩
  rw [Dev.sceneSwap_refused (bad c w), ← he] at hx
  have refused := c.anvRefuse_refused code 1 c.nextBank entry
  rw [← he] at refused
  have keeps : Keeps Dev.butRegsPorts [rANV_SCENE_CMD, rANV_REFUSE, rANV_REFUSE_CNT] s.dev e :=
    (w.kept.mono (by simp)).trans ((refused.kept.mono (by simp)).part fun x : Dev => { x with ports := [] })
  refine completes_of_sameRegs hx calm keeps.regs (by decide) (congrArg (·.calmPart) keeps.rest)
    ⟨keeps.regs.get (f := fANV_STS_SCENE) (by decide), ?_, ?_, ?_, keeps.regs.showIrq, Dev.showIrq_of_butRegsPorts keeps.rest⟩
  · rw [← w.kept.regs.on (f := fANV_REFUSE_VALID) (by decide)]
    exact refused.shown.imp_right And.left
  · rw [Dev.showIrq_reg, refused.count, w.kept.regs _ (by decide)]
  · rw [Dev.showIrq_port, Dev.port_congr (congrArg (·.ports) refused.kept.rest : e.ports = c.ports), w.code]

/-- CANCEL withdraws an untimed swap whose boundary has not come (R222). -/
theorem sceneCancel_completes (s : State) (p : Port) (v : Word) (w : AnvSwap) (calm : s.dev.calm = true)
    (takes : s.dev.takes p rANV_SCENE_CMD) (swap : s.dev.anv.swap = some w) (untimed : w.tcmp = none) (ahead : w.at_ = none) :
    Completes (.sceneCancel p v) s fun d =>
      d.get fANV_STS_SCENE = 0 ∧
      d.anv = { s.dev.anv with swap := none } ∧
      (d.port p).code = 0 ∧
      s.dev.sameRegs d [rANV_SCENE_CMD, rANV_STS] ∧
      d = { s.dev with regs := d.regs, ports := d.ports, anv := d.anv, irqA := d.irqA, irqB := d.irqB } := by
  obtain ⟨c, written, hx⟩ := exec_sceneCancel (v := v) takes
  have waits : c.anv.swap = some w := by rw [written.anv]; exact swap
  obtain ⟨e, he⟩ : ∃ e, e = (c.put fANV_STS_SCENE 0).setAnv { c.anv with swap := none } := ⟨_, rfl⟩
  have acts : c.sceneCancel = e := by
    rw [he, Dev.sceneCancel, waits, Option.any_some, ahead, Dev.swapEnd, waits]
    simp only [Option.isSome_none, Bool.false_eq_true, if_false, untimed, Dev.dropClaim]
  rw [acts] at hx
  have regs : s.dev.sameRegs e [rANV_SCENE_CMD, rANV_STS] := by
    rw [he]
    exact ((written.kept.regs.mono (by simp)).put (f := fANV_STS_SCENE) (by decide) 0).of_regs rfl
  have rest : e.butPortsAnv = s.dev.butPortsAnv := by
    rw [he]
    exact congrArg (fun x : Dev => { x with anv := {} }) written.kept.rest
  refine completes_of_sameRegs hx calm regs (by decide) (Dev.calmPart_butPortsAnv rest)
    ⟨?_, ?_, ?_, regs.showIrq, Dev.showIrq_of_butPortsAnv rest⟩
  · rw [Dev.showIrq_get, he]
    exact Dev.get_put_same c fANV_STS_SCENE 0 fANV_STS_SCENE_ok
  · show e.anv = _
    rw [he, ← written.anv]
    rfl
  · rw [Dev.showIrq_port, Dev.port_congr (by rw [he]; rfl : e.ports = c.ports)]
    exact written.code

/-- Settles O18: each command from its write, through what Anvil then does, to the device that it leaves. -/
theorem anvilEnablesAndSwapsScenes : Obligations.AnvilEnablesAndSwapsScenes :=
  ⟨anvEnable_completes, anvEnable_refused_completes, anvDisable_completes, sceneSwap_completes,
    fun _ _ _ calm takes scene untimed valid apart =>
      sceneSwap_refused_completes (code := 12) (entry := 0) calm takes untimed fun _ w => by
        rw [w.swapRefusal_valid valid apart, if_pos scene],
    fun _ _ _ code entry calm takes untimed bad =>
      sceneSwap_refused_completes (code := code) (entry := entry) calm takes untimed fun _ w => by rw [w.swapRefusal, bad]; rfl,
    sceneCancel_completes⟩

end Sys2Proof.Machine
end

section
/-! The state of a serial port behind its registers (R252 to R272): what an update of the port, of one of its channels or of a status
bit reads back, and what it leaves. -/

namespace Sys2Proof.Machine

open Sys2Proof

variable {d e : Dev} {n c k i j : Nat}

/-! ## Bits of a register -/

theorem bitFld_ok_of_lt (a : Nat) (hi : i < 32) : (bitFld a i).ok := Nat.succ_le_of_lt hi

theorem Dev.on_putB_bit (d : Dev) {a : Nat} (hi : i < 32) (b : Bool) :
    (d.putB (bitFld a i) b).on (bitFld a j) = if i = j then b else d.on (bitFld a j) := by
  split
  · rename_i same
    exact same ▸ Dev.on_putB_same d (bitFld_ok_of_lt a hi) rfl b
  · rename_i ne
    exact Dev.on_put_apart d _ (bitFld_ok_of_lt a hi) (by simp only [Fld.apart, bitFld]; omega)

/-- A field that lies in no field of a list keeps its value when they are set. -/
theorem Dev.get_puts_apart {fs : List (Fld × Nat)} {g : Fld} (h : ∀ x ∈ fs, x.1.ok ∧ x.1.apart g) (d : Dev) :
    (d.puts fs).get g = d.get g := by
  induction fs generalizing d with
  | nil => rfl
  | cons x t ih =>
    obtain ⟨ok, apart⟩ := h x List.mem_cons_self
    exact (ih (fun y hy => h y (List.mem_cons_of_mem x hy)) _).trans (d.get_put_apart _ _ _ ok apart)

/-- Fields that have no bit in common hold what they were set to together. -/
theorem Dev.get_puts {fs : List (Fld × Nat)} (ok : ∀ x ∈ fs, x.1.ok) (apart : fs.Pairwise fun x y => y.1.apart x.1) {f : Fld} {v : Nat}
    (h : (f, v) ∈ fs) (d : Dev) : (d.puts fs).get f = v % 2 ^ f.width := by
  induction fs generalizing d with
  | nil => cases h
  | cons x t ih =>
    obtain ⟨first, rest⟩ := List.pairwise_cons.mp apart
    obtain rfl | h := List.mem_cons.mp h
    · exact (Dev.get_puts_apart (fun y hy => ⟨ok y (List.mem_cons_of_mem _ hy), first y hy⟩) (d.put f v)).trans
        (d.get_put_same f v (ok _ List.mem_cons_self))
    · exact ih (fun y hy => ok y (List.mem_cons_of_mem x hy)) rest h _

theorem Dev.puts_keeps (d : Dev) {fs : List (Fld × Nat)} {L : List Nat} (h : ∀ x ∈ fs, x.1.addr ∈ L) : Keeps Dev.butRegs L d (d.puts fs) :=
  ⟨by rw [Dev.puts_frame]; rfl, (Dev.sameRegs.refl d L).puts h⟩

theorem Dev.inc_keeps (d : Dev) (a : Nat) : Keeps Dev.butRegs [a] d (d.inc a) := ⟨rfl, (Dev.sameRegs.refl d _).inc List.mem_cons_self⟩

/-! ## A port -/

/-- The device but for its registers and its serial ports. -/
def Dev.butSap (d : Dev) : Dev := { d with regs := [], sap := [] }

@[simp] theorem Dev.sapOf_setSap_same (d : Dev) (n : Nat) (x : SapSt) : (d.setSap n x).sapOf n = x := kget_kset_same ..

theorem Dev.sapOf_of_sap (h : e.sap = d.sap) (n : Nat) : e.sapOf n = d.sapOf n := congrArg (fun m : KMap SapSt => kget ({} : SapSt) m n) h

theorem Dev.sapOf_of_butRegs (h : e.butRegs = d.butRegs) (n : Nat) : e.sapOf n = d.sapOf n := Dev.sapOf_of_sap (congrArg (·.sap) h) n

theorem Dev.butSap_of_butRegs (h : e.butRegs = d.butRegs) : e.butSap = d.butSap :=
  congrArg (fun x : Dev => { x with sap := [] }) h

@[simp] theorem Dev.sapOf_putB (d : Dev) (f : Fld) (b : Bool) (n : Nat) : (d.putB f b).sapOf n = d.sapOf n := rfl
@[simp] theorem Dev.sapOf_put (d : Dev) (f : Fld) (v n : Nat) : (d.put f v).sapOf n = d.sapOf n := rfl
@[simp] theorem Dev.sapOf_inc (d : Dev) (a n : Nat) : (d.inc a).sapOf n = d.sapOf n := rfl
@[simp] theorem Dev.sapOf_setReg (d : Dev) (a : Nat) (w : Word) (n : Nat) : (d.setReg a w).sapOf n = d.sapOf n := rfl
@[simp] theorem Dev.sapOf_puts (d : Dev) (fs : List (Fld × Nat)) (n : Nat) : (d.puts fs).sapOf n = d.sapOf n :=
  Dev.sapOf_of_sap (by simp) n
@[simp] theorem Dev.showIrq_sapOf (d : Dev) (n : Nat) : d.showIrq.sapOf n = d.sapOf n := rfl

/-- What counts the frames of port `n`: those opened, whether it ends with one, the number of the next, and whether one has been seen. -/
def Dev.sapCounts (d : Dev) (n : Nat) : List Word64 × Bool × Nat × Bool :=
  ((d.sapOf n).frames, (d.sapOf n).ending, (d.sapOf n).f, (d.sapOf n).seen)

/-- The device but for its registers and serial ports, and what counts the frames of port `n`. -/
def Dev.sapView (n : Nat) (d : Dev) : Dev × List Word64 × Bool × Nat × Bool := (d.butSap, d.sapCounts n)

theorem Keeps.sapView {L : List Nat} (h : Keeps Dev.butRegs L d e) (n : Nat) : Keeps (Dev.sapView n) L d e :=
  ⟨by rw [Dev.sapView, Dev.sapView, Dev.sapCounts, Dev.sapCounts, Dev.sapOf_of_butRegs h.rest, Dev.butSap_of_butRegs h.rest], h.regs⟩

/-- An update of port `n` that leaves what counts its frames. -/
theorem Dev.setSap_keeps (d : Dev) {x : SapSt} (frames : x.frames = (d.sapOf n).frames) (ending : x.ending = (d.sapOf n).ending)
    (f : x.f = (d.sapOf n).f) (seen : x.seen = (d.sapOf n).seen) (L : List Nat) : Keeps (Dev.sapView n) L d (d.setSap n x) := by
  refine Keeps.of_regs ?_ rfl
  simp only [Dev.sapView, Dev.sapCounts, Dev.sapOf_setSap_same, frames, ending, f, seen]
  rfl

/-! ## A channel -/

theorem Dev.chan_setSapCh (d : Dev) (n c k : Nat) (y : SapCh) :
    ((d.setSapCh n c y).sapOf n).chan k = if c = k then y else ((d.sapOf n).chan k) := by
  rw [Dev.setSapCh, Dev.sapOf_setSap_same]
  exact kget_kset ..

@[simp] theorem Dev.chan_setSapCh_same (d : Dev) (n c : Nat) (y : SapCh) : ((d.setSapCh n c y).sapOf n).chan c = y := by
  rw [Dev.chan_setSapCh, if_pos rfl]

@[simp] theorem Dev.on_setSapCh (d : Dev) (n c : Nat) (y : SapCh) (f : Fld) : (d.setSapCh n c y).on f = d.on f := rfl

@[simp] theorem Dev.reg_setSapCh (d : Dev) (n c : Nat) (y : SapCh) (a : Nat) : (d.setSapCh n c y).reg a = d.reg a := rfl

/-- Channel `k` of port `n`, and its bits. -/
def Dev.chanView (d : Dev) (n k : Nat) : SapCh × Bool × Bool × Bool :=
  ((d.sapOf n).chan k, d.on (fSapRun n k), d.on (fSapMuted n k), d.on (fSapPend n k))

/-- All that an operation on channel `c` of port `n` leaves: the device but for registers and ports, the port but for its channels, and
the other channels. -/
def Dev.butChan (n c : Nat) (d : Dev) : Dev × SapSt × (Fin 16 → Option (SapCh × Bool × Bool × Bool)) :=
  (d.butSap, { d.sapOf n with ch := [] }, fun k => if k = c then none else some (d.chanView n k))

/-- The registers that show the channels of port `n`. -/
def chanRegs (n : Nat) : List Nat := [rSAPnn_CH_STS n, rSAPnn_CH_PEND n]

/-- Where the bit of a channel lies in a half word of eight channels a direction. -/
theorem chanBit_ne (hk : k < 16) (hc : c < 16) (h : k ≠ c) : c % 8 + 16 * (c / 8) ≠ k % 8 + 16 * (k / 8) := by omega

theorem Dev.setSapCh_keeps (d : Dev) (n c : Nat) (y : SapCh) (L : List Nat) : Keeps (Dev.butChan n c) L d (d.setSapCh n c y) := by
  refine Keeps.of_regs ?_ rfl
  have others : ∀ k : Fin 16, (if k = c then none else some ((d.setSapCh n c y).chanView n k)) =
      if k = c then none else some (d.chanView n k) := fun k => by
    by_cases h : k = c
    · rw [if_pos h, if_pos h]
    · rw [if_neg h, if_neg h, Dev.chanView, Dev.chan_setSapCh, if_neg (Ne.symm h)]
      rfl
  rw [Dev.butChan, Dev.butChan]
  simp only [others]
  rw [Dev.setSapCh, Dev.sapOf_setSap_same]
  rfl

/-- An update of a register that moves no bit of another channel. -/
theorem Keeps.butChan {L : List Nat} (h : Keeps Dev.butRegs L d e)
    (bits : ∀ k < 16, k ≠ c → e.on (fSapRun n k) = d.on (fSapRun n k) ∧ e.on (fSapMuted n k) = d.on (fSapMuted n k) ∧
      e.on (fSapPend n k) = d.on (fSapPend n k)) : Keeps (Dev.butChan n c) L d e := by
  refine ⟨?_, h.regs⟩
  have others : ∀ k : Fin 16, (if k = c then none else some (e.chanView n k)) = if k = c then none else some (d.chanView n k) := fun k => by
    by_cases same : k = c
    · rw [if_pos same, if_pos same]
    · obtain ⟨run, muted, pend⟩ := bits k k.isLt same
      rw [if_neg same, if_neg same, Dev.chanView, Dev.chanView, Dev.sapOf_of_butRegs h.rest, run, muted, pend]
  rw [Dev.butChan, Dev.butChan]
  simp only [others]
  rw [Dev.sapOf_of_butRegs h.rest, Dev.butSap_of_butRegs h.rest]

/-- An operation on one channel leaves the others. -/
theorem Keeps.chanView {L : List Nat} (h : Keeps (Dev.butChan n c) L d e) (hk : k < 16) (ne : k ≠ c) : e.chanView n k = d.chanView n k := by
  have others := congrFun (congrArg (·.2.2) h.rest) ⟨k, hk⟩
  simp only [Dev.butChan, if_neg ne, Option.some.injEq] at others
  exact others

theorem Keeps.ofChan {L : List Nat} (h : Keeps (Dev.butChan n c) L d e) : Keeps (Dev.sapView n) L d e :=
  h.part fun x : Dev × SapSt × (Fin 16 → Option (SapCh × Bool × Bool × Bool)) => (x.1, x.2.1.frames, x.2.1.ending, x.2.1.f, x.2.1.seen)

end Sys2Proof.Machine
end

section
/-! Channels of a serial port (R265 to R268): what a command, a crossing, a timeout and a sample of one channel leave as it was. -/

namespace Sys2Proof.Machine

open Sys2Proof

variable {d e : Dev} {n c : Nat}

/-! ## The bits of a channel -/

theorem Dev.putRun_keeps (d : Dev) (n : Nat) (hc : c < 16) (b : Bool) : Keeps (Dev.butChan n c) (chanRegs n) d (d.putB (fSapRun n c) b) := by
  have regs : d.sameRegs (d.putB (fSapRun n c) b) (chanRegs n) := (Dev.sameRegs.refl d _).putB (by simp [fSapRun, bitFld, chanRegs]) b
  refine Keeps.butChan (c := c) ⟨rfl, regs⟩ fun k hk ne => ⟨?_, ?_, ?_⟩
  · rw [fSapRun, fSapRun, Dev.on_putB_bit d (by omega), if_neg (chanBit_ne hk hc ne)]
  · rw [fSapRun, fSapMuted, Dev.on_putB_bit d (by omega), if_neg (by omega)]
  · exact d.on_put_addr _ (by simp [fSapRun, fSapPend, bitFld, rSAPnn_CH_STS, rSAPnn_CH_PEND])

theorem Dev.putMuted_keeps (d : Dev) (n : Nat) (hc : c < 16) (b : Bool) :
    Keeps (Dev.butChan n c) (chanRegs n) d (d.putB (fSapMuted n c) b) := by
  have regs : d.sameRegs (d.putB (fSapMuted n c) b) (chanRegs n) := (Dev.sameRegs.refl d _).putB (by simp [fSapMuted, bitFld, chanRegs]) b
  refine Keeps.butChan (c := c) ⟨rfl, regs⟩ fun k hk ne => ⟨?_, ?_, ?_⟩
  · rw [fSapMuted, fSapRun, Dev.on_putB_bit d (by omega), if_neg (by omega)]
  · rw [fSapMuted, fSapMuted, Dev.on_putB_bit d (by omega), if_neg (by omega)]
  · exact d.on_put_addr _ (by simp [fSapMuted, fSapPend, bitFld, rSAPnn_CH_STS, rSAPnn_CH_PEND])

theorem Dev.putPend_keeps (d : Dev) (n : Nat) (hc : c < 16) (b : Bool) :
    Keeps (Dev.butChan n c) [rSAPnn_CH_PEND n] d (d.putB (fSapPend n c) b) := by
  have regs : d.sameRegs (d.putB (fSapPend n c) b) [rSAPnn_CH_PEND n] := (Dev.sameRegs.refl d _).putB (by simp [fSapPend, bitFld]) b
  refine Keeps.butChan (c := c) ⟨rfl, regs⟩ fun k hk ne => ⟨?_, ?_, ?_⟩
  · exact d.on_put_addr _ (by simp [fSapRun, fSapPend, bitFld, rSAPnn_CH_STS, rSAPnn_CH_PEND])
  · exact d.on_put_addr _ (by simp [fSapMuted, fSapPend, bitFld, rSAPnn_CH_STS, rSAPnn_CH_PEND])
  · rw [fSapPend, fSapPend, Dev.on_putB_bit d (by omega), if_neg (chanBit_ne hk hc ne)]

@[simp] theorem Dev.on_putRun_same (d : Dev) (n : Nat) (hc : c < 16) (b : Bool) : (d.putB (fSapRun n c) b).on (fSapRun n c) = b := by
  rw [fSapRun, Dev.on_putB_bit d (by omega), if_pos rfl]

@[simp] theorem Dev.on_putMuted_same (d : Dev) (n : Nat) (hc : c < 16) (b : Bool) : (d.putB (fSapMuted n c) b).on (fSapMuted n c) = b := by
  rw [fSapMuted, Dev.on_putB_bit d (by omega), if_pos rfl]

@[simp] theorem Dev.on_putPend_same (d : Dev) (n : Nat) (hc : c < 16) (b : Bool) : (d.putB (fSapPend n c) b).on (fSapPend n c) = b := by
  rw [fSapPend, Dev.on_putB_bit d (by omega), if_pos rfl]

@[simp] theorem Dev.muted_putRun (d : Dev) (n : Nat) (hc : c < 16) (b : Bool) : (d.putB (fSapRun n c) b).on (fSapMuted n c) = d.on (fSapMuted n c) := by
  rw [fSapRun, fSapMuted, Dev.on_putB_bit d (by omega), if_neg (by omega)]

@[simp] theorem Dev.run_putMuted (d : Dev) (n : Nat) (hc : c < 16) (b : Bool) : (d.putB (fSapMuted n c) b).on (fSapRun n c) = d.on (fSapRun n c) := by
  rw [fSapRun, fSapMuted, Dev.on_putB_bit d (by omega), if_neg (by omega)]

@[simp] theorem Dev.run_putPend (d : Dev) (n c : Nat) (b : Bool) : (d.putB (fSapPend n c) b).on (fSapRun n c) = d.on (fSapRun n c) :=
  d.on_put_addr _ (by simp [fSapRun, fSapPend, bitFld, rSAPnn_CH_STS, rSAPnn_CH_PEND])

@[simp] theorem Dev.muted_putPend (d : Dev) (n c : Nat) (b : Bool) : (d.putB (fSapPend n c) b).on (fSapMuted n c) = d.on (fSapMuted n c) :=
  d.on_put_addr _ (by simp [fSapMuted, fSapPend, bitFld, rSAPnn_CH_STS, rSAPnn_CH_PEND])

/-! ## Commands that take effect -/

theorem Dev.sapBit_keeps (d : Dev) (n : Nat) (hc : c < 16) (op : Nat) :
    Keeps (Dev.butChan n c) (chanRegs n) d (d.sapBit n c op) ∧ (d.sapBit n c op).sap = d.sap := by
  unfold Dev.sapBit
  split
  · exact ⟨d.putRun_keeps n hc true, rfl⟩
  · exact ⟨d.putRun_keeps n hc false, rfl⟩
  · exact ⟨d.putMuted_keeps n hc true, rfl⟩
  · exact ⟨d.putMuted_keeps n hc false, rfl⟩

theorem Dev.sapBits_keeps (d : Dev) (n : Nat) (hc : c < 16) (ops : List Nat) :
    Keeps (Dev.butChan n c) (chanRegs n) d (d.sapBits n c ops) :=
  Keeps.foldl _ ops (fun op _ x => (x.sapBit_keeps n hc op).1) d

theorem Dev.sapBits_sapOf (d : Dev) (n : Nat) (hc : c < 16) (ops : List Nat) : (d.sapBits n c ops).sapOf n = d.sapOf n :=
  Dev.sapOf_of_sap (foldl_keeps (·.sap) _ ops (fun op _ x => (x.sapBit_keeps n hc op).2) d) n

theorem Dev.sapTake_keeps (d : Dev) (n : Nat) (hc : c < 16) : Keeps (Dev.butChan n c) (chanRegs n) d (d.sapTake n c) :=
  ((d.sapBits_keeps n hc _).trans (Dev.setSapCh_keeps ..)).trans ((Dev.putPend_keeps _ n hc false).mono (by simp [chanRegs]))

/-- A channel after every command that waits has taken effect. -/
theorem Dev.sapTake_chan (d : Dev) (n c : Nat) : ((d.sapTake n c).sapOf n).chan c = { (d.sapOf n).chan c with wait := [], evald := 0 } := by
  rw [Dev.sapTake, Dev.sapOf_putB, Dev.chan_setSapCh_same]

theorem Dev.sapTake_pend (d : Dev) (n : Nat) (hc : c < 16) : (d.sapTake n c).on (fSapPend n c) = false := Dev.on_putPend_same _ n hc false

theorem Dev.sapTake_run (d : Dev) (n c : Nat) : (d.sapTake n c).on (fSapRun n c) = (d.sapBits n c ((d.sapOf n).chan c).wait).on (fSapRun n c) := by
  rw [Dev.sapTake, Dev.run_putPend, Dev.on_setSapCh]

theorem Dev.sapMoot_keeps (d : Dev) (n : Nat) (hc : c < 16) : Keeps (Dev.butChan n c) (chanRegs n) d (d.sapMoot n c) := by
  unfold Dev.sapMoot
  dsimp only
  split
  · exact d.sapTake_keeps n hc
  · exact Keeps.refl ..

theorem Dev.sapMoot_idle (d : Dev) {n c : Nat} (idle : ((d.sapOf n).chan c).wait = []) : d.sapMoot n c = d := by
  simp [Dev.sapMoot, idle]

/-! ## A sample of a channel -/

/-- The registers that the samples of the channels of port `n` change. -/
def sampleRegs (n : Nat) : List Nat := rSAPnn_ZC_TO_CNT n :: chanRegs n

theorem chanRegs_subset (n : Nat) : chanRegs n ⊆ sampleRegs n := List.subset_cons_self ..

theorem Dev.sapRamp_keeps (d : Dev) (n : Nat) (hc : c < 16) (ops : List Nat) (m : MuteRamp) (v : Int) :
    Keeps (Dev.butChan n c) (chanRegs n) d (d.sapRamp n c ops m v).2 := by
  unfold Dev.sapRamp
  dsimp only
  split
  · exact Dev.setSapCh_keeps ..
  · split
    · exact ((Dev.setSapCh_keeps ..).trans (Dev.sapBits_keeps _ n hc ops)).trans (Dev.sapMoot_keeps _ n hc)
    · exact Dev.setSapCh_keeps ..

theorem Dev.incTimeouts_keeps (d : Dev) (n c : Nat) : Keeps (Dev.butChan n c) [rSAPnn_ZC_TO_CNT n] d (d.inc (rSAPnn_ZC_TO_CNT n)) :=
  Keeps.butChan (d.inc_keeps _) fun k _ _ => by
    have sts := d.reg_inc_ne (rSAPnn_ZC_TO_CNT n) (rSAPnn_CH_STS n) (by simp [rSAPnn_ZC_TO_CNT, rSAPnn_CH_STS])
    have pend := d.reg_inc_ne (rSAPnn_ZC_TO_CNT n) (rSAPnn_CH_PEND n) (by simp [rSAPnn_ZC_TO_CNT, rSAPnn_CH_PEND])
    exact ⟨congrArg (fun w => (fSapRun n k).get w != 0) sts, congrArg (fun w => (fSapMuted n k).get w != 0) sts,
      congrArg (fun w => (fSapPend n k).get w != 0) pend⟩

theorem Dev.sapTimeout_keeps (d : Dev) (n : Nat) (hc : c < 16) (ops : List Nat) (m : MuteRamp) (v : Int) :
    Keeps (Dev.butChan n c) (sampleRegs n) d (d.sapTimeout n c ops m v).2 := by
  have counted := ((d.incTimeouts_keeps n c).mono (M := sampleRegs n) (by simp [sampleRegs])).trans
    ((Dev.putPend_keeps _ n hc false).mono (by simp [sampleRegs, chanRegs]))
  have cleared := counted.trans (Dev.setSapCh_keeps _ n c { (d.sapOf n).chan c with wait := [], evald := 0 } _)
  unfold Dev.sapTimeout
  dsimp only
  split
  · exact cleared.trans ((Dev.sapRamp_keeps _ n hc ..).mono (chanRegs_subset n))
  · exact (cleared.trans ((Dev.sapBits_keeps _ n hc _).mono (chanRegs_subset n))).trans ((Dev.sapRamp_keeps _ n hc ..).mono (chanRegs_subset n))

/-- The device with sample `v` of channel `c` as the one before the next. -/
def Dev.sapHeld (d : Dev) (n c : Nat) (v : Int) : Dev :=
  let y := (d.sapOf n).chan c
  d.setSapCh n c { y with last := v, evald := if !y.wait.isEmpty then y.evald + 1 else 0 }

/-- The channel at a crossing: its ramp ends, and what the ramp owed and what waits takes effect (R266, R268). -/
def Dev.sapCrossed (d : Dev) (n c : Nat) (owed : List Nat) : Dev :=
  ((d.setSapCh n c { (d.sapOf n).chan c with ramp := none }).sapBits n c owed).sapTake n c

/-- A sample at which what waits takes effect (R266). -/
theorem Dev.sapSample_crosses {d : Dev} {n c : Nat} {v : Int} (waits : ((d.sapOf n).chan c).wait.isEmpty = false)
    (crosses : zeroCross ((d.sapOf n).chan c).last v = true) :
    d.sapSample n c v = (if ((d.sapHeld n c v).sapCrossed n c ((d.sapOf n).chan c).owed).sapAudible n c then some v else none,
      (d.sapHeld n c v).sapCrossed n c ((d.sapOf n).chan c).owed) := by
  unfold Dev.sapSample
  simp only [waits, crosses, Bool.not_false, Bool.and_self, if_true, Dev.sapHeld, Dev.sapCrossed]

/-- Commands wait, the timeout is reached. -/
def Dev.sapLate (d : Dev) (n c : Nat) : Bool :=
  !((d.sapOf n).chan c).wait.isEmpty && decide (d.zcSamples n ≤ ((d.sapOf n).chan c).evald)

/-- A sample that does not cross, on a channel that ramps (R267). -/
theorem Dev.sapSample_ramps {d : Dev} {n c : Nat} {v : Int} {ops : List Nat} {m : MuteRamp}
    (stays : (!((d.sapOf n).chan c).wait.isEmpty && zeroCross ((d.sapOf n).chan c).last v) = false)
    (ramps : ((d.sapOf n).chan c).ramp = some (ops, m)) :
    d.sapSample n c v = if d.sapLate n c then (d.sapHeld n c v).sapTimeout n c ((d.sapOf n).chan c).owed m v
      else (d.sapHeld n c v).sapRamp n c ops m v := by
  unfold Dev.sapSample
  dsimp only
  rw [if_neg (by rw [stays]; exact Bool.false_ne_true)]
  split
  · rename_i same
    cases ramps.symm.trans same
    rfl
  · rename_i same
    cases ramps.symm.trans same

/-- A sample that does not cross, on a channel at rest (R265, R267). -/
theorem Dev.sapSample_rests {d : Dev} {n c : Nat} {v : Int}
    (stays : (!((d.sapOf n).chan c).wait.isEmpty && zeroCross ((d.sapOf n).chan c).last v) = false)
    (rests : ((d.sapOf n).chan c).ramp = none) :
    d.sapSample n c v = if d.sapLate n c then (d.sapHeld n c v).sapTimeout n c [] (MuteRamp.rest (!d.sapAudible n c)) v
      else (if d.sapAudible n c then some v else none, d.sapHeld n c v) := by
  unfold Dev.sapSample
  dsimp only
  rw [if_neg (by rw [stays]; exact Bool.false_ne_true)]
  split
  · rename_i same
    cases rests.symm.trans same
  · rfl

theorem Dev.sapCrossed_keeps (d : Dev) (n : Nat) (hc : c < 16) (owed : List Nat) :
    Keeps (Dev.butChan n c) (chanRegs n) d (d.sapCrossed n c owed) :=
  ((Dev.setSapCh_keeps ..).trans (Dev.sapBits_keeps _ n hc _)).trans (Dev.sapTake_keeps _ n hc)

theorem Dev.sapSample_keeps (d : Dev) (n : Nat) (hc : c < 16) (v : Int) : Keeps (Dev.butChan n c) (sampleRegs n) d (d.sapSample n c v).2 := by
  have held : Keeps (Dev.butChan n c) (sampleRegs n) d (d.sapHeld n c v) := Dev.setSapCh_keeps ..
  cases crosses : !((d.sapOf n).chan c).wait.isEmpty && zeroCross ((d.sapOf n).chan c).last v with
  | true =>
    rw [Bool.and_eq_true, Bool.not_eq_true'] at crosses
    rw [Dev.sapSample_crosses crosses.1 crosses.2]
    exact held.trans ((Dev.sapCrossed_keeps _ n hc _).mono (chanRegs_subset n))
  | false =>
    cases ramp : ((d.sapOf n).chan c).ramp with
    | some r =>
      rw [Dev.sapSample_ramps crosses ramp]
      split
      · exact held.trans (Dev.sapTimeout_keeps _ n hc ..)
      · exact held.trans ((Dev.sapRamp_keeps _ n hc ..).mono (chanRegs_subset n))
    | none =>
      rw [Dev.sapSample_rests crosses ramp]
      split
      · exact held.trans (Dev.sapTimeout_keeps _ n hc ..)
      · exact held

theorem Dev.sapSamples_keeps (d : Dev) (n : Nat) (hc : c < 16) (l : List (Word64 × Int)) :
    Keeps (Dev.butChan n c) (sampleRegs n) d (d.sapSamples n c l) := by
  induction l generalizing d with
  | nil => exact Keeps.refl ..
  | cons x t ih => exact ((d.sapSample_keeps n hc x.2).trans (Dev.setSapCh_keeps ..)).trans (ih _)

theorem Dev.sapEval_keeps (d : Dev) (n : Nat) (hc : c < 16) : Keeps (Dev.butChan n c) (sampleRegs n) d (d.sapEval n c) :=
  (Dev.setSapCh_keeps ..).trans (Dev.sapSamples_keeps _ n hc _)

/-! ## A command -/

theorem Dev.sapCommand_keeps (d : Dev) (n op : Nat) (hc : c < 16) : Keeps (Dev.butChan n c) (chanRegs n) d (d.sapCommand n op c) := by
  have stored := fun y => d.setSapCh_keeps n c y (chanRegs n)
  have pend := fun (x : Dev) b => (x.putPend_keeps n hc b).mono (M := chanRegs n) (by simp [chanRegs])
  have waits : ∀ x : Dev, (x = if ((d.sapOf n).chan c).wait.contains op then d
      else if ((d.sapOf n).chan c).wait.contains (sapUndo op) then
        (d.setSapCh n c { (d.sapOf n).chan c with wait := ((d.sapOf n).chan c).wait.filter (· != sapUndo op) }).putB (fSapPend n c)
          (!(((d.sapOf n).chan c).wait.filter (· != sapUndo op)).isEmpty)
      else if (d.sapBit n c op).sapAudible n c = d.sapAudible n c ∨ !d.sapOn n then (d.sapBit n c op).sapMoot n c
      else (d.setSapCh n c { (d.sapOf n).chan c with
        wait := ((d.sapOf n).chan c).wait ++ [op]
        evald := if ((d.sapOf n).chan c).wait.isEmpty then 0 else ((d.sapOf n).chan c).evald }).putB (fSapPend n c) true) →
      Keeps (Dev.butChan n c) (chanRegs n) d x := by
    rintro x rfl
    split
    · exact Keeps.refl ..
    · split
      · exact (stored _).trans (pend _ _)
      · split
        · exact (d.sapBit_keeps n hc op).1.trans (Dev.sapMoot_keeps _ n hc)
        · exact (stored _).trans (pend _ _)
  unfold Dev.sapCommand
  dsimp only
  split
  · split
    · exact Keeps.refl ..
    · split
      · exact stored _
      · exact waits _ rfl
  · exact waits _ rfl

/-- A command on a channel at rest on which nothing waits: it takes effect where it does not change whether the channel is audible or the
port is off, and else waits. -/
theorem Dev.sapCommand_idle (d : Dev) (n op c : Nat) (hc : c < 16) (rest : ((d.sapOf n).chan c).ramp = none)
    (idle : ((d.sapOf n).chan c).wait = []) :
    d.sapCommand n op c = if (d.sapBit n c op).sapAudible n c = d.sapAudible n c ∨ d.sapOn n = false then d.sapBit n c op
      else (d.setSapCh n c { (d.sapOf n).chan c with wait := [op], evald := 0 }).putB (fSapPend n c) true := by
  have still : (d.sapBit n c op).sapMoot n c = d.sapBit n c op :=
    Dev.sapMoot_idle _ (by rw [Dev.sapOf_of_sap (d.sapBit_keeps n hc op).2, idle])
  unfold Dev.sapCommand
  simp only [rest, idle, List.contains_nil, Bool.false_eq_true, if_false, List.isEmpty_nil, if_true, List.nil_append, still, Bool.not_eq_true']

end Sys2Proof.Machine
end

section
/-! The write of SAPnn_CH_CMD and the commands of the channels it names (R265, R266, R268). -/

namespace Sys2Proof.Machine

open Sys2Proof

variable {d e : Dev} {p : Port} {v : Word}

/-- What holds after a command, weakened. -/
theorem Completes.mono {i : Instr} {s : State} {P Q : Dev → Prop} (h : Completes i s P) (weaker : ∀ d, P d → Q d) : Completes i s Q := by
  obtain ⟨t, ran, waits, holds⟩ := h
  exact ⟨t, ran, waits, weaker _ holds⟩

/-! ## The registers of the serial ports -/

/-- The registers that the commands of port `n` may change. -/
def sapRegs (n : Nat) : List Nat :=
  [rSAPnn_CTL n, rSAPnn_STS n, rSAPnn_SLOT_MASK n, rSAPnn_CH_CMD n, rSAPnn_CH_STS n, rSAPnn_CH_PEND n, rSAPnn_ASRC_RATIO n, rSAPnn_WS_ERR_CNT n,
    rSAPnn_ZC_TO_CNT n, rSAPnn_ASRC_UNLOCK_CNT n, rSAPnn_CLK_LOSS_CNT n, rSAPnn_SAT_CNT n, rSAP_REFUSE_CNT, rGLB_IGN_CNT, rGLB_IGN_OVF_CNT,
    rPIN_CONFLICT, rPIN_GRPnn_OWNER 8, rPIN_GRPnn_OWNER 9, rPIN_GRPnn_OWNER 10, rPIN_GRPnn_OWNER 11]

theorem calmRegs_sap (n : Fin 24) : ∀ a ∈ calmRegs, a ∉ sapRegs n.val := by revert n; decide

/-- A write of a plain register that the checks pass. -/
theorem Dev.busWrite_plain {a i j : Nat} {r : RegDesc} (takes : d.takes p a) (row : regAt a = some (r, i, j))
    (plain : plainReg a i = true ∧ tcmpReg a = false ∧ a < 0x400000 ∧ a / 4 * 4 = a) (m : Meets) :
    d.busWrite m p a .b32 v = (d.answer p []).regStore m p a v r i := by
  obtain ⟨plain, foreign, low, whole⟩ := plain
  rw [Dev.busWrite_reg takes low (by rw [whole, row]; rfl), Dev.regWrite_plain row plain fun h => by rw [foreign] at h; cases h]

/-! ## The write of CH_CMD -/

/-- The row of CH_CMD in the register summary. -/
def chCmdRow : RegDesc := { base := 0xC0010, s1 := 0x400, c1 := 24, wr := 0x1FF, cmd := 0xF0000000 }

theorem regAt_chCmd (n : Fin 24) : regAt (rSAPnn_CH_CMD n.val) = some (chCmdRow, n.val, 0) := by fin_cases n <;> rfl

theorem plainReg_chCmd (n : Fin 24) : plainReg (rSAPnn_CH_CMD n.val) n.val = true ∧ tcmpReg (rSAPnn_CH_CMD n.val) = false ∧
    rSAPnn_CH_CMD n.val < 0x400000 ∧ rSAPnn_CH_CMD n.val / 4 * 4 = rSAPnn_CH_CMD n.val := by revert n; decide

theorem writeEffect_chCmd (d : Dev) (n : Fin 24) (m : Meets) (old v cmd : Word) :
    d.writeEffect m (rSAPnn_CH_CMD n.val) n.val old v cmd = d.sapChCmd n.val (cmdOf (fSAPnn_CH_CMD_OP n.val) cmd) := by
  have block : blockOf (rSAPnn_CH_CMD n.val) = 10 := by revert n; decide
  have apart : rSAPnn_CH_CMD n.val ≠ rANV_CTL ∧ rSAPnn_CH_CMD n.val ≠ rANV_SCENE_CMD ∧ rSAPnn_CH_CMD n.val ≠ rSAPnn_CTL n.val := by
    revert n; decide
  obtain ⟨anv, scene, ctl⟩ := apart
  simp only [Dev.writeEffect, block, Dev.fxAudio, anv, scene, ctl, if_false, if_true, ne_eq, not_true_eq_false]

theorem fSAPnn_CH_CMD_OP_ok (n : Nat) : (fSAPnn_CH_CMD_OP n).ok := (by decide : 28 + 4 ≤ 32)

theorem chCmd_within (n : Fin 24) : (fSAPnn_CH_CMD_DIRSEL n.val).within (w32 0x1FF) = true ∧
    (fSAPnn_CH_CMD_CHMASK n.val).within (w32 0x1FF) = true ∧ (fSAPnn_CH_CMD_OP n.val).within (w32 chCmdRow.cmd) = true := by
  revert n; decide

/-- The channel that bit `i` of CHMASK names in a write of CH_CMD: SIN, or SOUT where DIRSEL is 1. -/
def cmdChan (n : Nat) (v : Word) (i : Nat) : Nat := if (fSAPnn_CH_CMD_DIRSEL n).get v = 1 then 8 + i else i

theorem cmdChan_lt (n : Nat) (v : Word) {i : Nat} (hi : i < 8) : cmdChan n v i < 16 := by
  unfold cmdChan
  split <;> omega

theorem cmdChan_ne (n : Nat) (v : Word) {i j : Nat} (h : i ≠ j) : cmdChan n v i ≠ cmdChan n v j := by
  unfold cmdChan
  split <;> omega

/-- The channels that a write of CH_CMD names, by their bits. -/
def cmdBits (n : Nat) (v : Word) : List Nat := (List.range 8).filter fun i => (fSAPnn_CH_CMD_CHMASK n).get v / 2 ^ i % 2 == 1

/-- The device but for its registers, its ports and its serial ports. -/
def Dev.butPortsSap (d : Dev) : Dev := { d with regs := [], ports := [], sap := [] }

/-- CH_CMD is stored and reads OP = 0, and then the command acts on the channels it names. -/
theorem Dev.writeWith_chCmd {n : Fin 24} {op : Nat} (takes : d.takes p (rSAPnn_CH_CMD n.val)) (first : 1 ≤ op) (last : op ≤ 4) :
    ∃ c : Dev, Keeps Dev.butRegsPorts [rSAPnn_CH_CMD n.val] d c ∧ (c.port p).code = 0 ∧ c.get (fSAPnn_CH_CMD_OP n.val) = 0 ∧
      d.writeWith {} p (fSAPnn_CH_CMD_OP n.val) op v =
        (cmdBits n.val v).foldl (fun x i => x.sapCommand n.val op (cmdChan n.val v i)) c := by
  obtain ⟨w, hw⟩ : ∃ w, w = (fSAPnn_CH_CMD_OP n.val).put v op := ⟨_, rfl⟩
  obtain ⟨b, hb⟩ : ∃ b, b = (d.answer p []).setReg (rSAPnn_CH_CMD n.val) (merged (w32 0x1FF) (d.reg (rSAPnn_CH_CMD n.val)) w) := ⟨_, rfl⟩
  obtain ⟨inDirsel, inMask, inOp⟩ := chCmd_within n
  have read : ∀ f : Fld, f.addr = rSAPnn_CH_CMD n.val → f.within (w32 0x1FF) = true → (fSAPnn_CH_CMD_OP n.val).apart f → b.get f = f.get v :=
    fun f ha within apart => by
      rw [hb, Dev.get_setReg, if_pos ha.symm, Fld.get_merged_within within, hw, Fld.get_put_apart _ _ (fSAPnn_CH_CMD_OP_ok _) apart]
  have dirsel : b.get (fSAPnn_CH_CMD_DIRSEL n.val) = (fSAPnn_CH_CMD_DIRSEL n.val).get v := read _ rfl inDirsel (Or.inr (show 8 + 1 ≤ 28 by decide))
  have mask : b.get (fSAPnn_CH_CMD_CHMASK n.val) = (fSAPnn_CH_CMD_CHMASK n.val).get v := read _ rfl inMask (Or.inr (show 0 + 8 ≤ 28 by decide))
  have bit : (fSAPnn_CH_CMD_DIRSEL n.val).get v < 2 := Nat.mod_lt _ (show 0 < 2 ^ 1 by decide)
  have out : b.on (fSAPnn_CH_CMD_DIRSEL n.val) = decide ((fSAPnn_CH_CMD_DIRSEL n.val).get v = 1) := by
    rw [Dev.on, dirsel]
    interval_cases (fSAPnn_CH_CMD_DIRSEL n.val).get v <;> rfl
  have acts : cmdOf (fSAPnn_CH_CMD_OP n.val) (w &&& w32 chCmdRow.cmd) = op := by
    rw [cmdOf, Fld.get_and_within inOp, hw, Fld.get_put _ (fSAPnn_CH_CMD_OP_ok _)]
    exact Nat.mod_eq_of_lt (show op < 16 by omega)
  have regs : d.sameRegs b [rSAPnn_CH_CMD n.val] := by
    rw [hb]
    exact (Dev.answer_sameRegs d p [] _).setReg (by simp) _
  refine ⟨b.put (fSAPnn_CH_CMD_OP n.val) 0, ⟨by rw [hb]; rfl, regs.put (f := fSAPnn_CH_CMD_OP n.val) List.mem_cons_self 0⟩, ?_, ?_, ?_⟩
  · have ports : (b.put (fSAPnn_CH_CMD_OP n.val) 0).ports = (d.answer p []).ports := by rw [hb]; rfl
    rw [Dev.port_congr ports, Dev.answer_code]
  · rw [Dev.get_put_same _ _ _ (fSAPnn_CH_CMD_OP_ok _), Nat.zero_mod]
  · rw [Dev.writeWith, ← hw, show (fSAPnn_CH_CMD_OP n.val).addr = rSAPnn_CH_CMD n.val from rfl,
      Dev.busWrite_plain takes (regAt_chCmd n) (plainReg_chCmd n), Dev.regStore_free (d := d.answer p []) rfl, writeEffect_chCmd, acts]
    rw [show (d.answer p []).setReg (rSAPnn_CH_CMD n.val) (merged (writeMask chCmdRow w) ((d.answer p []).reg (rSAPnn_CH_CMD n.val)) w) = b
      from hb.symm, Dev.sapChCmd, if_neg (by omega), mask, out]
    simp only [decide_eq_true_eq]
    rfl

/-! ## What a command does to a channel at rest -/

/-- RUN after a command has taken effect. -/
def runAfter (op : Nat) (run : Bool) : Bool :=
  match op with
  | 1 => true | 2 => false | _ => run

/-- MUTED after a command has taken effect. -/
def mutedAfter (op : Nat) (muted : Bool) : Bool :=
  match op with
  | 1 => muted | 2 => muted | 3 => true | _ => false

theorem Dev.sapBit_view (d : Dev) (n : Nat) {c : Nat} (hc : c < 16) (op : Nat) :
    (d.sapBit n c op).chanView n c =
      ((d.sapOf n).chan c, runAfter op (d.on (fSapRun n c)), mutedAfter op (d.on (fSapMuted n c)), d.on (fSapPend n c)) := by
  have pendRun : ∀ b, (d.putB (fSapRun n c) b).on (fSapPend n c) = d.on (fSapPend n c) := fun b =>
    d.on_put_addr _ (by simp [fSapRun, fSapPend, bitFld, rSAPnn_CH_STS, rSAPnn_CH_PEND])
  have pendMuted : ∀ b, (d.putB (fSapMuted n c) b).on (fSapPend n c) = d.on (fSapPend n c) := fun b =>
    d.on_put_addr _ (by simp [fSapMuted, fSapPend, bitFld, rSAPnn_CH_STS, rSAPnn_CH_PEND])
  unfold Dev.sapBit runAfter mutedAfter Dev.chanView
  split <;> simp [hc, pendRun, pendMuted]

/-- What a command leaves of a channel at rest on which nothing waits: it takes effect where it does not change whether the channel is
audible or the port is off, and else waits. -/
def chanAnswer (on : Bool) (op : Nat) (x : SapCh × Bool × Bool × Bool) : SapCh × Bool × Bool × Bool :=
  if (runAfter op x.2.1 && !mutedAfter op x.2.2.1) = (x.2.1 && !x.2.2.1) ∨ on = false then
    (x.1, runAfter op x.2.1, mutedAfter op x.2.2.1, x.2.2.2)
  else ({ x.1 with wait := [op], evald := 0 }, x.2.1, x.2.2.1, true)

theorem Dev.sapCommand_answer (d : Dev) (n op : Nat) {c : Nat} (hc : c < 16) (rest : ((d.sapOf n).chan c).ramp = none)
    (idle : ((d.sapOf n).chan c).wait = []) : (d.sapCommand n op c).chanView n c = chanAnswer (d.sapOn n) op (d.chanView n c) := by
  have shown := d.sapBit_view n hc op
  have run := congrArg (·.2.1) shown
  have muted := congrArg (·.2.2.1) shown
  simp only [Dev.chanView] at run muted
  have audible : (d.sapBit n c op).sapAudible n c = (runAfter op (d.on (fSapRun n c)) && !mutedAfter op (d.on (fSapMuted n c))) := by
    rw [Dev.sapAudible, run, muted]
  rw [d.sapCommand_idle n op c hc rest idle, audible, Dev.sapAudible, chanAnswer]
  by_cases takes : (runAfter op (d.on (fSapRun n c)) && !mutedAfter op (d.on (fSapMuted n c))) = (d.on (fSapRun n c) && !d.on (fSapMuted n c)) ∨
      d.sapOn n = false
  · rw [if_pos takes]
    exact shown.trans (if_pos takes).symm
  · rw [if_neg takes]
    refine Eq.trans ?_ (if_neg takes).symm
    simp [Dev.chanView, hc]

end Sys2Proof.Machine
end

section
/-! START, STOP, MUTE and UNMUTE of the channels of a serial port, and the samples at which they take effect (R265 to R268). -/

namespace Sys2Proof.Machine

open Sys2Proof

variable {d e : Dev} {p : Port} {v : Word} {n : Nat}

/-- A device that keeps everything but registers and serial ports, as a frame equation, its interrupt balls following. -/
theorem Dev.showIrq_of_butSap (h : e.butSap = d.butSap) :
    e.showIrq = { d with regs := e.showIrq.regs, sap := e.showIrq.sap, irqA := e.showIrq.irqA, irqB := e.showIrq.irqB } :=
  congrArg (fun x : Dev => { x with regs := e.regs, sap := e.sap, irqA := e.irqPinA, irqB := e.irqPinB }) h

theorem Dev.showIrq_of_butPortsSap (h : e.butPortsSap = d.butPortsSap) :
    e.showIrq = { d with regs := e.showIrq.regs, ports := e.showIrq.ports, sap := e.showIrq.sap, irqA := e.showIrq.irqA, irqB := e.showIrq.irqB } :=
  congrArg (fun x : Dev => { x with regs := e.regs, ports := e.ports, sap := e.sap, irqA := e.irqPinA, irqB := e.irqPinB }) h

/-- The enable and the domain of port `n` are what `Dev.sapOn` reads. -/
theorem Dev.sapOn_congr {L : List Nat} (h : d.sameRegs e L) (ctl : rSAPnn_CTL n ∉ L) (dom : rPWR_DOMk_STS (5 + n / 6) ∉ L) :
    e.sapOn n = d.sapOn n := by
  rw [Dev.sapOn, Dev.sapOn, h.on (f := fSAPnn_CTL_EN n) ctl, Dev.domOn_congr h dom]

theorem domSts_sap (n : Fin 24) : rPWR_DOMk_STS (5 + n.val / 6) ∉ sapRegs n.val := by revert n; decide

theorem chanRegs_sap (n : Nat) : chanRegs n ⊆ sapRegs n := by simp [chanRegs, sapRegs]

theorem ctl_chanRegs (n : Nat) : rSAPnn_CTL n ∉ chanRegs n := by simp [chanRegs, rSAPnn_CTL, rSAPnn_CH_STS, rSAPnn_CH_PEND]

/-! ## The channels that a command names -/

/-- A command on the channels of a list leaves the registers of other blocks and all but the channels of port `n`. -/
theorem Dev.sapCommands_keeps (d : Dev) (n op : Nat) (v : Word) {l : List Nat} (small : ∀ i ∈ l, i < 8) :
    Keeps (Dev.sapView n) (chanRegs n) d (l.foldl (fun x i => x.sapCommand n op (cmdChan n v i)) d) :=
  Keeps.foldl _ l (fun i hi x => (x.sapCommand_keeps n op (cmdChan_lt n v (small i hi))).ofChan) d

/-- A channel that no command of a list names stays as it is. -/
theorem Dev.sapCommands_skip (d : Dev) (n op : Nat) (v : Word) {l : List Nat} (small : ∀ i ∈ l, i < 8) {i : Nat} (hi : i < 8) (skip : i ∉ l) :
    (l.foldl (fun x i => x.sapCommand n op (cmdChan n v i)) d).chanView n (cmdChan n v i) = d.chanView n (cmdChan n v i) :=
  foldl_keeps (fun x : Dev => x.chanView n (cmdChan n v i)) _ l (fun j hj x =>
    (x.sapCommand_keeps n op (cmdChan_lt n v (small j hj))).chanView (cmdChan_lt n v hi) (cmdChan_ne n v fun h => skip (h ▸ hj))) d

/-- A channel at rest that a command names answers it. -/
theorem Dev.sapCommands_named (d : Dev) (n : Fin 24) (op : Nat) (v : Word) {l : List Nat} (small : ∀ i ∈ l, i < 8) (nodup : l.Nodup) {i : Nat}
    (named : i ∈ l) (rest : ((d.sapOf n).chan (cmdChan n v i)).ramp = none) (idle : ((d.sapOf n).chan (cmdChan n v i)).wait = []) :
    (l.foldl (fun x i => x.sapCommand n op (cmdChan n v i)) d).chanView n (cmdChan n v i) =
      chanAnswer (d.sapOn n) op (d.chanView n (cmdChan n v i)) := by
  have hk := cmdChan_lt n v (small i named)
  have other : ∀ j ∈ l, j ≠ i → ∀ x : Dev, (x.sapCommand n op (cmdChan n v j)).chanView n (cmdChan n v i) = x.chanView n (cmdChan n v i) :=
    fun j hj ne x => (x.sapCommand_keeps n op (cmdChan_lt n v (small j hj))).chanView hk (cmdChan_ne n v ne.symm)
  have on : ∀ j ∈ l, ∀ x : Dev, (x.sapCommand n op (cmdChan n v j)).sapOn n = x.sapOn n := fun j hj x =>
    Dev.sapOn_congr (x.sapCommand_keeps n op (cmdChan_lt n v (small j hj))).regs (ctl_chanRegs n) fun h => domSts_sap n (chanRegs_sap n h)
  refine foldl_reaches (fun x => x.chanView n (cmdChan n v i) = d.chanView n (cmdChan n v i) ∧ x.sapOn n = d.sapOn n)
    (fun x => x.chanView n (cmdChan n v i) = chanAnswer (d.sapOn n) op (d.chanView n (cmdChan n v i))) _ named nodup ?_ ?_ ?_ ⟨rfl, rfl⟩
  · exact fun j hj ne x h => ⟨(other j hj ne x).trans h.1, (on j hj x).trans h.2⟩
  · rintro x ⟨same, sameOn⟩
    have chan : (x.sapOf n).chan (cmdChan n v i) = (d.sapOf n).chan (cmdChan n v i) := congrArg Prod.fst same
    rw [← same, ← sameOn]
    exact x.sapCommand_answer n op hk (by rw [chan, rest]) (by rw [chan, idle])
  · exact fun j hj ne x h => (other j hj ne x).trans h

theorem mem_cmdBits {n : Nat} {v : Word} {i : Nat} : i ∈ cmdBits n v ↔ i < 8 ∧ (fSAPnn_CH_CMD_CHMASK n).get v / 2 ^ i % 2 = 1 := by
  rw [cmdBits, List.mem_filter, List.mem_range, beq_iff_eq]

/-- A command of CH_CMD: every channel it names, being at rest, answers it; the others stay. -/
theorem sapCh_completes {i : Instr} {s : State} {n : Fin 24} {p : Port} {v : Word} {op : Nat} (first : 1 ≤ op) (last : op ≤ 4)
    (hx : exec i s = s.done (s.dev.writeWith {} p (fSAPnn_CH_CMD_OP n.val) op v)) (calm : s.dev.calm = true)
    (takes : s.dev.takes p (rSAPnn_CH_CMD n.val))
    (rest : ∀ i ∈ List.range 8, ((s.dev.sapOf n.val).chan (cmdChan n.val v i)).ramp = none ∧
      ((s.dev.sapOf n.val).chan (cmdChan n.val v i)).wait = []) :
    Completes i s fun d =>
      (∀ i ∈ List.range 8, (fSAPnn_CH_CMD_CHMASK n.val).get v / 2 ^ i % 2 = 1 →
        d.chanView n.val (cmdChan n.val v i) = chanAnswer (s.dev.sapOn n.val) op (s.dev.chanView n.val (cmdChan n.val v i))) ∧
      (∀ i ∈ List.range 8, (fSAPnn_CH_CMD_CHMASK n.val).get v / 2 ^ i % 2 = 0 →
        d.chanView n.val (cmdChan n.val v i) = s.dev.chanView n.val (cmdChan n.val v i)) ∧
      d.get (fSAPnn_CH_CMD_OP n.val) = 0 ∧
      (d.port p).code = 0 ∧
      s.dev.sameRegs d [rSAPnn_CH_CMD n.val, rSAPnn_CH_STS n.val, rSAPnn_CH_PEND n.val] ∧
      d = { s.dev with regs := d.regs, ports := d.ports, sap := d.sap, irqA := d.irqA, irqB := d.irqB } := by
  obtain ⟨c, written, code, op0, acts⟩ := s.dev.writeWith_chCmd (v := v) takes first last
  obtain ⟨e, he⟩ : ∃ e, e = (cmdBits n.val v).foldl (fun x i => x.sapCommand n.val op (cmdChan n.val v i)) c := ⟨_, rfl⟩
  rw [acts, ← he] at hx
  have small : ∀ i ∈ cmdBits n.val v, i < 8 := fun i hi => (mem_cmdBits.mp hi).1
  have nodup : (cmdBits n.val v).Nodup := List.nodup_range.filter _
  have commands : Keeps (Dev.sapView n) (chanRegs n) c e := he ▸ c.sapCommands_keeps n op v small
  have sap : c.sap = s.dev.sap := congrArg (·.sap) written.rest
  have chan : ∀ k, c.chanView n k = s.dev.chanView n k := fun k => by
    rw [Dev.chanView, Dev.chanView, Dev.sapOf_of_sap sap, written.regs.on (f := fSapRun n k) (by simp [fSapRun, bitFld, rSAPnn_CH_CMD, rSAPnn_CH_STS]),
      written.regs.on (f := fSapMuted n k) (by simp [fSapMuted, bitFld, rSAPnn_CH_CMD, rSAPnn_CH_STS]),
      written.regs.on (f := fSapPend n k) (by simp [fSapPend, bitFld, rSAPnn_CH_CMD, rSAPnn_CH_PEND])]
  have on : c.sapOn n = s.dev.sapOn n := Dev.sapOn_congr written.regs (by simp [rSAPnn_CTL, rSAPnn_CH_CMD]) fun h =>
    domSts_sap n (by rw [List.mem_singleton.mp h]; simp [sapRegs])
  have keeps : Keeps Dev.butPortsSap [rSAPnn_CH_CMD n, rSAPnn_CH_STS n, rSAPnn_CH_PEND n] s.dev e :=
    ((written.mono (by simp)).part fun x : Dev => { x with sap := [] }).trans
      ((commands.mono (List.subset_cons_self ..)).part fun x : Dev × _ => { x.1 with ports := [] })
  refine completes_of_sameRegs hx calm keeps.regs (apart_of_subset (calmRegs_sap n) (by simp [sapRegs])) (congrArg (·.calmPart) keeps.rest)
    ⟨fun i hi set => ?_, fun i hi clear => ?_, ?_, ?_, keeps.regs.showIrq, Dev.showIrq_of_butPortsSap keeps.rest⟩
  · obtain ⟨ramp, wait⟩ := rest i hi
    have named := c.sapCommands_named n op v small nodup (mem_cmdBits.mpr ⟨List.mem_range.mp hi, set⟩)
      (by rw [Dev.sapOf_of_sap sap, ramp]) (by rw [Dev.sapOf_of_sap sap, wait])
    rw [← he, chan, on] at named
    exact named
  · have skipped := c.sapCommands_skip n op v small (List.mem_range.mp hi) fun h => by
      rw [(mem_cmdBits.mp h).2] at clear
      cases clear
    rw [← he, chan] at skipped
    exact skipped
  · rw [Dev.showIrq_get, commands.regs.get (f := fSAPnn_CH_CMD_OP n) (by simp [chanRegs, fSAPnn_CH_CMD_OP, rSAPnn_CH_STS, rSAPnn_CH_PEND])]
    exact op0
  · rw [Dev.showIrq_port, Dev.port_congr (congrArg (·.1.ports) commands.rest : e.ports = c.ports), code]

end Sys2Proof.Machine
end

section
/-! The clauses of SAPnn_CH_CMD, ZERO_CROSSING and ZC_TIMEOUT (R265 to R268). -/

namespace Sys2Proof.Machine

open Sys2Proof

variable {d e : Dev} {n c : Nat}

/-! ## The four commands -/

/-- A case distinction with both cases weakened. -/
theorem ite_weaken {q A B A' B' : Prop} [Decidable q] (h : if q then A else B) (yes : q → A → A') (no : B → B') : if q then A' else B' := by
  split
  · exact yes ‹_› (by rwa [if_pos ‹_›] at h)
  · exact no (by rwa [if_neg ‹_›] at h)

/-- The answer of a channel: it waits where the command changes whether it is audible on a port that works. -/
theorem Dev.chan_answers {on : Bool} {op k : Nat} {q : Prop} [Decidable q] (answer : e.chanView n k = chanAnswer on op (d.chanView n k))
    (hq : q ↔ on = true ∧ (runAfter op (d.on (fSapRun n k)) && !mutedAfter op (d.on (fSapMuted n k))) ≠ (d.on (fSapRun n k) && !d.on (fSapMuted n k))) :
    if q then e.on (fSapPend n k) = true ∧ ((e.sapOf n).chan k).wait = [op] ∧ e.on (fSapRun n k) = d.on (fSapRun n k) ∧
      e.on (fSapMuted n k) = d.on (fSapMuted n k)
    else e.on (fSapRun n k) = runAfter op (d.on (fSapRun n k)) ∧ e.on (fSapMuted n k) = mutedAfter op (d.on (fSapMuted n k)) := by
  by_cases waits : q
  · obtain ⟨works, changes⟩ := hq.mp waits
    rw [if_pos waits]
    rw [chanAnswer, if_neg (by rw [works]; exact not_or.mpr ⟨changes, Bool.noConfusion⟩)] at answer
    obtain ⟨chan, run, muted, pend⟩ : _ ∧ _ ∧ _ ∧ _ := by simpa only [Dev.chanView, Prod.mk.injEq] using answer
    exact ⟨pend, by rw [chan], run, muted⟩
  · rw [if_neg waits]
    have takes : (runAfter op (d.on (fSapRun n k)) && !mutedAfter op (d.on (fSapMuted n k))) = (d.on (fSapRun n k) && !d.on (fSapMuted n k)) ∨
        on = false := by
      by_contra h
      obtain ⟨changes, works⟩ := not_or.mp h
      exact waits (hq.mpr ⟨Bool.not_eq_false _ ▸ works, changes⟩)
    replace answer := answer.trans (if_pos takes)
    exact ⟨congrArg (·.2.1) answer, congrArg (·.2.2.1) answer⟩

/-- START changes whether a channel is audible where it is stopped and not muted. -/
theorem start_changes (run muted : Bool) : (runAfter 1 run && !mutedAfter 1 muted) ≠ (run && !muted) ↔ run = false ∧ muted = false := by
  revert run muted; decide

theorem stop_changes (run muted : Bool) : (runAfter 2 run && !mutedAfter 2 muted) ≠ (run && !muted) ↔ run = true ∧ muted = false := by
  revert run muted; decide

theorem mute_changes (run muted : Bool) : (runAfter 3 run && !mutedAfter 3 muted) ≠ (run && !muted) ↔ run = true ∧ muted = false := by
  revert run muted; decide

theorem unmute_changes (run muted : Bool) : (runAfter 4 run && !mutedAfter 4 muted) ≠ (run && !muted) ↔ run = true ∧ muted = true := by
  revert run muted; decide

/-- A channel that no command names keeps RUN and MUTED. -/
theorem Dev.chan_unnamed {k : Nat} (same : e.chanView n k = d.chanView n k) :
    e.on (fSapRun n k) = d.on (fSapRun n k) ∧ e.on (fSapMuted n k) = d.on (fSapMuted n k) :=
  ⟨congrArg (·.2.1) same, congrArg (·.2.2.1) same⟩

/-! ## Samples at a handle -/

/-- One sample that waits at the handle of a channel is evaluated. -/
theorem Dev.sapEval_one {t : Word64} {v : Int} {f : Dev} {x : Option Int × Dev} (raw : ((d.sapOf n).chan c).raw = [(t, v)])
    (hf : f = d.setSapCh n c { (d.sapOf n).chan c with raw := [] }) (hx : f.sapSample n c v = x) :
    d.sapEval n c = x.2.setSapCh n c { (x.2.sapOf n).chan c with done := ((x.2.sapOf n).chan c).done ++ [(t, x.1)] } := by
  rw [Dev.sapEval, raw, ← hf, Dev.sapSamples, hx]
  rfl

/-- STOP waits, and the one sample at the handle is 0: the channel stops at it. -/
structure StoppedAt (d e : Dev) (n c : Nat) (t : Word64) : Prop where
  kept : Keeps (Dev.butChan n c) (chanRegs n) d e
  run : e.on (fSapRun n c) = false
  pend : e.on (fSapPend n c) = false
  chan : (e.sapOf n).chan c = { (d.sapOf n).chan c with
    raw := [], last := 0, ramp := none, wait := [], evald := 0, done := ((d.sapOf n).chan c).done ++ [(t, none)] }

theorem Dev.sapEval_stops {t : Word64} (hc : c < 16) (ramp : ((d.sapOf n).chan c).ramp = none) (wait : ((d.sapOf n).chan c).wait = [2])
    (raw : ((d.sapOf n).chan c).raw = [(t, 0)]) : StoppedAt d (d.sapEval n c) n c t := by
  obtain ⟨f, hf⟩ : ∃ f, f = d.setSapCh n c { (d.sapOf n).chan c with raw := [] } := ⟨_, rfl⟩
  obtain ⟨g, hg⟩ : ∃ g, g = (f.sapHeld n c 0).sapCrossed n c [] := ⟨_, rfl⟩
  have chanF : (f.sapOf n).chan c = { (d.sapOf n).chan c with raw := [] } := by rw [hf, Dev.chan_setSapCh_same]
  have chanG : (g.sapOf n).chan c = { (f.sapOf n).chan c with last := 0, ramp := none, wait := [], evald := 0 } := by
    rw [hg, Dev.sapCrossed, Dev.sapTake_chan, Dev.sapBits_sapOf _ n hc, Dev.chan_setSapCh_same, Dev.sapHeld, Dev.chan_setSapCh_same]
  have run : g.on (fSapRun n c) = false := by
    rw [hg, Dev.sapCrossed, Dev.sapTake_run, Dev.sapBits_sapOf _ n hc, Dev.chan_setSapCh_same, Dev.sapHeld, Dev.chan_setSapCh_same, chanF, wait]
    exact Dev.on_putRun_same _ n hc false
  have sample : f.sapSample n c 0 = (none, g) := by
    rw [Dev.sapSample_crosses (by rw [chanF, wait]; rfl) rfl, show ((f.sapOf n).chan c).owed = [] by rw [SapCh.owed, chanF, ramp], ← hg,
      Dev.sapAudible, run]
    rfl
  rw [Dev.sapEval_one raw hf sample]
  refine ⟨?_, ?_, ?_, ?_⟩
  · have first : Keeps (Dev.butChan n c) (chanRegs n) d f := hf ▸ Dev.setSapCh_keeps ..
    have second : Keeps (Dev.butChan n c) (chanRegs n) f g := hg ▸ (Dev.setSapCh_keeps ..).trans (Dev.sapCrossed_keeps _ n hc _)
    exact (first.trans second).trans (Dev.setSapCh_keeps ..)
  · rw [Dev.on_setSapCh, run]
  · rw [Dev.on_setSapCh, hg]
    exact Dev.sapTake_pend _ n hc
  · rw [Dev.chan_setSapCh_same, chanG, chanF]

/-- ZERO_CROSSING and ZC_TIMEOUT of a port that works evaluate the samples of their channel. -/
theorem exec_zeroCrossing {s : State} {n : Fin 24} {c : Fin 16} (on : s.dev.sapOn n.val = true) :
    exec (.zeroCrossing n c) s = s.done (s.dev.sapEval n c) ∧ exec (.zcTimeout n c) s = s.done (s.dev.sapEval n c) := by
  have crosses : s.dev.sapCross n c = s.dev.sapEval n c := if_pos on
  exact ⟨congrArg s.done crosses, congrArg s.done crosses⟩

/-- STOP waits, and the sample is 0 (R266). -/
theorem zeroCrossing_completes (s : State) (n : Fin 24) (c : Fin 16) (t : Word64) (calm : s.dev.calm = true) (on : s.dev.sapOn n.val = true)
    (ramp : ((s.dev.sapOf n.val).chan c.val).ramp = none) (wait : ((s.dev.sapOf n.val).chan c.val).wait = [2])
    (raw : ((s.dev.sapOf n.val).chan c.val).raw = [(t, 0)]) :
    Completes (.zeroCrossing n c) s fun d =>
      d.on (fSapRun n.val c.val) = false ∧
      d.on (fSapPend n.val c.val) = false ∧
      ((d.sapOf n.val).chan c.val).wait = [] ∧
      ((d.sapOf n.val).chan c.val).done = ((s.dev.sapOf n.val).chan c.val).done ++ [(t, none)] ∧
      s.dev.sameRegs d [rSAPnn_CH_STS n.val, rSAPnn_CH_PEND n.val] ∧
      d = { s.dev with regs := d.regs, sap := d.sap, irqA := d.irqA, irqB := d.irqB } := by
  have stops := Dev.sapEval_stops c.isLt ramp wait raw
  have rest : (s.dev.sapEval n c).butSap = s.dev.butSap := congrArg (·.1) stops.kept.rest
  exact completes_of_sameRegs (exec_zeroCrossing on).1 calm stops.kept.regs (apart_of_subset (calmRegs_sap n) (chanRegs_sap n))
    (congrArg (·.calmPart) rest) ⟨stops.run, stops.pend, congrArg SapCh.wait stops.chan, congrArg SapCh.done stops.chan,
      stops.kept.regs.showIrq, Dev.showIrq_of_butSap rest⟩

/-! ## The fade along ZC_CURVE -/

theorem Dev.tblHurt_of_butSap (h : e.butSap = d.butSap) (off : Nat) : e.tblHurt off = d.tblHurt off :=
  (congrArg (fun x : Dev => x.tblHurt off) h : e.butSap.tblHurt off = d.butSap.tblHurt off)

theorem Dev.curvePoint_of_butSap (h : e.butSap = d.butSap) (k i : Nat) : e.curvePoint k i = d.curvePoint k i :=
  (congrArg (fun x : Dev => x.curvePoint k i) h : e.butSap.curvePoint k i = d.butSap.curvePoint k i)

theorem Dev.curvePoints_of_butSap (h : e.butSap = d.butSap) (k : Nat) : e.curvePoints k = d.curvePoints k := by
  have more : ∀ fuel i x, e.curveMore k fuel i x = d.curveMore k fuel i x := fun fuel => by
    induction fuel with
    | zero => exact fun _ _ => rfl
    | succ fuel ih =>
      intro i x
      rw [Dev.curveMore, Dev.curveMore, Dev.curvePoint_of_butSap h, Dev.tblHurt_of_butSap h]
      simp only [ih]
  rw [Dev.curvePoints, Dev.curvePoints, Dev.curvePoint_of_butSap h, Dev.tblHurt_of_butSap h]
  simp only [more]

theorem Dev.zcFade_congr (h : e.butSap = d.butSap) (cfg : e.reg (rSAPnn_ZC_CFG n) = d.reg (rSAPnn_ZC_CFG n)) (i : Nat) :
    e.zcFade n i = d.zcFade n i := by
  have curve : e.get (fSAPnn_ZC_CFG_ZC_CURVE n) = d.get (fSAPnn_ZC_CFG_ZC_CURVE n) := congrArg (fSAPnn_ZC_CFG_ZC_CURVE n).get cfg
  rw [Dev.zcFade, Dev.zcFade, curve, Dev.curveAcross, Dev.curveAcross, Dev.curvePoints_of_butSap h]

/-! ## The timeout -/

/-- A sample of the sign of the one before is no zero crossing. -/
theorem zeroCross_same_sign {last v : Int} (ne : v ≠ 0) (sign : decide (v < 0) = decide (last < 0)) : zeroCross last v = false := by
  have iff : v < 0 ↔ last < 0 := decide_eq_decide.mp sign
  simp only [zeroCross, Bool.or_eq_false_iff, Bool.and_eq_false_iff, beq_eq_false_iff_ne, decide_eq_false_iff_not]
  omega

/-- The registers that a timeout changes on an audible channel. -/
def timeoutRegs (n : Nat) : List Nat := [rSAPnn_ZC_TO_CNT n, rSAPnn_CH_PEND n]

/-- The timeout of an audible channel at rest is counted, and the fall that carries out what waits stands at its first sample. -/
structure FallBegun (d e : Dev) (n c : Nat) : Prop where
  kept : Keeps (Dev.butChan n c) (timeoutRegs n) d e
  count : (e.reg (rSAPnn_ZC_TO_CNT n)).toNat = min ((d.reg (rSAPnn_ZC_TO_CNT n)).toNat + 1) (2 ^ 32 - 1)
  pend : e.on (fSapPend n c) = false
  chan : (e.sapOf n).chan c = { (d.sapOf n).chan c with
    wait := [], evald := 0, ramp := some (((d.sapOf n).chan c).wait, { muteSide := true, pos := 1, rising := true, moving := true }) }

theorem Dev.sapTimeout_falls (hc : c < 16) (audible : d.sapAudible n c = true) (v : Int) :
    ∃ e, d.sapTimeout n c [] (MuteRamp.rest false) v = (some (mulGain v (d.zcFade n 1)), e) ∧ FallBegun d e n c := by
  obtain ⟨k, hk⟩ : ∃ k, k = ((d.inc (rSAPnn_ZC_TO_CNT n)).putB (fSapPend n c) false).setSapCh n c
    { (d.sapOf n).chan c with wait := [], evald := 0 } := ⟨_, rfl⟩
  obtain ⟨y, hy⟩ : ∃ y : SapCh, y = { (k.sapOf n).chan c with
    ramp := some (((d.sapOf n).chan c).wait, { muteSide := true, pos := 1, rising := true, moving := true }) } := ⟨_, rfl⟩
  have begins : (MuteRamp.rest false).command true = { muteSide := true, pos := 0, rising := true, moving := true } := rfl
  have ramps : d.sapTimeout n c [] (MuteRamp.rest false) v = (some (mulGain v (k.zcFade n 1)), k.setSapCh n c y) := by
    unfold Dev.sapTimeout
    simp only [audible, if_true, ← hk, List.nil_append, begins]
    rw [hy]
    rfl
  have keeps : Keeps (Dev.butChan n c) (timeoutRegs n) d k := by
    rw [hk]
    exact (((d.incTimeouts_keeps n c).mono (by simp [timeoutRegs])).trans ((Dev.putPend_keeps _ n hc false).mono (by simp [timeoutRegs]))).trans
      (Dev.setSapCh_keeps ..)
  have fade : k.zcFade n 1 = d.zcFade n 1 := Dev.zcFade_congr (congrArg (·.1) keeps.rest)
    (keeps.regs _ (by simp [timeoutRegs, rSAPnn_ZC_CFG, rSAPnn_ZC_TO_CNT, rSAPnn_CH_PEND])) 1
  refine ⟨_, fade ▸ ramps, keeps.trans (Dev.setSapCh_keeps ..), ?_, ?_, ?_⟩
  · rw [Dev.reg_setSapCh, hk, Dev.reg_setSapCh, Dev.putB, Dev.reg_put_ne _ _ (by simp [fSapPend, bitFld, rSAPnn_CH_PEND, rSAPnn_ZC_TO_CNT]),
      Dev.reg_inc_same]
  · rw [Dev.on_setSapCh, hk, Dev.on_setSapCh, Dev.on_putPend_same _ _ hc]
  · rw [Dev.chan_setSapCh_same, hy, hk, Dev.chan_setSapCh_same]

/-- A command waits on an audible channel, and at its one sample, which does not cross, the timeout is reached. -/
theorem Dev.sapEval_timesOut {t : Word64} {x : Int} {o : Nat} (hc : c < 16) (ramp : ((d.sapOf n).chan c).ramp = none)
    (wait : ((d.sapOf n).chan c).wait = [o]) (raw : ((d.sapOf n).chan c).raw = [(t, x)])
    (stays : zeroCross ((d.sapOf n).chan c).last x = false) (late : d.zcSamples n ≤ ((d.sapOf n).chan c).evald)
    (audible : d.sapAudible n c = true) :
    ∃ h e, Keeps (Dev.butChan n c) [] d h ∧ FallBegun h e n c ∧
      (h.sapOf n).chan c = { (d.sapOf n).chan c with raw := [], last := x, evald := ((d.sapOf n).chan c).evald + 1 } ∧
      d.sapEval n c = e.setSapCh n c { (e.sapOf n).chan c with done := ((e.sapOf n).chan c).done ++ [(t, some (mulGain x (d.zcFade n 1)))] } := by
  obtain ⟨f, hf⟩ : ∃ f, f = d.setSapCh n c { (d.sapOf n).chan c with raw := [] } := ⟨_, rfl⟩
  obtain ⟨h, hh⟩ : ∃ h, h = f.sapHeld n c x := ⟨_, rfl⟩
  have chanF : (f.sapOf n).chan c = { (d.sapOf n).chan c with raw := [] } := by rw [hf, Dev.chan_setSapCh_same]
  have held : Keeps (Dev.butChan n c) [] d h := by
    rw [hh, hf]
    exact (Dev.setSapCh_keeps ..).trans (Dev.setSapCh_keeps ..)
  have audibleF : f.sapAudible n c = true := by rw [hf]; exact audible
  have lateF : f.sapLate n c = true := by
    have samples : f.zcSamples n = d.zcSamples n := by rw [hf]; rfl
    rw [Dev.sapLate, samples, chanF, wait, decide_eq_true late]
    rfl
  obtain ⟨e, times, fall⟩ := Dev.sapTimeout_falls (d := h) hc (by rw [hh]; exact audibleF) x
  have sample : f.sapSample n c x = (some (mulGain x (d.zcFade n 1)), e) := by
    rw [Dev.sapSample_rests (by rw [chanF, stays, Bool.and_false]) (by rw [chanF, ramp]), if_pos lateF, audibleF, ← hh,
      ← Dev.zcFade_congr (congrArg (·.1) held.rest) (held.regs _ (by simp)) 1]
    exact times
  refine ⟨h, e, held, fall, ?_, Dev.sapEval_one raw hf sample⟩
  rw [hh, Dev.sapHeld, Dev.chan_setSapCh_same, if_pos (by rw [chanF, wait]; rfl), chanF]

/-- The timeout of an audible channel on which a command waits (R267). -/
theorem zcTimeout_completes (s : State) (n : Fin 24) (c : Fin 16) (t : Word64) (x : Int) (o : Nat) (calm : s.dev.calm = true)
    (on : s.dev.sapOn n.val = true) (ramp : ((s.dev.sapOf n.val).chan c.val).ramp = none)
    (wait : ((s.dev.sapOf n.val).chan c.val).wait = [o]) (raw : ((s.dev.sapOf n.val).chan c.val).raw = [(t, x)]) (ne : x ≠ 0)
    (sign : decide (x < 0) = decide (((s.dev.sapOf n.val).chan c.val).last < 0))
    (late : s.dev.zcSamples n.val ≤ ((s.dev.sapOf n.val).chan c.val).evald) (audible : s.dev.sapAudible n.val c.val = true) :
    Completes (.zcTimeout n c) s fun d =>
      (d.reg (rSAPnn_ZC_TO_CNT n.val)).toNat = min ((s.dev.reg (rSAPnn_ZC_TO_CNT n.val)).toNat + 1) (2 ^ 32 - 1) ∧
      d.on (fSapPend n.val c.val) = false ∧
      ((d.sapOf n.val).chan c.val).wait = [] ∧
      ((d.sapOf n.val).chan c.val).ramp = some ([o], { muteSide := true, pos := 1, rising := true, moving := true }) ∧
      ((d.sapOf n.val).chan c.val).done = ((s.dev.sapOf n.val).chan c.val).done ++ [(t, some (mulGain x (s.dev.zcFade n.val 1)))] ∧
      s.dev.sameRegs d [rSAPnn_ZC_TO_CNT n.val, rSAPnn_CH_PEND n.val] ∧
      d = { s.dev with regs := d.regs, sap := d.sap, irqA := d.irqA, irqB := d.irqB } := by
  obtain ⟨h, e, held, fall, chanH, eval⟩ := Dev.sapEval_timesOut c.isLt ramp wait raw (zeroCross_same_sign ne sign) late audible
  have hx := (exec_zeroCrossing (s := s) (c := c) on).2
  rw [eval] at hx
  have fallen : Keeps (Dev.butChan n c) (timeoutRegs n) s.dev e := (held.mono (by simp)).trans fall.kept
  have keeps := fallen.trans (e.setSapCh_keeps n c
    { (e.sapOf n).chan c with done := ((e.sapOf n).chan c).done ++ [(t, some (mulGain x (s.dev.zcFade n 1)))] } _)
  have rest := congrArg (·.1) keeps.rest
  refine completes_of_sameRegs hx calm keeps.regs (apart_of_subset (calmRegs_sap n) (by simp [timeoutRegs, sapRegs])) (congrArg (·.calmPart) rest)
    ⟨?_, fall.pend, ?_, ?_, ?_, keeps.regs.showIrq, Dev.showIrq_of_butSap rest⟩
  · rw [Dev.showIrq_reg, Dev.reg_setSapCh, fall.count, held.regs _ (by simp)]
  · rw [Dev.showIrq_sapOf, Dev.chan_setSapCh_same, fall.chan]
  · rw [Dev.showIrq_sapOf, Dev.chan_setSapCh_same, fall.chan, chanH, wait]
  · rw [Dev.showIrq_sapOf, Dev.chan_setSapCh_same, fall.chan, chanH]

end Sys2Proof.Machine
end

section
/-! The slot masks of the serial ports (R263, R264, R271): what a mask written and a mask applied leave, and the ball groups they claim. -/

namespace Sys2Proof.Machine

open Sys2Proof

variable {d e : Dev} {p : Port} {v : Word} {n : Nat}

/-! ## Ball groups -/

/-- The registers of the ball groups that DMX shares with the serial ports. -/
def sapPinRegs : List Nat := [rPIN_CONFLICT, rPIN_GRPnn_OWNER 8, rPIN_GRPnn_OWNER 9, rPIN_GRPnn_OWNER 10, rPIN_GRPnn_OWNER 11]

theorem owner_sapGroup (n : Fin 24) {q g : Nat} (hq : q ∈ List.range 2) (h : sapGroup n q = some g) : rPIN_GRPnn_OWNER g ∈ sapPinRegs := by
  have lt := n.isLt
  have small := List.mem_range.mp hq
  unfold sapGroup at h
  split at h
  · cases h
    obtain ⟨k, hk⟩ : ∃ k, k = n.val - 22 := ⟨_, rfl⟩
    have : k < 2 := by omega
    rw [← hk]
    interval_cases k <;> interval_cases q <;> decide
  · cases h

theorem Dev.claimGrp_keeps (d : Dev) {g : Nat} (hg : rPIN_GRPnn_OWNER g ∈ sapPinRegs) : Keeps Dev.butRegs sapPinRegs d (d.claimGrp g 1).2 := by
  obtain granted | refused := d.claimGrp_cases g 1
  · rw [granted]
    exact ⟨rfl, (Dev.sameRegs.refl d _).put (f := fPIN_GRPnn_OWNER_OWNER g) hg 1⟩
  · rw [refused]
    exact ⟨d.grpConflict_butRegs g 1, (d.grpConflict_sameRegs g 1).mono (by simp [sapPinRegs])⟩

theorem Dev.releaseGrp_keeps (d : Dev) {g : Nat} (hg : rPIN_GRPnn_OWNER g ∈ sapPinRegs) : Keeps Dev.butRegs sapPinRegs d (d.releaseGrp g 1) := by
  obtain held | ⟨-, other⟩ := d.releaseGrp_cases g 1
  · rw [held]
    exact ⟨rfl, (Dev.sameRegs.refl d _).put (f := fPIN_GRPnn_OWNER_OWNER g) hg 0⟩
  · rw [other]
    exact Keeps.refl ..

/-- The claim of one lane pair for a mask. -/
def Dev.sapClaim (n : Nat) (x : Nat × Dev) (q : Nat) : Nat × Dev :=
  match sapGroup n q with
  | some g =>
    if x.1 / 16 ^ q % 16 = 0 then x
    else match x.2.claimGrp g 1 with
      | (true, d) => (x.1, d)
      | (false, d) => (x.1 - x.1 / 16 ^ q % 16 * 16 ^ q, d)
  | none => x

theorem Dev.sapClaims_eq (d : Dev) (n mask : Nat) : d.sapClaims n mask = Dev.sapClaim n (Dev.sapClaim n (mask, d) 0) 1 := rfl

theorem Dev.sapClaim_keeps (n : Fin 24) (x : Nat × Dev) {q : Nat} (hq : q ∈ List.range 2) :
    Keeps Dev.butRegs sapPinRegs x.2 (Dev.sapClaim n x q).2 := by
  unfold Dev.sapClaim
  split
  · rename_i g group
    split
    · exact Keeps.refl ..
    · have claim := x.2.claimGrp_keeps (owner_sapGroup n hq group)
      split
      · rename_i granted
        rw [granted] at claim
        exact claim
      · rename_i refused
        rw [refused] at claim
        exact claim
  · exact Keeps.refl ..

theorem Dev.sapClaims_keeps (d : Dev) (n : Fin 24) (mask : Nat) : Keeps Dev.butRegs sapPinRegs d (d.sapClaims n mask).2 := by
  rw [Dev.sapClaims_eq]
  exact (Dev.sapClaim_keeps n (mask, d) (by decide)).trans (Dev.sapClaim_keeps n _ (by decide))

/-- Ports 0 to 21 share no ball with DMX: they claim nothing. -/
theorem Dev.sapClaims_none (d : Dev) (mask : Nat) (hn : n < 22) : d.sapClaims n mask = (mask, d) := by
  have none : ∀ q, sapGroup n q = none := fun q => if_neg (by omega)
  rw [Dev.sapClaims_eq, Dev.sapClaim, Dev.sapClaim, none, none]

/-! ## A mask written -/

/-- The slot mask that a masked write asks for. -/
def maskAsked (old v : Word) : BitVec 12 :=
  (BitVec.ofNat 12 old.toNat &&& ~~~(BitVec.ofNat 12 (v.toNat / 65536 % 4096))) |||
    (BitVec.ofNat 12 v.toNat &&& BitVec.ofNat 12 (v.toNat / 65536 % 4096))

theorem Dev.sapMaskWrite_none (d : Dev) (n : Nat) {v : Nat} (h : v / 65536 % 4096 = 0) : d.sapMaskWrite n v = d := if_pos h

theorem Dev.sapMaskWrite_some (d : Dev) (n : Nat) {v : Word} (h : v.toNat / 65536 % 4096 ≠ 0) :
    ∃ m e, d.sapClaims n ((maskAsked (d.reg (rSAPnn_SLOT_MASK n)) v).toNat % 256) = (m, e) ∧
      d.sapMaskWrite n v.toNat = (e.setReg (rSAPnn_SLOT_MASK n)
        (BitVec.ofNat 32 ((maskAsked (d.reg (rSAPnn_SLOT_MASK n)) v).toNat / 256 * 256 + m))).putB (fSAPnn_STS_MASK_PEND n) true := by
  refine ⟨_, _, rfl, ?_⟩
  rw [Dev.sapMaskWrite, if_neg h]
  rfl

/-- The row of SLOT_MASK in the register summary. -/
def slotMaskRow : RegDesc := { base := 0xC0008, s1 := 0x400, c1 := 24, wr := 0xFFF, mw := true }

theorem regAt_slotMask (n : Fin 24) : regAt (rSAPnn_SLOT_MASK n.val) = some (slotMaskRow, n.val, 0) := by fin_cases n <;> rfl

theorem slotMask_place (n : Fin 24) : rSAPnn_SLOT_MASK n.val < 0x400000 ∧ rSAPnn_SLOT_MASK n.val / 4 * 4 = rSAPnn_SLOT_MASK n.val ∧
    blockOf (rSAPnn_SLOT_MASK n.val) = 10 ∧ ¬ rSAPnn_SLOT_MASK n.val ≤ rTIME_TCMPnn_FIRE_CNT 63 := by revert n; decide

/-- SLOT_MASK is none of the registers before it that have a rule of their own. -/
theorem slotMask_apart (n : Fin 24) : ∀ a ∈ [rTIME_ADDEND_L, rTIME_ADDEND_H, rPWR_DOMk_CTL 0, rGLB_NVM_CTL, rSTX_CMD, rSRX_CMD, rNET_MDIO_CMD,
    rMIO_REQ_CMD, rPIN_CUE_CFG], rSAPnn_SLOT_MASK n.val ≠ a := by revert n; decide

theorem exec_slotMaskWrite {s : State} {n : Fin 24} (takes : s.dev.takes p (rSAPnn_SLOT_MASK n.val)) :
    exec (.slotMaskWrite n p v) s = s.done ((s.dev.answer p []).sapMaskWrite n.val v.toNat) := by
  obtain ⟨low, whole, block, above⟩ := slotMask_place n
  have apart := slotMask_apart n
  simp only [List.forall_mem_cons, List.not_mem_nil, false_imp_iff, implies_true, and_true] at apart
  obtain ⟨h1, h2, h3, h4, h5, h6, h7, h8, h9⟩ := apart
  show s.done (s.dev.busWrite {} p (rSAPnn_SLOT_MASK n.val) .b32 v) = _
  rw [Dev.busWrite_reg takes low (by rw [whole, regAt_slotMask]; rfl)]
  simp only [Dev.regWrite, regAt_slotMask, h1, h2, h3, h4, h5, h6, h7, h8, h9, above, block, if_false, if_true, false_and, and_false, and_self]

/-- A device that keeps everything but registers and ports in what follows its answer. -/
theorem Keeps.answered {L : List Nat} (h : Keeps Dev.butRegs L (d.answer p []) e) : Keeps Dev.butRegsPorts L d e ∧ (e.port p).code = 0 :=
  ⟨⟨congrArg (fun x : Dev => { x with ports := [] }) h.rest, (d.answer_sameRegs p [] L).trans h.regs⟩,
    by rw [Dev.port_congr (congrArg (·.ports) h.rest : e.ports = (d.answer p []).ports), Dev.answer_code]⟩

/-- A mask that names no bit is ignored (R430). -/
theorem slotMaskWrite_none_completes (s : State) (n : Fin 24) (p : Port) (v : Word) (calm : s.dev.calm = true)
    (takes : s.dev.takes p (rSAPnn_SLOT_MASK n.val)) (none : v.toNat / 65536 % 4096 = 0) :
    Completes (.slotMaskWrite n p v) s fun d =>
      (d.port p).code = 0 ∧
      s.dev.sameRegs d [] ∧
      d = { s.dev with regs := d.regs, ports := d.ports, irqA := d.irqA, irqB := d.irqB } := by
  have hx := exec_slotMaskWrite (v := v) takes
  rw [Dev.sapMaskWrite_none _ _ none] at hx
  obtain ⟨keeps, code⟩ := Keeps.answered (L := []) (Keeps.refl Dev.butRegs [] (s.dev.answer p []))
  exact completes_of_sameRegs hx calm keeps.regs (by simp) (congrArg (·.calmPart) keeps.rest)
    ⟨code, keeps.regs.showIrq, Dev.showIrq_of_butRegsPorts keeps.rest⟩

theorem fSAPnn_STS_MASK_PEND_ok (n : Nat) : (fSAPnn_STS_MASK_PEND n).ok := (by decide : 14 + 1 ≤ 32)

/-- A mask that names a bit waits (R263). -/
theorem slotMaskWrite_completes (s : State) (n : Fin 24) (p : Port) (v : Word) (calm : s.dev.calm = true)
    (takes : s.dev.takes p (rSAPnn_SLOT_MASK n.val)) (some : v.toNat / 65536 % 4096 ≠ 0) :
    Completes (.slotMaskWrite n p v) s fun d =>
      d.on (fSAPnn_STS_MASK_PEND n.val) = true ∧
      d.sap = s.dev.sap ∧
      (d.port p).code = 0 ∧
      s.dev.sameRegs d [rSAPnn_SLOT_MASK n.val, rSAPnn_STS n.val, rPIN_CONFLICT, rPIN_GRPnn_OWNER 8, rPIN_GRPnn_OWNER 9, rPIN_GRPnn_OWNER 10,
        rPIN_GRPnn_OWNER 11] ∧
      d = { s.dev with regs := d.regs, ports := d.ports, irqA := d.irqA, irqB := d.irqB } := by
  obtain ⟨m, c, claims, write⟩ := (s.dev.answer p []).sapMaskWrite_some n some
  obtain ⟨e, he⟩ : ∃ e, e = (s.dev.answer p []).sapMaskWrite n v.toNat := ⟨_, rfl⟩
  have hx := exec_slotMaskWrite (v := v) takes
  rw [← he] at hx write
  have claimed := (s.dev.answer p []).sapClaims_keeps n ((maskAsked ((s.dev.answer p []).reg (rSAPnn_SLOT_MASK n)) v).toNat % 256)
  rw [claims] at claimed
  have first := claimed.mono (M := rSAPnn_SLOT_MASK n :: rSAPnn_STS n :: sapPinRegs) fun a ha => List.mem_cons_of_mem _ (List.mem_cons_of_mem _ ha)
  obtain ⟨keeps, code⟩ := Keeps.answered (e := e) ⟨by rw [write]; exact first.rest,
    by rw [write]; exact (first.regs.setReg (by simp) _).putB (f := fSAPnn_STS_MASK_PEND n) (List.mem_cons_of_mem _ List.mem_cons_self) true⟩
  refine completes_of_sameRegs hx calm keeps.regs (apart_of_subset (calmRegs_sap n) (by simp [sapRegs, sapPinRegs])) (congrArg (·.calmPart) keeps.rest)
    ⟨?_, congrArg (·.sap) keeps.rest, code, keeps.regs.showIrq, Dev.showIrq_of_butRegsPorts keeps.rest⟩
  rw [Dev.showIrq_on, write]
  exact Dev.on_putB_same _ (fSAPnn_STS_MASK_PEND_ok n) rfl true

/-- A port that shares no ball stores the bits that its write mask names as they are written. -/
theorem slotMask_merged {old v : Word} {w : BitVec 12} (hw : w = (v >>> 16).setWidth 12) :
    BitVec.ofNat 32 ((maskAsked old v).toNat / 256 * 256 + (maskAsked old v).toNat % 256) =
      ((old &&& ~~~(w.setWidth 32)) ||| (v &&& w.setWidth 32)) &&& 0xFFF := by
  have named : BitVec.ofNat 12 (v.toNat / 65536 % 4096) = w := by
    rw [hw]
    apply BitVec.eq_of_toNat_eq
    simp [Nat.shiftRight_eq_div_pow]
  have asked : BitVec.ofNat 32 (maskAsked old v).toNat = (maskAsked old v).setWidth 32 := by
    rw [BitVec.ofNat_toNat]
  rw [Nat.div_add_mod', asked, maskAsked, named]
  have low : ∀ i < 32, (0xFFF : Word).getLsbD i = decide (i < 12) := by decide
  refine BitVec.eq_of_getLsbD_eq fun i hi => ?_
  rw [BitVec.getLsbD_and, low i hi, BitVec.getLsbD_setWidth]
  by_cases small : i < 12 <;> simp [small, hi]

/-- The bits that the write mask names, in a port that shares no ball with DMX (R263). -/
theorem slotMaskWrite_unshared_completes (s : State) (n : Fin 24) (p : Port) (v : Word) (w : BitVec 12) (calm : s.dev.calm = true)
    (takes : s.dev.takes p (rSAPnn_SLOT_MASK n.val)) (unshared : n.val < 22) (hw : w = (v >>> 16).setWidth 12) (ne : w ≠ 0) :
    Completes (.slotMaskWrite n p v) s fun d =>
      d.reg (rSAPnn_SLOT_MASK n.val) = ((s.dev.reg (rSAPnn_SLOT_MASK n.val) &&& ~~~(w.setWidth 32)) ||| (v &&& w.setWidth 32)) &&& 0xFFF ∧
      d.on (fSAPnn_STS_MASK_PEND n.val) = true ∧
      (d.port p).code = 0 ∧
      s.dev.sameRegs d [rSAPnn_SLOT_MASK n.val, rSAPnn_STS n.val] ∧
      d = { s.dev with regs := d.regs, ports := d.ports, irqA := d.irqA, irqB := d.irqB } := by
  have some : v.toNat / 65536 % 4096 ≠ 0 := fun zero => ne (by
    rw [hw]
    apply BitVec.eq_of_toNat_eq
    simpa [Nat.shiftRight_eq_div_pow] using zero)
  obtain ⟨m, c, claims, write⟩ := (s.dev.answer p []).sapMaskWrite_some n some
  obtain ⟨rfl, rfl⟩ := Prod.mk.inj ((Dev.sapClaims_none _ _ unshared).symm.trans claims)
  obtain ⟨e, he⟩ : ∃ e, e = (s.dev.answer p []).sapMaskWrite n v.toNat := ⟨_, rfl⟩
  have hx := exec_slotMaskWrite (v := v) takes
  rw [← he] at hx write
  obtain ⟨keeps, code⟩ := Keeps.answered (d := s.dev) (e := e) (L := [rSAPnn_SLOT_MASK n, rSAPnn_STS n]) ⟨by rw [write]; rfl, by
    rw [write]
    exact ((Dev.sameRegs.refl _ _).setReg (by simp) _).putB (f := fSAPnn_STS_MASK_PEND n) (List.mem_cons_of_mem _ List.mem_cons_self) true⟩
  refine completes_of_sameRegs hx calm keeps.regs (apart_of_subset (calmRegs_sap n) (by simp [sapRegs])) (congrArg (·.calmPart) keeps.rest)
    ⟨?_, ?_, code, keeps.regs.showIrq, Dev.showIrq_of_butRegsPorts keeps.rest⟩
  · rw [Dev.showIrq_reg, write, Dev.putB, Dev.reg_put_ne _ _ (show rSAPnn_STS n ≠ rSAPnn_SLOT_MASK n by simp [rSAPnn_STS, rSAPnn_SLOT_MASK]),
      Dev.reg_setReg_same]
    exact slotMask_merged hw
  · rw [Dev.showIrq_on, write]
    exact Dev.on_putB_same _ (fSAPnn_STS_MASK_PEND_ok n) rfl true

/-! ## A mask applied -/

/-- What a mask in force leaves of the port. -/
structure MaskInForce (d e : Dev) (n : Nat) (mask : BitVec 8) (dir : BitVec 4) : Prop where
  kept : Keeps (Dev.sapView n) [rSAPnn_STS n] d e
  port : e.sapOf n = { d.sapOf n with mask := mask, dir := dir }
  ins : e.get (fSAPnn_STS_IN_COUNT n) = ((e.sapOf n).positions false).length
  outs : e.get (fSAPnn_STS_OUT_COUNT n) = ((e.sapOf n).positions true).length
  flags : ∀ i, 8 ≤ i → i < 32 → e.on (bitFld (rSAPnn_STS n) i) = d.on (bitFld (rSAPnn_STS n) i)

/-- A direction has at most eight positions. -/
theorem positions_length_le (x : SapSt) (out : Bool) : (x.positions out).length ≤ 8 := by
  refine le_trans (List.length_filter_le _ _) ?_
  rw [List.length_range]

/-- The counts of a port's positions, as its status shows them. -/
def posCounts (n : Nat) (x : SapSt) : List (Fld × Nat) :=
  [(fSAPnn_STS_IN_COUNT n, (x.positions false).length), (fSAPnn_STS_OUT_COUNT n, (x.positions true).length)]

theorem posCounts_ok (n : Nat) (x : SapSt) : ∀ y ∈ posCounts n x, y.1.ok ∧ y.1.addr = rSAPnn_STS n ∧ y.1.lo + y.1.width ≤ 8 := by
  simp [posCounts, Fld.ok, fSAPnn_STS_IN_COUNT, fSAPnn_STS_OUT_COUNT, rSAPnn_STS]

theorem posCounts_get (d : Dev) (n : Nat) (x : SapSt) : (d.puts (posCounts n x)).get (fSAPnn_STS_IN_COUNT n) = (x.positions false).length ∧
    (d.puts (posCounts n x)).get (fSAPnn_STS_OUT_COUNT n) = (x.positions true).length := by
  have apart : (posCounts n x).Pairwise fun y z => z.1.apart y.1 := by
    simp [posCounts, Fld.apart, fSAPnn_STS_IN_COUNT, fSAPnn_STS_OUT_COUNT]
  have fits : ∀ out, (x.positions out).length % 2 ^ 4 = (x.positions out).length := fun out =>
    Nat.mod_eq_of_lt (lt_of_le_of_lt (positions_length_le x out) (by decide))
  have ok : ∀ y ∈ posCounts n x, y.1.ok := fun y hy => (posCounts_ok n x y hy).1
  exact ⟨(Dev.get_puts ok apart List.mem_cons_self d).trans (fits false),
    (Dev.get_puts ok apart (List.mem_cons_of_mem _ List.mem_cons_self) d).trans (fits true)⟩

theorem Dev.sapSetMask_inForce (d : Dev) (n : Nat) (mask : BitVec 8) (dir : BitVec 4) : MaskInForce d (d.sapSetMask n mask dir) n mask dir := by
  obtain ⟨x, hx⟩ : ∃ x : SapSt, x = { d.sapOf n with mask := mask, dir := dir } := ⟨_, rfl⟩
  have acts : d.sapSetMask n mask dir = (d.setSap n x).puts (posCounts n x) := by rw [hx]; rfl
  obtain ⟨ins, outs⟩ := posCounts_get (d.setSap n x) n x
  rw [acts]
  refine ⟨?_, ?_, ?_, ?_, fun i low high => ?_⟩
  · exact (d.setSap_keeps (x := x) (by rw [hx]) (by rw [hx]) (by rw [hx]) (by rw [hx]) _).trans
      (((d.setSap n x).puts_keeps fun y hy => List.mem_singleton.mpr (posCounts_ok n x y hy).2.1).sapView n)
  · rw [Dev.sapOf_puts, Dev.sapOf_setSap_same, hx]
  · rw [Dev.sapOf_puts, Dev.sapOf_setSap_same, ins]
  · rw [Dev.sapOf_puts, Dev.sapOf_setSap_same, outs]
  · refine congrArg (· != 0) (Dev.get_puts_apart (fun y hy => ?_) (d.setSap n x))
    obtain ⟨ok, -, below⟩ := posCounts_ok n x y hy
    exact ⟨ok, Or.inl (le_trans below low)⟩

/-- The groups of the pairs that a mask leaves empty are released. -/
def Dev.sapRelease (d : Dev) (n : Nat) (empty : Nat → Bool) : Dev :=
  (List.range 2).foldl (fun d q =>
    match sapGroup n q with
    | some g => if empty q then d.releaseGrp g 1 else d
    | none => d) d

theorem Dev.sapRelease_keeps (d : Dev) (n : Fin 24) (empty : Nat → Bool) : Keeps Dev.butRegs sapPinRegs d (d.sapRelease n empty) := by
  refine Keeps.foldl _ _ (fun q hq c => ?_) d
  split
  · rename_i g group
    split
    · exact c.releaseGrp_keeps (owner_sapGroup n hq group)
    · exact Keeps.refl ..
  · exact Keeps.refl ..

theorem Dev.sapMaskTake_eq (d : Dev) (n : Nat) : d.sapMaskTake n =
    ((d.putB (fSAPnn_STS_MASK_PEND n) false).sapSetMask n (BitVec.ofNat 8 (d.get (fSAPnn_SLOT_MASK_MASK n)))
      (BitVec.ofNat 4 (d.get (fSAPnn_SLOT_MASK_DIR n)))).sapRelease n fun q => d.get (fSAPnn_SLOT_MASK_MASK n) / 16 ^ q % 16 = 0 := by
  rw [Dev.sapMaskTake]
  simp only [Dev.sapRelease, decide_eq_true_eq] <;> rfl

/-- What a held mask leaves once it applies (R263, R271). -/
structure MaskTaken (d e : Dev) (n : Nat) : Prop where
  kept : Keeps (Dev.sapView n) (rSAPnn_STS n :: sapPinRegs) d e
  port : e.sapOf n = { d.sapOf n with
    mask := BitVec.ofNat 8 (d.get (fSAPnn_SLOT_MASK_MASK n)), dir := BitVec.ofNat 4 (d.get (fSAPnn_SLOT_MASK_DIR n)) }
  ins : e.get (fSAPnn_STS_IN_COUNT n) = ((e.sapOf n).positions false).length
  outs : e.get (fSAPnn_STS_OUT_COUNT n) = ((e.sapOf n).positions true).length
  pend : e.on (fSAPnn_STS_MASK_PEND n) = false
  flags : ∀ i, 8 ≤ i → i < 14 → e.on (bitFld (rSAPnn_STS n) i) = d.on (bitFld (rSAPnn_STS n) i)

theorem sts_sapPinRegs (n : Fin 24) : rSAPnn_STS n.val ∉ sapPinRegs := by revert n; decide

theorem Dev.sapMaskTake_taken (d : Dev) (n : Fin 24) : MaskTaken d (d.sapMaskTake n.val) n.val := by
  obtain ⟨x, hx⟩ : ∃ x, x = d.putB (fSAPnn_STS_MASK_PEND n) false := ⟨_, rfl⟩
  obtain ⟨y, hy⟩ : ∃ y, y = x.sapSetMask n (BitVec.ofNat 8 (d.get (fSAPnn_SLOT_MASK_MASK n))) (BitVec.ofNat 4 (d.get (fSAPnn_SLOT_MASK_DIR n))) :=
    ⟨_, rfl⟩
  have force := x.sapSetMask_inForce n (BitVec.ofNat 8 (d.get (fSAPnn_SLOT_MASK_MASK n))) (BitVec.ofNat 4 (d.get (fSAPnn_SLOT_MASK_DIR n)))
  rw [← hy] at force
  have released := y.sapRelease_keeps n fun q => d.get (fSAPnn_SLOT_MASK_MASK n) / 16 ^ q % 16 = 0
  rw [Dev.sapMaskTake_eq, ← hx, ← hy]
  obtain ⟨e, he⟩ : ∃ e, e = y.sapRelease n fun q => d.get (fSAPnn_SLOT_MASK_MASK n) / 16 ^ q % 16 = 0 := ⟨_, rfl⟩
  rw [← he] at released ⊢
  have cleared : Keeps Dev.butRegs [rSAPnn_STS n] d x := by
    rw [hx]
    exact ⟨rfl, (Dev.sameRegs.refl d _).putB (f := fSAPnn_STS_MASK_PEND n) List.mem_cons_self false⟩
  have port : e.sapOf n = y.sapOf n := Dev.sapOf_of_butRegs released.rest n
  have shown : ∀ f : Fld, f.addr = rSAPnn_STS n → e.get f = y.get f := fun f ha => released.regs.get (by rw [ha]; exact sts_sapPinRegs n)
  refine ⟨?_, ?_, ?_, ?_, ?_, fun i low high => ?_⟩
  · exact (((cleared.sapView n).trans force.kept).mono (by simp)).trans ((released.sapView n).mono (List.subset_cons_self ..))
  · rw [port, force.port, Dev.sapOf_of_butRegs cleared.rest]
  · rw [port, shown _ rfl, force.ins]
  · rw [port, shown _ rfl, force.outs]
  · refine (congrArg (· != 0) (shown (fSAPnn_STS_MASK_PEND n) rfl)).trans ((force.flags 14 (by decide) (by decide)).trans ?_)
    rw [hx]
    exact Dev.on_putB_same d (fSAPnn_STS_MASK_PEND_ok n) rfl false
  · refine (congrArg (· != 0) (shown (bitFld (rSAPnn_STS n) i) rfl)).trans ((force.flags i low (by omega)).trans ?_)
    rw [hx]
    exact d.on_put_apart _ (fSAPnn_STS_MASK_PEND_ok n) (Or.inr (show i + 1 ≤ 14 by omega))

/-- A held mask applies at the opening edge of a frame (R263). -/
theorem slotMaskApply_completes (s : State) (n : Fin 24) (calm : s.dev.calm = true) (on : s.dev.sapOn n.val = true)
    (waits : s.dev.on (fSAPnn_STS_MASK_PEND n.val) = true) (aligned : s.dev.on (fSAPnn_STS_RESYNC n.val) = false) :
    Completes (.slotMaskApply n) s fun d =>
      (d.sapOf n.val).mask.toNat = s.dev.get (fSAPnn_SLOT_MASK_MASK n.val) ∧
      (d.sapOf n.val).dir.toNat = s.dev.get (fSAPnn_SLOT_MASK_DIR n.val) ∧
      d.on (fSAPnn_STS_MASK_PEND n.val) = false ∧
      d.get (fSAPnn_STS_IN_COUNT n.val) = ((d.sapOf n.val).positions false).length ∧
      d.get (fSAPnn_STS_OUT_COUNT n.val) = ((d.sapOf n.val).positions true).length ∧
      s.dev.sameRegs d [rSAPnn_STS n.val, rPIN_CONFLICT, rPIN_GRPnn_OWNER 8, rPIN_GRPnn_OWNER 9, rPIN_GRPnn_OWNER 10, rPIN_GRPnn_OWNER 11] ∧
      d = { s.dev with regs := d.regs, sap := d.sap, irqA := d.irqA, irqB := d.irqB } := by
  have applies : s.dev.sapMaskApply n = s.dev.sapMaskTake n := if_pos (by rw [on, waits, aligned]; rfl)
  have hx : exec (.slotMaskApply n) s = s.done (s.dev.sapMaskTake n) := congrArg s.done applies
  have taken := s.dev.sapMaskTake_taken n
  have rest : (s.dev.sapMaskTake n).butSap = s.dev.butSap := congrArg (·.1) taken.kept.rest
  refine completes_of_sameRegs hx calm taken.kept.regs (apart_of_subset (calmRegs_sap n) (by simp [sapRegs, sapPinRegs]))
    (congrArg (·.calmPart) rest) ⟨?_, ?_, taken.pend, taken.ins, taken.outs, taken.kept.regs.showIrq, Dev.showIrq_of_butSap rest⟩
  · rw [Dev.showIrq_sapOf, taken.port, BitVec.toNat_ofNat]
    exact Nat.mod_eq_of_lt (s.dev.get_lt (fSAPnn_SLOT_MASK_MASK n))
  · rw [Dev.showIrq_sapOf, taken.port, BitVec.toNat_ofNat]
    exact Nat.mod_eq_of_lt (s.dev.get_lt (fSAPnn_SLOT_MASK_DIR n))

/-- Settles O21: the four commands of CH_CMD through what each named channel answers, a crossing and a timeout at the one sample of their
channel, and the slot masks as they are written and applied. -/
theorem serialChannelsWaitForTheirZero : Obligations.SerialChannelsWaitForTheirZero := by
  refine ⟨?_, ?_, ?_, ?_, zeroCrossing_completes,
    fun s n c t x o calm on ramp wait _ _ raw ne sign late audible => zcTimeout_completes s n c t x o calm on ramp wait raw ne sign late audible,
    slotMaskWrite_unshared_completes, slotMaskWrite_none_completes, slotMaskWrite_completes, slotMaskApply_completes⟩
  · intro s n p v calm takes rest
    refine (sapCh_completes (op := 1) (by decide) (by decide) rfl calm takes rest).mono fun d ⟨named, others, left⟩ =>
      ⟨fun i hi set => ?_, fun i hi clear => Dev.chan_unnamed (others i hi clear), left⟩
    exact ite_weaken (Dev.chan_answers (named i hi set) (and_congr_right fun _ => (start_changes ..).symm))
      (fun ⟨_, stopped, _⟩ ⟨pend, wait, run, _⟩ => ⟨pend, wait, run.trans stopped⟩) And.left
  · intro s n p v calm takes rest
    refine (sapCh_completes (op := 2) (by decide) (by decide) rfl calm takes rest).mono fun d ⟨named, others, left⟩ =>
      ⟨fun i hi set => ?_, fun i hi clear => Dev.chan_unnamed (others i hi clear), left⟩
    exact ite_weaken (Dev.chan_answers (named i hi set) (and_congr_right fun _ => (stop_changes ..).symm))
      (fun ⟨_, running, _⟩ ⟨pend, wait, run, _⟩ => ⟨pend, wait, run.trans running⟩) And.left
  · intro s n p v calm takes rest
    refine (sapCh_completes (op := 3) (by decide) (by decide) rfl calm takes rest).mono fun d ⟨named, others, left⟩ =>
      ⟨fun i hi set => ?_, fun i hi clear => Dev.chan_unnamed (others i hi clear), left⟩
    exact ite_weaken (Dev.chan_answers (named i hi set) (and_congr_right fun _ => (mute_changes ..).symm))
      (fun ⟨_, _, unmuted⟩ ⟨pend, wait, _, muted⟩ => ⟨pend, wait, muted.trans unmuted⟩) And.right
  · intro s n p v calm takes rest
    refine (sapCh_completes (op := 4) (by decide) (by decide) rfl calm takes rest).mono fun d ⟨named, others, left⟩ =>
      ⟨fun i hi set => ?_, fun i hi clear => Dev.chan_unnamed (others i hi clear), left⟩
    exact ite_weaken (Dev.chan_answers (named i hi set) (and_congr_right fun _ => (unmute_changes ..).symm))
      (fun ⟨_, _, silent⟩ ⟨pend, wait, _, muted⟩ => ⟨pend, wait, muted.trans silent⟩) And.right

end Sys2Proof.Machine
end

section
/-! Enabling, refusing and disabling a serial port (R256, R258, R272). -/

namespace Sys2Proof.Machine

open Sys2Proof

variable {d e : Dev} {p : Port} {v : Word} {n : Nat}

/-! ## The write of CTL -/

/-- The row of SAPnn_CTL in the register summary. -/
def sapCtlRow : RegDesc := { base := 0xC0000, s1 := 0x400, c1 := 24, wr := 0x1373371, dcls := 0x1373370, own := some ⟨0xC0000, 0, 1⟩, ownS := 0x400 }

theorem regAt_sapCtl (n : Fin 24) : regAt (rSAPnn_CTL n.val) = some (sapCtlRow, n.val, 0) := by fin_cases n <;> rfl

theorem plainReg_sapCtl (n : Fin 24) : plainReg (rSAPnn_CTL n.val) n.val = true ∧ tcmpReg (rSAPnn_CTL n.val) = false ∧
    rSAPnn_CTL n.val < 0x400000 ∧ rSAPnn_CTL n.val / 4 * 4 = rSAPnn_CTL n.val := by revert n; decide

theorem Dev.owned_sapCtl (d : Dev) (n : Nat) : d.owned sapCtlRow n = d.on (fSAPnn_CTL_EN n) := by
  simp [Dev.owned, sapCtlRow, fSAPnn_CTL_EN]

theorem writeEffect_sapCtl (d : Dev) (n : Fin 24) (m : Meets) (old v cmd : Word) :
    d.writeEffect m (rSAPnn_CTL n.val) n.val old v cmd = d.atEdge (fSAPnn_CTL_EN n.val) old (·.sapEnable n.val) (·.sapDisable n.val) := by
  have block : blockOf (rSAPnn_CTL n.val) = 10 := by revert n; decide
  have apart : rSAPnn_CTL n.val ≠ rANV_CTL ∧ rSAPnn_CTL n.val ≠ rANV_SCENE_CMD := by revert n; decide
  obtain ⟨anv, scene⟩ := apart
  simp only [Dev.writeEffect, block, Dev.fxAudio, anv, scene, if_false, if_true, ne_eq, not_true_eq_false]

theorem fSAPnn_CTL_EN_ok (n : Nat) : (fSAPnn_CTL_EN n).ok := (by decide : 0 + 1 ≤ 32)

/-- EN as the command writes it. -/
theorem sapCtl_en {x : Nat} (hx : x < 2) (n : Nat) (v : Word) : (fSAPnn_CTL_EN n).get ((fSAPnn_CTL_EN n).put v x) = x := by
  rw [Fld.get_put _ (fSAPnn_CTL_EN_ok n)]
  exact Nat.mod_eq_of_lt hx

theorem sapCtl_within (n : Fin 24) : (fSAPnn_CTL_EN n.val).within (w32 0x1373371) = true ∧ (fSAPnn_CTL_EN n.val).within (w32 1) = true ∧
    (fSAPnn_CTL_MASTER n.val).outside (w32 1) = true := by revert n; decide

/-- What the write of SAP_ENABLE leaves before the port acts. -/
structure SapEnabling (d c : Dev) (n : Nat) (p : Port) (v : Word) : Prop where
  kept : Keeps Dev.butRegsPorts [rSAPnn_CTL n] d c
  code : (c.port p).code = 0
  en : c.on (fSAPnn_CTL_EN n) = true
  check : c.sapCheck n = (d.stored (rSAPnn_CTL n) ((fSAPnn_CTL_EN n).put v 1)).sapCheck n
  bypass : c.sapBypass n = (d.stored (rSAPnn_CTL n) ((fSAPnn_CTL_EN n).put v 1)).sapBypass n

/-- SAP_ENABLE of a disabled port stores CTL, and the port acts. -/
theorem exec_sapEnable {s : State} {n : Fin 24} (takes : s.dev.takes p (rSAPnn_CTL n.val)) (off : s.dev.on (fSAPnn_CTL_EN n.val) = false) :
    ∃ c, SapEnabling s.dev c n.val p v ∧ exec (.sapEnable n p v) s = s.done (c.sapEnable n.val) := by
  obtain ⟨w, hw⟩ : ∃ w, w = (fSAPnn_CTL_EN n.val).put v 1 := ⟨_, rfl⟩
  have en : (fSAPnn_CTL_EN n.val).get w = 1 := hw ▸ sapCtl_en (by decide) n.val v
  obtain ⟨within, -, -⟩ := sapCtl_within n
  have free : s.dev.owned sapCtlRow n = false := (s.dev.owned_sapCtl n).trans off
  have stored : s.dev.stored (rSAPnn_CTL n.val) w =
      s.dev.setReg (rSAPnn_CTL n.val) (merged (w32 0x1373371) (s.dev.reg (rSAPnn_CTL n.val)) w) := Dev.stored_free (regAt_sapCtl n) free w
  refine ⟨(s.dev.stored (rSAPnn_CTL n.val) w).answer p [], ⟨⟨?_, ?_⟩, Dev.answer_code .., ?_, ?_, ?_⟩, ?_⟩
  · rw [stored]
    rfl
  · rw [stored]
    exact ((Dev.sameRegs.refl s.dev _).setReg (by simp) _).trans (Dev.answer_sameRegs _ p [] _)
  · refine congrArg (· != 0) (Eq.trans ?_ en)
    rw [stored]
    exact (Dev.get_setReg _ _ _ (fSAPnn_CTL_EN n.val)).trans ((if_pos rfl).trans (Fld.get_merged_within within _ _))
  · rw [← hw]
    rfl
  · rw [← hw]
    rfl
  · have old : (fSAPnn_CTL_EN n.val).get ((s.dev.answer p []).reg (rSAPnn_CTL n.val)) = 0 := bne_eq_false_iff_eq.mp off
    have rise := Dev.atEdge_turned (f := fSAPnn_CTL_EN n.val) (take := w32 0x1373371) (v := w) (s.dev.answer p []) within
      (by rw [old, en]; decide) (·.sapEnable n.val) (·.sapDisable n.val)
    rw [en] at rise
    show s.done (s.dev.busWrite {} p (rSAPnn_CTL n.val) .b32 ((fSAPnn_CTL_EN n.val).put v 1)) = _
    rw [← hw, Dev.busWrite_plain takes (regAt_sapCtl n) (plainReg_sapCtl n), Dev.regStore_free (d := s.dev.answer p [])
      (((s.dev.answer p []).owned_sapCtl n).trans off), writeEffect_sapCtl, stored]
    exact congrArg s.done rise

/-- What the write of SAP_DISABLE leaves before the port acts. -/
structure SapDisabling (d c : Dev) (n : Nat) (p : Port) : Prop where
  kept : Keeps Dev.butPortsIgn [rSAPnn_CTL n, rGLB_IGN_CNT, rGLB_IGN_OVF_CNT] d c
  code : (c.port p).code = 0
  en : c.on (fSAPnn_CTL_EN n) = false
  master : c.on (fSAPnn_CTL_MASTER n) = d.on (fSAPnn_CTL_MASTER n)

theorem ctl_ignRegs (n : Fin 24) : rSAPnn_CTL n.val ∉ [rGLB_IGN_CNT, rGLB_IGN_OVF_CNT] := by revert n; decide

/-- SAP_DISABLE of an enabled port stores EN alone and may be recorded before the port acts. -/
theorem exec_sapDisable {s : State} {n : Fin 24} (takes : s.dev.takes p (rSAPnn_CTL n.val)) (on : s.dev.on (fSAPnn_CTL_EN n.val) = true) :
    ∃ c, SapDisabling s.dev c n.val p ∧ exec (.sapDisable n p v) s = s.done (c.sapDisable n.val) := by
  obtain ⟨w, hw⟩ : ∃ w, w = (fSAPnn_CTL_EN n.val).put v 0 := ⟨_, rfl⟩
  have en : (fSAPnn_CTL_EN n.val).get w = 0 := hw ▸ sapCtl_en (by decide) n.val v
  obtain ⟨-, within, outside⟩ := sapCtl_within n
  obtain ⟨b, hb, write⟩ := Dev.regStore_owned (d := s.dev.answer p []) (m := {}) (p := p) (a := rSAPnn_CTL n.val) (v := w)
    (((s.dev.answer p []).owned_sapCtl n).trans on)
  have kept : Keeps Dev.butPortsIgn [rGLB_IGN_CNT, rGLB_IGN_OVF_CNT] s.dev b ∧ (b.port p).code = 0 := by
    have answered : Keeps Dev.butPortsIgn [rGLB_IGN_CNT, rGLB_IGN_OVF_CNT] s.dev (s.dev.answer p []) := ⟨rfl, s.dev.answer_sameRegs p [] _⟩
    obtain rfl | rfl := hb
    · exact ⟨answered, s.dev.answer_code p []⟩
    · have recorded := Dev.record_sameRegs (s.dev.answer p []) p (rSAPnn_CTL n.val) (ownBlock sapCtlRow (rSAPnn_CTL n.val)) n.val
        (L := [rGLB_IGN_CNT, rGLB_IGN_OVF_CNT]) (by simp) (by simp)
      exact ⟨answered.trans ⟨by rw [Dev.record_frame]; rfl, recorded⟩, by rw [Dev.record_code, Dev.answer_code]⟩
  have ctl : b.reg (rSAPnn_CTL n.val) = s.dev.reg (rSAPnn_CTL n.val) := kept.1.regs _ (ctl_ignRegs n)
  have take : writeMask sapCtlRow w &&& ~~~w32 sapCtlRow.dcls = w32 1 := by
    show w32 0x1373371 &&& ~~~w32 0x1373370 = w32 1
    decide
  have ne : (fSAPnn_CTL_EN n.val).get (s.dev.reg (rSAPnn_CTL n.val)) ≠ (fSAPnn_CTL_EN n.val).get w := by
    rw [en]
    exact bne_iff_ne.mp on
  have fall := Dev.atEdge_turned (f := fSAPnn_CTL_EN n.val) (take := w32 1) b within ne (·.sapEnable n.val) (·.sapDisable n.val)
  rw [en] at fall
  refine ⟨b.setReg (rSAPnn_CTL n.val) (merged (w32 1) (s.dev.reg (rSAPnn_CTL n.val)) w), ⟨⟨kept.1.rest, ?_⟩, kept.2, ?_, ?_⟩, ?_⟩
  · exact (kept.1.regs.mono (by simp)).setReg (by simp) _
  · rw [Dev.on, Dev.get_setReg, if_pos (show rSAPnn_CTL n.val = (fSAPnn_CTL_EN n.val).addr from rfl), Fld.get_merged_within within, en]
    rfl
  · rw [Dev.on, Dev.get_setReg, if_pos (show rSAPnn_CTL n.val = (fSAPnn_CTL_MASTER n.val).addr from rfl), Fld.get_merged_outside outside]
    rfl
  · show s.done (s.dev.busWrite {} p (rSAPnn_CTL n.val) .b32 ((fSAPnn_CTL_EN n.val).put v 0)) = _
    rw [← hw, Dev.busWrite_plain takes (regAt_sapCtl n) (plainReg_sapCtl n), write, writeEffect_sapCtl, take]
    exact congrArg s.done fall

/-! ## The enable -/

theorem Dev.sapSilent_keeps (d : Dev) (n : Nat) (L : List Nat) : Keeps (Dev.sapView n) L d (d.sapSilent n) :=
  d.setSap_keeps (x := { d.sapOf n with fadeIn := .silent none, fadeOut := .silent none }) rfl rfl rfl rfl L

/-- A port as its enable begins it: the mask in force and the commands that wait are left. -/
def SapSt.begun (x : SapSt) : SapSt :=
  { mask := x.mask, dir := x.dir, ch := x.ch.map fun e => (e.1, { e.2 with raw := [], done := [] }) }

/-- The port begun, its refusal cleared (R258). -/
def Dev.sapBegin (d : Dev) (n : Nat) : Dev :=
  (d.puts [(fSAPnn_STS_CFG_ERR n, 0), (fSAPnn_STS_ERR_CODE n, 0)]).setSap n (d.sapOf n).begun

/-- The lane pairs of the mask claim their ball groups, and those refused leave it and the mask in force (R271). -/
def Dev.sapRemask (d : Dev) (n : Nat) (x : SapSt) : Dev :=
  let c := d.sapClaims n (d.get (fSAPnn_SLOT_MASK_MASK n))
  (c.2.put (fSAPnn_SLOT_MASK_MASK n) c.1).sapSetMask n (x.mask &&& ~~~(BitVec.ofNat 8 (d.get (fSAPnn_SLOT_MASK_MASK n) - c.1))) x.dir

theorem Dev.sapEnable_good (d : Dev) (n : Nat) (good : d.sapCheck n = 0) :
    d.sapEnable n = if ((d.sapBegin n).sapRemask n (d.sapOf n)).sapBypass n then (d.sapBegin n).sapRemask n (d.sapOf n)
      else ((d.sapBegin n).sapRemask n (d.sapOf n)).sapSilent n := by
  unfold Dev.sapEnable
  simp only [good]
  rfl

/-- What a port begun shows: its refusal cleared, no frame counted. -/
structure SapBegun (d e : Dev) (n : Nat) : Prop where
  kept : Keeps Dev.butSap [rSAPnn_STS n] d e
  counts : e.sapCounts n = ([], false, 0, false)
  cfgErr : e.on (fSAPnn_STS_CFG_ERR n) = false

theorem Dev.sapBegin_begun (d : Dev) (n : Nat) : SapBegun d (d.sapBegin n) n := by
  obtain ⟨a, ha⟩ : ∃ a, a = d.puts [(fSAPnn_STS_CFG_ERR n, 0), (fSAPnn_STS_ERR_CODE n, 0)] := ⟨_, rfl⟩
  have shown : Keeps Dev.butRegs [rSAPnn_STS n] d a := by
    rw [ha]
    exact d.puts_keeps (by simp [fSAPnn_STS_CFG_ERR, fSAPnn_STS_ERR_CODE, rSAPnn_STS])
  have cleared : a.on (fSAPnn_STS_CFG_ERR n) = false := by
    rw [ha]
    refine congrArg (· != 0) (Dev.get_puts ?_ ?_ List.mem_cons_self d)
    · simp [Fld.ok, fSAPnn_STS_CFG_ERR, fSAPnn_STS_ERR_CODE]
    · simp [Fld.apart, fSAPnn_STS_CFG_ERR, fSAPnn_STS_ERR_CODE]
  rw [Dev.sapBegin, ← ha]
  refine ⟨⟨(Dev.butSap_of_butRegs shown.rest : a.butSap = d.butSap), shown.regs.of_regs rfl⟩, ?_, cleared⟩
  rw [Dev.sapCounts, Dev.sapOf_setSap_same]
  rfl

theorem sts_maskRegs (n : Fin 24) : rSAPnn_STS n.val ∉ rSAPnn_SLOT_MASK n.val :: sapPinRegs := by revert n; decide

/-- A mask that loses refused pairs leaves what counts the frames, and CFG_ERR. -/
theorem Dev.sapRemask_keeps (d : Dev) (n : Fin 24) (x : SapSt) :
    Keeps (Dev.sapView n) (rSAPnn_STS n :: rSAPnn_SLOT_MASK n :: sapPinRegs) d (d.sapRemask n x) ∧
      (d.sapRemask n x).on (fSAPnn_STS_CFG_ERR n) = d.on (fSAPnn_STS_CFG_ERR n) := by
  have claimed := d.sapClaims_keeps n (d.get (fSAPnn_SLOT_MASK_MASK n))
  obtain ⟨m, k, claims⟩ : ∃ m k, d.sapClaims n (d.get (fSAPnn_SLOT_MASK_MASK n)) = (m, k) := ⟨_, _, rfl⟩
  rw [claims] at claimed
  rw [Dev.sapRemask, claims]
  have written : Keeps Dev.butRegs (rSAPnn_SLOT_MASK n :: sapPinRegs) d (k.put (fSAPnn_SLOT_MASK_MASK n) m) :=
    (claimed.mono (List.subset_cons_self ..)).trans ⟨rfl, (Dev.sameRegs.refl k _).put (f := fSAPnn_SLOT_MASK_MASK n) List.mem_cons_self m⟩
  have force := (k.put (fSAPnn_SLOT_MASK_MASK n) m).sapSetMask_inForce n (x.mask &&& ~~~(BitVec.ofNat 8 (d.get (fSAPnn_SLOT_MASK_MASK n) - m))) x.dir
  exact ⟨((written.sapView n).mono (List.subset_cons_self ..)).trans (force.kept.mono (by simp)),
    (force.flags 15 (by decide) (by decide)).trans (written.regs.on (f := fSAPnn_STS_CFG_ERR n) (sts_maskRegs n))⟩

/-- What the enable of a port that passes the checks leaves. -/
structure SapEnabled (d e : Dev) (n : Nat) : Prop where
  kept : Keeps Dev.butSap (rSAPnn_STS n :: rSAPnn_SLOT_MASK n :: sapPinRegs) d e
  counts : e.sapCounts n = ([], false, 0, false)
  cfgErr : e.on (fSAPnn_STS_CFG_ERR n) = false

/-- What a step that leaves the frames and CFG_ERR makes of a port begun. -/
theorem SapBegun.enabled {b : Dev} (h : SapBegun d b n) (left : Keeps (Dev.sapView n) (rSAPnn_STS n :: rSAPnn_SLOT_MASK n :: sapPinRegs) b e)
    (flag : e.on (fSAPnn_STS_CFG_ERR n) = b.on (fSAPnn_STS_CFG_ERR n)) : SapEnabled d e n :=
  ⟨(h.kept.mono (by simp)).trans (left.part Prod.fst), (congrArg Prod.snd left.rest).trans h.counts, flag.trans h.cfgErr⟩

theorem Dev.sapEnable_enabled (d : Dev) (n : Fin 24) (good : d.sapCheck n = 0) : SapEnabled d (d.sapEnable n.val) n.val := by
  have begun := d.sapBegin_begun n
  obtain ⟨masked, flag⟩ := (d.sapBegin n).sapRemask_keeps n (d.sapOf n)
  obtain ⟨m, hm⟩ : ∃ m, m = (d.sapBegin n).sapRemask n (d.sapOf n) := ⟨_, rfl⟩
  rw [← hm] at masked flag
  rw [d.sapEnable_good n good, ← hm]
  split
  · exact begun.enabled masked flag
  · exact begun.enabled (masked.trans (m.sapSilent_keeps n _)) flag

/-- What `Dev.sapBypass` reads. -/
theorem Dev.sapBypass_congr {L : List Nat} (h : d.sameRegs e L) (ctl : rSAPnn_CTL n ∉ L) (house : fMCG_HOUSE_HOUSE.addr ∉ L) :
    e.sapBypass n = d.sapBypass n := by
  rw [Dev.sapBypass, Dev.sapBypass, h.on (f := fSAPnn_CTL_MASTER n) ctl, h.get (f := fSAPnn_CTL_MCG n) ctl, h.get (f := fSAPnn_CTL_DIV n) ctl,
    h.get house]

theorem enableRegs_apart (n : Fin 24) : rSAPnn_CTL n.val ∉ rSAPnn_STS n.val :: rSAPnn_SLOT_MASK n.val :: sapPinRegs ∧
    fMCG_HOUSE_HOUSE.addr ∉ rSAPnn_STS n.val :: rSAPnn_SLOT_MASK n.val :: sapPinRegs := by revert n; decide

/-- SAPnn_STS shows whether the port is bypassed. -/
theorem Dev.regValue_sapSts (d : Dev) (n : Fin 24) :
    (fSAPnn_STS_BYPASS n.val).get (d.regValue (rSAPnn_STS n.val)) = (d.sapBypass n.val).toNat := by
  have block : blockOf (rSAPnn_STS n.val) = 10 := by revert n; decide
  have inst : (rSAPnn_STS n.val - 0x0C0000) / 0x400 = n.val := by simp only [rSAPnn_STS]; omega
  have value : d.regValue (rSAPnn_STS n.val) = (fSAPnn_STS_BYPASS n.val).put (d.reg (rSAPnn_STS n.val)) (d.sapBypass n.val).toNat := by
    simp only [Dev.regValue, block, inst, n.isLt, and_self, if_true]
  rw [value, Fld.get_put (fSAPnn_STS_BYPASS n.val) (by decide : 9 + 1 ≤ 32)]
  cases d.sapBypass n.val <;> rfl

/-- A port that passes the checks (R256, R258). -/
theorem sapEnable_completes (s : State) (n : Fin 24) (p : Port) (v : Word) (calm : s.dev.calm = true)
    (takes : s.dev.takes p (rSAPnn_CTL n.val)) (off : s.dev.on (fSAPnn_CTL_EN n.val) = false)
    (good : (s.dev.stored (rSAPnn_CTL n.val) ((fSAPnn_CTL_EN n.val).put v 1)).sapCheck n.val = 0) :
    Completes (.sapEnable n p v) s fun d =>
      d.on (fSAPnn_CTL_EN n.val) = true ∧
      d.on (fSAPnn_STS_CFG_ERR n.val) = false ∧
      (fSAPnn_STS_BYPASS n.val).get (d.regValue (rSAPnn_STS n.val)) = ((s.dev.stored (rSAPnn_CTL n.val) ((fSAPnn_CTL_EN n.val).put v 1)).sapBypass n.val).toNat ∧
      (d.sapOf n.val).ending = false ∧
      (d.sapOf n.val).frames = [] ∧
      (d.sapOf n.val).f = 0 ∧
      (d.sapOf n.val).seen = false ∧
      (d.port p).code = 0 ∧
      s.dev.sameRegs d [rSAPnn_CTL n.val, rSAPnn_STS n.val, rSAPnn_SLOT_MASK n.val, rPIN_CONFLICT, rPIN_GRPnn_OWNER 8, rPIN_GRPnn_OWNER 9, rPIN_GRPnn_OWNER 10, rPIN_GRPnn_OWNER 11] ∧
      d = { s.dev with regs := d.regs, ports := d.ports, sap := d.sap, irqA := d.irqA, irqB := d.irqB } := by
  obtain ⟨c, written, hx⟩ := exec_sapEnable (v := v) takes off
  have enabled := c.sapEnable_enabled n (written.check.trans good)
  obtain ⟨e, he⟩ : ∃ e, e = c.sapEnable n := ⟨_, rfl⟩
  rw [← he] at hx enabled
  obtain ⟨frames, ending, f, seen⟩ : _ ∧ _ ∧ _ ∧ _ := by simpa only [Dev.sapCounts, Prod.mk.injEq] using enabled.counts
  obtain ⟨ctl, house⟩ := enableRegs_apart n
  have keeps : Keeps Dev.butPortsSap (rSAPnn_CTL n :: rSAPnn_STS n :: rSAPnn_SLOT_MASK n :: sapPinRegs) s.dev e :=
    ((written.kept.mono (by simp)).part fun x : Dev => { x with sap := [] }).trans
      ((enabled.kept.mono (List.subset_cons_self ..)).part fun x : Dev => { x with ports := [] })
  refine completes_of_sameRegs hx calm keeps.regs (apart_of_subset (calmRegs_sap n) (by simp [sapRegs, sapPinRegs])) (congrArg (·.calmPart) keeps.rest)
    ⟨?_, enabled.cfgErr, ?_, ending, frames, f, seen, ?_, keeps.regs.showIrq, Dev.showIrq_of_butPortsSap keeps.rest⟩
  · exact (enabled.kept.regs.on (f := fSAPnn_CTL_EN n) ctl).trans written.en
  · rw [Dev.regValue_sapSts, ← written.bypass, ← Dev.sapBypass_congr enabled.kept.regs ctl house]
    rfl
  · rw [Dev.showIrq_port, Dev.port_congr (congrArg (·.ports) enabled.kept.rest : e.ports = c.ports), written.code]

/-! ## The refusal -/

theorem Dev.sapCheck_le (d : Dev) (n : Nat) : d.sapCheck n ≤ 5 := by
  unfold Dev.sapCheck
  dsimp only
  split_ifs <;> omega

/-- What a refused port is set to: EN back to 0, and the code of the condition that it fails. -/
def sapRefusal (n code : Nat) : List (Fld × Nat) := [(fSAPnn_CTL_EN n, 0), (fSAPnn_STS_CFG_ERR n, 1), (fSAPnn_STS_ERR_CODE n, code)]

theorem Dev.sapEnable_bad (d : Dev) (n : Nat) (bad : d.sapCheck n ≠ 0) :
    d.sapEnable n = (d.puts (sapRefusal n (d.sapCheck n))).inc rSAP_REFUSE_CNT := by
  obtain ⟨k, hk⟩ := Nat.exists_eq_succ_of_ne_zero bad
  unfold Dev.sapEnable
  simp only [hk]
  rfl

theorem sapRefusal_get (d : Dev) (n code : Nat) {f : Fld} {x : Nat} (h : (f, x) ∈ sapRefusal n code) :
    (d.puts (sapRefusal n code)).get f = x % 2 ^ f.width := by
  refine Dev.get_puts ?_ ?_ h d
  · simp [sapRefusal, Fld.ok, fSAPnn_CTL_EN, fSAPnn_STS_CFG_ERR, fSAPnn_STS_ERR_CODE]
  · simp [sapRefusal, Fld.apart, fSAPnn_CTL_EN, fSAPnn_STS_CFG_ERR, fSAPnn_STS_ERR_CODE]

theorem refuseCnt_ne (n : Fin 24) : rSAP_REFUSE_CNT ≠ rSAPnn_CTL n.val ∧ rSAP_REFUSE_CNT ≠ rSAPnn_STS n.val := by revert n; decide

/-- A port that fails a check (R258). -/
theorem sapEnable_refused_completes (s : State) (n : Fin 24) (p : Port) (v : Word) (calm : s.dev.calm = true)
    (takes : s.dev.takes p (rSAPnn_CTL n.val)) (off : s.dev.on (fSAPnn_CTL_EN n.val) = false)
    (bad : (s.dev.stored (rSAPnn_CTL n.val) ((fSAPnn_CTL_EN n.val).put v 1)).sapCheck n.val ≠ 0) :
    Completes (.sapEnable n p v) s fun d =>
      d.on (fSAPnn_CTL_EN n.val) = false ∧
      d.on (fSAPnn_STS_CFG_ERR n.val) = true ∧
      d.get (fSAPnn_STS_ERR_CODE n.val) = (s.dev.stored (rSAPnn_CTL n.val) ((fSAPnn_CTL_EN n.val).put v 1)).sapCheck n.val ∧
      (d.reg rSAP_REFUSE_CNT).toNat = min ((s.dev.reg rSAP_REFUSE_CNT).toNat + 1) (2 ^ 32 - 1) ∧
      (d.port p).code = 0 ∧
      s.dev.sameRegs d [rSAPnn_CTL n.val, rSAPnn_STS n.val, rSAP_REFUSE_CNT] ∧
      d = { s.dev with regs := d.regs, ports := d.ports, irqA := d.irqA, irqB := d.irqB } := by
  obtain ⟨c, written, hx⟩ := exec_sapEnable (v := v) takes off
  rw [← written.check] at bad ⊢
  obtain ⟨k, hk⟩ : ∃ k, k = c.puts (sapRefusal n (c.sapCheck n)) := ⟨_, rfl⟩
  obtain ⟨e, he⟩ : ∃ e, e = k.inc rSAP_REFUSE_CNT := ⟨_, rfl⟩
  rw [Dev.sapEnable_bad c n bad, ← hk, ← he] at hx
  obtain ⟨ctl, sts⟩ := refuseCnt_ne n
  have refused : Keeps Dev.butRegs [rSAPnn_CTL n, rSAPnn_STS n] c k :=
    hk ▸ c.puts_keeps (by simp [sapRefusal, fSAPnn_CTL_EN, fSAPnn_STS_CFG_ERR, fSAPnn_STS_ERR_CODE, rSAPnn_CTL, rSAPnn_STS])
  have counted : Keeps Dev.butRegs [rSAP_REFUSE_CNT] k e := he ▸ k.inc_keeps _
  have get : ∀ f : Fld, f.addr = rSAPnn_CTL n ∨ f.addr = rSAPnn_STS n → e.get f = k.get f := fun f ha => by
    rw [he]
    exact Dev.get_inc_ne _ _ _ (by obtain ha | ha := ha <;> rw [ha] <;> assumption)
  have left : Keeps Dev.butRegs [rSAPnn_CTL n, rSAPnn_STS n, rSAP_REFUSE_CNT] c e := (refused.mono (by simp)).trans (counted.mono (by simp))
  have keeps : Keeps Dev.butRegsPorts [rSAPnn_CTL n, rSAPnn_STS n, rSAP_REFUSE_CNT] s.dev e :=
    (written.kept.mono (by simp)).trans (left.part fun x : Dev => { x with ports := [] })
  refine completes_of_sameRegs hx calm keeps.regs (apart_of_subset (calmRegs_sap n) (by simp [sapRegs])) (congrArg (·.calmPart) keeps.rest)
    ⟨?_, ?_, ?_, ?_, ?_, keeps.regs.showIrq, Dev.showIrq_of_butRegsPorts keeps.rest⟩
  · rw [Dev.showIrq_on, Dev.on, get _ (Or.inl rfl), hk, sapRefusal_get c n _ (x := 0) (by simp [sapRefusal])]
    rfl
  · rw [Dev.showIrq_on, Dev.on, get _ (Or.inr rfl), hk, sapRefusal_get c n _ (x := 1) (by simp [sapRefusal])]
    rfl
  · rw [Dev.showIrq_get, get _ (Or.inr rfl), hk, sapRefusal_get c n _ (x := c.sapCheck n) (by simp [sapRefusal])]
    exact Nat.mod_eq_of_lt (lt_of_le_of_lt (c.sapCheck_le n) (show 5 < 16 by decide))
  · rw [Dev.showIrq_reg, he, Dev.reg_inc_same, refused.regs _ (by simp [ctl, sts]), written.kept.regs _ (by simp [ctl])]
  · rw [Dev.showIrq_port, Dev.port_congr (congrArg (·.ports) left.rest : e.ports = c.ports), written.code]

end Sys2Proof.Machine
end

section
/-! Disabling a serial port (R272): the commands that wait end, and the port ends with the frame in progress. -/

namespace Sys2Proof.Machine

open Sys2Proof

variable {d e : Dev} {p : Port} {v : Word} {n c : Nat}

/-! ## The channels end -/

/-- What the ramp of channel `c` owes and what waits on it takes effect. -/
def Dev.sapPaid (d : Dev) (n c : Nat) : Dev := (d.sapBits n c ((d.sapOf n).chan c).owed).sapTake n c

/-- Channel `c` at rest. -/
def Dev.sapStill (d : Dev) (n c : Nat) : Dev := (d.sapPaid n c).setSapCh n c { ((d.sapPaid n c).sapOf n).chan c with ramp := none }

/-- Every channel of port `n` at rest. -/
def Dev.sapQuiet (d : Dev) (n : Nat) : Dev := (List.range 16).foldl (fun d c => d.sapStill n c) d

theorem Dev.sapStill_keeps (d : Dev) (n : Nat) (hc : c < 16) : Keeps (Dev.butChan n c) (chanRegs n) d (d.sapStill n c) :=
  ((d.sapBits_keeps n hc _).trans (Dev.sapTake_keeps _ n hc)).trans (Dev.setSapCh_keeps ..)

theorem Dev.sapStill_pend (d : Dev) (n : Nat) (hc : c < 16) : (d.sapStill n c).on (fSapPend n c) = false :=
  (Dev.on_setSapCh ..).trans (Dev.sapTake_pend _ n hc)

theorem Dev.sapQuiet_keeps (d : Dev) (n : Nat) : Keeps (Dev.sapView n) (chanRegs n) d (d.sapQuiet n) :=
  Keeps.foldl _ _ (fun _ hc x => (x.sapStill_keeps n (List.mem_range.mp hc)).ofChan) d

theorem Dev.sapQuiet_pend (d : Dev) (n : Nat) (hc : c < 16) : (d.sapQuiet n).on (fSapPend n c) = false := by
  refine foldl_reaches (fun _ => True) (fun x => x.on (fSapPend n c) = false) _ (List.mem_range.mpr hc) List.nodup_range
    (fun _ _ _ _ h => h) (fun x _ => x.sapStill_pend n hc) (fun k hk ne x clear => ?_) trivial
  have others := (x.sapStill_keeps n (List.mem_range.mp hk)).chanView hc ne.symm
  exact (congrArg (·.2.2.2) others).trans clear

/-- The bits of CH_PEND are those of the sixteen channels. -/
theorem pendMask_bits : ∀ i < 32, (0x00FF00FF : Word).getLsbD i = true → ∃ c < 16, c % 8 + 16 * (c / 8) = i := by decide

/-- A device on which no channel of port `n` waits shows none in CH_PEND. -/
theorem Dev.pend_zero (h : ∀ c < 16, d.on (fSapPend n c) = false) : d.reg (rSAPnn_CH_PEND n) &&& 0x00FF00FF = 0 := by
  refine BitVec.eq_of_getLsbD_eq fun i hi => ?_
  refine (BitVec.getLsbD_and ..).trans (Eq.trans ?_ BitVec.getLsbD_zero.symm)
  cases set : (0x00FF00FF : Word).getLsbD i with
  | false => exact Bool.and_false _
  | true =>
    obtain ⟨c, hc, rfl⟩ := pendMask_bits i hi set
    have clear : (d.reg (rSAPnn_CH_PEND n)).toNat / 2 ^ (c % 8 + 16 * (c / 8)) % 2 = 0 := bne_eq_false_iff_eq.mp (h c hc)
    rw [Bool.and_true, BitVec.getLsbD, Nat.testBit_eq_decide_div_mod_eq, clear]
    rfl

/-! ## The port leaves its generator -/

/-- The port with its channels at rest, no longer behind its generator. -/
def Dev.sapLeft (d : Dev) (n : Nat) : Dev := (d.sapQuiet n).unfollow ((d.sapQuiet n).get (fSAPnn_CTL_MCG n)) (.sap (Fin.ofNat 24 n))

/-- A frame of the port is in progress (R272). -/
def Dev.sapOpen (d : Dev) (n : Nat) : Bool :=
  d.on (fSAPnn_STS_RUN n) && d.domOn (5 + n / 6) &&
    (if d.on (fSAPnn_CTL_MASTER n) then !(d.sapOf n).frames.isEmpty else !d.on (fSAPnn_STS_CLK_LOSS n))

theorem Dev.sapDisable_eq (d : Dev) (n : Nat) : d.sapDisable n =
    if (d.sapLeft n).sapOpen n then (d.sapLeft n).setSap n { (d.sapLeft n).sapOf n with frames := ((d.sapLeft n).sapOf n).frames.take 1, ending := true }
    else (d.sapLeft n).sapOff n := rfl

/-- The device but for its registers, serial ports and paths of ticks, and the frames opened of port `n`. -/
def Dev.leftView (n : Nat) (d : Dev) : Dev × List Word64 := ({ d with regs := [], sap := [], ticks := [] }, (d.sapOf n).frames)

theorem Dev.sapLeft_keeps (d : Dev) (n : Nat) : Keeps (Dev.leftView n) (chanRegs n) d (d.sapLeft n) := by
  have left := (d.sapQuiet n).unfollow_keeps ((d.sapQuiet n).get (fSAPnn_CTL_MCG n)) (.sap (Fin.ofNat 24 n))
  have quiet := (d.sapQuiet_keeps n).part fun x : Dev × List Word64 × Bool × Nat × Bool => (({ x.1 with ticks := [] } : Dev), x.2.1)
  rw [Dev.sapLeft]
  exact quiet.trans ((left.mono (List.nil_subset _)).part fun x : Dev => (({ x with sap := [] } : Dev), (x.sapOf n).frames))

theorem Dev.sapLeft_pend (d : Dev) (n : Nat) : (d.sapLeft n).reg (rSAPnn_CH_PEND n) &&& 0x00FF00FF = 0 := by
  have left := (d.sapQuiet n).unfollow_keeps ((d.sapQuiet n).get (fSAPnn_CTL_MCG n)) (.sap (Fin.ofNat 24 n))
  rw [Dev.sapLeft, left.regs _ List.not_mem_nil]
  exact Dev.pend_zero fun c hc => d.sapQuiet_pend n hc

/-- What `Dev.sapOpen` reads. -/
theorem Dev.sapOpen_congr {L : List Nat} (h : d.sameRegs e L) (frames : (e.sapOf n).frames = (d.sapOf n).frames) (sts : rSAPnn_STS n ∉ L)
    (dom : rPWR_DOMk_STS (5 + n / 6) ∉ L) (master : e.on (fSAPnn_CTL_MASTER n) = d.on (fSAPnn_CTL_MASTER n)) : e.sapOpen n = d.sapOpen n := by
  rw [Dev.sapOpen, Dev.sapOpen, h.on (f := fSAPnn_STS_RUN n) sts, h.on (f := fSAPnn_STS_CLK_LOSS n) sts, Dev.domOn_congr h dom, master, frames]

/-! ## The port ends -/

/-- The flags that the end of a port clears. -/
def sapFlags (n : Nat) : List Fld := [fSAPnn_STS_RUN n, fSAPnn_STS_ASRC_LOCK n, fSAPnn_STS_RESYNC n, fSAPnn_STS_CLK_LOSS n, fSAPnn_STS_RATIO_ERR n]

/-- What is left of a port that has ended. -/
def SapSt.ended (x : SapSt) : SapSt := { mask := x.mask, dir := x.dir, f := x.f, ch := x.ch }

theorem Dev.sapOff_eq (d : Dev) (n : Nat) : d.sapOff n =
    ((d.setSap n (d.sapOf n).ended).puts ((sapFlags n).map fun f => (f, 0))).sapRelease n fun _ => true := by
  rw [Dev.sapOff]
  simp only [Dev.sapRelease, if_true] <;> rfl

/-- What the end of a port leaves (R272). -/
structure SapEnded (d e : Dev) (n : Nat) : Prop where
  kept : Keeps Dev.butSap (rSAPnn_STS n :: sapPinRegs) d e
  port : e.sapOf n = (d.sapOf n).ended
  flags : ∀ f ∈ sapFlags n, e.on f = false

theorem sapFlags_sts (n : Nat) : ∀ f ∈ sapFlags n, f.addr = rSAPnn_STS n ∧ f.ok := by
  simp [sapFlags, Fld.ok, fSAPnn_STS_RUN, fSAPnn_STS_ASRC_LOCK, fSAPnn_STS_RESYNC, fSAPnn_STS_CLK_LOSS, fSAPnn_STS_RATIO_ERR, rSAPnn_STS]

theorem sapFlags_apart (n : Nat) : ((sapFlags n).map fun f => (f, 0)).Pairwise fun x y : Fld × Nat => y.1.apart x.1 := by
  simp [sapFlags, Fld.apart, fSAPnn_STS_RUN, fSAPnn_STS_ASRC_LOCK, fSAPnn_STS_RESYNC, fSAPnn_STS_CLK_LOSS, fSAPnn_STS_RATIO_ERR]

theorem Dev.sapOff_ended (d : Dev) (n : Fin 24) : SapEnded d (d.sapOff n.val) n.val := by
  obtain ⟨x, hx⟩ : ∃ x, x = d.setSap n (d.sapOf n).ended := ⟨_, rfl⟩
  obtain ⟨y, hy⟩ : ∃ y, y = x.puts ((sapFlags n).map fun f => (f, 0)) := ⟨_, rfl⟩
  have cleared : Keeps Dev.butRegs [rSAPnn_STS n] x y := hy ▸ x.puts_keeps fun z hz => by
    obtain ⟨f, hf, rfl⟩ := List.mem_map.mp hz
    exact List.mem_singleton.mpr (sapFlags_sts n f hf).1
  have released := y.sapRelease_keeps n fun _ => true
  rw [Dev.sapOff_eq, ← hx, ← hy]
  have stored : Keeps Dev.butSap [rSAPnn_STS n] d x := hx ▸ Keeps.of_regs rfl rfl
  refine ⟨?_, ?_, fun f hf => ?_⟩
  · have first := stored.trans (cleared.part fun z : Dev => { z with sap := [] })
    exact (first.mono (by simp)).trans ((released.mono (List.subset_cons_self ..)).part fun z : Dev => { z with sap := [] })
  · rw [Dev.sapOf_of_butRegs released.rest, Dev.sapOf_of_butRegs cleared.rest, hx, Dev.sapOf_setSap_same]
  · obtain ⟨sts, -⟩ := sapFlags_sts n f hf
    rw [released.regs.on (f := f) (by rw [sts]; exact sts_sapPinRegs n), hy]
    refine congrArg (· != 0) (Dev.get_puts (v := 0) (fun z hz => ?_) (sapFlags_apart n) (List.mem_map_of_mem hf) x)
    obtain ⟨g, hg, rfl⟩ := List.mem_map.mp hz
    exact (sapFlags_sts n g hg).2

/-! ## The command -/

/-- The device but for its registers, ports, ignore records, serial ports and paths of ticks. -/
def Dev.butDisable (d : Dev) : Dev := { d with regs := [], ports := [], ign := [], sap := [], ticks := [] }

theorem Dev.showIrq_of_butDisable (h : e.butDisable = d.butDisable) :
    e.showIrq = { d with regs := e.showIrq.regs, ports := e.showIrq.ports, sap := e.showIrq.sap, ign := e.showIrq.ign, ticks := e.showIrq.ticks, irqA := e.showIrq.irqA, irqB := e.showIrq.irqB } :=
  congrArg (fun x : Dev => { x with regs := e.regs, ports := e.ports, ign := e.ign, sap := e.sap, ticks := e.ticks, irqA := e.irqPinA, irqB := e.irqPinB }) h

/-- The registers that the write of SAP_DISABLE and the end of the channels change. -/
def disableRegs (n : Nat) : List Nat := [rSAPnn_CTL n, rSAPnn_CH_STS n, rSAPnn_CH_PEND n, rGLB_IGN_CNT, rGLB_IGN_OVF_CNT]

theorem disableRegs_apart (n : Fin 24) : rSAPnn_STS n.val ∉ disableRegs n.val ∧ rPWR_DOMk_STS (5 + n.val / 6) ∉ disableRegs n.val := by
  revert n; decide

/-- The port after SAP_DISABLE, before it ends or completes its frame. -/
structure SapDisabled (d c : Dev) (n : Nat) (p : Port) : Prop where
  kept : Keeps Dev.butDisable (disableRegs n) d c
  code : (c.port p).code = 0
  en : c.on (fSAPnn_CTL_EN n) = false
  pend : c.reg (rSAPnn_CH_PEND n) &&& 0x00FF00FF = 0
  frames : (c.sapOf n).frames = (d.sapOf n).frames
  opened : c.sapOpen n = d.sapOpen n

theorem exec_sapDisable_left {s : State} {n : Fin 24} (takes : s.dev.takes p (rSAPnn_CTL n.val)) (on : s.dev.on (fSAPnn_CTL_EN n.val) = true) :
    ∃ c, SapDisabled s.dev c n.val p ∧ exec (.sapDisable n p v) s = s.done
      (if c.sapOpen n then c.setSap n { c.sapOf n with frames := (c.sapOf n).frames.take 1, ending := true } else c.sapOff n) := by
  obtain ⟨b, written, hx⟩ := exec_sapDisable (v := v) takes on
  rw [b.sapDisable_eq n] at hx
  have left := b.sapLeft_keeps n
  have pend := b.sapLeft_pend n
  generalize b.sapLeft n = c at left pend hx
  obtain ⟨sts, dom⟩ := disableRegs_apart n
  have ctl : rSAPnn_CTL n ∉ chanRegs n := ctl_chanRegs n
  have sap : b.sap = s.dev.sap := congrArg (·.sap) written.kept.rest
  have frames : (c.sapOf n).frames = (s.dev.sapOf n).frames := by
    rw [← Dev.sapOf_of_sap sap]
    exact congrArg Prod.snd left.rest
  have kept : Keeps Dev.butDisable (disableRegs n) s.dev c :=
    ((written.kept.mono (by simp [disableRegs])).part fun x : Dev => { x with sap := [], ticks := [] }).trans
      ((left.mono (by simp [chanRegs, disableRegs])).part fun x : Dev × List Word64 => { x.1 with ports := [], ign := [] })
  refine ⟨c, ⟨kept, ?_, ?_, pend, frames, ?_⟩, hx⟩
  · rw [Dev.port_congr (congrArg (·.1.ports) left.rest : c.ports = b.ports), written.code]
  · rw [left.regs.on (f := fSAPnn_CTL_EN n) ctl, written.en]
  · exact Dev.sapOpen_congr kept.regs frames sts dom ((left.regs.on (f := fSAPnn_CTL_MASTER n) ctl).trans written.master)

theorem disableRegs_pins (n : Fin 24) : rSAPnn_CTL n.val ∉ rSAPnn_STS n.val :: sapPinRegs ∧ rSAPnn_CH_PEND n.val ∉ rSAPnn_STS n.val :: sapPinRegs := by
  revert n; decide

/-- A port disabled with no frame in progress ends (R272). -/
theorem sapDisable_ends_completes (s : State) (n : Fin 24) (p : Port) (v : Word) (calm : s.dev.calm = true)
    (takes : s.dev.takes p (rSAPnn_CTL n.val)) (on : s.dev.on (fSAPnn_CTL_EN n.val) = true) (closed : s.dev.sapOpen n.val = false) :
    Completes (.sapDisable n p v) s fun d =>
      d.on (fSAPnn_CTL_EN n.val) = false ∧
      d.on (fSAPnn_STS_RUN n.val) = false ∧
      d.on (fSAPnn_STS_ASRC_LOCK n.val) = false ∧
      d.on (fSAPnn_STS_RESYNC n.val) = false ∧
      d.on (fSAPnn_STS_CLK_LOSS n.val) = false ∧
      d.on (fSAPnn_STS_RATIO_ERR n.val) = false ∧
      d.reg (rSAPnn_CH_PEND n.val) &&& 0x00FF00FF = 0 ∧
      (d.sapOf n.val).frames = [] ∧
      (d.sapOf n.val).rows = [] ∧
      (d.sapOf n.val).lanes = [] ∧
      (d.port p).code = 0 ∧
      s.dev.sameRegs d [rSAPnn_CTL n.val, rSAPnn_STS n.val, rSAPnn_CH_STS n.val, rSAPnn_CH_PEND n.val, rGLB_IGN_CNT, rGLB_IGN_OVF_CNT, rPIN_CONFLICT, rPIN_GRPnn_OWNER 8, rPIN_GRPnn_OWNER 9, rPIN_GRPnn_OWNER 10, rPIN_GRPnn_OWNER 11] ∧
      d = { s.dev with regs := d.regs, ports := d.ports, sap := d.sap, ign := d.ign, ticks := d.ticks, irqA := d.irqA, irqB := d.irqB } := by
  obtain ⟨c, left, hx⟩ := exec_sapDisable_left (v := v) takes on
  rw [if_neg (by rw [left.opened, closed]; exact Bool.false_ne_true)] at hx
  have ended := c.sapOff_ended n
  obtain ⟨e, he⟩ : ∃ e, e = c.sapOff n := ⟨_, rfl⟩
  rw [← he] at hx ended
  obtain ⟨ctl, pend⟩ := disableRegs_pins n
  have keeps : Keeps Dev.butDisable [rSAPnn_CTL n, rSAPnn_STS n, rSAPnn_CH_STS n, rSAPnn_CH_PEND n, rGLB_IGN_CNT, rGLB_IGN_OVF_CNT,
      rPIN_CONFLICT, rPIN_GRPnn_OWNER 8, rPIN_GRPnn_OWNER 9, rPIN_GRPnn_OWNER 10, rPIN_GRPnn_OWNER 11] s.dev e :=
    (left.kept.mono (by simp [disableRegs])).trans
      ((ended.kept.mono (by simp [sapPinRegs])).part fun x : Dev => { x with ports := [], ign := [], ticks := [] })
  obtain ⟨run, lock, resync, loss, ratio⟩ : e.on (fSAPnn_STS_RUN n) = false ∧ e.on (fSAPnn_STS_ASRC_LOCK n) = false ∧
      e.on (fSAPnn_STS_RESYNC n) = false ∧ e.on (fSAPnn_STS_CLK_LOSS n) = false ∧ e.on (fSAPnn_STS_RATIO_ERR n) = false := by
    simpa [sapFlags] using ended.flags
  refine completes_of_sameRegs hx calm keeps.regs (apart_of_subset (calmRegs_sap n) (by simp [sapRegs])) (congrArg (·.calmPart) keeps.rest)
    ⟨?_, run, lock, resync, loss, ratio, ?_, congrArg (·.frames) ended.port, congrArg (·.rows) ended.port, congrArg (·.lanes) ended.port, ?_,
      keeps.regs.showIrq, Dev.showIrq_of_butDisable keeps.rest⟩
  · exact (ended.kept.regs.on (f := fSAPnn_CTL_EN n) ctl).trans left.en
  · rw [Dev.showIrq_reg, ended.kept.regs _ pend, left.pend]
  · rw [Dev.showIrq_port, Dev.port_congr (congrArg (·.ports) ended.kept.rest : e.ports = c.ports), left.code]

/-- A port disabled with a frame in progress completes it (R272). -/
theorem sapDisable_completes_frame (s : State) (n : Fin 24) (p : Port) (v : Word) (calm : s.dev.calm = true)
    (takes : s.dev.takes p (rSAPnn_CTL n.val)) (on : s.dev.on (fSAPnn_CTL_EN n.val) = true) (opened : s.dev.sapOpen n.val = true) :
    Completes (.sapDisable n p v) s fun d =>
      d.on (fSAPnn_CTL_EN n.val) = false ∧
      d.on (fSAPnn_STS_RUN n.val) = true ∧
      d.reg (rSAPnn_CH_PEND n.val) &&& 0x00FF00FF = 0 ∧
      (d.sapOf n.val).ending = true ∧
      (d.sapOf n.val).frames = (s.dev.sapOf n.val).frames.take 1 ∧
      (d.port p).code = 0 ∧
      s.dev.sameRegs d [rSAPnn_CTL n.val, rSAPnn_CH_STS n.val, rSAPnn_CH_PEND n.val, rGLB_IGN_CNT, rGLB_IGN_OVF_CNT] ∧
      d = { s.dev with regs := d.regs, ports := d.ports, sap := d.sap, ign := d.ign, ticks := d.ticks, irqA := d.irqA, irqB := d.irqB } := by
  obtain ⟨c, left, hx⟩ := exec_sapDisable_left (v := v) takes on
  rw [if_pos (by rw [left.opened, opened])] at hx
  obtain ⟨x, hx'⟩ : ∃ x : SapSt, x = { c.sapOf n with frames := (c.sapOf n).frames.take 1, ending := true } := ⟨_, rfl⟩
  rw [← hx'] at hx
  have keeps : Keeps Dev.butDisable (disableRegs n) s.dev (c.setSap n x) := ⟨left.kept.rest, left.kept.regs.of_regs rfl⟩
  have run : s.dev.on (fSAPnn_STS_RUN n) = true := by
    rw [Dev.sapOpen, Bool.and_eq_true, Bool.and_eq_true] at opened
    exact opened.1.1
  refine completes_of_sameRegs hx calm keeps.regs (apart_of_subset (calmRegs_sap n) (by simp [disableRegs, sapRegs])) (congrArg (·.calmPart) keeps.rest)
    ⟨left.en, ?_, left.pend, ?_, ?_, left.code, keeps.regs.showIrq, Dev.showIrq_of_butDisable keeps.rest⟩
  · exact (keeps.regs.on (f := fSAPnn_STS_RUN n) (disableRegs_apart n).1).trans run
  · rw [Dev.showIrq_sapOf, Dev.sapOf_setSap_same, hx']
  · rw [Dev.showIrq_sapOf, Dev.sapOf_setSap_same, hx']
    exact congrArg (List.take 1) left.frames

end Sys2Proof.Machine
end

section
/-! The outputs of a frame of a serial port (R254, R260 to R262): what they leave of the port and of its input channels. -/

namespace Sys2Proof.Machine

open Sys2Proof

variable {d e : Dev} {n i : Nat}

/-- What the outputs of port `n` leave: the device but for registers and ports, what counts the frames, and the input channels. -/
def Dev.sinView (n : Nat) (d : Dev) : (Dev × List Word64 × Bool × Nat × Bool) × (Fin 8 → SapCh) :=
  (d.sapView n, fun k => (d.sapOf n).chan k)

/-- An operation on an output channel leaves the input channels. -/
theorem Keeps.sinView {L : List Nat} (h : Keeps (Dev.butChan n (8 + i)) L d e) : Keeps (Dev.sinView n) L d e := by
  have chans : (fun k : Fin 8 => (e.sapOf n).chan k) = fun k : Fin 8 => (d.sapOf n).chan k :=
    funext fun k => congrArg Prod.fst (h.chanView (by omega) (by omega))
  exact ⟨Prod.ext h.ofChan.rest chans, h.regs⟩

/-- An update of port `n` that leaves what counts its frames, and its channels. -/
theorem Dev.setSap_sin (d : Dev) {x : SapSt} (frames : x.frames = (d.sapOf n).frames) (ending : x.ending = (d.sapOf n).ending)
    (f : x.f = (d.sapOf n).f) (seen : x.seen = (d.sapOf n).seen) (ch : x.ch = (d.sapOf n).ch) (L : List Nat) :
    Keeps (Dev.sinView n) L d (d.setSap n x) := by
  have chans : (fun k : Fin 8 => ((d.setSap n x).sapOf n).chan k) = fun k : Fin 8 => (d.sapOf n).chan k := funext fun k => by
    rw [Dev.sapOf_setSap_same, SapSt.chan, SapSt.chan, ch]
  exact ⟨Prod.ext (d.setSap_keeps frames ending f seen L).rest chans, (d.setSap_keeps frames ending f seen L).regs⟩

theorem Keeps.sinOfRegs {L : List Nat} (h : Keeps Dev.butRegs L d e) (n : Nat) : Keeps (Dev.sinView n) L d e :=
  ⟨by rw [Dev.sinView, Dev.sinView, (h.sapView n).rest, Dev.sapOf_of_butRegs h.rest], h.regs⟩

/-! ## The words of the outputs -/

theorem Dev.sapOut_keeps (d : Dev) (n : Nat) (hi : i < 8) (t : Word64) : Keeps (Dev.butChan n (8 + i)) (sampleRegs n) d (d.sapOut n i t).2 :=
  (d.sapEval_keeps n (by omega)).trans (Dev.setSapCh_keeps ..)

theorem Dev.sapOutConv_keeps (d : Dev) (n : Nat) (hi : i < 8) : Keeps (Dev.butChan n (8 + i)) (sampleRegs n) d (d.sapOutConv n i).2 := by
  obtain ⟨e, he⟩ : ∃ e, e = d.sapEval n (8 + i) := ⟨_, rfl⟩
  have eval : Keeps (Dev.butChan n (8 + i)) (sampleRegs n) d e := he ▸ d.sapEval_keeps n (by omega)
  unfold Dev.sapOutConv
  rw [← he]
  dsimp only
  split
  · exact eval.trans (Dev.setSapCh_keeps ..)
  · split <;> exact eval.trans (Dev.setSapCh_keeps ..)

/-- The sample of output channel `i` in a frame, bypassed with SIDX `t` or converted. -/
def Dev.sapNext (d : Dev) (n i : Nat) : Option Word64 → Option Int × Dev
  | some t => d.sapOut n i t
  | none => d.sapOutConv n i

theorem Dev.sapNext_keeps (d : Dev) (n : Nat) (hi : i < 8) (t : Option Word64) :
    Keeps (Dev.butChan n (8 + i)) (sampleRegs n) d (d.sapNext n i t).2 := by
  cases t with
  | some t => exact d.sapOut_keeps n hi t
  | none => exact d.sapOutConv_keeps n hi

/-- A word counted where it saturated. -/
def Dev.incIf (d : Dev) (b : Bool) (a : Nat) : Dev := if b then d.inc a else d

theorem Dev.incIf_keeps (d : Dev) (b : Bool) (a : Nat) : Keeps Dev.butRegs [a] d (d.incIf b a) := by
  unfold Dev.incIf
  split
  · exact d.inc_keeps a
  · exact Keeps.refl ..

theorem Dev.sapWords_cons (d : Dev) (n f : Nat) (g : Option Int) (t : Option Word64) (p : Nat) (ps : List Nat) (i : Nat) :
    ∃ sat, (d.sapWords n f g t (p :: ps) i).2 = ((((d.sapNext n i t).2.incIf sat (rSAPnn_SAT_CNT n))).sapWords n f g t ps (i + 1)).2 := by
  cases t <;> exact ⟨_, rfl⟩

/-- The registers that the outputs of a frame change. -/
def sendRegs (n : Nat) : List Nat := rSAPnn_SAT_CNT n :: sampleRegs n

theorem Dev.sapWords_keeps (d : Dev) (n f : Nat) (g : Option Int) (t : Option Word64) (ps : List Nat) (hi : i + ps.length ≤ 8) :
    Keeps (Dev.sinView n) (sendRegs n) d (d.sapWords n f g t ps i).2 := by
  induction ps generalizing d i with
  | nil => exact Keeps.refl ..
  | cons p ps ih =>
    rw [List.length_cons] at hi
    obtain ⟨sat, words⟩ := d.sapWords_cons n f g t p ps i
    rw [words]
    have next := (d.sapNext_keeps n (i := i) (by omega) t).sinView.mono (M := sendRegs n) (List.subset_cons_self ..)
    have counted := (((d.sapNext n i t).2.incIf_keeps sat (rSAPnn_SAT_CNT n)).sinOfRegs n).mono (M := sendRegs n) (by simp [sendRegs])
    exact (next.trans counted).trans (ih _ (by omega))

/-! ## The frame -/

theorem Dev.sapDrive_eq (d : Dev) (n : Nat) (ws : List (Nat × Nat)) :
    ∃ lanes carry w, d.sapDrive n ws = d.setSap n { d.sapOf n with lanes := lanes, carry := carry, ws := w } := ⟨_, _, _, rfl⟩

theorem Dev.sapDrive_keeps (d : Dev) (n : Nat) (ws : List (Nat × Nat)) (L : List Nat) : Keeps (Dev.sinView n) L d (d.sapDrive n ws) := by
  obtain ⟨lanes, carry, w, drive⟩ := d.sapDrive_eq n ws
  rw [drive]
  exact d.setSap_sin (x := { d.sapOf n with lanes := lanes, carry := carry, ws := w }) rfl rfl rfl rfl rfl L

/-- Output channel `i` without a position: its samples are evaluated and dropped. -/
def Dev.sapDrop (d : Dev) (n i : Nat) : Dev :=
  (d.sapEval n (8 + i)).setSapCh n (8 + i) { ((d.sapEval n (8 + i)).sapOf n).chan (8 + i) with done := [] }

theorem Dev.sapDrop_keeps (d : Dev) (n : Nat) (hi : i < 8) : Keeps (Dev.butChan n (8 + i)) (sampleRegs n) d (d.sapDrop n i) :=
  (d.sapEval_keeps n (by omega)).trans (Dev.setSapCh_keeps ..)

/-- The port at its next frame: the fade of its outputs one sample on. -/
def Dev.sapStep (d : Dev) (n : Nat) : Dev :=
  d.setSap n { d.sapOf n with fadeOut := (d.fadeStep n (d.sapOf n).fadeOut).2, f := (d.sapOf n).f + 1 }

theorem Dev.sapSend_eq (d : Dev) (n : Nat) (t : Option Word64) :
    ∃ g ws, d.sapSend n t = (((List.range 8).filter (((d.sapOf n).positions true).length ≤ ·)).foldl (fun x i => x.sapDrop n i)
      ((d.sapStep n).sapWords n (d.sapOf n).f g t ((d.sapOf n).positions true) 0).2).sapDrive n ws := ⟨_, _, rfl⟩

/-- What the outputs of a frame leave: the frame is counted, the input channels stay. -/
structure SapSent (d e : Dev) (n : Nat) : Prop where
  kept : Keeps Dev.butSap (sendRegs n) d e
  counts : e.sapCounts n = ((d.sapOf n).frames, (d.sapOf n).ending, (d.sapOf n).f + 1, (d.sapOf n).seen)
  ins : ∀ k < 8, (e.sapOf n).chan k = (d.sapOf n).chan k

theorem Dev.sapSend_sent (d : Dev) (n : Nat) (t : Option Word64) : SapSent d (d.sapSend n t) n := by
  obtain ⟨g, ws, send⟩ := d.sapSend_eq n t
  have few := positions_length_le (d.sapOf n) true
  have words := (d.sapStep n).sapWords_keeps n (d.sapOf n).f g t ((d.sapOf n).positions true) (i := 0) (by omega)
  generalize ((d.sapStep n).sapWords n (d.sapOf n).f g t ((d.sapOf n).positions true) 0).2 = x at send words
  have dropped : Keeps (Dev.sinView n) (sendRegs n) x
      (((List.range 8).filter (((d.sapOf n).positions true).length ≤ ·)).foldl (fun x i => x.sapDrop n i) x) :=
    Keeps.foldl _ _ (fun i hi y => (y.sapDrop_keeps n (List.mem_range.mp (List.mem_of_mem_filter hi))).sinView.mono (List.subset_cons_self ..)) x
  generalize ((List.range 8).filter (((d.sapOf n).positions true).length ≤ ·)).foldl (fun x i => x.sapDrop n i) x = y at send dropped
  have all := (words.trans dropped).trans (y.sapDrive_keeps n ws (sendRegs n))
  rw [← send] at all
  generalize d.sapSend n t = e at all
  obtain ⟨view, chans⟩ := Prod.mk.inj all.rest
  obtain ⟨rest, counts⟩ := Prod.mk.inj view
  refine ⟨⟨rest, ((Dev.sameRegs.refl d _).of_regs rfl).trans all.regs⟩, ?_, fun k hk => ?_⟩
  · rw [counts, Dev.sapStep, Dev.sapCounts, Dev.sapOf_setSap_same]
  · refine (congrFun chans ⟨k, hk⟩).trans ?_
    rw [Dev.sapStep, Dev.sapOf_setSap_same]
    rfl

end Sys2Proof.Machine
end

section
/-! The frames of a slave port (R263, R269, R270): the word-select fault, and the frame that realigns. -/

namespace Sys2Proof.Machine

open Sys2Proof

variable {d e : Dev} {n : Nat}

/-! ## The command -/

/-- No gather waits: none begins. -/
theorem Dev.anvWait_idle (idle : d.anv.waiting = 0) : d.anvWait = d := by
  rw [Dev.anvWait, idle]
  rfl

/-- A frame for whose words no gather waits. -/
theorem exec_sapFrame {s : State} {n : Fin 24} {ws : BitVec 65} {l : List (BitVec 65)} {r : Nat} {b : Bool}
    (frame : s.dev.sapFrame n.val ws.toNat (l.map BitVec.toNat) r b = e) (anv : e.anv = s.dev.anv) (idle : s.dev.anv.waiting = 0) :
    exec (.sapFrame n ws l r b) s = s.done e := by
  show s.done (s.dev.sapFrame n.val ws.toNat (l.map BitVec.toNat) r b).anvWait = _
  rw [frame, Dev.anvWait_idle (by rw [anv, idle])]

/-- A port that works processes frames. -/
theorem Dev.sapRuns_of_on (on : d.sapOn n = true) : d.sapRuns n = true := by
  obtain ⟨en, dom⟩ := Bool.and_eq_true_iff.mp on
  rw [Dev.sapRuns, en, dom]
  rfl

/-- The frame of a slave that does not end. -/
theorem Dev.sapFrame_slave (on : d.sapOn n = true) (slave : d.on (fSAPnn_CTL_MASTER n) = false) (stays : (d.sapOf n).ending = false)
    (ws : Nat) (l : List Nat) (r : Nat) (b : Bool) :
    d.sapFrame n ws l r b = if d.sapValid n ws then d.slaveFrame n (d.sapFrameWords n l) r b else d.slaveFault n := by
  unfold Dev.sapFrame
  simp only [Dev.sapRuns_of_on on, slave, stays, Bool.not_true, Bool.false_eq_true, if_false]

/-! ## The fault -/

/-- What the first word-select fault leaves (R269). -/
structure SapFaulted (d e : Dev) (n : Nat) : Prop where
  regs : e.regs = ((d.inc (rSAPnn_WS_ERR_CNT n)).putB (fSAPnn_STS_RESYNC n) true).regs
  rest : e.butSap = d.butSap
  f : (e.sapOf n).f = if (d.sapOf n).seen then (d.sapOf n).f + 1 else (d.sapOf n).f
  silent : (e.sapOf n).fadeIn = .silent none ∧ (e.sapOf n).fadeOut = .silent none

theorem Dev.butSap_setSap (d : Dev) (n : Nat) (x : SapSt) : (d.setSap n x).butSap = d.butSap := rfl

theorem Dev.slaveFault_faulted (first : d.on (fSAPnn_STS_RESYNC n) = false) : SapFaulted d (d.slaveFault n) n := by
  obtain ⟨k, hk⟩ : ∃ k, k = (d.inc (rSAPnn_WS_ERR_CNT n)).putB (fSAPnn_STS_RESYNC n) true := ⟨_, rfl⟩
  obtain ⟨q, hq⟩ : ∃ q, q = k.sapSilent n := ⟨_, rfl⟩
  obtain ⟨x, hx⟩ : ∃ x : SapSt, x = { q.sapOf n with f := if (q.sapOf n).seen then (q.sapOf n).f + 1 else (q.sapOf n).f } := ⟨_, rfl⟩
  obtain ⟨lanes, carry, w, drive⟩ := (q.setSap n x).sapDrive_eq n []
  have fault : d.slaveFault n = (q.setSap n x).sapDrive n [] := by
    rw [Dev.slaveFault, if_neg (by rw [first]; exact Bool.false_ne_true), ← hk, ← hq, hx]
  have silent : q.sapOf n = { d.sapOf n with fadeIn := .silent none, fadeOut := .silent none } := by
    rw [hq, Dev.sapSilent, Dev.sapOf_setSap_same, hk]
    rfl
  have kept : Keeps Dev.butSap [] k q := hq ▸ (k.sapSilent_keeps n []).part Prod.fst
  have begun : k.butSap = d.butSap := by rw [hk]; rfl
  rw [fault, drive, Dev.sapOf_setSap_same]
  refine ⟨?_, ?_, ?_, ?_⟩
  · rw [← hk]
    exact (congrArg (·.regs) hq : q.regs = k.regs)
  · rw [Dev.butSap_setSap, Dev.butSap_setSap, kept.rest, begun]
  · rw [Dev.sapOf_setSap_same, hx, silent]
  · rw [Dev.sapOf_setSap_same, hx, silent]
    exact ⟨rfl, rfl⟩

theorem fSAPnn_STS_RESYNC_ok (n : Nat) : (fSAPnn_STS_RESYNC n).ok := (by decide : 11 + 1 ≤ 32)

/-- A word select out of place begins a RESYNC (R269). -/
theorem slaveFault_completes (s : State) (n : Fin 24) (ws : BitVec 65) (l : List (BitVec 65)) (r : Nat) (b : Bool) (calm : s.dev.calm = true)
    (on : s.dev.sapOn n.val = true) (slave : s.dev.on (fSAPnn_CTL_MASTER n.val) = false) (stays : (s.dev.sapOf n.val).ending = false)
    (idle : s.dev.anv.waiting = 0) (first : s.dev.on (fSAPnn_STS_RESYNC n.val) = false) (bad : s.dev.sapValid n.val ws.toNat = false) :
    Completes (.sapFrame n ws l r b) s fun d =>
      d.on (fSAPnn_STS_RESYNC n.val) = true ∧
      (d.reg (rSAPnn_WS_ERR_CNT n.val)).toNat = min ((s.dev.reg (rSAPnn_WS_ERR_CNT n.val)).toNat + 1) (2 ^ 32 - 1) ∧
      ((d.sapOf n.val).f = if (s.dev.sapOf n.val).seen then (s.dev.sapOf n.val).f + 1 else (s.dev.sapOf n.val).f) ∧
      (d.sapOf n.val).fadeIn = .silent none ∧
      (d.sapOf n.val).fadeOut = .silent none ∧
      s.dev.sameRegs d [rSAPnn_STS n.val, rSAPnn_WS_ERR_CNT n.val] ∧
      d = { s.dev with regs := d.regs, sap := d.sap, irqA := d.irqA, irqB := d.irqB } := by
  have frame := Dev.sapFrame_slave on slave stays ws.toNat (l.map BitVec.toNat) r b
  rw [if_neg (by rw [bad]; exact Bool.false_ne_true)] at frame
  have faulted := Dev.slaveFault_faulted first
  generalize s.dev.slaveFault n = e at frame faulted
  obtain ⟨regs, rest, f, fadeIn, fadeOut⟩ := faulted
  have same : s.dev.sameRegs e [rSAPnn_STS n, rSAPnn_WS_ERR_CNT n] :=
    (((Dev.sameRegs.refl s.dev _).inc (by simp)).putB (f := fSAPnn_STS_RESYNC n) List.mem_cons_self true).of_regs regs
  have counted : e.reg (rSAPnn_WS_ERR_CNT n) = (s.dev.inc (rSAPnn_WS_ERR_CNT n)).reg (rSAPnn_WS_ERR_CNT n) :=
    (congrArg (kget 0 · (rSAPnn_WS_ERR_CNT n)) regs).trans (Dev.reg_put_ne _ _ (by simp [fSAPnn_STS_RESYNC, rSAPnn_WS_ERR_CNT]))
  refine completes_of_sameRegs (exec_sapFrame frame (congrArg (·.anv) rest) idle) calm same
    (apart_of_subset (calmRegs_sap n) (by simp [sapRegs])) (congrArg (·.calmPart) rest)
    ⟨?_, ?_, f, fadeIn, fadeOut, same.showIrq, Dev.showIrq_of_butSap rest⟩
  · exact (Dev.on_of_regs regs _).trans (Dev.on_putB_same _ (fSAPnn_STS_RESYNC_ok n) rfl true)
  · rw [Dev.showIrq_reg, counted, Dev.reg_inc_same]

/-! ## The valid frame -/

/-- What the steps of a slave's valid frame leave: the device but for registers, ports and free values, what counts the frames, and RUN,
RESYNC and CLK_LOSS. -/
def Dev.frameView (n : Nat) (d : Dev) : Dev × (List Word64 × Bool × Nat × Bool) × Bool × Bool × Bool :=
  ({ d with regs := [], sap := [], free := 0 }, d.sapCounts n, d.on (fSAPnn_STS_RUN n), d.on (fSAPnn_STS_RESYNC n), d.on (fSAPnn_STS_CLK_LOSS n))

theorem Keeps.frameView {L : List Nat} (h : Keeps (Dev.sapView n) L d e)
    (flags : ∀ i ∈ [8, 11, 12], e.on (bitFld (rSAPnn_STS n) i) = d.on (bitFld (rSAPnn_STS n) i)) : Keeps (Dev.frameView n) L d e := by
  obtain ⟨rest, counts⟩ := Prod.mk.inj h.rest
  have run : e.on (fSAPnn_STS_RUN n) = d.on (fSAPnn_STS_RUN n) := flags 8 (by decide)
  have resync : e.on (fSAPnn_STS_RESYNC n) = d.on (fSAPnn_STS_RESYNC n) := flags 11 (by decide)
  have loss : e.on (fSAPnn_STS_CLK_LOSS n) = d.on (fSAPnn_STS_CLK_LOSS n) := flags 12 (by decide)
  have device : ({ e with regs := [], sap := [], free := 0 } : Dev) = { d with regs := [], sap := [], free := 0 } :=
    congrArg (fun x : Dev => { x with free := 0 }) rest
  exact ⟨by rw [Dev.frameView, Dev.frameView, device, counts, run, resync, loss], h.regs⟩

/-- The registers of a slave's frame but for those of its outputs. -/
def frameRegs (n : Nat) : List Nat := rSAPnn_STS n :: rSAPnn_ASRC_RATIO n :: rSAPnn_ASRC_UNLOCK_CNT n :: sapPinRegs

theorem Dev.sapMaskTake_frame (d : Dev) (n : Fin 24) : Keeps (Dev.frameView n) (frameRegs n) d (d.sapMaskTake n) := by
  have taken := d.sapMaskTake_taken n
  exact (taken.kept.frameView fun i hi => taken.flags i (by simp at hi; omega) (by simp at hi; omega)).mono
    (List.cons_subset_cons _ (List.subset_cons_of_subset _ (List.subset_cons_self ..)))

theorem Dev.sapRecentre_frame (d : Dev) (n : Nat) (L : List Nat) : Keeps (Dev.frameView n) L d (d.sapRecentre n) := by
  obtain ⟨x, y, recentre⟩ : ∃ x y, d.sapRecentre n = ({ d with free := d.free + 1 } : Dev).setSap n { d.sapOf n with fadeIn := x, fadeOut := y } :=
    ⟨_, _, rfl⟩
  rw [recentre]
  refine Keeps.of_regs ?_ rfl
  rw [Dev.frameView, Dev.frameView, Dev.sapCounts, Dev.sapOf_setSap_same]
  rfl

theorem Dev.putSts_frame (d : Dev) (n : Nat) {j : Nat} (hj : j < 32) (apart : j ∉ [8, 11, 12]) (b : Bool) :
    Keeps (Dev.frameView n) (frameRegs n) d (d.putB (bitFld (rSAPnn_STS n) j) b) := by
  have put : Keeps Dev.butRegs (frameRegs n) d (d.putB (bitFld (rSAPnn_STS n) j) b) := ⟨rfl, (Dev.sameRegs.refl d _).putB (by simp [bitFld, frameRegs]) b⟩
  exact (put.sapView n).frameView fun i hi => by rw [Dev.on_putB_bit d hj, if_neg fun same : j = i => apart (same ▸ hi)]

/-- An update of registers other than the status of the port. -/
theorem Keeps.frameOfRegs {L : List Nat} (h : Keeps Dev.butRegs L d e) (sts : rSAPnn_STS n ∉ L) : Keeps (Dev.frameView n) L d e :=
  (h.sapView n).frameView fun i _ => h.regs.on (f := bitFld (rSAPnn_STS n) i) sts

theorem Dev.sapSilent_frame (d : Dev) (n : Nat) (L : List Nat) : Keeps (Dev.frameView n) L d (d.sapSilent n) :=
  (d.sapSilent_keeps n L).frameView fun _ _ => rfl

theorem Dev.sapTrack_frame (d : Dev) (n r : Nat) (b : Bool) : Keeps (Dev.frameView n) (frameRegs n) d (d.sapTrack n r b) := by
  have stored : Keeps Dev.butRegs [rSAPnn_ASRC_RATIO n] d (d.setReg (rSAPnn_ASRC_RATIO n) (BitVec.ofNat 32 r)) :=
    ⟨rfl, (Dev.sameRegs.refl d _).setReg List.mem_cons_self _⟩
  have ratio := (stored.frameOfRegs (n := n) (by simp [rSAPnn_STS, rSAPnn_ASRC_RATIO])).mono (M := frameRegs n) (by simp [frameRegs])
  unfold Dev.sapTrack
  generalize d.setReg (rSAPnn_ASRC_RATIO n) (BitVec.ofNat 32 r) = x at ratio
  split
  · exact Keeps.refl ..
  dsimp only
  split
  · have err := x.putSts_frame n (j := 13) (by decide) (by decide) true
    have lock := (x.putB (fSAPnn_STS_RATIO_ERR n) true).putSts_frame n (j := 10) (by decide) (by decide) false
    exact ((ratio.trans err).trans lock).trans (Dev.sapSilent_frame _ n _)
  · split
    · have counted := ((x.sapRecentre n).inc_keeps (rSAPnn_ASRC_UNLOCK_CNT n)).frameOfRegs (n := n) (by simp [rSAPnn_STS, rSAPnn_ASRC_UNLOCK_CNT])
      exact (ratio.trans (x.sapRecentre_frame n _)).trans (counted.mono (by simp [frameRegs]))
    · exact ratio

theorem Dev.sapBuffer_frame (d : Dev) (n : Nat) (words : List Nat) (L : List Nat) : Keeps (Dev.frameView n) L d (d.sapBuffer n words) :=
  (d.setSap_keeps (x := { d.sapOf n with rows := ((d.ft64, d.sapInputs n words) :: (d.sapOf n).rows).take 512 }) rfl rfl rfl rfl L).frameView
    fun _ _ => rfl

/-- The port realigned, its outputs at `fade`. -/
def Dev.sapAligned (d : Dev) (n : Nat) (fade : SapFade) : Dev :=
  (d.puts [(fSAPnn_STS_RESYNC n, 0), (fSAPnn_STS_CLK_LOSS n, 0), (fSAPnn_STS_RUN n, 1)]).setSap n { d.sapOf n with seen := true, fadeOut := fade }

/-- A held mask applied where it waits, and the port re-centred where its converter runs. -/
def Dev.sapRealigned (d : Dev) (n : Nat) (takes : Bool) (centres : Bool) : Dev :=
  if centres then (if takes then d.sapMaskTake n else d).sapRecentre n else if takes then d.sapMaskTake n else d

theorem Dev.slaveFrame_eq (d : Dev) (n : Nat) (words : List Nat) (r : Nat) (b : Bool) : ∃ fade takes centres,
    d.slaveFrame n words r b = ((((d.sapAligned n fade).sapRealigned n takes centres).sapTrack n r b).sapBuffer n words).sapSend n none :=
  ⟨_, _, _, rfl⟩

theorem Dev.sapRealigned_frame (d : Dev) (n : Fin 24) (takes centres : Bool) : Keeps (Dev.frameView n) (frameRegs n) d (d.sapRealigned n takes centres) := by
  have taken : Keeps (Dev.frameView n) (frameRegs n) d (if takes then d.sapMaskTake n else d) := by
    split
    · exact d.sapMaskTake_frame n
    · exact Keeps.refl ..
  unfold Dev.sapRealigned
  split
  · exact taken.trans (Dev.sapRecentre_frame ..)
  · exact taken

/-- What the realignment of a slave leaves: no fault, running. -/
structure SapAligned (d e : Dev) (n : Nat) : Prop where
  kept : Keeps (fun x : Dev => { x.butSap with free := 0 }) (frameRegs n) d e
  counts : e.sapCounts n = ((d.sapOf n).frames, (d.sapOf n).ending, (d.sapOf n).f, true)
  run : e.on (fSAPnn_STS_RUN n) = true
  resync : e.on (fSAPnn_STS_RESYNC n) = false
  loss : e.on (fSAPnn_STS_CLK_LOSS n) = false

theorem Dev.sapAligned_aligned (d : Dev) (n : Nat) (fade : SapFade) : SapAligned d (d.sapAligned n fade) n := by
  obtain ⟨a, ha⟩ : ∃ a, a = d.puts [(fSAPnn_STS_RESYNC n, 0), (fSAPnn_STS_CLK_LOSS n, 0), (fSAPnn_STS_RUN n, 1)] := ⟨_, rfl⟩
  have shown : Keeps Dev.butRegs (frameRegs n) d a :=
    ha ▸ d.puts_keeps (by simp [frameRegs, fSAPnn_STS_RESYNC, fSAPnn_STS_CLK_LOSS, fSAPnn_STS_RUN, rSAPnn_STS])
  have get : ∀ f x, (f, x) ∈ [(fSAPnn_STS_RESYNC n, 0), (fSAPnn_STS_CLK_LOSS n, 0), (fSAPnn_STS_RUN n, 1)] → a.get f = x % 2 ^ f.width := fun f x h => by
    rw [ha]
    refine Dev.get_puts ?_ ?_ h d
    · simp [Fld.ok, fSAPnn_STS_RESYNC, fSAPnn_STS_CLK_LOSS, fSAPnn_STS_RUN]
    · simp [Fld.apart, fSAPnn_STS_RESYNC, fSAPnn_STS_CLK_LOSS, fSAPnn_STS_RUN]
  rw [Dev.sapAligned, ← ha]
  refine ⟨⟨congrArg (fun x : Dev => { x.butSap with free := 0 }) shown.rest, shown.regs.of_regs rfl⟩, ?_, ?_, ?_, ?_⟩
  · rw [Dev.sapCounts, Dev.sapOf_setSap_same]
  · exact congrArg (· != 0) (get (fSAPnn_STS_RUN n) 1 (by simp))
  · exact congrArg (· != 0) (get (fSAPnn_STS_RESYNC n) 0 (by simp))
  · exact congrArg (· != 0) (get (fSAPnn_STS_CLK_LOSS n) 0 (by simp))

theorem SapAligned.trans {f : Dev} (h : SapAligned d e n) (k : Keeps (Dev.frameView n) (frameRegs n) e f) : SapAligned d f n := by
  obtain ⟨rest, counts, run, resync, loss⟩ : _ ∧ _ ∧ _ ∧ _ ∧ _ := by simpa only [Dev.frameView, Prod.mk.injEq] using k.rest
  exact ⟨h.kept.trans ⟨rest, k.regs⟩, counts.trans h.counts, run.trans h.run, resync.trans h.resync, loss.trans h.loss⟩

/-- A slave before the outputs of its valid frame. -/
theorem Dev.slaveFrame_aligned (d : Dev) (n : Fin 24) (words : List Nat) (r : Nat) (b : Bool) :
    ∃ x, SapAligned d x n ∧ d.slaveFrame n words r b = x.sapSend n none := by
  obtain ⟨fade, takes, centres, frame⟩ := d.slaveFrame_eq n words r b
  exact ⟨_, (((d.sapAligned_aligned n fade).trans (Dev.sapRealigned_frame _ n takes centres)).trans (Dev.sapTrack_frame _ n r b)).trans
    (Dev.sapBuffer_frame _ n words _), frame⟩

theorem Dev.showIrq_of_butFree (h : ({ e.butSap with free := 0 } : Dev) = { d.butSap with free := 0 }) :
    e.showIrq = { d with regs := e.showIrq.regs, sap := e.showIrq.sap, free := e.showIrq.free, irqA := e.showIrq.irqA, irqB := e.showIrq.irqB } :=
  congrArg (fun x : Dev => { x with regs := e.regs, sap := e.sap, free := e.free, irqA := e.irqPinA, irqB := e.irqPinB }) h

theorem sts_sendRegs (n : Fin 24) : rSAPnn_STS n.val ∉ sendRegs n.val := by revert n; decide

/-- The first good frame ends a RESYNC and sets RUN (R263, R269, R270). -/
theorem slaveFrame_completes (s : State) (n : Fin 24) (ws : BitVec 65) (l : List (BitVec 65)) (r : Nat) (b : Bool) (calm : s.dev.calm = true)
    (on : s.dev.sapOn n.val = true) (slave : s.dev.on (fSAPnn_CTL_MASTER n.val) = false) (stays : (s.dev.sapOf n.val).ending = false)
    (idle : s.dev.anv.waiting = 0) (good : s.dev.sapValid n.val ws.toNat = true) :
    Completes (.sapFrame n ws l r b) s fun d =>
      d.on (fSAPnn_STS_RESYNC n.val) = false ∧
      d.on (fSAPnn_STS_CLK_LOSS n.val) = false ∧
      d.on (fSAPnn_STS_RUN n.val) = true ∧
      (d.sapOf n.val).f = (s.dev.sapOf n.val).f + 1 ∧
      (d.sapOf n.val).seen = true ∧
      s.dev.sameRegs d [rSAPnn_STS n.val, rSAPnn_ASRC_RATIO n.val, rSAPnn_ASRC_UNLOCK_CNT n.val, rSAPnn_SAT_CNT n.val, rSAPnn_CH_STS n.val, rSAPnn_CH_PEND n.val, rSAPnn_ZC_TO_CNT n.val, rPIN_CONFLICT, rPIN_GRPnn_OWNER 8, rPIN_GRPnn_OWNER 9, rPIN_GRPnn_OWNER 10, rPIN_GRPnn_OWNER 11] ∧
      d = { s.dev with regs := d.regs, sap := d.sap, free := d.free, irqA := d.irqA, irqB := d.irqB } := by
  obtain ⟨x, aligned, frame⟩ := s.dev.slaveFrame_aligned n (s.dev.sapFrameWords n (l.map BitVec.toNat)) r b
  have acts := Dev.sapFrame_slave on slave stays ws.toNat (l.map BitVec.toNat) r b
  rw [if_pos good, frame] at acts
  have sent := x.sapSend_sent n none
  generalize x.sapSend n none = e at acts sent
  obtain ⟨-, -, f, seen⟩ : _ ∧ _ ∧ _ ∧ _ := by simpa only [Dev.sapCounts, Prod.mk.injEq] using sent.counts
  obtain ⟨-, -, f', seen'⟩ : _ ∧ _ ∧ _ ∧ _ := by simpa only [Dev.sapCounts, Prod.mk.injEq] using aligned.counts
  have keeps : Keeps (fun x : Dev => { x.butSap with free := 0 }) [rSAPnn_STS n, rSAPnn_ASRC_RATIO n, rSAPnn_ASRC_UNLOCK_CNT n, rSAPnn_SAT_CNT n,
      rSAPnn_CH_STS n, rSAPnn_CH_PEND n, rSAPnn_ZC_TO_CNT n, rPIN_CONFLICT, rPIN_GRPnn_OWNER 8, rPIN_GRPnn_OWNER 9, rPIN_GRPnn_OWNER 10,
      rPIN_GRPnn_OWNER 11] s.dev e :=
    (aligned.kept.mono (by simp [frameRegs, sapPinRegs])).trans
      ((sent.kept.mono (by simp [sendRegs, sampleRegs, chanRegs])).part fun y : Dev => { y with free := 0 })
  have shown : ∀ g : Fld, g.addr = rSAPnn_STS n → e.on g = x.on g := fun g hg => sent.kept.regs.on (by rw [hg]; exact sts_sendRegs n)
  refine completes_of_sameRegs (exec_sapFrame acts (congrArg (·.anv) keeps.rest) idle) calm keeps.regs
    (apart_of_subset (calmRegs_sap n) (by simp [sapRegs])) (congrArg (·.calmPart) keeps.rest)
    ⟨(shown _ rfl).trans aligned.resync, (shown _ rfl).trans aligned.loss, (shown _ rfl).trans aligned.run, ?_, seen.trans seen',
      keeps.regs.showIrq, Dev.showIrq_of_butFree keeps.rest⟩
  exact f.trans (congrArg (· + 1) f')

end Sys2Proof.Machine
end

section
/-! The frames of a bypassed master port (R255, R260), the loss of the clock (R270) and the lock of the converter (R262). -/

namespace Sys2Proof.Machine

open Sys2Proof

variable {d e : Dev} {n : Nat}

/-! ## The input words of a bypassed frame -/

/-- Word `v` at its channel's handle as sample `t`. -/
def Dev.sapEnter (d : Dev) (n : Nat) (t : Word64) (v : Int × Nat) : Dev :=
  d.setSapCh n v.2 { (d.sapOf n).chan v.2 with raw := ((d.sapOf n).chan v.2).raw ++ [(t, v.1)] }

theorem Dev.sapTakeIn_eq (d : Dev) (n : Nat) (t : Word64) (words : List Nat) :
    d.sapTakeIn n t words = (d.sapInputs n words).zipIdx.foldl (fun x v => x.sapEnter n t v) d := rfl

theorem Dev.sapTakeIn_keeps (d : Dev) (n : Nat) (t : Word64) (words : List Nat) (L : List Nat) :
    Keeps (Dev.sapView n) L d (d.sapTakeIn n t words) :=
  Keeps.foldl _ _ (fun v _ x => (x.setSapCh_keeps n v.2 _ L).ofChan) d

/-- The position of a word in a list names it. -/
theorem zipIdx_snd_inj {α : Type} {l : List α} {x y : α × Nat} (hx : x ∈ l.zipIdx) (hy : y ∈ l.zipIdx) (h : x.2 = y.2) : x = y := by
  rw [List.mem_zipIdx_iff_getElem?] at hx hy
  rw [h] at hx
  exact Prod.ext (Option.some.inj (hx.symm.trans hy)) h

/-- Every word becomes the last sample at its own handle. -/
theorem Dev.sapTakeIn_raw (d : Dev) (n : Nat) (t : Word64) (words : List Nat) {v : Int × Nat} (hv : v ∈ (d.sapInputs n words).zipIdx) :
    (((d.sapTakeIn n t words).sapOf n).chan v.2).raw = ((d.sapOf n).chan v.2).raw ++ [(t, v.1)] := by
  have other : ∀ w ∈ (d.sapInputs n words).zipIdx, w ≠ v → ∀ x : Dev, ((x.sapEnter n t w).sapOf n).chan v.2 = (x.sapOf n).chan v.2 :=
    fun w hw ne x => by rw [Dev.sapEnter, Dev.chan_setSapCh, if_neg fun same => ne (zipIdx_snd_inj hw hv same)]
  rw [d.sapTakeIn_eq]
  refine foldl_reaches (fun x => (x.sapOf n).chan v.2 = (d.sapOf n).chan v.2)
    (fun x => ((x.sapOf n).chan v.2).raw = ((d.sapOf n).chan v.2).raw ++ [(t, v.1)]) _ hv (List.Nodup.of_map _ (List.nodup_zipIdx_map_snd _))
    (fun w hw ne x same => (other w hw ne x).trans same) (fun x same => ?_) (fun w hw ne x entered => ?_) rfl
  · rw [Dev.sapEnter, Dev.chan_setSapCh_same, same]
  · rw [other w hw ne x, entered]

/-! ## The frame -/

/-- The frame of a master that does not end. -/
theorem Dev.sapFrame_master (on : d.sapOn n = true) (master : d.on (fSAPnn_CTL_MASTER n) = true) (stays : (d.sapOf n).ending = false)
    {t : Word64} {u : List Word64} (opened : (d.sapOf n).frames = t :: u) (ws : Nat) (l : List Nat) (r : Nat) (b : Bool) :
    d.sapFrame n ws l r b = (d.setSap n { d.sapOf n with frames := u }).masterFrame n t (d.sapFrameWords n l) r b := by
  unfold Dev.sapFrame
  simp only [Dev.sapRuns_of_on on, master, stays, opened, Bool.not_true, Bool.false_eq_true, if_false, if_true]

theorem Dev.masterFrame_bypass (bypass : d.sapBypass n = true) (t : Word64) (words : List Nat) (r : Nat) (b : Bool) :
    d.masterFrame n t words r b = ((d.setSap n { d.sapOf n with seen := true }).sapTakeIn n t words).sapSend n (some t) := by
  have kept : (d.setSap n { d.sapOf n with seen := true }).sapBypass n = true := bypass
  have track : (d.setSap n { d.sapOf n with seen := true }).sapTrack n r b = d.setSap n { d.sapOf n with seen := true } := if_pos kept
  rw [Dev.masterFrame, track]
  exact if_pos kept

theorem Dev.sapLen_setSap (d : Dev) (n : Nat) (x : SapSt) : (d.setSap n x).sapLen n = d.sapLen n := rfl

theorem Dev.sapShift_setSap (d : Dev) (n : Nat) (x : SapSt) : (d.setSap n x).sapShift n = d.sapShift n := rfl

/-- The port with its oldest frame complete. -/
def SapSt.framed (x : SapSt) (u : List Word64) : SapSt := { x with frames := u, seen := true }

/-- A bypassed master's frame puts its input words at their handles (R255, R260). -/
theorem masterFrame_completes (s : State) (n : Fin 24) (ws : BitVec 65) (l : List (BitVec 65)) (r : Nat) (b : Bool) (t : Word64)
    (u : List Word64) (calm : s.dev.calm = true) (on : s.dev.sapOn n.val = true) (master : s.dev.on (fSAPnn_CTL_MASTER n.val) = true)
    (bypass : s.dev.sapBypass n.val = true) (stays : (s.dev.sapOf n.val).ending = false) (idle : s.dev.anv.waiting = 0)
    (opened : (s.dev.sapOf n.val).frames = t :: u) :
    Completes (.sapFrame n ws l r b) s fun d =>
      (d.sapOf n.val).frames = u ∧
      (d.sapOf n.val).f = (s.dev.sapOf n.val).f + 1 ∧
      (∀ k ∈ ((s.dev.sapOf n.val).positions false).zipIdx, ((d.sapOf n.val).chan k.2).raw = ((s.dev.sapOf n.val).chan k.2).raw ++ [(t, sgn (s.dev.sapLen n.val) ((s.dev.sapFrameWords n.val (l.map BitVec.toNat)).getD k.1 0) * 2 ^ s.dev.sapShift n.val)]) := by
  obtain ⟨words, hw⟩ : ∃ words, words = s.dev.sapFrameWords n (l.map BitVec.toNat) := ⟨_, rfl⟩
  have acts := Dev.sapFrame_master on master stays opened ws.toNat (l.map BitVec.toNat) r b
  rw [Dev.masterFrame_bypass (show (s.dev.setSap n { s.dev.sapOf n with frames := u }).sapBypass n = true from bypass), ← hw] at acts
  obtain ⟨x, hx⟩ : ∃ x, x = (s.dev.setSap n { s.dev.sapOf n with frames := u }).setSap n
    { (s.dev.setSap n { s.dev.sapOf n with frames := u }).sapOf n with seen := true } := ⟨_, rfl⟩
  rw [← hx] at acts
  have port : x.sapOf n = (s.dev.sapOf n).framed u := by
    rw [hx, Dev.sapOf_setSap_same, Dev.sapOf_setSap_same]
    rfl
  have rest : Keeps Dev.butSap (sendRegs n) s.dev x := Keeps.of_regs (by rw [hx, Dev.butSap_setSap, Dev.butSap_setSap]) (congrArg (·.regs) hx)
  have inputs : x.sapInputs n words = ((s.dev.sapOf n).positions false).map fun p => sgn (s.dev.sapLen n) (words.getD p 0) * 2 ^ s.dev.sapShift n := by
    rw [Dev.sapInputs, port, hx, Dev.sapLen_setSap, Dev.sapLen_setSap, Dev.sapShift_setSap, Dev.sapShift_setSap]
    rfl
  have taken := x.sapTakeIn_keeps n t words (sendRegs n)
  have raw := fun {v} => x.sapTakeIn_raw n t words (v := v)
  generalize x.sapTakeIn n t words = y at acts taken raw
  have sent := y.sapSend_sent n (some t)
  generalize y.sapSend n (some t) = e at acts sent
  obtain ⟨left, counts⟩ := Prod.mk.inj taken.rest
  have counted : (e.sapOf n).frames = (x.sapOf n).frames ∧ (e.sapOf n).f = (x.sapOf n).f + 1 := by
    obtain ⟨frames, -, f, -⟩ : _ ∧ _ ∧ _ ∧ _ := by simpa only [Dev.sapCounts, Prod.mk.injEq] using counts
    obtain ⟨frames', -, f', -⟩ : _ ∧ _ ∧ _ ∧ _ := by simpa only [Dev.sapCounts, Prod.mk.injEq] using sent.counts
    exact ⟨frames'.trans frames, f'.trans (congrArg (· + 1) f)⟩
  have keeps : Keeps Dev.butSap (sendRegs n) s.dev e := rest.trans (Keeps.trans ⟨left, taken.regs⟩ sent.kept)
  refine completes_of_sameRegs (exec_sapFrame acts (congrArg (·.anv) keeps.rest) idle) calm keeps.regs
    (apart_of_subset (calmRegs_sap n) (by simp [sendRegs, sampleRegs, chanRegs, sapRegs])) (congrArg (·.calmPart) keeps.rest)
    ⟨?_, ?_, fun k hk => ?_⟩
  · rw [Dev.showIrq_sapOf, counted.1, port]
    rfl
  · rw [Dev.showIrq_sapOf, counted.2, port]
    rfl
  · have few := positions_length_le (s.dev.sapOf n) false
    have small : k.2 < 8 := lt_of_lt_of_le (List.snd_lt_of_mem_zipIdx hk) (by simpa using few)
    have mem : (sgn (s.dev.sapLen n) (words.getD k.1 0) * 2 ^ s.dev.sapShift n, k.2) ∈ (x.sapInputs n words).zipIdx := by
      rw [inputs, List.zipIdx_map]
      exact List.mem_map_of_mem (f := Prod.map (fun p => sgn (s.dev.sapLen n) (words.getD p 0) * 2 ^ s.dev.sapShift n) id) hk
    rw [Dev.showIrq_sapOf, sent.ins k.2 small, raw mem, port, hw]
    rfl

/-! ## The loss of the clock -/

theorem fSAPnn_STS_CLK_LOSS_ok (n : Nat) : (fSAPnn_STS_CLK_LOSS n).ok := (by decide : 12 + 1 ≤ 32)

theorem Dev.sapClkLoss_eq (on : d.sapOn n = true) (slave : d.on (fSAPnn_CTL_MASTER n) = false) (clocked : d.on (fSAPnn_STS_CLK_LOSS n) = false)
    (seen : (d.sapOf n).seen = true) :
    ∃ x, d.sapClkLoss n = ((d.setSap n x).putB (fSAPnn_STS_CLK_LOSS n) true).inc (rSAPnn_CLK_LOSS_CNT n) := by
  refine ⟨_, if_neg ?_⟩
  simp [on, slave, clocked, seen]

/-- A slave that loses its clock (R270). -/
theorem sapClkLoss_completes (s : State) (n : Fin 24) (calm : s.dev.calm = true) (on : s.dev.sapOn n.val = true)
    (slave : s.dev.on (fSAPnn_CTL_MASTER n.val) = false) (clocked : s.dev.on (fSAPnn_STS_CLK_LOSS n.val) = false)
    (seen : (s.dev.sapOf n.val).seen = true) :
    Completes (.sapClkLoss n) s fun d =>
      d.on (fSAPnn_STS_CLK_LOSS n.val) = true ∧
      (d.reg (rSAPnn_CLK_LOSS_CNT n.val)).toNat = min ((s.dev.reg (rSAPnn_CLK_LOSS_CNT n.val)).toNat + 1) (2 ^ 32 - 1) ∧
      s.dev.sameRegs d [rSAPnn_STS n.val, rSAPnn_CLK_LOSS_CNT n.val] ∧
      d = { s.dev with regs := d.regs, sap := d.sap, irqA := d.irqA, irqB := d.irqB } := by
  obtain ⟨x, loss⟩ := Dev.sapClkLoss_eq on slave clocked seen
  have hx : exec (.sapClkLoss n) s = s.done (s.dev.sapClkLoss n) := rfl
  obtain ⟨a, ha⟩ : ∃ a, a = (s.dev.setSap n x).putB (fSAPnn_STS_CLK_LOSS n) true := ⟨_, rfl⟩
  rw [loss, ← ha] at hx
  have apart : rSAPnn_CLK_LOSS_CNT n ≠ rSAPnn_STS n := by simp [rSAPnn_CLK_LOSS_CNT, rSAPnn_STS]
  have shown : Keeps Dev.butSap [rSAPnn_STS n] s.dev a := by
    rw [ha]
    exact ⟨rfl, ((Dev.sameRegs.refl s.dev _).of_regs rfl).putB (f := fSAPnn_STS_CLK_LOSS n) List.mem_cons_self true⟩
  have keeps : Keeps Dev.butSap [rSAPnn_STS n, rSAPnn_CLK_LOSS_CNT n] s.dev (a.inc (rSAPnn_CLK_LOSS_CNT n)) :=
    (shown.mono (by simp)).trans (((a.inc_keeps _).mono (by simp)).part fun y : Dev => { y with sap := [] })
  refine completes_of_sameRegs hx calm keeps.regs (apart_of_subset (calmRegs_sap n) (by simp [sapRegs])) (congrArg (·.calmPart) keeps.rest)
    ⟨?_, ?_, keeps.regs.showIrq, Dev.showIrq_of_butSap keeps.rest⟩
  · refine (congrArg (· != 0) (Dev.get_inc_ne a _ (fSAPnn_STS_CLK_LOSS n) apart)).trans ?_
    rw [ha]
    exact Dev.on_putB_same _ (fSAPnn_STS_CLK_LOSS_ok n) rfl true
  · rw [Dev.showIrq_reg, Dev.reg_inc_same, shown.regs _ (by simpa using apart)]

/-! ## The lock of the converter -/

/-- The two bits of a measured ratio: out of range, or the converter locked. -/
def ratioBits (n : Nat) (ok : Bool) : List (Fld × Nat) := if ok then [(fSAPnn_STS_RATIO_ERR n, 0), (fSAPnn_STS_ASRC_LOCK n, 1)] else [(fSAPnn_STS_RATIO_ERR n, 1)]

theorem fSAPnn_STS_RATIO_ERR_ok (n : Nat) : (fSAPnn_STS_RATIO_ERR n).ok := (by decide : 13 + 1 ≤ 32)

theorem ratioBits_sts (n : Nat) (ok : Bool) : ∀ x ∈ ratioBits n ok, x.1.addr = rSAPnn_STS n := by
  cases ok <;> simp [ratioBits, fSAPnn_STS_RATIO_ERR, fSAPnn_STS_ASRC_LOCK, rSAPnn_STS]

theorem Dev.ratioBits_err (d : Dev) (n : Nat) (ok : Bool) : (d.puts (ratioBits n ok)).on (fSAPnn_STS_RATIO_ERR n) = !ok := by
  cases ok with
  | true =>
    refine congrArg (· != 0) (Dev.get_puts (v := 0) ?_ ?_ (by simp [ratioBits]) d)
    · simp [ratioBits, Fld.ok, fSAPnn_STS_RATIO_ERR, fSAPnn_STS_ASRC_LOCK]
    · simp [ratioBits, Fld.apart, fSAPnn_STS_RATIO_ERR, fSAPnn_STS_ASRC_LOCK]
  | false => exact Dev.on_putB_same d (fSAPnn_STS_RATIO_ERR_ok n) rfl true

theorem Dev.ratioBits_lock (d : Dev) (n : Nat) (ok : Bool) (free : d.on (fSAPnn_STS_ASRC_LOCK n) = false) :
    (d.puts (ratioBits n ok)).on (fSAPnn_STS_ASRC_LOCK n) = ok := by
  cases ok with
  | true =>
    refine congrArg (· != 0) (Dev.get_puts (v := 1) ?_ ?_ (by simp [ratioBits]) d)
    · simp [ratioBits, Fld.ok, fSAPnn_STS_RATIO_ERR, fSAPnn_STS_ASRC_LOCK]
    · simp [ratioBits, Fld.apart, fSAPnn_STS_RATIO_ERR, fSAPnn_STS_ASRC_LOCK]
  | false => exact (d.on_put_apart 1 (fSAPnn_STS_RATIO_ERR_ok n) (Or.inr (show 10 + 1 ≤ 13 by decide))).trans free

/-- A measured ratio is shown with its bits, and the port otherwise changes in its fades alone (R262). -/
theorem Dev.asrcLock_eq (on : d.sapOn n = true) (seen : (d.sapOf n).seen = true) (converts : d.sapBypass n = false)
    (free : d.on (fSAPnn_STS_ASRC_LOCK n) = false) (r : Nat) :
    ∃ a, a = d.setReg (rSAPnn_ASRC_RATIO n) (BitVec.ofNat 32 r) ∧ (d.asrcLock n r).regs = (a.puts (ratioBits n (a.sapRatioOk n r))).regs ∧
      (d.asrcLock n r).butSap = d.butSap := by
  refine ⟨_, rfl, ?_⟩
  have goes : ¬ ((!(d.sapOn n && (d.sapOf n).seen && !d.sapBypass n)) = true ∨ d.on (fSAPnn_STS_ASRC_LOCK n) = true) := by
    simp [on, seen, converts, free]
  unfold Dev.asrcLock
  rw [if_neg goes]
  generalize ha : d.setReg (rSAPnn_ASRC_RATIO n) (BitVec.ofNat 32 r) = a
  have stored : a.butSap = d.butSap := by rw [← ha]; rfl
  dsimp only
  cases a.sapRatioOk n r with
  | true => exact ⟨rfl, stored⟩
  | false => exact ⟨rfl, stored⟩

/-- The rate of a generator is what its CTL shows. -/
theorem Dev.mcgFs_congr {L : List Nat} {g : Nat} (h : d.sameRegs e L) (ctl : rMCGn_CTL g ∉ L) : e.mcgFs g = d.mcgFs g := by
  rw [Dev.mcgFs, Dev.mcgFs, Dev.mcgRate, Dev.mcgRate, Dev.mcgMult, Dev.mcgMult, Dev.mcgPull, Dev.mcgPull, h.on (f := fMCGn_CTL_FAMILY g) ctl,
    h.get (f := fMCGn_CTL_MULT g) ctl, h.get (f := fMCGn_CTL_PULL g) ctl]

/-- The range of a ratio does not rest on the ratio shown. -/
theorem Dev.sapRatioOk_setReg (d : Dev) (n r : Nat) (w : Word) : (d.setReg (rSAPnn_ASRC_RATIO n) w).sapRatioOk n r = d.sapRatioOk n r := by
  have same : d.sameRegs (d.setReg (rSAPnn_ASRC_RATIO n) w) [rSAPnn_ASRC_RATIO n] := (Dev.sameRegs.refl d _).setReg List.mem_cons_self w
  have small : d.get fMCG_HOUSE_HOUSE < 8 := d.get_lt fMCG_HOUSE_HOUSE
  have house : fMCG_HOUSE_HOUSE.addr ∉ [rSAPnn_ASRC_RATIO n] := by
    rw [List.mem_singleton, show fMCG_HOUSE_HOUSE.addr = 0x50000 from rfl, rSAPnn_ASRC_RATIO]
    omega
  have ctl : rMCGn_CTL (d.get fMCG_HOUSE_HOUSE) ∉ [rSAPnn_ASRC_RATIO n] := by
    rw [List.mem_singleton, rMCGn_CTL, rSAPnn_ASRC_RATIO]
    omega
  rw [Dev.sapRatioOk, Dev.sapRatioOk, same.get house, Dev.mcgFs_congr same ctl,
    same.on (f := fSAPnn_CTL_MASTER n) (by simp [fSAPnn_CTL_MASTER, rSAPnn_ASRC_RATIO])]

/-- A converter locks in range, and shows a ratio out of range (R262). -/
theorem asrcLock_completes (s : State) (n : Fin 24) (r : Nat) (calm : s.dev.calm = true) (on : s.dev.sapOn n.val = true)
    (seen : (s.dev.sapOf n.val).seen = true) (converts : s.dev.sapBypass n.val = false) (free : s.dev.on (fSAPnn_STS_ASRC_LOCK n.val) = false) :
    Completes (.asrcLock n r) s fun d =>
      d.on (fSAPnn_STS_ASRC_LOCK n.val) = s.dev.sapRatioOk n.val r ∧
      d.on (fSAPnn_STS_RATIO_ERR n.val) = !s.dev.sapRatioOk n.val r ∧
      d.reg (rSAPnn_ASRC_RATIO n.val) = BitVec.ofNat 32 r ∧
      s.dev.sameRegs d [rSAPnn_STS n.val, rSAPnn_ASRC_RATIO n.val] ∧
      d = { s.dev with regs := d.regs, sap := d.sap, irqA := d.irqA, irqB := d.irqB } := by
  obtain ⟨a, ha, regs, rest⟩ := Dev.asrcLock_eq on seen converts free r
  have hx : exec (.asrcLock n r) s = s.done (s.dev.asrcLock n r) := rfl
  rw [show a.sapRatioOk n r = s.dev.sapRatioOk n r by rw [ha]; exact Dev.sapRatioOk_setReg ..] at regs
  generalize s.dev.asrcLock n r = e at hx regs rest
  generalize s.dev.sapRatioOk n r = ok at regs ⊢
  have stored : s.dev.sameRegs a [rSAPnn_STS n, rSAPnn_ASRC_RATIO n] := by
    rw [ha]
    exact (Dev.sameRegs.refl s.dev _).setReg (by simp) _
  have kept := a.puts_keeps fun x hx => List.mem_singleton.mpr (ratioBits_sts n ok x hx)
  have same : s.dev.sameRegs e [rSAPnn_STS n, rSAPnn_ASRC_RATIO n] := (stored.trans (kept.regs.mono (by simp))).of_regs regs
  have apart : rSAPnn_ASRC_RATIO n ≠ rSAPnn_STS n := by simp [rSAPnn_ASRC_RATIO, rSAPnn_STS]
  have unlocked : a.on (fSAPnn_STS_ASRC_LOCK n) = false := by
    rw [ha, Dev.on, Dev.get_setReg, if_neg (show ¬ rSAPnn_ASRC_RATIO n = (fSAPnn_STS_ASRC_LOCK n).addr from apart)]
    exact free
  refine completes_of_sameRegs hx calm same (apart_of_subset (calmRegs_sap n) (by simp [sapRegs])) (congrArg (·.calmPart) rest)
    ⟨?_, ?_, ?_, same.showIrq, Dev.showIrq_of_butSap rest⟩
  · exact (Dev.on_of_regs regs _).trans (a.ratioBits_lock n ok unlocked)
  · exact (Dev.on_of_regs regs _).trans (a.ratioBits_err n ok)
  · refine (congrArg (kget 0 · (rSAPnn_ASRC_RATIO n)) regs).trans ((kept.regs _ (by simpa using apart)).trans ?_)
    rw [ha, Dev.reg_setReg_same]

/-- Settles O20: the write of EN and the checks behind it, the end of a port with its frame, and the frames, the clock and the converter of
a port that works. -/
theorem serialPortsEnableAndFrame : Obligations.SerialPortsEnableAndFrame :=
  ⟨sapEnable_completes, sapEnable_refused_completes, sapDisable_ends_completes, sapDisable_completes_frame, slaveFault_completes,
    slaveFrame_completes, masterFrame_completes, sapClkLoss_completes, asrcLock_completes⟩

end Sys2Proof.Machine
end

section
/-! Two statements that fail: a link that comes up with a port of a PTP domain on it (R79, R281), and a frame that arrives while the switch
core is behind (R283, R467). -/

namespace Sys2Proof.Machine

open Sys2Proof

/-! ## A link comes up below a PTP port -/

/-- Port 0 is enabled in 10GBASE-R with its link down and free of faults. It participates in domain 0 as FAULTY, and three announce
intervals have passed on it since the last Announce. -/
def linkUpUnderPtpPort : State :=
  { dev := ({ ptp := [(0, { quiet := [(0, 3)] })], net := [(0, { pcs := false })] } : Dev).puts
      [(fNETn_SERDES_CFG_MODE 0, 1), (fNETn_MAC_CFG_EN 0, 1), (fPTP_PTDd_CTL_EN 0, 1), (wordFld (rPTP_PTDd_PORTS 0), 1),
        (fPTP_PTDd_STS_PSTATE 0, 2)]
    pending := [] }

/-- The port enters LISTENING and begins to count its announce intervals anew. -/
theorem linkUpUnderPtpPort_listens : shownAfter (·.ptp) (exec (.linkUp 0 0) linkUpUnderPtpPort) = some [] := by decide +kernel

/-- Refutes O22: a link that comes up takes its PTP ports to LISTENING (R79), which starts their count of silent announce intervals again, a
part of the domain's state that the sixth clause lets nothing change. -/
theorem not_portsEnableFaultAndLink : ¬ Obligations.PortsEnableFaultAndLink := by
  rintro ⟨-, -, -, -, -, comesUp, -⟩
  obtain ⟨d, ⟨-, -, frame⟩, after⟩ := (comesUp linkUpUnderPtpPort 0 0 0 (by decide +kernel) (by decide +kernel) (by decide +kernel)
    (by decide +kernel) (by decide +kernel) (by decide +kernel) (by decide +kernel)).shown (·.ptp)
  have unchanged : d.ptp = linkUpUnderPtpPort.dev.ptp := congrArg (·.ptp) frame
  rw [linkUpUnderPtpPort_listens, unchanged] at after
  exact absurd after (by decide +kernel)

/-! ## A frame meets a switch core that is behind -/

/-- Port 0 is enabled with its link up, and CCLK runs from FIO. The frames before have left the switch core a little further behind than
one frame of the greatest length from each port does. -/
def switchCoreBehind : State :=
  { dev := ({ clk := { fwd := fwdTime (4 * 9018) + 1 }, net := [(0, { pcs := false })] } : Dev).puts
      [(fCLK_STS_TPLL_LOCK, 1), (fNETn_MAC_CFG_EN 0, 1), (fNETn_STS_LINK_UP 0, 1)]
    pending := [] }

/-- The bytes of a frame of the least length, before its FCS. -/
def leastFrame : List (BitVec 8) := List.replicate 60 0

/-- Such a frame as it arrives, its FCS right. -/
def leastFrameRx : RxFrame := { bytes := leastFrame ++ fcsOf leastFrame, ts := 0, pcsErr := false, smd := .express, steps := 0 }

/-- The frame is dropped, and RX_FRAMES stands. -/
theorem switchCoreBehind_drops :
    shownAfter (fun d => d.pair (rNETn_RX_FRAMES_H 0) (rNETn_RX_FRAMES_L 0)) (exec (.frameReceive 0 leastFrameRx 0) switchCoreBehind) = some 0 := by
  decide +kernel

/-- Refutes O23: while CCLK runs from FIO the switch core forwards at a quarter of its rate, and a frame that meets it too far behind is
dropped and counted in RX_DROP_BUF_CNT (R283, R467, log entry 210), where the first clause, which asks for free cells alone, has it count in
RX_FRAMES. -/
theorem not_framesAreCheckedSentAndCounted : ¬ Obligations.FramesAreCheckedSentAndCounted := by
  rintro ⟨good, -⟩
  obtain ⟨d, ⟨counts, -⟩, after⟩ := (good switchCoreBehind 0 leastFrameRx leastFrame (by decide +kernel) (by decide +kernel)
    (by decide +kernel) (by decide +kernel) rfl rfl rfl (by decide) (by decide +kernel) (by decide +kernel) (by decide +kernel)).shown
      fun d => d.pair (rNETn_RX_FRAMES_H 0) (rNETn_RX_FRAMES_L 0)
  have counted : d.pair (rNETn_RX_FRAMES_H 0) (rNETn_RX_FRAMES_L 0) = 1 := counts.trans (by decide +kernel)
  have stands : 0 = d.pair (rNETn_RX_FRAMES_H 0) (rNETn_RX_FRAMES_L 0) := Option.some.inj (switchCoreBehind_drops.symm.trans after)
  omega

end Sys2Proof.Machine
end

section
/-! The MDIO master (R297, R298): a transaction starts, and ends. -/

namespace Sys2Proof.Machine

open Sys2Proof

variable {d e : Dev} {p : Port} {v : Word} {op : Nat}

/-! ## A field of a register -/

theorem Dev.put_keeps (d : Dev) {f : Fld} {L : List Nat} (h : f.addr ∈ L) (v : Nat) : Keeps Dev.butRegs L d (d.put f v) :=
  ⟨rfl, (Dev.sameRegs.refl d L).put h v⟩

theorem Dev.putB_keeps (d : Dev) {f : Fld} {L : List Nat} (h : f.addr ∈ L) (b : Bool) : Keeps Dev.butRegs L d (d.putB f b) := d.put_keeps h _

/-! ## A transaction starts (R297) -/

/-- The row of NET_MDIO_CMD in the register summary. -/
def mdioCmdRow : RegDesc := { base := 0xE8104, wr := 0x3FFFFFF, cmd := 0xF0000000 }

theorem regAt_mdioCmd : regAt rNET_MDIO_CMD = some (mdioCmdRow, 0, 0) := rfl

theorem Dev.writeEffect_mdioCmd (d : Dev) (m : Meets) (old v cmd : Word) :
    d.writeEffect m rNET_MDIO_CMD 0 old v cmd = d.mdioStart (fNET_MDIO_CMD_OP.get cmd) := rfl

theorem fNET_MDIO_CMD_OP_ok : fNET_MDIO_CMD_OP.ok := (by decide : 28 + 4 ≤ 32)

theorem fNET_MDIO_STS_ok : fNET_MDIO_STS_BUSY.ok ∧ fNET_MDIO_STS_NO_RESP.ok ∧ fNET_MDIO_STS_RDATA.ok := by unfold Fld.ok; decide

/-- With no transaction in progress a write of NET_MDIO_CMD is stored. -/
theorem Dev.regWrite_mdioCmd (idle : d.on fNET_MDIO_STS_BUSY = false) (m : Meets) (p : Port) (v : Word) :
    d.regWrite m p rNET_MDIO_CMD v = d.regStore m p rNET_MDIO_CMD v mdioCmdRow 0 := by
  simp only [Dev.regWrite, regAt_mdioCmd, idle]
  rfl

/-- The device with another transaction in progress, or none. -/
def Dev.setMdio (d : Dev) (x : Option Mdio) : Dev := { d with mdio := x }

theorem Dev.setMdio_regs (d : Dev) (x : Option Mdio) : (d.setMdio x).regs = d.regs := rfl

/-- The transaction that a command of operation `op` with the fields of `v` starts. -/
def Dev.mdioOf (d : Dev) (op : Nat) (v : Word) : Mdio :=
  { op := op, prtad := fNET_MDIO_CMD_PRTAD.get v, devad := fNET_MDIO_CMD_DEVAD.get v, addr := d.get fNET_MDIO_ADDR_ADDR,
    data := fNET_MDIO_CMD_DATA.get v }

/-- BUSY shown and NO_RESP cleared. -/
def Dev.mdioBusy (d : Dev) : Dev := (d.putB fNET_MDIO_STS_BUSY true).putB fNET_MDIO_STS_NO_RESP false

theorem Dev.mdioBusy_shows (d : Dev) : d.mdioBusy.on fNET_MDIO_STS_BUSY = true ∧ d.mdioBusy.on fNET_MDIO_STS_NO_RESP = false := by
  obtain ⟨okBusy, okResp, -⟩ := fNET_MDIO_STS_ok
  have apart : fNET_MDIO_STS_NO_RESP.apart fNET_MDIO_STS_BUSY := Or.inl (by decide)
  exact ⟨(Dev.on_put_apart _ _ okResp apart).trans (Dev.on_putB_same _ okBusy rfl true), Dev.on_putB_same _ okResp rfl false⟩

theorem Dev.mdioBusy_sameRegs (d : Dev) : d.sameRegs d.mdioBusy [rNET_MDIO_STS] :=
  ((Dev.sameRegs.refl d _).putB (f := fNET_MDIO_STS_BUSY) List.mem_cons_self true).putB (f := fNET_MDIO_STS_NO_RESP) List.mem_cons_self false

/-- The device but for what a transaction begun changes of it. -/
def Dev.butMdio (d : Dev) : Dev := { d with regs := [], ports := [], mdio := none }

/-- A command of each of the six operations is stored, without its OP, and starts its transaction. -/
theorem Dev.writeWith_mdioCmd (takes : d.takes p rNET_MDIO_CMD) (idle : d.on fNET_MDIO_STS_BUSY = false) (first : 1 ≤ op) (last : op ≤ 6)
    (v : Word) : ∃ c, Keeps Dev.butRegsPorts [rNET_MDIO_CMD] d c ∧ (c.port p).code = 0 ∧ c.get fNET_MDIO_CMD_OP = d.get fNET_MDIO_CMD_OP ∧
      d.writeWith {} p fNET_MDIO_CMD_OP op v = (c.setMdio (some (d.mdioOf op v))).mdioBusy := by
  obtain ⟨w, hw⟩ : ∃ w, w = fNET_MDIO_CMD_OP.put v op := ⟨_, rfl⟩
  obtain ⟨c, hc⟩ : ∃ c, c = (d.answer p []).setReg rNET_MDIO_CMD (merged (w32 0x3FFFFFF) (d.reg rNET_MDIO_CMD) w) := ⟨_, rfl⟩
  have regs : d.sameRegs c [rNET_MDIO_CMD] := by rw [hc]; exact (d.answer_sameRegs p [] _).setReg (by simp) _
  have read : ∀ f : Fld, f.addr = rNET_MDIO_CMD → f.within (w32 0x3FFFFFF) = true → fNET_MDIO_CMD_OP.apart f → c.get f = f.get v :=
    fun f addr within apart => by
      rw [hc, Dev.get_setReg, if_pos addr.symm, Fld.get_merged_within within, hw, Fld.get_put_apart _ _ fNET_MDIO_CMD_OP_ok apart]
  have opKept : c.get fNET_MDIO_CMD_OP = d.get fNET_MDIO_CMD_OP := by
    rw [hc, Dev.get_setReg, if_pos (show rNET_MDIO_CMD = fNET_MDIO_CMD_OP.addr from rfl), Fld.get_merged_outside (by decide)]
    rfl
  have opSeen : fNET_MDIO_CMD_OP.get (w &&& w32 mdioCmdRow.cmd) = op := by
    rw [Fld.get_and_within (by decide), hw, Fld.get_put _ fNET_MDIO_CMD_OP_ok]
    exact Nat.mod_eq_of_lt (show op < 16 by omega)
  have begun : c.mdioStart op = (c.setMdio (some (d.mdioOf op v))).mdioBusy := by
    rw [Dev.mdioStart, if_neg (by omega), read fNET_MDIO_CMD_PRTAD rfl (by decide) (Or.inr (by decide)),
      read fNET_MDIO_CMD_DEVAD rfl (by decide) (Or.inr (by decide)), read fNET_MDIO_CMD_DATA rfl (by decide) (Or.inr (by decide)),
      regs.get (f := fNET_MDIO_ADDR_ADDR) (by decide)]
    rfl
  refine ⟨c, ⟨by rw [hc]; rfl, regs⟩, ?_, opKept, ?_⟩
  · rw [hc]; exact (congrArg PortSt.code (Dev.port_congr rfl p)).trans (d.answer_code p [])
  · rw [← begun, Dev.writeWith, ← hw, show fNET_MDIO_CMD_OP.addr = rNET_MDIO_CMD from rfl, Dev.busWrite_reg takes (by decide) (by decide),
      Dev.regWrite_mdioCmd (d := d.answer p []) idle, Dev.regStore_free rfl, Dev.writeEffect_mdioCmd, opSeen, hc]
    rfl

/-- A command of operation `op` written with no transaction in progress (R297). -/
theorem mdioCommand_completes {i : Instr} {s : State} (calm : s.dev.calm = true) (takes : s.dev.takes p rNET_MDIO_CMD)
    (idle : s.dev.on fNET_MDIO_STS_BUSY = false) (first : 1 ≤ op) (last : op ≤ 6)
    (hx : exec i s = s.done (s.dev.writeWith {} p fNET_MDIO_CMD_OP op v)) :
    Completes i s fun d =>
      d.mdio = some (s.dev.mdioOf op v) ∧
      d.on fNET_MDIO_STS_BUSY = true ∧
      d.on fNET_MDIO_STS_NO_RESP = false ∧
      d.get fNET_MDIO_CMD_OP = s.dev.get fNET_MDIO_CMD_OP ∧
      (d.port p).code = 0 ∧
      s.dev.sameRegs d [rNET_MDIO_CMD, rNET_MDIO_STS] ∧
      d = { s.dev with regs := d.regs, ports := d.ports, mdio := d.mdio, irqA := d.irqA, irqB := d.irqB } := by
  obtain ⟨c, kept, code, opKept, written⟩ := Dev.writeWith_mdioCmd takes idle first last v
  obtain ⟨b, hb⟩ : ∃ b, b = c.setMdio (some (s.dev.mdioOf op v)) := ⟨_, rfl⟩
  obtain ⟨busy, resp⟩ := b.mdioBusy_shows
  have rest : b.mdioBusy.butMdio = s.dev.butMdio := by
    rw [hb]; exact congrArg (fun x : Dev => { x with mdio := none }) kept.rest
  have sts := b.mdioBusy_sameRegs
  have regs : s.dev.sameRegs b.mdioBusy [rNET_MDIO_CMD, rNET_MDIO_STS] :=
    ((kept.regs.mono (by simp)).of_regs (by rw [hb]; rfl)).trans (sts.mono (by simp))
  rw [written, ← hb] at hx
  refine completes_of_sameRegs hx calm regs (by decide) (congrArg (·.calmPart) rest :) ⟨by rw [hb]; rfl, busy, resp, ?_, ?_, regs.showIrq, ?_⟩
  · rw [Dev.showIrq_get, sts.get (by decide), hb]; exact opKept
  · rw [hb]; exact code
  · exact congrArg (fun x : Dev => { x with regs := b.mdioBusy.regs, ports := b.mdioBusy.ports, mdio := b.mdioBusy.mdio,
                                            irqA := b.mdioBusy.irqPinA, irqB := b.mdioBusy.irqPinB }) rest

/-! ## A transaction ends (R298) -/

/-- The transaction in progress is over, and BUSY is 0. -/
def Dev.mdioOver (d : Dev) : Dev := (d.setMdio none).putB fNET_MDIO_STS_BUSY false

theorem Dev.mdioOver_sameRegs (d : Dev) : d.sameRegs d.mdioOver [rNET_MDIO_STS] :=
  ((Dev.sameRegs.refl d _).of_regs (d.setMdio_regs none)).putB (f := fNET_MDIO_STS_BUSY) List.mem_cons_self false

theorem Dev.mdioOver_busy (d : Dev) : d.mdioOver.on fNET_MDIO_STS_BUSY = false := Dev.on_putB_same _ fNET_MDIO_STS_ok.1 rfl false

theorem Dev.mdioOver_rdata (d : Dev) : d.mdioOver.get fNET_MDIO_STS_RDATA = d.get fNET_MDIO_STS_RDATA :=
  Dev.get_put_apart _ fNET_MDIO_STS_BUSY fNET_MDIO_STS_RDATA _ fNET_MDIO_STS_ok.1 (Or.inr (by decide))

theorem Dev.mdioDone_answered {m : Mdio} (now : d.mdio = some m) (reads : m.op = 2 ∨ m.op = 4 ∨ m.op = 5) (v : BitVec 16) :
    d.mdioDone true v = d.mdioOver.put fNET_MDIO_STS_RDATA v.toNat := by
  simp only [Dev.mdioDone, now, reads, if_true]
  rfl

theorem Dev.mdioDone_unanswered {m : Mdio} (now : d.mdio = some m) (reads : m.op = 2 ∨ m.op = 4 ∨ m.op = 5) (v : BitVec 16) :
    d.mdioDone false v = (d.mdioOver.putB fNET_MDIO_STS_NO_RESP true).put fNET_MDIO_STS_RDATA 0xFFFF := by
  simp only [Dev.mdioDone, now, reads, if_true]
  rfl

theorem Dev.mdioDone_written {m : Mdio} (now : d.mdio = some m) (writes : m.op = 1 ∨ m.op = 3 ∨ m.op = 6) (resp : Bool) (v : BitVec 16) :
    d.mdioDone resp v = d.mdioOver := by
  have none : ¬(m.op = 2 ∨ m.op = 4 ∨ m.op = 5) := by omega
  simp only [Dev.mdioDone, now, none, if_false]
  rfl

/-- The end of a transaction that leaves `e` completes: it shows in NET_MDIO_STS alone. -/
theorem mdioDone_completes {s : State} {resp : Bool} {v : BitVec 16} {P : Dev → Prop} (calm : s.dev.calm = true) (core : s.dev.domOn 1 = true)
    (ends : s.dev.mdioDone resp v = e) (kept : Keeps Dev.butRegs [rNET_MDIO_STS] s.dev.mdioOver e)
    (busy : e.on fNET_MDIO_STS_BUSY = false) (h : P e.showIrq) :
    Completes (.mdioDone resp v) s fun d =>
      d.mdio = none ∧ d.on fNET_MDIO_STS_BUSY = false ∧ P d ∧ s.dev.sameRegs d [rNET_MDIO_STS] ∧
        d = { s.dev with regs := d.regs, mdio := d.mdio, irqA := d.irqA, irqB := d.irqB } := by
  have hx : exec (.mdioDone resp v) s = s.done e := by
    rw [← ends]; exact State.doneIn_on core _
  have regs := s.dev.mdioOver_sameRegs.trans kept.regs
  refine completes_of_sameRegs hx calm regs (by decide) (congrArg (·.calmPart) kept.rest :)
    ⟨congrArg (·.mdio) kept.rest, busy, h, regs.showIrq, ?_⟩
  exact congrArg (fun x : Dev => { x with regs := e.regs, mdio := e.mdio, irqA := e.irqPinA, irqB := e.irqPinB }) kept.rest

/-- A read that a PHY answers (R298). -/
theorem mdioDone_answered_completes (s : State) (m : Mdio) (v : BitVec 16) (calm : s.dev.calm = true) (now : s.dev.mdio = some m)
    (reads : m.op = 2 ∨ m.op = 4 ∨ m.op = 5) (core : s.dev.domOn 1 = true) :
    Completes (.mdioDone true v) s fun d =>
      d.mdio = none ∧
      d.on fNET_MDIO_STS_BUSY = false ∧
      d.get fNET_MDIO_STS_RDATA = v.toNat ∧
      s.dev.sameRegs d [rNET_MDIO_STS] ∧
      d = { s.dev with regs := d.regs, mdio := d.mdio, irqA := d.irqA, irqB := d.irqB } := by
  have okData := fNET_MDIO_STS_ok.2.2
  refine mdioDone_completes calm core (Dev.mdioDone_answered now reads v) (Dev.put_keeps _ (by decide) _)
    ((Dev.on_put_apart _ _ okData (Or.inl (by decide))).trans s.dev.mdioOver_busy) ?_
  rw [Dev.showIrq_get, Dev.get_put_same _ _ _ okData]
  exact Nat.mod_eq_of_lt v.isLt

/-- A read that no PHY answers (R298). -/
theorem mdioDone_unanswered_completes (s : State) (m : Mdio) (v : BitVec 16) (calm : s.dev.calm = true) (now : s.dev.mdio = some m)
    (reads : m.op = 2 ∨ m.op = 4 ∨ m.op = 5) (core : s.dev.domOn 1 = true) :
    Completes (.mdioDone false v) s fun d =>
      d.mdio = none ∧
      d.on fNET_MDIO_STS_BUSY = false ∧
      d.on fNET_MDIO_STS_NO_RESP = true ∧
      d.get fNET_MDIO_STS_RDATA = 0xFFFF ∧
      s.dev.sameRegs d [rNET_MDIO_STS] ∧
      d = { s.dev with regs := d.regs, mdio := d.mdio, irqA := d.irqA, irqB := d.irqB } := by
  obtain ⟨-, okResp, okData⟩ := fNET_MDIO_STS_ok
  obtain ⟨e, he⟩ : ∃ e, e = s.dev.mdioOver.putB fNET_MDIO_STS_NO_RESP true := ⟨_, rfl⟩
  have marked : Keeps Dev.butRegs [rNET_MDIO_STS] s.dev.mdioOver e := by rw [he]; exact Dev.putB_keeps _ (by decide) true
  have busy : e.on fNET_MDIO_STS_BUSY = false := by
    rw [he]; exact (Dev.on_put_apart _ _ okResp (Or.inl (by decide))).trans s.dev.mdioOver_busy
  have resp : e.on fNET_MDIO_STS_NO_RESP = true := by rw [he]; exact Dev.on_putB_same _ okResp rfl true
  have ends := Dev.mdioDone_unanswered now reads v
  rw [← he] at ends
  obtain ⟨t, ran, waits, ended, idle, ⟨shown, data⟩, rest⟩ := mdioDone_completes
    (P := fun d => d.on fNET_MDIO_STS_NO_RESP = true ∧ d.get fNET_MDIO_STS_RDATA = 0xFFFF) calm core ends
    (marked.trans (e.put_keeps (by decide) _)) ((e.on_put_apart _ okData (Or.inl (by decide))).trans busy)
    ⟨(e.on_put_apart _ okData (Or.inl (by decide))).trans resp, e.get_put_same _ _ okData⟩
  exact ⟨t, ran, waits, ended, idle, shown, data, rest⟩

/-- A write, or an address (R298). -/
theorem mdioDone_written_completes (s : State) (m : Mdio) (resp : Bool) (v : BitVec 16) (calm : s.dev.calm = true) (now : s.dev.mdio = some m)
    (writes : m.op = 1 ∨ m.op = 3 ∨ m.op = 6) (core : s.dev.domOn 1 = true) :
    Completes (.mdioDone resp v) s fun d =>
      d.mdio = none ∧
      d.on fNET_MDIO_STS_BUSY = false ∧
      d.get fNET_MDIO_STS_RDATA = s.dev.get fNET_MDIO_STS_RDATA ∧
      s.dev.sameRegs d [rNET_MDIO_STS] ∧
      d = { s.dev with regs := d.regs, mdio := d.mdio, irqA := d.irqA, irqB := d.irqB } :=
  mdioDone_completes calm core (Dev.mdioDone_written now writes resp v) (Keeps.refl ..) s.dev.mdioOver_busy s.dev.mdioOver_rdata

end Sys2Proof.Machine
end

section
/-! The snapshot of the port counters (R294, R295): taken, taken with a clear, held, or counted. -/

namespace Sys2Proof.Machine

open Sys2Proof

variable {d e : Dev} {p : Port} {v : Word}

/-! ## The write of NET_SNAP_CMD (R294) -/

/-- The row of NET_SNAP_CMD in the register summary. -/
def snapCmdRow : RegDesc := { base := 0xE8000, wr := 0x1, cmd := 0x80000000 }

theorem regAt_snapCmd : regAt rNET_SNAP_CMD = some (snapCmdRow, 0, 0) := rfl

theorem Dev.writeEffect_snapCmd (d : Dev) (m : Meets) (old v cmd : Word) :
    d.writeEffect m rNET_SNAP_CMD 0 old v cmd = if fNET_SNAP_CMD_SNAP.get cmd = 1 then d.netSnap else d := rfl

theorem fNET_SNAP_ok : fNET_SNAP_CMD_SNAP.ok ∧ fNET_SNAP_STS_BUSY.ok ∧ fNET_SNAP_STS_QUEUED.ok := by unfold Fld.ok; decide

/-- What the store of NET_SNAP_CMD leaves, before the command acts. -/
structure SnapWritten (d c : Dev) (p : Port) (v : Word) : Prop where
  kept : Keeps Dev.butRegsPorts [rNET_SNAP_CMD] d c
  code : (c.port p).code = 0
  clr : c.on fNET_SNAP_CMD_CLR = (fNET_SNAP_CMD_CLR.get v == 1)

/-- A command of the snapshot is stored with its CLR, and acts. -/
theorem Dev.writeWith_snapCmd (takes : d.takes p rNET_SNAP_CMD) (v : Word) :
    ∃ c, SnapWritten d c p v ∧ d.writeWith {} p fNET_SNAP_CMD_SNAP 1 v = c.netSnap := by
  have okSnap := fNET_SNAP_ok.1
  obtain ⟨w, hw⟩ : ∃ w, w = fNET_SNAP_CMD_SNAP.put v 1 := ⟨_, rfl⟩
  obtain ⟨c, hc⟩ : ∃ c, c = (d.answer p []).setReg rNET_SNAP_CMD (merged (w32 0x1) (d.reg rNET_SNAP_CMD) w) := ⟨_, rfl⟩
  have clr : c.on fNET_SNAP_CMD_CLR = (fNET_SNAP_CMD_CLR.get v == 1) := by
    have bit : fNET_SNAP_CMD_CLR.get v < 2 := Nat.mod_lt _ (show 0 < 2 ^ 1 by decide)
    rw [hc, Dev.on, Dev.get_setReg, if_pos (show rNET_SNAP_CMD = fNET_SNAP_CMD_CLR.addr from rfl), Fld.get_merged_within (by decide), hw,
      Fld.get_put_apart _ _ okSnap (Or.inr (by decide))]
    interval_cases fNET_SNAP_CMD_CLR.get v <;> rfl
  have snapSeen : fNET_SNAP_CMD_SNAP.get (w &&& w32 snapCmdRow.cmd) = 1 := by
    rw [Fld.get_and_within (by decide), hw, Fld.get_put _ okSnap]
    rfl
  refine ⟨c, ⟨⟨by rw [hc]; rfl, ?_⟩, ?_, clr⟩, ?_⟩
  · rw [hc]; exact (d.answer_sameRegs p [] _).setReg (by simp) _
  · rw [hc]; exact (congrArg PortSt.code (Dev.port_congr rfl p)).trans (d.answer_code p [])
  · rw [Dev.writeWith, ← hw, show fNET_SNAP_CMD_SNAP.addr = rNET_SNAP_CMD from rfl, Dev.busWrite_plain takes regAt_snapCmd (by decide),
      Dev.regStore_free (d := d.answer p []) rfl, Dev.writeEffect_snapCmd, snapSeen, if_pos rfl, hc]
    rfl

/-! ## What the command does (R294, R295) -/

/-- The counters of a list at 0. -/
def Dev.clearCounters (d : Dev) (l : List Nat) : Dev := l.foldl (fun d a => d.setReg a 0) d

theorem Dev.clearCounters_keeps (d : Dev) (l : List Nat) : Keeps Dev.butRegs l d (d.clearCounters l) :=
  Keeps.foldl (fun c a => c.setReg a 0) l (fun _ ha c => ⟨rfl, (Dev.sameRegs.refl c _).setReg ha 0⟩) d

theorem Dev.clearCounters_reg (d : Dev) {l : List Nat} {a : Nat} (ha : a ∈ l) : (d.clearCounters l).reg a = 0 := by
  have zero : ∀ (t : List Nat) (c : Dev), c.reg a = 0 ∨ a ∈ t → (c.clearCounters t).reg a = 0 := by
    intro t
    induction t with
    | nil => exact fun c h => h.resolve_right List.not_mem_nil
    | cons b t ih =>
      intro c h
      refine ih (c.setReg b 0) ?_
      rw [Dev.reg_setReg]
      by_cases here : b = a
      · exact Or.inl (if_pos here)
      · rw [if_neg here]
        exact h.imp_right fun hm => (List.mem_cons.mp hm).resolve_left (Ne.symm here)
  exact zero l d (Or.inr ha)

/-- The snapshot of every live counter as it stands, at the present FT64. -/
def Dev.snapNow (d : Dev) : Snap := { copies := liveCounters.map fun a => (a + 0x100, d.reg a), ft := d.ft64 }

/-- The device with another snapshot in progress. -/
def Dev.setSnap (d : Dev) (x : Option Snap) : Dev := { d with snap := x }

/-- The device with another snapshot held. -/
def Dev.holdSnap (d : Dev) (x : Option Bool) : Dev := { d with snapHeld := x }

theorem Dev.netSnap_takes (none : d.snap = none) (clr : d.on fNET_SNAP_CMD_CLR = false) :
    d.netSnap = (d.setSnap (some d.snapNow)).putB fNET_SNAP_STS_BUSY true := by
  simp only [Dev.netSnap, none, clr]
  rfl

theorem Dev.netSnap_takes_clear (none : d.snap = none) (clr : d.on fNET_SNAP_CMD_CLR = true) :
    d.netSnap = ((d.setSnap (some d.snapNow)).clearCounters liveCounters).putB fNET_SNAP_STS_BUSY true := by
  simp only [Dev.netSnap, none, clr]
  rfl

theorem Dev.netSnap_holds {w : Snap} (now : d.snap = some w) (none : d.snapHeld = none) :
    d.netSnap = (d.holdSnap (some (d.on fNET_SNAP_CMD_CLR))).putB fNET_SNAP_STS_QUEUED true := by
  simp only [Dev.netSnap, Dev.holdSnap, now, none]

theorem Dev.netSnap_counts {w : Snap} {b : Bool} (now : d.snap = some w) (held : d.snapHeld = some b) :
    d.netSnap = d.inc rNET_SNAP_OVF_CNT := by
  simp only [Dev.netSnap, now, held]

/-- A device whose live counters and time stand as they did takes the same snapshot. -/
theorem Dev.snapNow_congr (regs : ∀ a ∈ liveCounters, e.reg a = d.reg a) (time : e.time = d.time) : e.snapNow = d.snapNow := by
  have copies : (liveCounters.map fun a => (a + 0x100, e.reg a)) = liveCounters.map fun a => (a + 0x100, d.reg a) :=
    List.map_congr_left fun a ha => by rw [regs a ha]
  rw [Dev.snapNow, copies, Dev.ft64, time]
  rfl

theorem liveCounters_range {a : Nat} (ha : a ∈ liveCounters) : 0xE0000 ≤ a ∧ a < 0xE4000 := by
  simp only [liveCounters, liveOffsets, List.mem_flatMap, List.mem_map, List.mem_append, List.mem_range] at ha
  obtain ⟨n, hn, o, ⟨k, hk, rfl⟩ | ⟨k, hk, rfl⟩, rfl⟩ := ha <;> omega

/-! ## The four commands -/

namespace SnapWritten

variable {c : Dev}

theorem snap (w : SnapWritten d c p v) : c.snap = d.snap := congrArg (·.snap) w.kept.rest

theorem held (w : SnapWritten d c p v) : c.snapHeld = d.snapHeld := congrArg (·.snapHeld) w.kept.rest

/-- The store leaves the live counters and the time as they were. -/
theorem snapNow (w : SnapWritten d c p v) : c.snapNow = d.snapNow :=
  Dev.snapNow_congr (fun _ ha => w.kept.regs _ fun hm => by
    have range := liveCounters_range ha
    rw [List.mem_singleton.mp hm, rNET_SNAP_CMD] at range
    omega) (congrArg (·.time) w.kept.rest)

end SnapWritten

/-- The device but for its registers and its snapshots. -/
def Dev.butSnap (d : Dev) : Dev := { d with regs := [], snap := none, snapHeld := none }

theorem Dev.setSnap_keeps (d : Dev) (L : List Nat) (x : Option Snap) : Keeps Dev.butSnap L d (d.setSnap x) := Keeps.of_regs rfl rfl

theorem Dev.holdSnap_keeps (d : Dev) (L : List Nat) (x : Option Bool) : Keeps Dev.butSnap L d (d.holdSnap x) := Keeps.of_regs rfl rfl

/-- A change of registers alone keeps all but registers and snapshots. -/
theorem Keeps.butSnap {L : List Nat} (h : Keeps Dev.butRegs L d e) : Keeps Dev.butSnap L d e :=
  h.part fun x : Dev => { x with snap := none, snapHeld := none }

/-- The snapshot command completes in what it makes, `e`, of the device that its store leaves, `c`. -/
theorem netSnap_completes {s : State} {c : Dev} {L : List Nat} {P : Dev → Prop} (calm : s.dev.calm = true) (w : SnapWritten s.dev c p v)
    (written : s.dev.writeWith {} p fNET_SNAP_CMD_SNAP 1 v = c.netSnap) (acts : c.netSnap = e) (kept : Keeps Dev.butSnap L c e)
    (apart : ∀ a ∈ calmRegs, a ∉ L) (stored : rNET_SNAP_CMD ∈ L) (h : P e.showIrq) :
    Completes (.netSnap p v) s fun d => P d ∧ (d.port p).code = 0 ∧ s.dev.sameRegs d L ∧
      d = { s.dev with regs := d.regs, ports := d.ports, snap := d.snap, snapHeld := d.snapHeld, irqA := d.irqA, irqB := d.irqB } := by
  have hx : exec (.netSnap p v) s = s.done e := congrArg s.done (written.trans acts)
  have ports : e.ports = c.ports := congrArg (·.ports) kept.rest
  have keeps : Keeps (fun x => { x.butSnap with ports := [] }) L s.dev e :=
    ((w.kept.mono (List.cons_subset.mpr ⟨stored, List.nil_subset L⟩)).part fun x : Dev => { x with snap := none, snapHeld := none }).trans
      (kept.part fun x : Dev => { x with ports := [] })
  refine completes_of_sameRegs hx calm keeps.regs apart (congrArg (·.calmPart) keeps.rest :) ⟨h, ?_, keeps.regs.showIrq, ?_⟩
  · rw [Dev.showIrq_port, Dev.port_congr ports, w.code]
  · exact congrArg (fun x : Dev => { x with regs := e.regs, ports := e.ports, snap := e.snap, snapHeld := e.snapHeld,
                                            irqA := e.irqPinA, irqB := e.irqPinB }) keeps.rest

/-- SNAP with CLR = 0 and no snapshot in progress (R294). -/
theorem netSnap_taken_completes (s : State) (p : Port) (v : Word) (calm : s.dev.calm = true) (takes : s.dev.takes p rNET_SNAP_CMD)
    (idle : s.dev.snap = none) (clr : fNET_SNAP_CMD_CLR.get v = 0) :
    Completes (.netSnap p v) s fun d =>
      (d.snap = some { copies := liveCounters.map fun a => (a + 0x100, s.dev.reg a), ft := s.dev.ft64 }) ∧
      d.on fNET_SNAP_STS_BUSY = true ∧
      (d.port p).code = 0 ∧
      s.dev.sameRegs d [rNET_SNAP_CMD, rNET_SNAP_STS] ∧
      d = { s.dev with regs := d.regs, ports := d.ports, snap := d.snap, irqA := d.irqA, irqB := d.irqB } := by
  obtain ⟨c, w, written⟩ := Dev.writeWith_snapCmd takes v
  have acts := Dev.netSnap_takes (w.snap.trans idle) (by rw [w.clr, clr]; rfl)
  rw [w.snapNow] at acts
  obtain ⟨b, hb⟩ : ∃ b, b = c.setSnap (some s.dev.snapNow) := ⟨_, rfl⟩
  rw [← hb] at acts
  have taken : Keeps Dev.butSnap [rNET_SNAP_CMD, rNET_SNAP_STS] c b := by rw [hb]; exact c.setSnap_keeps _ _
  have now : b.snap = some s.dev.snapNow := by rw [hb]; rfl
  have held : b.snapHeld = s.dev.snapHeld := by rw [hb]; exact w.held
  obtain ⟨t, ran, waits, ⟨snap, busy, stands⟩, code, regs, frame⟩ := netSnap_completes
    (P := fun d => d.snap = some s.dev.snapNow ∧ d.on fNET_SNAP_STS_BUSY = true ∧ d.snapHeld = s.dev.snapHeld) calm w written acts
    (taken.trans (b.putB_keeps (by decide) true).butSnap) (by decide) (by decide) ⟨now, Dev.on_putB_same _ fNET_SNAP_ok.2.1 rfl true, held⟩
  rw [stands] at frame
  exact ⟨t, ran, waits, snap, busy, code, regs, frame⟩

/-- SNAP with CLR = 1 and no snapshot in progress (R295). -/
theorem netSnap_cleared_completes (s : State) (p : Port) (v : Word) (calm : s.dev.calm = true) (takes : s.dev.takes p rNET_SNAP_CMD)
    (idle : s.dev.snap = none) (clr : fNET_SNAP_CMD_CLR.get v = 1) :
    Completes (.netSnap p v) s fun d =>
      (d.snap = some { copies := liveCounters.map fun a => (a + 0x100, s.dev.reg a), ft := s.dev.ft64 }) ∧
      (∀ a ∈ liveCounters, d.reg a = 0) ∧
      (d.port p).code = 0 ∧
      s.dev.sameRegs d (rNET_SNAP_CMD :: rNET_SNAP_STS :: liveCounters) ∧
      d = { s.dev with regs := d.regs, ports := d.ports, snap := d.snap, irqA := d.irqA, irqB := d.irqB } := by
  obtain ⟨c, w, written⟩ := Dev.writeWith_snapCmd takes v
  have acts := Dev.netSnap_takes_clear (w.snap.trans idle) (by rw [w.clr, clr]; rfl)
  rw [w.snapNow] at acts
  obtain ⟨b, hb⟩ : ∃ b, b = c.setSnap (some s.dev.snapNow) := ⟨_, rfl⟩
  obtain ⟨f, hf⟩ : ∃ f, f = b.clearCounters liveCounters := ⟨_, rfl⟩
  rw [← hb, ← hf] at acts
  have taken : Keeps Dev.butSnap (rNET_SNAP_CMD :: rNET_SNAP_STS :: liveCounters) c b := by rw [hb]; exact c.setSnap_keeps _ _
  have cleared : Keeps Dev.butRegs liveCounters b f := by rw [hf]; exact b.clearCounters_keeps _
  have now : f.snap = some s.dev.snapNow := (congrArg (·.snap) cleared.rest :).trans (by rw [hb]; rfl)
  have held : f.snapHeld = s.dev.snapHeld := (congrArg (·.snapHeld) cleared.rest :).trans (by rw [hb]; exact w.held)
  have zero : ∀ a ∈ liveCounters, (f.putB fNET_SNAP_STS_BUSY true).reg a = 0 := fun a ha => by
    have apart : fNET_SNAP_STS_BUSY.addr ≠ a := by
      have range := liveCounters_range ha
      simp only [fNET_SNAP_STS_BUSY]
      omega
    rw [Dev.putB, Dev.reg_put_ne _ _ apart, hf, b.clearCounters_reg ha]
  have calmApart : ∀ a ∈ calmRegs, a ∉ rNET_SNAP_CMD :: rNET_SNAP_STS :: liveCounters := fun a ha hm => by
    have range := (by decide : ∀ a ∈ calmRegs, ¬(0xE0000 ≤ a ∧ a < 0xE9000)) a ha
    obtain rfl | hm := List.mem_cons.mp hm
    · exact range (by decide)
    · obtain rfl | hm := List.mem_cons.mp hm
      · exact range (by decide)
      · have := liveCounters_range hm
        omega
  obtain ⟨t, ran, waits, ⟨snap, zeros, stands⟩, code, regs, frame⟩ := netSnap_completes
    (P := fun d => d.snap = some s.dev.snapNow ∧ (∀ a ∈ liveCounters, d.reg a = 0) ∧ d.snapHeld = s.dev.snapHeld) calm w written acts
    ((taken.trans (cleared.mono (List.subset_cons_of_subset _ (List.subset_cons_self ..))).butSnap).trans
      (f.putB_keeps (f := fNET_SNAP_STS_BUSY) (List.mem_cons_of_mem _ List.mem_cons_self) true).butSnap) calmApart List.mem_cons_self ⟨now, zero, held⟩
  rw [stands] at frame
  exact ⟨t, ran, waits, snap, zeros, code, regs, frame⟩

/-- SNAP during a snapshot, with none held (R295). -/
theorem netSnap_held_completes (s : State) (p : Port) (v : Word) (x : Snap) (calm : s.dev.calm = true) (takes : s.dev.takes p rNET_SNAP_CMD)
    (now : s.dev.snap = some x) (free : s.dev.snapHeld = none) :
    Completes (.netSnap p v) s fun d =>
      d.snap = some x ∧
      d.snapHeld = some (fNET_SNAP_CMD_CLR.get v == 1) ∧
      d.on fNET_SNAP_STS_QUEUED = true ∧
      (d.port p).code = 0 ∧
      s.dev.sameRegs d [rNET_SNAP_CMD, rNET_SNAP_STS] ∧
      d = { s.dev with regs := d.regs, ports := d.ports, snapHeld := d.snapHeld, irqA := d.irqA, irqB := d.irqB } := by
  obtain ⟨c, w, written⟩ := Dev.writeWith_snapCmd takes v
  have acts := Dev.netSnap_holds (w.snap.trans now) (w.held.trans free)
  rw [w.clr] at acts
  obtain ⟨b, hb⟩ : ∃ b, b = c.holdSnap (some (fNET_SNAP_CMD_CLR.get v == 1)) := ⟨_, rfl⟩
  rw [← hb] at acts
  have taken : Keeps Dev.butSnap [rNET_SNAP_CMD, rNET_SNAP_STS] c b := by rw [hb]; exact c.holdSnap_keeps _ _
  have stands : b.snap = some x := by rw [hb]; exact w.snap.trans now
  have holds : b.snapHeld = some (fNET_SNAP_CMD_CLR.get v == 1) := by rw [hb]; rfl
  obtain ⟨t, ran, waits, ⟨snap, held, queued⟩, code, regs, frame⟩ := netSnap_completes
    (P := fun d => d.snap = some x ∧ d.snapHeld = some (fNET_SNAP_CMD_CLR.get v == 1) ∧ d.on fNET_SNAP_STS_QUEUED = true) calm w written acts
    (taken.trans (b.putB_keeps (by decide) true).butSnap) (by decide) (by decide)
    ⟨stands, holds, Dev.on_putB_same _ fNET_SNAP_ok.2.2 rfl true⟩
  rw [snap.trans now.symm] at frame
  exact ⟨t, ran, waits, snap, held, queued, code, regs, frame⟩

/-- SNAP during a snapshot, with one held (R295). -/
theorem netSnap_counted_completes (s : State) (p : Port) (v : Word) (x : Snap) (b : Bool) (calm : s.dev.calm = true)
    (takes : s.dev.takes p rNET_SNAP_CMD) (now : s.dev.snap = some x) (held : s.dev.snapHeld = some b) :
    Completes (.netSnap p v) s fun d =>
      (d.reg rNET_SNAP_OVF_CNT).toNat = min ((s.dev.reg rNET_SNAP_OVF_CNT).toNat + 1) (2 ^ 32 - 1) ∧
      (d.port p).code = 0 ∧
      s.dev.sameRegs d [rNET_SNAP_CMD, rNET_SNAP_OVF_CNT] ∧
      d = { s.dev with regs := d.regs, ports := d.ports, irqA := d.irqA, irqB := d.irqB } := by
  obtain ⟨c, w, written⟩ := Dev.writeWith_snapCmd takes v
  have acts := Dev.netSnap_counts (w.snap.trans now) (w.held.trans held)
  have counts : ((c.inc rNET_SNAP_OVF_CNT).reg rNET_SNAP_OVF_CNT).toNat = min ((s.dev.reg rNET_SNAP_OVF_CNT).toNat + 1) (2 ^ 32 - 1) := by
    rw [c.reg_inc_same, w.kept.regs _ (by decide)]
  obtain ⟨t, ran, waits, ⟨counted, snap, stands⟩, code, regs, frame⟩ := netSnap_completes
    (P := fun d => (d.reg rNET_SNAP_OVF_CNT).toNat = min ((s.dev.reg rNET_SNAP_OVF_CNT).toNat + 1) (2 ^ 32 - 1) ∧ d.snap = s.dev.snap ∧
      d.snapHeld = s.dev.snapHeld) calm w written acts ((c.inc_keeps _).mono (by simp)).butSnap (L := [rNET_SNAP_CMD, rNET_SNAP_OVF_CNT])
    (by decide) (by decide) ⟨counts, w.snap, w.held⟩
  rw [snap, stands] at frame
  exact ⟨t, ran, waits, counted, code, regs, frame⟩

/-- Settles O24: a transaction of each operation by the one write that starts it, its end by what it was, and the snapshot command by what is
in progress and held. -/
theorem mdioAndSnapshots : Obligations.MdioAndSnapshots :=
  ⟨fun _ _ _ calm takes idle => mdioCommand_completes calm takes idle (by decide) (by decide) rfl,
    fun _ _ _ calm takes idle => mdioCommand_completes calm takes idle (by decide) (by decide) rfl,
    fun _ _ _ calm takes idle => mdioCommand_completes calm takes idle (by decide) (by decide) rfl,
    fun _ _ _ calm takes idle => mdioCommand_completes calm takes idle (by decide) (by decide) rfl,
    fun _ _ _ calm takes idle => mdioCommand_completes calm takes idle (by decide) (by decide) rfl,
    fun _ _ _ calm takes idle => mdioCommand_completes calm takes idle (by decide) (by decide) rfl,
    mdioDone_answered_completes, mdioDone_unanswered_completes, mdioDone_written_completes,
    netSnap_taken_completes, netSnap_cleared_completes, netSnap_held_completes, netSnap_counted_completes⟩

end Sys2Proof.Machine
end

section
/-! A network port (R303, R317): the part of the device that a change of it leaves alone, and what bringing its shapers up to now leaves
of it. -/

namespace Sys2Proof.Machine

open Sys2Proof

variable {d e : Dev} {n : Nat} {L : List Nat}

/-! ## The state of a port -/

/-- The device but for its registers and its network ports. -/
def Dev.butNet (d : Dev) : Dev := { d with regs := [], net := [] }

@[simp] theorem Dev.netOf_setNet_same (d : Dev) (n : Nat) (x : NetSt) : (d.setNet n x).netOf n = x := kget_kset_same ..

theorem Dev.netOf_congr (h : e.net = d.net) (n : Nat) : e.netOf n = d.netOf n := by unfold Dev.netOf; rw [h]

theorem Dev.setNet_butNet (d : Dev) (n : Nat) (L : List Nat) (x : NetSt) : Keeps Dev.butNet L d (d.setNet n x) := Keeps.of_regs rfl rfl

/-- A change of registers alone keeps all but registers and network ports. -/
theorem Keeps.butNet (h : Keeps Dev.butRegs L d e) : Keeps Dev.butNet L d e := h.part fun x : Dev => { x with net := [] }

theorem Dev.add_keeps (d : Dev) {a : Nat} (h : a ∈ L) (k : Nat) : Keeps Dev.butRegs L d (d.add a k) := ⟨rfl, (Dev.sameRegs.refl d L).add h k⟩

/-- A port but for the credit of its shapers. -/
def NetSt.butCredit (x : NetSt) : NetSt := { x with credit5 := 0, credit6 := 0, creditAt := 0 }

theorem Dev.cbs_butNet (d : Dev) (n : Nat) (L : List Nat) : Keeps Dev.butNet L d (d.cbs n) := d.setNet_butNet n L _

theorem Dev.cbs_butCredit (d : Dev) (n : Nat) : ((d.cbs n).netOf n).butCredit = (d.netOf n).butCredit := by
  rw [Dev.cbs, Dev.netOf_setNet_same]; rfl

/-! ## The registers of a port -/

/-- The registers of port `n` that its gates, preemption and PAUSE may change, and those that they share with others. -/
def netRegs (n : Nat) : List Nat :=
  [rNETn_GATE_CFG n, rNETn_GATE_STS n, rNETn_MM_STS n, rNETn_MM_TX_FRAG_CNT n, rNETn_MM_RX_SMD_ERR_CNT n, rNETn_MM_VERIFY_FAIL_CNT n,
    rNETn_PAUSE_TX n, rNETn_PAUSE_STS n, rNETn_PAUSE_RX_CNT n, rNETn_PAUSE_QUANTA_CNT n, rNET_REFUSE_CNT, rINT_INJ_CMD, rGLB_IGN_CNT,
    rGLB_IGN_OVF_CNT]

theorem calmRegs_net {n : Nat} (hn : n < 6) : ∀ a ∈ calmRegs, a ∉ netRegs n := by interval_cases n <;> decide

/-- What `Dev.calm` reads lies apart from some of these registers. -/
theorem net_apart (hn : n < 6) (h : L ⊆ netRegs n) : ∀ a ∈ calmRegs, a ∉ L := apart_of_subset (calmRegs_net hn) h

/-- A device that keeps all but registers and network ports, as a frame equation, its interrupt balls following. -/
theorem Dev.showIrq_of_butNet (h : e.butNet = d.butNet) :
    e.showIrq = { d with regs := e.showIrq.regs, net := e.showIrq.net, irqA := e.showIrq.irqA, irqB := e.showIrq.irqB } :=
  congrArg (fun x : Dev => { x with regs := e.regs, net := e.net, irqA := e.irqPinA, irqB := e.irqPinB }) h

/-- The same where the network ports are kept too. -/
theorem Dev.showIrq_of_butRegs (h : e.butRegs = d.butRegs) :
    e.showIrq = { d with regs := e.showIrq.regs, irqA := e.showIrq.irqA, irqB := e.showIrq.irqB } :=
  congrArg (fun x : Dev => { x with regs := e.regs, irqA := e.irqPinA, irqB := e.irqPinB }) h

@[simp] theorem Dev.showIrq_netOf (d : Dev) (n : Nat) : d.showIrq.netOf n = d.netOf n := rfl

end Sys2Proof.Machine
end

section
/-! PAUSE (R316 to R319): a frame taken, the timer expired, and a frame asked for. -/

namespace Sys2Proof.Machine

open Sys2Proof

variable {d e : Dev} {n : Nat} {p : Port} {v : Word}

/-! ## The timer (R317, R318) -/

theorem fNETn_PAUSE_STS_PAUSED_ok (n : Nat) : (fNETn_PAUSE_STS_PAUSED n).ok := (by decide : 31 + 1 ≤ 32)

/-- A remainder that is made to wait is all that a hold changes. -/
theorem Dev.remHold_eq (d : Dev) (n : Nat) : d.remHold n = d ∨ ∃ r, d.remHold n = d.setNet n { d.netOf n with rem := some r } := by
  unfold Dev.remHold
  split
  · split
    · exact Or.inr ⟨_, rfl⟩
    · exact Or.inl rfl
  · exact Or.inl rfl

theorem Dev.remHold_butNet (d : Dev) (n : Nat) (L : List Nat) : Keeps Dev.butNet L d (d.remHold n) := by
  obtain h | ⟨r, h⟩ := d.remHold_eq n <;> rw [h]
  · exact Keeps.refl ..
  · exact d.setNet_butNet n L _

theorem Dev.remHold_regs (d : Dev) (n : Nat) : (d.remHold n).regs = d.regs := by
  obtain h | ⟨r, h⟩ := d.remHold_eq n <;> rw [h]
  rfl

theorem Dev.remHold_pause (d : Dev) (n : Nat) : ((d.remHold n).netOf n).pause = (d.netOf n).pause := by
  obtain h | ⟨r, h⟩ := d.remHold_eq n <;> rw [h]
  rw [Dev.netOf_setNet_same]

/-- The timer is cleared: the port is paused no more. -/
theorem Dev.pauseOver_butNet (d : Dev) (n : Nat) : Keeps Dev.butNet [rNETn_PAUSE_STS n] d (d.pauseOver n) :=
  (d.setNet_butNet n _ _).trans (Dev.putB_keeps _ (by exact List.mem_singleton.mpr rfl) false).butNet

theorem Dev.pauseOver_pause (d : Dev) (n : Nat) : ((d.pauseOver n).netOf n).pause = none :=
  congrArg NetSt.pause (Dev.netOf_setNet_same ..)

theorem Dev.pauseOver_paused (d : Dev) (n : Nat) : (d.pauseOver n).on (fNETn_PAUSE_STS_PAUSED n) = false :=
  Dev.on_putB_same _ (fNETn_PAUSE_STS_PAUSED_ok n) rfl false

/-- What the timer loaded with `q` quanta leaves. -/
structure PauseLoaded (d e : Dev) (n q : Nat) : Prop where
  kept : Keeps Dev.butNet [rNETn_PAUSE_STS n, rNETn_PAUSE_QUANTA_CNT n] d e
  timer : (e.netOf n).pause = if q = 0 then none else some (q, d.mono)
  paused : e.on (fNETn_PAUSE_STS_PAUSED n) = (q != 0)

/-- The quanta spent until now are counted. -/
theorem Dev.pauseCount_butNet (d : Dev) (n : Nat) : Keeps Dev.butNet [rNETn_PAUSE_QUANTA_CNT n] d (d.pauseCount n) :=
  (d.setNet_butNet n _ _).trans (Dev.add_keeps _ (List.mem_singleton.mpr rfl) _).butNet

/-- The timer loaded, or cleared by 0 (R317, R318). -/
theorem Dev.pauseLoad_loaded (d : Dev) (n q : Nat) : PauseLoaded d (d.pauseLoad n q) n q := by
  obtain ⟨c, hc⟩ : ∃ c, c = (d.cbs n).pauseCount n := ⟨_, rfl⟩
  have counted : Keeps Dev.butNet [rNETn_PAUSE_STS n, rNETn_PAUSE_QUANTA_CNT n] d c := by
    rw [hc]; exact (d.cbs_butNet n _).trans ((Dev.pauseCount_butNet _ n).mono (by simp))
  unfold Dev.pauseLoad
  dsimp only
  rw [← hc]
  by_cases zero : q = 0
  · subst zero
    exact ⟨counted.trans ((c.pauseOver_butNet n).mono (by simp)), c.pauseOver_pause n, c.pauseOver_paused n⟩
  · have mono : c.mono = d.mono := (congrArg Dev.mono counted.rest : c.butNet.mono = d.butNet.mono)
    rw [if_neg zero]
    obtain ⟨b, hb⟩ : ∃ b, b = (c.setNet n { c.netOf n with pause := some (q, c.mono), counted := 0 }).putB (fNETn_PAUSE_STS_PAUSED n) true :=
      ⟨_, rfl⟩
    have loaded : Keeps Dev.butNet [rNETn_PAUSE_STS n, rNETn_PAUSE_QUANTA_CNT n] c b := by
      rw [hb]; exact (c.setNet_butNet n _ _).trans (Dev.putB_keeps _ (f := fNETn_PAUSE_STS_PAUSED n) List.mem_cons_self true).butNet
    have timer : (b.netOf n).pause = some (q, c.mono) := by
      rw [hb]; exact congrArg NetSt.pause (c.netOf_setNet_same n _)
    rw [← hb]
    refine ⟨(counted.trans loaded).trans (b.remHold_butNet n _), ?_, ?_⟩
    · rw [b.remHold_pause, timer, mono, if_neg zero]
    · rw [Dev.on_of_regs (b.remHold_regs n), hb, Dev.on_putB_same _ (fNETn_PAUSE_STS_PAUSED_ok n) rfl]
      exact (bne_iff_ne.mpr zero).symm

/-! ## A PAUSE received (R317, R318) -/

/-- The oldest frame handed, a PAUSE, is counted and loads the timer. -/
theorem Dev.pauseTaken_first {h : Handed} {t : List Handed} (first : d.handed = h :: t) (sink : h.sink = .pause)
    (works : d.domOn (9 + h.port.val) = true) (takes : d.on (fNETn_PAUSE_CFG_RX_EN h.port) = true) :
    d.pauseTaken = ((d.unhand h).inc (rNETn_PAUSE_RX_CNT h.port)).pauseLoad h.port (beAt h.bytes 16 2) := by
  have found : d.handed.find? (fun x => x.sink == .pause) = some h := by rw [first, List.find?_cons_of_pos (by rw [sink]; rfl)]
  have taken : d.take (fun x => x.sink == .pause) = (some h, d.unhand h) := by
    simp only [Dev.take, found]; rfl
  have works' : (d.unhand h).domOn (9 + h.port.val) = true := works
  have takes' : ((d.unhand h).inc (rNETn_PAUSE_RX_CNT h.port)).on (fNETn_PAUSE_CFG_RX_EN h.port) = true := by
    rw [Dev.on, Dev.get_inc_ne _ _ _ (by simp only [rNETn_PAUSE_RX_CNT, fNETn_PAUSE_CFG_RX_EN]; omega)]
    exact takes
  simp only [Dev.pauseTaken, taken, works', takes', Bool.not_true, Bool.false_eq_true, if_false, if_true]

/-- A PAUSE taken with RX_EN = 1 (R317, R318). -/
theorem pauseFrame_completes (s : State) (h : Handed) (t : List Handed) (calm : s.dev.calm = true) (first : s.dev.handed = h :: t)
    (sink : h.sink = .pause) (works : s.dev.domOn (9 + h.port.val) = true)
    (takes : s.dev.on (fNETn_PAUSE_CFG_RX_EN h.port) = true) (core : s.dev.domOn 1 = true) :
    Completes (.pauseFrame) s fun d =>
      d.handed = t ∧
      (d.reg (rNETn_PAUSE_RX_CNT h.port)).toNat = min ((s.dev.reg (rNETn_PAUSE_RX_CNT h.port)).toNat + 1) (2 ^ 32 - 1) ∧
      ((d.netOf h.port).pause = if beAt h.bytes 16 2 = 0 then none else some (beAt h.bytes 16 2, s.dev.mono)) ∧
      d.on (fNETn_PAUSE_STS_PAUSED h.port) = (beAt h.bytes 16 2 != 0) ∧
      s.dev.sameRegs d [rNETn_PAUSE_RX_CNT h.port, rNETn_PAUSE_STS h.port, rNETn_PAUSE_QUANTA_CNT h.port] ∧
      d = { s.dev with regs := d.regs, handed := d.handed, net := d.net, irqA := d.irqA, irqB := d.irqB } := by
  obtain ⟨c, hc⟩ : ∃ c, c = (s.dev.unhand h).inc (rNETn_PAUSE_RX_CNT h.port) := ⟨_, rfl⟩
  obtain ⟨e, he⟩ : ∃ e, e = c.pauseLoad h.port (beAt h.bytes 16 2) := ⟨_, rfl⟩
  have hx : exec .pauseFrame s = s.done e := by
    rw [he, hc, ← Dev.pauseTaken_first first sink works takes]
    exact State.doneIn_on core _
  obtain ⟨kept, timer, paused⟩ : PauseLoaded c e h.port (beAt h.bytes 16 2) := he ▸ c.pauseLoad_loaded h.port _
  have counted : Keeps (fun x => { x.butNet with handed := [] }) [rNETn_PAUSE_RX_CNT h.port] s.dev c := by
    rw [hc]; exact ⟨rfl, (Dev.sameRegs.refl s.dev _).inc List.mem_cons_self⟩
  have keeps : Keeps (fun x => { x.butNet with handed := [] })
      [rNETn_PAUSE_RX_CNT h.port, rNETn_PAUSE_STS h.port, rNETn_PAUSE_QUANTA_CNT h.port] s.dev e :=
    (counted.mono (by simp)).trans ((kept.mono (by simp)).part fun x : Dev => { x with handed := [] })
  refine completes_of_sameRegs hx calm keeps.regs (net_apart h.port.isLt (by simp [netRegs]))
    (congrArg (·.calmPart) keeps.rest :) ⟨?_, ?_, ?_, ?_, keeps.regs.showIrq, ?_⟩
  · have left : c.handed = t := by
      rw [hc]
      exact (congrArg (List.erase · h) first).trans (List.erase_cons_head ..)
    exact (congrArg (·.handed) kept.rest : e.handed = c.handed).trans left
  · rw [Dev.showIrq_reg, kept.regs _ (by simp [rNETn_PAUSE_RX_CNT, rNETn_PAUSE_STS, rNETn_PAUSE_QUANTA_CNT]), hc, Dev.reg_inc_same]
    rfl
  · rw [Dev.showIrq_netOf, timer, hc]
    rfl
  · rw [Dev.showIrq_on, paused]
  · exact congrArg (fun x : Dev => { x with regs := e.regs, handed := e.handed, net := e.net, irqA := e.irqPinA, irqB := e.irqPinB }) keeps.rest

/-! ## The timer expires (R317) -/

/-- Every quantum loaded is spent (R317). -/
theorem pauseExpiry_completes (s : State) (n : Fin 4) (q : Nat) (z : Int) (calm : s.dev.calm = true)
    (paused : (s.dev.netOf n.val).pause = some (q, z)) (works : s.dev.domOn (9 + n.val) = true) :
    Completes (.pauseExpiry n) s fun d =>
      (d.netOf n.val).pause = none ∧
      d.on (fNETn_PAUSE_STS_PAUSED n.val) = false ∧
      (d.reg (rNETn_PAUSE_QUANTA_CNT n.val)).toNat = min ((s.dev.reg (rNETn_PAUSE_QUANTA_CNT n.val)).toNat + (q - (s.dev.netOf n.val).counted)) (2 ^ 32 - 1) ∧
      s.dev.sameRegs d [rNETn_PAUSE_STS n.val, rNETn_PAUSE_QUANTA_CNT n.val] ∧
      d = { s.dev with regs := d.regs, net := d.net, irqA := d.irqA, irqB := d.irqB } := by
  obtain ⟨c, hc⟩ : ∃ c, c = (s.dev.cbs n).add (rNETn_PAUSE_QUANTA_CNT n) (q - (s.dev.netOf n).counted) := ⟨_, rfl⟩
  have hx : exec (.pauseExpiry n) s = s.done (c.pauseOver n) := by
    have expires : s.dev.pauseExpiry n = c.pauseOver n := by rw [hc]; simp only [Dev.pauseExpiry, paused]
    rw [← expires]
    exact State.doneIn_on works _
  have counted : Keeps Dev.butNet [rNETn_PAUSE_QUANTA_CNT n] s.dev c := by
    rw [hc]; exact (s.dev.cbs_butNet n _).trans (Dev.add_keeps _ (List.mem_singleton.mpr rfl) _).butNet
  have ended := c.pauseOver_butNet n
  have keeps : Keeps Dev.butNet [rNETn_PAUSE_STS n, rNETn_PAUSE_QUANTA_CNT n] s.dev (c.pauseOver n) :=
    (counted.mono (by simp)).trans (ended.mono (by simp))
  refine completes_of_sameRegs hx calm keeps.regs (net_apart (n := n) (by omega) (by simp [netRegs]))
    (congrArg (·.calmPart) keeps.rest :) ⟨c.pauseOver_pause n, c.pauseOver_paused n, ?_, keeps.regs.showIrq, Dev.showIrq_of_butNet keeps.rest⟩
  rw [Dev.showIrq_reg, ended.regs _ (by simp [rNETn_PAUSE_QUANTA_CNT, rNETn_PAUSE_STS]), hc, Dev.reg_add_same]
  rfl

/-! ## A PAUSE asked for (R319) -/

/-- The row of NETn_PAUSE_TX in the register summary. -/
def pauseTxRow : RegDesc := { base := 0xE0464, s1 := 0x1000, c1 := 4, wr := 0xFFFF, cmd := 0x80000000 }

theorem regAt_pauseTx (n : Fin 4) : regAt (rNETn_PAUSE_TX n.val) = some (pauseTxRow, n.val, 0) := by fin_cases n <;> rfl

theorem plainReg_pauseTx (n : Fin 4) : plainReg (rNETn_PAUSE_TX n.val) n.val = true ∧ tcmpReg (rNETn_PAUSE_TX n.val) = false ∧
    rNETn_PAUSE_TX n.val < 0x400000 ∧ rNETn_PAUSE_TX n.val / 4 * 4 = rNETn_PAUSE_TX n.val := by revert n; decide

theorem Dev.writeEffect_pauseTx (d : Dev) (m : Meets) (n : Fin 4) (old v cmd : Word) :
    d.writeEffect m (rNETn_PAUSE_TX n.val) n.val old v cmd = if (fNETn_PAUSE_TX_SEND n.val).get cmd = 1 then d.pauseSend n.val else d := by
  fin_cases n <;> rfl

theorem fNETn_PAUSE_TX_SEND_ok (n : Nat) : (fNETn_PAUSE_TX_SEND n).ok := (by decide : 31 + 1 ≤ 32)

/-- SEND is stored with its TIME, and asks for a frame of that TIME (R319). -/
theorem pauseTxSend_completes (s : State) (n : Fin 4) (p : Port) (v : Word) (calm : s.dev.calm = true)
    (takes : s.dev.takes p (rNETn_PAUSE_TX n.val)) (enabled : s.dev.netOn n.val = true) (up : s.dev.linkUp n.val = true) :
    Completes (.pauseTxSend n p v) s fun d =>
      (d.netOf n.val).pauseTx = some ((fNETn_PAUSE_TX_TIME n.val).get v) ∧
      (d.port p).code = 0 ∧
      s.dev.sameRegs d [rNETn_PAUSE_TX n.val] ∧
      d = { s.dev with regs := d.regs, ports := d.ports, net := d.net, irqA := d.irqA, irqB := d.irqB } := by
  have okSend := fNETn_PAUSE_TX_SEND_ok n
  obtain ⟨w, hw⟩ : ∃ w, w = (fNETn_PAUSE_TX_SEND n).put v 1 := ⟨_, rfl⟩
  obtain ⟨c, hc⟩ : ∃ c, c = (s.dev.answer p []).setReg (rNETn_PAUSE_TX n) (merged (w32 0xFFFF) (s.dev.reg (rNETn_PAUSE_TX n)) w) := ⟨_, rfl⟩
  have stored : Keeps Dev.butRegsPorts [rNETn_PAUSE_TX n] s.dev c := by
    rw [hc]; exact ⟨rfl, (s.dev.answer_sameRegs p [] _).setReg List.mem_cons_self _⟩
  have time : c.get (fNETn_PAUSE_TX_TIME n) = (fNETn_PAUSE_TX_TIME n).get v := by
    rw [hc, Dev.get_setReg, if_pos (show rNETn_PAUSE_TX n = (fNETn_PAUSE_TX_TIME n).addr from rfl),
      Fld.get_merged_within (show (fNETn_PAUSE_TX_TIME n).within (w32 0xFFFF) = true from (by decide : Fld.within ⟨0, 0, 16⟩ (w32 0xFFFF) = true)), hw,
      Fld.get_put_apart _ _ okSend (Or.inr (by decide : 0 + 16 ≤ 31))]
  have sendSeen : (fNETn_PAUSE_TX_SEND n).get (w &&& w32 pauseTxRow.cmd) = 1 := by
    rw [Fld.get_and_within (show (fNETn_PAUSE_TX_SEND n).within (w32 pauseTxRow.cmd) = true from
      (by decide : Fld.within ⟨0, 31, 1⟩ (w32 0x80000000) = true)), hw, Fld.get_put _ okSend]
    rfl
  have enabled' : c.netOn n = true := by
    unfold Dev.netOn Dev.domOn Dev.domState Dev.domSeq at enabled ⊢
    rw [stored.regs.on (by fin_cases n <;> decide), stored.regs.get (by fin_cases n <;> decide), stored.regs.on (by fin_cases n <;> decide)]
    exact enabled
  have up' : c.linkUp n = true := (stored.regs.on (by fin_cases n <;> decide)).trans up
  obtain ⟨e, he⟩ : ∃ e, e = c.setNet n { c.netOf n with pauseTx := some ((fNETn_PAUSE_TX_TIME n).get v) } := ⟨_, rfl⟩
  have sends : c.pauseSend n = e := by rw [he, Dev.pauseSend, enabled', up', time]; rfl
  have hx : exec (.pauseTxSend n p v) s = s.done e := by
    show s.done (s.dev.busWrite {} p (rNETn_PAUSE_TX n) .b32 ((fNETn_PAUSE_TX_SEND n).put v 1)) = _
    rw [← hw, Dev.busWrite_plain takes (regAt_pauseTx n) (plainReg_pauseTx n), Dev.regStore_free (d := s.dev.answer p []) rfl,
      Dev.writeEffect_pauseTx, sendSeen, if_pos rfl, ← sends, hc]
    rfl
  have keeps : Keeps (fun x => { x.butNet with ports := [] }) [rNETn_PAUSE_TX n] s.dev e := by
    rw [he]
    exact (stored.part fun x : Dev => { x with net := [] }).trans ((c.setNet_butNet n _ _).part fun x : Dev => { x with ports := [] })
  refine completes_of_sameRegs hx calm keeps.regs (net_apart (n := n) (by omega) (by simp [netRegs]))
    (congrArg (·.calmPart) keeps.rest :) ⟨?_, ?_, keeps.regs.showIrq, ?_⟩
  · rw [Dev.showIrq_netOf, he, Dev.netOf_setNet_same]
  · rw [Dev.showIrq_port, he, hc]
    exact s.dev.answer_code p []
  · exact congrArg (fun x : Dev => { x with regs := e.regs, ports := e.ports, net := e.net, irqA := e.irqPinA, irqB := e.irqPinB }) keeps.rest

end Sys2Proof.Machine
end

section
/-! Verification of preemption (R314, R315): a control packet of the MAC merge sublayer enters its queue, and a verify or respond packet
received, or missed, does what it does. -/

namespace Sys2Proof.Machine

open Sys2Proof

variable {d e : Dev} {n : Nat} {k : FrameKind}

/-! ## A control packet enters class 7 (R314, R537) -/

/-- The device but for what a frame that enters a queue changes: the frame's number, its port, and what an armed injection takes with it. -/
def Dev.butQueued (d : Dev) : Dev := { d with regs := [], net := [], nextFrame := 0, free := 0, poison := [], integ := {} }

/-- A device that keeps the rest when a frame enters a queue, as a frame equation, its interrupt balls following. -/
theorem Dev.showIrq_of_butQueued (h : e.butQueued = d.butQueued) :
    e.showIrq = { d with regs := e.showIrq.regs, net := e.showIrq.net, nextFrame := e.showIrq.nextFrame, free := e.showIrq.free,
                         poison := e.showIrq.poison, integ := e.showIrq.integ, irqA := e.showIrq.irqA, irqB := e.showIrq.irqB } :=
  congrArg (fun x : Dev => { x with regs := e.regs, net := e.net, nextFrame := e.nextFrame, free := e.free, poison := e.poison,
                                    integ := e.integ, irqA := e.irqPinA, irqB := e.irqPinB }) h

theorem Dev.injMade_sameRegs (d : Dev) : d.sameRegs d.injMade [rINT_INJ_CMD] :=
  ((Dev.sameRegs.refl d _).put (f := fINT_INJ_CMD_OP) List.mem_cons_self 0).putB (f := fINT_INJ_CMD_ARMED) List.mem_cons_self false

/-- A number is given to a frame; an injection may go with it. -/
theorem Dev.newFrameId_keeps (d : Dev) : Keeps Dev.butQueued [rINT_INJ_CMD] d d.newFrameId.2 := by
  unfold Dev.newFrameId
  dsimp only
  split
  · exact ⟨rfl, ((Dev.sameRegs.refl d _).trans (d.freeNat.2.injMade_sameRegs)).of_regs rfl⟩
  · exact Keeps.of_regs rfl rfl

theorem Dev.newFrameId_fst (d : Dev) : d.newFrameId.1 = d.nextFrame := by
  unfold Dev.newFrameId
  dsimp only
  split <;> rfl

theorem Dev.newFrameId_net (d : Dev) : d.newFrameId.2.net = d.net := by
  unfold Dev.newFrameId
  dsimp only
  split <;> rfl

/-- Class 7 takes every frame (R327). -/
theorem Dev.enqueue_seven (d : Dev) (n : Nat) (f : Frame) :
    d.enqueue n 7 f = (d.cbs n).setNet n (((d.cbs n).netOf n).setQueue 7 (((d.cbs n).netOf n).queue 7 ++ [f])) := by
  simp only [Dev.enqueue, show ¬(7 < 5) by decide, false_and, if_false]

/-- The packet of kind `k` that the device would enqueue next. -/
def Dev.mmFrame (d : Dev) (k : FrameKind) : Frame := { bytes := List.replicate 60 0, id := d.nextFrame, kind := k }

/-- What a control packet of kind `k` enqueued on port `n` leaves. -/
structure MmQueued (d e : Dev) (n : Nat) (k : FrameKind) : Prop where
  kept : Keeps Dev.butQueued [rINT_INJ_CMD] d e
  queue : (e.netOf n).queue 7 = (d.netOf n).queue 7 ++ [d.mmFrame k]
  tries : (e.netOf n).tries = (d.netOf n).tries

theorem Dev.mmPacket_queued (d : Dev) (n : Nat) (k : FrameKind) : MmQueued d (d.mmPacket n k) n k := by
  obtain ⟨c, hc⟩ : ∃ c, c = d.newFrameId.2.cbs n := ⟨_, rfl⟩
  have packet : d.mmPacket n k = c.setNet n ((c.netOf n).setQueue 7 ((c.netOf n).queue 7 ++ [d.mmFrame k])) := by
    rw [hc, ← Dev.enqueue_seven, Dev.mmFrame, ← d.newFrameId_fst]
    rfl
  have port : (c.netOf n).butCredit = (d.netOf n).butCredit := by
    rw [hc, Dev.cbs_butCredit, Dev.netOf_congr d.newFrameId_net]
  have queue : (c.netOf n).queue 7 = (d.netOf n).queue 7 :=
    (congrArg (NetSt.queue · 7) port : (c.netOf n).butCredit.queue 7 = (d.netOf n).butCredit.queue 7)
  have tries : (c.netOf n).tries = (d.netOf n).tries :=
    (congrArg NetSt.tries port : (c.netOf n).butCredit.tries = (d.netOf n).butCredit.tries)
  have numbered : Keeps Dev.butQueued [rINT_INJ_CMD] d c := by
    rw [hc]
    exact d.newFrameId_keeps.trans ((Dev.cbs_butNet _ n _).part fun x : Dev => { x with nextFrame := 0, free := 0, poison := [], integ := {} })
  rw [packet]
  refine ⟨numbered.trans ((c.setNet_butNet n _ _).part fun x : Dev => { x with nextFrame := 0, free := 0, poison := [], integ := {} }), ?_, ?_⟩
  · rw [Dev.netOf_setNet_same, ← queue]
    exact kget_kset_same ..
  · rw [Dev.netOf_setNet_same]
    exact tries

/-- A command that enqueues a control packet completes. -/
theorem mmPacket_completes {i : Instr} {s : State} {c : Dev} {P : Dev → Prop} (calm : s.dev.calm = true) (hx : exec i s = s.done (c.mmPacket n k))
    (kept : Keeps Dev.butNet [rINT_INJ_CMD] s.dev c) (h : P (c.mmPacket n k).showIrq) :
    Completes i s fun d => P d ∧ s.dev.sameRegs d [rINT_INJ_CMD] ∧
      d = { s.dev with regs := d.regs, net := d.net, nextFrame := d.nextFrame, free := d.free, poison := d.poison, integ := d.integ, irqA := d.irqA, irqB := d.irqB } := by
  have keeps : Keeps Dev.butQueued [rINT_INJ_CMD] s.dev (c.mmPacket n k) :=
    (kept.part fun x : Dev => { x with nextFrame := 0, free := 0, poison := [], integ := {} }).trans (c.mmPacket_queued n k).kept
  exact completes_of_sameRegs hx calm keeps.regs (by decide) (congrArg (·.calmPart) keeps.rest :)
    ⟨h, keeps.regs.showIrq, Dev.showIrq_of_butQueued keeps.rest⟩

/-! ## A packet received (R314, R315) -/

/-- With PE_EN = 1 a packet of the sublayer acts. -/
theorem Dev.mmReceive_acts (enabled : d.netOn n = true) (up : d.linkUp n = true) (pe : d.on (fNETn_MM_CFG_PE_EN n) = true) (act : Dev → Dev) :
    d.mmReceive n act = act d := by
  simp only [Dev.mmReceive, enabled, up, pe, Bool.and_self, Bool.not_true, Bool.false_eq_true, if_false, if_true]

/-- With PE_EN = 0 it is an SMD error. -/
theorem Dev.mmReceive_counts (enabled : d.netOn n = true) (up : d.linkUp n = true) (pe : d.on (fNETn_MM_CFG_PE_EN n) = false) (act : Dev → Dev) :
    d.mmReceive n act = d.inc (rNETn_MM_RX_SMD_ERR_CNT n) := by
  simp only [Dev.mmReceive, enabled, up, pe, Bool.and_self, Bool.not_true, Bool.false_eq_true, if_false]

/-- A verify packet is answered (R314). -/
theorem verifyFrame_completes (s : State) (n : Fin 4) (calm : s.dev.calm = true) (enabled : s.dev.netOn n.val = true)
    (up : s.dev.linkUp n.val = true) (pe : s.dev.on (fNETn_MM_CFG_PE_EN n.val) = true) (works : s.dev.domOn (9 + n.val) = true) :
    Completes (.verifyFrame n) s fun d =>
      (d.netOf n.val).queue 7 = (s.dev.netOf n.val).queue 7 ++ [{ bytes := List.replicate 60 0, id := s.dev.nextFrame, kind := .respond }] ∧
      s.dev.sameRegs d [rINT_INJ_CMD] ∧
      d = { s.dev with regs := d.regs, net := d.net, nextFrame := d.nextFrame, free := d.free, poison := d.poison, integ := d.integ, irqA := d.irqA, irqB := d.irqB } := by
  have hx : exec (.verifyFrame n) s = s.done (s.dev.mmPacket n .respond) := by
    rw [← Dev.mmReceive_acts enabled up pe fun d => d.mmPacket n .respond]
    exact State.doneIn_on works _
  exact mmPacket_completes calm hx (Keeps.refl ..) (s.dev.mmPacket_queued n .respond).queue

/-- A packet of the sublayer with PE_EN = 0 (R315). -/
theorem mmReceive_counts_completes {i : Instr} {s : State} {n : Fin 4} {act : Dev → Dev} (calm : s.dev.calm = true) (enabled : s.dev.netOn n.val = true)
    (up : s.dev.linkUp n.val = true) (pe : s.dev.on (fNETn_MM_CFG_PE_EN n.val) = false) (works : s.dev.domOn (9 + n.val) = true)
    (hx : exec i s = s.doneIn (s.dev.domOn (9 + n.val)) (s.dev.mmReceive n.val act)) :
    Completes i s fun d =>
      (d.reg (rNETn_MM_RX_SMD_ERR_CNT n.val)).toNat = min ((s.dev.reg (rNETn_MM_RX_SMD_ERR_CNT n.val)).toNat + 1) (2 ^ 32 - 1) ∧
      s.dev.sameRegs d [rNETn_MM_RX_SMD_ERR_CNT n.val] ∧
      d = { s.dev with regs := d.regs, irqA := d.irqA, irqB := d.irqB } := by
  rw [State.doneIn_on works, Dev.mmReceive_counts enabled up pe] at hx
  have keeps := s.dev.inc_keeps (rNETn_MM_RX_SMD_ERR_CNT n)
  exact completes_of_sameRegs hx calm keeps.regs (net_apart (n := n) (by omega) (by simp [netRegs]))
    (congrArg (·.calmPart) keeps.rest :) ⟨s.dev.reg_inc_same _, keeps.regs.showIrq, Dev.showIrq_of_butRegs keeps.rest⟩

theorem fNETn_MM_STS_ok (n : Nat) : (fNETn_MM_STS_VERIFY n).ok ∧ (fNETn_MM_STS_ACTIVE n).ok ∧
    (fNETn_MM_STS_ACTIVE n).apart (fNETn_MM_STS_VERIFY n) :=
  ⟨(by decide : 0 + 3 ≤ 32), (by decide : 4 + 1 ≤ 32), Or.inr (by decide : 0 + 3 ≤ 4)⟩

/-- A respond packet ends verification in SUCCEEDED (R314). -/
theorem respondFrame_completes (s : State) (n : Fin 4) (calm : s.dev.calm = true) (enabled : s.dev.netOn n.val = true)
    (up : s.dev.linkUp n.val = true) (pe : s.dev.on (fNETn_MM_CFG_PE_EN n.val) = true) (verifying : s.dev.get (fNETn_MM_STS_VERIFY n.val) = 2)
    (works : s.dev.domOn (9 + n.val) = true) :
    Completes (.respondFrame n) s fun d =>
      d.get (fNETn_MM_STS_VERIFY n.val) = 3 ∧
      d.on (fNETn_MM_STS_ACTIVE n.val) = true ∧
      s.dev.sameRegs d [rNETn_MM_STS n.val] ∧
      d = { s.dev with regs := d.regs, irqA := d.irqA, irqB := d.irqB } := by
  obtain ⟨okVerify, okActive, apart⟩ := fNETn_MM_STS_ok n
  obtain ⟨c, hc⟩ : ∃ c, c = s.dev.put (fNETn_MM_STS_VERIFY n) 3 := ⟨_, rfl⟩
  have hx : exec (.respondFrame n) s = s.done (c.putB (fNETn_MM_STS_ACTIVE n) true) := by
    have acts : s.dev.respondFrame n = c.putB (fNETn_MM_STS_ACTIVE n) true := by
      rw [Dev.respondFrame, Dev.mmReceive_acts enabled up pe, if_pos verifying, hc]
    rw [← acts]
    exact State.doneIn_on works _
  have keeps : Keeps Dev.butRegs [rNETn_MM_STS n] s.dev (c.putB (fNETn_MM_STS_ACTIVE n) true) := by
    rw [hc]; exact (s.dev.put_keeps (f := fNETn_MM_STS_VERIFY n) List.mem_cons_self 3).trans
      (Dev.putB_keeps _ (f := fNETn_MM_STS_ACTIVE n) List.mem_cons_self true)
  refine completes_of_sameRegs hx calm keeps.regs (net_apart (n := n) (by omega) (by simp [netRegs]))
    (congrArg (·.calmPart) keeps.rest :) ⟨?_, c.on_putB_same okActive rfl true, keeps.regs.showIrq, Dev.showIrq_of_butRegs keeps.rest⟩
  rw [Dev.showIrq_get, Dev.putB, Dev.get_put_apart _ _ _ _ okActive apart, hc]
  exact s.dev.get_put_same _ 3 okVerify

/-! ## No answer in time (R314) -/

/-- The third attempt without a respond packet fails (R314). -/
theorem verifyTimeout_fails_completes (s : State) (n : Fin 4) (calm : s.dev.calm = true) (up : s.dev.linkUp n.val = true)
    (verifying : s.dev.get (fNETn_MM_STS_VERIFY n.val) = 2) (last : 3 ≤ (s.dev.netOf n.val).tries) (works : s.dev.domOn (9 + n.val) = true) :
    Completes (.verifyTimeout n) s fun d =>
      d.get (fNETn_MM_STS_VERIFY n.val) = 4 ∧
      (d.reg (rNETn_MM_VERIFY_FAIL_CNT n.val)).toNat = min ((s.dev.reg (rNETn_MM_VERIFY_FAIL_CNT n.val)).toNat + 1) (2 ^ 32 - 1) ∧
      s.dev.sameRegs d [rNETn_MM_STS n.val, rNETn_MM_VERIFY_FAIL_CNT n.val] ∧
      d = { s.dev with regs := d.regs, irqA := d.irqA, irqB := d.irqB } := by
  have ne : rNETn_MM_STS n ≠ rNETn_MM_VERIFY_FAIL_CNT n := by simp only [rNETn_MM_STS, rNETn_MM_VERIFY_FAIL_CNT]; omega
  obtain ⟨c, hc⟩ : ∃ c, c = s.dev.put (fNETn_MM_STS_VERIFY n) 4 := ⟨_, rfl⟩
  have hx : exec (.verifyTimeout n) s = s.done (c.inc (rNETn_MM_VERIFY_FAIL_CNT n)) := by
    have fails : s.dev.verifyTimeout n = c.inc (rNETn_MM_VERIFY_FAIL_CNT n) := by
      simp only [Dev.verifyTimeout, up, verifying, beq_self_eq_true, Bool.and_self, if_true, if_neg (Nat.not_lt.mpr last), hc]
    rw [← fails]
    exact State.doneIn_on works _
  have shown : Keeps Dev.butRegs [rNETn_MM_STS n] s.dev c := by rw [hc]; exact s.dev.put_keeps (f := fNETn_MM_STS_VERIFY n) List.mem_cons_self 4
  have keeps : Keeps Dev.butRegs [rNETn_MM_STS n, rNETn_MM_VERIFY_FAIL_CNT n] s.dev (c.inc (rNETn_MM_VERIFY_FAIL_CNT n)) :=
    (shown.mono (by simp)).trans ((c.inc_keeps _).mono (by simp))
  refine completes_of_sameRegs hx calm keeps.regs (net_apart (n := n) (by omega) (by simp [netRegs]))
    (congrArg (·.calmPart) keeps.rest :) ⟨?_, ?_, keeps.regs.showIrq, Dev.showIrq_of_butRegs keeps.rest⟩
  · rw [Dev.showIrq_get, Dev.get_inc_ne _ _ _ ne.symm, hc]
    exact s.dev.get_put_same _ 4 (fNETn_MM_STS_ok n).1
  · rw [Dev.showIrq_reg, Dev.reg_inc_same, shown.regs _ (by simpa using ne.symm)]

/-- Before it another verify packet is sent (R314). -/
theorem verifyTimeout_retries_completes (s : State) (n : Fin 4) (calm : s.dev.calm = true) (up : s.dev.linkUp n.val = true)
    (verifying : s.dev.get (fNETn_MM_STS_VERIFY n.val) = 2) (more : (s.dev.netOf n.val).tries < 3) (works : s.dev.domOn (9 + n.val) = true) :
    Completes (.verifyTimeout n) s fun d =>
      (d.netOf n.val).tries = (s.dev.netOf n.val).tries + 1 ∧
      (d.netOf n.val).queue 7 = (s.dev.netOf n.val).queue 7 ++ [{ bytes := List.replicate 60 0, id := s.dev.nextFrame, kind := .verify }] ∧
      s.dev.sameRegs d [rINT_INJ_CMD] ∧
      d = { s.dev with regs := d.regs, net := d.net, nextFrame := d.nextFrame, free := d.free, poison := d.poison, integ := d.integ, irqA := d.irqA, irqB := d.irqB } := by
  obtain ⟨c, hc⟩ : ∃ c, c = s.dev.setNet n { s.dev.netOf n with tries := (s.dev.netOf n).tries + 1 } := ⟨_, rfl⟩
  have hx : exec (.verifyTimeout n) s = s.done (c.mmPacket n .verify) := by
    have retries : s.dev.verifyTimeout n = c.mmPacket n .verify := by
      simp only [Dev.verifyTimeout, up, verifying, beq_self_eq_true, Bool.and_self, if_true, if_pos more, hc]
    rw [← retries]
    exact State.doneIn_on works _
  have port : c.netOf n = { s.dev.netOf n with tries := (s.dev.netOf n).tries + 1 } := by rw [hc, Dev.netOf_setNet_same]
  obtain ⟨-, queue, tries⟩ := c.mmPacket_queued n .verify
  have both : ((c.mmPacket n .verify).showIrq.netOf n).tries = (s.dev.netOf n).tries + 1 ∧
      ((c.mmPacket n .verify).showIrq.netOf n).queue 7 = (s.dev.netOf n).queue 7 ++ [s.dev.mmFrame .verify] := by
    rw [Dev.showIrq_netOf, tries, queue, port, show c.mmFrame .verify = s.dev.mmFrame .verify by rw [hc]; rfl]
    exact ⟨rfl, rfl⟩
  refine (mmPacket_completes (P := fun d => (d.netOf n).tries = (s.dev.netOf n).tries + 1 ∧
    (d.netOf n).queue 7 = (s.dev.netOf n).queue 7 ++ [s.dev.mmFrame .verify]) calm hx (by rw [hc]; exact s.dev.setNet_butNet n _ _) both).mono ?_
  rintro d ⟨⟨counted, queued⟩, rest⟩
  exact ⟨counted, queued, rest⟩

end Sys2Proof.Machine
end

section
/-! The gate list in force (R306, R308, R312): what an entry that comes into force, and a list that stands still, leave. -/

namespace Sys2Proof.Machine

open Sys2Proof

variable {d e : Dev} {n : Nat}

/-! ## A preemptable frame is split (R312, R313) -/

theorem Dev.split_butNet (d : Dev) (n : Nat) (w : OnWire) (cut : Nat) : Keeps Dev.butNet [rNETn_MM_TX_FRAG_CNT n] d (d.split n w cut) := by
  refine Keeps.trans ?_ (Dev.setNet_butNet _ n _ _)
  split
  · exact d.cbs_butNet n _
  · exact (d.cbs_butNet n _).trans (Dev.inc_keeps _ _).butNet

theorem Dev.preemptNow_butNet (d : Dev) (n was : Nat) (asked : Bool) : Keeps Dev.butNet [rNETn_MM_TX_FRAG_CNT n] d (d.preemptNow n was asked) := by
  unfold Dev.preemptNow
  split
  · next w _ =>
    dsimp only
    split
    · split
      · exact d.split_butNet n w _
      · split
        · exact d.setNet_butNet n _ _
        · exact Keeps.refl ..
    · exact Keeps.refl ..
  · exact Keeps.refl ..

/-! ## What NETn_GATE_STS shows -/

/-- The credits brought up to now, and GATES, ENTRY and RUNNING as given. -/
def Dev.gateSts (d : Dev) (n gates entry running : Nat) : Dev :=
  (d.cbs n).puts [(fNETn_GATE_STS_GATES n, gates), (fNETn_GATE_STS_ENTRY n, entry), (fNETn_GATE_STS_RUNNING n, running)]

theorem Dev.gateSts_butNet (d : Dev) (n gates entry running : Nat) : Keeps Dev.butNet [rNETn_GATE_STS n] d (d.gateSts n gates entry running) :=
  (d.cbs_butNet n _).trans
    (Dev.puts_keeps _ (by simp [fNETn_GATE_STS_GATES, fNETn_GATE_STS_ENTRY, fNETn_GATE_STS_RUNNING, rNETn_GATE_STS])).butNet

/-- The three fields hold what they are given. -/
theorem Dev.gateSts_get (d : Dev) (n gates entry running : Nat) {f : Fld} {x : Nat}
    (h : (f, x) ∈ [(fNETn_GATE_STS_GATES n, gates), (fNETn_GATE_STS_ENTRY n, entry), (fNETn_GATE_STS_RUNNING n, running)]) :
    (d.gateSts n gates entry running).get f = x % 2 ^ f.width := by
  refine Dev.get_puts ?_ ?_ h (d.cbs n)
  · simp [Fld.ok, fNETn_GATE_STS_GATES, fNETn_GATE_STS_ENTRY, fNETn_GATE_STS_RUNNING]
  · simp [Fld.apart, fNETn_GATE_STS_GATES, fNETn_GATE_STS_ENTRY, fNETn_GATE_STS_RUNNING]

/-- CFG_ERR and ERR_CODE lie above them. -/
theorem Dev.gateSts_above (d : Dev) (n gates entry running : Nat) {f : Fld} (h : 27 ≤ f.lo) :
    (d.gateSts n gates entry running).get f = d.get f := by
  refine (Dev.get_puts_apart ?_ (d.cbs n)).trans rfl
  simp only [List.forall_mem_cons, List.not_mem_nil, false_imp_iff, implies_true, and_true, Fld.ok, Fld.apart, fNETn_GATE_STS_GATES,
    fNETn_GATE_STS_ENTRY, fNETn_GATE_STS_RUNNING]
  omega

/-- The registers that what a gate state brings with it may change (R308, R312). -/
def holdRegs (n : Nat) : List Nat := [rNETn_MM_STS n, rNETn_MM_TX_FRAG_CNT n]

/-- With no list running every gate is open. -/
theorem Dev.gateIdle_butNet (d : Dev) (n : Nat) : Keeps Dev.butNet [rNETn_MM_STS n] (d.gateSts n 0xFF 0 0) (d.gateIdle n) :=
  (Dev.putB_keeps _ (f := fNETn_MM_STS_HOLD n) List.mem_cons_self false).butNet

/-- An entry shown: its gates, and the hold that its OP asks for or ends. -/
theorem Dev.gateShow1_butNet (d : Dev) (n i : Nat) : Keeps Dev.butNet [rNETn_MM_STS n] (d.gateSts n (d.gateEntry n i).gates i 1) (d.gateShow1 n i) := by
  refine Keeps.trans ?_ (Dev.remHold_butNet _ n _)
  have hold : ∀ (c : Dev) (b : Bool), Keeps Dev.butNet [rNETn_MM_STS n] c (c.putB (fNETn_MM_STS_HOLD n) b) :=
    fun c b => (c.putB_keeps (f := fNETn_MM_STS_HOLD n) List.mem_cons_self b).butNet
  split
  · exact hold _ true
  · split
    · exact hold _ false
    · exact Keeps.refl ..

/-- An entry that holds no error comes into force. -/
theorem Dev.gateApply_butNet (sound : d.sound = true) (n i : Nat) :
    Keeps Dev.butNet (holdRegs n) (d.gateSts n (d.gateEntry n i).gates i 1) (d.gateApply n i) := by
  unfold Dev.gateApply
  simp only [Dev.gateReads_sound sound, if_true]
  exact (((d.gateShow1_butNet n i).mono (by simp [holdRegs])).trans ((Dev.preemptNow_butNet _ n _ _).mono (by simp [holdRegs]))).trans
    (Dev.remHold_butNet _ n _)

/-- A list that holds no error is placed: it runs once its base has come. -/
theorem Dev.gatePlace_butNet (sound : d.sound = true) (n : Nat) : ∃ gates entry, Keeps Dev.butNet (holdRegs n)
    (d.gateSts n gates entry (decide (0 ≤ sdiff64 d.ft64 (d.gateBase n))).toNat) (d.gatePlace n Dev.gateApply) := by
  unfold Dev.gatePlace
  dsimp only
  by_cases future : sdiff64 d.ft64 (d.gateBase n) < 0
  · rw [if_pos future, decide_eq_false (not_le.mpr future)]
    exact ⟨_, _, (d.gateIdle_butNet n).mono (by simp [holdRegs])⟩
  · rw [if_neg future, decide_eq_true (not_lt.mp future)]
    simp only [Dev.gateReads_sound sound, if_true]
    exact ⟨_, _, d.gateApply_butNet sound n _⟩

/-! ## An entry ends (R306) -/

theorem readWord64_lt (m : Memory) (a : Nat) : readWord64 m a < 2 ^ 64 := by
  have := leNat_lt (readBytes m a 8)
  rwa [readBytes_length] at this

theorem Dev.gateEntry_gates_lt (d : Dev) (n i : Nat) : (d.gateEntry n i).gates < 2 ^ 8 :=
  Nat.div_lt_of_lt_mul (readWord64_lt d.tbl _)

/-- The INTERVAL of the entry in force is over, and another follows it. -/
theorem Dev.gateEntryEnd_applies {k : Nat} (entry : k = d.get (fNETn_GATE_STS_ENTRY n)) (running : d.on (fNETn_GATE_STS_RUNNING n) = true)
    (more : k + 1 < d.gateLen n) (ends : d.entryOver n k = true) : d.gateEntryEnd n = d.gateApply n (k + 1) := by
  simp only [Dev.gateEntryEnd, ← entry, running, decide_eq_true more, ends, Bool.and_self, if_true]

theorem holdRegs_gateSts (n : Nat) : rNETn_GATE_STS n ∉ holdRegs n := by
  simp [holdRegs, rNETn_GATE_STS, rNETn_MM_STS, rNETn_MM_TX_FRAG_CNT]

/-- The next entry of a list that holds no error comes into force (R306). -/
theorem gateEntryEnd_completes (s : State) (n : Fin 4) (k : Nat) (calm : s.dev.calm = true) (entry : k = s.dev.get (fNETn_GATE_STS_ENTRY n.val))
    (running : s.dev.on (fNETn_GATE_STS_RUNNING n.val) = true) (more : k + 1 < s.dev.gateLen n.val) (small : k + 1 < 256)
    (ends : s.dev.entryOver n.val k = true) (sound : s.dev.sound = true) (works : s.dev.domOn (9 + n.val) = true) :
    Completes (.gateEntryEnd n) s fun d =>
      d.get (fNETn_GATE_STS_ENTRY n.val) = k + 1 ∧
      d.get (fNETn_GATE_STS_GATES n.val) = (s.dev.gateEntry n.val (k + 1)).gates ∧
      s.dev.sameRegs d [rNETn_GATE_STS n.val, rNETn_MM_STS n.val, rNETn_MM_TX_FRAG_CNT n.val] ∧
      d = { s.dev with regs := d.regs, net := d.net, irqA := d.irqA, irqB := d.irqB } := by
  obtain ⟨e, he⟩ : ∃ e, e = s.dev.gateApply n (k + 1) := ⟨_, rfl⟩
  have hx : exec (.gateEntryEnd n) s = s.done e := by
    rw [he, ← Dev.gateEntryEnd_applies entry running more ends]
    exact State.doneIn_on works _
  have applied : Keeps Dev.butNet (holdRegs n) (s.dev.gateSts n (s.dev.gateEntry n (k + 1)).gates (k + 1) 1) e :=
    he ▸ Dev.gateApply_butNet sound n (k + 1)
  have keeps : Keeps Dev.butNet [rNETn_GATE_STS n, rNETn_MM_STS n, rNETn_MM_TX_FRAG_CNT n] s.dev e :=
    ((s.dev.gateSts_butNet n _ _ _).mono (by simp)).trans (applied.mono (by simp [holdRegs]))
  refine completes_of_sameRegs hx calm keeps.regs (net_apart (n := n) (by omega) (by simp [netRegs]))
    (congrArg (·.calmPart) keeps.rest :) ⟨?_, ?_, keeps.regs.showIrq, Dev.showIrq_of_butNet keeps.rest⟩
  · rw [Dev.showIrq_get, applied.regs.get (holdRegs_gateSts n), Dev.gateSts_get _ _ _ _ _ (x := k + 1) (by simp)]
    exact Nat.mod_eq_of_lt small
  · rw [Dev.showIrq_get, applied.regs.get (holdRegs_gateSts n), Dev.gateSts_get _ _ _ _ _ (x := (s.dev.gateEntry n (k + 1)).gates) (by simp)]
    exact Nat.mod_eq_of_lt (s.dev.gateEntry_gates_lt n (k + 1))

end Sys2Proof.Machine
end

section
/-! The write of NETn_GATE_CFG (R305, R306, R428): what is stored, and what acts. -/

namespace Sys2Proof.Machine

open Sys2Proof

variable {d c : Dev} {p : Port} {v : Word} {n : Nat}

/-- The row of NETn_GATE_CFG in the register summary. -/
def gateCfgRow : RegDesc :=
  { base := 0xE0420, s1 := 0x1000, c1 := 4, wr := 0x803F01FF, dcls := 0x3F01FF, own := some ⟨0xE0420, 31, 1⟩, ownS := 0x1000 }

theorem regAt_gateCfg (n : Fin 4) : regAt (rNETn_GATE_CFG n.val) = some (gateCfgRow, n.val, 0) := by fin_cases n <;> rfl

theorem plainReg_gateCfg (n : Fin 4) : plainReg (rNETn_GATE_CFG n.val) n.val = true ∧ tcmpReg (rNETn_GATE_CFG n.val) = false ∧
    rNETn_GATE_CFG n.val < 0x400000 ∧ rNETn_GATE_CFG n.val / 4 * 4 = rNETn_GATE_CFG n.val := by revert n; decide

theorem Dev.owned_gateCfg (d : Dev) (n : Nat) : d.owned gateCfgRow n = d.on (fNETn_GATE_CFG_EN n) := by
  simp [Dev.owned, gateCfgRow, fNETn_GATE_CFG_EN]

theorem Dev.writeEffect_gateCfg (d : Dev) (m : Meets) (n : Fin 4) (old v cmd : Word) :
    d.writeEffect m (rNETn_GATE_CFG n.val) n.val old v cmd =
      d.atEdge (fNETn_GATE_CFG_EN n.val) old (·.gateEnable n.val) (·.gateDisable n.val) := by
  fin_cases n <;> rfl

theorem fNETn_GATE_CFG_EN_ok (n : Nat) : (fNETn_GATE_CFG_EN n).ok := (by decide : 31 + 1 ≤ 32)

/-- EN as the command writes it, and TCMP as its operand holds it. -/
theorem gateCfg_written (n : Nat) (v : Word) {x : Nat} (hx : x < 2) : (fNETn_GATE_CFG_EN n).get ((fNETn_GATE_CFG_EN n).put v x) = x ∧
    (fNETn_GATE_CFG_TCMP n).get ((fNETn_GATE_CFG_EN n).put v x) = (fNETn_GATE_CFG_TCMP n).get v := by
  refine ⟨?_, Fld.get_put_apart _ _ (fNETn_GATE_CFG_EN_ok n) (Or.inr (by decide : 16 + 6 ≤ 31)) v x⟩
  rw [Fld.get_put _ (fNETn_GATE_CFG_EN_ok n)]
  exact Nat.mod_eq_of_lt hx

/-- While the list runs EN alone is stored (R428). -/
theorem gateCfg_within (n : Fin 4) : (fNETn_GATE_CFG_EN n.val).within (w32 0x803F01FF) = true ∧
    (fNETn_GATE_CFG_TCMP n.val).within (w32 0x803F01FF) = true ∧ (fNETn_GATE_CFG_EN n.val).within (w32 0x80000000) = true ∧
    (fNETn_GATE_CFG_TCMP n.val).outside (w32 0x80000000) = true := by revert n; decide

/-- What the write of GATE_ENABLE leaves before the list is checked. -/
structure GateEnabling (d c : Dev) (n : Nat) (p : Port) (v : Word) : Prop where
  kept : Keeps Dev.butRegsPorts [rNETn_GATE_CFG n] d c
  code : (c.port p).code = 0
  en : c.on (fNETn_GATE_CFG_EN n) = true
  tcmp : c.get (fNETn_GATE_CFG_TCMP n) = (fNETn_GATE_CFG_TCMP n).get v
  check : c.gateCheck n = (d.stored (rNETn_GATE_CFG n) ((fNETn_GATE_CFG_EN n).put v 1)).gateCheck n

/-- GATE_ENABLE with EN = 0 stores NETn_GATE_CFG, and the list is checked. -/
theorem exec_gateEnable {s : State} {n : Fin 4} (takes : s.dev.takes p (rNETn_GATE_CFG n.val)) (off : s.dev.on (fNETn_GATE_CFG_EN n.val) = false) :
    ∃ c, GateEnabling s.dev c n.val p v ∧ exec (.gateEnable n p v) s = s.done (c.gateEnable n.val) := by
  obtain ⟨w, hw⟩ : ∃ w, w = (fNETn_GATE_CFG_EN n).put v 1 := ⟨_, rfl⟩
  obtain ⟨en, tcmp⟩ := gateCfg_written n v (x := 1) (by decide)
  rw [← hw] at en tcmp
  obtain ⟨enWithin, tcmpWithin, -, -⟩ := gateCfg_within n
  have stored : s.dev.stored (rNETn_GATE_CFG n) w =
      s.dev.setReg (rNETn_GATE_CFG n) (merged (w32 0x803F01FF) (s.dev.reg (rNETn_GATE_CFG n)) w) :=
    Dev.stored_free (regAt_gateCfg n) ((s.dev.owned_gateCfg n).trans off) w
  have read : ∀ f : Fld, f.addr = rNETn_GATE_CFG n → f.within (w32 0x803F01FF) = true →
      (s.dev.stored (rNETn_GATE_CFG n) w).get f = f.get w := fun f ha within => by
    rw [stored, Dev.get_setReg, if_pos ha.symm, Fld.get_merged_within within]
  refine ⟨(s.dev.stored (rNETn_GATE_CFG n) w).answer p [], ⟨⟨?_, ?_⟩, Dev.answer_code .., ?_, ?_, ?_⟩, ?_⟩
  · rw [stored]
    rfl
  · rw [stored]
    exact ((Dev.sameRegs.refl s.dev _).setReg (by simp) _).trans (Dev.answer_sameRegs _ p [] _)
  · exact congrArg (· != 0) ((read (fNETn_GATE_CFG_EN n) rfl enWithin).trans en)
  · exact (read (fNETn_GATE_CFG_TCMP n) rfl tcmpWithin).trans tcmp
  · rw [← hw]
    rfl
  · have old : (fNETn_GATE_CFG_EN n).get ((s.dev.answer p []).reg (rNETn_GATE_CFG n)) = 0 := bne_eq_false_iff_eq.mp off
    have rise := Dev.atEdge_turned (f := fNETn_GATE_CFG_EN n) (take := w32 0x803F01FF) (v := w) (s.dev.answer p []) enWithin
      (by rw [old, en]; decide) (·.gateEnable n) (·.gateDisable n)
    rw [en] at rise
    show s.done (s.dev.busWrite {} p (rNETn_GATE_CFG n) .b32 ((fNETn_GATE_CFG_EN n).put v 1)) = _
    rw [← hw, Dev.busWrite_plain takes (regAt_gateCfg n) (plainReg_gateCfg n), Dev.regStore_free (d := s.dev.answer p [])
      (((s.dev.answer p []).owned_gateCfg n).trans off), Dev.writeEffect_gateCfg, stored]
    exact congrArg s.done rise

/-- What the write of GATE_DISABLE leaves before the list stops. -/
structure GateDisabling (d c : Dev) (n : Nat) (p : Port) : Prop where
  kept : Keeps Dev.butPortsIgn [rNETn_GATE_CFG n, rGLB_IGN_CNT, rGLB_IGN_OVF_CNT] d c
  code : (c.port p).code = 0
  en : c.on (fNETn_GATE_CFG_EN n) = false
  tcmp : c.get (fNETn_GATE_CFG_TCMP n) = d.get (fNETn_GATE_CFG_TCMP n)

/-- The device that answers a write keeps all but its port, also where the write joins the ignore record (R429). -/
theorem Dev.answered_butPortsIgn (d : Dev) (p : Port) (a b i : Nat) (h : c = d.answer p [] ∨ c = (d.answer p []).record p a b i) :
    Keeps Dev.butPortsIgn [rGLB_IGN_CNT, rGLB_IGN_OVF_CNT] d c ∧ (c.port p).code = 0 := by
  have answered : Keeps Dev.butPortsIgn [rGLB_IGN_CNT, rGLB_IGN_OVF_CNT] d (d.answer p []) := ⟨rfl, d.answer_sameRegs p [] _⟩
  obtain rfl | rfl := h
  · exact ⟨answered, d.answer_code p []⟩
  · exact ⟨answered.trans ⟨by rw [Dev.record_frame]; rfl, Dev.record_sameRegs _ p a b i (by simp) (by simp)⟩,
      by rw [Dev.record_code, Dev.answer_code]⟩

/-- GATE_DISABLE with EN = 1 stores EN alone, may be recorded, and the list stops. -/
theorem exec_gateDisable {s : State} {n : Fin 4} (takes : s.dev.takes p (rNETn_GATE_CFG n.val)) (on : s.dev.on (fNETn_GATE_CFG_EN n.val) = true) :
    ∃ c, GateDisabling s.dev c n.val p ∧ exec (.gateDisable n p v) s = s.done (c.gateDisable n.val) := by
  obtain ⟨w, hw⟩ : ∃ w, w = (fNETn_GATE_CFG_EN n).put v 0 := ⟨_, rfl⟩
  obtain ⟨en, -⟩ := gateCfg_written n v (x := 0) (by decide)
  rw [← hw] at en
  obtain ⟨-, -, within, outside⟩ := gateCfg_within n
  obtain ⟨b, hb, write⟩ := Dev.regStore_owned (d := s.dev.answer p []) (m := {}) (p := p) (a := rNETn_GATE_CFG n.val) (v := w)
    (((s.dev.answer p []).owned_gateCfg n).trans on)
  obtain ⟨kept, code⟩ := Dev.answered_butPortsIgn s.dev p _ _ _ hb
  have take : writeMask gateCfgRow w &&& ~~~w32 gateCfgRow.dcls = w32 0x80000000 := by
    show w32 0x803F01FF &&& ~~~w32 0x3F01FF = w32 0x80000000
    decide
  have ne : (fNETn_GATE_CFG_EN n).get (s.dev.reg (rNETn_GATE_CFG n)) ≠ (fNETn_GATE_CFG_EN n).get w := by
    rw [en]
    exact bne_iff_ne.mp on
  have fall := Dev.atEdge_turned (f := fNETn_GATE_CFG_EN n) (take := w32 0x80000000) b within ne (·.gateEnable n) (·.gateDisable n)
  rw [en] at fall
  refine ⟨b.setReg (rNETn_GATE_CFG n) (merged (w32 0x80000000) (s.dev.reg (rNETn_GATE_CFG n)) w), ⟨⟨kept.rest, ?_⟩, code, ?_, ?_⟩, ?_⟩
  · exact (kept.regs.mono (by simp)).setReg (by simp) _
  · rw [Dev.on, Dev.get_setReg, if_pos (show rNETn_GATE_CFG n = (fNETn_GATE_CFG_EN n).addr from rfl), Fld.get_merged_within within, en]
    rfl
  · rw [Dev.get_setReg, if_pos (show rNETn_GATE_CFG n = (fNETn_GATE_CFG_TCMP n).addr from rfl), Fld.get_merged_outside outside]
    rfl
  · show s.done (s.dev.busWrite {} p (rNETn_GATE_CFG n) .b32 ((fNETn_GATE_CFG_EN n).put v 0)) = _
    rw [← hw, Dev.busWrite_plain takes (regAt_gateCfg n) (plainReg_gateCfg n), write, Dev.writeEffect_gateCfg, take]
    exact congrArg s.done fall

end Sys2Proof.Machine
end

section
/-! A gate list enabled, refused or disabled (R305, R306). -/

namespace Sys2Proof.Machine

open Sys2Proof

variable {d e : Dev} {n t : Nat}

/-! ## The registers of the comparator and those of the port -/

/-- The registers of comparator `t` that a gate list claims and arms. -/
def claimRegs (t : Nat) : List Nat := [rTIME_TCMPnn_OWNER t, rTIME_TCMPnn_STS t]

/-- They lie below those of the network ports. -/
theorem claimRegs_below (ht : t < 64) {a : Nat} (ha : 0xE0000 ≤ a) : a ∉ claimRegs t := by
  simp only [claimRegs, rTIME_TCMPnn_OWNER, rTIME_TCMPnn_STS, List.mem_cons, List.not_mem_nil, or_false]
  omega

theorem rNETn_GATE_above (n : Nat) : 0xE0000 ≤ rNETn_GATE_CFG n ∧ 0xE0000 ≤ rNETn_GATE_STS n ∧ 0xE0000 ≤ rNETn_MM_STS n ∧
    0xE0000 ≤ rNETn_MM_TX_FRAG_CNT n := by
  simp only [rNETn_GATE_CFG, rNETn_GATE_STS, rNETn_MM_STS, rNETn_MM_TX_FRAG_CNT]
  omega

/-- What `Dev.calm` reads lies apart from both. -/
theorem claim_apart {L : List Nat} (hn : n < 4) (ht : t < 64) (h : L ⊆ netRegs n ++ claimRegs t) : ∀ a ∈ calmRegs, a ∉ L := by
  refine apart_of_subset (fun a ha => ?_) h
  rw [List.mem_append, not_or]
  refine ⟨calmRegs_net (by omega) a ha, fun hm => calmRegs_tcmp (n := t) (by omega) a ha ?_⟩
  simp only [claimRegs, List.mem_cons, List.not_mem_nil, or_false] at hm
  obtain rfl | rfl := hm <;> simp

/-- The owner and status of comparator `t` stand where only registers of port `n` change. -/
theorem claimRegs_net (ht : t < 64) {L : List Nat} (h : ∀ a ∈ L, 0xE0000 ≤ a) : ∀ a ∈ claimRegs t, a ∉ L :=
  fun a ha hL => claimRegs_below ht (h a hL) ha

/-- The device but for its registers, its network ports and the hidden state of its comparators. -/
def Dev.butGate (d : Dev) : Dev := { d with regs := [], net := [], time := { d.time with tcmp := [] } }

theorem Keeps.butGate {L : List Nat} (h : Keeps Dev.butNet L d e) : Keeps Dev.butGate L d e :=
  h.part fun x : Dev => { x with time := { x.time with tcmp := [] } }

/-! ## A list refused (R305) -/

/-- What a refusal with `code` leaves: EN back at 0, the code shown, and the refusal counted. -/
structure GateRefused (d e : Dev) (n code : Nat) : Prop where
  kept : Keeps Dev.butRegs [rNETn_GATE_CFG n, rNETn_GATE_STS n, rNET_REFUSE_CNT] d e
  en : e.on (fNETn_GATE_CFG_EN n) = false
  err : e.on (fNETn_GATE_STS_CFG_ERR n) = true
  code : e.get (fNETn_GATE_STS_ERR_CODE n) = code % 2 ^ 4
  count : (e.reg rNET_REFUSE_CNT).toNat = min ((d.reg rNET_REFUSE_CNT).toNat + 1) (2 ^ 32 - 1)

/-- CFG_ERR set, and the code shown. -/
def gateCode (n code : Nat) : List (Fld × Nat) := [(fNETn_GATE_STS_CFG_ERR n, 1), (fNETn_GATE_STS_ERR_CODE n, code)]

theorem gateCode_get (d : Dev) (n code : Nat) {f : Fld} {x : Nat} (h : (f, x) ∈ gateCode n code) :
    (d.puts (gateCode n code)).get f = x % 2 ^ f.width := by
  refine Dev.get_puts ?_ ?_ h d
  · simp [gateCode, Fld.ok, fNETn_GATE_STS_CFG_ERR, fNETn_GATE_STS_ERR_CODE]
  · simp [gateCode, Fld.apart, fNETn_GATE_STS_CFG_ERR, fNETn_GATE_STS_ERR_CODE]

theorem refuseCnt_gate (n : Fin 4) : rNET_REFUSE_CNT ≠ rNETn_GATE_CFG n.val ∧ rNET_REFUSE_CNT ≠ rNETn_GATE_STS n.val := by revert n; decide

theorem rNETn_GATE_STS_ne_CFG (n : Nat) : rNETn_GATE_STS n ≠ rNETn_GATE_CFG n := by simp only [rNETn_GATE_STS, rNETn_GATE_CFG]; omega

theorem Dev.gateRefuse_refused (d : Dev) (n : Fin 4) (code : Nat) : GateRefused d (d.gateRefuse n code) n code := by
  obtain ⟨cfg, sts⟩ := refuseCnt_gate n
  obtain ⟨b, hb⟩ : ∃ b, b = d.putB (fNETn_GATE_CFG_EN n) false := ⟨_, rfl⟩
  obtain ⟨c, hc⟩ : ∃ c, c = b.puts (gateCode n code) := ⟨_, rfl⟩
  have refuses : d.gateRefuse n code = c.inc rNET_REFUSE_CNT := by rw [hc, hb]; rfl
  have off : Keeps Dev.butRegs [rNETn_GATE_CFG n] d b := by rw [hb]; exact d.putB_keeps (f := fNETn_GATE_CFG_EN n) List.mem_cons_self false
  have shown : Keeps Dev.butRegs [rNETn_GATE_STS n] b c := by
    rw [hc]
    exact b.puts_keeps (by simp [gateCode, fNETn_GATE_STS_CFG_ERR, fNETn_GATE_STS_ERR_CODE, rNETn_GATE_STS])
  have get : ∀ {f : Fld} {x : Nat}, (f, x) ∈ gateCode n code → f.addr = rNETn_GATE_STS n → (c.inc rNET_REFUSE_CNT).get f = x % 2 ^ f.width := by
    intro f x hf ha
    rw [Dev.get_inc_ne _ _ _ (by rw [ha]; exact sts), hc, gateCode_get b n code hf]
  rw [refuses]
  refine ⟨(off.mono (by simp)).trans ((shown.mono (by simp)).trans ((c.inc_keeps _).mono (by simp))), ?_, ?_, ?_, ?_⟩
  · rw [Dev.on, Dev.get_inc_ne _ _ _ cfg, ← Dev.on, shown.regs.on (fun hm => rNETn_GATE_STS_ne_CFG n (List.mem_singleton.mp hm).symm), hb]
    exact Dev.on_putB_same _ (fNETn_GATE_CFG_EN_ok n) rfl false
  · exact congrArg (· != 0) (get (f := fNETn_GATE_STS_CFG_ERR n) (x := 1) (by simp [gateCode]) rfl)
  · exact get (by simp [gateCode]) rfl
  · rw [Dev.reg_inc_same, shown.regs _ (by simpa using sts), off.regs _ (by simpa using cfg)]

theorem Dev.gateCheck_le (d : Dev) (n : Nat) : d.gateCheck n ≤ 3 := by
  unfold Dev.gateCheck
  split
  · decide
  · split
    · decide
    · split <;> decide

/-- A list that fails a check of R305. -/
theorem gateEnable_refused_completes (s : State) (n : Fin 4) (p : Port) (v : Word) (calm : s.dev.calm = true)
    (takes : s.dev.takes p (rNETn_GATE_CFG n.val)) (off : s.dev.on (fNETn_GATE_CFG_EN n.val) = false)
    (bad : (s.dev.stored (rNETn_GATE_CFG n.val) ((fNETn_GATE_CFG_EN n.val).put v 1)).gateCheck n.val ≠ 0) :
    Completes (.gateEnable n p v) s fun d =>
      d.on (fNETn_GATE_CFG_EN n.val) = false ∧
      d.on (fNETn_GATE_STS_CFG_ERR n.val) = true ∧
      d.get (fNETn_GATE_STS_ERR_CODE n.val) = (s.dev.stored (rNETn_GATE_CFG n.val) ((fNETn_GATE_CFG_EN n.val).put v 1)).gateCheck n.val ∧
      (d.reg rNET_REFUSE_CNT).toNat = min ((s.dev.reg rNET_REFUSE_CNT).toNat + 1) (2 ^ 32 - 1) ∧
      (d.port p).code = 0 ∧
      s.dev.sameRegs d [rNETn_GATE_CFG n.val, rNETn_GATE_STS n.val, rNET_REFUSE_CNT] ∧
      d = { s.dev with regs := d.regs, ports := d.ports, irqA := d.irqA, irqB := d.irqB } := by
  obtain ⟨c, written, hx⟩ := exec_gateEnable (v := v) takes off
  rw [← written.check] at bad ⊢
  obtain ⟨e, he⟩ : ∃ e, e = c.gateRefuse n (c.gateCheck n) := ⟨_, rfl⟩
  have refuses : c.gateEnable n = e := by rw [he]; simp only [Dev.gateEnable, if_pos bad]
  obtain ⟨kept, en, err, code, count⟩ : GateRefused c e n (c.gateCheck n) := he ▸ c.gateRefuse_refused n _
  rw [refuses] at hx
  have keeps : Keeps Dev.butRegsPorts [rNETn_GATE_CFG n, rNETn_GATE_STS n, rNET_REFUSE_CNT] s.dev e :=
    (written.kept.mono (by simp)).trans (kept.part fun x : Dev => { x with ports := [] })
  refine completes_of_sameRegs hx calm keeps.regs (net_apart (n := n) (by omega) (by simp [netRegs]))
    (congrArg (·.calmPart) keeps.rest :) ⟨en, err, ?_, ?_, ?_, keeps.regs.showIrq, Dev.showIrq_of_butRegsPorts keeps.rest⟩
  · rw [Dev.showIrq_get, code]
    exact Nat.mod_eq_of_lt (lt_of_le_of_lt (c.gateCheck_le n) (by decide))
  · rw [Dev.showIrq_reg, count, written.kept.regs _ (by simpa using (refuseCnt_gate n).1)]
  · rw [Dev.showIrq_port, Dev.port_congr (congrArg (·.ports) kept.rest : e.ports = c.ports), written.code]

/-! ## A list enabled (R305, R306) -/

theorem Dev.armTcmp_butGate (d : Dev) (t mode : Nat) (target : Word64) (per : Nat) :
    Keeps Dev.butGate [rTIME_TCMPnn_STS t] d (d.armTcmp t mode target per) := ⟨rfl, Dev.armTcmp_sameRegs List.mem_cons_self mode target per⟩

/-- The comparator claimed for the port and armed at the list's base and cycle, and no error shown. -/
def Dev.gateClaimed (d : Dev) (n t : Nat) : Dev :=
  (((d.put (fTIME_TCMPnn_OWNER_OWNER t) (0x40 + n)).armTcmp t 2 ((d.put (fTIME_TCMPnn_OWNER_OWNER t) (0x40 + n)).gateBase n)
    ((d.put (fTIME_TCMPnn_OWNER_OWNER t) (0x40 + n)).gateCycle n * 65536)).putB (fNETn_GATE_STS_CFG_ERR n) false).put
    (fNETn_GATE_STS_ERR_CODE n) 0

theorem fNETn_GATE_STS_ok (n : Nat) : (fNETn_GATE_STS_CFG_ERR n).ok ∧ (fNETn_GATE_STS_ERR_CODE n).ok ∧
    (fNETn_GATE_STS_ERR_CODE n).apart (fNETn_GATE_STS_CFG_ERR n) :=
  ⟨(by decide : 27 + 1 ≤ 32), (by decide : 28 + 4 ≤ 32), Or.inr (by decide : 27 + 1 ≤ 28)⟩

/-- What a list enabled leaves before it is placed. -/
structure GateClaimed (d e : Dev) (n t : Nat) : Prop where
  kept : Keeps Dev.butGate [rTIME_TCMPnn_OWNER t, rTIME_TCMPnn_STS t, rNETn_GATE_STS n] d e
  ports : e.ports = d.ports
  owner : e.get (fTIME_TCMPnn_OWNER_OWNER t) = 0x40 + n
  armed : e.on (fTIME_TCMPnn_STS_ARMED t) = true
  err : e.on (fNETn_GATE_STS_CFG_ERR n) = false

theorem Dev.gateClaimed_claimed (d : Dev) (n : Fin 4) (ht : t < 64) : GateClaimed d (d.gateClaimed n t) n t := by
  obtain ⟨-, above, -, -⟩ := rNETn_GATE_above n
  have apart := claimRegs_below ht above
  simp only [claimRegs, List.mem_cons, List.not_mem_nil, or_false, not_or] at apart
  obtain ⟨ownerNe, stsNe⟩ := apart
  obtain ⟨b, hb⟩ : ∃ b, b = d.put (fTIME_TCMPnn_OWNER_OWNER t) (0x40 + n) := ⟨_, rfl⟩
  obtain ⟨c, hc⟩ : ∃ c, c = b.armTcmp t 2 (b.gateBase n) (b.gateCycle n * 65536) := ⟨_, rfl⟩
  have claims : d.gateClaimed n t = (c.putB (fNETn_GATE_STS_CFG_ERR n) false).put (fNETn_GATE_STS_ERR_CODE n) 0 := by rw [hc, hb]; rfl
  have held : Keeps Dev.butGate [rTIME_TCMPnn_OWNER t] d b := by
    rw [hb]; exact ⟨rfl, (Dev.sameRegs.refl d _).put (f := fTIME_TCMPnn_OWNER_OWNER t) List.mem_cons_self _⟩
  have armed : Keeps Dev.butGate [rTIME_TCMPnn_STS t] b c := by rw [hc]; exact b.armTcmp_butGate t 2 _ _
  have shown : Keeps Dev.butRegs [rNETn_GATE_STS n] c ((c.putB (fNETn_GATE_STS_CFG_ERR n) false).put (fNETn_GATE_STS_ERR_CODE n) 0) :=
    (c.putB_keeps (f := fNETn_GATE_STS_CFG_ERR n) List.mem_cons_self false).trans (Dev.put_keeps _ (f := fNETn_GATE_STS_ERR_CODE n) List.mem_cons_self 0)
  rw [claims]
  refine ⟨(held.mono (by simp)).trans ((armed.mono (by simp)).trans ((shown.mono (by simp)).butNet.butGate)), ?_, ?_, ?_, ?_⟩
  · rw [hc, hb]; rfl
  · rw [shown.regs.get (fun hm => ownerNe (List.mem_singleton.mp hm).symm), armed.regs.get (fun hm => rTIME_TCMPnn_OWNER_ne_STS t (List.mem_singleton.mp hm)), hb,
      Dev.get_put_same _ _ _ (fTIME_TCMPnn_OWNER_ok t)]
    exact Nat.mod_eq_of_lt (show 0x40 + n.val < 2 ^ 8 by omega)
  · rw [shown.regs.on (fun hm => stsNe (List.mem_singleton.mp hm).symm), hc]
    exact Dev.armTcmp_armed ..
  · obtain ⟨okErr, okCode, above⟩ := fNETn_GATE_STS_ok n
    rw [Dev.on_put_apart _ _ okCode above]
    exact Dev.on_putB_same _ okErr rfl false

/-- A list that passes the checks, with its comparator free, is claimed for and placed. -/
theorem Dev.gateEnable_good (good : d.gateCheck n = 0) (tcmp : d.get (fNETn_GATE_CFG_TCMP n) = t)
    (free : d.get (fTIME_TCMPnn_OWNER_OWNER t) = 0) (prio : d.tcmpPrio t = 0) (sound : d.sound = true) :
    d.gateEnable n = (d.gateClaimed n t).gatePlace n Dev.gateApply := by
  have sound' : (d.gateClaimed n t).sound = true := sound
  unfold Dev.gateEnable
  simp only [good, tcmp, Dev.claimTcmp_free free prio, ne_eq, not_true_eq_false, if_false]
  rw [← Dev.gateClaimed]
  simp only [Dev.gateReads_sound sound', if_true]

end Sys2Proof.Machine
end

section
/-! The gate list enabled and disabled (R305, R306): the commands. -/

namespace Sys2Proof.Machine

open Sys2Proof

variable {d e : Dev} {n t : Nat}

/-- The comparator that NETn_GATE_CFG names is one of 64. -/
theorem gateCfg_tcmp_lt (n : Nat) (v : Word) : (fNETn_GATE_CFG_TCMP n).get v < 64 := Nat.mod_lt _ (Nat.two_pow_pos 6)

theorem Dev.gateBase_congr {L : List Nat} (h : d.sameRegs e L) (hi : rNETn_GATE_BASE_H n ∉ L) (lo : rNETn_GATE_BASE_L n ∉ L) :
    e.gateBase n = d.gateBase n := by
  rw [Dev.gateBase, Dev.gateBase, Dev.pair, Dev.pair, h _ hi, h _ lo]

theorem gateBase_apart (n : Nat) (ht : t < 64) : (rNETn_GATE_BASE_H n ∉ [rNETn_GATE_CFG n] ∧ rNETn_GATE_BASE_L n ∉ [rNETn_GATE_CFG n]) ∧
    rNETn_GATE_BASE_H n ∉ [rTIME_TCMPnn_OWNER t, rTIME_TCMPnn_STS t, rNETn_GATE_STS n] ∧
    rNETn_GATE_BASE_L n ∉ [rTIME_TCMPnn_OWNER t, rTIME_TCMPnn_STS t, rNETn_GATE_STS n] := by
  simp only [rNETn_GATE_BASE_H, rNETn_GATE_BASE_L, rNETn_GATE_CFG, rNETn_GATE_STS, rTIME_TCMPnn_OWNER, rTIME_TCMPnn_STS, List.mem_cons,
    List.not_mem_nil, or_false]
  omega

/-- NETn_GATE_CFG is none of the registers that a gate state changes. -/
theorem gateCfg_apart (n : Nat) : rNETn_GATE_CFG n ∉ rNETn_GATE_STS n :: holdRegs n := by
  simp only [holdRegs, rNETn_GATE_CFG, rNETn_GATE_STS, rNETn_MM_STS, rNETn_MM_TX_FRAG_CNT, List.mem_cons, List.not_mem_nil, or_false]
  omega

theorem gateRegs_above (n : Nat) : ∀ a ∈ rNETn_GATE_STS n :: holdRegs n, 0xE0000 ≤ a := by
  obtain ⟨-, sts, mm, frag⟩ := rNETn_GATE_above n
  simp [holdRegs, sts, mm, frag]

/-- What a list enabled leaves, where `c` is what its write left. -/
structure GateEnabled (c e : Dev) (n t : Nat) : Prop where
  kept : Keeps Dev.butGate [rNETn_GATE_STS n, rNETn_MM_STS n, rNETn_MM_TX_FRAG_CNT n, rTIME_TCMPnn_OWNER t, rTIME_TCMPnn_STS t] c e
  ports : e.ports = c.ports
  en : e.on (fNETn_GATE_CFG_EN n) = c.on (fNETn_GATE_CFG_EN n)
  err : e.on (fNETn_GATE_STS_CFG_ERR n) = false
  owner : e.get (fTIME_TCMPnn_OWNER_OWNER t) = 0x40 + n
  armed : e.on (fTIME_TCMPnn_STS_ARMED t) = true
  running : e.on (fNETn_GATE_STS_RUNNING n) = decide (0 ≤ sdiff64 c.ft64 (c.gateBase n))

/-- A list that passes the checks, with its comparator free, is enabled (R305, R306). -/
theorem Dev.gateEnable_enabled (d : Dev) (n : Fin 4) (good : d.gateCheck n = 0) (tcmp : d.get (fNETn_GATE_CFG_TCMP n) = t) (ht : t < 64)
    (free : d.get (fTIME_TCMPnn_OWNER_OWNER t) = 0) (prio : d.tcmpPrio t = 0) (sound : d.sound = true) :
    GateEnabled d (d.gateEnable n) n t := by
  obtain ⟨b, hb⟩ : ∃ b, b = d.gateClaimed n t := ⟨_, rfl⟩
  obtain ⟨kept, ports, owner, armed, err⟩ : GateClaimed d b n t := hb ▸ d.gateClaimed_claimed n ht
  have bSound : b.sound = true := (congrArg Dev.sound kept.rest : b.butGate.sound = d.butGate.sound).trans sound
  obtain ⟨gates, entry, placed⟩ := Dev.gatePlace_butNet bSound n
  obtain ⟨r, hr⟩ : ∃ r, r = decide (0 ≤ sdiff64 b.ft64 (b.gateBase n)) := ⟨_, rfl⟩
  rw [Dev.gateEnable_good good tcmp free prio sound, ← hb]
  rw [← hr] at placed
  obtain ⟨e, he⟩ : ∃ e, e = b.gatePlace n Dev.gateApply := ⟨_, rfl⟩
  rw [← he] at placed ⊢
  have left : Keeps Dev.butNet (rNETn_GATE_STS n :: holdRegs n) b e :=
    ((b.gateSts_butNet n _ _ _).mono (by simp)).trans (placed.mono (by simp))
  have claim := claimRegs_net ht (gateRegs_above n)
  refine ⟨(kept.mono (by simp)).trans ((left.mono (by simp [holdRegs])).butGate), ?_, ?_, ?_, ?_, ?_, ?_⟩
  · exact (congrArg (·.ports) left.rest : e.ports = b.ports).trans ports
  · rw [left.regs.on (gateCfg_apart n), kept.regs.on]
    have below := claimRegs_below ht (rNETn_GATE_above n).1
    simp only [claimRegs, List.mem_cons, List.not_mem_nil, or_false, not_or] at below
    simp only [List.mem_cons, List.not_mem_nil, or_false, not_or]
    exact ⟨below.1, below.2, (rNETn_GATE_STS_ne_CFG n).symm⟩
  · rw [placed.regs.on (holdRegs_gateSts n), Dev.on, Dev.gateSts_above _ _ _ _ _ (by decide : 27 ≤ 27)]
    exact err
  · rw [left.regs.get (claim _ (by simp [claimRegs, fTIME_TCMPnn_OWNER_OWNER, rTIME_TCMPnn_OWNER])), owner]
  · rw [left.regs.on (claim _ (by simp [claimRegs, fTIME_TCMPnn_STS_ARMED, rTIME_TCMPnn_STS])), armed]
  · have now : r = decide (0 ≤ sdiff64 d.ft64 (d.gateBase n)) := by
      obtain ⟨-, hi, lo⟩ := gateBase_apart n ht
      have ft : b.ft64 = d.ft64 := (congrArg Dev.ft64 kept.rest : b.butGate.ft64 = d.butGate.ft64)
      rw [hr, ft, Dev.gateBase_congr kept.regs hi lo]
    rw [← now, placed.regs.on (holdRegs_gateSts n), Dev.on, Dev.gateSts_get _ _ _ _ _ (x := r.toNat) (by simp)]
    cases r <;> rfl

/-- The device but for its registers, its ports, its network ports and the hidden state of its comparators. -/
def Dev.butGatePorts (d : Dev) : Dev := { d.butGate with ports := [] }

/-- The first clause of O25: GATE_ENABLE of a list that passes, its comparator free. -/
theorem gateEnable_completes (s : State) (n : Fin 4) (p : Port) (v : Word) (t : Nat) (calm : s.dev.calm = true)
    (takes : s.dev.takes p (rNETn_GATE_CFG n.val)) (off : s.dev.on (fNETn_GATE_CFG_EN n.val) = false) (tcmp : t = (fNETn_GATE_CFG_TCMP n.val).get v)
    (good : (s.dev.stored (rNETn_GATE_CFG n.val) ((fNETn_GATE_CFG_EN n.val).put v 1)).gateCheck n.val = 0)
    (free : s.dev.get (fTIME_TCMPnn_OWNER_OWNER t) = 0) (prio : s.dev.tcmpPrio t = 0) (sound : s.dev.sound = true) :
    Completes (.gateEnable n p v) s fun d =>
      d.on (fNETn_GATE_CFG_EN n.val) = true ∧
      d.on (fNETn_GATE_STS_CFG_ERR n.val) = false ∧
      d.get (fTIME_TCMPnn_OWNER_OWNER t) = 0x40 + n.val ∧
      d.on (fTIME_TCMPnn_STS_ARMED t) = true ∧
      d.on (fNETn_GATE_STS_RUNNING n.val) = decide (0 ≤ sdiff64 s.dev.ft64 (s.dev.gateBase n.val)) ∧
      (d.port p).code = 0 ∧
      s.dev.sameRegs d [rNETn_GATE_CFG n.val, rNETn_GATE_STS n.val, rNETn_MM_STS n.val, rNETn_MM_TX_FRAG_CNT n.val, rTIME_TCMPnn_OWNER t, rTIME_TCMPnn_STS t] ∧
      d = { s.dev with regs := d.regs, ports := d.ports, net := d.net, time := d.time, irqA := d.irqA, irqB := d.irqB } := by
  have ht : t < 64 := tcmp ▸ gateCfg_tcmp_lt n v
  obtain ⟨c, written, hx⟩ := exec_gateEnable (v := v) takes off
  have owner : rTIME_TCMPnn_OWNER t ∉ [rNETn_GATE_CFG n.val] :=
    claimRegs_net ht (by simpa using (rNETn_GATE_above n).1) _ (by simp [claimRegs])
  have cFree : c.get (fTIME_TCMPnn_OWNER_OWNER t) = 0 := (written.kept.regs.get owner).trans free
  have cPrio : c.tcmpPrio t = 0 := by
    unfold Dev.tcmpPrio at prio ⊢
    rw [written.kept.regs.get (f := fTIME_TCMPnn_OWNER_PRIO t) owner]
    exact prio
  have cSound : c.sound = true := (congrArg Dev.sound written.kept.rest : c.butRegsPorts.sound = s.dev.butRegsPorts.sound).trans sound
  obtain ⟨kept, ports, en, err, holds, armed, running⟩ :=
    c.gateEnable_enabled n (written.check.trans good) (written.tcmp.trans tcmp.symm) ht cFree cPrio cSound
  obtain ⟨e, he⟩ : ∃ e, e = c.gateEnable n := ⟨_, rfl⟩
  rw [← he] at hx kept ports en err holds armed running
  have keeps : Keeps Dev.butGatePorts [rNETn_GATE_CFG n, rNETn_GATE_STS n, rNETn_MM_STS n, rNETn_MM_TX_FRAG_CNT n, rTIME_TCMPnn_OWNER t,
      rTIME_TCMPnn_STS t] s.dev e :=
    ((written.kept.mono (by simp)).part fun x : Dev => x.butGate).trans ((kept.mono (by simp)).part fun x : Dev => { x with ports := [] })
  refine completes_of_sameRegs hx calm keeps.regs (claim_apart n.isLt ht (by simp [netRegs, claimRegs])) (congrArg (·.calmPart) keeps.rest :)
    ⟨en.trans written.en, err, holds, armed, ?_, ?_, keeps.regs.showIrq, ?_⟩
  · obtain ⟨⟨hi, lo⟩, -⟩ := gateBase_apart n ht
    have ft : c.ft64 = s.dev.ft64 := (congrArg Dev.ft64 written.kept.rest : c.butRegsPorts.ft64 = s.dev.butRegsPorts.ft64)
    rw [Dev.showIrq_on, running, Dev.gateBase_congr written.kept.regs hi lo, ft]
  · rw [Dev.showIrq_port, Dev.port_congr ports, written.code]
  · exact congrArg (fun x : Dev => { x with regs := e.regs, ports := e.ports, net := e.net, time := e.time, irqA := e.irqPinA, irqB := e.irqPinB }) keeps.rest

/-! ## A list disabled (R306) -/

/-- What a list that stops leaves: every gate open, and its comparator released. -/
structure GateStopped (d e : Dev) (n t : Nat) : Prop where
  kept : Keeps Dev.butGate [rNETn_GATE_STS n, rNETn_MM_STS n, rTIME_TCMPnn_OWNER t, rTIME_TCMPnn_STS t] d e
  ports : e.ports = d.ports
  gates : e.get (fNETn_GATE_STS_GATES n) = 0xFF
  running : e.on (fNETn_GATE_STS_RUNNING n) = false
  owner : e.get (fTIME_TCMPnn_OWNER_OWNER t) = 0

theorem Dev.gateDisable_stopped (d : Dev) (n : Nat) (tcmp : d.get (fNETn_GATE_CFG_TCMP n) = t) (ht : t < 64) : GateStopped d (d.gateDisable n) n t := by
  obtain ⟨c, hc⟩ : ∃ c, c = d.gateIdle n := ⟨_, rfl⟩
  have idle : Keeps Dev.butNet [rNETn_MM_STS n] (d.gateSts n 0xFF 0 0) c := hc ▸ d.gateIdle_butNet n
  have released : c.sameRegs (c.releaseTcmp t) (claimRegs t) := Dev.releaseTcmp_sameRegs (by simp [claimRegs]) (by simp [claimRegs])
  have stops : d.gateDisable n = c.releaseTcmp t := by rw [hc, ← tcmp]; rfl
  have apart : rNETn_GATE_STS n ∉ [rNETn_MM_STS n] := fun hm => holdRegs_gateSts n (by simp [holdRegs, List.mem_singleton.mp hm])
  have sts : ∀ f : Fld, f.addr = rNETn_GATE_STS n → (c.releaseTcmp t).get f = (d.gateSts n 0xFF 0 0).get f := fun f ha => by
    rw [released.get (by rw [ha]; exact claimRegs_below ht (rNETn_GATE_above n).2.1), idle.regs.get (by rw [ha]; exact apart)]
  rw [stops]
  refine ⟨((((d.gateSts_butNet n _ _ _).mono (by simp)).trans (idle.mono (by simp))).butGate).trans ⟨rfl, released.mono (by simp [claimRegs])⟩,
    ?_, ?_, ?_, Dev.releaseTcmp_owner ..⟩
  · rw [hc]; rfl
  · rw [sts (fNETn_GATE_STS_GATES n) rfl, Dev.gateSts_get _ _ _ _ _ (x := 0xFF) (by simp)]
    rfl
  · rw [Dev.on, sts (fNETn_GATE_STS_RUNNING n) rfl, Dev.gateSts_get _ _ _ _ _ (x := 0) (by simp)]
    rfl

/-- The device but for what a gate list disabled by a port changes. -/
def Dev.butGateIgn (d : Dev) : Dev := { d.butGate with ports := [], ign := [] }

/-- NETn_GATE_CFG stands while the list stops. -/
theorem gateCfg_stopped (n : Nat) (ht : t < 64) : rNETn_GATE_CFG n ∉ [rNETn_GATE_STS n, rNETn_MM_STS n, rTIME_TCMPnn_OWNER t, rTIME_TCMPnn_STS t] := by
  simp only [rNETn_GATE_CFG, rNETn_GATE_STS, rNETn_MM_STS, rTIME_TCMPnn_OWNER, rTIME_TCMPnn_STS, List.mem_cons, List.not_mem_nil, or_false]
  omega

/-- The third clause of O25: GATE_DISABLE. -/
theorem gateDisable_completes (s : State) (n : Fin 4) (p : Port) (v : Word) (t : Nat) (calm : s.dev.calm = true)
    (takes : s.dev.takes p (rNETn_GATE_CFG n.val)) (on : s.dev.on (fNETn_GATE_CFG_EN n.val) = true) (tcmp : t = s.dev.get (fNETn_GATE_CFG_TCMP n.val)) :
    Completes (.gateDisable n p v) s fun d =>
      d.on (fNETn_GATE_CFG_EN n.val) = false ∧
      d.get (fNETn_GATE_STS_GATES n.val) = 0xFF ∧
      d.on (fNETn_GATE_STS_RUNNING n.val) = false ∧
      d.get (fTIME_TCMPnn_OWNER_OWNER t) = 0 ∧
      (d.port p).code = 0 ∧
      s.dev.sameRegs d [rNETn_GATE_CFG n.val, rNETn_GATE_STS n.val, rNETn_MM_STS n.val, rTIME_TCMPnn_OWNER t, rTIME_TCMPnn_STS t, rGLB_IGN_CNT, rGLB_IGN_OVF_CNT] ∧
      d = { s.dev with regs := d.regs, ports := d.ports, net := d.net, time := d.time, ign := d.ign, irqA := d.irqA, irqB := d.irqB } := by
  have ht : t < 64 := tcmp ▸ gateCfg_tcmp_lt n _
  obtain ⟨c, written, hx⟩ := exec_gateDisable (v := v) takes on
  obtain ⟨kept, ports, gates, running, owner⟩ := c.gateDisable_stopped n (written.tcmp.trans tcmp.symm) ht
  obtain ⟨e, he⟩ : ∃ e, e = c.gateDisable n := ⟨_, rfl⟩
  rw [← he] at hx kept ports gates running owner
  have keeps : Keeps Dev.butGateIgn [rNETn_GATE_CFG n, rNETn_GATE_STS n, rNETn_MM_STS n, rTIME_TCMPnn_OWNER t, rTIME_TCMPnn_STS t,
      rGLB_IGN_CNT, rGLB_IGN_OVF_CNT] s.dev e :=
    ((written.kept.mono (by simp)).part fun x : Dev => x.butGate).trans ((kept.mono (by simp)).part fun x : Dev => { x with ports := [], ign := [] })
  refine completes_of_sameRegs hx calm keeps.regs (claim_apart n.isLt ht (by simp [netRegs, claimRegs])) (congrArg (·.calmPart) keeps.rest :)
    ⟨?_, gates, running, owner, ?_, keeps.regs.showIrq, ?_⟩
  · rw [Dev.showIrq_on, kept.regs.on (gateCfg_stopped n ht), written.en]
  · rw [Dev.showIrq_port, Dev.port_congr ports, written.code]
  · exact congrArg (fun x : Dev => { x with regs := e.regs, ports := e.ports, net := e.net, time := e.time, ign := e.ign, irqA := e.irqPinA,
                                            irqB := e.irqPinB }) keeps.rest

end Sys2Proof.Machine
end

section
/-! An entry of a gate list that holds an uncorrectable error (R521, Table 22.1): the error is found, and the list stops. -/

namespace Sys2Proof.Machine

open Sys2Proof

variable {d e : Dev} {n array word : Nat}

/-! ## One damaged word read (R520, R521) -/

theorem mem_of_kget {m : KMap Bool} {i : Nat} (h : kget false m i = true) : (i, true) ∈ m := by
  induction m with
  | nil => cases h
  | cons x t ih =>
    obtain ⟨k, b⟩ := x
    by_cases same : i = k
    · rw [kget, if_pos same] at h
      exact same ▸ h ▸ List.mem_cons_self
    · rw [kget, if_neg same] at h
      exact List.mem_cons_of_mem _ (ih h)

/-- A list that holds one value, however often, holds it once without its repeats. -/
theorem eraseDups_eq_singleton {l : List Nat} {x : Nat} (all : ∀ y ∈ l, y = x) (ne : l ≠ []) : l.eraseDups = [x] := by
  obtain ⟨y, t, rfl⟩ := List.exists_cons_of_ne_nil ne
  obtain rfl := all y List.mem_cons_self
  have none : t.filter (fun z => !z == y) = [] := List.filter_eq_nil_iff.mpr fun z hz => by simp [all z (List.mem_cons_of_mem y hz)]
  rw [List.eraseDups_cons, none, List.eraseDups_nil]

/-- A poisoned word read alone is the one error found. -/
theorem Dev.eccHits_one (hurt : d.poisoned array word = true) : d.eccHits array word 1 = [word] := by
  refine eraseDups_eq_singleton (fun y hy => ?_) (List.ne_nil_of_mem (a := word) ?_)
  · obtain ⟨x, hx, rfl⟩ := List.mem_map.mp hy
    have := (List.mem_filter.mp hx).2
    simp only [Bool.and_eq_true, decide_eq_true_eq] at this
    omega
  · refine List.mem_map.mpr ⟨(8388608 * array + word, true), List.mem_filter.mpr ⟨?_, by simp⟩, by simp⟩
    simp only [Dev.poisoned, Bool.or_eq_true] at hurt
    obtain (hurt | hurt) | hurt := hurt <;> simp [mem_of_kget hurt]

theorem Dev.eccReads_one (hurt : d.poisoned array word = true) : d.eccReads array word 1 = d.eccSee array word := by
  rw [Dev.eccReads, Dev.eccHits_one hurt]; rfl

/-- The device but for what an error found in an array changes. -/
def Dev.butFound (d : Dev) : Dev := { d.butEvents with free := 0 }

/-- The registers that it may change, its event going to queue `q`. -/
def errorRegs (q : Nat) : List Nat := rINT_ECC_UE_CNT :: rINT_ECC_LOG :: eventRegs q

/-- They lie above those of the comparators and of the network ports, and above all that `Dev.calm` reads. -/
theorem errorRegs_above (q : Nat) : ∀ a ∈ errorRegs q, 0x140000 ≤ a := by
  simp [errorRegs, eventRegs, rINT_ECC_UE_CNT, rINT_ECC_LOG, rHQnn_LOST_CNT, rHQnn_TORN_CNT, rHQnn_DISC_CNT, rHQnn_REJECT_CNT,
    rHQnn_WM_CROSS_CNT, fINT_INJ_CMD_ARMED]
  omega

theorem ueCnt_eventRegs {q : Nat} (hq : q < 32) : rINT_ECC_UE_CNT ∉ eventRegs q := by
  simp [eventRegs, rINT_ECC_UE_CNT, rHQnn_LOST_CNT, rHQnn_TORN_CNT, rHQnn_DISC_CNT, rHQnn_REJECT_CNT, rHQnn_WM_CROSS_CNT, fINT_INJ_CMD_ARMED]
  omega

theorem Dev.eccLog_keeps (d : Dev) (ue : Bool) (array word syn : Nat) : Keeps Dev.butRegs [rINT_ECC_LOG] d (d.eccLog ue array word syn) := by
  unfold Dev.eccLog
  split
  · exact Keeps.refl ..
  · exact d.puts_keeps (by simp [fINT_ECC_LOG_UE, fINT_ECC_LOG_ARRAY, fINT_ECC_LOG_SUBBANK, fINT_ECC_LOG_ROW, fINT_ECC_LOG_SYNDROME,
      fINT_ECC_LOG_VALID, rINT_ECC_LOG])

/-- What an uncorrectable error found leaves. -/
structure ErrorFound (d e : Dev) (q : Nat) : Prop where
  kept : Keeps Dev.butFound (errorRegs q) d e
  count : (e.reg rINT_ECC_UE_CNT).toNat = min ((d.reg rINT_ECC_UE_CNT).toNat + 1) (2 ^ 32 - 1)

/-- An uncorrectable error is counted, captured and told. -/
theorem Dev.ueCount_found (d : Dev) (array word syn : Nat) : ∃ q, ErrorFound d (d.ueCount array word syn) q := by
  obtain ⟨c, hc⟩ : ∃ c, c = (d.inc rINT_ECC_UE_CNT).eccLog true array word syn := ⟨_, rfl⟩
  have captured : Keeps Dev.butRegs [rINT_ECC_LOG] (d.inc rINT_ECC_UE_CNT) c := hc ▸ Dev.eccLog_keeps ..
  have noted : Keeps Dev.butRegs [rINT_ECC_UE_CNT, rINT_ECC_LOG] d c := ((d.inc_keeps _).mono (by simp)).trans (captured.mono (by simp))
  have told := c.raise_keeps 0x1302 array
  have counts : d.ueCount array word syn = c.raise 0x1302 array := by rw [hc]; rfl
  refine ⟨c.get fHQ_ROUTE_EVT_Q, ?_, ?_⟩
  · rw [counts]
    exact ((noted.mono (by simp [errorRegs])).part fun x : Dev => x.butFound).trans
      ((told.mono (by simp [errorRegs])).part fun x : Dev => { x with free := 0 })
  · rw [counts, told.regs _ (ueCnt_eventRegs c.eventQueue_lt), captured.regs _ (by decide), Dev.reg_inc_same]

theorem Dev.ueMark_keeps (d : Dev) (array word : Nat) : (d.ueMark array word).butFound = d.butFound ∧ (d.ueMark array word).regs = d.regs := by
  unfold Dev.ueMark
  dsimp only
  split <;> exact ⟨rfl, rfl⟩

/-- A poisoned word read is found so. -/
theorem Dev.eccSee_found (hurt : d.poisoned array word = true) : ∃ q, ErrorFound d (d.eccSee array word) q := by
  obtain ⟨r, hr⟩ : ∃ r, r = d.freeNat := ⟨_, rfl⟩
  obtain ⟨c, hc⟩ : ∃ c, c = r.2.ueCount array word (r.1 % 256) := ⟨_, rfl⟩
  obtain ⟨q, kept, count⟩ : ∃ q, ErrorFound r.2 c q := hc ▸ Dev.ueCount_found ..
  obtain ⟨rest, regs⟩ := c.ueMark_keeps array word
  have sees : d.eccSee array word = c.ueMark array word := by
    rw [hc, hr]
    unfold Dev.eccSee
    dsimp only
    rw [if_pos hurt]
  have drawn : Keeps Dev.butFound (errorRegs q) d r.2 := by rw [hr]; exact Keeps.of_regs rfl rfl
  refine ⟨q, ?_, ?_⟩
  · rw [sees]
    exact (drawn.trans kept).trans (Keeps.of_regs rest regs)
  · rw [sees, Dev.reg, regs, ← Dev.reg, count, hr]
    rfl

/-! ## The list stops (R306, Table 22.1) -/

/-- An entry that holds an uncorrectable error stops the list as it is read. -/
theorem Dev.gateApply_damaged {i : Nat} (hurt : d.tblHurt (0x2E8000 + 0x800 * n + 8 * i) = true) :
    d.gateApply n i = ((d.eccSee 3 ((0x2E8000 + 0x800 * n + 8 * i) / 8)).putB (fNETn_GATE_CFG_EN n) false).gateDisable n := by
  have unsound : d.sound = false := by
    by_contra sound
    rw [Bool.not_eq_false] at sound
    rw [Dev.tblHurt, Dev.poisoned_sound sound] at hurt
    cases hurt
  have bad : d.tblBad (0x2E8000 + 0x800 * n + 8 * i) 1 = true := by
    simp [Dev.tblBad, unsound, hurt]
  have reads : d.tblReads (0x2E8000 + 0x800 * n + 8 * i) 1 = d.eccSee 3 ((0x2E8000 + 0x800 * n + 8 * i) / 8) := Dev.eccReads_one hurt
  unfold Dev.gateApply Dev.gateReads
  simp only [bad, reads, if_true, Bool.false_eq_true, if_false]

/-- What `Dev.calm` reads lies below the registers of an error. -/
theorem calmRegs_below : ∀ a ∈ calmRegs, a < 0x140000 := by decide

/-- The fifth clause of O25: the next entry holds an uncorrectable error. -/
theorem gateEntryEnd_damaged_completes (s : State) (n : Fin 4) (k : Nat) (calm : s.dev.calm = true)
    (entry : k = s.dev.get (fNETn_GATE_STS_ENTRY n.val)) (running : s.dev.on (fNETn_GATE_STS_RUNNING n.val) = true)
    (more : k + 1 < s.dev.gateLen n.val) (ends : s.dev.entryOver n.val k = true)
    (hurt : s.dev.tblHurt (0x2E8000 + 0x800 * n.val + 8 * (k + 1)) = true) (works : s.dev.domOn (9 + n.val) = true) :
    Completes (.gateEntryEnd n) s fun d =>
      d.on (fNETn_GATE_CFG_EN n.val) = false ∧
      d.get (fNETn_GATE_STS_GATES n.val) = 0xFF ∧
      d.on (fNETn_GATE_STS_RUNNING n.val) = false ∧
      d.get (fTIME_TCMPnn_OWNER_OWNER (s.dev.get (fNETn_GATE_CFG_TCMP n.val))) = 0 ∧
      (d.reg rINT_ECC_UE_CNT).toNat = min ((s.dev.reg rINT_ECC_UE_CNT).toNat + 1) (2 ^ 32 - 1) := by
  obtain ⟨t, tcmp⟩ : ∃ t, t = s.dev.get (fNETn_GATE_CFG_TCMP n) := ⟨_, rfl⟩
  have ht : t < 64 := tcmp ▸ gateCfg_tcmp_lt n _
  obtain ⟨b, hb⟩ : ∃ b, b = s.dev.eccSee 3 ((0x2E8000 + 0x800 * n.val + 8 * (k + 1)) / 8) := ⟨_, rfl⟩
  obtain ⟨q, found, count⟩ : ∃ q, ErrorFound s.dev b q := hb ▸ Dev.eccSee_found hurt
  obtain ⟨c, hc⟩ : ∃ c, c = b.putB (fNETn_GATE_CFG_EN n) false := ⟨_, rfl⟩
  have off : Keeps Dev.butRegs [rNETn_GATE_CFG n] b c := hc ▸ b.putB_keeps (f := fNETn_GATE_CFG_EN n) List.mem_cons_self false
  have outside : rNETn_GATE_CFG n ∉ errorRegs q := fun hm => by
    have := errorRegs_above q _ hm
    simp only [rNETn_GATE_CFG] at this
    omega
  have names : c.get (fNETn_GATE_CFG_TCMP n) = t := by
    rw [hc, Dev.putB, Dev.get_put_apart _ _ _ _ (fNETn_GATE_CFG_EN_ok n) (Or.inr (by decide : 16 + 6 ≤ 31)), found.regs.get outside, tcmp]
  obtain ⟨e, he⟩ : ∃ e, e = c.gateDisable n := ⟨_, rfl⟩
  obtain ⟨stopped, -, gates, still, owner⟩ : GateStopped c e n t := he ▸ c.gateDisable_stopped n names ht
  have hx : exec (.gateEntryEnd n) s = s.done e := by
    rw [he, hc, hb, ← Dev.gateApply_damaged hurt, ← Dev.gateEntryEnd_applies entry running more ends]
    exact State.doneIn_on works _
  have stops : Keeps Dev.butGate [rNETn_GATE_CFG n, rNETn_GATE_STS n, rNETn_MM_STS n, rTIME_TCMPnn_OWNER t, rTIME_TCMPnn_STS t] b e :=
    ((off.mono (by simp)).butNet.butGate).trans (stopped.mono (by simp))
  have regs : s.dev.sameRegs e (errorRegs q ++ [rNETn_GATE_CFG n, rNETn_GATE_STS n, rNETn_MM_STS n, rTIME_TCMPnn_OWNER t, rTIME_TCMPnn_STS t]) :=
    (found.regs.mono (by simp)).trans (stops.regs.mono (by simp))
  have part : e.calmPart = s.dev.calmPart :=
    (congrArg Dev.calmPart stops.rest : e.butGate.calmPart = b.butGate.calmPart).trans
      (congrArg Dev.calmPart found.rest : b.butFound.calmPart = s.dev.butFound.calmPart)
  refine completes_of_sameRegs hx calm regs (fun a ha hm => ?_) part ⟨?_, gates, still, tcmp ▸ owner, ?_⟩
  · obtain hm | hm := List.mem_append.mp hm
    · exact absurd (errorRegs_above q a hm) (not_le.mpr (calmRegs_below a ha))
    · exact claim_apart n.isLt ht (by simp [netRegs, claimRegs]) a ha hm
  · rw [Dev.showIrq_on, stopped.regs.on (gateCfg_stopped n ht), hc]
    exact Dev.on_putB_same _ (fNETn_GATE_CFG_EN_ok n) rfl false
  · rw [Dev.showIrq_reg, stops.regs _ ?_, count]
    simp only [rINT_ECC_UE_CNT, rNETn_GATE_CFG, rNETn_GATE_STS, rNETn_MM_STS, rTIME_TCMPnn_OWNER, rTIME_TCMPnn_STS, List.mem_cons,
      List.not_mem_nil, or_false]
    omega

/-- Settles O25: a list of gates by its write, its placing and its entries, sound or damaged; verification by each packet and each wait; and
PAUSE by its frame, its expiry and its request. -/
theorem gatesPreemptionAndPause : Obligations.GatesPreemptionAndPause :=
  ⟨gateEnable_completes, gateEnable_refused_completes, gateDisable_completes, gateEntryEnd_completes,
    fun s n k calm entry running more ends hurt _ _ works => gateEntryEnd_damaged_completes s n k calm entry running more ends hurt works,
    verifyFrame_completes, respondFrame_completes,
    fun _ _ calm enabled up pe works => mmReceive_counts_completes calm enabled up pe works rfl,
    fun _ _ calm enabled up pe works => mmReceive_counts_completes calm enabled up pe works rfl,
    verifyTimeout_fails_completes, verifyTimeout_retries_completes,
    fun s h t calm first sink _ works takes core => pauseFrame_completes s h t calm first sink works takes core,
    fun s n q z calm paused _ works => pauseExpiry_completes s n q z calm paused works, pauseTxSend_completes⟩

end Sys2Proof.Machine
end
